-- ==== Sys2Proof/Word.lean ====
section
/-! DEFINITION. The words and bytes of the module's registers and of the memories it writes (R11: bit 0 is the
least significant bit, and everything a link carries is little-endian). -/
namespace Sys2Proof

/-- One 32-bit register word, the unit of every BAR0 access (R731). -/
abbrev Word := BitVec 32

/-- One byte of cell memory, of a host structure or of an engine memory. -/
abbrev Byte := BitVec 8

end Sys2Proof
end

