-- ==== Sys2Proof/Machine/Table.lean ====
section
/-! DEFINITION. Sparse tables in one canonical form: keys strictly rising, and no entry equal to what an unlisted
key reads as. Every replicated piece of state (registers, lanes, descriptors, cells) is held so, and equal
contents are equal data. -/
namespace Sys2Proof.Machine

/-- A table from natural-number keys to values, as data. -/
abbrev Tbl (α : Type) := List (Nat × α)

/-- The value at key `k`; `d k` where the table lists none. -/
def Tbl.get {α : Type} (d : Nat → α) : Tbl α → Nat → α
  | [], k => d k
  | (j, v) :: t, k => if j = k then v else Tbl.get d t k

/-- The table without key `k`. -/
def Tbl.del {α : Type} : Tbl α → Nat → Tbl α
  | [], _ => []
  | (j, v) :: t, k => if j = k then Tbl.del t k else (j, v) :: Tbl.del t k

/-- The table with an entry put before the keys greater than `k`. -/
def Tbl.ins {α : Type} : Tbl α → Nat → α → Tbl α
  | [], k, v => [(k, v)]
  | (j, w) :: t, k, v => if k < j then (k, v) :: (j, w) :: t else (j, w) :: Tbl.ins t k v

/-- The table with key `k` reading as `v`: listed only if `v` differs from what an unlisted key reads as. -/
def Tbl.set {α : Type} [DecidableEq α] (d : Nat → α) (t : Tbl α) (k : Nat) (v : α) : Tbl α :=
  if v = d k then t.del k else (t.del k).ins k v

/-- Every key of the table is at least `n`. -/
def Tbl.above {α : Type} (n : Nat) : Tbl α → Bool
  | [] => true
  | (j, _) :: _ => decide (n ≤ j)

/-- The canonical form: keys strictly rising, no entry at its default. -/
def Tbl.wf {α : Type} [DecidableEq α] (d : Nat → α) : Tbl α → Bool
  | [] => true
  | (j, v) :: t => decide (v ≠ d j) && Tbl.above (j + 1) t && Tbl.wf d t

/-- The keys a table lists, rising. -/
def Tbl.keys {α : Type} (t : Tbl α) : List Nat := t.map (·.1)

/-- A table with `f` applied to every listed value; an entry that comes to read as its default is dropped. -/
def Tbl.mapv {α : Type} [DecidableEq α] (d : Nat → α) (f : α → α) : Tbl α → Tbl α
  | [] => []
  | (j, v) :: t => if f v = d j then Tbl.mapv d f t else (j, f v) :: Tbl.mapv d f t

/-- A table of the keys `p` holds for. -/
def Tbl.keep {α : Type} (p : Nat → Bool) (t : Tbl α) : Tbl α := t.filter fun e => p e.1

end Sys2Proof.Machine
end

