-- ==== Sys2Proof/Machine/Types/Beacon.lean ====
section
/-! DEFINITION. State types of the Beacon time base (R412 to R446). -/
namespace Sys2Proof.Machine

/-- Servo states of Table 11-3. -/
inductive Servo where
  | free | acquire | locked | holdover
  deriving DecidableEq, Repr

/-- An edge of CELL_PPS_IN: its direction, and how many nanoseconds ago it was sampled. -/
structure PinEdge where
  rising : Bool
  age : Nat
  deriving DecidableEq, Repr

/-- An anchor set that has been replaced, and the raw count of the edge that replaced it (R414, R415). -/
structure Anchor where
  stop : Nat
  aRaw : Nat
  aT : Int
  corr : Int
  deriving DecidableEq, Repr

/-- What software has written on the island edge with raw count `edge` (R422): the value of BCN_RATE, if it was written,
with corr and the integral that it replaced, and the sum of its steps. -/
structure EdgeWrite where
  edge : Nat
  rate : Option Int
  corr : Int
  integ : Int
  steps : Int
  deriving DecidableEq, Repr

/-- The Beacon island: raw counter, anchor and servo. Times are in units of 2^-16 ns, rates in units of 2^-48. -/
structure Beacon where
  running : Bool
  raw : Nat
  aRaw : Nat
  aT : Int
  corr : Int
  integ : Int
  /-- The least value the next reading may return: one more than the last, zero after a restart (R417). -/
  floor : Nat
  state : Servo
  stepAvail : Bool
  refusing : Bool
  clamped : Bool
  saveFailed : Bool
  /-- Resonator time, in ns, of the last accepted CELL_PPS_IN edge, and the expected edges missed since (R451). -/
  ppsLast : Option Nat
  ppsMissed : Nat
  /-- The least second CELL_PPS_OUT has still to mark, and the raw count at which a pulse under way ends (R448). -/
  ppsNext : Nat
  ppsUntil : Option Nat
  /-- Level of CELL_SYNC_OUT (R449). -/
  syncHigh : Bool
  /-- The last eight anchor sets replaced, newest first: an event's stamp is T at its own edge (R416, R418). -/
  past : List Anchor
  /-- The software writes of the last edge that had any (R422). -/
  written : Option EdgeWrite
  /-- Follow_Up information last received on the source port (R438). -/
  tlv : List Byte
  deriving DecidableEq, Repr

/-- A record of a port's transmit stamp queue (R441). -/
structure TsRec where
  stamp : Nat
  tag : Nat
  outcome : Nat
  deriving DecidableEq, Repr

/-- A two-step exchange waiting for its second message: ingress time, correction sum and sequence number. -/
structure PtpWait where
  t2 : Nat
  corrField : Int
  seq : Nat
  logInterval : Int
  deriving DecidableEq, Repr

/-- A port's path delay state and transmit stamp queue (R441 to R446). -/
structure BcnPort where
  /-- D in units of 1/256 ns. -/
  delay : Nat
  dValid : Bool
  hold : Bool
  holdLeft : Nat
  /-- Beacon's raw count at which hold_left falls next, and logMessageInterval of the last Sync (R446). -/
  holdNext : Nat
  syncLog : Int
  /-- The latest path delay measurement, and corr and the integral when the last accepted one was taken. -/
  latest : Nat
  corrAt : Int
  integAt : Int
  sync : Option PtpWait
  tsq : List TsRec
  deriving DecidableEq, Repr

end Sys2Proof.Machine
end

