-- ==== Sys2Proof/Machine/Types/Cycle.lean ====
section
/-! DEFINITION. State types of the cell cycle (R455 to R481): the loaded period, channel and window entries, and
the timelines. -/
namespace Sys2Proof.Machine

/-- Roles of Table 12-6. -/
inductive Role where
  | none | master | follower | backup
  deriving DecidableEq, Repr

/-- Window types of Table 12-2. -/
inductive WinType where
  | reference | exclusive | arbitration | gap | task
  deriving DecidableEq, Repr

/-- A WINDOW entry (Table 12-4), times in ns. -/
structure Window where
  type : WinType
  offset : Nat
  length : Nat
  ref : Nat
  repLog2 : Nat
  baseCycle : Nat
  deriving DecidableEq, Repr

/-- A CHANNEL entry (Table 12-3) with the windows of its timeline; an engine's timeline has role none. -/
structure Schedule where
  role : Role
  level : Nat
  refId : Nat
  followTol : Nat
  backupDelay : Nat
  windows : List Window
  deriving DecidableEq, Repr

/-- The CYCLE body of scope 0xFF (Table 12-1). -/
structure CycleCfg where
  period : Nat
  phase : Nat
  catchup : Nat
  matrixLog2 : Nat
  ntu : Nat
  deriving DecidableEq, Repr

/-- A window placed in the cycle in progress, times in ns of Beacon time. -/
structure Placed where
  index : Nat
  win : Window
  start : Nat
  stop : Nat
  deriving DecidableEq, Repr

/-- A running timeline. -/
structure Timeline where
  active : Bool
  /-- A BACKUP runs as master (R473). -/
  acting : Bool
  synced : Bool
  /-- Cycle number k, actual start and phase error in ns. -/
  k : Nat
  start : Nat
  phase : Int
  current : Option Placed
  /-- Windows of the cycle not yet started, in order. -/
  rest : List Placed
  /-- Where the next cycle may start at the earliest: the end of the last window, or of those a resynchronisation has
  left (R478). -/
  notBefore : Nat
  /-- The current cycle is exempt from lateness after a step (R478). -/
  exempt : Bool
  /-- CYC_LATE has been raised in this nominal cycle. -/
  lateRaised : Bool
  /-- The next reference is the first after a resynchronisation (R470). -/
  disc : Bool
  /-- The reference being sent carries it. -/
  refDisc : Bool
  /-- A reference has been received in this REFERENCE window. -/
  refSeen : Bool
  /-- The last REFERENCE window brought none, and none has arrived since (R472). -/
  refMissed : Bool
  /-- The reference message loaded in the reference slot: its data bytes, and whether an attempt is in progress. -/
  refSlot : Option (List Byte)
  refBusy : Bool
  /-- The reference's last attempt lost arbitration (R474). -/
  refLost : Bool
  /-- Indices of the windows of this cycle that have been counted late (R477). -/
  lateSeen : List Nat
  /-- Indices of EXCLUSIVE windows of this cycle whose trigger moment has passed. -/
  triggered : List Nat
  /-- Those of them that were not made and have been counted (R468, R480). -/
  skipped : List Nat
  /-- The task released in the window in progress has not been reported complete (R479). -/
  taskOpen : Bool
  deriving DecidableEq, Repr

end Sys2Proof.Machine
end

