-- ==== Sys2Proof/Machine/Types/Bus.lean ====
section
/-! DEFINITION. State types of a bus channel: transceiver (Table 4-1), controller (Table 5-1, Table 5-2), transmit
slots (R181) and node table entries (Table 4-12). -/
namespace Sys2Proof.Machine

/-- Transceiver states of Table 4-1. -/
inductive Xcvr where
  | off | wakeListen | sic | fastTx | fastRx
  deriving DecidableEq, Repr

/-- Activity states of Table 5-1. -/
inductive CtlState where
  | quiet | integrating | idle | receiving | transmitting | errorFlag | recovering
  deriving DecidableEq, Repr

/-- Confinement states of Table 5-2. -/
inductive ConfState where
  | active | passive | busOff
  deriving DecidableEq, Repr

/-- A transmit slot holding a frame (R181, R182). -/
structure BusSlot where
  index : Nat
  desc : Nat
  /-- Order of loading on the channel. -/
  order : Nat
  parked : Bool
  clashRun : Nat
  /-- Consecutive failed transmissions, for R178. -/
  fails : Nat
  /-- Launch time of a slot the cell cycle loaded, in 2^-16 ns of Beacon time. -/
  launch : Option Nat
  /-- The EXCLUSIVE window that loaded it (R463). -/
  window : Option Window
  deriving DecidableEq, Repr

/-- A received frame's signature (R136): delay, amplitude and slope, where valid. -/
structure Sig where
  d : Option Int
  a : Option Nat
  s : Option Nat
  deriving DecidableEq, Repr

/-- A transceiver that released the bus (R122): the channel, and the rules 5 and 6 of Table 5-5 met after the error flag. -/
structure DomTimeout where
  chan : Nat
  extra : List Nat
  deriving DecidableEq, Repr

/-- A disabled format or a recessive reserved bit met while receiving (R171): the channel, how long ago the frame's
start-of-frame was, the rules of Table 5-5 met after the error flag, and what the sampler measured. -/
structure FormatError where
  chan : Nat
  age : Nat
  extra : List Nat
  sig : Sig
  deriving DecidableEq, Repr

/-- What the environment reports of an error: Table 5-9's error number (0: an overload frame alone), the rules of
Table 5-5 met after it (2, 3, 5, 6, in order), and what decides the exceptions and the clash rule. -/
structure BusFault where
  kind : Nat
  extra : List Nat
  /-- Exception A: no dominant bit was seen during a passive error flag. -/
  noDominant : Bool
  /-- Exception B: a stuff error during arbitration on a recessive stuff bit seen dominant. -/
  arbStuff : Bool
  /-- The bit lies in the clash window (R206). -/
  clashWindow : Bool
  /-- The transmitter delay was out of range (R134), or its measurement, where the frame came that far (R132). -/
  tdcRange : Bool
  tdcv : Option Nat
  /-- How long ago the frame's start-of-frame was, in ns. -/
  age : Nat
  /-- What the sampler measured of the frame (R136), for a transmitter over the clash window's bits (R207). -/
  sig : Sig
  deriving DecidableEq, Repr

/-- A bus channel. Settings, counters and event bits are registers. -/
structure BusLane where
  ctl : CtlState
  conf : ConfState
  tec : Nat
  recv : Nat
  boSeq : Nat
  /-- Bus-off recovery has started (R192, R193). -/
  recovering : Bool
  ew : Bool
  noPartner : Bool
  held : Bool
  ackRun : Nat
  lec : Nat
  slots : List BusSlot
  /-- READY descriptors waiting for a slot, in order (R246). -/
  ready : List Nat
  /-- BUS[n]_SIGCFG and BUS[n]_LIMITS as they stand for the frame under way (R158, R216), and the values that writes
  have replaced since the last frame, newest first: Beacon's raw counter, lane offset, old word. -/
  sigcfg : Word
  limits : Word
  hist : List (Nat × Nat × Word)
  /-- A lonely field has been written since the last transmission ended (R205). -/
  lonelyNew : Bool
  /-- Raw Beacon counter at the start-of-frame the channel last sent, and whether the last frame was its own. -/
  sofRaw : Nat
  sentLast : Bool
  /-- Next loading order. -/
  order : Nat
  /-- TX_QUEUE descriptors reserved for frames in transit. -/
  reserved : Nat
  /-- Slot chosen for the start-of-frame being sent (R182). -/
  current : Option Nat
  /-- NODE_TABLE_FULL has been raised (R146). -/
  nodeFull : Bool
  seq : Nat
  fdTdcv : Option Nat
  xlTdcv : Option Nat
  wakeCause : Nat
  wakeErr : Nat
  sig : Sig
  clashId : Nat
  clashNode : Nat
  /-- Driver segments in use and spare. -/
  segActive : Nat
  segSpare : Nat
  retired : Bool
  deriving DecidableEq, Repr

/-- A node table entry (Table 4-12). Means, spreads and references are for d, a, s in this order. -/
structure NodeEnt where
  state : Nat
  channel : Nat
  count : Nat
  mean : List Int
  spread : List Nat
  ref : List Int
  drift : List Bool
  lastClash : Nat
  clashCount : Nat
  deriving DecidableEq, Repr

end Sys2Proof.Machine
end

