-- ==== Sys2Proof/Machine/Types/Pool.lean ====
section
/-! DEFINITION. State types of the cell memory, message buffers, credits and gateway: link entries (Table 6-1),
frame records (Table 6-2), descriptors (Table 6-5), FIFOs (Table 6-11), partners (Table 7-12), deliveries and
frames in transit (R283, R343), held frames (R275) and waiting requests (R273). -/
namespace Sys2Proof.Machine

/-- What the SECDED code finds as a record is read whole (R234, R235): words corrected, and the first word with an
uncorrectable error, as cell * 8 + word. -/
structure RecEcc where
  corrected : Nat
  ue : Option Nat
  deriving DecidableEq, Repr

/-- A read that finds nothing. -/
def RecEcc.clean : RecEcc := ⟨0, none⟩

/-- A descriptor COMMIT names, and what the check's read of its shadow record finds (R248). -/
structure Committed where
  ix : Nat
  cells : RecEcc
  deriving DecidableEq, Repr

/-- A held frame whose credit is back (R275): its place among the held ones, and what reading its record finds. -/
structure HeldRead where
  place : Nat
  ecc : RecEcc
  deriving DecidableEq, Repr

/-- Link table entry (Table 6-1), `retired` apart, which is a property of the cell's row. -/
structure Link1 where
  held : Bool
  last : Bool
  hw : Bool
  next : Nat
  deriving DecidableEq, Repr

/-- A frame as it stands before and after it is written as a record: the header of Table 6-2 and its data bytes. -/
structure Frame where
  format : Nat
  flags : Nat
  srcKind : Nat
  srcIndex : Nat
  ident : Nat
  stamp : Nat
  dlc : Nat
  sdt : Nat
  af : Nat
  vcid : Nat
  conf : Nat
  node : Nat
  route : Nat
  seq : Nat
  data : List Byte
  deriving DecidableEq, Repr

/-- What the pool knows of a record, by its first cell: the partner charged, its cells in order and how many
references hold it. -/
structure Rec where
  partner : Nat
  cells : List Nat
  refs : Nat
  /-- Held by a static transmit buffer (R248): never released by a reference. -/
  static : Bool
  /-- The frame in transit that it was written for (R283), if it was written for one. -/
  frame : Option Nat
  deriving DecidableEq, Repr

/-- Descriptor kinds (Table 6-6). -/
inductive DescKind where
  | unused | rxMailbox | rxFifo | txStatic | txQueue
  deriving DecidableEq, Repr

/-- Descriptor states (Table 6-7). -/
inductive DescState where
  | empty | new | seen | ready | loaded | idle
  deriving DecidableEq, Repr

/-- What a transmit descriptor or an egress queue entry carries of its delivery (R343). -/
structure TxJob where
  route : Nat
  /-- Remap word of R345; 0 where there is none. -/
  remap : Nat
  /-- Launch time in raw 2^-16 ns units, if timed, and the EXCLUSIVE window that loads it (R463, R464). -/
  launch : Option Nat
  window : Option Window := none
  deriving DecidableEq, Repr

/-- A message buffer descriptor (Table 6-5). -/
structure Desc where
  kind : DescKind
  state : DescState
  keep : Bool
  locked : Bool
  commitPending : Bool
  damaged : Bool
  outcome : Nat
  overrun : Nat
  current : Option Nat
  shadow : Option Nat
  bindKind : Nat
  bindIndex : Nat
  maxCells : Nat
  /-- Event queue of a receive kind. -/
  queue : Nat
  /-- Slot holding a loaded transmit descriptor. -/
  slot : Option Nat
  job : TxJob
  deriving DecidableEq, Repr

/-- A receive FIFO (Table 6-11, Table 6-12). -/
structure Fifo where
  base : Nat
  keep : Bool
  depth : Nat
  count : Nat
  head : Nat
  deriving DecidableEq, Repr

/-- A partner's quotas and books (Table 7-12). -/
structure Partner where
  allocated : Bool
  emEligible : Bool
  owner : Nat
  weight : Nat
  age : Nat
  g : Nat
  b : Nat
  emMax : Nat
  guar : Nat
  borr : Nat
  em : Nat
  deficit : Int
  /-- A refusal has been raised since the last admission (R275). -/
  refused : Bool
  /-- Frames discarded as SLEEP was entered (R49). -/
  standby : Nat
  deriving DecidableEq, Repr

/-- Module books (R265) beyond what the partner table gives. -/
structure Books where
  /-- Emergency reserve E as the stream sets it, and as retirement has left it. -/
  eSet : Nat
  e : Nat
  /-- Transit reserve R_t. -/
  rt : Nat
  /-- QUOTA_SHORT has been raised (R270). -/
  short : Bool
  /-- Cells under the loader hold of R97. -/
  loaderHold : Nat
  /-- Cells released at an edge of Beacon's island, by its raw counter: hand-over cells until the next one (R287). -/
  hand : List Nat
  handAt : Nat
  /-- Per crossbar port, the partner whose round-robin turn it is, and whether its quantum has been added (R277). -/
  turns : Tbl (Nat × Bool)
  deriving DecidableEq, Repr

/-- One delivery of a frame, with the parameters captured at stage 7 (R343). -/
structure Delivery where
  record : Nat
  route : Nat
  word : Nat
  kind : Nat
  index : Nat
  param : Nat
  /-- Deadline as a Beacon time in 2^-16 ns, 0 for none, and its policy. -/
  deadline : Nat
  drop : Bool
  hold : Bool
  /-- Bytes 48 to 63 of the route entry, its tagged flag and, once taken, the tunnel sequence of the frame (R350). -/
  tunnel : List Byte
  tagged : Bool
  tunSeq : Option Nat
  /-- Launch time, stamp request and tag of the request (R514, R607), if any. -/
  launch : Option Nat
  stampReq : Bool
  tag : Nat
  /-- Order of arrival of its frame (R116). -/
  arrival : Nat
  /-- Held at stage 5 under R116: no destination credit was taken. -/
  held : Bool
  seq : Nat
  deriving DecidableEq, Repr

/-- A frame in transit (R283). -/
structure Transit where
  id : Nat
  partner : Nat
  source : Nat
  seq : Nat
  /-- Beacon time of the reservation (R284). -/
  since : Nat
  late : Bool
  pending : List Delivery
  deriving DecidableEq, Repr

/-- A held delivery (R116, R275). -/
structure HeldFrame where
  delivery : Delivery
  cluster : Nat
  /-- Its cluster has left reconfiguration: it waits for its destination's credit. -/
  ready : Bool
  deriving DecidableEq, Repr

/-- A request of a waiting source (R273): engine submission or host TX descriptor. -/
structure WaitReq where
  id : Nat
  partner : Nat
  /-- Crossbar port: 0 to 3 a cluster, 4 the module. -/
  port : Nat
  cells : Nat
  frame : Frame
  /-- The destination set, each with the records an UNPACK destination takes (R352). -/
  dests : List (Delivery × List Frame)
  /-- Host queue and slot, or engine and its submission handle. -/
  hostQ : Option (Nat × Nat)
  engine : Option Nat
  /-- Where an engine's data bytes lie, and what its TX context wrote into them at stage 4: place and byte (R494,
  R513). -/
  addr : Nat
  kept : List (Nat × Byte)
  /-- TX context still to be applied, its cluster reconfiguring (R500); the destination set is formed after that. -/
  ctx : Option Nat
  launch : Option Nat
  stampReq : Bool
  tag : Nat
  /-- Beacon time at which the frame entered stage 4. -/
  entered : Nat
  escalated : Bool
  deriving DecidableEq, Repr

end Sys2Proof.Machine
end

