-- ==== Sys2Proof/Machine/Types/Engine.lean ====
section
/-! DEFINITION. State types of the Genat engines and customer tiles (R502 to R525): memories, inboxes,
submissions, checkpoints, the register state of the instruction set and the private interrupt bank. -/
namespace Sys2Proof.Machine

/-- What the SECDED code of an engine memory found in a read: nothing, a corrected or an uncorrectable error. -/
inductive Ecc where
  | good | corrected | uncorrectable
  deriving DecidableEq, Repr

/-- What the codes of the memories find as one instruction reads them (R504, R234): in its word, in the engine memory
that a unit, RETI or a handler's frame reads, in its vector word, and in the cells of a frame. A load or an atomic
operation names what its own data read finds. -/
structure Finds where
  fetch : Ecc
  data : Ecc
  vector : Ecc
  cells : RecEcc
  deriving DecidableEq, Repr

/-- Reads that find nothing. -/
def Finds.clean : Finds := ⟨.good, .good, .good, .clean⟩

/-- An engine that issues an instruction, and what the reads of that instruction find. -/
structure Issue where
  eng : Nat
  finds : Finds
  deriving DecidableEq, Repr

/-- Engine `g` with reads that find nothing. -/
abbrev Issue.clean (g : Nat) : Issue := ⟨g, .clean⟩

/-- What happens between two phases of an interrupt entry or return (R575, R576). -/
inductive Late where
  /-- An arrival at a private event source of the engine. -/
  | priv (i : Nat)
  /-- An arrival at a shared edge or event source. -/
  | shared (i : Nat)
  /-- The block of a shared source raises an event. -/
  | event (src i unit info : Nat)
  /-- A write of IRQ_SRC[i]. -/
  | source (i : Nat) (w : Word)
  /-- A write of the event enables of a shared source's block. -/
  | enable (src : Nat) (w : Word)
  /-- A delivery point is reached: an inbox may take an entry. -/
  | delivery (id k : Nat) (ecc : RecEcc)
  deriving DecidableEq, Repr

/-- What a single step meets: what its instruction reads, and what happens during its phases. -/
structure Meets where
  finds : Finds
  late : List Late
  deriving DecidableEq, Repr

/-- A step that meets nothing. -/
def Meets.none : Meets := ⟨.clean, []⟩

/-- ENG[g]_STAT.state (Table 14-10). -/
inductive EngState where
  | unused | reset | running | waiting | haltedFault | stopped | restarting | retired
  deriving DecidableEq, Repr

/-- Restart causes (Table 14-10). -/
inductive RestartCause where
  | cold | spare | reloadFail | host | wake
  deriving DecidableEq, Repr

/-- An inbox entry held by an engine (Table 14-5). -/
structure InboxEnt where
  slot : Nat
  record : Nat
  route : Nat
  taken : Bool
  redelivered : Bool
  deriving DecidableEq, Repr

/-- A completion not yet read: tag and status (Table 14-7). -/
structure SubDone where
  tag : Nat
  status : Nat
  deriving DecidableEq, Repr

/-- An outstanding submission, in submission order: the waiting request's identity or its status once known. -/
structure Sub where
  tag : Nat
  request : Option Nat
  status : Option Nat
  deriving DecidableEq, Repr

/-- A personality image held for an engine (Table 14-2): its code, data and load header fields. -/
structure Image where
  component : Nat
  version : Nat
  code : List Byte
  data : List Byte
  entry : Nat
  restartEntry : Nat
  paramAddr : Nat
  params : List Byte
  ckptAddr : Nat
  ckptLen : Nat
  units : Nat
  depths : Nat
  deriving DecidableEq, Repr

/-- One hardware loop level (R541): start, end and remaining count. -/
structure LoopLevel where
  start : Nat
  stop : Nat
  count : Nat
  deriving DecidableEq, Repr

/-- A private source of an engine's bank (R564). -/
structure PrivSrc where
  pending : Bool
  count : Nat
  /-- An inbox source claimed and not sampled since (R568, R572): not pending whatever the inbox holds. -/
  masked : Bool
  deriving DecidableEq, Repr

/-- What an engine waits for (R547, R549). -/
inductive Wait where
  | none
  | wfe
  /-- WAIT_UNTIL with its target time in 2^-16 ns and destination register. -/
  | untilTime (target : Nat) (rd : Nat)
  deriving DecidableEq, Repr

/-- Register state of the instruction set (R526 to R528, Table 16-6). -/
structure Cpu where
  /-- General registers x0 to x15. -/
  x : List Word
  pc : Nat
  psr : Word
  /-- The four loop levels; PSR.ldepth says how many are active. -/
  loops : List LoopLevel
  ecfg : Word
  vbase : Word
  tcause : Word
  taddr : Word
  tval : Word
  icnt : Word
  /-- The event flag (R546). -/
  event : Bool
  wait : Wait
  /-- Sources claimed and not completed, newest first: shared flag and number. -/
  claims : List (Bool × Nat)
  icClaim : Word
  lateCount : Nat
  chainCount : Nat
  pen0 : Word
  pen1 : Word
  ppri : List Word
  src : Tbl PrivSrc
  /-- The latched reading of the TIME unit, in 2^-16 ns, and the stamp of the last TSQ_POP. -/
  reading : Nat
  tsqStamp : Nat
  deriving DecidableEq, Repr

/-- One engine, including the spares at 32 to 35. -/
structure Engine where
  state : EngState
  cause : RestartCause
  image : Option Image
  cpu : Cpu
  imem : Tbl Byte
  dmem : Tbl Byte
  inboxes : Tbl (List InboxEnt)
  /-- Inbox entries reserved for frames in transit. -/
  reserved : Tbl Nat
  /-- Outstanding submissions in order, and completions not yet read. -/
  subs : List Sub
  done : List SubDone
  seq : Nat
  ckptValid : Bool
  ckptSeq : Nat
  /-- The two checkpoint slots and which is current. -/
  ckpt0 : List Byte
  ckpt1 : List Byte
  ckptCur : Bool
  /-- Halted by the debug unit (R641). -/
  dbgHalt : Bool
  /-- Spares: the engine served. -/
  serving : Option Nat
  retired : Bool
  /-- Frames discarded from its inboxes by a reload (R107). -/
  discarded : Nat
  deriving DecidableEq, Repr

/-- A cluster's customer tile. -/
structure Tile where
  /-- Configured: component, version and function mask of its image. -/
  image : Option (Nat × Nat × Nat)
  /-- The configuration bits of the image. -/
  config : List Byte
  running : Bool
  /-- Tile RAM, 32 KiB. -/
  ram : Tbl Byte
  seq : Nat
  deriving DecidableEq, Repr

end Sys2Proof.Machine
end

