-- ==== Sys2Proof/Machine/Types/Health.lean ====
section
/-! DEFINITION. State types of health and spares (R702 to R722). -/
namespace Sys2Proof.Machine

/-- States of a spare bus controller slice (Table 21-4). -/
inductive SliceState where
  | idle | readying | serving | failed
  deriving DecidableEq, Repr

/-- A cluster's spare slice: its state and the local lane it serves. -/
structure SpareSlice where
  state : SliceState
  lane : Option Nat
  deriving DecidableEq, Repr

/-- A report of wear (cause 1) or a fault (cause 2) of the unit with a code of Table 21-9. -/
structure Report where
  unit : Nat
  cause : Nat
  deriving DecidableEq, Repr

/-- The health record of R721, as Keeper storage holds it. -/
structure HealthRec where
  /-- Unit codes of retired units. -/
  retired : List Nat
  /-- Bit c: spare engine c, spare slice c, has failed. -/
  engFailed : Nat
  sliceFailed : Nat
  /-- Spare engines and slices in use: cluster and local lane served. -/
  engServes : List (Nat × Nat)
  sliceServes : List (Nat × Nat)
  /-- Channels and switches whose segments are not all their own: number, in use, spare. -/
  drivers : List (Nat × Nat × Nat)
  passes : List (Nat × Nat × Nat)
  rows : List Nat
  spareRows : List (Nat × Nat)
  /-- Outputs with pass_fault, and outputs that have retired. -/
  passFaults : List Nat
  outRetired : List Nat
  inputFault : Bool
  /-- Segment masks as in `Health`. -/
  segs : Tbl Nat
  badSegs : Tbl Nat
  firstUf : Nat
  lastUf : Nat
  deriving DecidableEq, Repr

/-- Running health state. -/
structure Health where
  slices : Tbl SpareSlice
  /-- HLT_PEND entries in use. -/
  pends : Tbl (Option Report)
  /-- Reports that wait for a free entry (R707). -/
  unrecorded : List Report
  /-- Substitutions due, in order (R710). -/
  due : List Report
  /-- Units whose wear has been declined since BRING-UP (R708), and units told of by WEAR_NO_SPARE. -/
  declined : List Nat
  told : List Nat
  /-- Consecutive evaluations below 10 %, by margin index. -/
  low : Tbl Nat
  /-- Engines that have completed a CHECKPOINT since their substitution became due. -/
  checkpointed : List Nat
  firstUf : Nat
  lastUf : Nat
  /-- The unit under HLT_RETEST. -/
  retest : Option Nat
  /-- Segments in service of a driver or switch whose set is not its own: a mask of 10, spares at 8 and 9. -/
  segs : Tbl Nat
  /-- Segments that have failed, in the same form. -/
  badSegs : Tbl Nat
  /-- Clusters whose RATE_LOW waits for a window of at least rate_low + 16 (R39). -/
  rateTold : List Nat
  /-- MOD_TEMP has been updated since the last BRING-UP. -/
  tempSeen : Bool
  deriving DecidableEq, Repr

end Sys2Proof.Machine
end

