-- ==== Sys2Proof/Syntax.lean ====
section
/-! DEFINITION. The commands of the block: one constructor for each row of spec/opcode_table.json, in its order.
Operands are what the row leaves open: the link and value of an access (`yw` is the Yewirak link), the channel, port or engine
concerned, and what the environment supplies at that moment (a received frame, an age in nanoseconds, a measured
current, the answer of host memory). -/
namespace Sys2Proof

inductive Instr where
  | registerWrite (yw : Bool) (off be : Nat) (w : Word) (fetched : Option (List Byte)) (e : Machine.Meets)
  | latchedRead (yw : Bool) (off : Nat)
  | counterReadClear (yw : Bool) (off : Nat)
  | stickySet (yw : Bool) (off : Nat) (w : Word)
  | stickyClear (yw : Bool) (off : Nat) (w : Word)
  | bar2Write (a be : Nat) (w : Word)
  | bar2Read (a : Nat) (e : Machine.Ecc)
  | cmdqTail (yw : Bool) (w : Word)
  | cmdqCfg (yw : Bool) (w : Word)
  | commandFetch (entry : Option (List Byte))
  | nop
  | loadStream (picks : List Nat) (header body : Option (List Byte))
  | streamValidation (t : Nat)
  | autoloadCopy
  | loaderHoldRelease (t : Nat)
  | reloadCluster (header body : Option (List Byte))
  | clusterStage6 (c : Nat)
  | holdMaxExpiry (c : Nat)
  | unload
  | enterStandby
  | resume
  | enterSleep
  | enterService
  | leaveService
  | enterTest
  | leaveTest
  | moduleReset
  | restep
  | busRetry
  | bufUnpark
  | sparOn
  | sparOff
  | sparClear (damaged : Nat)
  | spareApprove
  | auditSnapshot
  | calCommit
  | feedInRange (feed mV : Nat)
  | feedOutOfRange (feed mV : Nat)
  | pwrRestore
  | reverseTurnOff (feed : Nat)
  | seatMade (pin : Nat)
  | seatDebounceDone
  | seatOpen (pin : Nat)
  | inrushComplete (mV mA : Nat)
  | inrushTimeout (mA : Nat)
  | inputLimit (mA : Nat)
  | inputFaultTimer (mA : Nat)
  | inputShort (mA : Nat)
  | inputRetryEnd
  | inputRetriesReset
  | inputPassFault
  | modPgAssert
  | holdupExhausted (mV : Nat)
  | bringupComplete (soundA soundB : Bool) (selfTest : Nat) (units : List Nat) (rows : List (Nat × Nat)) (uf mW : Nat)
      (picks : List Nat)
  | bringupTimeout (stage : Nat)
  | tempUpdate (t : Int)
  | rateWindow (c rate : Nat)
  | perstDeassert
  | hostLinkReset (kind : Nat)
  | hostWake
  | wakeRelease
  | txdTimeout (d : Machine.DomTimeout)
  | busDom (n : Nat)
  | wakeUpPattern (ns : List Nat)
  | wakeFrame (n ident dlc : Nat) (data : List Byte)
  | wufErrcnt (n : Nat)
  | nodeTableStage (yw : Bool) (ix k : Nat) (w : Word)
  | nodeTableCommit (yw : Bool) (ix : Nat) (w : Word)
  | integrationComplete (n : Nat)
  | slotArbitration (n : Nat)
  | arbitrationLost (n : Nat)
  | busFrameReceived (picks : List Nat) (n age : Nat) (sig : Machine.Sig) (f : Machine.Frame)
  | busFrameSent (picks : List Nat) (n age tdcv : Nat)
  | busError (n : Nat) (err : Machine.BusFault)
  | protocolException (e : Machine.FormatError)
  | delayedRecoveryStart (n : Nat)
  | busCtrlRecover (yw : Bool) (n : Nat)
  | busOn (n : Nat)
  | slotLoad (n k : Nat) (ecc : Machine.RecEcc)
  | lock (yw : Bool) (ix : Nat)
  | release (yw : Bool) (ix : Nat)
  | ack (yw : Bool) (ix : Nat)
  | pop (yw : Bool) (ix : Nat)
  | commit (yw : Bool) (ix : Machine.Committed)
  | trigger (yw : Bool) (ix : Nat)
  | clearOverrun (yw onFifo : Bool) (ix : Nat)
  | rowSubstitution (b r : Nat)
  | waitingGrant (picks : List Nat) (port : Nat)
  | headEscalation (p : Nat)
  | heldFrameCredit (h : Machine.HeldRead)
  | transitLate (id : Nat)
  | readExact (yw : Bool) (c ix : Nat)
  | readMasked (yw : Bool) (c : Nat) (shadow : Bool) (ix : Nat)
  | addExact (yw : Bool) (c ix : Nat)
  | setExact (yw : Bool) (c ix : Nat)
  | delExact (yw : Bool) (c ix : Nat)
  | moveExact (yw : Bool) (c ix : Nat)
  | writeShadow (yw : Bool) (c ix : Nat)
  | copyToShadow (yw : Bool) (c : Nat)
  | copyToShadowDone (c : Nat)
  | filterCommit (yw : Bool) (c : Nat) (flip : Bool)
  | abandon (yw : Bool) (c : Nat)
  | deliveryPoint (id k : Nat) (ecc : Machine.RecEcc)
  | ethFrameReceived (picks : List Nat) (p : Nat) (phyErr smdErr fcsErr : Bool) (frags age : Nat) (b : List Byte)
  | pauseReceived (p quanta : Nat)
  | pfcReceived (p vector : Nat) (times : List Nat)
  | pauseEffect (p : Nat)
  | pauseExpiry (p t : Nat)
  | ethFrameStart (p : Nat) (ecc : Machine.RecEcc)
  | ethFrameSent (p age : Nat) (underrun : Bool)
  | pauseTxRepeat (p : Nat)
  | linkUp (p : Nat) (rcvr : Bool)
  | linkDown (p : Nat)
  | verifyAttempt (p : Nat) (ok : Bool)
  | lpiEnter (p : Nat) (rx : Bool)
  | lpiExit (p : Nat) (rx : Bool)
  | gateBoundary (p : Nat)
  | gateCommit (yw : Bool) (p : Nat) (w : Word)
  | gateSwitch (p : Nat)
  | launchDue (p : Nat) (ecc : Machine.RecEcc)
  | ptpSyncReceived (p domain seq : Nat) (twoStep : Bool) (origin : Nat) (correction log : Int) (age : Nat)
  | ptpFollowUpReceived (p domain seq origin : Nat) (correction : Int) (tlv : List Byte)
  | pdelayReqReceived (p domain seq : Nat) (correction : Int) (age : Nat) (who : List Byte)
  | pdelayRespReceived (p domain m : Nat)
  | delayReqReceived (p domain seq : Nat) (correction : Int) (age : Nat) (who : List Byte)
  | delayRespReceived (p domain m : Nat)
  | syncTx (p : Nat)
  | delayRequestTx (p : Nat)
  | ppsInEdge (e : Machine.PinEdge) (freq : Int)
  | holdoffEnd (p : Nat)
  | sourceLost
  | bcnRate (yw high : Bool) (w : Word)
  | bcnAdj (yw high : Bool) (w : Word)
  | bcnCfg (yw : Bool) (w : Word)
  | bcnSave (yw : Bool) (w : Word)
  | ppsOut
  | tsqRead (yw : Bool) (p : Nat)
  | cycleStart (t : Nat)
  | windowStart (t : Nat)
  | windowEnd (t : Nat)
  | exclusiveTrigger (t ix : Nat)
  | referenceReceived (n ident age : Nat)
  | backupTakeover (n : Nat)
  | quarantinePop (yw : Bool) (c : Nat)
  | resync (yw : Bool) (ix : Nat)
  | clear (yw : Bool) (ix : Nat)
  | engineRestart (yw : Bool) (g : Nat)
  | engineSubstitution (g : Nat) (timeout : Bool)
  | interruptEntry (g : Machine.Issue) (late : List Machine.Late)
  | illegalInstruction (g : Machine.Issue)
  | add (g : Machine.Issue) (rd ra rb : Nat)
  | sub (g : Machine.Issue) (rd ra rb : Nat)
  | adc (g : Machine.Issue) (rd ra rb : Nat)
  | sbc (g : Machine.Issue) (rd ra rb : Nat)
  | and (g : Machine.Issue) (rd ra rb : Nat)
  | or (g : Machine.Issue) (rd ra rb : Nat)
  | xor (g : Machine.Issue) (rd ra rb : Nat)
  | andn (g : Machine.Issue) (rd ra rb : Nat)
  | sll (g : Machine.Issue) (rd ra rb : Nat)
  | srl (g : Machine.Issue) (rd ra rb : Nat)
  | sra (g : Machine.Issue) (rd ra rb : Nat)
  | rot (g : Machine.Issue) (rd ra rb : Nat)
  | mul (g : Machine.Issue) (rd ra rb : Nat)
  | mulhs (g : Machine.Issue) (rd ra rb : Nat)
  | mulhu (g : Machine.Issue) (rd ra rb : Nat)
  | div (g : Machine.Issue) (rd ra rb : Nat)
  | divu (g : Machine.Issue) (rd ra rb : Nat)
  | rem (g : Machine.Issue) (rd ra rb : Nat)
  | remu (g : Machine.Issue) (rd ra rb : Nat)
  | neg (g : Machine.Issue) (rd ra : Nat)
  | abs (g : Machine.Issue) (rd ra : Nat)
  | abss (g : Machine.Issue) (rd ra : Nat)
  | adds (g : Machine.Issue) (rd ra rb : Nat)
  | subs (g : Machine.Issue) (rd ra rb : Nat)
  | clz (g : Machine.Issue) (rd ra : Nat)
  | brev (g : Machine.Issue) (rd ra : Nat)
  | bswap (g : Machine.Issue) (rd ra : Nat)
  | ext (g : Machine.Issue) (rd ra pos len : Nat) (sign : Bool)
  | ins (g : Machine.Issue) (rd ra pos len : Nat)
  | addi (g : Machine.Issue) (rd ra v : Nat)
  | andi (g : Machine.Issue) (rd ra v : Nat)
  | ori (g : Machine.Issue) (rd ra v : Nat)
  | xori (g : Machine.Issue) (rd ra v : Nat)
  | shi (g : Machine.Issue) (rd ra kind n : Nat)
  | lui (g : Machine.Issue) (rd v : Nat)
  | cmp (g : Machine.Issue) (ra rb : Nat)
  | cmpi (g : Machine.Issue) (ra v : Nat)
  | tst (g : Machine.Issue) (ra rb : Nat)
  | ldw (g : Machine.Issue) (rd ra v : Nat) (e : Machine.Ecc)
  | ldh (g : Machine.Issue) (rd ra v : Nat) (e : Machine.Ecc)
  | ldhu (g : Machine.Issue) (rd ra v : Nat) (e : Machine.Ecc)
  | ldb (g : Machine.Issue) (rd ra v : Nat) (e : Machine.Ecc)
  | ldbu (g : Machine.Issue) (rd ra v : Nat) (e : Machine.Ecc)
  | stw (g : Machine.Issue) (rd ra v : Nat)
  | sth (g : Machine.Issue) (rd ra v : Nat)
  | stb (g : Machine.Issue) (rd ra v : Nat)
  | ldd (g : Machine.Issue) (rd ra v : Nat) (e : Machine.Ecc)
  | std (g : Machine.Issue) (rd ra v : Nat)
  | swap (g : Machine.Issue) (rd ra rb : Nat) (e : Machine.Ecc)
  | fadd (g : Machine.Issue) (rd ra rb : Nat) (e : Machine.Ecc)
  | fand (g : Machine.Issue) (rd ra rb : Nat) (e : Machine.Ecc)
  | for_ (g : Machine.Issue) (rd ra rb : Nat) (e : Machine.Ecc)
  | fxor (g : Machine.Issue) (rd ra rb : Nat) (e : Machine.Ecc)
  | cas (g : Machine.Issue) (rd ra rb : Nat) (e : Machine.Ecc)
  | bc (g : Machine.Issue) (cond off : Nat)
  | cbz (g : Machine.Issue) (ra off : Nat)
  | cbnz (g : Machine.Issue) (ra off : Nat)
  | jmp (g : Machine.Issue) (off : Nat)
  | call (g : Machine.Issue) (off : Nat)
  | jr (g : Machine.Issue) (ra : Nat)
  | callr (g : Machine.Issue) (ra : Nat)
  | loop (g : Machine.Issue) (ra len : Nat)
  | loopi (g : Machine.Issue) (count len : Nat)
  | lexit (g : Machine.Issue) (k : Nat)
  | sysNop (g : Machine.Issue)
  | wfe (g : Machine.Issue)
  | wfeWake (g : Nat)
  | sev (g : Machine.Issue)
  | reti (g : Machine.Issue) (late : List Machine.Late)
  | trap (g : Machine.Issue) (v : Nat)
  | break_ (g : Machine.Issue) (v : Nat)
  | csrr (g : Machine.Issue) (rd num : Nat)
  | csrw (g : Machine.Issue) (ra num : Nat)
  | csrs (g : Machine.Issue) (ra num : Nat)
  | csrc (g : Machine.Issue) (ra num : Nat)
  | ei (g : Machine.Issue)
  | di (g : Machine.Issue)
  | icRaise (g : Machine.Issue) (ra : Nat)
  | icPclr (g : Machine.Issue) (ra : Nat)
  | ident (g : Machine.Issue) (rd ra rb : Nat)
  | image (g : Machine.Issue) (rd ra rb : Nat)
  | checkpoint (g : Machine.Issue) (rd ra rb : Nat)
  | rate (g : Machine.Issue) (rd ra rb : Nat)
  | take (g : Machine.Issue) (rd ra rb : Nat)
  | frameRelease (g : Machine.Issue) (rd ra rb : Nat)
  | hdr (g : Machine.Issue) (rd ra rb : Nat)
  | data (g : Machine.Issue) (rd ra rb : Nat)
  | copy (g : Machine.Issue) (rd ra rb : Nat)
  | submit (g : Machine.Issue) (rd ra rb : Nat)
  | done (g : Machine.Issue) (rd ra rb : Nat)
  | now (g : Machine.Issue) (rd ra rb : Nat)
  | sechi (g : Machine.Issue) (rd ra rb : Nat)
  | frac (g : Machine.Issue) (rd ra rb : Nat)
  | waitUntil (g : Machine.Issue) (rd ra rb : Nat)
  | waitUntilWake (g : Nat)
  | taskDone (g : Machine.Issue) (rd ra rb : Nat)
  | tsqPop (g : Machine.Issue) (rd ra rb : Nat)
  | tsqStamp (g : Machine.Issue) (rd ra rb : Nat)
  | crc (g : Machine.Issue) (j rd ra rb : Nat)
  | cust (g : Machine.Issue) (unit fn rd ra rb imm : Nat)
  | tileFrameSubmit (picks : List Nat) (c : Nat) (d : List Byte)
  | tileSignal (c k : Nat)
  | irqSpendSet (yw : Bool) (k : Nat) (w : Word)
  | irqSpendClear (yw : Bool) (k : Nat) (w : Word)
  | irqSrcWrite (yw : Bool) (ix : Nat) (w : Word)
  | irqEqEnable (yw : Bool) (q : Nat) (w : Word)
  | irqEqHead (yw : Bool) (q : Nat) (w : Word)
  | moderationTimer (q : Nat)
  | hostSleepReq (yw : Bool) (w : Word)
  | wakeHoldExpiry
  | heldRecordsFlush
  | l1Exit
  | hostQTail (yw : Bool) (q : Nat) (w : Word)
  | hostQCfg (yw : Bool) (q : Nat) (w : Word)
  | txDescriptor (q : Nat) (desc image : Option (List Byte))
  | rxSlotFetch (q ix : Nat) (desc : Option (List Byte))
  | queueStopped (q : Nat)
  | ywLinkUp
  | ywLinkDown
  | ywFrameError
  | ywIdentity (seq : Nat)
  | ywStatus (seq : Nat)
  | ywRead (seq off n : Nat)
  | ywWrite (seq off : Nat) (ws : List Word) (fetched : Option (List Byte)) (e : Machine.Meets)
  | ywCommand (seq : Nat) (b : List Byte)
  | ywTime (seq : Nat)
  | ywWake (seq : Nat)
  | firmware (yw inbuf : Bool) (len : Nat) (fetched : Option (List Byte))
  | storeImage (yw inbuf : Bool) (len : Nat) (fetched : Option (List Byte))
  | eraseImage (yw inbuf : Bool) (len : Nat) (fetched : Option (List Byte))
  | testedSet (yw inbuf : Bool) (len : Nat) (fetched : Option (List Byte))
  | policy (yw inbuf : Bool) (len : Nat) (fetched : Option (List Byte))
  | keyCert (yw inbuf : Bool) (len : Nat) (fetched : Option (List Byte))
  | lifecycle (yw inbuf : Bool) (len : Nat) (fetched : Option (List Byte))
  | debug (yw inbuf : Bool) (len : Nat) (fetched : Option (List Byte))
  | keeperStoreDone
  | sessionExpiry
  | sessionClose (yw : Bool)
  | debugHalt (yw : Bool) (g : Nat) (halt : Bool)
  | debugStep (yw : Bool) (g : Nat) (e : Machine.Meets)
  | debugData (yw write : Bool) (w : Word)
  | tapShift (yw : Bool) (w : Word)
  | outputSequenceStart
  | pdDetected (q cls : Nat)
  | detectRepeat (q : Nat) (cls : Option Nat)
  | classRetry (q : Nat) (cls : Option Nat)
  | portInrushComplete (q mV mA : Nat)
  | portInrushTimeout (q mA : Nat)
  | portLimit (q mV mA : Nat)
  | portFaultTimer (q mA : Nat)
  | portShort (q mA : Nat)
  | portRetryEnd (q : Nat)
  | portPg (q : Nat) (on : Bool) (mV mA : Nat)
  | portRetriesReset (q : Nat)
  | portPassFault (q : Nat)
  | limitShed
  | marginEvaluation (margins : List (Nat × Nat)) (rs : List Machine.Report)
  | unitFault (r : Machine.Report)
  | sliceSubstitution (n : Nat) (done parityOk : Bool)
  | segmentSubstitution (u : Nat)
  | hltRetest (yw : Bool) (w : Word)
  | retestDone (pass : Bool)
  | calUserWrite (yw : Bool) (ix : Nat) (w : Word)
  | beaconMillisecond
  | inputLimitEnd (mA : Nat)
  | portLimitEnd (q mV mA : Nat)
  | railOutOfWindow
  | feedsRemoved
  | pcieLinkUp
  | d3hotEntry (d3 bme pmeEn : Bool)
  | linkL1Entry
  | msixTableWrite (v addr data : Nat) (masked : Bool) (fnMask : Option Bool)
  | ywBadRequest (type seq : Nat) (b : List Byte)
  | wufFrameDecoded (n : Nat) (valid error : Bool)
  deriving DecidableEq, Repr

end Sys2Proof
end

