-- ==== Sys2Proof/Decode.lean ====
section
/-! DEFINITION. Commands by table word. No row of spec/opcode_table.json gives bits, so no word spells a command. The
decoder of the Genat engines, which is the machine's own, stands in Machine/Operands.lean. -/
namespace Sys2Proof

/-- The command that a word spells by the table's bits: none, since no row gives bits. -/
def decodeTableWord (_nbits _w : Nat) : Option Instr := none

end Sys2Proof
end

