-- ==== Sys2Proof/Machine/Bits.lean ====
section
/-! DEFINITION. Bit-field, byte-order and saturating helpers used by every chapter's meanings. -/
namespace Sys2Proof.Machine

/-- Field of `len` bits whose lowest bit is `lo`. -/
def fld (w : Word) (lo len : Nat) : Nat := (w.toNat >>> lo) % 2 ^ len

/-- One bit of a word. -/
def bit (w : Word) (i : Nat) : Bool := w.getLsbD i

/-- `w` with the field of `len` bits at `lo` replaced by `v` (taken modulo the field's width). -/
def setFld (w : Word) (lo len v : Nat) : Word :=
  let m : Word := BitVec.ofNat 32 ((2 ^ len - 1) <<< lo)
  (w &&& ~~~m) ||| BitVec.ofNat 32 ((v % 2 ^ len) <<< lo)

/-- A natural number's field, for quantities wider than one word. -/
def nfld (n lo len : Nat) : Nat := (n >>> lo) % 2 ^ len

/-- One bit of a natural number. -/
def nbit (n i : Nat) : Bool := n.testBit i

/-- `n` with bit `i` set or cleared. -/
def setBit (n i : Nat) (b : Bool) : Nat :=
  if b then n ||| (2 ^ i) else n - (n &&& (2 ^ i))

/-- The value of a Boolean as a one-bit field. -/
def b2n (b : Bool) : Nat := if b then 1 else 0

/-- A word from a natural number, modulo 2^32. -/
def wd (n : Nat) : Word := BitVec.ofNat 32 n

/-- Saturating sum, as every counter of the module uses. -/
def satAdd (cap a b : Nat) : Nat := if a + b ≤ cap then a + b else cap

/-- Two's complement reading of the low `len` bits of `n`. -/
def toSigned (len n : Nat) : Int :=
  let m := n % 2 ^ len
  if m < 2 ^ (len - 1) then (m : Int) else (m : Int) - (2 ^ len : Nat)

/-- The low `len` bits of an integer in two's complement. -/
def ofSigned (len : Nat) (i : Int) : Nat := (i % ((2 ^ len : Nat) : Int)).toNat

/-- An integer held between `-cap` and `cap`. -/
def satInt (cap : Nat) (i : Int) : Int :=
  if i > (cap : Int) then cap else if i < -(cap : Int) then -(cap : Int) else i

/-- `n` in `k` bytes, least significant first (R11). -/
def leBytes : Nat → Nat → List Byte
  | 0, _ => []
  | k + 1, n => BitVec.ofNat 8 n :: leBytes k (n / 256)

/-- The number that bytes spell, least significant first (R11). -/
def ofLe : List Byte → Nat
  | [] => 0
  | b :: bs => b.toNat + 256 * ofLe bs

/-- The number that bytes spell, most significant first (a wire order, R12). -/
def ofBe (bs : List Byte) : Nat := bs.foldl (fun n b => n * 256 + b.toNat) 0

/-- Little-endian field of `n` bytes at byte `off` of a byte string; bytes past its end read as zero. -/
def leAt (bs : List Byte) (off n : Nat) : Nat := ofLe ((bs.drop off).take n)

/-- Big-endian field of `n` bytes at byte `off`. -/
def beAt (bs : List Byte) (off n : Nat) : Nat := ofBe ((bs.drop off).take n)

/-- One byte of a byte string, zero past its end. -/
def byteAt (bs : List Byte) (i : Nat) : Nat := (bs.getD i 0).toNat

/-- A byte string cut or padded with zeros to `n` bytes. -/
def fitBytes (n : Nat) (bs : List Byte) : List Byte := bs.take n ++ List.replicate (n - bs.length) 0

/-- Quotient rounded up. -/
def ceilDiv (a b : Nat) : Nat := (a + (b - 1)) / b

/-- Bits `lo ..` of a word list read as one little-endian number. -/
def ofWords : List Word → Nat
  | [] => 0
  | w :: ws => w.toNat + 2 ^ 32 * ofWords ws

end Sys2Proof.Machine
end

