-- ==== Sys2Proof/Config.lean ====
section
/-! DEFINITION. The values the spec leaves open: constants without a body, applied to the operands they depend on
or to the counter `State.free`. No proof can see a value of one. -/
namespace Sys2Proof

/-- Where the free lists start looking for a cell when a command names none (R268: "from whatever banks", log 45). -/
opaque Config.cellStart : Nat → Nat

/-- Whether another node's XL frame is in its data phase on channel `n` at a time of Beacon's raw counter (R119,
log 82). -/
opaque Config.lineFast : (n raw : Nat) → Bool

/-- Whether an occurrence of 11 recessive bits ends on channel `n` at an edge of Beacon's island, by its raw counter
(R193, log 82). -/
opaque Config.elevenRecessive : (n raw : Nat) → Bool

/-- The short stamp that CYC_NOW gives for the nominal start of cycle −1, which lies before time zero and has none
(R455, Table 12-9, log 83). -/
opaque Config.startBeforeZero : (phase period : Nat) → Nat

/-- A customer tile's result by draw number, function, third operand and two operands (R522, R553, log 46): the tile's
logic is the cell designer's. -/
opaque Config.tile : (draw fn imm : Nat) → (a b : Word) → Word

/-- Whether a configuration uses no more cells than a customer tile holds (R524), by its bits: the spec counts neither
(log 46). -/
opaque Config.tileFits : List Byte → Bool

/-- The ACF message type IEEE 1722 assigns to CAN XL (Table 9-7), which the spec does not number (log 49). -/
opaque Config.acfXlType : Nat

/-- Quadlets of the XL fields in an ACF CAN XL message, between its common header and its data (Table 9-7 names the
fields and gives no layout). -/
opaque Config.acfXlQuads : Nat

/-- The octets of the XL fields, from a record's header (Table 9-7). -/
opaque Config.acfXlFields : (header : List Byte) → List Byte

/-- The record header whose XL fields and flags a received CAN XL message's field octets give (R352). -/
opaque Config.acfXlRecord : (fields : List Byte) → List Byte

/-- Whether the PHY of port `p` offers EEE at a configured speed (R388, log 73). -/
opaque Config.eeeOffered : (p speed : Nat) → Bool

/-- The slot number an ID_CLASH on a reference message carries: the reference slot lies outside 0 to 31 (R763), and
the spec numbers it nowhere (log 49). -/
opaque Config.refSlotIndex : Nat

/-- Where the typical inrush limits lie between the minimum and the maximum of Table 19-3, above the minimum, in mA (R13,
R660, log 96). -/
opaque Config.foldHi : Nat
opaque Config.foldLo : Nat

/-- Voltage in mV across the input switch as it turns on, and what the load then takes in mA, by draw number (R660,
log 96). -/
opaque Config.passVoltage : Nat → Nat
opaque Config.inrushLoad : Nat → Nat

/-- The value Keeper's random source gives (R632, log 47), by draw number. -/
opaque Config.random : Nat → BitVec 64

/-- Bits sampled on TDO in a boundary-scan shift (R643, log 48), by shift number. -/
opaque Config.tdo : Nat → Word

/-- The unit field of a SPARE_FAILED record of a spare engine (kind 1) or spare slice (kind 2) of cluster `c`:
Table 21-9 gives neither a code (log 49). -/
opaque Config.spareUnit : (kind c : Nat) → Nat

/-- What a word of a quarantine entry that is not held reads as (Table 13-3, log 13), by draw number and word. -/
opaque Config.staleQuarantine : (draw word : Nat) → Word

end Sys2Proof
end

