-- ==== Sys2Proof/Machine/Reg.lean ====
section
/-! DEFINITION. The names of the module's registers and their BAR0 offsets (Table 22-1, Table 22-2 and the field
maps they point to). `Reg.ofOff` reads a word offset as a register word; `Reg.off` is its inverse. -/
namespace Sys2Proof.Machine

/-- The blocks that have an event register, its enables and a record block code (Table 16-13). -/
inductive Blk where
  | bus (n : Nat) | mac (p : Nat) | flt (c : Nat) | chk (c : Nat) | eng (g : Nat)
  | pool | gw | bcn | cyc | spar | pwr | hlt | kpr | host
  deriving DecidableEq, Repr

/-- Registers of a bus lane window. -/
inductive BusReg where
  | mode | ctrl | stat | errcnt | limits | clashid | clashnode | parked | pending
  | cnt (i : Nat) | nbt | fdbt | xdbt | tdc | line | sigcfg | sigdrift | siglast | wake
  | wufId | wufIdmask | wufDmask (w : Nat) | tdcv
  deriving DecidableEq, Repr

/-- Registers of an Ethernet lane window. -/
inductive MacReg where
  | cfg | stat | addr (w : Nat) | txthr | eee | tcdepth (w : Nat) | pause | xoff | preempt | launch
  | gateCtrl | gateBase (w : Nat) | gateCycle | gateExt | cbs (t : Nat) | cnt (i : Nat)
  | meter (i w : Nat) | gclAdmin (i : Nat) | gclOper (i : Nat)
  deriving DecidableEq, Repr

/-- Registers of a filter window. -/
inductive FltReg where
  | cfg | stat | stage (w : Nat) | op | opstat | cnt (i : Nat) | hit (i : Nat)
  deriving DecidableEq, Repr

/-- One BAR0 register word. `w` is the word index within a register wider than 32 bits; an alias index of an S/C
register is 0 for the base, 1 for the set alias and 2 for the clear alias (Table 0-4). -/
inductive Reg where
  | idDev | idCfg | idPart (w : Nat) | idSerial (w : Nat) | idKeeper | idStruct | idProto
  | modStatus | modReject (a : Nat) | modRejectInfo | modTemp | modEvq | modFault | modFaultTime (w : Nat)
  | cmdqBase (w : Nat) | cmdqCfg | cmdqTail | cmdqHead | modRate (c : Nat)
  | micaStatus | micaError | micaErrorAux | micaStructId | micaAutoload | micaVer (c : Nat)
  | poolMbop | poolEcc | poolEccInfo | poolRows | poolBar2drop | poolAuditCtrl | poolWdog
  | poolAudit (k w : Nat) | poolAuditCells (w : Nat)
  | gwStat | gwCnt (i : Nat)
  | bcnNow (w : Nat) | bcnRaw (w : Nat) | bcnCfg | bcnJumpThr | bcnServo | bcnCtrl | bcnRate (w : Nat)
  | bcnAdj (w : Nat) | bcnStat | bcnOffset | bcnJump | bcnCnt (i : Nat)
  | bcnPort (p w : Nat)
  | cycCfg | cycPeriod | cycPhase | cycNow (w : Nat) | cycTl (t w : Nat)
  | chkCtxop | irqSpend (w a : Nat)
  | sleepReq | sleepAck | irqWake | irqWakeHold
  | fifo (f w : Nat) | irqSrc (s : Nat) | eq (q w : Nat) | hostQ (q w : Nat) | ywStat | ywCnt (i : Nat)
  | kprStat | kprId | kprFwver | kprIf | kprIf2 | kprChal (w : Nat) | kprSlot (i : Nat) | kprUpdAddr (w : Nat)
  | kprUpdCtrl | kprUpdResult | kprDbg (w : Nat) | kprTap (w : Nat) | kprInbuf (w : Nat)
  | pwr (w : Nat) | pwrCnt (i : Nat)
  | spar (q w : Nat) | sparAlloc
  | hltPolicy | hltInv | hltRetest | hltHoldup | hltCnt (i : Nat) | hltRetired (w : Nat) | hltPend (i : Nat)
  | hltMargin (i : Nat) | cal (i w : Nat)
  | node (i w : Nat) | link (i : Nat) | desc (i w : Nat) | part (i w : Nat) | psnap (i w : Nat)
  | pcnt (i w : Nat) | route (r w : Nat) | rcnt (r w : Nat) | ctx (i w : Nat)
  | evt (b : Blk) (a : Nat) | evten (b : Blk)
  | bus (n : Nat) (r : BusReg) | slice (c : Nat) | mac (p : Nat) (r : MacReg)
  | eng (g w : Nat) | tile (c : Nat) | spareEng (c : Nat)
  | flt (c : Nat) (r : FltReg) | chk (u w : Nat) | chkQ (c w : Nat)
  deriving DecidableEq, Repr

/-- Word index of `o` in a run of `n` words at `base`. -/
def run (o base n : Nat) : Option Nat :=
  if base ≤ o ∧ o < base + 4 * n ∧ (o - base) % 4 = 0 then some ((o - base) / 4) else none

/-- The S/C triple and enable word of an event register at `base`. -/
def evtAt (b : Blk) (o base : Nat) : Option Reg :=
  if o = base then some (.evt b 0) else if o = base + 4 then some (.evt b 1)
  else if o = base + 8 then some (.evt b 2) else if o = base + 12 then some (.evten b) else none

/-- Bus lane window (Table 5-11 and Table 4-2). -/
def BusReg.ofOff (o : Nat) : Option BusReg :=
  match o with
  | 0x000 => some .mode | 0x004 => some .ctrl | 0x008 => some .stat | 0x00C => some .errcnt
  | 0x010 => some .limits | 0x018 => some .clashid | 0x01C => some .clashnode
  | 0x020 => some .parked | 0x024 => some .pending
  | 0x100 => some .nbt | 0x104 => some .fdbt | 0x108 => some .xdbt | 0x10C => some .tdc
  | 0x110 => some .line | 0x114 => some .sigcfg | 0x118 => some .sigdrift | 0x11C => some .siglast
  | 0x120 => some .wake | 0x124 => some .wufId | 0x128 => some .wufIdmask
  | 0x12C => some (.wufDmask 0) | 0x130 => some .tdcv | 0x134 => some (.wufDmask 1)
  | _ => (run o 0x40 16).map .cnt

/-- Ethernet lane window (Table 10-12). -/
def MacReg.ofOff (o : Nat) : Option MacReg :=
  match o with
  | 0x000 => some .cfg | 0x004 => some .stat | 0x008 => some (.addr 0) | 0x00C => some (.addr 1)
  | 0x010 => some .txthr | 0x014 => some .eee | 0x018 => some (.tcdepth 0) | 0x01C => some (.tcdepth 1)
  | 0x020 => some .pause | 0x024 => some .xoff | 0x028 => some .preempt | 0x02C => some .launch
  | 0x040 => some .gateCtrl | 0x044 => some (.gateBase 0) | 0x048 => some (.gateBase 1)
  | 0x04C => some .gateCycle | 0x050 => some .gateExt
  | _ =>
    if o < 0x100 then (run o 0x60 8).map .cbs
    else if o < 0x200 then (run o 0x100 64).map .cnt
    else if o < 0x800 then (run o 0x200 96).map fun k => .meter (k / 3) (k % 3)
    else if o < 0xA00 then (run o 0x800 128).map .gclAdmin
    else (run o 0xA00 128).map .gclOper

/-- Filter window (Table 8-10). -/
def FltReg.ofOff (o : Nat) : Option FltReg :=
  match o with
  | 0x00 => some .cfg | 0x04 => some .stat | 0x80 => some .op | 0x84 => some .opstat
  | _ =>
    if o < 0x80 then (run o 0x40 16).map .stage
    else if o < 0x1000 then (run o 0xA0 8).map .cnt
    else (run o 0x1000 4096).map .hit

/-- Words 0 and 1 of a pair. -/
def word2 (o base : Nat) (f : Nat → Reg) : Option Reg := (run o base 2).map f

/-- A replicated structure of `n` words every `stride` bytes, `m` of them, at `base`. -/
def grid (o base stride n m : Nat) (f : Nat → Nat → Reg) : Option Reg :=
  let d := o - base
  if base ≤ o ∧ d < stride * m ∧ d % stride < 4 * n ∧ d % 4 = 0 then some (f (d / stride) (d % stride / 4))
  else none

/-- Registers below 0x0001_0000. -/
def Reg.ofLow (o : Nat) : Option Reg :=
  if o < 0x2000 then
    match o with
    | 0x00 => some .idDev | 0x04 => some .idCfg | 0x20 => some .idKeeper | 0x24 => some .idStruct
    | 0x28 => some .idProto | 0x40 => some .modStatus | 0x50 => some (.modReject 0)
    | 0x54 => some (.modReject 1) | 0x58 => some (.modReject 2) | 0x5C => some .modRejectInfo
    | 0x60 => some .modTemp | 0x64 => some .modEvq | 0x70 => some .modFault
    | 0x100 => some (.cmdqBase 0) | 0x104 => some (.cmdqBase 1) | 0x108 => some .cmdqCfg
    | 0x10C => some .cmdqTail | 0x110 => some .cmdqHead
    | _ =>
      if o < 0x18 then (run o 0x08 4).map .idPart
      else if o < 0x20 then (run o 0x18 2).map .idSerial
      else if o < 0x100 then (run o 0x74 2).map .modFaultTime
      else (run o 0x480 4).map .modRate
  else if o < 0x4000 then
    match o with
    | 0x2000 => some .micaStatus | 0x2004 => some .micaError | 0x2008 => some .micaErrorAux
    | 0x200C => some .micaStructId | 0x2010 => some .micaAutoload
    | _ => (run o 0x2020 4).map .micaVer
  else if o < 0x6000 then
    match o with
    | 0x4000 => some .poolMbop | 0x4010 => some .poolEcc | 0x4014 => some .poolEccInfo
    | 0x4018 => some .poolRows | 0x401C => some .poolBar2drop | 0x4100 => some .poolAuditCtrl
    | 0x4120 => some .poolWdog
    | _ =>
      if o < 0x4200 then evtAt .pool o 0x4130
      else if o < 0x4300 then grid o 0x4200 0x10 4 11 .poolAudit
      else (run o 0x4300 8).map .poolAuditCells
  else if o < 0x8000 then
    if o = 0x6000 then some .gwStat
    else if o < 0x6040 then evtAt .gw o 0x6010
    else (run o 0x6040 8).map .gwCnt
  else if o < 0xA000 then
    match o with
    | 0x8020 => some .bcnCfg | 0x8024 => some .bcnJumpThr | 0x8028 => some .bcnServo
    | 0x802C => some .bcnCtrl | 0x8040 => some .bcnStat | 0x8044 => some .bcnOffset
    | 0x8048 => some .bcnJump
    | _ =>
      if o < 0x8010 then (run o 0x8000 4).map .bcnNow
      else if o < 0x8020 then (run o 0x8010 3).map .bcnRaw
      else if o < 0x8038 then word2 o 0x8030 .bcnRate
      else if o < 0x8040 then word2 o 0x8038 .bcnAdj
      else if o < 0x8060 then evtAt .bcn o 0x8050
      else if o < 0x8400 then (run o 0x8060 8).map .bcnCnt
      else grid o 0x8400 0x40 9 24 .bcnPort
  else if o < 0xC000 then
    match o with
    | 0xA000 => some .cycCfg | 0xA004 => some .cycPeriod | 0xA008 => some .cycPhase
    | _ =>
      if o < 0xA020 then (run o 0xA010 4).map .cycNow
      else if o < 0xA400 then evtAt .cyc o 0xA020
      else grid o 0xA400 0x20 8 72 .cycTl
  else
    match o with
    | 0xC000 => some .chkCtxop | 0xE400 => some .sleepReq | 0xE404 => some .sleepAck
    | 0xE408 => some .irqWake | 0xE40C => some .irqWakeHold
    | _ => grid o 0xE000 0x10 3 32 .irqSpend

/-- Registers from 0x0001_0000 to 0x0003_FFFF. -/
def Reg.ofMid (o : Nat) : Option Reg :=
  if o < 0x14000 then grid o 0x10000 0x10 3 1024 .fifo
  else if o < 0x16000 then (run o 0x14000 1024).map .irqSrc
  else if o < 0x18000 then grid o 0x16000 0x20 5 64 .eq
  else if o < 0x1A000 then
    match grid o 0x18000 0x40 12 64 .hostQ with
    | some (.hostQ q w) => if w = 6 ∨ w = 7 then none else some (.hostQ q w)
    | _ => none
  else if o < 0x1C000 then
    if o = 0x1A020 then some .ywStat
    else if o < 0x1A020 then evtAt .host o 0x1A010
    else (run o 0x1A030 4).map .ywCnt
  else if o < 0x1E000 then
    match o with
    | 0x1C000 => some .kprStat | 0x1C004 => some .kprId | 0x1C008 => some .kprFwver
    | 0x1C00C => some .kprIf | 0x1C010 => some .kprIf2 | 0x1C058 => some .kprUpdCtrl
    | 0x1C05C => some .kprUpdResult
    | _ =>
      if o < 0x1C040 then (run o 0x1C020 8).map .kprSlot
      else if o < 0x1C050 then word2 o 0x1C040 .kprChal
      else if o < 0x1C058 then word2 o 0x1C050 .kprUpdAddr
      else if o < 0x1C080 then (run o 0x1C060 5).map .kprDbg
      else if o < 0x1C090 then (run o 0x1C080 4).map .kprTap
      else if o < 0x1D000 then evtAt .kpr o 0x1C090
      else (run o 0x1D000 1024).map .kprInbuf
  else if o < 0x20000 then
    if o < 0x1E020 then (run o 0x1E000 5).map .pwr
    else if o < 0x1E040 then evtAt .pwr o 0x1E020
    else (run o 0x1E040 8).map .pwrCnt
  else if o < 0x22000 then
    if o < 0x20800 then grid o 0x20000 0x20 8 64 .spar
    else if o = 0x20810 then some .sparAlloc
    else evtAt .spar o 0x20800
  else if o < 0x30000 then
    match o with
    | 0x22000 => some .hltPolicy | 0x22004 => some .hltInv | 0x22008 => some .hltRetest
    | 0x2200C => some .hltHoldup
    | _ =>
      if o < 0x22020 then evtAt .hlt o 0x22010
      else if o < 0x22040 then (run o 0x22020 8).map .hltCnt
      else if o < 0x22100 then (run o 0x22040 4).map .hltRetired
      else if o < 0x22200 then (run o 0x22100 64).map .hltPend
      else (run o 0x22200 80).map .hltMargin
  else grid o 0x30000 0x10 4 2048 .cal

/-- The tables from 0x0040_0000 to the end of the module area. -/
def Reg.ofHigh (o : Nat) : Option Reg :=
  if o < 0x600000 then grid o 0x400000 0x20 8 4096 .node
  else if o < 0x800000 then (run o 0x600000 262144).map .link
  else if o < 0x900000 then grid o 0x800000 0x10 4 65536 .desc
  else if o < 0x920000 then grid o 0x900000 0x20 8 4096 .part
  else if o < 0x940000 then grid o 0x920000 0x20 8 4096 .psnap
  else if o < 0xA00000 then grid o 0x940000 0x10 4 4096 .pcnt
  else if o < 0xC00000 then grid o 0xA00000 0x40 16 32768 .route
  else if o < 0xD00000 then grid o 0xC00000 0x20 8 32768 .rcnt
  else
    match grid o 0xD00000 0x40 12 32768 .ctx with
    | some (.ctx i w) => if w = 6 ∨ w = 7 then none else some (.ctx i w)
    | _ => none

/-- A cluster area (Table 22-2), by offset from the cluster's base. -/
def Reg.ofCluster (c o : Nat) : Option Reg :=
  if o < 0xA0000 then
    let n := 10 * c + o / 0x10000
    let d := o % 0x10000
    match evtAt (.bus n) d 0x30 with
    | some r => some r
    | none => (BusReg.ofOff d).map (.bus n)
  else if o < 0x100000 then if o = 0xA0000 then some (.slice c) else none
  else if o < 0x160000 then
    let p := 6 * c + (o - 0x100000) / 0x10000
    let d := o % 0x10000
    match evtAt (.mac p) d 0x90 with
    | some r => some r
    | none => (MacReg.ofOff d).map (.mac p)
  else if o < 0x200000 then none
  else if o < 0x280000 then
    let g := 8 * c + (o - 0x200000) / 0x10000
    let d := o % 0x10000
    if d = 0x40 then if o = 0x200040 then some (.tile c) else none
    else if d < 0x10 then (run d 0 3).map (.eng g)
    else if d < 0x20 then evtAt (.eng g) d 0x10
    else (run d 0x20 8).map fun i => .eng g (i + 8)
  else if o < 0x300000 then if o = 0x280004 then some (.spareEng c) else none
  else if o < 0x380000 then
    let d := o - 0x300000
    match evtAt (.flt c) d 0x90 with
    | some r => some r
    | none => (FltReg.ofOff d).map (.flt c)
  else if o < 0x3C0000 then
    let d := o % 0x10000
    if d = 4 then none else (run d 0 8).map (.chk (4 * c + (o - 0x380000) / 0x10000))
  else
    let d := o - 0x3C0000
    if d < 0xC then (run d 0 3).map (.chkQ c)
    else if d < 0x1000 then evtAt (.chk c) d 0x10
    else (run d 0x1000 2048).map fun k => .chkQ c (k + 1024)

/-- The register word at a BAR0 byte offset, if Table 22-1, Table 22-2 and the block's chapter assign one. -/
def Reg.ofOff (o : Nat) : Option Reg :=
  if o % 4 ≠ 0 then none
  else if o < 0x10000 then Reg.ofLow o
  else if o < 0x40000 then Reg.ofMid o
  else if o < 0x400000 then none
  else if o < 0x1000000 then Reg.ofHigh o
  else if o < 0x2000000 then Reg.ofCluster ((o - 0x1000000) / 0x400000) ((o - 0x1000000) % 0x400000)
  else none

/-- Base of a cluster area (R729). -/
def clusterBase (c : Nat) : Nat := 0x1000000 + c * 0x400000

/-- Base of a bus lane window. -/
def busBase (n : Nat) : Nat := clusterBase (n / 10) + n % 10 * 0x10000

/-- Base of an Ethernet lane window. -/
def macBase (p : Nat) : Nat := clusterBase (p / 6) + 0x100000 + p % 6 * 0x10000

/-- Base of an engine window. -/
def engBase (g : Nat) : Nat := clusterBase (g / 8) + 0x200000 + g % 8 * 0x10000

/-- Base of a filter window. -/
def fltBase (c : Nat) : Nat := clusterBase c + 0x300000

/-- Base of a check unit window. -/
def chkBase (u : Nat) : Nat := clusterBase (u / 4) + 0x380000 + u % 4 * 0x10000

/-- Base of a cluster's check block. -/
def chkQBase (c : Nat) : Nat := clusterBase c + 0x3C0000

/-- Offset of a block's event register. -/
def Blk.evtOff : Blk → Nat
  | .bus n => busBase n + 0x30 | .mac p => macBase p + 0x90 | .flt c => fltBase c + 0x90
  | .chk c => chkQBase c + 0x10 | .eng g => engBase g + 0x10 | .pool => 0x4130 | .gw => 0x6010
  | .bcn => 0x8050 | .cyc => 0xA020 | .spar => 0x20800 | .pwr => 0x1E020 | .hlt => 0x22010
  | .kpr => 0x1C090 | .host => 0x1A010

def BusReg.off : BusReg → Nat
  | .mode => 0 | .ctrl => 4 | .stat => 8 | .errcnt => 0xC | .limits => 0x10 | .clashid => 0x18
  | .clashnode => 0x1C | .parked => 0x20 | .pending => 0x24 | .cnt i => 0x40 + 4 * i | .nbt => 0x100
  | .fdbt => 0x104 | .xdbt => 0x108 | .tdc => 0x10C | .line => 0x110 | .sigcfg => 0x114
  | .sigdrift => 0x118 | .siglast => 0x11C | .wake => 0x120 | .wufId => 0x124 | .wufIdmask => 0x128
  | .wufDmask w => 0x12C + 8 * w | .tdcv => 0x130

def MacReg.off : MacReg → Nat
  | .cfg => 0 | .stat => 4 | .addr w => 8 + 4 * w | .txthr => 0x10 | .eee => 0x14
  | .tcdepth w => 0x18 + 4 * w | .pause => 0x20 | .xoff => 0x24 | .preempt => 0x28 | .launch => 0x2C
  | .gateCtrl => 0x40 | .gateBase w => 0x44 + 4 * w | .gateCycle => 0x4C | .gateExt => 0x50
  | .cbs t => 0x60 + 4 * t | .cnt i => 0x100 + 4 * i | .meter i w => 0x200 + 12 * i + 4 * w
  | .gclAdmin i => 0x800 + 4 * i | .gclOper i => 0xA00 + 4 * i

def FltReg.off : FltReg → Nat
  | .cfg => 0 | .stat => 4 | .stage w => 0x40 + 4 * w | .op => 0x80 | .opstat => 0x84
  | .cnt i => 0xA0 + 4 * i | .hit i => 0x1000 + 4 * i

/-- The BAR0 byte offset of a register word. -/
def Reg.off : Reg → Nat
  | .idDev => 0 | .idCfg => 4 | .idPart w => 8 + 4 * w | .idSerial w => 0x18 + 4 * w | .idKeeper => 0x20
  | .idStruct => 0x24 | .idProto => 0x28 | .modStatus => 0x40 | .modReject a => 0x50 + 4 * a
  | .modRejectInfo => 0x5C | .modTemp => 0x60 | .modEvq => 0x64 | .modFault => 0x70
  | .modFaultTime w => 0x74 + 4 * w | .cmdqBase w => 0x100 + 4 * w | .cmdqCfg => 0x108
  | .cmdqTail => 0x10C | .cmdqHead => 0x110 | .modRate c => 0x480 + 4 * c
  | .micaStatus => 0x2000 | .micaError => 0x2004 | .micaErrorAux => 0x2008 | .micaStructId => 0x200C
  | .micaAutoload => 0x2010 | .micaVer c => 0x2020 + 4 * c
  | .poolMbop => 0x4000 | .poolEcc => 0x4010 | .poolEccInfo => 0x4014 | .poolRows => 0x4018
  | .poolBar2drop => 0x401C | .poolAuditCtrl => 0x4100 | .poolWdog => 0x4120
  | .poolAudit k w => 0x4200 + 0x10 * k + 4 * w | .poolAuditCells w => 0x4300 + 4 * w
  | .gwStat => 0x6000 | .gwCnt i => 0x6040 + 4 * i
  | .bcnNow w => 0x8000 + 4 * w | .bcnRaw w => 0x8010 + 4 * w | .bcnCfg => 0x8020 | .bcnJumpThr => 0x8024
  | .bcnServo => 0x8028 | .bcnCtrl => 0x802C | .bcnRate w => 0x8030 + 4 * w | .bcnAdj w => 0x8038 + 4 * w
  | .bcnStat => 0x8040 | .bcnOffset => 0x8044 | .bcnJump => 0x8048 | .bcnCnt i => 0x8060 + 4 * i
  | .bcnPort p w => 0x8400 + 0x40 * p + 4 * w
  | .cycCfg => 0xA000 | .cycPeriod => 0xA004 | .cycPhase => 0xA008 | .cycNow w => 0xA010 + 4 * w
  | .cycTl t w => 0xA400 + 0x20 * t + 4 * w
  | .chkCtxop => 0xC000 | .irqSpend w a => 0xE000 + 0x10 * w + 4 * a
  | .sleepReq => 0xE400 | .sleepAck => 0xE404 | .irqWake => 0xE408 | .irqWakeHold => 0xE40C
  | .fifo f w => 0x10000 + 0x10 * f + 4 * w | .irqSrc s => 0x14000 + 4 * s
  | .eq q w => 0x16000 + 0x20 * q + 4 * w | .hostQ q w => 0x18000 + 0x40 * q + 4 * w
  | .ywStat => 0x1A020 | .ywCnt i => 0x1A030 + 4 * i
  | .kprStat => 0x1C000 | .kprId => 0x1C004 | .kprFwver => 0x1C008 | .kprIf => 0x1C00C | .kprIf2 => 0x1C010
  | .kprChal w => 0x1C040 + 4 * w | .kprSlot i => 0x1C020 + 4 * i | .kprUpdAddr w => 0x1C050 + 4 * w
  | .kprUpdCtrl => 0x1C058 | .kprUpdResult => 0x1C05C | .kprDbg w => 0x1C060 + 4 * w
  | .kprTap w => 0x1C080 + 4 * w | .kprInbuf w => 0x1D000 + 4 * w
  | .pwr w => 0x1E000 + 4 * w | .pwrCnt i => 0x1E040 + 4 * i
  | .spar q w => 0x20000 + 0x20 * q + 4 * w | .sparAlloc => 0x20810
  | .hltPolicy => 0x22000 | .hltInv => 0x22004 | .hltRetest => 0x22008 | .hltHoldup => 0x2200C
  | .hltCnt i => 0x22020 + 4 * i | .hltRetired w => 0x22040 + 4 * w | .hltPend i => 0x22100 + 4 * i
  | .hltMargin i => 0x22200 + 4 * i | .cal i w => 0x30000 + 0x10 * i + 4 * w
  | .node i w => 0x400000 + 0x20 * i + 4 * w | .link i => 0x600000 + 4 * i
  | .desc i w => 0x800000 + 0x10 * i + 4 * w | .part i w => 0x900000 + 0x20 * i + 4 * w
  | .psnap i w => 0x920000 + 0x20 * i + 4 * w | .pcnt i w => 0x940000 + 0x10 * i + 4 * w
  | .route r w => 0xA00000 + 0x40 * r + 4 * w | .rcnt r w => 0xC00000 + 0x20 * r + 4 * w
  | .ctx i w => 0xD00000 + 0x40 * i + 4 * w
  | .evt b a => b.evtOff + 4 * a | .evten b => b.evtOff + 12
  | .bus n r => busBase n + r.off | .slice c => clusterBase c + 0xA0000
  | .mac p r => macBase p + r.off
  | .eng g w => engBase g + 4 * w
  | .tile c => clusterBase c + 0x200040 | .spareEng c => clusterBase c + 0x280004
  | .flt c r => fltBase c + r.off | .chk u w => chkBase u + 4 * w | .chkQ c w => chkQBase c + 4 * w

end Sys2Proof.Machine
end

