-- ==== Sys2Proof/Machine/Types/Check.lean ====
section
/-! DEFINITION. State types of the check-value units: stream contexts (Table 13-2, Table 13-10) and quarantine
rings (Table 13-3). -/
namespace Sys2Proof.Machine

/-- A loaded stream context and its alive-counter state. -/
structure Ctx where
  /-- Cluster whose scope carried it. -/
  cluster : Nat
  /-- The 24 bytes of Table 13-2. -/
  entry : List Byte
  seen : Bool
  last : Nat
  checkOk : Nat
  checkFail : Nat
  aliveRepeat : Nat
  skipLost : Nat
  /-- CHECK_FAIL, ALIVE_REPEAT, ALIVE_SKIP already raised in this cell cycle (R491). -/
  failRaised : Bool
  repeatRaised : Bool
  skipRaised : Bool
  deriving DecidableEq, Repr

/-- A cluster's quarantine ring. -/
structure Quar where
  head : Nat
  /-- Entries held, oldest first, 128 bytes each. -/
  held : List (List Byte)
  /-- Q_FULL has been raised since the ring last had room (R497). -/
  fullRaised : Bool
  deriving DecidableEq, Repr

end Sys2Proof.Machine
end

