-- ==== Sys2Proof/Machine/Types/Eth.lean ====
section
/-! DEFINITION. State types of an Ethernet port (R366 to R408): egress queues, timed launches, pauses, gates,
shapers, meters, preemption and low-power idle. -/
namespace Sys2Proof.Machine

/-- A frame in an egress queue or the launch queue of a port. -/
structure EthEntry where
  /-- First cell of its record; none for a frame the port itself built (Beacon's messages). -/
  record : Option Nat
  route : Nat
  /-- Tunnelled under R348: can_bus_id, tunnel block, tagged flag and sequence. -/
  acf : Option (Nat × List Byte × Bool × Nat)
  cls : Nat
  /-- Launch time in 2^-16 ns of Beacon time. -/
  launch : Option Nat
  /-- Its launch time had come when it was handed over (R32, R406). -/
  late : Bool
  stampReq : Bool
  tag : Nat
  /-- Octets of a frame without a record, FCS not included. -/
  octets : List Byte
  deriving DecidableEq, Repr

/-- What a port transmits. -/
inductive TxKind where
  /-- A PAUSE (false) or PFC (true) frame with the class vector and quanta that its registers held at its start. -/
  | control (pfc : Bool) (classes quanta : Nat)
  | launch (late : Bool) | queued | beacon
  deriving DecidableEq, Repr

/-- The frame a port is transmitting. -/
structure EthTx where
  kind : TxKind
  entry : EthEntry
  /-- A preemptable frame, and how often it has been cut (R392, R395). -/
  preemptable : Bool
  cuts : Nat
  deriving DecidableEq, Repr

/-- A gate schedule in force or committed (R398, R400). -/
structure GateList where
  /-- Entries: gate states and interval in ns. -/
  entries : List (Nat × Nat)
  /-- Base time and cycle in ns; extension in ns. -/
  base : Nat
  cycle : Nat
  ext : Nat
  deriving DecidableEq, Repr

/-- A pause of one class: quanta received and not yet in effect, or in force. -/
structure Pause where
  waiting : Option Nat
  inForce : Bool
  deriving DecidableEq, Repr

/-- A meter's buckets, in units of kbit/s times 2^-16 ns, and the raw Beacon count they were last filled to (R377). -/
structure Meter where
  green : Nat
  yellow : Nat
  filled : Nat
  /-- METER_DROP has been raised in this cell cycle. -/
  raised : Bool
  deriving DecidableEq, Repr

/-- An Ethernet port. Settings, counters, meters' settings and event bits are registers. -/
structure Port where
  link : Bool
  lpiTx : Bool
  lpiRx : Bool
  /-- Beacon's raw count up to which the transmitter wakes (R386). -/
  wakeUntil : Nat
  /-- Preemption is active (R394); failed verify attempts since the exchange began. -/
  preempt : Bool
  verifyTries : Nat
  verifyFailed : Bool
  queues : Tbl (List EthEntry)
  /-- Egress entries reserved per class for frames in transit. -/
  reserved : Tbl Nat
  launches : List EthEntry
  launchReserved : Nat
  tx : Option EthTx
  /-- A preempted frame whose remainder waits. -/
  suspended : Option EthTx
  pauses : Tbl Pause
  /-- PAUSE or PFC frames waiting to be sent: with pause_quanta (true) or zero. -/
  ctrl : List Bool
  /-- The port has sent a pause and its partner's charge stays above xon (R393). -/
  xoffSent : Bool
  oper : Option GateList
  admin : Option GateList
  /-- Gate states now in force, by the last boundary. -/
  gates : Nat
  meters : Tbl Meter
  /-- The shaper registers as they stood at the last frame start, by class (R409). -/
  cbs : Tbl Word
  /-- Shaper credit of each class, in units of kbit/s times 2^-16 ns, and the raw Beacon count it stands at. -/
  credit : Tbl Int
  creditAt : Nat
  seq : Nat
  /-- LAUNCH_LATE has been raised in this cell cycle (R406). -/
  lateRaised : Bool
  /-- The queue entry of timing_tc for Beacon's messages (R437). -/
  ptp : Option EthEntry
  syncSeq : Nat
  delaySeq : Nat
  retired : Bool
  deriving DecidableEq, Repr

end Sys2Proof.Machine
end

