-- ==== Sys2Proof/Machine/Types/Filter.lean ====
section
/-! DEFINITION. State types of a cluster's filter slice (Table 8-3 to Table 8-16). -/
namespace Sys2Proof.Machine

/-- Action codes of Table 8-4. -/
inductive FltAction where
  | accept | tap | reject
  deriving DecidableEq, Repr

/-- Impostor actions of Table 8-5. -/
inductive ImpAction where
  | deliver | drop | divert
  deriving DecidableEq, Repr

/-- An action block (Table 8-3). `none` stands for the codes that name nothing. -/
structure ActBlock where
  action : FltAction
  imp : ImpAction
  route : Nat
  divert : Nat
  partner : Option Nat
  node : Option Nat
  ctx : Option Nat
  deriving DecidableEq, Repr

/-- A valid exact slot: its projected key (128 bits) and action. -/
structure ExactEnt where
  key : Nat
  act : ActBlock
  deriving DecidableEq, Repr

/-- A valid masked entry. -/
structure MaskedEnt where
  post : Bool
  value : Nat
  mask : Nat
  act : ActBlock
  deriving DecidableEq, Repr

/-- A batched exact-table operation (Table 8-9, R325), as checked when it was written. -/
inductive BatchOp where
  | add (slot : Nat) (e : ExactEnt)
  | set (slot : Nat) (a : ActBlock)
  | del (slot : Nat)
  | move (src dst : Nat)
  deriving DecidableEq, Repr

/-- A filter slice. Absent slots and indices are empty. -/
structure Slice where
  seed : Nat
  activeBank : Bool
  exact : Tbl (Option ExactEnt)
  bank0 : Tbl (Option MaskedEnt)
  bank1 : Tbl (Option MaskedEnt)
  batch : List BatchOp
  busy : Bool
  status : Nat
  deriving DecidableEq, Repr

end Sys2Proof.Machine
end

