-- ==== Sys2Proof/Machine/Types/Keeper.lean ====
section
/-! DEFINITION. State types of Keeper (R625 to R651): key slots, firmware, lifecycle, stored objects, sessions and
storage operations. -/
namespace Sys2Proof.Machine

/-- Lifecycle states of Table 18-4. -/
inductive Lifecycle where
  | blank | factory | provisioned | deployed | serviceReturn | decommissioned
  deriving DecidableEq, Repr

/-- Key slot states of Table 18-10. -/
inductive SlotState where
  | empty | active | revoked
  deriving DecidableEq, Repr

structure KeySlot where
  state : SlotState
  purpose : Nat
  key : List Byte
  deriving DecidableEq, Repr

/-- Keeper firmware as its closing block describes it, and the slot and key its signature verified under. -/
structure Firmware where
  slot : Nat
  key : List Byte
  component : Nat
  version : Nat
  hwIf : Nat
  loaderIf : Nat
  personalityIf : Nat
  tileIf : Nat
  epoch : Nat
  deriving DecidableEq, Repr

/-- A stored Jadesum or tile image: its bytes with the closing block, and the slot that signed it. -/
structure StoredImage where
  tile : Bool
  component : Nat
  version : Nat
  slot : Nat
  bytes : List Byte
  deriving DecidableEq, Repr

/-- A tested-set entry: stepping mask and items of component and version. -/
structure TestedEntry where
  steppings : Nat
  items : List (Nat × Nat)
  deriving DecidableEq, Repr

structure TestedTable where
  seq : Nat
  entries : List TestedEntry
  deriving DecidableEq, Repr

/-- A Keeper storage operation and what it will store (R651). -/
inductive KOp where
  /-- With untested_set as R646 judged it, which the completed store leaves (R647). -/
  | firmware (f : Firmware) (untested : Bool)
  | image (x : StoredImage) (untested : Bool)
  | erase (component version : Nat)
  | tested (owner : Bool) (t : TestedTable)
  | policy (allow : Bool) (seq : Nat)
  | keyCert (slot : Nat) (k : KeySlot)
  | lifecycle (target : Lifecycle)
  | autoload (stream : List Byte)
  | beacon (regs : List (Nat × Word))
  | cal (values : Tbl Int)
  | health
  deriving DecidableEq, Repr

/-- An open debug session. -/
structure Session where
  /-- 1 OBSERVE, 2 FULL. -/
  level : Nat
  engines : Nat
  /-- Duration in seconds, and the raw Beacon value, in 2^-16 ns, that it began at. -/
  seconds : Nat
  opened : Int
  deriving DecidableEq, Repr

structure Keeper where
  lifecycle : Lifecycle
  /-- The one-time-programmable counter that advances with each change of the lifecycle (R635). It starts at
  0: DESIGN CHOICE (log 100). -/
  lifeCount : Nat
  slots : List KeySlot
  challenge : Nat
  /-- Firmware in slots A and B, the slot marked active, and whether B runs. -/
  fwA : Option Firmware
  fwB : Option Firmware
  activeB : Bool
  runsB : Bool
  fallback : Bool
  /-- Stored firmware epoch. -/
  epoch : Nat
  untested : Bool
  allow : Bool
  policySeq : Nat
  thrumsyn : TestedTable
  owner : TestedTable
  images : List StoredImage
  /-- The active autoload stream, and a complete copy that is not yet active (R102). -/
  autoload : Option (List Byte)
  copied : Option (List Byte)
  beacon : Option (List (Nat × Word))
  cal : Tbl Int
  health : HealthRec
  session : Option Session
  /-- Storage operations, the running or next one first, and whether the first has started (R672). -/
  ops : List KOp
  running : Bool
  done : Bool
  code : Nat
  deriving DecidableEq, Repr

end Sys2Proof.Machine
end

