-- ==== Sys2Proof/Machine/Types/Power.lean ====
section
/-! DEFINITION. State types of power entry (R652 to R678) and of the port power switches (R679 to R701). -/
namespace Sys2Proof.Machine

/-- Input switch states of Table 19-2. -/
inductive SwState where
  | off | inrush | on | limit | retryOff | latched
  deriving DecidableEq, Repr

/-- Power entry. Counters and event bits are registers. -/
structure Power where
  /-- Feeds in range (R655), and pins that carry at least 10 V (R665). -/
  feedA : Bool
  feedB : Bool
  pinA : Bool
  pinB : Bool
  /-- Ideal-diode elements the reverse threshold has not turned off; one conducts while its feed is in range too (R657). -/
  condA : Bool
  condB : Bool
  seatA : Bool
  seatB : Bool
  sw : SwState
  modPg : Bool
  warn : Bool
  passFault : Bool
  /-- Both elements are held off by an input PASS_FAULT until both feed pins stand below 10 V (R62, R666). -/
  blocked : Bool
  retries : Nat
  /-- Encoding of Table 19-4. -/
  cause : Nat
  /-- The store has reached V_store_full since the last OFF (R673). -/
  storeFull : Bool
  railsOk : Bool
  /-- Measured values: feed voltages in mV, store voltage in 10 mV, current in mA. -/
  vFeedA : Nat
  vFeedB : Nat
  vStore : Nat
  iIn : Nat
  capUf : Nat
  holdUs : Nat
  deriving DecidableEq, Repr

/-- Output states of Table 20-1. -/
inductive SparState where
  | off | detect | classify | inrush | on | limit | retryOff | latched | shed | passFault | retired
  deriving DecidableEq, Repr

/-- One port power output; its settings and counters are registers. -/
structure Spar where
  state : SparState
  commanded : Bool
  pg : Bool
  passFault : Bool
  retries : Nat
  segActive : Nat
  segSpare : Nat
  classValid : Bool
  cls : Nat
  /-- It waits for its turn in a start sequence (R683). -/
  queued : Bool
  vOut : Nat
  iOut : Nat
  deriving DecidableEq, Repr

/-- A POWER_PLAN entry in force (Table 20-4). -/
structure PlanEntry where
  onRun : Bool
  onStandby : Bool
  onSleep : Bool
  classify : Bool
  limit : Nat
  retryMax : Nat
  shedRank : Nat
  planOrder : Nat
  classMask : Nat
  tInrush : Nat
  deriving DecidableEq, Repr

end Sys2Proof.Machine
end

