-- ==== Sys2Proof/Machine/Types/Mica.lean ====
section
/-! DEFINITION. State types of the Mica loader (R79 to R117) and of the structure it has loaded. -/
namespace Sys2Proof.Machine

/-- How far a load has come. -/
inductive LoadPhase where
  /-- Fetched, and validation under way. -/
  | validate
  /-- Stages 1 to 5 have passed; stage 6 waits for other applies (R110). -/
  | stage6
  /-- Applied up to step 7; step 8 is due. -/
  | apply
  deriving DecidableEq, Repr

/-- The autoload copy of a load (R102). -/
inductive CopyState where
  | none | waiting | running | done
  deriving DecidableEq, Repr

/-- A load in progress: target 0 to 3 a cluster, 4 a FULL stream. -/
structure LoadJob where
  target : Nat
  /-- The autoload at the end of BRING-UP. -/
  auto : Bool
  phase : LoadPhase
  stream : List Byte
  copy : CopyState
  deriving DecidableEq, Repr

/-- Identity and requirements of a loaded stream (R644). -/
structure StreamId where
  component : Nat
  version : Nat
  loaderIf : Nat
  personalityIf : Nat
  tileIf : Nat
  deriving DecidableEq, Repr

/-- A loaded image or tile image as R644 counts it: the engine, or 32 + c for a tile. -/
structure ImageId where
  unit : Nat
  component : Nat
  version : Nat
  requires : Nat
  deriving DecidableEq, Repr

/-- What the loader keeps of the structure in force beyond the tables it wrote. -/
structure Structure where
  id : Nat
  clusters : Nat
  budgetMa : Nat
  holdMaxMs : Nat
  full : StreamId
  /-- Last CLUSTER stream of each cluster since the FULL stream. -/
  reloaded : Tbl (Option StreamId)
  /-- Units with use = 1: channel n, port 40 + p, check unit 64 + u. -/
  used : Tbl Bool
  images : List ImageId
  plan : Tbl (Option PlanEntry)
  deriving DecidableEq, Repr

end Sys2Proof.Machine
end

