-- ==== Sys2Proof/Machine/Types/Module.lean ====
section
/-! DEFINITION. State types of the module level: modes (Table 2-1), fuses (R739), commands (Table 2-5), event
records and queues (R580 to R594), shared interrupt sources (R570), the PCI Express function, the host descriptor
queues (R602 to R616) and the Yewirak link (R617 to R624). -/
namespace Sys2Proof.Machine

/-- The fourteen modes of Table 2-1. -/
inductive Mode where
  | off | seating | inrush | bringUp | unconfigured | configuring | operational | degraded
  | reconfiguring | standby | sleep | service | test | faultHold
  deriving DecidableEq, Repr

/-- Hold causes of Table 2-4; `none` outside FAULT-HOLD. -/
inductive HoldCause where
  | none | bringupTimeout | keeperBootFail | selftestFail | inputPassFault | overtemp | holdupFail
  deriving DecidableEq, Repr

/-- What one-time-programmable memory gives the module (R4, R5, Table 22-6 to Table 22-9, Table 10-8). -/
structure Fuse where
  /-- Bit c set if cluster c is present. -/
  clusters : Nat
  /-- Option P, port power. -/
  optP : Bool
  /-- Option T, customer tiles. -/
  optT : Bool
  vendor : Nat
  device : Nat
  stepping : Nat
  serial : Nat
  /-- The 16 ASCII bytes of the part number. -/
  part : List Nat
  /-- Hardware interface the stepping provides (KPR_ID). -/
  hwIf : Nat
  /-- Factory base of the 24 port addresses. -/
  macBase : Nat
  /-- Factory calibration values by item (R723, Table 21-7). -/
  cal : Tbl Int
  deriving DecidableEq, Repr

/-- Who submitted a command: the host address of its entry, or a Yewirak COMMAND request. -/
inductive CmdOrigin where
  | host (addr : Nat)
  | yewirak
  deriving DecidableEq, Repr

/-- A command entry at the executor (Table 2-5). -/
structure Cmd where
  origin : CmdOrigin
  opcode : Nat
  target : Nat
  tag : Nat
  args : List Byte
  /-- Its form is faulty (R67). -/
  bad : Bool := false
  deriving DecidableEq, Repr

/-- The mode controller and the command executor. -/
structure ModeCtl where
  mode : Mode
  prev : Mode
  hold : HoldCause
  /-- The hold cause is still present (R62). -/
  causePresent : Bool
  /-- Bit c set while cluster c reconfigures. -/
  reconfig : Nat
  /-- Bit c set once hold_max_ms has run out in cluster c's reconfiguration (R117). -/
  holdEnded : Nat
  /-- The command being executed (R63). -/
  exec : Option Cmd
  /-- Commands that arrived at the executor meanwhile (R65). -/
  waiting : List Cmd
  /-- A wake source fired while ENTER_SLEEP executes (R58), and the channels that fired with their causes. -/
  wakePending : Bool
  wakeFired : List (Nat × Nat)
  /-- Beacon's raw count as a wake ended SLEEP: channels that fire at that moment fire together (R163). -/
  wokeAt : Option Nat
  deriving DecidableEq, Repr

/-- An event record before its phase bit is known (Table 16-12). -/
structure EvRec where
  stamp : Nat
  info : Nat
  unit : Nat
  code : Nat
  block : Nat
  deriving DecidableEq, Repr

/-- The running state of one event queue; its base and settings are registers (Table 16-15, Table 16-16). -/
structure EventQ where
  head : Nat
  tail : Nat
  /-- Slots reserved for held records (R584, R590). -/
  reserved : Nat
  phase : Bool
  armed : Bool
  overflow : Bool
  /-- The moderation timer runs (R586). -/
  timer : Bool
  lost : Nat
  deriving DecidableEq, Repr

/-- One shared interrupt source (Table 16-3). Of a level source, pending follows its condition (R565) and the
stored bit is unused. -/
structure IrqSrc where
  enable : Bool
  edge : Bool
  pending : Bool
  count : Nat
  /-- A level source claimed and not sampled since (R568, R570, R572): not pending whatever its condition. -/
  masked : Bool
  priority : Nat
  targetValid : Bool
  target : Nat
  queue : Nat
  deriving DecidableEq, Repr

/-- One MSI-X table entry and its pending bit (R601). -/
structure Msix where
  addr : Nat
  data : Nat
  masked : Bool
  pending : Bool
  deriving DecidableEq, Repr

/-- The PCI Express function as far as the module's behaviour rests on it. -/
structure HostLink where
  /-- The link is in L0 or L1. -/
  up : Bool
  /-- The link is in L1 or an L1 sub-state (R593). -/
  l1 : Bool
  d3hot : Bool
  /-- Bus Master Enable. -/
  busMaster : Bool
  pmeEn : Bool
  pmeStatus : Bool
  /-- PERST# asserted. -/
  perst : Bool
  /-- The module asserts WAKE# (R54). -/
  wakePin : Bool
  /-- MSI-X function mask. -/
  fnMask : Bool
  msix : Tbl Msix
  deriving DecidableEq, Repr

/-- How far a fetched or reserved host descriptor slot has come (R603, R609). -/
inductive SlotPhase where
  /-- RX: reserved for a frame, not yet fetched. -/
  | reserved
  /-- Fetched and, for RX, sound; for TX, waiting for its grant. -/
  | fetched
  /-- Its write-back is due and waits for the slots before it. -/
  | due
  /-- RX: posted again without its record (R615). -/
  | posted
  deriving DecidableEq, Repr

/-- A host descriptor in flight (R604). -/
structure HostSlot where
  index : Nat
  phase : SlotPhase
  /-- The descriptor's 32 bytes as fetched. -/
  raw : List Byte
  status : Nat
  written : Nat
  deriving DecidableEq, Repr

/-- One host descriptor queue; base, direction and partner are registers (Table 17-9, Table 17-10). -/
structure HostQ where
  enable : Bool
  stopping : Bool
  fault : Bool
  /-- Depth of the HOST_QUEUE entry; 0 if none. -/
  depth : Nat
  head : Nat
  tail : Nat
  seq : Nat
  /-- Slots in flight, in ring order from `head`. -/
  flight : List HostSlot
  deriving DecidableEq, Repr

/-- The Yewirak link's protocol state (R617 to R622). -/
structure Yewirak where
  up : Bool
  /-- A COMMAND request not yet answered: type, sequence number and payload. -/
  open_ : Option (Nat × Nat × List Byte)
  /-- The previous request (type, sequence, payload) and its response payload. -/
  last : Option (Nat × Nat × List Byte × List Byte)
  deriving DecidableEq, Repr

/-- What the module sends out of itself: the model's own record, newest first. -/
inductive Out where
  /-- A write request to host memory. -/
  | hostWrite (addr : Nat) (bytes : List Byte)
  /-- An MSI-X message. -/
  | msix (vector : Nat)
  /-- A PME message. -/
  | pme
  /-- The level of the WAKE# output (true: asserted). -/
  | wakePin (asserted : Bool)
  /-- What a read over the host link returns: the BAR, the offset and the word. -/
  | hostRead (bar off : Nat) (value : Word)
  /-- The octets of a Yewirak response (Table 17-5). -/
  | yewirak (frame : List Byte)
  /-- A level driven on a cell pin: 0 PPS_OUT, 1 SYNC_OUT, 2 MOD_PG, 3 PWR_WARN#. -/
  | pin (which : Nat) (level : Bool)
  /-- A bus frame that became valid on channel n, as sent: format, flags, identifier and XL fields of Table 6-2, and
  its data. -/
  | busFrame (n : Nat) (frame : Frame)
  /-- An Ethernet frame sent on port p: its octets without FCS. -/
  | ethFrame (p : Nat) (bytes : List Byte)
  /-- A frame that an underrun cut short on port p, ended with a complemented FCS or mCRC (R384): the octets it would
  have carried. -/
  | ethCut (p : Nat) (bytes : List Byte)
  /-- What tile c's port reports to its logic of a frame it did not take: a submission status of Table 14-7 (R523). -/
  | tileReport (c status : Nat)
  /-- A PAUSE (false) or PFC (true) frame sent on port p: source address, class vector and quanta of its classes. -/
  | pauseFrame (p src : Nat) (pfc : Bool) (classes quanta : Nat)
  deriving DecidableEq, Repr

end Sys2Proof.Machine
end

