-- ==== Sys2Proof/Machine/State.lean ====
section
/-! DEFINITION. The machine's state as plain data, its reset value, and the reasons a step can stop. -/
namespace Sys2Proof.Machine

/-- Reasons a step stops with a fault. No command raises one: every access of a 26-bit BAR0 offset or a 24-bit BAR2
offset is answered by R7, R48, R227, R228, R730 or R741. -/
inductive Fault where
  /-- Never raised by a meaning. -/
  | none
  deriving DecidableEq, Repr

/-- Reasons a command is refused. -/
inductive Refusal where
  /-- The command has no meaning yet. Raised by exec's arms only; safe. -/
  | notModelled (mnemonic : String)
  deriving DecidableEq, Repr

structure State where
  /-- Commands waiting, first in, first out. -/
  pending : List Instr
  fuse : Fuse
  ctl : ModeCtl
  /-- Stored register words by BAR0 offset; an unlisted word reads as its reset value. -/
  regs : Tbl Word
  /-- Staged words of wide registers, key link * 2^26 + offset (R733). -/
  stage : Tbl (Option Word)
  /-- Latched words, key link * 2^26 + offset (R733, R152, R238). -/
  latch : Tbl (Option Word)
  /-- Cell memory: byte k of cell i at i * 64 + k (R222). An unlisted byte reads as zero (R762). -/
  mem : List Host.Cell
  links : Tbl Link1
  recs : Tbl (Option Rec)
  descs : Tbl Desc
  fifos : Tbl Fifo
  partners : Tbl Partner
  books : Books
  transit : List Transit
  held : List HeldFrame
  waits : List WaitReq
  /-- Next identity of a frame in transit or a waiting request. -/
  nextId : Nat
  /-- Snapshot of the partner table (R288): word w of entry i at 8 * i + w. -/
  psnap : Tbl Word
  /-- Rows retired (bank * 512 + row) and spare rows used per bank. -/
  retiredRows : List Nat
  spareRows : Tbl Nat
  slices : Tbl Slice
  /-- Route entries of 64 bytes; empty entries are empty lists. -/
  routes : Tbl (List Byte)
  /-- Owner of each loaded route (R336); 4, the module, is unlisted. -/
  routeOwners : Tbl Nat
  tunSeq : Tbl Nat
  /-- Routes that have raised GW_LATE, and GW_DEST_DOWN, in this cell cycle. -/
  gwLate : List Nat
  gwDown : List Nat
  irq : Tbl IrqSrc
  eqs : Tbl EventQ
  /-- The hold store: queue and record, oldest first (R590). -/
  hold : List (Nat × EvRec)
  host : HostLink
  hostQs : Tbl HostQ
  yw : Yewirak
  beacon : Beacon
  bports : Tbl BcnPort
  bus : Tbl BusLane
  nodes : Tbl NodeEnt
  ports : Tbl Port
  cycle : Option CycleCfg
  /-- Number of the last nominal cycle whose start has taken effect (R456). -/
  gridK : Option Nat
  /-- Schedules and timelines by timeline number: n, or 40 + g. -/
  scheds : Tbl (Option Schedule)
  timelines : Tbl Timeline
  ctxs : Tbl (Option Ctx)
  quar : Tbl Quar
  chkRetired : Tbl Bool
  engines : Tbl Engine
  /-- Cluster shared memory, address cluster * 2^21 + offset, and its words with uncorrectable errors. -/
  shared : Tbl Byte
  tiles : Tbl Tile
  /-- The loads in progress, by target. -/
  loads : Tbl (Option LoadJob)
  /-- The structure in force; none if none is loaded. -/
  struct : Option Structure
  keeper : Keeper
  power : Power
  spars : Tbl Spar
  health : Health
  /-- The model's own: what the module has sent, newest first. -/
  out : List Out
  /-- The model's own: draws made from free values. -/
  free : Nat
  deriving DecidableEq, Repr

/-- What a command's meaning answers. -/
abbrev Answer := Host.Outcome State Fault Refusal

/-! ### The state after reset (R739, R761)

What the spec gives no reset value is a DESIGN CHOICE: fuses (log 1), Keeper storage (log 2). -/

/-- A KX64 with options P and T; identity numbers zero. DESIGN CHOICE (log 1). -/
def Fuse.reset : Fuse :=
  { clusters := 0xF, optP := true, optT := true, vendor := 0, device := 0xCA64, stepping := 0, serial := 0,
    part := List.replicate 16 0, hwIf := 1, macBase := 0, cal := [] }

def ModeCtl.reset : ModeCtl :=
  { mode := .seating, prev := .off, hold := .none, causePresent := false, reconfig := 0, holdEnded := 0,
    exec := none, waiting := [], wakePending := false, wakeFired := [], wokeAt := none }

def Books.reset : Books :=
  { eSet := 0, e := 0, rt := 12288, short := false, loaderHold := 0, hand := [], handAt := 0, turns := [] }

def HostLink.reset : HostLink :=
  { up := false, l1 := false, d3hot := false, busMaster := false, pmeEn := false, pmeStatus := false, perst := true,
    wakePin := false, fnMask := false, msix := [] }

def Yewirak.reset : Yewirak := { up := false, open_ := none, last := none }

def Beacon.reset : Beacon :=
  { running := false, raw := 0, aRaw := 0, aT := 0, corr := 0, integ := 0, floor := 0, state := .free,
    stepAvail := true, refusing := false, clamped := false, saveFailed := false, ppsLast := none, ppsMissed := 0,
    ppsNext := 0, ppsUntil := none, syncHigh := false, past := [], written := none, tlv := [] }

def KeySlot.empty : KeySlot := ⟨.empty, 0, []⟩

/-- The health record of a module that has never lost anything. -/
def HealthRec.clean : HealthRec :=
  { retired := [], engFailed := 0, sliceFailed := 0, engServes := [], sliceServes := [], drivers := [], passes := [],
    rows := [], spareRows := [], passFaults := [], outRetired := [], inputFault := false,
    segs := [], badSegs := [], firstUf := 0, lastUf := 0 }

def Health.fresh : Health :=
  { slices := [], pends := [], unrecorded := [], due := [], declined := [], told := [], low := [],
    checkpointed := [], firstUf := 0, lastUf := 0, retest := none, segs := [], badSegs := [],
    rateTold := [], tempSeen := false }

/-- PROVISIONED, with the two factory slots of Table 18-1 and one firmware. DESIGN CHOICE (log 2). -/
def Keeper.reset : Keeper :=
  { lifecycle := .provisioned, lifeCount := 0,
    slots := [⟨.active, 0xEB, [0]⟩, ⟨.active, 0x0A, [1]⟩] ++ List.replicate 6 KeySlot.empty,
    challenge := 0, fwA := some ⟨0, [0], 0, 0, 1, 1, 1, 1, 0⟩, fwB := none, activeB := false, runsB := false,
    fallback := false, epoch := 0, untested := false, allow := false, policySeq := 0, thrumsyn := ⟨0, []⟩, owner := ⟨0, []⟩,
    images := [], autoload := none, copied := none, beacon := none, cal := [], health := HealthRec.clean,
    session := none, ops := [], running := false, done := false, code := 0 }

def Power.reset : Power :=
  { feedA := false, feedB := false, pinA := false, pinB := false, condA := false, condB := false, seatA := false,
    seatB := false, sw := .off, modPg := false, warn := false, passFault := false, blocked := false, retries := 0,
    cause := 0,
    storeFull := false, railsOk := false, vFeedA := 0, vFeedB := 0, vStore := 0, iIn := 0, capUf := 0, holdUs := 0 }

/-- The machine right after reset: the identity domain in SEATING, everything else at its numbered reset value
(R739). -/
def State.reset : State :=
  { pending := [], fuse := Fuse.reset, ctl := ModeCtl.reset, regs := [], stage := [], latch := [], mem := [],
    links := [], recs := [], descs := [], fifos := [], partners := [], books := Books.reset, transit := [], held := [],
    waits := [], nextId := 0, psnap := [], retiredRows := [], spareRows := [], slices := [], routes := [],
    routeOwners := [], tunSeq := [], gwLate := [], gwDown := [], irq := [], eqs := [], hold := [],
    host := HostLink.reset, hostQs := [], yw := Yewirak.reset, beacon := Beacon.reset, bports := [], bus := [],
    nodes := [], ports := [], cycle := none, gridK := none, scheds := [], timelines := [], ctxs := [], quar := [],
    chkRetired := [], engines := [], shared := [], tiles := [], loads := [], struct := none, keeper := Keeper.reset,
    power := Power.reset, spars := [], health := Health.fresh, out := [], free := 0 }

end Sys2Proof.Machine
end

