-- ==== Sys2Proof/Machine/Defaults.lean ====
section
/-! DEFINITION. What every replicated unit reads as before anything has happened to it: the reset values of the
tables of State, and the codes of the encodings the register views show. -/
namespace Sys2Proof.Machine

def Mode.code : Mode → Nat
  | .off => 0 | .seating => 1 | .inrush => 2 | .bringUp => 3 | .unconfigured => 4 | .configuring => 5
  | .operational => 6 | .degraded => 7 | .reconfiguring => 8 | .standby => 9 | .sleep => 10
  | .service => 11 | .test => 12 | .faultHold => 13

def HoldCause.code : HoldCause → Nat
  | .none => 0 | .bringupTimeout => 1 | .keeperBootFail => 2 | .selftestFail => 3
  | .inputPassFault => 4 | .overtemp => 5 | .holdupFail => 6

def DescKind.code : DescKind → Nat
  | .unused => 0 | .rxMailbox => 1 | .rxFifo => 2 | .txStatic => 3 | .txQueue => 4

def DescState.code : DescState → Nat
  | .empty => 0 | .new => 1 | .seen => 2 | .ready => 3 | .loaded => 4 | .idle => 5

def Xcvr.code : Xcvr → Nat
  | .off => 0 | .wakeListen => 1 | .sic => 2 | .fastTx => 3 | .fastRx => 4

def CtlState.code : CtlState → Nat
  | .quiet => 0 | .integrating => 1 | .idle => 2 | .receiving => 3 | .transmitting => 4
  | .errorFlag => 5 | .recovering => 6

def ConfState.code : ConfState → Nat
  | .active => 0 | .passive => 1 | .busOff => 2

def Servo.code : Servo → Nat
  | .free => 0 | .acquire => 1 | .locked => 2 | .holdover => 3

def Role.code : Role → Nat
  | .none => 0 | .master => 1 | .follower => 2 | .backup => 3

def EngState.code : EngState → Nat
  | .unused => 0 | .reset => 1 | .running => 2 | .waiting => 3 | .haltedFault => 4 | .stopped => 5
  | .restarting => 6 | .retired => 7

def RestartCause.code : RestartCause → Nat
  | .cold => 0 | .spare => 1 | .reloadFail => 2 | .host => 3 | .wake => 4

def Link1.free : Link1 := ⟨false, false, false, 0⟩

def TxJob.none : TxJob := ⟨0xFFFF, 0, Option.none, Option.none⟩

/-- An UNUSED descriptor: every field zero (Table 6-6). -/
def Desc.unused : Desc :=
  { kind := .unused, state := .empty, keep := false, locked := false, commitPending := false, damaged := false,
    outcome := 0, overrun := 0, current := none, shadow := none, bindKind := 0, bindIndex := 0, maxCells := 0,
    queue := 0, slot := none, job := TxJob.none }

def Fifo.none : Fifo := ⟨0, false, 0, 0, 0⟩

/-- Owner of a partner under R263, user partners apart: cluster 0 to 3, 4 the module. -/
def ownerOf (p : Nat) : Nat :=
  if p < 40 then p / 10 else if p < 64 then (p - 40) / 6 else if p < 96 then (p - 64) / 8
  else if p < 100 then p - 96 else 4

/-- A partner without quotas (R295). -/
def Partner.none (p : Nat) : Partner :=
  { allocated := false, emEligible := false, owner := ownerOf p, weight := 0, age := 0, g := 0, b := 0,
    emMax := 0, guar := 0, borr := 0, em := 0, deficit := 0, refused := false, standby := 0 }

def Slice.empty : Slice := ⟨0, false, [], [], [], [], false, 0⟩

/-- A source is of event kind: 108 and the software sources (Table 16-2). -/
def isEventSrc (s : Nat) : Bool := s == 108 || (512 ≤ s && s < 1024)

/-- A source that can ever be pending (Table 16-2). -/
def isLiveSrc (s : Nat) : Bool := s < 109 || (110 ≤ s && s < 115) || (512 ≤ s && s < 1024)

def IrqSrc.reset (s : Nat) : IrqSrc :=
  { enable := false, edge := isEventSrc s, pending := false, count := 0, masked := false,
    priority := 0, targetValid := false, target := 0, queue := 0xFF }

/-- The phase a queue has before it is first enabled reads 0 (Table 16-18). -/
def EventQ.reset : EventQ := ⟨0, 0, 0, false, false, false, false, 0⟩

/-- PCI Express resets each MSI-X vector's mask bit to 1. PRESUMED (log 6). -/
def Msix.reset : Msix := ⟨0, 0, true, false⟩

def HostQ.reset : HostQ := ⟨false, false, false, 0, 0, 0, 0, []⟩

def BcnPort.reset : BcnPort :=
  { delay := 0, dValid := false, hold := false, holdLeft := 0, holdNext := 0, syncLog := 0, latest := 0, corrAt := 0,
    integAt := 0, sync := none, tsq := [] }

/-- A bus channel held quiet, as BRING-UP leaves it. -/
def BusLane.reset : BusLane :=
  { ctl := .quiet, conf := .active, tec := 0, recv := 0, boSeq := 0, recovering := false,
    ew := false, noPartner := false, held := false, ackRun := 0, lec := 0, slots := [], ready := [], order := 0,
    reserved := 0, current := none, nodeFull := false, seq := 0, fdTdcv := none, xlTdcv := none,
    wakeCause := 0, wakeErr := 0, sig := ⟨none, none, none⟩, sigcfg := 0, limits := 0,
    hist := [], lonelyNew := false, sofRaw := 0, sentLast := false, clashId := 0, clashNode := 0xFFFD0000,
    segActive := 8, segSpare := 2, retired := false }

def NodeEnt.free : NodeEnt :=
  ⟨0, 0, 0, [0, 0, 0], [0, 0, 0], [0, 0, 0], [false, false, false], 0, 0⟩

def Pause.none : Pause := ⟨Option.none, false⟩

def Meter.empty : Meter := ⟨0, 0, 0, false⟩

def Port.reset : Port :=
  { link := false, lpiTx := false, lpiRx := false, wakeUntil := 0, preempt := false, verifyTries := 0,
    verifyFailed := false, queues := [], reserved := [], launches := [], launchReserved := 0, tx := none,
    suspended := none, pauses := [], ctrl := [], xoffSent := false, oper := none, admin := none, gates := 0xFF,
    meters := [], cbs := [], credit := [], creditAt := 0, seq := 0, lateRaised := false, ptp := none, syncSeq := 0, delaySeq := 0,
    retired := false }

def Timeline.stopped : Timeline :=
  { active := false, acting := false, synced := false, k := 0, start := 0, phase := 0, current := none,
    rest := [], notBefore := 0, exempt := false, lateRaised := false, disc := false, refDisc := false,
    refSeen := false, refMissed := false, refSlot := none, refBusy := false, refLost := false, lateSeen := [], triggered := [], skipped := [],
    taskOpen := false }

def Quar.empty : Quar := ⟨0, [], false⟩

def PrivSrc.idle : PrivSrc := ⟨false, 0, false⟩

/-- Control registers at an engine start, general registers zero (R527, R528, R578). -/
def Cpu.start : Cpu :=
  { x := List.replicate 16 0, pc := 0, psr := 0, loops := List.replicate 4 ⟨0, 0, 0⟩, ecfg := 2, vbase := 0,
    tcause := 0, taddr := 0, tval := 0, icnt := 0, event := false, wait := .none, claims := [], icClaim := 0,
    lateCount := 0, chainCount := 0, pen0 := 0, pen1 := 0, ppri := List.replicate 8 0, src := [], reading := 0,
    tsqStamp := 0 }

def Engine.unused : Engine :=
  { state := .unused, cause := .cold, image := none, cpu := Cpu.start, imem := [], dmem := [],
    inboxes := [], reserved := [], subs := [], done := [], seq := 0, ckptValid := false, ckptSeq := 0,
    ckpt0 := [], ckpt1 := [], ckptCur := false, dbgHalt := false, serving := none, retired := false,
    discarded := 0 }

def Tile.none : Tile := ⟨Option.none, [], false, [], 0⟩

def Spar.reset : Spar := ⟨.off, false, false, false, 0, 8, 2, false, 0, false, 0, 0⟩

def SpareSlice.idle : SpareSlice := ⟨.idle, none⟩

def Lifecycle.code : Lifecycle → Nat
  | .blank => 0 | .factory => 1 | .provisioned => 2 | .deployed => 3 | .serviceReturn => 4
  | .decommissioned => 5

def SlotState.code : SlotState → Nat
  | .empty => 0 | .active => 1 | .revoked => 2

def SwState.code : SwState → Nat
  | .off => 0 | .inrush => 1 | .on => 2 | .limit => 3 | .retryOff => 4 | .latched => 5

def SparState.code : SparState → Nat
  | .off => 0 | .detect => 1 | .classify => 2 | .inrush => 3 | .on => 4 | .limit => 5 | .retryOff => 6
  | .latched => 7 | .shed => 8 | .passFault => 9 | .retired => 10

def SliceState.code : SliceState → Nat
  | .idle => 0 | .readying => 1 | .serving => 2 | .failed => 3

end Sys2Proof.Machine
end

