-- ==== Sys2Proof/Machine/RegReset.lean ====
section
/-! DEFINITION. The numbered reset values of the stored register words (R739, the Reset columns of the field
maps). A word not listed resets to zero. -/
namespace Sys2Proof.Machine

/-- Reset value of a block's EVTEN register. -/
def Blk.evtenReset : Blk → Nat
  | .bus _ => 0x7FFF | .mac _ => 0x7F | .flt _ => 7 | .chk _ => 0xF | .eng _ => 3 | .pool => 0x1F
  | .gw => 0xF | .bcn => 0x7F | .cyc => 0x3F | .spar => 0x7F | .pwr => 0x7F | .hlt => 0xFF
  | .kpr => 0x3F | .host => 0x1F

def BusReg.reset : BusReg → Nat
  | .mode => 0x0400_6400
  | .limits => 0x8060_0840
  | .nbt => 0x00CF_878F
  | .fdbt => 0x0000_EA73
  | .xdbt => 0x0000_3484
  | .tdc => 0xC000_3CF0
  | .sigcfg => 0xE400_80A0
  | .sigdrift => 0x0008_0C08
  | _ => 0

/-- Factory address of port `p` with its first octet in bits 7 to 0: the 48-bit base, first octet most significant, plus
`p`, so that the ports carry consecutive addresses (R370, Table 10-7). -/
def portAddr (f : Fuse) (p : Nat) : Nat := ofLe (leBytes 6 ((f.macBase + p) % 2 ^ 48)).reverse

def MacReg.reset (f : Fuse) (p : Nat) : MacReg → Nat
  | .cfg => (if p % 6 = 5 then 4 else 1) * 2 ^ 29 + 2 ^ 27 + 0x5F2 * 2 ^ 12
  | .addr w => if w = 0 then portAddr f p % 2 ^ 32 else portAddr f p / 2 ^ 32
  | .txthr => 0x100
  | .eee => 0x0064_0014
  | .tcdepth _ => 0x2020_2020
  | .pause => 0x00FF_FFFF
  | .xoff => 0x0300_0200
  | .preempt => 0x0000_0AFF
  | .gateCtrl => 1
  | .gateCycle => 0x3_D090
  | .gclAdmin _ => 0xFF03_D090
  | .gclOper _ => 0xFF03_D090
  | _ => 0

/-- Reset value of a register word. -/
def Reg.resetNat (f : Fuse) : Reg → Nat
  | .modRate _ => 0x2BC * 2 ^ 16
  | .cmdqCfg => 4
  | .poolWdog => 0x14
  | .bcnCfg => 0x0010_0064
  | .bcnJumpThr => 0x3E8
  | .bcnServo => 0x14
  | .bcnPort _ w => if w = 0 then 0x0700_D000 else if w = 1 then 0x0010_0032 else 0
  | .irqWakeHold => 0x14
  | .eq _ w => if w = 2 then 0x0401_0000 else 0
  | .chk _ w => if w = 2 then 7 else 0
  | .spar _ w => if w = 0 then 0x0050_140A else 0
  | .hltPolicy => 5
  | .evten b => b.evtenReset
  | .bus _ r => r.reset
  | .mac p r => r.reset f p
  | _ => 0

/-- Reset value of the word at a BAR0 offset; offsets of clusters the fuses leave out hold nothing (R7). -/
def resetWord (f : Fuse) (off : Nat) : Word :=
  match Reg.ofOff off with
  | some r => BitVec.ofNat 32 (r.resetNat f)
  | none => 0

end Sys2Proof.Machine
end

