-- ==== Sys2Proof/Machine/Ops.lean ====
section
/-! DEFINITION. Named reads and writes of the state: registers, sparse tables, cell memory, Beacon time and the
module's outputs. Meanings touch State through these. -/
namespace Sys2Proof.Machine

/-! ### Registers -/

/-- A stored register word. -/
def State.rd (s : State) (off : Nat) : Word := s.regs.get (resetWord s.fuse) off

/-- Stores a register word. -/
def State.wr (off : Nat) (w : Word) (s : State) : State :=
  { s with regs := s.regs.set (resetWord s.fuse) off w }

/-- A field of a stored register word. -/
def State.rf (s : State) (off lo len : Nat) : Nat := fld (s.rd off) lo len

/-- A bit of a stored register word. -/
def State.rb (s : State) (off i : Nat) : Bool := bit (s.rd off) i

/-- Stores a field. -/
def State.setf (off lo len v : Nat) (s : State) : State := s.wr off (setFld (s.rd off) lo len v)

/-- Adds to a 32-bit saturating counter (RC registers). -/
def State.cnt (off : Nat) (s : State) (n : Nat := 1) : State :=
  s.wr off (wd (satAdd 0xFFFF_FFFF (s.rd off).toNat n))

/-- Adds to a saturating counter field. -/
def State.cntF (off lo len : Nat) (s : State) (n : Nat := 1) : State :=
  s.setf off lo len (satAdd (2 ^ len - 1) (s.rf off lo len) n)

/-! ### Tables -/

def State.desc (s : State) (i : Nat) : Desc := s.descs.get (fun _ => Desc.unused) i
def State.setDesc (i : Nat) (d : Desc) (s : State) : State :=
  { s with descs := s.descs.set (fun _ => Desc.unused) i d }

def State.fifo (s : State) (f : Nat) : Fifo := s.fifos.get (fun _ => Fifo.none) f
def State.setFifo (f : Nat) (x : Fifo) (s : State) : State :=
  { s with fifos := s.fifos.set (fun _ => Fifo.none) f x }

def State.link (s : State) (i : Nat) : Link1 := s.links.get (fun _ => Link1.free) i
def State.setLink (i : Nat) (x : Link1) (s : State) : State :=
  { s with links := s.links.set (fun _ => Link1.free) i x }

def State.record (s : State) (i : Nat) : Option Rec := s.recs.get (fun _ => none) i
def State.setRecord (i : Nat) (x : Option Rec) (s : State) : State :=
  { s with recs := s.recs.set (fun _ => none) i x }

def State.partner (s : State) (p : Nat) : Partner := s.partners.get Partner.none p
def State.setPartner (p : Nat) (x : Partner) (s : State) : State :=
  { s with partners := s.partners.set Partner.none p x }

def State.slice (s : State) (c : Nat) : Slice := s.slices.get (fun _ => Slice.empty) c
def State.setSlice (c : Nat) (x : Slice) (s : State) : State :=
  { s with slices := s.slices.set (fun _ => Slice.empty) c x }

def State.route (s : State) (r : Nat) : List Byte := s.routes.get (fun _ => []) r
def State.setRoute (r : Nat) (x : List Byte) (s : State) : State :=
  { s with routes := s.routes.set (fun _ => []) r x }

def State.src (s : State) (i : Nat) : IrqSrc := s.irq.get IrqSrc.reset i
def State.setSrc (i : Nat) (x : IrqSrc) (s : State) : State :=
  { s with irq := s.irq.set IrqSrc.reset i x }

def State.eq (s : State) (q : Nat) : EventQ := s.eqs.get (fun _ => EventQ.reset) q
def State.setEq (q : Nat) (x : EventQ) (s : State) : State :=
  { s with eqs := s.eqs.set (fun _ => EventQ.reset) q x }

def State.msix (s : State) (v : Nat) : Msix := s.host.msix.get (fun _ => Msix.reset) v
def State.setMsix (v : Nat) (x : Msix) (s : State) : State :=
  { s with host := { s.host with msix := s.host.msix.set (fun _ => Msix.reset) v x } }

def State.hostQ (s : State) (q : Nat) : HostQ := s.hostQs.get (fun _ => HostQ.reset) q
def State.setHostQ (q : Nat) (x : HostQ) (s : State) : State :=
  { s with hostQs := s.hostQs.set (fun _ => HostQ.reset) q x }

def State.bport (s : State) (p : Nat) : BcnPort := s.bports.get (fun _ => BcnPort.reset) p
def State.setBport (p : Nat) (x : BcnPort) (s : State) : State :=
  { s with bports := s.bports.set (fun _ => BcnPort.reset) p x }

def State.lane (s : State) (n : Nat) : BusLane := s.bus.get (fun _ => BusLane.reset) n
def State.setLane (n : Nat) (x : BusLane) (s : State) : State :=
  { s with bus := s.bus.set (fun _ => BusLane.reset) n x }

def State.node (s : State) (i : Nat) : NodeEnt := s.nodes.get (fun _ => NodeEnt.free) i
def State.setNode (i : Nat) (x : NodeEnt) (s : State) : State :=
  { s with nodes := s.nodes.set (fun _ => NodeEnt.free) i x }

def State.port (s : State) (p : Nat) : Port := s.ports.get (fun _ => Port.reset) p
def State.setPort (p : Nat) (x : Port) (s : State) : State :=
  { s with ports := s.ports.set (fun _ => Port.reset) p x }

def State.sched (s : State) (t : Nat) : Option Schedule := s.scheds.get (fun _ => none) t
def State.setSched (t : Nat) (x : Option Schedule) (s : State) : State :=
  { s with scheds := s.scheds.set (fun _ => none) t x }

def State.tl (s : State) (t : Nat) : Timeline := s.timelines.get (fun _ => Timeline.stopped) t
def State.setTl (t : Nat) (x : Timeline) (s : State) : State :=
  { s with timelines := s.timelines.set (fun _ => Timeline.stopped) t x }

def State.ctx (s : State) (i : Nat) : Option Ctx := s.ctxs.get (fun _ => none) i
def State.setCtx (i : Nat) (x : Option Ctx) (s : State) : State :=
  { s with ctxs := s.ctxs.set (fun _ => none) i x }

def State.ring (s : State) (c : Nat) : Quar := s.quar.get (fun _ => Quar.empty) c
def State.setRing (c : Nat) (x : Quar) (s : State) : State :=
  { s with quar := s.quar.set (fun _ => Quar.empty) c x }

def State.unitDown (s : State) (u : Nat) : Bool := s.chkRetired.get (fun _ => false) u
def State.setUnitDown (u : Nat) (b : Bool) (s : State) : State :=
  { s with chkRetired := s.chkRetired.set (fun _ => false) u b }

def State.eng (s : State) (g : Nat) : Engine := s.engines.get (fun _ => Engine.unused) g
def State.setEng (g : Nat) (x : Engine) (s : State) : State :=
  { s with engines := s.engines.set (fun _ => Engine.unused) g x }

def State.tile (s : State) (c : Nat) : Tile := s.tiles.get (fun _ => Tile.none) c
def State.setTile (c : Nat) (x : Tile) (s : State) : State :=
  { s with tiles := s.tiles.set (fun _ => Tile.none) c x }

def State.spar (s : State) (q : Nat) : Spar := s.spars.get (fun _ => Spar.reset) q
def State.setSpar (q : Nat) (x : Spar) (s : State) : State :=
  { s with spars := s.spars.set (fun _ => Spar.reset) q x }

def State.load (s : State) (t : Nat) : Option LoadJob := s.loads.get (fun _ => none) t
def State.setLoad (t : Nat) (x : Option LoadJob) (s : State) : State :=
  { s with loads := s.loads.set (fun _ => none) t x }

def State.spareSlice (s : State) (c : Nat) : SpareSlice := s.health.slices.get (fun _ => SpareSlice.idle) c
def State.setSpareSlice (c : Nat) (x : SpareSlice) (s : State) : State :=
  { s with health := { s.health with slices := s.health.slices.set (fun _ => SpareSlice.idle) c x } }

/-- Entry `i` of HLT_PEND. -/
def State.pend (s : State) (i : Nat) : Option Report := s.health.pends.get (fun _ => none) i
def State.setPend (i : Nat) (x : Option Report) (s : State) : State :=
  { s with health := { s.health with pends := s.health.pends.set (fun _ => none) i x } }

/-- Plan entry of output `q`. -/
def State.plan (s : State) (q : Nat) : Option PlanEntry := s.struct.bind fun x => x.plan.get (fun _ => none) q

/-- The unit (channel n, port 40 + p, check unit 64 + u) is in use (R86). -/
def State.laneUsed (s : State) (u : Nat) : Bool :=
  match s.struct with
  | some x => x.used.get (fun _ => false) u
  | none => false

/-! ### Calibration (R723, R724) -/

/-- Item `i`, at 0x0003_0000 + i × 0x10: whether its form is a trim, and its user range; none where there is none. -/
def calItem (f : Fuse) (i : Nat) : Option (Bool × Nat) :=
  let a := 16 * i
  let chan (n : Nat) (x : Bool × Nat) : Option (Bool × Nat) := if nbit f.clusters (n / 10) then some x else none
  let port (p : Nat) (x : Bool × Nat) : Option (Bool × Nat) := if nbit f.clusters (p / 6) then some x else none
  let speedOk (p k : Nat) : Bool := if p % 6 = 5 then 2 ≤ k && k < 5 else k < 2
  let sw (q : Nat) (x : Bool × Nat) : Option (Bool × Nat) :=
    if q = 64 then some x
    else if f.optP && nbit f.clusters (if q < 40 then q / 10 else (q - 40) / 6) then some x else none
  if a < 0x280 then chan i (false, 50)
  else if 0x400 ≤ a ∧ a < 0x1D00 then chan ((i - 0x40) / 10) (true, 3276)
  else if 0x2000 ≤ a ∧ a < 0x2280 then chan (i - 0x200) (false, 12800)
  else if 0x2400 ≤ a ∧ a < 0x2680 then chan (i - 0x240) (false, 12800)
  else if 0x2800 ≤ a ∧ a < 0x2A80 then chan (i - 0x280) (true, 3276)
  else if 0x3000 ≤ a ∧ a < 0x3C00 then
    if speedOk ((i - 0x300) / 8) (i % 8) then port ((i - 0x300) / 8) (false, 25600) else none
  else if 0x4000 ≤ a ∧ a < 0x4C00 then
    if speedOk ((i - 0x400) / 8) (i % 8) then port ((i - 0x400) / 8) (false, 25600) else none
  else if 0x5000 ≤ a ∧ a < 0x5180 then port (i - 0x500) (false, 25600000)
  else if 0x6000 ≤ a ∧ a < 0x6410 then sw (i - 0x600) (true, 3276)
  else if 0x6800 ≤ a ∧ a < 0x6C10 then sw (i - 0x680) (false, 50)
  else if 0x7000 ≤ a ∧ a < 0x7440 then
    if i < 0x704 then some (true, 3276) else sw (i - 0x704) (true, 3276)
  else if a = 0x7800 then some (false, 2000)
  else if a = 0x7810 || a = 0x7820 then some (false, 0)
  else none

/-- The item takes no user value (Table 21-6). -/
def calFixed (i : Nat) : Bool := i == 0x781 || i == 0x782

/-- Factory value of item `i` where the fuses list none: unity for the gains SIG_GAIN, ISENSE_GAIN and VMON_GAIN, whose
unit is 2^-16 (Table 21-6), zero for the others. DESIGN CHOICE (log 1). -/
def calOtp (i : Nat) : Int :=
  if (0x280 ≤ i ∧ i < 0x2A8) ∨ (0x600 ≤ i ∧ i < 0x641) ∨ (0x700 ≤ i ∧ i < 0x744) then 65536 else 0

/-- Factory, user and effective value of a calibration item (R723). A user value acts from its write on; the rule binds
from 100 µs after it. DESIGN CHOICE (log 80). -/
def State.calFactory (s : State) (i : Nat) : Int := s.fuse.cal.get calOtp i
def State.calUser (s : State) (i : Nat) : Int := (s.rd (0x30000 + 16 * i + 4)).toInt
def State.calEff (s : State) (i : Nat) : Int :=
  match calItem s.fuse i with
  | some (true, _) => s.calFactory i + s.calFactory i * s.calUser i / 65536
  | some (false, _) => s.calFactory i + s.calUser i
  | none => 0

/-! ### Cell memory (R222) -/

/-- The canonical form of a memory: addresses strictly rising, no byte listed that reads as zero. -/
def Memory.wf (m : List Host.Cell) : Bool := Tbl.wf (fun _ => (0 : Byte)) m

/-- A byte of cell memory; one not written since the last BRING-UP or SLEEP reads zero (R762). -/
def State.cellByte (s : State) (a : Nat) : Byte := Tbl.get (fun _ => 0) s.mem a

/-- Writes a byte of cell memory. -/
def State.setCellByte (a : Nat) (b : Byte) (s : State) : State :=
  { s with mem := Tbl.set (fun _ => 0) s.mem a b }

/-- Writes consecutive bytes of cell memory. -/
def State.putBytes (a : Nat) : List Byte → State → State
  | [], s => s
  | b :: bs, s => State.putBytes (a + 1) bs (s.setCellByte a b)

/-- `n` consecutive bytes of cell memory from `a`. -/
def State.getBytes (s : State) (a : Nat) : Nat → List Byte
  | 0 => []
  | n + 1 => s.cellByte a :: s.getBytes (a + 1) n

/-! ### Modes and presence -/

def State.mode (s : State) : Mode := s.ctl.mode

/-- Cluster `c` is fitted (R4, R5). -/
def State.hasCluster (s : State) (c : Nat) : Bool := c < 4 && nbit s.fuse.clusters c

/-- Cluster `c` is reconfiguring. -/
def State.reconf (s : State) (c : Nat) : Bool := nbit s.ctl.reconfig c

/-! ### Beacon time (R413, R418, Table 0-5) -/

/-- T at raw count `raw`, in units of 2^-16 ns, formed with an anchor set. -/
def anchorTime (aRaw : Nat) (aT corr raw : Int) : Int := aT + (raw - aRaw) + (raw - aRaw) * corr / (2 ^ 48 : Nat)

/-- Beacon time T at raw count `raw`, formed with the anchor set in force. -/
def Beacon.timeAt (b : Beacon) (raw : Nat) : Int := anchorTime b.aRaw b.aT b.corr raw

/-- T at an earlier raw count, formed with the anchor set then in force (R416), as far back as eight changes. DESIGN
CHOICE (log 80). -/
def Beacon.timeWas (b : Beacon) (raw : Int) : Int :=
  match (b.past.filter fun a => raw < a.stop).getLast? with
  | some a => anchorTime a.aRaw a.aT a.corr raw
  | none => anchorTime b.aRaw b.aT b.corr raw

/-- Beacon time T. Below zero, which only a backward step in TEST reaches, it reads as zero. DESIGN CHOICE (log 80). -/
def Beacon.time (b : Beacon) : Nat := (b.timeAt b.raw).toNat

def State.time (s : State) : Nat := s.beacon.time

/-- Beacon time in whole nanoseconds. -/
def State.ns (s : State) : Nat := s.time / 2 ^ 16

/-- Short stamp of a Beacon time in nanoseconds. -/
def stampOfNs (ns : Nat) : Nat := ns / 10 ^ 9 % 2 ^ 34 * 2 ^ 30 + ns % 10 ^ 9

/-- Nanoseconds that a short stamp names. -/
def nsOfStamp (st : Nat) : Nat := st / 2 ^ 30 * 10 ^ 9 + st % 2 ^ 30

/-- Short stamp of the present moment. -/
def State.stamp (s : State) : Nat := stampOfNs s.ns

/-- T at the edge of an event `age` ns ago (R418). -/
def State.timeAgo (s : State) (age : Nat) : Int := s.beacon.timeWas ((s.beacon.raw : Int) - (age * 2 ^ 16 : Nat))

/-- Short stamp of an event `age` ns ago, less a latency of `lat` units of 2^-8 ns (Table 11-1). -/
def State.stampAgo (s : State) (age : Nat) (lat : Int) : Nat :=
  stampOfNs ((s.timeAgo age - lat * 2 ^ 8).toNat / 2 ^ 16)

/-! ### Outputs and draws -/

/-- Records something the module sends. -/
def State.emit (o : Out) (s : State) : State := { s with out := o :: s.out }

/-- Advances the counter that free values are drawn by. -/
def State.draw (s : State) : State := { s with free := s.free + 1 }

/-- Folds an update over a list. -/
def State.each {α : Type} (l : List α) (f : α → State → State) (s : State) : State :=
  l.foldl (fun s a => f a s) s

end Sys2Proof.Machine
end

