-- ==== Sys2Proof/Machine/Access.lean ====
section
/-! DEFINITION. The debug level, the debug ports and the access matrix (R638 to R643, Table 18-5). -/
namespace Sys2Proof.Machine

/-- BLANK and FACTORY: the debug level is FULL at all times (R639). -/
def State.openDebug (s : State) : Bool := s.keeper.lifecycle == .blank || s.keeper.lifecycle == .factory

/-- Debug level: 0 CLOSED, 1 OBSERVE, 2 FULL. -/
def State.debugLevel (s : State) : Nat :=
  if s.openDebug then 2 else match s.keeper.session with | some x => x.level | none => 0

/-- Engines the debug level covers. -/
def State.debugMask (s : State) : Nat :=
  if s.openDebug then 2 ^ 32 - 1 else match s.keeper.session with | some x => x.engines | none => 0

/-- Modes without a debug port (R643). -/
def Mode.noPort : Mode → Bool
  | .off | .seating | .inrush | .bringUp | .sleep | .faultHold => true
  | _ => false

/-- Port O or more: the engine window can be read. In TEST a session at OBSERVE has none (Table 18-5). -/
def State.portO (s : State) : Bool := !s.mode.noPort && 1 ≤ s.debugLevel && (s.mode != .test || s.debugLevel == 2)

/-- Port F or FT: writes, halt, step and BREAK halt. -/
def State.portF (s : State) : Bool := !s.mode.noPort && s.debugLevel == 2

/-- Port FT: boundary scan. -/
def State.portFT (s : State) : Bool := s.mode == .test && s.debugLevel == 2

/-- Engine `g` may be halted by the debug unit. -/
def State.debugHolds (s : State) (g : Nat) : Bool := s.portF && nbit s.debugMask g

/-- The cell of SERVICE can be entered. -/
def State.serviceCell (s : State) : Bool :=
  match s.keeper.lifecycle with
  | .blank | .factory | .provisioned | .serviceReturn => true
  | .deployed => s.debugLevel == 1
  | .decommissioned => false

/-- The cell of TEST can be entered. -/
def State.testCell (s : State) : Bool :=
  match s.keeper.lifecycle with
  | .blank | .factory => true
  | .provisioned | .serviceReturn => s.debugLevel == 2
  | .deployed | .decommissioned => false

/-- Access RC or RCL: user calibration writes and CAL_COMMIT. -/
def State.calCell (s : State) : Bool :=
  s.mode == .service && (s.keeper.lifecycle == .provisioned || s.keeper.lifecycle == .serviceReturn)

/-- Access RL or RCL: LIFECYCLE and KEY_CERT objects. -/
def State.lifeCell (s : State) : Bool := s.mode == .service && s.serviceCell

/-- Key code w or f: owner slots can be written. -/
def State.ownerCell (s : State) : Bool :=
  s.lifeCell && s.keeper.lifecycle != .deployed

/-- Access D: the commands of R638 are denied. -/
def State.decommissioned (s : State) : Bool := s.keeper.lifecycle == .decommissioned

end Sys2Proof.Machine
end

