-- ==== Sys2Proof/Machine/Events.lean ====
section
/-! DEFINITION. Events: raising an event of a block (R218), arrivals at interrupt sources (R565, R566), event
records and their queues (R580 to R594), MSI-X messages (R601) and the records of rejected writes (R736). -/
namespace Sys2Proof.Machine

/-- Shared source of a block's event register (Table 16-2; 110 to 114 by block order of R581). -/
def Blk.src : Blk → Nat
  | .bus n => n | .mac p => 40 + p | .flt c => 64 + c | .chk c => 68 + c | .eng g => 72 + g
  | .pool => 104 | .gw => 105 | .bcn => 106 | .cyc => 107
  | .spar => 110 | .pwr => 111 | .hlt => 112 | .kpr => 113 | .host => 114

/-- Record block value (Table 16-13). -/
def Blk.code : Blk → Nat
  | .bus _ => 1 | .mac _ => 2 | .flt _ => 3 | .chk _ => 4 | .eng _ => 5 | .pool => 6 | .gw => 7
  | .bcn => 8 | .cyc => 9 | .spar => 12 | .pwr => 13 | .hlt => 14 | .kpr => 15 | .host => 16

/-- The block whose event register drives a shared source. -/
def blkOfSrc (i : Nat) : Option Blk :=
  if i < 40 then some (.bus i) else if i < 64 then some (.mac (i - 40))
  else if i < 68 then some (.flt (i - 64)) else if i < 72 then some (.chk (i - 68))
  else if i < 104 then some (.eng (i - 72))
  else match i with
    | 104 => some .pool | 105 => some .gw | 106 => some .bcn | 107 => some .cyc
    | 110 => some .spar | 111 => some .pwr | 112 => some .hlt | 113 => some .kpr | 114 => some .host
    | _ => none

/-- A block's condition: some event bit set whose enable is set (R565). -/
def State.blkCond (s : State) (b : Blk) : Bool :=
  (s.rd b.evtOff &&& s.rd (b.evtOff + 12)) ≠ 0

/-- Pending state of a shared source: a level source's condition while no claim masks it, an edge or event source's
stored state. -/
def State.srcPending (s : State) (i : Nat) : Bool :=
  let x := s.src i
  if x.edge then x.pending
  else match blkOfSrc i with
    | some b => s.blkCond b && !x.masked
    | none => false

/-- A source became pending for engine `g`: with wfe_src the event flag is set (R546). -/
def State.noteEngine (g : Nat) (s : State) : State :=
  let e := s.eng g
  if bit e.cpu.ecfg 1 then s.setEng g { e with cpu := { e.cpu with event := true } } else s

/-- Reports shared source `i` to its target engine if an update made it pending. -/
def State.noteSrc (i : Nat) (before : Bool) (s : State) : State :=
  if s.srcPending i && !before && (s.src i).targetValid then s.noteEngine (s.src i).target else s

/-- An arrival at an edge or event source (R566). A reserved source is never pending (Table 16-2). -/
def State.arrive (i : Nat) (s : State) : State :=
  let x := s.src i
  if x.edge && isLiveSrc i then
    (s.setSrc i { x with pending := true, count := satAdd 255 x.count 1 }).noteSrc i (s.srcPending i)
  else s

/-- An arrival at a private source of engine `g`. -/
def State.privArrive (g i : Nat) (s : State) : State :=
  let e := s.eng g
  let p := e.cpu.src.get (fun _ => PrivSrc.idle) i
  let e' := { e with cpu := { e.cpu with
    src := e.cpu.src.set (fun _ => PrivSrc.idle) i { p with pending := true, count := satAdd 255 p.count 1 } } }
  let s' := s.setEng g e'
  if p.pending then s' else s'.noteEngine g

/-! ### Event queues -/

/-- Offset of word `w` of event queue `q`. -/
def eqOff (q w : Nat) : Nat := 0x16000 + 0x20 * q + 4 * w

def State.eqEnabled (s : State) (q : Nat) : Bool := s.rb (eqOff q 2) 31

def State.eqSize (s : State) (q : Nat) : Nat := 2 ^ s.rf (eqOff q 2) 24 4

def State.eqBase (s : State) (q : Nat) : Nat := (s.rd (eqOff q 0)).toNat + 2 ^ 32 * (s.rd (eqOff q 1)).toNat

/-- Records between head and tail (R584). -/
def State.eqUnread (s : State) (q : Nat) : Nat :=
  let x := s.eq q
  (x.tail + s.eqSize q - x.head) % s.eqSize q

/-- MSI-X vector `v`: sent, or its pending bit set while it or the function is masked (R601). -/
def State.msixSend (v : Nat) (s : State) : State :=
  let m := s.msix v
  if m.masked || s.host.fnMask then s.setMsix v { m with pending := true } else s.emit (.msix v)

/-- Sends a queue's message and disarms it (R586). -/
def State.eqMessage (q : Nat) (s : State) : State :=
  (s.setEq q { s.eq q with armed := false, timer := false }).msixSend q

/-- The function is in D0 with Bus Master Enable set. -/
def State.hostMaster (s : State) : Bool := !s.host.d3hot && s.host.busMaster

/-- Records are held rather than written: outside D0 or without Bus Master Enable (R590), in L1 (R593), in SLEEP and
until the link is back in L0 (R594), and while earlier records are still held (R582). -/
def State.recordsHeld (s : State) : Bool :=
  !s.hostMaster || s.host.l1 || !s.host.up || s.mode == .sleep || !s.hold.isEmpty

/-- The message condition of an armed queue with `unread` records (R586), the timer apart. -/
def State.eqDue (s : State) (q unread : Nat) : Bool :=
  (s.eq q).armed && 0 < unread && (s.rf (eqOff q 2) 16 8 ≤ unread || s.rf (eqOff q 2) 0 16 == 0)

/-- Moderation of a queue with `n` records to announce (R586): its message, or its timer. -/
def State.moderate (q n : Nat) (s : State) : State :=
  if s.eqDue q n then s.eqMessage q
  else if (s.eq q).armed && 0 < n then s.setEq q { s.eq q with timer := true }
  else s

/-- A record of queue `q` was written: while host software prepares to sleep, its message goes at once (R589). -/
def State.recordWritten (q : Nat) (s : State) : State :=
  if s.rb 0xE400 0 && !s.host.d3hot && 0 < s.eqUnread q then s.eqMessage q else s.moderate q (s.eqUnread q)

/-- The 16 bytes of a record with its phase (Table 16-12). -/
def EvRec.bytes (r : EvRec) (phase : Bool) : List Byte :=
  leBytes 8 r.stamp ++ leBytes 4 r.info ++ leBytes 2 r.unit ++ leBytes 1 r.code
    ++ leBytes 1 (r.block + 128 * b2n phase)

/-- Writes a record at the tail of its queue; the phase inverts when the tail wraps (R583). -/
def State.eqWrite (q : Nat) (r : EvRec) (s : State) : State :=
  let x := s.eq q
  let t := (x.tail + 1) % s.eqSize q
  (s.emit (.hostWrite (s.eqBase q + 16 * x.tail) (r.bytes x.phase))).setEq q
    { x with tail := t, phase := if t = 0 then !x.phase else x.phase }

/-- A record without a slot is lost (R584). -/
def State.eqLose (q : Nat) (s : State) : State :=
  let x := s.eq q
  let s := s.setEq q { x with lost := satAdd 0xFFFF x.lost 1, overflow := true }
  if x.armed then s.eqMessage q else s

/-- Writes the held records in arrival order; a slot reserved for each is used (R592). -/
def State.writeHeld (s : State) : State :=
  { s with hold := [] }.each s.hold fun e s =>
    let s := s.eqWrite e.1 e.2
    s.setEq e.1 { s.eq e.1 with reserved := (s.eq e.1).reserved - 1 }

/-- The queues that have held records, each once. -/
def State.heldQueues (s : State) : List Nat := (s.hold.map (·.1)).dedup

/-- The WAKE# output changes (R54, R750). -/
def State.setWake (on : Bool) (s : State) : State :=
  if s.host.wakePin == on then s
  else { s with host := { s.host with wakePin := on } }.emit (.wakePin on)

/-- Leaving L1 for L0: WAKE# is released (R54), held records are written and messages sent under R586 (R593). -/
def State.l1Exit (s : State) : State :=
  let qs := s.heldQueues
  let s := { s with host := { s.host with l1 := false } }
  let s := if s.host.up then s.setWake false else s
  if s.hostMaster && s.host.up && s.mode != .sleep then s.writeHeld.each qs State.recordWritten else s

/-- Records of a queue that a message announces: unread ones, and in L1 those held for it, which are written first
(R593). -/
def State.eqWaiting (s : State) (q : Nat) : Nat :=
  s.eqUnread q + if s.host.l1 && s.hostMaster && s.mode != .sleep then (s.eq q).reserved else 0

/-- A queue is judged again: armed, or with new settings. In L1 a message condition that this makes true brings the link
out (R586, R593). -/
def State.rejudgeEq (q : Nat) (s : State) : State :=
  let s := if s.host.l1 && s.eqDue q (s.eqWaiting q) then s.l1Exit else s
  s.moderate q (s.eqWaiting q)

/-- PME_Status is set, and PME is signalled where PME_En is (R591). -/
def State.signalPme (s : State) : State :=
  let s := { s with host := { s.host with pmeStatus := true } }
  if s.host.pmeEn then s.emit .pme else s

/-- A record joins the store. -/
def State.keepRecord (q : Nat) (r : EvRec) (s : State) : State :=
  let x := s.eq q
  { s with hold := s.hold ++ [(q, r)] }.setEq q { x with reserved := x.reserved + 1 }

/-- In L1, with the store as `q` has left it: the link leaves it, or the queue's moderation goes on (R593). -/
def State.holdInL1 (q : Nat) (s : State) : State :=
  if s.host.l1 && s.hostMaster && s.mode != .sleep then
    if s.eqDue q (s.eqWaiting q) || 768 ≤ s.hold.length then s.l1Exit else s.moderate q (s.eqWaiting q)
  else s

/-- Holds a record in the store; a full store signals PME (R590, R591), and in L1 a message condition or 768
records bring the link out (R593). -/
def State.holdRecord (q : Nat) (r : EvRec) (s : State) : State :=
  if 1024 ≤ s.hold.length then s.eqLose q
  else
    let s := s.keepRecord q r
    (if s.hold.length = 1024 then s.signalPme else s).holdInL1 q

/-- Sends a record to queue `q`, 0 to 63; any other number names none (R582 to R590). -/
def State.record16 (q : Nat) (r : EvRec) (s : State) : State :=
  if 64 ≤ q then s
  else if !s.eqEnabled q then s.setEq q { s.eq q with lost := satAdd 0xFFFF (s.eq q).lost 1 }
  else if s.eqSize q ≤ s.eqUnread q + (s.eq q).reserved + 1 then s.eqLose q
  else if s.recordsHeld then s.holdRecord q r
  else (s.eqWrite q r).recordWritten q

/-- Event `i` of block `b` is raised, its record apart: its sticky bit is set, and if its enable is 1 the source counts
an arrival (R218, R566). -/
def State.raiseBit (b : Blk) (i : Nat) (s : State) : State :=
  let before := s.srcPending b.src
  let s := s.wr b.evtOff (s.rd b.evtOff ||| wd (2 ^ i))
  if !s.rb (b.evtOff + 12) i then s
  else if (s.src b.src).edge then s.arrive b.src
  else s.noteSrc b.src before

/-- Raises event `i` of block `b`: if its enable is 1 a record goes to the source's queue as well (R218, R582). -/
def State.raise (b : Blk) (i unit info : Nat) (s : State) : State :=
  let s := s.raiseBit b i
  if s.rb (b.evtOff + 12) i then
    s.record16 (s.src b.src).queue
      { stamp := s.stamp, info := info % 2 ^ 32, unit := unit % 2 ^ 16, code := i, block := b.code }
  else s

/-- Writes a MOD record (R743): source 108 counts an arrival for each, whatever the queue. -/
def State.modRecord (code unit info : Nat) (s : State) : State :=
  (s.arrive 108).record16 (s.rf 0x64 0 8)
    { stamp := s.stamp, info := info % 2 ^ 32, unit := unit % 2 ^ 16, code := code, block := 0xA }

/-- Writes a BUFFER arrival record to a descriptor's event queue (R582, Table 16-14). -/
def State.bufRecord (q code unit info : Nat) (s : State) : State :=
  s.record16 q { stamp := s.stamp, info := info, unit := unit, code := code, block := 0xB }

/-! ### Rejected writes (R77, R78, R736) -/

/-- Sets cmd_reject, counts the rejection and keeps the offset of the first. -/
def State.noteReject (off : Nat) (s : State) : State :=
  let n := s.rf 0x5C 26 6
  let s := s.wr 0x50 1
  if n = 0 then s.wr 0x5C (wd (2 ^ 26 + off)) else s.setf 0x5C 26 6 (satAdd 63 n 1)

/-- A write rejected under the MG rule or by an enable condition. -/
def State.mgReject (off : Nat) (s : State) : State :=
  (s.noteReject off).modRecord 2 s.mode.code off

/-- A write of a reserved encoding, a partial word or a refused buffer operation. -/
def State.encReject (off : Nat) (s : State) : State :=
  (s.noteReject off).modRecord 3 0 off

/-! ### Writes of sources and event enables (R219, R570, R571) -/

/-- A write of IRQ_SRC[i]. What R571 or R17 reserves keeps its previous value: the target, the kind, the queue. A source
that is pending for an engine it was not pending for sets that engine's flag (R546); a level source whose kind this
write changes is sampled, claimed or not (R570). -/
def State.srcWrite (i : Nat) (w : Word) (s : State) : State :=
  let x := s.src i
  let tv := bit w 15
  let t := fld w 8 5
  let q := fld w 0 8
  let event := isEventSrc i
  let badT := tv && !s.hasCluster (t / 8)
  let badK := event && !bit w 30
  let badQ := (64 ≤ q && q < 255) || (event && q != 255)
  let before := s.srcPending i
  let y := { x with enable := bit w 31, priority := fld w 24 4, targetValid := if badT then x.targetValid else tv,
                    target := if badT then x.target else t, queue := if badQ then x.queue else q }
  let y := if badK || bit w 30 == x.edge then y
    else { y with edge := bit w 30, pending := false, count := 0, masked := false }
  let s := (s.setSrc i y).noteSrc i (before && x.targetValid && x.target == y.target)
  if badT || badK || badQ then s.encReject (0x14000 + 4 * i) else s

/-- A write of an EVTEN register. -/
def State.evtEnable (b : Blk) (w : Word) (s : State) : State :=
  let before := s.srcPending b.src
  (s.wr (b.evtOff + 12) (w &&& wd b.evtenReset)).noteSrc b.src before

end Sys2Proof.Machine
end

