-- ==== Sys2Proof/Machine/Pool.lean ====
section
/-! DEFINITION. The cell pool and its books: cells and rows (R222 to R226, R253), charges and releases (R265 to
R270, R296), records in cells (R223, R229), references, and a port's pause on its partner's charge (R393). -/
namespace Sys2Proof.Machine

/-! ### Cells and rows -/

/-- Row of a cell, as bank * 512 + row. -/
def rowOf (cell : Nat) : Nat := cell % 32 * 512 + cell / 512

def State.cellRetired (s : State) (cell : Nat) : Bool := s.retiredRows.contains (rowOf cell)

/-- Cells that belong to a record or a static buffer. -/
def State.heldCells (s : State) : List Nat := (s.links.filter fun e => e.2.held).map (·.1)

/-- Cells of retired rows that have left the pool (R253). -/
def State.cellsLost (s : State) : Nat :=
  16 * s.retiredRows.length - (s.heldCells.filter s.cellRetired).length

/-- T, the usable cells (R265). -/
def State.usable (s : State) : Nat := 262144 - s.cellsLost

/-- Hand-over cells (R287): released in the present fabric handshake, an edge of Beacon's island, they reach the free
lists with the next. DESIGN CHOICE (log 58). -/
def State.handOver (s : State) : List Nat := if s.books.handAt = s.beacon.raw then s.books.hand else []

/-- Cells are released in the books. -/
def State.handBack (cells : List Nat) (s : State) : State :=
  { s with books := { s.books with hand := s.handOver ++ cells, handAt := s.beacon.raw } }

/-- Cells on the free lists. -/
def State.freeCells (s : State) : Nat :=
  s.usable - s.heldCells.length - s.books.loaderHold - s.handOver.length

/-- Cells of the records of frames in transit (R283), among those that `p` holds for. -/
def State.cellsInTransit (s : State) (p : Rec → Bool) : Nat :=
  (s.recs.map fun e => match e.2 with
    | some r => if (s.transit.any fun t => r.frame == some t.id) && p r then r.cells.length else 0
    | none => 0).sum

def State.sumPart (s : State) (f : Partner → Nat) : Nat := (s.partners.map fun e => f e.2).sum

def Partner.charge (p : Partner) : Nat := p.guar + p.borr + p.em

/-- S, the shared capacity. -/
def State.shared_ (s : State) : Int :=
  (s.usable : Int) - s.sumPart (·.g) - s.books.e - s.books.rt

/-- X, the excess of R268, positive when cells are held beyond the limits. -/
def State.excess (s : State) : Int := (s.sumPart Partner.charge : Int) - ((s.usable : Int) - s.books.rt)

/-- Emergency limit in force: 0 for a partner that is not eligible. -/
def Partner.emLimit (p : Partner) : Nat := if p.emEligible then p.emMax else 0

/-- A tier stands above its limit, so nothing is admitted (R296). -/
def Partner.beyond (p : Partner) : Bool := p.g < p.guar || p.b < p.borr || p.emLimit < p.em

/-- The tiers a charge of `n` cells to partner `p` takes, or none if it is refused (R266, R268, R296). -/
def State.tiers (s : State) (p n : Nat) : Option (Nat × Nat × Nat) :=
  let q := s.partner p
  let a := min n (q.g - q.guar)
  let open_ := decide (s.excess ≤ 0)
  let roomB := if open_ then min (q.b - q.borr) (s.shared_ - s.sumPart (·.borr)).toNat else 0
  let bb := min (n - a) roomB
  let roomE := if open_ && q.emEligible then min (q.emMax - q.em) (s.books.e - s.sumPart (·.em)) else 0
  let e := min (n - a - bb) roomE
  if q.beyond || a + bb + e < n then none else some (a, bb, e)

/-! ### Pause on the default partner's charge (R393) -/

/-- Ethernet port `p` compares its default partner's charge with xoff and xon and queues a control frame. -/
def State.pauseWatch (p : Nat) (s : State) : State :=
  let x := s.port p
  let c := (s.partner (40 + p)).charge
  let b := macBase p
  if !s.rb b 25 then (if x.xoffSent then s.setPort p { x with xoffSent := false } else s)
  else if x.xoffSent then
    if c ≤ s.rf (b + 0x24) 0 16 then s.setPort p { x with xoffSent := false, ctrl := x.ctrl ++ [false] } else s
  else if s.rf (b + 0x24) 16 16 ≤ c then
    s.setPort p { x with xoffSent := true, ctrl := x.ctrl ++ [true] }
  else s

/-- Pause watch of the port whose default partner `p` is. -/
def State.chargeMoved (p : Nat) (s : State) : State :=
  if 40 ≤ p ∧ p < 64 then s.pauseWatch (p - 40) else s

/-- Charges the tiers to partner `p`; the first emergency charge raises RESERVE_USED (R269). -/
def State.chargeTiers (p : Nat) (t : Nat × Nat × Nat) (s : State) : State :=
  let q := s.partner p
  let first := 0 < t.2.2 && s.sumPart (·.em) == 0
  let s := s.setPartner p { q with guar := q.guar + t.1, borr := q.borr + t.2.1, em := q.em + t.2.2 }
  let s := if first then s.raise .pool 1 0 0 else s
  s.chargeMoved p

/-- `n` cells go back to a partner's tiers: cells beyond a tier's limit first (R296), then emergency, borrow and
guaranteed (R267). -/
def Partner.giveBack (n : Nat) (p : Partner) : Partner :=
  let xe := min n (p.em - p.emLimit)
  let xb := min (n - xe) (p.borr - p.b)
  let xg := min (n - xe - xb) (p.guar - p.g)
  let n := n - xe - xb - xg
  let e := min n (p.em - xe)
  let b := min (n - e) (p.borr - xb)
  let g := min (n - e - b) (p.guar - xg)
  { p with em := p.em - xe - e, borr := p.borr - xb - b, guar := p.guar - xg - g }

/-- The loss of usable cells is absorbed by S, then E, then R_t; S reaching 0 raises QUOTA_SHORT (R270). -/
def State.absorb (s : State) : State :=
  let short := -s.shared_
  let s :=
    if 0 < short then
      let dE := min short.toNat s.books.e
      let dR := min (short.toNat - dE) s.books.rt
      { s with books := { s.books with e := s.books.e - dE, rt := s.books.rt - dR } }
    else s
  if 0 ≤ short && !s.books.short then
    { s with books := { s.books with short := true } }.raise .pool 3 0 0
  else s

/-! ### Records in cells -/

/-- Cells a record of `len` data bytes occupies (R223). -/
def cellsOf (len : Nat) : Nat := ceilDiv (len + 32) 64

/-- The 32 header bytes of Table 6-2. -/
def Frame.header (f : Frame) : List Byte :=
  leBytes 1 f.format ++ leBytes 1 f.flags ++ leBytes 2 (f.srcKind * 4096 + f.srcIndex) ++ leBytes 4 f.ident
    ++ leBytes 8 f.stamp ++ leBytes 2 f.data.length ++ leBytes 1 f.dlc ++ leBytes 1 f.sdt ++ leBytes 4 f.af
    ++ leBytes 1 f.vcid ++ leBytes 1 f.conf ++ leBytes 2 f.node ++ leBytes 2 f.route ++ leBytes 2 f.seq

/-- A frame read from its record's bytes. -/
def Frame.ofBytes (bs : List Byte) : Frame :=
  { format := byteAt bs 0, flags := byteAt bs 1, srcKind := leAt bs 2 2 / 4096, srcIndex := leAt bs 2 2 % 4096,
    ident := leAt bs 4 4, stamp := leAt bs 8 8, dlc := byteAt bs 18, sdt := byteAt bs 19, af := leAt bs 20 4,
    vcid := byteAt bs 24, conf := byteAt bs 25, node := leAt bs 26 2, route := leAt bs 28 2, seq := leAt bs 30 2,
    data := (bs.drop 32).take (leAt bs 16 2) }

/-- Frame formats (Table 6-3) and source kinds (Table 6-4). -/
def fmtClassic : Nat := 1
def fmtFd : Nat := 2
def fmtXl : Nat := 3
def fmtEth : Nat := 4
def srcBus : Nat := 0
def srcEth : Nat := 1
def srcEngine : Nat := 2
def srcHost : Nat := 3
def srcTile : Nat := 4

/-- Data lengths an FD frame can have (R230). -/
def fdLength (dlc : Nat) : Nat :=
  match dlc with
  | 9 => 12 | 10 => 16 | 11 => 20 | 12 => 24 | 13 => 32 | 14 => 48 | 15 => 64 | n => n

/-- data_length lies in the range R230 gives its format. -/
def lengthOk (format flags dlc len : Nat) : Bool :=
  if format = fmtClassic then (if nbit flags 1 then len == 0 else len ≤ 8)
  else if format = fmtFd then dlc < 16 && len == fdLength dlc
  else if format = fmtXl then 1 ≤ len && len ≤ 2048
  else if format = fmtEth then 60 ≤ len && len ≤ 2048
  else false

/-- Flags a format defines, among bits 0 to 4 (R248). -/
def flagsDefined (format : Nat) : Nat :=
  if format = fmtClassic then 3 else if format = fmtFd then 13 else if format = fmtXl then 16
  else if format = fmtEth then 1 else 0

/-- No flag of bits 0 to 4 that the format does not define is set. -/
def flagsOk (format flags : Nat) : Bool := (flags % 32) &&& (31 - flagsDefined format) == 0

/-- Links cells into a chain in order (R224); `hw` is their BAR2 write permission. -/
def State.chain (hw : Bool) : List Nat → State → State
  | [], s => s
  | [c], s => s.setLink c ⟨true, true, hw, 0⟩
  | c :: d :: cs, s => State.chain hw (d :: cs) (s.setLink c ⟨true, false, hw, d⟩)

/-- Writes 64-byte pieces of a byte string to cells in order. -/
def State.putCells : List Nat → List Byte → State → State
  | [], _, s => s
  | c :: cs, bs, s => State.putCells cs (bs.drop 64) (s.putBytes (64 * c) (fitBytes 64 (bs.take 64)))

/-- The bytes of cells in order. -/
def State.cellBytes (s : State) : List Nat → List Byte
  | [] => []
  | c :: cs => s.getBytes (64 * c) 64 ++ s.cellBytes cs

/-- The bytes of the record whose first cell is `c`. -/
def State.recBytes (s : State) (c : Nat) : List Byte :=
  match s.record c with
  | some r => s.cellBytes r.cells
  | none => []

/-- The frame of the record whose first cell is `c`. -/
def State.frameOf (s : State) (c : Nat) : Frame := Frame.ofBytes (s.recBytes c)

/-- A cell is on a free list. -/
def State.cellFree (s : State) (c : Nat) : Bool :=
  c < 262144 && !(s.link c).held && !s.cellRetired c && !s.handOver.contains c

/-- Free cells among those a command names, each once, at most `n`. -/
def State.picked (s : State) : List Nat → Nat → List Nat
  | [], _ => []
  | _, 0 => []
  | c :: cs, n + 1 => if s.cellFree c && !cs.contains c then c :: s.picked cs n else s.picked cs (n + 1)

/-- Completes a choice of cells by a cyclic search from cell `c` over `fuel` cells. -/
def State.search (s : State) (chosen : List Nat) : Nat → Nat → Nat → List Nat
  | 0, _, _ => []
  | _, _, 0 => []
  | fuel + 1, c, n + 1 =>
    if s.cellFree c && !chosen.contains c then c :: s.search chosen fuel ((c + 1) % 262144) n
    else s.search chosen fuel ((c + 1) % 262144) (n + 1)

/-- The cells a reservation of `n` takes from the free lists, from whatever banks hold them (R268). -/
def State.chooseCells (s : State) (picks : List Nat) (n : Nat) : List Nat :=
  let a := s.picked picks n
  if a.length = n then a else a ++ s.search a 262144 (Config.cellStart s.free % 262144) (n - a.length)

/-- Takes `n` cells as one record of partner `p` with `refs` references, and gives its first cell. -/
def State.allocate (s : State) (picks : List Nat) (n p refs : Nat) (static hw : Bool) (frame : Option Nat) :
    Nat × State :=
  let cs := s.chooseCells picks n
  let first := cs.headD 0
  (first, (s.draw.chain hw cs).setRecord first (some ⟨p, cs, refs, static, frame⟩))

/-- Writes a frame's header and data into its record's cells (R223). -/
def State.writeFrame (c : Nat) (f : Frame) (s : State) : State :=
  match s.record c with
  | some r => s.putCells r.cells (f.header ++ f.data)
  | none => s

/-- Returns a record's cells to its partner and, handed over, to the free lists (R267, R253, R287). -/
def State.freeRecord (c : Nat) (s : State) : State :=
  match s.record c with
  | none => s
  | some r =>
    let retired := r.cells.any s.cellRetired
    let s := (s.each r.cells fun d s => s.setLink d Link1.free).handBack (r.cells.filter fun d => !s.cellRetired d)
    let q := s.partner r.partner
    let s := (s.setRecord c none).setPartner r.partner (q.giveBack r.cells.length)
    let s := s.chargeMoved r.partner
    if retired then s.absorb else s

/-- Releases one reference to a record; the last frees it. A static buffer's records stay (R248). -/
def State.dropRef (c : Nat) (s : State) : State :=
  match s.record c with
  | none => s
  | some r =>
    if r.static then s
    else if r.refs ≤ 1 then s.freeRecord c
    else s.setRecord c (some { r with refs := r.refs - 1 })

def State.dropRefs (cs : List Nat) (s : State) : State := s.each cs State.dropRef

/-! ### Refusals and once-per-cycle events -/

/-- Counter `w` of POOL_PCNT for partner `p`. -/
def State.countPartner (p w : Nat) (s : State) : State := s.cnt (0x940000 + 0x10 * p + 4 * w)

/-- A partner is refused: PARTNER_REFUSING once after each admission (R275). -/
def State.noteRefused (p : Nat) (s : State) : State :=
  let q := s.partner p
  if q.refused then s else (s.setPartner p { q with refused := true }).raise .pool 0 p 0

/-- A partner without a waiting request has deficit 0 (R277). DESIGN CHOICE (log 76). -/
def State.restDeficit (p : Nat) (s : State) : State :=
  if s.waits.any fun w => w.partner == p then s else s.setPartner p { s.partner p with deficit := 0 }

/-- Waiting requests go without a grant. -/
def State.dropWaits (gone : WaitReq → Bool) (s : State) : State :=
  { s with waits := s.waits.filter (!gone ·) }.each ((s.waits.filter gone).map fun (w : WaitReq) => w.partner) State.restDeficit

/-- A partner is admitted. -/
def State.noteAdmitted (p : Nat) (s : State) : State := s.setPartner p { s.partner p with refused := false }

/-- Counter `w` of GW_RCNT for route `r`. -/
def State.countRoute (r w : Nat) (s : State) : State := s.cnt (0xC00000 + 0x20 * r + 4 * w)

/-- Counter `i` of GW_CNT. -/
def State.countGw (i : Nat) (s : State) : State := s.cnt (0x6040 + 4 * i)

/-- GW_DEST_DOWN for a route, once in each cell cycle (R342). -/
def State.destDown (r : Nat) (s : State) : State :=
  let s := s.countRoute r 4
  if s.gwDown.contains r then s else { s with gwDown := r :: s.gwDown }.raise .gw 3 r 0

/-! ### The code of the cell memory (R234 to R236) -/

/-- MEM_UE: word `ue` % 8 of cell `ue` / 8 holds an uncorrectable error (R235, R236). -/
def State.noteUe (ue : Nat) (s : State) : State :=
  let info := ue % 8 * 2 ^ 18 + ue / 8 % 2 ^ 18
  (s.wr 0x4014 (wd (2 ^ 31 + info))).modRecord 7 0 info

/-- Words of a record corrected as it was read (R234). -/
def State.noteCe (n : Nat) (s : State) : State := if n = 0 then s else s.cntF 0x4010 0 16 n

/-- A read of cells that delivers nothing: an engine's of a frame, or COMMIT's check. It gives the words as stored, and
an uncorrectable one is recorded as a BAR2 read's is. DESIGN CHOICE (log 99). -/
def State.readCells (e : RecEcc) (s : State) : State :=
  match e.ue with
  | none => s.noteCe e.corrected
  | some w => (s.noteCe e.corrected).noteUe w

end Sys2Proof.Machine
end

