-- ==== Sys2Proof/Machine/Mbox.lean ====
section
/-! DEFINITION. Message buffers: mailbox and FIFO arrivals, locks, commits and triggers (R239 to R251). -/
namespace Sys2Proof.Machine

/-- One more record lost at a descriptor. -/
def Desc.lose (d : Desc) : Desc := { d with overrun := satAdd 65535 d.overrun 1 }

/-- Releases the reference an optional record slot holds. -/
def State.dropOpt (r : Option Nat) (s : State) : State :=
  match r with
  | some c => s.dropRef c
  | none => s

/-- Publishes record `r` as mailbox `i`'s current record and notifies (R240, R242). -/
def State.publish (i r : Nat) (d : Desc) (s : State) : State :=
  ((s.setDesc i { d with current := some r, state := .new, damaged := false }).dropOpt d.current).bufRecord
    d.queue 0 i r

/-- Arrival of record `r` at mailbox `i`; the flag tells whether it was kept (R240). -/
def State.mailboxArrival (i r : Nat) (s : State) : Bool × State :=
  let d := s.desc i
  if d.locked then
    if d.shadow.isSome && d.keep then (false, (s.setDesc i d.lose).dropRef r)
    else
      let e := if d.shadow.isSome then d.lose else d
      (true, (s.setDesc i { e with shadow := some r }).dropOpt d.shadow)
  else if d.state == .new && d.keep then (false, (s.setDesc i d.lose).dropRef r)
  else (true, s.publish i r (if d.state == .new then d.lose else d))

/-- ACK and RELEASE of a mailbox: the lock clears and the shadow is promoted (R242). -/
def State.unlockMailbox (ack : Bool) (i : Nat) (s : State) : State :=
  let d := s.desc i
  let d := if ack && d.state == .new then { d with state := .seen } else d
  let d := { d with locked := false }
  match d.shadow with
  | none => s.setDesc i d
  | some r =>
    if d.state == .new && d.keep then (s.setDesc i { d.lose with shadow := none }).dropRef r
    else s.publish i r { (if d.state == .new then d.lose else d) with shadow := none }

/-- Offset of POOL_FIFO[f]_OVR. -/
def fifoOvr (f : Nat) : Nat := 0x10008 + 0x10 * f

/-- Descriptor at position `k` from FIFO `f`'s head. -/
def Fifo.at (x : Fifo) (k : Nat) : Nat := x.base + (x.head + k) % x.depth

/-- Releases the head record of FIFO `f` and advances its head (R243, R244). -/
def State.fifoAdvance (f : Nat) (s : State) : State :=
  let x := s.fifo f
  let i := x.at 0
  let d := s.desc i
  ((s.setDesc i { d with current := none, state := .empty, locked := false, damaged := false }).setFifo f
    { x with head := (x.head + 1) % x.depth, count := x.count - 1 }).dropOpt d.current

/-- Adds record `r` at the tail of FIFO `f` and notifies through its base descriptor. -/
def State.fifoAppend (f r : Nat) (s : State) : State :=
  let x := s.fifo f
  let i := x.at x.count
  ((s.setDesc i { s.desc i with current := some r, state := .new, damaged := false }).setFifo f
    { x with count := x.count + 1 }).bufRecord (s.desc x.base).queue 1 f i

/-- Arrival of record `r` at FIFO `f`; the flag tells whether it was kept (R243). -/
def State.fifoArrival (f r : Nat) (s : State) : Bool × State :=
  let x := s.fifo f
  if x.count = x.depth then
    let s' := s.cnt (fifoOvr f)
    if x.keep || (s.desc (x.at 0)).locked then (false, s'.dropRef r)
    else (true, (s'.fifoAdvance f).fifoAppend f r)
  else (true, s.fifoAppend f r)

/-- FIFO whose head descriptor `i` is, if `i` is the head of one. -/
def State.headOf (s : State) (i : Nat) : Option Nat :=
  ((s.fifos.filter fun e => 0 < e.2.count && e.2.at 0 == i).map (·.1)).head?

/-- Sets the hw bits of a record's cells (R227). -/
def State.setHw (hw : Bool) (r : Option Nat) (s : State) : State :=
  match r.bind s.record with
  | some x => s.each x.cells fun c s => s.setLink c { s.link c with hw := hw }
  | none => s

/-- Swaps a TX_STATIC descriptor's records (R248). -/
def State.swapStatic (i : Nat) (s : State) : State :=
  let d := s.desc i
  ((s.setDesc i { d with current := d.shadow, shadow := d.current, damaged := false }).setHw true
    d.current).setHw false d.shadow

/-- The channel takes the frame format (R169): CLASSIC always, FD with fd_en, XL with xl_en. -/
def State.formatOn (s : State) (n format : Nat) : Bool :=
  format == fmtClassic || (format == fmtFd && s.rb (busBase n) 29) || (format == fmtXl && s.rb (busBase n) 28)

/-- The shadow record of descriptor `d` passes the check of COMMIT (R248). -/
def State.commitOk (s : State) (d : Desc) : Bool :=
  let b := s.recBytes (d.shadow.getD 0)
  let fmt := byteAt b 0
  let len := leAt b 16 2
  fmt != fmtEth && s.formatOn d.bindIndex fmt && lengthOk fmt (byteAt b 1) (byteAt b 18) len
    && cellsOf len ≤ d.maxCells && flagsOk fmt (byteAt b 1)

/-- What COMMIT overwrites in the shadow record: the module's flags, source, node and conf (R248). -/
def State.commitHeader (r : Nat) (s : State) : State :=
  let b := s.recBytes r
  ((s.putBytes (64 * r + 1) (leBytes 1 (byteAt b 1 % 32))).putBytes (64 * r + 2) (leBytes 2 0x3FFF)).putBytes
    (64 * r + 25) (leBytes 3 0)

/-- COMMIT of a TX_STATIC descriptor whose shadow passed the check (R248). -/
def State.commitStatic (i : Nat) (s : State) : State :=
  let d := s.desc i
  let s := s.commitHeader (d.shadow.getD 0)
  if d.state == .loaded then (s.setDesc i { d with commitPending := true }).setHw false d.shadow
  else
    let s := s.setDesc i { d with state := if d.state == .empty then .idle else d.state }
    s.swapStatic i

/-- A trigger of a TX_STATIC descriptor that is not EMPTY (R246, R249); the flag tells whether it became READY. -/
def State.triggerStatic (i : Nat) (s : State) : Bool × State :=
  let d := s.desc i
  let n := d.bindIndex
  if d.state != .idle || (s.lane n).ctl == .quiet || s.reconf (n / 10) then (false, s.setDesc i d.lose)
  else
    let l := s.lane n
    (true, (s.setDesc i { d with state := .ready }).setLane n { l with ready := l.ready ++ [i] })

/-- Performs a buffer operation, or answers none where Table 6-8 and R251 do not permit it. -/
def State.bufferOp (op : Nat) (onFifo : Bool) (arg : Nat) (s : State) : Option State :=
  let d := s.desc arg
  match op with
  | 1 =>
    if d.kind == .rxMailbox || (d.kind == .rxFifo && d.state == .new && (s.headOf arg).isSome) then
      some (s.setDesc arg { d with locked := true })
    else none
  | 2 =>
    if !d.locked then none
    else if d.kind == .rxMailbox then some (s.unlockMailbox false arg)
    else if d.kind == .rxFifo then some (s.setDesc arg { d with locked := false })
    else none
  | 3 =>
    if !d.locked then none
    else if d.kind == .rxMailbox then some (s.unlockMailbox true arg)
    else if d.kind == .rxFifo then some (s.setDesc arg { d with locked := false })
    else none
  | 4 => if arg < 1024 && 0 < (s.fifo arg).count then some (s.fifoAdvance arg) else none
  | 5 =>
    if d.kind == .txStatic && !d.commitPending && s.commitOk d then some (s.commitStatic arg) else none
  | 6 => if d.kind == .txStatic && d.state != .empty then some (s.triggerStatic arg).2 else none
  | 7 =>
    if onFifo then if arg < 1024 && 0 < (s.fifo arg).depth then some (s.wr (fifoOvr arg) 0) else none
    else if d.kind == .unused then none
    else some (s.setDesc arg { d with overrun := 0 })
  | _ => none

/-- A write of POOL_MBOP in its allowed modes (R250, R251); the check of COMMIT reads the shadow record's cells. -/
def State.mbop (cells : RecEcc) (w : Word) (s : State) : State :=
  let op := fld w 28 4
  let onFifo := bit w 16
  if fld w 17 11 ≠ 0 || (onFifo && op != 7) then s.encReject 0x4000
  else
    let d := s.desc (fld w 0 16)
    let s := if op = 5 ∧ d.kind = .txStatic ∧ d.commitPending = false then s.readCells cells else s
    match s.bufferOp op onFifo (fld w 0 16) with
    | some t => t
    | none => s.encReject 0x4000

end Sys2Proof.Machine
end

