-- ==== Sys2Proof/Machine/Filters.lean ====
section
/-! DEFINITION. Acceptance filters: the search key (R304, R305), candidate buckets (R317), the lookup (R306 to
R314), action blocks and entries (Table 8-3 to Table 8-8), and the run-time operations (R324 to R327). -/
namespace Sys2Proof.Machine

/-! ### Keys -/

/-- An Ethernet frame carries a VLAN tag. -/
def ethTagged (d : List Byte) : Bool := beAt d 12 2 == 0x8100

/-- Byte position of an Ethernet frame's EtherType after any VLAN tag. -/
def ethTypeAt (d : List Byte) : Nat := if ethTagged d then 16 else 12

/-- Bytes 20 to 23 of an ETHERNET record's header: VLAN TCI, or zero untagged, and EtherType or length (Table 6-2). -/
def ethAf (d : List Byte) : Nat :=
  (if ethTagged d then beAt d 14 2 else 0) + beAt d (ethTypeAt d) 2 * 2 ^ 16

/-- src_local of a source (Table 8-1). -/
def srcLocal (kind index : Nat) : Nat :=
  if kind = srcBus then index % 10 else if kind = srcEth then index % 6
  else if kind = srcEngine then index % 8 else 0

/-- The 128-bit search key of a frame (Table 8-1). -/
def Frame.key (f : Frame) : Nat :=
  let src := f.srcKind % 16 * 2 ^ 120 + srcLocal f.srcKind f.srcIndex * 2 ^ 116
  if f.format = fmtXl then
    2 * 2 ^ 124 + src + b2n (nbit f.flags 4) * 2 ^ 111 + f.sdt % 256 * 2 ^ 103 + f.vcid % 256 * 2 ^ 95
      + f.ident % 2 ^ 11 * 2 ^ 64 + f.af % 2 ^ 32 * 2 ^ 32 + leAt f.data 0 4
  else if f.format = fmtEth then
    let t := ethTypeAt f.data
    let tci := if ethTagged f.data then beAt f.data 14 2 else 0
    3 * 2 ^ 124 + src + beAt f.data 0 6 * 2 ^ 64 + tci / 2 ^ 13 * 2 ^ 61 + b2n (ethTagged f.data) * 2 ^ 60
      + tci % 2 ^ 12 * 2 ^ 48 + beAt f.data t 2 * 2 ^ 32 + leAt f.data (t + 2) 4
  else
    2 ^ 124 + src + b2n (nbit f.flags 0) * 2 ^ 111 + b2n (f.format == fmtFd) * 2 ^ 110
      + b2n (nbit f.flags 1) * 2 ^ 109 + f.dlc % 16 * 2 ^ 105
      + f.ident % (if nbit f.flags 0 then 2 ^ 29 else 2 ^ 11) * 2 ^ 64 + leAt f.data 0 8

/-- A run of key bits from `lo` up to and including `hi`. -/
def keyBits (hi lo : Nat) : Nat := (2 ^ (hi + 1 - lo) - 1) * 2 ^ lo

/-- Bits the exact projection keeps for a key's class (Table 8-2). -/
def projMask (key : Nat) : Nat :=
  match nfld key 124 4 with
  | 1 => keyBits 127 116 + keyBits 111 111 + keyBits 92 64
  | 2 => keyBits 127 116 + keyBits 110 95 + keyBits 74 64
  | 3 => keyBits 127 116 + keyBits 111 64 + keyBits 59 32
  | _ => 0

def project (key : Nat) : Nat := key &&& projMask key

/-! ### The hash (R317) -/

/-- One bit of the reflected CRC-32 of IEEE 802.3. -/
def crcBit (c : Nat) : Nat := if c % 2 = 1 then (c / 2) ^^^ 0xEDB88320 else c / 2

def crcByte (c b : Nat) : Nat :=
  crcBit (crcBit (crcBit (crcBit (crcBit (crcBit (crcBit (crcBit (c ^^^ b))))))))

/-- CRC-32 of IEEE 802.3 over bytes. -/
def crc32 (bs : List Byte) : Nat := (bs.foldl (fun c b => crcByte c b.toNat) 0xFFFFFFFF) ^^^ 0xFFFFFFFF

/-- The two candidate buckets of a projected key. -/
def buckets (seed key : Nat) : Nat × Nat :=
  let h := crc32 (leBytes 2 seed ++ leBytes 16 key)
  let h0 := h % 4096
  let h1 := h / 4096 % 4096
  (h0, if h1 = h0 then h0 ^^^ 1 else h1)

/-- A slot is a candidate of a key. -/
def isCandidate (seed key slot : Nat) : Bool :=
  let b := buckets seed key
  slot / 7 == b.1 || slot / 7 == b.2

/-! ### Entries -/

/-- A slice's exact entry at a slot. -/
def Slice.slot (x : Slice) (i : Nat) : Option ExactEnt := x.exact.get (fun _ => none) i

/-- A slice's masked entries, active or shadow. -/
def Slice.bank (x : Slice) (b : Bool) : Tbl (Option MaskedEnt) := if b then x.bank1 else x.bank0

/-- The slice with a bank replaced. -/
def Slice.setBank (x : Slice) (b : Bool) (t : Tbl (Option MaskedEnt)) : Slice :=
  if b then { x with bank1 := t } else { x with bank0 := t }

def FltAction.code : FltAction → Nat
  | .accept => 1 | .tap => 2 | .reject => 3

def ImpAction.code : ImpAction → Nat
  | .deliver => 0 | .drop => 1 | .divert => 2

/-- A 16-bit number that 0xFFFF makes absent. -/
def opt16 (n : Nat) : Option Nat := if n = 0xFFFF then none else some n

/-- The 16 bytes of an action block (Table 8-3). -/
def ActBlock.bytes (a : ActBlock) : List Byte :=
  leBytes 1 a.action.code ++ leBytes 1 a.imp.code ++ leBytes 2 a.route ++ leBytes 2 a.divert
    ++ leBytes 2 (match a.partner with | some p => 0x8000 + p | none => 0)
    ++ leBytes 2 (a.node.getD 0xFFFF) ++ leBytes 2 (a.ctx.getD 0xFFFF) ++ leBytes 4 0

/-- Reads an action block; none if a code is reserved or a reserved byte is not zero (Table 8-8). -/
def ActBlock.ofBytes (b : List Byte) : Option ActBlock :=
  let route := leAt b 2 2
  let divert := leAt b 4 2
  let pw := leAt b 6 2
  let node := leAt b 8 2
  let ctx := leAt b 10 2
  let act : Option FltAction := match byteAt b 0 with
    | 1 => some .accept | 2 => some .tap | 3 => some .reject | _ => none
  let imp : Option ImpAction := match byteAt b 1 with
    | 0 => some .deliver | 1 => some .drop | 2 => some .divert | _ => none
  match act, imp with
  | some act, some imp =>
    let okRoute := if act = .reject then route == 0xFFFF else route < 32768
    let okDivert := if imp = .divert then divert < 32768 else divert == 0xFFFF
    let okPartner := pw == 0 || (0x8000 ≤ pw && pw < 0x9000)
    if okRoute && okDivert && okPartner && (node < 4096 || node == 0xFFFF) && (ctx < 32768 || ctx == 0xFFFF)
        && leAt b 12 4 == 0 then
      some ⟨act, imp, route, divert, if pw = 0 then none else some (pw - 0x8000), opt16 node, opt16 ctx⟩
    else none
  | _, _ => none

/-- Largest src_local a source kind has in a key of the given class, plus one; 0 where the pair never occurs. -/
def localRange (cls kind : Nat) : Nat :=
  if cls = 3 then (if kind = srcEth then 6 else if kind = srcEngine then 8 else if kind = srcTile then 1 else 0)
  else if kind = srcBus then 10 else if kind = srcEngine then 8 else if kind = srcTile then 1 else 0

/-- Some key of Table 8-1 has these class, kind and local bits under the mask. -/
def headMatchable (value mask : Nat) : Bool :=
  [1, 2, 3].any fun cls => [0, 1, 2, 4].any fun kind => (List.range (localRange cls kind)).any fun l =>
    (((cls * 256 + kind * 16 + l) * 2 ^ 116) &&& (mask &&& keyBits 127 116)) == (value &&& keyBits 127 116)

/-! ### Lookup -/

/-- What a lookup gathers. -/
structure Gather where
  routes : List Nat
  accepted : Option Nat
  partner : Option Nat
  ctx : Option Nat
  impostor : Bool
  ended : Bool
  rejected : Bool
  masked : List Nat
  exact : Bool
  overflow : Nat
  dropped : Bool
  diverted : Bool
  deriving DecidableEq, Repr

def Gather.start : Gather :=
  ⟨[], none, none, none, false, false, false, [], false, 0, false, false⟩

/-- The frame finds an entry's expected node an impostor (R149): attributed to another entry with confidence of at
least impostor_min, or UNKNOWN with a valid component. -/
def impostorOf (node conf minConf : Nat) (valid : Bool) (expected : Nat) : Bool :=
  (node == 0xFFFF && valid) || (node < 4096 && node != expected && minConf ≤ conf)

/-- Acts on one matched entry (R307, R308, R313, R314). -/
def Gather.act (isImp : Nat → Bool) (a : ActBlock) (g : Gather) : Gather :=
  let imp := match a.node with
    | some n => isImp n
    | none => false
  let g := { g with partner := g.partner.orElse fun _ => a.partner, ctx := g.ctx.orElse fun _ => a.ctx,
                    impostor := g.impostor || imp }
  let route : Option Nat :=
    if imp then match a.imp with
      | .deliver => some a.route
      | .drop => none
      | .divert => some a.divert
    else some a.route
  let g := { g with dropped := g.dropped || (imp && a.imp == .drop && a.action != .reject),
                    diverted := g.diverted || (imp && a.imp == .divert && a.action != .reject) }
  match a.action with
  | .reject => { g with ended := true, rejected := true }
  | .accept =>
    match route with
    | some r => { g with ended := true, routes := g.routes ++ [r], accepted := some r }
    | none => { g with ended := true }
  | .tap =>
    match route with
    | some r =>
      if 3 ≤ g.routes.length then { g with overflow := g.overflow + 1 } else { g with routes := g.routes ++ [r] }
    | none => g

/-- Tries the masked entries of one stage in ascending index. -/
def Gather.maskedStage (isImp : Nat → Bool) (key : Nat) (post : Bool) :
    Tbl (Option MaskedEnt) → Gather → Gather
  | [], g => g
  | (i, some e) :: t, g =>
    if !g.ended && e.post == post && (key &&& e.mask) == e.value then
      Gather.maskedStage isImp key post t ({ g with masked := g.masked ++ [i] }.act isImp e.act)
    else Gather.maskedStage isImp key post t g
  | (_, none) :: t, g => Gather.maskedStage isImp key post t g

/-- The exact entry that holds a projected key (R318). -/
def Slice.find (x : Slice) (key : Nat) : Option (Nat × ExactEnt) :=
  let b := buckets x.seed key
  ((List.range 7).map (b.1 * 7 + ·) ++ (List.range 7).map (b.2 * 7 + ·)).findSome? fun i =>
    match x.slot i with
    | some e => if e.key = key then some (i, e) else none
    | none => none

/-- A lookup of a key in a slice (R306). -/
def Slice.lookup (x : Slice) (isImp : Nat → Bool) (key : Nat) : Gather :=
  let bank := x.bank x.activeBank
  let g := Gather.start.maskedStage isImp key false bank
  let g :=
    if g.ended then g
    else match x.find (project key) with
      | some (_, e) => { g with exact := true }.act isImp e.act
      | none => g
  if g.ended then g else g.maskedStage isImp key true bank

/-- The record's route field (R312). -/
def Gather.route (g : Gather) : Nat := (g.accepted.orElse fun _ => g.routes.head?).getD 0xFFFF

/-- Counter `i` of FLT[c]_CNT gains `n`. -/
def State.countFlt (c i n : Nat) (s : State) : State := if n = 0 then s else s.cnt (fltBase c + 0xA0 + 4 * i) n

/-- Counts a lookup at slice `c` and raises its events (R308, R309, R314, R333). -/
def State.countLookup (c : Nat) (g : Gather) (s : State) : State :=
  let matched := g.exact || !g.masked.isEmpty
  let s := s.countFlt c 0 1
  let s := s.countFlt c 1 (b2n g.exact)
  let s := s.countFlt c 2 (b2n !g.masked.isEmpty)
  let s := s.each g.masked fun i s => s.cnt (fltBase c + 0x1000 + 4 * i)
  let s := s.countFlt c 3 (b2n !matched)
  let s := s.countFlt c 4 (b2n (g.rejected && g.routes.isEmpty))
  let s := s.countFlt c 5 (b2n g.dropped)
  let s := s.countFlt c 6 (b2n g.diverted)
  let s := s.countFlt c 7 g.overflow
  let s := if matched then s else s.raise (.flt c) 0 c 0
  if g.overflow = 0 then s else s.raise (.flt c) 1 c 0

/-- Matches a frame at slice `c` (R300, R303): what it gathered, with counters and events. A frame received on a bus
may raise IMPOSTOR, once (R314). -/
def State.match_ (c : Nat) (f : Frame) (sigValid : Bool) (s : State) : Gather × State :=
  let minConf := fld (s.lane f.srcIndex).sigcfg 0 8
  let isImp := fun n => f.srcKind == srcBus && impostorOf f.node f.conf minConf sigValid n
  let g := (s.slice c).lookup isImp f.key
  let s := s.countLookup c g
  (g, if g.impostor then (s.raise (.bus f.srcIndex) 11 f.srcIndex 0).cnt (busBase f.srcIndex + 0x40 + 4 * 13) else s)

/-! ### Run-time operations (Table 8-9) -/

/-- Operation status (Table 8-16). -/
def optOk : Nat := 0
def optBusy : Nat := 1
def optNotCandidate : Nat := 2
def optSlotTaken : Nat := 3
def optKeyPresent : Nat := 4
def optSlotEmpty : Nat := 5
def optKeyMismatch : Nat := 6
def optBadEntry : Nat := 7
def optBatchFull : Nat := 8

/-- Applies one batched operation to an exact table. -/
def BatchOp.apply (o : BatchOp) (t : Tbl (Option ExactEnt)) : Tbl (Option ExactEnt) :=
  let set := Tbl.set (fun _ => none)
  let get := Tbl.get (fun _ => none) t
  match o with
  | .add i e => set t i (some e)
  | .set i a => set t i ((get i).map fun e => { e with act := a })
  | .del i => set t i none
  | .move i j => set (set t i none) j (get i)

/-- The exact table as it will stand after the batch (R325). -/
def Slice.future (x : Slice) : Tbl (Option ExactEnt) := x.batch.foldl (fun t o => o.apply t) x.exact

/-- Staging word `w` of slice `c`. -/
def State.stageWord (s : State) (c w : Nat) : Nat := (s.rd (fltBase c + 0x40 + 4 * w)).toNat

/-- Staged bytes from word `w`, `n` words. -/
def State.stageBytes (s : State) (c w n : Nat) : List Byte :=
  (List.range n).flatMap fun i => leBytes 4 (s.stageWord c (w + i))

/-- Writes staging words from a byte string. -/
def State.setStage (c w : Nat) : List Byte → Nat → State → State
  | _, 0, s => s
  | b, n + 1, s => State.setStage c (w + 1) (b.drop 4) n (s.wr (fltBase c + 0x40 + 4 * w) (wd (leAt b 0 4)))

/-- Owner of a loaded route: a cluster, or 4 for the module (R336). -/
def State.routeOwner (s : State) (r : Nat) : Option Nat :=
  if (s.route r).isEmpty then none else some (s.routeOwners.get (fun _ => 4) r)

/-- The route, partner and context an action block names suit slice `c` (R316, R294, R485). -/
def State.actOk (s : State) (c : Nat) (a : ActBlock) : Bool :=
  (a.action == .reject || s.routeOwner a.route == some c)
    && (a.imp != .divert || s.routeOwner a.divert == some c)
    && (match a.partner with | some p => p < 101 || (s.partner p).allocated | none => true)
    && (match a.ctx with
        | some x => match s.ctx x with
          | some k => k.cluster == c && byteAt k.entry 2 == 1
          | none => false
        | none => true)

/-- Units of a source kind that a src_local can name (Table 8-1). -/
def kindRange (kind : Nat) : Nat :=
  if kind = srcBus then 10 else if kind = srcEth then 6 else if kind = srcEngine then 8
  else if kind = srcTile then 1 else 0

/-- An exact entry's key is well formed (Table 8-8). -/
def exactKeyOk (key : Nat) : Bool :=
  let cls := nfld key 124 4
  1 ≤ cls && cls ≤ 3 && nfld key 116 4 < kindRange (nfld key 120 4) && project key == key

/-- The staged exact entry, if it meets Table 8-8, seeds and slot apart. -/
def State.stagedExact (s : State) (c : Nat) : Option ExactEnt :=
  let key := ofLe (s.stageBytes c 0 4)
  match ActBlock.ofBytes (s.stageBytes c 8 4) with
  | some a =>
    if exactKeyOk key && (nfld key 124 4 != 3 || a.node.isNone) && s.actOk c a then some ⟨key, a⟩ else none
  | none => none

/-- A masked entry's value, mask and action are well formed (Table 8-8). -/
def maskedOk (value mask : Nat) (a : ActBlock) : Bool :=
  (value &&& mask) == value && headMatchable value mask
    && (nfld mask 124 4 != 15 || nfld value 124 4 != 3 || a.node.isNone)

/-- The staged masked entry, if it meets Table 8-8. -/
def State.stagedMasked (s : State) (c : Nat) : Option MaskedEnt :=
  let value := ofLe (s.stageBytes c 0 4)
  let mask := ofLe (s.stageBytes c 4 4)
  match ActBlock.ofBytes (s.stageBytes c 8 4) with
  | some a =>
    if maskedOk value mask a && s.actOk c a then some ⟨nbit (s.stageWord c 12) 16, value, mask, a⟩ else none
  | none => none

/-- Ends an operation with a status; any but OK is a refusal (R325). -/
def State.fltStatus (c st : Nat) (s : State) : State :=
  let s := s.setSlice c { s.slice c with status := st }
  if st = optOk then s else s.raise (.flt c) 2 c 0

/-- Batches a checked operation, unless 32 are batched already. -/
def State.fltBatch (c : Nat) (o : BatchOp) (s : State) : State :=
  let x := s.slice c
  if 32 ≤ x.batch.length then s.fltStatus c optBatchFull
  else (s.setSlice c { x with batch := x.batch ++ [o] }).fltStatus c optOk

def slotCount : Nat := 28672

/-- ADD_EXACT of the staged entry into `slot`. -/
def State.fltAdd (c slot : Nat) (s : State) : State :=
  let x := s.slice c
  let t := x.future
  let key := ofLe (s.stageBytes c 0 4)
  if slotCount ≤ slot then s.fltStatus c optBadEntry
  else if !isCandidate x.seed key slot then s.fltStatus c optNotCandidate
  else if (t.get (fun _ => none) slot).isSome then s.fltStatus c optSlotTaken
  else if (({ x with exact := t } : Slice).find key).isSome then s.fltStatus c optKeyPresent
  else match s.stagedExact c with
    | some e => s.fltBatch c (.add slot e)
    | none => s.fltStatus c optBadEntry

/-- SET_EXACT of the staged action at `slot`. -/
def State.fltSet (c slot : Nat) (s : State) : State :=
  let key := ofLe (s.stageBytes c 0 4)
  if slotCount ≤ slot then s.fltStatus c optBadEntry
  else match (s.slice c).future.get (fun _ => none) slot with
    | none => s.fltStatus c optSlotEmpty
    | some e =>
      if e.key ≠ key then s.fltStatus c optKeyMismatch
      else match s.stagedExact c with
        | some n => s.fltBatch c (.set slot n.act)
        | none => s.fltStatus c optBadEntry

/-- DEL_EXACT at `slot`. -/
def State.fltDel (c slot : Nat) (s : State) : State :=
  if slotCount ≤ slot then s.fltStatus c optBadEntry
  else if ((s.slice c).future.get (fun _ => none) slot).isNone then s.fltStatus c optSlotEmpty
  else s.fltBatch c (.del slot)

/-- MOVE_EXACT from `slot` to the slot in the staged aux field. -/
def State.fltMove (c slot : Nat) (s : State) : State :=
  let x := s.slice c
  let t := x.future
  let dst := nfld (s.stageWord c 12) 0 16
  if slotCount ≤ slot || slotCount ≤ dst then s.fltStatus c optBadEntry
  else match t.get (fun _ => none) slot with
    | none => s.fltStatus c optSlotEmpty
    | some e =>
      if !isCandidate x.seed e.key dst then s.fltStatus c optNotCandidate
      else if (t.get (fun _ => none) dst).isSome then s.fltStatus c optSlotTaken
      else s.fltBatch c (.move slot dst)

/-- READ_EXACT: key and action to the staging registers, zero if the slot is empty. -/
def State.fltReadExact (c slot : Nat) (s : State) : State :=
  if slotCount ≤ slot then s.fltStatus c optBadEntry
  else
    let e := (s.slice c).slot slot
    let key := match e with | some e => leBytes 16 e.key | none => []
    let act := match e with | some e => e.act.bytes | none => []
    ((s.setStage c 0 key 4).setStage c 8 act 4).fltStatus c optOk

/-- READ_MASKED from the active or the shadow bank. -/
def State.fltReadMasked (c i : Nat) (shadow : Bool) (s : State) : State :=
  if 4096 ≤ i then s.fltStatus c optBadEntry
  else
    let x := s.slice c
    match (x.bank (x.activeBank != shadow)).get (fun _ => none) i with
    | some e =>
      let s := s.setStage c 0 (leBytes 16 e.value ++ leBytes 16 e.mask ++ e.act.bytes) 12
      (s.wr (fltBase c + 0x40 + 48) (wd (2 ^ 17 + 2 ^ 16 * b2n e.post))).fltStatus c optOk
    | none => (s.setStage c 0 [] 13).fltStatus c optOk

/-- WRITE_SHADOW of the staged entry, or of none if its valid bit is 0. -/
def State.fltWriteShadow (c i : Nat) (s : State) : State :=
  let x := s.slice c
  let put (e : Option MaskedEnt) : State :=
    (s.setSlice c (x.setBank (!x.activeBank)
      ((x.bank (!x.activeBank)).set (fun _ => none) i e))).fltStatus c optOk
  if 4096 ≤ i then s.fltStatus c optBadEntry
  else if !nbit (s.stageWord c 12) 17 then put none
  else match s.stagedMasked c with
    | some e => put (some e)
    | none => s.fltStatus c optBadEntry

/-- COMMIT: the batch, and the bank flip if asked, in one handshake (R326). -/
def State.fltCommit (c : Nat) (flip : Bool) (s : State) : State :=
  let x := s.slice c
  (s.setSlice c { x with exact := x.future, batch := [], activeBank := x.activeBank != flip }).fltStatus c optOk

/-- COPY_TO_SHADOW ends: the shadow bank is the active bank's copy. -/
def State.fltCopyDone (c : Nat) (s : State) : State :=
  let x := s.slice c
  if x.busy then
    s.setSlice c { x.setBank (!x.activeBank) (x.bank x.activeBank) with busy := false, status := optOk }
  else s

/-- A write of FLT[c]_OP in its allowed modes (R324 to R327). -/
def State.fltOp (c : Nat) (w : Word) (s : State) : State :=
  let op := fld w 28 4
  let i := fld w 0 15
  let x := s.slice c
  if op = 0 || 10 < op then s.encReject (fltBase c + 0x80)
  else if s.reconf c || x.busy then s.fltStatus c optBusy
  else match op with
    | 1 => s.fltReadExact c i
    | 2 => s.fltReadMasked c i (bit w 26)
    | 3 => s.fltAdd c i
    | 4 => s.fltSet c i
    | 5 => s.fltDel c i
    | 6 => s.fltMove c i
    | 7 => s.fltWriteShadow c i
    | 8 => s.setSlice c { x with busy := true, status := optOk }
    | 9 => s.fltCommit c (bit w 27)
    | _ => (s.setSlice c { x with batch := [] }).fltStatus c optOk

end Sys2Proof.Machine
end

