-- ==== Sys2Proof/Machine/Check.lean ====
section
/-! DEFINITION. Check-value units: the CRC (R483), stream contexts (Table 13-2), judging a received frame (R488 to
R492), appending on transmit (R494, R495), and the quarantine rings (R497). -/
namespace Sys2Proof.Machine

/-! ### The CRC (R483) -/

/-- `n` bits of `v` in reverse order. -/
def revBits : Nat → Nat → Nat
  | 0, _ => 0
  | n + 1, v => v % 2 * 2 ^ n + revBits n (v / 2)

/-- A unit's parameters. -/
structure CrcSet where
  width : Nat
  poly : Nat
  init : Nat
  xorout : Nat
  refin : Bool
  refout : Bool
  deriving DecidableEq, Repr

/-- `k` bit steps of the division. -/
def CrcSet.steps (u : CrcSet) : Nat → Nat → Nat
  | 0, crc => crc
  | k + 1, crc =>
    u.steps k (if nbit crc (u.width - 1) then ((crc * 2) ^^^ u.poly) % 2 ^ u.width else crc * 2 % 2 ^ u.width)

/-- The register after one more byte. -/
def CrcSet.feed (u : CrcSet) (crc b : Nat) : Nat :=
  u.steps 8 (crc ^^^ ((if u.refin then revBits 8 b else b) * 2 ^ (u.width - 8)))

/-- The CRC of a byte sequence. -/
def CrcSet.crc (u : CrcSet) (bs : List Byte) : Nat :=
  let c := bs.foldl (fun c b => u.feed c b.toNat) (u.init % 2 ^ u.width)
  ((if u.refout then revBits u.width c else c) ^^^ u.xorout) % 2 ^ u.width

/-- The parameters in check unit `u`'s registers. -/
def State.crcSet (s : State) (u : Nat) : CrcSet :=
  let b := chkBase u
  let two (k : Nat) := (s.rd (b + k)).toNat + 2 ^ 32 * (s.rd (b + k + 4)).toNat
  ⟨8 * 2 ^ s.rf b 0 2, two 8, two 16, two 24, s.rb b 2, s.rb b 3⟩

/-! ### Contexts -/

def Ctx.flag (x : Ctx) (i : Nat) : Bool := nbit (byteAt x.entry 4) i
def Ctx.isTx (x : Ctx) : Bool := byteAt x.entry 2 == 2
def Ctx.unit (x : Ctx) : Nat := 4 * x.cluster + byteAt x.entry 3
def Ctx.ctrEn (x : Ctx) : Bool := x.flag 0
def Ctx.be (x : Ctx) : Bool := x.flag 4
def Ctx.idLen (x : Ctx) : Nat := nfld (byteAt x.entry 4) 5 2
def Ctx.ctrWidth (x : Ctx) : Nat := byteAt x.entry 5 % 4
def Ctx.countMax (x : Ctx) : Nat := leAt x.entry 6 2
def Ctx.rangeOff (x : Ctx) : Nat := leAt x.entry 8 2
def Ctx.chkOff (x : Ctx) : Nat := leAt x.entry 12 2
def Ctx.ctrOff (x : Ctx) : Nat := leAt x.entry 14 2
def Ctx.ctrBytes (x : Ctx) : Nat := if x.ctrWidth = 2 then 2 else 1

/-- End of the checked range in `len` data bytes. -/
def Ctx.rangeEnd (x : Ctx) (len : Nat) : Nat :=
  let n := leAt x.entry 10 2
  if n = 0 then len else x.rangeOff + n

/-- The range, the check field or the counter field runs past the end of the data. -/
def Ctx.short (x : Ctx) (w len : Nat) : Bool :=
  len < x.rangeOff || len < x.rangeEnd len || len < x.chkOff + w / 8
    || (x.ctrEn && len < x.ctrOff + x.ctrBytes)

/-- Bytes fed to the unit: data_id, then the range outside the check field. -/
def Ctx.fed (x : Ctx) (w : Nat) (d : List Byte) : List Byte :=
  (x.entry.drop 16).take x.idLen
    ++ ((List.range d.length).filter fun i => x.rangeOff ≤ i && i < x.rangeEnd d.length
        && !(x.chkOff ≤ i && i < x.chkOff + w / 8)).map fun i => d.getD i 0

/-- A field of `n` bytes in the byte order `be` says. -/
def getField (be : Bool) (d : List Byte) (off n : Nat) : Nat := if be then beAt d off n else leAt d off n

/-- Data with `n` bytes at `off` replaced. -/
def putField (be : Bool) (d : List Byte) (off n v : Nat) : List Byte :=
  let b := leBytes n v
  d.take off ++ (if be then b.reverse else b) ++ d.drop (off + n)

/-- The counter field's value. -/
def Ctx.counter (x : Ctx) (d : List Byte) : Nat :=
  match x.ctrWidth with
  | 0 => byteAt d x.ctrOff % 16
  | 1 => byteAt d x.ctrOff
  | _ => getField x.be d x.ctrOff 2

/-- Data with the counter field written. -/
def Ctx.putCounter (x : Ctx) (d : List Byte) (v : Nat) : List Byte :=
  match x.ctrWidth with
  | 0 => putField false d x.ctrOff 1 (byteAt d x.ctrOff / 16 * 16 + v % 16)
  | 1 => putField false d x.ctrOff 1 v
  | _ => putField x.be d x.ctrOff 2 v

/-! ### Quarantine (R497) -/

/-- Causes of Table 13-3. -/
def causeCheck : Nat := 1
def causeLength : Nat := 2
def causeRange : Nat := 3
def causeRepeat : Nat := 4
def causeUnitDown : Nat := 5

/-- Offset of CHK[c]_QSTAT. -/
def qstat (c : Nat) : Nat := chkQBase c + 4

/-- Next sequence number of a source of kind BUS, ETH, ENGINE, HOST or TILE (Table 6-2, Table 6-4). -/
def State.seqOf (s : State) (kind index : Nat) : Nat :=
  match kind with
  | 0 => (s.lane index).seq
  | 1 => (s.port index).seq
  | 2 => (s.eng index).seq
  | 3 => (s.hostQ index).seq
  | _ => (s.tile index).seq

/-- Copies a dropped frame to cluster `c`'s ring, its header as the record's would have been (R497). -/
def State.quarantine (c i cause received computed : Nat) (f : Frame) (s : State) : State :=
  let f := { f with seq := s.seqOf f.srcKind f.srcIndex }
  let e := f.header ++ leBytes 2 i ++ leBytes 1 cause ++ leBytes 5 0 ++ leBytes 8 received ++ leBytes 8 computed
    ++ leBytes 8 0 ++ fitBytes 64 (f.data.take 64)
  let q := s.ring c
  if q.held.length < 64 then s.setRing c { q with held := q.held ++ [e] }
  else if s.rb (chkQBase c) 31 then
    (s.setRing c { q with head := (q.head + 1) % 64, held := q.held.drop 1 ++ [e] }).cntF (qstat c) 16 16
  else
    let s := (s.setRing c { q with fullRaised := true }).cntF (qstat c) 16 16
    if q.fullRaised then s else s.raise (.chk c) 3 c 0

/-- QPOP: removes the head entry. -/
def State.quarantinePop (c : Nat) (s : State) : State :=
  let q := s.ring c
  if q.held.isEmpty then s
  else s.setRing c { head := (q.head + 1) % 64, held := q.held.drop 1, fullRaised := false }

/-! ### Judging (R488 to R492) -/

/-- CHECK_FAIL for the first failure of context `x` in each cell cycle (R491). -/
def State.raiseFail (c x cause : Nat) (already : Bool) (s : State) : State :=
  if already then s else s.raise (.chk c) 0 x cause

/-- ALIVE_REPEAT (1) or ALIVE_SKIP (2) of context `x` (R489); its record is written once in each cell cycle
(Table 13-9). -/
def State.raiseAlive (c i x : Nat) (already : Bool) (s : State) : State :=
  if already then s.raiseBit (.chk c) i else s.raise (.chk c) i x 0

/-- Whether the check lets a frame through, with its data as delivered, and the failing cause and values otherwise. -/
structure Judged where
  pass : Bool
  data : List Byte
  cause : Nat
  received : Nat
  computed : Nat
  ctx : Ctx
  /-- The alive counter repeated (1) or skipped (2). -/
  alive : Nat
  deriving DecidableEq, Repr

/-- The alive counter's judgement (R489): delivered, a repeat (1) or a skip (2), and the context after it. -/
def Ctx.alive (x : Ctx) (c : Nat) : Bool × Nat × Ctx :=
  if !x.seen then (true, 0, { x with seen := true, last := c })
  else
    let d := (c + (x.countMax + 1) - x.last) % (x.countMax + 1)
    if d = 0 then (!x.flag 1, 1, { x with aliveRepeat := satAdd 65535 x.aliveRepeat 1, repeatRaised := true })
    else if 2 ≤ d then (true, 2, { x with skipLost := satAdd 65535 x.skipLost (d - 1), last := c, skipRaised := true })
    else (true, 0, { x with last := c })

/-- Judges data under a context and its unit's parameters (R488). -/
def Ctx.judge (x : Ctx) (u : CrcSet) (down : Bool) (d : List Byte) : Judged :=
  let failed (cause r c : Nat) : Judged :=
    ⟨false, d, cause, r, c, { x with checkFail := satAdd 0xFFFF_FFFF x.checkFail 1, failRaised := true }, 0⟩
  if down then failed causeUnitDown 0 0
  else if x.short u.width d.length then failed causeLength 0 0
  else
    let r := getField x.be d x.chkOff (u.width / 8)
    let k := u.crc (x.fed u.width d)
    if r ≠ k then failed causeCheck r k
    else if x.ctrEn && x.countMax < x.counter d then failed causeRange r k
    else
      let a := if x.ctrEn then x.alive (x.counter d) else (true, 0, x)
      let data :=
        if x.flag 3 then
          let d := putField false d x.chkOff (u.width / 8) 0
          if x.ctrEn then x.putCounter d 0 else d
        else d
      if a.1 then ⟨true, data, 0, r, k, { a.2.2 with checkOk := satAdd 0xFFFF_FFFF a.2.2.checkOk 1 }, a.2.1⟩
      else ⟨false, d, causeRepeat, r, k, a.2.2, a.2.1⟩

/-- Judges a frame under RX context `i`; none if it is dropped (R490). `route` is the first gathered route. -/
def State.rxCheck (i route : Nat) (f : Frame) (s : State) : Option Frame × State :=
  match s.ctx i with
  | none => (some f, s)
  | some x =>
    let u := x.unit
    let j := x.judge (s.crcSet u) (s.unitDown u) f.data
    let y := j.ctx
    let s := s.setCtx i (some y)
    let s := if j.cause = 0 || j.cause = causeRepeat then s else s.raiseFail x.cluster i j.cause x.failRaised
    let s := match j.alive with
      | 0 => s
      | 1 => s.raiseAlive x.cluster 1 i x.repeatRaised
      | _ => s.raiseAlive x.cluster 2 i x.skipRaised
    if j.pass then (some { f with data := j.data }, s)
    else if x.flag 2 then
      (none, s.quarantine x.cluster i j.cause j.received j.computed { f with route := route })
    else (none, s)

/-! ### Appending (R494, R495) -/

/-- Appends counter and check value under TX context `i`; none if the frame is refused. -/
def State.txAppend (i : Nat) (f : Frame) (s : State) : Option Frame × State :=
  match s.ctx i with
  | none => (none, s)
  | some x =>
    let u := x.unit
    let p := s.crcSet u
    if s.unitDown u || x.short p.width f.data.length then
      let cause := if s.unitDown u then causeUnitDown else causeLength
      (none, (s.setCtx i (some { x with checkFail := satAdd 0xFFFF_FFFF x.checkFail 1, failRaised := true })).raiseFail
        x.cluster i cause x.failRaised)
    else
      let v := if x.seen then (x.last + 1) % (x.countMax + 1) else 0
      let d := if x.ctrEn then x.putCounter f.data v else f.data
      let d := putField x.be d x.chkOff (p.width / 8) (p.crc (x.fed p.width d))
      let y := if x.ctrEn then { x with seen := true, last := v } else x
      (some { f with data := d }, s.setCtx i (some { y with checkOk := satAdd 0xFFFF_FFFF y.checkOk 1 }))

/-- The bytes that TX context `i` has written into data: its check field, and its counter field while ctr_en is 1. -/
def State.appended (s : State) (i : Nat) (d : List Byte) : List (Nat × Byte) :=
  match s.ctx i with
  | none => []
  | some x =>
    let at_ (off n : Nat) : List Nat := (List.range n).map (off + ·)
    (at_ x.chkOff ((s.crcSet x.unit).width / 8) ++ if x.ctrEn then at_ x.ctrOff x.ctrBytes else []).map fun k =>
      (k, d.getD k 0)

/-! ### Context operations (R493) -/

/-- A write of CHK_CTXOP in its allowed modes (Table 13-11). -/
def State.ctxOp (w : Word) (s : State) : State :=
  let i := fld w 0 15
  match s.ctx i, fld w 28 4 with
  | some x, 1 => s.setCtx i (some { x with seen := false })
  | some x, 2 =>
    s.setCtx i (some { x with checkOk := 0, checkFail := 0, aliveRepeat := 0, skipLost := 0 })
  | _, _ => s.encReject 0xC000

/-- seen is set to 0 for every context (R501). -/
def State.unseeAll (s : State) : State :=
  { s with ctxs := s.ctxs.map fun e => (e.1, e.2.map fun x => { x with seen := false }) }

end Sys2Proof.Machine
end

