-- ==== Sys2Proof/Machine/Gates.lean ====
section
/-! DEFINITION. The egress side of an Ethernet port that deliveries reach: queues and counters (R379, R403, R411),
tunnelled frames (R348 to R350), transmit stamp records (R441, R442), gate lists (R381, R382, R398, R399), pauses
and shaper credit (R402). -/
namespace Sys2Proof.Machine

def Port.queue (x : Port) (t : Nat) : List EthEntry := x.queues.get (fun _ => []) t
def Port.setQueue (t : Nat) (l : List EthEntry) (x : Port) : Port :=
  { x with queues := x.queues.set (fun _ => []) t l }
def Port.heldCls (x : Port) (t : Nat) : Nat := x.reserved.get (fun _ => 0) t
def Port.setHeldCls (t n : Nat) (x : Port) : Port := { x with reserved := x.reserved.set (fun _ => 0) t n }
def Port.pause (x : Port) (t : Nat) : Pause := x.pauses.get (fun _ => Pause.none) t
def Port.setPause (t : Nat) (y : Pause) (x : Port) : Port :=
  { x with pauses := x.pauses.set (fun _ => Pause.none) t y }

/-- Updates port `p`. -/
def State.upPort (p : Nat) (f : Port → Port) (s : State) : State := s.setPort p (f (s.port p))

/-- Depth of a traffic class (R379). -/
def State.tcDepth (s : State) (p t : Nat) : Nat := s.rf (macBase p + 0x18 + 4 * (t / 4)) (t % 4 * 8) 8

/-- Counter `i` of MAC[p]_CNT. -/
def State.countMac (p i : Nat) (s : State) (n : Nat := 1) : State := s.cnt (macBase p + 0x100 + 4 * i) n

/-- Configured speed (Table 10-1). -/
def State.portSpeed (s : State) (p : Nat) : Nat := s.rf (macBase p) 29 3

/-- Port rate in kbit/s. -/
def rateOf (speed : Nat) : Nat :=
  match speed with
  | 1 => 1000000 | 2 => 2500000 | 3 => 5000000 | 4 => 10000000 | _ => 100000

def State.portRate (s : State) (p : Nat) : Nat := rateOf (s.portSpeed p)

/-- Time on the line of `n` octets and their preamble and FCS, in 2^-16 ns. -/
def State.lineTime (s : State) (p n : Nat) : Nat := (n + 12) * 8 * 10 ^ 6 * 2 ^ 16 / s.portRate p

/-- The port's own address, first octet first (Table 10-7). -/
def State.macAddr (s : State) (p : Nat) : List Byte :=
  leBytes 4 (s.rd (macBase p + 8)).toNat ++ leBytes 2 (s.rd (macBase p + 12)).toNat

/-! ### Tunnelled frames (R348 to R350) -/

/-- ACF_CAN message of a CLASSIC or FD record (Table 9-7; the layout is IEEE 1722's). -/
def acfCan (f : Frame) (bus : Nat) : List Byte :=
  let pad := (4 - f.data.length % 4) % 4
  let q := (16 + f.data.length + pad) / 4
  let b2 := pad * 64 + 32 + b2n (nbit f.flags 1) * 16 + b2n (nbit f.flags 0) * 8 + b2n (nbit f.flags 2) * 4
    + b2n (f.format == fmtFd) * 2 + b2n (nbit f.flags 3)
  (leBytes 2 (2 ^ 9 + q)).reverse ++ leBytes 1 b2 ++ leBytes 1 (bus % 32)
    ++ (leBytes 8 (nsOfStamp f.stamp)).reverse ++ (leBytes 4 (f.ident % 2 ^ 29)).reverse ++ f.data
    ++ List.replicate pad 0

/-- The message of an XL record: the common header of Table 9-7, XL fields of `Config`, the data and their pad. PRESUMED
(log 49): the common fields stand where an ACF_CAN message has them. -/
def acfXl (f : Frame) (bus : Nat) : List Byte :=
  let pad := (4 - f.data.length % 4) % 4
  let q := 3 + Config.acfXlQuads + (f.data.length + pad) / 4
  (leBytes 2 (Config.acfXlType % 128 * 2 ^ 9 + q)).reverse ++ leBytes 1 (pad * 64 + 32) ++ leBytes 1 (bus % 32)
    ++ (leBytes 8 (nsOfStamp f.stamp)).reverse ++ fitBytes (4 * Config.acfXlQuads) (Config.acfXlFields f.header)
    ++ f.data ++ List.replicate pad 0

def acfMessage (f : Frame) (bus : Nat) : List Byte := if f.format = fmtXl then acfXl f bus else acfCan f bus

/-- The tunnelled frame before the FCS, padded to 60 bytes (Table 9-7). `src` is the port's address bytes. -/
def tunnelFrame (f : Frame) (bus : Nat) (tunnel : List Byte) (tagged : Bool) (seq : Nat) (src : List Byte) :
    List Byte :=
  let m := acfMessage f bus
  let b := (tunnel.drop 8).take 6 ++ src ++ (if tagged then leBytes 2 0x0081 ++ (tunnel.drop 14).take 2 else [])
    ++ leBytes 2 0xF022 ++ leBytes 1 0x82 ++ (leBytes 2 (2 ^ 15 + m.length % 2 ^ 11)).reverse ++ leBytes 1 seq
    ++ tunnel.take 8 ++ m
  if b.length < 60 then fitBytes 60 b else b

/-- Octets an entry is sent as, FCS not included and padded to 60. -/
def State.entryOctets (s : State) (p : Nat) (e : EthEntry) : List Byte :=
  let b := match e.record, e.acf with
    | none, _ => e.octets
    | some c, none => (s.frameOf c).data
    | some c, some (bus, tunnel, tagged, seq) => tunnelFrame (s.frameOf c) bus tunnel tagged seq (s.macAddr p)
  if b.length < 60 then fitBytes 60 b else b

/-- Time on the line of an entry. -/
def State.entryTime (s : State) (p : Nat) (e : EthEntry) : Nat := s.lineTime p (s.entryOctets p e).length

/-! ### Stamp records (R441, R442) -/

def txSent : Nat := 0
def txLate : Nat := 1
def txLateDropped : Nat := 2
def txDiscarded : Nat := 3
def txUnderrun : Nat := 4

/-- Writes a record to port `p`'s transmit stamp queue, or counts it lost (R442). -/
def State.stampRecord (p tag outcome stamp : Nat) (s : State) : State :=
  let x := s.bport p
  if x.tsq.length < 64 then s.setBport p { x with tsq := x.tsq ++ [⟨stamp, tag, outcome⟩] }
  else (s.cnt (0x8400 + 0x40 * p + 0x20)).raise .bcn 6 p tag

/-- The stamp record of an entry that asked for its stamp (R441). -/
def State.tsRecord (p : Nat) (e : EthEntry) (outcome stamp : Nat) (s : State) : State :=
  if e.stampReq then s.stampRecord p e.tag outcome stamp else s

/-- An entry ends without transmission: its record's reference is released and its outcome recorded. -/
def State.entryGone (p : Nat) (outcome : Nat) (e : EthEntry) (s : State) : State :=
  let s := s.tsRecord p e outcome 0
  match e.record with
  | some c => s.dropRef c
  | none => s

/-! ### Gate lists (R398, R399, R456) -/

/-- Entries of a list over one cycle: cut at its end, or the last one extended to it. -/
def cutSegs : Nat → List (Nat × Nat) → List (Nat × Nat)
  | c, [] => [(0xFF, c)]
  | c, [(g, _)] => [(g, c)]
  | c, (g, i) :: r => if c ≤ i then [(g, c)] else (g, i) :: cutSegs (c - i) r

/-- Gate states `x` ns into a cycle. -/
def segAt : Nat → List (Nat × Nat) → Nat
  | _, [] => 0xFF
  | x, (g, i) :: r => if x < i then g else segAt (x - i) r

/-- Length of the open run of class `t` that starts `x` ns into the segments. -/
def openRun (t : Nat) : Nat → List (Nat × Nat) → Nat
  | _, [] => 0
  | x, (g, i) :: r =>
    if i ≤ x then openRun t (x - i) r
    else if nbit g t then i - x + openRun t 0 r else 0

/-- The longest run of open segments of class `t`; `run` is the run so far. -/
def longestOpen (t run : Nat) : List (Nat × Nat) → Nat
  | [] => run
  | (g, i) :: r => if nbit g t then longestOpen t (run + i) r else max run (longestOpen t 0 r)

/-- The gate list that governs port `p`; none while every gate is open. -/
def State.gateList (s : State) (p : Nat) : Option GateList :=
  let w := s.rd (macBase p + 0x40)
  if !bit w 31 then none
  else match (s.port p).oper with
    | none => none
    | some g =>
      if !bit w 30 then some g
      else match s.cycle with
        | some c => some { g with base := c.phase, cycle := c.period }
        | none => none

/-- Nanoseconds since the list's cycle began. -/
def GateList.into (g : GateList) (ns : Nat) : Nat :=
  (((ns : Int) - g.base) % (g.cycle : Int)).toNat

/-- The last entry lasts `n` ns more. -/
def stretch (n : Nat) : List (Nat × Nat) → List (Nat × Nat)
  | [] => []
  | [(g, i)] => [(g, i + n)]
  | e :: r => e :: stretch n r

/-- By how much a committed change extends the list's cycle that runs at `ns`, up to its change time (R400). -/
def GateList.extendedBy (g : GateList) (admin : Option GateList) (ns : Nat) : Option Nat :=
  match admin with
  | none => none
  | some a =>
    let rest := g.into a.base
    if 0 < rest ∧ rest ≤ a.ext ∧ a.base ≤ ns + rest + g.cycle ∧ ns < a.base then some rest else none

/-- How far into its cycle the operational list stands at `ns`, and its entries from that cycle's start on: a cycle that
is extended to a change time keeps its last states (R400). None while every gate is open. -/
def State.gateRun (s : State) (p ns : Nat) : Option (Nat × List (Nat × Nat)) :=
  (s.gateList p).map fun g =>
    let segs := cutSegs g.cycle g.entries
    match g.extendedBy (s.port p).admin ns with
    | some rest => (ns + rest + g.cycle - (((s.port p).admin.map (·.base)).getD 0), stretch rest segs ++ segs)
    | none => (g.into ns, segs ++ segs)

/-- Gate states at a moment. -/
def State.gatesAt (s : State) (p ns : Nat) : Nat :=
  match s.gateRun p ns with
  | none => 0xFF
  | some (x, segs) => segAt x segs

/-- How long class `t` stays open from a moment on, in ns; none if its gate never closes (R381). -/
def State.openFor (s : State) (p t ns : Nat) : Option Nat :=
  match s.gateRun p ns with
  | none => none
  | some (x, segs) => if segs.all (fun e => nbit e.1 t) then none else some (openRun t x segs)

/-- The longest open interval of class `t`, in ns; none if its gate never closes. -/
def State.longest (s : State) (p t : Nat) : Option Nat :=
  match s.gateList p with
  | none => none
  | some g =>
    let segs := cutSegs g.cycle g.entries
    if segs.all (fun e => nbit e.1 t) then none else some (longestOpen t 0 (segs ++ segs))

/-! ### Shaper credit (R402) -/

/-- Class `t` has a frame waiting, Beacon's message among them (R437). -/
def Port.waiting (x : Port) (t : Nat) : Bool := !(x.queue t).isEmpty || x.ptp.any fun e => e.cls == t

/-- A frame of class `t` is being transmitted. -/
def Port.sendingCls (x : Port) (t : Nat) : Bool :=
  match x.tx with
  | some y => y.entry.cls == t && (y.kind == .queued || y.kind == .beacon)
  | none => false

def Port.creditOf (x : Port) (t : Nat) : Int := x.credit.get (fun _ => 0) t

/-- Credit of class `t` after `dt` units of 2^-16 ns (R402): frozen while its gate is closed or it is paused, falling
at sendSlope while it transmits, rising at idleSlope while a frame waits or it is negative, and zero otherwise.
hiCredit and loCredit are the bounds it reaches under IEEE 802.1Q. PRESUMED (log 23). The shaper registers apply as the
last frame start found them (R409). -/
def State.creditAfter (s : State) (p t dt : Nat) : Int :=
  let x := s.port p
  let w := x.cbs.get (fun _ => 0) t
  let c := x.creditOf t
  let idle : Int := fld w 0 24
  if !bit w 31 then 0
  else if !nbit x.gates t || (x.pause t).inForce then c
  else if x.sendingCls t then c + (idle - s.portRate p) * dt
  else if x.waiting t then c + idle * dt
  else min 0 (c + idle * dt)

/-- Brings the shaper credit of port `p` up to the present. -/
def State.advanceCredit (p : Nat) (s : State) : State :=
  let x := s.port p
  let now := s.beacon.raw
  let dt := if now < x.creditAt then now else now - x.creditAt
  s.setPort p { x with
    creditAt := now
    credit := (List.range 8).foldl (fun tbl t => Tbl.set (fun _ => (0 : Int)) tbl t (s.creditAfter p t dt)) x.credit }

/-- The gate states in force follow the list (GATE_BOUNDARY, and every write that changes the list). -/
def State.refreshGates (p : Nat) (s : State) : State :=
  let s := s.advanceCredit p
  s.upPort p fun x => { x with gates := s.gatesAt p s.ns }

/-- Every port's gates follow a cell cycle that is loaded or dropped (R456). -/
def State.refreshAllGates (s : State) : State := s.each (List.range 24) State.refreshGates

/-! ### Entering a queue -/

/-- No open interval of class `t` can hold an entry (R382). -/
def State.tooLong (s : State) (p t : Nat) (e : EthEntry) : Bool :=
  match s.longest p t with
  | some n => decide (n * 2 ^ 16 < s.entryTime p e)
  | none => false

/-- An entry is dropped under R382. -/
def State.gateOversize (p : Nat) (e : EthEntry) (s : State) : State :=
  ((s.countMac p 13).raise (.mac p) 6 p 0).entryGone p txDiscarded e

/-- Drops heads of class `t` that no open interval can hold (R382): what is left of the queue. -/
def State.checkHeads (p t : Nat) : List EthEntry → State → State
  | [], s => s.upPort p (·.setQueue t [])
  | e :: es, s =>
    if s.tooLong p t e then State.checkHeads p t es (s.gateOversize p e) else s.upPort p (·.setQueue t (e :: es))

/-- Drops Beacon's message if it heads class `t` and no open interval can hold it. -/
def State.checkPtp (p t : Nat) (s : State) : State :=
  match (s.port p).ptp with
  | some e =>
    if e.cls = t ∧ s.tooLong p t e then ((s.upPort p fun x => { x with ptp := none }).gateOversize p e) else s
  | none => s

/-- Checks the heads of class `t`: Beacon's message and the queue's. -/
def State.checkHead (p t : Nat) (s : State) : State :=
  let s := s.checkPtp p t
  s.checkHeads p t ((s.port p).queue t)

/-- Launch queue in launch-time order; equal times keep submission order (R403). -/
def insertLaunch (e : EthEntry) : List EthEntry → List EthEntry
  | [] => [e]
  | x :: xs => if e.launch.getD 0 < x.launch.getD 0 then e :: x :: xs else x :: insertLaunch e xs

/-- An entry joins its egress queue, or the launch queue if it carries a launch time; one handed over at its launch time
or after it is late (R32, R406). -/
def State.ethEnqueue (p : Nat) (e : EthEntry) (s : State) : State :=
  if e.launch.isSome then
    let late := decide (e.launch.getD 0 ≤ s.time)
    s.upPort p fun x => { x with launches := insertLaunch { e with late := late } x.launches }
  else
    let first := ((s.port p).queue e.cls).isEmpty
    let s := (s.advanceCredit p).upPort p fun x => x.setQueue e.cls (x.queue e.cls ++ [e])
    if first then s.checkHead p e.cls else s

end Sys2Proof.Machine
end

