-- ==== Sys2Proof/Machine/Deliver.lean ====
section
/-! DEFINITION. Destinations: host descriptor queues and their write-backs (R603, R608 to R613), engine inboxes
(R510), Ethernet egress and launch queues (R379, R403) and a channel's TX_QUEUE descriptors (R246), each with the
destination credit of Table 7-2. -/
namespace Sys2Proof.Machine

/-! ### Host descriptor queues -/

/-- Offset of word `w` of host queue `q`. -/
def hostQOff (q w : Nat) : Nat := 0x18000 + 0x40 * q + 4 * w

def State.hostQBase (s : State) (q : Nat) : Nat :=
  (s.rd (hostQOff q 0)).toNat + 2 ^ 32 * (s.rd (hostQOff q 1)).toNat

/-- The queue receives (dir = RX). -/
def State.hostQRx (s : State) (q : Nat) : Bool := s.rb (hostQOff q 2) 30

/-- Slots posted and not yet written back. -/
def HostQ.posted (x : HostQ) : Nat := if x.depth = 0 then 0 else (x.tail + x.depth - x.head) % x.depth

/-- Slots of `flight` that hold a descriptor in flight (R604). -/
def HostQ.inFlight (x : HostQ) : Nat := (x.flight.filter fun f => f.phase != .posted).length

/-- Tokens of an RX queue available at stage 5 (R608). -/
def HostQ.tokens (x : HostQ) : Nat := min (x.posted - x.inFlight) (256 - x.inFlight)

/-- The function may write to host memory and read it. -/
def State.hostOpen (s : State) : Bool := s.hostMaster && s.host.up

/-- A host queue destination can be served (R615, Table 9-6 row 3). -/
def State.hostQUp (s : State) : Bool := s.hostOpen

/-- Bytes 16 to 31 of a descriptor as written back (R603, Table 17-2, Table 17-3). -/
def HostSlot.back (f : HostSlot) (rx : Bool) : List Byte :=
  (if rx then leBytes 2 f.written ++ leBytes 7 0 else fitBytes 9 (f.raw.drop 16))
    ++ leBytes 1 (byteAt f.raw 25) ++ leBytes 2 f.status ++ leBytes 3 0 ++ leBytes 1 1

/-- Issues one write-back (R603, R612). -/
def State.issueBack (q : Nat) (f : HostSlot) (s : State) : State :=
  let s := s.emit (.hostWrite (s.hostQBase q + 32 * f.index + 16) (f.back (s.hostQRx q)))
  let s := s.cnt (hostQOff q (if f.status = 0 then 8 else if f.status = 8 then 10 else 9))
  let s := if f.status = 5 then s.raise .host 1 q f.index else s
  if nbit (byteAt f.raw 25) 3 then s.raise .host 3 q f.index else s

/-- Issues the due write-backs at the front of a queue, in ring order (R603). A stopping queue passes over slots that
went back to the posted ones. -/
def State.writeBacksFrom (q : Nat) : List HostSlot → State → State
  | [], s => s
  | f :: fs, s =>
    if f.phase == .due then
      let s := s.setHostQ q { s.hostQ q with head := (f.index + 1) % (s.hostQ q).depth, flight := fs }
      State.writeBacksFrom q fs (s.issueBack q f)
    else if f.phase == .posted && (s.hostQ q).stopping then
      State.writeBacksFrom q fs (s.setHostQ q { s.hostQ q with flight := fs })
    else s

def State.writeBacks (q : Nat) (s : State) : State :=
  if s.hostOpen then State.writeBacksFrom q (s.hostQ q).flight s else s

/-- Updates the slot in flight whose ring index is `i`. -/
def State.setSlot (q i : Nat) (f : HostSlot → HostSlot) (s : State) : State :=
  let x := s.hostQ q
  s.setHostQ q { x with flight := x.flight.map fun h => if h.index = i then f h else h }

/-- The slot in flight whose ring index is `i`. -/
def HostQ.slot (x : HostQ) (i : Nat) : Option HostSlot := x.flight.find? fun h => h.index == i

/-- A slot's write-back becomes due with a status. -/
def State.slotDue (q i status written : Nat) (s : State) : State :=
  (s.setSlot q i fun h => { h with phase := .due, status := status, written := written }).writeBacks q

/-- Reserves the oldest posted slot of an RX queue for a delivery (R608); none without a token. -/
def State.takeToken (q : Nat) (s : State) : Option (Nat × State) :=
  let x := s.hostQ q
  if !x.enable || x.stopping || !s.hostQRx q || x.tokens = 0 then none
  else match x.flight.find? fun h => h.phase == .posted with
    | some h => some (h.index, s.setSlot q h.index fun h => { h with phase := .reserved })
    | none =>
      let i := (x.head + x.flight.length) % x.depth
      some (i, s.setHostQ q { x with flight := x.flight ++ [⟨i, .reserved, [], 0, 0⟩] })

/-- A reserved slot goes back to the posted ones: its token stays posted (R615). A stopping queue passes over it. -/
def State.giveToken (q i : Nat) (s : State) : State :=
  (s.setSlot q i fun h => { h with phase := .posted }).writeBacks q

/-- Writes a record to a fetched slot's buffer and makes its write-back due (R609, R610). -/
def State.rxWrite (q i c : Nat) (s : State) : State :=
  match (s.hostQ q).slot i with
  | none => s
  | some h =>
    let f := s.frameOf c
    let bytes := f.header ++ f.data
    let cap := leAt h.raw 8 2
    let s := s.emit (.hostWrite (leAt h.raw 0 8) (bytes.take cap))
    if cap < bytes.length then s.slotDue q i 8 cap else s.slotDue q i 0 bytes.length

/-- Counter `discarded` of a host queue. -/
def State.hostDiscard (q : Nat) (s : State) : State := s.cnt (hostQOff q 11)

/-- Starts stopping a queue (R613): ungranted TX descriptors are written back with DISCARDED. -/
def State.stopQueue (q : Nat) (s : State) : State :=
  let x := s.hostQ q
  let mine := s.waits.filter fun w => w.hostQ.map Prod.fst == some q
  let s := s.dropWaits fun w => w.hostQ.map Prod.fst == some q
  let s := (s.setHostQ q { x with enable := false, stopping := true }).setf (hostQOff q 2) 31 1 0
  let s := if s.hostQRx q then s else
    s.each (x.flight.filter fun (h : HostSlot) => h.phase == .fetched) fun h s =>
      s.setSlot q h.index fun h => { h with phase := .due, status := 7 }
  let s := s.each mine fun (w : WaitReq) s =>
    match w.hostQ with
    | some (_, i) => s.setSlot q i fun h => { h with phase := .due, status := 7 }
    | none => s
  s.writeBacks q

/-- A slot fetch failed under R598: fault, Q_FAULT and stop (R604). -/
def State.queueFault (q i : Nat) (s : State) : State :=
  ((s.setHostQ q { s.hostQ q with fault := true }).raise .host 2 q i).stopQueue q

/-! ### Engine inboxes -/

/-- Depth of inbox `i` (Table 14-2). -/
def Engine.depth (e : Engine) (i : Nat) : Nat :=
  match e.image with
  | some m => if i < 4 then nfld m.depths (8 * i) 8 else 0
  | none => 0

def Engine.inbox (e : Engine) (i : Nat) : List InboxEnt := e.inboxes.get (fun _ => []) i
def Engine.setInbox (i : Nat) (l : List InboxEnt) (e : Engine) : Engine :=
  { e with inboxes := e.inboxes.set (fun _ => []) i l }

/-- Inbox entries reserved for frames in transit. -/
def Engine.held (e : Engine) (i : Nat) : Nat := e.reserved.get (fun _ => 0) i
def Engine.setHeld (i n : Nat) (e : Engine) : Engine := { e with reserved := e.reserved.set (fun _ => 0) i n }

/-- A free entry of inbox `i`. -/
def Engine.inboxFree (e : Engine) (i : Nat) : Bool := (e.inbox i).length + e.held i < e.depth i

/-- The lowest entry position not in use. -/
def freePos (used : List Nat) (n : Nat) : Nat := ((List.range n).find? fun k => !used.contains k).getD 0

/-- Places a record in an inbox (Table 14-5); private source `i` follows (Table 14-8), and is not pending while it is
masked. -/
def State.inboxArrive (g i record route : Nat) (s : State) : State :=
  let e := s.eng g
  let l := e.inbox i
  let was := l.any fun x => !x.taken
  let s := s.setEng g (e.setInbox i
    (l ++ [⟨freePos (l.map (·.slot)) (e.depth i), record, route, false, false⟩]))
  if was || (e.cpu.src.get (fun _ => PrivSrc.idle) i).masked then s else s.noteEngine g

/-! ### TX_QUEUE descriptors -/

/-- Free TX_QUEUE descriptors of channel `n`, in ascending index order. -/
def State.txFree (s : State) (n : Nat) : List Nat :=
  (s.descs.filter fun e => e.2.kind == .txQueue && e.2.bindIndex == n && e.2.state == .empty).map (·.1)

/-- A free TX_QUEUE descriptor takes a routed record and becomes READY (R246). -/
def State.txQueueArrive (n record : Nat) (job : TxJob) (s : State) : State :=
  match (s.txFree n).head? with
  | none => s.dropRef record
  | some i =>
    let l := s.lane n
    (s.setDesc i { s.desc i with state := .ready, current := some record, job := job, damaged := false }).setLane n
      { l with ready := l.ready ++ [i] }

end Sys2Proof.Machine
end

