-- ==== Sys2Proof/Machine/Gateway.lean ====
section
/-! DEFINITION. The gateway: destination sets (R337 to R342), IEEE 1722 tunnelling and unpacking (R348 to R355),
the reservation of stage 5 (R271 to R275, R353), records and transit (R283, R343, R764), and delivery with its
judgements (R358 to R360). -/
namespace Sys2Proof.Machine

/-! ### Destination words -/

/-- Destination kinds of Table 9-3. -/
def dBus : Nat := 1
def dEthNative : Nat := 2
def dEthAcf : Nat := 3
def dEngine : Nat := 4
def dMailbox : Nat := 5
def dFifo : Nat := 6
def dHostQ : Nat := 7
def dUnpack : Nat := 8

/-- A route covers a source (R337). -/
def routeCovers (e : List Byte) (kind index : Nat) : Bool :=
  byteAt e 2 % 16 == kind && (leAt e 4 2 == index || leAt e 4 2 == 0xFFFF)

/-- The delivery that destination word `w` of route `r` asks for, with the parameters of R343. -/
def mkDelivery (r w : Nat) (e : List Byte) (launch : Option Nat) (stampReq : Bool) (tag ref : Nat) : Delivery :=
  let d := leAt e 8 2
  { record := 0, route := r, word := w, kind := byteAt e (16 + 8 * w), index := leAt e (18 + 8 * w) 2,
    param := leAt e (20 + 8 * w) 4, deadline := if d = 0 then 0 else ref + d * 100 * 2 ^ 16,
    drop := nbit (byteAt e 6) 1, hold := nbit (byteAt e 6) 0, arrival := 0, tunnel := fitBytes 16 (e.drop 48),
    tagged := nbit (byteAt e 6) 3, tunSeq := none, launch := launch, stampReq := stampReq, tag := tag,
    held := false, seq := 0 }

def sameDest (a b : Delivery) : Bool := a.kind == b.kind && a.index == b.index

/-- Adds a route's words to a destination set: a destination already named counts in the route's dup (R340). -/
def State.addWords (r : Nat) (ws : List Delivery) (acc : List Delivery × State) : List Delivery × State :=
  ws.foldl (fun acc d =>
    if acc.1.any (sameDest d) then (acc.1, acc.2.countRoute r 7) else (acc.1 ++ [d], acc.2)) acc

/-- The destinations named by gathered routes, in match and word order (R337, R338, R340). -/
def State.namedSet (routes : List Nat) (kind index : Nat) (launch : Option Nat) (stampReq : Bool)
    (tag ref : Nat) (s : State) : List Delivery × State :=
  routes.foldl (fun acc r =>
    let e := acc.2.route r
    if e.isEmpty then (acc.1, acc.2.countGw 5)
    else if !routeCovers e kind index then (acc.1, (acc.2.countRoute r 6).raise .gw 1 r 0)
    else State.addWords r ((List.range (byteAt e 7)).map fun w => mkDelivery r w e launch stampReq tag ref) acc)
    ([], s)

/-! ### Unpacking (R351, R352) -/

/-- The ACF messages of an AVTPDU's data; none if a length runs past it. -/
def acfSplit : Nat → List Byte → Option (List (List Byte))
  | 0, bs => if bs.isEmpty then some [] else none
  | fuel + 1, bs =>
    if bs.isEmpty then some []
    else
      let n := beAt bs 0 2 % 2 ^ 9 * 4
      if n = 0 || bs.length < n then none
      else (acfSplit fuel (bs.drop n)).map fun ms => bs.take n :: ms

/-- The AVTPDU's messages and stream_id, if the record is one the module unpacks and is not malformed (R351). -/
def avtpMessages (d : List Byte) : Option (List (List Byte) × List Byte) :=
  let t := ethTypeAt d
  let p := d.drop (t + 2)
  let sub := byteAt p 0
  if beAt d t 2 ≠ 0x22F0 then none
  else
    let h := if sub = 0x82 then 12 else 24
    let n := if sub = 0x82 then beAt p 1 2 % 2 ^ 11 else beAt p 20 2
    if (sub ≠ 0x82 && sub ≠ 0x05) || p.length < h + n then none
    else (acfSplit 512 ((p.drop h).take n)).map fun ms => (ms, (p.drop 4).take 8)

/-- The DLC that encodes an FD length, if it is a legal one. -/
def fdDlc (len : Nat) : Option Nat := (List.range 16).find? fun k => fdLength k == len

/-- can_bus_id of a message. -/
def acfBus (m : List Byte) : Nat := byteAt m 3 % 32

/-- The record an ACF message becomes (R352); none if its type or length is not one that is unpacked. -/
def acfRecord (m : List Byte) (port stamp : Nat) : Option Frame :=
  let ty := byteAt m 0 / 2
  let b2 := byteAt m 2
  let h := if ty = 1 then 16 else 8
  let pad := b2 / 64
  let base : Frame :=
    { format := 0, flags := 0, srcKind := srcEth, srcIndex := port, ident := 0, stamp := stamp,
      dlc := 0, sdt := 0, af := 0, vcid := 0, conf := 0, node := 0xFFFD, route := 0, seq := 0, data := [] }
  if ty = 1 || ty = 2 then
    if m.length < h + pad then none
    else
      let d := (m.drop h).take (m.length - h - pad)
      let fd := nbit b2 1
      let eff := b2n (nbit b2 3)
      let ident := 2 ^ 31 + eff * 2 ^ 29 + beAt m (h - 4) 4 % 2 ^ 29
      if fd then
        (fdDlc d.length).map fun k =>
          { base with format := fmtFd, flags := eff + b2n (nbit b2 2) * 4 + b2n (nbit b2 0) * 8, ident := ident,
                      dlc := k, data := d }
      else
        let flags := eff + b2n (nbit b2 4) * 2
        if lengthOk fmtClassic flags d.length d.length then
          some { base with format := fmtClassic, flags := flags, ident := ident, dlc := d.length, data := d }
        else none
  else if ty = Config.acfXlType % 128 then
    let h := 12 + 4 * Config.acfXlQuads
    let f := Frame.ofBytes (fitBytes 32 (Config.acfXlRecord ((m.drop 12).take (4 * Config.acfXlQuads))))
    let d := (m.drop h).take (m.length - h - pad)
    if h + pad ≤ m.length && 1 ≤ d.length && d.length ≤ 2048 then
      some { base with format := fmtXl, flags := f.flags &&& 16, ident := f.ident, sdt := f.sdt, af := f.af,
                       vcid := f.vcid, data := d }
    else none
  else none

/-- Drops an UNPACK destination whose route checks the stream and finds another (R354). -/
def State.streamCheck (sid : List Byte) (ds : List Delivery) (s : State) : List Delivery × State :=
  let bad := fun (d : Delivery) => d.kind == dUnpack && nbit (byteAt (s.route d.route) 6) 2 && d.tunnel.take 8 != sid
  let rs := ((ds.filter bad).map (·.route)).dedup
  (ds.filter (fun d => !bad d), s.each rs fun _ s => s.countGw 4)

/-- Parses a frame for its UNPACK destinations: each destination with its records (R351 to R354). -/
def State.unpackSet (f : Frame) (ds : List Delivery) (s : State) : List (Delivery × List Frame) × State :=
  let plain := ds.map fun d => (d, ([] : List Frame))
  match ds.find? fun d => d.kind == dUnpack with
  | none => (plain, s)
  | some u =>
    match avtpMessages f.data with
    | none =>
      ((ds.filter fun d => d.kind != dUnpack).map fun d => (d, []), (s.countGw 2).raise .gw 2 u.route 0)
    | some (ms, sid) =>
      let (ds, s) := s.streamCheck sid ds
      let sel := (ds.filter fun d => d.kind == dUnpack).map fun d => d.param % 32
      let recs := ms.map fun m => (acfBus m, if sel.contains (acfBus m) then acfRecord m f.srcIndex f.stamp else none)
      let skipped := (recs.filter fun r => r.2.isNone).length
      let s := if skipped = 0 then s else (s.cnt (0x6040 + 8) skipped).cnt (0x6040 + 12) skipped
      (ds.filterMap fun d =>
        if d.kind = dUnpack then
          let fs := recs.filterMap fun r =>
            if r.1 = d.param % 32 then r.2.map fun g => { g with route := d.route } else none
          if fs.isEmpty then none else some (d, fs)
        else some (d, []), s)

/-! ### Removals (R341, R342) -/

/-- A record suits a destination (Table 9-5). -/
def State.suits (s : State) (f : Frame) (d : Delivery) : Bool :=
  let eth := f.format == fmtEth
  let maxFrame (p : Nat) := s.rf (macBase p) 12 12
  if d.kind = dBus then
    !eth && s.formatOn d.index f.format && (!nbit d.param 31 || nbit d.param 30 == (f.format == fmtXl))
  else if d.kind = dEthNative then eth && f.data.length + 4 ≤ maxFrame d.index
  else if d.kind = dEthAcf then
    !eth && (tunnelFrame f 0 d.tunnel d.tagged 0 (List.replicate 6 0)).length + 4 ≤ maxFrame d.index
  else if d.kind = dUnpack then eth
  else true

/-- Removes the destinations a record does not suit, counted in format_drop (R341). -/
def State.dropUnsuited (f : Frame) (ds : List Delivery) (s : State) : List Delivery × State :=
  (ds.filter (s.suits f), s.each (ds.filter fun d => !s.suits f d) fun d s => s.countRoute d.route 5)

/-- In TEST no frame of a lane goes to a lane; mailboxes, FIFOs and host queues still take it (R50). -/
def State.testBars (s : State) (srcKind : Nat) (d : Delivery) : Bool :=
  s.mode == .test && srcKind < 3 && d.kind != dMailbox && d.kind != dFifo && d.kind != dHostQ

/-- The destination lies on a lane or engine that has retired (Table 9-6 row 1). -/
def State.destRetired (s : State) (d : Delivery) : Bool :=
  if d.kind = dBus ∨ d.kind = dUnpack then (s.lane d.index).retired
  else if d.kind = dEthNative ∨ d.kind = dEthAcf then (s.port d.index).retired
  else if d.kind = dEngine then (s.eng d.index).retired
  else false

/-- Cluster a destination lies in. -/
def destCluster (d : Delivery) : Option Nat :=
  if d.kind = dBus ∨ d.kind = dUnpack then some (d.index / 10)
  else if d.kind = dEthNative ∨ d.kind = dEthAcf then some (d.index / 6)
  else if d.kind = dEngine then some (d.index / 8)
  else none

/-- The destination's cluster reconfigures (Table 9-6 row 2). -/
def State.destReconf (s : State) (d : Delivery) : Bool :=
  match destCluster d with
  | some c => s.reconf c
  | none => false

/-- Its frames are held rather than counted NO_ROUTE (R115 to R117). -/
def State.destHolds (s : State) (d : Delivery) : Bool :=
  match destCluster d with
  | some c => d.hold && !nbit s.ctl.holdEnded c
  | none => false

/-- The host or the port's link is down (Table 9-6 row 3). -/
def State.destLinkDown (s : State) (d : Delivery) : Bool :=
  if d.kind = dHostQ then !s.hostQUp
  else if d.kind = dEthNative ∨ d.kind = dEthAcf then !(s.port d.index).link
  else false

/-- Rows 1 to 3 of Table 9-6 at stage 5: the destinations that stay, held ones marked (R342). -/
def State.available (ds : List (Delivery × List Frame)) (s : State) : List (Delivery × List Frame) × State :=
  ds.foldl (fun acc x =>
    let d := x.1
    if acc.2.destRetired d then (acc.1, acc.2.destDown d.route)
    else if acc.2.destReconf d then
      if acc.2.destHolds d then (acc.1 ++ [({ d with held := true }, x.2)], acc.2)
      else (acc.1, acc.2.countRoute d.route 2)
    else if acc.2.destLinkDown d then (acc.1, acc.2.destDown d.route)
    else (acc.1 ++ [x], acc.2)) ([], s)

/-! ### Destination credits (Table 7-2) -/

/-- A launch or stamp request bears on this delivery (R514). -/
def Delivery.onPort (d : Delivery) : Bool := d.kind == dEthNative || d.kind == dEthAcf

/-- The delivery takes a launch queue entry. -/
def Delivery.launched (d : Delivery) : Bool := d.onPort && d.launch.isSome

/-- Held deliveries that wait for the credit of `d`'s destination: it goes to them first (R116, R275). -/
def State.heldBefore (s : State) (d : Delivery) : Nat :=
  (s.held.filter fun h => h.ready && sameDest h.delivery d).length

/-- Takes one destination's credit, `spare` left over for held deliveries; none if it is not available. A host queue's
slot becomes the parameter. -/
def State.takeCredit (spare : Nat) (x : Delivery × List Frame) (s : State) : Option (Delivery × State) :=
  let d := x.1
  if d.held then some (d, s)
  else if d.kind = dBus ∨ d.kind = dUnpack then
    let n := if d.kind = dBus then 1 else x.2.length
    let l := s.lane d.index
    if l.reserved + n + spare ≤ (s.txFree d.index).length then
      some (d, s.setLane d.index { l with reserved := l.reserved + n })
    else none
  else if d.onPort then
    let p := s.port d.index
    if d.launched then
      if p.launches.length + p.launchReserved + spare < 128 then
        some (d, s.setPort d.index { p with launchReserved := p.launchReserved + 1 })
      else none
    else
      let t := d.param % 8
      if (p.queue t).length + p.heldCls t + spare < s.tcDepth d.index t then
        some (d, s.setPort d.index (p.setHeldCls t (p.heldCls t + 1)))
      else none
  else if d.kind = dEngine then
    let e := s.eng d.index
    let i := d.param % 256
    if (e.inbox i).length + e.held i + spare < e.depth i then some (d, s.setEng d.index (e.setHeld i (e.held i + 1))) else none
  else if d.kind = dHostQ then
    (s.takeToken d.index).map fun r => ({ d with param := r.1 }, r.2)
  else some (d, s)

/-- Returns the credit of one delivery that is not made, or whose place is taken as it is made. -/
def State.giveCredit (d : Delivery) (s : State) : State :=
  if d.held then s
  else if d.kind = dBus ∨ d.kind = dUnpack then
    let l := s.lane d.index
    s.setLane d.index { l with reserved := l.reserved - 1 }
  else if d.onPort then
    let p := s.port d.index
    if d.launched then s.setPort d.index { p with launchReserved := p.launchReserved - 1 }
    else s.setPort d.index (p.setHeldCls (d.param % 8) (p.heldCls (d.param % 8) - 1))
  else if d.kind = dEngine then
    let e := s.eng d.index
    s.setEng d.index (e.setHeld (d.param % 256) (e.held (d.param % 256) - 1))
  else s

/-- Takes credits in order: those taken, those refused. -/
def State.takeCredits (xs : List (Delivery × List Frame)) (s : State) :
    List (Delivery × List Frame) × List Delivery × State :=
  xs.foldl (fun acc x =>
    match acc.2.2.takeCredit (acc.2.2.heldBefore x.1) x with
    | some (d, t) => (acc.1 ++ [(d, x.2)], acc.2.1, t)
    | none => (acc.1, acc.2.1 ++ [x.1], acc.2.2)) ([], [], s)

/-! ### Admission -/

/-- Cells of R353 for a frame and its destinations. -/
def cellsFor (f : Frame) (xs : List (Delivery × List Frame)) : Nat :=
  (if xs.any (fun x => x.1.kind != dUnpack) then cellsOf f.data.length else 0)
    + (xs.flatMap fun x => x.2.map fun g => cellsOf g.data.length).sum

/-- Takes the next sequence number of a source (Table 6-2). -/
def State.nextSeq (kind index : Nat) (s : State) : Nat × State :=
  let up (n : Nat) := (n + 1) % 65536
  if kind = srcBus then
    let x := s.lane index
    (x.seq, s.setLane index { x with seq := up x.seq })
  else if kind = srcEth then
    let x := s.port index
    (x.seq, s.setPort index { x with seq := up x.seq })
  else if kind = srcEngine then
    let x := s.eng index
    (x.seq, s.setEng index { x with seq := up x.seq })
  else if kind = srcHost then
    let x := s.hostQ index
    (x.seq, s.setHostQ index { x with seq := up x.seq })
  else
    let x := s.tile index
    (x.seq, s.setTile index { x with seq := up x.seq })

/-- Writes one record of frame `id` at stage 6: its header with seq, late and held flags (R229, R357). `held` tells
whether a delivery of the frame was held at stage 5 (R764). -/
def State.newRecord (picks : List Nat) (p id : Nat) (held : Bool) (f : Frame) (ds : List Delivery) (s : State) :
    Nat × Nat × State :=
  let (seq, s) := s.nextSeq f.srcKind f.srcIndex
  let late := ds.any fun d => d.deadline ≠ 0 && d.deadline < s.time
  let flags := f.flags % 64 + b2n late * 64 + b2n held * 128
  let (c, s) := s.allocate picks (cellsOf f.data.length) p ds.length false false (some id)
  (c, seq, s.writeFrame c { f with flags := flags, seq := seq })

/-- Places a held delivery behind those of frames that arrived before. -/
def insertHeld (h : HeldFrame) : List HeldFrame → List HeldFrame
  | [] => [h]
  | x :: xs => if h.delivery.arrival < x.delivery.arrival then h :: x :: xs else x :: insertHeld h xs

/-- Joins the held frames of a destination's cluster, in arrival order (R116). -/
def State.hold_ (d : Delivery) (s : State) : State :=
  { s with held := insertHeld ⟨d, (destCluster d).getD 0, false⟩ s.held }

/-- A transit's entry without deliveries left ends (R283). -/
def State.endTransit (id : Nat) (s : State) : State :=
  match s.transit.find? fun t => t.id == id with
  | none => s
  | some t =>
    if !t.pending.isEmpty then s
    else { s with transit := s.transit.filter fun t => t.id != id }

/-- Writes the frame's records, captures its deliveries and starts its transit (stages 6 and 7). The tiers have been
charged and the credits taken. -/
def State.launchFrame (picks : List Nat) (p : Nat) (f : Frame) (xs : List (Delivery × List Frame)) (s : State) :
    State :=
  let main := (xs.filter fun x => x.1.kind != dUnpack).map (·.1)
  let id := s.nextId + 1
  let held := xs.any (·.1.held)
  let (ds, seq, s) :=
    if main.isEmpty then (([] : List Delivery), (none : Option Nat), s)
    else
      let (c, seq, s) := s.newRecord picks p id held f main
      (main.map fun d => { d with record := c, seq := seq }, some seq, s)
  let (us, seq, s) := (xs.filter fun x => x.1.kind == dUnpack).foldl (fun acc x =>
    x.2.foldl (fun acc g =>
      let (c, n, s) := acc.2.2.newRecord picks p id held g [x.1]
      (acc.1 ++ [{ x.1 with record := c, seq := n }], acc.2.1.orElse fun _ => some n, s.countGw 1)) acc)
    (([] : List Delivery), seq, s)
  let all := (ds ++ us).map fun (d : Delivery) => { d with arrival := s.nextId }
  let s := { s with nextId := s.nextId + 1 }
  let s := s.each (all.filter (·.held)) State.hold_
  let pending := all.filter fun d => !d.held
  if pending.isEmpty then s
  else
    let t : Transit :=
      { id := id, partner := p, source := f.srcKind * 4096 + f.srcIndex, seq := seq.getD 0,
        since := s.time, late := false, pending := pending }
    { s with nextId := id + 1, transit := s.transit ++ [t] }

/-- The routes of deliveries refused for want of credit count them. -/
def State.countRefused (ds : List Delivery) (s : State) : State := s.each ds fun d s => s.countRoute d.route 1

/-- Cells a frame asks for whose credits `took` have been taken, of destinations `xs`; where none is left, the cells it
would have asked for, which decide what it counts in (R272). -/
def cellsAsked (f : Frame) (took xs : List (Delivery × List Frame)) : Nat :=
  if !took.isEmpty then cellsFor f took else if xs.isEmpty then cellsOf f.data.length else cellsFor f xs

/-- Admits or refuses a frame from a line source whole (R272); the flag tells whether it was admitted. -/
def State.admitLine (picks : List Nat) (p : Nat) (f : Frame) (xs : List (Delivery × List Frame)) (s : State) :
    Bool × State :=
  let (took, refused, s') := s.takeCredits xs
  let n := cellsAsked f took xs
  let noCells := decide (4096 ≤ s.transit.length) || decide (s.freeCells < n)
  match s.tiers p n with
  | none => (false, ((s.countPartner p 0).countRefused refused).noteRefused p)
  | some t =>
    if noCells then (false, ((s.countPartner p 1).countRefused refused).noteRefused p)
    else if took.isEmpty then (false, ((s.countPartner p 2).countRefused refused).noteRefused p)
    else
      let s := s'.countRefused refused
      let s := if refused.isEmpty then s else s.cnt (0x940000 + 0x10 * p + 8) refused.length
      (true, (((s.noteAdmitted p).chargeTiers p t).launchFrame picks p f took))

/-! ### Delivery (R358 to R360) -/

/-- A timed or stamped frame that ends before it reaches its port's queue has outcome DISCARDED (R408, R441).
DEDUCED (log 89). -/
def State.portOutcome (d : Delivery) (s : State) : State :=
  if d.onPort && d.stampReq then s.stampRecord d.index d.tag txDiscarded 0 else s

/-- Releases a delivery that is not made: its reference, and its host slot's token where one is reserved. -/
def State.releaseDelivery (d : Delivery) (s : State) : State := ((s.giveCredit d).portOutcome d).dropRef d.record

/-- GW_LATE once in each cell cycle (R359). -/
def State.noteLate (d : Delivery) (s : State) : State :=
  let s := s.countRoute d.route 3
  if s.gwLate.contains d.route then s
  else { s with gwLate := d.route :: s.gwLate }.raise .gw 0 d.route (d.word % 4 * 65536 + d.seq)

/-- An uncorrectable error withholds a delivery (R235); the word is `ue` = cell * 8 + word. -/
def State.memUe (ue : Nat) (s : State) : State := (s.cntF 0x4010 16 16).noteUe ue

/-- The tunnel sequence a frame's ACF deliveries share (R350): taken at the first of them. -/
def State.takeTunSeq (d : Delivery) (s : State) : Nat × State :=
  match d.tunSeq with
  | some n => (n, s)
  | none =>
    let n := s.tunSeq.get (fun _ => 0) d.route
    let mark (e : Delivery) : Delivery :=
      if e.record = d.record ∧ e.route = d.route ∧ e.kind = dEthAcf then { e with tunSeq := some n } else e
    (n, { s with tunSeq := s.tunSeq.set (fun _ => 0) d.route ((n + 1) % 256)
                 transit := s.transit.map fun t => { t with pending := t.pending.map mark }
                 held := s.held.map fun h => { h with delivery := mark h.delivery } })

/-- Makes a delivery at its destination, its credit still counted as reserved (Table 9-8). -/
def State.deliver (d : Delivery) (s : State) : State :=
  if d.kind = dMailbox then
    let r := s.mailboxArrival d.index d.record
    if r.1 then r.2.countRoute d.route 0 else r.2
  else if d.kind = dFifo then
    let r := s.fifoArrival d.index d.record
    if r.1 then r.2.countRoute d.route 0 else r.2
  else
    let s := (s.giveCredit d).countRoute d.route 0
    if d.kind = dBus then s.txQueueArrive d.index d.record ⟨d.route, d.param, none, none⟩
    else if d.kind = dUnpack then s.txQueueArrive d.index d.record ⟨d.route, 0, none, none⟩
    else if d.kind = dEngine then s.inboxArrive d.index (d.param % 256) d.record d.route
    else if d.kind = dHostQ then (s.rxWrite d.index d.param d.record).dropRef d.record
    else
      let (acf, s) : Option (Nat × List Byte × Bool × Nat) × State :=
        if d.kind = dEthAcf then
          let (n, s) := s.takeTunSeq d
          (some (d.param / 256 % 32, d.tunnel, d.tagged, n), s)
        else (none, s)
      s.ethEnqueue d.index
        { record := some d.record, route := d.route, acf := acf, cls := d.param % 8, launch := d.launch,
          late := false, stampReq := d.stampReq, tag := d.tag, octets := [] }

/-- A delivery whose host queue no longer takes it (R614, R615): released and counted; under R615 its token stays
posted. -/
def State.hostQGone (d : Delivery) (s : State) : State :=
  ((s.hostDiscard d.index).giveToken d.index d.param).dropRef d.record

/-- A delivery leaves the cell memory, unless the read of its record finds an uncorrectable error (R234, R235). A
mailbox or a FIFO takes the record where it lies. -/
def State.readOut (d : Delivery) (ecc : RecEcc) (s : State) : State :=
  if d.kind = dMailbox ∨ d.kind = dFifo then s.deliver d
  else
    let s := s.noteCe ecc.corrected
    match ecc.ue with
    | none => s.deliver d
    | some w =>
      if d.kind = dHostQ then ((s.memUe w).giveToken d.index d.param).dropRef d.record
      else (s.memUe w).releaseDelivery d

/-- A delivery reaches its delivery point (R342, R358, R360, R235). One that TEST bars is released uncounted (R50).
DESIGN CHOICE (log 99). -/
def State.deliveryPoint (d : Delivery) (ecc : RecEcc) (s : State) : State :=
  if s.testBars (s.frameOf d.record).srcKind d then s.releaseDelivery d
  else if s.destRetired d then (s.releaseDelivery d).destDown d.route
  else if s.destReconf d then
    if s.destHolds d then (s.giveCredit d).hold_ { d with held := true }
    else (s.releaseDelivery d).countRoute d.route 2
  else if d.kind = dHostQ ∧ (s.destLinkDown d ∨ ((s.hostQ d.index).slot d.param).isNone) then
    (s.hostQGone d).destDown d.route
  else if s.destLinkDown d then (s.releaseDelivery d).destDown d.route
  else
    let late := d.deadline ≠ 0 ∧ d.deadline < s.time
    let s := if late then s.noteLate d else s
    if late ∧ d.drop then
      if d.kind = dHostQ then (s.giveToken d.index d.param).dropRef d.record else s.releaseDelivery d
    else s.readOut d ecc

/-- A frame of the same source and partner that entered before `id` is still on its way to `d`'s destination (R344). -/
def State.earlierOnWay (s : State) (id source partner : Nat) (d : Delivery) : Bool :=
  s.transit.any fun u => u.id < id && u.source == source && u.partner == partner && u.pending.any (sameDest d)

/-- An earlier frame of the same source and partner is still on its way to the same destination (R344), an earlier delivery
of this frame goes to it, or an earlier frame is held for it (R116). A destination that reconfigures keeps nothing
waiting: the delivery is held in its turn, or ends (R360). -/
def State.mustFollow (s : State) (t : Transit) (k : Nat) (d : Delivery) : Bool :=
  s.earlierOnWay t.id t.source t.partner d
    || (t.pending.take k).any (sameDest d)
    || (!s.destReconf d && s.held.any fun h => sameDest h.delivery d && h.delivery.arrival < d.arrival)

/-- A reserved host slot is fetched before its delivery point (R609). -/
def State.slotUnfetched (s : State) (d : Delivery) : Bool :=
  d.kind == dHostQ && !s.destLinkDown d && match (s.hostQ d.index).slot d.param with
    | some h => h.phase == .reserved
    | none => false

/-- DELIVERY_POINT of the `k`th pending delivery of frame `id`. -/
def State.pointOf (id k : Nat) (ecc : RecEcc) (s : State) : State :=
  match s.transit.find? fun t => t.id == id with
  | none => s
  | some t =>
    match t.pending[k]? with
    | none => s
    | some d =>
      if s.mustFollow t k d || s.slotUnfetched d then s
      else
        let s := { s with transit := s.transit.map fun (u : Transit) =>
          if u.id = id then { u with pending := u.pending.eraseIdx k } else u }
        (s.deliveryPoint d ecc).endTransit id

/-- A held delivery is not the next for its destination: one held before it, or an earlier frame of its source and
partner on its way, goes first (R116, R275, R344). -/
def State.heldWaits (s : State) (k : Nat) (d : Delivery) : Bool :=
  let f := s.frameOf d.record
  (s.held.take k).any (fun e => sameDest e.delivery d)
    || s.earlierOnWay d.arrival (f.srcKind * 4096 + f.srcIndex) (((s.record d.record).map (·.partner)).getD 0) d

/-- A held delivery whose cluster is back takes its credit in arrival order and is delivered (R275, R116). -/
def State.heldCredit (k : Nat) (ecc : RecEcc) (s : State) : State :=
  match s.held[k]? with
  | none => s
  | some h =>
    if !h.ready || s.heldWaits k h.delivery then s
    else
      let d := { h.delivery with held := false }
      let gone := { s with held := s.held.eraseIdx k }
      if gone.destRetired d || gone.destReconf d || gone.destLinkDown d then gone.deliveryPoint { d with held := true } ecc
      else match gone.takeCredit 0 (d, [({ (gone.frameOf d.record) with seq := 0 } : Frame)]) with
        | some (d, t) => t.deliveryPoint d ecc
        | none => s

/-- A cluster's held frames leave as NO_ROUTE (R117). -/
def State.discardHeld (c : Nat) (s : State) : State :=
  let mine := s.held.filter fun h => h.cluster == c
  { s with held := s.held.filter fun h => h.cluster != c }.each mine fun h s =>
    ((s.countRoute h.delivery.route 2).portOutcome h.delivery).dropRef h.delivery.record

/-- A cluster has left reconfiguration: its held frames may take credit (R275). -/
def State.readyHeld (c : Nat) (s : State) : State :=
  { s with held := s.held.map fun h => if h.cluster = c then { h with ready := true } else h }

/-- TRANSIT_LATE of a frame whose credit is held too long (R284). -/
def State.transitLate (id : Nat) (s : State) : State :=
  match s.transit.find? fun t => t.id == id with
  | none => s
  | some t =>
    if t.late then s
    else
      (({ s with transit := s.transit.map fun (u : Transit) =>
          if u.id = id then { u with late := true } else u }.cntF 0x4120 16 16).cnt
        0x22030).raise .pool 2 t.source t.seq

end Sys2Proof.Machine
end

