-- ==== Sys2Proof/Machine/Ingress.lean ====
section
/-! DEFINITION. The path of a frame into the module: stages 4 and 5 for line sources (R264, R272) and waiting
sources (R273), the submissions of engines and tiles (R511 to R515, R523), host frames (R607), and the grants of a
crossbar port (R276 to R280). -/
namespace Sys2Proof.Machine

/-! ### Engine memories, which a submission's data are read from (Table 14-1) -/

inductive Region where
  | imem | dmem | shared
  deriving DecidableEq, Repr

/-- The memory that holds `n` bytes from address `a`, if one holds them all. -/
def regionOf (a n : Nat) : Option Region :=
  if a + n ≤ 0x20000 then some .imem
  else if 0x10000000 ≤ a ∧ a + n ≤ 0x10010000 then some .dmem
  else if 0x20000000 ≤ a ∧ a + n ≤ 0x20200000 then some .shared
  else none

/-- A byte of engine `g`'s address space. -/
def State.engByte (s : State) (g a : Nat) : Byte :=
  match regionOf a 1 with
  | some .imem => (s.eng g).imem.get (fun _ => 0) a
  | some .dmem => (s.eng g).dmem.get (fun _ => 0) (a - 0x10000000)
  | some .shared => s.shared.get (fun _ => 0) (g / 8 * 2 ^ 21 + (a - 0x20000000))
  | none => 0

/-- `n` bytes from address `a`. -/
def State.engBytes (s : State) (g a : Nat) : Nat → List Byte
  | 0 => []
  | n + 1 => s.engByte g a :: s.engBytes g (a + 1) n

/-! ### Waiting sources and m_p (R280) -/

/-- Some route that covers the source names an UNPACK destination. -/
def State.unpackRouted (s : State) (kind index : Nat) : Bool :=
  s.routes.any fun r => routeCovers r.2 kind index
    && (List.range (byteAt r.2 7)).any fun w => byteAt r.2 (16 + 8 * w) == dUnpack

/-- An entry of engine `g`'s slice that its frames could match names partner `p`. -/
def State.sliceNames (s : State) (g p : Nat) : Bool :=
  let x := s.slice (g / 8)
  (x.exact.any fun e => match e.2 with
    | some e => e.act.partner == some p && nfld e.key 120 4 == srcEngine && nfld e.key 116 4 == g % 8
    | none => false)
  || ((x.bank x.activeBank).any fun e => match e.2 with
    | some e => e.act.partner == some p
        && ((srcEngine * 16 + g % 8) * 2 ^ 116 &&& (e.mask &&& keyBits 123 116)) == (e.value &&& keyBits 123 116)
    | none => false)

/-- Engine `g` charges partner `p`. -/
def State.engineCharges (s : State) (g p : Nat) : Bool :=
  (s.eng g).image.isSome && (p == 64 + g || s.sliceNames g p)

/-- Partner of host queue `q` (R616). -/
def State.hostQPartner (s : State) (q : Nat) : Nat :=
  if s.rb (hostQOff q 2) 29 then s.rf (hostQOff q 2) 0 12 else 100

/-- Host queue `q` charges partner `p`: the host partner counts every host queue. -/
def State.hostCharges (s : State) (q p : Nat) : Bool :=
  (s.hostQ q).depth ≠ 0 && (p == 100 || (s.hostQPartner q == p && !s.hostQRx q))

/-- A waiting source charges the partner. -/
def State.hasWaiters (s : State) (p : Nat) : Bool :=
  (List.range 32).any (s.engineCharges · p) || (List.range 64).any (s.hostCharges · p)

/-- m_p of a partner. -/
def State.maxReq (s : State) (p : Nat) : Nat :=
  if (List.range 32).any (fun g => s.engineCharges g p && s.unpackRouted srcEngine g)
      || (List.range 64).any (fun q => s.hostCharges q p && s.unpackRouted srcHost q) then 289 else 33

/-! ### Completions -/

/-- Submission statuses of Table 14-7. -/
def subOk : Nat := 0
def subFiltered : Nat := 1
def subNoDest : Nat := 2
def subCheckRefused : Nat := 3
def subCheckFail : Nat := 4
def subCtxRefused : Nat := 5
def subLaunchFull : Nat := 6
def subBad : Nat := 7

/-- Completes the submissions at the front whose status is known, in submission order (R512). -/
def State.completeSubs (g : Nat) : List Sub → State → State
  | [], s => s.setEng g { s.eng g with subs := [] }
  | x :: xs, s =>
    match x.status with
    | some st =>
      let e := s.eng g
      State.completeSubs g xs
        (((s.setEng g { e with subs := xs, done := e.done ++ [⟨x.tag, st⟩] }).cnt
          (engBase g + 0x20 + (if st = 0 then 8 else 12))).privArrive g 4)
    | none => s.setEng g { s.eng g with subs := x :: xs }

/-- A submission of engine `g` ends with a status. -/
def State.endSub (g id st : Nat) (s : State) : State :=
  let subs := (s.eng g).subs.map fun x => if x.request = some id then { x with status := some st } else x
  State.completeSubs g subs s

/-- Host status for a submission status (Table 17-4). -/
def hostStatus (st : Nat) : Nat :=
  if st = subOk then 0 else if st = subCheckRefused then 2 else if st = subCtxRefused then 3
  else if st = subLaunchFull then 4 else 1

/-- A waiting request ends with a submission status. -/
def State.endWait (w : WaitReq) (st : Nat) (s : State) : State :=
  let s := { s with waits := s.waits.filter fun x => x.id != w.id }
  match w.engine, w.hostQ with
  | some g, _ => s.endSub g w.id st
  | none, some (q, i) => s.slotDue q i (hostStatus st) 0
  | none, none => s

/-! ### Stage 4 -/

/-- A launch entry its port cannot take (R403), counted in launch_full. -/
def State.launchFull (s : State) (ds : List Delivery) : Option Nat :=
  (ds.find? fun d => d.launched && decide (128 ≤ (s.port d.index).launches.length + (s.port d.index).launchReserved)).map
    (·.index)

/-- The destination set of gathered routes, unsuited ones removed, with the records UNPACK destinations take. -/
def State.destinations (routes : List Nat) (f : Frame) (launch : Option Nat) (stampReq : Bool) (tag ref : Nat)
    (s : State) : List (Delivery × List Frame) × State :=
  let (ds, s) := s.namedSet routes f.srcKind f.srcIndex launch stampReq tag ref
  let (ds, s) := s.dropUnsuited f ds
  s.unpackSet f ds

/-- What becomes of a frame at stage 4 under its slice. -/
inductive Stage4 where
  | filtered
  | checkFail
  | pass (f : Frame) (g : Gather)
  deriving DecidableEq, Repr

/-- Filter lookup, impostor flag and RX judgement (R306, R314, R488). A frame that gathered no route is judged all the
same, and ends as filtered however that goes. DESIGN CHOICE (log 99). -/
def State.stage4 (c : Nat) (f : Frame) (sigValid : Bool) (s : State) : Stage4 × State :=
  let (g, s) := s.match_ c f sigValid
  let f := { f with flags := f.flags % 32 + 32 * b2n g.impostor, route := g.route }
  let (r, s) := match g.ctx with
    | none => (some f, s)
    | some i => s.rxCheck i (g.routes.headD 0xFFFF) f
  (if g.routes.isEmpty then .filtered else match r with
    | some f => .pass f g
    | none => .checkFail, s)

/-- The destinations that TEST leaves a frame (R50). -/
def State.testFilter (s : State) (f : Frame) (xs : List (Delivery × List Frame)) : List (Delivery × List Frame) :=
  xs.filter fun x => !s.testBars f.srcKind x.1

/-- The path of a line source's frame through stages 4 to 7: whether it was admitted, and its status for a tile. The
meter judges between stages 4 and 5 (R375). -/
def State.lineFrame (picks : List Nat) (c : Nat) (f : Frame) (partner : Nat) (sigValid : Bool)
    (launch : Option Nat) (stampReq : Bool) (tag : Nat) (meter : Nat → State → Bool × State) (s : State) :
    Nat × State :=
  match s.stage4 c f sigValid with
  | (.filtered, s) => (subFiltered, s)
  | (.checkFail, s) => (subCheckFail, s)
  | (.pass f g, s) =>
    let p := g.partner.getD partner
    let (xs, s) := s.destinations g.routes f launch stampReq tag s.time
    let (ok, s) := meter p s
    if !ok then (subNoDest, s)
    else
      let (xs, s) := s.available (s.testFilter f xs)
      let (ok, s) := s.admitLine picks p f xs
      (if ok then subOk else subNoDest, s)

/-! ### Requests of waiting sources -/

/-- A request joins the waiting ones. -/
def State.addWait (w : WaitReq) (s : State) : State := { s with waits := s.waits ++ [w], nextId := s.nextId + 1 }

/-- Captures again, at stage 7, what R343 takes from a route that is still loaded. -/
def State.recapture (w : WaitReq) (s : State) (x : Delivery × List Frame) : Delivery × List Frame :=
  let e := s.route x.1.route
  if e.isEmpty then x
  else
    let n := mkDelivery x.1.route x.1.word e x.1.launch x.1.stampReq x.1.tag w.entered
    ({ x.1 with deadline := n.deadline, drop := n.drop, hold := n.hold, tunnel := n.tunnel, tagged := n.tagged }, x.2)

/-- The frame that a grant copies into cells: an engine's data are read from its memory then (R513), but for what its
TX context wrote at stage 4; records unpacked at stage 4 stay. DESIGN CHOICE (log 78). -/
def State.grantFrame (s : State) (w : WaitReq) : Frame :=
  match w.engine with
  | none => w.frame
  | some g => { w.frame with
      data := w.kept.foldl (fun d e => d.set e.1 e.2) (s.engBytes g w.addr w.frame.data.length) }

/-- Tries to grant a request: none if it must wait, else the state in which it has ended, and the cells it took. A
request waits for its context's cluster (R500), and a host queue's while host memory is out of reach (R615). -/
def State.tryGrant (picks : List Nat) (w : WaitReq) (s : State) : Option (Nat × State) :=
  if w.ctx.isSome || (w.hostQ.isSome && !s.hostOpen) then none
  else
    let f := s.grantFrame w
    let (xs, s1) := s.available (s.testFilter f (w.dests.map (State.recapture w s)))
    if xs.isEmpty then some (0, s1.endWait w subNoDest)
    else match s1.launchFull (xs.map (·.1)) with
      | some p => some (0, (s1.countMac p 17).endWait w subLaunchFull)
      | none =>
        let (took, refused, s2) := s1.takeCredits xs
        let n := cellsFor f took
        match s2.tiers w.partner n with
        | none => none
        | some t =>
          if !refused.isEmpty || 4096 ≤ s2.transit.length || s2.freeCells < n then none
          else
            let s3 := ((s2.noteAdmitted w.partner).chargeTiers w.partner t).launchFrame picks w.partner f took
            some (n, s3.endWait w subOk)

/-- The oldest waiting request of each partner at a crossbar port (R276). -/
def State.heads (s : State) (port : Nat) : List WaitReq :=
  let mine := s.waits.filter fun w => w.port == port
  mine.filter fun w => (mine.find? fun x => x.partner == w.partner).map (·.id) == some w.id

/-- A deficit within its 20 bits (Table 7-12), where it stays. DESIGN CHOICE (log 76). -/
def satDeficit (d : Int) : Int := max (-(2 ^ 19)) (min (2 ^ 19 - 1) d)

/-- A grant of `n` cells lowers the partner's deficit (R277). -/
def State.payDeficit (p n : Nat) (s : State) : State :=
  let q := s.partner p
  s.setPartner p { q with deficit := satDeficit (q.deficit - n) }

/-- Partner `p` has a waiting head at a crossbar port. -/
def State.hasHead (s : State) (port p : Nat) : Bool := (s.heads port).any fun w => w.partner == p

/-- The first escalated head that can be granted, oldest first (R278); its partner's deficit pays, and is zero without a
further request (R277). -/
def State.grantEscalated (picks : List Nat) (s : State) : List WaitReq → Option State
  | [] => none
  | w :: ws =>
    if !w.escalated then s.grantEscalated picks ws
    else match s.tryGrant picks w with
      | some (n, t) => some ((t.payDeficit w.partner n).restDeficit w.partner)
      | none => s.grantEscalated picks ws

/-- Heads in turn order from the partner whose turn it is. -/
def turnOrder (start : Nat) (hs : List WaitReq) : List WaitReq :=
  let le := fun (a b : WaitReq) => decide (a.partner ≤ b.partner)
  (hs.filter fun w => start ≤ w.partner).mergeSort le ++ (hs.filter fun w => w.partner < start).mergeSort le

/-- Partner `p`'s turn passes on the way from `a` to `b`, or all turns pass. -/
def turnPassed (all : Bool) (a b p : Nat) : Bool := all || (if a ≤ b then a ≤ p && p < b else a ≤ p || p < b)

/-- Ends a round-robin grant of `n` cells to `p`: partners of the port whose turns passed without a waiting head have
deficit 0, and so has `p` without a further head; the turn stays with `p` while it has one (R277). -/
def State.closeTurn (port p n start : Nat) (all : Bool) (s : State) : State :=
  let s := s.payDeficit p n
  let more := s.hasHead port p
  let idle := s.partners.keys.filter fun q =>
    (s.partner q).owner == port && !s.hasHead port q && (q == p || turnPassed all start p q)
  let s := s.each idle fun q s => s.setPartner q { s.partner q with deficit := 0 }
  { s with books := { s.books with
    turns := s.books.turns.set (fun _ => (0, false)) port (if more then (p, true) else (p + 1, false)) } }

/-- One round of weighted deficit round-robin over the partners' heads until one is granted (R277). A head whose flag is
set begins a turn and takes its quantum. Whether some head lacked deficit, and the state with the quanta taken, come
with it. -/
def State.grantRound (picks : List Nat) (port start : Nat) (all : Bool) :
    List (WaitReq × Bool) → Bool → State → Option State × Bool × State
  | [], short, s => (none, short, s)
  | (w, fresh) :: ws, short, s =>
    let q := s.partner w.partner
    let d := if fresh then satDeficit (q.deficit + (s.maxReq w.partner * q.weight : Nat)) else q.deficit
    let s := s.setPartner w.partner { q with deficit := d }
    if d < (cellsFor w.frame w.dests : Int) then State.grantRound picks port start all ws true s
    else match s.tryGrant picks w with
      | some (n, t) => (some (t.closeTurn port w.partner n start (all || (fresh && w.partner == start))), short, s)
      | none => State.grantRound picks port start all ws short s

/-- Rounds until a head is granted, while one lacks deficit only. -/
def State.grantRounds (picks : List Nat) (port start : Nat) (cyc : List (WaitReq × Bool)) :
    Nat → List (WaitReq × Bool) → Bool → State → Option State
  | 0, _, _, _ => none
  | k + 1, l, all, s =>
    match s.grantRound picks port start all l false with
    | (some t, _, _) => some t
    | (none, true, s) => State.grantRounds picks port start cyc k cyc true s
    | (none, false, _) => none

/-- WAITING_GRANT at a crossbar port: escalated heads oldest first, then round-robin from the turn in progress, in which
an escalated head that could not be granted is passed over (R276 to R278). Without a head that can be granted, nothing happens (log 76). The deficit stands above −2^19 (Table 7-12), so
2^16 rounds of at least 33 cells cover it. -/
def State.waitingGrant (picks : List Nat) (port : Nat) (s : State) : State :=
  let hs := s.heads port
  match s.grantEscalated picks hs with
  | some t => t
  | none =>
    let turn := s.books.turns.get (fun _ => (0, false)) port
    let order := turnOrder turn.1 hs
    let going := match order with
      | w :: _ => turn.2 && w.partner == turn.1
      | [] => false
    let cyc := (if going then order.drop 1 ++ order.take 1 else order).map fun w => (w, true)
    let first := if going then (order.take 1).map (fun w => (w, false)) ++ cyc else cyc
    (s.grantRounds picks port turn.1 cyc (2 ^ 16) first false).getD s

/-- HEAD_ESCALATION of a partner's head (R278). -/
def State.escalateHead (p : Nat) (s : State) : State :=
  match s.waits.find? fun w => w.partner == p with
  | none => s
  | some w =>
    if w.escalated then s
    else
      { s with waits := s.waits.map fun (x : WaitReq) =>
          if x.id = w.id then { x with escalated := true } else x }.countPartner p 3

/-! ### Submissions of engines (R511 to R515) -/

/-- The destination set of a waiting source's frame as it is submitted, or the status it ends with (Table 14-7): no
destination at stage 4, or a launch queue full that a delivery left at stage 5 needs (R403, R515). -/
def State.waitingSet (routes : List Nat) (f : Frame) (launch : Option Nat) (stampReq : Bool) (tag ref : Nat)
    (s : State) : (Nat × List (Delivery × List Frame)) × State :=
  let (xs, s) := s.destinations routes f launch stampReq tag ref
  if xs.isEmpty then ((subNoDest, []), s)
  else match s.launchFull ((s.available (s.testFilter f xs)).1.map (·.1)) with
    | some q => ((subLaunchFull, []), s.countMac q 17)
    | none => ((subOk, xs), s)

/-- A submission descriptor's fields that have no meaning outside it are as Table 14-6 demands. -/
def submitOk (d : List Byte) : Bool :=
  let fmt := byteAt d 0
  let opt := byteAt d 3
  let launch := leAt d 8 8
  lengthOk fmt (byteAt d 1) (byteAt d 18) (leAt d 16 2) && flagsOk fmt (byteAt d 1) && byteAt d 1 < 32
    && byteAt d 2 < 8 && opt < 8 && byteAt d 25 == 0
    && (if nbit opt 0 then launch % 2 ^ 30 ≤ 999999999 else launch == 0)

/-- The frame a submission descriptor and its data make; `kind` and `index` name the source. -/
def submitFrame (d : List Byte) (kind index stamp : Nat) : Frame :=
  { format := byteAt d 0, flags := byteAt d 1, srcKind := kind, srcIndex := index, ident := leAt d 4 4,
    stamp := stamp, dlc := byteAt d 18, sdt := byteAt d 19, af := leAt d 20 4, vcid := byteAt d 24, conf := 0,
    node := 0xFFFD, route := 0xFFFF, seq := 0, data := (d.drop 32).take (leAt d 16 2) }

/-- Launch time of a submission or descriptor, in 2^-16 ns. -/
def launchOf (set : Bool) (stamp : Nat) : Option Nat := if set then some (nsOfStamp stamp * 2 ^ 16) else none

/-- The submission names a TX context of its own cluster (R487). -/
def State.ctxAllowed (s : State) (i : Nat) (cluster : Option Nat) : Bool :=
  match s.ctx i with
  | some x => x.isTx && (match cluster with | some c => x.cluster == c | none => true)
  | none => false

/-- SUBMIT of engine `g`: descriptor and data bytes `d`, which lie at address `a` (R511 to R515). At most 8 are
outstanding; the caller has checked that. -/
def State.engineSubmit (g a : Nat) (d : List Byte) (s : State) : State :=
  let c := g / 8
  let tag := leAt d 28 4
  let id := s.nextId
  let e := s.eng g
  let s := { s with nextId := id + 1 }.setEng g
    { e with subs := e.subs ++ [({ tag := tag, request := some id, status := none } : Sub)] }
  if !submitOk d then s.endSub g id subBad
  else
    let f := submitFrame d srcEngine g s.stamp
    let opt := byteAt d 3
    let ctx := leAt d 26 2
    if nbit opt 2 && !s.ctxAllowed ctx (some c) then s.endSub g id subCtxRefused
    else
      let (f?, s) : Option Frame × State := if nbit opt 2 then s.txAppend ctx f else (some f, s)
      match f? with
      | none => s.endSub g id subCheckRefused
      | some f =>
        let kept := if nbit opt 2 then s.appended ctx f.data else []
        match s.stage4 c f false with
        | (.filtered, s) => s.endSub g id subFiltered
        | (.checkFail, s) => s.endSub g id subCheckFail
        | (.pass f m, s) =>
          let p := m.partner.getD (64 + g)
          let launch := launchOf (nbit opt 0) (leAt d 8 8)
          let ((st, xs), s) := s.waitingSet m.routes f launch (nbit opt 1) tag s.time
          if st ≠ subOk then s.endSub g id st
          else
            { s with waits := s.waits ++ [
              { id := id, partner := p, port := (s.partner p).owner, cells := cellsFor f xs, frame := f, dests := xs,
                hostQ := none, engine := some g, addr := a + 32, kept := kept, ctx := none, launch := launch,
                stampReq := nbit opt 1, tag := tag, entered := s.time, escalated := false }] }

/-- A tile's frame, a line source (R523, R264). -/
def State.tileSubmit (picks : List Nat) (c : Nat) (d : List Byte) (s : State) : Nat × State :=
  if !submitOk d then (subBad, s)
  else
    let f := submitFrame d srcTile c s.stamp
    let opt := byteAt d 3
    let ctx := leAt d 26 2
    if nbit opt 2 && !s.ctxAllowed ctx (some c) then (subCtxRefused, s)
    else
      let (f?, s) : Option Frame × State := if nbit opt 2 then s.txAppend ctx f else (some f, s)
      match f? with
      | none => (subCheckRefused, s)
      | some f =>
        s.lineFrame picks c f (96 + c) false (launchOf (nbit opt 0) (leAt d 8 8)) (nbit opt 1) (leAt d 28 4)
          (fun _ s => (true, s))

/-! ### Host frames (R607) -/

/-- A frame image read from host memory passes the check of COMMIT, ETHERNET permitted (R607 step 2). -/
def imageOk (b : List Byte) : Bool :=
  let fmt := byteAt b 0
  let len := leAt b 16 2
  lengthOk fmt (byteAt b 1) (byteAt b 18) len && flagsOk fmt (byteAt b 1) && b.length == 32 + len

/-- The descriptor passes R607 step 1. -/
def txDescOk (d : List Byte) : Bool :=
  let opt := byteAt d 25
  leAt d 0 8 % 8 == 0 && leAt d 20 2 < 32768 && byteAt d 24 == 0 && opt < 16 && leAt d 28 3 == 0
    && (if nbit opt 0 then leAt d 8 8 % 2 ^ 30 ≤ 999999999 else leAt d 8 8 == 0)

/-- Step 5 of R607 for a waiting host request: its destination set, with the frame that its TX context left. -/
def State.formSet (w : WaitReq) (f : Frame) (s : State) : State :=
  let ((st, xs), s) := s.waitingSet [f.route] f w.launch w.stampReq w.tag w.entered
  if st ≠ subOk then s.endWait w st
  else { s with waits := s.waits.map fun (x : WaitReq) =>
    if x.id = w.id then { w with frame := f, dests := xs, cells := cellsFor f xs, ctx := none } else x }

/-- Steps 4 and 5 of R607: the TX context, which waits for its cluster (R500), and then the destination set. -/
def State.formWait (w : WaitReq) (s : State) : State :=
  match w.ctx with
  | none => s.formSet w w.frame
  | some i =>
    if !s.ctxAllowed i none then s.endWait w subCtxRefused
    else if (s.ctx i).any fun x => s.reconf x.cluster then s
    else match s.txAppend i w.frame with
      | (none, s) => s.endWait w subCheckRefused
      | (some f, s) => s.formSet w f

/-- Host requests that waited for a context's cluster go on (R500). -/
def State.formWaits (s : State) : State := s.each (s.waits.filter (·.ctx.isSome)) State.formWait

/-- The request of a sound TX descriptor `d` of queue `q`, slot `i`, with the sound image `b`; its TX context is still to
be applied and its destination set to be formed (R607). -/
def State.hostRequest (s : State) (q i : Nat) (d b : List Byte) : WaitReq :=
  let opt := byteAt d 25
  let g := Frame.ofBytes b
  let f : Frame := { g with flags := g.flags % 32, srcKind := srcHost, srcIndex := q, stamp := s.stamp, conf := 0,
                            node := 0xFFFD, route := leAt d 20 2, seq := 0 }
  let p := s.hostQPartner q
  { id := s.nextId, partner := p, port := (s.partner p).owner, cells := cellsOf f.data.length, frame := f, dests := [],
    hostQ := some (q, i), engine := none, addr := 0, kept := [], ctx := if nbit opt 2 then some (leAt d 22 2) else none,
    launch := launchOf (nbit opt 0) (leAt d 8 8), stampReq := nbit opt 1, tag := leAt d 16 4, entered := s.time,
    escalated := false }

/-- Executes a fetched TX descriptor of queue `q`, slot `i`, with the image read from host memory, none where the read
failed (R607). -/
def State.hostFrame (q i : Nat) (d : List Byte) (image : Option (List Byte)) (s : State) : State :=
  if !txDescOk d then s.slotDue q i 5 0
  else match image with
    | none => s.slotDue q i 6 0
    | some b =>
      if !imageOk b then s.slotDue q i 5 0
      else
        let w := s.hostRequest q i d b
        (s.addWait w).formWait w

end Sys2Proof.Machine
end

