-- ==== Sys2Proof/Machine/Nodes.lean ====
section
/-! DEFINITION. Arbitration forensics: matching a signature against the node table (R140 to R142), learning (R143 to
R147), drift (R148), clash attribution (R150) and node table entries as bytes (Table 4-12). -/
namespace Sys2Proof.Machine

/-- The valid components of a signature as (component, value) pairs: 0 d, 1 a, 2 s. -/
def Sig.parts (x : Sig) : List (Nat × Int) :=
  (match x.d with | some v => [(0, v)] | none => [])
    ++ (match x.a with | some v => [(1, (v : Int))] | none => [])
    ++ (match x.s with | some v => [(2, (v : Int))] | none => [])

/-- z of one component (R140); the floor of every spread is 32 sixteenths. -/
def zOf (x m : Int) (sp : Nat) : Nat := min 4095 (16 * (16 * x - m).natAbs / max sp 32)

/-- An entry's distance from a signature. -/
def NodeEnt.distance (e : NodeEnt) (x : Sig) : Nat :=
  (x.parts.map fun p => zOf p.2 (e.mean.getD p.1 0) (e.spread.getD p.1 0)).foldl max 0

/-- Field of BUS[n]_SIGCFG as it stands for the frame under way (R158). -/
def State.sigcfg (s : State) (n lo len : Nat) : Nat := fld (s.lane n).sigcfg lo len

/-- A measured signature: the amplitude scaled by the effective sampler gain (R138, rounded down: log 80), each
component in its range (R136), and a and s valid together (R137). -/
def State.measured (s : State) (n : Nat) (x : Sig) : Sig :=
  let d := x.d.map fun v => max (-2048) (min 2047 v)
  match x.a, x.s with
  | some a, some v => ⟨d, some (min 255 (((a : Int) * s.calEff (0x280 + n)).toNat / 65536)), some (min 255 v)⟩
  | _, _ => ⟨d, none, none⟩

/-- Entries of channel `n` in state NEW or KNOWN. -/
def State.nodesOf (s : State) (n : Nat) : List (Nat × NodeEnt) :=
  s.nodes.filter fun e => (e.2.state == 1 || e.2.state == 2) && e.2.channel == n

/-- Entries of channel `n` that match, with their distances, in index order (R140). -/
def State.matchesOf (s : State) (n : Nat) (x : Sig) : List (Nat × Nat) :=
  ((s.nodesOf n).map fun e => (e.1, e.2.distance x)).filter fun p => p.2 ≤ 16 * s.sigcfg n 27 3

/-- The nearest of matching entries; the lower index among equals. -/
def nearest : List (Nat × Nat) → Option (Nat × Nat)
  | [] => none
  | p :: ps =>
    match nearest ps with
    | some q => if q.2 < p.2 then some q else some p
    | none => some p

/-- Attribution of a received frame: node index and confidence (R141, R142). -/
def State.attribute (n : Nat) (x : Sig) (s : State) : Nat × Nat :=
  if s.sigcfg n 30 2 = 0 || x.parts.isEmpty then (0xFFFD, 0)
  else
    let ms := s.matchesOf n x
    match nearest ms with
    | none => (0xFFFF, 0)
    | some (i, d) =>
      let k := 16 * s.sigcfg n 27 3
      let c := 255 * (k - d) / k
      let c := if ms.any (fun p => p.1 != i && p.2 < d + 16) then c / 2 else c
      let c := if x.parts.length < 3 then min c 127 else c
      let c := if (s.node i).state = 1 then min c 63 else c
      (i, c)

/-- Drift thresholds of channel `n` for component `k`. -/
def State.driftThr (s : State) (n k : Nat) : Nat := s.rf (busBase n + 0x118) (16 - 8 * k) 8

/-- Sets the drift flags of a KNOWN entry whose means left their references, raising SIG_DRIFT once each (R148). -/
def State.drift (i : Nat) (s : State) : State :=
  s.each [0, 1, 2] fun k s =>
    let e := s.node i
    let thr := s.driftThr e.channel k
    let far := 16 * thr ≤ ((e.mean.getD k 0) - (e.ref.getD k 0)).natAbs
    if e.state = 2 && thr ≠ 0 && far && !(e.drift.getD k false) then
      (s.setNode i { e with drift := e.drift.set k true }).raise (.bus e.channel) 12 e.channel i
    else s

/-- Updates one component's mean and spread (R144). -/
def NodeEnt.learn (e : NodeEnt) (p : Nat × Int) : NodeEnt :=
  let m := e.mean.getD p.1 0
  let sp : Int := e.spread.getD p.1 0
  let dev := 16 * p.2 - m
  { e with mean := e.mean.set p.1 (m + dev.tdiv 16),
           spread := e.spread.set p.1 (sp + ((dev.natAbs : Int) - sp).tdiv 16).toNat }

/-- A matched entry is updated (R144, R147, R148). An entry committed KNOWN with a lower count keeps its references at 32;
one committed NEW with 32 or more becomes KNOWN at its next update. DESIGN CHOICE (log 98). -/
def State.nodeUpdate (i : Nat) (x : Sig) (s : State) : State :=
  let e := x.parts.foldl NodeEnt.learn (s.node i)
  let e := { e with count := satAdd 65535 e.count 1 }
  let e := if e.state = 1 && 32 ≤ e.count then { e with state := 2, ref := e.mean } else e
  (s.setNode i e).drift i

/-- The lowest-indexed FREE entry of the table. -/
def State.freeNode (s : State) : Option Nat :=
  let used := (s.nodes.filter fun e => e.2.state != 0).map (·.1)
  if 4096 ≤ used.length then none else (List.range (used.length + 1)).find? fun i => !used.contains i

/-- A new entry for an unmatched signature (R145). Means and spreads of components that are not valid, the references and
the clash fields are zero. DESIGN CHOICE (log 98). -/
def newNode (n : Nat) (x : Sig) : NodeEnt :=
  x.parts.foldl (fun e p => { e with mean := e.mean.set p.1 (16 * p.2), spread := e.spread.set p.1 128 })
    { NodeEnt.free with state := 1, channel := n, count := 1 }

/-- Attribution and learning for a frame that became valid on channel `n` (R141 to R148): index and confidence. -/
def State.forensics (n : Nat) (x : Sig) (s : State) : (Nat × Nat) × State :=
  let a := s.attribute n x
  let learn := s.sigcfg n 30 2
  if a.1 < 4096 then
    if 2 ≤ learn && s.sigcfg n 8 8 ≤ a.2 then (a, s.nodeUpdate a.1 x) else (a, s)
  else if a.1 = 0xFFFF && learn = 3 then
    match s.freeNode with
    | some i =>
      if s.sigcfg n 20 7 ≤ (s.nodesOf n).length then (a, full s) else ((i, 0), s.setNode i (newNode n x))
    | none => (a, full s)
  else (a, s)
where
  /-- NODE_TABLE_FULL, once until an entry is freed or learn_cap changes (R146). -/
  full (s : State) : State :=
    let l := s.lane n
    if l.nodeFull then s else (s.setLane n { l with nodeFull := true }).raise (.bus n) 13 n 0

/-- The entry another node's frame is attributed to at a clash is updated (R150). -/
def State.nodeClash (i ident : Nat) (s : State) : State :=
  if i < 4096 then
    let e := s.node i
    s.setNode i { e with lastClash := ident, clashCount := satAdd 65535 e.clashCount 1 }
  else s

/-- The 32 bytes of an entry (Table 4-12). -/
def NodeEnt.bytes (e : NodeEnt) : List Byte :=
  leBytes 1 e.state ++ leBytes 1 e.channel ++ leBytes 2 e.count
    ++ e.mean.flatMap (fun m => leBytes 2 (ofSigned 16 m)) ++ e.spread.flatMap (leBytes 2)
    ++ e.ref.flatMap (fun m => leBytes 2 (ofSigned 16 m))
    ++ leBytes 1 (b2n (e.drift.getD 0 false) + 2 * b2n (e.drift.getD 1 false) + 4 * b2n (e.drift.getD 2 false))
    ++ leBytes 1 0 ++ leBytes 4 e.lastClash ++ leBytes 2 e.clashCount ++ leBytes 2 0

/-- An entry read from its bytes. Means and references of a and s are unsigned. -/
def NodeEnt.ofBytes (b : List Byte) : NodeEnt :=
  let triple (off : Nat) : List Int := [toSigned 16 (leAt b off 2), leAt b (off + 2) 2, leAt b (off + 4) 2]
  { state := byteAt b 0, channel := byteAt b 1, count := leAt b 2 2, mean := triple 4,
    spread := [leAt b 10 2, leAt b 12 2, leAt b 14 2], ref := triple 16,
    drift := [nbit (byteAt b 22) 0, nbit (byteAt b 22) 1, nbit (byteAt b 22) 2],
    lastClash := leAt b 24 4, clashCount := leAt b 28 2 }

/-- Commits a staged entry (R153 to R156); none if it is a reserved encoding (R155). A set drift flag written 0 copies the
staged mean to the reference (R148); writing 0 to a flag that is 0 copies nothing. DESIGN CHOICE (log 98). -/
def State.nodeCommit (i : Nat) (b : List Byte) (s : State) : Option State :=
  let e := NodeEnt.ofBytes b
  if 2 < e.state || 40 ≤ e.channel || !s.hasCluster (e.channel / 10) || 8 ≤ byteAt b 22 || byteAt b 23 ≠ 0
      || leAt b 30 2 ≠ 0 then none
  else
    let old := s.node i
    let re (k : Nat) : Int :=
      if old.drift.getD k false && !(e.drift.getD k false) then e.mean.getD k 0 else e.ref.getD k 0
    let new := { e with ref := [re 0, re 1, re 2] }
    let s := s.setNode i new
    let l := s.lane old.channel
    let s :=
      if old.state ≠ 0 && (new.state = 0 || new.channel ≠ old.channel) then
        s.setLane old.channel { l with nodeFull := false }
      else s
    some (s.drift i)

end Sys2Proof.Machine
end

