-- ==== Sys2Proof/Machine/Bus.lean ====
section
/-! DEFINITION. Bus channels: error confinement (R186 to R195), the lonely and clash rules (R196 to R213), slots and
arbitration (R181 to R185, R463, R465), reception, transmission and errors of frames. -/
namespace Sys2Proof.Machine

/-! ### Small reads and updates -/

/-- Updates channel `n`. -/
def State.upLane (n : Nat) (f : BusLane → BusLane) (s : State) : State := s.setLane n (f (s.lane n))

/-- Counter `i` of Table 5-17. -/
def State.countBus (n i : Nat) (s : State) : State := s.cnt (busBase n + 0x40 + 4 * i)

/-- op_mode of Table 5-3: 0 NORMAL, 1 RESTRICTED, 2 MONITOR, 3 LOOPBACK. -/
def State.opMode (s : State) (n : Nat) : Nat := s.rf (busBase n) 30 2

/-- Error signalling is off (R176). -/
def State.esOff (s : State) (n : Nat) : Bool := s.rb (busBase n) 27

/-- Table 5-5 binds (R186). -/
def State.countsErrors (s : State) (n : Nat) : Bool := s.opMode n == 0 && !s.esOff n

/-- BUS[n]_LIMITS: the lonely fields as they stand (R205), the limits as they stand for the frame under way (R216). -/
def State.lonelyThr (s : State) (n : Nat) : Nat := s.rf (busBase n + 0x10) 0 8
def State.clashLimit (s : State) (n : Nat) : Nat := fld (s.lane n).limits 8 8
def State.ewLimit (s : State) (n : Nat) : Nat := fld (s.lane n).limits 16 8
def State.lonelyHold (s : State) (n : Nat) : Bool := s.rb (busBase n + 0x10) 31

/-- Beacon's raw counter at the start-of-frame of the frame that ends now: the channel's own, or `age` ns ago. -/
def State.sofOf (s : State) (n age : Nat) : Int :=
  if (s.lane n).ctl == .transmitting then (s.lane n).sofRaw else (s.beacon.raw : Int) - (age * 2 ^ 16 : Nat)

/-- A register's word at a start-of-frame: writes after it are undone. -/
def wordAtSof (hist : List (Nat × Nat × Word)) (sof : Int) (off : Nat) (now : Word) : Word :=
  hist.foldl (fun v e => if e.2.1 = off && sof < e.1 then e.2.2 else v) now

/-- A frame ends: SIGCFG and LIMITS are those of its start-of-frame (R158, R216), and ew clears where both counters are
below its ew_limit (R189). -/
def State.frameEnds (n age : Nat) (s : State) : State :=
  let t := s.sofOf n age
  s.upLane n fun l =>
    let limits := wordAtSof l.hist t 0x10 (s.rd (busBase n + 0x10))
    { l with sigcfg := wordAtSof l.hist t 0x114 (s.rd (busBase n + 0x114)), limits := limits, hist := [],
             ew := l.ew && (fld limits 16 8 ≤ l.tec || fld limits 16 8 ≤ l.recv) }

/-- A write to a register of channel `n` whose effect waits for the next start-of-frame. -/
def State.noteWrite (n off : Nat) (old : Word) (s : State) : State :=
  if s.rd (busBase n + off) = old then s
  else s.upLane n fun l => { l with hist := (s.beacon.raw, off, old) :: l.hist }

/-- Slot `x` is single-shot: retrans is SINGLE, or the slot carries a launch time (R184, R463). -/
def State.singleShot (s : State) (n : Nat) (x : BusSlot) : Bool := s.rb (busBase n) 24 || x.launch.isSome

/-- wake_mode of Table 4-16. -/
def State.wakeMode (s : State) (n : Nat) : Nat := s.rf (busBase n + 0x120) 30 2

def BusLane.slot (l : BusLane) (k : Nat) : Option BusSlot := l.slots.find? fun x => x.index == k

/-- Updates slot `k`. -/
def BusLane.upSlot (k : Nat) (f : BusSlot → BusSlot) (l : BusLane) : BusLane :=
  { l with slots := l.slots.map fun x => if x.index = k then f x else x }

/-- The identifier in the layout of Table 5-12: that of Table 6-2. -/
def Frame.clashIdent (f : Frame) : Nat := f.ident % 2 ^ 31 + 2 ^ 31

/-- The frame a channel sends: the record with the remap of R345. -/
def Frame.remapped (f : Frame) (remap : Nat) : Frame :=
  if !nbit remap 31 then f
  else if f.format = fmtXl then { f with ident := 3 * 2 ^ 30 + remap % 2 ^ 11 }
  else
    let ext := nbit remap 29
    { f with flags := setBit f.flags 0 ext,
             ident := 2 ^ 31 + b2n ext * 2 ^ 29 + (if ext then remap % 2 ^ 29 else remap % 2 ^ 11) }

/-- The frame loaded in a slot, as it is sent. -/
def State.slotFrame (s : State) (x : BusSlot) : Frame :=
  let d := s.desc x.desc
  (s.frameOf (d.current.getD 0)).remapped d.job.remap

/-! ### Reference messages (R470, R763) -/

/-- The reference message of channel `n` with its data bytes. -/
def State.refFrame (s : State) (n : Nat) (data : List Byte) : Frame :=
  { format := fmtClassic, flags := 0, srcKind := srcBus, srcIndex := n,
    ident := 2 ^ 31 + ((s.sched n).map (·.refId)).getD 0, stamp := 0, dlc := data.length, sdt := 0, af := 0, vcid := 0,
    conf := 0, node := 0xFFFE, route := 0xFFFF, seq := 0, data := data }

/-- The frame the channel is sending. -/
def State.sending (s : State) (n : Nat) : Option Frame :=
  let l := s.lane n
  if (s.tl n).refBusy then (s.tl n).refSlot.map (s.refFrame n)
  else (l.current.bind l.slot).map s.slotFrame

/-! ### Line views (R126) -/

/-- term_active (R126). -/
def State.termActive (s : State) (n : Nat) : Bool :=
  s.rb (busBase n + 0x110) 31
    && (if s.mode == .sleep then s.wakeMode n ≠ 0 else (s.lane n).ctl != .quiet)

/-! ### Leaving and entering QUIET (R45, R167) -/

/-- The channel leaves QUIET. -/
def State.laneStart (n : Nat) (s : State) : State :=
  s.upLane n fun l =>
    { l with ctl := .integrating, conf := .active, tec := 0, recv := 0, boSeq := 0, recovering := false, ew := false,
             ackRun := 0, noPartner := l.noPartner && l.held, hist := [], sentLast := false }

/-- The channel is held quiet: it drives nothing, and a frame in progress is cut off. -/
def State.laneQuiet (n : Nat) (s : State) : State :=
  (s.upLane n fun l => { l with ctl := .quiet, current := none }).setTl n { s.tl n with refBusy := false }

/-! ### Error confinement (R187 to R193) -/

/-- ew after a counter change (R189). -/
def State.warn (n : Nat) (s : State) : State :=
  let l := s.lane n
  let lim := s.ewLimit n
  if lim ≤ l.tec || lim ≤ l.recv then
    if l.ew then s else (s.setLane n { l with ew := true }).raise (.bus n) 0 n 0
  else s.setLane n { l with ew := false }

/-- Entry to BUS_OFF (R191, R192). bo_recover is read here: AUTO written later, in TEST, starts no recovery; and bo_seq
starts from 0. DESIGN CHOICE (log 81). -/
def State.busOff (n : Nat) (s : State) : State :=
  ((s.upLane n fun l =>
    { l with tec := 256, conf := .busOff, ctl := .recovering, current := none, held := false, boSeq := 0,
             recovering := s.rf (busBase n) 22 2 == 0 }).raise (.bus n) 2 n 0).countBus n 11

/-- Confinement state after a counter change (R187, R188). Where one change causes both, ERR_WARN comes before ERR_PASSIVE
or BUS_OFF. DESIGN CHOICE (log 81). -/
def State.confine (n : Nat) (s : State) : State :=
  let s := s.warn n
  let l := s.lane n
  if 255 < l.tec then s.busOff n
  else if 128 ≤ l.tec || 128 ≤ l.recv then
    if l.conf == .active then (s.setLane n { l with conf := .passive }).raise (.bus n) 1 n 0 else s
  else if l.conf == .passive then (s.setLane n { l with conf := .active }).raise (.bus n) 14 n 0 else s

/-- Adds to tec; nothing more changes once the channel is bus-off. -/
def State.bumpTec (n d : Nat) (s : State) : State :=
  let l := s.lane n
  if l.conf == .busOff then s else (s.setLane n { l with tec := l.tec + d }).confine n

/-- Adds to rec, which saturates at 255. -/
def State.bumpRec (n d : Nat) (s : State) : State :=
  let l := s.lane n
  if l.conf == .busOff then s else (s.setLane n { l with recv := satAdd 255 l.recv d }).confine n

/-- Rule 7 of Table 5-5. -/
def State.txValid (n : Nat) (s : State) : State :=
  if s.countsErrors n then (s.upLane n fun l => { l with tec := l.tec - 1 }).confine n else s

/-- Rule 8 of Table 5-5. -/
def State.rxValid (n : Nat) (s : State) : State :=
  if s.countsErrors n then
    (s.upLane n fun l => { l with recv := if 127 < l.recv then 120 else l.recv - 1 }).confine n
  else s

/-- DELAYED_RECOVERY_START (R192): bo_delay has run out since the entry to BUS_OFF. -/
def State.delayedRecovery (n : Nat) (s : State) : State :=
  let l := s.lane n
  if l.ctl == .recovering && s.rf (busBase n) 22 2 == 1 then s.setLane n { l with recovering := true } else s

/-- A write of 1 to recover in its allowed modes (R192, R194). -/
def State.hostRecover (n : Nat) (s : State) : State :=
  let l := s.lane n
  if l.ctl == .recovering && s.rf (busBase n) 22 2 == 2 then s.setLane n { l with recovering := true } else s

/-- An edge of Beacon's island: a channel that recovers counts an occurrence of 11 recessive bits that ends there (R193).
Whether one does is on the line, not in a command: a free value (Config.elevenRecessive, log 82). -/
def State.recessiveCount (s : State) : State :=
  s.each s.bus.keys fun n s =>
    let l := s.lane n
    if l.ctl == .recovering && l.recovering && Config.elevenRecessive n s.beacon.raw then
      s.setLane n { l with boSeq := min 127 (l.boSeq + 1) }
    else s

/-- BUS_ON: the 128th occurrence of 11 recessive bits since recovery started (R193). -/
def State.busOn (n : Nat) (s : State) : State :=
  let l := s.lane n
  if l.ctl == .recovering && l.recovering then
    (s.setLane n { l with tec := 0, recv := 0, boSeq := 128, conf := .active, ctl := .idle, recovering := false,
                          ew := false }).raise (.bus n) 3 n 0
  else s

/-- INTEGRATION_COMPLETE (R167): the channel has seen 11 consecutive recessive bits. -/
def State.integrated (n : Nat) (s : State) : State :=
  let l := s.lane n
  if l.ctl == .integrating then s.setLane n { l with ctl := .idle } else s

/-! ### The lonely rule (R196 to R205) -/

/-- held and no_partner clear and ack_err_run returns to 0 (R200). -/
def BusLane.notAlone (l : BusLane) : BusLane := { l with held := false, noPartner := false, ackRun := 0 }

/-- BUS_RETRY (R200, R202). -/
def State.busRetry (n : Nat) (s : State) : State :=
  if (s.lane n).held then s.upLane n BusLane.notAlone else s

/-- A transmission ended in an ACK error (R196, R198, R199). With no_partner set, R198 applies again where ack_err_run now
reaches lonely_thr, and after a write of a lonely field (R205). A channel that this error has also taken to bus-off is
not held (R204). DESIGN CHOICE (log 81). -/
def State.ackFailed (n : Nat) (s : State) : State :=
  let old := s.lane n
  let s := s.upLane n fun l => { l with ackRun := satAdd 255 l.ackRun 1, lonelyNew := false }
  let l := s.lane n
  let thr := s.lonelyThr n
  if thr ≤ l.ackRun && (!l.noPartner || old.lonelyNew || old.ackRun < thr) then
    (s.setLane n { l with noPartner := true, held := s.lonelyHold n && l.conf != .busOff }).raise (.bus n) 4 n 0
  else s

/-- A transmission ended otherwise (R197, R201). -/
def BusLane.ackOther (l : BusLane) : BusLane :=
  { l with ackRun := 0, noPartner := l.noPartner && l.held, lonelyNew := false }

/-! ### Slots (R181 to R185, R246, R247) -/

/-- Outcome codes of Table 5-4. -/
def outSent : Nat := 0
def outLostArb : Nat := 1
def outTxError : Nat := 2
def outAckError : Nat := 3
def outDiscarded : Nat := 4

/-- Slot `k` of channel `n` completes (R185, R247); `stamp` is the start-of-frame stamp of the attempt. -/
def State.slotComplete (n k outcome stamp : Nat) (s : State) : State :=
  let l := s.lane n
  match l.slot k with
  | none => s
  | some x =>
    let s := s.setLane n { l with slots := l.slots.filter (fun y => y.index != k),
                                  current := if l.current = some k then none else l.current }
    let d := s.desc x.desc
    let e := { d with outcome := outcome, slot := none, job := TxJob.none }
    match d.kind with
    | .txStatic =>
      let s := if outcome = outSent then s.putBytes (64 * d.current.getD 0 + 8) (leBytes 8 stamp) else s
      let s := s.setDesc x.desc { e with state := .idle, commitPending := false }
      if d.commitPending then s.swapStatic x.desc else s
    | _ => (s.setDesc x.desc { e with state := .empty, current := none }).dropOpt d.current

/-- Takes a READY descriptor of channel `n` out of the wait for a slot and discards its frame, as slotComplete does
for a loaded one. -/
def State.readyDiscard (n i : Nat) (s : State) : State :=
  let l := s.lane n
  let s := s.setLane n { l with ready := l.ready.filter (· != i) }
  let d := s.desc i
  let e := { d with outcome := outDiscarded, slot := none, job := TxJob.none }
  match d.kind with
  | .txStatic => s.setDesc i { e with state := .idle }
  | _ => (s.setDesc i { e with state := .empty, current := none }).dropOpt d.current

/-- Every frame waiting on channel `n` is discarded (R107, R254, R255). -/
def State.laneDiscard (n : Nat) (s : State) : State :=
  let l := s.lane n
  (s.each (l.slots.map (·.index)) fun k s => s.slotComplete n k outDiscarded 0).each l.ready (State.readyDiscard n)

/-- The same, each frame counted: under R107, by UNLOAD and on entry to SLEEP (Table 5-17). -/
def State.laneDiscardCounted (n : Nat) (s : State) : State :=
  let l := s.lane n
  (s.each (List.range (l.slots.length + l.ready.length)) fun _ s => s.countBus n 14).laneDiscard n

/-- SLOT_LOAD: the first READY descriptor is loaded into free slot `k` (R246). `ecc` is what the read of its record finds:
after an uncorrectable error the descriptor is damaged and the frame is not sent (R234, R235). What the descriptor then
becomes is the model's choice: a TX_STATIC one IDLE, a TX_QUEUE one EMPTY, its outcome kept. DESIGN CHOICE (log 90). -/
def State.slotLoad (n k : Nat) (ecc : RecEcc) (s : State) : State :=
  let l := s.lane n
  match l.ready with
  | [] => s
  | i :: rest =>
    if 32 ≤ k || (l.slot k).isSome then s
    else
      let d := s.desc i
      let s := (s.setLane n { l with ready := rest }).noteCe ecc.corrected
      match ecc.ue with
      | some w =>
        let s := s.memUe w
        let e := { d with damaged := true, slot := none, job := TxJob.none }
        match d.kind with
        | .txStatic => s.setDesc i { e with state := .idle }
        | _ => (s.setDesc i { e with state := .empty, current := none }).dropOpt d.current
      | none =>
        let x : BusSlot :=
          { index := k, desc := i, order := l.order, parked := false, clashRun := 0, fails := 0,
            launch := d.job.launch, window := d.job.window }
        (s.setLane n { l with ready := rest, slots := x :: l.slots, order := l.order + 1 }).setDesc i
          { d with state := .loaded, slot := some k }

/-- BUF_UNPARK of slot `k` (R211, R212). -/
def State.unpark (n k : Nat) (s : State) : State :=
  s.upLane n fun l => l.upSlot k fun x => if x.parked then { x with parked := false, clashRun := 0 } else x

/-! ### Frame length on the line (R465) -/

/-- Bit time in island clocks of a setting with brp, tseg1 and tseg2 minus one. -/
def bitClocks (brp t1 t2 : Nat) : Nat := (brp + 1) * (t1 + t2 + 3)

def State.nominalBit (s : State) (n : Nat) : Nat :=
  let w := s.rd (busBase n + 0x100)
  bitClocks (fld w 22 8) (fld w 14 8) (fld w 7 7)

/-- Data bit time of FD (register 0x104) or XL (0x108). -/
def State.dataBit (s : State) (n off : Nat) : Nat :=
  let w := s.rd (busBase n + off)
  bitClocks (fld w 16 5) (fld w 10 6) (fld w 5 5)

/-- Bits of a frame at the nominal rate and in the data phase, at worst-case stuffing and with three bits of
intermission, under ISO 11898-1:2024. PRESUMED (log 20): the spec does not restate the frame formats. -/
def Frame.bits (f : Frame) : Nat × Nat :=
  let len := if nbit f.flags 1 then 0 else f.data.length
  let ext := nbit f.flags 0
  if f.format = fmtXl then
    let data := 3 + 108 + 8 * len + ceilDiv (108 + 8 * len) 10 + 4 + 1
    (18 + 4 + 3 + 9 + 3, data)
  else if f.format = fmtFd then
    let head := if ext then 36 else 17
    let body := 5 + 8 * len
    let stuff := (head + body - 1) / 4
    let early := (head - 1) / 4
    let crc := if len ≤ 16 then 4 + 17 + 6 else 4 + 21 + 7
    if nbit f.flags 2 then (head + early + 1 + 9 + 3, body + (stuff - early) + crc)
    else (head + body + stuff + crc + 1 + 9 + 3, 0)
  else
    let n := (if ext then 54 else 34) + 8 * len
    (n + (n - 1) / 4 + 10 + 3, 0)

/-- Worst-case time of a frame on channel `n`, in ns. -/
def State.frameNs (s : State) (n : Nat) (f : Frame) : Nat :=
  let b := f.bits
  ceilDiv ((b.1 * s.nominalBit n + b.2 * s.dataBit n (if f.format = fmtXl then 0x108 else 0x104)) * 25) 4

/-! ### The transceiver (R118 to R120) -/

/-- `w` bits of a number, most significant first; true is recessive. -/
def msbBits (w v : Nat) : List Bool := (List.range w).reverse.map fun i => v.testBit i

/-- Stuff bits that the bits ahead take after a run of `run` bits equal to `last`: one after every five equal bits. -/
def stuffBits (last : Bool) (run : Nat) : List Bool → Nat
  | [] => 0
  | b :: bs =>
    if b != last then stuffBits b 1 bs
    else if run + 1 < 5 then stuffBits b (run + 1) bs
    else 1 + stuffBits (!b) 1 bs

/-- Bits of an XL frame up to the ADH bit, its own stuff bits among them: SOF, identifier, RRS, IDE, FDF, XLF, resXL and
ADH. PRESUMED (log 20). -/
def Frame.xlHead (f : Frame) : Nat :=
  18 + stuffBits true 0 ([false] ++ msbBits 11 f.ident ++ [false, false, true, true, false, true])

/-- The data phase of XL frame `f`, which the channel sends, has begun and not ended: from the ADH bit on, counted from
its start-of-frame in island clocks; the stuffing of the data phase is fixed (log 20). -/
def State.inDataPhase (s : State) (n : Nat) (f : Frame) : Bool :=
  let t := (s.beacon.raw - (s.lane n).sofRaw) / 409600
  let start := f.xlHead * s.nominalBit n
  f.format == fmtXl && start ≤ t && t < start + f.bits.2 * s.dataBit n 0x108

/-- Transceiver state of channel `n`. Whether another node's frame is in an XL data phase is on the line, not in a
command: a free value (log 82). -/
def State.xcvrOf (s : State) (n : Nat) : Xcvr :=
  let l := s.lane n
  let fast := s.rb (busBase n + 0x108) 31 && s.rb (busBase n) 28
  if s.mode == .sleep then (if s.wakeMode n = 0 then .off else .wakeListen)
  else if l.ctl == .quiet || s.opMode n == 3 then .off
  else if l.ctl == .transmitting then (if fast && (s.sending n).any (s.inDataPhase n) then .fastTx else .sic)
  else if (l.ctl == .idle || l.ctl == .receiving) && fast && Config.lineFast n s.beacon.raw then .fastRx
  else .sic

/-! ### Arbitration (R181, R182) -/

/-- The arbitration field as it meets the line (R182). -/
def Frame.arbField (f : Frame) : List Bool :=
  let rtr := f.format == fmtClassic && nbit f.flags 1
  if f.format = fmtXl then msbBits 11 f.ident ++ [false]
  else if nbit f.flags 0 then
    msbBits 11 (f.ident % 2 ^ 29 / 2 ^ 18) ++ [true, true] ++ msbBits 18 f.ident ++ [rtr]
  else msbBits 11 f.ident ++ [rtr]

/-- The first field wins over the second; a field that is a prefix of the other wins, being followed by a dominant
IDE bit. -/
def arbBefore : List Bool → List Bool → Bool
  | _, [] => false
  | [], _ :: _ => true
  | a :: as, b :: bs => if a = b then arbBefore as bs else !a

/-- The slot may be offered now (R181, R463, R465). -/
def State.eligible (s : State) (n : Nat) (x : BusSlot) : Bool :=
  let t := s.tl n
  !x.parked && !(s.lane n).held && (match x.launch with | some l => l ≤ s.time | none => true)
    && (if !t.active then true
        else match t.current with
          | none => false
          | some w =>
            if x.window.isSome then x.window == some w.win
            else w.win.type == .arbitration && s.ns + s.frameNs n (s.slotFrame x) < w.stop)

/-- The slot goes before the other at a choice (R182). -/
def State.slotBefore (s : State) (n : Nat) (x y : BusSlot) : Bool :=
  let fx := (s.slotFrame x).arbField
  let fy := (s.slotFrame y).arbField
  if s.rb (busBase n) 25 || fx == fy then x.order < y.order else arbBefore fx fy

/-- The slot chosen for the next start-of-frame. -/
def State.chooseSlot (s : State) (n : Nat) : Option BusSlot :=
  ((s.lane n).slots.filter (s.eligible n)).foldl
    (fun best x => match best with
      | none => some x
      | some y => if s.slotBefore n x y then some x else some y) none

/-- The channel may start a frame (R175, R191, R199). -/
def State.maySend (s : State) (n : Nat) : Bool :=
  let l := s.lane n
  l.ctl == .idle && l.conf != .busOff && !l.held && (s.opMode n == 0 || s.opMode n == 3)

/-- Master_Ref_Mark and its neighbours in a level 2 reference (R470); the byte positions are those of ISO 11898-4,
PRESUMED (log 21). -/
def State.refData (s : State) (n cc : Nat) : List Byte :=
  let ntu := (s.cycle.map (·.ntu)).getD 0
  if ((s.sched n).map (·.level)).getD 1 = 2 then
    let mark := if ntu = 0 then 0 else s.ns / ntu % 65536
    leBytes 1 (cc % 64) ++ leBytes 1 (b2n (s.tl n).disc) ++ leBytes 2 mark
  else leBytes 1 (cc % 64)

/-- SLOT_ARBITRATION: before a start-of-frame the channel chooses the frame it sends (R182). In a REFERENCE window it
is the reference loaded in the reference slot, whose Master_Ref_Mark is formed now (R763). -/
def State.slotArbitration (n : Nat) (s : State) : State :=
  let t := s.tl n
  if !s.maySend n then s
  else match t.refSlot with
    | some d =>
      if (t.current.map (·.win.type)) == some .reference then
        (s.upLane n fun l => { l with ctl := .transmitting, sofRaw := s.beacon.raw }).setTl n
          { t with refBusy := true, refLost := false, refDisc := t.disc, refSlot := some (s.refData n (byteAt d 0)) }
      else s
    | none =>
      match s.chooseSlot n with
      | none => s
      | some x => s.upLane n fun l =>
        { l with ctl := .transmitting, current := some x.index, sofRaw := s.beacon.raw }

/-- ARBITRATION_LOST: the channel becomes a receiver (R183, R184). A loss between two failures does not break the run of
R178. DESIGN CHOICE (log 81). -/
def State.arbitrationLost (n : Nat) (s : State) : State :=
  let l := s.lane n
  if l.ctl != .transmitting then s
  else
    let s := (s.setLane n { l.ackOther with ctl := .receiving, current := none }).countBus n 7
    let t := s.tl n
    if t.refBusy then s.setTl n { t with refBusy := false, refLost := true }
    else match l.current.bind l.slot with
      | some x => if s.singleShot n x then s.slotComplete n x.index outLostArb 0 else s
      | none => s

/-! ### Frames -/

/-- A frame that became valid for the receiver goes through stages 2 to 7 (R26). -/
def State.busPath (picks : List Nat) (n : Nat) (f : Frame) (sigValid : Bool) (s : State) : State :=
  (s.lineFrame picks (n / 10) f n sigValid none false 0 fun _ s => (true, s)).2

/-- A frame as channel `n` hands it on: its stamp, and the node and confidence that forensics found. -/
def Frame.arrived (f : Frame) (n stamp : Nat) (a : Nat × Nat) : Frame :=
  { f with flags := f.flags % 32, srcKind := srcBus, srcIndex := n, stamp := stamp, conf := a.2, node := a.1,
           route := 0xFFFF, seq := 0 }

/-- The signature a frame leaves: none with the sampler off, no d from a channel that acknowledges nothing (R136, R137,
Table 4-11). -/
def State.sampled (s : State) (n : Nat) (x : Sig) : Sig :=
  if s.sigcfg n 30 2 = 0 then ⟨none, none, none⟩
  else s.measured n (if s.opMode n = 2 then { x with d := none } else x)

/-- Forensics attribute a received frame, and it takes its path. -/
def State.busTaken (picks : List Nat) (n age : Nat) (sig : Sig) (f : Frame) (s : State) : State :=
  let (a, s) := s.forensics n sig
  s.busPath picks n (f.arrived n (s.stampAgo age (s.calEff (0x200 + n))) a) (!sig.parts.isEmpty)

/-- BUS_FRAME_RECEIVED: frame `f` became valid for channel `n` as receiver; its start-of-frame was `age` ns ago. -/
def State.busReceived (picks : List Nat) (n age : Nat) (sig : Sig) (f : Frame) (s : State) : State :=
  let l := s.lane n
  if !(l.ctl == .idle || l.ctl == .receiving) || s.opMode n == 3 || !s.formatOn n f.format
      || !lengthOk f.format f.flags f.dlc f.data.length then s
  else
    let s := s.frameEnds n age
    let s := ((s.upLane n fun l => { l.notAlone with ctl := .idle, sentLast := false }).countBus n 0).rxValid n
    let sig := s.sampled n sig
    let s := s.upLane n fun l => { l with sig := sig }
    s.busTaken picks n age sig f

/-- Transmitter delay compensation acts on the frame: the data bit time in sampler units, the offset and whether the
frame is XL (R132). -/
def State.tdcOf (s : State) (n : Nat) (f : Frame) : Option (Nat × Nat × Bool) :=
  let w := s.rd (busBase n + 0x10C)
  if f.format = fmtFd && nbit f.flags 2 && bit w 31 then some (4 * s.dataBit n 0x104, fld w 0 8, false)
  else if f.format = fmtXl && bit w 30 then some (4 * s.dataBit n 0x108, fld w 8 8, true)
  else none

/-- A transmitter delay of `v` sampler units is measured on frame `f` (R132). -/
def State.noteTdcv (n : Nat) (f : Frame) (v : Nat) (s : State) : State :=
  match s.tdcOf n f with
  | some (_, _, xl) =>
    if 255 < v then s
    else s.upLane n fun l => if xl then { l with xlTdcv := some v } else { l with fdTdcv := some v }
  | none => s

/-- A delay of `v` is out of range for frame `f` (R134). -/
def State.tdcBad (s : State) (n : Nat) (f : Frame) (v : Nat) : Bool :=
  match s.tdcOf n f with
  | some (bit, tdco, _) => 255 < v || 4 * bit ≤ v + tdco
  | none => false

/-! ### Errors -/

/-- A bit error met while an active error flag or an overload flag is sent: a dominant bit that was not seen (R221). -/
def State.flagBitError (n : Nat) (s : State) : State := (s.countBus n 2).upLane n fun l => { l with lec := 5 }

/-- One further rule of Table 5-5 after an error flag. -/
def State.extraRule (n : Nat) (tx : Bool) (r : Nat) (s : State) : State :=
  if r = 2 then (if tx then s else s.bumpRec n 8)
  else if r = 3 then (if tx then s else (s.flagBitError n).bumpRec n 8)
  else if r = 5 then (if tx then (s.flagBitError n).bumpTec n 8 else s)
  else if r = 6 then (if tx then s.bumpTec n 8 else s.bumpRec n 8)
  else s

/-- The counter changes of one error (R186, R190). -/
def State.errorRules (n : Nat) (tx : Bool) (e : BusFault) (s : State) : State :=
  let s :=
    if e.kind = 0 then s
    else if tx then
      if e.kind = 3 && e.noDominant && (s.lane n).conf == .passive || e.kind = 1 && e.arbStuff then s else s.bumpTec n 8
    else s.bumpRec n 1
  s.each e.extra (State.extraRule n tx)

/-- The clash rule (R206 to R209): ID_CLASH, the node table and the slot's clash run. The record names the other node;
SELF, the own attribution, is constant and takes no field. A reference message has no slot, and so no clash run; a
single-shot slot completes and is not parked. DESIGN CHOICE (log 81). -/
def State.idClash (n : Nat) (f : Frame) (slot : Option Nat) (e : BusFault) (s : State) : State :=
  let at_ := s.attribute n (s.measured n { e.sig with d := none })
  let k := slot.getD Config.refSlotIndex
  let id := f.clashIdent
  let s := s.upLane n fun l => { l with clashId := id, clashNode := at_.1 * 2 ^ 16 + at_.2 * 2 ^ 8 + k % 32 }
  let s := ((s.raise (.bus n) 5 (n + k % 256 * 2 ^ 8) id).countBus n 12).nodeClash at_.1 id
  match slot with
  | none => s
  | some k =>
    let s := s.upLane n (BusLane.upSlot k fun x => { x with clashRun := x.clashRun + 1 })
    match (s.lane n).slot k with
    | some x =>
      if s.clashLimit n ≠ 0 && s.clashLimit n ≤ x.clashRun && !x.parked && !s.singleShot n x then
        (s.upLane n (BusLane.upSlot k fun x => { x with parked := true })).raise (.bus n) 6 (n + k * 2 ^ 8) id
      else s
    | none => s

/-- What a failed transmission leaves of its slot (R178, R184, R196). Where the 16th failure of R178 is also the ACK
error that holds the channel (R199), or the clash that parks the slot (R210), the slot completes all the same; failures
met while error signalling was on count in that run. DESIGN CHOICE (log 81). In RESTRICTED and MONITOR the lonely rule
does not act (R175). -/
def State.txFailed (n : Nat) (slot : Option Nat) (ack : Bool) (s : State) : State :=
  let s := if !ack then s.upLane n BusLane.ackOther
    else if s.opMode n == 1 || s.opMode n == 2 then s else s.ackFailed n
  let s := s.setTl n { s.tl n with refBusy := false }
  match slot with
  | none => s
  | some k =>
    let s := s.upLane n (BusLane.upSlot k fun x => { x with fails := x.fails + 1 })
    match (s.lane n).slot k with
    | some x =>
      if s.singleShot n x then s.slotComplete n k (if ack then outAckError else outTxError) 0
      else if s.esOff n && 16 ≤ x.fails then s.slotComplete n k outTxError 0
      else s
    | none => s

/-- The state the channel is left in when the error frame has ended (R166, R173, R176). -/
def State.afterError (n : Nat) (s : State) : State :=
  let l := s.lane n
  if l.conf == .busOff then s
  else
    let on := !s.esOff n && (s.opMode n == 0 || s.opMode n == 3)
    s.setLane n { l with current := none, ctl := if on then .idle else .integrating }

/-- The channel takes part in traffic: an error can be detected. -/
def State.onLine (s : State) (n : Nat) : Bool :=
  let c := (s.lane n).ctl
  c == .idle || c == .receiving || c == .transmitting

/-- A reaction overload frame (R172), of a receiver or of the transmitter of the last frame. -/
def State.overload (n : Nat) (e : BusFault) (s : State) : State :=
  if !s.countsErrors n then s
  else
    let l := s.lane n
    let s := (s.countBus n 8).errorRules n (l.ctl == .transmitting || (l.ctl == .idle && l.sentLast)) e
    if (s.lane n).conf == .busOff then s
    else s.upLane n fun l => { l with ctl := if l.ctl == .transmitting then l.ctl else .idle }

/-- The signature that a frame failing as receiver leaves: d only of a form error, which alone can follow the ACK slot
of a receiver that has acknowledged (R137). -/
def State.failedSig (n : Nat) (e : BusFault) (s : State) : State :=
  let sig := s.sampled n (if e.kind = 2 then e.sig else { e.sig with d := none })
  s.upLane n fun l => { l with sig := sig }

/-- The transmitter delay met by a frame that fails: its measurement, and TDC_RANGE (R132, R134). The flag tells
whether it was out of range. -/
def State.failedTdc (n : Nat) (f : Option Frame) (e : BusFault) (s : State) : Bool × State :=
  match f with
  | none => (false, s)
  | some f =>
    let s := match e.tdcv with | some v => s.noteTdcv n f v | none => s
    if (s.tdcOf n f).isSome && (e.tdcRange || e.tdcv.any (s.tdcBad n f)) then
      (true, (s.cntF (busBase n + 0x130) 16 8).raise (.bus n) 10 n 0)
    else (false, s)

/-- The counters, code and signature an error leaves behind (Table 5-5, R196, R221). -/
def State.noteError (n : Nat) (tx : Bool) (e : BusFault) (s : State) : State :=
  let k := e.kind
  let s := s.countBus n (if k = 1 then 3 else if k = 2 then 4 else if k = 3 then 6 else if k = 6 then 5 else 2)
  let s := if s.esOff n then s.countBus n 10 else s
  let s := s.upLane n fun l => { l with lec := k, sentLast := tx }
  let s := if tx then s else s.failedSig n e
  if s.countsErrors n then s.errorRules n tx e else s

/-- A bit error of the transmitter of `f` in the window of R206, in NORMAL, is an identifier clash. -/
def State.errorClash (n : Nat) (f : Option Frame) (slot : Option Nat) (e : BusFault) (s : State) : State :=
  match f with
  | some f => if e.kind = 4 && e.clashWindow && s.opMode n == 0 then s.idClash n f slot e else s
  | none => s

/-- An error detected in a frame, up to the end of the error delimiter (R171 to R221). A TDC value out of range makes
the error that of R134, and no clash; the last error code is then 5, or 4 where the error reported is 4: R134 names
none. DESIGN CHOICE (log 98). -/
def State.frameError (n : Nat) (e : BusFault) (s : State) : State :=
  let tx := (s.lane n).ctl == .transmitting
  let f := if tx then s.sending n else none
  let slot := if (s.tl n).refBusy then none else (s.lane n).current
  let r := (s.frameEnds n e.age).failedTdc n f e
  let e := { e with kind := if r.1 && e.kind != 4 then 5 else e.kind, clashWindow := e.clashWindow && !r.1 }
  let s := (r.2.noteError n tx e).errorClash n f slot e
  (if tx then s.txFailed n slot (e.kind == 3) else s).afterError n

/-- BUS_ERROR: an error, or an overload frame. -/
def State.busError (n : Nat) (e : BusFault) (s : State) : State :=
  if !s.onLine n || 6 < e.kind then s
  else if e.kind = 0 then s.overload n e
  else s.frameError n e

/-- An error without further conditions. -/
def BusFault.plain (kind : Nat) (extra : List Nat) : BusFault :=
  ⟨kind, extra, false, false, false, false, none, 0, ⟨none, none, none⟩⟩

/-- The frame as it stands on the line. -/
def Frame.onWire (f : Frame) : Frame :=
  { f with flags := f.flags % 32, srcKind := 0, srcIndex := 0, stamp := 0, conf := 0, node := 0, route := 0, seq := 0 }

/-- The frame being sent became valid for the transmitter (R185); in LOOPBACK the channel receives it as well
(Table 5-3), attributed SELF also with learn OFF (R142, Table 4-11). DESIGN CHOICE (log 98). -/
def State.frameSentOn (picks : List Nat) (n age tdcv : Nat) (f : Frame) (s : State) : State :=
  let stamp := s.stampAgo age (s.calEff (0x200 + n))
  let loop := s.opMode n == 3
  let s := s.frameEnds n age
  let s := ((s.noteTdcv n f tdcv).upLane n fun l => { l.ackOther with ctl := .idle, sentLast := true }).countBus n 1
  let s := s.txValid n
  let s := if loop then s else s.emit (.busFrame n f.onWire)
  let s :=
    let t := s.tl n
    if t.refBusy then
      s.setTl n { t with refBusy := false, refSlot := none, disc := t.disc && !t.refDisc, refDisc := false }
    else match (s.lane n).current with
      | some k => s.slotComplete n k outSent stamp
      | none => s
  if loop then
    let s := s.countBus n 0
    s.busPath picks n { f with flags := f.flags % 32, srcKind := srcBus, srcIndex := n, stamp := stamp, conf := 0,
                               node := 0xFFFE, route := 0xFFFF, seq := 0 } false
  else s

/-- BUS_FRAME_SENT: the frame being sent reached its end; its start-of-frame was `age` ns ago, and its transmitter delay
`tdcv` sampler units (256 for none). A delay out of range has ended it as a bit error (R134). -/
def State.busSent (picks : List Nat) (n age tdcv : Nat) (s : State) : State :=
  match (if (s.lane n).ctl == .transmitting then s.sending n else none) with
  | none => s
  | some f =>
    if s.tdcBad n f tdcv then s.frameError n { BusFault.plain 5 [] with tdcRange := true, tdcv := some tdcv, age := age }
    else s.frameSentOn picks n age tdcv f

/-- TXD_TIMEOUT (R122, R179); `extra` are the further rules of Table 5-5 met after its error flag. -/
def State.txdTimeout (n : Nat) (extra : List Nat) (s : State) : State :=
  let s := (s.cntF (busBase n + 0x110) 8 8).raise (.bus n) 8 n 0
  if (s.lane n).ctl == .transmitting then s.busError n (BusFault.plain 5 extra) else s

/-- BUS_DOM (R123, R180). -/
def State.busDom (n : Nat) (s : State) : State := (s.cntF (busBase n + 0x110) 0 8).raise (.bus n) 9 n 0

/-- PROTOCOL_EXCEPTION: a disabled format or a recessive reserved bit while receiving (R171); with pex 0 a form error. -/
def State.protocolException (e : FormatError) (s : State) : State :=
  let n := e.chan
  if !s.onLine n then s
  else if s.rb (busBase n) 26 then
    (((s.upLane n fun l => { l with ctl := .integrating, lec := 7, current := none }).raise (.bus n) 7 n 0).countBus n 9)
  else s.busError n { BusFault.plain 2 e.extra with age := e.age, sig := e.sig }

/-- Every clash run of channel `n` returns to 0 (R208). -/
def State.clearClash (n : Nat) (s : State) : State :=
  s.upLane n fun l => { l with slots := l.slots.map fun x => { x with clashRun := 0 } }

end Sys2Proof.Machine
end

