-- ==== Sys2Proof/Machine/Cycle.lean ====
section
/-! DEFINITION. The cell cycle: the grid (R455, R456), placement and catch-up (R475), windows (R463 to R468, R477),
references (R469 to R474), triggers (R464), tasks (R479) and resynchronisation (R478). -/
namespace Sys2Proof.Machine

/-! ### The grid -/

/-- Nominal start of cycle `k`, in ns (R455). -/
def CycleCfg.nominal (c : CycleCfg) (k : Nat) : Nat := c.phase + k * c.period

/-- The cycle in force at `ns`, from the first on. -/
def CycleCfg.index (c : CycleCfg) (ns : Nat) : Nat := (ns - c.phase) / c.period

/-- The cycle in force at `ns`: −1 before the first nominal start. -/
def CycleCfg.inForce (c : CycleCfg) (ns : Nat) : Int := ((ns : Int) - c.phase) / c.period

/-- Basic cycle count of cycle `k`. -/
def CycleCfg.cc (c : CycleCfg) (k : Nat) : Nat := k % 2 ^ c.matrixLog2

/-- What returns to its start at each cell cycle, or at each whole millisecond without one: clash runs (R208) and the
events raised once in a cycle (R342, R359, R377, R406, R477, R491). -/
def State.newPeriod (s : State) : State :=
  let s := s.each (List.range 40) State.clearClash
  { s with
    gwLate := [], gwDown := [],
    ports := s.ports.mapv (fun _ => Port.reset) fun p =>
      { p with lateRaised := false, meters := p.meters.mapv (fun _ => Meter.empty) fun m => { m with raised := false } },
    ctxs := s.ctxs.mapv (fun _ => none) fun x => x.map fun x =>
      { x with failRaised := false, repeatRaised := false, skipRaised := false },
    timelines := s.timelines.mapv (fun _ => Timeline.stopped) fun x => { x with lateRaised := false } }

/-- A nominal start that Beacon time has reached takes effect once (R456, R458). -/
def State.gridCheck (s : State) : State :=
  match s.cycle with
  | none => s
  | some c =>
    if s.ns < c.phase || s.gridK == some (c.index s.ns) then s
    else { s.newPeriod with gridK := some (c.index s.ns) }

/-- BEACON_MILLISECOND: each whole millisecond of Beacon time while no cycle is loaded (R208). -/
def State.beaconMs (s : State) : State := if s.cycle.isSome then s else s.newPeriod

/-! ### Timelines -/

/-- Cluster of a timeline. -/
def tlCluster (t : Nat) : Nat := if t < 40 then t / 10 else (t - 40) / 8

/-- Counter `i` of CYC_TL[t]_CNT. -/
def State.countTl (t i : Nat) (s : State) : State := s.cnt (0xA408 + 0x20 * t + 4 * i)

/-- Updates timeline `t`. -/
def State.upTl (t : Nat) (f : Timeline → Timeline) (s : State) : State := s.setTl t (f (s.tl t))

/-- The timeline may run (R481). -/
def State.tlMayRun (s : State) (t : Nat) : Bool :=
  s.cycle.isSome && (s.sched t).isSome
    && (s.mode == .operational || s.mode == .degraded || s.mode == .reconfiguring)
    && !s.reconf (tlCluster t) && !(if t < 40 then (s.lane t).retired else (s.eng (t - 40)).retired)

/-- The timeline stops. -/
def Timeline.halt (x : Timeline) : Timeline :=
  { x with active := false, acting := false, synced := false, current := none, rest := [], notBefore := 0,
           exempt := false, refSeen := false, refMissed := false, refSlot := none, refBusy := false, refDisc := false,
           refLost := false, lateSeen := [], triggered := [], skipped := [], taskOpen := false }

/-- Stops the timelines that `p` names. -/
def State.stopTimelines (p : Nat → Bool) (s : State) : State :=
  s.each (s.timelines.keys.filter p) fun t s => s.setTl t (s.tl t).halt

/-- The channel runs as master: MASTER, or BACKUP after its takeover. -/
def State.isMaster (s : State) (t : Nat) : Bool :=
  match s.sched t with
  | some x => x.role == .master || (x.role == .backup && (s.tl t).acting)
  | none => false

/-- The timeline takes its starts from references. -/
def State.isFollower (s : State) (t : Nat) : Bool :=
  match s.sched t with
  | some x => (x.role == .follower || x.role == .backup) && !(s.tl t).acting
  | none => false

/-- The lane or engine of the timeline is out of service (R480). -/
def State.outage (s : State) (t : Nat) : Bool :=
  if t < 40 then (s.lane t).ctl == .quiet
  else !((s.eng (t - 40)).state == .running || (s.eng (t - 40)).state == .waiting)

/-- No reference is sent and no descriptor triggered on the channel (R468). -/
def State.blocked (s : State) (t : Nat) : Bool :=
  let l := s.lane t
  l.held || l.conf == .busOff || s.opMode t == 1 || s.opMode t == 2

/-! ### Placement (R475) -/

def Window.occurs (w : Window) (cc : Nat) : Bool := cc % 2 ^ w.repLog2 == w.baseCycle

def gapWindow (offset length : Nat) : Window := ⟨.gap, offset, length, 0xFFFF, 0, 0⟩

/-- Windows of a basic cycle in order, numbered. -/
def Schedule.inCycle (x : Schedule) (cc : Nat) : List (Nat × Window) :=
  (((x.windows.filter fun w => w.occurs cc).mergeSort fun a b => a.offset ≤ b.offset).zipIdx).map fun p => (p.2, p.1)

/-- Windows with the implicit gaps between and after them, as (index, window, length); a gap has index 0xFF. -/
def withGaps (period : Nat) : Nat → List (Nat × Window) → List (Nat × Window × Nat)
  | at_, [] => if at_ < period then [(0xFF, gapWindow at_ (period - at_), period - at_)] else []
  | at_, (i, w) :: ws =>
    (if at_ < w.offset then [(0xFF, gapWindow at_ (w.offset - at_), w.offset - at_)] else [])
      ++ (i, w, w.length) :: withGaps period (w.offset + w.length) ws

/-- Takes `x` from the segments of a kind, first to last of the given list: the list and what is left of `x`. -/
def takeFrom (ty : WinType) : Nat → List (Nat × Window × Nat) → List (Nat × Window × Nat) × Nat
  | x, [] => ([], x)
  | x, (i, w, len) :: ws =>
    let d := if w.type = ty then min x len else 0
    let (r, left) := takeFrom ty (x - d) ws
    ((i, w, len - d) :: r, left)

/-- The segments with `x` taken from gaps and then from arbitration windows, latest first. -/
def shrink (x : Nat) (segs : List (Nat × Window × Nat)) : List (Nat × Window × Nat) :=
  let (a, left) := takeFrom .gap x segs.reverse
  (takeFrom .arbitration left a).1.reverse

/-- Total length that can shrink. -/
def shrinkable (segs : List (Nat × Window × Nat)) : Nat :=
  ((segs.filter fun e => e.2.1.type == .gap || e.2.1.type == .arbitration).map (·.2.2)).sum

/-- The segments laid back to back from `a`. -/
def layFrom : Nat → List (Nat × Window × Nat) → List Placed
  | _, [] => []
  | a, (i, w, len) :: ws => ⟨i, w, a, a + len⟩ :: layFrom (a + len) ws

/-- The windows of cycle `k` placed from `a`: a master or engine timeline catches up, a follower does not. -/
def State.placeCycle (s : State) (t k a : Nat) (catchUp : Bool) : List Placed :=
  match s.cycle, s.sched t with
  | some c, some x =>
    let segs := withGaps c.period 0 (x.inCycle (c.cc k))
    let phi := a - c.nominal k
    let d := if catchUp then min phi (min (c.period * c.catchup / 100) (shrinkable segs)) else 0
    layFrom a (shrink d segs)
  | _, _ => []

/-- Moves windows by `d` ns. -/
def Placed.move (d : Nat) (w : Placed) : Placed := { w with start := w.start + d, stop := w.stop + d }

/-! ### Lateness (R477) -/

/-- Counts window `w` of timeline `t` late, once; implicit gaps are never late. -/
def State.countLate (t : Nat) (w : Placed) (s : State) : State :=
  let x := s.tl t
  let s := s.countTl t 0
  if x.lateRaised then s
  else
    let cc := match s.cycle with | some c => c.cc x.k | none => 0
    (s.setTl t { x with lateRaised := true }).raise .cyc 0 t (w.index % 256 * 2 ^ 8 + cc)

/-- Judges the window in progress at a moment against its nominal one. -/
def State.judgeLate (t : Nat) (atEnd : Bool) (moment : Nat) (s : State) : State :=
  let x := s.tl t
  match s.cycle, x.current with
  | some c, some w =>
    let nominal := c.nominal x.k + w.win.offset + (if atEnd then w.win.length else 0)
    if x.lateSeen.contains w.index || w.index = 0xFF || x.exempt || moment ≤ nominal then s
    else (s.setTl t { x with lateSeen := w.index :: x.lateSeen }).countLate t w
  | _, _ => s

/-! ### Windows -/

/-- Releases task `n` on engine `g` (R479, R516). -/
def State.taskRelease (g n : Nat) (s : State) : State := s.privArrive g (32 + n % 16)

/-- A window that falls in an outage counts in tt_skipped, once (R480). -/
def State.skipWindow (t : Nat) (w : Placed) (s : State) : State :=
  if s.outage t && w.index ≠ 0xFF && !(s.tl t).skipped.contains w.index then s.countTl t 3 else s

/-- What a window does as it starts (R468, R479, R480, R763). -/
def State.windowEffect (t : Nat) (w : Placed) (s : State) : State :=
  let s := s.skipWindow t w
  match w.win.type with
  | .reference =>
    let s := s.upTl t fun x => { x with refSeen := false, refLost := false }
    if !s.isMaster t then s
    else if s.outage t || s.blocked t then s.countTl t 1
    else
      let cc := match s.cycle with | some c => c.cc (s.tl t).k | none => 0
      s.upTl t fun x => { x with refSlot := some (s.refData t cc) }
  | .task =>
    if s.outage t then s
    else (s.upTl t fun x => { x with taskOpen := true }).taskRelease (t - 40) w.win.ref
  | _ => s

/-- A moment that is due at `due` ns and has come: `due` itself at its island edge, and else the present (R30, R31). -/
def State.dueAt (s : State) (due : Nat) : Nat := if s.ns < due + 7 then due else s.ns

/-- The window starts at `a`; every later window of the cycle moves by the delay. -/
def State.beginWindow (t a : Nat) (w : Placed) (rest : List Placed) (s : State) : State :=
  let d := a - w.start
  let s := s.upTl t fun x => { x with current := some (w.move d), rest := rest.map (Placed.move d), taskOpen := false }
  (s.judgeLate t false a).windowEffect t w

/-- A fixed window of a bus must wait for bus idle (R467). -/
def State.busBusy (s : State) (t : Nat) : Bool :=
  t < 40 && (match (s.lane t).ctl with
    | .integrating | .receiving | .transmitting | .errorFlag => true
    | _ => false)

def Placed.fixed (w : Placed) : Bool := w.win.type != .gap && w.win.type != .arbitration

/-- WINDOW_START: the next window of the cycle starts, not before its placed start (R31, R475, R476). -/
def State.windowStart (t : Nat) (s : State) : State :=
  let x := s.tl t
  match x.active, x.current, x.rest with
  | true, none, w :: rest =>
    if s.ns < w.start || (w.fixed && s.busBusy t) then s
    else s.beginWindow t (if w.fixed then s.dueAt w.start else w.start) w rest
  | _, _, _ => s

/-- The window in progress is over at `moment` (R472, R475, R477, R763). -/
def State.endWindow (t moment : Nat) (w : Placed) (s : State) : State :=
  let s := s.judgeLate t true moment
  let d := moment - w.stop
  let s := s.upTl t fun x =>
    { x with current := none, rest := x.rest.map (Placed.move d), notBefore := moment, taskOpen := false }
  if w.win.type != .reference then s
  else
    let x := s.tl t
    if s.isMaster t then
      if x.refSlot.isSome then (s.setTl t { x with refSlot := none }).countTl t 1 else s
    else if x.refSeen then s
    else ((s.setTl t { x with synced := false, refMissed := true }).raise .cyc 1 t 0).countTl t 2

/-- Something of the module or of the line keeps the window open (R475). -/
def State.windowHeld (s : State) (t : Nat) : Bool :=
  if t < 40 then
    match (s.lane t).ctl with
    | .receiving | .transmitting | .errorFlag => true
    | _ => false
  else (s.tl t).taskOpen && !s.outage t

/-- WINDOW_END: the window in progress ends, not before its placed end (R475). -/
def State.windowEnd (t : Nat) (s : State) : State :=
  let x := s.tl t
  match x.active, x.current with
  | true, some w => if s.ns < w.stop || s.windowHeld t then s else s.endWindow t (s.dueAt w.stop) w
  | _, _ => s

/-- TASK_DONE of task `n` on engine `g` ends its window if that is open and its placed end has come; else the window ends
there (R475, R516). -/
def State.taskDone (g n : Nat) (s : State) : State :=
  let x := s.tl (40 + g)
  match x.current with
  | some w =>
    if w.win.type == .task && w.win.ref == n && x.taskOpen then
      let s := s.setTl (40 + g) { x with taskOpen := false }
      if s.ns < w.stop then s else s.endWindow (40 + g) (s.dueAt w.stop) w
    else s
  | none => s

/-! ### Cycle starts -/

/-- What a timeline keeps of the cycle it is in as a reference places cycle `k` anew: each of its windows is triggered,
skipped and counted late once. -/
def Timeline.sameCycle (k : Nat) (x : Timeline) : Timeline :=
  if x.active && x.k == k then x else { x with triggered := [], skipped := [], lateSeen := [] }

/-- Cycle `k` starts at `a` with phase `phi`; the first window begins with it, unless the bus is not idle (R467). A
reference that `a` is the start-of-frame of begins it all the same. -/
def State.startCycle (t k a : Nat) (phi : Int) (catchUp ref : Bool) (s : State) : State :=
  let ws := s.placeCycle t k a catchUp
  let s := s.upTl t fun x =>
    { x.sameCycle k with active := true, k := k, start := a, phase := phi, current := none, rest := ws, notBefore := 0,
                         exempt := false }
  match ws with
  | [] => s
  | w :: rest => if !ref && w.fixed && s.busBusy t then s else s.beginWindow t w.start w rest

/-- The cycle whose nominal start is the present island edge. -/
def State.nominalNow (s : State) (c : CycleCfg) : Option Nat :=
  let k := c.index s.ns
  if c.phase ≤ s.ns && s.ns < c.nominal k + 7 then some k else none

/-- CYCLE_START of timeline `t` (R458, R475, R478, R481): the first cycle after a stop, and the next one after a
resynchronisation, start at a nominal start with phase error zero; any other starts when the previous cycle's last window
has ended, and a follower's at the nominal start plus its last phase (R472). None starts before its moment (R31). -/
def State.cycleStart (t : Nat) (s : State) : State :=
  let s := s.gridCheck
  let x := s.tl t
  match s.cycle with
  | none => s
  | some c =>
    if !s.tlMayRun t then s
    else if !x.active then
      match s.nominalNow c with
      | some k => s.startCycle t k (c.nominal k) 0 false false
      | none => s
    else if x.current.isSome || !x.rest.isEmpty then s
    else if x.exempt then
      match s.nominalNow c with
      | some k => if c.nominal k < x.notBefore then s else s.startCycle t k (c.nominal k) 0 false false
      | none => s
    else if s.isFollower t then
      let k := x.k + 1
      let a := ((c.nominal k : Int) + x.phase).toNat
      if s.ns < a then s else s.startCycle t k a x.phase false false
    else if s.isMaster t && s.busBusy t then s
    else
      let k := x.k + 1
      let due := max x.notBefore (c.nominal k)
      let a := s.dueAt due
      if s.ns < due then s else s.startCycle t k a (a - c.nominal k : Nat) true false

/-! ### References -/

/-- A trigger that is not made counts in tt_skipped. -/
def State.skipTrigger (t i : Nat) (s : State) : State :=
  (s.countTl t 3).upTl t fun x => { x with skipped := i :: x.skipped }

/-- A spare slice is taking channel `n` over (R468). -/
def State.takenOver (s : State) (n : Nat) : Bool :=
  let x := s.spareSlice (n / 10)
  x.state == .readying && x.lane == some (n % 10)

/-- EXCLUSIVE_TRIGGER: 2 µs before window `i` of timeline `t` its descriptor is triggered (R464, R468, R472, R480). A
trigger for a lane held quiet counts as R249 has it; during a takeover none is made. -/
def State.exclusiveTrigger (t i : Nat) (s : State) : State :=
  let x := s.tl t
  match x.rest.find? fun w => w.index == i && w.win.type == .exclusive with
  | none => s
  | some w =>
    if !x.active || x.triggered.contains i || w.win.ref = 0xFFFF || s.ns + 2000 < w.start then s
    else
      let s := s.setTl t { x with triggered := i :: x.triggered }
      if (s.desc w.win.ref).state == .empty then s.skipTrigger t i
      else if s.takenOver t || (!s.outage t && (s.blocked t || (s.isFollower t && x.refMissed))) then s.skipTrigger t i
      else if s.outage t then (s.triggerStatic w.win.ref).2.skipTrigger t i
      else
        let (ok, s) := s.triggerStatic w.win.ref
        if !ok then s
        else s.setDesc w.win.ref { s.desc w.win.ref with
          job := { TxJob.none with launch := some (w.start * 2 ^ 16), window := some w.win } }

/-- The phase of a follower at a reference (R471). -/
def State.followPhase (t : Nat) (phi : Int) (s : State) : State :=
  let x := s.tl t
  let tol := ((s.sched t).map (·.followTol)).getD 0
  if phi.natAbs ≤ tol then s.setTl t { x with synced := true }
  else if x.synced then (s.setTl t { x with synced := false }).raise .cyc 2 t 0
  else s

/-- The channel returns to follower operation (R473); a reference it has not sent is unloaded and counts in
ref_not_sent. DESIGN CHOICE (log 87). -/
def State.toFollower (n : Nat) (s : State) : State :=
  let t := s.tl n
  let s := s.setTl n { t with acting := false, synced := false, refSlot := none, refBusy := false }
  if t.refSlot.isSome then s.countTl n 1 else s

/-- Start-of-frame stamp, in ns, of a frame of channel `n` that began `age` ns ago (Table 11-1). -/
def State.sofNs (s : State) (n age : Nat) : Nat := nsOfStamp (s.stampAgo age (s.calEff (0x200 + n)))

/-- The channel's reference lost arbitration to a frame whose start-of-frame was `age` ns ago: within a bit of its own
attempt's. DESIGN CHOICE (log 87). -/
def State.lostTo (s : State) (n age : Nat) : Bool :=
  let sof : Int := (s.beacon.raw : Int) - (age * 2 ^ 16 : Nat)
  (s.tl n).refLost && (sof - (s.lane n).sofRaw).natAbs ≤ s.nominalBit n * 409600

/-- REFERENCE_RECEIVED: a valid data frame with base identifier `ident`, whose start-of-frame was `age` ns ago
(R471, R473, R474). -/
def State.referenceReceived (n ident age : Nat) (s : State) : State :=
  match s.cycle, s.sched n with
  | some c, some x =>
    let t := s.tl n
    if !s.tlMayRun n || !t.active || x.role == .none || ident / 8 ≠ x.refId / 8 then s
    else
      let sof := s.sofNs n age
      let s := if t.acting && ident < x.refId then s.toFollower n else s
      if s.isFollower n then
        let k := (sof + c.period / 2 - c.phase) / c.period
        let phi : Int := (sof : Int) - c.nominal k
        let s := s.startCycle n k sof phi false true
        (s.upTl n fun t => { t with refSeen := true, refMissed := false }).followPhase n phi
      else if t.active && s.lostTo n age then
        let s := ((s.upTl n fun t => { t with refLost := false }).raise .cyc 3 n 0).countTl n 5
        let phi := sof - c.nominal t.k
        let ws := s.placeCycle n t.k sof true
        s.upTl n fun t => { t with start := sof, phase := phi, rest := ws.drop 1,
                                   current := ws.head? }
      else s
  | _, _ => s

/-- BACKUP_TAKEOVER: no reference by s_k + backup_delay (R473). -/
def State.backupTakeover (n : Nat) (s : State) : State :=
  match s.cycle, s.sched n with
  | some c, some x =>
    let t := s.tl n
    if !t.active || x.role != .backup || t.acting || t.refSeen || s.ns < c.nominal t.k + x.backupDelay then s
    else
      let s := (s.upTl n fun t => { t with acting := true }).raise .cyc 4 n 0
      s.startCycle n t.k (c.nominal t.k + x.backupDelay) x.backupDelay true false
  | _, _ => s

/-! ### Resynchronisation (R478) -/

/-- The timeline after Beacon has stepped by `d` ns. -/
def Timeline.resync (d : Int) (x : Timeline) (now : Nat) : Timeline :=
  let cur := x.current.map fun (w : Placed) =>
    { w with start := ((w.start : Int) + d).toNat, stop := ((w.stop : Int) + d).toNat }
  let from_ := match cur with | some w => w.stop | none => now
  let rest := layFrom from_ ((x.rest.filter Placed.fixed).map fun w => (w.index, w.win, w.win.length))
  { x with current := cur, rest := rest, notBefore := (rest.getLast?.map (·.stop)).getD from_, exempt := true,
           disc := true, refDisc := false }

/-- Every timeline resynchronises after a step of `d` ns and counts it; CYC_RESYNC is raised once while a cycle is
loaded. Its record carries the first timeline, or 0 where there is none. DESIGN CHOICE (log 88). -/
def State.resyncAll (d : Int) (s : State) : State :=
  if s.cycle.isNone then s
  else
    let ts := (s.scheds.filter fun e => e.2.isSome).map (·.1)
    let s := s.each ts fun t s =>
      (s.upTl t fun x => if x.active then x.resync d s.ns else { x with disc := true }).countTl t 4
    s.raise .cyc 5 (ts.head?.getD 0) 0

end Sys2Proof.Machine
end

