-- ==== Sys2Proof/Machine/Beacon.lean ====
section
/-! DEFINITION. The Beacon time base: rate and steps (R414, R415), readings (R417), the servo (R424 to R433), PTP
ports and their messages (R434 to R439), stamp queues (R443), path delay (R444 to R446) and the cell pins (R448 to
R451). -/
namespace Sys2Proof.Machine

/-- Updates the Beacon island. -/
def State.upBcn (f : Beacon → Beacon) (s : State) : State := { s with beacon := f s.beacon }

/-- Updates port `p`'s Beacon state. -/
def State.upBport (p : Nat) (f : BcnPort → BcnPort) (s : State) : State := s.setBport p (f (s.bport p))

/-! ### Rate, steps and readings -/

/-- The anchor set is about to be replaced on this edge. -/
def Beacon.keepAnchor (b : Beacon) : Beacon := { b with past := (⟨b.raw, b.aRaw, b.aT, b.corr⟩ :: b.past).take 8 }

/-- A change of corr: T is continuous across it (R414). -/
def Beacon.setCorr (corr : Int) (b : Beacon) : Beacon :=
  { b.keepAnchor with aT := b.timeAt b.raw, aRaw := b.raw, corr := corr }

/-- corr and the integral both change. -/
def Beacon.setRate (corr integ : Int) (b : Beacon) : Beacon := { b.setCorr corr with integ := integ }

/-- What software has written on the present edge; nothing, as the registers stand, if it has not. -/
def Beacon.onEdge (b : Beacon) : EdgeWrite :=
  match b.written with
  | some w => if w.edge = b.raw then w else ⟨b.raw, none, b.corr, b.integ, 0⟩
  | none => ⟨b.raw, none, b.corr, b.integ, 0⟩

/-- The integral that a servo update finds: on an edge that software writes BCN_RATE on, the one before it (R422). -/
def Beacon.integral (b : Beacon) : Int := if b.onEdge.rate.isSome then b.onEdge.integ else b.integ

/-- A servo update of corr and the integral. A software write on the same edge follows it (R422). -/
def Beacon.servoCorr (corr integ : Int) (b : Beacon) : Beacon :=
  match b.onEdge.rate with
  | some v => (b.setRate corr integ).setRate v v
  | none => b.setRate corr integ

/-- Counter `i` of BCN_CNT. -/
def State.countBcn (i : Nat) (s : State) : State := s.cnt (0x8060 + 4 * i)

/-! ### Output pins (R448 to R450) -/

/-- One edge of Beacon's island in the raw counter (R412). -/
def rawEdge : Nat := 409600

/-- Twice Beacon time halfway to the next island edge: an edge is the nearest to every time it has reached there. -/
def Beacon.half2 (b : Beacon) : Nat := (b.timeAt b.raw + b.timeAt (b.raw + rawEdge)).toNat

/-- The second whose nearest island edge has come. -/
def Beacon.second (b : Beacon) : Nat := b.half2 / (2 * 10 ^ 9 * 2 ^ 16)

/-- The outputs run (R450). -/
def State.outputsRun (s : State) : Bool := s.beacon.running && (!s.rb 0x8020 20 || s.beacon.state == .locked)

/-- CELL_PPS_OUT rises if a second it has not marked has come (R448). -/
def State.ppsOut (s : State) : State :=
  if s.rb 0x8020 22 && s.outputsRun && s.beacon.ppsNext ≤ s.beacon.second then
    (s.upBcn fun b => { b with ppsNext := b.second + 1,
                               ppsUntil := some (b.raw + s.rf 0x8020 0 10 * 10 ^ 6 * 2 ^ 16) }).emit (.pin 0 true)
  else s

/-- CELL_PPS_OUT falls when its pulse has lasted, or at once when the outputs stop (R448, R450). -/
def State.ppsFall (s : State) : State :=
  match s.beacon.ppsUntil with
  | none => s
  | some u =>
    if s.beacon.raw < u ∧ s.rb 0x8020 22 ∧ s.outputsRun then s
    else (s.upBcn fun b => { b with ppsUntil := none }).emit (.pin 0 false)

/-- CELL_SYNC_OUT follows Beacon time: high for the first half of each 100 ns (R449). -/
def State.syncOut (s : State) : State :=
  let level := s.rb 0x8020 21 && s.outputsRun && decide (s.beacon.half2 % (200 * 2 ^ 16) < 100 * 2 ^ 16)
  if level == s.beacon.syncHigh then s else (s.upBcn fun b => { b with syncHigh := level }).emit (.pin 1 level)

/-- A step of `u` units of 2^-16 ns (R415): a second it passes is marked at the step edge and CELL_SYNC_OUT re-aligns
(R448, R449); the timelines resynchronise (R478). -/
def State.stepUnits (u : Int) (s : State) : State :=
  let s := (s.upBcn fun b => { b.keepAnchor with aT := b.aT + u }).countBcn 0
  (if 0 < u then s.ppsOut else s).syncOut.resyncAll (u / 2 ^ 16)

/-- The value a reading returns, in 2^-16 ns, and the state after it (R417). -/
def State.reading (s : State) : Nat × State :=
  let v := if s.mode == .test then s.time else max s.time s.beacon.floor
  (v, s.upBcn fun b => { b with floor := v + 1 })

/-- Source selected in BCN_CFG (Table 11-2). -/
def State.bcnSource (s : State) : Nat := s.rf 0x8020 29 3

/-- src_port of BCN_CFG. -/
def State.srcPort (s : State) : Nat := s.rf 0x8020 24 5

/-- The state that waits for a first measurement. -/
def waitState (source : Nat) : Servo := if source = 0 then .free else .acquire

/-- Beacon restarts (R419); its outputs start low, and what counts from its raw counter starts again with it. -/
def State.beaconRestart (s : State) : State :=
  let s := (s.upBcn fun b => { b with running := false }).ppsFall.syncOut
  let s := s.each (List.range 24) fun p s => s.upPort p fun x => { x with wakeUntil := 0 }
  s.upBcn fun b => { b with running := true, raw := 0, aRaw := 0, aT := 0, corr := 0, integ := 0, floor := 0,
                            state := waitState s.bcnSource, stepAvail := true, refusing := false, clamped := false,
                            ppsLast := none, ppsMissed := 0, ppsNext := 0, past := [], written := none }

/-- RESTEP (R432). -/
def State.restep (s : State) : State :=
  s.upBcn fun b => { b with stepAvail := true, state := waitState s.bcnSource }

/-- A write of BCN_CFG that selects another source, or another source port under PTP, starts ACQUIRE or FREE
(R426). -/
def State.bcnCfg (w : Word) (s : State) : State :=
  let changed := fld w 29 3 ≠ s.bcnSource ∨ (fld w 29 3 = 1 ∧ fld w 24 5 ≠ s.srcPort)
  let s := s.wr 0x8020 w
  if changed then s.upBcn fun b => { b with state := waitState s.bcnSource, ppsLast := none, ppsMissed := 0 } else s

/-- BCN_RATE: corr and the integral take the written value (R420). -/
def State.bcnRate (corr : Int) (s : State) : State :=
  s.upBcn fun b =>
    let w := b.onEdge
    let w := { w with rate := some corr, corr := if w.rate.isSome then w.corr else b.corr, integ := b.integral }
    { b.setRate corr corr with written := some w }

/-- BCN_ADJ: a step of `ns` nanoseconds (R421). A servo update of its edge, which comes first (R422), does not find it in
its stamps. -/
def State.bcnAdj (ns : Int) (s : State) : State :=
  (s.upBcn fun b => { b with written := some { b.onEdge with steps := b.onEdge.steps + ns * 2 ^ 16 } }).stepUnits
    (ns * 2 ^ 16)

/-- T at the edge of a measurement `age` ns ago: without the steps that software has written on the present edge
(R422). -/
def State.measuredAt (s : State) (age : Nat) : Int :=
  s.timeAgo age - if age = 0 then s.beacon.onEdge.steps else 0

/-! ### The servo (R428 to R433) -/

/-- An offset in BCN_OFFSET and BCN_JUMP: signed nanoseconds, saturating (Table 11-14). -/
def offsetWord (o : Int) : Nat := ofSigned 32 (satInt (2 ^ 31 - 1) (o / 2 ^ 16))

/-- e of R430 for an offset in 2^-16 ns and an interval of 2^log s. -/
def servoError (o log : Int) : Int :=
  o * (2 ^ 32 * 2 ^ (-log).toNat : Nat) / (10 ^ 9 * 2 ^ log.toNat : Nat)

/-- An applied measurement (R430, R431). `freq` is the frequency error PPS_SYNC has measured, which the integral takes
before the update (R427). -/
def State.servoApply (o log : Int) (freq : Option Int) (s : State) : State :=
  let e := servoError o log
  let b := s.beacon
  let i0 := (freq.map (satInt (2 ^ 37))).getD b.integral - e / (2 ^ s.rf 0x8028 0 4 : Nat)
  let i := satInt (2 ^ 37) i0
  let c0 := i - e / (2 ^ s.rf 0x8028 4 4 : Nat)
  let c := satInt (2 ^ 37) c0
  let hit := i != i0 || c != c0
  let s := (s.upBcn fun b => { b.servoCorr c i with clamped := hit }).countBcn 6
  if hit && !b.clamped then (s.countBcn 4).raise .bcn 5 0 0 else s

/-- A measurement is refused or applied (R429). -/
def State.servoJudge (o log : Int) (freq : Option Int) (s : State) : State :=
  let thr := s.rf 0x8024 0 30
  if thr ≠ 0 ∧ thr * 2 ^ 16 < o.natAbs then
    let s := (s.wr 0x8048 (wd (offsetWord o))).countBcn 1
    if s.beacon.refusing then s
    else (s.upBcn fun b => { b with refusing := true }).raise .bcn 2 0 (offsetWord o)
  else (s.upBcn fun b => { b with refusing := false }).servoApply o log freq

/-- The first lock (R428): `pps` is the step that PPS and PPS_SYNC make, in ns. -/
def State.firstLock (o : Int) (pps : Option Nat) (s : State) : State :=
  let s := match pps with
    | some n => (s.stepUnits (n * 2 ^ 16 : Nat)).raise .bcn 1 0 n
    | none =>
      if o < 0 then (s.stepUnits (-o)).raise .bcn 1 0 (min ((-o) / 2 ^ 16).toNat (2 ^ 32 - 1)) else s
  (s.upBcn fun b => { b with stepAvail := false, state := .locked }).raise .bcn 0 0 0

/-- A measurement of offset `o` (2^-16 ns) over 2^log s (R427 to R429). -/
def State.measure (o log : Int) (pps : Option Nat) (freq : Option Int) (s : State) : State :=
  let s := s.wr 0x8044 (wd (offsetWord o))
  let locked := s.upBcn fun b => { b with state := .locked }
  match s.beacon.state with
  | .free => s
  | .acquire => if s.beacon.stepAvail then s.firstLock o pps else locked.servoJudge o log freq
  | .locked => s.servoJudge o log freq
  | .holdover => locked.servoJudge o log freq

/-- The source is lost (R433). -/
def State.sourceLost (s : State) : State :=
  if s.beacon.state != .locked then s
  else ((s.upBcn fun b => { b.servoCorr b.integral b.integral with state := .holdover }).countBcn 2).raise .bcn 3 0 0

/-! ### PTP ports -/

def State.bcnRole (s : State) (p : Nat) : Nat := s.rf (0x8400 + 0x40 * p) 30 2
def State.bcnProfile (s : State) (p : Nat) : Nat := s.rf (0x8400 + 0x40 * p) 28 2
def State.bcnOneStep (s : State) (p : Nat) : Bool := s.rb (0x8400 + 0x40 * p) 27
def State.bcnDomain (s : State) (p : Nat) : Nat := s.rf (0x8400 + 0x40 * p) 16 8

def roleSlave : Nat := 1
def roleMaster : Nat := 2

/-- Port `p` is the PTP source. -/
def State.isSource (s : State) (p : Nat) : Bool := s.bcnSource == 1 && s.srcPort == p && s.bcnRole p == roleSlave

/-- The port uses the peer-to-peer mechanism (Table 11-4). -/
def State.peerDelay (s : State) (p : Nat) : Bool := s.bcnRole p != 0 && s.bcnProfile p != 1

/-- Ingress stamp of a message whose timestamp point was `age` ns ago, in ns (Table 11-1). -/
def State.ingressNs (s : State) (p age : Nat) : Nat :=
  nsOfStamp (stampOfNs ((s.measuredAt age - s.calEff (0x300 + 8 * p + s.portSpeed p) * 2 ^ 8).toNat / 2 ^ 16))

/-- Ends a hold-off (R446). -/
def State.holdoffEnd (p : Nat) (s : State) : State :=
  s.upBport p fun x =>
    if x.hold then { x with hold := false, holdLeft := 0, delay := x.latest, corrAt := s.beacon.corr,
                            integAt := s.beacon.integ }
    else x

/-- What hold_left of port `p` falls by one with, in raw counts: a Sync interval of the source, or a second (R446). -/
def State.holdStep (s : State) (p : Nat) : Nat :=
  let second := 10 ^ 9 * 2 ^ 16
  let log := (s.bport p).syncLog
  if s.isSource p then second * 2 ^ log.toNat / 2 ^ (-log).toNat else second

/-- An island edge of a hold-off: hold_left falls as each interval from its start has passed (R446), in resonator time.
DESIGN CHOICE (log 80). -/
def State.holdTick (p : Nat) (s : State) : State :=
  let x := s.bport p
  if !x.hold || s.beacon.raw < x.holdNext then s
  else if x.holdLeft ≤ 1 then s.holdoffEnd p
  else s.setBport p { x with holdLeft := x.holdLeft - 1, holdNext := x.holdNext + s.holdStep p }

/-- A completed Sync: offset of R427 from ingress `t2` ns, origin `t1` and corrections `c` in 2^-16 ns. -/
def State.syncMeasure (p t2 : Nat) (t1 c log : Int) (s : State) : State :=
  let x := s.bport p
  if !x.dValid then s
  else
    let o := (t2 * 2 ^ 16 : Nat) - t1 - (x.delay * 2 ^ 8 : Nat) - c - s.calEff (0x500 + p) * 2 ^ 8
    if x.hold then s.wr 0x8044 (wd (offsetWord o)) else s.measure o log none none

/-- A Sync on port `p` (R427, R436): one-step it is a measurement, two-step it waits for its Follow_Up. Origin time in
ns, correctionField in 2^-16 ns. -/
def State.ptpSync (p domain seq : Nat) (twoStep : Bool) (origin : Nat) (correction log : Int) (age : Nat) (s : State) :
    State :=
  if !s.isSource p || domain ≠ s.bcnDomain p then s
  else
    let t2 := s.ingressNs p age
    if twoStep then
      s.upBport p fun x => { x with sync := some ⟨t2, correction, seq, log⟩, syncLog := log }
    else (s.upBport p fun x => { x with sync := none, syncLog := log }).syncMeasure p t2 (origin * 2 ^ 16 : Nat) correction log

/-- A Follow_Up completes the Sync of its sequence number; its TLV is what the module's masters carry on (R438). -/
def State.ptpFollowUp (p domain seq origin : Nat) (correction : Int) (tlv : List Byte) (s : State) : State :=
  if !s.isSource p || domain ≠ s.bcnDomain p then s
  else match (s.bport p).sync with
    | none => s
    | some w =>
      if w.seq ≠ seq then s
      else
        let s := if tlv.isEmpty then s else s.upBcn fun b => { b with tlv := tlv }
        (s.upBport p fun x => { x with sync := none }).syncMeasure p w.t2 (origin * 2 ^ 16 : Nat)
          (w.corrField + correction) w.logInterval

/-- A mean path delay measurement `m`, in 1/256 ns (R444, R445). -/
def State.pathDelay (p m : Nat) (s : State) : State :=
  let x := s.bport p
  let b := s.beacon
  let keep (d : Nat) : State :=
    s.setBport p { x with delay := d, dValid := true, latest := m, corrAt := b.corr, integAt := b.integ }
  if !x.dValid then keep m
  else if x.hold then s.setBport p { x with latest := m }
  else
    let d : Int := (m : Int) - x.delay
    if d.natAbs ≤ s.rf (0x8404 + 0x40 * p) 0 16 * 256 then keep ((x.delay : Int) + d.tdiv 8).toNat
    else
      let s := (s.setBport p { x with hold := true, holdLeft := s.rf (0x8404 + 0x40 * p) 16 8, latest := m,
                                      holdNext := b.raw + s.holdStep p }).countBcn 3
      let s := s.raise .bcn 4 p 0
      if s.isSource p then s.upBcn (Beacon.servoCorr x.corrAt x.integAt) else s

/-- A completed Pdelay exchange. -/
def State.pdelayResp (p domain m : Nat) (s : State) : State :=
  if s.peerDelay p && domain == s.bcnDomain p then s.pathDelay p m else s

/-- A Delay_Resp completes a delay request-response measurement. -/
def State.delayResp (p domain m : Nat) (s : State) : State :=
  if s.bcnRole p == roleSlave && s.bcnProfile p == 1 && domain == s.bcnDomain p then s.pathDelay p m else s

/-! ### Messages sent (R434, R437 to R439; byte layouts of IEEE 1588 and IEEE 802.1AS) -/

/-- `n` in `k` bytes, most significant first. -/
def beBytes (k n : Nat) : List Byte := (leBytes k n).reverse

/-- PTP messages Beacon sends. -/
def msgSync : Nat := 0
def msgDelayReq : Nat := 1
def msgPdelayReq : Nat := 2
def msgPdelayResp : Nat := 3
def msgFollowUp : Nat := 8
def msgDelayResp : Nat := 9
def msgPdelayRespFollowUp : Nat := 10

/-- Port identity: clockIdentity from E0's address as an EUI-64, and the port number. -/
def State.portIdentity (s : State) (p : Nat) : List Byte :=
  let a := s.macAddr 0
  a.take 3 ++ leBytes 2 0xFEFF ++ a.drop 3 ++ beBytes 2 (p + 1)

/-- Ten bytes of a PTP timestamp of `ns` nanoseconds. -/
def ptpStamp (ns : Nat) : List Byte := beBytes 6 (ns / 10 ^ 9) ++ beBytes 4 (ns % 10 ^ 9)

/-- A message of type `ty` as a whole frame without FCS. -/
def State.ptpFrame (s : State) (p ty : Nat) (twoStep : Bool) (correction : Int) (seq : Nat) (log : Nat)
    (body : List Byte) : List Byte :=
  let sdo := if s.bcnProfile p = 0 then 16 else 0
  let ctl := if ty = msgSync then 0 else if ty = msgDelayReq then 1 else if ty = msgFollowUp then 2
    else if ty = msgDelayResp then 3 else 5
  beBytes 6 0x0180C200000E ++ s.macAddr p ++ beBytes 2 0x88F7
    ++ beBytes 1 (sdo + ty) ++ beBytes 1 0x12 ++ beBytes 2 (34 + body.length) ++ beBytes 1 (s.bcnDomain p)
    ++ beBytes 1 0 ++ beBytes 1 (if twoStep then 2 else 0) ++ beBytes 1 8 ++ beBytes 8 (ofSigned 64 correction)
    ++ beBytes 4 0 ++ s.portIdentity p ++ beBytes 2 seq ++ beBytes 1 ctl ++ beBytes 1 log ++ body

/-- Follow_Up information TLV carried by an AS master. -/
def State.followTlv (s : State) (p : Nat) : List Byte :=
  if s.bcnProfile p = 0 then
    beBytes 2 3 ++ beBytes 2 28 ++ beBytes 3 0x0080C2 ++ beBytes 3 1 ++ fitBytes 22 s.beacon.tlv
  else []

/-- Queues a message of Beacon's on port `p`, if its link is up and the port's one entry for them is free (R437).
DESIGN CHOICE (log 92): the spec does not say what a message meets whose entry is taken; it is not sent. -/
def State.ptpQueue (p : Nat) (octets : List Byte) (s : State) : State :=
  let x := s.port p
  let cls := s.rf (0x8400 + 0x40 * p) 24 3
  if !x.link || x.retired || x.ptp.isSome then s
  else
    let e : EthEntry := { record := none, route := 0xFFFF, acf := none, cls := cls, launch := none, late := false,
                          stampReq := false, tag := 0, octets := octets }
    ((s.advanceCredit p).upPort p fun x => { x with ptp := some e }).checkPtp p cls

/-- log_sync and log_pdelay as message bytes. -/
def State.logByte (s : State) (p lo : Nat) : Nat := ofSigned 8 (toSigned 4 (s.rf (0x8400 + 0x40 * p) lo 4))

/-- SYNC_TX: a MASTER port sends Sync; a two-step one's Follow_Up is queued as its egress stamp is known. -/
def State.syncTx (p : Nat) (s : State) : State :=
  if s.bcnRole p ≠ roleMaster then s
  else
    let x := s.port p
    let body := ptpStamp s.ns ++ (if s.bcnOneStep p then s.followTlv p else [])
    let f := s.ptpFrame p msgSync (!s.bcnOneStep p) 0 x.syncSeq (s.logByte p 12) body
    (s.upPort p fun x => { x with syncSeq := (x.syncSeq + 1) % 65536 }).ptpQueue p f

/-- DELAY_REQUEST_TX: Pdelay_Req, or Delay_Req of an E2E slave (Table 11-4). -/
def State.delayReqTx (p : Nat) (s : State) : State :=
  let ty := if s.bcnProfile p = 1 then msgDelayReq else msgPdelayReq
  if s.bcnRole p = 0 ∨ (s.bcnProfile p = 1 ∧ s.bcnRole p ≠ roleSlave) then s
  else
    let x := s.port p
    let body := ptpStamp 0 ++ (if ty = msgPdelayReq then List.replicate 10 0 else [])
    let f := s.ptpFrame p ty false 0 x.delaySeq (s.logByte p 8) body
    (s.upPort p fun x => { x with delaySeq := (x.delaySeq + 1) % 65536 }).ptpQueue p f

/-- PDELAY_REQ_RECEIVED from requester identity `who`: answered with Pdelay_Resp (R434). -/
def State.pdelayReq (p domain seq : Nat) (correction : Int) (age : Nat) (who : List Byte) (s : State) : State :=
  if !s.peerDelay p || domain ≠ s.bcnDomain p then s
  else
    let two := !s.bcnOneStep p
    let body := ptpStamp (s.ingressNs p age) ++ fitBytes 10 who
    s.ptpQueue p (s.ptpFrame p msgPdelayResp two (if two then 0 else correction) seq 0x7F body)

/-- DELAY_REQ_RECEIVED: a MASTER E2E port answers with Delay_Resp (R434). -/
def State.delayReq (p domain seq : Nat) (correction : Int) (age : Nat) (who : List Byte) (s : State) : State :=
  if s.bcnRole p ≠ roleMaster ∨ s.bcnProfile p ≠ 1 ∨ domain ≠ s.bcnDomain p then s
  else
    let body := ptpStamp (s.ingressNs p age) ++ fitBytes 10 who
    s.ptpQueue p (s.ptpFrame p msgDelayResp false correction seq (s.logByte p 8) body)

/-- Replaces `bs` at byte `i`. -/
def splice (i : Nat) (bs l : List Byte) : List Byte := l.take i ++ bs ++ l.drop (i + bs.length)

/-- What the PHY island inserts into a one-step message as it leaves at `t` (2^-16 ns) (R439). -/
def oneStepFrame (l : List Byte) (t : Nat) : List Byte :=
  let ty := byteAt l 14 % 16
  let two := nbit (byteAt l 20) 1
  let c := toSigned 64 (beAt l 22 8)
  if two then l
  else if ty = msgSync then
    splice 48 (ptpStamp (t / 2 ^ 16)) (splice 22 (beBytes 8 (ofSigned 64 (c + (t % 2 ^ 16 : Nat)))) l)
  else if ty = msgPdelayResp then
    let t2 := beAt l 48 6 * 10 ^ 9 + beAt l 54 4
    splice 48 (ptpStamp 0) (splice 22 (beBytes 8 (ofSigned 64 (c + ((t : Int) - (t2 * 2 ^ 16 : Nat))))) l)
  else l

/-- The follow-up message that a two-step message needs once its egress stamp, `ns`, is known. -/
def State.ptpSent (p : Nat) (l : List Byte) (ns : Nat) (s : State) : State :=
  let ty := byteAt l 14 % 16
  let seq := beAt l 44 2
  if !nbit (byteAt l 20) 1 then s
  else if ty = msgSync then
    s.ptpQueue p (s.ptpFrame p msgFollowUp false 0 seq (byteAt l 47) (ptpStamp ns ++ s.followTlv p))
  else if ty = msgPdelayResp then
    s.ptpQueue p (s.ptpFrame p msgPdelayRespFollowUp false 0 seq 0x7F (ptpStamp ns ++ (l.drop 58).take 10))
  else s

/-! ### Stamp queues and pins -/

/-- Bytes of a TSQ reading, word 0 first (Table 11-21). -/
def TsRec.words (r : TsRec) : List Nat :=
  [2 ^ 31 + r.outcome % 16, r.tag % 2 ^ 32, r.stamp % 2 ^ 32, r.stamp / 2 ^ 32 % 2 ^ 32]

/-- Key of a latched word (R733): one latch per link. -/
def latchKey (link off : Nat) : Nat := link * 2 ^ 26 + off

/-- Latches words for one link, from offset `off` on. -/
def State.latchWords (link : Nat) : Nat → List Nat → State → State
  | _, [], s => s
  | off, w :: ws, s =>
    State.latchWords link (off + 4) ws
      { s with latch := s.latch.set (fun _ => none) (latchKey link off) (some (wd w)) }

/-- TSQ_READ: a read of word 0 removes the oldest record and latches it (R443). -/
def State.tsqRead (link p : Nat) (s : State) : State :=
  let off := 0x8410 + 0x40 * p
  match (s.bport p).tsq with
  | [] => s.latchWords link off [0, 0, 0, 0]
  | r :: rs => (s.upBport p fun x => { x with tsq := rs }).latchWords link off r.words

/-- Stamp P of an edge of CELL_PPS_IN sampled `age` ns ago, in ns (Table 11-1): the pin's delay to its sampling is taken
away with a fixed correction of 1.8 ns (Table 23-3). -/
def State.ppsStamp (s : State) (age : Nat) : Nat := (s.measuredAt age - 18 * 2 ^ 16 / 10).toNat / 2 ^ 16

/-- PPS_IN_EDGE sampled `age` ns ago; `freq` is the frequency error PPS_SYNC has measured (R427, R451). Only the edge
pps_in_pol selects counts. The half second is judged in resonator time, which no step moves. -/
def State.ppsEdge (rising : Bool) (age : Nat) (freq : Int) (s : State) : State :=
  let src := s.bcnSource
  let raw : Nat := s.beacon.raw / 2 ^ 16 - age
  let early := match s.beacon.ppsLast with
    | some l => decide (raw < l + 500000000)
    | none => false
  if (src != 2 && src != 3) || rising == s.rb 0x8020 23 || early then s
  else
    let s := s.upBcn fun b => { b with ppsLast := some raw, ppsMissed := 0 }
    let n : Nat := s.ppsStamp age % 10 ^ 9
    let o : Int := if n ≤ 500000000 then (n : Int) else (n : Int) - 10 ^ 9
    s.measure (o * 2 ^ 16) 0 (some ((10 ^ 9 - n) % 10 ^ 9)) (if src = 3 then some freq else none)

/-! ### Island edges -/

/-- An expected edge of CELL_PPS_IN is missing half a second after its time, and counts (R451). DESIGN CHOICE
(log 80). -/
def State.ppsMissing (s : State) : State :=
  match s.beacon.ppsLast with
  | none => s
  | some l =>
    if s.beacon.raw / 2 ^ 16 < l + 10 ^ 9 * (s.beacon.ppsMissed + 1) + 500000000 then s
    else (s.upBcn fun b => { b with ppsMissed := b.ppsMissed + 1 }).countBcn 5

/-- Hold-offs at an island edge. -/
def State.holdTicks (s : State) : State := s.each s.bports.keys State.holdTick

/-- One edge of Beacon's 160 MHz island, 6.25 ns (R412): what the block does while no command waits. DESIGN CHOICE
(log 43). A second whose edge passes without PPS_OUT stays unmarked. -/
def State.tick (s : State) : State :=
  if s.beacon.running then
    let s' := s.upBcn fun b => { b with raw := b.raw + rawEdge, ppsNext := max b.ppsNext (b.second + 1) }
    (s'.gridCheck.ppsMissing.holdTicks.ppsFall).syncOut.recessiveCount
  else s

end Sys2Proof.Machine
end

