-- ==== Sys2Proof/Machine/Eth.lean ====
section
/-! DEFINITION. Single-pair Ethernet ports: links (R367 to R369), reception (R371 to R374), meters (R375 to R377),
pauses (R389 to R393), frame starts and ends (R380 to R384, R405), launches (R403 to R408), preemption (R394 to R396),
gates (R398 to R401) and low-power idle (R386). -/
namespace Sys2Proof.Machine

/-- The lane is off the line with its link up (R47). -/
def State.ethOffLine (s : State) : Bool := s.mode == .standby || s.mode == .service

/-- The lane may bring its link up: not held quiet and not retired (R47, R50, R126, R367). -/
def State.ethUsable (s : State) (p : Nat) : Bool :=
  s.hasCluster (p / 6) && p < 24 && !(s.port p).retired && match s.mode with
    | .test => true
    | .operational | .degraded | .reconfiguring | .standby | .service =>
      s.laneUsed (40 + p) && !s.reconf (p / 6)
    | _ => false

/-! ### Pauses (R389 to R393) -/

/-- A pause of `q` quanta arrives for class `t`. -/
def Port.pauseClass (t q : Nat) (x : Port) : Port :=
  if q = 0 then x.setPause t ⟨none, false⟩
  else if (x.pause t).inForce then x
  else if x.tx.isNone then x.setPause t ⟨none, true⟩
  else x.setPause t ⟨some q, false⟩

/-- Every pause that waits takes effect (R390). -/
def Port.pausesBegin (x : Port) : Port :=
  (List.range 8).foldl (fun x t => if (x.pause t).waiting.isSome then x.setPause t ⟨none, true⟩ else x) x

/-- PAUSE_RECEIVED (R373, R374, R389). -/
def State.pauseReceived (p quanta : Nat) (s : State) : State :=
  if !(s.port p).link then s
  else if s.ethOffLine then s.countMac p 8
  else if !s.rb (macBase p) 26 && s.rb (macBase p) 27 then
    ((s.countMac p 6).advanceCredit p).upPort p fun x =>
      (List.range 8).foldl (fun x t => x.pauseClass t quanta) x
  else s.countMac p 7

/-- PFC_RECEIVED with its class-enable vector and times (R373, R374, R389). -/
def State.pfcReceived (p vector : Nat) (times : List Nat) (s : State) : State :=
  if !(s.port p).link then s
  else if s.ethOffLine then s.countMac p 8
  else if s.rb (macBase p) 26 then
    ((s.countMac p 6).advanceCredit p).upPort p fun x =>
      (List.range 8).foldl (fun x t => if nbit vector t then x.pauseClass t (times.getD t 0) else x) x
  else s.countMac p 7

/-- A received MAC control frame (R373). -/
def State.macControl (p : Nat) (b : List Byte) (s : State) : State :=
  match beAt b 14 2 with
  | 0x0001 => s.pauseReceived p (beAt b 16 2)
  | 0x0101 => s.pfcReceived p (byteAt b 17) ((List.range 8).map fun t => beAt b (18 + 2 * t) 2)
  | _ => s.countMac p 7

/-- The frame under way, cut at a preemption boundary, waits with its remainder (R395); no frame is being transmitted
there, so the pauses that wait take effect (R390). -/
def State.suspendTx (p : Nat) (s : State) : State :=
  let x := s.port p
  match x.tx with
  | none => s
  | some y =>
    (s.setPort p ({ x with tx := none, suspended := some { y with cuts := y.cuts + 1 } }.pausesBegin)).countMac p 20

/-- Some class of the frame under way has a pause waiting. -/
def Port.txPaused (x : Port) : Bool :=
  match x.tx with
  | some y => (x.pause y.entry.cls).waiting.isSome
  | none => false

/-- A boundary of the frame can leave one fragment more, each of at least (add_frag_size + 1) × 64 bytes with its mCRC
(R395). -/
def State.fragmentsFit (s : State) (p : Nat) (y : EthTx) : Bool :=
  (y.cuts + 2) * (64 * (s.rf (macBase p + 0x28) 28 2 + 1)) ≤ (s.entryOctets p y.entry).length + 4 + 4 * (y.cuts + 1)

/-- The frame under way can be cut (R394, R395). -/
def State.cuttable (s : State) (p : Nat) : Bool :=
  let x := s.port p
  x.preempt && match x.tx with
    | some y => y.preemptable && s.fragmentsFit p y
    | none => false

/-- PAUSE_EFFECT with no frame under way, or at a preemption boundary of a frame of a paused class (R390). -/
def State.pauseEffect (p : Nat) (s : State) : State :=
  let x := s.port p
  if x.tx.isNone then (s.advanceCredit p).upPort p Port.pausesBegin
  else if s.cuttable p && x.txPaused then (s.advanceCredit p).suspendTx p
  else s

/-- PAUSE_EXPIRY of class `t`. -/
def State.pauseExpiry (p t : Nat) (s : State) : State :=
  (s.advanceCredit p).upPort p fun x =>
    if (x.pause t).inForce then x.setPause t { x.pause t with inForce := false } else x

/-- PAUSE_TX_REPEAT while the charge stays above xon (R393). -/
def State.pauseRepeat (p : Nat) (s : State) : State :=
  let x := s.port p
  if x.xoffSent && s.rb (macBase p) 25 then
    s.setPort p { x with ctrl := x.ctrl ++ [true] }
  else s

/-! ### Reception -/

/-- Units of a bucket in one bit. -/
def bitUnit : Nat := 10 ^ 6 * 2 ^ 16

/-- Sizes and rates of meter `i`: green size and rate, yellow size and rate. -/
def State.meterSet (s : State) (p i : Nat) : Nat × Nat × Nat × Nat :=
  let b := macBase p + 0x200 + 12 * i
  (s.rf (b + 4) 0 8 * 2048 * bitUnit, s.rf (b + 4) 8 24, s.rf b 0 8 * 2048 * bitUnit, s.rf b 8 24)

/-- The valid meter of port `p` that names a partner. -/
def State.meterOf (s : State) (p partner : Nat) : Option Nat :=
  (List.range 32).find? fun i =>
    let w := s.rd (macBase p + 0x200 + 12 * i + 8)
    bit w 31 && fld w 16 12 == partner

def State.setMeter (p i : Nat) (m : Meter) (s : State) : State :=
  s.upPort p fun x => { x with meters := x.meters.set (fun _ => Meter.empty) i m }

/-- The buckets of meter `i` start full (R377). -/
def State.fillMeter (p i : Nat) (s : State) : State :=
  let (g, _, y, _) := s.meterSet p i
  let m := (s.port p).meters.get (fun _ => Meter.empty) i
  s.setMeter p i { m with green := g, yellow := y, filled := s.beacon.raw }

/-- A meter drops a frame, counted in counter `k`. -/
def State.meterDrop (p i k : Nat) (s : State) : State :=
  let s := s.countMac p k
  let m := (s.port p).meters.get (fun _ => Meter.empty) i
  if m.raised then s else (s.setMeter p i { m with raised := true }).raise (.mac p) 5 p 0

/-- Metering of a frame of `len` bytes, FCS included, charged to `partner` (R375 to R377). -/
def State.meter (p len partner : Nat) (s : State) : Bool × State :=
  match s.meterOf p partner with
  | none => (true, s)
  | some i =>
    let w := s.rd (macBase p + 0x200 + 12 * i + 8)
    let sdu := fld w 0 16
    if sdu ≠ 0 ∧ sdu < len then (false, s.meterDrop p i 19)
    else
      let (gs, gr, ys, yr) := s.meterSet p i
      let m := (s.port p).meters.get (fun _ => Meter.empty) i
      let now := s.beacon.raw
      let dt := if now < m.filled then now else now - m.filled
      let g := min gs (m.green + gr * dt)
      let y := min ys (m.yellow + yr * dt)
      let n := len * 8 * bitUnit
      if n ≤ g then (true, s.setMeter p i { m with green := g - n, yellow := y, filled := now })
      else if n ≤ y then
        let s := s.setMeter p i { m with green := g, yellow := y - n, filled := now }
        if bit w 30 then (false, s.meterDrop p i 18) else (true, s)
      else (false, (s.setMeter p i { m with green := g, yellow := y, filled := now }).meterDrop p i 18)

/-- Beacon consumes the frame (R436). -/
def State.ptpConsumes (s : State) (p : Nat) (b : List Byte) : Bool :=
  let t := ethTypeAt b
  let ty := byteAt b (t + 2) % 16
  s.bcnRole p != 0 && beAt b t 2 == 0x88F7 && byteAt b (t + 6) == s.bcnDomain p
    && [0, 1, 2, 3, 8, 9, 10].contains ty

/-- ETH_FRAME_RECEIVED: octets without FCS, the line's error reports, the fragments it came in and its age (R372). -/
def State.ethReceived (picks : List Nat) (p : Nat) (phyErr smdErr fcsErr : Bool) (frags age : Nat) (b : List Byte)
    (s : State) : State :=
  if !(s.port p).link then s
  else
    let s := s.countMac p 21 frags
    let len := b.length + 4
    let bad := phyErr || smdErr || fcsErr || decide (s.rf (macBase p) 12 12 < len) || decide (len < 64)
    if s.ethOffLine && (bad || !s.ptpConsumes p b) then s.countMac p 8
    else if phyErr then s.countMac p 1
    else if smdErr then s.countMac p 2
    else if s.rf (macBase p) 12 12 < len then s.countMac p 3
    else if len < 64 then s.countMac p 4
    else if fcsErr then s.countMac p 5
    else if beAt b 12 2 = 0x8808 then s.macControl p b
    else
      let s := s.countMac p 0
      if s.ptpConsumes p b then s
      else
        let f : Frame :=
          { format := fmtEth, flags := b2n (ethTagged b), srcKind := srcEth, srcIndex := p, ident := 0,
            stamp := s.stampAgo age (s.calEff (0x300 + 8 * p + s.portSpeed p)), dlc := 0, sdt := 0, af := ethAf b,
            vcid := 0, conf := 0, node := 0xFFFD, route := 0xFFFF, seq := 0, data := b }
        (s.lineFrame picks (p / 6) f (40 + p) false none false 0 (State.meter p len)).2

/-! ### Launches (R404 to R406) -/

/-- Bound of Table 10-3, in 2^-16 ns. -/
def State.launchBound (s : State) (p : Nat) : Nat := (if s.portSpeed p = 0 then 20 else 8) * 2 ^ 16

/-- The launch is late: it was handed over late, or its time and bound have passed (R32, R406). -/
def State.launchPast (s : State) (p : Nat) (e : EthEntry) : Bool :=
  e.late || e.launch.getD 0 + s.launchBound p < s.time

/-- A late launch is counted, and the first in a cell cycle raises LAUNCH_LATE. -/
def State.noteLaunchLate (p k : Nat) (s : State) : State :=
  let s := s.countMac p k
  let x := s.port p
  if x.lateRaised then s else (s.setPort p { x with lateRaised := true }).raise (.mac p) 2 p 0

/-- Under late_policy DROP the launches past their bound end LATE_DROPPED (R406). -/
def State.dropLate (p : Nat) (s : State) : State :=
  if !s.rb (macBase p + 0x2C) 31 then s
  else
    let late := (s.port p).launches.filter (s.launchPast p)
    let s := s.upPort p fun x => { x with launches := x.launches.filter fun e => !s.launchPast p e }
    s.each late fun e s => (s.noteLaunchLate p 16).entryGone p txLateDropped e

/-- The next launch time still to come. -/
def State.nextLaunch (s : State) (p : Nat) : Option Nat :=
  ((s.port p).launches.filterMap (·.launch)).find? fun l => s.time < l

/-- A frame of `n` octets ends before the next due launch (R405). -/
def State.lineFree (s : State) (p n : Nat) : Bool :=
  match s.nextLaunch p with
  | some l => s.time + s.lineTime p n ≤ l
  | none => true

/-- The launch to start now: the first that is due, whose class is not paused and for which the line is free (R404). -/
def State.dueLaunch (s : State) (p : Nat) : Option EthEntry :=
  let x := s.port p
  x.launches.find? fun e =>
    e.launch.getD 0 ≤ s.time && !(x.pause e.cls).inForce && s.lineFree p (s.entryOctets p e).length

/-! ### Frame starts (R380 to R383) -/

/-- What a port selects. -/
inductive Pick where
  | control (full : Bool) (rest : List Bool)
  | launch (e : EthEntry)
  | beacon (e : EthEntry)
  | queued (e : EthEntry) (rest : List EthEntry)
  | resume (y : EthTx)
  deriving DecidableEq, Repr

/-- Class `t` is sent as express traffic (R394, R395). -/
def State.express (s : State) (p t : Nat) : Bool :=
  !(s.port p).preempt || s.rb (macBase p + 0x28) t

/-- An entry of class `t` is eligible as its class's head (R380, R381). -/
def State.headEligible (s : State) (p t : Nat) (e : EthEntry) : Bool :=
  let x := s.port p
  let n := s.entryTime p e
  !(x.pause t).inForce && nbit x.gates t && 0 ≤ x.creditOf t
    && (match s.openFor p t s.ns with | some d => n ≤ d * 2 ^ 16 | none => true)
    && s.lineFree p (s.entryOctets p e).length

/-- The eligible head of class `t`: Beacon's message first, then the class's queue, which stands still off the
line (R407). -/
def State.classHead (s : State) (p t : Nat) : Option Pick :=
  let x := s.port p
  match x.ptp.filter (·.cls == t), x.queue t with
  | some e, _ => if s.headEligible p t e then some (.beacon e) else none
  | none, q :: qs => if !s.ethOffLine && s.headEligible p t q then some (.queued q qs) else none
  | none, [] => none

/-- Classes from the highest to the lowest. -/
def classesDown : List Nat := [7, 6, 5, 4, 3, 2, 1, 0]

/-- The first express candidate: control frame, due launch or express class (R380 rules 1 to 3). -/
def State.pickExpress (s : State) (p : Nat) : Option Pick :=
  let x := s.port p
  let ctrl := match x.ctrl with
    | q :: qs => if !s.ethOffLine && s.lineFree p 60 then some (Pick.control q qs) else none
    | [] => none
  let due := if s.ethOffLine then none else (s.dueLaunch p).map Pick.launch
  (ctrl.orElse fun _ => due).orElse fun _ =>
    (classesDown.filter (s.express p)).findSome? (s.classHead p)

/-- The preemptable candidate (R380 rule 4, R392); off the line only Beacon's frames leave (R47). -/
def State.pickPreemptable (s : State) (p : Nat) : Option Pick :=
  let x := s.port p
  match x.suspended with
  | some y => 
    if (x.pause y.entry.cls).inForce || !nbit x.gates y.entry.cls || (s.ethOffLine && y.kind != .beacon) then none
    else some (.resume y)
  | none => (classesDown.filter fun t => !s.express p t).findSome? (s.classHead p)

/-- Marks a frame under way. -/
def mkTx (k : TxKind) (e : EthEntry) (pre : Bool) : EthTx :=
  { kind := k, entry := e, preemptable := pre, cuts := 0 }

/-- An entry for a control frame. -/
def ctrlEntry : EthEntry :=
  { record := none, route := 0xFFFF, acf := none, cls := 8, launch := none, late := false, stampReq := false, tag := 0,
    octets := [] }

/-- The control frame that port `p` sends as its registers stand: pause_quanta, or time zero (R393, R409). -/
def State.ctrlKind (s : State) (p : Nat) (full : Bool) : TxKind :=
  let pfc := s.rb (macBase p) 26
  .control pfc (if pfc then s.rf (macBase p + 0x20) 16 8 else 0) (if full then s.rf (macBase p + 0x20) 0 16 else 0)

/-- A frame's data hold an uncorrectable error, so it is not sent (R235). -/
def State.entryUe (p ue : Nat) (e : EthEntry) (s : State) : State := (s.memUe ue).entryGone p txDiscarded e

/-- Counts a tunnelled frame as its transmission begins. -/
def State.countAcf (e : EthEntry) (s : State) : State := if e.acf.isSome then s.countGw 0 else s

/-- Starts the selected frame; the shaper registers as they stand apply from now on (R409). -/
def State.startPick (p : Nat) (ecc : RecEcc) (k : Pick) (s : State) : State :=
  let s := s.upPort p fun x => { x with
    cbs := (List.range 8).foldl (fun t i => Tbl.set (fun _ => (0 : Word)) t i (s.rd (macBase p + 0x60 + 4 * i))) x.cbs }
  match k with
  | .control full rest =>
    s.upPort p fun x => { x with ctrl := rest, tx := some (mkTx (s.ctrlKind p full) ctrlEntry false) }
  | .launch e =>
    let late := s.launchPast p e
    let s := (s.upPort p fun x => { x with launches := x.launches.erase e }).noteCe ecc.corrected
    match ecc.ue with
    | some w => s.entryUe p w e
    | none =>
      let s := s.countAcf e
      let s := s.upPort p fun x => { x with launchReserved := x.launchReserved + 1, tx := some (mkTx (.launch late) e false) }
      if late then s.noteLaunchLate p 15 else s
  | .beacon e =>
    s.upPort p fun x => { x with ptp := none, tx := some (mkTx .beacon e (!s.express p e.cls)) }
  | .queued e rest =>
    let s := (s.upPort p (·.setQueue e.cls rest)).noteCe ecc.corrected
    let s := match ecc.ue with
      | some w => s.entryUe p w e
      | none =>
        let pre := !s.express p e.cls
        (s.countAcf e).upPort p fun x =>
          { x.setHeldCls e.cls (x.heldCls e.cls + 1) with tx := some (mkTx .queued e pre) }
    s.checkHead p e.cls
  | .resume y => s.upPort p fun x => { x with suspended := none, tx := some y }

/-- The transmitter may start a frame: it is neither in low-power idle nor waking (R386, R405). -/
def State.txReady (s : State) (p : Nat) : Bool :=
  let x := s.port p
  x.link && !x.retired && !x.lpiTx && x.wakeUntil ≤ s.beacon.raw

/-- ETH_FRAME_START: the port selects a frame, preempting one under way that can be cut for express traffic (R380,
R396). `ecc` is what the read of the selected frame's record finds. -/
def State.frameStart (p : Nat) (ecc : RecEcc) (s : State) : State :=
  if !s.txReady p then s
  else
    let s := s.advanceCredit p
    let s := if s.ethOffLine then s else s.dropLate p
    let x := s.port p
    if x.tx.isNone then
      match (s.pickExpress p).orElse fun _ => s.pickPreemptable p with
      | some k => s.startPick p ecc k
      | none => s
    else if s.cuttable p && (s.pickExpress p).isSome then
      let s := s.suspendTx p
      match s.pickExpress p with
      | some k => s.startPick p ecc k
      | none => s
    else s

/-- LAUNCH_DUE: the first due launch starts if the line is free, or is dropped late (R404, R406). -/
def State.launchDue (p : Nat) (ecc : RecEcc) (s : State) : State :=
  let s := (s.advanceCredit p).dropLate p
  if !s.txReady p || s.ethOffLine || !((s.port p).tx.isNone || s.cuttable p) || (s.dueLaunch p).isNone then s
  else
    let s := s.suspendTx p
    match s.dueLaunch p with
    | some e => s.startPick p ecc (.launch e)
    | none => s

/-! ### Frame ends (R384, R408, R441) -/

/-- Returns the credit a frame under way still holds. -/
def EthTx.giveBack (y : EthTx) (x : Port) : Port :=
  match y.kind with
  | .queued => x.setHeldCls y.entry.cls (x.heldCls y.entry.cls - 1)
  | .launch _ => { x with launchReserved := x.launchReserved - 1 }
  | _ => x

/-- tx_start rises by 256 bytes, to at most 2048 (R384). -/
def State.raiseTxStart (p : Nat) (s : State) : State :=
  s.setf (macBase p + 0x10) 0 12 (min 2048 (s.rf (macBase p + 0x10) 0 12 + 256))

/-- The outcome of a frame that has left (Table 10-24). -/
def EthTx.outcome (y : EthTx) (underrun : Bool) : Nat :=
  if underrun then txUnderrun
  else match y.kind with
    | .launch true => txLate
    | _ => txSent

/-- Counters and events of a frame that has left. -/
def State.countSent (p : Nat) (y : EthTx) (underrun : Bool) (s : State) : State :=
  if underrun then (((s.countMac p 10).raise (.mac p) 1 p 0).raiseTxStart p)
  else
    let s := s.countMac p 9
    if y.kind == .launch false then s.countMac p 14 else s

/-- What follows the end of a frame with data: its stamp record, its reference and Beacon's follow-up. The stamp is the
PHY island's time with the egress latency added, at the MDI (Table 11-1, R466). -/
def State.afterSent (p age : Nat) (y : EthTx) (underrun : Bool) (octets : List Byte) (s : State) : State :=
  let lat := s.calEff (0x400 + 8 * p + s.portSpeed p)
  let stamp := s.stampAgo age (-lat)
  let t := (s.timeAgo age + lat * 2 ^ 8).toNat
  let s := if underrun then s.emit (.ethCut p octets)
    else s.emit (.ethFrame p (if y.kind == .beacon then oneStepFrame octets t else octets))
  let s := s.tsRecord p y.entry (y.outcome underrun) stamp
  let s := match y.entry.record with
    | some c => s.dropRef c
    | none => s
  if y.kind == .beacon then s.ptpSent p octets (nsOfStamp stamp) else s

/-- ETH_FRAME_SENT: the frame under way ends; its timestamp point was `age` ns ago. Only a frame sent while it was
still being read can underrun (R384). -/
def State.frameSent (p age : Nat) (underrun : Bool) (s : State) : State :=
  match (s.port p).tx with
  | none => s
  | some y =>
    let u := underrun && y.kind == .queued && y.entry.acf.isNone
    let octets := s.entryOctets p y.entry
    let s := (s.advanceCredit p).upPort p fun x => (y.giveBack { x with tx := none }).pausesBegin
    match y.kind with
    | .control pfc classes quanta => (s.countMac p 11).emit (.pauseFrame p (ofLe (s.macAddr p)) pfc classes quanta)
    | _ =>
      let s := if 0 < y.cuts then s.countMac p 20 else s
      (s.countSent p y u).afterSent p age y u octets

/-! ### Links -/

/-- LINK_UP: the PHY reports link; the link is up if the local receiver status is OK too (R368). -/
def State.linkUp (p : Nat) (rcvr : Bool) (s : State) : State :=
  if !rcvr || !s.ethUsable p || (s.port p).link then s
  else
    let w := s.rd (macBase p + 0x28)
    let s := s.upPort p fun x =>
      { x with link := true, wakeUntil := 0, preempt := bit w 31 && bit w 30, verifyTries := 0,
               verifyFailed := false }
    (s.upBport p fun x => { x with dValid := false, hold := false, holdLeft := 0, sync := none }).raise (.mac p) 0 p 0

/-- The timed launches of a port, the one under way and one suspended with them. -/
def Port.timed (x : Port) : List EthEntry :=
  x.launches ++ ((x.tx.toList ++ x.suspended.toList).filter fun y => y.kind matches .launch _).map (·.entry)

/-- Discards what a port holds (R369, retirement, UNLOAD, SLEEP): its queues in tx_discard, Beacon's entry with them
(R437), its launches DISCARDED. -/
def State.portDiscard (p : Nat) (s : State) : State :=
  let x := s.port p
  let under := x.tx.toList ++ x.suspended.toList
  let queued := (List.range 8).flatMap x.queue ++ x.ptp.toList
    ++ (under.filter fun y => y.kind == .queued || y.kind == .beacon).map (·.entry)
  let back := under.foldl (fun x y => y.giveBack x) x
  let s := s.setPort p { back with queues := [], launches := [], tx := none, suspended := none, ctrl := [], ptp := none,
                                   pauses := [] }
  let s := s.countMac p 12 queued.length
  s.each (queued ++ x.timed) (State.entryGone p txDiscarded)

/-- The link of port `p` goes down (R368, R369); the source is lost with it (R433). -/
def State.linkDown (p : Nat) (s : State) : State :=
  if !(s.port p).link then s
  else
    let s := ((s.advanceCredit p).portDiscard p).upPort p fun x =>
      { x with link := false, preempt := false, lpiTx := false, lpiRx := false, xoffSent := false }
    let s := (s.upBport p fun x => { x with sync := none }).countMac p 22
    let s := s.raise (.mac p) 0 p 0
    if s.isSource p then s.sourceLost else s

/-- VERIFY_ATTEMPT (R394). -/
def State.verifyAttempt (p : Nat) (ok : Bool) (s : State) : State :=
  let x := s.port p
  let w := s.rd (macBase p + 0x28)
  if !x.link || !bit w 31 || bit w 30 || x.preempt || x.verifyFailed then s
  else if ok then s.setPort p { x with preempt := true }
  else if x.verifyTries < 2 then s.setPort p { x with verifyTries := x.verifyTries + 1 }
  else (s.setPort p { x with verifyTries := 3, verifyFailed := true }).raise (.mac p) 4 p 0

/-- Nothing waits at the port. -/
def Port.silent (x : Port) : Bool :=
  x.tx.isNone && x.suspended.isNone && x.launches.isEmpty && x.ctrl.isEmpty && x.ptp.isNone
    && (List.range 8).all fun t => (x.queue t).isEmpty

/-- LPI_ENTER of the transmitter, or of the partner (R386, R387). -/
def State.lpiEnter (p : Nat) (rx : Bool) (s : State) : State :=
  let x := s.port p
  if !x.link then s
  else if rx then s.setPort p { x with lpiRx := true }
  else if s.rb (macBase p) 24 && x.silent then s.setPort p { x with lpiTx := true }
  else s

/-- LPI_EXIT (R386): the transmitter wakes for tw_tx µs. -/
def State.lpiExit (p : Nat) (rx : Bool) (s : State) : State :=
  let wake := s.beacon.raw + s.rf (macBase p + 0x14) 0 16 * 1000 * 2 ^ 16
  s.upPort p fun x =>
    if rx then { x with lpiRx := false }
    else if x.lpiTx then { x with lpiTx := false, wakeUntil := wake }
    else x

/-! ### Gates (R400) -/

/-- A write of commit copies the admin list for its change time (R400, R401, R456). DESIGN CHOICE (log 91): with
cyc_lock and no cycle loaded there is no grid to wait for, and the change time is the commit. -/
def State.gateCommit (p : Nat) (s : State) : State :=
  let b := macBase p
  let locked := s.rb (b + 0x40) 30
  let entries := (List.range (s.rf (b + 0x40) 0 8)).map fun i => (s.rf (b + 0x800 + 4 * i) 24 8, s.rf (b + 0x800 + 4 * i) 0 24)
  let lock := if locked then s.cycle else none
  let base := match lock with
    | some c => c.phase
    | none => nsOfStamp ((s.rd (b + 0x44)).toNat + 2 ^ 32 * (s.rd (b + 0x48)).toNat)
  let cycle := match lock with
    | some c => c.period
    | none => s.rf (b + 0x4C) 0 30
  let tc := if locked && s.cycle.isNone then s.ns else base + ceilDiv (s.ns - base) cycle * cycle
  s.upPort p fun x => { x with admin := some ⟨entries, tc, cycle, s.rf (b + 0x50) 0 30⟩ }

/-- GATE_SWITCH: at the change time the committed list becomes operational (R400, R382). -/
def State.gateSwitch (p : Nat) (s : State) : State :=
  match (s.port p).admin with
  | none => s
  | some g =>
    if s.ns < g.base then s
    else
      let s := s.upPort p fun x => { x with oper := some g, admin := none }
      let s := (s.raise (.mac p) 3 p 0).refreshGates p
      s.each (List.range 8) (State.checkHead p)

end Sys2Proof.Machine
end

