-- ==== Sys2Proof/Machine/Flags.lean ====
section
/-! DEFINITION. Results and flags of the Genat register operations (R532 to R536, Tables 15-3, 15-7, 15-11 and
15-12), and the conditions of BC (Table 15-10). -/
namespace Sys2Proof.Machine

/-- A result and the PSR after it. -/
structure Alu where
  val : Word
  psr : Word
  deriving DecidableEq, Repr

/-- PSR flag positions (Table 15-3). -/
def flagZ : Nat := 0
def flagN : Nat := 1
def flagC : Nat := 2
def flagV : Nat := 3
def flagDz : Nat := 4

/-- A PSR with one flag written. -/
def setFlag (i : Nat) (b : Bool) (psr : Word) : Word := setFld psr i 1 (b2n b)

/-- N takes bit 31 of the result, and Z is 1 if it is zero (R533). -/
def setNZ (r psr : Word) : Word := setFlag flagZ (r == 0) (setFlag flagN (bit r 31) psr)

/-- A result with N and Z. -/
def aluNZ (r psr : Word) : Alu := ⟨r, setNZ r psr⟩

/-- a + b + carry with N, Z, C and V; subtractions pass NOT y (R533). -/
def aluAdd (a b : Word) (carry : Bool) (psr : Word) : Alu :=
  let sum := a.toNat + b.toNat + b2n carry
  let r := wd sum
  let exact : Int := a.toInt + b.toInt + (b2n carry : Nat)
  ⟨r, setFlag flagV (exact != r.toInt) (setFlag flagC (2 ^ 32 ≤ sum) (setNZ r psr))⟩

/-- x − y as x + NOT y + 1. -/
def aluSub (x y psr : Word) : Alu := aluAdd x (~~~y) true psr

def psrC (psr : Word) : Bool := bit psr flagC

/-- ADC and SBC take C as their carry. -/
def aluAdc (a b psr : Word) : Alu := aluAdd a b (psrC psr) psr
def aluSbc (a b psr : Word) : Alu := aluAdd a (~~~b) (psrC psr) psr

/-- N, Z and V of an exact signed result, saturating or wrapping. -/
def aluExact (saturate : Bool) (exact : Int) (psr : Word) : Alu :=
  let big := 2147483647 < exact
  let small := exact < -2147483648
  let r : Word :=
    if saturate && big then 0x7FFFFFFF else if saturate && small then 0x80000000 else BitVec.ofInt 32 exact
  ⟨r, setFlag flagV (big || small) (setNZ r psr)⟩

def aluAbs (saturate : Bool) (a psr : Word) : Alu := aluExact saturate (a.toInt.natAbs : Int) psr
def aluAdds (a b psr : Word) : Alu := aluExact true (a.toInt + b.toInt) psr
def aluSubs (a b psr : Word) : Alu := aluExact true (a.toInt - b.toInt) psr

/-- Kinds of shift in the encoding of SHI. -/
def shSll : Nat := 0
def shSrl : Nat := 1
def shSra : Nat := 2
def shRot : Nat := 3

/-- A right rotation by `n`. -/
def rotr (a : Word) (n : Nat) : Word := a.rotateRight (n % 32)

/-- Result of a shift by `n` (Table 15-11). -/
def shiftVal (kind : Nat) (a : Word) (n : Nat) : Word :=
  if kind = shSll then (if 32 ≤ n then 0 else a <<< n)
  else if kind = shSrl then (if 32 ≤ n then 0 else a >>> n)
  else if kind = shSra then a.sshiftRight (min n 32)
  else rotr a n

/-- C after a shift by a non-zero `n` (Table 15-11). -/
def shiftC (kind : Nat) (a : Word) (n : Nat) : Bool :=
  if kind = shSll then decide (n ≤ 32) && bit a (32 - n)
  else if kind = shSrl then decide (n ≤ 32) && bit a (n - 1)
  else if kind = shSra then bit a (min (n - 1) 31)
  else bit (rotr a n) 31

/-- A shift with its flags: N and Z of the result, C unless the amount is zero (R534). -/
def aluShift (kind : Nat) (a : Word) (n : Nat) (psr : Word) : Alu :=
  let r := shiftVal kind a n
  let p := setNZ r psr
  ⟨r, if n = 0 then p else setFlag flagC (shiftC kind a n) p⟩

def aluMul (a b psr : Word) : Alu := aluNZ (a * b) psr
def aluMulhs (a b psr : Word) : Alu := aluNZ (BitVec.ofInt 32 (a.toInt * b.toInt / 2 ^ 32)) psr
def aluMulhu (a b psr : Word) : Alu := aluNZ (wd (a.toNat * b.toNat / 2 ^ 32)) psr

/-- The operands of the one signed division that overflows. -/
def divOverflows (a b : Word) : Bool := a == 0x80000000 && b == 0xFFFFFFFF

/-- DIV and REM, with dz of a division by zero (R535, Table 15-12). -/
def aluDiv (a b psr : Word) : Alu :=
  if b = 0 then
    let r : Word := if bit a 31 then 0x80000000 else 0x7FFFFFFF
    ⟨r, setFlag flagDz true (setFlag flagV false (setNZ r psr))⟩
  else
    let r := BitVec.ofInt 32 (a.toInt.tdiv b.toInt)
    ⟨r, setFlag flagV (divOverflows a b) (setNZ r psr)⟩

def aluRem (a b psr : Word) : Alu :=
  if b = 0 then ⟨a, setFlag flagDz true (setFlag flagV false (setNZ a psr))⟩
  else
    let r := BitVec.ofInt 32 (a.toInt.tmod b.toInt)
    ⟨r, setFlag flagV (divOverflows a b) (setNZ r psr)⟩

def aluDivu (a b psr : Word) : Alu :=
  if b = 0 then ⟨0xFFFFFFFF, setFlag flagDz true (setNZ 0xFFFFFFFF psr)⟩ else aluNZ (a / b) psr

def aluRemu (a b psr : Word) : Alu :=
  if b = 0 then ⟨a, setFlag flagDz true (setNZ a psr)⟩ else aluNZ (a % b) psr

/-- Leading zero bits, from bit `n - 1` down. -/
def leadZeros (a : Word) : Nat → Nat
  | 0 => 0
  | n + 1 => if bit a n then 0 else leadZeros a n + 1

def aluClz (a psr : Word) : Alu := aluNZ (wd (leadZeros a 32)) psr

/-- The low `n` bits of `a` in reverse order. -/
def reverseBits (a : Word) : Nat → Nat
  | 0 => 0
  | n + 1 => 2 * reverseBits a n + b2n (bit a n)

def aluBrev (a psr : Word) : Alu := aluNZ (wd (reverseBits a 32)) psr
def aluBswap (a psr : Word) : Alu := aluNZ (wd (ofBe (leBytes 4 a.toNat))) psr

/-- Bits pos to pos + len − 1 of `a`, zero- or sign-extended. -/
def aluExt (pos len : Nat) (sign : Bool) (a psr : Word) : Alu :=
  let v := fld a pos len
  aluNZ (if sign then BitVec.ofInt 32 (toSigned len v) else wd v) psr

/-- Bits pos to pos + len − 1 of `d` replaced by the low bits of `a`. -/
def aluIns (pos len : Nat) (d a psr : Word) : Alu := aluNZ (setFld d pos len a.toNat) psr

/-- A signed field of `n` bits as a word. -/
def simm (n v : Nat) : Word := BitVec.ofInt 32 (toSigned n v)

/-- Conditions of BC (Table 15-10); none for the reserved value. -/
def condHolds (cond : Nat) (psr : Word) : Option Bool :=
  let z := bit psr flagZ
  let n := bit psr flagN
  let c := bit psr flagC
  let v := bit psr flagV
  match cond with
  | 0 => some true | 1 => some z | 2 => some !z | 3 => some !c | 4 => some c
  | 5 => some (c && !z) | 6 => some (!c || z) | 7 => some (n != v) | 8 => some (n == v)
  | 9 => some (!z && n == v) | 10 => some (z || n != v) | 11 => some n | 12 => some !n
  | 13 => some v | 14 => some !v | _ => none

end Sys2Proof.Machine
end

