-- ==== Sys2Proof/Machine/Genat.lean ====
section
/-! DEFINITION. Genat engines: memories (R502, R503), registers, starts and restarts (R507, R518, R527), interrupt
selection and claims (R567 to R577), entry frames and traps (R554 to R558), loops and the next pc (R540 to R545). -/
namespace Sys2Proof.Machine

/-- Updates engine `g`. -/
def State.upEng (g : Nat) (f : Engine → Engine) (s : State) : State := s.setEng g (f (s.eng g))

/-- Updates engine `g`'s registers. -/
def State.upCpu (g : Nat) (f : Cpu → Cpu) (s : State) : State :=
  s.upEng g fun e => { e with cpu := f e.cpu }

def State.cpu (s : State) (g : Nat) : Cpu := (s.eng g).cpu

/-- Counter `i` of ENG[g]_CNT. -/
def State.countEng (g i : Nat) (s : State) : State := s.cnt (engBase g + 0x20 + 4 * i)

/-- General register `r`. -/
def State.x (s : State) (g r : Nat) : Word := (s.cpu g).x.getD r 0

def Cpu.setX (r : Nat) (w : Word) (c : Cpu) : Cpu := { c with x := c.x.set r w }

def State.setX (g r : Nat) (w : Word) (s : State) : State := s.upCpu g (Cpu.setX r w)

/-- Writes a register pair: rd low, rd + 1 high. -/
def State.setPair (g r : Nat) (n : Nat) (s : State) : State :=
  (s.setX g r (wd n)).setX g (r + 1) (wd (n / 2 ^ 32))

/-! ### Memories (Table 14-1) -/

/-- Writes a byte of data or shared memory. -/
def State.setEngByte (g a : Nat) (b : Byte) (s : State) : State :=
  match regionOf a 1 with
  | some .dmem => s.upEng g fun e => { e with dmem := e.dmem.set (fun _ => 0) (a - 0x10000000) b }
  | some .shared => { s with shared := s.shared.set (fun _ => 0) (g / 8 * 2 ^ 21 + (a - 0x20000000)) b }
  | _ => s

/-- Writes bytes from address `a` on. -/
def State.putEngBytes (g a : Nat) : List Byte → State → State
  | [], s => s
  | b :: bs, s => State.putEngBytes g (a + 1) bs (s.setEngByte g a b)

/-- The little-endian value of `n` bytes. -/
def State.engVal (s : State) (g a n : Nat) : Nat := ofLe (s.engBytes g a n)

/-- A buffer of `n` bytes lies wholly in data or shared memory (R552). -/
def bufferOk (a n : Nat) : Bool :=
  match regionOf a n with
  | some .dmem | some .shared => true
  | _ => false

/-- A byte table from consecutive bytes; zeros are not listed. -/
def bytesTbl : Nat → List Byte → Tbl Byte
  | _, [] => []
  | k, b :: bs => if b = 0 then bytesTbl (k + 1) bs else (k, b) :: bytesTbl (k + 1) bs

/-- Overlays bytes on a byte table. -/
def overlay : Nat → List Byte → Tbl Byte → Tbl Byte
  | _, [], t => t
  | k, b :: bs, t => overlay (k + 1) bs (t.set (fun _ => 0) k b)

/-! ### PSR and modes -/

def psrPri (p : Word) : Nat := fld p 28 4
def psrDepth (p : Word) : Nat := fld p 24 3
def psrBase (p : Word) : Nat := fld p 20 3
def psrTrap (p : Word) : Bool := bit p 9
def psrIe (p : Word) : Bool := bit p 8

/-- PSR bits that exist (Table 15-3). -/
def psrMask : Word := 0xF770031F

/-- A report of a fault of unit `u` waits for its substitution (R707, R711). -/
def State.faultWaits (s : State) (u : Nat) : Bool :=
  (s.health.due ++ s.health.unrecorded ++ s.health.pends.filterMap (·.2)).any fun r => r.unit == u && r.cause == 2

/-- The modes in which engine `g` runs (R520). -/
def State.engineMayRun (s : State) (g : Nat) : Bool :=
  !s.reconf (g / 8) && match s.mode with
    | .operational | .degraded | .service | .reconfiguring => true
    | .standby => s.ctl.prev != .sleep
    | _ => false

/-- Engine `g` executes instructions. -/
def State.engineRuns (s : State) (g : Nat) : Bool :=
  (s.eng g).state == .running && !(s.eng g).dbgHalt && s.engineMayRun g

/-- A running engine of a cluster, waiting ones included (R546, R548). -/
def Engine.live (e : Engine) : Bool := e.state == .running || e.state == .waiting

/-! ### Interrupt sources of an engine (R564, R565, R573) -/

def Cpu.priv (c : Cpu) (i : Nat) : PrivSrc := c.src.get (fun _ => PrivSrc.idle) i
def Cpu.setPriv (i : Nat) (p : PrivSrc) (c : Cpu) : Cpu := { c with src := c.src.set (fun _ => PrivSrc.idle) i p }

/-- Private source `i` is pending: an inbox with an entry not taken while no claim masks it, or a stored state. -/
def State.privPending (s : State) (g i : Nat) : Bool :=
  let e := s.eng g
  if i < 4 then (e.inbox i).any (fun x => !x.taken) && !(e.cpu.priv i).masked else (e.cpu.priv i).pending

/-- Enable and priority of private source `i`. -/
def Cpu.privEnabled (c : Cpu) (i : Nat) : Bool := if i < 32 then bit c.pen0 i else bit c.pen1 (i - 32)
def Cpu.privPri (c : Cpu) (i : Nat) : Nat := fld (c.ppri.getD (i / 8) 0) (4 * (i % 8)) 4

/-- A candidate for selection. -/
structure Cand where
  pri : Nat
  isShared : Bool
  num : Nat
  deriving DecidableEq, Repr

/-- `a` is preferred to `b`: higher priority, then private, then the lower number (R573). -/
def Cand.before (a b : Cand) : Bool :=
  if a.pri ≠ b.pri then b.pri < a.pri
  else if a.isShared ≠ b.isShared then !a.isShared
  else a.num < b.num

/-- Candidates of engine `g`, enables and priorities judged, PSR not. -/
def State.candidates (s : State) (g : Nat) : List Cand :=
  let c := s.cpu g
  let priv := (List.range 64).filterMap fun i =>
    if s.privPending g i && c.privEnabled i && 0 < c.privPri i then some ⟨c.privPri i, false, i⟩ else none
  let shr := s.irq.keys.filterMap fun i =>
    let x := s.src i
    if x.enable && 0 < x.priority && x.targetValid && x.target == g && s.srcPending i then
      some ⟨x.priority, true, i⟩
    else none
  priv ++ shr

/-- The best candidate. -/
def State.topCand (s : State) (g : Nat) : Option Cand :=
  (s.candidates g).foldl (fun best c =>
    match best with
    | none => some c
    | some b => if c.before b then some c else some b) none

/-- The candidate above priority `pri`. -/
def State.selectAbove (s : State) (g pri : Nat) : Option Cand :=
  match s.topCand g with
  | some c => if pri < c.pri then some c else none
  | none => none

/-- The interrupt engine `g` would take now: ie is 1 and the vector table is in use. -/
def State.takeable (s : State) (g : Nat) : Option Cand :=
  let c := s.cpu g
  if psrIe c.psr && bit c.vbase 0 then s.selectAbove g (psrPri c.psr) else none

/-- Claims a source for engine `g`: its count, and the state after (R567). -/
def State.claim (g : Nat) (k : Cand) (s : State) : Nat × State :=
  if k.isShared then
    let x := s.src k.num
    let n := if x.edge then x.count else 0
    (n, s.setSrc k.num { x with pending := false, count := 0, masked := !x.edge })
  else
    let p := (s.cpu g).priv k.num
    (if k.num < 4 then 0 else p.count,
      s.upCpu g (Cpu.setPriv k.num { p with pending := false, count := 0, masked := k.num < 4 }))

/-- Inbox source `i` is sampled again. -/
def State.samplePriv (g i : Nat) (s : State) : State :=
  let before := s.privPending g i
  let s := s.upCpu g fun c => c.setPriv i { c.priv i with masked := false }
  if i < 4 && !before && s.privPending g i then s.noteEngine g else s

/-- Completes a claimed source: a level source is sampled again (R568). -/
def State.complete1 (g : Nat) (k : Bool × Nat) (s : State) : State :=
  if k.1 then
    let before := s.srcPending k.2
    (s.setSrc k.2 { s.src k.2 with masked := false }).noteSrc k.2 before
  else s.samplePriv g k.2

/-- Completes every claim of engine `g` (R577). -/
def State.completeAll (g : Nat) (s : State) : State :=
  (s.each (s.cpu g).claims (State.complete1 g)).upCpu g fun c => { c with claims := [] }

/-- Claim value of Table 16-9. -/
def claimValue (k : Cand) (count : Nat) : Word :=
  wd (2 ^ 31 + b2n k.isShared * 2 ^ 30 + count % 256 * 2 ^ 12 + k.num % 1024)

/-- Word `i` of the vector table. -/
def State.vector (s : State) (g i : Nat) : Nat := s.engVal g (fld (s.cpu g).vbase 6 11 * 64 + 4 * i) 4

/-! ### Halts, frames and traps -/

/-- The engine halts in HALTED_FAULT and raises ENG_FAULT (R504, R558). -/
def State.haltFault (g : Nat) (s : State) : State :=
  (s.upEng g fun e => { e with state := .haltedFault, cpu := { e.cpu with wait := .none } }).raise (.eng g) 0 g
    (fld (s.cpu g).tcause 0 8)

/-- Trap causes of Table 15-15. -/
def trFetch : Nat := 1
def trIllegal : Nat := 2
def trMisaligned : Nat := 3
def trAccess : Nat := 4
def trAbsent : Nat := 5
def trUnitArg : Nat := 6
def trLoop : Nat := 7
def trDivZero : Nat := 8
def trSoftware : Nat := 9
def trBreakpoint : Nat := 10

/-- Writes TCAUSE, TADDR and TVAL. -/
def State.setTrap (g cause addr val : Nat) (s : State) : State :=
  s.upCpu g fun c => { c with tcause := wd cause, taddr := wd addr, tval := wd val }

/-- Address of the frame that an entry writes. -/
def State.frameAddr (s : State) (g : Nat) : Nat := ((s.x g 15) - 32).toNat

/-- The frame of an entry can be written (R558). -/
def State.frameOk (s : State) (g : Nat) : Bool := s.frameAddr g % 8 == 0 && bufferOk (s.frameAddr g) 32

/-- Writes the entry frame of Table 15-16 with return address `ret`; lbase takes ldepth (R545). -/
def State.pushFrame (g ret : Nat) (s : State) : State :=
  let c := s.cpu g
  let a := s.frameAddr g
  let words := [wd ret, c.psr, s.x g 14, s.x g 0, s.x g 1, s.x g 2, s.x g 3, s.x g 4]
  let s := s.putEngBytes g a (words.flatMap fun w => leBytes 4 w.toNat)
  s.upCpu g fun c => { c.setX 15 (wd a) with psr := setFld c.psr 20 3 (psrDepth c.psr) }

/-- An address that instructions can be fetched from (R529, R540). -/
def fetchable (a : Nat) : Bool := a % 4 == 0 && a < 0x20000

/-- Trap entry with its return address (R557, R558). A handler address that cannot be fetched from traps in turn, and
halts the engine. -/
def State.trapAt (g cause addr val ret : Nat) (s : State) : State :=
  let c := s.cpu g
  let s := s.setTrap g cause addr val
  if psrTrap c.psr || !bit c.vbase 0 || !s.frameOk g then s.haltFault g
  else
    let h := s.vector g 0
    let s := (s.pushFrame g ret).upCpu g fun c => { c with psr := setFld c.psr 8 2 2, pc := h }
    if fetchable h then s else (s.setTrap g trFetch h addr).haltFault g

/-- A trap of the instruction at pc, to be repeated on return. -/
def State.trap (g cause val : Nat) (s : State) : State :=
  let a := (s.cpu g).pc
  s.trapAt g cause a val a

/-- Execution continues at `next` after the instruction at `a` (R540). -/
def State.goto (g a next : Nat) (s : State) : State :=
  let s := s.upCpu g fun c => { c with pc := next }
  if fetchable next then s else s.trapAt g trFetch next a next

/-! ### Loops and the next pc (R541 to R545) -/

def Cpu.level (c : Cpu) (i : Nat) : LoopLevel := c.loops.getD i ⟨0, 0, 0⟩
def Cpu.depth (c : Cpu) : Nat := psrDepth c.psr
def Cpu.base (c : Cpu) : Nat := psrBase c.psr
def Cpu.setDepth (n : Nat) (c : Cpu) : Cpu := { c with psr := setFld c.psr 24 3 n }

/-- The loop test of R542 at address `a`: the next pc and the registers after it. -/
def loopNext (a : Nat) : Nat → Cpu → Nat × Cpu
  | 0, c => (a + 4, c)
  | fuel + 1, c =>
    let d := c.depth
    let l := c.level (d - 1)
    if c.base < d ∧ a = l.stop then
      if 1 < l.count then (l.start, { c with loops := c.loops.set (d - 1) { l with count := l.count - 1 } })
      else loopNext a fuel (c.setDepth (d - 1))
    else (a + 4, c)

/-- Pops the levels a taken transfer leaves (R543). -/
def popLeft (a target : Nat) : Nat → Cpu → Cpu
  | 0, c => c
  | fuel + 1, c =>
    let d := c.depth
    let l := c.level (d - 1)
    if c.base < d ∧ (l.start ≤ a ∧ a ≤ l.stop) ∧ ¬(l.start ≤ target ∧ target ≤ l.stop) then
      popLeft a target fuel (c.setDepth (d - 1))
    else c

/-- The instruction has completed (ICNT). -/
def State.completed (g : Nat) (s : State) : State := s.upCpu g fun c => { c with icnt := c.icnt + 1 }

/-- The next pc after the instruction at pc without a taken transfer (R542). -/
def State.nextPc (s : State) (g : Nat) : Nat := (loopNext (s.cpu g).pc 8 (s.cpu g)).1

/-- The instruction at pc completes without a taken transfer. -/
def State.advance (g : Nat) (s : State) : State :=
  let a := (s.cpu g).pc
  let (n, c) := loopNext a 8 (s.cpu g)
  ((s.upCpu g fun _ => c).completed g).goto g a n

/-- A taken transfer that pops the levels it leaves (R543). -/
def State.transfer (g target : Nat) (s : State) : State :=
  let a := (s.cpu g).pc
  ((s.upCpu g (popLeft a target 8)).completed g).goto g a target

/-- A taken transfer that pops no level. -/
def State.jump (g target : Nat) (s : State) : State :=
  let a := (s.cpu g).pc
  (s.completed g).goto g a target

/-! ### Starts and restarts (R507, R518, R527) -/

/-- Memories as the image and its parameters set them up (R507). -/
def Engine.setup (e : Engine) : Engine :=
  match e.image with
  | some m =>
    { e with imem := bytesTbl 0 m.code,
             dmem := overlay (m.paramAddr - 0x10000000) m.params (bytesTbl 0 m.data) }
  | none => e

/-- The current checkpoint slot overwrites its region (R518). -/
def Engine.restore (e : Engine) : Engine :=
  match e.image with
  | some m =>
    if e.ckptValid then
      { e with dmem := overlay (m.ckptAddr - 0x10000000) (if e.ckptCur then e.ckpt1 else e.ckpt0) e.dmem }
    else e
  | none => e

/-- Registers at a start (R527). -/
def Engine.firstCpu (e : Engine) (cause : RestartCause) (restored : Bool) : Cpu :=
  match e.image with
  | some m =>
    let entry := if cause = .cold ∨ m.restartEntry = 0 then m.entry else m.restartEntry
    let c := (((Cpu.start.setX 0 (wd m.paramAddr)).setX 1 (wd m.params.length)).setX 2 (wd cause.code)).setX 15
      0x10010000
    { c.setX 3 (if restored then wd e.ckptSeq else 0xFFFFFFFF) with pc := entry }
  | none => Cpu.start

/-- The engine begins at its entry; it stays stopped in a mode that does not run it. -/
def State.beginEngine (g : Nat) (cause : RestartCause) (restored : Bool) (s : State) : State :=
  let s := s.completeAll g
  let s := s.upEng g fun e =>
    { e with cpu := e.firstCpu cause restored, cause := cause, dbgHalt := false,
             state := if s.engineMayRun g then .running else .stopped }
  let a := (s.cpu g).pc
  s.goto g a a

/-- Cold start at apply step 8 (R507). -/
def State.coldStart (g : Nat) (s : State) : State := s.beginEngine g .cold false

/-- Withdraws the submissions of engine `g` that are not granted (R518 step 1). -/
def State.withdraw (g : Nat) (s : State) : State :=
  let n := (s.waits.filter fun w => w.engine == some g).length
  let s := s.dropWaits fun w => w.engine == some g
  (s.cnt (engBase g + 0x30) n).upEng g fun e => { e with subs := [], done := [] }

/-- A restart of engine `g` (R518); a task released before it is no longer in progress. An engine whose fault waits for
a spare stays in HALTED_FAULT (R707). -/
def State.restartEngine (g : Nat) (cause : RestartCause) (s : State) : State :=
  if (s.eng g).image.isNone || (s.eng g).retired || s.faultWaits (0x1000 + g) then s
  else
    let s := s.withdraw g
    let s := s.upEng g fun e =>
      let e := e.setup.restore
      { e with inboxes := e.inboxes.mapv (fun _ => []) fun (l : List InboxEnt) =>
          l.map fun x => if x.taken then { x with taken := false, redelivered := true } else x }
    let s := s.setTl (40 + g) { s.tl (40 + g) with taskOpen := false }
    ((s.beginEngine g cause (s.eng g).ckptValid).raise (.eng g) 1 g cause.code).countEng g 0

/-- The engine stops with its state kept (R520). -/
def State.stopEngine (g : Nat) (s : State) : State :=
  s.upEng g fun e => if e.live then { e with state := .stopped, cpu := { e.cpu with wait := .none } } else e

end Sys2Proof.Machine
end

