-- ==== Sys2Proof/Machine/Spar.lean ====
section
/-! DEFINITION. Keeper's queue of storage operations (R651, R672) and the port power switches: due outputs and their
starts (R682, R683), inrush, limits and trips (R684 to R691), commands (R692), pass faults (R693) and shedding
(R695, R696). -/
namespace Sys2Proof.Machine

/-! ### Storage operations -/

/-- A storage operation joins the queue; the first starts at once unless PWR_WARN# is asserted (R672). -/
def State.queueOp (op : KOp) (s : State) : State :=
  let k := s.keeper
  { s with keeper := { k with ops := k.ops ++ [op], running := k.running || !s.power.warn } }

/-- A change of the health record is to be stored, once however many changes wait (R722). -/
def State.queueHealth (s : State) : State :=
  let waiting := if s.keeper.running then s.keeper.ops.drop 1 else s.keeper.ops
  if waiting.contains KOp.health then s else s.queueOp .health

/-! ### Outputs -/

/-- Base of output `q`'s registers. -/
def sparBase (q : Nat) : Nat := 0x20000 + 0x20 * q

/-- Cluster of output `q` (Table 20-4). -/
def sparCluster (q : Nat) : Nat := if q < 40 then q / 10 else (q - 40) / 6

/-- Outputs 40 to 63 are PoDL. -/
def sparPodl (q : Nat) : Bool := 40 ≤ q

/-- The output is fitted (R5, R9). -/
def State.hasSpar (s : State) (q : Nat) : Bool := s.fuse.optP && q < 64 && s.hasCluster (sparCluster q)

/-- Updates output `q`. -/
def State.upSpar (q : Nat) (f : Spar → Spar) (s : State) : State := s.setSpar q (f (s.spar q))

/-- Current limit set for output `q`, in mA. -/
def State.sparLimit (s : State) (q : Nat) : Nat := s.rf (sparBase q) 0 8 * 10

/-- Counter `i` of SPAR[q]_CNT. -/
def State.countSpar (q i : Nat) (s : State) : State := s.cnt (sparBase q + 0x10 + 4 * i)

/-- feed_budget_ma; 25 A while no structure sets it (Table 20-11). -/
def State.budgetMa (s : State) : Nat :=
  match s.struct with
  | some x => x.budgetMa
  | none => 25000

/-- Amount output `q` holds of the feed budget (R290). -/
def State.sparHeld (s : State) (q : Nat) : Nat :=
  match s.plan q with
  | some e => e.limit * 10
  | none => if (s.spar q).commanded then s.sparLimit q else 0

/-- Held allocation of the feed budget, in mA (R290). -/
def State.heldMa (s : State) : Nat := if s.fuse.optP then ((List.range 64).map s.sparHeld).sum else 0

/-- The mode permits output `q` (R682). -/
def State.sparPermitted (s : State) (q : Nat) : Bool :=
  match s.mode with
  | .operational | .degraded | .reconfiguring | .service => true
  | .configuring => s.struct.isSome
  | .standby => match s.plan q with | some e => e.onStandby | none => false
  | .sleep => match s.plan q with | some e => e.onSleep | none => false
  | _ => false

/-- The output is due to be powered (R682). -/
def State.sparDue (s : State) (q : Nat) : Bool := s.hasSpar q && (s.spar q).commanded && s.sparPermitted q

/-- Power-good of output `q` changes (R688). -/
def State.setPg (q : Nat) (on : Bool) (s : State) : State :=
  if (s.spar q).pg = on then s
  else (s.upSpar q fun x => { x with pg := on }).raise .spar 0 q (b2n on)

/-- The output leaves its state for one in which it is not powered. -/
def State.sparTo (q : Nat) (st : SparState) (s : State) : State :=
  (s.setPg q false).upSpar q fun x => { x with state := st, queued := false, iOut := 0 }

/-- The output enters SHED under PWR_WARN# (R695). -/
def State.shedWarn (q : Nat) (s : State) : State := ((s.sparTo q .shed).countSpar q 2).raise .spar 5 q 1

/-- The output enters DETECT, or INRUSH if it is a segment output (R683). -/
def State.sparEnter (q : Nat) (s : State) : State :=
  s.upSpar q fun x =>
    if sparPodl q then { x with state := .detect, queued := false, classValid := false }
    else { x with state := .inrush, queued := false }

/-- A due output starts, or enters SHED while PWR_WARN# is asserted (R683, R695). -/
def State.sparStart (q : Nat) (s : State) : State := if s.power.warn then s.shedWarn q else s.sparEnter q

/-- States an output keeps although it is not due (R683). -/
def SparState.stays (st : SparState) : Bool := st == .latched || st == .passFault || st == .retired

/-- One output follows a change of what is due: it switches off, or waits for its turn in plan order (R683, R695). -/
def State.sparFollow (q : Nat) (s : State) : State :=
  let x := s.spar q
  if s.sparDue q then
    if x.state == .off then (if s.power.warn then s.shedWarn q else s.upSpar q fun x => { x with queued := true })
    else if x.state == .shed && !s.power.warn then s.upSpar q fun x => { x with queued := true }
    else s
  else if x.state.stays || x.state == .off then
    if x.queued then s.upSpar q fun x => { x with queued := false } else s
  else s.sparTo q .off

/-- Every output follows a change of mode, plan or PWR_WARN#. -/
def State.sparRefresh (s : State) : State := s.each (List.range 64) State.sparFollow

/-- The first output in plan order that waits for its turn: ascending plan_order, then ascending q. -/
def State.nextStart (s : State) : Option Nat :=
  let order (q : Nat) := ((s.plan q).map (·.planOrder)).getD 0
  (((List.range 64).filter fun q => (s.spar q).queued).mergeSort fun a b => order a ≤ order b).head?

/-- OUTPUT_SEQUENCE_START: t_seq has passed and the next output starts (R683). -/
def State.sequenceStart (s : State) : State :=
  match s.nextStart with
  | some q => s.sparStart q
  | none => s

/-- Clears the commanded bit of the outputs `p` names and lets them follow (R682). -/
def State.clearCommanded (p : Nat → Bool) (s : State) : State :=
  (s.each ((List.range 64).filter p) fun q s =>
    if (s.spar q).commanded then s.upSpar q fun x => { x with commanded := false } else s).sparRefresh

/-- PWR_WARN# asserted: powered outputs are shed (R695). -/
def State.shedAll (s : State) : State :=
  s.each (List.range 64) fun q s =>
    match (s.spar q).state with
    | .detect | .classify | .inrush | .on | .limit => s.shedWarn q
    | _ => s

/-- Allocation check and effect of SPAR_ON: the shortfall in mA if it is refused (R291, Table 20-2). -/
def State.sparOn (q : Nat) (s : State) : Nat × State :=
  let x := s.spar q
  if x.state == .off || x.state == .shed then
    let need := if (s.plan q).isSome then 0 else s.sparLimit q
    if 0 < need ∧ s.budgetMa < s.heldMa + need then (s.heldMa + need - s.budgetMa, s)
    else
      let s := s.upSpar q fun x => { x with commanded := true }
      if s.sparDue q && !(x.state == .shed && s.power.warn) then (0, s.sparStart q) else (0, s)
  else (0, s)

/-- SPAR_OFF (Table 20-2, R691). -/
def State.sparOff (q : Nat) (s : State) : State :=
  let s := s.upSpar q fun x => { x with retries := 0 }
  match (s.spar q).state with
  | .latched | .passFault | .retired => s
  | _ => (s.upSpar q fun x => { x with commanded := false }).sparTo q .off

/-! ### Trips (R685 to R691) -/

/-- Output `q` measures a voltage in 10 mV and a current in mA. -/
def State.sparMeas (q v i : Nat) (s : State) : State := s.upSpar q fun x => { x with vOut := v, iOut := i }

/-- A trip by cause 1 inrush timer, 2 fault timer, 3 short: RETRY_OFF, or LATCHED beyond retry_max (R690, R691). -/
def State.sparTrip (q cause mA : Nat) (s : State) : State :=
  let n := (s.spar q).retries + 1
  let s := (s.countSpar q 0).raise .spar 2 q (cause * 2 ^ 16 + mA % 2 ^ 16)
  if s.rf (sparBase q) 20 4 < n then
    (((s.upSpar q fun x => { x with commanded := false }).sparTo q .latched).countSpar q 1).raise .spar 3 q 0
  else (s.upSpar q fun x => { x with retries := n }).sparTo q .retryOff

def State.portInrushComplete (q v i : Nat) (s : State) : State :=
  if (s.spar q).state == .inrush then (s.sparMeas q v i).upSpar q fun x => { x with state := .on } else s

def State.portInrushTimeout (q mA : Nat) (s : State) : State :=
  if (s.spar q).state == .inrush then s.sparTrip q 1 mA else s

/-- ON to LIMIT: power-good falls and the fault timer starts (R686, R688). -/
def State.portLimit (q v i : Nat) (s : State) : State :=
  if (s.spar q).state == .on then
    (((s.sparMeas q v i).upSpar q fun x => { x with state := .limit }).raise .spar 1 q 0).setPg q false
  else s

def State.portLimitEnd (q v i : Nat) (s : State) : State :=
  if (s.spar q).state == .limit then (s.sparMeas q v i).upSpar q fun x => { x with state := .on } else s

def State.portFaultTimer (q mA : Nat) (s : State) : State :=
  if (s.spar q).state == .limit then s.sparTrip q 2 mA else s

/-- The fast comparator (R687). -/
def State.portShort (q mA : Nat) (s : State) : State :=
  match (s.spar q).state with
  | .inrush | .on | .limit => s.sparTrip q 3 mA
  | _ => s

/-- The off time ends (R690). -/
def State.portRetryEnd (q : Nat) (s : State) : State :=
  if (s.spar q).state != .retryOff then s
  else if s.sparDue q then s.sparStart q
  else s.sparTo q .off

/-- Power-good is asserted in ON, or removed as V_pass leaves its window (R688). -/
def State.portPg (q : Nat) (on : Bool) (v i : Nat) (s : State) : State :=
  if on && (s.spar q).state != .on then s else (s.sparMeas q v i).setPg q on

/-- Power-good has stayed for 1 s (R691). -/
def State.portRetriesReset (q : Nat) (s : State) : State :=
  if (s.spar q).pg then s.upSpar q fun x => { x with retries := 0 } else s

/-- A damaged pass element (R693). -/
def State.portPassFault (q : Nat) (s : State) : State :=
  match (s.spar q).state with
  | .off | .shed | .retryOff | .latched =>
    if !s.hasSpar q then s
    else
      (((s.upSpar q fun x => { x with passFault := true, commanded := false }).sparTo q .passFault).raise .spar 4 q
        0).queueHealth
  | _ => s

/-! ### PoDL detection (R680) -/

/-- A valid PD signature is found: the output powers the pair, or classifies the PD first. -/
def State.pdFound (q cls : Nat) (s : State) : State :=
  if (s.spar q).state != .detect then s
  else if !s.rb (sparBase q) 28 then s.upSpar q fun x => { x with state := .inrush }
  else
    let s := s.upSpar q fun x => { x with classValid := true, cls := cls % 16 }
    if nbit (s.rf (sparBase q + 4) 0 8) (cls % 16) then s.upSpar q fun x => { x with state := .inrush }
    else ((s.upSpar q fun x => { x with state := .classify }).countSpar q 3).raise .spar 6 q (cls % 16)

/-- A detection attempt that finds a PD of class `cls`, or none. -/
def State.detect (q : Nat) (cls : Option Nat) (s : State) : State :=
  match cls with
  | some k => s.pdFound q k
  | none => s

/-- t_cls after CLASS_REFUSED the output enters DETECT and detects again. -/
def State.classRetry (q : Nat) (cls : Option Nat) (s : State) : State :=
  if (s.spar q).state != .classify then s
  else (s.upSpar q fun x => { x with state := .detect, classValid := false }).detect q cls

/-! ### Shedding at the input limit (R696) -/

/-- The powered output with the highest shed_rank, the highest q among equals. -/
def State.shedChoice (s : State) : Option Nat :=
  let powered := (List.range 64).filter fun q =>
    match (s.spar q).state with
    | .inrush | .on | .limit => true
    | _ => false
  powered.foldl (fun best q =>
    match best with
    | some b => if s.rf (sparBase b) 24 4 ≤ s.rf (sparBase q) 24 4 then some q else some b
    | none => some q) none

/-- LIMIT_SHED while the input switch limits. -/
def State.limitShed (s : State) : State :=
  if s.power.sw != .limit then s
  else match s.shedChoice with
    | some q =>
      (((s.upSpar q fun x => { x with commanded := false }).sparTo q .off).countSpar q 2).raise .spar 5 q 2
    | none => s

end Sys2Proof.Machine
end

