-- ==== Sys2Proof/Machine/Clear.lean ====
section
/-! DEFINITION. What a load's target owns, and its clearing (R104, R105, R111, R157). -/
namespace Sys2Proof.Machine

/-- A load's target `t` covers cluster or owner `c`: 4, a FULL stream, covers all. -/
def covers (t c : Nat) : Bool := t == 4 || t == c

/-- The offset lies in a bus lane, Ethernet lane or check unit window of a cluster that target `t` covers. -/
def inLaneWindow (t off : Nat) : Bool :=
  let o := (off - 0x1000000) % 0x400000
  0x1000000 ≤ off && off < 0x2000000 && covers t ((off - 0x1000000) / 0x400000)
    && (o < 0xA0000 || (0x100000 ≤ o && o < 0x160000) || (0x380000 ≤ o && o < 0x3C0000))

/-- learn_cap of channel `n`. -/
def learnCap (s : State) (n : Nat) : Nat := s.rf (busBase n + 0x114) 20 7

/-- The lane and unit registers that target `t` covers take their reset values (R111, Table 22-4). A change of learn_cap
lets NODE_TABLE_FULL be raised again (R146). -/
def State.resetWindows (t : Nat) (s : State) : State :=
  let old := s
  let s := { s with regs := s.regs.keep fun o => !inLaneWindow t o,
                    stage := s.stage.keep fun k => !inLaneWindow t (k % 2 ^ 26) }
  let s := s.each ((List.range 40).filter fun n => covers t (n / 10)) fun n s => s.upLane n fun l =>
    { BusLane.reset with segActive := l.segActive, segSpare := l.segSpare, retired := l.retired, seq := l.seq,
                         nodeFull := l.nodeFull && learnCap old n == learnCap s n }
  s.each ((List.range 24).filter fun p => covers t (p / 6)) fun p s => s.upPort p fun x =>
    { Port.reset with link := x.link, lpiTx := x.lpiTx, lpiRx := x.lpiRx, wakeUntil := x.wakeUntil, seq := x.seq,
                      syncSeq := x.syncSeq, delaySeq := x.delaySeq, retired := x.retired, creditAt := s.beacon.raw }

/-- Empties route `r` and zeroes its counters (R361, R365). -/
def State.clearRoute (r : Nat) (s : State) : State :=
  let s := s.setRoute r []
  { s with routeOwners := s.routeOwners.del r,
           regs := s.regs.keep fun o => !(0xC00000 + 32 * r ≤ o && o < 0xC00020 + 32 * r) }

/-- Cluster of a unit as `Structure.used` numbers it. -/
def usedCluster (u : Nat) : Nat := if u < 40 then u / 10 else if u < 64 then (u - 40) / 6 else (u - 64) / 4

/-- Cluster of an image's unit: an engine, or a tile at 32 + c. -/
def ImageId.cluster (i : ImageId) : Nat := if i.unit < 32 then i.unit / 8 else i.unit - 32

/-- Everything that target `t` owns is cleared: filter slices, routes, contexts, personalities, tiles, windows and
registers (R105, R111). Quotas and plan entries are replaced as they are written. -/
def State.clearOwned (t : Nat) (s : State) : State :=
  let s := s.resetWindows t
  let s := s.each ((List.range 4).filter (covers t)) fun c s =>
    s.setSlice c { Slice.empty with busy := (s.slice c).busy, status := (s.slice c).status }
  let s := s.each (s.routes.keys.filter fun r => ((s.routeOwner r).map (covers t)).getD false) State.clearRoute
  let s := { s with ctxs := s.ctxs.filter fun e => match e.2 with | some x => !covers t x.cluster | none => false }
  let s := s.each ((List.range 32).filter fun g => covers t (g / 8)) fun g s =>
    if (s.eng g).image.isNone then s
    else (s.withdraw g).upEng g fun e =>
      { Engine.unused with retired := e.retired, seq := e.seq, discarded := e.discarded, serving := e.serving,
                           state := if e.retired then .retired else .unused }
  let s := s.each ((List.range 4).filter (covers t)) fun c s =>
    s.setTile c { Tile.none with seq := (s.tile c).seq }
  { s with scheds := s.scheds.keep fun k => !covers t (tlCluster k),
           timelines := s.timelines.keep fun k => !covers t (tlCluster k) }

/-- A partner without quotas; its charges are kept (R295, R296). -/
def Partner.stripped (x : Partner) : Partner :=
  { x with allocated := false, emEligible := false, weight := 0, age := 0, g := 0, b := 0, emMax := 0 }

/-- What remains of an aborted CLUSTER load in apply goes: everything cluster `c` owns, its quotas, its version and its
part of the structure (R104). -/
def State.dropCluster (c : Nat) (s : State) : State :=
  let s := (s.clearOwned c).wr (0x2020 + 4 * c) 0
  let s := s.each (s.partners.keys.filter fun p => (s.partner p).owner == c) fun p s =>
    s.setPartner p (s.partner p).stripped
  { s with struct := s.struct.map fun (x : Structure) =>
      { x with clusters := setBit x.clusters c false, reloaded := x.reloaded.set (fun _ => none) c none,
               used := x.used.keep fun u => usedCluster u != c,
               images := x.images.filter fun i => i.cluster != c, plan := x.plan.keep fun q => sparCluster q != c } }

end Sys2Proof.Machine
end

