-- ==== Sys2Proof/Machine/Modes.lean ====
section
/-! DEFINITION. Mode changes (R43 to R62), the discarding of frames and of the structure (R49, R254, R255, R297), and
the command executor (R63 to R73). -/
namespace Sys2Proof.Machine

/-! ### Lanes and ports follow the mode (Table 2-1, R45 to R47, R50) -/

/-- The channel is out of service although it has not retired (R707, R711, R713). -/
def State.laneOut (s : State) (n : Nat) : Bool :=
  let x := s.spareSlice (n / 10)
  (x.state == .readying && x.lane == some (n % 10)) || s.faultWaits (0x2000 + n)

/-- The channel takes part on its line. -/
def State.busOnLine (s : State) (n : Nat) : Bool :=
  n < 40 && s.hasCluster (n / 10) && !(s.lane n).retired && !s.laneOut n && match s.mode with
    | .test => true
    | .operational | .degraded | .reconfiguring => s.laneUsed n && !s.reconf (n / 10)
    | _ => false

def State.laneFollow (n : Nat) (s : State) : State :=
  if s.busOnLine n then (if (s.lane n).ctl == .quiet then s.laneStart n else s)
  else if (s.lane n).ctl == .quiet then s else s.laneQuiet n

def State.portFollow (p : Nat) (s : State) : State := if s.ethUsable p then s else s.linkDown p

def State.lanesFollow (s : State) : State :=
  (s.each (List.range 40) State.laneFollow).each (List.range 24) State.portFollow

/-- A lane the structure uses has retired: a channel, a port, or an engine with an image (Table 2-2). A port power
switch with a plan entry is no lane in use by R86's measure. DEDUCED (log 85). -/
def State.laneLost (s : State) : Bool :=
  (List.range 40).any (fun n => s.laneUsed n && (s.lane n).retired)
    || (List.range 24).any (fun p => s.laneUsed (40 + p) && (s.port p).retired)
    || (List.range 32).any (fun g => (s.eng g).image.isSome && (s.eng g).retired)

/-- OPERATIONAL, or DEGRADED if a lane in use is retired. -/
def State.runMode (s : State) : Mode := if s.laneLost then .degraded else .operational

/-! ### Discarding frames -/

/-- Frames on their way end: credit and reserved places return, timed and stamped ones DISCARDED (R408). -/
def State.dropTransit (s : State) : State :=
  let s := s.each s.transit fun t s => s.each t.pending fun d s =>
    let s := (s.giveCredit d).portOutcome d
    if d.kind = dHostQ then s.giveToken d.index d.param else s
  let s := s.each s.held fun h s => s.portOutcome h.delivery
  { s with transit := [], held := [] }

/-- What the lanes and ports hold is discarded; `count` where the channels count it (Table 5-17). -/
def State.dropQueued (count : Bool) (s : State) : State :=
  let s := s.each (List.range 40) fun n s => if count then s.laneDiscardCounted n else s.laneDiscard n
  s.each (List.range 24) fun p s =>
    (s.portDiscard p).upPort p fun x => { x with xoffSent := false }

/-- A descriptor as SLEEP leaves it (R254). -/
def Desc.emptied (d : Desc) : Desc :=
  let e := { d with state := .empty, locked := false, commitPending := false, slot := none, job := TxJob.none }
  match d.kind with
  | .unused => d
  | .txStatic => e
  | _ => { e with current := none, shadow := none }

/-- UNLOAD and entry to SLEEP empty the transmit stamp queues (R443). -/
def State.dropStamps (s : State) : State := s.each (List.range 24) fun p s => s.upBport p fun x => { x with tsq := [] }

/-- Cells are discarded as SLEEP is entered (R49, R254, R297, R443). -/
def State.sleepDiscard (s : State) : State :=
  let drop := s.recs.filterMap fun e => match e.2 with
    | some r => if r.static then none else some (e.1, r.partner)
    | none => none
  let s := s.each drop fun e s => s.setPartner e.2 { s.partner e.2 with standby := satAdd 0xFFFFFFFF (s.partner e.2).standby 1 }
  let s := (s.dropTransit.dropQueued true).dropStamps
  let s := s.each s.engines.keys fun g s => s.upEng g fun e => { e with inboxes := [], reserved := [] }
  let s := s.each s.descs.keys fun i s =>
    let d := s.desc i
    let s := s.setDesc i d.emptied
    if d.kind == .txStatic then s.setHw true d.shadow else s
  let s := s.each s.fifos.keys fun f s => s.setFifo f { s.fifo f with count := 0 }
  s.each (drop.map (·.1)) State.freeRecord

/-- No structure: its records, descriptors, quotas, filters, routes, schedules and contexts are gone. The node table
stays (R157). -/
def State.blankStructure (s : State) : State :=
  { s with recs := [], links := [], descs := [], fifos := [], partners := [], books := Books.reset, waits := [],
           slices := [], routes := [], routeOwners := [], tunSeq := [], gwLate := [], gwDown := [],
           hostQs := s.hostQs.mapv (fun _ => HostQ.reset) fun (x : HostQ) =>
             { HostQ.reset with fault := x.fault, seq := x.seq },
           cycle := none, gridK := none, scheds := [], timelines := [], ctxs := [], tiles := [], struct := none }

/-- The structure is discarded with every record it holds (R255, R297, R443, R501). Host queues lose their
HOST_QUEUE entry and end as under R614. DEDUCED (log 31). `count` where the channels count what they discard. -/
def State.dropStructure (count : Bool) (s : State) : State :=
  let s := s.dropTransit.dropQueued count
  let s := s.each s.engines.keys fun g s =>
    let s := s.completeAll g
    s.upEng g fun e => { Engine.unused with
      retired := e.retired, serving := e.serving, state := if e.retired then .retired else .unused }
  let s := s.each s.hostQs.keys fun q s => s.setf (hostQOff q 2) 31 1 0
  let s := s.each (List.range 24) fun p s =>
    s.upPort p fun x => { x with reserved := [], launchReserved := 0 }
  let s := s.each (List.range 40) fun n s => s.upLane n fun l => { l with slots := [], ready := [], reserved := 0 }
  let s := s.each (List.range 4) fun c s => s.wr (0x2020 + 4 * c) 0
  s.blankStructure.refreshAllGates.clearCommanded fun _ => true

/-! ### BRING-UP (R419, R721, R722, R762) -/

/-- Marks a unit retired (Table 21-9). -/
def State.markRetired (u : Nat) (s : State) : State :=
  let i := u % 4096
  match u / 4096 with
  | 1 => s.upEng i fun e => { e with retired := true, state := .retired }
  | 2 => s.upLane i fun l => { l with retired := true }
  | 5 => s.upPort i fun p => { p with retired := true }
  | 6 => s.setUnitDown i true
  | _ => s

/-- Applies a stored health record. -/
def State.applyHealth (r : HealthRec) (s : State) : State :=
  let s := s.each r.retired State.markRetired
  let s := s.each r.sliceServes fun e s => s.setSpareSlice e.1 ⟨.serving, some e.2⟩
  let s := s.each (List.range 4) fun c s =>
    let s := if nbit r.engFailed c then s.upEng (32 + c) fun e => { e with retired := true } else s
    if nbit r.sliceFailed c then s.setSpareSlice c ⟨.failed, none⟩ else s
  let s := s.each r.engServes fun e s => s.upEng (32 + e.1) fun x => { x with serving := some (8 * e.1 + e.2) }
  let s := s.each r.drivers fun e s => s.upLane e.1 fun l => { l with segActive := e.2.1, segSpare := e.2.2 }
  let s := s.each r.passes fun e s => s.upSpar e.1 fun x => { x with segActive := e.2.1, segSpare := e.2.2 }
  let s := s.each r.passFaults fun q s => s.upSpar q fun x => { x with state := .passFault, passFault := true }
  let s := s.each r.outRetired fun q s => s.upSpar q fun x => { x with state := .retired }
  { s with power := { s.power with passFault := r.inputFault }, retiredRows := r.rows, spareRows := r.spareRows,
           health := { s.health with segs := r.segs, badSegs := r.badSegs, firstUf := r.firstUf, lastUf := r.lastUf } }

/-- Reset values but for the identity domain, Keeper storage, the power die and the links. -/
def State.blank (m : Mode) (s : State) : State :=
  { State.reset with
    pending := s.pending, fuse := s.fuse, host := s.host, yw := s.yw,
    power := { s.power with capUf := 0, holdUs := 0 }, free := s.free, out := s.out, nextId := s.nextId,
    ctl := { ModeCtl.reset with mode := m, prev := s.mode, waiting := s.ctl.waiting },
    keeper := { s.keeper with session := none, ops := [], running := false, copied := none } }

/-- Everything returns to its reset value but what the identity domain, Keeper storage and the power die keep. -/
def State.coldReset (m : Mode) (s : State) : State :=
  let k := s.keeper
  let t := (s.blank m).each [0x70, 0x74, 0x78] fun o t => t.wr o (s.rd o)
  let t := t.each (k.beacon.getD []) fun e t => t.wr e.1 e.2
  let t := t.each k.cal fun e t => t.wr (0x30004 + 16 * e.1) (BitVec.ofInt 32 e.2)
  t.applyHealth k.health

/-- A new challenge (R632). -/
def State.newChallenge (s : State) : State :=
  { s.draw with keeper := { s.keeper with challenge := (Config.random s.free).toNat } }

/-! ### The command executor -/

/-- Argument bytes an opcode uses, none for a reserved opcode (Table 2-7). -/
def argBytes (op : Nat) : Option Nat :=
  if op = 1 ∨ op = 2 then some 12 else if op = 0x0E ∨ op = 0x12 then some 1 else if op ≤ 0x14 then some 0 else none

/-- The modes of Table 2-7. -/
def cmdAllowed (op : Nat) (m : Mode) : Bool :=
  let run := m == .operational || m == .degraded
  match op with
  | 0x01 => m == .unconfigured
  | 0x02 | 0x0D | 0x0E => run || m == .reconfiguring
  | 0x03 => run || m == .standby || m == .service
  | 0x04 => run
  | 0x05 | 0x06 => m == .standby
  | 0x07 => run || m == .unconfigured || m == .standby
  | 0x08 | 0x0C | 0x14 => m == .service
  | 0x09 => m == .unconfigured || m == .service
  | 0x0A => m == .test
  | 0x0F | 0x11 | 0x12 => run || m == .reconfiguring || m == .service
  | 0x13 => run || m == .reconfiguring || m == .standby || m == .service
  | _ => match m with
    | .off | .seating | .inrush | .bringUp | .sleep => false
    | _ => true

/-- Modes in which the command queue is serviced (Table 2-1). -/
def queueServiced (m : Mode) : Bool := cmdAllowed 0 m

/-- A fault of the entry's form (R67, R212, R708). A non-zero target where the opcode uses none (Table 2-5) is no such
fault: R67 names reserved and argument bytes alone. DEDUCED (log 84). -/
def badCommand (opcode : Nat) (reserved : List Byte) (args : List Byte) : Bool :=
  match argBytes opcode with
  | none => true
  | some n =>
    reserved.any (· != 0) || (args.drop n).any (· != 0)
      || (opcode == 0x0E && 31 < byteAt args 0) || (opcode == 0x12 && 1 < byteAt args 0)

/-- The octets of a Yewirak frame (Table 17-5). One received with another length or CRC is a row of its own (log 102). -/
def ywFrame (type seq : Nat) (payload : List Byte) : List Byte :=
  let b := leBytes 1 type ++ leBytes 1 seq ++ leBytes 2 payload.length ++ payload
  b ++ leBytes 4 (crc32 b)

/-- Reports a command's completion: bytes 24 to 31 of its entry, or the Yewirak response, and then CMD_DONE (R63,
R64, R623). -/
def State.respond (c : Cmd) (status detail : Nat) (s : State) : State :=
  let bytes := leBytes 2 status ++ [1, 0] ++ leBytes 4 detail
  let s := match c.origin with
    | .host a => if s.hostOpen then s.emit (.hostWrite a bytes) else s
    | .yewirak => match s.yw.open_ with
      | some (t, q, p) =>
        let r := [0, 0] ++ bytes
        { s with yw := { s.yw with open_ := none, last := some (t, q, p, r) } }.emit (.yewirak (ywFrame (t + 0x80) q r))
      | none => s
  s.modRecord 0 status c.tag

/-- Completion statuses of Table 2-6. -/
def cOk : Nat := 0
def cWrongMode : Nat := 1
def cBadCommand : Nat := 2
def cNoUnit : Nat := 3
def cBusy : Nat := 4
def cDenied : Nat := 5
def cBudget : Nat := 6
def cStreamInvalid : Nat := 7
def cAborted : Nat := 8

/-- Begins the execution of a command: of a bad form it ends BAD_COMMAND (R67), outside its modes WRONG_MODE (R68, R69).
Without option P the SPAR commands do too (R9). The flag tells whether it goes on. DESIGN CHOICE (log 97): of a command
that fails both checks only the form is told, and no WRONG_MODE record is written. -/
def State.begin_ (c : Cmd) (s : State) : Bool × State :=
  if c.bad then (false, s.respond c cBadCommand 0)
  else if !cmdAllowed c.opcode s.mode then
    (false, (s.modRecord 1 c.opcode s.mode.code).respond c cWrongMode 0)
  else if 0x0F ≤ c.opcode && c.opcode ≤ 0x11 && !s.fuse.optP then (false, s.respond c cWrongMode 0)
  else (true, { s with ctl := { s.ctl with exec := some c } })

/-- A command arrives at the executor and is taken in order of arrival (R65, R67): `reserved` are its reserved bytes. -/
def State.submitCmd (c : Cmd) (reserved : List Byte) (s : State) : State :=
  let c := { c with bad := badCommand c.opcode reserved c.args }
  if s.ctl.exec.isSome then { s with ctl := { s.ctl with waiting := s.ctl.waiting ++ [c] } }
  else (s.begin_ c).2

/-- The first waiting command that goes on begins. -/
def State.beginNext : List Cmd → State → State
  | [], s => { s with ctl := { s.ctl with waiting := [] } }
  | c :: cs, s =>
    let (go, s) := s.begin_ c
    if go then { s with ctl := { s.ctl with waiting := cs } } else State.beginNext cs s

/-- The executing command completes, and the next one begins. -/
def State.finish (status detail : Nat) (s : State) : State :=
  match s.ctl.exec with
  | none => s
  | some c =>
    let s := { s with ctl := { s.ctl with exec := none } }.respond c status detail
    s.beginNext s.ctl.waiting

/-- The executing command, if its opcode is `op`. -/
def State.executing (s : State) (op : Nat) : Option Cmd :=
  match s.ctl.exec with
  | some c => if c.opcode = op then some c else none
  | none => none

/-! ### Mode changes -/

/-- An open debug session closes (R56, R640): halted engines run on. -/
def State.closeSession (s : State) : State :=
  if s.keeper.session.isNone then s
  else
    let s := { s with keeper := { s.keeper with session := none } }
    let s := s.each s.engines.keys fun g s => s.upEng g fun e => { e with dbgHalt := false }
    s.raise .kpr 2 0 0

/-- A command and every load end as the module enters OFF, SEATING, FAULT-HOLD or BRING-UP (R70). A FULL load leaves
no structure, a CLUSTER load in apply nothing of its cluster's (R104); an autoload copy is not made active. -/
def State.abortWork (s : State) : State :=
  let s := if (s.load 4).isSome then (s.dropStructure false).resetWindows 4
    else s.each (List.range 4) fun c s =>
      if (s.load c).any fun j => j.phase == .apply then s.dropCluster c else s
  let keep (o : KOp) : Bool := match o with | .autoload _ => false | _ => true
  let s := { s with
    loads := [],
    keeper := { s.keeper with
      copied := none,
      running := s.keeper.running && (s.keeper.ops.head?.map keep).getD false,
      ops := s.keeper.ops.filter keep } }
  match s.ctl.exec with
  | some c => { s with ctl := { s.ctl with exec := none, reconfig := 0, holdEnded := 0 } }.respond c cAborted 0
  | none => { s with ctl := { s.ctl with reconfig := 0, holdEnded := 0 } }

/-- Engines that the mode does not run stop (R520). -/
def State.enginesFollow (s : State) : State :=
  s.each s.engines.keys fun g s => if s.engineMayRun g then s else s.stopEngine g

/-- Engines restart as the STANDBY that a wake led to is left (R520). -/
def State.wakeEngines (s : State) : State :=
  s.each s.engines.keys fun g s => if (s.eng g).state == .stopped then s.restartEngine g .wake else s

/-- Tiles start on RESUME (R525). -/
def State.resumeTiles (s : State) : State :=
  { s with tiles := s.tiles.mapv (fun _ => Tile.none) fun e => { e with running := e.image.isSome } }

/-- The modes whose entry disconnects the structure's outputs (R682). -/
def Mode.clearsOutputs : Mode → Bool
  | .unconfigured | .test | .faultHold => true
  | _ => false

/-- An engine with an image stands in STOPPED through SLEEP and the STANDBY after it (R520), unless its fault waits for a
spare (R707). -/
def State.engineSleeps (g : Nat) (s : State) : State :=
  s.upEng g fun e => { e with
    imem := [], dmem := [], cpu := { e.cpu with wait := .none },
    state := if e.image.isSome && !e.retired && !s.faultWaits (0x1000 + g) then .stopped else e.state }

/-- What SLEEP discards and powers down (R49, R163, R520). -/
def State.intoSleep (s : State) : State :=
  let s := s.closeSession.sleepDiscard
  let s := s.each (List.range 40) fun n s => s.upLane n fun l => { l with wakeCause := 0, wakeErr := 0 }
  let s := s.each (List.range 4) fun c s => (s.setf (0x480 + 4 * c) 31 1 0).setf (0x480 + 4 * c) 0 12 0
  let s := s.each s.engines.keys State.engineSleeps
  { s with shared := [],
           tiles := s.tiles.mapv (fun _ => Tile.none) fun e => { e with running := false } }

/-- WAKE# is asserted as SLEEP is left, unless the link is in L0 (R54). -/
def State.wakeHost (s : State) : State := s.setWake (!s.host.up || s.host.l1)

/-- A change between two modes in which the module is configured, or to FAULT-HOLD. -/
def State.changeMode (m : Mode) (s : State) : State :=
  let old := s.mode
  let woke := old == .standby && s.ctl.prev == .sleep
  let s := { s with ctl := { s.ctl with mode := m, prev := old } }
  let s := s.modRecord 5 m.code old.code
  let s := if m == .faultHold then s.closeSession else s
  let s := s.lanesFollow
  let s := match m with
    | .operational | .degraded | .reconfiguring => s
    | _ => s.stopTimelines fun _ => true
  let s := s.enginesFollow
  let s := match m with
    | .standby | .sleep | .service | .test => s.unseeAll
    | _ => s
  let s := if old == .test then
      s.each (List.range 40) fun n s => if s.opMode n = 3 then s.setf (busBase n) 30 2 0 else s
    else s
  let s := if m == .sleep then s.intoSleep else s
  let s := if old == .sleep then { s with mem := [] }.wakeHost else s
  let s := if woke && m != .sleep && m != .faultHold then s.wakeEngines else s
  let s := if old == .standby && (m == .operational || m == .degraded) then s.resumeTiles else s
  if m.clearsOutputs then s.clearCommanded fun _ => true else s.sparRefresh

/-- Commands that waited for an aborted one are judged in the new mode. -/
def State.settle (s : State) : State := if s.ctl.exec.isSome then s else s.beginNext s.ctl.waiting

/-- The mode becomes `m` (R52), from OFF to TEST; FAULT-HOLD is entered through `faultHold`. -/
def State.enterMode (m : Mode) (s : State) : State :=
  if s.mode == m then s
  else match m with
    | .off =>
      let s := s.closeSession.abortWork.coldReset .off
      { s with host := { HostLink.reset with perst := s.host.perst }, yw := Yewirak.reset,
               ctl := { s.ctl with waiting := [] } }.modRecord 5 0 s.ctl.prev.code
    | .seating =>
      let slept := s.mode == .sleep
      let s := s.closeSession.abortWork.coldReset .seating
      let s := if slept then s.wakeHost else s
      (s.modRecord 5 1 s.ctl.prev.code).settle
    | .bringUp =>
      let s := s.abortWork
      let s := s.modRecord 5 3 s.mode.code
      let s := s.closeSession
      (s.coldReset .bringUp).beaconRestart.newChallenge.settle
    | _ => s.changeMode m

/-- A hold cause takes the module to FAULT-HOLD, and is recorded with its detail (R61, R745). DESIGN CHOICE (log 97): a
further cause that arises in FAULT-HOLD changes nothing; the first one stands. -/
def State.faultHold (cause : HoldCause) (detail : Nat) (s : State) : State :=
  if s.mode == .faultHold then s
  else
    let s := s.abortWork
    let s := { s with ctl := { s.ctl with hold := cause, causePresent := cause matches .overtemp | .inputPassFault } }
    let t := s.stamp
    let s := (s.wr 0x70 (wd (2 ^ 31 + cause.code * 2 ^ 16 + detail % 2 ^ 16))).wr 0x74 (wd t)
    ((s.wr 0x78 (wd (t / 2 ^ 32))).changeMode .faultHold).settle

end Sys2Proof.Machine
end

