-- ==== Sys2Proof/Machine/Health.lean ====
section
/-! DEFINITION. Health and spares (R702 to R722): reports, approval, substitution, retirement and self-test. A unit is
named by its code of Table 21-9; spare engines and spare slices by 0x1000 + 32 + c and 0x2000 + 40 + c. -/
namespace Sys2Proof.Machine

/-- Kinds of Table 21-9. -/
def kEngine : Nat := 1
def kSlice : Nat := 2
def kDriver : Nat := 3
def kPass : Nat := 4
def kPort : Nat := 5
def kCheck : Nat := 6

def unitKind (u : Nat) : Nat := u / 4096
def unitIndex (u : Nat) : Nat := u % 4096
def mkUnit (kind i : Nat) : Nat := kind * 4096 + i

/-- Counter `i` of HLT_CNT. -/
def State.countHlt (i : Nat) (s : State) (n : Nat := 1) : State := s.cnt (0x22020 + 4 * i) n

/-- Group whose spares serve a unit: a cluster's engines or slices, a transceiver, a switch (R703). -/
def groupOf (u : Nat) : Nat :=
  let i := unitIndex u
  match unitKind u with
  | 1 => 0x1000 + i / 8
  | 2 => 0x2000 + i / 10
  | 3 | 4 => u / 16 * 16
  | _ => u

/-- Cluster of a unit. -/
def unitCluster (u : Nat) : Nat :=
  let i := unitIndex u
  match unitKind u with
  | 1 => if i < 32 then i / 8 else i - 32
  | 2 => if i < 40 then i / 10 else i - 40
  | 3 => i / 16 / 10
  | 4 => sparCluster (i / 16)
  | 5 => i / 6
  | _ => i / 4

/-! ### Segments -/

/-- Key of a segment unit's set in `Health.segs`. -/
def segKey (u : Nat) : Nat := (if unitKind u = kPass then 64 else 0) + unitIndex u / 16

def State.segMask (s : State) (u : Nat) : Nat := s.health.segs.get (fun _ => 0xFF) (segKey u)
def State.segBad (s : State) (u : Nat) : Nat := s.health.badSegs.get (fun _ => 0) (segKey u)

/-- Spare segments of the unit's set, and segments in use. -/
def State.segSpares (s : State) (u : Nat) : Nat :=
  if unitKind u = kPass then (s.spar (unitIndex u / 16)).segSpare else (s.lane (unitIndex u / 16)).segSpare

/-- Changes the counts of a segment unit's set. -/
def State.setSegs (u : Nat) (f : Nat × Nat → Nat × Nat) (s : State) : State :=
  let i := unitIndex u / 16
  if unitKind u = kPass then
    s.upSpar i fun x =>
      let y := f (x.segActive, x.segSpare)
      { x with segActive := y.1, segSpare := y.2 }
  else
    s.upLane i fun x =>
      let y := f (x.segActive, x.segSpare)
      { x with segActive := y.1, segSpare := y.2 }

/-- Segment `k` of the unit's set is in service, or has failed. -/
def State.setMasks (u : Nat) (use bad : Nat → Nat) (s : State) : State :=
  { s with health := { s.health with
      segs := s.health.segs.set (fun _ => 0xFF) (segKey u) (use (s.segMask u)),
      badSegs := s.health.badSegs.set (fun _ => 0) (segKey u) (bad (s.segBad u)) } }

/-! ### Units and spares -/

/-- The unit is one of the module's, and it has not retired. -/
def State.unitLive (s : State) (u : Nat) : Bool :=
  let i := unitIndex u
  s.hasCluster (unitCluster u) && match unitKind u with
    | 1 => i < 32 && !(s.eng i).retired
    | 2 => i < 40 && !(s.lane i).retired
    | 3 => i / 16 < 40 && i % 16 < 10 && !(s.lane (i / 16)).retired && !nbit (s.segBad u) (i % 16)
    | 4 => s.hasSpar (i / 16) && i % 16 < 10 && (s.spar (i / 16)).state != .retired && !nbit (s.segBad u) (i % 16)
    | 5 => i < 24 && !(s.port i).retired
    | 6 => i < 16 && !s.unitDown i
    | _ => false

/-- A retired unit that HLT_RETEST may name (R720, Table 21-11). -/
def State.unitRetired (s : State) (u : Nat) : Bool :=
  let i := unitIndex u
  s.hasCluster (unitCluster u) && match unitKind u with
    | 1 => i < 32 && (s.eng i).retired
    | 2 => i < 40 && (s.lane i).retired
    | 3 => i / 16 < 40 && i % 16 < 10 && (s.lane (i / 16)).retired
    | 5 => i < 24 && (s.port i).retired
    | 6 => i < 16 && s.unitDown i
    | _ => false

/-- The spare engine of cluster `c` serves nothing and works. -/
def State.engSpareFree (s : State) (c : Nat) : Bool :=
  s.hasCluster c && !(s.eng (32 + c)).retired && (s.eng (32 + c)).serving.isNone

def State.sliceSpareFree (s : State) (c : Nat) : Bool := s.hasCluster c && (s.spareSlice c).state == .idle

/-- A spare of the unit's group is available (R703, R704). -/
def State.spareFree (s : State) (u : Nat) : Bool :=
  match unitKind u with
  | 1 => s.engSpareFree (unitCluster u)
  | 2 => s.sliceSpareFree (unitCluster u)
  | 3 | 4 => 0 < s.segSpares u
  | _ => false

/-- A substitution takes place without approval (R705, R706). -/
def State.autoPolicy (s : State) (u cause : Nat) : Bool :=
  let p := s.rf 0x22000 (2 * (unitKind u - 1)) 2
  p == 0 || (cause == 2 && (p == 1 || s.mode == .bringUp))

/-- The health record as the module stands (R721). -/
def State.healthRec (s : State) : HealthRec :=
  let bits (p : Nat → Bool) : Nat := (List.range 4).foldl (fun n c => setBit n c (p c)) 0
  let live (k n : Nat) (p : Nat → Bool) : List Nat := ((List.range n).filter p).map (mkUnit k)
  { retired := live kEngine 32 (fun g => (s.eng g).retired) ++ live kSlice 40 (fun n => (s.lane n).retired)
      ++ live kPort 24 (fun p => (s.port p).retired) ++ live kCheck 16 s.unitDown,
    engFailed := bits fun c => (s.eng (32 + c)).retired,
    sliceFailed := bits fun c => (s.spareSlice c).state == .failed,
    engServes := (List.range 4).filterMap fun c => (s.eng (32 + c)).serving.map fun g => (c, g % 8),
    sliceServes := (List.range 4).filterMap fun c => (s.spareSlice c).lane.map fun l => (c, l),
    drivers := (List.range 40).filterMap fun n =>
      let l := s.lane n
      if l.segActive = 8 ∧ l.segSpare = 2 then none else some (n, l.segActive, l.segSpare),
    passes := (List.range 64).filterMap fun q =>
      let x := s.spar q
      if x.segActive = 8 ∧ x.segSpare = 2 then none else some (q, x.segActive, x.segSpare),
    rows := s.retiredRows, spareRows := s.spareRows,
    passFaults := (List.range 64).filter fun q => (s.spar q).passFault,
    outRetired := (List.range 64).filter fun q => (s.spar q).state == .retired,
    inputFault := s.power.passFault, segs := s.health.segs, badSegs := s.health.badSegs,
    firstUf := s.health.firstUf, lastUf := s.health.lastUf }

/-! ### Retirement (R718, Table 21-5) -/

/-- `n` discarded or released frames of a retiring unit. -/
def State.retireDiscard (n : Nat) (s : State) : State := s.countHlt 6 n

/-- Each routed frame counts in the dest_down counter of its record's route. -/
def State.routedDown (records : List Nat) (s : State) : State :=
  s.each records fun c s => if (s.frameOf c).route < 32768 then s.destDown (s.frameOf c).route else s

/-- What a retiring channel releases. -/
def State.releaseLane (n : Nat) (s : State) : State :=
  let l := s.lane n
  let records := (l.slots.map (·.desc) ++ l.ready).filterMap fun i => (s.desc i).current
  ((((s.routedDown records).retireDiscard records.length).laneFollow n).laneDiscard n).stopTimelines (· == n)

/-- What a retiring port releases. -/
def State.releasePort (p : Nat) (s : State) : State :=
  let x := s.port p
  let n := ((List.range 8).flatMap x.queue).length + x.launches.length + x.tx.toList.length + x.suspended.toList.length
  ((s.retireDiscard n).linkDown p).portDiscard p

/-- What a retiring engine releases. -/
def State.releaseEngine (g : Nat) (s : State) : State :=
  let s := s.withdraw g
  let es := (List.range 4).flatMap (s.eng g).inbox
  let s := ((s.routedDown (es.map (·.record))).retireDiscard es.length).dropRefs (es.map (·.record))
  let s := (s.upEng g fun e => { e with inboxes := [], cpu := { e.cpu with wait := .none } }).completeAll g
  s.stopTimelines fun t => t == 40 + g

/-- Every report of unit `u` is dropped. -/
def State.dropReports (u : Nat) (s : State) : State :=
  { s with health := { s.health with
      due := s.health.due.filter fun (r : Report) => r.unit != u,
      unrecorded := s.health.unrecorded.filter fun (r : Report) => r.unit != u,
      pends := s.health.pends.mapv (fun _ => none) fun (x : Option Report) =>
        if x.any (fun r => r.unit == u) then none else x } }

/-- The unit that retires when unit `u` does: a driver segment's channel. -/
def retiringUnit (u : Nat) : Nat := if unitKind u = kDriver then mkUnit kSlice (unitIndex u / 16) else u

/-- A unit retires. -/
def State.retire (u : Nat) (s : State) : State :=
  let s := s.dropReports u
  let u := retiringUnit u
  if unitKind u = kPass || !s.unitLive u then s
  else
    let s := ((s.markRetired u).raise .hlt 2 u 2).countHlt 1
    let i := unitIndex u
    let s := match unitKind u with
      | 1 => s.releaseEngine i
      | 2 => s.releaseLane i
      | 5 => s.releasePort i
      | _ => s
    let s := s.queueHealth
    if s.mode == .operational && s.laneLost then s.changeMode .degraded else s

/-! ### Reports (R704, R707, R709) -/

/-- The lowest free entry of HLT_PEND. -/
def State.freePend (s : State) : Option Nat := (List.range 64).find? fun i => (s.pend i).isNone

/-- A report takes an entry of HLT_PEND and raises SPARE_PENDING, or waits unrecorded. -/
def State.pendReport (r : Report) (s : State) : State :=
  match s.freePend with
  | some i => (s.setPend i (some r)).raise .hlt 0 r.unit r.cause
  | none => { s with health := { s.health with unrecorded := s.health.unrecorded ++ [r] } }

/-- Entries that have freed are taken by reports that wait unrecorded. -/
def State.fillPend (s : State) : State :=
  s.each s.health.unrecorded fun r s =>
    if s.freePend.isSome then
      { s with health := { s.health with unrecorded := s.health.unrecorded.erase r } }.pendReport r
    else s

/-- WEAR_NO_SPARE, once for unit `u`; `name` is its code in the record (R704). -/
def State.wearNoSpare (u name : Nat) (s : State) : State :=
  if s.health.told.contains u then s
  else { s with health := { s.health with told := u :: s.health.told } }.raise .hlt 3 name 1

/-- Judges a report (R704). -/
def State.judge (r : Report) (s : State) : State :=
  if s.spareFree r.unit then
    if s.autoPolicy r.unit r.cause then { s with health := { s.health with due := s.health.due ++ [r] } }
    else s.pendReport r
  else if r.cause = 2 then s.retire r.unit
  else s.wearNoSpare r.unit r.unit

/-- Report already made for a unit, if any. -/
def State.reportOf (s : State) (u : Nat) : Option Report :=
  (s.health.due ++ s.health.unrecorded ++ s.health.pends.filterMap (·.2)).find? fun r => r.unit == u

/-- A faulty unit goes out of service (R504, R707, R713): an engine in HALTED_FAULT, whatever held it before. -/
def State.outOfService (u : Nat) (s : State) : State :=
  let i := unitIndex u
  match unitKind u with
  | 1 => match (s.eng i).state with
    | .unused | .haltedFault | .retired => s
    | _ => s.haltFault i
  | 2 => s.laneFollow i
  | _ => s

/-- A spare engine or spare slice fails: idle it leaves its pool, serving it leaves its lane without one (R717). -/
def State.spareFails (kind c : Nat) (s : State) : State :=
  let served := if kind = kEngine then (s.eng (32 + c)).serving.map (mkUnit kEngine)
    else (s.spareSlice c).lane.map fun l => mkUnit kSlice (10 * c + l)
  let s := if kind = kEngine then s.upEng (32 + c) fun e => { e with retired := true, serving := none }
    else s.setSpareSlice c ⟨.failed, none⟩
  match served with
  | some u => s.retire u
  | none => (s.raise .hlt 4 (Config.spareUnit kind c) 2).queueHealth

/-- An idle spare segment fails (R717). -/
def State.segFails (u : Nat) (s : State) : State :=
  let k := unitIndex u % 16
  let s := (s.setSegs u fun y => (y.1, y.2 - 1)).setMasks u id fun b => setBit b k true
  (s.raise .hlt 4 u 2).queueHealth

/-- The unit is an idle spare segment. -/
def State.idleSegment (s : State) (u : Nat) : Bool :=
  (unitKind u == kDriver || unitKind u == kPass) && !nbit (s.segMask u) (unitIndex u % 16)

/-- Every report whose group's spare has gone is judged again (R710). -/
def State.rejudge (s : State) : State :=
  let busy (u : Nat) : Bool := unitKind u == kSlice &&
    (s.spareSlice (unitCluster u)).state == .readying && (s.spareSlice (unitCluster u)).lane == some (unitIndex u % 10)
  let again := (s.health.due ++ s.health.pends.filterMap (·.2) ++ s.health.unrecorded).filter fun r =>
    !s.spareFree r.unit && !busy r.unit
  let s := s.each again fun r s => s.dropReports r.unit
  (s.each again State.judge).fillPend

/-- A report of wear (1) or a fault (2) of a unit. Wear that was declined is told again only as WEAR_NO_SPARE (R708). -/
def State.report (r : Report) (s : State) : State :=
  let u := r.unit
  let i := unitIndex u
  if unitKind u = kEngine ∧ 32 ≤ i ∧ i < 36 then
    if !s.hasCluster (i - 32) || (s.eng i).retired then s
    else if r.cause = 2 then (s.spareFails kEngine (i - 32)).rejudge
    else s.wearNoSpare u (Config.spareUnit kEngine (i - 32))
  else if unitKind u = kSlice ∧ 40 ≤ i ∧ i < 44 then
    if !s.hasCluster (i - 40) || (s.spareSlice (i - 40)).state == .failed then s
    else if r.cause = 2 then (s.spareFails kSlice (i - 40)).rejudge
    else s.wearNoSpare u (Config.spareUnit kSlice (i - 40))
  else if !s.unitLive u || (unitKind u = kPass && r.cause = 2) then s
  else if s.idleSegment u then
    if r.cause = 2 then (s.segFails u).rejudge
    else s.wearNoSpare u u
  else match s.reportOf u with
    | some old =>
      if old.cause = 2 ∨ r.cause = 1 then s
      else
        -- a wear entry becomes a fault entry (R709)
        let wasDue := s.health.due.any fun x => x.unit == u
        let s := if wasDue then
            { s with health := { s.health with
                due := s.health.due.map fun (x : Report) => if x.unit = u then r else x } }
          else if s.rf 0x22000 (2 * (unitKind u - 1)) 2 < 2 then
            { (s.dropReports u) with health := { (s.dropReports u).health with due := s.health.due ++ [r] } }.fillPend
          else
            let up (x : Option Report) : Option Report := if x.any (fun y => y.unit == u) then some r else x
            { s with health := { s.health with
                pends := s.health.pends.mapv (fun _ => none) up,
                unrecorded := s.health.unrecorded.map fun (x : Report) => if x.unit = u then r else x } }
        s.outOfService u
    | none =>
      if r.cause = 1 ∧ s.health.declined.contains u ∧ s.spareFree u then s
      else
        let s := s.judge r
        if r.cause = 2 then s.outOfService u else s

/-- Reports that arrive together are taken in ascending unit index within their group (R710). -/
def State.reports (rs : List Report) (s : State) : State :=
  s.each (rs.mergeSort fun a b => a.unit ≤ b.unit) State.report

/-! ### Approval (R708) -/

/-- Approves or declines entry `i`. -/
def State.approve (i : Nat) (decline : Bool) (s : State) : State :=
  match s.pend i with
  | none => s
  | some r =>
    let s := s.setPend i none
    let s := if decline then
        let s := s.countHlt 5
        if r.cause = 2 then s.retire r.unit
        else { s with health := { s.health with declined := r.unit :: s.health.declined } }
      else { s with health := { s.health with due := s.health.due ++ [r] } }
    s.fillPend

/-! ### Substitution (R710 to R715) -/

/-- The first substitution due in the unit's group, if it is the unit's and may start now (R710, R715). -/
def State.dueNow (s : State) (u : Nat) : Option Report :=
  match s.health.due.find? fun r => groupOf r.unit == groupOf u with
  | some r =>
    if r.unit == u && !s.reconf (unitCluster u) && s.mode != .sleep && s.spareFree u then some r else none
  | none => none

/-- The margin of an engine or slice counts its low readings anew (R702). -/
def State.freshMargin (u : Nat) (s : State) : State :=
  if kSlice < unitKind u then s
  else
    let i := if unitKind u = kEngine then unitIndex u else 36 + unitIndex u
    { s with health := { s.health with low := s.health.low.set (fun _ => 0) i 0 } }

/-- A substitution has been made: SPARE_DONE, the count, and the reports that lost their spare. -/
def State.substituted (r : Report) (info : Nat) (s : State) : State :=
  ((((s.dropReports r.unit).freshMargin r.unit).raise .hlt 1 r.unit info).countHlt 0).queueHealth.rejudge

/-- A substitution that is due does not wait for a quiet moment (R715). -/
def State.atOnce (s : State) : Bool := s.mode == .standby || s.mode == .service

/-- ENGINE_SUBSTITUTION: on wear it waits for a checkpoint or for 100 ms after it became due (R711, R712), in STANDBY and
SERVICE for neither (R715). -/
def State.engineSubstitution (g : Nat) (timeout : Bool) (s : State) : State :=
  match s.dueNow (mkUnit kEngine g) with
  | none => s
  | some r =>
    if r.cause = 1 && !timeout && !s.atOnce && !s.health.checkpointed.contains g then s
    else
      let s := (s.dropReports r.unit).upEng (32 + g / 8) fun e => { e with serving := some g }
      let s := { s with health := { s.health with checkpointed := s.health.checkpointed.filter (· != g) } }
      let s := if (s.eng g).image.isSome then s.restartEngine g .spare
        else s.upEng g fun e => { e with state := .unused }
      s.substituted r r.cause

/-- The channel is at a bus idle outside its REFERENCE and EXCLUSIVE windows (R711). -/
def State.idleOutside (s : State) (n : Nat) : Bool :=
  ((s.lane n).ctl == .idle || (s.lane n).ctl == .quiet) && match (s.tl n).current with
    | some w => w.win.type != .reference && w.win.type != .exclusive
    | none => true

/-- The old slice stops and the spare readies itself. -/
def State.sliceStart (n : Nat) (s : State) : State :=
  match s.dueNow (mkUnit kSlice n) with
  | none => s
  | some r =>
    if r.cause = 1 && !s.atOnce && !s.idleOutside n then s
    else ((s.laneQuiet n).setSpareSlice (n / 10) ⟨.readying, some (n % 10)⟩).rejudge

/-- The spare is ready: it serves the channel, with the old counters if their parity is good (R713). -/
def State.sliceDone (n : Nat) (parityOk : Bool) (s : State) : State :=
  let c := n / 10
  if (s.spareSlice c).state != .readying || (s.spareSlice c).lane != some (n % 10) then s
  else
    let r := (s.reportOf (mkUnit kSlice n)).getD ⟨mkUnit kSlice n, 2⟩
    let s := (s.setSpareSlice c ⟨.serving, some (n % 10)⟩).dropReports r.unit
    let s := s.upLane n fun l =>
      let l := if parityOk then l else { l with tec := 0, recv := 0, conf := .active, recovering := false, ew := false }
      { l with ctl := if !s.busOnLine n then .quiet else if l.conf == .busOff then .recovering else .integrating }
    s.substituted r (r.cause + (if parityOk then 0 else 256))

def State.sliceSubstitution (n : Nat) (done parityOk : Bool) (s : State) : State :=
  if done then s.sliceDone n parityOk else s.sliceStart n

/-- Segment `u` of a driver or switch leaves service for a spare, which is switched in first (R714). Spares are taken
lowest first. DESIGN CHOICE (log 32). -/
def State.swapSegment (u : Nat) (s : State) : State :=
  let k := unitIndex u % 16
  let free := [8, 9].find? fun j => !nbit (s.segMask u) j && !nbit (s.segBad u) j
  (s.setSegs u fun y => (y.1, y.2 - 1)).setMasks u
    (fun m => setBit (match free with | some j => setBit m j true | none => m) k false) fun b => setBit b k true

/-- SEGMENT_SUBSTITUTION of a driver or pass segment (R714). -/
def State.segmentSubstitution (u : Nat) (s : State) : State :=
  match s.dueNow u with
  | none => s
  | some r =>
    if unitKind u ≠ kDriver ∧ unitKind u ≠ kPass then s
    else if unitKind u = kDriver ∧ r.cause = 1 ∧ !s.atOnce ∧ !((s.lane (unitIndex u / 16)).ctl == .idle
        || (s.lane (unitIndex u / 16)).ctl == .quiet) then s
    else (s.swapSegment u).substituted r r.cause

/-! ### SPAR_CLEAR (Table 20-2, R691, R694) -/

/-- Segment `k` of output `q`'s switch. -/
def passUnit (q k : Nat) : Nat := mkUnit kPass (16 * q + k)

/-- Output `q` retires: its reports are dropped, and UNIT_RETIRED names its lowest damaged segment `k`. DESIGN CHOICE
(log 99): Table 21-9 has no code of a whole switch. -/
def State.retireOutput (q k : Nat) (s : State) : State :=
  let s := s.each (List.range 10) fun j s => s.dropReports (passUnit q j)
  (((s.sparTo q .retired).raise .hlt 2 (passUnit q k) 2).countHlt 1).queueHealth

/-- The test of R694 finds the segments of the mask `damaged`: idle ones fail (R717), spares replace those in service and
the guard closes, or the output retires. -/
def State.passTest (q damaged : Nat) (s : State) : State :=
  let found := (List.range 10).filter fun k => nbit damaged k && !nbit (s.segBad (passUnit q 0)) k
  let used := found.filter fun k => nbit (s.segMask (passUnit q 0)) k
  let s := (s.each (found.filter fun k => !used.contains k) fun k s => s.segFails (passUnit q k)).rejudge
  if used.length ≤ s.segSpares (passUnit q 0) then
    let s := s.each used fun k s => (s.swapSegment (passUnit q k)).substituted ⟨passUnit q k, 2⟩ 2
    ((s.upSpar q fun x => { x with passFault := false }).sparTo q .off).queueHealth
  else s.retireOutput q (used.headD 0)

/-- SPAR_CLEAR; the test in SERVICE finds the segments of the mask `damaged`. -/
def State.sparClear (q damaged : Nat) (s : State) : State :=
  let s := s.upSpar q fun x => { x with retries := 0 }
  let free := s.upSpar q fun x => { x with commanded := false }
  match (s.spar q).state with
  | .retryOff | .latched => free.sparTo q .off
  | .passFault => if s.mode == .service then free.passTest q damaged else s
  | _ => s

/-! ### Self-test of a retired unit (R720) -/

/-- The self-test of the unit under HLT_RETEST ends. -/
def State.retestDone (pass : Bool) (s : State) : State :=
  match s.health.retest with
  | none => s
  | some u =>
    let s := if pass then s.freshMargin (retiringUnit u) else s
    let s := { s with health := { s.health with retest := none } }.setf 0x22008 30 1 (b2n pass)
    let i := unitIndex (retiringUnit u)
    let s := if pass then
        let s := match unitKind (retiringUnit u) with
          | 1 => s.upEng i fun e => { e with retired := false, state := if e.image.isSome then .stopped else .unused }
          | 2 => s.upLane i fun l => { l with retired := false }
          | 5 => s.upPort i fun p => { p with retired := false }
          | 6 => s.setUnitDown i false
          | _ => s
        s.queueHealth
      else s
    s.raise .hlt 7 u (b2n pass)

/-- The modes in which the monitors of Table 21-1 run (R702). -/
def Mode.monitors : Mode → Bool
  | .operational | .degraded | .reconfiguring | .standby | .service => true
  | _ => false

/-- A monitor reports a unit (R702). -/
def State.monitorReport (r : Report) (s : State) : State := if s.mode.monitors then s.report r else s

/-- MARGIN_EVALUATION: margins by HLT_MARGIN index, and the reports of the other monitors (R702, Table 21-1). -/
def State.marginEvaluation (margins : List (Nat × Nat)) (rs : List Report) (s : State) : State :=
  if !s.mode.monitors then s
  else
    let unitOf (i : Nat) : Nat := if i < 36 then mkUnit kEngine i else mkUnit kSlice (i - 36)
    let ms := margins.filter fun m => m.1 < 80
    let s := s.each ms fun m s =>
      let n := if m.2 < 10 then min 16 (s.health.low.get (fun _ => 0) m.1 + 1) else 0
      let s := s.wr (0x22200 + 4 * m.1) (wd (min 255 m.2))
      { s with health := { s.health with low := s.health.low.set (fun _ => 0) m.1 n } }
    let worn := ms.filter fun m => s.health.low.get (fun _ => 0) m.1 == 16
    s.reports (worn.map (fun m => ⟨unitOf m.1, 1⟩) ++ rs.filter fun r => r.cause == 1 || r.cause == 2)

end Sys2Proof.Machine
end

