-- ==== Sys2Proof/Machine/Operands.lean ====
section
/-! DEFINITION. Genat instructions, their words and the decoder (R529 to R532, Tables 15-6 to 15-9 and 15-13). -/
namespace Sys2Proof.Machine

/-- Register operations with two sources (opcodes 0x01 to 0x13, 0x17 and 0x18). -/
inductive Reg3 where
  | add | sub | adc | sbc | and | or | xor | andn | sll | srl | sra | rot | mul | mulhs | mulhu
  | div | divu | rem | remu | adds | subs
  deriving DecidableEq, Repr

/-- Register operations with one source. -/
inductive Reg2 where
  | neg | abs | abss | clz | brev | bswap
  deriving DecidableEq, Repr

inductive ImmOp where
  | addi | andi | ori | xori
  deriving DecidableEq, Repr

inductive LoadOp where
  | ldw | ldh | ldhu | ldb | ldbu | ldd
  deriving DecidableEq, Repr

inductive StoreOp where
  | stw | sth | stb | std
  deriving DecidableEq, Repr

inductive AtomOp where
  | swap | fadd | fand | for_ | fxor | cas
  deriving DecidableEq, Repr

inductive CsrOp where
  | csrr | csrw | csrs | csrc
  deriving DecidableEq, Repr

/-- Functions of units 0 to 2 (Table 15-13). -/
inductive UnitFn where
  | ident | image | checkpoint | rate | take | release | hdr | data | copy | submit | done
  | now | sechi | frac | waitUntil | taskDone | tsqPop | tsqStamp
  deriving DecidableEq, Repr

/-- A decoded instruction. Immediates and offsets are the field as it stands, sign not extended. -/
inductive Op where
  | reg3 (f : Reg3) (rd ra rb : Nat)
  | reg2 (f : Reg2) (rd ra : Nat)
  | ext (rd ra pos len : Nat) (sign : Bool)
  | ins (rd ra pos len : Nat)
  | immed (f : ImmOp) (rd ra v : Nat)
  | shi (rd ra kind n : Nat)
  | lui (rd v : Nat)
  | cmp (ra rb : Nat) | cmpi (ra v : Nat) | tst (ra rb : Nat)
  | load (f : LoadOp) (rd ra v : Nat)
  | store (f : StoreOp) (rd ra v : Nat)
  | atom (f : AtomOp) (rd ra rb : Nat)
  | bc (cond off : Nat) | cb (nonzero : Bool) (ra off : Nat)
  | jmp (off : Nat) | call (off : Nat) | jr (ra : Nat) | callr (ra : Nat)
  | loop (ra len : Nat) | loopi (count len : Nat) | lexit (k : Nat)
  | nop | wfe | sev | reti | trap (v : Nat) | break_ (v : Nat)
  | csr (f : CsrOp) (r num : Nat) | ei | di
  | unit (f : UnitFn) (rd ra rb : Nat)
  | crc (j rd ra rb : Nat)
  | tile (fn rd ra rb imm : Nat)
  | absent (unit fn rd ra rb : Nat)
  deriving DecidableEq, Repr

def Reg3.code : Reg3 → Nat
  | .add => 1 | .sub => 2 | .adc => 3 | .sbc => 4 | .and => 5 | .or => 6 | .xor => 7 | .andn => 8
  | .sll => 9 | .srl => 10 | .sra => 11 | .rot => 12 | .mul => 13 | .mulhs => 14 | .mulhu => 15
  | .div => 16 | .divu => 17 | .rem => 18 | .remu => 19 | .adds => 0x17 | .subs => 0x18

def Reg2.code : Reg2 → Nat
  | .neg => 0x14 | .abs => 0x15 | .abss => 0x16 | .clz => 0x19 | .brev => 0x1A | .bswap => 0x1B

def ImmOp.code : ImmOp → Nat
  | .addi => 0x1E | .andi => 0x1F | .ori => 0x20 | .xori => 0x21

def LoadOp.code : LoadOp → Nat
  | .ldw => 0x27 | .ldh => 0x28 | .ldhu => 0x29 | .ldb => 0x2A | .ldbu => 0x2B | .ldd => 0x2F

def StoreOp.code : StoreOp → Nat
  | .stw => 0x2C | .sth => 0x2D | .stb => 0x2E | .std => 0x30

def AtomOp.code : AtomOp → Nat
  | .swap => 0 | .fadd => 1 | .fand => 2 | .for_ => 3 | .fxor => 4 | .cas => 5

def CsrOp.code : CsrOp → Nat
  | .csrr => 6 | .csrw => 7 | .csrs => 8 | .csrc => 9

/-- Unit and function number. -/
def UnitFn.code : UnitFn → Nat × Nat
  | .ident => (0, 0) | .image => (0, 1) | .checkpoint => (0, 2) | .rate => (0, 3)
  | .take => (1, 0) | .release => (1, 1) | .hdr => (1, 2) | .data => (1, 3) | .copy => (1, 4)
  | .submit => (1, 5) | .done => (1, 6)
  | .now => (2, 0) | .sechi => (2, 1) | .frac => (2, 2) | .waitUntil => (2, 3) | .taskDone => (2, 4)
  | .tsqPop => (2, 5) | .tsqStamp => (2, 6)

/-! ### Words (Table 15-6) -/

/-- A field placed at a bit position, taken modulo its width. -/
def put (v len lo : Nat) : Nat := v % 2 ^ len * 2 ^ lo

def fmtA (op rd ra rb sub : Nat) : Word :=
  wd (put op 6 26 + put rd 4 22 + put ra 4 18 + put rb 4 14 + put sub 4 10)
def fmtI (op rd ra imm : Nat) : Word := wd (put op 6 26 + put rd 4 22 + put ra 4 18 + put imm 18 0)
def fmtB (op cond off : Nat) : Word := wd (put op 6 26 + put cond 4 22 + put off 22 0)
def fmtJ (op off : Nat) : Word := wd (put op 6 26 + put off 26 0)
def fmtS (op rd ra rb sub imm : Nat) : Word :=
  wd (put op 6 26 + put rd 4 22 + put ra 4 18 + put rb 4 14 + put sub 6 8 + put imm 8 0)
def fmtX (rd ra rb unit fn : Nat) : Word :=
  wd (put 0x3D 6 26 + put rd 4 22 + put ra 4 18 + put rb 4 14 + put unit 4 10 + put fn 6 4)

/-- The word of an instruction. -/
def Op.word : Op → Word
  | .reg3 f rd ra rb => fmtA f.code rd ra rb 0
  | .reg2 f rd ra => fmtA f.code rd ra 0 0
  | .ext rd ra pos len sign => fmtI 0x1C rd ra (put (b2n sign) 1 10 + put pos 5 5 + put (len + 31) 5 0)
  | .ins rd ra pos len => fmtI 0x1D rd ra (put pos 5 5 + put (len + 31) 5 0)
  | .immed f rd ra v => fmtI f.code rd ra v
  | .shi rd ra kind n => fmtI 0x22 rd ra (put kind 2 16 + put n 6 0)
  | .lui rd v => fmtB 0x23 rd v
  | .cmp ra rb => fmtA 0x24 0 ra rb 0
  | .cmpi ra v => fmtI 0x25 0 ra v
  | .tst ra rb => fmtA 0x26 0 ra rb 0
  | .load f rd ra v => fmtI f.code rd ra v
  | .store f rd ra v => fmtI f.code rd ra v
  | .atom f rd ra rb => fmtA 0x31 rd ra rb f.code
  | .bc cond off => fmtB 0x32 cond off
  | .cb nz ra off => fmtI (if nz then 0x34 else 0x33) 0 ra off
  | .jmp off => fmtJ 0x35 off
  | .call off => fmtJ 0x36 off
  | .jr ra => fmtA 0x37 0 ra 0 0
  | .callr ra => fmtA 0x38 0 ra 0 0
  | .loop ra len => fmtI 0x39 0 ra len
  | .loopi count len => fmtI 0x3A 0 0 (put count 9 9 + put len 9 0)
  | .lexit k => fmtI 0x3B 0 0 k
  | .nop => fmtS 0x3C 0 0 0 0 0
  | .wfe => fmtS 0x3C 0 0 0 1 0
  | .sev => fmtS 0x3C 0 0 0 2 0
  | .reti => fmtS 0x3C 0 0 0 3 0
  | .trap v => fmtS 0x3C 0 0 0 4 v
  | .break_ v => fmtS 0x3C 0 0 0 5 v
  | .csr .csrr r num => fmtS 0x3C r 0 0 6 num
  | .csr f r num => fmtS 0x3C 0 r 0 f.code num
  | .ei => fmtS 0x3C 0 0 0 0xA 0
  | .di => fmtS 0x3C 0 0 0 0xB 0
  | .unit f rd ra rb => fmtX rd ra rb f.code.1 f.code.2
  | .crc j rd ra rb => fmtX rd ra rb (3 + j) 0
  | .tile fn rd ra rb imm => fmtS 0x3E rd ra rb fn imm
  | .absent u fn rd ra rb => fmtX rd ra rb u fn

/-! ### Decoding -/

/-- A result only where a condition holds. -/
def only (b : Bool) (o : Op) : Option Op := if b then some o else none

def reg3Of (op : Nat) : Option Reg3 :=
  [Reg3.add, .sub, .adc, .sbc, .and, .or, .xor, .andn, .sll, .srl, .sra, .rot, .mul, .mulhs, .mulhu, .div, .divu,
    .rem, .remu, .adds, .subs].find? fun f => f.code == op

def reg2Of (op : Nat) : Option Reg2 := [Reg2.neg, .abs, .abss, .clz, .brev, .bswap].find? fun f => f.code == op

def immOf (op : Nat) : Option ImmOp := [ImmOp.addi, .andi, .ori, .xori].find? fun f => f.code == op

def loadOf (op : Nat) : Option LoadOp :=
  [LoadOp.ldw, .ldh, .ldhu, .ldb, .ldbu, .ldd].find? fun f => f.code == op

def storeOf (op : Nat) : Option StoreOp := [StoreOp.stw, .sth, .stb, .std].find? fun f => f.code == op

def atomOf (sub : Nat) : Option AtomOp :=
  [AtomOp.swap, .fadd, .fand, .for_, .fxor, .cas].find? fun f => f.code == sub

def unitOf (u fn : Nat) : Option UnitFn :=
  [UnitFn.ident, .image, .checkpoint, .rate, .take, .release, .hdr, .data, .copy, .submit, .done, .now, .sechi, .frac,
    .waitUntil, .taskDone, .tsqPop, .tsqStamp].find? fun f => f.code == (u, fn)

/-- SYS instructions (Table 15-8); reserved fields must be zero. -/
def decodeSys (rd ra rb sub imm : Nat) : Option Op :=
  let z := rd = 0 ∧ ra = 0 ∧ rb = 0
  match sub with
  | 0 => only (z ∧ imm = 0) .nop
  | 1 => only (z ∧ imm = 0) .wfe
  | 2 => only (z ∧ imm = 0) .sev
  | 3 => only (z ∧ imm = 0) .reti
  | 4 => only z (.trap imm)
  | 5 => only z (.break_ imm)
  | 6 => only (ra = 0 ∧ rb = 0) (.csr .csrr rd imm)
  | 7 => only (rd = 0 ∧ rb = 0) (.csr .csrw ra imm)
  | 8 => only (rd = 0 ∧ rb = 0) (.csr .csrs ra imm)
  | 9 => only (rd = 0 ∧ rb = 0) (.csr .csrc ra imm)
  | 10 => only (z ∧ imm = 0) .ei
  | 11 => only (z ∧ imm = 0) .di
  | _ => none

/-- Attached-unit calls; functions the units do not offer decode to a call that traps. -/
def decodeUnit (rd ra rb u fn : Nat) : Op :=
  match unitOf u fn with
  | some f => .unit f rd ra rb
  | none =>
    if 3 ≤ u ∧ u < 7 ∧ fn = 0 then .crc (u - 3) rd ra rb
    else if u = 7 then .tile fn rd ra rb 0
    else .absent u fn rd ra rb

/-- The instruction of a word; none where R531 makes it illegal by its encoding alone. -/
def decodeWord (w : Word) : Option Op :=
  let op := fld w 26 6
  let rd := fld w 22 4
  let ra := fld w 18 4
  let rb := fld w 14 4
  let sub := fld w 10 4
  let low := fld w 0 10
  let imm := fld w 0 18
  let pos := fld w 5 5
  let len := fld w 0 5 + 1
  match reg3Of op with
  | some f => only (sub = 0 ∧ low = 0) (.reg3 f rd ra rb)
  | none => match reg2Of op with
  | some f => only (rb = 0 ∧ sub = 0 ∧ low = 0) (.reg2 f rd ra)
  | none => match immOf op with
  | some f => some (.immed f rd ra imm)
  | none => match loadOf op with
  | some f => only (f ≠ .ldd ∨ rd % 2 = 0) (.load f rd ra imm)
  | none => match storeOf op with
  | some f => only (f ≠ .std ∨ rd % 2 = 0) (.store f rd ra imm)
  | none => match op with
    | 0x1C => only (fld w 11 7 = 0 ∧ pos + len ≤ 32) (.ext rd ra pos len (bit w 10))
    | 0x1D => only (fld w 10 8 = 0 ∧ pos + len ≤ 32) (.ins rd ra pos len)
    | 0x22 => only (fld w 6 10 = 0) (.shi rd ra (fld w 16 2) (fld w 0 6))
    | 0x23 => some (.lui rd (fld w 0 22))
    | 0x24 => only (rd = 0 ∧ sub = 0 ∧ low = 0) (.cmp ra rb)
    | 0x25 => only (rd = 0) (.cmpi ra imm)
    | 0x26 => only (rd = 0 ∧ sub = 0 ∧ low = 0) (.tst ra rb)
    | 0x31 => match atomOf sub with
      | some f => only (low = 0) (.atom f rd ra rb)
      | none => none
    | 0x32 => only (rd ≠ 15) (.bc rd (fld w 0 22))
    | 0x33 => only (rd = 0) (.cb false ra imm)
    | 0x34 => only (rd = 0) (.cb true ra imm)
    | 0x35 => some (.jmp (fld w 0 26))
    | 0x36 => some (.call (fld w 0 26))
    | 0x37 => only (rd = 0 ∧ rb = 0 ∧ sub = 0 ∧ low = 0) (.jr ra)
    | 0x38 => only (rd = 0 ∧ rb = 0 ∧ sub = 0 ∧ low = 0) (.callr ra)
    | 0x39 => only (rd = 0 ∧ imm ≠ 0) (.loop ra imm)
    | 0x3A => only (rd = 0 ∧ ra = 0 ∧ fld w 0 9 ≠ 0) (.loopi (fld w 9 9) (fld w 0 9))
    | 0x3B => only (rd = 0 ∧ ra = 0 ∧ 1 ≤ imm ∧ imm ≤ 4) (.lexit imm)
    | 0x3C => decodeSys rd ra rb (fld w 8 6) (fld w 0 8)
    | 0x3D => if fld w 0 4 = 0 then some (decodeUnit rd ra rb sub (fld w 4 6)) else none
    | 0x3E => some (.tile (fld w 8 6) rd ra rb (fld w 0 8))
    | _ => none

end Sys2Proof.Machine
end

