-- ==== Sys2Proof/Machine/Isa.lean ====
section
/-! DEFINITION. Genat instructions that compute, load, store and branch (R532 to R545, R555, R556). A command names an
engine and the instruction it issues; it acts only where the engine runs and the word at its pc decodes to that
instruction. -/
namespace Sys2Proof.Machine

/-- The word at engine `g`'s pc (R529). -/
def State.fetched (s : State) (g : Nat) : Word := wd (s.engVal g (s.cpu g).pc 4)

/-- Engine `g` runs and issues `o` next. -/
def State.issues (s : State) (g : Nat) (o : Op) : Bool := s.engineRuns g && decodeWord (s.fetched g) == some o

/-- An uncorrectable error of an engine memory halts the engine and is a fault of the unit (R504, Table 21-1). -/
def State.engineUe (g : Nat) (s : State) : State := (s.haltFault g).report ⟨mkUnit kEngine g, 2⟩

/-- A read of an engine memory, as its code finds it. -/
def State.readMem (g : Nat) (e : Ecc) (f : State → State) (s : State) : State :=
  match e with
  | .good => f s
  | .corrected => f (s.countEng g 6)
  | .uncorrectable => s.engineUe g

/-- Engine `g` entered its trap handler after `old`: it wrote a frame and read vector word 0 (R557). -/
def State.tookVector (s old : State) (g : Nat) : Bool :=
  (s.eng g).state == .running && psrTrap (s.cpu g).psr && !psrTrap (old.cpu g).psr
    && (s.x g 15).toNat == old.frameAddr g

/-- What the read of vector word 0 found, if the instruction that ran from `old` trapped: an uncorrectable word leaves
pc where it was. -/
def State.vectorRead (g : Nat) (e : Ecc) (s old : State) : State :=
  if e = .good ∨ !s.tookVector old g then s
  else if e = .corrected then s.countEng g 6
  else (s.upCpu g fun c => { c with pc := (old.cpu g).pc }).engineUe g

/-- Performs an instruction that an engine issues: its word is read first (R504). -/
def State.issue (i : Issue) (o : Op) (f : State → State) (s : State) : State :=
  if s.issues i.eng o then s.readMem i.eng i.finds.fetch fun s => (f s).vectorRead i.eng i.finds.vector s else s

/-- Traps as ILLEGAL_INSTRUCTION with the instruction word (R531). -/
def State.illegal (g : Nat) (s : State) : State := s.trap g trIllegal (s.fetched g).toNat

/-! ### Register operations -/

/-- Writes a result with its PSR and goes on. -/
def State.putAlu (g rd : Nat) (v : Alu) (s : State) : State :=
  (s.upCpu g fun c => { c.setX rd v.val with psr := v.psr }).advance g

/-- Writes flags only and goes on. -/
def State.putPsr (g : Nat) (psr : Word) (s : State) : State :=
  (s.upCpu g fun c => { c with psr := psr }).advance g

def State.psr (s : State) (g : Nat) : Word := (s.cpu g).psr

/-- Result and PSR of a two-source operation. -/
def Reg3.alu (f : Reg3) (a b psr : Word) : Alu :=
  match f with
  | .add => aluAdd a b false psr | .sub => aluSub a b psr | .adc => aluAdc a b psr | .sbc => aluSbc a b psr
  | .and => aluNZ (a &&& b) psr | .or => aluNZ (a ||| b) psr | .xor => aluNZ (a ^^^ b) psr
  | .andn => aluNZ (a &&& ~~~b) psr
  | .sll => aluShift shSll a b.toNat psr | .srl => aluShift shSrl a b.toNat psr
  | .sra => aluShift shSra a b.toNat psr | .rot => aluShift shRot a b.toNat psr
  | .mul => aluMul a b psr | .mulhs => aluMulhs a b psr | .mulhu => aluMulhu a b psr
  | .div => aluDiv a b psr | .divu => aluDivu a b psr | .rem => aluRem a b psr | .remu => aluRemu a b psr
  | .adds => aluAdds a b psr | .subs => aluSubs a b psr

def Reg3.divides : Reg3 → Bool
  | .div | .divu | .rem | .remu => true
  | _ => false

/-- A two-source operation; a division by zero traps if dz_trap is set, after setting dz (R535). -/
def State.runReg3 (i : Issue) (f : Reg3) (rd ra rb : Nat) (s : State) : State :=
  s.issue i (.reg3 f rd ra rb) fun s =>
    let a := s.x i.eng ra
    let b := s.x i.eng rb
    if f.divides && b == 0 && bit (s.cpu i.eng).ecfg 0 then
      (s.upCpu i.eng fun c => { c with psr := setFlag flagDz true c.psr }).trap i.eng trDivZero a.toNat
    else s.putAlu i.eng rd (f.alu a b (s.psr i.eng))

/-- Result and PSR of a one-source operation. -/
def Reg2.alu (f : Reg2) (a psr : Word) : Alu :=
  match f with
  | .neg => aluSub 0 a psr | .abs => aluAbs false a psr | .abss => aluAbs true a psr
  | .clz => aluClz a psr | .brev => aluBrev a psr | .bswap => aluBswap a psr

def State.runReg2 (i : Issue) (f : Reg2) (rd ra : Nat) (s : State) : State :=
  s.issue i (.reg2 f rd ra) fun s => s.putAlu i.eng rd (f.alu (s.x i.eng ra) (s.psr i.eng))

def State.runExt (i : Issue) (rd ra pos len : Nat) (sign : Bool) (s : State) : State :=
  s.issue i (.ext rd ra pos len sign) fun s => s.putAlu i.eng rd (aluExt pos len sign (s.x i.eng ra) (s.psr i.eng))

def State.runIns (i : Issue) (rd ra pos len : Nat) (s : State) : State :=
  s.issue i (.ins rd ra pos len) fun s => s.putAlu i.eng rd (aluIns pos len (s.x i.eng rd) (s.x i.eng ra) (s.psr i.eng))

/-- Result and PSR of an immediate operation: ADDI sign-extends, the others zero-extend. -/
def ImmOp.alu (f : ImmOp) (a : Word) (v : Nat) (psr : Word) : Alu :=
  match f with
  | .addi => aluAdd a (simm 18 v) false psr
  | .andi => aluNZ (a &&& wd v) psr | .ori => aluNZ (a ||| wd v) psr | .xori => aluNZ (a ^^^ wd v) psr

def State.runImm (i : Issue) (f : ImmOp) (rd ra v : Nat) (s : State) : State :=
  s.issue i (.immed f rd ra v) fun s => s.putAlu i.eng rd (f.alu (s.x i.eng ra) v (s.psr i.eng))

def State.runShi (i : Issue) (rd ra kind n : Nat) (s : State) : State :=
  s.issue i (.shi rd ra kind n) fun s => s.putAlu i.eng rd (aluShift kind (s.x i.eng ra) n (s.psr i.eng))

def State.runLui (i : Issue) (rd v : Nat) (s : State) : State :=
  s.issue i (.lui rd v) fun s => (s.setX i.eng rd (wd (v * 1024))).advance i.eng

def State.runCmp (i : Issue) (ra rb : Nat) (s : State) : State :=
  s.issue i (.cmp ra rb) fun s => s.putPsr i.eng (aluSub (s.x i.eng ra) (s.x i.eng rb) (s.psr i.eng)).psr

def State.runCmpi (i : Issue) (ra v : Nat) (s : State) : State :=
  s.issue i (.cmpi ra v) fun s => s.putPsr i.eng (aluSub (s.x i.eng ra) (simm 18 v) (s.psr i.eng)).psr

def State.runTst (i : Issue) (ra rb : Nat) (s : State) : State :=
  s.issue i (.tst ra rb) fun s => s.putPsr i.eng (setNZ (s.x i.eng ra &&& s.x i.eng rb) (s.psr i.eng))

/-! ### Loads, stores and atomic operations (R537, R538) -/

/-- Effective address. -/
def State.ea (s : State) (g ra v : Nat) : Nat := (s.x g ra + simm 18 v).toNat

/-- Bytes an access covers, and its alignment. -/
def LoadOp.size : LoadOp → Nat
  | .ldw => 4 | .ldh | .ldhu => 2 | .ldb | .ldbu => 1 | .ldd => 8

def StoreOp.size : StoreOp → Nat
  | .stw => 4 | .sth => 2 | .stb => 1 | .std => 8

/-- The value a load of one register gives. -/
def LoadOp.extend (f : LoadOp) (v : Nat) : Word :=
  match f with
  | .ldh => simm 16 v
  | .ldb => simm 8 v
  | _ => wd v

def State.runLoad (i : Issue) (f : LoadOp) (rd ra v : Nat) (e : Ecc) (s : State) : State :=
  s.issue i (.load f rd ra v) fun s =>
    let a := s.ea i.eng ra v
    if a % f.size ≠ 0 then s.trap i.eng trMisaligned a
    else if (regionOf a f.size).isNone then s.trap i.eng trAccess a
    else s.readMem i.eng e fun s =>
      if f = .ldd then (s.setPair i.eng rd (s.engVal i.eng a 8)).advance i.eng
      else (s.setX i.eng rd (f.extend (s.engVal i.eng a f.size))).advance i.eng

/-- The value a store writes. -/
def State.storeVal (s : State) (g : Nat) (f : StoreOp) (rd : Nat) : Nat :=
  match f with
  | .std => (s.x g rd).toNat + 2 ^ 32 * (s.x g (rd + 1)).toNat
  | _ => (s.x g rd).toNat

def State.runStore (i : Issue) (f : StoreOp) (rd ra v : Nat) (s : State) : State :=
  s.issue i (.store f rd ra v) fun s =>
    let a := s.ea i.eng ra v
    if a % f.size ≠ 0 then s.trap i.eng trMisaligned a
    else if !bufferOk a f.size then s.trap i.eng trAccess a
    else (s.putEngBytes i.eng a (leBytes f.size (s.storeVal i.eng f rd))).advance i.eng

/-- The new value of the word (Table 15-9): `held` is rd before the instruction. -/
def AtomOp.new (f : AtomOp) (old b held : Word) : Word :=
  match f with
  | .swap => b | .fadd => old + b | .fand => old &&& b | .for_ => old ||| b | .fxor => old ^^^ b
  | .cas => if old = held then b else old

def State.runAtom (i : Issue) (f : AtomOp) (rd ra rb : Nat) (e : Ecc) (s : State) : State :=
  s.issue i (.atom f rd ra rb) fun s =>
    let a := (s.x i.eng ra).toNat
    if a % 4 ≠ 0 then s.trap i.eng trMisaligned a
    else if !bufferOk a 4 then s.trap i.eng trAccess a
    else s.readMem i.eng e fun s =>
      let old := wd (s.engVal i.eng a 4)
      let held := s.x i.eng rd
      let s := s.putEngBytes i.eng a (leBytes 4 (f.new old (s.x i.eng rb) held).toNat)
      (s.upCpu i.eng fun c =>
        { c.setX rd old with psr := if f = .cas then setFlag flagZ (old == held) c.psr else c.psr }).advance i.eng

/-! ### Transfers and loops (R539 to R545) -/

/-- Address `n` bits of words away from the instruction at pc. -/
def State.target (s : State) (g n off : Nat) : Nat := (wd (s.cpu g).pc + simm n off * 4).toNat

def State.runBc (i : Issue) (cond off : Nat) (s : State) : State :=
  s.issue i (.bc cond off) fun s =>
    if condHolds cond (s.psr i.eng) = some true then s.transfer i.eng (s.target i.eng 22 off) else s.advance i.eng

def State.runCb (i : Issue) (nonzero : Bool) (ra off : Nat) (s : State) : State :=
  s.issue i (.cb nonzero ra off) fun s =>
    if (s.x i.eng ra != 0) = nonzero then s.transfer i.eng (s.target i.eng 18 off) else s.advance i.eng

def State.runJmp (i : Issue) (off : Nat) (s : State) : State :=
  s.issue i (.jmp off) fun s => s.transfer i.eng (s.target i.eng 26 off)

def State.runCall (i : Issue) (off : Nat) (s : State) : State :=
  s.issue i (.call off) fun s =>
    let t := s.target i.eng 26 off
    (s.setX i.eng 14 (wd ((s.cpu i.eng).pc + 4))).jump i.eng t

def State.runJr (i : Issue) (ra : Nat) (s : State) : State :=
  s.issue i (.jr ra) fun s => s.transfer i.eng (s.x i.eng ra).toNat

def State.runCallr (i : Issue) (ra : Nat) (s : State) : State :=
  s.issue i (.callr ra) fun s =>
    let t := (s.x i.eng ra).toNat
    (s.setX i.eng 14 (wd ((s.cpu i.eng).pc + 4))).jump i.eng t

/-- Issues a loop of `n` passes over a body of `len` words (R541). -/
def State.issueLoop (g n len : Nat) (s : State) : State :=
  let c := s.cpu g
  let a := c.pc
  let d := c.depth
  let le := a + 4 * len
  let top := c.level (d - 1)
  if d = 4 then s.trap g trLoop d
  else if c.base < d ∧ (top.start ≤ a ∧ a ≤ top.stop) ∧ top.stop < le then s.trap g trLoop d
  else if n = 0 then s.jump g (le + 4)
  else (s.upCpu g fun c => { c.setDepth (d + 1) with loops := c.loops.set d ⟨a + 4, le, n⟩ }).jump g (a + 4)

def State.runLoop (i : Issue) (ra len : Nat) (s : State) : State :=
  s.issue i (.loop ra len) fun s => s.issueLoop i.eng (s.x i.eng ra).toNat len

def State.runLoopi (i : Issue) (count len : Nat) (s : State) : State :=
  s.issue i (.loopi count len) fun s => s.issueLoop i.eng count len

def State.runLexit (i : Issue) (k : Nat) (s : State) : State :=
  s.issue i (.lexit k) fun s =>
    let c := s.cpu i.eng
    if c.depth - c.base < k then s.trap i.eng trLoop c.depth
    else (s.upCpu i.eng fun c => c.setDepth (c.depth - k)).jump i.eng (c.pc + 4)

end Sys2Proof.Machine
end

