-- ==== Sys2Proof/Machine/IsaSys.lean ====
section
/-! DEFINITION. Genat system instructions, control registers (R528, R546 to R549, R559 to R561, R578, R579) and
attached units (R508, R550 to R553). -/
namespace Sys2Proof.Machine

/-! ### Events and waits -/

def State.setEvent (g : Nat) (b : Bool) (s : State) : State := s.upCpu g fun c => { c with event := b }

/-- The engine waits. -/
def State.await (g : Nat) (w : Wait) (s : State) : State :=
  s.upEng g fun e => { e with state := .waiting, cpu := { e.cpu with wait := w } }

/-- The engine runs again. -/
def State.awake (g : Nat) (s : State) : State :=
  s.upEng g fun e => { e with state := .running, cpu := { e.cpu with wait := .none } }

/-- WFE (R547): the flag first; an interrupt that could be taken already lets it complete. -/
def State.runWfe (i : Issue) (s : State) : State :=
  s.issue i .wfe fun s =>
    if (s.cpu i.eng).event then (s.setEvent i.eng false).advance i.eng
    else if (s.takeable i.eng).isSome then s.advance i.eng
    else s.await i.eng .wfe

/-- A waiting engine is not held by its mode or by debug. -/
def State.waits_ (s : State) (g : Nat) : Bool :=
  (s.eng g).state == .waiting && !(s.eng g).dbgHalt && s.engineMayRun g

/-- WFE_WAKE: the interrupt goes before the flag, which stays set. -/
def State.wfeWake (g : Nat) (s : State) : State :=
  if !s.waits_ g || (s.cpu g).wait != .wfe then s
  else if (s.takeable g).isSome then (s.awake g).advance g
  else if (s.cpu g).event then ((s.awake g).setEvent g false).advance g
  else s

/-- SEV (R548). -/
def State.runSev (i : Issue) (s : State) : State :=
  s.issue i .sev fun s =>
    (s.each (List.range 8) fun k s =>
      let j := 8 * (i.eng / 8) + k
      if (s.eng j).live then s.setEvent j true else s).advance i.eng

/-! ### Interrupt entry and return (R574 to R576) -/

/-- Phase N3: the candidate is claimed and its handler starts; `e` is what the read of its vector word finds. -/
def State.enterHandler (g : Nat) (e : Ecc) (k : Cand) (s : State) : State :=
  let (n, s) := s.claim g k
  let v := claimValue k n
  let a := (s.cpu g).pc
  let s := s.upCpu g fun c =>
    { c.setX 0 v with claims := (k.isShared, k.num) :: c.claims, icClaim := v,
                      psr := setFld (setFld c.psr 28 4 k.pri) 8 2 1 }
  s.readMem g e fun s => s.goto g a (s.vector g k.pri)

/-- What happens between two phases: an arrival at a private event source of engine `g` or at a shared edge or event
source, an event of a block, a write that makes a source selectable, an entry of an inbox. -/
def State.arriveLate (g : Nat) (x : Late) (s : State) : State :=
  match x with
  | .priv i => if (8 ≤ i && i < 20) || (32 ≤ i && i < 48) || i == 4 then s.privArrive g i else s
  | .shared i => s.arrive i
  | .event i b unit info => match blkOfSrc i with
    | some k => if bit k.evtenReset b then s.raise k b unit info else s
    | none => s
  | .source i w => s.srcWrite i w
  | .enable i w => match blkOfSrc i with
    | some k => s.evtEnable k w
    | none => s
  | .delivery id k ecc => s.pointOf id k ecc

/-- Interrupt entry at an instruction boundary, selection made again after the frame is written (R574, R575). -/
def State.interruptEntry (i : Issue) (late : List Late) (s : State) : State :=
  let g := i.eng
  match s.takeable g with
  | none => s
  | some k =>
    let c := s.cpu g
    let ret := c.pc
    if !s.frameOk g then
      (s.setTrap g (if s.frameAddr g % 8 = 0 then trAccess else trMisaligned) ret (s.frameAddr g)).haltFault g
    else
      let s := (s.pushFrame g ret).each late (State.arriveLate g)
      let k' := (s.selectAbove g (psrPri c.psr)).getD k
      let s := if k.pri < k'.pri then s.upCpu g fun c => { c with lateCount := satAdd 255 c.lateCount 1 } else s
      s.enterHandler g i.finds.vector k'

/-- The next PSR of a return. -/
def savedPsr (w : Nat) : Word := wd w &&& psrMask

/-- RETI with a valid state to return to (R559, R574, R576). -/
def State.returnFrom (i : Issue) (late : List Late) (s : State) : State :=
  let g := i.eng
  let c := s.cpu g
  let s := if psrTrap c.psr then s
    else match c.claims with
      | k :: ks => (s.upCpu g fun c => { c with claims := ks }).complete1 g k
      | [] => s
  s.readMem g i.finds.data fun s =>
    let sp := (s.x g 15).toNat
    let w (i : Nat) := s.engVal g (sp + 4 * i) 4
    let saved := savedPsr (w 1)
    let s := s.each late (State.arriveLate g)
    let chain := if psrIe saved && bit c.vbase 0 then s.selectAbove g (psrPri saved) else none
    match chain with
    | some k =>
      let s := s.upCpu g fun c => { c.setDepth c.base with chainCount := satAdd 255 c.chainCount 1 }
      (s.completed g).enterHandler g i.finds.vector k
    | none =>
      let a := c.pc
      let s := s.upCpu g fun c =>
        let c := ((((c.setX 14 (wd (w 2))).setX 0 (wd (w 3))).setX 1 (wd (w 4))).setX 2 (wd (w 5)))
        let c := (((c.setX 3 (wd (w 6))).setX 4 (wd (w 7))).setX 15 (wd (sp + 32)))
        { c with psr := saved }
      (s.completed g).goto g a (w 0)

/-! ### Traps, RETI, interrupt enable -/

def State.runNop (i : Issue) (s : State) : State := s.issue i .nop (State.advance i.eng)

def State.runReti (i : Issue) (late : List Late) (s : State) : State :=
  s.issue i .reti fun s =>
    let p := s.psr i.eng
    let sp := (s.x i.eng 15).toNat
    if !psrTrap p && psrPri p == 0 then s.illegal i.eng
    else if sp % 4 ≠ 0 then s.trap i.eng trMisaligned sp
    else if (regionOf sp 32).isNone then s.trap i.eng trAccess sp
    else s.returnFrom i late

def State.runTrap (i : Issue) (v : Nat) (s : State) : State :=
  s.issue i (.trap v) fun s => s.trapAt i.eng trSoftware (s.cpu i.eng).pc v (s.nextPc i.eng)

/-- BREAK (R561): a debug halt where a session may halt the engine. -/
def State.runBreak (i : Issue) (v : Nat) (s : State) : State :=
  s.issue i (.break_ v) fun s =>
    if s.debugHolds i.eng then (s.advance i.eng).upEng i.eng fun e => { e with dbgHalt := true }
    else s.trapAt i.eng trBreakpoint (s.cpu i.eng).pc v (s.nextPc i.eng)

def State.setIe (g : Nat) (b : Bool) (s : State) : State :=
  s.upCpu g fun c => { c with psr := setFld c.psr 8 1 (b2n b) }

def State.runEi (i : Issue) (s : State) : State := s.issue i .ei fun s => (s.setIe i.eng true).advance i.eng

def State.runDi (i : Issue) (s : State) : State := s.issue i .di fun s => (s.setIe i.eng false).advance i.eng

/-- ILLEGAL_INSTRUCTION: the word at pc is illegal by its encoding (R531). -/
def State.runIllegal (i : Issue) (s : State) : State :=
  let g := i.eng
  if s.engineRuns g && (decodeWord (s.fetched g)).isNone then
    s.readMem g i.finds.fetch fun s => (s.illegal g).vectorRead g i.finds.vector s
  else s

/-! ### Control registers (Table 15-2, Table 16-6) -/

/-- Pending bits of 32 private sources from `lo`. -/
def State.pendBits (s : State) (g lo : Nat) : Word :=
  (List.range 32).foldl (fun w i => if s.privPending g (lo + i) then w ||| wd (2 ^ i) else w) 0

/-- IC_STAT (Table 16-11). -/
def State.icStat (s : State) (g : Nat) : Word :=
  let c := s.cpu g
  let top := match s.topCand g with
    | some k => k.pri * 2 ^ 12 + b2n k.isShared * 2 ^ 10 + k.num
    | none => 0
  wd (c.lateCount * 2 ^ 24 + c.chainCount * 2 ^ 16 + top)

/-- The value of a control register; none for a number that is not listed. -/
def State.csrRead (s : State) (g n : Nat) : Option Word :=
  let c := s.cpu g
  match n with
  | 0x00 => some c.psr | 0x01 => some c.ecfg | 0x02 => some c.vbase | 0x03 => some c.tcause
  | 0x04 => some c.taddr | 0x05 => some c.tval | 0x06 => some c.icnt | 0x07 => some (wd (b2n c.event))
  | 0x20 => some (s.pendBits g 0) | 0x21 => some (s.pendBits g 32) | 0x22 => some c.pen0 | 0x23 => some c.pen1
  | 0x2C => some c.icClaim | 0x2D => some 0 | 0x2E => some 0 | 0x2F => some (s.icStat g)
  | _ =>
    if 0x08 ≤ n ∧ n < 0x0C then some (if n - 0x08 < c.depth then wd (c.level (n - 0x08)).count else 0)
    else if 0x0C ≤ n ∧ n < 0x10 then some (wd (c.level (n - 0x0C)).start)
    else if 0x10 ≤ n ∧ n < 0x14 then some (wd (c.level (n - 0x10)).stop)
    else if 0x24 ≤ n ∧ n < 0x2C then some (c.ppri.getD (n - 0x24) 0)
    else none

/-- A value written to IC_RAISE names a source as R579 demands. -/
def raiseOk (w : Word) : Bool :=
  fld w 13 18 == 0 &&
    (if bit w 31 then fld w 10 3 == 0 && 512 ≤ fld w 0 10 else 12 ≤ fld w 0 10 && fld w 0 10 < 20)

/-- Raises the source that a value written to IC_RAISE names; a private raise reaches a running engine. -/
def State.icRaise (g : Nat) (w : Word) (s : State) : State :=
  if bit w 31 then s.arrive (fld w 0 10)
  else
    let k := 8 * (g / 8) + fld w 10 3
    if (s.eng k).image.isSome then s.privArrive k (fld w 0 10) else s

/-- Clears a private source (R572); a level source is sampled again, a claim of it open or not. -/
def State.icClear (g i : Nat) (s : State) : State :=
  (s.upCpu g fun c => c.setPriv i { c.priv i with pending := false, count := 0 }).samplePriv g i

/-- PSR after a CSR write: n, z, c, v and ie as written; dz is cleared by it, never set (Table 15-3). -/
def psrWritten (old w : Word) : Word := (old &&& (~~~0x11F ||| (w &&& 0x10))) ||| (w &&& 0x10F)

/-- A write of a control register; none where it traps (R528, R579). -/
def State.csrWrite (g n : Nat) (w : Word) (s : State) : Option State :=
  match n with
  | 0x00 => some (s.upCpu g fun c => { c with psr := psrWritten c.psr w })
  | 0x01 => some (s.upCpu g fun c => { c with ecfg := w &&& 3 })
  | 0x02 => some (s.upCpu g fun c => { c with vbase := w &&& 0x1FFC1 })
  | 0x22 => some (s.upCpu g fun c => { c with pen0 := w &&& 0x000FFF1F })
  | 0x23 => some (s.upCpu g fun c => { c with pen1 := w &&& 0xFFFF })
  | 0x2D => if raiseOk w then some (s.icRaise g w) else none
  | 0x2E => some (s.icClear g (fld w 0 6))
  | _ =>
    if 0x24 ≤ n ∧ n < 0x2C then some (s.upCpu g fun c => { c with ppri := c.ppri.set (n - 0x24) w })
    else none

/-- What a CSR instruction writes. -/
def CsrOp.new (f : CsrOp) (old w : Word) : Word :=
  match f with
  | .csrr => old | .csrw => w | .csrs => old ||| w | .csrc => old &&& ~~~w

/-- A CSR instruction on register number `n`; `r` is rd for CSRR and ra otherwise. -/
def State.doCsr (g : Nat) (f : CsrOp) (r n : Nat) (s : State) : State :=
  match s.csrRead g n with
  | none => s.illegal g
  | some old =>
    if f = .csrr then (s.setX g r old).advance g
    else match s.csrWrite g n (f.new old (s.x g r)) with
      | some s => s.advance g
      | none => s.illegal g

def State.runCsr (i : Issue) (f : CsrOp) (r n : Nat) (s : State) : State :=
  s.issue i (.csr f r n) (State.doCsr i.eng f r n)

/-! ### Attached units -/

/-- Register fields a function uses: rd, ra, rb; and whether it returns a pair (Table 15-13). -/
def UnitFn.uses : UnitFn → (Bool × Bool × Bool) × Bool
  | .ident | .image | .checkpoint | .rate | .sechi | .frac => ((true, false, false), false)
  | .take | .tsqPop => ((true, true, false), true)
  | .release | .taskDone => ((false, true, false), false)
  | .hdr | .data | .copy | .waitUntil => ((true, true, true), false)
  | .submit => ((true, true, false), false)
  | .done | .now | .tsqStamp => ((true, false, false), true)

/-- The first register field that R552 refuses. -/
def badField (u : (Bool × Bool × Bool) × Bool) (rd ra rb : Nat) : Option Nat :=
  if !u.1.1 && rd ≠ 0 then some rd else if !u.1.2.1 && ra ≠ 0 then some ra
  else if !u.1.2.2 && rb ≠ 0 then some rb else if u.2 && rd % 2 = 1 then some rd else none

/-- What a unit answers: a trap of UNIT_ARG with its operand, or the state after it, the call complete. -/
inductive UnitAns where
  | arg (v : Nat)
  | ok (s : State)
  /-- The engine waits in the call, or halts in it. -/
  | wait (s : State)

/-- What a unit answers after a read of an engine memory (R504). -/
def State.unitReads (g : Nat) (e : Ecc) (f : State → UnitAns) (s : State) : UnitAns :=
  match e with
  | .good => f s
  | .corrected => f (s.countEng g 6)
  | .uncorrectable => .wait (s.engineUe g)

/-- The taken inbox entry of engine `g` whose record's first cell is `c` (R552). -/
def State.takenCell (s : State) (g c : Nat) : Bool :=
  (List.range 4).any fun i => ((s.eng g).inbox i).any fun x => x.taken && x.record == c

/-- TAKE's value (Table 14-5). -/
def State.inboxValue (s : State) (i : Nat) (x : InboxEnt) : Nat :=
  let f := s.frameOf x.record
  2 ^ 63 + b2n x.redelivered * 2 ^ 62 + i * 2 ^ 60 + x.slot % 64 * 2 ^ 48 + f.format % 256 * 2 ^ 40
    + f.data.length % 2 ^ 14 * 2 ^ 18 + x.record % 2 ^ 18

def State.unitTake (g rd : Nat) (a : Word) (s : State) : UnitAns :=
  let i := a.toNat
  let e := s.eng g
  if 4 ≤ i || e.depth i = 0 then .arg i
  else match (e.inbox i).find? fun x => !x.taken with
    | none => .ok (s.setPair g rd 0)
    | some x =>
      let l := (e.inbox i).map fun y => if y.slot = x.slot then { y with taken := true } else y
      .ok ((s.setEng g (e.setInbox i l)).setPair g rd (s.inboxValue i x))

/-- RELEASE (R510): a slot that is not taken only counts. -/
def State.unitRelease (g : Nat) (a : Word) (s : State) : UnitAns :=
  let i := fld a 6 2
  let e := s.eng g
  if 0xFF < a.toNat then .arg a.toNat
  else match (e.inbox i).find? fun x => x.taken && x.slot == fld a 0 6 with
    | none => .ok (s.countEng g 5)
    | some x => .ok ((s.setEng g (e.setInbox i ((e.inbox i).filter fun y => y.slot != x.slot))).dropRef x.record)

def State.unitHdr (g : Nat) (e : RecEcc) (rd : Nat) (a b : Word) (s : State) : UnitAns :=
  if !s.takenCell g a.toNat then .arg a.toNat
  else if 7 < b.toNat then .arg b.toNat
  else .ok ((s.readCells e).setX g rd (wd (leAt (s.recBytes a.toNat) (4 * b.toNat) 4)))

def State.unitData (g : Nat) (e : RecEcc) (rd : Nat) (a b : Word) (s : State) : UnitAns :=
  if !s.takenCell g a.toNat then .arg a.toNat
  else if 2047 < b.toNat then .arg b.toNat
  else .ok ((s.readCells e).setX g rd (wd (leAt (s.frameOf a.toNat).data b.toNat 4)))

/-- COPY: its buffer is the byte limit long. DEDUCED (log 33). -/
def State.unitCopy (g : Nat) (e : RecEcc) (rd : Nat) (a b : Word) (s : State) : UnitAns :=
  let limit := (s.x g rd).toNat
  if !s.takenCell g a.toNat then .arg a.toNat
  else if b.toNat % 8 ≠ 0 || !bufferOk b.toNat limit then .arg b.toNat
  else
    let bytes := (s.frameOf a.toNat).data.take limit
    .ok (((s.readCells e).putEngBytes g b.toNat bytes).setX g rd (wd bytes.length))

def State.unitSubmit (g : Nat) (e : Ecc) (rd : Nat) (a : Word) (s : State) : UnitAns :=
  let d := s.engBytes g a.toNat 32
  if a.toNat % 8 ≠ 0 || !bufferOk a.toNat 32 then .arg a.toNat
  else s.unitReads g e fun s =>
    if !bufferOk a.toNat (32 + leAt d 16 2) then .arg a.toNat
    else if 8 ≤ (s.eng g).subs.length then .ok (s.setX g rd 1)
    else .ok ((s.setX g rd 0).engineSubmit g a.toNat (s.engBytes g a.toNat (32 + leAt d 16 2)))

def State.unitDone (g rd : Nat) (s : State) : UnitAns :=
  match (s.eng g).done with
  | [] => .ok (s.setPair g rd 0)
  | d :: ds => .ok ((s.upEng g fun e => { e with done := ds }).setPair g rd
      (d.tag % 2 ^ 32 + 2 ^ 32 * (2 ^ 31 + d.status % 256)))

/-- NOW latches a reading (R417). -/
def State.unitNow (g rd : Nat) (s : State) : UnitAns :=
  let (t, s) := s.reading
  .ok ((s.upCpu g fun c => { c with reading := t }).setPair g rd (stampOfNs (t / 2 ^ 16)))

/-- WAIT_UNTIL (R549). -/
def State.unitWaitUntil (g rd : Nat) (a b : Word) (s : State) : UnitAns :=
  if 999999999 < fld a 0 30 then .arg a.toNat
  else
    let t := nsOfStamp (a.toNat + 2 ^ 32 * b.toNat) * 2 ^ 16
    if t ≤ s.time then .ok (s.setX g rd 0)
    else if (s.cpu g).event then .ok ((s.setEvent g false).setX g rd 1)
    else .wait (s.await g (.untilTime t rd))

def State.unitTaskDone (g : Nat) (a : Word) (s : State) : UnitAns :=
  if 15 < a.toNat then .arg a.toNat else .ok (s.taskDone g a.toNat)

def State.unitTsqPop (g rd : Nat) (a : Word) (s : State) : UnitAns :=
  let p := a.toNat
  if 24 ≤ p || p / 6 ≠ g / 8 then .arg p
  else match (s.bport p).tsq with
    | [] => .ok ((s.upCpu g fun c => { c with tsqStamp := 0 }).setPair g rd 0)
    | r :: rs =>
      let s := (s.upBport p fun x => { x with tsq := rs }).upCpu g fun c => { c with tsqStamp := r.stamp }
      .ok (s.setPair g rd (r.tag % 2 ^ 32 + 2 ^ 32 * (2 ^ 31 + r.outcome % 16 * 2 ^ 8 + min 127 rs.length)))

/-- CHECKPOINT (R517): the region goes to the slot that is not current. -/
def State.unitCheckpoint (g : Nat) (x : Ecc) (rd : Nat) (s : State) : UnitAns :=
  let e := s.eng g
  match e.image with
  | none => .ok (s.setX g rd 0)
  | some m =>
    if m.ckptLen = 0 then .ok (s.setX g rd (wd e.ckptSeq))
    else s.unitReads g x fun s =>
      let bytes := s.engBytes g m.ckptAddr (64 * m.ckptLen)
      let toOne := e.ckptValid && !e.ckptCur
      let e := { e with ckptValid := true, ckptCur := toOne, ckptSeq := (e.ckptSeq + 1) % 2 ^ 16 }
      let e := if toOne then { e with ckpt1 := bytes } else { e with ckpt0 := bytes }
      let s := (s.setEng g e).countEng g 1
      let worn := s.health.due.any fun r => r.unit == mkUnit kEngine g
      let s := if worn then { s with health := { s.health with checkpointed := g :: s.health.checkpointed } } else s
      .ok (s.setX g rd (wd e.ckptSeq))

/-- IDENT (Table 15-13). -/
def State.identVal (s : State) (g : Nat) : Word :=
  wd (g % 32 + g / 8 * 2 ^ 8 + b2n ((s.eng (32 + g / 8)).serving == some g) * 2 ^ 12 + (s.eng g).cause.code * 2 ^ 16)

/-- The answer of a function of units 0 to 2. -/
def State.unitAnswer (i : Issue) (f : UnitFn) (rd ra rb : Nat) (s : State) : UnitAns :=
  let g := i.eng
  let a := s.x g ra
  let b := s.x g rb
  match f with
  | .ident => .ok (s.setX g rd (s.identVal g))
  | .image => .ok (s.setX g rd (wd (((s.eng g).image.map (·.version)).getD 0)))
  | .checkpoint => s.unitCheckpoint g i.finds.data rd
  | .rate => .ok (s.setX g rd (wd (s.rf (0x480 + 4 * (g / 8)) 0 12)))
  | .take => s.unitTake g rd a
  | .release => s.unitRelease g a
  | .hdr => s.unitHdr g i.finds.cells rd a b
  | .data => s.unitData g i.finds.cells rd a b
  | .copy => s.unitCopy g i.finds.cells rd a b
  | .submit => s.unitSubmit g i.finds.data rd a
  | .done => s.unitDone g rd
  | .now => s.unitNow g rd
  | .sechi => .ok (s.setX g rd (wd ((s.cpu g).reading / 2 ^ 16 / 10 ^ 9 / 2 ^ 34)))
  | .frac => .ok (s.setX g rd (wd ((s.cpu g).reading % 2 ^ 16)))
  | .waitUntil => s.unitWaitUntil g rd a b
  | .taskDone => s.unitTaskDone g a
  | .tsqPop => s.unitTsqPop g rd a
  | .tsqStamp => .ok (s.setPair g rd (s.cpu g).tsqStamp)

/-- Ends a call as its unit answers; `s` is the state before it (R550). -/
def State.endCall (g : Nat) (ans : UnitAns) (s : State) : State :=
  match ans with
  | .arg v => s.trap g trUnitArg v
  | .ok s => s.advance g
  | .wait s => s

/-- A call of a function of units 0 to 2. -/
def State.runUnit (i : Issue) (f : UnitFn) (rd ra rb : Nat) (s : State) : State :=
  s.issue i (.unit f rd ra rb) fun s =>
    match badField f.uses rd ra rb with
    | some v => s.trap i.eng trUnitArg v
    | none => s.endCall i.eng (s.unitAnswer i f rd ra rb)

/-- TVAL of ABSENT_UNIT. -/
def absentVal (unit fn : Nat) : Nat := unit * 64 + fn

/-- CRC on check unit C4c + j (R483, R551). -/
def State.runCrc (i : Issue) (j rd ra rb : Nat) (s : State) : State :=
  s.issue i (.crc j rd ra rb) fun s =>
    let u := 4 * (i.eng / 8) + j
    let a := (s.x i.eng ra).toNat
    let n := (s.x i.eng rb).toNat
    if s.unitDown u then s.trap i.eng trAbsent (absentVal (3 + j) 0)
    else if rd % 2 = 1 then s.trap i.eng trUnitArg rd
    else if 65536 < n then s.trap i.eng trUnitArg n
    else if !bufferOk a n then s.trap i.eng trUnitArg a
    else s.readMem i.eng i.finds.data fun s =>
      (s.setPair i.eng rd ((s.crcSet u).crc (s.engBytes i.eng a n))).advance i.eng

/-- The cluster's tile offers function `fn` (R10, R521, R522). -/
def State.tileOffers (s : State) (c fn : Nat) : Bool :=
  s.fuse.optT && (s.tile c).running && match (s.tile c).image with
    | some (_, _, mask) => nbit mask fn
    | none => false

/-- A tile function; its result is the tile logic's own (R522, R553). -/
def State.tileCall (g fn rd ra rb imm : Nat) (s : State) : State :=
  if !s.tileOffers (g / 8) fn then s.trap g trAbsent (absentVal 7 fn)
  else ((s.draw).setX g rd (Config.tile s.free fn imm (s.x g ra) (s.x g rb))).advance g

/-- CUST, and a UNIT call of unit 7, whose third operand is 0. -/
def State.runCust (i : Issue) (fn rd ra rb imm : Nat) (s : State) : State :=
  s.issue i (.tile fn rd ra rb imm) (State.tileCall i.eng fn rd ra rb imm)

/-- A call of a unit or function that is not listed (R508, R551). -/
def State.runAbsent (i : Issue) (u fn rd ra rb : Nat) (s : State) : State :=
  s.issue i (.absent u fn rd ra rb) fun s => s.trap i.eng trAbsent (absentVal u fn)

/-- WAIT_UNTIL_WAKE: time, then event, then an interrupt (R549). -/
def State.waitUntilWake (g : Nat) (s : State) : State :=
  match (s.cpu g).wait with
  | .untilTime t rd =>
    if !s.waits_ g then s
    else if t ≤ s.time then ((s.awake g).setX g rd 0).advance g
    else if (s.cpu g).event then (((s.awake g).setEvent g false).setX g rd 1).advance g
    else if (s.takeable g).isSome then ((s.awake g).setX g rd 2).advance g
    else s
  | _ => s

/-- INTERRUPT_ENTRY at an instruction boundary (R574). -/
def State.takeInterrupt (i : Issue) (late : List Late) (s : State) : State :=
  if s.engineRuns i.eng then s.interruptEntry i late else s

/-! ### Tiles (R522, R523) -/

/-- TILE_FRAME_SUBMIT: a frame that is not taken is reported back to the logic and counted; a drop under R309 or R490
counts in the same way (R523). -/
def State.tileFrame (picks : List Nat) (c : Nat) (d : List Byte) (s : State) : State :=
  if !(s.tile c).running || 4 ≤ c then s
  else
    let (st, s) := s.tileSubmit picks c d
    if st = subOk then s else (s.cntF (clusterBase c + 0x200040) 0 16).emit (.tileReport c st)

/-- TILE_SIGNAL `k` of cluster `c`. -/
def State.tileSignal (c k : Nat) (s : State) : State :=
  if !(s.tile c).running || 4 ≤ k then s
  else s.each (List.range 8) fun j s => if (s.eng (8 * c + j)).live then s.privArrive (8 * c + j) (8 + k) else s

end Sys2Proof.Machine
end

