-- ==== Sys2Proof/Machine/Power.lean ====
section
/-! DEFINITION. Power entry (R653 to R678): feeds, ideal-diode elements, the input switch, MOD_PG, PWR_WARN# and the
hold-up store. Voltages and currents come with the commands; thresholds and timers are the environment's to judge. -/
namespace Sys2Proof.Machine

def State.upPower (f : Power → Power) (s : State) : State := { s with power := f s.power }

/-- Counter `i` of PWR_CNT. -/
def State.countPwr (i : Nat) (s : State) : State := s.cnt (0x1E040 + 4 * i)

/-- OFF, SEATING and INRUSH. -/
def Mode.unpowered : Mode → Bool
  | .off | .seating | .inrush => true
  | _ => false

/-- A feed counts as in range (R656). -/
def State.feedCounts (s : State) : Bool :=
  (s.power.feedA || s.power.feedB) && s.power.sw != .retryOff && s.power.sw != .latched

/-- MOD_PG changes. -/
def State.setModPg (on : Bool) (s : State) : State :=
  if s.power.modPg == on then s else (s.upPower fun p => { p with modPg := on }).emit (.pin 2 on)

/-- PWR_WARN#, which is low while asserted, is asserted or released, which raises PWR_WARN or PWR_RESTORE (R671). -/
def State.setWarn (on : Bool) (s : State) : State :=
  if s.power.warn == on then s
  else ((s.upPower fun p => { p with warn := on }).emit (.pin 3 (!on))).raise .pwr (if on then 1 else 2) 0 0

/-- The element of feed 0 (A) or 1 (B), in range, conducts where its voltage exceeds the bus: no other element conducts,
or the other feed lies at most the reverse threshold above it (R657). -/
def State.conduct (feed : Nat) (s : State) : State :=
  s.upPower fun p =>
    if feed = 0 then
      { p with condA := p.feedA && !p.blocked && (!(p.feedB && p.condB) || p.vFeedB ≤ p.vFeedA + 20) }
    else { p with condB := p.feedB && !p.blocked && (!(p.feedA && p.condA) || p.vFeedA ≤ p.vFeedB + 20) }

/-- The inrush limit in mA at `v` mV across the switch (R660), its two corners within Table 19-3. -/
def inrushLimit (v : Nat) : Nat :=
  let hi := 1000 + Config.foldHi % 401
  let lo := 400 + Config.foldLo % 201
  if v ≤ 2000 then hi else if v ≤ 24000 then hi - (hi - lo) * (v - 2000) / 22000 else lo * 24000 / v

/-- The switch turns on into its inrush (R660). The voltage across it, and with it the current, are known at that moment
only. DESIGN CHOICE (log 96). -/
def State.switchOn (s : State) : State :=
  s.draw.upPower fun p =>
    { p with sw := .inrush, iIn := min 65535 (min (inrushLimit (Config.passVoltage s.free)) (Config.inrushLoad s.free)) }

/-- LATCHED ends (R664): in OFF and SEATING the switch is off, in another mode it turns on again (R674). DESIGN CHOICE
(log 96). -/
def State.unlatch (s : State) : State :=
  if s.power.sw != .latched then s
  else if s.mode == .off || s.mode == .seating then s.upPower fun p => { p with sw := .off }
  else s.switchOn

/-- PWR_CAUSE is recorded as a powered mode is left (R677). FAULT-HOLD under INPUT_PASS_FAULT powers the identity domain
alone. -/
def State.recordsCause (s : State) : Bool :=
  !s.mode.unpowered && !(s.mode == .faultHold && s.ctl.hold == .inputPassFault)

def State.noteCause (cause : Nat) (s : State) : State :=
  if s.recordsCause then s.upPower fun p => { p with cause := cause } else s

/-- No pin carries 10 V: PWR_CAUSE, retries and the hold registers are kept no longer (R665, R677). -/
def State.retentionEnds (s : State) : State :=
  if s.power.pinA || s.power.pinB then s
  else (((s.upPower fun p => { p with cause := 0, retries := 0 }).wr 0x70 0).wr 0x74 0).wr 0x78 0

/-- The switch state in a mode that commands it off; a trip or latch-off outlasts OFF (R663, R664). -/
def SwState.commandedOff : SwState → SwState
  | .retryOff => .retryOff
  | .latched => .latched
  | _ => .off

/-- Entry to OFF with the cause of Table 19-4 (R665, R673, R677). -/
def State.enterOff (s : State) : State :=
  if s.mode == .off then s
  else
    let s := ((s.setModPg false).setWarn false).noteCause
      (match s.power.sw with | .retryOff => 3 | .latched => 4 | _ => 1)
    ((s.upPower fun p => { p with sw := p.sw.commandedOff, storeFull := false, railsOk := false,
                                  iIn := 0 }).enterMode .off).retentionEnds

/-- What follows a loss of the last feed that counts: PWR_WARN# with its shedding (R671, R695), or OFF where the store
counts as exhausted (R673). -/
def State.supplyLost (s : State) : State :=
  if s.feedCounts then s
  else if !s.power.storeFull then s.enterOff
  else if s.mode.unpowered || s.power.warn then s
  else ((s.setWarn true).countPwr 2).shedAll

/-- FEED_IN_RANGE of feed 0 (A) or 1 (B) at `mV`. The first feed to reach a module that had none finds no cause (R677).
A feed that is in range already only has its voltage taken (R678), and conducts again if that exceeds the bus. DESIGN
CHOICE (log 96). -/
def State.feedIn (feed mV : Nat) (s : State) : State :=
  if 2 ≤ feed then s
  else if (if feed = 0 then s.power.feedA else s.power.feedB) then
    let was := if feed = 0 then s.power.condA else s.power.condB
    let s := s.upPower fun p =>
      if feed = 0 then { p with vFeedA := min mV 65535 } else { p with vFeedB := min mV 65535 }
    if was then s else s.conduct feed
  else
    let s := if s.power.pinA || s.power.pinB then s else s.upPower fun p => { p with cause := 0 }
    let s := (s.upPower fun p =>
      if feed = 0 then { p with feedA := true, pinA := true, vFeedA := min mV 65535 }
      else { p with feedB := true, pinB := true, vFeedB := min mV 65535 }).conduct feed
    let s := if s.mode == .off && s.feedCounts then s.enterMode .seating else s
    s.raise .pwr 0 feed 0

/-- Both feed pins stand below 10 V: retention and an input PASS_FAULT hold end (R62, R665, R677). -/
def State.pinsLow (s : State) : State :=
  if s.power.pinA || s.power.pinB then s
  else
    let s := s.upPower fun p => { p with blocked := false }
    let s := if s.ctl.hold == .inputPassFault then { s with ctl := { s.ctl with causePresent := false } } else s
    if s.mode == .off || s.mode == .faultHold then s.retentionEnds else s

/-- FEED_OUT_OF_RANGE of a feed that now stands at `mV` (R655, R664, R671). Its element is held off; the bus falls to the
other feed. -/
def State.feedOut (feed mV : Nat) (s : State) : State :=
  if 2 ≤ feed || !(if feed = 0 then s.power.feedA else s.power.feedB) then s
  else
    let s := (s.upPower fun p =>
      if feed = 0 then { p with feedA := false, pinA := decide (10000 ≤ mV), vFeedA := min mV 65535 }
      else { p with feedB := false, pinB := decide (10000 ≤ mV), vFeedB := min mV 65535 }).conduct (1 - feed)
    let s := (s.countPwr feed).raise .pwr 0 feed 0
    let s := if 30000 < mV then s.countPwr 7 else s
    let s := if s.power.feedA || s.power.feedB then s else (s.upPower fun p => { p with retries := 0 }).unlatch
    s.supplyLost.pinsLow

/-- FEEDS_REMOVED. -/
def State.feedsRemoved (s : State) : State :=
  if s.power.feedA || s.power.feedB then s
  else (s.upPower fun p => { p with pinA := false, pinB := false }).pinsLow

/-- A wake source fires (R53, R58). -/
def State.wake (s : State) : State :=
  if s.mode == .sleep then { s with ctl := { s.ctl with wokeAt := some s.beacon.raw } }.enterMode .standby
  else if (s.executing 6).isSome then { s with ctl := { s.ctl with wakePending := true } }
  else s

/-- The storage operation at the head of the queue starts, unless PWR_WARN# is asserted (R672). -/
def State.keeperStart (s : State) : State :=
  if s.power.warn || s.keeper.ops.isEmpty then s else { s with keeper := { s.keeper with running := true } }

/-- PWR_RESTORE: a feed has counted as in range for t_restore (R671, R672, R675, R695). -/
def State.pwrRestore (s : State) : State :=
  if !s.power.warn || !s.feedCounts then s
  else
    let s := (s.setWarn false).sparRefresh.keeperStart
    s.wake

/-- REVERSE_TURN_OFF of an element that conducts, or did as its feed left range (R657). -/
def State.reverseOff (feed : Nat) (s : State) : State :=
  if 2 ≤ feed || !(if feed = 0 then s.power.condA else s.power.condB) then s
  else
    ((s.upPower fun p => if feed = 0 then { p with condA := false } else { p with condB := false }).countPwr
      (3 + feed)).raise .pwr 3 feed 0

/-- SEAT_MADE of pin 0 (SEAT_A) or 1 (SEAT_B). -/
def State.seatMade (pin : Nat) (s : State) : State :=
  if pin = 0 then s.upPower fun p => { p with seatA := true }
  else if pin = 1 then s.upPower fun p => { p with seatB := true }
  else s

/-- SEAT_DEBOUNCE_DONE: t_seat has run with both pins made (R653, R660). A switch that waits out its off time goes on
waiting (R663). -/
def State.seatDone (s : State) : State :=
  if s.mode == .seating && s.power.seatA && s.power.seatB then
    (if s.power.sw == .off then s.switchOn else s).enterMode .inrush
  else s

/-- SEAT_OPEN (R654, R664, R671, R677). In OFF the end of LATCHED makes a feed in range count again (R656). -/
def State.seatOpen (pin : Nat) (s : State) : State :=
  if 2 ≤ pin || !(if pin = 0 then s.power.seatA else s.power.seatB) then s
  else
    let s := s.upPower fun p =>
      let p := if pin = 0 then { p with seatA := false } else { p with seatB := false }
      { p with retries := 0 }
    if s.mode == .off then
      let latched := s.power.sw == .latched
      let s := s.unlatch
      if latched && s.feedCounts then s.enterMode .seating else s
    else if s.mode == .seating then s.unlatch
    else
      let s := ((s.setModPg false).setWarn false).noteCause 2
      (s.upPower fun p =>
        { p with sw := if p.sw == .latched then .off else p.sw.commandedOff, railsOk := false, iIn := 0 }).enterMode
        .seating

/-- INRUSH_COMPLETE with the store at `mV` and `mA` of input current (R661, R663). -/
def State.inrushDone (mV mA : Nat) (s : State) : State :=
  if s.power.sw != .inrush then s
  else
    let s := s.upPower fun p =>
      { p with sw := .on, storeFull := true, railsOk := true, vStore := min (mV / 10) 65535,
               iIn := min mA 65535 }
    if s.mode == .inrush then s.enterMode .bringUp else s

/-- A trip of the input switch (R663, R664). -/
def State.inputTrip (mA : Nat) (s : State) : State :=
  let s := ((s.countPwr 6).raise .pwr 5 0 (min mA 65535)).setModPg false
  (s.upPower fun p =>
    if p.retries < 5 then { p with sw := .retryOff, retries := p.retries + 1, iIn := 0 }
    else { p with sw := .latched, iIn := 0 }).supplyLost

def State.inrushTimeout (mA : Nat) (s : State) : State :=
  if s.power.sw == .inrush then s.inputTrip mA else s

/-- INPUT_LIMIT (R662, R668). -/
def State.inputLimit (mA : Nat) (s : State) : State :=
  if s.power.sw != .on then s
  else
    let s := (s.upPower fun p => { p with sw := .limit, iIn := min mA 65535 }).setModPg false
    (s.countPwr 5).raise .pwr 4 0 (min mA 65535)

def State.inputLimitEnd (mA : Nat) (s : State) : State :=
  if s.power.sw == .limit then s.upPower fun p => { p with sw := .on, iIn := min mA 65535 } else s

def State.inputFaultTimer (mA : Nat) (s : State) : State := if s.power.sw == .limit then s.inputTrip mA else s

/-- INPUT_SHORT, in any state in which the switch passes current. -/
def State.inputShort (mA : Nat) (s : State) : State :=
  match s.power.sw with
  | .inrush | .on | .limit => s.inputTrip mA
  | _ => s

/-- INPUT_RETRY_END: from OFF the module starts through SEATING; in SEATING the debounce goes on; otherwise the switch
runs its inrush (R663). -/
def State.inputRetryEnd (s : State) : State :=
  if s.power.sw != .retryOff then s
  else if s.mode == .off then
    let s := s.upPower fun p => { p with sw := .off }
    if s.feedCounts then s.enterMode .seating else s
  else if s.mode == .seating then s.upPower fun p => { p with sw := .off }
  else s.switchOn

def State.inputRetriesReset (s : State) : State :=
  if s.power.modPg then s.upPower fun p => { p with retries := 0 } else s

/-- INPUT_PASS_FAULT while the switch is commanded off, in OFF, SEATING or RETRY_OFF (R666, R670). -/
def State.inputPassFault (s : State) : State :=
  if s.power.sw == .retryOff || s.mode == .off || s.mode == .seating then
    let s := (s.setModPg false).noteCause 5
    let s := s.upPower fun p =>
      { p with passFault := true, blocked := true, sw := .off, condA := false, condB := false }
    ((s.faultHold .inputPassFault 0).raise .pwr 6 0 0).queueHealth
  else s

/-- MOD_PG_ASSERT: its condition has held for t_pg (R668, R670). -/
def State.modPgAssert (s : State) : State :=
  if s.power.sw == .on && !s.mode.unpowered && !(s.mode == .faultHold && s.ctl.hold == .inputPassFault) then
    (s.upPower fun p => { p with railsOk := true }).setModPg true
  else s

/-- RAIL_OUT_OF_WINDOW. -/
def State.railOut (s : State) : State := (s.upPower fun p => { p with railsOk := false }).setModPg false

/-- HOLDUP_EXHAUSTED: the store stands at V_store_min, at `mV`: MOD_PG falls (R668), and without a feed that counts the
mode becomes OFF (R673). -/
def State.holdupExhausted (mV : Nat) (s : State) : State :=
  if s.mode == .off then s
  else
    let s := (s.setModPg false).upPower fun p => { p with vStore := min (mV / 10) 65535 }
    if s.feedCounts then s else (s.upPower fun p => { p with storeFull := false }).enterOff

end Sys2Proof.Machine
end

