-- ==== Sys2Proof/Machine/Crypto.lean ====
section
/-! DEFINITION. SHA-384 and ECDSA P-384 (R81, R88, R626, R629): the spec names the algorithms, FIPS 180-4 and FIPS 186-4
define them. PRESUMED (log 47). -/
namespace Sys2Proof.Machine

/-! ### SHA-384 -/

/-- The largest number of at most `n` bits, added to `r`, whose `k`th power is at most `m`: its bits tried downwards. -/
def rootBits (k m : Nat) : Nat → Nat → Nat
  | 0, r => r
  | n + 1, r => rootBits k m n (if (r + 2 ^ n) ^ k ≤ m then r + 2 ^ n else r)

/-- First 64 bits of the fractional part of the `k`th root of `p`. -/
def fracRoot (k p : Nat) : BitVec 64 := BitVec.ofNat 64 (rootBits k (p * 2 ^ (64 * k)) 70 0)

/-- The first eighty primes. -/
def shaPrimes : List Nat := (List.range 410).filter fun n => 2 ≤ n && (List.range n).all fun d => d < 2 || n % d != 0

/-- Round constants: cube roots of the first eighty primes. -/
def shaK : List (BitVec 64) := shaPrimes.map (fracRoot 3)

/-- Initial value of SHA-384: square roots of the ninth to the sixteenth prime. -/
def shaInit : List (BitVec 64) := ((shaPrimes.drop 8).take 8).map (fracRoot 2)

/-- The message schedule's next words, `n` of them; the newest word comes first. -/
def shaSchedule : Nat → List (BitVec 64) → List (BitVec 64)
  | 0, w => w
  | n + 1, w =>
    let x := w.getD 14 0
    let y := w.getD 1 0
    let s0 := x.rotateRight 1 ^^^ x.rotateRight 8 ^^^ (x >>> 7)
    let s1 := y.rotateRight 19 ^^^ y.rotateRight 61 ^^^ (y >>> 6)
    shaSchedule n ((w.getD 15 0 + s0 + w.getD 6 0 + s1) :: w)

/-- One round on the working variables a to h. -/
def shaRound (v : List (BitVec 64)) (kw : BitVec 64) : List (BitVec 64) :=
  match v with
  | [a, b, c, d, e, f, g, h] =>
    let t1 := h + (e.rotateRight 14 ^^^ e.rotateRight 18 ^^^ e.rotateRight 41) + ((e &&& f) ^^^ (~~~e &&& g)) + kw
    let t2 := (a.rotateRight 28 ^^^ a.rotateRight 34 ^^^ a.rotateRight 39) + ((a &&& b) ^^^ (a &&& c) ^^^ (b &&& c))
    [t1 + t2, a, b, c, d + t1, e, f, g]
  | v => v

/-- The 64-bit big-endian words of a block, `n` of them. -/
def shaWords (n : Nat) (bs : List Byte) : List (BitVec 64) := (List.range n).map fun i => BitVec.ofNat 64 (beAt bs (8 * i) 8)

/-- The chaining value after one block of 128 bytes. -/
def shaBlock (ks v : List (BitVec 64)) (block : List Byte) : List (BitVec 64) :=
  let w := (shaSchedule 64 (shaWords 16 block).reverse).reverse
  (v.zip ((ks.zip w).foldl (fun v kw => shaRound v (kw.1 + kw.2)) v)).map fun x => x.1 + x.2

/-- The chaining value after `n` blocks. -/
def shaBlocks (ks : List (BitVec 64)) : Nat → List (BitVec 64) → List Byte → List (BitVec 64)
  | 0, v, _ => v
  | n + 1, v, bs => shaBlocks ks n (shaBlock ks v (bs.take 128)) (bs.drop 128)

/-- A message with its padding: a one bit, zeros and the length in bits in 16 bytes. -/
def shaPad (m : List Byte) : List Byte :=
  m ++ leBytes 1 0x80 ++ List.replicate ((239 - m.length % 128) % 128) 0 ++ (leBytes 16 (8 * m.length)).reverse

/-- SHA-384 digest of a byte string, 48 bytes. -/
def sha384 (m : List Byte) : List Byte :=
  let p := shaPad m
  (shaBlocks shaK (p.length / 128) shaInit p).take 6 |>.flatMap fun x => (leBytes 8 x.toNat).reverse

/-! ### ECDSA on P-384 -/

def p384P : Nat := 2 ^ 384 - 2 ^ 128 - 2 ^ 96 + 2 ^ 32 - 1
def p384B : Nat :=
  0xb3312fa7e23ee7e4988e056be3f82d19181d9c6efe8141120314088f5013875ac656398d8a2ed19d2a85c8edd3ec2aef
def p384N : Nat :=
  0xffffffffffffffffffffffffffffffffffffffffffffffffc7634d81f4372ddf581a0db248b0a77aecec196accc52973
def p384Gx : Nat :=
  0xaa87ca22be8b05378eb1c71ef320ad746e1d3b628ba79b9859f741e082542a385502f25dbf55296c3a545e3872760ab7
def p384Gy : Nat :=
  0x3617de4a96262c6f5d9e98bf9292dc29f8f41dbd289a147ce9da3113b5f0b8c00a60b1ce1d7e819d7a431d7c90ea0e5f

/-- `b` to the power of the low `n` bits of `e`, modulo `m`, times `acc`. -/
def powMod (m : Nat) : Nat → Nat → Nat → Nat → Nat
  | 0, _, _, acc => acc
  | n + 1, b, e, acc => powMod m n (b * b % m) (e / 2) (if e % 2 = 1 then acc * b % m else acc)

/-- Inverse modulo a prime below 2^384. -/
def invMod (m a : Nat) : Nat := powMod m 384 (a % m) (m - 2) 1

/-- `a - b` modulo the field's prime. -/
def fsub (a b : Nat) : Nat := (a + p384P - b % p384P) % p384P

/-- A point of the curve by x / z^2 and y / z^3 of the field; z is 0 at infinity. -/
structure Point where
  x : Nat
  y : Nat
  z : Nat
  deriving DecidableEq, Repr

def Point.infinity : Point := ⟨1, 1, 0⟩

/-- Twice a point: `m` over twice y is the slope of the tangent, and `b` four times x times y squared. -/
def Point.double (p : Point) : Point :=
  let d := p.z * p.z % p384P
  let g := p.y * p.y % p384P
  let b := 4 * p.x * g % p384P
  let m := 3 * fsub p.x d * (p.x + d) % p384P
  let x := fsub (m * m) (2 * b)
  ⟨x, fsub (m * fsub b x) (8 * g * g), 2 * p.y * p.z % p384P⟩

/-- Sum of two points: over a common z, `u` and `v` are their x, `s` and `t` their y. -/
def Point.add (p q : Point) : Point :=
  let c := p.z * p.z % p384P
  let d := q.z * q.z % p384P
  let u := p.x * d % p384P
  let v := q.x * c % p384P
  let s := p.y * q.z * d % p384P
  let t := q.y * p.z * c % p384P
  let h := fsub v u
  let r := fsub t s
  let h2 := h * h % p384P
  let h3 := h * h2 % p384P
  let x := fsub (r * r) (h3 + 2 * u * h2)
  if p.z = 0 then q
  else if q.z = 0 then p
  else if h ≠ 0 then ⟨x, fsub (r * fsub (u * h2) x) (s * h3), h * p.z * q.z % p384P⟩
  else if r = 0 then p.double
  else .infinity

/-- The low `n` bits of `k` times a point. -/
def Point.mul : Nat → Nat → Point → Point
  | 0, _, _ => .infinity
  | n + 1, k, p => Point.add (if k % 2 = 1 then p else .infinity) (Point.mul n (k / 2) p.double)

/-- The x coordinate of a point other than infinity. -/
def Point.affineX (p : Point) : Nat := p.x * invMod p384P (p.z * p.z) % p384P

/-- The point an uncompressed public key encodes, if it lies on the curve (Table 18-3, KEY_CERT). -/
def keyPoint (key : List Byte) : Option Point :=
  let x := ofBe ((key.drop 1).take 48)
  let y := ofBe ((key.drop 49).take 48)
  if key.length = 97 ∧ byteAt key 0 = 4 ∧ x < p384P ∧ y < p384P ∧ fsub (y * y) (x * x * x) = fsub p384B (3 * x) then
    some ⟨x, y, 1⟩
  else none

/-- A signature r, s of 48 bytes each over SHA-384 of `msg` verifies under a public key. -/
def ecdsaVerify (key msg sig : List Byte) : Bool :=
  let r := ofBe (sig.take 48)
  let s := ofBe ((sig.drop 48).take 48)
  let e := ofBe (sha384 msg)
  let w := invMod p384N s
  match keyPoint key with
  | none => false
  | some q =>
    let u := Point.mul 384 (e * w % p384N) ⟨p384Gx, p384Gy, 1⟩
    let v := u.add (Point.mul 384 (r * w % p384N) q)
    sig.length == 96 && 0 < r && r < p384N && 0 < s && s < p384N && v.z != 0 && v.affineX % p384N == r

end Sys2Proof.Machine
end

