-- ==== Sys2Proof/Machine/Stream.lean ====
section
/-! DEFINITION. Signed objects and Mica streams as bytes: key slots and closing blocks (R626 to R630), image headers
(R506, R524), the records of a stream (R82) and the images they name (R88, R644). Signatures and digests are those of
`Crypto`. -/
namespace Sys2Proof.Machine

/-! ### Key slots and closing blocks (R626 to R630) -/

def Keeper.slot (k : Keeper) (i : Nat) : KeySlot := k.slots.getD i KeySlot.empty

/-- Slot `i` is ACTIVE with purpose bit `p` (R626). -/
def Keeper.signs (k : Keeper) (i p : Nat) : Bool := (k.slot i).state == .active && nbit (k.slot i).purpose p

/-- A closing block (Table 18-2): `head` is what the signature covers. -/
structure Closing where
  kind : Nat
  slot : Nat
  component : Nat
  version : Nat
  hwIf : Nat
  loaderIf : Nat
  personalityIf : Nat
  tileIf : Nat
  epoch : Nat
  digest : List Byte
  head : List Byte
  sig : List Byte
  deriving DecidableEq, Repr

/-- Purpose bit of a closing kind (Table 18-1). -/
def kindPurpose (kind : Nat) : Nat :=
  match kind with
  | 1 => 0 | 2 | 3 => 1 | 4 => 3 | 5 => 4 | 6 => 5 | 7 => 6 | _ => 7

/-- The fields of a closing block that its kind does not use are zero (Table 18-2). -/
def Closing.fieldsOk (c : Closing) : Bool :=
  (c.component == 0 || c.kind < 4) && (c.hwIf == 0 || c.kind == 1) && (c.loaderIf == 0 || c.kind == 1)
    && (c.personalityIf == 0 || c.kind ≤ 2) && (c.tileIf == 0 || c.kind == 1 || c.kind == 3)
    && (c.epoch == 0 || c.kind == 1)

/-- Body and closing block of a signed object; none where the block is malformed. -/
def closing (obj : List Byte) : Option (List Byte × Closing) :=
  let n := obj.length - 192
  let body := obj.take n
  let b := obj.drop n
  let c : Closing :=
    { kind := byteAt b 6, slot := byteAt b 7, component := leAt b 8 4, version := leAt b 12 4, hwIf := leAt b 16 2,
      loaderIf := leAt b 18 2, personalityIf := leAt b 20 2, tileIf := leAt b 22 2, epoch := leAt b 24 4,
      digest := (b.drop 32).take 48, head := b.take 96, sig := (b.drop 96).take 96 }
  if obj.length < 192 || leAt b 0 4 != 0x4C414553 || leAt b 4 2 != 1 || c.kind == 0 || 8 < c.kind || 7 < c.slot
      || leAt b 28 4 != n || leAt b 80 16 != 0 || !c.fieldsOk then none
  else some (body, c)

/-- Header of a Jadesum image is well formed, its parameter block apart (Table 14-2, R506). -/
def jadesumForm (b : List Byte) : Bool :=
  let code := leAt b 16 4
  let data := leAt b 20 4
  let ck := leAt b 36 4
  let depth (i : Nat) : Nat := byteAt b (44 + i)
  leAt b 0 4 == 0x5344414A && leAt b 4 2 == 1 && byteAt b 43 == 0 && leAt b 48 16 == 0 && !nbit (byteAt b 42) 7
    && 8 ≤ code && code ≤ 131072 && code % 8 == 0 && data ≤ 65536 && data % 8 == 0
    && leAt b 24 4 < code && leAt b 28 4 < code && leAt b 24 4 % 4 == 0 && leAt b 28 4 % 4 == 0
    && leAt b 32 4 % 8 == 0
    && leAt b 40 2 ≤ 256
    && (leAt b 40 2 == 0 || (ck % 64 == 0 && 0x10000000 ≤ ck && ck + 64 * leAt b 40 2 ≤ 0x10010000))
    && depth 0 ≤ 64 && depth 1 ≤ 64 && depth 2 ≤ 64 && depth 3 ≤ 64 && depth 0 + depth 1 + depth 2 + depth 3 ≤ 128

/-- Length of a Jadesum image without its closing block. -/
def jadesumLen (b : List Byte) : Nat := 64 + leAt b 16 4 + leAt b 20 4

/-- Header of a tile image (R524), its fields in the order the rule lists them. DEDUCED (log 34). -/
def tileForm (b : List Byte) : Bool :=
  leAt b 0 4 == 0x454C4954 && leAt b 4 2 == 1 && leAt b 28 4 == 0 && 8 ≤ leAt b 24 4 && leAt b 24 4 ≤ 1048576

def tileLen (b : List Byte) : Nat := 32 + leAt b 24 4

/-- An image's header agrees with its closing block (R630); both headers hold their fields at the same places. -/
def headerAgrees (b : List Byte) (c : Closing) : Bool :=
  leAt b 8 4 == c.component && leAt b 12 4 == c.version
    && leAt b 6 2 == (if c.kind = 2 then c.personalityIf else c.tileIf)

/-- Signature and digest verify (R626, R629, R630). -/
def Keeper.verifies (k : Keeper) (body : List Byte) (c : Closing) : Bool :=
  ecdsaVerify (k.slot c.slot).key c.head c.sig && sha384 body == c.digest
    && (!(c.kind == 2 || c.kind == 3) || headerAgrees body c)

/-- A signed object of closing kind `kind` verifies. -/
def Keeper.accepts (k : Keeper) (kind : Nat) (obj : List Byte) : Bool :=
  match closing obj with
  | some (body, c) => c.kind == kind && k.signs c.slot (kindPurpose kind) && k.verifies body c
  | none => false

/-! ### Records of a stream (R82) -/

/-- A record: its header fields (Table 3-2) and its body. -/
structure MRec where
  type : Nat
  scope : Nat
  index : Nat
  entries : Nat
  body : List Byte
  deriving DecidableEq, Repr

/-- Record types of Table 3-3. -/
def tModule : Nat := 0x01
def tBusLane : Nat := 0x10
def tEthLane : Nat := 0x11
def tCheckUnit : Nat := 0x12
def tQuota : Nat := 0x20
def tBuffers : Nat := 0x21
def tExact : Nat := 0x30
def tMasked : Nat := 0x31
def tRoute : Nat := 0x40
def tCtx : Nat := 0x41
def tImage : Nat := 0x50
def tPersonality : Nat := 0x51
def tTile : Nat := 0x52
def tCycle : Nat := 0x60
def tPlan : Nat := 0x70
def tEnd : Nat := 0xF0

/-- The records of a type, in order. -/
def recsOf (type : Nat) (rs : List MRec) : List MRec := rs.filter fun r => r.type == type

/-- The first records of a stream's bytes after its header, at most `fuel` of them. -/
def parseRecs : Nat → List Byte → List MRec
  | 0, _ => []
  | fuel + 1, bs =>
    if bs.length < 16 then []
    else
      let n := leAt bs 4 4
      ⟨leAt bs 0 2, byteAt bs 2, leAt bs 8 4, leAt bs 12 4, (bs.drop 16).take n⟩ :: parseRecs fuel (bs.drop (16 + n))

/-- The records of a stream. -/
def streamRecs (bs : List Byte) : List MRec := parseRecs (leAt bs 32 4) (bs.drop 64)

/-! ### Images of a stream (R88, R644) -/

/-- The signed object in an IMAGE or TILE record's body: the image with its closing block. -/
def MRec.object (r : MRec) : List Byte :=
  r.body.take ((if r.type = tImage then jadesumLen r.body else tileLen r.body) + 192)

/-- The image a PERSONALITY body `b` names at its source, whatever its signature. -/
def namedObject (k : Keeper) (rs : List MRec) (b : List Byte) : Option (List Byte) :=
  if byteAt b 60 = 0 then
    ((recsOf tImage rs).find? fun r => leAt r.body 8 4 == leAt b 4 4 && leAt r.body 12 4 == leAt b 8 4).map MRec.object
  else
    (k.images.find? fun x => !x.tile && x.component == leAt b 4 4 && x.version == leAt b 8 4).map (·.bytes)

/-- The image a PERSONALITY body names, if it is present (R91 check 5, R630). -/
def imageOf (k : Keeper) (rs : List MRec) (b : List Byte) : Option (List Byte) :=
  (namedObject k rs b).filter fun o => k.accepts 2 o && sha384 o == (b.drop 12).take 48

/-- The engine a PERSONALITY record names. -/
def MRec.engine (r : MRec) : Nat := 8 * r.scope + byteAt r.body 0

/-- The images a stream's records name, as members of a set (R644). -/
def imageIds (k : Keeper) (rs : List MRec) : List ImageId :=
  (recsOf tPersonality rs).filterMap (fun r => (imageOf k rs r.body).map fun o =>
      ⟨r.engine, leAt o 8 4, leAt o 12 4, leAt o 6 2⟩)
    ++ (recsOf tTile rs).map fun r => ⟨32 + r.scope, leAt r.body 8 4, leAt r.body 12 4, leAt r.body 6 2⟩

end Sys2Proof.Machine
end

