-- ==== Sys2Proof/Machine/Keeper.lean ====
section
/-! DEFINITION. Keeper (R631 to R651): boot, lifecycle, debug sessions, compatibility, updates and storage. Signatures
and digests are those of `Crypto`. -/
namespace Sys2Proof.Machine

def State.upKeeper (f : Keeper → Keeper) (s : State) : State := { s with keeper := f s.keeper }

/-- Raises event `i` of KPR_EVT. -/
def State.kprEvent (i info : Nat) (s : State) : State := s.raise .kpr i 0 info

/-! ### Compatibility (R644 to R648) -/

/-- Required version `q` is met by provided version `p` (R644). -/
def ifMet (p q : Nat) : Bool := q == 0 || (p / 256 == q / 256 && q % 256 ≤ p % 256)

/-- A set: Keeper firmware, streams and images (R644). -/
structure KSet where
  fw : Firmware
  streams : List StreamId
  images : List ImageId
  deriving DecidableEq, Repr

/-- The firmware that runs. -/
def Keeper.running_ (k : Keeper) : Option Firmware := if k.runsB then k.fwB else k.fwA

/-- What stands for firmware where none runs. -/
def Firmware.none : Firmware := ⟨0, [], 0, 0, 0, 0, 0, 0, 0⟩

def Keeper.fw (k : Keeper) : Firmware := k.running_.getD Firmware.none

def Structure.streams (x : Structure) : List StreamId := x.full :: x.reloaded.filterMap (·.2)

/-- The set in force. -/
def State.setInForce (s : State) : KSet :=
  match s.struct with
  | some x => ⟨s.keeper.fw, x.streams, x.images⟩
  | none => ⟨s.keeper.fw, [], []⟩

/-- Every requirement of the set is met (R644); image units 32 and above are tiles. -/
def KSet.met (f : Fuse) (x : KSet) : Bool :=
  ifMet f.hwIf x.fw.hwIf
    && x.streams.all (fun t => ifMet x.fw.loaderIf t.loaderIf && ifMet x.fw.personalityIf t.personalityIf
      && ifMet x.fw.tileIf t.tileIf)
    && x.images.all fun i => ifMet (if i.unit < 32 then x.fw.personalityIf else x.fw.tileIf) i.requires

/-- Components of a set: identifier and version (R645). -/
def KSet.components (x : KSet) : List (Nat × Nat) :=
  (x.fw.component, x.fw.version) :: x.streams.map (fun t => (t.component, t.version))
    ++ x.images.map fun i => (i.component, i.version)

/-- The entry covers the components (R645): builds are ignored. -/
def TestedEntry.covers (e : TestedEntry) (stepping : Nat) (l : List (Nat × Nat)) : Bool :=
  nbit e.steppings stepping && l.all fun c => e.items.any fun i => i.1 == c.1 && i.2 / 65536 == c.2 / 65536

/-- The set is tested. -/
def State.tested (s : State) (x : KSet) : Bool :=
  (s.keeper.thrumsyn.entries ++ s.keeper.owner.entries).any fun e => e.covers s.fuse.stepping x.components

/-- The judgement of R646: the refusal, or untested_set as it becomes. -/
inductive Compat where
  | mismatch
  | untested
  | accept (untested : Bool)
  deriving DecidableEq, Repr

def State.untestedJudge (s : State) (x : KSet) : Compat :=
  if s.tested x then .accept false
  else match s.keeper.lifecycle with
    | .deployed => if s.keeper.allow then .accept true else .untested
    | .blank | .decommissioned => .untested
    | _ => .accept true

def State.judge646 (s : State) (x : KSet) : Compat :=
  if x.met s.fuse then s.untestedJudge x else .mismatch

/-- untested_set as a set that takes effect leaves it (R646, R647). -/
def State.setUntested (b : Bool) (s : State) : State :=
  let s := s.upKeeper fun k => { k with untested := b }
  if b then s.kprEvent 5 0 else s

/-! ### Boot (R632 to R634) -/

/-- The firmware of a slot boots (R633). `sound` tells that its stored bytes still verify. -/
def State.boots (s : State) (f : Option Firmware) (sound : Bool) : Bool :=
  match f with
  | some f => sound && s.keeper.signs f.slot 0 && (s.keeper.slot f.slot).key == f.key && s.keeper.epoch ≤ f.epoch
      && ifMet s.fuse.hwIf f.hwIf
  | none => false

/-- Keeper boots: none if neither slot does. -/
def State.keeperBoot (soundA soundB : Bool) (s : State) : Option State :=
  let a := s.boots s.keeper.fwA soundA
  let b := s.boots s.keeper.fwB soundB
  let first := if s.keeper.activeB then b else a
  let second := if s.keeper.activeB then a else b
  if first then some (s.upKeeper fun k => { k with runsB := k.activeB, fallback := false })
  else if second then
    some ((s.upKeeper fun k =>
      { k with runsB := !k.activeB, activeB := !k.activeB, fallback := true }).kprEvent 3 0)
  else none

/-- The stored epoch rises to the running firmware's as BRING-UP ends (R634). -/
def State.raiseEpoch (s : State) : State :=
  s.upKeeper fun k => { k with epoch := max k.epoch k.fw.epoch }

/-! ### Object bodies -/

/-- Items of a tested-set entry. -/
def testedItems : Nat → List Byte → List (Nat × Nat)
  | 0, _ => []
  | n + 1, bs => (leAt bs 0 4, leAt bs 4 4) :: testedItems n (bs.drop 8)

/-- Exactly `k` entries of a tested-set table. -/
def testedEntries : Nat → List Byte → Option (List TestedEntry)
  | 0, bs => if bs.isEmpty then some [] else none
  | k + 1, bs =>
    let n := leAt bs 4 2
    if bs.length < 8 + 8 * n || n == 0 || 64 < n || leAt bs 6 2 != 0 then none
    else (testedEntries k (bs.drop (8 + 8 * n))).map fun l => ⟨leAt bs 0 4, testedItems n (bs.drop 8)⟩ :: l

/-- A tested-set table. -/
def testedTable (b : List Byte) : Option TestedTable :=
  let n := leAt b 0 4
  if b.length < 16 || n == 0 || 1024 < n || leAt b 8 8 != 0 then none
  else (testedEntries n (b.drop 16)).map fun l => ⟨leAt b 4 4, l⟩

def lifecycleOf (n : Nat) : Option Lifecycle :=
  match n with
  | 0 => some .blank | 1 => some .factory | 2 => some .provisioned | 3 => some .deployed
  | 4 => some .serviceReturn | 5 => some .decommissioned | _ => none

/-- The body is well formed for its kind (Table 18-3, R524, R644, Table 14-2). -/
def bodyForm (kind : Nat) (b : List Byte) : Bool :=
  match kind with
  | 2 => jadesumForm b && b.length == jadesumLen b
  | 3 => tileForm b && b.length == tileLen b
  | 4 => (testedTable b).isSome
  | 5 => b.length == 16 && byteAt b 0 < 2 && leAt b 1 3 == 0
  | 6 => b.length == 24 && (lifecycleOf (byteAt b 0)).isSome && leAt b 1 7 == 0
  | 7 => b.length == 24 && (byteAt b 0 == 1 || byteAt b 0 == 2) && byteAt b 1 == 0 && leAt b 2 2 != 0
  | 8 => b.length == 120 && 2 ≤ byteAt b 0 && byteAt b 0 < 8 && (byteAt b 1 == 1 || byteAt b 1 == 2)
      && leAt b 3 5 == 0 && leAt b 113 7 == 0 && (byteAt b 1 == 2 || (keyPoint ((b.drop 16).take 97)).isSome)
  | _ => true

/-- Serial and challenge of a body match (R631). -/
def State.identityOk (s : State) (kind : Nat) (b : List Byte) : Bool :=
  let serial := leAt b 8 8
  match kind with
  | 5 | 8 => serial == 0 || serial == s.fuse.serial
  | 6 | 7 => serial == s.fuse.serial && leAt b 16 8 == s.keeper.challenge
  | _ => true

/-! ### Updates (R649, R650) -/

def kOk : Nat := 0
def kWrongMode : Nat := 1
def kDenied : Nat := 2
def kWrongState : Nat := 3
def kFetchError : Nat := 4
def kBadFormat : Nat := 5
def kKeySlot : Nat := 6
def kBadSignature : Nat := 7
def kBadChallenge : Nat := 8
def kRollback : Nat := 9
def kInUse : Nat := 10
def kMismatch : Nat := 11
def kUntested : Nat := 12
def kNoSpace : Nat := 13
def kSlotRevoked : Nat := 14

/-- Update kinds of Table 18-6. -/
def uFirmware : Nat := 1
def uImage : Nat := 2
def uErase : Nat := 3
def uTested : Nat := 4
def uPolicy : Nat := 5
def uKeyCert : Nat := 6
def uLifecycle : Nat := 7
def uDebug : Nat := 8

/-- Modes of an update kind (Table 18-6). -/
def updateMode (kind : Nat) (m : Mode) : Bool :=
  match m with
  | .service => true
  | .unconfigured => kind == uImage || kind == uErase || kind == uDebug
  | .configuring | .operational | .degraded | .reconfiguring | .standby | .test => kind == uDebug
  | _ => false

/-- Greatest length of an update kind. -/
def updateMax (kind : Nat) : Nat :=
  match kind with
  | 1 | 2 => 1048576 | 3 => 8 | 4 => 65536 | _ => 4096

/-- What lifecycle and cell refuse before anything is fetched (R637, R638, R643). -/
def State.updateCell (s : State) (kind : Nat) : Nat :=
  if s.decommissioned then kDenied
  else if s.keeper.lifecycle == .blank && kind != uDebug then kWrongState
  else if kind = uLifecycle ∧ !s.lifeCell then kDenied
  else if kind = uKeyCert ∧ !s.ownerCell then kDenied
  else kOk

/-- A closing block's kind is the one its update kind takes. -/
def closingFits (kind closing : Nat) : Bool :=
  match kind with
  | 1 => closing == 1 | 2 => closing == 2 || closing == 3 | 4 => closing == 4 | 5 => closing == 5
  | 6 => closing == 8 | 7 => closing == 6 | 8 => closing == 7 | _ => false

/-- Transitions of Table 18-4 by the signing slot. -/
def lifecycleMay (old new : Lifecycle) (slot : Nat) : Bool :=
  match old, new with
  | .factory, .provisioned | .serviceReturn, .provisioned => slot == 0
  | .provisioned, .deployed | .deployed, .serviceReturn | .deployed, .decommissioned
  | .serviceReturn, .deployed => 2 ≤ slot
  | .provisioned, .decommissioned | .serviceReturn, .decommissioned => slot == 0 || 2 ≤ slot
  | _, _ => false

/-- What Keeper decides about an update. -/
inductive Verdict where
  | refuse (code : Nat)
  | open_ (x : Session)
  | store (o : KOp)
  deriving DecidableEq, Repr

/-- Identity of a stream by its header (Table 3-1). -/
def streamId (bs : List Byte) : StreamId := ⟨leAt bs 8 4, leAt bs 12 4, leAt bs 16 2, leAt bs 18 2, leAt bs 20 2⟩

/-- The set a firmware update is judged against (R648): with no structure loaded, the stored autoload stream and the
images it names stand for it. DEDUCED (log 35). -/
def State.firmwareSet (s : State) (f : Firmware) : KSet :=
  match s.struct, s.keeper.autoload with
  | some x, _ => ⟨f, x.streams, x.images⟩
  | none, some st => ⟨f, [streamId st], imageIds s.keeper (streamRecs st)⟩
  | none, none => ⟨f, [], []⟩

/-- A compatible object is stored. -/
def Compat.verdict (c : Compat) (o : Bool → KOp) : Verdict :=
  match c with
  | .mismatch => .refuse kMismatch
  | .untested => .refuse kUntested
  | .accept b => .store (o b)

/-- Bytes of the image area that are left when images `l` are stored. -/
def imageBytes (l : List StoredImage) : Nat := (l.map fun x => x.bytes.length).sum

/-- The stored images without the one of a component and version. -/
def Keeper.without (k : Keeper) (component version : Nat) : List StoredImage :=
  k.images.filter fun x => !(x.component == component && x.version == version)

/-- FIRMWARE from its sixth check on. -/
def State.judgeFirmware (s : State) (c : Closing) : Verdict :=
  let f : Firmware := ⟨c.slot, (s.keeper.slot c.slot).key, c.component, c.version, c.hwIf, c.loaderIf,
    c.personalityIf, c.tileIf, c.epoch⟩
  if c.epoch < s.keeper.epoch then .refuse kRollback
  else (s.judge646 (s.firmwareSet f)).verdict (.firmware f)

/-- STORE_IMAGE: judged as if the image joined the set in force. DEDUCED (log 36). -/
def State.judgeImage (s : State) (obj : List Byte) (c : Closing) : Verdict :=
  let tile := c.kind == 3
  let x := s.setInForce
  let i : ImageId := ⟨if tile then 32 else 0, c.component, c.version, if tile then c.tileIf else c.personalityIf⟩
  match s.judge646 { x with images := i :: x.images } with
  | .mismatch => .refuse kMismatch
  | .untested => .refuse kUntested
  | .accept b =>
    if 6 * 2 ^ 20 < imageBytes (s.keeper.without c.component c.version) + obj.length then .refuse kNoSpace
    else .store (.image ⟨tile, c.component, c.version, c.slot, obj⟩ b)

/-- ERASE_IMAGE of `b`'s component and version. -/
def State.judgeErase (s : State) (b : List Byte) : Verdict :=
  let used := match s.struct with
    | some x => x.images.any fun i => i.component == leAt b 0 4 && i.version == leAt b 4 4
    | none => false
  if b.length ≠ 8 then .refuse kBadFormat
  else if used then .refuse kInUse
  else .store (.erase (leAt b 0 4) (leAt b 4 4))

/-- KEY_CERT (R627, R628). An owner slot that names itself is DENIED. DESIGN CHOICE (log 37). -/
def State.judgeKeyCert (s : State) (b : List Byte) (signer : Nat) : Verdict :=
  let i := byteAt b 0
  let old := s.keeper.slot i
  if signer = i then .refuse kDenied
  else if byteAt b 1 = 2 then .store (.keyCert i { old with state := .revoked })
  else if old.state = .revoked then .refuse kSlotRevoked
  else .store (.keyCert i ⟨.active, byteAt b 2, (b.drop 16).take 97⟩)

/-- A sound object's own judgement, by its closing kind. -/
def State.judgeBody (s : State) (obj body : List Byte) (c : Closing) : Verdict :=
  let table := if c.slot < 2 then s.keeper.thrumsyn else s.keeper.owner
  match c.kind with
  | 1 => s.judgeFirmware c
  | 2 | 3 => s.judgeImage obj c
  | 4 => match testedTable body with
    | some t => if t.seq < table.seq then .refuse kRollback else .store (.tested (2 ≤ c.slot) t)
    | none => .refuse kBadFormat
  | 5 => if leAt body 4 4 < s.keeper.policySeq then .refuse kRollback
      else .store (.policy (nbit (byteAt body 0) 0) (leAt body 4 4))
  | 6 => match lifecycleOf (byteAt body 0) with
    | some t => if lifecycleMay s.keeper.lifecycle t c.slot then .store (.lifecycle t)
        else .refuse kWrongState
    | none => .refuse kBadFormat
  | 7 => if byteAt body 0 = 2 ∧ s.keeper.lifecycle = .deployed then .refuse kDenied
      else .open_ ⟨byteAt body 0, leAt body 4 4, leAt body 2 2, s.beacon.raw⟩
  | _ => s.judgeKeyCert body c.slot

/-- Judges an update in R650's order; `obj` is none where its fetch failed. -/
def State.judgeUpdate (s : State) (kind : Nat) (obj : Option (List Byte)) : Verdict :=
  if !updateMode kind s.mode then .refuse kWrongMode
  else if s.updateCell kind ≠ kOk then .refuse (s.updateCell kind)
  else match obj with
  | none => .refuse kFetchError
  | some bs =>
    if updateMax kind < bs.length then .refuse kFetchError
    else if kind = uErase then s.judgeErase bs
    else match closing bs with
    | none => .refuse kBadFormat
    | some (body, c) =>
      if !closingFits kind c.kind || !bodyForm c.kind body then .refuse kBadFormat
      else if !s.keeper.signs c.slot (kindPurpose c.kind) then .refuse kKeySlot
      else if !s.keeper.verifies body c then .refuse kBadSignature
      else if !s.identityOk c.kind body then .refuse kBadChallenge
      else s.judgeBody bs body c

/-- An update ends with a code: KPR_DONE, and KPR_AUTH_FAIL of a refused token or certificate. -/
def State.endUpdate (kind code : Nat) (s : State) : State :=
  let s := s.upKeeper fun k => { k with done := true, code := code }
  let s := if code ≠ kOk ∧ (kind = uKeyCert ∨ kind = uLifecycle ∨ kind = uDebug) then s.kprEvent 4 code else s
  s.kprEvent 0 code

/-- A debug session opens, or replaces the one that is open (R639, R642); engines it does not halt run on. -/
def State.openSession (x : Session) (s : State) : State :=
  let s := s.upKeeper fun k => { k with session := some x }
  let s := s.each s.engines.keys fun g s =>
    if s.debugHolds g then s else s.upEng g fun e => { e with dbgHalt := false }
  s.kprEvent 1 x.level

/-- The object an update takes: the staging window, or `n` bytes fetched from host memory (R649). -/
def State.updateObject (s : State) (inbuf : Bool) (n : Nat) (fetched : Option (List Byte)) : Option (List Byte) :=
  if inbuf then
    some (((List.range 1024).flatMap fun i => leBytes 4 (s.rd (0x1D000 + 4 * i)).toNat).take n)
  else if s.hostOpen then
    match fetched with
    | some bs => if bs.length = n then some bs else none
    | none => none
  else none

/-- A write of go: the update of `kind` is judged, and its store is queued (R649 to R651). -/
def State.updateGo (kind : Nat) (inbuf : Bool) (n : Nat) (fetched : Option (List Byte)) (s : State) : State :=
  let v := s.judgeUpdate kind (s.updateObject inbuf n fetched)
  let s := s.upKeeper fun k => { k with done := false }
  let s := if kind = uLifecycle ∨ kind = uDebug then s.newChallenge else s
  match v with
  | .refuse code => s.endUpdate kind code
  | .open_ x => (s.openSession x).endUpdate kind kOk
  | .store o => s.queueOp o

/-- An update or store is running or waits to (KPR_UPD_RESULT.busy). -/
def State.keeperBusy (s : State) : Bool := !s.keeper.ops.isEmpty

/-! ### Storage operations (R635 to R637, R651) -/

/-- Every owner key is revoked; an EMPTY slot holds none. DEDUCED (log 38). -/
def Keeper.revokeOwners (k : Keeper) : Keeper :=
  { k with slots := k.slots.take 2 ++ (k.slots.drop 2).map fun x =>
      if x.state = .active then { x with state := .revoked } else x }

/-- Erasures of Table 18-4. -/
def Keeper.erase1 (k : Keeper) : Keeper := { k with autoload := none, beacon := none }

def Keeper.erase2 (k : Keeper) : Keeper :=
  { k.erase1.revokeOwners with
    untested := false, allow := false, policySeq := 0, thrumsyn := ⟨0, []⟩, owner := ⟨0, []⟩, images := [], cal := [],
    health := HealthRec.clean }

def Keeper.erase3 (k : Keeper) : Keeper :=
  { k.erase1.revokeOwners with
    owner := ⟨0, []⟩, allow := false, policySeq := 0, images := k.images.filter fun x => x.slot < 2 }

/-- The lifecycle changes, with its erasure, and its counter advances (R635). -/
def Keeper.change (t : Lifecycle) (k : Keeper) : Keeper :=
  let k' := { k with lifecycle := t, lifeCount := k.lifeCount + 1 }
  match k.lifecycle, t with
  | .deployed, .serviceReturn => k'.erase1
  | .serviceReturn, .provisioned => k'.erase3
  | _, .decommissioned => k'.erase2
  | _, _ => k'

/-- The update kind of a storage operation; none of the module's own stores. -/
def KOp.update : KOp → Option Nat
  | .firmware _ _ => some uFirmware | .image _ _ => some uImage | .erase _ _ => some uErase
  | .tested _ _ => some uTested | .policy _ _ => some uPolicy | .keyCert _ _ => some uKeyCert
  | .lifecycle _ => some uLifecycle
  | .autoload _ | .beacon _ | .cal _ | .health => none

/-- What a completed store leaves in Keeper storage. -/
def KOp.apply (rec_ : HealthRec) (o : KOp) (k : Keeper) : Keeper :=
  match o with
  | .firmware f _ =>
    if k.runsB then { k with fwA := some f, activeB := false } else { k with fwB := some f, activeB := true }
  | .image x _ => { k with images := k.without x.component x.version ++ [x] }
  | .erase c v => { k with images := k.without c v }
  | .tested owner t => if owner then { k with owner := t } else { k with thrumsyn := t }
  | .policy a q => { k with allow := a, policySeq := q }
  | .keyCert i x => { k with slots := k.slots.set i x }
  | .lifecycle t => k.change t
  | .autoload st => { k with copied := some st }
  | .beacon l => { k with beacon := some l }
  | .cal v => { k with cal := v }
  | .health => { k with health := rec_ }

/-- CAL_COMMIT completes with its store (R726). DEDUCED (log 39). -/
def State.finishCal (s : State) : State := if (s.executing 0x14).isSome then s.finish cOk 0 else s

/-- KEEPER_STORE_DONE: the running store completes, and the next one starts (R651). -/
def State.storeDone (s : State) : State :=
  match s.keeper.ops with
  | [] => s
  | o :: rest =>
    if !s.keeper.running then s
    else
      let r := s.healthRec
      let s := (s.upKeeper fun k => o.apply r { k with ops := rest, running := false }).keeperStart
      let s := match o with | .firmware _ b | .image _ b => s.setUntested b | _ => s
      match o with
      | .lifecycle _ => ((s.endUpdate uLifecycle kOk).closeSession).enterMode .bringUp
      | .autoload _ =>
        let s := s.each s.loads.keys fun t s => match s.load t with
          | some j => if j.copy = .running || j.copy = .waiting then s.setLoad t (some { j with copy := .done }) else s
          | none => s
        s.kprEvent 0 kOk
      | .cal _ => (s.kprEvent 0 kOk).finishCal
      | .health => s
      | _ => match o.update with
        | some k => s.endUpdate k kOk
        | none => s.kprEvent 0 kOk

end Sys2Proof.Machine
end

