-- ==== Sys2Proof/Machine/Debug.lean ====
section
/-! DEFINITION. Keeper's debug window and boundary-scan port (R640 to R643, Table 18-14, Table 18-15): halt and single
step, engine memory, TAP shifts. -/
namespace Sys2Proof.Machine

/-- The decoded instruction that an engine issues runs; `late` is what happens during a return. -/
def State.runOp (i : Issue) (o : Op) (late : List Late) (s : State) : State :=
  match o with
  | .reg3 f rd ra rb => s.runReg3 i f rd ra rb
  | .reg2 f rd ra => s.runReg2 i f rd ra
  | .ext rd ra pos len sign => s.runExt i rd ra pos len sign
  | .ins rd ra pos len => s.runIns i rd ra pos len
  | .immed f rd ra v => s.runImm i f rd ra v
  | .shi rd ra kind n => s.runShi i rd ra kind n
  | .lui rd v => s.runLui i rd v
  | .cmp ra rb => s.runCmp i ra rb
  | .cmpi ra v => s.runCmpi i ra v
  | .tst ra rb => s.runTst i ra rb
  | .load f rd ra v => s.runLoad i f rd ra v i.finds.data
  | .store f rd ra v => s.runStore i f rd ra v
  | .atom f rd ra rb => s.runAtom i f rd ra rb i.finds.data
  | .bc cond off => s.runBc i cond off
  | .cb nz ra off => s.runCb i nz ra off
  | .jmp off => s.runJmp i off
  | .call off => s.runCall i off
  | .jr ra => s.runJr i ra
  | .callr ra => s.runCallr i ra
  | .loop ra len => s.runLoop i ra len
  | .loopi count len => s.runLoopi i count len
  | .lexit k => s.runLexit i k
  | .nop => s.runNop i
  | .wfe => s.runWfe i
  | .sev => s.runSev i
  | .reti => s.runReti i late
  | .trap v => s.runTrap i v
  | .break_ v => s.runBreak i v
  | .csr f r n => s.runCsr i f r n
  | .ei => s.runEi i
  | .di => s.runDi i
  | .unit f rd ra rb => s.runUnit i f rd ra rb
  | .crc j rd ra rb => s.runCrc i j rd ra rb
  | .tile fn rd ra rb imm => s.runCust i fn rd ra rb imm
  | .absent u fn rd ra rb => s.runAbsent i u fn rd ra rb

def State.setHalt (g : Nat) (b : Bool) (s : State) : State := s.upEng g fun e => { e with dbgHalt := b }

/-- A halted engine runs the one instruction at its pc. -/
def State.stepOne (g : Nat) (e : Meets) (s : State) : State :=
  if !(s.eng g).dbgHalt then s
  else
    let s := s.setHalt g false
    let s := match decodeWord (s.fetched g) with
      | some o => s.runOp ⟨g, e.finds⟩ o e.late
      | none => s.runIllegal ⟨g, e.finds⟩
    s.setHalt g true

/-- Engine selected in KPR_DBG_SEL. -/
def State.dbgSel (s : State) : Nat := s.rf 0x1C068 0 5

/-- The selected engine is within the session's mask. -/
def State.dbgCovered (s : State) : Bool := nbit s.debugMask s.dbgSel

/-- A write of KPR_DBG_CTRL (R640). -/
def State.dbgCtrl (close : Bool) (s : State) : State :=
  if !s.portO then s.mgReject 0x1C060 else if close then s.closeSession else s

/-- A write of KPR_DBG_SEL: the engine selected, its halt, and one step of a halted engine. -/
def State.dbgSelect (g : Nat) (halt step : Bool) (e : Meets) (s : State) : State :=
  if !s.portO || (!s.portF && (halt || step)) then s.mgReject 0x1C068
  else if !nbit s.debugMask g then s.encReject 0x1C068
  else
    let s := s.wr 0x1C068 (wd g)
    if !s.portF then s
    else
      let s := if step then s.stepOne g e else s
      s.setHalt g halt

/-- A write of KPR_DBG_ADDR. -/
def State.dbgAddr (a : Nat) (s : State) : State :=
  if !s.portO then s.mgReject 0x1C06C
  else if a % 4 ≠ 0 then s.encReject 0x1C06C
  else s.wr 0x1C06C (wd a)

/-- Writes a byte of any memory of engine `g`. -/
def State.setAnyByte (g a : Nat) (b : Byte) (s : State) : State :=
  if a < 0x20000 then s.upEng g fun e => { e with imem := e.imem.set (fun _ => 0) a b } else s.setEngByte g a b

/-- Writes a word of any memory of engine `g`. -/
def State.putAnyWord (g a : Nat) (w : Word) (s : State) : State :=
  s.each (List.range 4) fun i s => s.setAnyByte g (a + i) (BitVec.ofNat 8 (w.toNat / 256 ^ i))

/-- KPR_DBG_ADDR moves on. -/
def State.dbgNext (s : State) : State := s.wr 0x1C06C (s.rd 0x1C06C + 4)

/-- A read of KPR_DBG_DATA; an address that names no memory reads zero. -/
def State.dbgRead (s : State) : Word × State :=
  if s.portO && s.dbgCovered then (wd (s.engVal s.dbgSel (s.rd 0x1C06C).toNat 4), s.dbgNext) else (0, s)

/-- A write of KPR_DBG_DATA. -/
def State.dbgWrite (w : Word) (s : State) : State :=
  if !s.portF || !s.dbgCovered then s.mgReject 0x1C070
  else (s.putAnyWord s.dbgSel (s.rd 0x1C06C).toNat w).dbgNext

/-- A write of a boundary-scan register other than KPR_TAP_TDO: 0 CTRL, 1 TMS, 2 TDI. -/
def State.tapWrite (i : Nat) (w : Word) (s : State) : State :=
  let off := 0x1C080 + 4 * i
  if !s.portFT then s.mgReject off
  else if i ≠ 0 then s.wr off w
  else
    let n := fld w 0 6
    if n = 0 ∨ 32 < n then s.encReject off
    else
      let s := s.wr off (wd n)
      if !bit w 31 then s
      else
        let bits := fld (Config.tdo s.free) 0 n
        s.draw.setf 0x1C08C 0 n bits

end Sys2Proof.Machine
end

