-- ==== Sys2Proof/Machine/Irq.lean ====
section
/-! DEFINITION. Interrupt and event-queue registers (R570 to R572, R583 to R594), the PCI Express function's link
(R590 to R601) and WAKE# (R53, R54, R751). -/
namespace Sys2Proof.Machine

/-! ### Shared sources -/

/-- A 1 written to the set alias of IRQ_SPEND for source `i` (R572); a level or reserved source ignores it. -/
def State.spendSet1 (i : Nat) (s : State) : State := s.arrive i

/-- A 1 written to the clear alias (R572): a level source is sampled again, a claim of it open or not. -/
def State.spendClear1 (i : Nat) (s : State) : State :=
  let before := s.srcPending i
  (s.setSrc i { s.src i with pending := false, count := 0, masked := false }).noteSrc i before

/-- The sources 32 * w + i of the bits set in a word. -/
def spendBits (w : Nat) (v : Word) : List Nat := ((List.range 32).filter fun i => bit v i).map (32 * w + ·)

def State.spendSet (w : Nat) (v : Word) (s : State) : State := s.each (spendBits w v) State.spendSet1
def State.spendClear (w : Nat) (v : Word) (s : State) : State := s.each (spendBits w v) State.spendClear1

/-- IRQ_SPEND[w]. -/
def State.spendWord (s : State) (w : Nat) : Word :=
  wd (((List.range 32).map fun i => b2n (s.srcPending (32 * w + i)) * 2 ^ i).sum)

/-! ### Event queues -/

/-- The records held for queue `q` are discarded and counted in lost (R585, R587). -/
def State.dropHeld (q : Nat) (s : State) : State :=
  let x := s.eq q
  { s with hold := s.hold.filter fun (e : Nat × EvRec) => e.1 != q }.setEq q
    { x with lost := satAdd 0xFFFF x.lost (s.hold.filter fun (e : Nat × EvRec) => e.1 == q).length, reserved := 0 }

/-- A write of IRQ_EQ[q]_CFG (R583, R585, R737). Reserved sizes and a mod_count of 0 keep their fields. A queue that is
disabled loses what is held for it; an armed one is judged under its new settings (R586). -/
def State.eqCfg (q : Nat) (w : Word) (s : State) : State :=
  let off := eqOff q 2
  let old := s.rd off
  if bit old 31 && fld w 24 4 != fld old 24 4 then s.mgReject off
  else
    let badSize := fld w 24 4 < 4 || 12 < fld w 24 4
    let badCount := fld w 16 8 == 0
    let v := setFld (setFld 0 31 1 (fld w 31 1)) 0 16 (fld w 0 16)
    let v := setFld v 24 4 (if badSize then fld old 24 4 else fld w 24 4)
    let v := setFld v 16 8 (if badCount then fld old 16 8 else fld w 16 8)
    let s := s.wr off v
    let s := if bit w 31 && !bit old 31 then
        s.setEq q { s.eq q with head := 0, tail := 0, phase := true, armed := false, timer := false }
      else if !bit w 31 && bit old 31 then s.dropHeld q
      else if bit w 31 then s.rejudgeEq q
      else s
    if badSize || badCount then s.encReject off else s

/-- A write of IRQ_EQ[q]_HEAD: records are consumed and the queue is armed (R584, R586). In L1 a message condition
that this makes true brings the link out (R593). -/
def State.eqHead (q : Nat) (w : Word) (s : State) : State :=
  let x := s.eq q
  let n := s.eqSize q
  let v := fld w 0 12
  if n ≤ v || s.eqUnread q < (v + n - x.head) % n then s.encReject (eqOff q 3)
  else
    (s.setEq q { x with head := v, armed := true, timer := false }).rejudgeEq q

/-- MODERATION_TIMER: mod_time has run (R586, R593). -/
def State.moderationTimer (q : Nat) (s : State) : State :=
  let x := s.eq q
  if !(x.armed && x.timer) then s
  else
    let s := if s.host.l1 then s.l1Exit else s
    if (s.eq q).armed then s.eqMessage q else s

/-- IRQ_EQ[q]_STAT (Table 16-18). -/
def EventQ.stat (x : EventQ) : Word :=
  wd (x.lost * 2 ^ 16 + b2n x.overflow * 2 ^ 15 + b2n x.armed * 2 ^ 14 + b2n x.phase * 2 ^ 12 + x.tail)

/-! ### Host sleep (R588 to R594) -/

/-- What req = 1 asks for (R588): every message is sent and the unread records are reported. -/
def State.sleepShake (s : State) : State :=
  let s := s.each (List.range 64) fun q s => if 0 < s.eqUnread q then s.eqMessage q else s
  let n := ((List.range 64).map fun q => if s.eqEnabled q then s.eqUnread q else 0).sum
  s.wr 0xE404 (wd (2 ^ 31 + n % 2 ^ 19))

/-- A write of HOST_SLEEP_REQ (R588, R589, R593). -/
def State.sleepReq (req : Bool) (s : State) : State :=
  let s := if s.host.l1 then s.l1Exit else s
  let s := (s.wr 0xE400 (wd (b2n req))).setf 0xE404 31 1 0
  if req && !s.host.d3hot then s.sleepShake else s

/-- WAKE_HOLD_EXPIRY: a record has been held for wake_hold (R591, R594). -/
def State.wakeHold (s : State) : State :=
  if s.hold.isEmpty || s.mode == .sleep then s else s.signalPme

/-- Held records are written once the function is in D0 with Bus Master Enable set, the link is in L0 and the module
has left SLEEP; every queue that receives one sends its message (R592, R594). Write-backs that waited follow (R615). -/
def State.flushHeld (s : State) : State :=
  if !s.hostOpen || s.host.l1 || s.mode == .sleep then s
  else
    let qs := s.heldQueues
    (s.writeHeld.each qs State.eqMessage).each s.hostQs.keys State.writeBacks

/-- HELD_RECORDS_FLUSH: the function is again in D0 with Bus Master Enable set (R589, R592). -/
def State.masterBack (s : State) : State :=
  let s := if s.host.d3hot then s.setf 0xE400 0 1 0 else s
  { s with host := { s.host with d3hot := false, busMaster := true } }.flushHeld

/-- D3HOT_ENTRY: host software places the function in D3hot or D0, and sets Bus Master Enable and PME_En (R590). A
return from D3hot to D0 clears req (R589); what may then be written is (R592). -/
def State.d3Entry (d3 bme pmeEn : Bool) (s : State) : State :=
  let s := if s.host.d3hot && !d3 then s.setf 0xE400 0 1 0 else s
  { s with host := { s.host with d3hot := d3, busMaster := bme, pmeEn := pmeEn } }.flushHeld

/-- L1_EXIT: the link leaves L1 (R593). -/
def State.l1Leave (s : State) : State := if s.host.l1 then s.l1Exit else s

/-- LINK_L1_ENTRY. -/
def State.l1Enter (s : State) : State :=
  if s.host.up then { s with host := { s.host with l1 := true } } else s

/-! ### The link and the function -/

/-- PCIE_LINK_UP: the link reaches L0; WAKE# is released (R54) and held records may be written (R594). While PERST# is
asserted the endpoint trains no link (R596). -/
def State.linkL0 (s : State) : State :=
  if s.mode == .off || s.host.perst then s
  else
    let was := s.host.up
    let s := { s with host := { s.host with up := true, l1 := false } }.setWake false
    let s := if was then s else s.raise .host 0 0 1
    s.flushHeld

/-- PERST_DEASSERT: the endpoint starts link training (R596). -/
def State.perstHigh (s : State) : State := { s with host := { s.host with perst := false } }

/-- The held records are discarded and every event queue is disabled (R587). -/
def State.resetQueues (s : State) : State :=
  let s := s.each (List.range 64) fun q s => (s.dropHeld q).setf (eqOff q 2) 31 1 0
  s.setf 0xE400 0 1 0

/-- The descriptor queues are reset (R614): deliveries already reserved find their slot gone. Head and tail are other
BAR0 registers, and stay (R600). -/
def State.resetHostQs (s : State) : State :=
  let gone (d : Delivery) : Delivery := if d.kind = dHostQ then { d with param := 4096 } else d
  let s := { s with transit := s.transit.map fun (t : Transit) => { t with pending := t.pending.map gone } }.dropWaits
    fun w => w.hostQ.isSome
  s.each s.hostQs.keys fun q s =>
    (s.setHostQ q { s.hostQ q with enable := false, stopping := false, flight := [] }).setf
      (hostQOff q 2) 31 1 0

/-- HOST_LINK_RESET by hot reset (0), function level reset (1), link down (2) or PERST# (3) (R587, R600, R614). All
but a function level reset take the link down. PCI Express resets the MSI-X table and the function's power state. -/
def State.hostReset (kind : Nat) (s : State) : State :=
  if s.mode == .off then s
  else
    let was := s.host.up
    let up := was && kind == 1
    let s := s.resetQueues.resetHostQs
    let s := { s with host := { s.host with
      up := up, l1 := false, d3hot := false, busMaster := false, pmeEn := false, pmeStatus := false,
      perst := s.host.perst || kind == 3, fnMask := false, msix := [] } }
    if was && !up then s.raise .host 0 0 0 else s

/-- MSIX_TABLE_WRITE: a BAR4 write of vector `v`'s entry. Unmasked, the vector sends what its pending bit holds. -/
def State.msixWrite (v addr data : Nat) (masked : Bool) (s : State) : State :=
  if s.mode == .off || 64 ≤ v then s
  else
    let m := s.msix v
    let s := s.setMsix v { m with addr := addr, data := data, masked := masked }
    if m.pending && !masked && !s.host.fnMask then (s.setMsix v { s.msix v with pending := false }).emit (.msix v)
    else s

/-- A write of the function mask; unmasked vectors send what their pending bits hold (R601). -/
def State.fnMaskWrite (mask : Bool) (s : State) : State :=
  let s := { s with host := { s.host with fnMask := mask } }
  if mask then s
  else s.each (List.range 64) fun v s =>
    let m := s.msix v
    if m.pending && !m.masked then (s.setMsix v { m with pending := false }).emit (.msix v) else s

/-! ### WAKE# (R54, R751) -/

/-- HOST_WAKE: the host holds WAKE# low for 10 µs; the module drives WAKE# in no state of SLEEP. -/
def State.hostWake (s : State) : State := s.wake

/-- WAKE_RELEASE: the link is in L0, or 100 ms have passed. -/
def State.wakeRelease (s : State) : State := s.setWake false

/-! ### Host descriptor queues (R602 to R616) -/

/-- What R616 refuses of a partner for host queue `q`, which counts among the partner's sources. -/
def State.hostPartnerBad (s : State) (q p : Nat) : Bool :=
  let x := s.partner p
  !x.allocated || x.owner != 4 || x.g < max (s.maxReq p) (if s.unpackRouted srcHost q then 289 else 33)

/-- A write of HOST_Q[q]_CFG. What R602 or R616 reserves keeps its previous value: the enable of a queue without an
entry, the partner. Enabling a queue that is still stopping has no effect. DESIGN CHOICE (log 40). -/
def State.hostQCfg (q : Nat) (w : Word) (s : State) : State :=
  let off := hostQOff q 2
  let x := s.hostQ q
  let old := s.rd off
  let guarded (v : Word) : Nat := fld v 29 2 * 2 ^ 12 + fld v 0 12
  if (x.enable || x.stopping) && guarded w != guarded old then s.mgReject off
  else
    let badE := bit w 31 && x.depth == 0
    let badP := bit w 29 && s.hostPartnerBad q (fld w 0 12)
    let en := if badE then x.enable else bit w 31 && (x.enable || !x.stopping)
    let v := setFld (setFld 0 30 1 (fld w 30 1)) 31 1 (b2n en)
    let s := s.wr off (if badP then setFld (setFld v 29 1 (fld old 29 1)) 0 12 (fld old 0 12)
      else setFld (setFld v 29 1 (fld w 29 1)) 0 12 (fld w 0 12))
    let s :=
      if en then
        if x.enable then s.setHostQ q { x with fault := false }
        else s.setHostQ q { x with enable := true, fault := false, head := 0, tail := 0, flight := [] }
      else if x.enable then s.stopQueue q
      else s
    if badE || badP then s.encReject off else s

/-- A write of HOST_Q[q]_TAIL (R603). -/
def State.hostQTail (q : Nat) (w : Word) (s : State) : State :=
  let x := s.hostQ q
  if x.depth ≤ fld w 0 12 then s.encReject (hostQOff q 3) else s.setHostQ q { x with tail := fld w 0 12 }

/-- TX_DESCRIPTOR: the next slot of queue `q` is fetched, and then its frame image; none stands for a read that failed
(R604, R607). -/
def State.txDescriptor (q : Nat) (desc image : Option (List Byte)) (s : State) : State :=
  let x := s.hostQ q
  let i := (x.head + x.flight.length) % x.depth
  if !x.enable || s.hostQRx q || !s.hostOpen || i == x.tail || 256 ≤ x.inFlight then s
  else match desc with
    | none => s.queueFault q i
    | some d =>
      let d := fitBytes 32 d
      (s.setHostQ q { x with flight := x.flight ++ [⟨i, .fetched, d, 0, 0⟩] }).hostFrame q i d image

/-- An RX descriptor passes the checks of Table 17-3. -/
def rxDescOk (d : List Byte) : Bool :=
  let cap := leAt d 8 2
  leAt d 0 8 % 64 == 0 && 64 ≤ cap && cap ≤ 2112 && cap % 64 == 0 && leAt d 10 6 == 0 && leAt d 18 7 == 0
    && (byteAt d 25 == 0 || byteAt d 25 == 8) && leAt d 28 3 == 0

/-- Releases the delivery that reserved slot `i` of queue `q`, counted in discarded (R611). -/
def State.dropReserved (q i : Nat) (s : State) : State :=
  let mine (d : Delivery) : Bool := d.kind == dHostQ && d.index == q && d.param == i
  let recs := s.transit.flatMap fun t => (t.pending.filter mine).map (·.record)
  let ids := (s.transit.filter fun t => t.pending.any mine).map (·.id)
  let s := { s with transit := s.transit.map fun (t : Transit) => { t with pending := t.pending.filter (!mine ·) } }
  let s := s.each recs fun c s => (s.dropRef c).hostDiscard q
  s.each ids State.endTransit

/-- RX_SLOT_FETCH of slot `i` of queue `q`: sound, it may receive; unsound or not read, it is written back without a
record (R609, R611), and a failed read stops the queue (R604). -/
def State.rxSlotFetch (q i : Nat) (desc : Option (List Byte)) (s : State) : State :=
  match (s.hostQ q).slot i with
  | none => s
  | some h =>
    if h.phase != .reserved || !s.hostOpen then s
    else match desc with
      | some d =>
        let d := fitBytes 32 d
        if rxDescOk d then s.setSlot q i fun h => { h with raw := d, phase := .fetched }
        else ((s.setSlot q i fun h => { h with raw := d }).dropReserved q i).slotDue q i 5 0
      | none =>
        let s := ((s.setSlot q i fun h => { h with raw := [] }).dropReserved q i).slotDue q i 6 0
        s.queueFault q i

/-- QUEUE_STOPPED: nothing remains in flight (R613). -/
def State.queueStopped (q : Nat) (s : State) : State :=
  let x := s.hostQ q
  if x.stopping && x.inFlight == 0 then
    s.setHostQ q { x with stopping := false, head := 0, tail := 0, flight := [] }
  else s

end Sys2Proof.Machine
end

