-- ==== Sys2Proof/Machine/Views.lean ====
section
/-! DEFINITION. What every register word reads as (the field maps of Table 22-1 and Table 22-2): stored words, and
words formed from the state. Command bits and set-only bits read as zero. -/
namespace Sys2Proof.Machine

/-- Word `w` of a little-endian byte string. -/
def wordAt (b : List Byte) (w : Nat) : Word := wd (leAt b (4 * w) 4)

/-- Word `w` of a wide number. -/
def wideWord (n w : Nat) : Word := wd (n / 2 ^ (32 * w))

/-- A field placed in a word. -/
def f2 (v lo : Nat) : Nat := v * 2 ^ lo

/-- MOD_STATUS (Table 2-12). -/
def State.modStatus (s : State) : Word :=
  wd (f2 (b2n s.keeper.untested) 31 + f2 (b2n (s.beacon.state == .locked)) 30 + f2 (s.ctl.reconfig % 16) 24
    + f2 (s.fuse.clusters % 16) 20 + f2 s.ctl.prev.code 16
    + f2 (if s.mode == .faultHold then s.ctl.hold.code else 0) 8 + s.mode.code)

/-- structure_id of the structure in force. -/
def State.structId (s : State) : Nat := match s.struct with | some x => x.id | none => 0

/-- MICA_STATUS (Table 3-11); the record index stands at 0 between the steps of a load. -/
def State.micaStatus (s : State) : Word :=
  match s.loads with
  | [] => wd (f2 (s.rf 0x2000 24 4) 24)
  | (_, j) :: _ =>
    let phase := match j with | some x => x.phase | none => .validate
    let (p, st) : Nat × Nat := match phase with | .validate => (2, 1) | .stage6 => (2, 6) | .apply => (3, 0)
    let mask := (s.loads.map fun e => match e.2 with
      | some x => if x.phase == .apply then (if x.target = 4 then 15 else 2 ^ x.target) else 0
      | none => 0).foldl (· ||| ·) 0
    wd (f2 1 31 + f2 p 28 + f2 st 24 + f2 mask 20)

/-- MOD_ID words (Table 22-6 to Table 22-10). -/
def State.idWord (s : State) (w : Nat) : Word :=
  let f := s.fuse
  match w with
  | 0 => wd (f2 f.device 16 + f.vendor)
  | 1 => wd (f2 f.stepping 24 + f2 (b2n f.optT) 21 + f2 (b2n f.optP) 20 + f2 f.clusters 16 + b2n s.keeper.untested)
  | 6 => wideWord f.serial 0
  | 7 => wideWord f.serial 1
  | 8 => wd s.keeper.fw.version
  | 9 => wd s.structId
  | 10 => 1
  | _ => wd (ofLe (((f.part.map fun n => BitVec.ofNat 8 n).drop (4 * (w - 2))).take 4))

/-- BCN_NOW of a reading in 2^-16 ns, as 128 bits (Table 11-1). -/
def nowBits (t : Nat) : Nat :=
  let ns := t / 2 ^ 16
  f2 (ns / 10 ^ 9) 64 + f2 (ns % 10 ^ 9) 32 + t % 2 ^ 16

/-- BCN_STAT (Table 11-13). -/
def State.bcnStat (s : State) : Word :=
  let b := s.beacon
  wd (f2 b.state.code 29 + f2 (b2n b.stepAvail) 28 + f2 (b2n b.refusing) 27 + f2 (b2n b.clamped) 26
    + f2 (b2n s.keeper.beacon.isSome) 25 + f2 (b2n b.saveFailed) 24)

/-- Words of a BCN_PORT block. -/
def State.bcnPortWord (s : State) (p w : Nat) : Word :=
  let x := s.bport p
  match w with
  | 2 => wd x.delay
  | 3 => wd (f2 (b2n x.hold) 31 + f2 (b2n x.dValid) 30 + f2 x.holdLeft 16 + x.tsq.length)
  | 4 | 5 | 6 | 7 => 0
  | _ => s.rd (0x8400 + 0x40 * p + 4 * w)

/-- CYC words: CFG, PERIOD, PHASE, then CYC_NOW. -/
def State.cycWord (s : State) (w : Nat) : Word :=
  match s.cycle with
  | none => 0
  | some c =>
    let k := c.inForce s.ns
    let start := if k < 0 then Config.startBeforeZero c.phase c.period else stampOfNs (c.nominal k.toNat)
    match w with
    | 0 => wd (f2 1 31 + f2 c.matrixLog2 24 + f2 c.catchup 16 + c.ntu)
    | 1 => wd c.period
    | 2 => wd c.phase
    | 4 => wd (k % 2 ^ c.matrixLog2).toNat
    | 5 => BitVec.ofInt 32 k
    | 6 => wideWord start 0
    | 7 => wideWord start 1
    | _ => 0

/-- Words of CYC_TL[t]. -/
def State.tlWord (s : State) (t w : Nat) : Word :=
  let x := s.tl t
  match w with
  | 0 =>
    let role := match s.sched t with | some y => y.role.code | none => 0
    wd (f2 (b2n x.active) 31 + f2 role 28 + f2 (b2n x.synced) 27
      + f2 (match x.current with | some p => p.index % 256 | none => 255) 8)
  | 1 => wd (ofSigned 32 (satInt (2 ^ 31 - 1) x.phase))
  | _ => s.rd (0xA400 + 0x20 * t + 4 * w)

/-- Shared source `i` is claimed and not yet completed: it lies on the claim stack of an engine (R567, R570). -/
def State.srcClaimed (s : State) (i : Nat) : Bool :=
  (List.range 32).any fun g => (s.eng g).cpu.claims.contains (true, i)

/-- IRQ_SRC[i] (Table 16-3). -/
def State.srcWord (s : State) (i : Nat) : Word :=
  let x := s.src i
  wd (f2 (b2n x.enable) 31 + f2 (b2n x.edge) 30 + f2 (b2n (s.srcPending i)) 29 + f2 (b2n (s.srcClaimed i)) 28
    + f2 x.priority 24 + f2 (if x.edge then x.count else 0) 16 + f2 (b2n x.targetValid) 15 + f2 x.target 8 + x.queue)

def State.eqWord (s : State) (q w : Nat) : Word :=
  match w with
  | 3 => wd (s.eq q).head
  | 4 => (s.eq q).stat
  | _ => s.rd (eqOff q w)

def State.hostQWord (s : State) (q w : Nat) : Word :=
  let x := s.hostQ q
  match w with
  | 3 => wd x.tail
  | 4 => wd (f2 x.inFlight 16 + x.head)
  | 5 => wd (f2 (b2n (x.depth != 0)) 31 + f2 (b2n x.stopping) 30 + f2 (b2n x.fault) 29 + x.depth)
  | _ => s.rd (hostQOff q w)

/-- Whole seconds left in the debug session. -/
def State.sessionLeft (s : State) : Nat :=
  match s.keeper.session with
  | some x => x.seconds - (((s.beacon.raw : Int) - x.opened) / ((10 ^ 9 * 2 ^ 16 : Nat) : Int)).toNat
  | none => 0

/-- KPR_STAT (Table 18-8). -/
def State.kprStat (s : State) : Word :=
  let k := s.keeper
  wd (f2 k.lifecycle.code 29 + f2 s.debugLevel 27 + f2 (b2n k.session.isSome) 26 + f2 (b2n k.runsB) 25
    + f2 (b2n k.fallback) 24 + f2 (b2n k.untested) 23 + f2 (b2n k.allow) 22 + s.sessionLeft % 2 ^ 16)

def State.kprUpdResult (s : State) : Word :=
  wd (f2 (b2n s.keeperBusy) 31 + f2 (b2n s.keeper.done) 30 + s.keeper.code)

/-- Debug registers, zero where the port is shut (R643); KPR_DBG_DATA apart. -/
def State.dbgWord (s : State) (w : Nat) : Word :=
  if !s.portO then 0
  else match w with
    | 1 => wd s.debugMask
    | 2 => wd (f2 (b2n (s.eng s.dbgSel).dbgHalt) 31 + s.dbgSel)
    | 3 => s.rd 0x1C06C
    | _ => 0

def State.tapWord (s : State) (w : Nat) : Word := if s.portFT then s.rd (0x1C080 + 4 * w) else 0

/-- PWR words (Table 19-5 to Table 19-9). -/
def State.pwrWord (s : State) (w : Nat) : Word :=
  let p := s.power
  match w with
  | 0 => wd (f2 (b2n p.modPg) 31 + f2 (b2n p.warn) 30 + f2 (b2n p.feedA) 29 + f2 (b2n p.feedB) 28
      + f2 (b2n (p.feedA && p.condA)) 27 + f2 (b2n (p.feedB && p.condB)) 26 + f2 (b2n p.seatA) 25 + f2 (b2n p.seatB) 24 + f2 p.sw.code 21
      + f2 (b2n p.passFault) 20 + f2 p.retries 16)
  | 1 => wd (f2 (p.vFeedB % 2 ^ 16) 16 + p.vFeedA % 2 ^ 16)
  | 2 => wd (f2 (p.vStore % 2 ^ 16) 16 + p.iIn % 2 ^ 16)
  | 3 => wd (f2 (min p.holdUs 65535) 16 + p.capUf % 2 ^ 16)
  | _ => wd p.cause

/-- SPAR[q] words; an output the variant leaves out reads as zero (R7, R9). -/
def State.sparWord (s : State) (q w : Nat) : Word :=
  let x := s.spar q
  if !s.hasSpar q then 0
  else match w with
    | 0 =>
      let p := s.plan q
      setFld (s.rd (sparBase q)) 29 3 (f2 (b2n p.isSome) 2 + f2 (b2n (p.any (·.onStandby))) 1 + b2n (p.any (·.onSleep)))
    | 1 => wd (f2 (b2n x.classValid) 31 + f2 x.cls 16 + s.rf (sparBase q + 4) 0 8)
    | 2 => wd (f2 x.state.code 28 + f2 (b2n x.commanded) 27 + f2 (b2n x.pg) 26 + f2 (b2n x.passFault) 25
        + f2 x.retries 16 + f2 x.segActive 12 + f2 x.segSpare 8)
    | 3 => wd (f2 (x.vOut % 2 ^ 16) 16 + x.iOut % 2 ^ 16)
    | _ => s.rd (sparBase q + 4 * w)

def State.sparAllocWord (s : State) : Word :=
  if s.fuse.optP then wd (f2 (s.heldMa / 10 % 2 ^ 16) 16 + s.budgetMa / 10) else 0

/-- Spare driver segments, and spare pass segments, left. -/
def State.driverLeft (s : State) : Nat :=
  ((List.range 40).map fun n => if s.hasCluster (n / 10) then (s.lane n).segSpare else 0).sum
def State.passLeft (s : State) : Nat :=
  ((List.range 64).map fun q => if s.hasSpar q then (s.spar q).segSpare else 0).sum

/-- A word of bits 0 to n - 1. -/
def bitWord (n : Nat) (p : Nat → Bool) : Nat := ((List.range n).map fun i => f2 (b2n (p i)) i).sum

def State.hltInv (s : State) : Word :=
  wd (f2 (bitWord 4 s.engSpareFree) 28 + f2 (bitWord 4 s.sliceSpareFree) 24 + f2 s.driverLeft 12 + s.passLeft)

/-- HLT_RETIRED[w] (Table 21-13). -/
def State.hltRetired (s : State) (w : Nat) : Word :=
  match w with
  | 0 => wd (bitWord 32 fun n => (s.lane n).retired)
  | 1 => wd (bitWord 8 (fun n => (s.lane (32 + n)).retired) + f2 (bitWord 24 fun p => (s.port p).retired) 8)
  | 2 => wd (bitWord 32 fun g => (s.eng g).retired)
  | _ => wd (bitWord 16 s.unitDown + f2 (bitWord 4 fun c => (s.eng (32 + c)).retired) 16
      + f2 (bitWord 4 fun c => (s.spareSlice c).state == .failed) 20)

/-- A calibration entry (Table 21-7). -/
def State.calWord (s : State) (i w : Nat) : Word :=
  match calItem s.fuse i with
  | none => 0
  | some (trim, _) =>
    match w with
    | 0 => BitVec.ofInt 32 (s.calFactory i)
    | 1 => s.rd (0x30000 + 16 * i + 4)
    | 2 => BitVec.ofInt 32 (s.calEff i)
    | _ => wd (f2 1 31 + f2 (b2n (s.calUser i != s.keeper.cal.get (fun _ => 0) i)) 30 + f2 (b2n trim) 29
        + f2 (b2n (calFixed i)) 28)

/-- Link table entry of cell `i` (Table 6-1). -/
def State.linkWord (s : State) (i : Nat) : Word :=
  let x := s.link i
  wd (f2 (b2n x.held) 31 + f2 (b2n x.last) 30 + f2 (b2n x.hw) 29 + f2 (b2n (s.cellRetired i)) 28 + x.next)

/-- Descriptor words (Table 6-5). -/
def Desc.word (d : Desc) (w : Nat) : Word :=
  let rec_ (r : Option Nat) : Word := match r with | some c => wd (f2 1 31 + c) | none => 0
  let rx := d.kind == .rxMailbox || d.kind == .rxFifo
  match w with
  | 0 => wd (f2 d.kind.code 28 + f2 d.state.code 24 + f2 (b2n (d.keep && d.kind == .rxMailbox)) 23 + f2 (b2n d.locked) 22
      + f2 (b2n d.commitPending) 21 + f2 (b2n d.damaged) 20 + f2 d.outcome 16 + d.overrun)
  | 1 => rec_ d.current
  | 2 => rec_ d.shadow
  | _ =>
    if d.kind == .unused then 0
    else wd (f2 d.bindKind 28 + f2 d.bindIndex 16 + f2 d.maxCells 8
      + (if rx then d.queue else match d.slot with | some k => 128 + k | none => 0))

/-- Partner words (Table 7-12); `waiting`, `m` and the cells in transit are formed as they are read. -/
def Partner.word (p : Partner) (waiting : Bool) (m transit w : Nat) : Word :=
  match w with
  | 0 => wd (f2 (b2n p.allocated) 31 + f2 (b2n p.emEligible) 30 + f2 (b2n waiting) 29 + f2 p.owner 26 + f2 p.weight 16
      + p.age)
  | 1 => wd p.g
  | 2 => wd (f2 m 18 + p.b)
  | 3 => wd (f2 p.emMax 16 + p.em)
  | 4 => wd p.guar
  | 5 => wd p.borr
  | 6 => wd transit
  | _ => wd (f2 (ofSigned 20 p.deficit) 12)

def State.partWord (s : State) (i w : Nat) : Word := 
  (s.partner i).word (s.hasWaiters i) (s.maxReq i) (s.cellsInTransit fun r => r.partner == i) w

/-- Word `k` of POOL_PSNAP where the snapshot lists none: that of a partner without quotas, charges or waiting source. -/
def psnapDefault (k : Nat) : Word := (Partner.none (k / 8)).word false 33 0 (k % 8)

/-- The snapshot's partner entries. -/
def State.psnapWord (s : State) (i w : Nat) : Word := s.psnap.get psnapDefault (8 * i + w)

/-- CHK_CTX[i]: the entry, then Table 13-10. -/
def State.ctxWord (s : State) (i w : Nat) : Word :=
  match s.ctx i with
  | none => 0
  | some x =>
    match w with
    | 8 => wd (f2 (b2n x.seen) 31 + x.last)
    | 9 => wd x.checkOk
    | 10 => wd x.checkFail
    | 11 => wd (f2 x.aliveRepeat 16 + x.skipLost)
    | _ => wordAt x.entry w

/-- Bus lane words (Table 4-2, Table 5-11). -/
def State.busWord (s : State) (n : Nat) (r : BusReg) : Word :=
  let l := s.lane n
  let b := busBase n
  match r with
  | .ctrl => 0
  | .stat => wd (f2 l.ctl.code 29 + f2 l.conf.code 27 + f2 (b2n l.ew) 26 + f2 (b2n l.noPartner) 25 + f2 (b2n l.held) 24
      + f2 l.ackRun 16 + f2 l.slots.length 8 + l.lec)
  | .errcnt => wd (f2 l.tec 16 + f2 l.recv 8
      + l.boSeq)
  | .clashid => wd l.clashId
  | .clashnode => wd l.clashNode
  | .parked => wd (bitWord 32 fun k => l.slots.any fun x => x.index == k && x.parked)
  | .pending => wd (bitWord 32 fun k => l.slots.any fun x => x.index == k)
  | .line => setFld (setFld (s.rd (b + 0x110)) 30 1 (b2n (s.termActive n))) 16 14
      (f2 (s.xcvrOf n).code 11 + f2 l.segActive 4 + l.segSpare)
  | .siglast => wd (f2 (ofSigned 12 (l.sig.d.getD 0)) 20 + f2 (l.sig.a.getD 0 % 256) 12 + f2 (l.sig.s.getD 0 % 256) 4
      + f2 (b2n l.sig.d.isSome) 3 + f2 (b2n (l.sig.a.isSome && l.sig.s.isSome)) 2)
  | .wake => setFld (setFld (s.rd (b + 0x120)) 13 3 l.wakeCause) 0 6 l.wakeErr
  | .tdcv => wd (f2 (b2n l.fdTdcv.isSome) 31 + f2 (b2n l.xlTdcv.isSome) 30 + f2 (s.rf (b + 0x130) 16 8) 16
      + f2 (l.xlTdcv.getD 0 % 256) 8 + l.fdTdcv.getD 0 % 256)
  | r => s.rd (b + r.off)

/-- Ethernet lane words (Table 10-12). -/
def State.macWord (s : State) (p : Nat) (r : MacReg) : Word :=
  let x := s.port p
  match r with
  | .stat => wd (f2 (b2n x.link) 31 + f2 (b2n (Config.eeeOffered p (s.portSpeed p))) 30 + f2 (b2n x.lpiTx) 29 + f2 (b2n x.lpiRx) 28
      + f2 (b2n x.preempt) 27 + f2 (b2n x.admin.isSome) 26 + f2 (bitWord 8 fun t => (x.pause t).inForce) 8
      + x.launches.length % 256)
  | .gclOper i => match x.oper with
      | some g => match g.entries[i]? with
        | some e => wd (f2 (e.1 % 256) 24 + e.2 % 2 ^ 24)
        | none => s.rd (macBase p + 0xA00 + 4 * i)
      | none => s.rd (macBase p + 0xA00 + 4 * i)
  | r => s.rd (macBase p + r.off)

/-- ENG[g]_STAT, INBOX and counters (Table 14-10, Table 14-11). -/
def State.engWord (s : State) (g w : Nat) : Word :=
  let e := s.eng g
  match w with
  | 0 => 0
  | 1 => wd (f2 e.state.code 29 + f2 e.cause.code 26 + f2 (b2n e.ckptValid) 25 + e.ckptSeq)
  | 2 => wd ((List.range 4).map fun i => f2 (e.inbox i).length (8 * i)).sum
  | _ => s.rd (engBase g + 4 * w)

/-- The spare engine window of cluster `c`: ENG[g]_STAT only. -/
def State.spareEngWord (s : State) (c : Nat) : Word :=
  let x := s.eng (32 + c)
  match (if x.retired then none else x.serving) with
  | some g =>
    let e := s.eng g
    wd (f2 e.state.code 29 + f2 e.cause.code 26 + f2 (b2n e.ckptValid) 25 + f2 1 24 + f2 (g % 8) 21 + e.ckptSeq)
  | none => wd (f2 (if x.retired then EngState.retired.code else 0) 29)

def State.fltWord (s : State) (c : Nat) (r : FltReg) : Word :=
  let x := s.slice c
  match r with
  | .cfg => wd (f2 (b2n x.activeBank) 16 + x.seed)
  | .stat => wd (f2 x.exact.length 16 + (x.bank x.activeBank).length)
  | .opstat => wd (f2 (b2n x.busy) 31 + f2 x.status 16 + x.batch.length)
  | .op => 0
  | r => s.rd (fltBase c + r.off)

/-- Check block words: QSTAT and the quarantine ring. An entry that is not held has no stated content. -/
def State.chkQWord (s : State) (c w : Nat) : Word :=
  let q := s.ring c
  if w = 1 then wd (f2 (s.rf (qstat c) 16 16) 16 + f2 q.head 8 + q.held.length)
  else if w = 2 then 0
  else if w < 1024 then s.rd (chkQBase c + 4 * w)
  else
    let k := ((w - 1024) / 32 + 64 - q.head) % 64
    match q.held[k]? with
    | some e => wordAt e ((w - 1024) % 32)
    | none => Config.staleQuarantine s.free (c * 2048 + (w - 1024))

/-! ### The PCI Express function -/

/-- The configuration of the function (Table 17-1) as far as it describes registers: identity, base address registers as
index, bytes and prefetchable, vectors, and the extended capabilities present. No row reads it (log 101). -/
structure FnConfig where
  vendor : Nat
  device : Nat
  revision : Nat
  classCode : Nat
  bars : List (Nat × Nat × Bool)
  vectors : Nat
  maxPayload : Nat
  /-- The Device Serial Number, beside AER, L1 PM Substates and LTR. -/
  serial : Nat
  deriving DecidableEq, Repr

/-- What configuration requests find, from SEATING onward (R595, R596). -/
def State.fnConfig (s : State) : Option FnConfig :=
  if s.mode == .off then none
  else some { vendor := s.fuse.vendor, device := s.fuse.device, revision := s.fuse.stepping, classCode := 0x028000,
              bars := [(0, 2 ^ 26, false), (2, 2 ^ 24, true), (4, 2 ^ 14, false)], vectors := 64, maxPayload := 512,
              serial := s.fuse.serial }

/-- Word `w` of BAR4: the MSI-X table, and the pending bits at 0x2000 (Table 17-1, R597). No row reads it. -/
def State.bar4Word (s : State) (w : Nat) : Word :=
  let m := s.msix (w / 4)
  if s.mode == .off then 0
  else if w < 256 then
    match w % 4 with
    | 0 => wd m.addr
    | 1 => wd (m.addr / 2 ^ 32)
    | 2 => wd m.data
    | _ => wd (b2n m.masked)
  else if w = 2048 ∨ w = 2049 then wd (bitWord 32 fun i => (s.msix (32 * (w - 2048) + i)).pending)
  else 0

/-! ### Register words -/

/-- The value in force of a register word. -/
def State.view (s : State) (r : Reg) : Word :=
  match r with
  | .idDev => s.idWord 0
  | .idCfg => s.idWord 1
  | .idPart w => s.idWord (2 + w)
  | .idSerial w => s.idWord (6 + w)
  | .idKeeper => s.idWord 8
  | .idStruct => s.idWord 9
  | .idProto => s.idWord 10
  | .modStatus => s.modStatus
  | .modReject _ => s.rd 0x50
  | .modRate c => if s.hasCluster c && s.mode != .sleep then s.rd (0x480 + 4 * c) else 0
  | .micaStatus => s.micaStatus
  | .micaStructId => wd s.structId
  | .micaAutoload => setFld (s.rd 0x2010) 31 1 (b2n s.keeper.autoload.isSome)
  | .poolRows => wd (f2 (1024 - (s.spareRows.map (·.2)).sum) 16 + s.retiredRows.length % 1024)
  | .gwStat => wd s.routes.length
  | .bcnNow w => wideWord (nowBits s.time) w
  | .bcnRaw w => wideWord s.beacon.raw w
  | .bcnCtrl => 0
  | .bcnRate w => wideWord (ofSigned 40 s.beacon.corr) w
  | .bcnAdj _ => 0
  | .bcnStat => s.bcnStat
  | .bcnPort p w => s.bcnPortWord p w
  | .cycCfg => s.cycWord 0
  | .cycPeriod => s.cycWord 1
  | .cycPhase => s.cycWord 2
  | .cycNow w => s.cycWord (4 + w)
  | .cycTl t w => s.tlWord t w
  | .chkCtxop => 0
  | .irqSpend w _ => s.spendWord w
  | .irqWake => wd s.hold.length
  | .fifo f w =>
    let x := s.fifo f
    match w with
    | 0 => wd (f2 x.base 16 + f2 (b2n x.keep) 15 + x.depth)
    | 1 => wd (f2 x.count 16 + x.head)
    | _ => s.rd (0x10000 + 0x10 * f + 4 * w)
  | .irqSrc i => s.srcWord i
  | .eq q w => s.eqWord q w
  | .hostQ q w => s.hostQWord q w
  | .ywStat => wd (f2 (b2n s.yw.up) 31)
  | .kprStat => s.kprStat
  | .kprId => wd (f2 s.fuse.stepping 24 + s.fuse.hwIf)
  | .kprFwver => wd s.keeper.fw.version
  | .kprIf => wd (f2 s.keeper.fw.loaderIf 16 + s.keeper.fw.personalityIf)
  | .kprIf2 => wd (f2 s.keeper.fw.tileIf 16 + s.keeper.epoch % 2 ^ 16)
  | .kprChal w => wideWord s.keeper.challenge w
  | .kprSlot i => wd (f2 (s.keeper.slot i).state.code 30 + f2 ((s.keeper.slot i).purpose % 256) 8)
  | .kprUpdResult => s.kprUpdResult
  | .kprDbg w => s.dbgWord w
  | .kprTap w => s.tapWord w
  | .pwr w => s.pwrWord w
  | .spar q w => s.sparWord q w
  | .sparAlloc => s.sparAllocWord
  | .hltInv => s.hltInv
  | .hltRetest => wd (f2 (b2n s.health.retest.isSome) 31 + f2 (s.rf 0x22008 30 1) 30
      + (match s.health.retest with | some u => u | none => s.rf 0x22008 0 16))
  | .hltHoldup => wd (f2 (s.health.firstUf % 2 ^ 16) 16 + s.health.lastUf % 2 ^ 16)
  | .hltRetired w => s.hltRetired w
  | .hltPend i => match s.pend i with | some x => wd (f2 1 31 + f2 x.cause 29 + x.unit) | none => 0
  | .cal i w => s.calWord i w
  | .node i w => wordAt (s.node i).bytes w
  | .link i => s.linkWord i
  | .desc i w => (s.desc i).word w
  | .part i w => s.partWord i w
  | .psnap i w => s.psnapWord i w
  | .route r w => wordAt (s.route r) w
  | .ctx i w => s.ctxWord i w
  | .evt b _ => s.rd b.evtOff
  | .bus n r => s.busWord n r
  | .slice c =>
    let x := s.spareSlice c
    wd (f2 x.state.code 30 + match x.state, x.lane with | .serving, some l => 16 + l | _, _ => 0)
  | .mac p r => s.macWord p r
  | .eng g w => s.engWord g w
  | .tile c => wd (f2 (b2n ((s.tile c).image.isSome && (s.tile c).running)) 31 + s.rf (clusterBase c + 0x200040) 0 16)
  | .spareEng c => s.spareEngWord c
  | .flt c r => s.fltWord c r
  | .chk u w => if w = 0 then setFld (s.rd (chkBase u)) 31 1 (b2n (s.unitDown u)) else s.rd (chkBase u + 4 * w)
  | .chkQ c w => s.chkQWord c w
  | r => s.rd r.off

end Sys2Proof.Machine
end

