-- ==== Sys2Proof/Machine/RegUnit.lean ====
section
/-! DEFINITION. How a register write is judged and stored (Table 0-4, R15, R17, R732 to R738), and the registers of
the bus, Ethernet and check unit windows. -/
namespace Sys2Proof.Machine

/-- A writable field: its lowest bit, its length and the values that are not reserved. -/
abbrev FieldSpec := Nat × Nat × (Nat → Bool)

/-- Every value of the field is defined. -/
def anyVal (_ : Nat) : Bool := true

/-- A field of `n` bits from `lo` without reserved values. -/
def plainField (lo n : Nat) : FieldSpec := (lo, n, anyVal)

/-- The word a write of `w` leaves in a register that holds `old`, and whether it wrote a reserved encoding: such a
field keeps its value (R17), and what is no field is ignored (R15). -/
def writeFields (old w : Word) : List FieldSpec → Word × Bool
  | [] => (old, false)
  | (lo, n, ok) :: fs =>
    let (v, bad) := writeFields old w fs
    if ok (fld w lo n) then (setFld v lo n (fld w lo n), bad) else (v, true)

/-- The bits of `w` that fields cover. -/
def fieldBits (w : Word) (fs : List FieldSpec) : Word := (writeFields 0 w (fs.map fun f => plainField f.1 f.2.1)).1

/-- Stores a write field by field. -/
def State.storeFields (off : Nat) (fs : List FieldSpec) (w : Word) (s : State) : State :=
  let (v, bad) := writeFields (s.rd off) w fs
  let s := s.wr off v
  if bad then s.encReject off else s

/-- Stores a write of a register that is refused whole (R131, R484, R170, R121, R393): where its check fails, every field
keeps its value. R170 says so only of the field it names. DESIGN CHOICE (log 7). -/
def State.storeWhole (off : Nat) (fs : List FieldSpec) (ok : Word → Bool) (w : Word) (s : State) : State :=
  let v := (writeFields (s.rd off) w fs).1
  if ok v then s.storeFields off fs w else s.encReject off

/-- A write of a mode-gated register in the mode in force as it arrives (R60, Table 22-3). -/
def State.gate (allowed : Mode → Bool) (off : Nat) (f : State → State) (s : State) : State :=
  if allowed s.mode then f s else s.mgReject off

/-- The mode sets of Table 22-3. -/
def Mode.setup : Mode → Bool
  | .unconfigured | .configuring | .service | .test => true
  | _ => false
def Mode.run : Mode → Bool
  | .operational | .degraded | .reconfiguring | .service => true
  | _ => false
def Mode.live (m : Mode) : Bool := m.run || m == .standby
def Mode.policy (m : Mode) : Bool := m.live || m == .unconfigured
def Mode.update (m : Mode) : Bool := m.setup || m.live
def Mode.save : Mode → Bool
  | .unconfigured | .service => true
  | _ => false

/-! ### Wide registers (R733) -/

/-- Word `off` of a wide register as `link` would commit it: staged, or in force. -/
def State.stagedWord (s : State) (link off : Nat) (v : Word) : Word :=
  (s.stage.get (fun _ => none) (latchKey link off)).getD v

def State.setStaged (link off : Nat) (v : Option Word) (s : State) : State :=
  { s with stage := s.stage.set (fun _ => none) (latchKey link off) v }

/-- A write of word `k` of a wide register of `n` words at `base`, whose words in force are `v`: the highest word
commits the whole, and an applied commit clears the link's staging. `commit` answers none where the commit is
refused, and its refusal is recorded by `refuse` (R733, R736). -/
def State.wideWrite (link base n k : Nat) (v : Nat → Word) (w : Word) (commit : Nat → State → Option State)
    (refuse : State → State) (s : State) : State :=
  if k + 1 < n then s.setStaged link (base + 4 * k) (some w)
  else
    let low := (List.range (n - 1)).map fun i => s.stagedWord link (base + 4 * i) (v i)
    match commit (ofWords (low ++ [w])) s with
    | some t => t.each (List.range (n - 1)) fun i t => t.setStaged link (base + 4 * i) none
    | none => refuse s

/-- Stores a wide value in the register words from `base` on. -/
def State.wrWide (base n v : Nat) (s : State) : State :=
  s.each (List.range n) fun i s => s.wr (base + 4 * i) (wideWord v i)

/-- A wide register of plain words, judged by `ok`, whose bits outside `mask` are reserved. -/
def State.wideStore (link base n k mask : Nat) (w : Word) (allowed : Mode → Bool) (ok : State → Nat → Bool)
    (act : Nat → State → State) (s : State) : State :=
  let off := base + 4 * k
  s.wideWrite link base n k (fun i => s.rd (base + 4 * i)) w
    (fun v s => if allowed s.mode && ok s (v &&& mask) then some (act (v &&& mask) (s.wrWide base n (v &&& mask))) else none)
    (fun s => if allowed s.mode then s.encReject off else s.mgReject off)

/-- No mode gate. -/
def anyMode (_ : Mode) : Bool := true

/-! ### Bus windows (Table 5-11) -/

/-- Fields of the bus registers that are judged field by field. -/
def BusReg.fields (test : Bool) : BusReg → List FieldSpec
  | .mode => [(30, 2, fun v => v != 3 || test), plainField 24 6, (22, 2, (· != 3)), (8, 8, (· != 0))]
  | .limits => [plainField 31 1, (16, 8, (· != 0)), plainField 8 8, (0, 8, (· != 0))]
  | .nbt => [plainField 0 30]
  | .fdbt => [plainField 0 21]
  | .xdbt => [plainField 31 1, plainField 0 21]
  | .tdc => [plainField 30 2, plainField 0 16]
  | .line => [plainField 31 1]
  | .sigcfg => [plainField 30 2, (27, 3, (· != 0)), (20, 7, fun v => 1 ≤ v && v ≤ 64), plainField 0 16]
  | .sigdrift => [plainField 0 24]
  | .wake => [(30, 2, (· != 3)), (24, 4, fun v => v ≤ 8), plainField 22 2]
  | .wufId | .wufIdmask => [plainField 31 1, plainField 0 29]
  | .wufDmask _ => [plainField 0 32]
  | _ => []

/-- FAST mode is left on while XL error signalling is on (R121). -/
def fastWithErrors (mode xdbt : Word) : Bool := bit xdbt 31 && !bit mode 27

/-- What R121, R131 and R170 refuse of a bus register as it would stand. -/
def State.busWordOk (s : State) (n : Nat) (r : BusReg) (v : Word) : Bool :=
  let b := busBase n
  match r with
  | .mode => !(bit v 28 && !bit v 29) && !(bit v 27 && !bit v 28) && !fastWithErrors v (s.rd (b + 0x108))
  | .nbt =>
    let t := bitClocks (fld v 22 8) (fld v 14 8) (fld v 7 7)
    160 ≤ t && t ≤ 16000 && 1 ≤ fld v 14 8 && fld v 0 7 ≤ fld v 7 7
  | .fdbt => 20 ≤ bitClocks (fld v 16 5) (fld v 10 6) (fld v 5 5) && fld v 0 5 ≤ fld v 5 5
  | .xdbt =>
    let t := bitClocks (fld v 16 5) (fld v 10 6) (fld v 5 5)
    (if bit v 31 then 8 else 20) ≤ t && fld v 0 5 ≤ fld v 5 5 && !fastWithErrors (s.rd b) v
  | _ => true

def BusReg.gated : BusReg → Bool
  | .mode | .nbt | .fdbt | .xdbt | .tdc | .line => true
  | _ => false

/-- What follows a write of a bus register that held `old` (R146, R158, R205, R216). -/
def State.busWritten (n : Nat) (r : BusReg) (old : Word) (s : State) : State :=
  let new := s.rd (busBase n + r.off)
  match r with
  | .sigcfg =>
    let s := s.noteWrite n 0x114 old
    if fld new 20 7 = fld old 20 7 then s else s.upLane n fun l => { l with nodeFull := false }
  | .limits =>
    let s := s.noteWrite n 0x10 old
    if fld new 0 8 = fld old 0 8 && bit new 31 == bit old 31 then s else s.upLane n fun l => { l with lonelyNew := true }
  | _ => s

/-- A write of a bus register. -/
def State.busWrite (n : Nat) (r : BusReg) (w : Word) (s : State) : State :=
  let off := busBase n + r.off
  match r with
  | .ctrl => s.gate Mode.run off fun s => if bit w 0 then s.hostRecover n else s
  | r =>
    let fs := r.fields (s.mode == .test)
    if fs.isEmpty then s
    else s.gate (if r.gated then Mode.setup else anyMode) off fun s =>
      (s.storeWhole off fs (s.busWordOk n r) w).busWritten n r (s.rd off)

/-! ### Ethernet windows (Table 10-12) -/

/-- Speeds a lane supports (Table 10-1). -/
def speedOk (p v : Nat) : Bool := if p % 6 = 5 then 2 ≤ v && v ≤ 4 else v ≤ 1

/-- Fields of the port registers that are judged field by field. -/
def State.macFields (s : State) (p : Nat) (w : Word) : MacReg → List FieldSpec
  | .cfg =>
    let speed := if speedOk p (fld w 29 3) then fld w 29 3 else s.portSpeed p
    [(29, 3, speedOk p), plainField 25 4, (24, 1, fun v => v == 0 || Config.eeeOffered p speed),
      (12, 12, fun v => 64 ≤ v && v ≤ 2052)]
  | .txthr => [(0, 12, fun v => 64 ≤ v && v ≤ 2048 && v % 64 == 0)]
  | .eee => [(16, 16, (· != 0)), (0, 16, (· != 0))]
  | .pause => [plainField 16 8, (0, 16, (· != 0))]
  | .xoff => [plainField 0 32]
  | .preempt => [plainField 28 4, (8, 8, fun v => 1 ≤ v && v ≤ 128), plainField 0 8]
  | .launch => [plainField 31 1]
  | .gateCtrl => [plainField 30 2, (0, 8, fun v => 1 ≤ v && v ≤ 128)]
  | .gateCycle => [(0, 30, fun v => 1000 ≤ v && v ≤ 999999999)]
  | .gateExt => [(0, 30, fun v => v ≤ 999999999)]
  | .cbs _ => [plainField 31 1, (0, 24, fun v => v ≤ s.portRate p)]
  | .gclAdmin _ => [plainField 24 8, (0, 24, fun v => 32 ≤ v)]
  | _ => []

/-- xon lies below xoff (R393). -/
def macWordOk (r : MacReg) (v : Word) : Bool :=
  match r with
  | .xoff => fld v 0 16 < fld v 16 16
  | _ => true

def MacReg.gated : MacReg → Bool
  | .cfg | .addr _ | .tcdepth _ | .preempt => true
  | _ => false

/-- What follows a write of a port register. -/
def State.macWritten (p : Nat) (r : MacReg) (w : Word) (s : State) : State :=
  match r with
  | .cfg | .xoff => s.pauseWatch p
  | .preempt =>
    let v := s.rd (macBase p + 0x28)
    s.upPort p fun x =>
      { x with preempt := x.link && bit v 31 && bit v 30, verifyTries := 0, verifyFailed := false }
  | .gateCtrl => (if bit w 29 then s.gateCommit p else s).refreshGates p
  | _ => s

/-- Another valid meter of the port names the partner (R378). -/
def State.meterTaken (s : State) (p i partner : Nat) : Bool :=
  (List.range 32).any fun j =>
    let v := s.rd (macBase p + 0x200 + 12 * j + 8)
    j != i && bit v 31 && fld v 16 12 == partner

/-- A write of a port register by a link. -/
def State.macWrite (link p : Nat) (r : MacReg) (w : Word) (s : State) : State :=
  let b := macBase p
  let off := b + r.off
  match r with
  | .addr k => s.wideStore link (b + 8) 2 k (2 ^ 48 - 1) w Mode.setup (fun _ v => !nbit v 0) (fun _ s => s)
  | .tcdepth k => s.wideStore link (b + 0x18) 2 k (2 ^ 64 - 1) w Mode.setup
      (fun _ v => ((List.range 8).map fun t => nfld v (8 * t) 8).sum ≤ 512) (fun _ s => s)
  | .gateBase k => s.wideStore link (b + 0x44) 2 k (2 ^ 64 - 1) w anyMode
      (fun _ v => v % 2 ^ 30 ≤ 999999999) (fun _ s => s)
  | .meter i k => s.wideStore link (b + 0x200 + 12 * i) 3 k (2 ^ 96 - 1 - f2 3 92) w anyMode
      (fun s v => !(nbit v 95 && s.meterTaken p i (nfld v 80 12))) (fun _ s => s.fillMeter p i)
  | r =>
    let fs := s.macFields p w r
    if fs.isEmpty then s
    else s.gate (if r.gated then Mode.setup else anyMode) off fun s =>
      ((s.advanceCredit p).storeWhole off fs (macWordOk r) w).macWritten p r w

/-! ### Check unit windows (Table 13-4) -/

/-- Bits of a check unit's width code. -/
def widthBits (k : Nat) : Nat := 8 * 2 ^ k

/-- Words 2 and 3 are POLY, 4 and 5 INIT, 6 and 7 XOROUT: the value of one. -/
def State.chkParam (s : State) (u k : Nat) : Nat :=
  (s.rd (chkBase u + 4 * k)).toNat + 2 ^ 32 * (s.rd (chkBase u + 4 * k + 4)).toNat

/-- A write of a check unit register (R484). -/
def State.chkWrite (link u k : Nat) (w : Word) (s : State) : State :=
  let b := chkBase u
  if k = 0 then
    s.gate Mode.setup b fun s =>
      let n := 2 ^ widthBits (fld w 0 2)
      if s.chkParam u 2 < n && s.chkParam u 4 < n && s.chkParam u 6 < n then s.storeFields b [plainField 0 4] w
      else s.encReject b
  else if k = 1 then s
  else
    let k0 := k - k % 2
    s.wideStore link (b + 4 * k0) 2 (k % 2) (2 ^ 64 - 1) w Mode.setup
      (fun s v => v < 2 ^ widthBits (s.rf b 0 2) && (k0 != 2 || nbit v 0)) (fun _ s => s)

end Sys2Proof.Machine
end

