-- ==== Sys2Proof/Machine/RegWrite.lean ====
section
/-! DEFINITION. A write of any BAR0 word over either link (R17, R48, R730 to R741). -/
namespace Sys2Proof.Machine

/-- What a word write brings with it: the link (0 host, 1 Yewirak, 2 the loader), and what host memory and engine
memory answer to a go of KPR_UPD_CTRL and a step of KPR_DBG_SEL. -/
structure WriteEnv where
  link : Nat
  fetched : Option (List Byte)
  meets : Meets

/-- Reads and writes that a mode's window opens to a register (R48, R740, R741). -/
inductive RegWindow where
  | shut | read | full
  deriving DecidableEq, Repr

/-- The fault window of Table 22-5. -/
def faultWindow : Reg → RegWindow
  | .idDev | .idCfg | .idPart _ | .idSerial _ | .idKeeper | .idStruct | .idProto | .modStatus | .modRejectInfo
  | .modTemp | .modFault | .modFaultTime _ | .pwr _ | .kprStat | .kprId | .kprFwver | .hltInv | .hltRetired _
  | .hltHoldup => .read
  | .modReject _ | .cmdqBase _ | .cmdqCfg | .cmdqTail | .cmdqHead | .modEvq | .eq _ _ => .full
  | _ => .shut

/-- The identity and status window of R48. -/
def idWindow : Reg → RegWindow
  | .idDev | .idCfg | .idPart _ | .idSerial _ | .idKeeper | .idStruct | .idProto | .modStatus => .read
  | _ => .shut

/-- Cluster whose area holds a register. -/
def Reg.cluster : Reg → Option Nat
  | .bus n _ | .evt (.bus n) _ | .evten (.bus n) => some (n / 10)
  | .mac p _ | .evt (.mac p) _ | .evten (.mac p) => some (p / 6)
  | .eng g _ | .evt (.eng g) _ | .evten (.eng g) => some (g / 8)
  | .chk u _ => some (u / 4)
  | .slice c | .tile c | .spareEng c | .flt c _ | .chkQ c _ | .evt (.flt c) _ | .evten (.flt c)
  | .evt (.chk c) _ | .evten (.chk c) => some c
  | _ => none

/-- The window onto a register: the area of an absent cluster (R7), and the SPAR blocks without option P (R9), are
shut. -/
def State.window (s : State) (r : Reg) : RegWindow :=
  let fitted := (match r.cluster with | some c => s.hasCluster c | none => true)
    && (match r with
      | .spar q _ => s.hasSpar q
      | .sparAlloc | .evt .spar _ | .evten .spar => s.fuse.optP
      | _ => true)
  if !fitted then .shut
  else match s.mode with
    | .off => .shut
    | .seating | .inrush | .bringUp | .sleep => idWindow r
    | .faultHold => faultWindow r
    | _ => .full

/-! ### Module registers -/

/-- Writes `w` to an alias of MOD_REJECT: 1 sets, 2 clears (R77). -/
def State.rejectAlias (a : Nat) (w : Word) (s : State) : State :=
  if !bit w 0 then s
  else if a = 1 then s.wr 0x50 1
  else if a = 2 then (s.wr 0x50 0).wr 0x5C 0
  else s

/-- A write of MOD_CMDQ_CFG (R74, R76). -/
def State.cmdqCfg (w : Word) (s : State) : State :=
  let old := s.rd 0x108
  if bit old 31 && fld w 0 4 != fld old 0 4 then s.mgReject 0x108
  else
    let s := s.storeFields 0x108 [plainField 31 1, (0, 4, fun v => 4 ≤ v && v ≤ 8)] w
    if bit old 31 && !bit w 31 then (s.wr 0x10C 0).wr 0x110 0 else s

/-- A write of MOD_CMDQ_TAIL (R75). -/
def State.cmdqTail (w : Word) (s : State) : State :=
  if fld w 0 8 < 2 ^ s.rf 0x108 0 4 then s.wr 0x10C (wd (fld w 0 8)) else s.encReject 0x10C

/-- A write of a wide base that an enable guards (R74, R602, R737): a commit of another value is refused. -/
def State.guardedBase (link base k mask : Nat) (w : Word) (guard : State → Bool) (s : State) : State :=
  let now (s : State) : Nat := (s.rd base).toNat + 2 ^ 32 * (s.rd (base + 4)).toNat
  s.wideWrite link base 2 k (fun i => s.rd (base + 4 * i)) w
    (fun v s =>
      let v := v &&& mask
      if guard s && v != now s then none else some (s.wrWide base 2 v))
    (fun s => s.mgReject (base + 4 * k))

/-! ### Event registers (R218, R219, Table 0-4) -/

/-- A write of an S/C alias: bits that an event register defines are set or cleared. -/
def State.evtAlias (b : Blk) (a : Nat) (w : Word) (s : State) : State :=
  let before := s.srcPending b.src
  let m := w &&& wd b.evtenReset
  let old := s.rd b.evtOff
  if a = 1 then (s.wr b.evtOff (old ||| m)).noteSrc b.src before
  else if a = 2 then s.wr b.evtOff (old &&& ~~~m)
  else s

/-! ### Beacon -/

/-- R425 holds: only src_port is SLAVE, and it is while the source is PTP. `role p` gives each port's role. -/
def rolesOk (source srcPort : Nat) (role : Nat → Nat) : Bool :=
  ((List.range 24).all fun p => role p != 1 || p == srcPort) && (source != 1 || role srcPort == 1)

/-- A write of BCN_CFG (R424 to R426). -/
def State.bcnCfgWrite (w : Word) (s : State) : State :=
  let (v, bad) := writeFields (s.rd 0x8020) w
    [(29, 3, fun v => v ≤ 3), (24, 5, fun v => v ≤ 23), plainField 20 4, (0, 10, fun v => 1 ≤ v && v ≤ 500)]
  if !rolesOk (fld v 29 3) (fld v 24 5) s.bcnRole then s.encReject 0x8020
  else
    let s := s.bcnCfg v
    if bad then s.encReject 0x8020 else s

/-- Signed 4-bit fields −7 to 3. -/
def logOk (v : Nat) : Bool := v ≤ 3 || 9 ≤ v

/-- A write of BCN_PORT[p]_CFG or BCN_PORT[p]_PATH (R425). -/
def State.bcnPortWrite (p k : Nat) (w : Word) (s : State) : State :=
  let off := 0x8400 + 0x40 * p + 4 * k
  match k with
  | 0 => s.storeFields off
      [(30, 2, fun v => rolesOk s.bcnSource s.srcPort fun q => if q = p then v else s.bcnRole q),
       (28, 2, (· != 3)), plainField 24 4, plainField 16 8, (12, 4, logOk), (8, 4, logOk)] w
  | 1 => s.storeFields off [(16, 8, (· != 0)), (0, 16, (· != 0))] w
  | _ => s

/-- The stored registers of R452. -/
def bcnStored : List Nat :=
  [0x8020, 0x8024, 0x8028] ++ (List.range 24).flatMap fun p => [0x8400 + 0x40 * p, 0x8404 + 0x40 * p]

/-- BCN_SAVE: Keeper is asked to store the registers; BLANK and DECOMMISSIONED refuse (R452, R637). -/
def State.bcnSave (s : State) : State :=
  let refused := s.keeper.lifecycle == .blank || s.decommissioned
  let s := s.upBcn fun b => { b with saveFailed := refused }
  if refused then s else s.queueOp (.beacon (bcnStored.map fun o => (o, s.rd o)))

/-- Commits of BCN_RATE (R420) and BCN_ADJ (R421). -/
def State.bcnRateCommit (v : Nat) (s : State) : Option State :=
  let corr := toSigned 40 v
  if Mode.setup s.mode && corr.natAbs ≤ 2 ^ 37 then some (s.bcnRate corr) else none
def State.bcnAdjCommit (v : Nat) (s : State) : Option State :=
  let ns := toSigned 48 v
  if Mode.setup s.mode && (0 ≤ ns || s.mode == .test) then some (s.bcnAdj ns) else none

/-- How a refused commit in the setup modes is recorded. -/
def State.refuseSetup (off : Nat) (s : State) : State :=
  if Mode.setup s.mode then s.encReject off else s.mgReject off

/-! ### Port power, health and calibration -/

/-- The output of a host write of SPAR[q]_CFG or SPAR[q]_CLASS has a plan entry or is not OFF (R699). -/
def State.sparShut (s : State) (q : Nat) : Bool := (s.plan q).isSome || (s.spar q).state != .off

/-- Fields of SPAR[q]_CFG and SPAR[q]_CLASS within the ranges of Table 20-4. -/
def sparFields (q k : Nat) : List FieldSpec :=
  if k = 0 then
    [(28, 1, fun v => v == 0 || sparPodl q), plainField 20 8, (8, 8, fun v => 1 ≤ v && v ≤ 100),
     (0, 8, fun v => 10 ≤ v && v ≤ 200)]
  else [(0, 8, fun v => v == 0 || (sparPodl q && v % 16 == 0 && v < 64))]

/-- A host write of SPAR[q]_CFG (0) or SPAR[q]_CLASS (1): outside R699 a changed field is a rejected write, and one
that changes nothing leaves all as it is (R737). -/
def State.sparWrite (q k : Nat) (w : Word) (s : State) : State :=
  let off := sparBase q + 4 * k
  let fs := sparFields q k
  s.gate Mode.run off fun s =>
    if s.sparShut q then (if fieldBits w fs == fieldBits (s.rd off) fs then s else s.mgReject off)
    else s.storeFields off fs w

/-- A write of HLT_RETEST (R720). -/
def State.retestWrite (w : Word) (s : State) : State :=
  let u := fld w 0 16
  s.gate (· == .service) 0x22008 fun s =>
    if s.unitRetired u then
      { s with health := { s.health with retest := some u } }.setf 0x22008 0 16 u
    else s.encReject 0x22008

/-- A write of a calibration item's user word (R724, R725); an item without a user value accepts 0 only (Table 21-6). -/
def State.calWrite (i : Nat) (w : Word) (s : State) : State :=
  let off := 0x30000 + 16 * i + 4
  match calItem s.fuse i with
  | none => s
  | some (_, range) =>
    if !s.calCell then s.mgReject off
    else if w.toInt.natAbs ≤ range then s.wr off w
    else s.encReject off

/-! ### Keeper -/

/-- A write of KPR_UPD_CTRL (R649, R651). -/
def State.updCtrlWrite (fetched : Option (List Byte)) (w : Word) (s : State) : State :=
  s.gate Mode.update 0x1C058 fun s =>
    if bit w 31 && s.keeperBusy then s.encReject 0x1C058
    else
      let n := fld w 0 21
      let (v, bad) := writeFields (s.rd 0x1C058) w
        [plainField 30 1, (26, 4, fun k => 1 ≤ k && k ≤ 8),
         (0, 21, fun n => n < 2 ^ 20 && !(bit w 30 && (n == 0 || 4096 < n)))]
      let s := s.wr 0x1C058 v
      if bad then s.encReject 0x1C058
      else if bit w 31 then s.updateGo (fld w 26 4) (bit w 30) (if n = 0 then 2 ^ 20 else n) fetched
      else s

/-- The bytes of a write under byte enables, least significant first. -/
def mergeBytes (old w : Word) (be : Nat) : Word :=
  (List.range 4).foldl (fun v i => if nbit be i then setFld v (8 * i) 8 (fld w (8 * i) 8) else v) old

/-- A write of KPR_INBUF, which honours byte enables (R732). -/
def State.inbufWrite (k : Nat) (w : Word) (be : Nat) (s : State) : State :=
  s.wr (0x1D000 + 4 * k) (mergeBytes (s.rd (0x1D000 + 4 * k)) w be)

/-- A write of a debug register (Table 18-14). -/
def State.dbgRegWrite (k : Nat) (e : Meets) (w : Word) (s : State) : State :=
  match k with
  | 0 => s.dbgCtrl (bit w 31)
  | 2 => s.dbgSelect (fld w 0 5) (bit w 31) (bit w 30) e
  | 3 => s.dbgAddr w.toNat
  | 4 => s.dbgWrite w
  | _ => s

/-! ### Node table -/

/-- A write of a node table word (R153 to R155). -/
def State.nodeWrite (link i k : Nat) (w : Word) (s : State) : State :=
  let base := 0x400000 + 0x20 * i
  s.wideWrite link base 8 k (fun j => wordAt (s.node i).bytes j) w
    (fun v s => if Mode.setup s.mode then s.nodeCommit i (leBytes 32 v) else none)
    (fun s => s.refuseSetup (base + 0x1C))

/-! ### Filters, check blocks and engines -/

/-- A write of a filter window's register. -/
def State.fltWrite (c : Nat) (r : FltReg) (w : Word) (s : State) : State :=
  match r with
  | .stage k => s.wr (fltBase c + 0x40 + 4 * k) (w &&& (if k < 12 then 0xFFFFFFFF else if k = 12 then 0x3FFFF else 0))
  | .op => s.gate Mode.live (fltBase c + 0x80) fun s => s.fltOp c w
  | _ => s

/-- A write of ENG[g]_CTRL (R518); an engine that a load holds at reset waits for step 8 (R507). -/
def State.engCtrlWrite (g : Nat) (w : Word) (s : State) : State :=
  s.gate Mode.live (engBase g) fun s =>
    let e := s.eng g
    if !bit w 31 || e.state == .unused || e.state == .reset || e.retired then s else s.restartEngine g .host

/-- A write of a check block's register. -/
def State.chkQWrite (c k : Nat) (w : Word) (s : State) : State :=
  match k with
  | 0 => s.storeFields (chkQBase c) [plainField 31 1] w
  | 2 => if bit w 0 then s.quarantinePop c else s
  | _ => s

/-- A write of POOL_MBOP (R250, R251). -/
def State.mbopWrite (cells : RecEcc) (w : Word) (s : State) : State :=
  s.gate Mode.live 0x4000 fun s => s.mbop cells w

/-- A write of an event queue's register. -/
def State.eqRegWrite (link q k : Nat) (w : Word) (s : State) : State :=
  match k with
  | 0 | 1 => s.guardedBase link (eqOff q 0) k (2 ^ 64 - 64) w fun s => s.eqEnabled q
  | 2 => s.eqCfg q w
  | 3 => s.eqHead q w
  | _ => s

/-- A write of a host queue's register. -/
def State.hostQRegWrite (link q k : Nat) (w : Word) (s : State) : State :=
  match k with
  | 0 | 1 => s.guardedBase link (hostQOff q 0) k (2 ^ 64 - 64) w fun s => (s.hostQ q).enable || (s.hostQ q).stopping
  | 2 => s.hostQCfg q w
  | 3 => s.hostQTail q w
  | _ => s

/-! ### Any word -/

/-- A whole-word write of a register its window opens; registers that are read-only ignore it. -/
def State.regWrite (env : WriteEnv) (r : Reg) (w : Word) (s : State) : State :=
  let link := env.link
  match r with
  | .modReject a => s.rejectAlias a w
  | .modRate c => if s.hasCluster c then s.storeFields (0x480 + 4 * c) [plainField 16 12] w else s
  | .modEvq => s.storeFields 0x64 [(0, 8, fun v => v < 64 || v == 255)] w
  | .cmdqBase k => s.guardedBase link 0x100 k (2 ^ 64 - 32) w fun s => s.rb 0x108 31
  | .cmdqCfg => s.cmdqCfg w
  | .cmdqTail => s.cmdqTail w
  | .poolMbop => s.mbopWrite env.meets.finds.cells w
  | .poolWdog => s.storeFields 0x4120 [(0, 10, fun v => 10 ≤ v && v ≤ 1000)] w
  | .bcnCfg => s.bcnCfgWrite w
  | .bcnJumpThr => s.storeFields 0x8024 [(0, 30, fun v => v ≤ 10 ^ 9)] w
  | .bcnServo => s.storeFields 0x8028 [plainField 0 8] w
  | .bcnCtrl => s.gate Mode.save 0x802C fun s => if bit w 31 then s.bcnSave else s
  | .bcnRate k => s.wideWrite link 0x8030 2 k (fun j => s.view (.bcnRate j)) w State.bcnRateCommit (State.refuseSetup 0x8034)
  | .bcnAdj k => s.wideWrite link 0x8038 2 k (fun _ => 0) w State.bcnAdjCommit (State.refuseSetup 0x803C)
  | .bcnPort p k => s.bcnPortWrite p k w
  | .chkCtxop => s.gate Mode.live 0xC000 fun s => s.ctxOp w
  | .irqSpend k a => if a = 1 then s.spendSet k w else if a = 2 then s.spendClear k w else s
  | .sleepReq => s.sleepReq (bit w 0)
  | .irqWakeHold => s.storeFields 0xE40C [(0, 16, (· != 0))] w
  | .irqSrc i => s.srcWrite i w
  | .eq q k => s.eqRegWrite link q k w
  | .hostQ q k => s.hostQRegWrite link q k w
  | .kprUpdAddr k => s.wideStore link 0x1C050 2 k (2 ^ 64 - 8) w anyMode (fun _ _ => true) (fun _ s => s)
  | .kprUpdCtrl => s.updCtrlWrite env.fetched w
  | .kprDbg k => s.dbgRegWrite k env.meets w
  | .kprTap k => if k < 3 then s.tapWrite k w else s
  | .kprInbuf k => s.inbufWrite k w 15
  | .spar q k => if k < 2 then s.sparWrite q k w else s
  | .hltPolicy => s.gate Mode.policy 0x22000 fun s =>
      s.storeFields 0x22000 [(6, 2, (· != 3)), (4, 2, (· != 3)), (2, 2, (· != 3)), (0, 2, (· != 3))] w
  | .hltRetest => s.retestWrite w
  | .cal i k => if k = 1 then s.calWrite i w else s
  | .node i k => s.nodeWrite link i k w
  | .evt b a => s.evtAlias b a w
  | .evten b => s.evtEnable b w
  | .bus n r => s.busWrite n r w
  | .mac p r => s.macWrite link p r w
  | .eng g k => if k = 0 then s.engCtrlWrite g w else s
  | .flt c r => s.fltWrite c r w
  | .chk u k => s.chkWrite link u k w
  | .chkQ c k => s.chkQWrite c k w
  | _ => s

/-- A write of the word at BAR0 offset `off` with byte enables `be` (R730, R732). -/
def State.writeWord (env : WriteEnv) (off be : Nat) (w : Word) (s : State) : State :=
  match Reg.ofOff off with
  | none => s
  | some r =>
    if s.window r != .full then s
    else if be % 16 = 15 then s.regWrite env r w
    else match r with
      | .kprInbuf k => s.inbufWrite k w be
      | _ => s.encReject off

/-- A request that writes several words, applied word by word in ascending order (R731). -/
def State.writeWords (env : WriteEnv) : Nat → List Word → State → State
  | _, [], s => s
  | off, w :: ws, s => State.writeWords env (off + 4) ws (s.writeWord env off 15 w)

end Sys2Proof.Machine
end

