-- ==== Sys2Proof/Machine/RegRead.lean ====
section
/-! DEFINITION. A read of any BAR0 word over either link: latches (R152, R217, R238, R299, R363, R443, R453, R482,
R733), RC fields (Table 0-4, R735) and the windows of R48 and R741. -/
namespace Sys2Proof.Machine

/-- The words of registers 0 to n - 1 of a family. -/
def words (n : Nat) (f : Nat → Reg) : List Reg := (List.range n).map f

/-- The place of a word among the words that one read of the first of them latches. -/
def Reg.group : Reg → Option (Nat × List Reg)
  | .idSerial w => some (w, words 2 .idSerial)
  | .modFaultTime w => some (w, words 2 .modFaultTime)
  | .cmdqBase w => some (w, words 2 .cmdqBase)
  | .bcnNow w => some (w, words 4 .bcnNow ++ words 3 .bcnRaw)
  | .bcnRaw w => some (w + 4, words 4 .bcnNow ++ words 3 .bcnRaw)
  | .bcnRate w => some (w, words 2 .bcnRate)
  | .bcnPort p w => if 4 ≤ w ∧ w < 8 then some (w - 4, words 4 fun k => .bcnPort p (k + 4)) else none
  | .cycNow w => some (w, words 4 .cycNow)
  | .eq q w => if w < 2 then some (w, words 2 (.eq q)) else none
  | .hostQ q w => if w < 2 then some (w, words 2 (.hostQ q)) else none
  | .kprChal w => some (w, words 2 .kprChal)
  | .kprUpdAddr w => some (w, words 2 .kprUpdAddr)
  | .node i w => some (w, words 8 (.node i))
  | .desc i w => some (w, words 4 (.desc i))
  | .part i w => some (w, words 8 (.part i))
  | .psnap i w => some (w, words 8 (.psnap i))
  | .route r w => some (w, words 16 (.route r))
  | .ctx i w => some (w, words 6 (.ctx i) ++ words 4 fun k => .ctx i (k + 8))
  | .bus n .clashid => some (0, [.bus n .clashid, .bus n .clashnode])
  | .bus n .clashnode => some (1, [.bus n .clashid, .bus n .clashnode])
  | .mac p (.addr w) => some (w, words 2 fun k => .mac p (.addr k))
  | .mac p (.tcdepth w) => some (w, words 2 fun k => .mac p (.tcdepth k))
  | .mac p (.gateBase w) => some (w, words 2 fun k => .mac p (.gateBase k))
  | .mac p (.meter i w) => some (w, words 3 fun k => .mac p (.meter i k))
  | .chk u w => if 2 ≤ w then some (w % 2, words 2 fun k => .chk u (w - w % 2 + k)) else none
  | _ => none

/-- Bits of the stored word that a read clears (RC). -/
def Reg.rcMask : Reg → Nat
  | .poolEcc | .poolBar2drop | .gwCnt _ | .bcnCnt _ | .ywCnt _ | .pwrCnt _ | .hltCnt _ | .rcnt _ _ | .pcnt _ _
  | .bus _ (.cnt _) | .mac _ (.cnt _) | .flt _ (.cnt _) | .flt _ (.hit _) => 0xFFFFFFFF
  | .poolWdog => 0xFFFF0000
  | .cycTl _ w => if 2 ≤ w then 0xFFFFFFFF else 0
  | .fifo _ w => if w = 2 then 0xFFFFFFFF else 0
  | .hostQ _ w => if 8 ≤ w then 0xFFFFFFFF else 0
  | .spar _ w => if 4 ≤ w then 0xFFFFFFFF else 0
  | .eng _ w => if 8 ≤ w then 0xFFFFFFFF else 0
  | .bcnPort _ w => if w = 8 then 0xFFFFFFFF else 0
  | .bus _ .tdcv => 0x00FF0000
  | .bus _ .line => 0x0000FFFF
  | .chkQ _ w => if w = 1 then 0xFFFF0000 else 0
  | .tile _ => 0x0000FFFF
  | _ => 0

/-- Clears what a read of the register clears. -/
def State.clearRead (r : Reg) (s : State) : State :=
  match r with
  | .eq q 4 => s.setEq q { s.eq q with lost := 0, overflow := false }
  | r => if r.rcMask = 0 then s else s.wr r.off (s.rd r.off &&& ~~~ wd r.rcMask)

/-- Latches the words of a group for a link: the values in force. -/
def State.latchGroup (link : Nat) (rs : List Reg) (s : State) : State :=
  s.each rs fun r t => { t with latch := t.latch.set (fun _ => none) (latchKey link r.off) (some (s.view r)) }

/-- What a read of the first word of a group does: BCN_NOW and BCN_RAW are a reading of one island edge (R417, R453),
and a stamp record leaves its queue (R443). -/
def State.latchFirst (link : Nat) (r : Reg) (rs : List Reg) (s : State) : State :=
  match r with
  | .bcnNow _ =>
    let (v, s) := s.reading
    (s.latchGroup link rs).latchWords link 0x8000 ((List.range 4).map fun k => (wideWord (nowBits v) k).toNat)
  | .bcnPort p _ => s.tsqRead link p
  | _ => s.latchGroup link rs

/-- The value of a word for a link: its latched copy, or the value in force. -/
def State.latched (s : State) (link : Nat) (r : Reg) : Word :=
  (s.latch.get (fun _ => none) (latchKey link r.off)).getD (s.view r)

/-- A read of a register its window opens. -/
def State.regRead (link : Nat) (r : Reg) (s : State) : Word × State :=
  match r with
  | .kprDbg 4 => s.dbgRead
  | r =>
    match r.group with
    | some (0, rs) => let s := s.latchFirst link r rs; (s.latched link r, s)
    | some _ => (s.latched link r, s)
    | none => (s.view r, s.clearRead r)

/-- A read of the word at BAR0 offset `off` by a link (R730, R732). -/
def State.readWord (link off : Nat) (s : State) : Word × State :=
  match Reg.ofOff off with
  | none => (0, s)
  | some r => if s.window r == .shut then (0, s) else s.regRead link r

/-- A request that reads several words, in ascending order (R731). -/
def State.readWords (link : Nat) : Nat → Nat → State → List Word × State
  | _, 0, s => ([], s)
  | off, n + 1, s =>
    let (w, s) := s.readWord link off
    let (ws, s) := State.readWords link (off + 4) n s
    (w :: ws, s)

end Sys2Proof.Machine
end

