-- ==== Sys2Proof/Machine/Yewirak.lean ====
section
/-! DEFINITION. The Yewirak management link's requests (R617 to R624). -/
namespace Sys2Proof.Machine

/-- Statuses of Table 17-7. -/
def ywOk : Nat := 0
def ywWrongMode : Nat := 1
def ywDenied : Nat := 2
def ywBadRequest : Nat := 3
def ywBusy : Nat := 4

/-- Counter `i` of the link: 0 executed, 1 rx_err, 2 busy, 3 retries. -/
def State.countYw (i : Nat) (s : State) : State := s.cnt (0x1A030 + 4 * i)

/-- The link comes up or goes down (R617). -/
def State.ywLink (up : Bool) (s : State) : State :=
  if s.mode == .off || s.yw.up == up then s
  else { s with yw := { s.yw with up := up } }.raise .host 4 0 (b2n up)

/-- YW_FRAME_ERROR: a damaged frame is discarded and counted (R619). -/
def State.ywFrameError (s : State) : State := if s.yw.up then s.countYw 1 else s

/-- The identity response (Table 17-8). -/
def State.identity (s : State) : List Byte :=
  let f := s.fuse
  fitBytes 16 (f.part.map fun n => BitVec.ofNat 8 n) ++ leBytes 8 f.serial
    ++ leBytes 4 (f.stepping % 256 + f2 (f.clusters % 16) 8 + f2 (b2n f.optP + 2 * b2n f.optT) 16
      + f2 (b2n s.keeper.untested) 24)
    ++ leBytes 4 s.keeper.fw.version ++ leBytes 4 s.structId ++ leBytes 4 1

/-- What the Keeper matrix refuses of a register: a debug or scan register whose port is shut, and a user calibration
word in a cell of SERVICE without its letter C (R623, R643, R725). -/
def State.matrixShut (s : State) (write : Bool) (r : Reg) : Bool :=
  match r with
  | .kprDbg k => !s.portO || (write && k == 4 && !s.portF)
  | .kprTap _ => !s.portFT
  | .cal _ w => write && w == 1 && s.mode == .service && !s.calCell
  | _ => false

/-- A request names a word that the Keeper matrix refuses. -/
def State.matrixRefuses (s : State) (write : Bool) (off n : Nat) : Bool :=
  (List.range n).any fun i => match Reg.ofOff (off + 4 * i) with
    | some r => s.matrixShut write r
    | none => false

/-- The bytes of words. -/
def wordsBytes (ws : List Word) : List Byte := ws.flatMap fun w => leBytes 4 w.toNat

/-- The words that bytes spell. -/
def bytesWords (n : Nat) (b : List Byte) : List Word := (List.range n).map (wordAt b)

/-- Modes in which WRITE acts, and READ reaches all of BAR0. -/
def Mode.configured : Mode → Bool
  | .off | .seating | .inrush | .bringUp | .sleep | .faultHold => false
  | _ => true

/-- READ: the status, the words and the state after. -/
def State.ywRead (p : List Byte) (s : State) : Nat × List Byte × State :=
  let off := leAt p 0 4
  let n := leAt p 4 4
  if p.length ≠ 8 || n = 0 || 64 < n || off % 4 ≠ 0 then (ywBadRequest, [], s)
  else if s.matrixRefuses false off n && s.mode.configured then (ywDenied, [], s)
  else
    let (ws, s) := s.readWords 1 off n
    (ywOk, wordsBytes ws, s)

/-- WRITE: every word is applied as on the host link; the status tells of a word that the matrix refuses. -/
def State.ywWrite (env : WriteEnv) (p : List Byte) (s : State) : Nat × List Byte × State :=
  let off := leAt p 0 4
  let n := leAt p 4 4
  if p.length < 12 || n = 0 || 64 < n || p.length ≠ 8 + 4 * n || off % 4 ≠ 0 then (ywBadRequest, [], s)
  else if !s.mode.configured then (ywWrongMode, [], s)
  else
    let t := s.writeWords { env with link := 1 } off (bytesWords n (p.drop 8))
    (if s.matrixRefuses true off n then ywDenied else ywOk, [], t)

/-- A request that is answered when it arrives: its status, response data and the state after. -/
def State.ywExecute (type : Nat) (env : WriteEnv) (p : List Byte) (s : State) : Nat × List Byte × State :=
  match type with
  | 0x01 => if p.isEmpty then (ywOk, s.identity, s) else (ywBadRequest, [], s)
  | 0x02 => if p.isEmpty then (ywOk, leBytes 4 s.modStatus.toNat, s) else (ywBadRequest, [], s)
  | 0x10 => s.ywRead p
  | 0x11 => s.ywWrite env p
  | 0x30 =>
    if !p.isEmpty then (ywBadRequest, [], s)
    else match s.mode with
      | .seating | .inrush | .sleep => (ywWrongMode, [], s)
      | _ => let (v, s) := s.reading; (ywOk, leBytes 16 (nowBits v), s)
  | 0x40 => if !p.isEmpty then (ywBadRequest, [], s) else (ywOk, [], s.wake)
  | _ => (ywBadRequest, [], s)

/-- Sends a response and keeps it for a repeat (R618, R621). -/
def State.ywAnswer (type seq : Nat) (p : List Byte) (st : Nat) (d : List Byte) (s : State) : State :=
  let r := leBytes 2 st ++ d
  let s := { s with yw := { s.yw with last := some (type, seq, p, r) } }
  (if st = ywOk then s.countYw 0 else s).emit (.yewirak (ywFrame (type + 0x80) seq r))

/-- COMMAND: bytes 0 to 23 of a command entry; answered at completion (R65, R622). -/
def State.ywCommand (seq : Nat) (p : List Byte) (s : State) : State :=
  if p.length ≠ 24 then s.ywAnswer 0x20 seq p ywBadRequest []
  else if !queueServiced s.mode then s.ywAnswer 0x20 seq p ywWrongMode []
  else
    let c : Cmd := { origin := .yewirak, opcode := byteAt p 0, target := leAt p 2 2, tag := leAt p 4 4, args := p.drop 8 }
    ({ s with yw := { s.yw with open_ := some (0x20, seq, p) } }.countYw 0).submitCmd c [p.getD 1 0]

/-- A sound request frame: BUSY while a COMMAND is open (R620), the previous response again on a repeat (R621), else
its execution. -/
def State.ywRequest (type seq : Nat) (env : WriteEnv) (p : List Byte) (s : State) : State :=
  if !s.yw.up || s.mode == .off then s
  else if s.yw.open_.isSome then (s.countYw 2).emit (.yewirak (ywFrame (type + 0x80) seq (leBytes 2 ywBusy)))
  else match s.yw.last with
    | some (t, q, p', r) =>
      if t = type && q = seq && p' = p then (s.countYw 3).emit (.yewirak (ywFrame (type + 0x80) seq r))
      else if type = 0x20 then s.ywCommand seq p
      else let (st, d, s) := s.ywExecute type env p; s.ywAnswer type seq p st d
    | none =>
      if type = 0x20 then s.ywCommand seq p
      else let (st, d, s) := s.ywExecute type env p; s.ywAnswer type seq p st d

end Sys2Proof.Machine
end

