-- ==== Sys2Proof/Machine/LoadApply.lean ====
section
/-! DEFINITION. Records of a Mica stream (R82 to R89) and what they write: the tables of apply steps 1 to 6 (R99). -/
namespace Sys2Proof.Machine

/-- Bytes of an entry of a type whose body is a table of entries. -/
def entrySize (type : Nat) : Nat :=
  if type = tQuota ∨ type = tBuffers ∨ type = tCycle ∨ type = tPlan then 16
  else if type = tExact then 48 else if type = tMasked ∨ type = tRoute then 64 else if type = tCtx then 24 else 0

/-- The entries of a record's body. -/
def MRec.items (r : MRec) : List (List Byte) :=
  (List.range r.entries).map fun i => (r.body.drop (entrySize r.type * i)).take (entrySize r.type)

/-- The entries of a type and scope, in order. -/
def itemsOf (type scope : Nat) (rs : List MRec) : List (List Byte) :=
  ((recsOf type rs).filter fun r => r.scope == scope).flatMap MRec.items

/-- Owner named by a record's scope: a cluster, or 4 for the module. -/
def scopeOwner (scope : Nat) : Nat := if scope = 0xFF then 4 else scope

/-! ### Lane records (R85) -/

def isLaneType (type : Nat) : Bool := type == tBusLane || type == tEthLane || type == tCheckUnit

/-- Units of a lane record's kind in a cluster. -/
def laneUnits (type : Nat) : Nat := if type = tBusLane then 10 else if type = tEthLane then 6 else 4

/-- The unit of a lane record, as `Structure.used` numbers it. -/
def MRec.laneKey (r : MRec) : Nat :=
  (if r.type = tBusLane then 0 else if r.type = tEthLane then 40 else 64) + laneUnits r.type * r.scope + byteAt r.body 0

/-- Base of the unit's register window. -/
def MRec.laneBase (r : MRec) : Nat :=
  let i := laneUnits r.type * r.scope + byteAt r.body 0
  if r.type = tBusLane then busBase i else if r.type = tEthLane then macBase i else chkBase i

/-- The pairs of offset and value of a lane record. -/
def MRec.lanePairs (r : MRec) : List (Nat × Word) :=
  (List.range r.entries).map fun i => (leAt r.body (8 + 8 * i) 4, wordAt (r.body.drop (8 + 8 * i)) 1)

/-- The unit a lane record names exists (Table 3-4). -/
def MRec.laneUnitOk (r : MRec) : Bool := byteAt r.body 0 < laneUnits r.type

/-- A write by the loader, as host software's would act in CONFIGURING. -/
def State.laneWrite (off : Nat) (v : Word) (s : State) : State :=
  let m := s.ctl.mode
  let s := { s with ctl := { s.ctl with mode := .configuring } }.writeWord ⟨2, none, .none⟩ off 15 v
  { s with ctl := { s.ctl with mode := m } }

/-- The words of a lane record are written in body order (Table 3-10). -/
def State.laneRecord (r : MRec) (s : State) : State :=
  if r.laneUnitOk then s.each r.lanePairs fun p s => s.laneWrite (r.laneBase + p.1) p.2 else s

/-! ### Images (R88, R505 to R507, R524) -/

/-- The load header of an image with the parameters of its PERSONALITY record. -/
def Image.ofBytes (o params : List Byte) : Image :=
  let code := leAt o 16 4
  { component := leAt o 8 4, version := leAt o 12 4, code := (o.drop 64).take code,
    data := (o.drop (64 + code)).take (leAt o 20 4), entry := leAt o 24 4, restartEntry := leAt o 28 4,
    paramAddr := leAt o 32 4, params := params, ckptAddr := leAt o 36 4, ckptLen := leAt o 40 2,
    units := byteAt o 42, depths := leAt o 44 4 }

/-- An engine is set up at apply step 3 and held at reset (R507). -/
def State.loadEngine (rs : List MRec) (r : MRec) (s : State) : State :=
  match imageOf s.keeper rs r.body with
  | some o =>
    let params := (r.body.drop 64).take (leAt r.body 62 2)
    s.upEng r.engine fun e => Engine.setup
      { e with image := some (Image.ofBytes o params), state := if e.retired then .retired else if s.faultWaits (0x1000 + r.engine) then .haltedFault else .reset }
  | none => s

/-- A tile's logic is loaded at apply step 4. -/
def State.loadTile (r : MRec) (s : State) : State :=
  let o := r.object
  if s.keeper.accepts 3 o then
    s.setTile r.scope { s.tile r.scope with
      image := some (leAt o 8 4, leAt o 12 4, leAt o 16 8), config := (o.drop 32).take (leAt o 24 4) }
  else s

/-! ### Step 1: MODULE, BUFFERS and QUOTA -/

/-- `n` descriptors from `first` on become `d`, of a kind and in a state. -/
def State.makeDescs (first n : Nat) (d : Desc) (k : DescKind) (st : DescState) (s : State) : State :=
  s.each (List.range n) fun i s => s.setDesc (first + i) { d with kind := k, state := st }

/-- A BUFFERS entry (Table 6-10) is applied. The cells of TX_STATIC descriptors are taken at step 8 (R97). -/
def State.applyBuffer (e : List Byte) (s : State) : State :=
  let n := leAt e 2 2
  let first := leAt e 4 4
  let d : Desc := { Desc.unused with
    keep := nbit (byteAt e 1) 0, bindKind := leAt e 8 2 / 4096, bindIndex := leAt e 8 2 % 4096, queue := byteAt e 10,
    maxCells := byteAt e 11 }
  match byteAt e 0 with
  | 1 => s.makeDescs first n d .rxMailbox .empty
  | 2 => (s.makeDescs first n d .rxFifo .empty).setFifo (leAt e 12 2)
      { base := first, keep := d.keep, depth := n, count := 0, head := 0 }
  | 3 => s.makeDescs first n d .txStatic .empty
  | 4 => s.makeDescs first n d .txQueue .empty
  | 5 => s.setHostQ first { s.hostQ first with depth := n }
  | _ => s

/-- Default quotas of Table 7-5: guaranteed, borrow and age bound in µs. -/
def defaultQuota (p : Nat) : Nat × Nat × Nat :=
  if p < 40 then (64, 1024, 200) else if p < 64 then (1024, 16384, 200) else if p < 96 then (64, 4096, 20)
  else if p < 100 then (64, 4096, 200) else if p = 100 then (1024, 16384, 20) else (0, 0, 20)

/-- The host partner is in use by the buffers of the stream (R295). -/
def hostInUse (rs : List MRec) : Bool :=
  (itemsOf tBuffers 0xFF rs).any fun e => byteAt e 0 == 3 || byteAt e 0 == 5

/-- A partner numbered in Table 7-1 is in use (R295). -/
def State.partnerInUse (rs : List MRec) (p : Nat) (s : State) : Bool :=
  if p < 64 then s.laneUsed p else if p < 96 then (s.eng (p - 64)).image.isSome
  else if p < 100 then (s.tile (p - 96)).image.isSome else p == 100 && hostInUse rs

/-- A partner with the defaults of Table 7-5. -/
def Partner.withDefaults (p : Nat) (x : Partner) : Partner :=
  let (g, b, age) := defaultQuota p
  { x with allocated := true, emEligible := false, weight := 1, age := age, g := g, b := b, emMax := 0 }

/-- A partner with a QUOTA entry (Table 7-4) of an owner. -/
def Partner.withEntry (p owner : Nat) (e : List Byte) (x : Partner) : Partner :=
  { x with allocated := true, emEligible := nbit (byteAt e 2) 0, owner := owner, weight := byteAt e 3,
           g := leAt e 4 4, b := leAt e 8 4, emMax := leAt e 14 2,
           age := if leAt e 12 2 = 0 then (defaultQuota p).2.2 else leAt e 12 2 }

/-- The partner entries of the owners that target `t` covers are replaced (R295, R296); what retired rows leave short of
them is absorbed (R270). -/
def State.applyQuotas (t : Nat) (rs : List MRec) (s : State) : State :=
  let mine := (List.range 101 ++ s.partners.keys.filter (100 < ·)).filter fun p => covers t (s.partner p).owner
  let s := s.each mine fun p s =>
    let x := s.partner p
    s.setPartner p (if s.partnerInUse rs p then x.withDefaults p else x.stripped)
  let s := s.each (recsOf tQuota rs) fun r s => s.each r.items fun e s =>
    let p := leAt e 0 2
    if p = 0xFFFF then
      { s with books := { s.books with eSet := leAt e 4 4, e := leAt e 4 4 } }
    else s.setPartner p ((s.partner p).withEntry p (scopeOwner r.scope) e)
  if s.shared_ < 0 then s.absorb else s

/-! ### Step 2: filters, routes and contexts -/

/-- The filter slice of cluster `c` as a stream's entries set it (R319 to R322): bank 0 is active and the shadow is its
copy. -/
def State.applySlice (rs : List MRec) (c : Nat) (s : State) : State :=
  let exact := itemsOf tExact c rs
  let masked := (itemsOf tMasked c rs).filterMap fun e => (ActBlock.ofBytes ((e.drop 48).take 16)).map fun a =>
    (leAt e 0 2, (⟨byteAt e 2 == 1, leAt e 16 16, leAt e 32 16, a⟩ : MaskedEnt))
  let t := masked.foldl (fun (t : Tbl (Option MaskedEnt)) m => t.set (fun _ => none) m.1 (some m.2)) []
  let ex := exact.foldl (fun (t : Tbl (Option ExactEnt)) e => match ActBlock.ofBytes ((e.drop 32).take 16) with
    | some a => t.set (fun _ => none) (leAt e 0 2) (some ⟨leAt e 16 16, a⟩)
    | none => t) []
  s.setSlice c { s.slice c with
    seed := (exact.head?.map fun e => leAt e 2 2).getD 0, activeBank := false, exact := ex, bank0 := t, bank1 := t,
    batch := [] }

/-- A ROUTE entry is written under its owner; its counters start at zero (R335, R336, R365). -/
def State.applyRoute (owner : Nat) (e : List Byte) (s : State) : State :=
  let r := leAt e 0 2
  let s := (s.clearRoute r).setRoute r e
  { s with routeOwners := s.routeOwners.set (fun _ => 4) r owner }

/-- A context as a stream loads it (R485, R500). -/
def Ctx.fresh (c : Nat) (e : List Byte) : Ctx :=
  { cluster := c, entry := e, seen := false, last := 0, checkOk := 0, checkFail := 0, aliveRepeat := 0, skipLost := 0,
    failRaised := false, repeatRaised := false, skipRaised := false }

/-! ### Step 6: CYCLE (R457 to R461) -/

/-- The period record's body (Table 12-1). -/
def CycleCfg.ofBytes (b : List Byte) : CycleCfg :=
  { period := leAt b 0 4, phase := leAt b 4 4, catchup := if byteAt b 8 = 0xFF then 10 else byteAt b 8,
    matrixLog2 := byteAt b 9, ntu := leAt b 10 2 }

/-- The window type of a code of Table 12-2. -/
def winTypeOf (n : Nat) : WinType :=
  match n with | 1 => .reference | 2 => .exclusive | 3 => .arbitration | 5 => .task | _ => .gap

/-- The role of a code of Table 12-6. -/
def roleOf (n : Nat) : Role := match n with | 1 => .master | 2 => .follower | 3 => .backup | _ => .none

/-- A WINDOW entry (Table 12-4). -/
def Window.ofBytes (e : List Byte) : Window :=
  ⟨winTypeOf (byteAt e 3), leAt e 4 4, leAt e 8 4, leAt e 12 2, byteAt e 14, byteAt e 15⟩

/-- The windows of cluster `c`'s lane (target 0) or engine (target 1) `i`. -/
def windowsOf (rs : List MRec) (c target i : Nat) : List Window :=
  ((itemsOf tCycle c rs).filter fun e => byteAt e 0 == 2 && byteAt e 1 == target && byteAt e 2 == i).map Window.ofBytes

/-- The timelines of cluster `c`: each channel whose role is not NONE, and each engine with a TASK window. -/
def State.applyCycle (rs : List MRec) (c : Nat) (s : State) : State :=
  let s := s.each (itemsOf tCycle c rs) fun e s =>
    if byteAt e 0 = 1 ∧ byteAt e 2 ≠ 0 then
      s.setSched (10 * c + byteAt e 1) (some
        { role := roleOf (byteAt e 2), level := byteAt e 3, refId := leAt e 4 2, followTol := leAt e 6 2,
          backupDelay := leAt e 8 4, windows := windowsOf rs c 0 (byteAt e 1) })
    else s
  s.each (List.range 8) fun k s =>
    let ws := windowsOf rs c 1 k
    if ws.any fun w => w.type == .task then
      s.setSched (40 + 8 * c + k)
        (some { role := .none, level := 1, refId := 0, followTol := 0, backupDelay := 0, windows := ws })
    else s

/-! ### Step 7: the plan (R697) -/

/-- A POWER_PLAN entry (Table 20-4). -/
def PlanEntry.ofBytes (e : List Byte) : PlanEntry :=
  { onRun := nbit (byteAt e 1) 0, onStandby := nbit (byteAt e 1) 1, onSleep := nbit (byteAt e 1) 2,
    classify := nbit (byteAt e 1) 3, limit := leAt e 2 2, retryMax := if byteAt e 4 = 0xFF then 5 else byteAt e 4,
    shedRank := byteAt e 5, planOrder := byteAt e 6, classMask := byteAt e 7,
    tInrush := if byteAt e 8 = 0 then 20 else byteAt e 8 }

/-- Output of index `i` in cluster `c`. -/
def planOutput (c i : Nat) : Nat := if i < 10 then 10 * c + i else 40 + 6 * c + (i - 10)

/-- The plan entries of a stream with their outputs. -/
def planOf (rs : List MRec) : List (Nat × PlanEntry) :=
  (recsOf tPlan rs).flatMap fun r => r.items.map fun e => (planOutput r.scope (byteAt e 0), PlanEntry.ofBytes e)

/-! ### The structure (R105) -/

/-- The units a stream's lane records put in use (R86). -/
def usedUnits (rs : List MRec) : List Nat :=
  (rs.filter fun r => isLaneType r.type && r.laneUnitOk && byteAt r.body 1 == 1).map MRec.laneKey

/-- The structure as it stands after a stream of target `t` with bytes `bs`. -/
def State.nextStruct (t : Nat) (bs : List Byte) (rs : List MRec) (s : State) : Structure :=
  let used (u : Tbl Bool) : Tbl Bool := (usedUnits rs).foldl (fun u k => u.set (fun _ => false) k true) u
  let plan (p : Tbl (Option PlanEntry)) : Tbl (Option PlanEntry) :=
    (planOf rs).foldl (fun p e => p.set (fun _ => none) e.1 (some e.2)) p
  let ids := imageIds s.keeper rs
  match t, s.struct with
  | 4, _ | _, none =>
    let m := ((recsOf tModule rs).head?.map (·.body)).getD []
    { id := leAt bs 24 4, clusters := byteAt bs 28, budgetMa := if leAt m 0 4 = 0 then 25000 else leAt m 0 4,
      holdMaxMs := if leAt m 4 2 = 0 then 50 else leAt m 4 2, full := streamId bs, reloaded := [],
      used := used [], images := ids, plan := plan [] }
  | c, some x =>
    { x with clusters := setBit x.clusters c true,
             reloaded := x.reloaded.set (fun _ => none) c (some (streamId bs)),
             used := used (x.used.keep fun u => usedCluster u != c),
             images := x.images.filter (fun i => i.cluster != c) ++ ids,
             plan := plan (x.plan.keep fun q => sparCluster q != c) }

/-- The tables of apply steps 1 to 6 are written, over what the target owned before. -/
def State.applyTables (t : Nat) (bs : List Byte) (rs : List MRec) (s : State) : State :=
  let s := s.clearOwned t
  let s := { s with struct := some (s.nextStruct t bs rs) }
  let s := s.each (recsOf tPersonality rs) (State.loadEngine rs)
  let s := s.each (recsOf tTile rs) State.loadTile
  let s := s.each (itemsOf tBuffers 0xFF rs) State.applyBuffer
  let s := s.applyQuotas t rs
  let s := s.each ((List.range 4).filter (covers t)) (State.applySlice rs)
  let s := s.each (recsOf tRoute rs) fun r s => s.each r.items (State.applyRoute (scopeOwner r.scope))
  let s := s.each (recsOf tCtx rs) fun r s => s.each r.items fun e s => s.setCtx (leAt e 0 2) (some (Ctx.fresh r.scope e))
  let s := s.each (rs.filter fun r => isLaneType r.type) State.laneRecord
  let s := { s with stage := s.stage.keep fun k => k / 2 ^ 26 != 2 }
  let s := match (recsOf tCycle rs).find? fun r => r.scope == 0xFF with
    | some r => ({ s with cycle := some (CycleCfg.ofBytes r.body) } : State).refreshAllGates
    | none => s
  s.each ((List.range 4).filter (covers t)) (State.applyCycle rs)

end Sys2Proof.Machine
end

