-- ==== Sys2Proof/Machine/LoadCheck.lean ====
section
/-! DEFINITION. Validation of a Mica stream (R90 to R95): stages 1 to 5, and the stage 6 checks of Table 3-8 over the
structure as it would stand after apply. -/
namespace Sys2Proof.Machine

/-- A failure of validation: code (Table 3-9), record index and auxiliary value (R95). -/
abbrev LoadFail := Nat × Nat × Nat

/-- A failure of stages 1 to 4. -/
def headFail (code : Nat) : LoadFail := (code, 0xFFFF, 0)

/-- The first code of a list whose condition holds. -/
def firstCode : List (Bool × Nat) → Option Nat
  | [] => none
  | (b, n) :: l => if b then some n else firstCode l

/-! ### Stages 1 to 4 -/

/-- Stage 1 on the header (Table 3-1): `len` is the length the command gives. -/
def headerCode (full : Bool) (len : Nat) (h : List Byte) : Option Nat :=
  let n := leAt h 36 4
  firstCode
    [(leAt h 0 4 != 0x4143494D, 0x102),
     (leAt h 4 2 != 1, 0x103),
     (byteAt h 6 != (if full then 1 else 2), 0x104),
     (n != len || n < 176 || n % 8 != 0 || (if full then 2 ^ 23 else 2 ^ 21) < n, 0x105),
     (leAt h 22 2 != 0 || 15 < byteAt h 28 || 3 < byteAt h 29 || 1 < byteAt h 31 || leAt h 40 24 != 0
       || (full && (byteAt h 7 != 0xFF || leAt h 24 4 == 0)) || (!full && byteAt h 31 != 0), 0x106)]

/-- Stage 2 (R81, R626). -/
def State.authentic (s : State) (bs : List Byte) : Option Nat :=
  let k := byteAt bs 30
  firstCode
    [(!s.keeper.signs k 2, 0x201),
     (!ecdsaVerify (s.keeper.slot k).key (bs.take (bs.length - 96)) (bs.drop (bs.length - 96)), 0x202)]

/-- The set after a load of target `t`, with the images `ids` of its own records (R644). -/
def State.setAfter (s : State) (t : Nat) (bs : List Byte) (ids : List ImageId) : KSet :=
  match t, s.struct with
  | 4, _ | _, none => ⟨s.keeper.fw, [streamId bs], ids⟩
  | c, some x =>
    ⟨s.keeper.fw, ({ x with reloaded := x.reloaded.set (fun _ => none) c (some (streamId bs)) } : Structure).streams,
     x.images.filter (fun i => i.cluster != c) ++ ids⟩

/-- Stage 3: the set after the load, the stream's own images apart (R646). -/
def State.compatible (s : State) (t : Nat) (bs : List Byte) : Option Nat :=
  match s.judge646 (s.setAfter t bs []) with
  | .mismatch => some 0x301
  | .untested => some 0x302
  | .accept _ => none

/-- Stage 4. -/
def State.targetCode (s : State) (t : Nat) (bs : List Byte) : Option Nat :=
  let used := byteAt bs 28
  let c := byteAt bs 7
  firstCode
    [((List.range 4).any (fun i => nbit used i && !s.hasCluster i) || (t != 4 && !s.hasCluster c), 0x401),
     ((nbit (byteAt bs 29) 0 && !s.fuse.optP) || (nbit (byteAt bs 29) 1 && !s.fuse.optT), 0x402),
     (t != 4 && (c != t || used != 2 ^ c), 0x403),
     (t != 4 && leAt bs 24 4 != s.structId, 0x404)]

/-! ### Stage 5 (R82 to R84, R89) -/

def recordTypes : List Nat :=
  [tModule, tBusLane, tEthLane, tCheckUnit, tQuota, tBuffers, tExact, tMasked, tRoute, tCtx, tImage, tPersonality,
   tTile, tCycle, tPlan, tEnd]

/-- body_length and entries suit the type. -/
def MRec.lengthOk (r : MRec) (n : Nat) : Bool :=
  let single (k : Nat) : Bool := r.entries == 1 && n == k
  if r.type = tModule then single 32
  else if isLaneType r.type then n == 8 + 8 * r.entries
  else if r.type = tEnd then single 96
  else if r.type = tImage ∨ r.type = tTile then r.entries == 1
  else if r.type = tPersonality then 64 ≤ n && single (64 + leAt r.body 62 2)
  else if r.type = tCycle ∧ r.scope = 0xFF then single 16
  else n == entrySize r.type * r.entries

/-- The scope suits the type and kind, and the options the stream requires (R84). -/
def MRec.scopeOk (r : MRec) (full : Bool) (used opts : Nat) : Bool :=
  let ty := r.type
  let module := ty == tModule || ty == tBuffers || ty == tImage || ty == tEnd
  (if r.scope = 0xFF then
    ty == tImage || ty == tEnd || (full && (module || ty == tQuota || ty == tRoute || ty == tCycle))
  else !module && r.scope < 4 && nbit used r.scope)
    && (ty != tTile || nbit opts 1) && (ty != tPlan || nbit opts 0)

/-- R83 is broken after a record of type and scope `prev`. -/
def MRec.misplaced (r : MRec) (full : Bool) (prev : Option (Nat × Nat)) : Bool :=
  (match prev with
    | some (ty, sc) => r.type < ty || (r.type == ty && (r.scope < sc || ty == tModule))
    | none => false)
  || (!full && r.type == tModule)

/-- The record headers, in index order: `n` records are left, `bs` is what is left of the stream. A FULL stream whose
MODULE record is not first breaks the order of R83 there; one without any lacks it. `module` tells whether one is present. -/
def recordsFail (full module : Bool) (used opts count : Nat) : Nat → Option (Nat × Nat) → List Byte → Option LoadFail
  | 0, _, bs => if bs.isEmpty then none else some (0x507, count - 1, 0)
  | n + 1, prev, bs =>
    let i := count - (n + 1)
    if bs.length < 16 then some (0x507, i, 0)
    else
      let len := leAt bs 4 4
      let r : MRec := ⟨leAt bs 0 2, byteAt bs 2, leAt bs 8 4, leAt bs 12 4, (bs.drop 16).take len⟩
      match firstCode
        [(!recordTypes.contains r.type, 0x501),
         (r.index != i, 0x502),
         (len % 8 != 0 || bs.length - 16 < len || !r.lengthOk len, 0x503),
         (r.misplaced full prev, 0x504),
         (!r.scopeOk full used opts, 0x505),
         (byteAt bs 3 != 0, 0x506),
         ((r.type == tEnd) != (n == 0) || (full && i == 0 && !module), 0x507)] with
      | some c => some (c, i, 0)
      | none => recordsFail full module used opts count n (some (r.type, r.scope)) (bs.drop (16 + len))

/-- tile_if is zero in a stream without a TILE record (Table 3-1). -/
def tileIfOk (bs : List Byte) : Bool := leAt bs 20 2 == 0 || (recsOf tTile (streamRecs bs)).length != 0

/-- Stages 2 to 5 of a stream whose header has passed stage 1. DESIGN CHOICE (log 93): tile_if without a TILE record,
which no code of Table 3-9 names, fails as HEADER_RESERVED. DESIGN CHOICE (log 50): the record that RECORD_COUNT names
is 0 for a count outside its range or a missing MODULE, the last record where bytes remain after it, and the one at
which the bytes run out. -/
def State.stages2to5 (s : State) (t : Nat) (bs : List Byte) : Option LoadFail :=
  if !tileIfOk bs then some (headFail 0x106)
  else match s.authentic bs, s.compatible t bs, s.targetCode t bs with
  | some c, _, _ | none, some c, _ | none, none, some c => some (headFail c)
  | none, none, none =>
    let n := leAt bs 32 4
    if n < 2 || 65534 < n then some (0x507, 0, 0)
    else recordsFail (t == 4) ((recsOf tModule (streamRecs bs)).length != 0) (byteAt bs 28) (byteAt bs 29) n n none (bs.drop 64)

/-! ### Checks 1 and 2 -/

/-- The first record and entry a predicate fails at: `bad r` is the first failing entry of `r`. -/
def firstRecord (code : Nat) (bad : MRec → Option Nat) (rs : List MRec) : Option LoadFail :=
  rs.findSome? fun r => (bad r).map fun i => (code, r.index, i)

/-- The first entry of a record that fails a test. -/
def MRec.firstEntry (bad : List Byte → Bool) (r : MRec) : Option Nat := r.items.findIdx? bad

/-- Check 1: SPARE_NAMED. -/
def spareNamed (rs : List MRec) : Option LoadFail :=
  firstRecord 0x601 (fun r =>
    if (r.type == tBusLane && byteAt r.body 0 == 10) || (r.type == tPersonality && byteAt r.body 0 == 8)
    then some 0 else none) rs

/-- A name that check 2 allows once: a kind and two numbers. -/
abbrev Token := Nat × Nat × Nat

/-- A list names something twice. -/
def repeats : List Token → Bool
  | [] => false
  | x :: l => l.contains x || repeats l

/-- Names of a BUFFERS entry: its descriptors, its FIFO or its host queue. -/
def bufferTokens (e : List Byte) : List Token :=
  if byteAt e 0 = 5 then [(tBuffers, 2, leAt e 4 4)]
  else (List.range (leAt e 2 2)).map (fun i => (tBuffers, 0, leAt e 4 4 + i))
    ++ (if byteAt e 0 = 2 then [(tBuffers, 1, leAt e 12 2)] else [])

/-- Names of a ROUTE entry: its index, and the kind and index of each word in use. -/
def routeTokens (e : List Byte) : List Token :=
  (tRoute, 0, leAt e 0 2) :: (List.range (min 4 (byteAt e 7))).map fun w =>
    (0x1000000 + leAt e 0 2, byteAt e (16 + 8 * w), leAt e (18 + 8 * w) 2)

/-- What each entry of a record names, in body order (Table 3-8 check 2 and the DUPLICATE rows of its chapters). -/
def MRec.tokens (r : MRec) : List (List Token) :=
  let ty := r.type
  if isLaneType ty then
    match r.lanePairs.map fun p => [(0x2000000 + r.index, 0, p.1)] with
    | [] => [[(ty, r.scope, byteAt r.body 0)]]
    | x :: l => ((ty, r.scope, byteAt r.body 0) :: x) :: l
  else if ty = tImage then [[(ty, leAt r.body 8 4, leAt r.body 12 4)]]
  else if ty = tPersonality then [[(ty, 0, r.engine)]]
  else if ty = tCycle then (if r.scope = 0xFF then [[(ty, 0, 0)]] else [])
  else r.items.map fun e =>
    if ty = tBuffers then bufferTokens e
    else if ty = tQuota then [(ty, 0, leAt e 0 2)]
    else if ty = tExact then [(ty, 2 * r.scope, leAt e 0 2), (ty, 2 * r.scope + 1, project (leAt e 16 16))]
    else if ty = tMasked then [(ty, r.scope, leAt e 0 2)]
    else if ty = tRoute then routeTokens e
    else if ty = tCtx then [(ty, 0, leAt e 0 2)]
    else if ty = tPlan then [(ty, r.index, byteAt e 0)]
    else []

/-- The first entry that names what an earlier one, or itself, has named. -/
def firstRepeat (index : Nat) : Nat → List (List Token) → List Token → Sum LoadFail (List Token)
  | _, [], seen => .inr seen
  | i, l :: ls, seen =>
    if repeats l || l.any seen.contains then .inl (0x602, index, i) else firstRepeat index (i + 1) ls (l ++ seen)

def repeatIn : List MRec → List Token → Option LoadFail
  | [], _ => none
  | r :: rs, seen => match firstRepeat r.index 0 r.tokens seen with
    | .inl f => some f
    | .inr seen => repeatIn rs seen

/-- Routes, contexts and user partners of other owners, which a CLUSTER stream may not name again (Table 9-4, R486,
Table 7-6). -/
def State.foreignTokens (s : State) (t : Nat) : List Token :=
  (s.routes.keys.filter fun r => match s.routeOwner r with | some o => !covers t o | none => false).map
      (fun r => (tRoute, 0, r))
    ++ (s.ctxs.filterMap fun e => match e.2 with
      | some x => if covers t x.cluster then none else some (tCtx, 0, e.1)
      | none => none)
    ++ (s.partners.keys.filter fun p => 100 < p && (s.partner p).allocated && !covers t (s.partner p).owner).map
      fun p => (tQuota, 0, p)

/-- Check 2: DUPLICATE. -/
def State.duplicate (s : State) (t : Nat) (rs : List MRec) : Option LoadFail := repeatIn rs (s.foreignTokens t)

/-! ### Check 3: lane record entries (R85) -/

/-- RO and RC fields of writable lane registers: defined, so no reserved bits (Table 4-10, Table 4-16). -/
def BusReg.heldBits : BusReg → Word
  | .line => 0x78FFFFFF
  | .wake => 0x0000E03F
  | _ => 0

/-- The bits of a register that are not reserved, if a lane record may name it: none for RO, WO and RC registers and
for those gated without CONFIGURING. -/
def laneMask (s : State) : Reg → Option Word
  | .bus _ r =>
    let fs := r.fields false
    if fs.isEmpty then none else some (fieldBits (BitVec.allOnes 32) fs ||| r.heldBits)
  | .mac p r => match r with
    | .addr k => some (if k = 0 then 0xFFFFFFFF else 0xFFFF)
    | .tcdepth _ | .gateBase _ => some 0xFFFFFFFF
    | .meter _ k => some (if k = 2 then wd (2 ^ 32 - 1 - f2 3 28) else 0xFFFFFFFF)
    | .gateCtrl => some (fieldBits (BitVec.allOnes 32) (s.macFields p 0 r) ||| wd (2 ^ 29))
    | r =>
      let fs := s.macFields p 0 r
      if fs.isEmpty then none else some (fieldBits (BitVec.allOnes 32) fs)
  | .chk _ k => if k = 1 then none else some (if k = 0 then 0x8000000F else 0xFFFFFFFF)
  | .evt b a => if a = 0 then none else some (wd b.evtenReset)
  | .evten b => some (wd b.evtenReset)
  | _ => none

/-- Judges one pair of a lane record over the window as it stands at that point of apply. -/
def State.judgePair (s : State) (base : Nat) (p : Nat × Word) : Option Nat × State :=
  match if p.1 % 4 = 0 ∧ p.1 < 0x10000 then (Reg.ofOff (base + p.1)).bind (laneMask s) else none with
  | none => (some 0x603, s)
  | some m =>
    let u := s.laneWrite (base + p.1) p.2
    if p.2 &&& ~~~m != 0 || u.rb 0x50 0 then (some 0x604, u)
    else (none, u)

def State.judgePairs (s : State) (base : Nat) : Nat → List (Nat × Word) → Option (Nat × Nat)
  | _, [] => none
  | i, p :: ps => match s.judgePair base p with
    | (some c, _) => some (c, i)
    | (none, s) => s.judgePairs base (i + 1) ps

/-- Check 3: BAD_REGISTER and BAD_VALUE of lane records. -/
def State.laneFail (s : State) (t : Nat) (rs : List MRec) : Option LoadFail :=
  let s := (s.resetWindows t).wr 0x50 0
  (rs.filter fun r => isLaneType r.type && r.laneUnitOk).findSome? fun r =>
    (s.judgePairs r.laneBase 0 r.lanePairs).map fun x => (x.1, r.index, x.2)

/-! ### Check 4: field values -/

/-- The MODULE body (Table 3-5). -/
def moduleBad (b : List Byte) : Bool :=
  let n := leAt b 0 4
  (n != 0 && (n < 1000 || 25000 < n)) || 1000 < leAt b 4 2 || leAt b 6 26 != 0

/-- The fixed part of a lane record (Table 3-4). -/
def MRec.laneBad (r : MRec) : Bool := !r.laneUnitOk || 1 < byteAt r.body 1 || leAt r.body 2 6 != 0

/-- Units of a source kind (Table 6-4): none for a reserved kind. -/
def kindUnits (kind : Nat) : Nat :=
  if kind = srcBus then 40 else if kind = srcEth then 24 else if kind = srcEngine then 32 else if kind = srcHost then 64
  else if kind = srcTile then 4 else 0

/-- The unit a receive buffer binds exists in this variant (R8). -/
def State.boundPresent (s : State) (kind i : Nat) : Bool :=
  i < kindUnits kind && (kind == srcHost || s.hasCluster
    (if kind = srcBus then i / 10 else if kind = srcEth then i / 6 else if kind = srcEngine then i / 8 else i))

/-- A BUFFERS entry (Table 6-10) over the structure `s` after apply. -/
def State.bufferBad (s : State) (e : List Byte) : Bool :=
  let k := byteAt e 0
  let n := leAt e 2 2
  let bk := leAt e 8 2 / 4096
  let bi := leAt e 8 2 % 4096
  let rx := k == 1 || k == 2
  let tx := k == 3 || k == 4
  k == 0 || 5 < k || 1 < byteAt e 1 || (!rx && byteAt e 1 != 0)
    || (if k = 5 then !(16 ≤ n && n ≤ 4096 && 2 ^ n.log2 == n) || 63 < leAt e 4 4 else n == 0 || 4096 < n)
    || (tx && !(bk == 0 && bi < 40 && s.laneUsed bi))
    || (rx && bk != 15 && !s.boundPresent bk bi)
    || (if rx then 63 < byteAt e 10 && byteAt e 10 != 0xFF else byteAt e 10 != 0)
    || (if k = 3 then byteAt e 11 == 0 || 33 < byteAt e 11 else byteAt e 11 != 0)
    || (if k = 2 then 1023 < leAt e 12 2 else leAt e 12 2 != 0)
    || leAt e 14 2 != 0

/-- Cells of the TX_STATIC entries of a stream (R252). -/
def staticCells (rs : List MRec) : Nat :=
  ((itemsOf tBuffers 0xFF rs).map fun e => if byteAt e 0 = 3 then 2 * leAt e 2 2 * byteAt e 11 else 0).sum

/-- Cells of the TX_STATIC descriptors of a structure. -/
def State.staticOf (s : State) : Nat :=
  (s.descs.map fun e => if e.2.kind == .txStatic then 2 * e.2.maxCells else 0).sum

/-- Partner `p` has fewer guaranteed cells than R280 asks of it: that of an engine in use, or the host partner beside
its TX_STATIC cells while a host queue exists. -/
def State.belowRequest (s : State) (p : Nat) : Bool :=
  ((List.range 32).any (s.engineCharges · p) && (s.partner p).g < s.maxReq p)
    || (p == 100 && s.hostQs.any (fun e => e.2.depth != 0) && (s.partner p).g < s.staticOf + s.maxReq p)

/-- A QUOTA entry (Table 7-4, Table 7-6, R280) of a scope. -/
def State.quotaBad (s : State) (scope : Nat) (e : List Byte) : Bool :=
  let p := leAt e 0 2
  if p = 0xFFFF then
    scope != 0xFF || byteAt e 2 != 0 || byteAt e 3 != 0 || 65535 < leAt e 4 4 || leAt e 8 4 != 0 || leAt e 12 4 != 0
  else
    4095 < p || 1 < byteAt e 2 || byteAt e 3 == 0 || 262143 < leAt e 4 4 || 262143 < leAt e 8 4
      || (byteAt e 2 == 0 && leAt e 14 2 != 0) || (p ≤ 100 && ownerOf p != scopeOwner scope) || s.belowRequest p

/-- A FILTER_EXACT entry (Table 8-6, Table 8-8) of slice `c`. -/
def State.exactBad (s : State) (c : Nat) (e : List Byte) : Bool :=
  let key := leAt e 16 16
  match ActBlock.ofBytes ((e.drop 32).take 16) with
  | some a =>
    slotCount ≤ leAt e 0 2 || leAt e 2 2 != (s.slice c).seed || leAt e 4 12 != 0 || !exactKeyOk key
      || (nfld key 124 4 == 3 && a.node.isSome) || !isCandidate (s.slice c).seed key (leAt e 0 2) || !s.actOk c a
  | none => true

/-- A FILTER_MASKED entry (Table 8-7, Table 8-8) of slice `c`. -/
def State.maskedBad (s : State) (c : Nat) (e : List Byte) : Bool :=
  match ActBlock.ofBytes ((e.drop 48).take 16) with
  | some a =>
    4095 < leAt e 0 2 || 1 < byteAt e 2 || leAt e 3 13 != 0 || !maskedOk (leAt e 16 16) (leAt e 32 16) a || !s.actOk c a
  | none => true

/-- The remap of a BUS destination (Table 9-3, Table 9-4). -/
def remapBad (p : Nat) : Bool :=
  if nbit p 31 then (nbit p 30 || !nbit p 29) && nfld p 11 18 != 0 else p != 0

/-- A destination word in use (Table 9-3, Table 9-4, R509). -/
def State.destBad (s : State) (w : List Byte) : Bool :=
  let i := leAt w 2 2
  let p := leAt w 4 4
  byteAt w 1 != 0 || match byteAt w 0 with
    | 1 => 39 < i || remapBad p
    | 2 => 23 < i || 7 < p
    | 3 => 23 < i || 7 < p % 256 || 31 < p / 256
    | 4 => 31 < i || 3 < p || ((s.eng i).image.isSome && (s.eng i).depth p == 0)
    | 5 => p != 0 || (s.desc i).kind != .rxMailbox
    | 6 => p != 0 || 1023 < i || (s.fifo i).depth == 0
    | 7 => p != 0 || 63 < i || (s.hostQ i).depth == 0
    | 8 => 39 < i || 31 < p
    | _ => true

/-- Owner of a route by its source (R336). -/
def routeSource (kind index scope : Nat) : Nat :=
  if kind = srcHost then 4 else if index = 0xFFFF then scopeOwner scope
  else if kind = srcBus then index / 10 else if kind = srcEth then index / 6 else if kind = srcEngine then index / 8
  else index

/-- The destination words of a route entry. -/
def routeWords (e : List Byte) : List (List Byte) := (List.range 4).map fun w => (e.drop (16 + 8 * w)).take 8

/-- A ROUTE entry (Table 9-1, Table 9-4) of a scope; scope 0xFF is for routes sourced at the host (Table 3-3). -/
def State.routeBad (s : State) (scope : Nat) (e : List Byte) : Bool :=
  let kind := byteAt e 2
  let i := leAt e 4 2
  let n := byteAt e 7
  let used := (routeWords e).take n
  let has (k : Nat) : Bool := used.any fun w => byteAt w 0 == k
  32767 < leAt e 0 2 || kindUnits kind == 0 || byteAt e 3 != 0 || (i != 0xFFFF && kindUnits kind ≤ i)
    || 15 < byteAt e 6 || leAt e 10 6 != 0 || (scope == 0xFF && kind != srcHost)
    || routeSource kind i scope != scopeOwner scope || n == 0 || 4 < n
    || used.any s.destBad || ((routeWords e).drop n).any (fun w => leAt w 0 8 != 0)
    || (!has 3 && !has 8 && leAt e 48 16 != 0) || (!nbit (byteAt e 6) 3 && leAt e 62 2 != 0)
    || (nbit (byteAt e 6) 2 && !has 8)

/-- A STREAM_CTX entry (Table 13-2, R486) of cluster `c`. -/
def State.ctxBad (s : State) (c : Nat) (e : List Byte) : Bool :=
  let x := Ctx.fresh c e
  let w := widthBits (s.rf (chkBase x.unit) 0 2) / 8
  let chk := x.chkOff
  let ctr := x.ctrOff
  let bits := if x.ctrWidth = 0 then 4 else if x.ctrWidth = 1 then 8 else 16
  32767 < leAt e 0 2 || byteAt e 2 == 0 || 2 < byteAt e 2 || 3 < byteAt e 3 || !s.laneUsed (64 + x.unit)
    || x.flag 7 || x.idLen == 3 || (x.isTx && nfld (byteAt e 4) 1 3 != 0) || 2 < byteAt e 5
    || 2048 < leAt e 10 2 || leAt e 18 6 != 0
    || (if x.ctrEn then x.countMax == 0 || 2 ^ bits ≤ x.countMax || (chk < ctr + x.ctrBytes && ctr < chk + w)
        else x.flag 1 || byteAt e 5 != 0 || x.countMax != 0 || ctr != 0)

/-- An image in an IMAGE record (Table 14-2, R506): its form, its length and the padding. -/
def MRec.imageBad (r : MRec) : Bool :=
  !jadesumForm r.body || r.body.length < jadesumLen r.body + 192 || jadesumLen r.body + 200 ≤ r.body.length
    || leAt r.body (jadesumLen r.body + 192) 8 != 0

/-- A tile image (R524); the cells its configuration uses are the tile's own. -/
def MRec.tileBad (r : MRec) : Bool :=
  !tileForm r.body || r.body.length < tileLen r.body + 192 || tileLen r.body + 200 ≤ r.body.length
    || leAt r.body (tileLen r.body + 192) 8 != 0
    || !Config.tileFits ((r.body.drop 32).take (leAt r.body 24 4))

/-- A PERSONALITY body (Table 3-6): its fields, the form of the image it names, its parameter block (R506), and the
request of the engine's partners that no QUOTA entry of the stream sets (R280). -/
def State.personalityBad (s : State) (rs : List MRec) (r : MRec) : Bool :=
  let b := r.body
  let n := leAt b 62 2
  8 ≤ byteAt b 0 || leAt b 1 3 != 0 || 1 < byteAt b 60 || byteAt b 61 != 0 || 4096 < n || n % 8 != 0
    || (match namedObject s.keeper rs b with
      | some o =>
        !jadesumForm o
          || (n != 0 && !(0x10000000 ≤ leAt o 32 4 && leAt o 32 4 + n ≤ 0x10010000))
      | none => false)
    || (((64 + r.engine) :: s.partners.keys).any fun p =>
      s.engineCharges r.engine p && s.belowRequest p
        && !((recsOf tQuota rs).any fun q => q.items.any fun e => leAt e 0 2 == p))

/-- The scope-0xFF CYCLE body (Table 12-1). -/
def periodBad (b : List Byte) : Bool :=
  let p := leAt b 0 4
  p < 10000 || 10 ^ 9 < p || p ≤ leAt b 4 4 || (25 < byteAt b 8 && byteAt b 8 != 0xFF) || 6 < byteAt b 9
    || 1000 < leAt b 10 2 || leAt b 12 4 != 0

/-- A CHANNEL entry (Table 12-3) of cluster `c`. -/
def channelBad (rs : List MRec) (c : Nat) (e : List Byte) : Bool :=
  let delay := leAt e 8 4
  9 < byteAt e 1 || 3 < byteAt e 2 || byteAt e 3 == 0 || 2 < byteAt e 3 || 0x7FF < leAt e 4 2 || leAt e 6 2 == 0
    || leAt e 12 4 != 0
    || (if byteAt e 2 = 3 then
          delay == 0 || (match (windowsOf rs c 0 (byteAt e 1)).find? fun w => w.type == .reference with
            | some w => w.length ≤ delay
            | none => false)
        else delay != 0)

/-- A WINDOW entry (Table 12-4) under a period, if there is one. -/
def windowBad (per : Option CycleCfg) (e : List Byte) : Bool :=
  let ty := byteAt e 3
  let ref := leAt e 12 2
  1 < byteAt e 1 || (if byteAt e 1 = 0 then 9 else 7) < byteAt e 2 || ty == 0 || 5 < ty
    || (if ty = 5 then 15 < ref else ty != 2 && ref != 0xFFFF)
    || 2 ^ byteAt e 14 ≤ byteAt e 15
    || leAt e 8 4 == 0
    || (match per with
      | some p => p.period ≤ leAt e 4 4 || p.period < leAt e 8 4 || p.matrixLog2 < byteAt e 14
      | none => false)

/-- An entry of a cluster's CYCLE record. -/
def cycleBad (per : Option CycleCfg) (rs : List MRec) (c : Nat) (e : List Byte) : Bool :=
  match byteAt e 0 with
  | 1 => channelBad rs c e
  | 2 => windowBad per e
  | _ => true

/-- A POWER_PLAN entry (Table 20-4, R698). -/
def planBad (e : List Byte) : Bool :=
  let f := byteAt e 1
  let mask := byteAt e 7
  15 < byteAt e 0 || 15 < f || leAt e 2 2 < 10 || 200 < leAt e 2 2 || (15 < byteAt e 4 && byteAt e 4 != 0xFF)
    || 15 < byteAt e 5 || mask % 16 != 0 || 63 < mask || 100 < byteAt e 8 || leAt e 9 7 != 0
    || (byteAt e 0 < 10 && (nbit f 3 || mask != 0)) || (nbit f 3 && mask == 0)

/-- The first entry of a record with a bad value; `s` is the structure after apply. -/
def State.badEntry (s : State) (rs : List MRec) (r : MRec) : Option Nat :=
  let one (b : Bool) : Option Nat := if b then some 0 else none
  let ty := r.type
  let c := r.scope
  if ty = tModule then one (moduleBad r.body)
  else if isLaneType ty then one r.laneBad
  else if ty = tQuota then r.firstEntry (s.quotaBad c)
  else if ty = tBuffers then
    r.items.findIdx? fun e => s.bufferBad e || (byteAt e 0 == 5 && s.belowRequest 100
      && !((recsOf tQuota rs).any fun q => q.items.any fun e => leAt e 0 2 == 100))
  else if ty = tExact then r.firstEntry (s.exactBad c)
  else if ty = tMasked then r.firstEntry (s.maskedBad c)
  else if ty = tRoute then r.firstEntry (s.routeBad c)
  else if ty = tCtx then r.firstEntry (s.ctxBad c)
  else if ty = tImage then one r.imageBad
  else if ty = tPersonality then one (s.personalityBad rs r)
  else if ty = tTile then one r.tileBad
  else if ty = tCycle then (if c = 0xFF then one (periodBad r.body) else r.firstEntry (cycleBad s.cycle rs c))
  else if ty = tPlan then r.firstEntry planBad
  else none

/-- A host queue that sends names a user partner without an entry (Table 7-6). -/
def State.hostPartnerLost (s : State) : Bool :=
  (List.range 64).any fun q => (s.hostQ q).depth != 0 && !s.hostQRx q && 100 < s.hostQPartner q
    && !(s.partner (s.hostQPartner q)).allocated

/-- A filter entry in force names a user partner without an entry (Table 7-6). -/
def State.filterPartnerLost (s : State) : Bool :=
  let lost (a : ActBlock) : Bool := a.partner.any fun p => 100 < p && !(s.partner p).allocated
  (List.range 4).any fun c =>
    ((s.slice c).exact.any fun e => e.2.any fun (x : ExactEnt) => lost x.act)
      || (((s.slice c).bank (s.slice c).activeBank).any fun e => e.2.any fun (x : MaskedEnt) => lost x.act)

/-- Check 4: BAD_VALUE. DESIGN CHOICE (log 94): a partner lost to a host queue or to a filter entry in force that the
stream does not carry is reported after the records, at the first QUOTA record, or 0xFFFF without one. -/
def State.valueFail (s : State) (rs : List MRec) : Option LoadFail :=
  (firstRecord 0x604 (s.badEntry rs) rs).orElse fun _ =>
    if s.hostPartnerLost || s.filterPartnerLost then some (0x604, ((recsOf tQuota rs).head?.map (·.index)).getD 0xFFFF, 0) else none

/-! ### Checks 5 to 7: images -/

/-- The record names an image. -/
def MRec.namesImage (r : MRec) : Bool := r.type == tPersonality || r.type == tTile

/-- The image a record names, if it is present and verifies. -/
def MRec.image (k : Keeper) (rs : List MRec) (r : MRec) : Option (List Byte) :=
  if r.type = tTile then (if k.accepts 3 r.object then some r.object else none) else imageOf k rs r.body

/-- Check 5: IMAGE_MISSING (R630). -/
def imageMissing (k : Keeper) (rs : List MRec) : Option LoadFail :=
  firstRecord 0x605 (fun r => if r.namesImage && (r.image k rs).isNone then some 0 else none) rs

/-- Units an image requires are in use in cluster `c` (R506). -/
def State.unitsMet (s : State) (c units : Nat) : Bool :=
  ((List.range 4).all fun j => !nbit units (2 + j) || s.laneUsed (64 + 4 * c + j))
    && (!nbit units 6 || (s.tile c).image.isSome)

/-- Check 6: IMAGE_INCOMPATIBLE. -/
def State.incompatible (s : State) (rs : List MRec) : Option LoadFail :=
  firstRecord 0x606 (fun r =>
    let o := ((if r.namesImage then r.image s.keeper rs else none)).getD []
    let bad := if r.type = tTile then !ifMet s.keeper.fw.tileIf (leAt o 6 2)
      else r.type == tPersonality
        && (!ifMet s.keeper.fw.personalityIf (leAt o 6 2) || !s.unitsMet r.scope (byteAt o 42))
    if bad then some 0 else none) rs

/-- Check 7: IMAGE_UNTESTED, at the first record whose image leaves the set untested (R645, R646). `before` is the
state before the load. -/
def State.imageUntested (before : State) (t : Nat) (bs : List Byte) (rs : List MRec) : Option LoadFail :=
  let named := rs.filter MRec.namesImage
  (List.range named.length).findSome? fun i =>
    match before.untestedJudge (before.setAfter t bs (imageIds before.keeper (named.take (i + 1) ++ recsOf tImage rs))) with
    | .accept _ => none
    | _ => (named[i]?).map fun r => (0x607, r.index, 0)

/-! ### Checks 8 to 10 -/

/-- The entry of a cluster's CYCLE records that is its 513th WINDOW (R460). -/
def windowsOver : List MRec → Tbl Nat → Option LoadFail
  | [], _ => none
  | r :: rs, n =>
    let ws := (List.range r.entries).filter fun i => byteAt (r.body.drop (16 * i)) 0 == 2
    let k := n.get (fun _ => 0) r.scope
    match ws[512 - k]? with
    | some i => some (0x608, r.index, i)
    | none => windowsOver rs (n.set (fun _ => 0) r.scope (k + ws.length))

/-- Check 8: CAPACITY. The other counts of Table 3-8 are bounded by the ranges of check 4 and by check 2. -/
def overCapacity (rs : List MRec) : Option LoadFail :=
  match firstRecord 0x608 (fun r =>
      if r.type = tBuffers then r.firstEntry fun e => byteAt e 0 != 5 && 65536 < leAt e 4 4 + leAt e 2 2 else none) rs with
  | some f => some f
  | none => windowsOver ((recsOf tCycle rs).filter fun r => r.scope != 0xFF) []

/-- Check 9: QUOTA_SUM (R91, R252, R295). -/
def State.quotaSum (s : State) (rs : List MRec) : Option LoadFail :=
  let total := s.sumPart (·.g) + s.books.eSet + 12288
  let static := staticCells rs
  if 262144 < total then some (0x609, 0xFFFF, total - 262144)
  else if (s.partner 100).g < static then some (0x609, 0xFFFF, static - (s.partner 100).g)
  else none

/-- Check 10: BUDGET_SUM, with the outputs of other clusters that are on without a plan entry (R292). -/
def State.budgetSum (s : State) (t : Nat) (rs : List MRec) : Option LoadFail :=
  let own := ((planOf rs).map fun e => e.2.limit * 10).sum
  let other := if t = 4 then 0
    else (((List.range 64).filter fun q => sparCluster q != t).map s.sparHeld).sum
  if s.budgetMa < own + other then some (0x60A, 0xFFFF, own + other - s.budgetMa) else none

/-! ### Check 11: SCHEDULE_INVALID (R462, R95) -/

/-- Two windows of one timeline occur in a common basic cycle and overlap. -/
def Window.clashes (v w : Window) : Bool :=
  let m := min v.repLog2 w.repLog2
  v.baseCycle % 2 ^ m == w.baseCycle % 2 ^ m && v.offset < w.offset + w.length && w.offset < v.offset + v.length

/-- A CHANNEL entry breaks a condition of Table 12-5. -/
def channelInvalid (per : CycleCfg) (rs : List MRec) (c : Nat) (before : List (List Byte)) (e : List Byte) : Bool :=
  before.any (fun a => byteAt a 0 == 1 && byteAt a 1 == byteAt e 1)
    || (byteAt e 2 != 0 && !((windowsOf rs c 0 (byteAt e 1)).any fun w =>
      w.type == .reference && w.offset == 0 && w.repLog2 == 0))
    || (byteAt e 3 == 2 && per.ntu == 0)

/-- A WINDOW entry breaks a condition of Table 12-5; `s` is the structure after apply. -/
def State.windowInvalid (s : State) (per : CycleCfg) (c : Nat) (before : List (List Byte)) (e : List Byte) : Bool :=
  let w := Window.ofBytes e
  let i := byteAt e 2
  let mine := (before.filter fun a => byteAt a 0 == 2 && byteAt a 1 == byteAt e 1 && byteAt a 2 == i).map Window.ofBytes
  let bus := byteAt e 1 == 0
  let n := 10 * c + i
  per.period < w.offset + w.length || mine.any w.clashes
    || ((List.range (2 ^ per.matrixLog2)).any fun cc => w.occurs cc && 64 ≤ (mine.filter fun v => v.occurs cc).length)
    || (if bus then
          w.type == .task || !s.laneUsed n || (s.sched n).isNone
            || (w.type == .exclusive && w.ref != 0xFFFF
              && !((s.desc w.ref).kind == .txStatic && (s.desc w.ref).bindKind == srcBus && (s.desc w.ref).bindIndex == n))
        else (w.type != .task && w.type != .gap) || (s.eng (8 * c + i)).image.isNone)

/-- The first entry of a cluster's CYCLE record that breaks a condition, the entries before it in `seen`. -/
def State.entryInvalid (s : State) (per : CycleCfg) (rs : List MRec) (c : Nat) :
    Nat → List (List Byte) → List (List Byte) → Option Nat
  | _, _, [] => none
  | i, seen, e :: es =>
    if (if byteAt e 0 = 1 then channelInvalid per rs c seen e else s.windowInvalid per c seen e) then some i
    else s.entryInvalid per rs c (i + 1) (seen ++ [e]) es

/-- The CYCLE records in index order; `seen` gives a cluster's entries in the records before. -/
def State.recordsInvalid (s : State) (per : CycleCfg) (rs : List MRec) : List MRec → Option LoadFail
  | [] => none
  | r :: l =>
    let seen := ((recsOf tCycle rs).filter fun x => x.index < r.index && x.scope == r.scope).flatMap MRec.items
    match if r.scope = 0xFF then (if 10 ^ 9 % per.period = 0 then none else some 0)
      else s.entryInvalid per rs r.scope 0 seen r.items with
    | some i => some (0x60B, r.index, i)
    | none => s.recordsInvalid per rs l

/-- Check 11. -/
def State.scheduleFail (s : State) (rs : List MRec) : Option LoadFail :=
  let cyc := recsOf tCycle rs
  match s.cycle with
  | some per => s.recordsInvalid per rs cyc
  | none => cyc.head?.map fun r => (0x60B, r.index, 0xFFFFFFFF)

/-! ### Checks 12 and 13: routes (R92, R93, R95) -/

/-- The record of the stream that carries route `r`, or 0xFFFF. -/
def routeRecord (rs : List MRec) (r : Nat) : Nat :=
  (((recsOf tRoute rs).find? fun x => x.items.any fun e => leAt e 0 2 == r).map (·.index)).getD 0xFFFF

/-- The destination words in use of route `r`: kind and index. -/
def State.routeDests (s : State) (r : Nat) : List (Nat × Nat) :=
  ((routeWords (s.route r)).take (byteAt (s.route r) 7)).map fun w => (byteAt w 0, leAt w 2 2)

/-- A destination is not in use (R92). -/
def State.destUnused (s : State) (d : Nat × Nat) : Bool :=
  if d.1 = dBus ∨ d.1 = dUnpack then !s.laneUsed d.2
  else if d.1 = dEthNative ∨ d.1 = dEthAcf then !s.laneUsed (40 + d.2)
  else d.1 == dEngine && (s.eng d.2).image.isNone

/-- Check 12: ROUTE_DANGLING. -/
def State.dangling (s : State) (rs : List MRec) : Option LoadFail :=
  (s.routes.keys.find? fun r => (s.routeDests r).any s.destUnused).map fun r => (0x60C, routeRecord rs r, r)

/-- The engines that route `r` covers as sources. -/
def State.routeEngines (s : State) (r : Nat) : List Nat :=
  let e := s.route r
  if byteAt e 2 != srcEngine then []
  else if leAt e 4 2 = 0xFFFF then (List.range 8).map (8 * (s.routeOwner r).getD 0 + ·)
  else [leAt e 4 2]

/-- The engines that routes of engine `g` name. -/
def State.engineEdges (s : State) (g : Nat) : List Nat :=
  (s.routes.keys.filter fun r => (s.routeEngines r).contains g).flatMap fun r =>
    ((s.routeDests r).filter fun d => d.1 == dEngine).map (·.2)

/-- The engines reached from `from_` in at most `n` edges, those included. -/
def reachFrom (edges : Nat → List Nat) : Nat → List Nat → List Nat
  | 0, l => l
  | n + 1, l => reachFrom edges n (l ++ l.flatMap edges).dedup

/-- Check 13: ROUTE_CYCLE, at the lowest route that contributes an edge to a cycle. -/
def State.routeCycle (s : State) (rs : List MRec) : Option LoadFail :=
  (s.routes.keys.find? fun r => (s.routeEngines r).any fun g =>
      (s.routeDests r).any fun d => d.1 == dEngine && (reachFrom s.engineEdges 32 [d.2]).contains g).map
    fun r => (0x60D, routeRecord rs r, r)

/-! ### Stage 6 -/

/-- The first check of Table 3-8 that fails. -/
def State.stage6 (s : State) (t : Nat) (bs : List Byte) : Option LoadFail :=
  let rs := streamRecs bs
  let u := s.applyTables t bs rs
  [spareNamed rs, s.duplicate t rs, s.laneFail t rs, u.valueFail rs, imageMissing s.keeper rs, u.incompatible rs,
   s.imageUntested t bs rs, overCapacity rs, u.quotaSum rs, u.budgetSum t rs, u.scheduleFail rs, u.dangling rs,
   u.routeCycle rs].findSome? id

end Sys2Proof.Machine
end

