-- ==== Sys2Proof/Machine/Loader.lean ====
section
/-! DEFINITION. How a load runs (R96 to R117): its start, the report of its failure, apply, the autoload copy, step 8,
and a cluster's reconfiguration. -/
namespace Sys2Proof.Machine

/-! ### Failure (R95, R97, R103, R109) -/

/-- MICA_ERROR, MICA_ERROR_AUX and the stage of the last failure are cleared as a load starts (Table 3-11 to
Table 3-13). -/
def State.clearMica (s : State) : State := ((s.setf 0x2000 24 4 0).wr 0x2004 0).wr 0x2008 0

/-- The detail of a failure (R95). -/
def LoadFail.detail (f : LoadFail) : Nat := f.2.1 * 2 ^ 16 + f.1

/-- A failure stands in the loader's registers. -/
def State.noteMica (f : LoadFail) (s : State) : State :=
  ((s.setf 0x2000 24 4 (f.1 / 256)).wr 0x2004 (wd (LoadFail.detail f))).wr 0x2008 (wd f.2.2)

/-- A FULL load fails: the hold is released, and the module enters UNCONFIGURED. -/
def State.failFull (auto : Bool) (f : LoadFail) (s : State) : State :=
  let s := (s.noteMica f).setLoad 4 none
  let s := { s with books := { s.books with loaderHold := 0 } }
  if auto then (s.wr 0x2010 (wd (2 ^ 30 + f.1))).enterMode .unconfigured
  else (s.enterMode .unconfigured).finish cStreamInvalid (LoadFail.detail f)

/-- Cluster `c` leaves reconfiguration (R113, R116); with the last one the mode becomes OPERATIONAL or DEGRADED. -/
def State.leaveReconf (c : Nat) (s : State) : State :=
  let s := { s with ctl := { s.ctl with reconfig := setBit s.ctl.reconfig c false,
                                        holdEnded := setBit s.ctl.holdEnded c false } }
  let s := (s.readyHeld c).formWaits
  if s.ctl.reconfig = 0 ∧ s.mode = .reconfiguring then s.enterMode s.runMode else s.lanesFollow

/-- The engines of cluster `c`. -/
def clusterEngines (c : Nat) : List Nat := (List.range 8).map fun k => 8 * c + k

/-- A cluster's tile runs if it is configured. -/
def State.tileRuns (c : Nat) (s : State) : State :=
  let x := s.tile c
  s.setTile c { x with running := x.image.isSome }

/-- A CLUSTER load fails: the cluster returns to service under its previous structure (R109). -/
def State.failCluster (c : Nat) (f : LoadFail) (s : State) : State :=
  let s := ((s.noteMica f).setLoad c none).leaveReconf c
  let s := s.each (clusterEngines c) fun g s => s.restartEngine g .reloadFail
  (s.tileRuns c).finish cStreamInvalid (LoadFail.detail f)

def State.failLoad (t : Nat) (auto : Bool) (f : LoadFail) (s : State) : State :=
  if t = 4 then s.failFull auto f else s.failCluster t f

/-! ### The start of a load (R96, R97, R103, R106) -/

/-- A FULL stream is held in cell memory and waits for validation. -/
def State.holdStream (picks : List Nat) (auto : Bool) (bs : List Byte) (s : State) : State :=
  let n := ceilDiv bs.length 64
  let s := (s.putCells (s.chooseCells picks n) bs).draw
  { s with books := { s.books with loaderHold := n } }.setLoad 4 (some ⟨4, auto, .validate, bs, .none⟩)

/-- The two fetches of R96, and the stage 1 checks between them: the stream, or the failure. A fetch that fails, or
that the link does not carry, is `none`. -/
def fetchStream (open_ full : Bool) (len : Nat) (header body : Option (List Byte)) : Sum LoadFail (List Byte) :=
  match (if open_ then header else none) with
  | none => .inl (headFail 0x101)
  | some h =>
    let h := fitBytes 64 h
    match headerCode full len h, body with
    | some k, _ => .inl (headFail k)
    | none, none => .inl (headFail 0x101)
    | none, some b => .inr (h ++ fitBytes (len - 64) b)

/-- The length a load command gives (Table 2-7). -/
def Cmd.loadLen (c : Cmd) : Nat := leAt c.args 8 4

/-- LOAD_STREAM executes (R96, R638). -/
def State.loadStream (picks : List Nat) (header body : Option (List Byte)) (s : State) : State :=
  match s.executing 1 with
  | none => s
  | some c =>
    if (s.load 4).isSome then s
    else if s.keeper.lifecycle == .decommissioned then s.finish cDenied 0
    else
      let s := (s.enterMode .configuring).clearMica
      match fetchStream s.hostOpen true c.loadLen header body with
      | .inl f => s.failFull false f
      | .inr bs => s.holdStream picks false bs

/-- The stored stream is loaded at the end of BRING-UP (R103). -/
def State.autoloadStart (picks : List Nat) (bs : List Byte) (s : State) : State :=
  let s := (s.enterMode .configuring).clearMica
  match headerCode true bs.length (bs.take 64) with
  | some k => s.failFull true (headFail k)
  | none => s.holdStream picks true bs

/-- Bytes are written to cluster `c`'s shared memory from offset 0, where a CLUSTER stream is staged. DESIGN CHOICE
(log 41). -/
def State.putShared (c : Nat) (bs : List Byte) (s : State) : State :=
  { s with shared := (bs.foldl (fun (x : Tbl Byte × Nat) b => (x.1.set (fun _ => 0) x.2 b, x.2 + 1))
      (s.shared, c * 2 ^ 21)).1 }

/-- The frames waiting in engine `g`'s inboxes are discarded and counted (R107), entries the engine has taken and not
released with them. DEDUCED (log 86). -/
def State.emptyInboxes (g : Nat) (s : State) : State :=
  let l := (s.eng g).inboxes.flatMap fun e => e.2
  (s.dropRefs (l.map (·.record))).upEng g fun e =>
    { e with inboxes := [], discarded := satAdd 0xFFFFFFFF e.discarded l.length }

/-- Cluster `c` enters reconfiguration (R106, R107, R327). -/
def State.quiesce (c : Nat) (s : State) : State :=
  let s := { s with ctl := { s.ctl with reconfig := setBit s.ctl.reconfig c true } }
  let ports := (List.range 6).map fun k => 6 * c + k
  let s := s.each ports fun p s => s.countMac p 12 (s.port p).timed.length
  let s := (s.enterMode .reconfiguring).lanesFollow
  let s := s.each ((List.range 10).map fun k => 10 * c + k) State.laneDiscardCounted
  let s := s.each ports State.portDiscard
  let s := s.each (clusterEngines c) fun g s => (s.stopEngine g).emptyInboxes g
  let s := s.setTile c { s.tile c with running := false }
  let s := s.setSlice c { s.slice c with batch := [] }
  s.stopTimelines fun t => tlCluster t == c

/-- RELOAD_CLUSTER executes (R73, R96, R106, R638). -/
def State.reloadCluster (header body : Option (List Byte)) (s : State) : State :=
  match s.executing 2 with
  | none => s
  | some cmd =>
    let c := cmd.target
    if (s.load c).any fun j => j.phase != .apply then s
    else if s.keeper.lifecycle == .decommissioned then s.finish cDenied 0
    else if !s.hasCluster c then s.finish cNoUnit 0
    else if s.reconf c then s.finish cBusy 0
    else
      let s := (s.quiesce c).clearMica
      match fetchStream s.hostOpen false cmd.loadLen header body with
      | .inl f => s.failCluster c f
      | .inr bs => (s.putShared c bs).setLoad c (some ⟨c, false, .validate, bs, .none⟩)

/-! ### Apply (R99 to R102, R112) -/

/-- SPAR_CFG and SPAR_CLASS of output `q` as its plan entry sets them (Table 20-5, Table 20-6). -/
def State.setPlan (q : Nat) (e : PlanEntry) (s : State) : State :=
  let b := sparBase q
  let w := f2 (b2n e.classify) 28 + f2 e.shedRank 24 + f2 e.retryMax 20 + f2 e.tInrush 8 + e.limit
  (s.wr b (wd w)).wr (b + 4) (wd e.classMask)

/-- The output is on under a plan entry it had before (R112). -/
def State.onBefore (old : Option Structure) (s : State) (q : Nat) : Bool :=
  ((old.bind fun x => x.plan.get (fun _ => none) q).isSome) && (s.spar q).commanded

/-- Step 7: outputs follow the new plan (R99, R112, R682). -/
def State.applyPlan (t : Nat) (old : Option Structure) (s : State) : State :=
  let mine := (List.range 64).filter fun q => covers t (sparCluster q)
  let s := s.each mine fun q s =>
    let before := s.onBefore old q
    match s.plan q with
    | some e => (s.setPlan q e).upSpar q fun x => { x with commanded := e.onRun || (x.commanded && !before) }
    | none => if before then s.upSpar q fun x => { x with commanded := false } else s
  s.sparRefresh

/-- Owners whose charge stands beyond their new limits are reported (R296). -/
def State.overQuota (t : Nat) (s : State) : State :=
  let all := s.partners.keys.filter fun p => covers t (s.partner p).owner && (s.partner p).beyond
  s.each all fun p s => s.raise .pool 4 p 0

/-- Versions in MICA_VER of the clusters a stream configures. -/
def State.noteVersions (bs : List Byte) (s : State) : State :=
  s.each ((List.range 4).filter fun c => nbit (byteAt bs 28) c) fun c s =>
    s.wr (0x2020 + 4 * c) (wd (streamId bs).version)

/-- untested_set as the accepted set leaves it. -/
def State.settleSet (t : Nat) (bs : List Byte) (s : State) : State :=
  match s.untestedJudge (s.setAfter t bs (imageIds s.keeper (streamRecs bs))) with
  | .accept b => s.setUntested b
  | _ => s

/-- The stream joins Keeper's storage queue, unless the lifecycle refuses it (R102, R637). -/
def State.storeStream (j : LoadJob) (s : State) : CopyState × State :=
  if !nbit (byteAt j.stream 31) 0 || j.target != 4 then (.none, s)
  else match s.keeper.lifecycle with
    | .blank | .decommissioned => (.none, s.kprEvent 0 kWrongState)
    | _ => (.waiting, s.queueOp (.autoload j.stream))

/-- Validation has passed: the command completes, and apply runs up to step 7. -/
def State.applyLoad (j : LoadJob) (s : State) : State :=
  let t := j.target
  let old := s.struct
  let s := s.settleSet t j.stream
  let s := if j.auto then s else s.finish cOk 0
  let s := s.applyTables t j.stream (streamRecs j.stream)
  let s := ((s.noteVersions j.stream).overQuota t).applyPlan t old
  let (copy, s) := s.storeStream j
  s.setLoad t (some { j with phase := .apply, copy := copy })

/-! ### Validation (R90, R110) -/

/-- STREAM_VALIDATION of the load of target `t`: stages 2 to 6 of a FULL stream, 2 to 5 of a CLUSTER stream. -/
def State.validate (t : Nat) (s : State) : State :=
  match s.load t with
  | none => s
  | some j =>
    if j.phase != .validate then s
    else match s.stages2to5 t j.stream with
      | some f => s.failLoad t j.auto f
      | none =>
        if t != 4 then s.setLoad t (some { j with phase := .stage6 })
        else match s.stage6 t j.stream with
          | some f => s.failLoad t j.auto f
          | none => s.applyLoad j

/-- CLUSTER_STAGE6 of cluster `c`. -/
def State.clusterStage6 (c : Nat) (s : State) : State :=
  match s.load c with
  | none => s
  | some j =>
    if c = 4 || j.phase != .stage6 || s.loads.any (fun e => e.2.any fun k => k.phase == .apply) then s
    else match s.stage6 c j.stream with
      | some f => s.failCluster c f
      | none => s.applyLoad j

/-! ### The autoload copy and step 8 (R97, R102, R113) -/

/-- AUTOLOAD_COPY: the copy at the head of Keeper's queue starts. -/
def State.autoloadCopy (s : State) : State :=
  match s.load 4, s.keeper.ops with
  | some j, .autoload _ :: _ =>
    let s := s.keeperStart
    if s.keeper.running && j.copy == .waiting then s.setLoad 4 (some { j with copy := .running }) else s
  | _, _ => s

/-- Two records of the most cells of a TX_STATIC descriptor are taken, charged to the host partner (R97, R248). -/
def State.takeStatic (i : Nat) (s : State) : State :=
  let d := s.desc i
  let (a, s) := s.allocate [] d.maxCells 100 1 true false none
  let (b, s) := s.allocate [] d.maxCells 100 1 true true none
  let p := s.partner 100
  (s.setDesc i { d with current := some a, shadow := some b }).setPartner 100 { p with guar := p.guar + 2 * d.maxCells }

/-- The engines of a cluster are released, and its tile runs. -/
def State.releaseCluster (c : Nat) (s : State) : State :=
  let s := s.each (clusterEngines c) fun g s => if (s.eng g).state == .reset then s.coldStart g else s
  s.tileRuns c

/-- Step 8 of a FULL load. -/
def State.endFull (s : State) : State :=
  let s := s.upKeeper fun k => { k with autoload := if k.copied.isSome then k.copied else k.autoload, copied := none }
  let s := { s with books := { s.books with loaderHold := 0 } }.setLoad 4 none
  let s := s.each (s.descs.keys.filter fun i => (s.desc i).kind == .txStatic) State.takeStatic
  let s := s.enterMode s.runMode
  (s.each (List.range 4) State.releaseCluster).modRecord 4 0xFF 0

/-- Step 8 of a CLUSTER load. -/
def State.endCluster (c : Nat) (s : State) : State :=
  (((s.setLoad c none).leaveReconf c).releaseCluster c).modRecord 4 c 0

/-- LOADER_HOLD_RELEASE of target `t`: once step 7 has started its last output and any copy has ended (R99, R102). -/
def State.step8 (t : Nat) (s : State) : State :=
  match s.load t with
  | none => s
  | some j =>
    let starting := (List.range 64).any fun q => covers t (sparCluster q) && (s.plan q).isSome && (s.spar q).queued
    if j.phase != .apply || starting || j.copy == .waiting || j.copy == .running then s
    else if t = 4 then s.endFull
    else s.endCluster t

/-- HOLD_MAX_EXPIRY (R117). -/
def State.holdMax (c : Nat) (s : State) : State :=
  if !s.reconf c then s
  else { s with ctl := { s.ctl with holdEnded := setBit s.ctl.holdEnded c true } }.discardHeld c

/-- The node table is cleared (R157), and each channel may report it full again (R146). -/
def State.dropNodes (s : State) : State :=
  { s with nodes := [] }.each (List.range 40) fun n s => s.upLane n fun l => { l with nodeFull := false }

/-- UNLOAD executes (Table 2-7, R255): in SERVICE the mode stays. -/
def State.unload (s : State) : State :=
  match s.executing 3 with
  | none => s
  | some _ =>
    let s := (s.dropStructure true).dropStamps.dropNodes.lanesFollow
    let s := if s.mode == .service then s else s.enterMode .unconfigured
    s.finish cOk 0

end Sys2Proof.Machine
end

