-- ==== Sys2Proof/Machine/BringUp.lean ====
section
/-! DEFINITION. The end of BRING-UP (R52, R61, R633, R676), the temperature and rate monitors (R39, R744, R759),
failing rows of cell memory (R232, R253), wake sources of the bus channels (R159 to R164) and BAR2 (R227 to R236). -/
namespace Sys2Proof.Machine

/-! ### The end of BRING-UP -/

/-- Low byte of the code that keeps a firmware slot from booting (Table 22-14). -/
def State.bootCode (s : State) (f : Option Firmware) (sound : Bool) : Nat :=
  match f with
  | none => kBadFormat
  | some f =>
    if !s.keeper.signs f.slot 0 then kKeySlot
    else if !sound || (s.keeper.slot f.slot).key != f.key then kBadSignature
    else if f.epoch < s.keeper.epoch then kRollback
    else kMismatch

/-- Row `row` of bank `b` fails (R232, R253): a spare row takes it, or it retires. -/
def State.rowFail (b row : Nat) (s : State) : State :=
  let used := s.spareRows.get (fun _ => 0) b
  if s.mode.unpowered || 32 ≤ b || 512 ≤ row || s.retiredRows.contains (b * 512 + row) then s
  else if used < 32 then
    let s := { s with spareRows := s.spareRows.set (fun _ => 0) b (used + 1) }
    ((s.countHlt 2).raise .hlt 5 b row).queueHealth
  else
    ({ s with retiredRows := s.retiredRows ++ [b * 512 + row] }.modRecord 8 b row).absorb.queueHealth

/-- Hold-up at a load of `mw` mW from a store of `uf` µF, in µs (R676). -/
def holdUp (uf mw : Nat) : Nat := min 65535 (655200 * uf / max 1 mw)

/-- The store's capacitance is measured (R676, R721, Table 21-1). -/
def State.noteHoldup (uf mw : Nat) (s : State) : State :=
  let uf := min uf 65535
  let s := s.upPower fun p => { p with capUf := uf, holdUs := holdUp uf mw }
  let s := { s with health := { s.health with lastUf := uf, firstUf := if s.health.firstUf = 0 then uf else s.health.firstUf } }
  let s := s.queueHealth
  if uf < 160 then s.raise .hlt 6 0 1 else s

/-- Units and rows found faulty are reported, and cell memory reads zero (R762). -/
def State.moduleChecks (units : List Nat) (rows : List (Nat × Nat)) (s : State) : State :=
  let s := (s.reports (units.map fun u => ⟨u, 2⟩)).each rows fun r s => s.rowFail r.1 r.2
  { s with mem := [] }

/-- The stages after Keeper's: self-test, units and rows found faulty, hold-up and autoload. -/
def State.bringUpRest (selfTest : Nat) (units : List Nat) (rows : List (Nat × Nat)) (uf mw : Nat) (picks : List Nat)
    (s : State) : State :=
  if selfTest ≠ 0 then s.faultHold .selftestFail selfTest
  else
    let s := (s.moduleChecks units rows).noteHoldup uf mw
    if s.power.capUf < 140 then s.faultHold .holdupFail s.power.capUf
    else match s.keeper.autoload with
      | none => (s.enterMode .unconfigured).settle
      | some bs => (s.autoloadStart picks bs).settle

/-- BRINGUP_COMPLETE. The environment tells what BRING-UP found: whether the stored bytes of the firmware slots are
sound, a module unit of Table 22-15 that failed its self-test (0: none), units of Table 21-9 that failed theirs, rows
that failed, the store's capacitance and the internal load, and the cells an autoload stream is held in. -/
def State.bringUpComplete (soundA soundB : Bool) (selfTest : Nat) (units : List Nat) (rows : List (Nat × Nat))
    (uf mw : Nat) (picks : List Nat) (s : State) : State :=
  if s.mode != .bringUp then s
  else match s.keeperBoot soundA soundB with
    | none =>
      s.faultHold .keeperBootFail
        (s.bootCode s.keeper.fwA soundA * 256 + s.bootCode s.keeper.fwB soundB)
    | some s => s.raiseEpoch.bringUpRest selfTest units rows uf mw picks

/-- BRINGUP_TIMEOUT in stage 1 to 5 of Table 22-14. -/
def State.bringUpTimeout (stage : Nat) (s : State) : State :=
  if s.mode == .bringUp then s.faultHold .bringupTimeout stage else s

/-! ### Monitors -/

/-- TEMP_UPDATE with a reading in units of 1/16 °C (R744, R759, R62). -/
def State.tempUpdate (t : Int) (s : State) : State :=
  if s.mode.unpowered then s
  else
    let top := toSigned 16 (s.rf 0x60 16 16)
    let top := if s.health.tempSeen && t ≤ top then top else t
    let s := { s with health := { s.health with tempSeen := true } }.wr 0x60 (wd (f2 (ofSigned 16 top) 16 + ofSigned 16 t))
    if s.mode == .faultHold then
      if s.ctl.hold == .overtemp && t < 2080 then { s with ctl := { s.ctl with causePresent := false } } else s
    else if 2240 ≤ t then s.faultHold .overtemp (ofSigned 16 t)
    else s

/-- RATE_WINDOW of cluster `c` with the rate it counted (R38, R39). -/
def State.rateWindow (c rate : Nat) (s : State) : State :=
  if !s.hasCluster c || s.mode.unpowered || s.mode == .sleep || !s.beacon.running then s
  else
    let off := 0x480 + 4 * c
    let rate := min rate 4095
    let low := s.rf off 16 12
    let before := s.rf off 0 12
    let told := s.health.rateTold.contains c && rate < low + 16
    let raise := rate < low && low ≤ before && !told
    let s := s.wr off (wd (2 ^ 31 + f2 low 16 + rate))
    let rest := s.health.rateTold.filter (· != c)
    let s := { s with health := { s.health with rateTold := if told || raise then c :: rest else rest } }
    if raise then (s.countHlt 3).modRecord 6 c rate else s

/-! ### Wake sources of the channels -/

/-- Wake sources of channels count: in SLEEP, as ENTER_SLEEP executes (R58), and at the moment a wake ended SLEEP
(R163). -/
def State.wakeOpen (s : State) : Bool :=
  s.mode == .sleep || (s.executing 6).isSome
    || (s.mode == .standby && s.ctl.prev == .sleep && s.ctl.wokeAt == some s.beacon.raw)

/-- Channel `n` listens in wake mode `m`. -/
def State.listens (s : State) (m n : Nat) : Bool :=
  s.wakeOpen && n < 40 && s.hasCluster (n / 10) && !(s.lane n).retired && s.wakeMode n == m

/-- Channels fire together: each records its cause (R163), and the module wakes once. While ENTER_SLEEP executes the
causes wait for the entry, which clears wake_cause (R58, R164). -/
def State.fireWake (cause : Nat) (ns : List Nat) (s : State) : State :=
  if ns.isEmpty then s
  else if (s.executing 6).isSome then
    { s with ctl := { s.ctl with wakeFired := s.ctl.wakeFired ++ ns.map fun n => (n, cause) } }.wake
  else (s.each ns fun n s => s.upLane n fun l => { l with wakeCause := cause }).wake

/-- WAKE_UP_PATTERN on channels `ns` together (R159). -/
def State.wakePattern (ns : List Nat) (s : State) : State := s.fireWake 1 (ns.filter (s.listens 1))

/-- The wake conditions of R160 on a data frame with an identifier in the layout of Table 4-17. -/
def State.wakeMatch (s : State) (n ident dlc : Nat) (data : List Byte) : Bool :=
  let b := busBase n
  let w := s.rd (b + 0x120)
  let dmask := leBytes 4 (s.rd (b + 0x12C)).toNat ++ leBytes 4 (s.rd (b + 0x134)).toNat
  (wd ident ^^^ s.rd (b + 0x124)) &&& s.rd (b + 0x128) == 0
    && (!bit w 23 || fld w 24 4 == dlc)
    && (!bit w 22 || (data.zip dmask).any fun x => x.1 &&& x.2 != 0)

/-- WAKE_FRAME: a valid classical data frame on channel `n`; it lowers err_count (R162) and fires if it meets the wake
conditions. -/
def State.wakeFrame (n ident dlc : Nat) (data : List Byte) (s : State) : State :=
  if !s.listens 2 n then s
  else
    let s := s.upLane n fun l => { l with wakeErr := l.wakeErr - 1 }
    if s.wakeMatch n ident dlc data then s.fireWake 2 [n] else s

/-- The wake decoder ends a frame that does not fire: a valid one lowers err_count, an error raises it, and at 32 the
channel fires; a skipped frame does neither (R161, R162). -/
def State.wufFrame (n : Nat) (valid error : Bool) (s : State) : State :=
  if !s.listens 2 n then s
  else if error then
    let s := s.upLane n fun l => { l with wakeErr := min 32 (l.wakeErr + 1) }
    if 32 ≤ (s.lane n).wakeErr then s.fireWake 3 [n] else s
  else if valid then s.upLane n fun l => { l with wakeErr := l.wakeErr - 1 }
  else s

/-- WUF_ERRCNT: the error that takes err_count to 32. -/
def State.wufErrcnt (n : Nat) (s : State) : State :=
  if 31 ≤ (s.lane n).wakeErr then s.wufFrame n false true else s

/-! ### BAR2 (R222, R227, R228, R234, R236, R597, R740, R741) -/

/-- BAR2 is served. -/
def Mode.bar2 : Mode → Bool
  | .off | .seating | .inrush | .bringUp | .sleep | .faultHold => false
  | _ => true

/-- A BAR2 write of word `a` with byte enables. -/
def State.bar2Write (a be : Nat) (w : Word) (s : State) : State :=
  let a := a - a % 4
  if !s.mode.bar2 || 2 ^ 24 ≤ a then s
  else if !(s.link (a / 64)).hw then s.cnt 0x401C
  else s.each (List.range 4) fun i s => if nbit be i then s.setCellByte (a + i) (BitVec.ofNat 8 (fld w (8 * i) 8)) else s

/-- A BAR2 read of word `a`; `e` is what its SECDED code finds. -/
def State.bar2Read (a : Nat) (e : Ecc) (s : State) : State :=
  let a := a - a % 4
  if !s.mode.bar2 || 2 ^ 24 ≤ a then s.emit (.hostRead 2 a 0)
  else
    let s := s.emit (.hostRead 2 a (wordAt (s.getBytes a 4) 0))
    match e with
    | .good => s
    | .corrected => s.cntF 0x4010 0 16
    | .uncorrectable => s.noteUe (a / 8)

end Sys2Proof.Machine
end

