-- ==== Sys2Proof/Machine/Commands.lean ====
section
/-! DEFINITION. The commands of Table 2-7 at the executor, loads and UNLOAD apart, and the fetch of the command queue
(R63 to R73). Each acts only while its command is the one executing. -/
namespace Sys2Proof.Machine

/-- Runs `f` on the executing command of an opcode. -/
def State.running (op : Nat) (f : Cmd → State → State) (s : State) : State :=
  match s.executing op with
  | some c => f c s
  | none => s

/-! ### The command queue (R63, R66, R75) -/

/-- A host command is at the executor. -/
def State.hostCmdOpen (s : State) : Bool :=
  (s.ctl.exec.toList ++ s.ctl.waiting).any fun c => c.origin != .yewirak

/-- COMMAND_FETCH: the entry at the head of the ring, or none where the fetch fails under R598; a failed fetch leaves
the head where it is. DESIGN CHOICE (log 42). -/
def State.commandFetch (entry : Option (List Byte)) (s : State) : State :=
  let head := s.rf 0x110 0 8
  if !s.rb 0x108 31 || !queueServiced s.mode || s.hostCmdOpen || head = s.rf 0x10C 0 8 || !s.hostOpen then s
  else match entry with
    | none => s
    | some b =>
      let base := (s.rd 0x100).toNat + 2 ^ 32 * (s.rd 0x104).toNat
      let c : Cmd := { origin := .host (base + 32 * head + 24), opcode := byteAt b 0, target := leAt b 2 2,
                       tag := leAt b 4 4, args := fitBytes 16 (b.drop 8) }
      (s.wr 0x110 (wd ((head + 1) % 2 ^ s.rf 0x108 0 4))).submitCmd c [b.getD 1 0, b.getD 27 0]

/-! ### Targets (R71, R73) -/

/-- Runs `f` on a channel target: NO_UNIT if it is absent or retired, BUSY if its cluster reconfigures. DESIGN CHOICE
(log 97): NO_UNIT where both hold. -/
def State.onChannel (c : Cmd) (f : State → State) (s : State) : State :=
  if 40 ≤ c.target || !s.hasCluster (c.target / 10) || (s.lane c.target).retired then s.finish cNoUnit 0
  else if s.reconf (c.target / 10) then s.finish cBusy 0
  else (f s).finish cOk 0

/-- The output of a SPAR command is absent, or RETIRED (Table 20-2). -/
def State.noOutput (s : State) (q : Nat) : Bool := !s.hasSpar q || (s.spar q).state == .retired

/-! ### Modes -/

/-- The executing command completes; what waits is judged once `f` has run. -/
def State.finishBefore (f : State → State) (s : State) : State :=
  match s.ctl.exec with
  | none => s
  | some c => (f ({ s with ctl := { s.ctl with exec := none } }.respond c cOk 0)).settle

def State.enterStandby (s : State) : State := s.running 4 fun _ s => (s.enterMode .standby).finish cOk 0

/-- RESUME: engines that a sleep stopped restart with cause WAKE (R520). -/
def State.resume (s : State) : State := s.running 5 fun _ s => (s.enterMode s.runMode).finish cOk 0

/-- ENTER_SLEEP: the handshake, for which the link leaves L1, CMD_DONE, then SLEEP, which a wake that has fired meanwhile ends at once (R58, R594). -/
def State.enterSleep (s : State) : State :=
  s.running 6 fun _ s => s.l1Leave.sleepShake.finishBefore fun s =>
    let fired := s.ctl.wakePending
    let causes := s.ctl.wakeFired
    let s := { s with ctl := { s.ctl with wakePending := false, wakeFired := [] } }.enterMode .sleep
    let s := s.each causes fun e s => s.upLane e.1 fun l => { l with wakeCause := e.2 }
    if fired then s.wake else s

def State.enterService (s : State) : State :=
  s.running 7 fun _ s => if s.serviceCell then (s.enterMode .service).finish cOk 0 else s.finish cDenied 0

/-- Engines that a retest returned run again (R720). -/
def State.returnedEngines (s : State) : State :=
  s.each (List.range 32) fun g s =>
    if (s.eng g).state == .stopped && (s.eng g).image.isSome then s.restartEngine g .host else s

/-- LEAVE_SERVICE (R55). -/
def State.leaveService (s : State) : State :=
  s.running 8 fun _ s =>
    let s := s.enterMode (if s.struct.isSome then s.runMode else .unconfigured)
    s.returnedEngines.finish cOk 0

def State.enterTest (s : State) : State :=
  s.running 9 fun _ s => if s.testCell then (s.enterMode .test).finish cOk 0 else s.finish cDenied 0

/-- Beacon restarts while the module runs: moments kept as raw values follow (R419). -/
def State.beaconAnew (s : State) : State :=
  let old := s.beacon.raw
  let s := s.upKeeper fun k => { k with session := k.session.map fun (x : Session) => { x with opened := x.opened - old } }
  let ports := s.ports.mapv (fun _ => Port.reset) fun (x : Port) =>
    { x with creditAt := x.creditAt - old,
             meters := x.meters.map fun (e : Nat × Meter) => (e.1, { e.2 with filled := e.2.filled - old }) }
  { s with ports := ports }.beaconRestart

/-- LEAVE_TEST (R51). The node table stays (R157). -/
def State.leaveTest (s : State) : State :=
  s.running 10 fun _ s => ((s.dropStructure false).beaconAnew.enterMode .unconfigured).finish cOk 0

/-- MODULE_RESET: OK, then BRING-UP; DENIED while a hold cause is present (R62). -/
def State.moduleReset (s : State) : State :=
  s.running 11 fun _ s =>
    if s.mode == .faultHold && s.ctl.causePresent then s.finish cDenied 0
    else s.finishBefore (State.enterMode .bringUp)

/-! ### Units -/

def State.cmdNop (s : State) : State := s.running 0 fun _ s => s.finish cOk 0

def State.cmdRestep (s : State) : State := s.running 12 fun _ s => s.restep.finish cOk 0

def State.cmdBusRetry (s : State) : State := s.running 13 fun c s => s.onChannel c (State.busRetry c.target)

def State.cmdUnpark (s : State) : State :=
  s.running 14 fun c s => s.onChannel c (State.unpark c.target (byteAt c.args 0))

/-- SPAR_ON: BUDGET with the shortfall where the check refuses it (R291). -/
def State.cmdSparOn (s : State) : State :=
  s.running 15 fun c s =>
    if s.noOutput c.target then s.finish cNoUnit 0
    else if s.reconf (sparCluster c.target) then s.finish cBusy 0
    else
      let (short, s) := s.sparOn c.target
      if short = 0 then s.finish cOk 0 else s.finish cBudget short

def State.cmdSparOff (s : State) : State :=
  s.running 16 fun c s =>
    if s.noOutput c.target then s.finish cNoUnit 0 else (s.sparOff c.target).finish cOk 0

/-- SPAR_CLEAR; `damaged` is the mask of the ten pass segments that the test of R694 finds damaged. -/
def State.cmdSparClear (damaged : Nat) (s : State) : State :=
  s.running 17 fun c s =>
    if s.noOutput c.target then s.finish cNoUnit 0
    else if s.reconf (sparCluster c.target) then s.finish cBusy 0
    else (s.sparClear c.target damaged).finish cOk 0

/-- SPARE_APPROVE (R708). -/
def State.cmdApprove (s : State) : State :=
  s.running 18 fun c s =>
    match (if c.target < 64 then s.pend c.target else none) with
    | none => s.finish cNoUnit 0
    | some r =>
      if s.reconf (unitCluster r.unit) then s.finish cBusy 0
      else (s.approve c.target (byteAt c.args 0 == 1)).finish cOk 0

/-- CAL_COMMIT: the user values are stored whole; it completes with the store (R726). -/
def State.cmdCal (s : State) : State :=
  s.running 20 fun _ s =>
    if s.keeper.ops.any fun o => o matches .cal _ then s
    else if !s.calCell then s.finish cDenied 0
    else
      let user := s.regs.filterMap fun e =>
        if 0x30000 ≤ e.1 ∧ e.1 < 0x38000 ∧ e.1 % 16 = 4 then some ((e.1 - 0x30000) / 16, e.2.toInt) else none
      s.queueOp (.cal user)

/-! ### AUDIT_SNAPSHOT (R286 to R289) -/

/-- A pool of Table 7-3: total, held and in transit; the rest is free. -/
structure PoolCount where
  total : Nat
  held : Nat
  transit : Nat

/-- Spare segments in service in the sets of some segment units. -/
def State.spareSegs (s : State) (us : List Nat) : Nat :=
  (us.map fun u => b2n (nbit (s.segMask u) 8) + b2n (nbit (s.segMask u) 9)).sum

/-- Counts of pool `k` (Table 7-3, R585, R605). -/
def State.poolCount (s : State) (k : Nat) : PoolCount :=
  let transit := s.cellsInTransit fun _ => true
  let queues := (List.range 64).filter s.eqEnabled
  let depth := (s.hostQs.map fun e => e.2.depth).sum
  let unreserved := (s.hostQs.map fun e =>
    if s.hostQRx e.1 && e.2.enable then e.2.posted - e.2.inFlight else 0).sum
  let count (n : Nat) (p : Nat → Bool) : Nat := ((List.range n).filter p).length
  match k with
  | 0 => ⟨s.usable, s.heldCells.length + s.books.loaderHold - transit, transit + s.handOver.length⟩
  | 1 =>
    let reserved := (s.bus.map fun e => e.2.reserved).sum
    ⟨65536, (s.descs.filter fun e => e.2.kind != .unused).length - reserved, reserved⟩
  | 2 =>
    let reserved := ((s.transit.flatMap (·.pending)).filter fun d => d.kind == dHostQ).length
    ⟨depth, depth - unreserved - reserved, reserved⟩
  | 3 => ⟨4096, 0, s.transit.length⟩
  | 4 => ⟨(queues.map s.eqSize).sum, (queues.map s.eqUnread).sum, (queues.map fun q => (s.eq q).reserved).sum⟩
  | 5 => ⟨s.budgetMa, s.heldMa, 0⟩
  | 6 => ⟨count 4 fun c => s.hasCluster c && !(s.eng (32 + c)).retired, count 4 fun c => (s.eng (32 + c)).serving.isSome, 0⟩
  | 7 => ⟨count 4 fun c => s.hasCluster c && (s.spareSlice c).state != .failed,
          count 4 fun c => (s.spareSlice c).state == .serving, count 4 fun c => (s.spareSlice c).state == .readying⟩
  | 8 =>
    let n := s.spareSegs (((List.range 40).filter fun n => s.hasCluster (n / 10)).map fun n => mkUnit kDriver (16 * n))
    ⟨s.driverLeft + n, n, 0⟩
  | 9 =>
    let n := s.spareSegs (((List.range 64).filter s.hasSpar).map fun q => mkUnit kPass (16 * q))
    ⟨s.passLeft + n, n, 0⟩
  | _ => ⟨1024, (s.spareRows.map (·.2)).sum, 0⟩

/-- The four words of a pool in POOL_AUDIT. -/
def PoolCount.words (x : PoolCount) : List Nat := [x.total, x.total - x.held - x.transit, x.held, x.transit]

/-- The words of POOL_AUDIT_CELLS (Table 7-10). -/
def State.auditCells (s : State) : List Nat :=
  [ofSigned 32 s.shared_, s.sumPart (·.borr), s.books.e, s.sumPart (·.em), s.books.rt,
   s.handOver.length, s.cellsInTransit fun _ => true, s.sumPart Partner.charge]

/-- Stores words from an offset on. -/
def State.putWords : Nat → List Nat → State → State
  | _, [], s => s
  | o, w :: ws, s => State.putWords (o + 4) ws (s.wr o (wd w))

/-- The counts and the partner table are copied in one handshake. -/
def State.snapshot (s : State) : State :=
  let pools := (List.range 11).flatMap fun k => (s.poolCount k).words
  let cells := s.auditCells
  let parts : Tbl Word :=
    ((List.range 32768).map fun i => (i, s.partWord (i / 8) (i % 8))).filter fun e => e.2 != psnapDefault e.1
  let s := (s.putWords 0x4200 pools).putWords 0x4300 cells
  { s with psnap := parts }.wr 0x4100 (wd (2 ^ 31 + (s.rf 0x4100 0 16 + 1) % 2 ^ 16))

def State.cmdAudit (s : State) : State := s.running 19 fun _ s => s.snapshot.finish cOk 0

end Sys2Proof.Machine
end

