-- ==== Sys2Proof/Machine/Rows.lean ====
section
/-! DEFINITION. What the rows that are accesses of one register share: the access of a link, and the words their fields
make (Table 6-9, Table 8-14, Table 13-11, Table 18-12, Table 18-14). -/
namespace Sys2Proof.Machine

/-- A whole-word write of a BAR0 register by the host, or with `yw` by a Yewirak WRITE. -/
def State.put (yw : Bool) (off : Nat) (w : Word) (s : State) : State := s.writeWord ⟨b2n yw, none, .none⟩ off 15 w

/-- A read of a BAR0 word by the host, whose answer is its completion, or by a Yewirak READ (R730, R733). -/
def State.readBy (yw : Bool) (off : Nat) (s : State) : State :=
  let (w, s) := s.readWord (b2n yw) off
  if yw then s else s.emit (.hostRead 0 off w)

/-- The offset is the alias `a` of an S/C register: 1 sets, 2 clears (R18, R735). -/
def isAlias (a off : Nat) : Bool :=
  match Reg.ofOff off with
  | some (.evt _ b) | some (.modReject b) | some (.irqSpend _ b) => b == a
  | _ => false

/-- A write of an S/C alias. -/
def State.aliasBy (a : Nat) (yw : Bool) (off : Nat) (w : Word) (s : State) : State :=
  if isAlias a off then s.put yw off w else s

/-- A POOL_MBOP word (Table 6-9). -/
def mbopWord (op : Nat) (onFifo : Bool) (arg : Nat) : Word :=
  wd (op % 16 * 2 ^ 28 + b2n onFifo * 2 ^ 16 + arg % 2 ^ 16)

/-- An FLT_OP word (Table 8-14): `flip` is of COMMIT, `shadow` of READ_MASKED. -/
def fltWord (op : Nat) (shadow flip : Bool) (arg : Nat) : Word :=
  wd (op % 16 * 2 ^ 28 + b2n flip * 2 ^ 27 + b2n shadow * 2 ^ 26 + arg % 2 ^ 15)

/-- A CHK_CTXOP word (Table 13-11). -/
def ctxOpWord (op i : Nat) : Word := wd (op % 16 * 2 ^ 28 + i % 2 ^ 15)

/-- A KPR_DBG_SEL word (Table 18-14). -/
def dbgSelWord (g : Nat) (halt step : Bool) : Word := wd (b2n halt * 2 ^ 31 + b2n step * 2 ^ 30 + g % 32)

/-- A KPR_UPD_CTRL word with go set (Table 18-12). -/
def updWord (kind : Nat) (inbuf : Bool) (len : Nat) : Word :=
  wd (2 ^ 31 + b2n inbuf * 2 ^ 30 + kind % 16 * 2 ^ 26 + len % 2 ^ 21)

/-- An update of a kind over a link: its object lies in KPR_INBUF, or host memory answers `fetched`. -/
def State.updateBy (yw : Bool) (kind : Nat) (inbuf : Bool) (len : Nat) (fetched : Option (List Byte)) (s : State) :
    State :=
  s.writeWord ⟨b2n yw, fetched, .none⟩ 0x1C058 15 (updWord kind inbuf len)

/-- SESSION_EXPIRY: a session whose duration has ended closes (R640). -/
def State.sessionExpiry (s : State) : State := if s.sessionLeft = 0 then s.closeSession else s

end Sys2Proof.Machine
end

