-- ==== Sys2Proof/Machine/ExecBeacon.lean ====
section
/-! DEFINITION. Commands of the Beacon time base: one meaning for each row. -/
namespace Sys2Proof.Machine

/-- PTP_SYNC_RECEIVED (R427). -/
def execPtpSyncReceived (p domain seq : Nat) (twoStep : Bool) (origin : Nat) (correction log : Int) (age : Nat) (s :
    State) : Answer :=
  .next (s.ptpSync p domain seq twoStep origin correction log age)

/-- PTP_FOLLOW_UP_RECEIVED (R427). -/
def execPtpFollowUpReceived (p domain seq origin : Nat) (correction : Int) (tlv : List Byte) (s : State) : Answer :=
  .next (s.ptpFollowUp p domain seq origin correction tlv)

/-- PDELAY_REQ_RECEIVED (R434). -/
def execPdelayReqReceived (p domain seq : Nat) (correction : Int) (age : Nat) (who : List Byte) (s : State) : Answer :=
  .next (s.pdelayReq p domain seq correction age who)

/-- PDELAY_RESP_RECEIVED (R444). -/
def execPdelayRespReceived (p domain m : Nat) (s : State) : Answer := .next (s.pdelayResp p domain m)

/-- DELAY_REQ_RECEIVED (R434). -/
def execDelayReqReceived (p domain seq : Nat) (correction : Int) (age : Nat) (who : List Byte) (s : State) : Answer :=
  .next (s.delayReq p domain seq correction age who)

/-- DELAY_RESP_RECEIVED (R444). -/
def execDelayRespReceived (p domain m : Nat) (s : State) : Answer := .next (s.delayResp p domain m)

/-- SYNC_TX (R437). -/
def execSyncTx (p : Nat) (s : State) : Answer := .next (s.syncTx p)

/-- DELAY_REQUEST_TX (R437). -/
def execDelayRequestTx (p : Nat) (s : State) : Answer := .next (s.delayReqTx p)

/-- PPS_IN_EDGE (R451). -/
def execPpsInEdge (e : PinEdge) (freq : Int) (s : State) : Answer := .next (s.ppsEdge e.rising e.age freq)

/-- HOLDOFF_END (R446). -/
def execHoldoffEnd (p : Nat) (s : State) : Answer := .next (s.holdoffEnd p)

/-- SOURCE_LOST (R433). -/
def execSourceLost (s : State) : Answer := .next s.sourceLost

/-- BCN_RATE (R420). -/
def execBcnRate (yw high : Bool) (w : Word) (s : State) : Answer := .next (s.put yw (0x8030 + 4 * b2n high) w)

/-- BCN_ADJ (R421). -/
def execBcnAdj (yw high : Bool) (w : Word) (s : State) : Answer := .next (s.put yw (0x8038 + 4 * b2n high) w)

/-- BCN_CFG (R426). -/
def execBcnCfg (yw : Bool) (w : Word) (s : State) : Answer := .next (s.put yw 0x8020 w)

/-- BCN_SAVE (R452). -/
def execBcnSave (yw : Bool) (w : Word) (s : State) : Answer := .next (s.put yw 0x802C w)

/-- PPS_OUT (R448). -/
def execPpsOut (s : State) : Answer := .next s.ppsOut

/-- TSQ_READ (R443). -/
def execTsqRead (yw : Bool) (p : Nat) (s : State) : Answer := .next (s.readBy yw (0x8410 + 0x40 * p))

end Sys2Proof.Machine
end

