-- ==== Sys2Proof/Machine/ExecBuffers.lean ====
section
/-! DEFINITION. Commands of message buffers, credits and frames in transit: one meaning for each row. -/
namespace Sys2Proof.Machine

/-- LOCK (R241). -/
def execLock (yw : Bool) (ix : Nat) (s : State) : Answer := .next (s.put yw 0x4000 (mbopWord 1 false ix))

/-- RELEASE (R242). -/
def execRelease (yw : Bool) (ix : Nat) (s : State) : Answer := .next (s.put yw 0x4000 (mbopWord 2 false ix))

/-- ACK (R242). -/
def execAck (yw : Bool) (ix : Nat) (s : State) : Answer := .next (s.put yw 0x4000 (mbopWord 3 false ix))

/-- POP (R244). -/
def execPop (yw : Bool) (ix : Nat) (s : State) : Answer := .next (s.put yw 0x4000 (mbopWord 4 false ix))

/-- COMMIT (R248). -/
def execCommit (yw : Bool) (c : Committed) (s : State) : Answer :=
  .next (s.writeWord ⟨b2n yw, none, ⟨{ Finds.clean with cells := c.cells }, []⟩⟩ 0x4000 15 (mbopWord 5 false c.ix))

/-- TRIGGER (R246). -/
def execTrigger (yw : Bool) (ix : Nat) (s : State) : Answer := .next (s.put yw 0x4000 (mbopWord 6 false ix))

/-- CLEAR_OVERRUN (R250). -/
def execClearOverrun (yw onFifo : Bool) (ix : Nat) (s : State) : Answer :=
  .next (s.put yw 0x4000 (mbopWord 7 onFifo ix))

/-- ROW_SUBSTITUTION (R232). -/
def execRowSubstitution (b r : Nat) (s : State) : Answer := .next (s.rowFail b r)

/-- WAITING_GRANT (R277). -/
def execWaitingGrant (picks : List Nat) (port : Nat) (s : State) : Answer := .next (s.waitingGrant picks port)

/-- HEAD_ESCALATION (R278). -/
def execHeadEscalation (p : Nat) (s : State) : Answer := .next (s.escalateHead p)

/-- HELD_FRAME_CREDIT (R275). -/
def execHeldFrameCredit (h : HeldRead) (s : State) : Answer := .next (s.heldCredit h.place h.ecc)

/-- TRANSIT_LATE (R284). -/
def execTransitLate (id : Nat) (s : State) : Answer := .next (s.transitLate id)

/-- DELIVERY_POINT (R358). -/
def execDeliveryPoint (id k : Nat) (ecc : RecEcc) (s : State) : Answer := .next (s.pointOf id k ecc)

end Sys2Proof.Machine
end

