-- ==== Sys2Proof/Machine/ExecBus.lean ====
section
/-! DEFINITION. Commands of bus lines and the bus protocol: one meaning for each row. -/
namespace Sys2Proof.Machine

/-- TXD_TIMEOUT (R122). -/
def execTxdTimeout (d : DomTimeout) (s : State) : Answer := .next (s.txdTimeout d.chan d.extra)

/-- BUS_DOM (R123). -/
def execBusDom (n : Nat) (s : State) : Answer := .next (s.busDom n)

/-- NODE_TABLE_STAGE (R153). -/
def execNodeTableStage (yw : Bool) (ix k : Nat) (w : Word) (s : State) : Answer :=
  .next (s.put yw (0x400000 + 0x20 * ix + 4 * k) w)

/-- NODE_TABLE_COMMIT (R153). -/
def execNodeTableCommit (yw : Bool) (ix : Nat) (w : Word) (s : State) : Answer :=
  .next (s.put yw (0x40001C + 0x20 * ix) w)

/-- INTEGRATION_COMPLETE (R167). -/
def execIntegrationComplete (n : Nat) (s : State) : Answer := .next (s.integrated n)

/-- SLOT_ARBITRATION (R182). -/
def execSlotArbitration (n : Nat) (s : State) : Answer := .next (s.slotArbitration n)

/-- ARBITRATION_LOST (R183). -/
def execArbitrationLost (n : Nat) (s : State) : Answer := .next (s.arbitrationLost n)

/-- BUS_FRAME_RECEIVED (R26). -/
def execBusFrameReceived (picks : List Nat) (n age : Nat) (sig : Sig) (f : Frame) (s : State) : Answer :=
  .next (s.busReceived picks n age sig f)

/-- BUS_FRAME_SENT (R185). -/
def execBusFrameSent (picks : List Nat) (n age tdcv : Nat) (s : State) : Answer := .next (s.busSent picks n age tdcv)

/-- BUS_ERROR (R186). -/
def execBusError (n : Nat) (err : BusFault) (s : State) : Answer := .next (s.busError n err)

/-- PROTOCOL_EXCEPTION (R171). -/
def execProtocolException (e : FormatError) (s : State) : Answer := .next (s.protocolException e)

/-- DELAYED_RECOVERY_START (R192). -/
def execDelayedRecoveryStart (n : Nat) (s : State) : Answer := .next (s.delayedRecovery n)

/-- BUS_CTRL_RECOVER (R194). -/
def execBusCtrlRecover (yw : Bool) (n : Nat) (s : State) : Answer := .next (s.put yw (busBase n + 4) 1)

/-- BUS_ON (R193). -/
def execBusOn (n : Nat) (s : State) : Answer := .next (s.busOn n)

/-- SLOT_LOAD (R246). -/
def execSlotLoad (n k : Nat) (ecc : RecEcc) (s : State) : Answer := .next (s.slotLoad n k ecc)

end Sys2Proof.Machine
end

