-- ==== Sys2Proof/Machine/ExecCommands.lean ====
section
/-! DEFINITION. Commands of the command executor and the Mica loader: one meaning for each row. -/
namespace Sys2Proof.Machine

/-- COMMAND_FETCH (R63). -/
def execCommandFetch (entry : Option (List Byte)) (s : State) : Answer := .next (s.commandFetch entry)

/-- NOP (R72). -/
def execNop (s : State) : Answer := .next s.cmdNop

/-- LOAD_STREAM (R96). -/
def execLoadStream (picks : List Nat) (header body : Option (List Byte)) (s : State) : Answer :=
  .next (s.loadStream picks header body)

/-- STREAM_VALIDATION (R90). -/
def execStreamValidation (t : Nat) (s : State) : Answer := .next (s.validate t)

/-- AUTOLOAD_COPY (R102). -/
def execAutoloadCopy (s : State) : Answer := .next s.autoloadCopy

/-- LOADER_HOLD_RELEASE (R97). -/
def execLoaderHoldRelease (t : Nat) (s : State) : Answer := .next (s.step8 t)

/-- RELOAD_CLUSTER (R106). -/
def execReloadCluster (header body : Option (List Byte)) (s : State) : Answer := .next (s.reloadCluster header body)

/-- CLUSTER_STAGE6 (R110). -/
def execClusterStage6 (c : Nat) (s : State) : Answer := .next (s.clusterStage6 c)

/-- HOLD_MAX_EXPIRY (R117). -/
def execHoldMaxExpiry (c : Nat) (s : State) : Answer := .next (s.holdMax c)

/-- UNLOAD (R255). -/
def execUnload (s : State) : Answer := .next s.unload

/-- ENTER_STANDBY (R72). -/
def execEnterStandby (s : State) : Answer := .next s.enterStandby

/-- RESUME (R72). -/
def execResume (s : State) : Answer := .next s.resume

/-- ENTER_SLEEP (R594). -/
def execEnterSleep (s : State) : Answer := .next s.enterSleep

/-- ENTER_SERVICE (R72). -/
def execEnterService (s : State) : Answer := .next s.enterService

/-- LEAVE_SERVICE (R55). -/
def execLeaveService (s : State) : Answer := .next s.leaveService

/-- ENTER_TEST (R72). -/
def execEnterTest (s : State) : Answer := .next s.enterTest

/-- LEAVE_TEST (R51). -/
def execLeaveTest (s : State) : Answer := .next s.leaveTest

/-- MODULE_RESET (R62). -/
def execModuleReset (s : State) : Answer := .next s.moduleReset

/-- RESTEP (R432). -/
def execRestep (s : State) : Answer := .next s.cmdRestep

/-- BUS_RETRY (R200). -/
def execBusRetry (s : State) : Answer := .next s.cmdBusRetry

/-- BUF_UNPARK (R211). -/
def execBufUnpark (s : State) : Answer := .next s.cmdUnpark

/-- SPAR_ON (R291). -/
def execSparOn (s : State) : Answer := .next s.cmdSparOn

/-- SPAR_OFF (R692). -/
def execSparOff (s : State) : Answer := .next s.cmdSparOff

/-- SPAR_CLEAR (R694). -/
def execSparClear (damaged : Nat) (s : State) : Answer := .next (s.cmdSparClear damaged)

/-- SPARE_APPROVE (R708). -/
def execSpareApprove (s : State) : Answer := .next s.cmdApprove

/-- AUDIT_SNAPSHOT (R288). -/
def execAuditSnapshot (s : State) : Answer := .next s.cmdAudit

/-- CAL_COMMIT (R726). -/
def execCalCommit (s : State) : Answer := .next s.cmdCal

end Sys2Proof.Machine
end

