-- ==== Sys2Proof/Machine/ExecCycle.lean ====
section
/-! DEFINITION. Commands of the cell cycle and check units: one meaning for each row. -/
namespace Sys2Proof.Machine

/-- CYCLE_START (R475). -/
def execCycleStart (t : Nat) (s : State) : Answer := .next (s.cycleStart t)

/-- WINDOW_START (R475). -/
def execWindowStart (t : Nat) (s : State) : Answer := .next (s.windowStart t)

/-- WINDOW_END (R475). -/
def execWindowEnd (t : Nat) (s : State) : Answer := .next (s.windowEnd t)

/-- EXCLUSIVE_TRIGGER (R464). -/
def execExclusiveTrigger (t ix : Nat) (s : State) : Answer := .next (s.exclusiveTrigger t ix)

/-- REFERENCE_RECEIVED (R471). -/
def execReferenceReceived (n ident age : Nat) (s : State) : Answer := .next (s.referenceReceived n ident age)

/-- BACKUP_TAKEOVER (R473). -/
def execBackupTakeover (n : Nat) (s : State) : Answer := .next (s.backupTakeover n)

/-- QUARANTINE_POP (R497). -/
def execQuarantinePop (yw : Bool) (c : Nat) (s : State) : Answer := .next (s.put yw (chkQBase c + 8) 1)

/-- RESYNC (R493). -/
def execResync (yw : Bool) (ix : Nat) (s : State) : Answer := .next (s.put yw 0xC000 (ctxOpWord 1 ix))

/-- CLEAR (R493). -/
def execClear (yw : Bool) (ix : Nat) (s : State) : Answer := .next (s.put yw 0xC000 (ctxOpWord 2 ix))

/-- BEACON_MILLISECOND (R208). -/
def execBeaconMillisecond (s : State) : Answer := .next s.beaconMs

end Sys2Proof.Machine
end

