-- ==== Sys2Proof/Machine/ExecEngines.lean ====
section
/-! DEFINITION. Commands of Genat engines and customer tiles: one meaning for each row. -/
namespace Sys2Proof.Machine

/-- ENGINE_RESTART (R518). -/
def execEngineRestart (yw : Bool) (g : Nat) (s : State) : Answer := .next (s.put yw (engBase g) 0x80000000)

/-- ENGINE_SUBSTITUTION (R712). -/
def execEngineSubstitution (g : Nat) (timeout : Bool) (s : State) : Answer := .next (s.engineSubstitution g timeout)

/-- INTERRUPT_ENTRY (R574). -/
def execInterruptEntry (g : Issue) (late : List Late) (s : State) : Answer := .next (s.takeInterrupt g late)

/-- ILLEGAL_INSTRUCTION (R531). -/
def execIllegalInstruction (g : Issue) (s : State) : Answer := .next (s.runIllegal g)

/-- TILE_FRAME_SUBMIT (R523). -/
def execTileFrameSubmit (picks : List Nat) (c : Nat) (d : List Byte) (s : State) : Answer :=
  .next (s.tileFrame picks c d)

/-- TILE_SIGNAL (R522). -/
def execTileSignal (c k : Nat) (s : State) : Answer := .next (s.tileSignal c k)

end Sys2Proof.Machine
end

