-- ==== Sys2Proof/Machine/ExecEth.lean ====
section
/-! DEFINITION. Commands of Ethernet ports: one meaning for each row. -/
namespace Sys2Proof.Machine

/-- ETH_FRAME_RECEIVED (R372). -/
def execEthFrameReceived (picks : List Nat) (p : Nat) (phyErr smdErr fcsErr : Bool) (frags age : Nat) (b : List Byte)
    (s : State) : Answer :=
  .next (s.ethReceived picks p phyErr smdErr fcsErr frags age b)

/-- PAUSE_RECEIVED (R389). -/
def execPauseReceived (p quanta : Nat) (s : State) : Answer := .next (s.pauseReceived p quanta)

/-- PFC_RECEIVED (R389). -/
def execPfcReceived (p vector : Nat) (times : List Nat) (s : State) : Answer := .next (s.pfcReceived p vector times)

/-- PAUSE_EFFECT (R390). -/
def execPauseEffect (p : Nat) (s : State) : Answer := .next (s.pauseEffect p)

/-- PAUSE_EXPIRY (R391). -/
def execPauseExpiry (p t : Nat) (s : State) : Answer := .next (s.pauseExpiry p t)

/-- ETH_FRAME_START (R380). -/
def execEthFrameStart (p : Nat) (ecc : RecEcc) (s : State) : Answer := .next (s.frameStart p ecc)

/-- ETH_FRAME_SENT (R441). -/
def execEthFrameSent (p age : Nat) (underrun : Bool) (s : State) : Answer := .next (s.frameSent p age underrun)

/-- PAUSE_TX_REPEAT (R393). -/
def execPauseTxRepeat (p : Nat) (s : State) : Answer := .next (s.pauseRepeat p)

/-- LINK_UP (R368). -/
def execLinkUp (p : Nat) (rcvr : Bool) (s : State) : Answer := .next (s.linkUp p rcvr)

/-- LINK_DOWN (R369). -/
def execLinkDown (p : Nat) (s : State) : Answer := .next (s.linkDown p)

/-- VERIFY_ATTEMPT (R394). -/
def execVerifyAttempt (p : Nat) (ok : Bool) (s : State) : Answer := .next (s.verifyAttempt p ok)

/-- LPI_ENTER (R386). -/
def execLpiEnter (p : Nat) (rx : Bool) (s : State) : Answer := .next (s.lpiEnter p rx)

/-- LPI_EXIT (R386). -/
def execLpiExit (p : Nat) (rx : Bool) (s : State) : Answer := .next (s.lpiExit p rx)

/-- GATE_BOUNDARY (R398). -/
def execGateBoundary (p : Nat) (s : State) : Answer := .next (s.refreshGates p)

/-- GATE_COMMIT (R400). -/
def execGateCommit (yw : Bool) (p : Nat) (w : Word) (s : State) : Answer := .next (s.put yw (macBase p + 0x40) w)

/-- GATE_SWITCH (R400). -/
def execGateSwitch (p : Nat) (s : State) : Answer := .next (s.gateSwitch p)

/-- LAUNCH_DUE (R404). -/
def execLaunchDue (p : Nat) (ecc : RecEcc) (s : State) : Answer := .next (s.launchDue p ecc)

end Sys2Proof.Machine
end

