-- ==== Sys2Proof/Machine/ExecFilters.lean ====
section
/-! DEFINITION. Commands of acceptance filters: one meaning for each row. -/
namespace Sys2Proof.Machine

/-- READ_EXACT (R324). -/
def execReadExact (yw : Bool) (c ix : Nat) (s : State) : Answer :=
  .next (s.put yw (fltBase c + 0x80) (fltWord 1 false false ix))

/-- READ_MASKED (R324). -/
def execReadMasked (yw : Bool) (c : Nat) (shadow : Bool) (ix : Nat) (s : State) : Answer :=
  .next (s.put yw (fltBase c + 0x80) (fltWord 2 shadow false ix))

/-- ADD_EXACT (R325). -/
def execAddExact (yw : Bool) (c ix : Nat) (s : State) : Answer :=
  .next (s.put yw (fltBase c + 0x80) (fltWord 3 false false ix))

/-- SET_EXACT (R325). -/
def execSetExact (yw : Bool) (c ix : Nat) (s : State) : Answer :=
  .next (s.put yw (fltBase c + 0x80) (fltWord 4 false false ix))

/-- DEL_EXACT (R325). -/
def execDelExact (yw : Bool) (c ix : Nat) (s : State) : Answer :=
  .next (s.put yw (fltBase c + 0x80) (fltWord 5 false false ix))

/-- MOVE_EXACT (R325). -/
def execMoveExact (yw : Bool) (c ix : Nat) (s : State) : Answer :=
  .next (s.put yw (fltBase c + 0x80) (fltWord 6 false false ix))

/-- WRITE_SHADOW (R324). -/
def execWriteShadow (yw : Bool) (c ix : Nat) (s : State) : Answer :=
  .next (s.put yw (fltBase c + 0x80) (fltWord 7 false false ix))

/-- COPY_TO_SHADOW (R324). -/
def execCopyToShadow (yw : Bool) (c : Nat) (s : State) : Answer :=
  .next (s.put yw (fltBase c + 0x80) (fltWord 8 false false 0))

/-- COPY_TO_SHADOW_DONE (R324). -/
def execCopyToShadowDone (c : Nat) (s : State) : Answer := .next (s.fltCopyDone c)

/-- FILTER_COMMIT (R326). -/
def execFilterCommit (yw : Bool) (c : Nat) (flip : Bool) (s : State) : Answer :=
  .next (s.put yw (fltBase c + 0x80) (fltWord 9 false flip 0))

/-- ABANDON (R324). -/
def execAbandon (yw : Bool) (c : Nat) (s : State) : Answer :=
  .next (s.put yw (fltBase c + 0x80) (fltWord 10 false false 0))

end Sys2Proof.Machine
end

