-- ==== Sys2Proof/Machine/ExecGenat.lean ====
section
/-! DEFINITION. Commands of Genat arithmetic: one meaning for each row. -/
namespace Sys2Proof.Machine

/-- ADD (R533). -/
def execAdd (g : Issue) (rd ra rb : Nat) (s : State) : Answer := .next (s.runReg3 g .add rd ra rb)

/-- SUB (R533). -/
def execSub (g : Issue) (rd ra rb : Nat) (s : State) : Answer := .next (s.runReg3 g .sub rd ra rb)

/-- ADC (R533). -/
def execAdc (g : Issue) (rd ra rb : Nat) (s : State) : Answer := .next (s.runReg3 g .adc rd ra rb)

/-- SBC (R533). -/
def execSbc (g : Issue) (rd ra rb : Nat) (s : State) : Answer := .next (s.runReg3 g .sbc rd ra rb)

/-- AND (R532). -/
def execAnd (g : Issue) (rd ra rb : Nat) (s : State) : Answer := .next (s.runReg3 g .and rd ra rb)

/-- OR (R532). -/
def execOr (g : Issue) (rd ra rb : Nat) (s : State) : Answer := .next (s.runReg3 g .or rd ra rb)

/-- XOR (R532). -/
def execXor (g : Issue) (rd ra rb : Nat) (s : State) : Answer := .next (s.runReg3 g .xor rd ra rb)

/-- ANDN (R532). -/
def execAndn (g : Issue) (rd ra rb : Nat) (s : State) : Answer := .next (s.runReg3 g .andn rd ra rb)

/-- SLL (R534). -/
def execSll (g : Issue) (rd ra rb : Nat) (s : State) : Answer := .next (s.runReg3 g .sll rd ra rb)

/-- SRL (R534). -/
def execSrl (g : Issue) (rd ra rb : Nat) (s : State) : Answer := .next (s.runReg3 g .srl rd ra rb)

/-- SRA (R534). -/
def execSra (g : Issue) (rd ra rb : Nat) (s : State) : Answer := .next (s.runReg3 g .sra rd ra rb)

/-- ROT (R534). -/
def execRot (g : Issue) (rd ra rb : Nat) (s : State) : Answer := .next (s.runReg3 g .rot rd ra rb)

/-- MUL (R532). -/
def execMul (g : Issue) (rd ra rb : Nat) (s : State) : Answer := .next (s.runReg3 g .mul rd ra rb)

/-- MULHS (R536). -/
def execMulhs (g : Issue) (rd ra rb : Nat) (s : State) : Answer := .next (s.runReg3 g .mulhs rd ra rb)

/-- MULHU (R532). -/
def execMulhu (g : Issue) (rd ra rb : Nat) (s : State) : Answer := .next (s.runReg3 g .mulhu rd ra rb)

/-- DIV (R535). -/
def execDiv (g : Issue) (rd ra rb : Nat) (s : State) : Answer := .next (s.runReg3 g .div rd ra rb)

/-- DIVU (R535). -/
def execDivu (g : Issue) (rd ra rb : Nat) (s : State) : Answer := .next (s.runReg3 g .divu rd ra rb)

/-- REM (R535). -/
def execRem (g : Issue) (rd ra rb : Nat) (s : State) : Answer := .next (s.runReg3 g .rem rd ra rb)

/-- REMU (R535). -/
def execRemu (g : Issue) (rd ra rb : Nat) (s : State) : Answer := .next (s.runReg3 g .remu rd ra rb)

/-- NEG (R536). -/
def execNeg (g : Issue) (rd ra : Nat) (s : State) : Answer := .next (s.runReg2 g .neg rd ra)

/-- ABS (R536). -/
def execAbs (g : Issue) (rd ra : Nat) (s : State) : Answer := .next (s.runReg2 g .abs rd ra)

/-- ABSS (R536). -/
def execAbss (g : Issue) (rd ra : Nat) (s : State) : Answer := .next (s.runReg2 g .abss rd ra)

/-- ADDS (R536). -/
def execAdds (g : Issue) (rd ra rb : Nat) (s : State) : Answer := .next (s.runReg3 g .adds rd ra rb)

/-- SUBS (R536). -/
def execSubs (g : Issue) (rd ra rb : Nat) (s : State) : Answer := .next (s.runReg3 g .subs rd ra rb)

/-- CLZ (R532). -/
def execClz (g : Issue) (rd ra : Nat) (s : State) : Answer := .next (s.runReg2 g .clz rd ra)

/-- BREV (R532). -/
def execBrev (g : Issue) (rd ra : Nat) (s : State) : Answer := .next (s.runReg2 g .brev rd ra)

/-- BSWAP (R532). -/
def execBswap (g : Issue) (rd ra : Nat) (s : State) : Answer := .next (s.runReg2 g .bswap rd ra)

/-- EXT (R532). -/
def execExt (g : Issue) (rd ra pos len : Nat) (sign : Bool) (s : State) : Answer := .next (s.runExt g rd ra pos len sign)

/-- INS (R532). -/
def execIns (g : Issue) (rd ra pos len : Nat) (s : State) : Answer := .next (s.runIns g rd ra pos len)

/-- ADDI (R533). -/
def execAddi (g : Issue) (rd ra v : Nat) (s : State) : Answer := .next (s.runImm g .addi rd ra v)

/-- ANDI (R532). -/
def execAndi (g : Issue) (rd ra v : Nat) (s : State) : Answer := .next (s.runImm g .andi rd ra v)

/-- ORI (R532). -/
def execOri (g : Issue) (rd ra v : Nat) (s : State) : Answer := .next (s.runImm g .ori rd ra v)

/-- XORI (R532). -/
def execXori (g : Issue) (rd ra v : Nat) (s : State) : Answer := .next (s.runImm g .xori rd ra v)

/-- SHI (R534). -/
def execShi (g : Issue) (rd ra kind n : Nat) (s : State) : Answer := .next (s.runShi g rd ra kind n)

/-- LUI (R532). -/
def execLui (g : Issue) (rd v : Nat) (s : State) : Answer := .next (s.runLui g rd v)

/-- CMP (R533). -/
def execCmp (g : Issue) (ra rb : Nat) (s : State) : Answer := .next (s.runCmp g ra rb)

/-- CMPI (R533). -/
def execCmpi (g : Issue) (ra v : Nat) (s : State) : Answer := .next (s.runCmpi g ra v)

/-- TST (R533). -/
def execTst (g : Issue) (ra rb : Nat) (s : State) : Answer := .next (s.runTst g ra rb)

end Sys2Proof.Machine
end

