-- ==== Sys2Proof/Machine/ExecGenatMem.lean ====
section
/-! DEFINITION. Commands of Genat loads, stores and transfers: one meaning for each row. -/
namespace Sys2Proof.Machine

/-- LDW (R537). -/
def execLdw (g : Issue) (rd ra v : Nat) (e : Ecc) (s : State) : Answer := .next (s.runLoad g .ldw rd ra v e)

/-- LDH (R537). -/
def execLdh (g : Issue) (rd ra v : Nat) (e : Ecc) (s : State) : Answer := .next (s.runLoad g .ldh rd ra v e)

/-- LDHU (R537). -/
def execLdhu (g : Issue) (rd ra v : Nat) (e : Ecc) (s : State) : Answer := .next (s.runLoad g .ldhu rd ra v e)

/-- LDB (R537). -/
def execLdb (g : Issue) (rd ra v : Nat) (e : Ecc) (s : State) : Answer := .next (s.runLoad g .ldb rd ra v e)

/-- LDBU (R537). -/
def execLdbu (g : Issue) (rd ra v : Nat) (e : Ecc) (s : State) : Answer := .next (s.runLoad g .ldbu rd ra v e)

/-- STW (R537). -/
def execStw (g : Issue) (rd ra v : Nat) (s : State) : Answer := .next (s.runStore g .stw rd ra v)

/-- STH (R537). -/
def execSth (g : Issue) (rd ra v : Nat) (s : State) : Answer := .next (s.runStore g .sth rd ra v)

/-- STB (R537). -/
def execStb (g : Issue) (rd ra v : Nat) (s : State) : Answer := .next (s.runStore g .stb rd ra v)

/-- LDD (R537). -/
def execLdd (g : Issue) (rd ra v : Nat) (e : Ecc) (s : State) : Answer := .next (s.runLoad g .ldd rd ra v e)

/-- STD (R537). -/
def execStd (g : Issue) (rd ra v : Nat) (s : State) : Answer := .next (s.runStore g .std rd ra v)

/-- SWAP (R538). -/
def execSwap (g : Issue) (rd ra rb : Nat) (e : Ecc) (s : State) : Answer := .next (s.runAtom g .swap rd ra rb e)

/-- FADD (R538). -/
def execFadd (g : Issue) (rd ra rb : Nat) (e : Ecc) (s : State) : Answer := .next (s.runAtom g .fadd rd ra rb e)

/-- FAND (R538). -/
def execFand (g : Issue) (rd ra rb : Nat) (e : Ecc) (s : State) : Answer := .next (s.runAtom g .fand rd ra rb e)

/-- FOR (R538). -/
def execFor (g : Issue) (rd ra rb : Nat) (e : Ecc) (s : State) : Answer := .next (s.runAtom g .for_ rd ra rb e)

/-- FXOR (R538). -/
def execFxor (g : Issue) (rd ra rb : Nat) (e : Ecc) (s : State) : Answer := .next (s.runAtom g .fxor rd ra rb e)

/-- CAS (R538). -/
def execCas (g : Issue) (rd ra rb : Nat) (e : Ecc) (s : State) : Answer := .next (s.runAtom g .cas rd ra rb e)

/-- BC (R539). -/
def execBc (g : Issue) (cond off : Nat) (s : State) : Answer := .next (s.runBc g cond off)

/-- CBZ (R532). -/
def execCbz (g : Issue) (ra off : Nat) (s : State) : Answer := .next (s.runCb g false ra off)

/-- CBNZ (R532). -/
def execCbnz (g : Issue) (ra off : Nat) (s : State) : Answer := .next (s.runCb g true ra off)

/-- JMP (R543). -/
def execJmp (g : Issue) (off : Nat) (s : State) : Answer := .next (s.runJmp g off)

/-- CALL (R532). -/
def execCall (g : Issue) (off : Nat) (s : State) : Answer := .next (s.runCall g off)

/-- JR (R543). -/
def execJr (g : Issue) (ra : Nat) (s : State) : Answer := .next (s.runJr g ra)

/-- CALLR (R532). -/
def execCallr (g : Issue) (ra : Nat) (s : State) : Answer := .next (s.runCallr g ra)

/-- LOOP (R541). -/
def execLoop (g : Issue) (ra len : Nat) (s : State) : Answer := .next (s.runLoop g ra len)

/-- LOOPI (R541). -/
def execLoopi (g : Issue) (count len : Nat) (s : State) : Answer := .next (s.runLoopi g count len)

/-- LEXIT (R544). -/
def execLexit (g : Issue) (k : Nat) (s : State) : Answer := .next (s.runLexit g k)

end Sys2Proof.Machine
end

