-- ==== Sys2Proof/Machine/ExecGenatSys.lean ====
section
/-! DEFINITION. Commands of Genat system instructions and attached units: one meaning for each row. -/
namespace Sys2Proof.Machine

/-- SYS_NOP (R532). -/
def execSysNop (g : Issue) (s : State) : Answer := .next (s.runNop g)

/-- WFE (R547). -/
def execWfe (g : Issue) (s : State) : Answer := .next (s.runWfe g)

/-- WFE_WAKE (R547). -/
def execWfeWake (g : Nat) (s : State) : Answer := .next (s.wfeWake g)

/-- SEV (R548). -/
def execSev (g : Issue) (s : State) : Answer := .next (s.runSev g)

/-- RETI (R574). -/
def execReti (g : Issue) (late : List Late) (s : State) : Answer := .next (s.runReti g late)

/-- TRAP (R532). -/
def execTrap (g : Issue) (v : Nat) (s : State) : Answer := .next (s.runTrap g v)

/-- BREAK (R561). -/
def execBreak (g : Issue) (v : Nat) (s : State) : Answer := .next (s.runBreak g v)

/-- CSRR (R528). -/
def execCsrr (g : Issue) (rd num : Nat) (s : State) : Answer := .next (s.runCsr g .csrr rd num)

/-- CSRW (R528). -/
def execCsrw (g : Issue) (ra num : Nat) (s : State) : Answer := .next (s.runCsr g .csrw ra num)

/-- CSRS (R528). -/
def execCsrs (g : Issue) (ra num : Nat) (s : State) : Answer := .next (s.runCsr g .csrs ra num)

/-- CSRC (R528). -/
def execCsrc (g : Issue) (ra num : Nat) (s : State) : Answer := .next (s.runCsr g .csrc ra num)

/-- EI (R560). -/
def execEi (g : Issue) (s : State) : Answer := .next (s.runEi g)

/-- DI (R560). -/
def execDi (g : Issue) (s : State) : Answer := .next (s.runDi g)

/-- IC_RAISE (R579). -/
def execIcRaise (g : Issue) (ra : Nat) (s : State) : Answer := .next (s.runCsr g .csrw ra 0x2D)

/-- IC_PCLR (R578). -/
def execIcPclr (g : Issue) (ra : Nat) (s : State) : Answer := .next (s.runCsr g .csrw ra 0x2E)

/-- IDENT (R551). -/
def execIdent (g : Issue) (rd ra rb : Nat) (s : State) : Answer := .next (s.runUnit g .ident rd ra rb)

/-- IMAGE (R551). -/
def execImage (g : Issue) (rd ra rb : Nat) (s : State) : Answer := .next (s.runUnit g .image rd ra rb)

/-- CHECKPOINT (R517). -/
def execCheckpoint (g : Issue) (rd ra rb : Nat) (s : State) : Answer := .next (s.runUnit g .checkpoint rd ra rb)

/-- RATE (R551). -/
def execRate (g : Issue) (rd ra rb : Nat) (s : State) : Answer := .next (s.runUnit g .rate rd ra rb)

/-- TAKE (R510). -/
def execTake (g : Issue) (rd ra rb : Nat) (s : State) : Answer := .next (s.runUnit g .take rd ra rb)

/-- FRAME_RELEASE (R510). -/
def execFrameRelease (g : Issue) (rd ra rb : Nat) (s : State) : Answer := .next (s.runUnit g .release rd ra rb)

/-- HDR (R551). -/
def execHdr (g : Issue) (rd ra rb : Nat) (s : State) : Answer := .next (s.runUnit g .hdr rd ra rb)

/-- DATA (R551). -/
def execData (g : Issue) (rd ra rb : Nat) (s : State) : Answer := .next (s.runUnit g .data rd ra rb)

/-- COPY (R551). -/
def execCopy (g : Issue) (rd ra rb : Nat) (s : State) : Answer := .next (s.runUnit g .copy rd ra rb)

/-- SUBMIT (R512). -/
def execSubmit (g : Issue) (rd ra rb : Nat) (s : State) : Answer := .next (s.runUnit g .submit rd ra rb)

/-- DONE (R551). -/
def execDone (g : Issue) (rd ra rb : Nat) (s : State) : Answer := .next (s.runUnit g .done rd ra rb)

/-- NOW (R551). -/
def execNow (g : Issue) (rd ra rb : Nat) (s : State) : Answer := .next (s.runUnit g .now rd ra rb)

/-- SECHI (R551). -/
def execSechi (g : Issue) (rd ra rb : Nat) (s : State) : Answer := .next (s.runUnit g .sechi rd ra rb)

/-- FRAC (R551). -/
def execFrac (g : Issue) (rd ra rb : Nat) (s : State) : Answer := .next (s.runUnit g .frac rd ra rb)

/-- WAIT_UNTIL (R549). -/
def execWaitUntil (g : Issue) (rd ra rb : Nat) (s : State) : Answer := .next (s.runUnit g .waitUntil rd ra rb)

/-- WAIT_UNTIL_WAKE (R549). -/
def execWaitUntilWake (g : Nat) (s : State) : Answer := .next (s.waitUntilWake g)

/-- TASK_DONE (R516). -/
def execTaskDone (g : Issue) (rd ra rb : Nat) (s : State) : Answer := .next (s.runUnit g .taskDone rd ra rb)

/-- TSQ_POP (R551). -/
def execTsqPop (g : Issue) (rd ra rb : Nat) (s : State) : Answer := .next (s.runUnit g .tsqPop rd ra rb)

/-- TSQ_STAMP (R551). -/
def execTsqStamp (g : Issue) (rd ra rb : Nat) (s : State) : Answer := .next (s.runUnit g .tsqStamp rd ra rb)

/-- CRC (R551). -/
def execCrc (g : Issue) (j rd ra rb : Nat) (s : State) : Answer := .next (s.runCrc g j rd ra rb)

/-- CUST (R553); a call of another unit or of a function that no unit offers traps as ABSENT_UNIT (R508). -/
def execCust (g : Issue) (unit fn rd ra rb imm : Nat) (s : State) : Answer :=
  .next (if unit = 7 then s.runCust g fn rd ra rb imm else s.runAbsent g unit fn rd ra rb)

end Sys2Proof.Machine
end

