-- ==== Sys2Proof/Machine/ExecHealth.lean ====
section
/-! DEFINITION. Commands of health, spares and calibration: one meaning for each row. -/
namespace Sys2Proof.Machine

/-- MARGIN_EVALUATION (R702). -/
def execMarginEvaluation (margins : List (Nat × Nat)) (rs : List Report) (s : State) : Answer :=
  .next (s.marginEvaluation margins rs)

/-- UNIT_FAULT (R704). -/
def execUnitFault (r : Report) (s : State) : Answer := .next (s.monitorReport r)

/-- SLICE_SUBSTITUTION (R713). -/
def execSliceSubstitution (n : Nat) (done parityOk : Bool) (s : State) : Answer :=
  .next (s.sliceSubstitution n done parityOk)

/-- SEGMENT_SUBSTITUTION (R714). -/
def execSegmentSubstitution (u : Nat) (s : State) : Answer := .next (s.segmentSubstitution u)

/-- HLT_RETEST (R720). -/
def execHltRetest (yw : Bool) (w : Word) (s : State) : Answer := .next (s.put yw 0x22008 w)

/-- RETEST_DONE (R720). -/
def execRetestDone (pass : Bool) (s : State) : Answer := .next (s.retestDone pass)

/-- CAL_USER_WRITE (R723). -/
def execCalUserWrite (yw : Bool) (ix : Nat) (w : Word) (s : State) : Answer := .next (s.put yw (0x30004 + 0x10 * ix) w)

end Sys2Proof.Machine
end

