-- ==== Sys2Proof/Machine/ExecHost.lean ====
section
/-! DEFINITION. Commands of host descriptor queues: one meaning for each row. -/
namespace Sys2Proof.Machine

/-- HOST_Q_TAIL (R603). -/
def execHostQTail (yw : Bool) (q : Nat) (w : Word) (s : State) : Answer := .next (s.put yw (0x1800C + 0x40 * q) w)

/-- HOST_Q_CFG (R613). -/
def execHostQCfg (yw : Bool) (q : Nat) (w : Word) (s : State) : Answer := .next (s.put yw (0x18008 + 0x40 * q) w)

/-- TX_DESCRIPTOR (R607). -/
def execTxDescriptor (q : Nat) (desc image : Option (List Byte)) (s : State) : Answer :=
  .next (s.txDescriptor q desc image)

/-- RX_SLOT_FETCH (R609). -/
def execRxSlotFetch (q ix : Nat) (desc : Option (List Byte)) (s : State) : Answer := .next (s.rxSlotFetch q ix desc)

/-- QUEUE_STOPPED (R613). -/
def execQueueStopped (q : Nat) (s : State) : Answer := .next (s.queueStopped q)

end Sys2Proof.Machine
end

