-- ==== Sys2Proof/Machine/ExecIrq.lean ====
section
/-! DEFINITION. Commands of interrupt sources and event queues: one meaning for each row. -/
namespace Sys2Proof.Machine

/-- IRQ_SPEND_SET (R572). -/
def execIrqSpendSet (yw : Bool) (k : Nat) (w : Word) (s : State) : Answer := .next (s.put yw (0xE004 + 0x10 * k) w)

/-- IRQ_SPEND_CLEAR (R572). -/
def execIrqSpendClear (yw : Bool) (k : Nat) (w : Word) (s : State) : Answer := .next (s.put yw (0xE008 + 0x10 * k) w)

/-- IRQ_SRC_WRITE (R570). -/
def execIrqSrcWrite (yw : Bool) (ix : Nat) (w : Word) (s : State) : Answer := .next (s.put yw (0x14000 + 4 * ix) w)

/-- IRQ_EQ_ENABLE (R583). -/
def execIrqEqEnable (yw : Bool) (q : Nat) (w : Word) (s : State) : Answer := .next (s.put yw (0x16008 + 0x20 * q) w)

/-- IRQ_EQ_HEAD (R586). -/
def execIrqEqHead (yw : Bool) (q : Nat) (w : Word) (s : State) : Answer := .next (s.put yw (0x1600C + 0x20 * q) w)

/-- MODERATION_TIMER (R586). -/
def execModerationTimer (q : Nat) (s : State) : Answer := .next (s.moderationTimer q)

/-- HOST_SLEEP_REQ (R588). -/
def execHostSleepReq (yw : Bool) (w : Word) (s : State) : Answer := .next (s.put yw 0xE400 w)

/-- WAKE_HOLD_EXPIRY (R591). -/
def execWakeHoldExpiry (s : State) : Answer := .next s.wakeHold

/-- HELD_RECORDS_FLUSH (R592). -/
def execHeldRecordsFlush (s : State) : Answer := .next s.masterBack

/-- L1_EXIT (R593). -/
def execL1Exit (s : State) : Answer := .next s.l1Leave

end Sys2Proof.Machine
end

