-- ==== Sys2Proof/Machine/ExecKeeper.lean ====
section
/-! DEFINITION. Commands of Keeper: one meaning for each row. -/
namespace Sys2Proof.Machine

/-- FIRMWARE (R648). -/
def execFirmware (yw inbuf : Bool) (len : Nat) (fetched : Option (List Byte)) (s : State) : Answer :=
  .next (s.updateBy yw 1 inbuf len fetched)

/-- STORE_IMAGE (R649). -/
def execStoreImage (yw inbuf : Bool) (len : Nat) (fetched : Option (List Byte)) (s : State) : Answer :=
  .next (s.updateBy yw 2 inbuf len fetched)

/-- ERASE_IMAGE (R650). -/
def execEraseImage (yw inbuf : Bool) (len : Nat) (fetched : Option (List Byte)) (s : State) : Answer :=
  .next (s.updateBy yw 3 inbuf len fetched)

/-- TESTED_SET (R649). -/
def execTestedSet (yw inbuf : Bool) (len : Nat) (fetched : Option (List Byte)) (s : State) : Answer :=
  .next (s.updateBy yw 4 inbuf len fetched)

/-- POLICY (R649). -/
def execPolicy (yw inbuf : Bool) (len : Nat) (fetched : Option (List Byte)) (s : State) : Answer :=
  .next (s.updateBy yw 5 inbuf len fetched)

/-- KEY_CERT (R627). -/
def execKeyCert (yw inbuf : Bool) (len : Nat) (fetched : Option (List Byte)) (s : State) : Answer :=
  .next (s.updateBy yw 6 inbuf len fetched)

/-- LIFECYCLE (R636). -/
def execLifecycle (yw inbuf : Bool) (len : Nat) (fetched : Option (List Byte)) (s : State) : Answer :=
  .next (s.updateBy yw 7 inbuf len fetched)

/-- DEBUG (R639). -/
def execDebug (yw inbuf : Bool) (len : Nat) (fetched : Option (List Byte)) (s : State) : Answer :=
  .next (s.updateBy yw 8 inbuf len fetched)

/-- KEEPER_STORE_DONE (R651). -/
def execKeeperStoreDone (s : State) : Answer := .next s.storeDone

/-- SESSION_EXPIRY (R640). -/
def execSessionExpiry (s : State) : Answer := .next s.sessionExpiry

/-- SESSION_CLOSE (R640). -/
def execSessionClose (yw : Bool) (s : State) : Answer := .next (s.put yw 0x1C060 0x80000000)

/-- DEBUG_HALT (R641). -/
def execDebugHalt (yw : Bool) (g : Nat) (halt : Bool) (s : State) : Answer :=
  .next (s.put yw 0x1C068 (dbgSelWord g halt false))

/-- DEBUG_STEP (R641). -/
def execDebugStep (yw : Bool) (g : Nat) (e : Meets) (s : State) : Answer :=
  .next (s.writeWord ⟨b2n yw, none, e⟩ 0x1C068 15 (dbgSelWord g true true))

/-- DEBUG_DATA (R641). -/
def execDebugData (yw write : Bool) (w : Word) (s : State) : Answer :=
  .next (if write then s.put yw 0x1C070 w else s.readBy yw 0x1C070)

/-- TAP_SHIFT (R643). -/
def execTapShift (yw : Bool) (w : Word) (s : State) : Answer := .next (s.put yw 0x1C080 w)

end Sys2Proof.Machine
end

