-- ==== Sys2Proof/Machine/ExecModule.lean ====
section
/-! DEFINITION. Commands of bring-up, module monitors, PCI Express link and wake: one meaning for each row. -/
namespace Sys2Proof.Machine

/-- BRINGUP_COMPLETE (R52). -/
def execBringupComplete (soundA soundB : Bool) (selfTest : Nat) (units : List Nat) (rows : List (Nat × Nat)) (uf mW :
    Nat) (picks : List Nat) (s : State) : Answer :=
  .next (s.bringUpComplete soundA soundB selfTest units rows uf mW picks)

/-- BRINGUP_TIMEOUT (R61). -/
def execBringupTimeout (stage : Nat) (s : State) : Answer := .next (s.bringUpTimeout stage)

/-- TEMP_UPDATE (R744). -/
def execTempUpdate (t : Int) (s : State) : Answer := .next (s.tempUpdate t)

/-- RATE_WINDOW (R38). -/
def execRateWindow (c rate : Nat) (s : State) : Answer := .next (s.rateWindow c rate)

/-- PERST_DEASSERT (R596). -/
def execPerstDeassert (s : State) : Answer := .next s.perstHigh

/-- HOST_LINK_RESET (R600). -/
def execHostLinkReset (kind : Nat) (s : State) : Answer := .next (s.hostReset kind)

/-- HOST_WAKE (R751). -/
def execHostWake (s : State) : Answer := .next s.hostWake

/-- WAKE_RELEASE (R54). -/
def execWakeRelease (s : State) : Answer := .next s.wakeRelease

/-- WAKE_UP_PATTERN (R159). -/
def execWakeUpPattern (ns : List Nat) (s : State) : Answer := .next (s.wakePattern ns)

/-- WAKE_FRAME (R160). -/
def execWakeFrame (n ident dlc : Nat) (data : List Byte) (s : State) : Answer := .next (s.wakeFrame n ident dlc data)

/-- WUF_ERRCNT (R162). -/
def execWufErrcnt (n : Nat) (s : State) : Answer := .next (s.wufErrcnt n)

/-- PCIE_LINK_UP (R54). -/
def execPcieLinkUp (s : State) : Answer := .next s.linkL0

/-- D3HOT_ENTRY (R590). -/
def execD3hotEntry (d3 bme pmeEn : Bool) (s : State) : Answer := .next (s.d3Entry d3 bme pmeEn)

/-- LINK_L1_ENTRY (R593). -/
def execLinkL1Entry (s : State) : Answer := .next s.l1Enter

/-- MSIX_TABLE_WRITE (R601); with `fnMask` the write is of the function mask in the MSI-X capability instead. -/
def execMsixTableWrite (v addr data : Nat) (masked : Bool) (fnMask : Option Bool) (s : State) : Answer :=
  .next <|
    match fnMask with
    | some m => s.fnMaskWrite m
    | none => s.msixWrite v addr data masked

/-- WUF_FRAME_DECODED (R162). -/
def execWufFrameDecoded (n : Nat) (valid error : Bool) (s : State) : Answer := .next (s.wufFrame n valid error)

end Sys2Proof.Machine
end

