-- ==== Sys2Proof/Machine/ExecPower.lean ====
section
/-! DEFINITION. Commands of power entry: one meaning for each row. -/
namespace Sys2Proof.Machine

/-- FEED_IN_RANGE (R655). -/
def execFeedInRange (feed mV : Nat) (s : State) : Answer := .next (s.feedIn feed mV)

/-- FEED_OUT_OF_RANGE (R655). -/
def execFeedOutOfRange (feed mV : Nat) (s : State) : Answer := .next (s.feedOut feed mV)

/-- PWR_RESTORE (R671). -/
def execPwrRestore (s : State) : Answer := .next s.pwrRestore

/-- REVERSE_TURN_OFF (R657). -/
def execReverseTurnOff (feed : Nat) (s : State) : Answer := .next (s.reverseOff feed)

/-- SEAT_MADE (R653). -/
def execSeatMade (pin : Nat) (s : State) : Answer := .next (s.seatMade pin)

/-- SEAT_DEBOUNCE_DONE (R653). -/
def execSeatDebounceDone (s : State) : Answer := .next s.seatDone

/-- SEAT_OPEN (R654). -/
def execSeatOpen (pin : Nat) (s : State) : Answer := .next (s.seatOpen pin)

/-- INRUSH_COMPLETE (R661). -/
def execInrushComplete (mV mA : Nat) (s : State) : Answer := .next (s.inrushDone mV mA)

/-- INRUSH_TIMEOUT (R662). -/
def execInrushTimeout (mA : Nat) (s : State) : Answer := .next (s.inrushTimeout mA)

/-- INPUT_LIMIT (R662). -/
def execInputLimit (mA : Nat) (s : State) : Answer := .next (s.inputLimit mA)

/-- INPUT_FAULT_TIMER (R662). -/
def execInputFaultTimer (mA : Nat) (s : State) : Answer := .next (s.inputFaultTimer mA)

/-- INPUT_SHORT (R662). -/
def execInputShort (mA : Nat) (s : State) : Answer := .next (s.inputShort mA)

/-- INPUT_RETRY_END (R663). -/
def execInputRetryEnd (s : State) : Answer := .next s.inputRetryEnd

/-- INPUT_RETRIES_RESET (R664). -/
def execInputRetriesReset (s : State) : Answer := .next s.inputRetriesReset

/-- INPUT_PASS_FAULT (R666). -/
def execInputPassFault (s : State) : Answer := .next s.inputPassFault

/-- MOD_PG_ASSERT (R668). -/
def execModPgAssert (s : State) : Answer := .next s.modPgAssert

/-- HOLDUP_EXHAUSTED (R673). -/
def execHoldupExhausted (mV : Nat) (s : State) : Answer := .next (s.holdupExhausted mV)

/-- INPUT_LIMIT_END (R662). -/
def execInputLimitEnd (mA : Nat) (s : State) : Answer := .next (s.inputLimitEnd mA)

/-- RAIL_OUT_OF_WINDOW (R668). -/
def execRailOutOfWindow (s : State) : Answer := .next s.railOut

/-- FEEDS_REMOVED (R665). -/
def execFeedsRemoved (s : State) : Answer := .next s.feedsRemoved

end Sys2Proof.Machine
end

