-- ==== Sys2Proof/Machine/ExecRegs.lean ====
section
/-! DEFINITION. Commands of register and BAR2 accesses: one meaning for each row. -/
namespace Sys2Proof.Machine

/-- REGISTER_WRITE (R17). -/
def execRegisterWrite (yw : Bool) (off be : Nat) (w : Word) (fetched : Option (List Byte)) (e : Meets) (s : State) :
    Answer :=
  .next (s.writeWord ⟨b2n yw, fetched, e⟩ off be w)

/-- LATCHED_READ (R733). -/
def execLatchedRead (yw : Bool) (off : Nat) (s : State) : Answer := .next (s.readBy yw off)

/-- COUNTER_READ_CLEAR (R735). -/
def execCounterReadClear (yw : Bool) (off : Nat) (s : State) : Answer := .next (s.readBy yw off)

/-- STICKY_SET (R18). -/
def execStickySet (yw : Bool) (off : Nat) (w : Word) (s : State) : Answer := .next (s.aliasBy 1 yw off w)

/-- STICKY_CLEAR (R219). -/
def execStickyClear (yw : Bool) (off : Nat) (w : Word) (s : State) : Answer := .next (s.aliasBy 2 yw off w)

/-- BAR2_WRITE (R227). -/
def execBar2Write (a be : Nat) (w : Word) (s : State) : Answer := .next (s.bar2Write a be w)

/-- BAR2_READ (R236). -/
def execBar2Read (a : Nat) (e : Ecc) (s : State) : Answer := .next (s.bar2Read a e)

/-- MOD_CMDQ_TAIL (R75). -/
def execCmdqTail (yw : Bool) (w : Word) (s : State) : Answer := .next (s.put yw 0x10C w)

/-- MOD_CMDQ_CFG (R76). -/
def execCmdqCfg (yw : Bool) (w : Word) (s : State) : Answer := .next (s.put yw 0x108 w)

end Sys2Proof.Machine
end

