-- ==== Sys2Proof/Machine/ExecSpar.lean ====
section
/-! DEFINITION. Commands of port power: one meaning for each row. -/
namespace Sys2Proof.Machine

/-- OUTPUT_SEQUENCE_START (R683). -/
def execOutputSequenceStart (s : State) : Answer := .next s.sequenceStart

/-- PD_DETECTED (R680). -/
def execPdDetected (q cls : Nat) (s : State) : Answer := .next (s.detect q (some cls))

/-- DETECT_REPEAT (R680). -/
def execDetectRepeat (q : Nat) (cls : Option Nat) (s : State) : Answer := .next (s.detect q cls)

/-- CLASS_RETRY (R680). -/
def execClassRetry (q : Nat) (cls : Option Nat) (s : State) : Answer := .next (s.classRetry q cls)

/-- PORT_INRUSH_COMPLETE (R685). -/
def execPortInrushComplete (q mV mA : Nat) (s : State) : Answer := .next (s.portInrushComplete q mV mA)

/-- PORT_INRUSH_TIMEOUT (R685). -/
def execPortInrushTimeout (q mA : Nat) (s : State) : Answer := .next (s.portInrushTimeout q mA)

/-- PORT_LIMIT (R686). -/
def execPortLimit (q mV mA : Nat) (s : State) : Answer := .next (s.portLimit q mV mA)

/-- PORT_FAULT_TIMER (R686). -/
def execPortFaultTimer (q mA : Nat) (s : State) : Answer := .next (s.portFaultTimer q mA)

/-- PORT_SHORT (R687). -/
def execPortShort (q mA : Nat) (s : State) : Answer := .next (s.portShort q mA)

/-- PORT_RETRY_END (R690). -/
def execPortRetryEnd (q : Nat) (s : State) : Answer := .next (s.portRetryEnd q)

/-- PORT_PG (R688). -/
def execPortPg (q : Nat) (on : Bool) (mV mA : Nat) (s : State) : Answer := .next (s.portPg q on mV mA)

/-- PORT_RETRIES_RESET (R691). -/
def execPortRetriesReset (q : Nat) (s : State) : Answer := .next (s.portRetriesReset q)

/-- PORT_PASS_FAULT (R693). -/
def execPortPassFault (q : Nat) (s : State) : Answer := .next (s.portPassFault q)

/-- LIMIT_SHED (R696). -/
def execLimitShed (s : State) : Answer := .next s.limitShed

/-- PORT_LIMIT_END (R686). -/
def execPortLimitEnd (q mV mA : Nat) (s : State) : Answer := .next (s.portLimitEnd q mV mA)

end Sys2Proof.Machine
end

