-- ==== Sys2Proof/Machine/ExecYewirak.lean ====
section
/-! DEFINITION. Commands of the Yewirak link: one meaning for each row. -/
namespace Sys2Proof.Machine

/-- YW_LINK_UP (R617). -/
def execYwLinkUp (s : State) : Answer := .next (s.ywLink true)

/-- YW_LINK_DOWN (R617). -/
def execYwLinkDown (s : State) : Answer := .next (s.ywLink false)

/-- YW_FRAME_ERROR (R619). -/
def execYwFrameError (s : State) : Answer := .next s.ywFrameError

/-- YW_IDENTITY (R624). -/
def execYwIdentity (seq : Nat) (s : State) : Answer := .next (s.ywRequest 0x01 seq ⟨1, none, .none⟩ [])

/-- YW_STATUS (R623). -/
def execYwStatus (seq : Nat) (s : State) : Answer := .next (s.ywRequest 0x02 seq ⟨1, none, .none⟩ [])

/-- YW_READ (R623). -/
def execYwRead (seq off n : Nat) (s : State) : Answer :=
  .next (s.ywRequest 0x10 seq ⟨1, none, .none⟩ (leBytes 4 off ++ leBytes 4 n))

/-- YW_WRITE (R623). -/
def execYwWrite (seq off : Nat) (ws : List Word) (fetched : Option (List Byte)) (e : Meets) (s : State) : Answer :=
  .next (s.ywRequest 0x11 seq ⟨1, fetched, e⟩ (leBytes 4 off ++ leBytes 4 ws.length ++ wordsBytes ws))

/-- YW_COMMAND (R65). -/
def execYwCommand (seq : Nat) (b : List Byte) (s : State) : Answer := .next (s.ywRequest 0x20 seq ⟨1, none, .none⟩ b)

/-- YW_TIME (R623). -/
def execYwTime (seq : Nat) (s : State) : Answer := .next (s.ywRequest 0x30 seq ⟨1, none, .none⟩ [])

/-- YW_WAKE (R623). -/
def execYwWake (seq : Nat) (s : State) : Answer := .next (s.ywRequest 0x40 seq ⟨1, none, .none⟩ [])

/-- YW_BAD_REQUEST (R623). -/
def execYwBadRequest (type seq : Nat) (b : List Byte) (s : State) : Answer :=
  .next (s.ywRequest type seq ⟨1, none, .none⟩ b)

end Sys2Proof.Machine
end

