-- ==== Sys2Proof/Machine/Dispatch.lean ====
section
/-! DEFINITION. The meaning of each command: one direct call for each constructor. -/
namespace Sys2Proof.Machine

def exec (i : Instr) (s : State) : Host.Outcome State Fault Refusal :=
  match i with
  | .registerWrite yw off be w fetched e => Sys2Proof.Machine.execRegisterWrite yw off be w fetched e s
  | .latchedRead yw off => Sys2Proof.Machine.execLatchedRead yw off s
  | .counterReadClear yw off => Sys2Proof.Machine.execCounterReadClear yw off s
  | .stickySet yw off w => Sys2Proof.Machine.execStickySet yw off w s
  | .stickyClear yw off w => Sys2Proof.Machine.execStickyClear yw off w s
  | .bar2Write a be w => Sys2Proof.Machine.execBar2Write a be w s
  | .bar2Read a e => Sys2Proof.Machine.execBar2Read a e s
  | .cmdqTail yw w => Sys2Proof.Machine.execCmdqTail yw w s
  | .cmdqCfg yw w => Sys2Proof.Machine.execCmdqCfg yw w s
  | .commandFetch entry => Sys2Proof.Machine.execCommandFetch entry s
  | .nop => Sys2Proof.Machine.execNop s
  | .loadStream picks header body => Sys2Proof.Machine.execLoadStream picks header body s
  | .streamValidation t => Sys2Proof.Machine.execStreamValidation t s
  | .autoloadCopy => Sys2Proof.Machine.execAutoloadCopy s
  | .loaderHoldRelease t => Sys2Proof.Machine.execLoaderHoldRelease t s
  | .reloadCluster header body => Sys2Proof.Machine.execReloadCluster header body s
  | .clusterStage6 c => Sys2Proof.Machine.execClusterStage6 c s
  | .holdMaxExpiry c => Sys2Proof.Machine.execHoldMaxExpiry c s
  | .unload => Sys2Proof.Machine.execUnload s
  | .enterStandby => Sys2Proof.Machine.execEnterStandby s
  | .resume => Sys2Proof.Machine.execResume s
  | .enterSleep => Sys2Proof.Machine.execEnterSleep s
  | .enterService => Sys2Proof.Machine.execEnterService s
  | .leaveService => Sys2Proof.Machine.execLeaveService s
  | .enterTest => Sys2Proof.Machine.execEnterTest s
  | .leaveTest => Sys2Proof.Machine.execLeaveTest s
  | .moduleReset => Sys2Proof.Machine.execModuleReset s
  | .restep => Sys2Proof.Machine.execRestep s
  | .busRetry => Sys2Proof.Machine.execBusRetry s
  | .bufUnpark => Sys2Proof.Machine.execBufUnpark s
  | .sparOn => Sys2Proof.Machine.execSparOn s
  | .sparOff => Sys2Proof.Machine.execSparOff s
  | .sparClear damaged => Sys2Proof.Machine.execSparClear damaged s
  | .spareApprove => Sys2Proof.Machine.execSpareApprove s
  | .auditSnapshot => Sys2Proof.Machine.execAuditSnapshot s
  | .calCommit => Sys2Proof.Machine.execCalCommit s
  | .feedInRange feed mV => Sys2Proof.Machine.execFeedInRange feed mV s
  | .feedOutOfRange feed mV => Sys2Proof.Machine.execFeedOutOfRange feed mV s
  | .pwrRestore => Sys2Proof.Machine.execPwrRestore s
  | .reverseTurnOff feed => Sys2Proof.Machine.execReverseTurnOff feed s
  | .seatMade pin => Sys2Proof.Machine.execSeatMade pin s
  | .seatDebounceDone => Sys2Proof.Machine.execSeatDebounceDone s
  | .seatOpen pin => Sys2Proof.Machine.execSeatOpen pin s
  | .inrushComplete mV mA => Sys2Proof.Machine.execInrushComplete mV mA s
  | .inrushTimeout mA => Sys2Proof.Machine.execInrushTimeout mA s
  | .inputLimit mA => Sys2Proof.Machine.execInputLimit mA s
  | .inputFaultTimer mA => Sys2Proof.Machine.execInputFaultTimer mA s
  | .inputShort mA => Sys2Proof.Machine.execInputShort mA s
  | .inputRetryEnd => Sys2Proof.Machine.execInputRetryEnd s
  | .inputRetriesReset => Sys2Proof.Machine.execInputRetriesReset s
  | .inputPassFault => Sys2Proof.Machine.execInputPassFault s
  | .modPgAssert => Sys2Proof.Machine.execModPgAssert s
  | .holdupExhausted mV => Sys2Proof.Machine.execHoldupExhausted mV s
  | .bringupComplete soundA soundB selfTest units rows uf mW picks => Sys2Proof.Machine.execBringupComplete soundA soundB selfTest units rows uf mW picks s
  | .bringupTimeout stage => Sys2Proof.Machine.execBringupTimeout stage s
  | .tempUpdate t => Sys2Proof.Machine.execTempUpdate t s
  | .rateWindow c rate => Sys2Proof.Machine.execRateWindow c rate s
  | .perstDeassert => Sys2Proof.Machine.execPerstDeassert s
  | .hostLinkReset kind => Sys2Proof.Machine.execHostLinkReset kind s
  | .hostWake => Sys2Proof.Machine.execHostWake s
  | .wakeRelease => Sys2Proof.Machine.execWakeRelease s
  | .txdTimeout d => Sys2Proof.Machine.execTxdTimeout d s
  | .busDom n => Sys2Proof.Machine.execBusDom n s
  | .wakeUpPattern ns => Sys2Proof.Machine.execWakeUpPattern ns s
  | .wakeFrame n ident dlc data => Sys2Proof.Machine.execWakeFrame n ident dlc data s
  | .wufErrcnt n => Sys2Proof.Machine.execWufErrcnt n s
  | .nodeTableStage yw ix k w => Sys2Proof.Machine.execNodeTableStage yw ix k w s
  | .nodeTableCommit yw ix w => Sys2Proof.Machine.execNodeTableCommit yw ix w s
  | .integrationComplete n => Sys2Proof.Machine.execIntegrationComplete n s
  | .slotArbitration n => Sys2Proof.Machine.execSlotArbitration n s
  | .arbitrationLost n => Sys2Proof.Machine.execArbitrationLost n s
  | .busFrameReceived picks n age sig f => Sys2Proof.Machine.execBusFrameReceived picks n age sig f s
  | .busFrameSent picks n age tdcv => Sys2Proof.Machine.execBusFrameSent picks n age tdcv s
  | .busError n err => Sys2Proof.Machine.execBusError n err s
  | .protocolException e => Sys2Proof.Machine.execProtocolException e s
  | .delayedRecoveryStart n => Sys2Proof.Machine.execDelayedRecoveryStart n s
  | .busCtrlRecover yw n => Sys2Proof.Machine.execBusCtrlRecover yw n s
  | .busOn n => Sys2Proof.Machine.execBusOn n s
  | .slotLoad n k ecc => Sys2Proof.Machine.execSlotLoad n k ecc s
  | .lock yw ix => Sys2Proof.Machine.execLock yw ix s
  | .release yw ix => Sys2Proof.Machine.execRelease yw ix s
  | .ack yw ix => Sys2Proof.Machine.execAck yw ix s
  | .pop yw ix => Sys2Proof.Machine.execPop yw ix s
  | .commit yw ix => Sys2Proof.Machine.execCommit yw ix s
  | .trigger yw ix => Sys2Proof.Machine.execTrigger yw ix s
  | .clearOverrun yw onFifo ix => Sys2Proof.Machine.execClearOverrun yw onFifo ix s
  | .rowSubstitution b r => Sys2Proof.Machine.execRowSubstitution b r s
  | .waitingGrant picks port => Sys2Proof.Machine.execWaitingGrant picks port s
  | .headEscalation p => Sys2Proof.Machine.execHeadEscalation p s
  | .heldFrameCredit h => Sys2Proof.Machine.execHeldFrameCredit h s
  | .transitLate id => Sys2Proof.Machine.execTransitLate id s
  | .readExact yw c ix => Sys2Proof.Machine.execReadExact yw c ix s
  | .readMasked yw c shadow ix => Sys2Proof.Machine.execReadMasked yw c shadow ix s
  | .addExact yw c ix => Sys2Proof.Machine.execAddExact yw c ix s
  | .setExact yw c ix => Sys2Proof.Machine.execSetExact yw c ix s
  | .delExact yw c ix => Sys2Proof.Machine.execDelExact yw c ix s
  | .moveExact yw c ix => Sys2Proof.Machine.execMoveExact yw c ix s
  | .writeShadow yw c ix => Sys2Proof.Machine.execWriteShadow yw c ix s
  | .copyToShadow yw c => Sys2Proof.Machine.execCopyToShadow yw c s
  | .copyToShadowDone c => Sys2Proof.Machine.execCopyToShadowDone c s
  | .filterCommit yw c flip => Sys2Proof.Machine.execFilterCommit yw c flip s
  | .abandon yw c => Sys2Proof.Machine.execAbandon yw c s
  | .deliveryPoint id k ecc => Sys2Proof.Machine.execDeliveryPoint id k ecc s
  | .ethFrameReceived picks p phyErr smdErr fcsErr frags age b => Sys2Proof.Machine.execEthFrameReceived picks p phyErr smdErr fcsErr frags age b s
  | .pauseReceived p quanta => Sys2Proof.Machine.execPauseReceived p quanta s
  | .pfcReceived p vector times => Sys2Proof.Machine.execPfcReceived p vector times s
  | .pauseEffect p => Sys2Proof.Machine.execPauseEffect p s
  | .pauseExpiry p t => Sys2Proof.Machine.execPauseExpiry p t s
  | .ethFrameStart p ecc => Sys2Proof.Machine.execEthFrameStart p ecc s
  | .ethFrameSent p age underrun => Sys2Proof.Machine.execEthFrameSent p age underrun s
  | .pauseTxRepeat p => Sys2Proof.Machine.execPauseTxRepeat p s
  | .linkUp p rcvr => Sys2Proof.Machine.execLinkUp p rcvr s
  | .linkDown p => Sys2Proof.Machine.execLinkDown p s
  | .verifyAttempt p ok => Sys2Proof.Machine.execVerifyAttempt p ok s
  | .lpiEnter p rx => Sys2Proof.Machine.execLpiEnter p rx s
  | .lpiExit p rx => Sys2Proof.Machine.execLpiExit p rx s
  | .gateBoundary p => Sys2Proof.Machine.execGateBoundary p s
  | .gateCommit yw p w => Sys2Proof.Machine.execGateCommit yw p w s
  | .gateSwitch p => Sys2Proof.Machine.execGateSwitch p s
  | .launchDue p ecc => Sys2Proof.Machine.execLaunchDue p ecc s
  | .ptpSyncReceived p domain seq twoStep origin correction log age => Sys2Proof.Machine.execPtpSyncReceived p domain seq twoStep origin correction log age s
  | .ptpFollowUpReceived p domain seq origin correction tlv => Sys2Proof.Machine.execPtpFollowUpReceived p domain seq origin correction tlv s
  | .pdelayReqReceived p domain seq correction age who => Sys2Proof.Machine.execPdelayReqReceived p domain seq correction age who s
  | .pdelayRespReceived p domain m => Sys2Proof.Machine.execPdelayRespReceived p domain m s
  | .delayReqReceived p domain seq correction age who => Sys2Proof.Machine.execDelayReqReceived p domain seq correction age who s
  | .delayRespReceived p domain m => Sys2Proof.Machine.execDelayRespReceived p domain m s
  | .syncTx p => Sys2Proof.Machine.execSyncTx p s
  | .delayRequestTx p => Sys2Proof.Machine.execDelayRequestTx p s
  | .ppsInEdge e freq => Sys2Proof.Machine.execPpsInEdge e freq s
  | .holdoffEnd p => Sys2Proof.Machine.execHoldoffEnd p s
  | .sourceLost => Sys2Proof.Machine.execSourceLost s
  | .bcnRate yw high w => Sys2Proof.Machine.execBcnRate yw high w s
  | .bcnAdj yw high w => Sys2Proof.Machine.execBcnAdj yw high w s
  | .bcnCfg yw w => Sys2Proof.Machine.execBcnCfg yw w s
  | .bcnSave yw w => Sys2Proof.Machine.execBcnSave yw w s
  | .ppsOut => Sys2Proof.Machine.execPpsOut s
  | .tsqRead yw p => Sys2Proof.Machine.execTsqRead yw p s
  | .cycleStart t => Sys2Proof.Machine.execCycleStart t s
  | .windowStart t => Sys2Proof.Machine.execWindowStart t s
  | .windowEnd t => Sys2Proof.Machine.execWindowEnd t s
  | .exclusiveTrigger t ix => Sys2Proof.Machine.execExclusiveTrigger t ix s
  | .referenceReceived n ident age => Sys2Proof.Machine.execReferenceReceived n ident age s
  | .backupTakeover n => Sys2Proof.Machine.execBackupTakeover n s
  | .quarantinePop yw c => Sys2Proof.Machine.execQuarantinePop yw c s
  | .resync yw ix => Sys2Proof.Machine.execResync yw ix s
  | .clear yw ix => Sys2Proof.Machine.execClear yw ix s
  | .engineRestart yw g => Sys2Proof.Machine.execEngineRestart yw g s
  | .engineSubstitution g timeout => Sys2Proof.Machine.execEngineSubstitution g timeout s
  | .interruptEntry g late => Sys2Proof.Machine.execInterruptEntry g late s
  | .illegalInstruction g => Sys2Proof.Machine.execIllegalInstruction g s
  | .add g rd ra rb => Sys2Proof.Machine.execAdd g rd ra rb s
  | .sub g rd ra rb => Sys2Proof.Machine.execSub g rd ra rb s
  | .adc g rd ra rb => Sys2Proof.Machine.execAdc g rd ra rb s
  | .sbc g rd ra rb => Sys2Proof.Machine.execSbc g rd ra rb s
  | .and g rd ra rb => Sys2Proof.Machine.execAnd g rd ra rb s
  | .or g rd ra rb => Sys2Proof.Machine.execOr g rd ra rb s
  | .xor g rd ra rb => Sys2Proof.Machine.execXor g rd ra rb s
  | .andn g rd ra rb => Sys2Proof.Machine.execAndn g rd ra rb s
  | .sll g rd ra rb => Sys2Proof.Machine.execSll g rd ra rb s
  | .srl g rd ra rb => Sys2Proof.Machine.execSrl g rd ra rb s
  | .sra g rd ra rb => Sys2Proof.Machine.execSra g rd ra rb s
  | .rot g rd ra rb => Sys2Proof.Machine.execRot g rd ra rb s
  | .mul g rd ra rb => Sys2Proof.Machine.execMul g rd ra rb s
  | .mulhs g rd ra rb => Sys2Proof.Machine.execMulhs g rd ra rb s
  | .mulhu g rd ra rb => Sys2Proof.Machine.execMulhu g rd ra rb s
  | .div g rd ra rb => Sys2Proof.Machine.execDiv g rd ra rb s
  | .divu g rd ra rb => Sys2Proof.Machine.execDivu g rd ra rb s
  | .rem g rd ra rb => Sys2Proof.Machine.execRem g rd ra rb s
  | .remu g rd ra rb => Sys2Proof.Machine.execRemu g rd ra rb s
  | .neg g rd ra => Sys2Proof.Machine.execNeg g rd ra s
  | .abs g rd ra => Sys2Proof.Machine.execAbs g rd ra s
  | .abss g rd ra => Sys2Proof.Machine.execAbss g rd ra s
  | .adds g rd ra rb => Sys2Proof.Machine.execAdds g rd ra rb s
  | .subs g rd ra rb => Sys2Proof.Machine.execSubs g rd ra rb s
  | .clz g rd ra => Sys2Proof.Machine.execClz g rd ra s
  | .brev g rd ra => Sys2Proof.Machine.execBrev g rd ra s
  | .bswap g rd ra => Sys2Proof.Machine.execBswap g rd ra s
  | .ext g rd ra pos len sign => Sys2Proof.Machine.execExt g rd ra pos len sign s
  | .ins g rd ra pos len => Sys2Proof.Machine.execIns g rd ra pos len s
  | .addi g rd ra v => Sys2Proof.Machine.execAddi g rd ra v s
  | .andi g rd ra v => Sys2Proof.Machine.execAndi g rd ra v s
  | .ori g rd ra v => Sys2Proof.Machine.execOri g rd ra v s
  | .xori g rd ra v => Sys2Proof.Machine.execXori g rd ra v s
  | .shi g rd ra kind n => Sys2Proof.Machine.execShi g rd ra kind n s
  | .lui g rd v => Sys2Proof.Machine.execLui g rd v s
  | .cmp g ra rb => Sys2Proof.Machine.execCmp g ra rb s
  | .cmpi g ra v => Sys2Proof.Machine.execCmpi g ra v s
  | .tst g ra rb => Sys2Proof.Machine.execTst g ra rb s
  | .ldw g rd ra v e => Sys2Proof.Machine.execLdw g rd ra v e s
  | .ldh g rd ra v e => Sys2Proof.Machine.execLdh g rd ra v e s
  | .ldhu g rd ra v e => Sys2Proof.Machine.execLdhu g rd ra v e s
  | .ldb g rd ra v e => Sys2Proof.Machine.execLdb g rd ra v e s
  | .ldbu g rd ra v e => Sys2Proof.Machine.execLdbu g rd ra v e s
  | .stw g rd ra v => Sys2Proof.Machine.execStw g rd ra v s
  | .sth g rd ra v => Sys2Proof.Machine.execSth g rd ra v s
  | .stb g rd ra v => Sys2Proof.Machine.execStb g rd ra v s
  | .ldd g rd ra v e => Sys2Proof.Machine.execLdd g rd ra v e s
  | .std g rd ra v => Sys2Proof.Machine.execStd g rd ra v s
  | .swap g rd ra rb e => Sys2Proof.Machine.execSwap g rd ra rb e s
  | .fadd g rd ra rb e => Sys2Proof.Machine.execFadd g rd ra rb e s
  | .fand g rd ra rb e => Sys2Proof.Machine.execFand g rd ra rb e s
  | .for_ g rd ra rb e => Sys2Proof.Machine.execFor g rd ra rb e s
  | .fxor g rd ra rb e => Sys2Proof.Machine.execFxor g rd ra rb e s
  | .cas g rd ra rb e => Sys2Proof.Machine.execCas g rd ra rb e s
  | .bc g cond off => Sys2Proof.Machine.execBc g cond off s
  | .cbz g ra off => Sys2Proof.Machine.execCbz g ra off s
  | .cbnz g ra off => Sys2Proof.Machine.execCbnz g ra off s
  | .jmp g off => Sys2Proof.Machine.execJmp g off s
  | .call g off => Sys2Proof.Machine.execCall g off s
  | .jr g ra => Sys2Proof.Machine.execJr g ra s
  | .callr g ra => Sys2Proof.Machine.execCallr g ra s
  | .loop g ra len => Sys2Proof.Machine.execLoop g ra len s
  | .loopi g count len => Sys2Proof.Machine.execLoopi g count len s
  | .lexit g k => Sys2Proof.Machine.execLexit g k s
  | .sysNop g => Sys2Proof.Machine.execSysNop g s
  | .wfe g => Sys2Proof.Machine.execWfe g s
  | .wfeWake g => Sys2Proof.Machine.execWfeWake g s
  | .sev g => Sys2Proof.Machine.execSev g s
  | .reti g late => Sys2Proof.Machine.execReti g late s
  | .trap g v => Sys2Proof.Machine.execTrap g v s
  | .break_ g v => Sys2Proof.Machine.execBreak g v s
  | .csrr g rd num => Sys2Proof.Machine.execCsrr g rd num s
  | .csrw g ra num => Sys2Proof.Machine.execCsrw g ra num s
  | .csrs g ra num => Sys2Proof.Machine.execCsrs g ra num s
  | .csrc g ra num => Sys2Proof.Machine.execCsrc g ra num s
  | .ei g => Sys2Proof.Machine.execEi g s
  | .di g => Sys2Proof.Machine.execDi g s
  | .icRaise g ra => Sys2Proof.Machine.execIcRaise g ra s
  | .icPclr g ra => Sys2Proof.Machine.execIcPclr g ra s
  | .ident g rd ra rb => Sys2Proof.Machine.execIdent g rd ra rb s
  | .image g rd ra rb => Sys2Proof.Machine.execImage g rd ra rb s
  | .checkpoint g rd ra rb => Sys2Proof.Machine.execCheckpoint g rd ra rb s
  | .rate g rd ra rb => Sys2Proof.Machine.execRate g rd ra rb s
  | .take g rd ra rb => Sys2Proof.Machine.execTake g rd ra rb s
  | .frameRelease g rd ra rb => Sys2Proof.Machine.execFrameRelease g rd ra rb s
  | .hdr g rd ra rb => Sys2Proof.Machine.execHdr g rd ra rb s
  | .data g rd ra rb => Sys2Proof.Machine.execData g rd ra rb s
  | .copy g rd ra rb => Sys2Proof.Machine.execCopy g rd ra rb s
  | .submit g rd ra rb => Sys2Proof.Machine.execSubmit g rd ra rb s
  | .done g rd ra rb => Sys2Proof.Machine.execDone g rd ra rb s
  | .now g rd ra rb => Sys2Proof.Machine.execNow g rd ra rb s
  | .sechi g rd ra rb => Sys2Proof.Machine.execSechi g rd ra rb s
  | .frac g rd ra rb => Sys2Proof.Machine.execFrac g rd ra rb s
  | .waitUntil g rd ra rb => Sys2Proof.Machine.execWaitUntil g rd ra rb s
  | .waitUntilWake g => Sys2Proof.Machine.execWaitUntilWake g s
  | .taskDone g rd ra rb => Sys2Proof.Machine.execTaskDone g rd ra rb s
  | .tsqPop g rd ra rb => Sys2Proof.Machine.execTsqPop g rd ra rb s
  | .tsqStamp g rd ra rb => Sys2Proof.Machine.execTsqStamp g rd ra rb s
  | .crc g j rd ra rb => Sys2Proof.Machine.execCrc g j rd ra rb s
  | .cust g unit fn rd ra rb imm => Sys2Proof.Machine.execCust g unit fn rd ra rb imm s
  | .tileFrameSubmit picks c d => Sys2Proof.Machine.execTileFrameSubmit picks c d s
  | .tileSignal c k => Sys2Proof.Machine.execTileSignal c k s
  | .irqSpendSet yw k w => Sys2Proof.Machine.execIrqSpendSet yw k w s
  | .irqSpendClear yw k w => Sys2Proof.Machine.execIrqSpendClear yw k w s
  | .irqSrcWrite yw ix w => Sys2Proof.Machine.execIrqSrcWrite yw ix w s
  | .irqEqEnable yw q w => Sys2Proof.Machine.execIrqEqEnable yw q w s
  | .irqEqHead yw q w => Sys2Proof.Machine.execIrqEqHead yw q w s
  | .moderationTimer q => Sys2Proof.Machine.execModerationTimer q s
  | .hostSleepReq yw w => Sys2Proof.Machine.execHostSleepReq yw w s
  | .wakeHoldExpiry => Sys2Proof.Machine.execWakeHoldExpiry s
  | .heldRecordsFlush => Sys2Proof.Machine.execHeldRecordsFlush s
  | .l1Exit => Sys2Proof.Machine.execL1Exit s
  | .hostQTail yw q w => Sys2Proof.Machine.execHostQTail yw q w s
  | .hostQCfg yw q w => Sys2Proof.Machine.execHostQCfg yw q w s
  | .txDescriptor q desc image => Sys2Proof.Machine.execTxDescriptor q desc image s
  | .rxSlotFetch q ix desc => Sys2Proof.Machine.execRxSlotFetch q ix desc s
  | .queueStopped q => Sys2Proof.Machine.execQueueStopped q s
  | .ywLinkUp => Sys2Proof.Machine.execYwLinkUp s
  | .ywLinkDown => Sys2Proof.Machine.execYwLinkDown s
  | .ywFrameError => Sys2Proof.Machine.execYwFrameError s
  | .ywIdentity seq => Sys2Proof.Machine.execYwIdentity seq s
  | .ywStatus seq => Sys2Proof.Machine.execYwStatus seq s
  | .ywRead seq off n => Sys2Proof.Machine.execYwRead seq off n s
  | .ywWrite seq off ws fetched e => Sys2Proof.Machine.execYwWrite seq off ws fetched e s
  | .ywCommand seq b => Sys2Proof.Machine.execYwCommand seq b s
  | .ywTime seq => Sys2Proof.Machine.execYwTime seq s
  | .ywWake seq => Sys2Proof.Machine.execYwWake seq s
  | .firmware yw inbuf len fetched => Sys2Proof.Machine.execFirmware yw inbuf len fetched s
  | .storeImage yw inbuf len fetched => Sys2Proof.Machine.execStoreImage yw inbuf len fetched s
  | .eraseImage yw inbuf len fetched => Sys2Proof.Machine.execEraseImage yw inbuf len fetched s
  | .testedSet yw inbuf len fetched => Sys2Proof.Machine.execTestedSet yw inbuf len fetched s
  | .policy yw inbuf len fetched => Sys2Proof.Machine.execPolicy yw inbuf len fetched s
  | .keyCert yw inbuf len fetched => Sys2Proof.Machine.execKeyCert yw inbuf len fetched s
  | .lifecycle yw inbuf len fetched => Sys2Proof.Machine.execLifecycle yw inbuf len fetched s
  | .debug yw inbuf len fetched => Sys2Proof.Machine.execDebug yw inbuf len fetched s
  | .keeperStoreDone => Sys2Proof.Machine.execKeeperStoreDone s
  | .sessionExpiry => Sys2Proof.Machine.execSessionExpiry s
  | .sessionClose yw => Sys2Proof.Machine.execSessionClose yw s
  | .debugHalt yw g halt => Sys2Proof.Machine.execDebugHalt yw g halt s
  | .debugStep yw g e => Sys2Proof.Machine.execDebugStep yw g e s
  | .debugData yw write w => Sys2Proof.Machine.execDebugData yw write w s
  | .tapShift yw w => Sys2Proof.Machine.execTapShift yw w s
  | .outputSequenceStart => Sys2Proof.Machine.execOutputSequenceStart s
  | .pdDetected q cls => Sys2Proof.Machine.execPdDetected q cls s
  | .detectRepeat q cls => Sys2Proof.Machine.execDetectRepeat q cls s
  | .classRetry q cls => Sys2Proof.Machine.execClassRetry q cls s
  | .portInrushComplete q mV mA => Sys2Proof.Machine.execPortInrushComplete q mV mA s
  | .portInrushTimeout q mA => Sys2Proof.Machine.execPortInrushTimeout q mA s
  | .portLimit q mV mA => Sys2Proof.Machine.execPortLimit q mV mA s
  | .portFaultTimer q mA => Sys2Proof.Machine.execPortFaultTimer q mA s
  | .portShort q mA => Sys2Proof.Machine.execPortShort q mA s
  | .portRetryEnd q => Sys2Proof.Machine.execPortRetryEnd q s
  | .portPg q on mV mA => Sys2Proof.Machine.execPortPg q on mV mA s
  | .portRetriesReset q => Sys2Proof.Machine.execPortRetriesReset q s
  | .portPassFault q => Sys2Proof.Machine.execPortPassFault q s
  | .limitShed => Sys2Proof.Machine.execLimitShed s
  | .marginEvaluation margins rs => Sys2Proof.Machine.execMarginEvaluation margins rs s
  | .unitFault r => Sys2Proof.Machine.execUnitFault r s
  | .sliceSubstitution n done parityOk => Sys2Proof.Machine.execSliceSubstitution n done parityOk s
  | .segmentSubstitution u => Sys2Proof.Machine.execSegmentSubstitution u s
  | .hltRetest yw w => Sys2Proof.Machine.execHltRetest yw w s
  | .retestDone pass => Sys2Proof.Machine.execRetestDone pass s
  | .calUserWrite yw ix w => Sys2Proof.Machine.execCalUserWrite yw ix w s
  | .beaconMillisecond => Sys2Proof.Machine.execBeaconMillisecond s
  | .inputLimitEnd mA => Sys2Proof.Machine.execInputLimitEnd mA s
  | .portLimitEnd q mV mA => Sys2Proof.Machine.execPortLimitEnd q mV mA s
  | .railOutOfWindow => Sys2Proof.Machine.execRailOutOfWindow s
  | .feedsRemoved => Sys2Proof.Machine.execFeedsRemoved s
  | .pcieLinkUp => Sys2Proof.Machine.execPcieLinkUp s
  | .d3hotEntry d3 bme pmeEn => Sys2Proof.Machine.execD3hotEntry d3 bme pmeEn s
  | .linkL1Entry => Sys2Proof.Machine.execLinkL1Entry s
  | .msixTableWrite v addr data masked fnMask => Sys2Proof.Machine.execMsixTableWrite v addr data masked fnMask s
  | .ywBadRequest type seq b => Sys2Proof.Machine.execYwBadRequest type seq b s
  | .wufFrameDecoded n valid error => Sys2Proof.Machine.execWufFrameDecoded n valid error s

end Sys2Proof.Machine
end

