-- ==== Sys2Proof/Machine/Step.lean ====
section
/-! DEFINITION. One step of the block: the command at the front of the queue, or one edge of Beacon's island. -/
namespace Sys2Proof.Machine

/-- Performs the command at the front of the queue on the state with the queue's rest; with an empty queue the block
idles and Beacon's island ticks. Each step is one evaluation of the triggers of R57: those that coincide stand in the
queue in the order of Table 2-3. DESIGN CHOICE (log 95). -/
def step (s : State) : Host.Outcome State Fault Refusal :=
  match s.pending with
  | [] => .next s.tick
  | c :: rest => exec c { s with pending := rest }

/-- The state with the command that a table word spells at the front of its queue; unchanged where it spells none. -/
def State.withFetchWord (s : State) (nbits w : Nat) : State :=
  match decodeTableWord nbits w with
  | some c => { s with pending := c :: s.pending }
  | none => s

end Sys2Proof.Machine
end

