-- ==== Sys2Proof/WellFormed.lean ====
section
/-! DEFINITION. Which commands are well formed: every operand within the range its row gives it. -/
namespace Sys2Proof

/-- A BAR0 byte offset: 26 bits, word aligned (R730). -/
def okOff (n : Nat) : Bool := n < 2 ^ 26 && n % 4 == 0
/-- Byte enables of one word. -/
def okBe (n : Nat) : Bool := n < 16
/-- A BAR2 byte offset: 24 bits, word aligned (R222). -/
def okBar2 (n : Nat) : Bool := n < 2 ^ 24 && n % 4 == 0
/-- Cells that a command prefers: cells of the memory (R221). -/
def okPicks (l : List Nat) : Bool := l.all fun c => c < 262144
/-- A bus channel. -/
def okChan (n : Nat) : Bool := n < 40
def okChans (l : List Nat) : Bool := l.all okChan
/-- An Ethernet port. -/
def okPort (n : Nat) : Bool := n < 24
/-- An engine. -/
def okEng (n : Nat) : Bool := n < 32
/-- A word of the cell memory that its code finds uncorrectable: 8 in a cell. -/
def okUe (w : Option Nat) : Bool := w.all fun n => n < 2 ^ 21

/-- What a read of a record finds: at most the 264 words of 33 cells. -/
def okEcc (e : Machine.RecEcc) : Bool := e.corrected ≤ 264 && okUe e.ue
/-- An engine that issues an instruction. -/
def okIss (i : Machine.Issue) : Bool := okEng i.eng && okEcc i.finds.cells
/-- A cluster. -/
def okClu (n : Nat) : Bool := n < 4
/-- A port power output. -/
def okSpar (n : Nat) : Bool := n < 64
/-- An event queue or a host queue. -/
def okQueue (n : Nat) : Bool := n < 64
/-- An MSI-X vector (R601). -/
def okVec (n : Nat) : Bool := n < 64
/-- One of a pair: feed or seat pin A (0) or B (1). -/
def okPair (n : Nat) : Bool := n < 2
/-- A traffic class. -/
def okClass (n : Nat) : Bool := n < 8
/-- A partner. -/
def okPart (n : Nat) : Bool := n < 4096
/-- A node table entry. -/
def okNode (n : Nat) : Bool := n < 4096
/-- A timeline: a channel, or 40 and an engine. -/
def okTl (n : Nat) : Bool := n < 72
/-- A bank of the cell memory, and a row of a bank. -/
def okBank (n : Nat) : Bool := n < 32
def okRow (n : Nat) : Bool := n < 512
/-- An engine register, and the first of a pair (R531). -/
def okReg (n : Nat) : Bool := n < 16
def okEvenReg (n : Nat) : Bool := n < 16 && n % 2 == 0
/-- A descriptor, a receive FIFO. -/
def okDesc (n : Nat) : Bool := n < 65536
def okFifo (n : Nat) : Bool := n < 1024
/-- A check context. -/
def okCtx (n : Nat) : Bool := n < 32768
/-- A word of IRQ_SPEND, and a shared source. -/
def okSpend (n : Nat) : Bool := n < 32
def okSrc (n : Nat) : Bool := n < 1024
/-- What may happen between phases: sources and bits that exist. -/
def okLate : Machine.Late → Bool
  | .priv i => i < 64
  | .shared i | .source i _ | .enable i _ => okSrc i
  | .event i b _ _ => okSrc i && b < 32
  | .delivery _ _ ecc => okEcc ecc
def okLates (l : List Machine.Late) : Bool := l.all okLate
/-- What a single step meets. -/
def okMeets (e : Machine.Meets) : Bool := okEcc e.finds.cells && okLates e.late
/-- The target of a load: a cluster, or 4 for the whole module. -/
def okTarget (n : Nat) : Bool := n < 5
/-- A crossbar port: a cluster, or 4 for the module. -/
def okXPort (n : Nat) : Bool := n < 5
/-- A staged word of a node entry: offsets 0x00 to 0x18 (R153). -/
def okStage (n : Nat) : Bool := n < 7
/-- Hot reset, function level reset, link down, PERST#. -/
def okReset (n : Nat) : Bool := n < 4
/-- A slot of a descriptor ring. -/
def okRing (n : Nat) : Bool := n < 4096
/-- A calibration item. -/
def okCal (n : Nat) : Bool := n < 2048
/-- A byte. -/
def okByte (n : Nat) : Bool := n < 256
/-- A field of `k` bits. -/
def okBits (k n : Nat) : Bool := n < 2 ^ k
/-- A field length of 1 to 32 bits, and the field within the word (R531). -/
def okLen (n : Nat) : Bool := 1 ≤ n && n ≤ 32
def okField (pos len : Nat) : Bool := pos + len ≤ 32
/-- A condition that is not reserved (R539). -/
def okCond (n : Nat) : Bool := n < 15
/-- Loop levels of LEXIT, and body lengths of LOOP and LOOPI (R531). -/
def okLev (n : Nat) : Bool := 1 ≤ n && n ≤ 4
def okLoopLen (n : Nat) : Bool := 1 ≤ n && n < 2 ^ 18
def okLoopiLen (n : Nat) : Bool := 1 ≤ n && n < 2 ^ 9
/-- A transmit slot. -/
def okSlotLoad (n : Nat) : Bool := n < 32
/-- The length field of KPR_UPD_CTRL (Table 18-12). -/
def okUpdLen (n : Nat) : Bool := n < 2 ^ 21
/-- Words of a Yewirak WRITE (R623). -/
def okWords (l : List Word) : Bool := 1 ≤ l.length && l.length ≤ 64
/-- Bytes 0 to 23 of a command entry (R65). -/
def okEntry (b : List Byte) : Bool := b.length == 24
/-- A frame on a bus line: CLASSIC, FD or XL, of at most 2,048 data bytes (R230). -/
def okFrame (f : Machine.Frame) : Bool := 1 ≤ f.format && f.format ≤ 3 && f.data.length ≤ 2048
/-- Further rules of Table 5-5 that a receiver meets. -/
def okExtra (rules : List Nat) : Bool := rules.all fun r => [2, 3, 5, 6].contains r
/-- An error of Table 5-9, or an overload frame, and further rules of Table 5-5. -/
def okBusFault (e : Machine.BusFault) : Bool := e.kind ≤ 6 && okExtra e.extra
/-- The payload length a request code takes (R623); false for a reserved code. -/
def ywForm (type : Nat) (b : List Byte) : Bool :=
  match type with
  | 0x01 | 0x02 | 0x30 | 0x40 => b.isEmpty
  | 0x10 => b.length == 8
  | 0x11 => 12 ≤ b.length && b.length == 8 + 4 * (b.length / 4 - 2)
  | 0x20 => b.length == 24
  | _ => false
/-- A reserved request code or a wrong length. -/
def okBadType (type : Nat) (b : List Byte) : Bool := type < 256 && !ywForm type b

/-- Every operand lies in its range. -/
def Instr.wf : Instr → Bool
  | .registerWrite _ off be _ _ e => okOff off && okBe be && okMeets e
  | .latchedRead _ off => okOff off
  | .counterReadClear _ off => okOff off
  | .stickySet _ off _ => okOff off
  | .stickyClear _ off _ => okOff off
  | .bar2Write a be _ => okBar2 a && okBe be
  | .bar2Read a _ => okBar2 a
  | .cmdqTail _ _ => true
  | .cmdqCfg _ _ => true
  | .commandFetch _ => true
  | .nop => true
  | .loadStream picks _ _ => okPicks picks
  | .streamValidation t => okTarget t
  | .autoloadCopy => true
  | .loaderHoldRelease t => okTarget t
  | .reloadCluster _ _ => true
  | .clusterStage6 c => okClu c
  | .holdMaxExpiry c => okClu c
  | .unload => true
  | .enterStandby => true
  | .resume => true
  | .enterSleep => true
  | .enterService => true
  | .leaveService => true
  | .enterTest => true
  | .leaveTest => true
  | .moduleReset => true
  | .restep => true
  | .busRetry => true
  | .bufUnpark => true
  | .sparOn => true
  | .sparOff => true
  | .sparClear _ => true
  | .spareApprove => true
  | .auditSnapshot => true
  | .calCommit => true
  | .feedInRange feed _ => okPair feed
  | .feedOutOfRange feed _ => okPair feed
  | .pwrRestore => true
  | .reverseTurnOff feed => okPair feed
  | .seatMade pin => okPair pin
  | .seatDebounceDone => true
  | .seatOpen pin => okPair pin
  | .inrushComplete _ _ => true
  | .inrushTimeout _ => true
  | .inputLimit _ => true
  | .inputFaultTimer _ => true
  | .inputShort _ => true
  | .inputRetryEnd => true
  | .inputRetriesReset => true
  | .inputPassFault => true
  | .modPgAssert => true
  | .holdupExhausted _ => true
  | .bringupComplete _ _ selfTest _ _ _ _ picks => okByte selfTest && okPicks picks
  | .bringupTimeout stage => okByte stage
  | .tempUpdate _ => true
  | .rateWindow c _ => okClu c
  | .perstDeassert => true
  | .hostLinkReset kind => okReset kind
  | .hostWake => true
  | .wakeRelease => true
  | .txdTimeout d => okChan d.chan && d.extra.all fun r => r == 5 || r == 6
  | .busDom n => okChan n
  | .wakeUpPattern ns => okChans ns
  | .wakeFrame n _ _ _ => okChan n
  | .wufErrcnt n => okChan n
  | .nodeTableStage _ ix k _ => okNode ix && okStage k
  | .nodeTableCommit _ ix _ => okNode ix
  | .integrationComplete n => okChan n
  | .slotArbitration n => okChan n
  | .arbitrationLost n => okChan n
  | .busFrameReceived picks n _ _ f => okPicks picks && okChan n && okFrame f
  | .busFrameSent picks n _ _ => okPicks picks && okChan n
  | .busError n err => okChan n && okBusFault err
  | .protocolException e => okChan e.chan && okExtra e.extra
  | .delayedRecoveryStart n => okChan n
  | .busCtrlRecover _ n => okChan n
  | .busOn n => okChan n
  | .slotLoad n k ecc => okChan n && okSlotLoad k && okEcc ecc
  | .lock _ ix => okDesc ix
  | .release _ ix => okDesc ix
  | .ack _ ix => okDesc ix
  | .pop _ ix => okFifo ix
  | .commit _ c => okDesc c.ix && okEcc c.cells
  | .trigger _ ix => okDesc ix
  | .clearOverrun _ _ ix => okDesc ix
  | .rowSubstitution b r => okBank b && okRow r
  | .waitingGrant picks port => okPicks picks && okXPort port
  | .headEscalation p => okPart p
  | .heldFrameCredit h => okEcc h.ecc
  | .transitLate _ => true
  | .readExact _ c ix => okClu c && okBits 15 ix
  | .readMasked _ c _ ix => okClu c && okBits 15 ix
  | .addExact _ c ix => okClu c && okBits 15 ix
  | .setExact _ c ix => okClu c && okBits 15 ix
  | .delExact _ c ix => okClu c && okBits 15 ix
  | .moveExact _ c ix => okClu c && okBits 15 ix
  | .writeShadow _ c ix => okClu c && okBits 15 ix
  | .copyToShadow _ c => okClu c
  | .copyToShadowDone c => okClu c
  | .filterCommit _ c _ => okClu c
  | .abandon _ c => okClu c
  | .deliveryPoint _ _ ecc => okEcc ecc
  | .ethFrameReceived picks p _ _ _ _ _ _ => okPicks picks && okPort p
  | .pauseReceived p _ => okPort p
  | .pfcReceived p _ _ => okPort p
  | .pauseEffect p => okPort p
  | .pauseExpiry p t => okPort p && okClass t
  | .ethFrameStart p ecc => okPort p && okEcc ecc
  | .ethFrameSent p _ _ => okPort p
  | .pauseTxRepeat p => okPort p
  | .linkUp p _ => okPort p
  | .linkDown p => okPort p
  | .verifyAttempt p _ => okPort p
  | .lpiEnter p _ => okPort p
  | .lpiExit p _ => okPort p
  | .gateBoundary p => okPort p
  | .gateCommit _ p _ => okPort p
  | .gateSwitch p => okPort p
  | .launchDue p ecc => okPort p && okEcc ecc
  | .ptpSyncReceived p _ _ _ _ _ _ _ => okPort p
  | .ptpFollowUpReceived p _ _ _ _ _ => okPort p
  | .pdelayReqReceived p _ _ _ _ _ => okPort p
  | .pdelayRespReceived p _ _ => okPort p
  | .delayReqReceived p _ _ _ _ _ => okPort p
  | .delayRespReceived p _ _ => okPort p
  | .syncTx p => okPort p
  | .delayRequestTx p => okPort p
  | .ppsInEdge _ _ => true
  | .holdoffEnd p => okPort p
  | .sourceLost => true
  | .bcnRate _ _ _ => true
  | .bcnAdj _ _ _ => true
  | .bcnCfg _ _ => true
  | .bcnSave _ _ => true
  | .ppsOut => true
  | .tsqRead _ p => okPort p
  | .cycleStart t => okTl t
  | .windowStart t => okTl t
  | .windowEnd t => okTl t
  | .exclusiveTrigger t _ => okTl t
  | .referenceReceived n _ _ => okChan n
  | .backupTakeover n => okChan n
  | .quarantinePop _ c => okClu c
  | .resync _ ix => okCtx ix
  | .clear _ ix => okCtx ix
  | .engineRestart _ g => okEng g
  | .engineSubstitution g _ => okEng g
  | .interruptEntry g late => okIss g && okLates late
  | .illegalInstruction g => okIss g
  | .add g rd ra rb => okIss g && okReg rd && okReg ra && okReg rb
  | .sub g rd ra rb => okIss g && okReg rd && okReg ra && okReg rb
  | .adc g rd ra rb => okIss g && okReg rd && okReg ra && okReg rb
  | .sbc g rd ra rb => okIss g && okReg rd && okReg ra && okReg rb
  | .and g rd ra rb => okIss g && okReg rd && okReg ra && okReg rb
  | .or g rd ra rb => okIss g && okReg rd && okReg ra && okReg rb
  | .xor g rd ra rb => okIss g && okReg rd && okReg ra && okReg rb
  | .andn g rd ra rb => okIss g && okReg rd && okReg ra && okReg rb
  | .sll g rd ra rb => okIss g && okReg rd && okReg ra && okReg rb
  | .srl g rd ra rb => okIss g && okReg rd && okReg ra && okReg rb
  | .sra g rd ra rb => okIss g && okReg rd && okReg ra && okReg rb
  | .rot g rd ra rb => okIss g && okReg rd && okReg ra && okReg rb
  | .mul g rd ra rb => okIss g && okReg rd && okReg ra && okReg rb
  | .mulhs g rd ra rb => okIss g && okReg rd && okReg ra && okReg rb
  | .mulhu g rd ra rb => okIss g && okReg rd && okReg ra && okReg rb
  | .div g rd ra rb => okIss g && okReg rd && okReg ra && okReg rb
  | .divu g rd ra rb => okIss g && okReg rd && okReg ra && okReg rb
  | .rem g rd ra rb => okIss g && okReg rd && okReg ra && okReg rb
  | .remu g rd ra rb => okIss g && okReg rd && okReg ra && okReg rb
  | .neg g rd ra => okIss g && okReg rd && okReg ra
  | .abs g rd ra => okIss g && okReg rd && okReg ra
  | .abss g rd ra => okIss g && okReg rd && okReg ra
  | .adds g rd ra rb => okIss g && okReg rd && okReg ra && okReg rb
  | .subs g rd ra rb => okIss g && okReg rd && okReg ra && okReg rb
  | .clz g rd ra => okIss g && okReg rd && okReg ra
  | .brev g rd ra => okIss g && okReg rd && okReg ra
  | .bswap g rd ra => okIss g && okReg rd && okReg ra
  | .ext g rd ra pos len _ => okIss g && okReg rd && okReg ra && okBits 5 pos && okLen len && okField pos len
  | .ins g rd ra pos len => okIss g && okReg rd && okReg ra && okBits 5 pos && okLen len && okField pos len
  | .addi g rd ra v => okIss g && okReg rd && okReg ra && okBits 18 v
  | .andi g rd ra v => okIss g && okReg rd && okReg ra && okBits 18 v
  | .ori g rd ra v => okIss g && okReg rd && okReg ra && okBits 18 v
  | .xori g rd ra v => okIss g && okReg rd && okReg ra && okBits 18 v
  | .shi g rd ra kind n => okIss g && okReg rd && okReg ra && okBits 2 kind && okBits 6 n
  | .lui g rd v => okIss g && okReg rd && okBits 22 v
  | .cmp g ra rb => okIss g && okReg ra && okReg rb
  | .cmpi g ra v => okIss g && okReg ra && okBits 18 v
  | .tst g ra rb => okIss g && okReg ra && okReg rb
  | .ldw g rd ra v _ => okIss g && okReg rd && okReg ra && okBits 18 v
  | .ldh g rd ra v _ => okIss g && okReg rd && okReg ra && okBits 18 v
  | .ldhu g rd ra v _ => okIss g && okReg rd && okReg ra && okBits 18 v
  | .ldb g rd ra v _ => okIss g && okReg rd && okReg ra && okBits 18 v
  | .ldbu g rd ra v _ => okIss g && okReg rd && okReg ra && okBits 18 v
  | .stw g rd ra v => okIss g && okReg rd && okReg ra && okBits 18 v
  | .sth g rd ra v => okIss g && okReg rd && okReg ra && okBits 18 v
  | .stb g rd ra v => okIss g && okReg rd && okReg ra && okBits 18 v
  | .ldd g rd ra v _ => okIss g && okEvenReg rd && okReg ra && okBits 18 v
  | .std g rd ra v => okIss g && okEvenReg rd && okReg ra && okBits 18 v
  | .swap g rd ra rb _ => okIss g && okReg rd && okReg ra && okReg rb
  | .fadd g rd ra rb _ => okIss g && okReg rd && okReg ra && okReg rb
  | .fand g rd ra rb _ => okIss g && okReg rd && okReg ra && okReg rb
  | .for_ g rd ra rb _ => okIss g && okReg rd && okReg ra && okReg rb
  | .fxor g rd ra rb _ => okIss g && okReg rd && okReg ra && okReg rb
  | .cas g rd ra rb _ => okIss g && okReg rd && okReg ra && okReg rb
  | .bc g cond off => okIss g && okCond cond && okBits 22 off
  | .cbz g ra off => okIss g && okReg ra && okBits 18 off
  | .cbnz g ra off => okIss g && okReg ra && okBits 18 off
  | .jmp g off => okIss g && okBits 26 off
  | .call g off => okIss g && okBits 26 off
  | .jr g ra => okIss g && okReg ra
  | .callr g ra => okIss g && okReg ra
  | .loop g ra len => okIss g && okReg ra && okLoopLen len
  | .loopi g count len => okIss g && okBits 9 count && okLoopiLen len
  | .lexit g k => okIss g && okLev k
  | .sysNop g => okIss g
  | .wfe g => okIss g
  | .wfeWake g => okEng g
  | .sev g => okIss g
  | .reti g late => okIss g && okLates late
  | .trap g v => okIss g && okBits 8 v
  | .break_ g v => okIss g && okBits 8 v
  | .csrr g rd num => okIss g && okReg rd && okBits 8 num
  | .csrw g ra num => okIss g && okReg ra && okBits 8 num
  | .csrs g ra num => okIss g && okReg ra && okBits 8 num
  | .csrc g ra num => okIss g && okReg ra && okBits 8 num
  | .ei g => okIss g
  | .di g => okIss g
  | .icRaise g ra => okIss g && okReg ra
  | .icPclr g ra => okIss g && okReg ra
  | .ident g rd ra rb => okIss g && okReg rd && okReg ra && okReg rb
  | .image g rd ra rb => okIss g && okReg rd && okReg ra && okReg rb
  | .checkpoint g rd ra rb => okIss g && okReg rd && okReg ra && okReg rb
  | .rate g rd ra rb => okIss g && okReg rd && okReg ra && okReg rb
  | .take g rd ra rb => okIss g && okReg rd && okReg ra && okReg rb
  | .frameRelease g rd ra rb => okIss g && okReg rd && okReg ra && okReg rb
  | .hdr g rd ra rb => okIss g && okReg rd && okReg ra && okReg rb
  | .data g rd ra rb => okIss g && okReg rd && okReg ra && okReg rb
  | .copy g rd ra rb => okIss g && okReg rd && okReg ra && okReg rb
  | .submit g rd ra rb => okIss g && okReg rd && okReg ra && okReg rb
  | .done g rd ra rb => okIss g && okReg rd && okReg ra && okReg rb
  | .now g rd ra rb => okIss g && okReg rd && okReg ra && okReg rb
  | .sechi g rd ra rb => okIss g && okReg rd && okReg ra && okReg rb
  | .frac g rd ra rb => okIss g && okReg rd && okReg ra && okReg rb
  | .waitUntil g rd ra rb => okIss g && okReg rd && okReg ra && okReg rb
  | .waitUntilWake g => okEng g
  | .taskDone g rd ra rb => okIss g && okReg rd && okReg ra && okReg rb
  | .tsqPop g rd ra rb => okIss g && okReg rd && okReg ra && okReg rb
  | .tsqStamp g rd ra rb => okIss g && okReg rd && okReg ra && okReg rb
  | .crc g j rd ra rb => okIss g && okBits 2 j && okReg rd && okReg ra && okReg rb
  | .cust g unit fn rd ra rb imm =>
    okIss g && okBits 4 unit && okBits 6 fn && okReg rd && okReg ra && okReg rb && okBits 8 imm
  | .tileFrameSubmit picks c _ => okPicks picks && okClu c
  | .tileSignal c k => okClu c && okBits 2 k
  | .irqSpendSet _ k _ => okSpend k
  | .irqSpendClear _ k _ => okSpend k
  | .irqSrcWrite _ ix _ => okSrc ix
  | .irqEqEnable _ q _ => okQueue q
  | .irqEqHead _ q _ => okQueue q
  | .moderationTimer q => okQueue q
  | .hostSleepReq _ _ => true
  | .wakeHoldExpiry => true
  | .heldRecordsFlush => true
  | .l1Exit => true
  | .hostQTail _ q _ => okQueue q
  | .hostQCfg _ q _ => okQueue q
  | .txDescriptor q _ _ => okQueue q
  | .rxSlotFetch q ix _ => okQueue q && okRing ix
  | .queueStopped q => okQueue q
  | .ywLinkUp => true
  | .ywLinkDown => true
  | .ywFrameError => true
  | .ywIdentity seq => okByte seq
  | .ywStatus seq => okByte seq
  | .ywRead seq off n => okByte seq && okOff off && okBits 8 n
  | .ywWrite seq off ws _ e => okByte seq && okOff off && okWords ws && okMeets e
  | .ywCommand seq b => okByte seq && okEntry b
  | .ywTime seq => okByte seq
  | .ywWake seq => okByte seq
  | .firmware _ _ len _ => okUpdLen len
  | .storeImage _ _ len _ => okUpdLen len
  | .eraseImage _ _ len _ => okUpdLen len
  | .testedSet _ _ len _ => okUpdLen len
  | .policy _ _ len _ => okUpdLen len
  | .keyCert _ _ len _ => okUpdLen len
  | .lifecycle _ _ len _ => okUpdLen len
  | .debug _ _ len _ => okUpdLen len
  | .keeperStoreDone => true
  | .sessionExpiry => true
  | .sessionClose _ => true
  | .debugHalt _ g _ => okEng g
  | .debugStep _ g e => okEng g && okMeets e
  | .debugData _ _ _ => true
  | .tapShift _ _ => true
  | .outputSequenceStart => true
  | .pdDetected q cls => okSpar q && okBits 4 cls
  | .detectRepeat q _ => okSpar q
  | .classRetry q _ => okSpar q
  | .portInrushComplete q _ _ => okSpar q
  | .portInrushTimeout q _ => okSpar q
  | .portLimit q _ _ => okSpar q
  | .portFaultTimer q _ => okSpar q
  | .portShort q _ => okSpar q
  | .portRetryEnd q => okSpar q
  | .portPg q _ _ _ => okSpar q
  | .portRetriesReset q => okSpar q
  | .portPassFault q => okSpar q
  | .limitShed => true
  | .marginEvaluation _ _ => true
  | .unitFault _ => true
  | .sliceSubstitution n _ _ => okChan n
  | .segmentSubstitution _ => true
  | .hltRetest _ _ => true
  | .retestDone _ => true
  | .calUserWrite _ ix _ => okCal ix
  | .beaconMillisecond => true
  | .inputLimitEnd _ => true
  | .portLimitEnd q _ _ => okSpar q
  | .railOutOfWindow => true
  | .feedsRemoved => true
  | .pcieLinkUp => true
  | .d3hotEntry _ _ _ => true
  | .linkL1Entry => true
  | .msixTableWrite v _ _ _ _ => okVec v
  | .ywBadRequest type seq b => okByte type && okByte seq && okBadType type b
  | .wufFrameDecoded n _ _ => okChan n

abbrev WellFormed (i : Instr) : Prop := i.wf = true

end Sys2Proof
end

