-- ==== Sys2Proof/Safety.lean ====
section
/-! DEFINITION. What claims are stated in: that a command completes, what it leaves alone, and the canonical form of the
state's tables. -/
namespace Sys2Proof
open Machine

/-- The fields of the state. -/
inductive Field where
  | pending | fuse | ctl | regs | stage | latch | mem | links | recs | descs | fifos | partners | books |
  transit | held | waits | nextId | psnap | retiredRows | spareRows | slices | routes | routeOwners | tunSeq |
  gwLate | gwDown | irq | eqs | hold | host | hostQs | yw | beacon | bports | bus | nodes | ports | cycle |
  gridK | scheds | timelines | ctxs | quar | chkRetired | engines | shared | tiles | loads | structure_ | keeper |
  power | spars | health | out | free
  deriving DecidableEq, Repr

/-- Field `f` of `t` is that of `s`. -/
def Field.same (f : Field) (s t : State) : Prop :=
  match f with
  | .pending => t.pending = s.pending
  | .fuse => t.fuse = s.fuse
  | .ctl => t.ctl = s.ctl
  | .regs => t.regs = s.regs
  | .stage => t.stage = s.stage
  | .latch => t.latch = s.latch
  | .mem => t.mem = s.mem
  | .links => t.links = s.links
  | .recs => t.recs = s.recs
  | .descs => t.descs = s.descs
  | .fifos => t.fifos = s.fifos
  | .partners => t.partners = s.partners
  | .books => t.books = s.books
  | .transit => t.transit = s.transit
  | .held => t.held = s.held
  | .waits => t.waits = s.waits
  | .nextId => t.nextId = s.nextId
  | .psnap => t.psnap = s.psnap
  | .retiredRows => t.retiredRows = s.retiredRows
  | .spareRows => t.spareRows = s.spareRows
  | .slices => t.slices = s.slices
  | .routes => t.routes = s.routes
  | .routeOwners => t.routeOwners = s.routeOwners
  | .tunSeq => t.tunSeq = s.tunSeq
  | .gwLate => t.gwLate = s.gwLate
  | .gwDown => t.gwDown = s.gwDown
  | .irq => t.irq = s.irq
  | .eqs => t.eqs = s.eqs
  | .hold => t.hold = s.hold
  | .host => t.host = s.host
  | .hostQs => t.hostQs = s.hostQs
  | .yw => t.yw = s.yw
  | .beacon => t.beacon = s.beacon
  | .bports => t.bports = s.bports
  | .bus => t.bus = s.bus
  | .nodes => t.nodes = s.nodes
  | .ports => t.ports = s.ports
  | .cycle => t.cycle = s.cycle
  | .gridK => t.gridK = s.gridK
  | .scheds => t.scheds = s.scheds
  | .timelines => t.timelines = s.timelines
  | .ctxs => t.ctxs = s.ctxs
  | .quar => t.quar = s.quar
  | .chkRetired => t.chkRetired = s.chkRetired
  | .engines => t.engines = s.engines
  | .shared => t.shared = s.shared
  | .tiles => t.tiles = s.tiles
  | .loads => t.loads = s.loads
  | .structure_ => t.struct = s.struct
  | .keeper => t.keeper = s.keeper
  | .power => t.power = s.power
  | .spars => t.spars = s.spars
  | .health => t.health = s.health
  | .out => t.out = s.out
  | .free => t.free = s.free

/-- Between `s` and `t` no field outside `l` has changed. -/
def Touches (l : List Field) (s t : State) : Prop := ∀ f, f ∈ l ∨ f.same s t

/-- Every field but the queue and the fuses, which no command changes. -/
def Field.all : List Field :=
  [.ctl, .regs, .stage, .latch, .mem, .links, .recs, .descs, .fifos, .partners, .books, .transit, .held, .waits,
   .nextId, .psnap, .retiredRows, .spareRows, .slices, .routes, .routeOwners, .tunSeq, .gwLate, .gwDown, .irq, .eqs,
   .hold, .host, .hostQs, .yw, .beacon, .bports, .bus, .nodes, .ports, .cycle, .gridK, .scheds, .timelines, .ctxs,
   .quar, .chkRetired, .engines, .shared, .tiles, .loads, .structure_, .keeper, .power, .spars, .health, .out, .free]

/-- All but some. -/
def Field.allBut (l : List Field) : List Field := Field.all.filter fun f => !l.contains f

/-- What raising an event may change: event and pending registers, interrupt sources and event queues, the hold
store, the host link, engines that wait for an event, and what is sent (R18, R572, R582, R590). -/
def Field.raise : List Field := [.regs, .irq, .eqs, .hold, .host, .engines, .out]

/-- The fields a command may change. -/
def Instr.touches (i : Instr) : List Field :=
  match i with
  | .registerWrite .. | .stickySet .. | .stickyClear .. | .cmdqTail .. | .cmdqCfg .. | .nodeTableStage .. |
    .nodeTableCommit .. | .busCtrlRecover .. | .lock .. | .release .. | .ack .. | .pop .. | .commit .. | .trigger ..
    | .clearOverrun .. | .readExact .. | .readMasked .. | .addExact .. | .setExact .. | .delExact .. | .moveExact ..
    | .writeShadow .. | .copyToShadow .. | .filterCommit .. | .abandon .. | .gateCommit .. | .bcnRate .. | .bcnAdj
    .. | .bcnCfg .. | .bcnSave .. | .quarantinePop .. | .resync .. | .clear .. | .engineRestart .. | .irqSpendSet ..
    | .irqSpendClear .. | .irqSrcWrite .. | .irqEqEnable .. | .irqEqHead .. | .hostSleepReq .. | .hostQTail .. |
    .hostQCfg .. | .firmware .. | .storeImage .. | .eraseImage .. | .testedSet .. | .policy .. | .keyCert .. |
    .lifecycle .. | .debug .. | .sessionClose .. | .debugHalt .. | .debugStep .. | .tapShift .. | .hltRetest .. |
    .calUserWrite .. =>
    Field.allBut [.latch, .psnap, .retiredRows, .spareRows, .routes, .routeOwners, .yw, .cycle, .gridK, .scheds,
      .loads, .structure_, .power]
  | .latchedRead .. | .counterReadClear .. | .tsqRead .. =>
    [.regs, .latch, .eqs, .beacon, .bports, .out]
  | .bar2Write .. =>
    [.regs, .mem]
  | .bar2Read .. | .busDom .. =>
    Field.raise
  | .commandFetch .. =>
    Field.raise ++ [.ctl, .yw]
  | .nop =>
    [.ctl, .irq, .eqs, .hold, .host, .yw, .engines, .out]
  | .loadStream .. | .streamValidation .. | .loaderHoldRelease .. | .reloadCluster .. | .clusterStage6 .. | .unload
    | .enterStandby | .resume | .enterSleep | .enterService | .leaveService | .enterTest | .leaveTest | .moduleReset
    | .feedInRange .. | .feedOutOfRange .. | .pwrRestore | .seatDebounceDone | .seatOpen .. | .inrushComplete .. |
    .inrushTimeout .. | .inputFaultTimer .. | .inputShort .. | .inputRetryEnd | .holdupExhausted .. |
    .bringupComplete .. | .hostWake | .wakeUpPattern .. | .wakeFrame .. | .wufErrcnt .. | .ywIdentity .. | .ywStatus
    .. | .ywRead .. | .ywWrite .. | .ywCommand .. | .ywTime .. | .ywWake .. | .keeperStoreDone | .ywBadRequest .. |
    .wufFrameDecoded .. =>
    Field.all
  | .autoloadCopy =>
    [.loads, .keeper]
  | .holdMaxExpiry .. =>
    Field.raise ++ [.ctl, .links, .recs, .partners, .books, .held, .bports, .ports]
  | .restep =>
    [.ctl, .irq, .eqs, .hold, .host, .yw, .beacon, .engines, .out]
  | .busRetry | .bufUnpark =>
    [.ctl, .irq, .eqs, .hold, .host, .yw, .bus, .engines, .out]
  | .sparOn | .sparOff =>
    Field.raise ++ [.ctl, .yw, .spars]
  | .sparClear .. | .spareApprove =>
    Field.allBut [.stage, .latch, .nextId, .psnap, .retiredRows, .spareRows, .slices, .routes, .routeOwners,
      .tunSeq, .gwLate, .nodes, .cycle, .gridK, .scheds, .quar, .loads, .structure_, .power, .free]
  | .auditSnapshot =>
    Field.raise ++ [.ctl, .psnap, .yw]
  | .calCommit =>
    [.ctl, .irq, .eqs, .hold, .host, .yw, .engines, .keeper, .out]
  | .reverseTurnOff .. | .inputLimit .. =>
    Field.raise ++ [.power]
  | .seatMade .. | .inputRetriesReset | .inputLimitEnd .. =>
    [.power]
  | .inputPassFault =>
    Field.allBut [.latch, .nextId, .psnap, .retiredRows, .spareRows, .nodes, .quar, .chkRetired, .health, .free]
  | .modPgAssert | .railOutOfWindow =>
    [.power, .out]
  | .bringupTimeout .. =>
    Field.allBut [.latch, .nextId, .psnap, .retiredRows, .spareRows, .nodes, .quar, .chkRetired, .power, .health,
      .free]
  | .tempUpdate .. =>
    Field.allBut [.latch, .nextId, .psnap, .retiredRows, .spareRows, .nodes, .quar, .chkRetired, .power, .free]
  | .rateWindow .. =>
    Field.raise ++ [.health]
  | .perstDeassert | .linkL1Entry =>
    [.host]
  | .hostLinkReset .. =>
    Field.raise ++ [.partners, .transit, .waits, .hostQs]
  | .wakeRelease | .wakeHoldExpiry | .msixTableWrite .. =>
    [.host, .out]
  | .txdTimeout .. | .busError .. | .protocolException .. =>
    Field.raise ++ [.mem, .links, .recs, .descs, .partners, .books, .bus, .nodes, .ports, .timelines]
  | .integrationComplete .. | .delayedRecoveryStart .. =>
    [.bus]
  | .slotArbitration .. =>
    [.bus, .timelines]
  | .arbitrationLost .. =>
    Field.raise ++ [.mem, .links, .recs, .descs, .partners, .books, .bus, .ports, .timelines]
  | .busFrameReceived .. =>
    Field.raise ++ [.mem, .links, .recs, .partners, .transit, .held, .nextId, .gwDown, .hostQs, .bus, .nodes,
      .ports, .ctxs, .quar, .tiles, .free]
  | .busFrameSent .. =>
    Field.raise ++ [.mem, .links, .recs, .descs, .partners, .books, .transit, .held, .nextId, .gwDown, .hostQs,
      .bus, .nodes, .ports, .timelines, .ctxs, .quar, .tiles, .free]
  | .busOn .. =>
    Field.raise ++ [.bus]
  | .slotLoad .. =>
    Field.raise ++ [.links, .recs, .descs, .partners, .books, .bus, .ports]
  | .rowSubstitution .. =>
    Field.raise ++ [.books, .retiredRows, .spareRows, .keeper]
  | .waitingGrant .. =>
    Field.raise ++ [.mem, .links, .recs, .partners, .books, .transit, .held, .waits, .nextId, .gwDown, .hostQs,
      .bus, .ports, .tiles, .free]
  | .headEscalation .. =>
    [.regs, .waits]
  | .heldFrameCredit .. | .deliveryPoint .. =>
    Field.raise ++ [.links, .recs, .descs, .fifos, .partners, .books, .transit, .held, .tunSeq, .gwLate, .gwDown,
      .hostQs, .bports, .bus, .ports]
  | .transitLate .. =>
    Field.raise ++ [.transit]
  | .copyToShadowDone .. =>
    [.slices]
  | .ethFrameReceived .. | .tileFrameSubmit .. =>
    Field.raise ++ [.mem, .links, .recs, .partners, .transit, .held, .nextId, .gwDown, .hostQs, .bus, .ports,
      .ctxs, .quar, .tiles, .free]
  | .pauseReceived .. | .pfcReceived .. | .pauseEffect .. =>
    [.regs, .ports]
  | .pauseExpiry .. | .pauseTxRepeat .. | .lpiEnter .. | .lpiExit .. | .gateBoundary .. =>
    [.ports]
  | .ethFrameStart .. | .ethFrameSent .. | .gateSwitch .. | .launchDue .. | .pdelayReqReceived .. |
    .delayReqReceived .. | .syncTx .. | .delayRequestTx .. =>
    Field.raise ++ [.links, .recs, .partners, .books, .bports, .ports]
  | .linkUp .. =>
    Field.raise ++ [.bports, .ports]
  | .linkDown .. =>
    Field.raise ++ [.links, .recs, .partners, .books, .beacon, .bports, .ports]
  | .verifyAttempt .. =>
    Field.raise ++ [.ports]
  | .ptpSyncReceived .. | .ptpFollowUpReceived .. =>
    Field.raise ++ [.beacon, .bports, .timelines]
  | .pdelayRespReceived .. | .delayRespReceived .. =>
    Field.raise ++ [.beacon, .bports]
  | .ppsInEdge .. =>
    Field.raise ++ [.beacon, .timelines]
  | .holdoffEnd .. =>
    [.bports]
  | .sourceLost =>
    Field.raise ++ [.beacon]
  | .ppsOut =>
    [.beacon, .out]
  | .cycleStart .. =>
    Field.raise ++ [.gwLate, .gwDown, .bus, .ports, .gridK, .timelines, .ctxs]
  | .windowStart .. | .windowEnd .. | .referenceReceived .. | .backupTakeover .. =>
    Field.raise ++ [.timelines]
  | .exclusiveTrigger .. =>
    [.regs, .descs, .bus, .timelines]
  | .engineSubstitution .. | .illegalInstruction .. | .add .. | .sub .. | .adc .. | .sbc .. | .and .. | .or .. |
    .xor .. | .andn .. | .sll .. | .srl .. | .sra .. | .rot .. | .mul .. | .mulhs .. | .mulhu .. | .div .. | .divu
    .. | .rem .. | .remu .. | .neg .. | .abs .. | .abss .. | .adds .. | .subs .. | .clz .. | .brev .. | .bswap .. |
    .ext .. | .ins .. | .addi .. | .andi .. | .ori .. | .xori .. | .shi .. | .lui .. | .cmp .. | .cmpi .. | .tst ..
    | .ldw .. | .ldh .. | .ldhu .. | .ldb .. | .ldbu .. | .stw .. | .sth .. | .stb .. | .ldd .. | .std .. | .swap ..
    | .fadd .. | .fand .. | .for_ .. | .fxor .. | .cas .. | .bc .. | .cbz .. | .cbnz .. | .jmp .. | .call .. | .jr
    .. | .callr .. | .loop .. | .loopi .. | .lexit .. | .sysNop .. | .wfe .. | .sev .. | .trap .. | .break_ .. |
    .csrr .. | .csrw .. | .csrs .. | .csrc .. | .ei .. | .di .. | .icRaise .. | .icPclr .. | .crc .. |
    .marginEvaluation .. | .unitFault .. | .sliceSubstitution .. | .segmentSubstitution .. =>
    Field.allBut [.stage, .latch, .nextId, .psnap, .retiredRows, .spareRows, .slices, .routes, .routeOwners,
      .tunSeq, .gwLate, .yw, .nodes, .cycle, .gridK, .scheds, .quar, .loads, .structure_, .power, .free]
  | .interruptEntry .. | .reti .. =>
    Field.allBut [.stage, .latch, .nextId, .psnap, .retiredRows, .spareRows, .slices, .routes, .routeOwners, .yw,
      .nodes, .cycle, .gridK, .scheds, .quar, .loads, .structure_, .power, .free]
  | .wfeWake .. | .waitUntilWake .. =>
    Field.raise ++ [.shared]
  | .ident .. | .image .. | .checkpoint .. | .rate .. | .take .. | .frameRelease .. | .hdr .. | .data .. | .copy ..
    | .submit .. | .done .. | .now .. | .sechi .. | .frac .. | .waitUntil .. | .taskDone .. | .tsqPop .. | .tsqStamp
    .. =>
    Field.allBut [.stage, .latch, .psnap, .retiredRows, .spareRows, .slices, .routes, .routeOwners, .tunSeq,
      .gwLate, .yw, .nodes, .cycle, .gridK, .scheds, .loads, .structure_, .power, .free]
  | .cust .. =>
    Field.allBut [.stage, .latch, .nextId, .psnap, .retiredRows, .spareRows, .slices, .routes, .routeOwners,
      .tunSeq, .gwLate, .yw, .nodes, .cycle, .gridK, .scheds, .quar, .loads, .structure_, .power]
  | .tileSignal .. =>
    [.engines]
  | .moderationTimer .. | .l1Exit =>
    [.eqs, .hold, .host, .out]
  | .heldRecordsFlush | .pcieLinkUp | .d3hotEntry .. =>
    Field.raise ++ [.hostQs]
  | .txDescriptor .. =>
    Field.raise ++ [.partners, .waits, .nextId, .gwDown, .hostQs, .ctxs]
  | .rxSlotFetch .. =>
    Field.raise ++ [.links, .recs, .partners, .books, .transit, .waits, .hostQs, .ports]
  | .queueStopped .. =>
    [.hostQs]
  | .ywLinkUp | .ywLinkDown =>
    Field.raise ++ [.yw]
  | .ywFrameError =>
    [.regs]
  | .sessionExpiry =>
    Field.raise ++ [.keeper]
  | .debugData .. =>
    Field.allBut [.psnap, .retiredRows, .spareRows, .routes, .routeOwners, .yw, .cycle, .gridK, .scheds, .loads,
      .structure_, .power]
  | .outputSequenceStart | .pdDetected .. | .detectRepeat .. | .classRetry .. | .portInrushTimeout .. | .portLimit
    .. | .portFaultTimer .. | .portShort .. | .portRetryEnd .. | .portPg .. | .limitShed =>
    Field.raise ++ [.spars]
  | .portInrushComplete .. | .portRetriesReset .. | .portLimitEnd .. =>
    [.spars]
  | .portPassFault .. =>
    Field.raise ++ [.keeper, .spars]
  | .retestDone .. =>
    Field.raise ++ [.bus, .ports, .chkRetired, .keeper, .health]
  | .beaconMillisecond =>
    [.gwLate, .gwDown, .bus, .ports, .timelines, .ctxs]
  | .feedsRemoved =>
    [.ctl, .regs, .power]

/-- From `s` the command completes in a next state of which `P` holds. -/
def After (c : Instr) (s : State) (P : State → Prop) : Prop := ∃ t, exec c s = .next t ∧ P t

/-! One entry of a table is what a claim says, and every other entry as before. -/

/-- Register word `off` reads `w`. -/
def RegSet (off : Nat) (w : Word) (s t : State) : Prop := t.rd off = w ∧ ∀ o, o ≠ off → t.rd o = s.rd o

/-- Output `q` is `x`. -/
def SparSet (q : Nat) (x : Spar) (s t : State) : Prop := t.spar q = x ∧ ∀ r, r ≠ q → t.spar r = s.spar r

/-- Channel `n` is `x`. -/
def LaneSet (n : Nat) (x : BusLane) (s t : State) : Prop := t.lane n = x ∧ ∀ m, m ≠ n → t.lane m = s.lane m

/-- Ethernet port `p` is `x`. -/
def PortSet (p : Nat) (x : Port) (s t : State) : Prop := t.port p = x ∧ ∀ r, r ≠ p → t.port r = s.port r

/-- Beacon's port `p` is `x`. -/
def BportSet (p : Nat) (x : BcnPort) (s t : State) : Prop := t.bport p = x ∧ ∀ r, r ≠ p → t.bport r = s.bport r

/-- Descriptor `i` is `x`. -/
def DescSet (i : Nat) (x : Desc) (s t : State) : Prop := t.desc i = x ∧ ∀ j, j ≠ i → t.desc j = s.desc j

/-- Engine `g` is `x`. -/
def EngSet (g : Nat) (x : Engine) (s t : State) : Prop := t.eng g = x ∧ ∀ h, h ≠ g → t.eng h = s.eng h

/-- Timeline `n` is `x`. -/
def TlSet (n : Nat) (x : Timeline) (s t : State) : Prop := t.tl n = x ∧ ∀ m, m ≠ n → t.tl m = s.tl m

/-- Event bit `i` of block `b` is set, in the sticky bits before. -/
def Raised (b : Blk) (i : Nat) (s t : State) : Prop := t.rd b.evtOff = s.rd b.evtOff ||| wd (2 ^ i)

/-- The offset names a register word that the present mode opens to writes (R7, R48, R740, R741). -/
def Machine.State.open_ (s : State) (off : Nat) : Bool :=
  match Reg.ofOff off with
  | some r => s.window r == .full
  | none => false

/-! ### Genat -/

/-- The instruction that a row of a Genat family names, the engine that issues it and what its reads find. -/
def Instr.op : Instr → Option (Issue × Op)
  | .add g rd ra rb => some (g, .reg3 .add rd ra rb)
  | .sub g rd ra rb => some (g, .reg3 .sub rd ra rb)
  | .adc g rd ra rb => some (g, .reg3 .adc rd ra rb)
  | .sbc g rd ra rb => some (g, .reg3 .sbc rd ra rb)
  | .and g rd ra rb => some (g, .reg3 .and rd ra rb)
  | .or g rd ra rb => some (g, .reg3 .or rd ra rb)
  | .xor g rd ra rb => some (g, .reg3 .xor rd ra rb)
  | .andn g rd ra rb => some (g, .reg3 .andn rd ra rb)
  | .sll g rd ra rb => some (g, .reg3 .sll rd ra rb)
  | .srl g rd ra rb => some (g, .reg3 .srl rd ra rb)
  | .sra g rd ra rb => some (g, .reg3 .sra rd ra rb)
  | .rot g rd ra rb => some (g, .reg3 .rot rd ra rb)
  | .mul g rd ra rb => some (g, .reg3 .mul rd ra rb)
  | .mulhs g rd ra rb => some (g, .reg3 .mulhs rd ra rb)
  | .mulhu g rd ra rb => some (g, .reg3 .mulhu rd ra rb)
  | .div g rd ra rb => some (g, .reg3 .div rd ra rb)
  | .divu g rd ra rb => some (g, .reg3 .divu rd ra rb)
  | .rem g rd ra rb => some (g, .reg3 .rem rd ra rb)
  | .remu g rd ra rb => some (g, .reg3 .remu rd ra rb)
  | .adds g rd ra rb => some (g, .reg3 .adds rd ra rb)
  | .subs g rd ra rb => some (g, .reg3 .subs rd ra rb)
  | .neg g rd ra => some (g, .reg2 .neg rd ra)
  | .abs g rd ra => some (g, .reg2 .abs rd ra)
  | .abss g rd ra => some (g, .reg2 .abss rd ra)
  | .clz g rd ra => some (g, .reg2 .clz rd ra)
  | .brev g rd ra => some (g, .reg2 .brev rd ra)
  | .bswap g rd ra => some (g, .reg2 .bswap rd ra)
  | .ext g rd ra pos len sign => some (g, .ext rd ra pos len sign)
  | .ins g rd ra pos len => some (g, .ins rd ra pos len)
  | .addi g rd ra v => some (g, .immed .addi rd ra v)
  | .andi g rd ra v => some (g, .immed .andi rd ra v)
  | .ori g rd ra v => some (g, .immed .ori rd ra v)
  | .xori g rd ra v => some (g, .immed .xori rd ra v)
  | .shi g rd ra kind n => some (g, .shi rd ra kind n)
  | .lui g rd v => some (g, .lui rd v)
  | .cmp g ra rb => some (g, .cmp ra rb)
  | .cmpi g ra v => some (g, .cmpi ra v)
  | .tst g ra rb => some (g, .tst ra rb)
  | .ldw g rd ra v _ => some (g, .load .ldw rd ra v)
  | .ldh g rd ra v _ => some (g, .load .ldh rd ra v)
  | .ldhu g rd ra v _ => some (g, .load .ldhu rd ra v)
  | .ldb g rd ra v _ => some (g, .load .ldb rd ra v)
  | .ldbu g rd ra v _ => some (g, .load .ldbu rd ra v)
  | .ldd g rd ra v _ => some (g, .load .ldd rd ra v)
  | .stw g rd ra v => some (g, .store .stw rd ra v)
  | .sth g rd ra v => some (g, .store .sth rd ra v)
  | .stb g rd ra v => some (g, .store .stb rd ra v)
  | .std g rd ra v => some (g, .store .std rd ra v)
  | .swap g rd ra rb _ => some (g, .atom .swap rd ra rb)
  | .fadd g rd ra rb _ => some (g, .atom .fadd rd ra rb)
  | .fand g rd ra rb _ => some (g, .atom .fand rd ra rb)
  | .for_ g rd ra rb _ => some (g, .atom .for_ rd ra rb)
  | .fxor g rd ra rb _ => some (g, .atom .fxor rd ra rb)
  | .cas g rd ra rb _ => some (g, .atom .cas rd ra rb)
  | .bc g cond off => some (g, .bc cond off)
  | .cbz g ra off => some (g, .cb false ra off)
  | .cbnz g ra off => some (g, .cb true ra off)
  | .jmp g off => some (g, .jmp off)
  | .call g off => some (g, .call off)
  | .jr g ra => some (g, .jr ra)
  | .callr g ra => some (g, .callr ra)
  | .loop g ra len => some (g, .loop ra len)
  | .loopi g count len => some (g, .loopi count len)
  | .lexit g k => some (g, .lexit k)
  | .sysNop g => some (g, .nop)
  | .wfe g => some (g, .wfe)
  | .sev g => some (g, .sev)
  | .ei g => some (g, .ei)
  | .di g => some (g, .di)
  | .reti g _ => some (g, .reti)
  | .trap g v => some (g, .trap v)
  | .break_ g v => some (g, .break_ v)
  | .csrr g r num => some (g, .csr .csrr r num)
  | .csrw g r num => some (g, .csr .csrw r num)
  | .csrs g r num => some (g, .csr .csrs r num)
  | .csrc g r num => some (g, .csr .csrc r num)
  | .icRaise g ra => some (g, .csr .csrw ra 0x2D)
  | .icPclr g ra => some (g, .csr .csrw ra 0x2E)
  | .ident g rd ra rb => some (g, .unit .ident rd ra rb)
  | .image g rd ra rb => some (g, .unit .image rd ra rb)
  | .checkpoint g rd ra rb => some (g, .unit .checkpoint rd ra rb)
  | .rate g rd ra rb => some (g, .unit .rate rd ra rb)
  | .take g rd ra rb => some (g, .unit .take rd ra rb)
  | .frameRelease g rd ra rb => some (g, .unit .release rd ra rb)
  | .hdr g rd ra rb => some (g, .unit .hdr rd ra rb)
  | .data g rd ra rb => some (g, .unit .data rd ra rb)
  | .copy g rd ra rb => some (g, .unit .copy rd ra rb)
  | .submit g rd ra rb => some (g, .unit .submit rd ra rb)
  | .done g rd ra rb => some (g, .unit .done rd ra rb)
  | .now g rd ra rb => some (g, .unit .now rd ra rb)
  | .sechi g rd ra rb => some (g, .unit .sechi rd ra rb)
  | .frac g rd ra rb => some (g, .unit .frac rd ra rb)
  | .waitUntil g rd ra rb => some (g, .unit .waitUntil rd ra rb)
  | .taskDone g rd ra rb => some (g, .unit .taskDone rd ra rb)
  | .tsqPop g rd ra rb => some (g, .unit .tsqPop rd ra rb)
  | .tsqStamp g rd ra rb => some (g, .unit .tsqStamp rd ra rb)
  | .crc g j rd ra rb => some (g, .crc j rd ra rb)
  | .cust g unit fn rd ra rb imm => some (g, if unit = 7 then .tile fn rd ra rb imm else .absent unit fn rd ra rb)
  | _ => none

/-- `c'` is the row `c`, of whose reads the codes find `f`. What the data read of a load or an atomic operation finds
is an operand of its own. -/
def Instr.Reads (f : Finds) (c c' : Instr) : Prop :=
  match c with
  | .add g rd ra rb => c' = .add ⟨g.eng, f⟩ rd ra rb
  | .sub g rd ra rb => c' = .sub ⟨g.eng, f⟩ rd ra rb
  | .adc g rd ra rb => c' = .adc ⟨g.eng, f⟩ rd ra rb
  | .sbc g rd ra rb => c' = .sbc ⟨g.eng, f⟩ rd ra rb
  | .and g rd ra rb => c' = .and ⟨g.eng, f⟩ rd ra rb
  | .or g rd ra rb => c' = .or ⟨g.eng, f⟩ rd ra rb
  | .xor g rd ra rb => c' = .xor ⟨g.eng, f⟩ rd ra rb
  | .andn g rd ra rb => c' = .andn ⟨g.eng, f⟩ rd ra rb
  | .sll g rd ra rb => c' = .sll ⟨g.eng, f⟩ rd ra rb
  | .srl g rd ra rb => c' = .srl ⟨g.eng, f⟩ rd ra rb
  | .sra g rd ra rb => c' = .sra ⟨g.eng, f⟩ rd ra rb
  | .rot g rd ra rb => c' = .rot ⟨g.eng, f⟩ rd ra rb
  | .mul g rd ra rb => c' = .mul ⟨g.eng, f⟩ rd ra rb
  | .mulhs g rd ra rb => c' = .mulhs ⟨g.eng, f⟩ rd ra rb
  | .mulhu g rd ra rb => c' = .mulhu ⟨g.eng, f⟩ rd ra rb
  | .div g rd ra rb => c' = .div ⟨g.eng, f⟩ rd ra rb
  | .divu g rd ra rb => c' = .divu ⟨g.eng, f⟩ rd ra rb
  | .rem g rd ra rb => c' = .rem ⟨g.eng, f⟩ rd ra rb
  | .remu g rd ra rb => c' = .remu ⟨g.eng, f⟩ rd ra rb
  | .adds g rd ra rb => c' = .adds ⟨g.eng, f⟩ rd ra rb
  | .subs g rd ra rb => c' = .subs ⟨g.eng, f⟩ rd ra rb
  | .neg g rd ra => c' = .neg ⟨g.eng, f⟩ rd ra
  | .abs g rd ra => c' = .abs ⟨g.eng, f⟩ rd ra
  | .abss g rd ra => c' = .abss ⟨g.eng, f⟩ rd ra
  | .clz g rd ra => c' = .clz ⟨g.eng, f⟩ rd ra
  | .brev g rd ra => c' = .brev ⟨g.eng, f⟩ rd ra
  | .bswap g rd ra => c' = .bswap ⟨g.eng, f⟩ rd ra
  | .ext g rd ra pos len sign => c' = .ext ⟨g.eng, f⟩ rd ra pos len sign
  | .ins g rd ra pos len => c' = .ins ⟨g.eng, f⟩ rd ra pos len
  | .addi g rd ra v => c' = .addi ⟨g.eng, f⟩ rd ra v
  | .andi g rd ra v => c' = .andi ⟨g.eng, f⟩ rd ra v
  | .ori g rd ra v => c' = .ori ⟨g.eng, f⟩ rd ra v
  | .xori g rd ra v => c' = .xori ⟨g.eng, f⟩ rd ra v
  | .shi g rd ra kind n => c' = .shi ⟨g.eng, f⟩ rd ra kind n
  | .lui g rd v => c' = .lui ⟨g.eng, f⟩ rd v
  | .cmp g ra rb => c' = .cmp ⟨g.eng, f⟩ ra rb
  | .cmpi g ra v => c' = .cmpi ⟨g.eng, f⟩ ra v
  | .tst g ra rb => c' = .tst ⟨g.eng, f⟩ ra rb
  | .ldw g rd ra v e => c' = .ldw ⟨g.eng, f⟩ rd ra v e
  | .ldh g rd ra v e => c' = .ldh ⟨g.eng, f⟩ rd ra v e
  | .ldhu g rd ra v e => c' = .ldhu ⟨g.eng, f⟩ rd ra v e
  | .ldb g rd ra v e => c' = .ldb ⟨g.eng, f⟩ rd ra v e
  | .ldbu g rd ra v e => c' = .ldbu ⟨g.eng, f⟩ rd ra v e
  | .ldd g rd ra v e => c' = .ldd ⟨g.eng, f⟩ rd ra v e
  | .stw g rd ra v => c' = .stw ⟨g.eng, f⟩ rd ra v
  | .sth g rd ra v => c' = .sth ⟨g.eng, f⟩ rd ra v
  | .stb g rd ra v => c' = .stb ⟨g.eng, f⟩ rd ra v
  | .std g rd ra v => c' = .std ⟨g.eng, f⟩ rd ra v
  | .swap g rd ra rb e => c' = .swap ⟨g.eng, f⟩ rd ra rb e
  | .fadd g rd ra rb e => c' = .fadd ⟨g.eng, f⟩ rd ra rb e
  | .fand g rd ra rb e => c' = .fand ⟨g.eng, f⟩ rd ra rb e
  | .for_ g rd ra rb e => c' = .for_ ⟨g.eng, f⟩ rd ra rb e
  | .fxor g rd ra rb e => c' = .fxor ⟨g.eng, f⟩ rd ra rb e
  | .cas g rd ra rb e => c' = .cas ⟨g.eng, f⟩ rd ra rb e
  | .bc g cond off => c' = .bc ⟨g.eng, f⟩ cond off
  | .cbz g ra off => c' = .cbz ⟨g.eng, f⟩ ra off
  | .cbnz g ra off => c' = .cbnz ⟨g.eng, f⟩ ra off
  | .jmp g off => c' = .jmp ⟨g.eng, f⟩ off
  | .call g off => c' = .call ⟨g.eng, f⟩ off
  | .jr g ra => c' = .jr ⟨g.eng, f⟩ ra
  | .callr g ra => c' = .callr ⟨g.eng, f⟩ ra
  | .loop g ra len => c' = .loop ⟨g.eng, f⟩ ra len
  | .loopi g count len => c' = .loopi ⟨g.eng, f⟩ count len
  | .lexit g k => c' = .lexit ⟨g.eng, f⟩ k
  | .sysNop g => c' = .sysNop ⟨g.eng, f⟩
  | .wfe g => c' = .wfe ⟨g.eng, f⟩
  | .sev g => c' = .sev ⟨g.eng, f⟩
  | .ei g => c' = .ei ⟨g.eng, f⟩
  | .di g => c' = .di ⟨g.eng, f⟩
  | .reti g e => c' = .reti ⟨g.eng, f⟩ e
  | .trap g v => c' = .trap ⟨g.eng, f⟩ v
  | .break_ g v => c' = .break_ ⟨g.eng, f⟩ v
  | .csrr g r num => c' = .csrr ⟨g.eng, f⟩ r num
  | .csrw g r num => c' = .csrw ⟨g.eng, f⟩ r num
  | .csrs g r num => c' = .csrs ⟨g.eng, f⟩ r num
  | .csrc g r num => c' = .csrc ⟨g.eng, f⟩ r num
  | .icRaise g ra => c' = .icRaise ⟨g.eng, f⟩ ra
  | .icPclr g ra => c' = .icPclr ⟨g.eng, f⟩ ra
  | .ident g rd ra rb => c' = .ident ⟨g.eng, f⟩ rd ra rb
  | .image g rd ra rb => c' = .image ⟨g.eng, f⟩ rd ra rb
  | .checkpoint g rd ra rb => c' = .checkpoint ⟨g.eng, f⟩ rd ra rb
  | .rate g rd ra rb => c' = .rate ⟨g.eng, f⟩ rd ra rb
  | .take g rd ra rb => c' = .take ⟨g.eng, f⟩ rd ra rb
  | .frameRelease g rd ra rb => c' = .frameRelease ⟨g.eng, f⟩ rd ra rb
  | .hdr g rd ra rb => c' = .hdr ⟨g.eng, f⟩ rd ra rb
  | .data g rd ra rb => c' = .data ⟨g.eng, f⟩ rd ra rb
  | .copy g rd ra rb => c' = .copy ⟨g.eng, f⟩ rd ra rb
  | .submit g rd ra rb => c' = .submit ⟨g.eng, f⟩ rd ra rb
  | .done g rd ra rb => c' = .done ⟨g.eng, f⟩ rd ra rb
  | .now g rd ra rb => c' = .now ⟨g.eng, f⟩ rd ra rb
  | .sechi g rd ra rb => c' = .sechi ⟨g.eng, f⟩ rd ra rb
  | .frac g rd ra rb => c' = .frac ⟨g.eng, f⟩ rd ra rb
  | .waitUntil g rd ra rb => c' = .waitUntil ⟨g.eng, f⟩ rd ra rb
  | .taskDone g rd ra rb => c' = .taskDone ⟨g.eng, f⟩ rd ra rb
  | .tsqPop g rd ra rb => c' = .tsqPop ⟨g.eng, f⟩ rd ra rb
  | .tsqStamp g rd ra rb => c' = .tsqStamp ⟨g.eng, f⟩ rd ra rb
  | .crc g j rd ra rb => c' = .crc ⟨g.eng, f⟩ j rd ra rb
  | .cust g unit fn rd ra rb imm => c' = .cust ⟨g.eng, f⟩ unit fn rd ra rb imm
  | _ => c' = c

/-- An integer outside the signed 32-bit range. -/
def beyond (i : Int) : Bool := i < -2147483648 || 2147483647 < i

/-- A PSR with Z and N of a result (R533). -/
def withNZ (r p : Word) : Word := (p &&& 0xFFFFFFFC) ||| wd (b2n (r == 0) + 2 * b2n r.msb)

/-- A PSR with C; with V. -/
def withC (c : Bool) (p : Word) : Word := (p &&& 0xFFFFFFFB) ||| wd (4 * b2n c)
def withV (v : Bool) (p : Word) : Word := (p &&& 0xFFFFFFF7) ||| wd (8 * b2n v)

/-- Engine `g` goes on after an instruction with effect `f` on its registers: the loop test of R542 gives the next pc,
and ICNT counts. -/
def Machine.State.goesOn (g : Nat) (f : Cpu → Cpu) (s : State) : State :=
  s.upCpu g fun c =>
    let r := loopNext c.pc 8 (f c)
    { r.2 with pc := r.1, icnt := r.2.icnt + 1 }

/-- Engine `g` goes on at `target`, leaving the loops that do not hold it (R543). -/
def Machine.State.leapsTo (g target : Nat) (s : State) : State :=
  s.upCpu g fun c =>
    let c' := popLeft c.pc target 8 c
    { c' with pc := target, icnt := c'.icnt + 1 }

/-- Engine `g` writes result `r` to `rd`, with Z and N of it and the other flags as `f` leaves them. -/
def Machine.State.gives (g rd : Nat) (r : Word) (f : Word → Word) (s : State) : State :=
  s.goesOn g fun c => { c with x := c.x.set rd r, psr := f (withNZ r c.psr) }

/-- What a write of `n` bytes of value `w` at address `a` by engine `g` leaves: those bytes in its data or shared memory,
and every other byte of every engine's memories as before; the registers go on as `f` gives. -/
def Stored (g a n w : Nat) (f : Cpu → Cpu) (s t : State) : Prop :=
  (∀ b, t.engByte g b = if a ≤ b ∧ b < a + n then BitVec.ofNat 8 (w / 256 ^ (b - a)) else s.engByte g b) ∧
  (∀ h b, h ≠ g → h / 8 ≠ g / 8 ∨ a < 0x20000000 ∨ b < a ∨ a + n ≤ b → t.engByte h b = s.engByte h b) ∧
  t.cpu g = (s.goesOn g f).cpu g ∧ (∀ h, h ≠ g → t.cpu h = s.cpu h) ∧
  t = { s with engines := t.engines, shared := t.shared }

/-- Engine `g`'s submission of descriptor and data `d` is entered, with status 0 in `rd` (R511). -/
def Machine.State.submitted (g rd : Nat) (d : List Byte) (s : State) : State :=
  { s.upEng g (fun e =>
      { e with cpu := { e.cpu with x := e.cpu.x.set rd 0 },
               subs := e.subs ++ [{ tag := leAt d 28 4, request := some s.nextId, status := none }] }) with
    nextId := s.nextId + 1 }

/-- The state's tables are in canonical form: what every operation on them keeps. -/
def Machine.State.canonical (s : State) : Bool :=
  Tbl.wf (resetWord s.fuse) s.regs && Tbl.wf (fun _ => none) s.stage && Tbl.wf (fun _ => none) s.latch
    && Memory.wf s.mem && Tbl.wf (fun _ => Link1.free) s.links && Tbl.wf (fun _ => none) s.recs
    && Tbl.wf (fun _ => Desc.unused) s.descs && Tbl.wf (fun _ => Fifo.none) s.fifos
    && Tbl.wf Partner.none s.partners && Tbl.wf (fun _ => Slice.empty) s.slices && Tbl.wf (fun _ => []) s.routes
    && Tbl.wf IrqSrc.reset s.irq && Tbl.wf (fun _ => EventQ.reset) s.eqs && Tbl.wf (fun _ => HostQ.reset) s.hostQs
    && Tbl.wf (fun _ => BcnPort.reset) s.bports && Tbl.wf (fun _ => BusLane.reset) s.bus
    && Tbl.wf (fun _ => NodeEnt.free) s.nodes && Tbl.wf (fun _ => Port.reset) s.ports
    && Tbl.wf (fun _ => none) s.scheds && Tbl.wf (fun _ => Timeline.stopped) s.timelines
    && Tbl.wf (fun _ => none) s.ctxs && Tbl.wf (fun _ => Quar.empty) s.quar
    && Tbl.wf (fun _ => Engine.unused) s.engines && Tbl.wf (fun _ => (0 : Byte)) s.shared
    && Tbl.wf (fun _ => Tile.none) s.tiles && Tbl.wf (fun _ => none) s.loads && Tbl.wf (fun _ => Spar.reset) s.spars

end Sys2Proof
end

