-- ==== Sys2Proof/Certificates/Slice0/Obligations.lean ====
section
/-! DEFINITION. What is stated of the model, for the provers. -/
open Sys2Proof Sys2Proof.Machine

/-! ### Steps and reset -/

/-- A step with a command at the front of the queue performs it on the state with the queue's rest. -/
def Obligations.StepRunsFront : Prop :=
  ∀ (c : Instr) (rest : List Instr) (s : State),
    step { s with pending := c :: rest } = exec c { s with pending := rest }

/-- With an empty queue and Beacon stopped a step changes nothing; with Beacon running its raw counter advances by
6.25 ns (R412), and where no cell cycle is loaded, no CELL_PPS_IN edge is awaited, both output pins are low and not
enabled, no port is in hold-off and no channel recovers, the counter and the mark of the second that has passed are all
that changes. The clock is the model's choice (log 43). -/
def Obligations.IdleStepTicks : Prop :=
  ∀ s : State, s.pending = [] →
    (s.beacon.running = false → step s = .next s) ∧
    (s.beacon.running = true → s.cycle = none → s.beacon.ppsLast = none → s.beacon.ppsUntil = none →
      s.beacon.syncHigh = false → s.rb 0x8020 21 = false →
      (∀ p, (s.bport p).hold = false) → (∀ n, (s.lane n).recovering = false) →
      step s = .next { s with beacon := { s.beacon with
        raw := s.beacon.raw + 409600, ppsNext := max s.beacon.ppsNext (s.beacon.second + 1) } }) ∧
    (s.beacon.running = true → ∃ t, step s = .next t ∧ t.beacon.raw = s.beacon.raw + 409600)

/-- After reset every register field of these tables reads as its Reset entry gives it (R739): bus bit timings, port
configuration, event enables of every block, filter and cycle registers; cell memory reads zero (R762), and every
table is in canonical form. -/
def Obligations.ResetValues : Prop :=
  State.reset.canonical = true ∧
  (∀ n < 40, State.reset.rd (busBase n + 0x100) = 0x00CF878F ∧ State.reset.rd (busBase n + 0x104) = 0x0000EA73 ∧
    State.reset.rd (busBase n + 0x108) = 0x00003484) ∧
  (∀ p < 24, fld (State.reset.rd (macBase p)) 29 3 = if p % 6 = 5 then 4 else 1) ∧
  State.reset.rd 0x413C = 0x1F ∧ State.reset.rd 0x601C = 0xF ∧ State.reset.rd 0x805C = 0x7F ∧
  State.reset.rd 0xA02C = 0x3F ∧ State.reset.rd 0x1C09C = 0x3F ∧
  (∀ a, State.reset.cellByte a = 0) ∧
  (∀ i, (State.reset.desc i).kind = .unused) ∧
  (∀ n, (State.reset.lane n).ctl = .quiet)

/-! ### Registers -/

/-- A register write: nothing happens at an offset that names no register or in a closed window (R7, R48, R730); a
partial word is rejected with its offset, and KPR_INBUF honours byte enables (R732); a whole word of a filter's
staging register is stored, the bits its word does not use apart (R15, R331), and nothing else changes. A write of
the set alias of an event register sets the bits written as 1, and one of the clear alias clears them (R18, R735),
bits that the register does not define apart; those of MOD_REJECT do so with its one bit, its clearing with
MOD_REJECT_INFO (R77); those of IRQ_SPEND are IRQ_SPEND_SET and IRQ_SPEND_CLEAR. At an offset that is no such alias,
or in a closed window, the two rows do nothing. -/
def Obligations.RegistersAndAliases : Prop :=
  (∀ (yw : Bool) (off be : Nat) (w : Word) (fetched : Option (List Byte)) (e : Meets) (s : State),
     (s.open_ off = false → exec (.registerWrite yw off be w fetched e) s = .next s) ∧
     (s.open_ off = true → be % 16 ≠ 15 → (∀ k, Reg.ofOff off ≠ some (.kprInbuf k)) →
       exec (.registerWrite yw off be w fetched e) s = .next (s.encReject off)) ∧
     (∀ k, k < 1024 → off = 0x1D000 + 4 * k → s.open_ off = true →
       After (.registerWrite yw off be w fetched e) s fun t =>
         (∀ i < 4, fld (t.rd off) (8 * i) 8 = fld (if be.testBit i then w else s.rd off) (8 * i) 8) ∧
         (∀ o, o ≠ off → t.rd o = s.rd o) ∧ t = { s with regs := t.regs }) ∧
     (∀ c k, c < 4 → k < 16 → off = fltBase c + 0x40 + 4 * k → s.open_ off = true → be = 15 →
       After (.registerWrite yw off be w fetched e) s fun t =>
         t.rd off = (if k < 12 then w else if k = 12 then w &&& 0x3FFFF else 0) ∧
         (∀ o, o ≠ off → t.rd o = s.rd o) ∧ t = { s with regs := t.regs })) ∧
  (∀ (yw : Bool) (w : Word) (s : State),
     (∀ b, Reg.ofOff (b.evtOff + 4) = some (.evt b 1) → s.open_ (b.evtOff + 4) = true →
       After (.stickySet yw (b.evtOff + 4) w) s fun t =>
         t.rd b.evtOff = s.rd b.evtOff ||| (w &&& wd b.evtenReset) ∧ (∀ o, o ≠ b.evtOff → t.rd o = s.rd o) ∧
         t = { s with regs := t.regs, engines := t.engines }) ∧
     (∀ b, Reg.ofOff (b.evtOff + 8) = some (.evt b 2) → s.open_ (b.evtOff + 8) = true →
       After (.stickyClear yw (b.evtOff + 8) w) s fun t =>
         t.rd b.evtOff = s.rd b.evtOff &&& ~~~(w &&& wd b.evtenReset) ∧ (∀ o, o ≠ b.evtOff → t.rd o = s.rd o) ∧
         t = { s with regs := t.regs }) ∧
     (s.open_ 0x54 = true → exec (.stickySet yw 0x54 w) s = .next (if bit w 0 then s.wr 0x50 1 else s)) ∧
     (s.open_ 0x58 = true →
       exec (.stickyClear yw 0x58 w) s = .next (if bit w 0 then (s.wr 0x50 0).wr 0x5C 0 else s)) ∧
     (∀ k < 32, exec (.stickySet yw (0xE000 + 0x10 * k + 4) w) s = exec (.irqSpendSet yw k w) s ∧
       exec (.stickyClear yw (0xE000 + 0x10 * k + 8) w) s = exec (.irqSpendClear yw k w) s) ∧
     (∀ off, isAlias 1 off = false ∨ s.open_ off = false → exec (.stickySet yw off w) s = .next s) ∧
     (∀ off, isAlias 2 off = false ∨ s.open_ off = false → exec (.stickyClear yw off w) s = .next s))

/-- A read of a hit counter answers its value and clears it (R735); a read of word 0 of a node table entry latches the
whole entry for the link that reads (R733). The host's read is answered; nothing else changes. A BAR2 write changes
the four bytes of its word in a cell whose hw bit is 1, and is otherwise only counted (R227); a BAR2 read answers
the word (R236). -/
def Obligations.CountersLatchesAndBar2 : Prop :=
  (∀ (s : State),
     (∀ c i, c < 4 → i < 4096 → s.open_ (fltBase c + 0x1000 + 4 * i) = true →
       After (.counterReadClear false (fltBase c + 0x1000 + 4 * i)) s fun t =>
         t.out = .hostRead 0 (fltBase c + 0x1000 + 4 * i) (s.rd (fltBase c + 0x1000 + 4 * i)) :: s.out ∧
         t.rd (fltBase c + 0x1000 + 4 * i) = 0 ∧
         (∀ o, o ≠ fltBase c + 0x1000 + 4 * i → t.rd o = s.rd o) ∧
         t = { s with regs := t.regs, out := t.out }) ∧
     (∀ (yw : Bool) (i : Nat), i < 4096 → s.open_ (0x400000 + 0x20 * i) = true →
       After (.latchedRead yw (0x400000 + 0x20 * i)) s fun t =>
         (∀ k < 8, t.latched (b2n yw) (.node i k) = wordAt (s.node i).bytes k) ∧
         t = { s with latch := t.latch, out := t.out })) ∧
  (∀ (a : Nat) (w : Word) (s : State), a < 2 ^ 24 → a % 4 = 0 → s.mode.bar2 = true →
     ((s.link (a / 64)).hw = true → Memory.wf s.mem = true →
       After (.bar2Write a 15 w) s fun t =>
         (∀ k < 4, t.cellByte (a + k) = BitVec.ofNat 8 (fld w (8 * k) 8)) ∧
         (∀ b, b < a ∨ a + 4 ≤ b → t.cellByte b = s.cellByte b) ∧ t = { s with mem := t.mem }) ∧
     ((s.link (a / 64)).hw = false → exec (.bar2Write a 15 w) s = .next (s.cnt 0x401C)) ∧
     After (.bar2Read a .good) s fun t => t = s.emit (.hostRead 2 a (wordAt (s.getBytes a 4) 0)))

/-- The doorbell stores a tail within the ring and rejects any other with its offset (R75); clearing enable stops the
queue, leaves the executing command, and zeroes head and tail (R76). REGISTER_WRITE does to a register what the row of
its own does; MOD_REJECT is set and cleared through its aliases, its clearing with the rejection count (R77). -/
def Obligations.CommandQueueRegisters : Prop :=
  ∀ (yw : Bool) (w : Word) (s : State),
    (s.open_ 0x10C = true → fld w 0 8 < 2 ^ s.rf 0x108 0 4 →
      After (.cmdqTail yw w) s fun t =>
        t.rd 0x10C = wd (fld w 0 8) ∧ (∀ o, o ≠ 0x10C → t.rd o = s.rd o) ∧ t = { s with regs := t.regs }) ∧
    (∀ f e, s.open_ 0x10C = true → fld w 0 8 < 2 ^ s.rf 0x108 0 4 →
      After (.registerWrite yw 0x10C 15 w f e) s fun t =>
        t.rd 0x10C = wd (fld w 0 8) ∧ (∀ o, o ≠ 0x10C → t.rd o = s.rd o) ∧ t = { s with regs := t.regs }) ∧
    (s.open_ 0x54 = true → bit w 0 = true → After (.stickySet yw 0x54 w) s fun t =>
      t.rd 0x50 = 1 ∧ (∀ o, o ≠ 0x50 → t.rd o = s.rd o) ∧ t = { s with regs := t.regs }) ∧
    (s.open_ 0x58 = true → bit w 0 = true → After (.stickyClear yw 0x58 w) s fun t =>
      t.rd 0x50 = 0 ∧ t.rd 0x5C = 0 ∧ (∀ o, o ≠ 0x50 → o ≠ 0x5C → t.rd o = s.rd o) ∧ t = { s with regs := t.regs }) ∧
    (s.open_ 0x10C = true → 2 ^ s.rf 0x108 0 4 ≤ fld w 0 8 → After (.cmdqTail yw w) s fun t =>
      t = s.encReject 0x10C ∧ t.rd 0x10C = s.rd 0x10C ∧ t.rd 0x50 = 1 ∧
      (s.rf 0x5C 26 6 = 0 → t.rd 0x5C = wd (2 ^ 26 + 0x10C))) ∧
    (s.open_ 0x108 = true → s.rb 0x108 31 = true → bit w 31 = false → fld w 0 4 = s.rf 0x108 0 4 →
      4 ≤ fld w 0 4 → fld w 0 4 ≤ 8 →
      After (.cmdqCfg yw w) s fun t =>
        t.rb 0x108 31 = false ∧ t.rd 0x10C = 0 ∧ t.rd 0x110 = 0 ∧ t = { s with regs := t.regs })

/-! ### The whole machine -/

/-- A command changes no field of the state but those that its row of `Instr.touches` names: the frame of each of the
commands. -/
def Obligations.CommandFrames : Prop :=
  ∀ (c : Instr) (s t : State), exec c s = .next t → Touches c.touches s t

/-- Every step of the machine keeps the canonical form of its tables and of cell memory, leaves the fuses as they are,
takes at most one command from the queue, and takes back nothing that was sent. -/
def Obligations.StepInvariant : Prop :=
  ∀ s t : State, step s = .next t →
    (s.canonical = true → t.canonical = true) ∧ t.fuse = s.fuse ∧ t.pending = s.pending.tail ∧ s.out <:+ t.out

/-- The mode commands of Table 2-7 that complete, none other waiting: what mode the executor leaves behind, that the
command is no longer executing, and what the mode's entry discards; a wake that fired meanwhile ends SLEEP at once
(R58). -/
def Obligations.ModeCommands : Prop :=
  ∀ (s : State) (c : Cmd), s.ctl.exec = some c → s.ctl.waiting = [] →
    (c.opcode = 4 → s.mode ≠ .standby → After .enterStandby s fun t =>
      t.ctl = { s.ctl with exec := none, mode := .standby, prev := s.mode }) ∧
    (c.opcode = 5 → s.mode = .standby → After .resume s fun t =>
      t.ctl = { s.ctl with exec := none, mode := s.runMode, prev := .standby }) ∧
    (c.opcode = 6 → s.mode = .standby → s.ctl.wakePending = false → After .enterSleep s fun t =>
      t.ctl = { s.ctl with exec := none, mode := .sleep, prev := .standby, wakeFired := [] } ∧ t.shared = [] ∧
      t.transit = []) ∧
    (c.opcode = 6 → s.mode = .standby → s.ctl.wakePending = true → After .enterSleep s fun t =>
      t.mode = .standby ∧ t.ctl.prev = .sleep ∧ t.ctl.exec = none ∧ t.ctl.wakePending = false) ∧
    (c.opcode = 7 → s.mode ≠ .service → s.serviceCell = true → After .enterService s fun t =>
      t.ctl = { s.ctl with exec := none, mode := .service, prev := s.mode }) ∧
    (c.opcode = 8 → s.mode = .service → After .leaveService s fun t =>
      t.ctl = { s.ctl with exec := none, mode := if s.struct.isSome then s.runMode else .unconfigured,
                           prev := .service }) ∧
    (c.opcode = 9 → s.mode ≠ .test → s.testCell = true → After .enterTest s fun t =>
      t.ctl = { s.ctl with exec := none, mode := .test, prev := s.mode }) ∧
    (c.opcode = 10 → s.mode = .test → After .leaveTest s fun t =>
      t.ctl = { s.ctl with exec := none, mode := .unconfigured, prev := .test } ∧ t.struct = none ∧
        t.beacon.raw = 0) ∧
    (c.opcode = 11 → s.mode ≠ .bringUp → (s.mode = .faultHold → s.ctl.causePresent = false) →
      After .moduleReset s fun t =>
        t.ctl = { ModeCtl.reset with mode := .bringUp, prev := s.mode } ∧ t.struct = none ∧ t.mem = [] ∧
        t.beacon.running = true ∧ t.beacon.raw = 0)

/-- Where the access matrix or a present hold cause denies a mode command, the mode stays and the command completes with
DENIED (R62, R638). A command of the executor acts only while it is the command executing: with another opcode
there, or none, its row does nothing (R65, R66). -/
def Obligations.IdleAndDeniedCommands : Prop :=
  (∀ (s : State) (c : Cmd), s.ctl.exec = some c → s.ctl.waiting = [] →
     let denied (t : State) : Prop := t.ctl = { s.ctl with exec := none } ∧
       ∀ a, c.origin = .host a → s.hostOpen = true → Out.hostWrite a [5, 0, 1, 0, 0, 0, 0, 0] ∈ t.out
     (c.opcode = 7 → s.serviceCell = false → After .enterService s denied) ∧
     (c.opcode = 9 → s.testCell = false → After .enterTest s denied) ∧
     (c.opcode = 11 → s.mode = .faultHold → s.ctl.causePresent = true → After .moduleReset s denied)) ∧
  (∀ s : State,
     (s.executing 0 = none → exec .nop s = .next s) ∧ (s.executing 3 = none → exec .unload s = .next s) ∧
     (s.executing 4 = none → exec .enterStandby s = .next s) ∧ (s.executing 5 = none → exec .resume s = .next s) ∧
     (s.executing 6 = none → exec .enterSleep s = .next s) ∧ (s.executing 7 = none → exec .enterService s = .next s) ∧
     (s.executing 8 = none → exec .leaveService s = .next s) ∧ (s.executing 9 = none → exec .enterTest s = .next s) ∧
     (s.executing 10 = none → exec .leaveTest s = .next s) ∧ (s.executing 11 = none → exec .moduleReset s = .next s) ∧
     (s.executing 12 = none → exec .restep s = .next s) ∧ (s.executing 13 = none → exec .busRetry s = .next s) ∧
     (s.executing 14 = none → exec .bufUnpark s = .next s) ∧ (s.executing 15 = none → exec .sparOn s = .next s) ∧
     (s.executing 16 = none → exec .sparOff s = .next s) ∧
     (∀ d, s.executing 17 = none → exec (.sparClear d) s = .next s) ∧
     (s.executing 18 = none → exec .spareApprove s = .next s) ∧
     (s.executing 19 = none → exec .auditSnapshot s = .next s) ∧ (s.executing 20 = none → exec .calCommit s = .next s))

/-! ### Port power -/

/-- Inrush, limit and power-good of an output (R685, R686, R688, R691): the state it enters with the measured values,
where it is in the state the row starts from; in any other state nothing happens. Other outputs stay as they are. A
PD found in DETECT (R680): without classification the output powers the pair; with it the class is kept, and the
pair is powered or CLASS_REFUSED is raised as the class mask says. -/
def Obligations.OutputStatesAndDetection : Prop :=
  (∀ (s : State) (q mV mA : Nat),
     ((s.spar q).state = .inrush → After (.portInrushComplete q mV mA) s
       (SparSet q { s.spar q with state := .on, vOut := mV, iOut := mA } s)) ∧
     ((s.spar q).state ≠ .inrush → exec (.portInrushComplete q mV mA) s = .next s) ∧
     ((s.spar q).state = .on → After (.portLimit q mV mA) s fun t =>
       SparSet q { s.spar q with state := .limit, pg := false, vOut := mV, iOut := mA } s t ∧
       t.rb Blk.spar.evtOff 1 = true) ∧
     ((s.spar q).state = .limit → After (.portLimitEnd q mV mA) s
       (SparSet q { s.spar q with state := .on, vOut := mV, iOut := mA } s)) ∧
     ((s.spar q).state = .on → After (.portPg q true mV mA) s
       (SparSet q { s.spar q with pg := true, vOut := mV, iOut := mA } s)) ∧
     (After (.portPg q false mV mA) s (SparSet q { s.spar q with pg := false, vOut := mV, iOut := mA } s)) ∧
     ((s.spar q).pg = true → After (.portRetriesReset q) s (SparSet q { s.spar q with retries := 0 } s))) ∧
  (∀ (s : State) (q cls : Nat) (c : Instr), (s.spar q).state = .detect → cls < 16 →
     (c = .pdDetected q cls ∨ c = .detectRepeat q (some cls)) →
     (s.rb (sparBase q) 28 = false → After c s (SparSet q { s.spar q with state := .inrush } s)) ∧
     (s.rb (sparBase q) 28 = true → s.rb (sparBase q + 4) cls = true → cls < 8 → After c s
       (SparSet q { s.spar q with state := .inrush, classValid := true, cls := cls } s)) ∧
     (s.rb (sparBase q) 28 = true → s.rb (sparBase q + 4) cls = false → cls < 8 → After c s fun t =>
       SparSet q { s.spar q with state := .classify, classValid := true, cls := cls } s t ∧
       t.rb Blk.spar.evtOff 6 = true))

/-- A trip in the state its timer runs in (R685 to R687): with a retry left the output enters RETRY_OFF and its retries
grow by one; beyond retry_max it enters LATCHED and its commanded bit is cleared (R690, R691). PORT_TRIP is raised.
A damaged pass element found on a fitted output that is off clears its commanded bit and leaves it in PASS_FAULT,
with the event and a storage operation for the health record (R693, R722); LIMIT_SHED while the input switch limits
turns off the chosen output (R696), and does nothing otherwise. -/
def Obligations.OutputTripsAndShedding : Prop :=
  (∀ (s : State) (q mA : Nat) (c : Instr),
     (c = .portInrushTimeout q mA ∧ (s.spar q).state = .inrush ∨ c = .portFaultTimer q mA ∧ (s.spar q).state = .limit ∨
       c = .portShort q mA ∧ ((s.spar q).state = .inrush ∨ (s.spar q).state = .on ∨ (s.spar q).state = .limit)) →
     ((s.spar q).retries < s.rf (sparBase q) 20 4 → After c s fun t =>
       SparSet q { s.spar q with state := .retryOff, retries := (s.spar q).retries + 1, pg := false, queued := false,
                                 iOut := 0 } s t ∧
       t.rb Blk.spar.evtOff 2 = true) ∧
     (s.rf (sparBase q) 20 4 ≤ (s.spar q).retries → After c s fun t =>
       SparSet q { s.spar q with state := .latched, commanded := false, pg := false, queued := false, iOut := 0 } s t ∧
       t.rb Blk.spar.evtOff 2 = true ∧ t.rb Blk.spar.evtOff 3 = true)) ∧
  (∀ (s : State) (q : Nat),
     (s.hasSpar q = true → (s.spar q).state = .off ∨ (s.spar q).state = .shed ∨ (s.spar q).state = .retryOff ∨
       (s.spar q).state = .latched → After (.portPassFault q) s fun t =>
         SparSet q { s.spar q with state := .passFault, passFault := true, commanded := false, pg := false,
                                   queued := false, iOut := 0 } s t ∧
         t.rb Blk.spar.evtOff 4 = true ∧ KOp.health ∈ t.keeper.ops) ∧
     (s.power.sw = .limit → s.shedChoice = some q → After .limitShed s fun t =>
       SparSet q { s.spar q with state := .off, commanded := false, pg := false, queued := false, iOut := 0 } s t ∧
       t.rb Blk.spar.evtOff 5 = true) ∧
     (s.power.sw ≠ .limit → exec .limitShed s = .next s))

/-- The end of the off time, the turn of a start sequence, and a class retry while PWR_WARN# is not asserted (R680,
R683, R690): the output that is due starts, a PoDL output in DETECT and a segment output in INRUSH. SPAR_ON,
SPAR_OFF and SPAR_CLEAR on a fitted output that is not retired (Table 20-2): the commanded bit, the state and the
retries they leave; SPAR_CLEAR in SERVICE of an output whose test finds nothing closes its guard (R694). -/
def Obligations.OutputStartsAndCommands : Prop :=
  (∀ (s : State) (q : Nat), s.power.warn = false →
     ((s.spar q).state = .retryOff → s.sparDue q = true → After (.portRetryEnd q) s
       (SparSet q (if 40 ≤ q then { s.spar q with state := .detect, queued := false, classValid := false }
                   else { s.spar q with state := .inrush, queued := false }) s)) ∧
     ((s.spar q).state = .retryOff → s.sparDue q = false → After (.portRetryEnd q) s
       (SparSet q { s.spar q with state := .off, pg := false, queued := false, iOut := 0 } s)) ∧
     (s.nextStart = some q → After .outputSequenceStart s
       (SparSet q (if 40 ≤ q then { s.spar q with state := .detect, queued := false, classValid := false }
                   else { s.spar q with state := .inrush, queued := false }) s)) ∧
     ((s.spar q).state = .classify → After (.classRetry q none) s
       (SparSet q { s.spar q with state := .detect, classValid := false } s))) ∧
  (∀ (s : State) (c : Cmd), s.ctl.exec = some c → s.ctl.waiting = [] →
     s.hasSpar c.target = true → (s.spar c.target).state ≠ .retired → s.reconf (sparCluster c.target) = false →
     (c.opcode = 15 → (s.spar c.target).state = .off → (s.spar c.target).commanded = false →
       s.plan c.target = none → s.sparPermitted c.target = true → s.power.warn = false →
       s.heldMa + s.sparLimit c.target ≤ s.budgetMa → After .sparOn s fun t =>
         SparSet c.target (if 40 ≤ c.target then { s.spar c.target with state := .detect, commanded := true,
                                                                        queued := false, classValid := false }
                           else { s.spar c.target with state := .inrush, commanded := true, queued := false }) s t ∧
         t.ctl = { s.ctl with exec := none }) ∧
     (c.opcode = 15 → (s.spar c.target).state = .off → (s.spar c.target).commanded = false →
       s.plan c.target = none → s.budgetMa < s.heldMa + s.sparLimit c.target → 0 < s.sparLimit c.target →
       After .sparOn s fun t => t.spars = s.spars ∧ t.ctl = { s.ctl with exec := none }) ∧
     (c.opcode = 16 → (s.spar c.target).state ≠ .latched → (s.spar c.target).state ≠ .passFault →
       After .sparOff s fun t =>
         SparSet c.target { s.spar c.target with state := .off, commanded := false, retries := 0, pg := false,
                                                 queued := false, iOut := 0 } s t ∧
         t.ctl = { s.ctl with exec := none }) ∧
     (∀ d, c.opcode = 17 → (s.spar c.target).state = .retryOff ∨ (s.spar c.target).state = .latched →
       After (.sparClear d) s fun t =>
         SparSet c.target { s.spar c.target with state := .off, commanded := false, retries := 0, pg := false,
                                                 queued := false, iOut := 0 } s t ∧
         t.ctl = { s.ctl with exec := none }) ∧
     (c.opcode = 17 → s.mode = .service → (s.spar c.target).state = .passFault → s.health.due = [] →
       s.health.unrecorded = [] → s.health.pends = [] → After (.sparClear 0) s fun t =>
         SparSet c.target { s.spar c.target with state := .off, commanded := false, retries := 0, pg := false,
                                                 queued := false, iOut := 0, passFault := false } s t ∧
         KOp.health ∈ t.keeper.ops ∧ t.ctl = { s.ctl with exec := none }))

/-! ### Genat: instructions -/

/-- A row of Genat acts only where its engine runs and the word at its pc is the instruction the row names: each other
time nothing happens. Where the read of that word finds an uncorrectable error the engine halts, and the unit's fault is
reported; a corrected error is counted, and the instruction runs (R504). The vector word of a trap that it takes is read
alike: an uncorrectable one halts the engine with pc where it was. The other rows' statements are of sound reads. -/
def Obligations.EnginesIdle : Prop :=
  ∀ (c c' : Instr) (i : Issue) (o : Op) (s : State), c.op = some (i, o) →
    let g := i.eng
    let lost (s : State) := (s.haltFault g).report ⟨mkUnit kEngine g, 2⟩
    (s.issues g o = false → exec c s = .next s) ∧
    (s.issues g o = true →
      (i.finds.fetch = .uncorrectable → exec c s = .next (lost s)) ∧
      (i.finds.fetch = .corrected → c.Reads { i.finds with fetch := .good } c' →
        exec c s = exec c' (s.countEng g 6)) ∧
      (∀ t, i.finds.fetch = .good → o ≠ .reti → c.Reads { i.finds with vector := .good } c' → exec c' s = .next t →
        (t.tookVector s g = false → exec c s = .next t) ∧
        (t.tookVector s g = true →
          (i.finds.vector = .corrected → exec c s = .next (t.countEng g 6)) ∧
          (i.finds.vector = .uncorrectable →
            exec c s = .next (lost (t.upCpu g fun k => { k with pc := (s.cpu g).pc }))))))

/-- Every well-formed Genat instruction decodes from its word to itself, with every operand at every value its
encoding admits. A UNIT call of a function that a unit offers is its own row's, not CUST's. -/
def Obligations.GenatWordsDecode : Prop :=
  ∀ (c : Instr) (i : Issue) (o : Op), c.wf = true → c.op = some (i, o) →
    (∀ unit fn rd ra rb, o = .absent unit fn rd ra rb → unitOf unit fn = none ∧ (fn = 0 → unit < 3 ∨ 7 < unit)) →
    decodeWord o.word = some o

/-- ADD, SUB, ADC, SBC, NEG, ADDI, CMP and CMPI: the result, N and Z of it, C as the carry out of the unsigned sum
(for a subtraction, no borrow) and V as an exact result outside the signed range. -/
def Obligations.AddAndSubtract : Prop :=
  ∀ (s : State) (g rd ra rb v : Nat), fetchable (s.nextPc g) = true →
    let a := s.x g ra
    let b := s.x g rb
    let i : Word := (BitVec.ofNat 18 v).signExtend 32
    let k := b2n ((s.psr g).getLsbD 2)
    let flags (e : Int) (c : Bool) := fun p => withV (beyond e) (withC c p)
    (s.issues g (.reg3 .add rd ra rb) = true → exec (.add (.clean g) rd ra rb) s =
      .next (s.gives g rd (a + b) (flags (a.toInt + b.toInt) (2 ^ 32 ≤ a.toNat + b.toNat)))) ∧
    (s.issues g (.reg3 .sub rd ra rb) = true → exec (.sub (.clean g) rd ra rb) s =
      .next (s.gives g rd (a - b) (flags (a.toInt - b.toInt) (b.toNat ≤ a.toNat)))) ∧
    (s.issues g (.reg3 .adc rd ra rb) = true → exec (.adc (.clean g) rd ra rb) s =
      .next (s.gives g rd (a + b + wd k) (flags (a.toInt + b.toInt + k) (2 ^ 32 ≤ a.toNat + b.toNat + k)))) ∧
    (s.issues g (.reg3 .sbc rd ra rb) = true → exec (.sbc (.clean g) rd ra rb) s =
      .next (s.gives g rd (a - b - 1 + wd k) (flags (a.toInt - b.toInt - 1 + k) (b.toNat + 1 ≤ a.toNat + k)))) ∧
    (s.issues g (.reg2 .neg rd ra) = true → exec (.neg (.clean g) rd ra) s =
      .next (s.gives g rd (0 - a) (flags (-a.toInt) (a == 0)))) ∧
    (s.issues g (.immed .addi rd ra v) = true → exec (.addi (.clean g) rd ra v) s =
      .next (s.gives g rd (a + i) (flags (a.toInt + i.toInt) (2 ^ 32 ≤ a.toNat + i.toNat)))) ∧
    (s.issues g (.cmp ra rb) = true → exec (.cmp (.clean g) ra rb) s =
      .next (s.goesOn g fun c =>
        { c with psr := flags (a.toInt - b.toInt) (b.toNat ≤ a.toNat) (withNZ (a - b) c.psr) })) ∧
    (s.issues g (.cmpi ra v) = true → exec (.cmpi (.clean g) ra v) s =
      .next (s.goesOn g fun c =>
        { c with psr := flags (a.toInt - i.toInt) (i.toNat ≤ a.toNat) (withNZ (a - i) c.psr) }))

/-- Logical operations, products, CLZ, BREV, BSWAP, EXT and INS write N and Z of their result and leave C and V; TST
writes the flags only, and LUI no flag. -/
def Obligations.LogicAndFields : Prop :=
  ∀ (s : State) (g rd ra rb v pos len : Nat), fetchable (s.nextPc g) = true →
    let a := s.x g ra
    let b := s.x g rb
    let i : Word := BitVec.ofNat 32 v
    (∀ f c r, (f, c, r) ∈
        [(Reg3.and, Instr.and (.clean g) rd ra rb, a &&& b), (.or, .or (.clean g) rd ra rb, a ||| b), (.xor, .xor (.clean g) rd ra rb, a ^^^ b),
         (.andn, .andn (.clean g) rd ra rb, a &&& ~~~b), (.mul, .mul (.clean g) rd ra rb, a * b),
         (.mulhs, .mulhs (.clean g) rd ra rb, (a.signExtend 64 * b.signExtend 64).extractLsb' 32 32),
         (.mulhu, .mulhu (.clean g) rd ra rb, (a.setWidth 64 * b.setWidth 64).extractLsb' 32 32)] →
      s.issues g (.reg3 f rd ra rb) = true → exec c s = .next (s.gives g rd r id)) ∧
    (∀ f c r, (f, c, r) ∈
        [(ImmOp.andi, Instr.andi (.clean g) rd ra v, a &&& i), (.ori, .ori (.clean g) rd ra v, a ||| i),
         (.xori, .xori (.clean g) rd ra v, a ^^^ i)] →
      s.issues g (.immed f rd ra v) = true → exec c s = .next (s.gives g rd r id)) ∧
    (∀ f c r, (f, c, r) ∈
        [(Reg2.clz, Instr.clz (.clean g) rd ra, a.clz), (.brev, .brev (.clean g) rd ra, a.reverse),
         (.bswap, .bswap (.clean g) rd ra, a.extractLsb' 0 8 ++ a.extractLsb' 8 8 ++ a.extractLsb' 16 8 ++ a.extractLsb' 24 8)] →
      s.issues g (.reg2 f rd ra) = true → exec c s = .next (s.gives g rd r id)) ∧
    (1 ≤ len → pos + len ≤ 32 → s.issues g (.ext rd ra pos len false) = true → exec (.ext (.clean g) rd ra pos len false) s =
      .next (s.gives g rd ((a.extractLsb' pos len).setWidth 32) id)) ∧
    (1 ≤ len → pos + len ≤ 32 → s.issues g (.ext rd ra pos len true) = true → exec (.ext (.clean g) rd ra pos len true) s =
      .next (s.gives g rd ((a.extractLsb' pos len).signExtend 32) id)) ∧
    (1 ≤ len → pos + len ≤ 32 → s.issues g (.ins rd ra pos len) = true →
      After (.ins (.clean g) rd ra pos len) s fun t => ∃ r : Word, t = s.gives g rd r id ∧
        ∀ j < 32, r.getLsbD j = if pos ≤ j ∧ j < pos + len then a.getLsbD (j - pos) else (s.x g rd).getLsbD j) ∧
    (s.issues g (.tst ra rb) = true → exec (.tst (.clean g) ra rb) s =
      .next (s.goesOn g fun c => { c with psr := withNZ (a &&& b) c.psr })) ∧
    (s.issues g (.lui rd v) = true → exec (.lui (.clean g) rd v) s =
      .next (s.goesOn g fun c => { c with x := c.x.set rd (i <<< 10) }))

/-- SLL, SRL, SRA, ROT and SHI by an amount n: the result with N and Z of it, and C as the last bit shifted out; an
amount of 0 leaves C. -/
def Obligations.Shifts : Prop :=
  ∀ (s : State) (g rd ra rb m : Nat), fetchable (s.nextPc g) = true →
    let a := s.x g ra
    let b := (s.x g rb).toNat
    ∀ c kind n, (c, kind, n) ∈
        [(Instr.sll (.clean g) rd ra rb, 0, b), (.srl (.clean g) rd ra rb, 1, b), (.sra (.clean g) rd ra rb, 2, b), (.rot (.clean g) rd ra rb, 3, b),
         (.shi (.clean g) rd ra 0 m, 0, m), (.shi (.clean g) rd ra 1 m, 1, m), (.shi (.clean g) rd ra 2 m, 2, m), (.shi (.clean g) rd ra 3 m, 3, m)] →
      (∀ o, c.op = some (.clean g, o) → s.issues g o = true) →
      let carry (k : Bool) := if n = 0 then id else withC k
      (kind = 0 → exec c s = .next (s.gives g rd (a <<< n) (carry ((a.toNat <<< n).testBit 32)))) ∧
      (kind = 1 → exec c s = .next (s.gives g rd (a >>> n) (carry (a.toNat.testBit (n - 1))))) ∧
      (kind = 2 → exec c s = .next (s.gives g rd (a.sshiftRight n) (carry ((a.sshiftRight (n - 1)).getLsbD 0)))) ∧
      (kind = 3 → exec c s = .next (s.gives g rd (a.rotateRight n) (carry (a.rotateRight n).msb)))

/-- DIV, REM, DIVU and REMU with the corners of Table 15-12 and the trap that dz_trap selects (R535); ABS, ABSS, ADDS
and SUBS with V where the exact result is outside the signed range, saturated by the last three (R536). -/
def Obligations.DivideAndSaturate : Prop :=
  ∀ (s : State) (g rd ra rb : Nat), fetchable (s.nextPc g) = true →
    let a := s.x g ra
    let b := s.x g rb
    let ovf := a == 0x80000000 && b == 0xFFFFFFFF
    let sat (e : Int) : Word := if 2147483647 < e then 0x7FFFFFFF else if e < -2147483648 then 0x80000000
                                else BitVec.ofInt 32 e
    (∀ f c q z v v', (f, c, q, z, v, v') ∈
        [(Reg3.div, Instr.div (.clean g) rd ra rb, a.sdiv b, if a.msb then (0x80000000 : Word) else 0x7FFFFFFF,
            withV ovf, withV false),
         (.rem, .rem (.clean g) rd ra rb, a.srem b, a, withV ovf, withV false),
         (.divu, .divu (.clean g) rd ra rb, a / b, 0xFFFFFFFF, id, id), (.remu, .remu (.clean g) rd ra rb, a % b, a, id, id)] →
      s.issues g (.reg3 f rd ra rb) = true →
      (b ≠ 0 → exec c s = .next (s.gives g rd q v)) ∧
      (b = 0 → (s.cpu g).ecfg.getLsbD 0 = false →
        exec c s = .next (s.gives g rd z fun p => v' p ||| 0x10)) ∧
      (b = 0 → (s.cpu g).ecfg.getLsbD 0 = true →
        exec c s = .next ((s.upCpu g fun k => { k with psr := k.psr ||| 0x10 }).trap g 8 a.toNat))) ∧
    (s.issues g (.reg2 .abs rd ra) = true → exec (.abs (.clean g) rd ra) s =
      .next (s.gives g rd (if a.msb then 0 - a else a) (withV (a == 0x80000000)))) ∧
    (s.issues g (.reg2 .abss rd ra) = true → exec (.abss (.clean g) rd ra) s =
      .next (s.gives g rd (if a == 0x80000000 then 0x7FFFFFFF else if a.msb then 0 - a else a)
        (withV (a == 0x80000000)))) ∧
    (s.issues g (.reg3 .adds rd ra rb) = true → exec (.adds (.clean g) rd ra rb) s =
      .next (s.gives g rd (sat (a.toInt + b.toInt)) (withV (beyond (a.toInt + b.toInt))))) ∧
    (s.issues g (.reg3 .subs rd ra rb) = true → exec (.subs (.clean g) rd ra rb) s =
      .next (s.gives g rd (sat (a.toInt - b.toInt)) (withV (beyond (a.toInt - b.toInt)))))

/-- Loads (R537): the value at ra plus the signed offset, sign-extended by LDH and LDB, a pair by LDD; an address that
is not a multiple of the size traps as MISALIGNED, one outside every memory as ACCESS. A corrected read is counted. -/
def Obligations.Loads : Prop :=
  ∀ (s : State) (g rd ra v : Nat) (e : Ecc), fetchable (s.nextPc g) = true →
    let a := (s.x g ra + (BitVec.ofNat 18 v).signExtend 32).toNat
    let m (n : Nat) := ofLe (s.engBytes g a n)
    ∀ f c n x, (f, c, n, x) ∈
        [(LoadOp.ldw, Instr.ldw (.clean g) rd ra v e, 4, [(rd, wd (m 4))]),
         (.ldh, .ldh (.clean g) rd ra v e, 2, [(rd, (BitVec.ofNat 16 (m 2)).signExtend 32)]),
         (.ldhu, .ldhu (.clean g) rd ra v e, 2, [(rd, wd (m 2))]),
         (.ldb, .ldb (.clean g) rd ra v e, 1, [(rd, (BitVec.ofNat 8 (m 1)).signExtend 32)]),
         (.ldbu, .ldbu (.clean g) rd ra v e, 1, [(rd, wd (m 1))]),
         (.ldd, .ldd (.clean g) rd ra v e, 8, [(rd, wd (m 8)), (rd + 1, wd (m 8 / 2 ^ 32))])] →
      s.issues g (.load f rd ra v) = true →
      let load (s : State) := s.goesOn g fun k => { k with x := x.foldl (fun l p => l.set p.1 p.2) k.x }
      (a % n = 0 → (regionOf a n).isSome = true → e = .good → exec c s = .next (load s)) ∧
      (a % n = 0 → (regionOf a n).isSome = true → e = .corrected → exec c s = .next (load (s.countEng g 6))) ∧
      (a % n = 0 → (regionOf a n).isSome = true → e = .uncorrectable →
        exec c s = .next ((s.haltFault g).report ⟨mkUnit kEngine g, 2⟩)) ∧
      (a % n ≠ 0 → exec c s = .next (s.trap g 3 a)) ∧
      (a % n = 0 → regionOf a n = none → exec c s = .next (s.trap g 4 a))

/-- Stores (R537): the low bytes of rd, a pair by STD, in data or shared memory; elsewhere ACCESS, and MISALIGNED
before that. -/
def Obligations.Stores : Prop :=
  ∀ (s : State) (g rd ra v : Nat), fetchable (s.nextPc g) = true →
    let a := (s.x g ra + (BitVec.ofNat 18 v).signExtend 32).toNat
    let w := (s.x g rd).toNat
    ∀ f c n w', (f, c, n, w') ∈
        [(StoreOp.stw, Instr.stw (.clean g) rd ra v, 4, w), (.sth, .sth (.clean g) rd ra v, 2, w), (.stb, .stb (.clean g) rd ra v, 1, w),
         (.std, .std (.clean g) rd ra v, 8, w + 2 ^ 32 * (s.x g (rd + 1)).toNat)] →
      s.issues g (.store f rd ra v) = true →
      (a % n = 0 → bufferOk a n = true → After c s (Stored g a n w' id s)) ∧
      (a % n ≠ 0 → exec c s = .next (s.trap g 3 a)) ∧
      (a % n = 0 → bufferOk a n = false → exec c s = .next (s.trap g 4 a))

/-- Atomic operations (R538): rd takes the word before, and the word becomes what Table 15-9 gives; CAS writes Z. -/
def Obligations.Atomics : Prop :=
  ∀ (s : State) (g rd ra rb : Nat), fetchable (s.nextPc g) = true →
    let a := (s.x g ra).toNat
    let b := s.x g rb
    let old := wd (ofLe (s.engBytes g a 4))
    ∀ f c w, (f, c, w) ∈
        [(AtomOp.swap, Instr.swap (.clean g) rd ra rb .good, b), (.fadd, .fadd (.clean g) rd ra rb .good, old + b),
         (.fand, .fand (.clean g) rd ra rb .good, old &&& b), (.for_, .for_ (.clean g) rd ra rb .good, old ||| b),
         (.fxor, .fxor (.clean g) rd ra rb .good, old ^^^ b),
         (.cas, .cas (.clean g) rd ra rb .good, if old = s.x g rd then b else old)] →
      s.issues g (.atom f rd ra rb) = true →
      (a % 4 = 0 → bufferOk a 4 = true → After c s (Stored g a 4 w.toNat (fun k =>
        { k with x := k.x.set rd old,
                 psr := if f = .cas then (k.psr &&& 0xFFFFFFFE) ||| wd (b2n (old == s.x g rd)) else k.psr }) s)) ∧
      (a % 4 ≠ 0 → exec c s = .next (s.trap g 3 a)) ∧
      (a % 4 = 0 → bufferOk a 4 = false → exec c s = .next (s.trap g 4 a))

/-- BC, CBZ, CBNZ, JMP, JR, CALL and CALLR: a taken transfer goes to its target and leaves the loops that do not hold
it, a call keeps them and puts the address of the next instruction in x14, and a condition that does not hold goes on
(R539, R542, R543, Table 15-10). -/
def Obligations.Transfers : Prop :=
  ∀ (s : State) (g ra cond off : Nat),
    let pc := (s.cpu g).pc
    let dest (n : Nat) := (wd pc + ((BitVec.ofNat n off).signExtend 32) * 4).toNat
    let z := (s.psr g).getLsbD 0
    let n := (s.psr g).getLsbD 1
    let c := (s.psr g).getLsbD 2
    let v := (s.psr g).getLsbD 3
    let holds := [true, z, !z, !c, c, c && !z, !c || z, n ^^ v, !(n ^^ v), !z && !(n ^^ v), z || n ^^ v, n, !n, v, !v]
    (s.issues g (.bc cond off) = true → holds.getD cond false = true → fetchable (dest 22) = true →
      exec (.bc (.clean g) cond off) s = .next (s.leapsTo g (dest 22))) ∧
    (s.issues g (.bc cond off) = true → holds.getD cond false = false → fetchable (s.nextPc g) = true →
      exec (.bc (.clean g) cond off) s = .next (s.goesOn g id)) ∧
    (∀ nz i, (nz, i) ∈ [(false, Instr.cbz (.clean g) ra off), (true, .cbnz (.clean g) ra off)] → s.issues g (.cb nz ra off) = true →
      ((s.x g ra = 0 ↔ nz = false) → fetchable (dest 18) = true → exec i s = .next (s.leapsTo g (dest 18))) ∧
      (¬(s.x g ra = 0 ↔ nz = false) → fetchable (s.nextPc g) = true → exec i s = .next (s.goesOn g id))) ∧
    (s.issues g (.jmp off) = true → fetchable (dest 26) = true → exec (.jmp (.clean g) off) s = .next (s.leapsTo g (dest 26))) ∧
    (s.issues g (.jr ra) = true → fetchable (s.x g ra).toNat = true →
      exec (.jr (.clean g) ra) s = .next (s.leapsTo g (s.x g ra).toNat)) ∧
    (∀ o i t, (o, i, t) ∈ [(Op.call off, Instr.call (.clean g) off, dest 26), (.callr ra, .callr (.clean g) ra, (s.x g ra).toNat)] →
      s.issues g o = true → fetchable t = true →
      exec i s = .next (s.upCpu g fun k =>
        { k with x := k.x.set 14 (wd (pc + 4)), pc := t, icnt := k.icnt + 1 })) ∧
    (s.issues g (.jmp off) = true → fetchable (dest 26) = false →
      After (.jmp (.clean g) off) s fun t => ∃ u : State, t = u.trapAt g 1 (dest 26) pc (dest 26) ∧ (u.cpu g).pc = dest 26)

/-- Zero-overhead loops: LOOP and LOOPI push a level over their body or, for no pass, go past it; a fifth level, or a
body that ends after that of the loop around it, traps; LEXIT pops levels (R541, R544). An instruction at the end of
the innermost body goes back to its start while passes are left, and pops it otherwise (R542). -/
def Obligations.Loops : Prop :=
  ∀ (s : State) (g ra count len lev : Nat),
    let k := s.cpu g
    let d := fld k.psr 24 3
    let base := fld k.psr 20 3
    let top := k.loops.getD (d - 1) ⟨0, 0, 0⟩
    let stop := k.pc + 4 * len
    (∀ o i n, (o, i, n) ∈ [(Op.loop ra len, Instr.loop (.clean g) ra len, (s.x g ra).toNat),
        (.loopi count len, .loopi (.clean g) count len, count)] → s.issues g o = true →
      (d < 4 → d ≤ base ∨ k.pc < top.start ∨ top.stop < k.pc ∨ stop ≤ top.stop →
        (0 < n → fetchable (k.pc + 4) = true → exec i s = .next (s.upCpu g fun k =>
          { k with psr := setFld k.psr 24 3 (d + 1), loops := k.loops.set d ⟨k.pc + 4, stop, n⟩, pc := k.pc + 4,
                   icnt := k.icnt + 1 })) ∧
        (n = 0 → fetchable (stop + 4) = true → exec i s = .next (s.upCpu g fun k =>
          { k with pc := stop + 4, icnt := k.icnt + 1 }))) ∧
      (d = 4 → exec i s = .next (s.trap g 7 4)) ∧
      (base < d → d < 4 → top.start ≤ k.pc → k.pc ≤ top.stop → top.stop < stop → exec i s = .next (s.trap g 7 d))) ∧
    (s.issues g (.lexit lev) = true → fetchable (k.pc + 4) = true →
      (lev ≤ d - base → exec (.lexit (.clean g) lev) s = .next (s.upCpu g fun k =>
        { k with psr := setFld k.psr 24 3 (d - lev), pc := k.pc + 4, icnt := k.icnt + 1 })) ∧
      (d - base < lev → exec (.lexit (.clean g) lev) s = .next (s.trap g 7 d))) ∧
    (s.issues g .nop = true →
      (base < d → k.pc = top.stop → 1 < top.count → fetchable top.start = true →
        exec (.sysNop (.clean g)) s = .next (s.upCpu g fun k =>
          { k with loops := k.loops.set (d - 1) { top with count := top.count - 1 }, pc := top.start,
                   icnt := k.icnt + 1 })) ∧
      (base + 1 = d → k.pc = top.stop → top.count ≤ 1 → fetchable (k.pc + 4) = true →
        exec (.sysNop (.clean g)) s = .next (s.upCpu g fun k =>
          { k with psr := setFld k.psr 24 3 base, pc := k.pc + 4, icnt := k.icnt + 1 })) ∧
      (d ≤ base ∨ k.pc ≠ top.stop → fetchable (k.pc + 4) = true →
        exec (.sysNop (.clean g)) s = .next (s.upCpu g fun k => { k with pc := k.pc + 4, icnt := k.icnt + 1 })) ∧
      (d ≤ base → k.pc = 0x1FFFC → After (.sysNop (.clean g)) s fun t =>
        ∃ u : State, t = u.trapAt g 1 0x20000 0x1FFFC 0x20000 ∧ (u.cpu g).pc = 0x20000))

/-! ### Genat: system instructions, interrupts and attached units -/

/-- Taking a trap (R557, R558): TCAUSE, TADDR and TVAL are written; with a vector table in use, outside a trap handler
and with a frame that can be written, the frame of Table 15-16 is stored below the stack pointer, x15 points at it,
lbase takes ldepth, TRAP is set and IE cleared, and the handler of vector 0 runs; else the engine halts in
HALTED_FAULT. TRAP, BREAK and an illegal word take it. -/
def Obligations.TrapEntry : Prop :=
  ∀ (s : State) (g cause addr val ret : Nat),
    let k := s.cpu g
    let a := (s.x g 15 - 32).toNat
    let ok := !k.psr.getLsbD 9 && k.vbase.getLsbD 0 && a % 8 == 0 && bufferOk a 32
    let words := [wd ret, k.psr, s.x g 14, s.x g 0, s.x g 1, s.x g 2, s.x g 3, s.x g 4]
    let t := s.trapAt g cause addr val ret
    (ok = true → fetchable (s.vector g 0) = true →
      t.cpu g = { k with tcause := wd cause, taddr := wd addr, tval := wd val, x := k.x.set 15 (wd a),
                         psr := setFld (setFld k.psr 20 3 (fld k.psr 24 3)) 8 2 2, pc := s.vector g 0 } ∧
      (∀ i < 8, ofLe (t.engBytes g (a + 4 * i) 4) = (words.getD i 0).toNat) ∧
      (∀ b, b < a ∨ a + 32 ≤ b → t.engByte g b = s.engByte g b) ∧ (∀ h, h ≠ g → t.eng h = s.eng h) ∧
      t = { s with engines := t.engines, shared := t.shared }) ∧
    (ok = false → (t.eng g).state = .haltedFault ∧ (t.cpu g).tcause = wd cause ∧ (t.cpu g).taddr = wd addr ∧
      (t.cpu g).tval = wd val ∧ (t.cpu g).pc = k.pc ∧ (t.cpu g).x = k.x ∧ t.shared = s.shared ∧
      t.rd (Blk.eng g).evtOff = s.rd (Blk.eng g).evtOff ||| 1)

/-- SYS_NOP, EI, DI, TRAP, BREAK and a word that is no instruction (R531, R560, R561). Control registers: what CSRR
reads, the registers that CSRW, CSRS and CSRC write and the bits that exist in them (R528); a number that is not
listed, or a write of one that is only read, is illegal. -/
def Obligations.SystemInstructions : Prop :=
  (∀ (s : State) (g v : Nat), fetchable (s.nextPc g) = true →
     let pc := (s.cpu g).pc
     (s.issues g .nop = true → exec (.sysNop (.clean g)) s = .next (s.goesOn g id)) ∧
     (s.issues g .ei = true → exec (.ei (.clean g)) s = .next (s.goesOn g fun k => { k with psr := k.psr ||| 0x100 })) ∧
     (s.issues g .di = true → exec (.di (.clean g)) s = .next (s.goesOn g fun k => { k with psr := k.psr &&& ~~~0x100 })) ∧
     (s.issues g (.trap v) = true → exec (.trap (.clean g) v) s = .next (s.trapAt g 9 pc v (s.nextPc g))) ∧
     (s.issues g (.break_ v) = true → s.debugHolds g = false →
       exec (.break_ (.clean g) v) s = .next (s.trapAt g 10 pc v (s.nextPc g))) ∧
     (s.issues g (.break_ v) = true → s.debugHolds g = true →
       exec (.break_ (.clean g) v) s = .next ((s.goesOn g id).upEng g fun e => { e with dbgHalt := true })) ∧
     (s.engineRuns g = true → decodeWord (s.fetched g) = none →
       exec (.illegalInstruction (.clean g)) s = .next (s.trapAt g 2 pc (s.fetched g).toNat pc)) ∧
     (decodeWord (s.fetched g) ≠ none → exec (.illegalInstruction (.clean g)) s = .next s)) ∧
  (∀ (s : State) (g r n : Nat), fetchable (s.nextPc g) = true →
     let k := s.cpu g
     let w := s.x g r
     (∀ x, (n, x) ∈ [(0x00, k.psr), (0x01, k.ecfg), (0x02, k.vbase), (0x03, k.tcause), (0x04, k.taddr), (0x05, k.tval),
         (0x06, k.icnt), (0x07, wd (b2n k.event)), (0x22, k.pen0), (0x23, k.pen1), (0x24, k.ppri.getD 0 0),
         (0x2B, k.ppri.getD 7 0), (0x2C, k.icClaim), (0x2D, 0), (0x2E, 0)] →
       s.issues g (.csr .csrr r n) = true →
       exec (.csrr (.clean g) r n) s = .next (s.goesOn g fun c => { c with x := c.x.set r x })) ∧
     (∀ c f, (c, f) ∈ [(CsrOp.csrw, Instr.csrw (.clean g) r n), (.csrs, .csrs (.clean g) r n),
         (.csrc, .csrc (.clean g) r n)] → s.issues g (.csr c r n) = true →
       let new (x : Word) := if c = .csrw then w else if c = .csrs then x ||| w else x &&& ~~~w
       (n = 0x00 → exec f s = .next (s.goesOn g fun c =>
         { c with psr := (c.psr &&& 0xFFFFFEE0) ||| (c.psr &&& new c.psr &&& 0x10) ||| (new c.psr &&& 0x10F) })) ∧
       (n = 0x01 → exec f s = .next (s.goesOn g fun c => { c with ecfg := new c.ecfg &&& 3 })) ∧
       (n = 0x02 → exec f s = .next (s.goesOn g fun c => { c with vbase := new c.vbase &&& 0x1FFC1 })) ∧
       (n = 0x22 → exec f s = .next (s.goesOn g fun c => { c with pen0 := new c.pen0 &&& 0x000FFF1F })) ∧
       (n = 0x23 → exec f s = .next (s.goesOn g fun c => { c with pen1 := new c.pen1 &&& 0xFFFF })) ∧
       (0x24 ≤ n → n < 0x2C → exec f s = .next (s.goesOn g fun c =>
         { c with ppri := c.ppri.set (n - 0x24) (new (c.ppri.getD (n - 0x24) 0)) })) ∧
       (n ∈ [0x03, 0x04, 0x05, 0x06, 0x07, 0x08, 0x0C, 0x10, 0x20, 0x21, 0x2C, 0x2F, 0x14, 0x30, 0xFF] →
         exec f s = .next (s.trapAt g 2 k.pc (s.fetched g).toNat k.pc))) ∧
     (n ∈ [0x14, 0x1F, 0x30, 0xFF] → s.issues g (.csr .csrr r n) = true →
       exec (.csrr (.clean g) r n) s = .next (s.trapAt g 2 k.pc (s.fetched g).toNat k.pc)))

/-- WFE completes at once for the event flag, which it clears, or for an interrupt that could be taken, and waits
otherwise; a wait ends for the same reasons, the interrupt first (R547). SEV sets the event flag of every running or
waiting engine of the cluster (R548). -/
def Obligations.EventFlag : Prop :=
  ∀ (s : State) (g : Nat), fetchable (s.nextPc g) = true →
    let wakes (s : State) := s.upEng g fun e => { e with state := .running, cpu := { e.cpu with wait := .none } }
    let spent := fun k : Cpu => { k with event := false }
    (s.issues g .wfe = true →
      ((s.cpu g).event = true → exec (.wfe (.clean g)) s = .next (s.goesOn g spent)) ∧
      ((s.cpu g).event = false → (s.takeable g).isSome = true → exec (.wfe (.clean g)) s = .next (s.goesOn g id)) ∧
      ((s.cpu g).event = false → s.takeable g = none → exec (.wfe (.clean g)) s =
        .next (s.upEng g fun e => { e with state := .waiting, cpu := { e.cpu with wait := .wfe } }))) ∧
    ((s.eng g).state = .waiting → (s.cpu g).wait = .wfe → (s.eng g).dbgHalt = false → s.engineMayRun g = true →
      ((s.takeable g).isSome = true → exec (.wfeWake g) s = .next ((wakes s).goesOn g id)) ∧
      (s.takeable g = none → (s.cpu g).event = true → exec (.wfeWake g) s = .next ((wakes s).goesOn g spent)) ∧
      (s.takeable g = none → (s.cpu g).event = false → exec (.wfeWake g) s = .next s)) ∧
    (s.issues g .sev = true → After (.sev (.clean g)) s fun t =>
      t.cpu g = (s.goesOn g fun k => { k with event := true }).cpu g ∧
      (∀ j, j ≠ g → t.eng j = if j / 8 = g / 8 ∧ (s.eng j).live = true
        then { s.eng j with cpu := { (s.eng j).cpu with event := true } } else s.eng j) ∧
      t = { s with engines := t.engines })

/-- IC_RAISE raises a private source of an engine of the cluster or a shared source (R579); another value is illegal.
IC_PCLR clears the pending state of a private source (R578). -/
def Obligations.RaiseAndClear : Prop :=
  ∀ (s : State) (g ra e i : Nat), fetchable (s.nextPc g) = true → e < 8 → i < 1024 →
    let w := s.x g ra
    let pc := (s.cpu g).pc
    (s.issues g (.csr .csrw ra 0x2D) = true →
      (w = wd (e * 1024 + i) → 12 ≤ i → i < 20 → (s.eng (8 * (g / 8) + e)).image.isSome = true →
        After (.icRaise (.clean g) ra) s fun t =>
          let p := (s.cpu (8 * (g / 8) + e)).priv i
          let q := (t.cpu (8 * (g / 8) + e)).priv i
          q.pending = true ∧ q.count = min 255 (p.count + 1) ∧ (t.cpu g).pc = s.nextPc g ∧
          (t.cpu g).icnt = (s.cpu g).icnt + 1) ∧
      (w = wd (0x80000000 + i) → 512 ≤ i → (s.src i).edge = true → After (.icRaise (.clean g) ra) s fun t =>
          t.src i = { s.src i with pending := true, count := satAdd 255 (s.src i).count 1 } ∧
          (∀ j, j ≠ i → t.src j = s.src j) ∧ (t.cpu g).pc = s.nextPc g) ∧
      (w = wd (e * 1024 + i) → i < 12 ∨ 20 ≤ i →
        exec (.icRaise (.clean g) ra) s = .next (s.trapAt g 2 pc (s.fetched g).toNat pc))) ∧
    (s.issues g (.csr .csrw ra 0x2E) = true → 4 ≤ i → i < 64 → w = wd i →
      exec (.icPclr (.clean g) ra) s = .next (s.goesOn g fun c =>
        c.setPriv i { pending := false, count := 0, masked := false }))

/-- Taking an interrupt (R574, R575): the frame is stored, the selected source is claimed, x0 and IC_CLAIM name it,
the priority becomes its own, IE is set and the handler of its vector runs. RETI from a trap restores the frame
(R559); from an interrupt it also completes the newest claim (R576). -/
def Obligations.InterruptsAndReturn : Prop :=
  ∀ (s : State) (g : Nat),
    let k := s.cpu g
    let a := (s.x g 15 - 32).toNat
    let sp := (s.x g 15).toNat
    let m (i : Nat) := wd (ofLe (s.engBytes g (sp + 4 * i) 4))
    let back := fun c : Cpu =>
      { c with x := ((((((c.x.set 14 (m 2)).set 0 (m 3)).set 1 (m 4)).set 2 (m 5)).set 3 (m 6)).set 4 (m 7)).set 15
                      (wd (sp + 32)),
               psr := m 1 &&& 0xF770031F, pc := (m 0).toNat, icnt := c.icnt + 1 }
    (∀ c, s.engineRuns g = true → s.takeable g = some c → a % 8 = 0 → bufferOk a 32 = true →
      fetchable (s.vector g c.pri) = true → After (.interruptEntry (.clean g) []) s fun t =>
        let n := if c.isShared then (if (s.src c.num).edge then (s.src c.num).count else 0)
                 else if c.num < 4 then 0 else (k.priv c.num).count
        let v := wd (2 ^ 31 + b2n c.isShared * 2 ^ 30 + n % 256 * 2 ^ 12 + c.num % 1024)
        (t.cpu g).x = (k.x.set 15 (wd a)).set 0 v ∧ (t.cpu g).icClaim = v ∧ (t.cpu g).pc = s.vector g c.pri ∧
        (t.cpu g).claims = (c.isShared, c.num) :: k.claims ∧
        (t.cpu g).psr = setFld (setFld (setFld k.psr 20 3 (fld k.psr 24 3)) 28 4 c.pri) 8 2 1 ∧
        (c.isShared = true → t.src c.num =
          { s.src c.num with pending := false, count := 0, masked := !(s.src c.num).edge }) ∧
        (c.isShared = false → (t.cpu g).priv c.num =
          { k.priv c.num with pending := false, count := 0, masked := decide (c.num < 4) }) ∧
        (∀ j, j ≠ c.num ∨ c.isShared = false → t.src j = s.src j) ∧ (∀ h, h ≠ g → t.eng h = s.eng h) ∧
        (∀ b, b < a ∨ a + 32 ≤ b → t.engByte g b = s.engByte g b)) ∧
    (s.engineRuns g = false ∨ s.takeable g = none → exec (.interruptEntry (.clean g) []) s = .next s) ∧
    (s.issues g .reti = true → sp % 4 = 0 → (regionOf sp 32).isSome = true → fetchable (m 0).toNat = true →
      (m 1).getLsbD 8 = false ∨ k.vbase.getLsbD 0 = false →
      (k.psr.getLsbD 9 = true → exec (.reti (.clean g) []) s = .next (s.upCpu g back)) ∧
      (∀ j js, k.psr.getLsbD 9 = false → fld k.psr 28 4 ≠ 0 → k.claims = (true, j) :: js →
        After (.reti (.clean g) []) s fun t =>
          t.src j = { s.src j with masked := false } ∧ (t.cpu g).claims = js ∧ (t.cpu g).pc = (m 0).toNat ∧
          (t.cpu g).psr = m 1 &&& 0xF770031F ∧ (t.cpu g).x = (back k).x) ∧
      (k.psr.getLsbD 9 = false → fld k.psr 28 4 ≠ 0 → k.claims = [] →
        exec (.reti (.clean g) []) s = .next (s.upCpu g back))) ∧
    (s.issues g .reti = true → k.psr.getLsbD 9 = false → fld k.psr 28 4 = 0 →
      exec (.reti (.clean g) []) s = .next (s.trapAt g 2 k.pc (s.fetched g).toNat k.pc))

/-- Attached units that read or write frames (Table 15-13): IDENT, IMAGE, RATE, TAKE, FRAME_RELEASE, HDR, DATA, COPY,
SUBMIT, DONE and CHECKPOINT on operands they take; an operand they refuse traps as UNIT_ARG (R552). -/
def Obligations.MessageUnits : Prop :=
  ∀ (s : State) (g rd ra rb : Nat), fetchable (s.nextPc g) = true →
    let a := s.x g ra
    let b := s.x g rb
    let e := s.eng g
    let x (n : Nat) := fun c : Cpu => { c with x := c.x.set rd (wd n) }
    let pair (n : Nat) := fun c : Cpu => { c with x := (c.x.set rd (wd n)).set (rd + 1) (wd (n / 2 ^ 32)) }
    (s.issues g (.unit .ident rd 0 0) = true → exec (.ident (.clean g) rd 0 0) s = .next (s.goesOn g (x
      (g % 32 + g / 8 * 2 ^ 8 + b2n ((s.eng (32 + g / 8)).serving == some g) * 2 ^ 12 + e.cause.code * 2 ^ 16)))) ∧
    (s.issues g (.unit .image rd 0 0) = true → exec (.image (.clean g) rd 0 0) s =
      .next (s.goesOn g (x ((e.image.map (·.version)).getD 0)))) ∧
    (s.issues g (.unit .rate rd 0 0) = true → exec (.rate (.clean g) rd 0 0) s =
      .next (s.goesOn g (x (s.rf (0x480 + 4 * (g / 8)) 0 12)))) ∧
    (s.issues g (.unit .take rd ra 0) = true → rd % 2 = 0 →
      (a.toNat < 4 → e.depth a.toNat ≠ 0 → (e.inbox a.toNat).find? (fun y => !y.taken) = none →
        exec (.take (.clean g) rd ra 0) s = .next (s.goesOn g (pair 0))) ∧
      (∀ y, a.toNat < 4 → e.depth a.toNat ≠ 0 → (e.inbox a.toNat).find? (fun y => !y.taken) = some y →
        After (.take (.clean g) rd ra 0) s fun t =>
          (t.eng g).inbox a.toNat =
            ((e.inbox a.toNat).map fun z => if z.slot = y.slot then { z with taken := true } else z) ∧
          t.cpu g = (s.goesOn g (pair (s.inboxValue a.toNat y))).cpu g ∧ (∀ h, h ≠ g → t.eng h = s.eng h) ∧
          t = { s with engines := t.engines }) ∧
      (4 ≤ a.toNat → exec (.take (.clean g) rd ra 0) s = .next (s.trap g 6 a.toNat))) ∧
    (s.issues g (.unit .release 0 ra 0) = true → a.toNat < 256 →
      (∀ y, (e.inbox (a.toNat / 64)).find? (fun z => z.taken && z.slot == a.toNat % 64) = some y →
        let u := (s.upEng g fun e => e.setInbox (a.toNat / 64)
          ((e.inbox (a.toNat / 64)).filter fun z => z.slot != y.slot)).dropRef y.record
        fetchable (u.nextPc g) = true → exec (.frameRelease (.clean g) 0 ra 0) s = .next (u.goesOn g id)) ∧
      (∀ y, (e.inbox (a.toNat / 64)).find? (fun z => z.taken && z.slot == a.toNat % 64) = some y →
        s.record y.record = none → After (.frameRelease (.clean g) 0 ra 0) s fun t =>
          (t.eng g).inbox (a.toNat / 64) = (e.inbox (a.toNat / 64)).filter (fun z => z.slot != y.slot) ∧
          t.cpu g = (s.goesOn g id).cpu g) ∧
      ((e.inbox (a.toNat / 64)).find? (fun z => z.taken && z.slot == a.toNat % 64) = none →
        exec (.frameRelease (.clean g) 0 ra 0) s = .next ((s.countEng g 5).goesOn g id))) ∧
    (s.takenCell g a.toNat = true →
      (s.issues g (.unit .hdr rd ra rb) = true → b.toNat < 8 → exec (.hdr (.clean g) rd ra rb) s =
        .next (s.goesOn g (x (leAt (s.recBytes a.toNat) (4 * b.toNat) 4)))) ∧
      (s.issues g (.unit .data rd ra rb) = true → b.toNat < 2048 → exec (.data (.clean g) rd ra rb) s =
        .next (s.goesOn g (x (leAt (s.frameOf a.toNat).data b.toNat 4)))) ∧
      (s.issues g (.unit .copy rd ra rb) = true → b.toNat % 8 = 0 → bufferOk b.toNat (s.x g rd).toNat = true →
        let bytes := (s.frameOf a.toNat).data.take (s.x g rd).toNat
        After (.copy (.clean g) rd ra rb) s fun t => t = (s.putEngBytes g b.toNat bytes).goesOn g (x bytes.length))) ∧
    (s.issues g (.unit .submit rd ra 0) = true → a.toNat % 8 = 0 → bufferOk a.toNat 32 = true →
      bufferOk a.toNat (32 + leAt (s.engBytes g a.toNat 32) 16 2) = true → 8 ≤ e.subs.length →
      exec (.submit (.clean g) rd ra 0) s = .next (s.goesOn g (x 1))) ∧
    (∀ f m u xs v, s.issues g (.unit .submit rd ra 0) = true → a.toNat % 8 = 0 → bufferOk a.toNat 32 = true →
      bufferOk a.toNat (32 + leAt (s.engBytes g a.toNat 32) 16 2) = true → e.subs.length < 8 →
      let d := s.engBytes g a.toNat (32 + leAt (s.engBytes g a.toNat 32) 16 2)
      submitOk d = true → nbit (byteAt d 3) 2 = false →
      (s.submitted g rd d).stage4 (g / 8) (submitFrame d srcEngine g s.stamp) false = (.pass f m, u) →
      u.waitingSet m.routes f (launchOf (nbit (byteAt d 3) 0) (leAt d 8 8)) (nbit (byteAt d 3) 1) (leAt d 28 4)
        u.time = ((subOk, xs), v) →
      After (.submit (.clean g) rd ra 0) s fun t =>
        let p := m.partner.getD (64 + g)
        t.waits = v.waits ++ [{ id := s.nextId, partner := p, port := (v.partner p).owner, cells := cellsFor f xs,
                                frame := f, dests := xs, hostQ := none, engine := some g, addr := a.toNat + 32,
                                kept := [], ctx := none, launch := launchOf (nbit (byteAt d 3) 0) (leAt d 8 8),
                                stampReq := nbit (byteAt d 3) 1, tag := leAt d 28 4, entered := v.time,
                                escalated := false }] ∧
        t.nextId = v.nextId ∧ t.pending = s.pending) ∧
    (s.issues g (.unit .done rd 0 0) = true → rd % 2 = 0 →
      (e.done = [] → exec (.done (.clean g) rd 0 0) s = .next (s.goesOn g (pair 0))) ∧
      (∀ d ds, e.done = d :: ds → exec (.done (.clean g) rd 0 0) s =
        .next ((s.upEng g fun e => { e with done := ds }).goesOn g
          (pair (d.tag % 2 ^ 32 + 2 ^ 32 * (2 ^ 31 + d.status % 256)))))) ∧
    (∀ m, s.issues g (.unit .checkpoint rd 0 0) = true → e.image = some m →
      (m.ckptLen = 0 → exec (.checkpoint (.clean g) rd 0 0) s = .next (s.goesOn g (x e.ckptSeq))) ∧
      (0 < m.ckptLen → e.ckptValid = true → e.ckptCur = true → After (.checkpoint (.clean g) rd 0 0) s fun t =>
        (t.eng g).ckpt0 = s.engBytes g m.ckptAddr (64 * m.ckptLen) ∧ (t.eng g).ckptCur = false ∧
        (t.eng g).ckpt1 = e.ckpt1 ∧ (t.eng g).ckptSeq = (e.ckptSeq + 1) % 2 ^ 16 ∧
        t.cpu g = (s.goesOn g (x ((e.ckptSeq + 1) % 2 ^ 16))).cpu g)) ∧
    (s.issues g (.unit .image rd ra rb) = true → ra ≠ 0 → exec (.image (.clean g) rd ra rb) s = .next (s.trap g 6 ra))

/-- Attached units of time, check and tile (Table 15-13): NOW latches a reading that SECHI and FRAC answer from
(R417); WAIT_UNTIL and its wake (R549); TASK_DONE, which ends its window no sooner than the placed end (R475, R516);
TSQ_POP, TSQ_STAMP, CRC (R551) and CUST, whose result is the tile logic's own (R522, R553), or ABSENT_UNIT. -/
def Obligations.TimeAndOtherUnits : Prop :=
  ∀ (s : State) (g rd ra rb imm fn : Nat), fetchable (s.nextPc g) = true →
    let a := s.x g ra
    let b := s.x g rb
    let k := s.cpu g
    let x (n : Nat) := fun c : Cpu => { c with x := c.x.set rd (wd n) }
    let pair (n : Nat) := fun c : Cpu => { c with x := (c.x.set rd (wd n)).set (rd + 1) (wd (n / 2 ^ 32)) }
    let wakes (s : State) := s.upEng g fun e => { e with state := .running, cpu := { e.cpu with wait := .none } }
    (s.issues g (.unit .now rd 0 0) = true → rd % 2 = 0 → s.mode ≠ .test →
      let t := max s.time s.beacon.floor
      exec (.now (.clean g) rd 0 0) s = .next ({ s with beacon := { s.beacon with floor := t + 1 } }.goesOn g fun c =>
        { pair (stampOfNs (t / 2 ^ 16)) c with reading := t })) ∧
    (s.issues g (.unit .sechi rd 0 0) = true → exec (.sechi (.clean g) rd 0 0) s =
      .next (s.goesOn g (x (k.reading / 2 ^ 16 / 10 ^ 9 / 2 ^ 34)))) ∧
    (s.issues g (.unit .frac rd 0 0) = true → exec (.frac (.clean g) rd 0 0) s = .next (s.goesOn g (x (k.reading % 2 ^ 16)))) ∧
    (s.issues g (.unit .waitUntil rd ra rb) = true → fld a 0 30 < 10 ^ 9 →
      let t := nsOfStamp (a.toNat + 2 ^ 32 * b.toNat) * 2 ^ 16
      (t ≤ s.time → exec (.waitUntil (.clean g) rd ra rb) s = .next (s.goesOn g (x 0))) ∧
      (s.time < t → k.event = true → exec (.waitUntil (.clean g) rd ra rb) s =
        .next (s.goesOn g fun c => { x 1 c with event := false })) ∧
      (s.time < t → k.event = false → exec (.waitUntil (.clean g) rd ra rb) s =
        .next (s.upEng g fun e => { e with state := .waiting, cpu := { e.cpu with wait := .untilTime t rd } }))) ∧
    (s.issues g (.unit .waitUntil rd ra rb) = true → 10 ^ 9 ≤ fld a 0 30 →
      exec (.waitUntil (.clean g) rd ra rb) s = .next (s.trap g 6 a.toNat)) ∧
    (∀ t, k.wait = .untilTime t rd → (s.eng g).state = .waiting → (s.eng g).dbgHalt = false →
      s.engineMayRun g = true →
      (t ≤ s.time → exec (.waitUntilWake g) s = .next ((wakes s).goesOn g (x 0))) ∧
      (s.time < t → k.event = true → exec (.waitUntilWake g) s =
        .next ((wakes s).goesOn g fun c => { x 1 c with event := false })) ∧
      (s.time < t → k.event = false → (s.takeable g).isSome = true →
        exec (.waitUntilWake g) s = .next ((wakes s).goesOn g (x 2)))) ∧
    (s.issues g (.unit .taskDone 0 ra 0) = true →
      (a.toNat < 16 → (s.tl (40 + g)).current = none → exec (.taskDone (.clean g) 0 ra 0) s = .next (s.goesOn g id)) ∧
      (∀ w, (s.tl (40 + g)).current = some w → w.win.type = .task → w.win.ref = a.toNat → a.toNat < 16 →
        (s.tl (40 + g)).taskOpen = true → After (.taskDone (.clean g) 0 ra 0) s fun t =>
          (t.tl (40 + g)).current = (if s.ns < w.stop then some w else none) ∧ (t.tl (40 + g)).taskOpen = false ∧
          (∀ j, j ≠ 40 + g → t.tl j = s.tl j) ∧ (t.cpu g).pc = s.nextPc g) ∧
      (16 ≤ a.toNat → exec (.taskDone (.clean g) 0 ra 0) s = .next (s.trap g 6 a.toNat))) ∧
    (s.issues g (.unit .tsqPop rd ra 0) = true → rd % 2 = 0 → a.toNat < 24 → a.toNat / 6 = g / 8 →
      ((s.bport a.toNat).tsq = [] → exec (.tsqPop (.clean g) rd ra 0) s =
        .next (s.goesOn g fun c => { pair 0 c with tsqStamp := 0 })) ∧
      (∀ r rs, (s.bport a.toNat).tsq = r :: rs → exec (.tsqPop (.clean g) rd ra 0) s =
        .next ((s.setBport a.toNat { s.bport a.toNat with tsq := rs }).goesOn g fun c =>
          { pair (r.tag % 2 ^ 32 + 2 ^ 32 * (2 ^ 31 + r.outcome % 16 * 2 ^ 8 + min 127 rs.length)) c with
            tsqStamp := r.stamp }))) ∧
    (s.issues g (.unit .tsqStamp rd 0 0) = true → rd % 2 = 0 →
      exec (.tsqStamp (.clean g) rd 0 0) s = .next (s.goesOn g (pair k.tsqStamp))) ∧
    (∀ j, s.issues g (.crc j rd ra rb) = true → s.unitDown (4 * (g / 8) + j) = false → rd % 2 = 0 →
      b.toNat ≤ 65536 → bufferOk a.toNat b.toNat = true → exec (.crc (.clean g) j rd ra rb) s =
        .next (s.goesOn g (pair ((s.crcSet (4 * (g / 8) + j)).crc (s.engBytes g a.toNat b.toNat))))) ∧
    (s.issues g (.tile fn rd ra rb imm) = true →
      (s.tileOffers (g / 8) fn = true → exec (.cust (.clean g) 7 fn rd ra rb imm) s =
        .next ({ s with free := s.free + 1 }.goesOn g (x (Config.tile s.free fn imm a b).toNat))) ∧
      (s.tileOffers (g / 8) fn = false → exec (.cust (.clean g) 7 fn rd ra rb imm) s = .next (s.trap g 5 (7 * 64 + fn)))) ∧
    (∀ u, u ≠ 7 → s.issues g (.absent u fn rd ra rb) = true →
      exec (.cust (.clean g) u fn rd ra rb imm) s = .next (s.trap g 5 (u * 64 + fn)))

/-! ### Bus channels -/

/-- A channel's way to and from the line (R167, R175, R182, R192, R193): integration, recovery by delay or by the
host's write, BUS_ON, the choice of the next frame, and loading a slot. In any other state of the channel nothing
happens. -/
def Obligations.ChannelStates : Prop :=
  ∀ (s : State) (n k : Nat) (yw : Bool),
    let l := s.lane n
    (l.ctl = .integrating → exec (.integrationComplete n) s = .next (s.setLane n { l with ctl := .idle })) ∧
    (l.ctl ≠ .integrating → exec (.integrationComplete n) s = .next s) ∧
    (l.ctl = .recovering → s.rf (busBase n) 22 2 = 1 →
      exec (.delayedRecoveryStart n) s = .next (s.setLane n { l with recovering := true })) ∧
    (l.ctl = .recovering → s.rf (busBase n) 22 2 = 2 → s.open_ (busBase n + 4) = true → s.mode.run = true →
      n < 40 → exec (.busCtrlRecover yw n) s = .next (s.setLane n { l with recovering := true })) ∧
    (s.open_ (busBase n + 4) = true → s.mode.run = false → n < 40 →
      exec (.busCtrlRecover yw n) s = .next (s.mgReject (busBase n + 4))) ∧
    (l.ctl = .recovering → l.recovering = true → After (.busOn n) s fun t =>
      LaneSet n { l with tec := 0, recv := 0, boSeq := 128, conf := .active, ctl := .idle, recovering := false,
                         ew := false } s t ∧
      Raised (.bus n) 3 s t) ∧
    (l.ctl ≠ .recovering ∨ l.recovering = false → exec (.busOn n) s = .next s) ∧
    (∀ x, s.maySend n = true → (s.tl n).refSlot = none → s.chooseSlot n = some x →
      exec (.slotArbitration n) s = .next (s.setLane n
        { l with ctl := .transmitting, current := some x.index, sofRaw := s.beacon.raw })) ∧
    (s.maySend n = false → exec (.slotArbitration n) s = .next s) ∧
    (∀ i rest, l.ready = i :: rest → k < 32 → l.slot k = none →
      exec (.slotLoad n k .clean) s = .next ((s.setLane n { l with
        ready := rest, order := l.order + 1,
        slots := { index := k, desc := i, order := l.order, parked := false, clashRun := 0, fails := 0,
                   launch := (s.desc i).job.launch, window := (s.desc i).job.window } :: l.slots }).setDesc i
        { s.desc i with state := .loaded, slot := some k })) ∧
    (∀ ecc, l.ready = [] → exec (.slotLoad n k ecc) s = .next s)

/-- Errors of a channel that counts them (R186 to R190), in ERROR ACTIVE below every limit: a receiver adds 1 to its
receive count and a transmitter 8 to its transmit count, the last error code is kept, the error is counted by its
kind (Table 5-17), and the channel is idle again; a transmission stays in its slot for another attempt. The frame
ends with SIGCFG and LIMITS as they stood at its start-of-frame (R158, R216): here no write has come since. A
transmit count beyond 255 takes a channel to BUS_OFF (R191, R192): 256 is kept, nothing is sent or received until
recovery, which starts at once where bo_mode says so, and BUS_OFF is raised. -/
def Obligations.ErrorsAndBusOff : Prop :=
  (∀ (s : State) (n : Nat) (e : BusFault), e = BusFault.plain e.kind [] → 1 ≤ e.kind → e.kind ≤ 6 →
     s.countsErrors n = true → (s.tl n).refBusy = false → (s.lane n).hist = [] →
     let l := { s.lane n with sigcfg := s.rd (busBase n + 0x114), limits := s.rd (busBase n + 0x10) }
     let lim := s.rf (busBase n + 0x10) 16 8
     let counter := busBase n + 0x40 + 4 * (if e.kind = 1 then 3 else if e.kind = 2 then 4 else if e.kind = 3 then 6
                                             else if e.kind = 6 then 5 else 2)
     l.conf = .active →
     (l.ctl = .receiving → l.recv < 127 → l.recv + 1 < lim → l.tec < lim → l.tec < 128 →
       After (.busError n e) s fun t =>
         LaneSet n { l with recv := l.recv + 1, lec := e.kind, ew := false, ctl := .idle, current := none,
                            sig := ⟨none, none, none⟩, sentLast := false } s t ∧
         RegSet counter (wd (satAdd (2 ^ 32 - 1) (s.rd counter).toNat 1)) s t ∧
         t = { s with bus := t.bus, regs := t.regs }) ∧
     (∀ k x, l.ctl = .transmitting → l.current = some k → l.slot k = some x → s.singleShot n x = false →
       e.kind ≠ 3 → l.tec + 8 < 128 → l.tec + 8 < lim → l.recv < lim → l.recv < 128 →
       After (.busError n e) s fun t =>
         LaneSet n { l with tec := l.tec + 8, lec := e.kind, ew := false, ctl := .idle, current := none, ackRun := 0,
                            noPartner := l.noPartner && l.held, lonelyNew := false, sentLast := true,
                            slots := l.slots.map fun y => if y.index = k then { y with fails := y.fails + 1 } else y }
           s t ∧
         RegSet counter (wd (satAdd (2 ^ 32 - 1) (s.rd counter).toNat 1)) s t) ∧
     (l.ctl ≠ .idle → l.ctl ≠ .receiving → l.ctl ≠ .transmitting → exec (.busError n e) s = .next s)) ∧
  (∀ (s : State) (n k : Nat) (x : BusSlot) (e : BusFault), e = BusFault.plain 5 [] → s.countsErrors n = true →
     (s.tl n).refBusy = false →
     let l := s.lane n
     l.conf = .passive → l.ctl = .transmitting → l.current = some k → l.slot k = some x → s.singleShot n x = false →
     248 ≤ l.tec → l.tec < 256 →
     After (.busError n e) s fun t =>
       (t.lane n).conf = .busOff ∧ (t.lane n).ctl = .recovering ∧ (t.lane n).tec = 256 ∧ (t.lane n).current = none ∧
       (t.lane n).recovering = (s.rf (busBase n) 22 2 == 0) ∧ t.rb (Blk.bus n).evtOff 2 = true ∧
       (∀ m, m ≠ n → t.lane m = s.lane m))

/-- Frames on a channel: a received frame that the channel takes counts, lowers the receive count and clears the
lonely rule's state before it goes on its path (R188, R200, R26); a sent one counts, lowers the transmit count, leaves
its slot and, from a FIFO descriptor, leaves it empty (R185, R247); a lost arbitration makes the channel a receiver
(R183). SIGCFG and LIMITS are those of the start-of-frame (R158, R216): here no write has come since. -/
def Obligations.ChannelFrames : Prop :=
  ∀ (s : State) (picks : List Nat) (n age tdcv : Nat) (sig : Sig) (f : Frame), (s.lane n).hist = [] →
    let l := { s.lane n with sigcfg := s.rd (busBase n + 0x114), limits := s.rd (busBase n + 0x10) }
    let lim := s.rf (busBase n + 0x10) 16 8
    let fewer := { l with recv := if 127 < l.recv then 120 else l.recv - 1 }
    let seen : Sig := if s.rf (busBase n + 0x114) 30 2 = 0 then ⟨none, none, none⟩ else s.measured n sig
    (l.ctl = .idle ∨ l.ctl = .receiving → s.countsErrors n = true → s.formatOn n f.format = true →
      lengthOk f.format f.flags f.dlc f.data.length = true → l.conf = .active → l.recv < lim → l.tec < lim →
      l.recv < 128 → l.tec < 128 →
      exec (.busFrameReceived picks n age sig f) s = .next
        (((s.cnt (busBase n + 0x40)).setLane n { fewer with
            held := false, noPartner := false, ackRun := 0, ctl := .idle, ew := false, sig := seen,
            sentLast := false }).busTaken picks n age seen f)) ∧
    (l.ctl ≠ .idle → l.ctl ≠ .receiving → exec (.busFrameReceived picks n age sig f) s = .next s) ∧
    (∀ k x, l.ctl = .transmitting → l.current = some k → l.slot k = some x → (s.tl n).refBusy = false →
      s.countsErrors n = true → l.conf = .active → l.tec < lim → l.recv < lim → l.tec < 128 → l.recv < 128 →
      (s.desc x.desc).kind = .txQueue → s.tdcBad n (s.slotFrame x) tdcv = false →
      After (.busFrameSent picks n age tdcv) s fun t =>
        (t.lane n).tec = l.tec - 1 ∧ (t.lane n).ctl = .idle ∧ (t.lane n).current = none ∧
        (t.lane n).slots = l.slots.filter (fun y => y.index != k) ∧ (t.lane n).ackRun = 0 ∧
        t.out = .busFrame n (s.slotFrame x).onWire :: s.out ∧
        t.rd (busBase n + 0x44) = wd (satAdd (2 ^ 32 - 1) (s.rd (busBase n + 0x44)).toNat 1) ∧
        DescSet x.desc { s.desc x.desc with outcome := 0, slot := none, job := TxJob.none, state := .empty,
                                            current := none } s t) ∧
    (l.ctl ≠ .transmitting → exec (.busFrameSent picks n age tdcv) s = .next s) ∧
    (∀ k x, l.ctl = .transmitting → l.current = some k → l.slot k = some x → s.singleShot n x = false →
      (s.tl n).refBusy = false → After (.arbitrationLost n) s fun t =>
        LaneSet n { s.lane n with ctl := .receiving, current := none, ackRun := 0, noPartner := l.noPartner && l.held,
                                  lonelyNew := false } s t ∧
        t.rd (busBase n + 0x5C) = wd (satAdd (2 ^ 32 - 1) (s.rd (busBase n + 0x5C)).toNat 1))

/-- Line supervision (R122, R123, R171): TXD and dominant timeouts are counted and raise their events, and a protocol
exception where the host enables it makes the channel integrate again. Wake sources of the channels in SLEEP,
ENTER_SLEEP not executing (R159 to R164): a pattern, a frame that matches, or an error count of 32 takes the module
to STANDBY with the cause of each channel that fires; a decoded frame that does not fire moves the error count. -/
def Obligations.LineSupervisionAndWake : Prop :=
  (∀ (s : State) (n : Nat),
     let r := busBase n + 0x110
     (After (.busDom n) s fun t => fld (t.rd r) 0 8 = min 255 (fld (s.rd r) 0 8 + 1) ∧ Raised (.bus n) 9 s t ∧
       t.bus = s.bus) ∧
     (∀ extra, (s.lane n).ctl ≠ .transmitting → After (.txdTimeout ⟨n, extra⟩) s fun t =>
       fld (t.rd r) 8 8 = min 255 (fld (s.rd r) 8 8 + 1) ∧ Raised (.bus n) 8 s t ∧ t.bus = s.bus) ∧
     (∀ age extra sig, s.onLine n = true → s.rb (busBase n) 26 = true →
       After (.protocolException ⟨n, age, extra, sig⟩) s fun t =>
         LaneSet n { s.lane n with ctl := .integrating, lec := 7, current := none } s t ∧ Raised (.bus n) 7 s t) ∧
     (∀ age extra sig, s.onLine n = true → s.rb (busBase n) 26 = false →
       exec (.protocolException ⟨n, age, extra, sig⟩) s =
         exec (.busError n { BusFault.plain 2 extra with age := age, sig := sig }) s)) ∧
  (∀ (s : State) (n ident dlc : Nat) (data : List Byte), s.mode = .sleep → s.executing 6 = none →
     let l := s.lane n
     (∀ ns, (∃ m ∈ ns, s.listens 1 m = true) → After (.wakeUpPattern ns) s fun t =>
       t.mode = .standby ∧ t.ctl.prev = .sleep ∧ ∀ m ∈ ns, s.listens 1 m = true → (t.lane m).wakeCause = 1) ∧
     (∀ ns, (∀ m ∈ ns, s.listens 1 m = false) → exec (.wakeUpPattern ns) s = .next s) ∧
     (s.listens 2 n = true →
       (s.wakeMatch n ident dlc data = true → After (.wakeFrame n ident dlc data) s fun t =>
         t.mode = .standby ∧ (t.lane n).wakeCause = 2) ∧
       (s.wakeMatch n ident dlc data = false → exec (.wakeFrame n ident dlc data) s =
         .next (s.setLane n { l with wakeErr := l.wakeErr - 1 })) ∧
       (l.wakeErr = 31 → After (.wufErrcnt n) s fun t => t.mode = .standby ∧ (t.lane n).wakeCause = 3) ∧
       (l.wakeErr < 31 → exec (.wufFrameDecoded n false true) s =
         .next (s.setLane n { l with wakeErr := l.wakeErr + 1 })) ∧
       exec (.wufFrameDecoded n true false) s = .next (s.setLane n { l with wakeErr := l.wakeErr - 1 })) ∧
     (s.listens 2 n = false → exec (.wufFrameDecoded n false true) s = .next s))

/-- Node table writes: a staged word waits for its link (R733), and a commit of a defined entry writes all of it
(R153); a reserved encoding leaves the entry and is recorded (R155). -/
def Obligations.NodeTable : Prop :=
  ∀ (s : State) (yw : Bool) (i k : Nat) (w : Word), i < 4096 → s.mode.setup = true →
    let base := 0x400000 + 0x20 * i
    let v := ofWords ((List.range 7).map (fun j =>
      (s.stage.get (fun _ => none) (latchKey (b2n yw) (base + 4 * j))).getD (wordAt (s.node i).bytes j)) ++ [w])
    let e := NodeEnt.ofBytes (leBytes 32 v)
    (k < 7 → After (.nodeTableStage yw i k w) s fun t =>
      t.stage.get (fun _ => none) (latchKey (b2n yw) (base + 4 * k)) = some w ∧ t = { s with stage := t.stage }) ∧
    (s.node i = NodeEnt.free → e.state < 2 → e.channel < 40 → s.hasCluster (e.channel / 10) = true →
      leAt (leBytes 32 v) 22 2 = 0 → leAt (leBytes 32 v) 30 2 = 0 →
      After (.nodeTableCommit yw i w) s fun t =>
        t.node i = e ∧ (∀ j, j ≠ i → t.node j = s.node j) ∧
        (∀ j < 7, t.stage.get (fun _ => none) (latchKey (b2n yw) (base + 4 * j)) = none) ∧
        t = { s with nodes := t.nodes, stage := t.stage }) ∧
    (2 < e.state ∨ 40 ≤ e.channel ∨ s.hasCluster (e.channel / 10) = false ∨ 8 ≤ leAt (leBytes 32 v) 22 2 ∨
      leAt (leBytes 32 v) 30 2 ≠ 0 → exec (.nodeTableCommit yw i w) s = .next (s.encReject (base + 0x1C)))

/-! ### Message buffers, waiting requests and deliveries -/

/-- The operations of POOL_MBOP in a mode that takes them (R241 to R251): what each leaves of its descriptor or FIFO,
and that one which Table 6-8 does not permit is a rejected write that changes nothing else. -/
def Obligations.BufferOperations : Prop :=
  ∀ (s : State) (yw : Bool) (i : Nat) (cells : RecEcc), s.open_ 0x4000 = true → s.mode.live = true → i < 65536 →
    let d := s.desc i
    (d.kind = .rxMailbox → exec (.lock yw i) s = .next (s.setDesc i { d with locked := true })) ∧
    (d.kind = .rxMailbox → d.locked = true → d.shadow = none →
      exec (.release yw i) s = .next (s.setDesc i { d with locked := false }) ∧
      exec (.ack yw i) s = .next (s.setDesc i
        { d with locked := false, state := if d.state = .new then .seen else d.state })) ∧
    (d.kind = .rxFifo → d.locked = true →
      exec (.release yw i) s = .next (s.setDesc i { d with locked := false })) ∧
    (d.locked = false → exec (.release yw i) s = .next (s.encReject 0x4000)) ∧
    (∀ r, d.kind = .rxMailbox → d.locked = true → d.shadow = some r → d.state = .new → After (.ack yw i) s fun t =>
      DescSet i { d with locked := false, shadow := none, current := some r, state := .new, damaged := false } s t) ∧
    (i < 1024 → 0 < (s.fifo i).count → After (.pop yw i) s fun t =>
      t.fifo i = { s.fifo i with head := ((s.fifo i).head + 1) % (s.fifo i).depth, count := (s.fifo i).count - 1 } ∧
      (let h := (s.fifo i).base + (s.fifo i).head % (s.fifo i).depth
       DescSet h { s.desc h with current := none, state := .empty, locked := false, damaged := false } s t)) ∧
    (1024 ≤ i ∨ (s.fifo i).count = 0 → exec (.pop yw i) s = .next (s.encReject 0x4000)) ∧
    (d.kind = .txStatic → d.commitPending = false → s.commitOk d = true →
      (d.state = .loaded → After (.commit yw ⟨i, cells⟩) s (DescSet i { d with commitPending := true } s)) ∧
      (d.state ≠ .loaded → After (.commit yw ⟨i, cells⟩) s
        (DescSet i { d with state := if d.state = .empty then .idle else d.state, current := d.shadow,
                            shadow := d.current, damaged := false } s))) ∧
    (d.kind = .txStatic → d.state = .idle → (s.lane d.bindIndex).ctl ≠ .quiet → s.reconf (d.bindIndex / 10) = false →
      exec (.trigger yw i) s = .next ((s.setDesc i { d with state := .ready }).setLane d.bindIndex
        { s.lane d.bindIndex with ready := (s.lane d.bindIndex).ready ++ [i] })) ∧
    (d.kind = .txStatic → d.state = .ready ∨ d.state = .loaded → exec (.trigger yw i) s =
      .next (s.setDesc i { d with overrun := satAdd 65535 d.overrun 1 })) ∧
    (d.kind ≠ .unused → exec (.clearOverrun yw false i) s = .next (s.setDesc i { d with overrun := 0 })) ∧
    (i < 1024 → 0 < (s.fifo i).depth → exec (.clearOverrun yw true i) s =
      .next (s.wr (0x10008 + 0x10 * i) 0))

/-- Deliveries (R240, R243, R283, R284, R358): a record reaches an unlocked mailbox, which is then NEW, or the tail of
a FIFO with room, and the route counts it; the last delivery ends the frame's transit; a held delivery to a mailbox is
made when its turn comes; a frame in transit too long is marked and counted once. -/
def Obligations.Deliveries : Prop :=
  ∀ (s : State) (id : Nat) (d : Delivery) (x : Transit) (ecc : RecEcc),
    s.transit.find? (fun t => t.id == id) = some x →
    (x.pending = [d] → d.held = false → d.deadline = 0 → s.mustFollow x 0 d = false →
      (d.kind = dMailbox → (s.desc d.index).locked = false → (s.desc d.index).state ≠ .new →
        After (.deliveryPoint id 0 ecc) s fun t =>
          DescSet d.index { s.desc d.index with current := some d.record, state := .new, damaged := false } s t ∧
          t.rd (0xC00000 + 0x20 * d.route) = wd (satAdd (2 ^ 32 - 1) (s.rd (0xC00000 + 0x20 * d.route)).toNat 1) ∧
          t.transit = s.transit.filter (fun u => u.id != id)) ∧
      (d.kind = dFifo → (s.fifo d.index).count ≠ (s.fifo d.index).depth → After (.deliveryPoint id 0 ecc) s fun t =>
        let i := (s.fifo d.index).at (s.fifo d.index).count
        DescSet i { s.desc i with current := some d.record, state := .new, damaged := false } s t ∧
        (t.fifo d.index).count = (s.fifo d.index).count + 1 ∧ t.transit = s.transit.filter (fun u => u.id != id))) ∧
    (x.late = false → After (.transitLate id) s fun t =>
      t.transit = (s.transit.map fun u => if u.id = id then { u with late := true } else u) ∧ Raised .pool 2 s t ∧
      fld (t.rd 0x4120) 16 16 = min 65535 (fld (s.rd 0x4120) 16 16 + 1)) ∧
    (x.late = true → exec (.transitLate id) s = .next s) ∧
    (∀ h, s.held = [h] → h.ready = true → s.heldWaits 0 h.delivery = false →
      h.delivery.kind = dMailbox → h.delivery.deadline = 0 →
      (s.desc h.delivery.index).locked = false → (s.desc h.delivery.index).state ≠ .new →
      After (.heldFrameCredit ⟨0, ecc⟩) s fun t =>
        t.held = [] ∧ DescSet h.delivery.index { s.desc h.delivery.index with
          current := some h.delivery.record, state := .new, damaged := false } s t)

/-- A failing row of cell memory (R232, R253): a spare row of its bank takes it, or it retires with a record; a row that
has retired, and any while the module is not powered, changes nothing. Requests that wait for credit (R273, R276 to
R278): the escalated head that can be granted leaves the waiting ones, its frame is charged and goes on its way;
without a waiting request nothing happens; an escalation marks the oldest request of its partner and is counted. -/
def Obligations.RowsAndWaitingRequests : Prop :=
  (∀ (s : State) (b r : Nat), b < 32 → r < 512 → s.mode.unpowered = false →
     s.retiredRows.contains (b * 512 + r) = false →
     (s.spareRows.get (fun _ => 0) b < 32 → After (.rowSubstitution b r) s fun t =>
       t.spareRows.get (fun _ => 0) b = s.spareRows.get (fun _ => 0) b + 1 ∧ t.retiredRows = s.retiredRows ∧
       t.rb Blk.hlt.evtOff 5 = true ∧ t.books = s.books) ∧
     (32 ≤ s.spareRows.get (fun _ => 0) b → After (.rowSubstitution b r) s fun t =>
       t.retiredRows = s.retiredRows ++ [b * 512 + r] ∧ t.spareRows = s.spareRows) ∧
     (∀ u, u.mode.unpowered = true → exec (.rowSubstitution b r) u = .next u) ∧
     (∀ u : State, u.retiredRows.contains (b * 512 + r) = true → exec (.rowSubstitution b r) u = .next u)) ∧
  (∀ (s : State) (picks : List Nat) (port p : Nat) (w : WaitReq),
     (s.heads port = [] → exec (.waitingGrant picks port) s = .next s) ∧
     (∀ s1 s2 xs took tr, s.heads port = [w] → w.escalated = true → w.ctx = none → w.engine = none → w.hostQ = none →
       s.available (s.testFilter w.frame (w.dests.map (State.recapture w s))) = (xs, s1) → xs ≠ [] → s1.launchFull (xs.map (·.1)) = none →
       s1.takeCredits xs = (took, [], s2) → s2.tiers w.partner (cellsFor w.frame took) = some tr →
       s2.transit.length < 4096 → cellsFor w.frame took ≤ s2.freeCells →
       After (.waitingGrant picks port) s fun t =>
         (∀ x, x ∈ t.waits → x.id ≠ w.id) ∧
         t.transit = (((s2.noteAdmitted w.partner).chargeTiers w.partner tr).launchFrame picks w.partner w.frame
           took).transit) ∧
     (s.waits.find? (fun x => x.partner == p) = some w → w.escalated = false → After (.headEscalation p) s fun t =>
       t.waits = (s.waits.map fun x => if x.id = w.id then { x with escalated := true } else x) ∧
       RegSet (0x94000C + 0x10 * p) (wd (satAdd (2 ^ 32 - 1) (s.rd (0x94000C + 0x10 * p)).toNat 1)) s t ∧
       t = { s with waits := t.waits, regs := t.regs }) ∧
     (s.waits.find? (fun x => x.partner == p) = none → exec (.headEscalation p) s = .next s))

/-! ### The executor, the loader and bring-up -/

/-- COMMAND_FETCH (R63, R65): with the executor free, a well-formed entry at the head of the ring is executing after it,
the head moved on, and one of a faulty form is answered BAD_COMMAND; with a command of the Yewirak link executing it
waits its turn. With the ring empty, the queue off or a host command at the executor nothing happens, and a failed
fetch leaves the head (log 42). The commands that act on a unit (Table 2-7): what each does beside completing. -/
def Obligations.FetchAndUnitCommands : Prop :=
  (∀ (s : State) (b : List Byte),
     let head := s.rf 0x110 0 8
     let c : Cmd := { origin := .host ((s.rd 0x100).toNat + 2 ^ 32 * (s.rd 0x104).toNat + 32 * head + 24),
                      opcode := byteAt b 0, target := leAt b 2 2, tag := leAt b 4 4, args := fitBytes 16 (b.drop 8) }
     let u := s.wr 0x110 (wd ((head + 1) % 2 ^ s.rf 0x108 0 4))
     (s.rb 0x108 31 = true → queueServiced s.mode = true → s.hostCmdOpen = false → head ≠ s.rf 0x10C 0 8 →
       s.hostOpen = true → s.ctl.exec = none → badCommand c.opcode [b.getD 1 0, b.getD 27 0] c.args = false →
       cmdAllowed c.opcode s.mode = true → (0x0F ≤ c.opcode ∧ c.opcode ≤ 0x11 → s.fuse.optP = true) →
       exec (.commandFetch (some b)) s = .next { u with ctl := { s.ctl with exec := some c } }) ∧
     (s.rb 0x108 31 = true → queueServiced s.mode = true → s.hostCmdOpen = false → head ≠ s.rf 0x10C 0 8 →
       s.hostOpen = true → s.ctl.exec = none → badCommand c.opcode [b.getD 1 0, b.getD 27 0] c.args = true →
       exec (.commandFetch (some b)) s = .next (u.respond c cBadCommand 0)) ∧
     (s.rb 0x108 31 = true → queueServiced s.mode = true → s.hostCmdOpen = false → head ≠ s.rf 0x10C 0 8 →
       s.hostOpen = true → s.ctl.exec ≠ none → exec (.commandFetch (some b)) s = .next { u with ctl := { s.ctl with
         waiting := s.ctl.waiting ++ [{ c with bad := badCommand c.opcode [b.getD 1 0, b.getD 27 0] c.args }] } }) ∧
     (s.rb 0x108 31 = false ∨ s.hostCmdOpen = true ∨ head = s.rf 0x10C 0 8 ∨ s.hostOpen = false →
       exec (.commandFetch (some b)) s = .next s) ∧
     exec (.commandFetch none) s = .next s) ∧
  (∀ (s : State) (c : Cmd), s.ctl.exec = some c → s.ctl.waiting = [] →
     let ended (t : State) : Prop := t.ctl = { s.ctl with exec := none }
     (c.opcode = 0 → After .nop s fun t => ended t ∧
       ∀ a, c.origin = .host a → s.hostOpen = true → Out.hostWrite a [0, 0, 1, 0, 0, 0, 0, 0] ∈ t.out) ∧
     (c.opcode = 3 → After .unload s fun t =>
       t.mode = (if s.mode = .service then .service else .unconfigured) ∧ t.ctl.exec = none ∧ t.struct = none ∧
       t.recs = [] ∧ t.descs = [] ∧ t.routes = [] ∧ t.partners = [] ∧ t.nodes = []) ∧
     (c.opcode = 12 → After .restep s fun t => ended t ∧
       t.beacon = { s.beacon with stepAvail := true, state := if s.bcnSource = 0 then .free else .acquire }) ∧
     (c.opcode = 13 → c.target < 40 → s.hasCluster (c.target / 10) = true → (s.lane c.target).retired = false →
       s.reconf (c.target / 10) = false → (s.lane c.target).held = true → After .busRetry s fun t => ended t ∧
         LaneSet c.target { s.lane c.target with held := false, noPartner := false, ackRun := 0 } s t) ∧
     (∀ x, c.opcode = 14 → c.target < 40 → s.hasCluster (c.target / 10) = true → (s.lane c.target).retired = false →
       s.reconf (c.target / 10) = false → (s.lane c.target).slots = [x] → x.index = byteAt c.args 0 → x.parked = true →
       After .bufUnpark s fun t => ended t ∧
         LaneSet c.target { s.lane c.target with slots := [{ x with parked := false, clashRun := 0 }] } s t) ∧
     (∀ r, c.opcode = 18 → c.target < 64 → s.pend c.target = some r → s.reconf (unitCluster r.unit) = false →
       s.health.unrecorded = [] →
       (byteAt c.args 0 = 0 → After .spareApprove s fun t => ended t ∧
         t.pend c.target = none ∧ t.health.due = s.health.due ++ [r] ∧
         ∀ i, i ≠ c.target → t.pend i = s.pend i) ∧
       (byteAt c.args 0 = 1 → r.cause = 1 → After .spareApprove s fun t => ended t ∧
         t.pend c.target = none ∧ t.health.due = s.health.due ∧ r.unit ∈ t.health.declined)) ∧
     (c.opcode = 19 → After .auditSnapshot s fun t => ended t ∧
       (∀ i w, i < 4096 → w < 8 → t.psnap.get (fun _ => 0) (8 * i + w) = s.partWord i w) ∧
       t.rd 0x4100 = wd (2 ^ 31 + (s.rf 0x4100 0 16 + 1) % 2 ^ 16)) ∧
     (c.opcode = 20 → s.calCell = true → (∀ v, KOp.cal v ∉ s.keeper.ops) → After .calCommit s fun t =>
       ∃ v, t = { s with keeper := { s.keeper with ops := s.keeper.ops ++ [.cal v],
                                                   running := s.keeper.running || !s.power.warn } } ∧
         ∀ i < 2048, v.get (fun _ => 0) i = s.calUser i) ∧
     (c.opcode = 20 → s.calCell = false → (∀ v, KOp.cal v ∉ s.keeper.ops) → After .calCommit s fun t =>
       ended t ∧ t.keeper = s.keeper))

/-- How a load runs (R96, R97, R99, R102, R106, R109, R110, R113, R117). A stream fetched whole whose header passes
stage 1 is held for validation, a FULL one under the loader hold; LOAD_STREAM and RELOAD_CLUSTER are DENIED to a
decommissioned module. Validation fails where the key slot may not sign the stream, or stages 2 to 6 find anything,
and the module is UNCONFIGURED again; else apply runs. A CLUSTER stream waits for its own stage 6, with the same two
ends. The autoload copy starts once PWR_WARN# is released. Step 8 ends the load and the module runs. A cluster that
reconfigures for hold_max_ms discards what is held for it. -/
def Obligations.LoaderCommands : Prop :=
  ∀ (s : State) (picks : List Nat) (h b : List Byte) (c : Cmd) (k : Nat),
    (s.ctl.exec = some c → c.opcode = 1 → s.load 4 = none → s.keeper.lifecycle ≠ .decommissioned →
      s.hostOpen = true → s.mode = .unconfigured → h.length = 64 → b.length = c.loadLen - 64 →
      headerCode true c.loadLen h = none → After (.loadStream picks (some h) (some b)) s fun t =>
        t.load 4 = some ⟨4, false, .validate, h ++ b, .none⟩ ∧ t.books.loaderHold = (c.loadLen + 63) / 64 ∧
        t.ctl = { s.ctl with mode := .configuring, prev := .unconfigured }) ∧
    (s.ctl.exec = some c → s.ctl.waiting = [] → s.keeper.lifecycle = .decommissioned → s.load 4 = none →
      s.load c.target = none →
      (c.opcode = 1 → After (.loadStream picks (some h) (some b)) s fun t =>
        t.ctl = { s.ctl with exec := none } ∧ t.loads = s.loads) ∧
      (c.opcode = 2 → After (.reloadCluster (some h) (some b)) s fun t =>
        t.ctl = { s.ctl with exec := none } ∧ t.loads = s.loads)) ∧
    (∀ j, s.load 4 = some j → j.phase = .validate → j.auto = true → s.mode = .configuring →
      (s.keeper.signs (byteAt j.stream 30) 2 = false ∨ s.stages2to5 4 j.stream ≠ none ∨ s.stage6 4 j.stream ≠ none →
        After (.streamValidation 4) s fun t =>
          t.load 4 = none ∧ t.books.loaderHold = 0 ∧
          t.ctl = { s.ctl with mode := .unconfigured, prev := .configuring }) ∧
      (s.stages2to5 4 j.stream = none → s.stage6 4 j.stream = none → After (.streamValidation 4) s fun t =>
        ∃ y, t.load 4 = some { j with phase := .apply, copy := y })) ∧
    (∀ j, k < 4 → s.load k = some j → j.phase = .validate → s.stages2to5 k j.stream = none →
      exec (.streamValidation k) s = .next (s.setLoad k (some { j with phase := .stage6 }))) ∧
    (∀ j, k < 4 → s.loads = [(k, some j)] → j.phase = .stage6 → s.ctl.exec = some c → s.ctl.waiting = [] →
      s.mode = .reconfiguring → s.ctl.reconfig = 2 ^ k →
      (s.stage6 k j.stream = none → After (.clusterStage6 k) s fun t =>
        (∃ y, t.load k = some { j with phase := .apply, copy := y }) ∧ t.ctl.exec = none) ∧
      (s.stage6 k j.stream ≠ none → After (.clusterStage6 k) s fun t =>
        t.load k = none ∧ t.reconf k = false ∧ t.mode = s.runMode ∧ t.ctl.exec = none)) ∧
    (∀ j st rest, s.load 4 = some j → j.copy = .waiting → s.keeper.ops = .autoload st :: rest →
      (s.power.warn = false → exec .autoloadCopy s = .next
        ({ s with keeper := { s.keeper with running := true } }.setLoad 4 (some { j with copy := .running }))) ∧
      (s.power.warn = true → s.keeper.running = false → exec .autoloadCopy s = .next s)) ∧
    (∀ j, s.load 4 = some j → j.phase = .apply → j.copy = .none ∨ j.copy = .done →
      (∀ q < 64, (s.spar q).queued = false) → s.mode = .configuring → After (.loaderHoldRelease 4) s fun t =>
        t.load 4 = none ∧ t.books.loaderHold = 0 ∧ t.ctl = { s.ctl with mode := s.runMode, prev := .configuring }) ∧
    (s.ctl.exec = some c → c.opcode = 2 → s.load c.target = none → s.keeper.lifecycle ≠ .decommissioned →
      s.hasCluster c.target = true → s.reconf c.target = false →
      s.hostOpen = true → h.length = 64 → b.length = c.loadLen - 64 → headerCode false c.loadLen h = none →
      After (.reloadCluster (some h) (some b)) s fun t =>
        t.load c.target = some ⟨c.target, false, .validate, h ++ b, .none⟩ ∧ t.reconf c.target = true ∧
        t.mode = .reconfiguring) ∧
    (s.reconf k = true → After (.holdMaxExpiry k) s fun t =>
      t.held = s.held.filter (fun e => e.cluster != k) ∧
      t.ctl = { s.ctl with holdEnded := setBit s.ctl.holdEnded k true }) ∧
    (s.reconf k = false → exec (.holdMaxExpiry k) s = .next s)

/-- The end of BRING-UP (R61, R633, R634, R676): its hold causes, and UNCONFIGURED with the store measured where
nothing is wrong and no autoload stream is stored; the monitors of temperature and rate (R39, R62, R744). -/
def Obligations.BringUpAndMonitors : Prop :=
  ∀ (s : State) (a b : Bool) (uf mw st : Nat) (picks : List Nat) (x : Int) (c r : Nat),
    (s.mode = .bringUp → s.boots s.keeper.fwA a = true → s.keeper.activeB = false → s.ctl.exec = none →
      s.ctl.waiting = [] →
      (s.keeper.autoload = none → 140 ≤ uf → uf < 65536 → 0 < mw →
        After (.bringupComplete a b 0 [] [] uf mw picks) s fun t =>
          t.mode = .unconfigured ∧ t.ctl.prev = .bringUp ∧ t.power.capUf = uf ∧
          t.power.holdUs = min 65535 (655200 * uf / mw) ∧ t.keeper.runsB = false ∧
          t.keeper.epoch = max s.keeper.epoch (s.keeper.fwA.getD Firmware.none).epoch) ∧
      (0 < st → After (.bringupComplete a b st [] [] uf mw picks) s fun t =>
        t.mode = .faultHold ∧ t.ctl.hold = .selftestFail)) ∧
    (s.mode = .bringUp → s.boots s.keeper.fwA a = false → s.boots s.keeper.fwB b = false →
      After (.bringupComplete a b st [] [] uf mw picks) s fun t =>
        t.mode = .faultHold ∧ t.ctl.hold = .keeperBootFail) ∧
    (s.mode = .bringUp → After (.bringupTimeout st) s fun t =>
      t.mode = .faultHold ∧ t.ctl.hold = .bringupTimeout ∧ t.ctl.causePresent = false) ∧
    (s.mode ≠ .bringUp → exec (.bringupTimeout st) s = .next s) ∧
    (s.mode.unpowered = false → s.mode ≠ .faultHold → -32768 ≤ x → x < 2240 → After (.tempUpdate x) s fun t =>
      fld (t.rd 0x60) 0 16 = ofSigned 16 x ∧ t.ctl = s.ctl ∧
      toSigned 16 (fld (t.rd 0x60) 16 16) =
        (if s.health.tempSeen = true then max x (toSigned 16 (fld (s.rd 0x60) 16 16)) else x)) ∧
    (s.mode.unpowered = false → s.mode ≠ .faultHold → 2240 ≤ x → x ≤ 32767 → After (.tempUpdate x) s fun t =>
      t.mode = .faultHold ∧ t.ctl.hold = .overtemp ∧ t.ctl.causePresent = true) ∧
    (s.mode = .faultHold → s.ctl.hold = .overtemp → -32768 ≤ x → x < 2080 → After (.tempUpdate x) s fun t =>
      t.ctl = { s.ctl with causePresent := false }) ∧
    (s.hasCluster c = true → s.mode.unpowered = false → s.mode ≠ .sleep → s.beacon.running = true → r < 4096 →
      After (.rateWindow c r) s fun t =>
        t.rd (0x480 + 4 * c) = wd (2 ^ 31 + s.rf (0x480 + 4 * c) 16 12 * 2 ^ 16 + r) ∧
        (r < s.rf (0x480 + 4 * c) 16 12 → s.rf (0x480 + 4 * c) 16 12 ≤ s.rf (0x480 + 4 * c) 0 12 →
          s.health.rateTold.contains c = false →
          t.rd 0x2202C = wd (satAdd (2 ^ 32 - 1) (s.rd 0x2202C).toNat 1) ∧ c ∈ t.health.rateTold))

/-! ### Power entry -/

/-- The input switch (R661 to R664, R668): inrush, limit and their ends, trips, retries and MOD_PG, with the counts and
events of Table 19-8; in any other state of the switch nothing happens. The voltage across a switch that turns on is
open (a free value, log 96); its current stays under the limit of R660. Feeds and seating (R53, R653 to R657, R664,
R665, R671 to R673, R677): what each leaves of the power die and the mode; the loss of the last feed asserts
PWR_WARN#, and the end of the store is OFF. That a feed already in range has its voltage taken is the model's choice
(log 96). -/
def Obligations.FeedsSeatingAndInputSwitch : Prop :=
  (∀ (s : State) (v mA : Nat),
     let p := s.power
     let cnt (i : Nat) (t : State) : Prop :=
       t.rd (0x1E040 + 4 * i) = wd (satAdd (2 ^ 32 - 1) (s.rd (0x1E040 + 4 * i)).toNat 1)
     (p.sw = .inrush → s.mode ≠ .inrush → exec (.inrushComplete v mA) s = .next { s with power :=
       { p with sw := .on, storeFull := true, railsOk := true, vStore := min (v / 10) 65535, iIn := min mA 65535 } }) ∧
     (p.sw = .inrush → s.mode = .inrush → s.ctl.exec = none → s.ctl.waiting = [] → After (.inrushComplete v mA) s fun t =>
       t.mode = .bringUp ∧ t.ctl.prev = .inrush ∧ t.beacon.running = true ∧ t.power =
         { p with sw := .on, storeFull := true, railsOk := true, vStore := min (v / 10) 65535, iIn := min mA 65535 }) ∧
     (p.sw ≠ .inrush → exec (.inrushComplete v mA) s = .next s ∧ exec (.inrushTimeout mA) s = .next s) ∧
     (p.sw = .on → After (.inputLimit mA) s fun t =>
       t.power = { p with sw := .limit, iIn := min mA 65535, modPg := false } ∧ cnt 5 t ∧ Raised .pwr 4 s t) ∧
     (p.sw ≠ .on → exec (.inputLimit mA) s = .next s) ∧
     (p.sw = .limit → exec (.inputLimitEnd mA) s =
       .next { s with power := { p with sw := .on, iIn := min mA 65535 } }) ∧
     (p.sw ≠ .limit → exec (.inputLimitEnd mA) s = .next s ∧ exec (.inputFaultTimer mA) s = .next s) ∧
     (∀ c, c = .inrushTimeout mA ∧ p.sw = .inrush ∨ c = .inputFaultTimer mA ∧ p.sw = .limit ∨
         c = .inputShort mA ∧ (p.sw = .inrush ∨ p.sw = .on ∨ p.sw = .limit) →
       p.storeFull = true → s.mode.unpowered = false →
       (p.retries < 5 → After c s fun t =>
         t.power = { p with sw := .retryOff, retries := p.retries + 1, iIn := 0, modPg := false, warn := true } ∧
         cnt 6 t ∧ t.rb Blk.pwr.evtOff 5 = true) ∧
       (5 ≤ p.retries → After c s fun t =>
         t.power = { p with sw := .latched, iIn := 0, modPg := false, warn := true } ∧ cnt 6 t ∧
         t.rb Blk.pwr.evtOff 5 = true)) ∧
     (p.sw = .inrush → s.mode = .inrush → p.storeFull = false → p.retries < 5 → p.pinA = true ∨ p.pinB = true →
       After (.inrushTimeout mA) s fun t => t.mode = .off ∧ t.power.sw = .retryOff ∧ t.power.retries = p.retries + 1 ∧
         t.power.cause = p.cause) ∧
     (p.sw = .retryOff → s.mode ≠ .off → s.mode ≠ .seating → After .inputRetryEnd s fun t =>
       t = { s with power := { p with sw := .inrush, iIn := t.power.iIn }, free := s.free + 1 } ∧
       t.power.iIn ≤ 1400) ∧
     (p.sw ≠ .retryOff → exec .inputRetryEnd s = .next s) ∧
     (p.modPg = true → exec .inputRetriesReset s = .next { s with power := { p with retries := 0 } }) ∧
     (p.modPg = false → exec .inputRetriesReset s = .next s) ∧
     (p.sw = .on → s.mode.unpowered = false → s.mode ≠ .faultHold → p.modPg = false → exec .modPgAssert s =
       .next { s with power := { p with railsOk := true, modPg := true }, out := .pin 2 true :: s.out }) ∧
     (p.modPg = true → exec .railOutOfWindow s =
       .next { s with power := { p with railsOk := false, modPg := false }, out := .pin 2 false :: s.out }) ∧
     (p.sw = .retryOff ∨ s.mode = .off ∨ s.mode = .seating → s.mode ≠ .faultHold → After .inputPassFault s fun t =>
       t.mode = .faultHold ∧ t.ctl.hold = .inputPassFault ∧ t.ctl.causePresent = true ∧ t.power.passFault = true ∧
       t.power.blocked = true ∧ t.power.condA = false ∧ t.power.condB = false ∧ t.power.sw = .off ∧
       t.power.cause = if s.recordsCause then 5 else p.cause) ∧
     (s.feedCounts = true → s.mode ≠ .off → After (.holdupExhausted v) s fun t =>
       t.mode = s.mode ∧ t.power = { p with modPg := false, vStore := min (v / 10) 65535 })) ∧
  (∀ (s : State) (feed mV : Nat),
     let p := s.power
     (p.feedA = false → s.mode ≠ .off → After (.feedInRange 0 mV) s fun t =>
       t.mode = s.mode ∧ Raised .pwr 0 s t ∧ t.power = { p with
         feedA := true, pinA := true, vFeedA := min mV 65535, cause := if p.pinA || p.pinB then p.cause else 0,
         condA := !p.blocked && (!(p.feedB && p.condB) || p.vFeedB ≤ min mV 65535 + 20) }) ∧
     (p.feedA = false → s.mode = .off → p.sw = .off → s.ctl.waiting = [] → After (.feedInRange 0 mV) s fun t =>
       t.mode = .seating ∧ t.ctl.prev = .off ∧ t.power.feedA = true) ∧
     (p.feedB = true → After (.feedInRange 1 mV) s fun t => t = { s with power := { p with
       vFeedB := min mV 65535,
       condB := p.condB || !p.blocked && (!(p.feedA && p.condA) || p.vFeedA ≤ min mV 65535 + 20) } }) ∧
     (2 ≤ feed → exec (.feedInRange feed mV) s = .next s ∧ exec (.feedOutOfRange feed mV) s = .next s) ∧
     (p.feedA = true → p.feedB = true → mV ≤ 30000 → p.sw = .on → p.pinB = true → After (.feedOutOfRange 0 mV) s fun t =>
       t.mode = s.mode ∧ Raised .pwr 0 s t ∧
       t.rd 0x1E040 = wd (satAdd (2 ^ 32 - 1) (s.rd 0x1E040).toNat 1) ∧ t.power = { p with
         feedA := false, pinA := decide (10000 ≤ mV), vFeedA := min mV 65535, condB := !p.blocked }) ∧
     (p.feedA = true → p.feedB = false → mV ≤ 30000 → p.sw = .on → 10000 ≤ mV → p.storeFull = true →
       p.warn = false → s.mode.unpowered = false → s.spars = [] → After (.feedOutOfRange 0 mV) s fun t =>
         t.power.warn = true ∧ t.power.feedA = false ∧ t.power.retries = 0 ∧ t.mode = s.mode ∧ Out.pin 3 false ∈ t.out ∧
         t.rb Blk.pwr.evtOff 1 = true) ∧
     (p.warn = true → p.feedA = true → p.sw = .on → s.mode ≠ .sleep → s.spars = [] → After .pwrRestore s fun t =>
       t.power = { p with warn := false } ∧ Out.pin 3 true ∈ t.out ∧ Raised .pwr 2 s t) ∧
     (p.warn = false → exec .pwrRestore s = .next s) ∧
     (p.condA = true → After (.reverseTurnOff 0) s fun t => t.power = { p with condA := false } ∧ Raised .pwr 3 s t ∧
       t.rd 0x1E04C = wd (satAdd (2 ^ 32 - 1) (s.rd 0x1E04C).toNat 1)) ∧
     (p.condB = true → After (.reverseTurnOff 1) s fun t => t.power = { p with condB := false } ∧ Raised .pwr 3 s t) ∧
     exec (.seatMade 0) s = .next { s with power := { p with seatA := true } } ∧
     exec (.seatMade 1) s = .next { s with power := { p with seatB := true } } ∧
     (s.mode = .seating → p.seatA = true → p.seatB = true → After .seatDebounceDone s fun t =>
       t.ctl = { s.ctl with mode := .inrush, prev := .seating } ∧
       (p.sw = .off → t.power = { p with sw := .inrush, iIn := t.power.iIn } ∧ t.power.iIn ≤ 1400) ∧
       (p.sw ≠ .off → t.power = p)) ∧
     (s.mode ≠ .seating ∨ p.seatA = false ∨ p.seatB = false → exec .seatDebounceDone s = .next s) ∧
     (s.mode = .off ∧ (p.sw ≠ .latched ∨ p.feedA = false ∧ p.feedB = false) ∨ s.mode = .seating → p.seatA = true →
       exec (.seatOpen 0) s = .next { s with power :=
         { p with seatA := false, retries := 0, sw := if p.sw = .latched then .off else p.sw } }) ∧
     (s.mode = .off → p.sw = .latched → p.feedA = true → p.seatA = true → s.ctl.waiting = [] →
       After (.seatOpen 0) s fun t => t.mode = .seating ∧ t.ctl.prev = .off ∧ t.power.sw = .off) ∧
     (s.mode ≠ .off → s.mode ≠ .seating → p.seatB = true → s.ctl.waiting = [] → After (.seatOpen 1) s fun t =>
       t.mode = .seating ∧ t.ctl.prev = s.mode ∧ t.struct = none ∧ t.mem = [] ∧ t.power = { p with
         seatB := false, retries := 0, sw := if p.sw = .retryOff then .retryOff else .off,
         cause := if s.recordsCause then 2 else p.cause, modPg := false, warn := false, railsOk := false, iIn := 0 }) ∧
     (p.feedA = false → p.feedB = false → s.mode ≠ .off → p.sw = .on → p.pinA = true ∨ p.pinB = true →
       After (.holdupExhausted mV) s fun t => t.mode = .off ∧ t.ctl.prev = s.mode ∧ t.power = { p with
         storeFull := false, vStore := min (mV / 10) 65535, modPg := false, warn := false,
         cause := if s.recordsCause then 1 else p.cause, sw := .off,
         railsOk := false, iIn := 0 }) ∧
     (p.feedA = false → p.feedB = false → s.mode = .off → s.ctl.hold = .none → After .feedsRemoved s fun t =>
       t.power = { p with pinA := false, pinB := false, blocked := false, cause := 0, retries := 0 } ∧
       t.rd 0x70 = 0 ∧ t.rd 0x74 = 0 ∧ t.rd 0x78 = 0) ∧
     (p.feedA = true ∨ p.feedB = true → exec .feedsRemoved s = .next s))

/-! ### The PCI Express function, interrupts and host queues -/

/-- The link and the function (R54, R58, R587, R590 to R596, R600, R614, R751): what each change of them leaves, the
wake that the host commands, and PME for a record that has been held too long. -/
def Obligations.HostFunction : Prop :=
  ∀ (s : State) (k : Nat) (d3 bme pme : Bool),
    let h := s.host
    exec .perstDeassert s = .next { s with host := { h with perst := false } } ∧
    exec (.d3hotEntry d3 bme pme) s =
      .next { s with host := { h with d3hot := d3, busMaster := bme, pmeEn := pme } } ∧
    (h.up = true → exec .linkL1Entry s = .next { s with host := { h with l1 := true } }) ∧
    (h.up = false → exec .linkL1Entry s = .next s) ∧
    (h.l1 = true → s.hold = [] → h.wakePin = false → exec .l1Exit s = .next { s with host := { h with l1 := false } }) ∧
    (h.l1 = true → s.hold = [] → h.up = true → h.wakePin = true → exec .l1Exit s =
      .next { s with host := { h with l1 := false, wakePin := false }, out := .wakePin false :: s.out }) ∧
    (h.l1 = false → exec .l1Exit s = .next s) ∧
    (s.mode = .sleep → After .hostWake s fun t =>
      t.ctl = { s.ctl with mode := .standby, prev := .sleep, wokeAt := some s.beacon.raw }) ∧
    (s.mode ≠ .sleep → s.executing 6 = none → exec .hostWake s = .next s) ∧
    (s.mode ≠ .sleep → s.executing 6 ≠ none →
      exec .hostWake s = .next { s with ctl := { s.ctl with wakePending := true } }) ∧
    (h.wakePin = true → exec .wakeRelease s =
      .next { s with host := { h with wakePin := false }, out := .wakePin false :: s.out }) ∧
    (h.wakePin = false → exec .wakeRelease s = .next s) ∧
    (s.hold ≠ [] → s.mode ≠ .sleep → h.l1 = false → h.pmeEn = true → exec .wakeHoldExpiry s =
      .next { s with host := { h with pmeStatus := true }, out := .pme :: s.out }) ∧
    (s.hold = [] → exec .wakeHoldExpiry s = .next s) ∧
    (s.mode ≠ .off → h.perst = false → After .pcieLinkUp s fun t =>
      t.host.up = true ∧ t.host.l1 = false ∧ t.host.wakePin = false ∧
      (h.wakePin = true → Out.wakePin false ∈ t.out)) ∧
    (s.mode = .off ∨ h.perst = true → exec .pcieLinkUp s = .next s) ∧
    (s.mode = .off → exec (.hostLinkReset k) s = .next s) ∧
    (s.mode ≠ .off → After (.hostLinkReset k) s fun t =>
      t.host.up = (h.up && k == 1) ∧ t.host.d3hot = false ∧ t.host.busMaster = false ∧ t.host.pmeEn = false ∧
      t.host.msix = [] ∧ t.host.perst = (h.perst || k == 3) ∧ t.hold = [] ∧
      (∀ q < 64, t.eqEnabled q = false) ∧
      (∀ q, (t.hostQ q).enable = false ∧ (t.hostQ q).flight = [] ∧ (t.hostQ q).head = (s.hostQ q).head ∧
        (t.hostQ q).tail = (s.hostQ q).tail))

/-- Messages and held records (R586, R588, R592, R601): the moderation timer sends a queue's message, a vector that is
unmasked sends what is pending, the flush writes a held record at the tail of its queue, and the host sleep handshake
reports what is unread. -/
def Obligations.MessagesAndRecords : Prop :=
  ∀ (s : State) (q v addr data : Nat) (r : EvRec) (yw : Bool) (w : Word),
    ((s.eq q).armed = true → (s.eq q).timer = true → s.host.l1 = false →
      (s.msix q).masked = false → s.host.fnMask = false → exec (.moderationTimer q) s =
        .next ((s.setEq q { s.eq q with armed := false, timer := false }).emit (.msix q))) ∧
    ((s.eq q).armed = true → (s.eq q).timer = true → s.host.l1 = false → (s.msix q).masked = true →
      exec (.moderationTimer q) s = .next ((s.setEq q { s.eq q with armed := false, timer := false }).setMsix q
        { s.msix q with pending := true })) ∧
    ((s.eq q).armed = false ∨ (s.eq q).timer = false → exec (.moderationTimer q) s = .next s) ∧
    (s.mode ≠ .off → v < 64 → (s.msix v).pending = true → s.host.fnMask = false →
      After (.msixTableWrite v addr data false none) s fun t =>
        t.msix v = ⟨addr, data, false, false⟩ ∧ t.out = .msix v :: s.out ∧ ∀ u, u ≠ v → t.msix u = s.msix u) ∧
    (s.mode ≠ .off → v < 64 → After (.msixTableWrite v addr data true none) s fun t =>
      t.msix v = ⟨addr, data, true, (s.msix v).pending⟩ ∧ t.out = s.out ∧ ∀ u, u ≠ v → t.msix u = s.msix u) ∧
    exec (.msixTableWrite v addr data true (some true)) s = .next { s with host := { s.host with fnMask := true } } ∧
    (s.hold = [] → s.hostQs = [] → s.host.d3hot = false → exec .heldRecordsFlush s =
      .next { s with host := { s.host with d3hot := false, busMaster := true } }) ∧
    (s.hold = [(q, r)] → s.hostQs = [] → s.host.d3hot = false → s.host.up = true → s.host.l1 = false →
      s.mode ≠ .sleep → After .heldRecordsFlush s fun t =>
        t.hold = [] ∧ Out.hostWrite (s.eqBase q + 16 * (s.eq q).tail) (r.bytes (s.eq q).phase) ∈ t.out ∧
        (t.eq q).tail = ((s.eq q).tail + 1) % s.eqSize q ∧ (t.eq q).reserved = (s.eq q).reserved - 1 ∧
        (t.eq q).armed = false) ∧
    (s.open_ 0xE400 = true → s.host.l1 = false → bit w 0 = false → After (.hostSleepReq yw w) s fun t =>
      t.rd 0xE400 = 0 ∧ t.rb 0xE404 31 = false ∧ t.eqs = s.eqs) ∧
    (s.open_ 0xE400 = true → s.host.l1 = false → s.host.d3hot = false → bit w 0 = true →
      After (.hostSleepReq yw w) s fun t => t.rd 0xE400 = 1 ∧ t.rd 0xE404 = wd (2 ^ 31 +
        ((List.range 64).map fun q => if s.eqEnabled q then s.eqUnread q else 0).sum % 2 ^ 19))

/-- Interrupt sources and event queues as registers (R566, R570 to R572, R583 to R586): the set and clear aliases, a
source's settings, enabling a queue and consuming its records. Host descriptor queues (R602 to R604, R607, R609,
R613): enabling one empties it, the tail posts slots, a slot whose descriptor cannot be read faults the queue and
stops it, a TX descriptor that breaks Table 17-2 is written back with BAD_DESCRIPTOR, one that is sound becomes a
waiting request with its destination set, a sound RX descriptor is kept, and a stopped queue is empty. -/
def Obligations.InterruptAndHostQueues : Prop :=
  (∀ (s : State) (yw : Bool) (k i q : Nat) (w : Word),
     let c := 0xE004 + 0x10 * k
     (k < 32 → s.open_ c = true → After (.irqSpendSet yw k w) s fun t => ∀ j,
       t.src j = if j / 32 = k ∧ bit w (j % 32) = true ∧ isLiveSrc j = true ∧ (s.src j).edge = true
         then { s.src j with pending := true, count := satAdd 255 (s.src j).count 1 } else s.src j) ∧
     (k < 32 → s.open_ c = true → After (.irqSpendClear yw k w) s fun t => ∀ j,
       t.src j = if j / 32 = k ∧ bit w (j % 32) = true then { s.src j with pending := false, count := 0 } else s.src j) ∧
     (i < 1024 → s.open_ (0x14000 + 4 * i) = true → (bit w 15 = true → s.hasCluster (fld w 8 5 / 8) = true) →
       (isEventSrc i = true → bit w 30 = true ∧ fld w 0 8 = 255) → fld w 0 8 < 64 ∨ fld w 0 8 = 255 →
       After (.irqSrcWrite yw i w) s fun t =>
         (let y := { s.src i with enable := bit w 31, priority := fld w 24 4, targetValid := bit w 15,
                                  target := fld w 8 5, queue := fld w 0 8 }
          t.src i = if bit w 30 = (s.src i).edge then y else { y with edge := bit w 30, pending := false, count := 0 }) ∧
         ∀ j, j ≠ i → t.src j = s.src j) ∧
     (q < 64 → s.open_ (0x16008 + 0x20 * q) = true → s.eqEnabled q = false → bit w 31 = true → 4 ≤ fld w 24 4 →
       fld w 24 4 ≤ 12 → fld w 16 8 ≠ 0 → After (.irqEqEnable yw q w) s fun t =>
         t.eqEnabled q = true ∧ t.eqSize q = 2 ^ fld w 24 4 ∧
         t.eq q = { s.eq q with head := 0, tail := 0, phase := true, armed := false, timer := false } ∧
         ∀ p, p ≠ q → t.eq p = s.eq p) ∧
     (q < 64 → s.open_ (0x1600C + 0x20 * q) = true → s.host.l1 = false → fld w 0 12 = (s.eq q).tail →
       (s.eq q).tail < s.eqSize q → exec (.irqEqHead yw q w) s =
         .next (s.setEq q { s.eq q with head := (s.eq q).tail, armed := true, timer := false }))) ∧
  (∀ (s : State) (yw : Bool) (q i : Nat) (w : Word) (d : List Byte) (img : Option (List Byte)),
     let x := s.hostQ q
     let n := (x.head + x.flight.length) % x.depth
     (q < 64 → s.open_ (0x1800C + 0x40 * q) = true → fld w 0 12 < x.depth → exec (.hostQTail yw q w) s =
       .next (s.setHostQ q { x with tail := fld w 0 12 })) ∧
     (q < 64 → s.open_ (0x18008 + 0x40 * q) = true → x.enable = false → x.stopping = false → x.depth ≠ 0 →
       bit w 31 = true → bit w 29 = false → After (.hostQCfg yw q w) s fun t =>
         t.hostQ q = { x with enable := true, fault := false, head := 0, tail := 0, flight := [] } ∧
         t.hostQRx q = bit w 30 ∧ ∀ p, p ≠ q → t.hostQ p = s.hostQ p) ∧
     (q < 64 → s.open_ (0x18008 + 0x40 * q) = true → x.enable = true → x.flight = [] → bit w 31 = false →
       fld w 29 2 = fld (s.rd (0x18008 + 0x40 * q)) 29 2 → fld w 0 12 = fld (s.rd (0x18008 + 0x40 * q)) 0 12 →
       bit w 29 = false → s.waits = [] → After (.hostQCfg yw q w) s fun t =>
         t.hostQ q = { x with enable := false, stopping := true }) ∧
     (x.enable = true → s.hostQRx q = false → s.hostOpen = true → n ≠ x.tail → x.inFlight < 256 →
       (After (.txDescriptor q none img) s fun t =>
         (t.hostQ q).fault = true ∧ (t.hostQ q).enable = false ∧ (t.hostQ q).stopping = true) ∧
       (d.length = 32 → txDescOk d = false → x.flight = [] → nbit (byteAt d 25) 3 = false →
         After (.txDescriptor q (some d) img) s fun t =>
           (t.hostQ q).head = (x.head % x.depth + 1) % x.depth ∧ (t.hostQ q).flight = [] ∧
           Out.hostWrite (s.hostQBase q + 32 * (x.head % x.depth) + 16)
             ((d.drop 16).take 9 ++ leBytes 1 (byteAt d 25) ++ [5, 0, 0, 0, 0, 1]) ∈ t.out)) ∧
     (∀ b xs v, x.enable = true → s.hostQRx q = false → s.hostOpen = true → n ≠ x.tail → x.inFlight < 256 →
       d.length = 32 → txDescOk d = true → imageOk b = true → nbit (byteAt d 25) 2 = false →
       let r := s.hostRequest q n d b
       ((s.setHostQ q { x with flight := x.flight ++ [⟨n, .fetched, d, 0, 0⟩] }).addWait r).waitingSet [r.frame.route]
         r.frame r.launch r.stampReq r.tag r.entered = ((subOk, xs), v) →
       After (.txDescriptor q (some d) (some b)) s fun t =>
         t = { v with waits := v.waits.map fun y =>
           if y.id = r.id then { r with dests := xs, cells := cellsFor r.frame xs } else y }) ∧
     (x.enable = false → exec (.txDescriptor q (some d) img) s = .next s) ∧
     (∀ h, x.slot i = some h → h.phase = .reserved → s.hostOpen = true → d.length = 32 → rxDescOk d = true →
       exec (.rxSlotFetch q i (some d)) s = .next (s.setHostQ q
         { x with flight := x.flight.map fun y => if y.index = i then { y with raw := d, phase := .fetched } else y })) ∧
     (x.slot i = none → exec (.rxSlotFetch q i (some d)) s = .next s) ∧
     (x.stopping = true → x.inFlight = 0 → exec (.queueStopped q) s =
       .next (s.setHostQ q { x with stopping := false, head := 0, tail := 0, flight := [] })) ∧
     (x.stopping = false → exec (.queueStopped q) s = .next s))

/-! ### Ethernet ports -/

/-- Links and low power (R367 to R369, R386, R394): LINK_UP with its preemption, and with no effect unless the local
receiver status is OK, LINK_DOWN with what it discards, the three verify attempts, and LPI of either side with the
wake time of tw_tx. Pauses (R373, R389 to R391, R393): a received pause of each class by its quanta, with 0 ending
it, one in force left alone, one for an idle transmitter in force at once and any other waiting; a pause that the
port does not take counts as an unsupported control frame, one off the line as a frame dropped there (R374), and one
without link not at all; PAUSE_EFFECT, PAUSE_EXPIRY and the repeat. -/
def Obligations.LinksAndPauses : Prop :=
  (∀ (s : State) (p : Nat) (b : Bool),
     let x := s.port p
     let w := s.rd (macBase p + 0x28)
     (s.ethUsable p = true → x.link = false → After (.linkUp p true) s fun t =>
       PortSet p { x with link := true, wakeUntil := 0, preempt := bit w 31 && bit w 30, verifyTries := 0,
                          verifyFailed := false } s t ∧
       BportSet p { s.bport p with dValid := false, hold := false, holdLeft := 0, sync := none } s t ∧
       Raised (.mac p) 0 s t) ∧
     (s.ethUsable p = false ∨ x.link = true ∨ b = false → exec (.linkUp p b) s = .next s) ∧
     (x.link = true → x.queues = [] → x.launches = [] → x.tx = none → x.suspended = none → s.isSource p = false →
       After (.linkDown p) s fun t =>
         (t.port p).link = false ∧ (t.port p).preempt = false ∧ (t.port p).ctrl = [] ∧ (t.port p).ptp = none ∧
         (t.port p).pauses = [] ∧ (t.port p).xoffSent = false ∧ (t.bport p).sync = none ∧ Raised (.mac p) 0 s t ∧
         t.rd (macBase p + 0x158) = wd (satAdd (2 ^ 32 - 1) (s.rd (macBase p + 0x158)).toNat 1) ∧
         ∀ r, r ≠ p → t.port r = s.port r) ∧
     (x.link = false → exec (.linkDown p) s = .next s) ∧
     (x.link = true → bit w 31 = true → bit w 30 = false → x.preempt = false → x.verifyFailed = false →
       exec (.verifyAttempt p true) s = .next (s.setPort p { x with preempt := true }) ∧
       (x.verifyTries < 2 → exec (.verifyAttempt p false) s =
         .next (s.setPort p { x with verifyTries := x.verifyTries + 1 })) ∧
       (2 ≤ x.verifyTries → After (.verifyAttempt p false) s fun t =>
         PortSet p { x with verifyTries := 3, verifyFailed := true } s t ∧ Raised (.mac p) 4 s t)) ∧
     (x.link = false ∨ bit w 31 = false → exec (.verifyAttempt p b) s = .next s) ∧
     (x.link = true → exec (.lpiEnter p true) s = .next (s.setPort p { x with lpiRx := true })) ∧
     (x.link = true → s.rb (macBase p) 24 = true → x.silent = true → exec (.lpiEnter p false) s =
       .next (s.setPort p { x with lpiTx := true })) ∧
     (x.link = true → s.rb (macBase p) 24 = false ∨ x.silent = false → exec (.lpiEnter p false) s = .next s) ∧
     (exec (.lpiExit p true) s = .next (s.setPort p { x with lpiRx := false })) ∧
     (x.lpiTx = true → exec (.lpiExit p false) s = .next (s.setPort p
       { x with lpiTx := false, wakeUntil := s.beacon.raw + s.rf (macBase p + 0x14) 0 16 * 65536000 })) ∧
     (x.lpiTx = false → exec (.lpiExit p false) s = .next (s.setPort p x))) ∧
  (∀ (s : State) (p q k : Nat) (times : List Nat), k < 8 →
     let x := s.port p
     let cnt (i : Nat) (t : State) : Prop := t.rd (macBase p + 0x100 + 4 * i) =
       wd (satAdd (2 ^ 32 - 1) (s.rd (macBase p + 0x100 + 4 * i)).toNat 1)
     let taken (n : Nat) : Pause := if n = 0 then ⟨none, false⟩ else if (x.pause k).inForce then x.pause k
       else if x.tx.isNone then ⟨none, true⟩ else ⟨some n, false⟩
     (x.link = true → s.ethOffLine = false →
       (s.rb (macBase p) 26 = false → s.rb (macBase p) 27 = true → After (.pauseReceived p q) s fun t =>
         (t.port p).pause k = taken q ∧ cnt 6 t) ∧
       (s.rb (macBase p) 26 = true ∨ s.rb (macBase p) 27 = false → exec (.pauseReceived p q) s =
         .next (s.cnt (macBase p + 0x11C))) ∧
       (s.rb (macBase p) 26 = true → After (.pfcReceived p q times) s fun t =>
         (t.port p).pause k = (if nbit q k then taken (times.getD k 0) else x.pause k) ∧ cnt 6 t) ∧
       (s.rb (macBase p) 26 = false → exec (.pfcReceived p q times) s = .next (s.cnt (macBase p + 0x11C)))) ∧
     (x.link = true → s.ethOffLine = true →
       exec (.pauseReceived p q) s = .next (s.cnt (macBase p + 0x120)) ∧
       exec (.pfcReceived p q times) s = .next (s.cnt (macBase p + 0x120))) ∧
     (x.link = false → exec (.pauseReceived p q) s = .next s ∧ exec (.pfcReceived p q times) s = .next s) ∧
     (x.tx = none → After (.pauseEffect p) s fun t =>
       (t.port p).pause k = if (x.pause k).waiting.isSome then ⟨none, true⟩ else x.pause k) ∧
     (∀ y, x.tx = some y → x.preempt = false → exec (.pauseEffect p) s = .next s) ∧
     (After (.pauseExpiry p k) s fun t =>
       (t.port p).pause k = (if (x.pause k).inForce then { x.pause k with inForce := false } else x.pause k) ∧
       ∀ j, j ≠ k → (t.port p).pause j = x.pause j) ∧
     (x.xoffSent = true → s.rb (macBase p) 25 = true → exec (.pauseTxRepeat p) s =
       .next (s.setPort p { x with ctrl := x.ctrl ++ [true] })) ∧
     (x.xoffSent = false ∨ s.rb (macBase p) 25 = false → exec (.pauseTxRepeat p) s = .next s))

/-- Gates (R398, R400, R401): a boundary brings the gate states of the present moment in force; a commit copies the
admin list for its change time; the switch makes it operational, with GATE_CHANGED. -/
def Obligations.Gates : Prop :=
  ∀ (s : State) (p : Nat) (yw : Bool) (w : Word), p < 24 →
    let b := macBase p
    let x := s.port p
    (After (.gateBoundary p) s fun t => (t.port p).gates = s.gatesAt p s.ns ∧ (t.port p).creditAt = s.beacon.raw ∧
      ∀ r, r ≠ p → t.port r = s.port r) ∧
    (s.open_ (b + 0x40) = true → bit w 29 = true → bit w 30 = false → 1 ≤ fld w 0 8 → fld w 0 8 ≤ 128 →
      After (.gateCommit yw p w) s fun t =>
        let base := nsOfStamp ((s.rd (b + 0x44)).toNat + 2 ^ 32 * (s.rd (b + 0x48)).toNat)
        let cycle := s.rf (b + 0x4C) 0 30
        (t.port p).admin = some ⟨(List.range (fld w 0 8)).map fun i =>
            (s.rf (b + 0x800 + 4 * i) 24 8, s.rf (b + 0x800 + 4 * i) 0 24),
          base + (s.ns - base + (cycle - 1)) / cycle * cycle, cycle, s.rf (b + 0x50) 0 30⟩ ∧
        (t.port p).oper = x.oper) ∧
    (∀ g, x.admin = some g → g.base ≤ s.ns → x.queues = [] → x.ptp = none → After (.gateSwitch p) s fun t =>
      (t.port p).oper = some g ∧ (t.port p).admin = none ∧ Raised (.mac p) 3 s t) ∧
    (∀ g, x.admin = some g → s.ns < g.base → exec (.gateSwitch p) s = .next s) ∧
    (x.admin = none → exec (.gateSwitch p) s = .next s)

/-- Frames of a port (R372, R373, R380, R384, R404, R441): a frame in error is counted by the first check of Table
10-5 it fails and goes no further; a pause frame acts as one; the transmitter selects a control frame first; a due
launch starts; a frame that ends is counted, sent and stamped. -/
def Obligations.PortFrames : Prop :=
  ∀ (s : State) (picks : List Nat) (p n age : Nat) (phy smd fcs : Bool) (b : List Byte),
    let x := s.port p
    let u := s.cnt (macBase p + 0x154) n
    let cnt (i : Nat) : Nat := macBase p + 0x100 + 4 * i
    (x.link = false → exec (.ethFrameReceived picks p phy smd fcs n age b) s = .next s) ∧
    (x.link = true → s.ethOffLine = false →
      exec (.ethFrameReceived picks p true smd fcs n age b) s = .next (u.cnt (cnt 1)) ∧
      exec (.ethFrameReceived picks p false true fcs n age b) s = .next (u.cnt (cnt 2)) ∧
      (s.rf (macBase p) 12 12 < b.length + 4 →
        exec (.ethFrameReceived picks p false false fcs n age b) s = .next (u.cnt (cnt 3))) ∧
      (b.length + 4 ≤ s.rf (macBase p) 12 12 → b.length < 60 →
        exec (.ethFrameReceived picks p false false fcs n age b) s = .next (u.cnt (cnt 4))) ∧
      (b.length + 4 ≤ s.rf (macBase p) 12 12 → 60 ≤ b.length →
        exec (.ethFrameReceived picks p false false true n age b) s = .next (u.cnt (cnt 5)) ∧
        (beAt b 12 2 = 0x8808 → beAt b 14 2 = 1 → exec (.ethFrameReceived picks p false false false n age b) s =
          exec (.pauseReceived p (beAt b 16 2)) u) ∧
        (s.ptpConsumes p b = true → beAt b 12 2 ≠ 0x8808 →
          exec (.ethFrameReceived picks p false false false n age b) s = .next (u.cnt (cnt 0))))) ∧
    (x.link = true → s.ethOffLine = true →
      exec (.ethFrameReceived picks p true smd fcs n age b) s = .next (u.cnt (cnt 8))) ∧
    (∀ q rest ecc, s.txReady p = true → s.ethOffLine = false → x.launches = [] →
      x.tx = none → x.ctrl = q :: rest → After (.ethFrameStart p ecc) s fun t =>
        (t.port p).ctrl = rest ∧ (t.port p).tx = some ⟨.control (s.rb (macBase p) 26)
            (if s.rb (macBase p) 26 = true then s.rf (macBase p + 0x20) 16 8 else 0)
            (if q then s.rf (macBase p + 0x20) 0 16 else 0), ctrlEntry, false, 0⟩ ∧
        ∀ r, r ≠ p → t.port r = s.port r) ∧
    (∀ ecc, x.link = false ∨ x.retired = true ∨ x.lpiTx = true ∨ s.beacon.raw < x.wakeUntil →
      exec (.ethFrameStart p ecc) s = .next s) ∧
    (∀ e, s.txReady p = true → s.ethOffLine = false → x.launches = [e] →
      x.tx = none → e.launch = some s.time → e.late = false → (x.pause e.cls).inForce = false → e.acf = none →
      After (.launchDue p .clean) s fun t =>
        (t.port p).launches = [] ∧ (t.port p).launchReserved = x.launchReserved + 1 ∧
        (t.port p).tx = some ⟨.launch false, e, false, 0⟩ ∧ ∀ r, r ≠ p → t.port r = s.port r) ∧
    (∀ y pfc classes quanta, x.tx = some y → y.kind = .control pfc classes quanta →
      After (.ethFrameSent p age false) s fun t =>
        (t.port p).tx = none ∧ t.rd (cnt 11) = wd (satAdd (2 ^ 32 - 1) (s.rd (cnt 11)).toNat 1) ∧
        t.out = .pauseFrame p (ofLe (s.macAddr p)) pfc classes quanta :: s.out) ∧
    (∀ y, x.tx = some y → y.kind = .queued → y.cuts = 0 → y.entry.record = none →
      y.entry.stampReq = true → (s.bport p).tsq.length < 64 → After (.ethFrameSent p age false) s fun t =>
        (t.port p).tx = none ∧ t.rd (cnt 9) = wd (satAdd (2 ^ 32 - 1) (s.rd (cnt 9)).toNat 1) ∧
        t.out = .ethFrame p (s.entryOctets p y.entry) :: s.out ∧
        (t.bport p).tsq = (s.bport p).tsq ++
          [⟨s.stampAgo age (-s.calEff (0x400 + 8 * p + s.portSpeed p)), y.entry.tag, 0⟩]) ∧
    (x.tx = none → exec (.ethFrameSent p age false) s = .next s)

/-! ### The Beacon time base -/

/-- Rate, steps, restart of the source's state and readings (R414, R415, R420, R421, R424 to R426, R443, R448, R452):
T is continuous across a change of corr and moves by the whole of a step, backward in TEST alone, here with both
output pins off; a change of the source starts ACQUIRE or FREE, a save joins Keeper's queue, CELL_PPS_OUT rises once
for a second that has come, and the stamp queue's read. -/
def Obligations.BeaconRegisters : Prop :=
  ∀ (s : State) (yw : Bool) (w lo : Word) (p : Nat),
    let link := b2n yw
    let staged (off : Nat) : Prop := s.stage.get (fun _ => none) (latchKey link off) = some lo
    (s.open_ 0x8030 = true → After (.bcnRate yw false w) s fun t =>
      t.stage.get (fun _ => none) (latchKey link 0x8030) = some w ∧ t = { s with stage := t.stage }) ∧
    (s.open_ 0x8034 = true → s.mode.setup = true → staged 0x8030 →
      (let c := toSigned 40 (lo.toNat + 2 ^ 32 * w.toNat)
       c.natAbs ≤ 2 ^ 37 → After (.bcnRate yw true w) s fun t =>
         t.beacon = { s.beacon with aT := s.beacon.timeAt s.beacon.raw, aRaw := s.beacon.raw, corr := c, integ := c,
                                    past := t.beacon.past, written := t.beacon.written } ∧ t.time = s.time ∧
         t.stage.get (fun _ => none) (latchKey link 0x8030) = none)) ∧
    (s.open_ 0x8034 = true → s.mode.setup = false → exec (.bcnRate yw true w) s = .next (s.mgReject 0x8034)) ∧
    (s.open_ 0x803C = true → s.mode.setup = true → staged 0x8038 → s.timelines = [] →
      (let ns := toSigned 48 (lo.toNat + 2 ^ 32 * w.toNat)
       (0 ≤ ns ∨ s.mode = .test → s.rb 0x8020 22 = false → s.rb 0x8020 21 = false → s.beacon.syncHigh = false →
         After (.bcnAdj yw true w) s fun t =>
           t.beacon = { s.beacon with aT := s.beacon.aT + ns * 65536, past := t.beacon.past,
                                      written := t.beacon.written } ∧
           t.rd 0x8060 = wd (satAdd (2 ^ 32 - 1) (s.rd 0x8060).toNat 1)) ∧
       (ns < 0 → s.mode ≠ .test → After (.bcnAdj yw true w) s fun t =>
         t.beacon = s.beacon ∧ t.rd 0x50 = 1))) ∧
    (s.open_ 0x8020 = true → fld w 29 3 = 3 → fld w 24 5 < 24 → fld w 0 10 = 100 → s.bcnSource = 0 →
      (∀ q < 24, s.bcnRole q ≠ 1) → After (.bcnCfg yw w) s fun t =>
        t.bcnSource = 3 ∧ t.srcPort = fld w 24 5 ∧
        t.beacon = { s.beacon with state := .acquire, ppsLast := none, ppsMissed := 0 }) ∧
    (s.open_ 0x802C = true → s.mode.save = true → bit w 31 = true → s.keeper.lifecycle = .deployed →
      After (.bcnSave yw w) s fun t =>
        t.beacon = { s.beacon with saveFailed := false } ∧
        t.keeper.ops = s.keeper.ops ++ [.beacon (bcnStored.map fun o => (o, s.rd o))]) ∧
    (s.open_ 0x802C = true → s.mode.save = true → bit w 31 = true → s.keeper.lifecycle = .blank →
      exec (.bcnSave yw w) s = .next { s with beacon := { s.beacon with saveFailed := true } }) ∧
    (s.rb 0x8020 22 = true → s.beacon.running = true → s.rb 0x8020 20 = false → s.beacon.ppsNext ≤ s.beacon.second →
      exec .ppsOut s = .next { s with out := .pin 0 true :: s.out, beacon := { s.beacon with
        ppsNext := s.beacon.second + 1,
        ppsUntil := some (s.beacon.raw + s.rf 0x8020 0 10 * 10 ^ 6 * 2 ^ 16) } }) ∧
    (s.rb 0x8020 22 = false ∨ s.beacon.second < s.beacon.ppsNext → exec .ppsOut s = .next s) ∧
    (∀ r rs, p < 24 → s.hasCluster (p / 6) = true → s.open_ (0x8410 + 0x40 * p) = true → (s.bport p).tsq = r :: rs →
      After (.tsqRead false p) s fun t =>
        t.bport p = { s.bport p with tsq := rs } ∧
        t.out = .hostRead 0 (0x8410 + 0x40 * p) (wd (2 ^ 31 + r.outcome % 16)) :: s.out ∧
        t.latch.get (fun _ => none) (latchKey 0 (0x8414 + 0x40 * p)) = some (wd (r.tag % 2 ^ 32)) ∧
        t.latch.get (fun _ => none) (latchKey 0 (0x8418 + 0x40 * p)) = some (wd (r.stamp % 2 ^ 32)) ∧
        t.latch.get (fun _ => none) (latchKey 0 (0x841C + 0x40 * p)) = some (wd (r.stamp / 2 ^ 32 % 2 ^ 32)))

/-- The servo and path delays (R427 to R433, R435, R444 to R446, R451): a Sync of the source is a measurement, or
waits for its Follow_Up; the first lock steps a slow Beacon forward and locks, from an edge of CELL_PPS_IN to the next
whole second, here with both output pins off; a refused measurement leaves T, corr and the integral; the loss of the
source holds the integral; a Follow_Up completes its Sync, which locks or moves the servo by R430; the first path delay is taken, a jump holds off, and the hold-off ends with the latest. An
edge of the other polarity, or less than 0.5 s after the last, is ignored. -/
def Obligations.ServoAndDelays : Prop :=
  ∀ (s : State) (p seq origin m age : Nat) (corr log f : Int) (tlv : List Byte) (rising : Bool),
    let x := s.bport p
    let b := s.beacon
    let t2 := s.ingressNs p age
    let quiet : Prop := s.timelines = [] ∧ s.rb 0x8020 22 = false ∧ s.rb 0x8020 21 = false ∧ b.syncHigh = false
    let off (t2 : Nat) (c : Int) : Int :=
      (t2 * 2 ^ 16 : Nat) - (origin * 2 ^ 16 : Nat) - (x.delay * 2 ^ 8 : Nat) - c - s.calEff (0x500 + p) * 2 ^ 8
    (s.isSource p = true → x.hold = false → exec (.ptpSyncReceived p (s.bcnDomain p) seq true origin corr log age) s =
      .next (s.setBport p { x with sync := some ⟨t2, corr, seq, log⟩, syncLog := log })) ∧
    (s.isSource p = false → exec (.ptpSyncReceived p (s.bcnDomain p) seq true origin corr log age) s = .next s) ∧
    (s.isSource p = true → x.hold = false → x.dValid = true → b.state = .acquire → b.stepAvail = true →
      0 ≤ off t2 corr → After (.ptpSyncReceived p (s.bcnDomain p) seq false origin corr log age) s fun t =>
        t.beacon = { b with stepAvail := false, state := .locked } ∧ Raised .bcn 0 s t ∧
        t.rd 0x8044 = wd (offsetWord (off t2 corr)) ∧ t.bport p = { x with sync := none, syncLog := log }) ∧
    (s.isSource p = true → x.hold = false → x.dValid = true → b.state = .acquire → b.stepAvail = true →
      off t2 corr < 0 → quiet →
      After (.ptpSyncReceived p (s.bcnDomain p) seq false origin corr log age) s fun t =>
        t.beacon = { b with aT := b.aT - off t2 corr, stepAvail := false, state := .locked, past := t.beacon.past } ∧
        t.rb Blk.bcn.evtOff 0 = true ∧ t.rb Blk.bcn.evtOff 1 = true) ∧
    (∀ w, s.isSource p = true → x.sync = some w → w.seq = seq → x.dValid = true → x.hold = false →
      b.state = .locked → b.refusing = false → s.rf 0x8024 0 30 ≠ 0 →
      s.rf 0x8024 0 30 * 2 ^ 16 < (off w.t2 (w.corrField + corr)).natAbs → tlv = [] →
      After (.ptpFollowUpReceived p (s.bcnDomain p) seq origin corr tlv) s fun t =>
        t.beacon = { b with refusing := true } ∧ Raised .bcn 2 s t ∧ t.bport p = { x with sync := none }) ∧
    (∀ w, s.isSource p = true → x.sync = some w → w.seq = seq → x.dValid = true → x.hold = false → tlv = [] →
      let o := off w.t2 (w.corrField + corr)
      (b.state = .acquire → b.stepAvail = true → 0 ≤ o →
        After (.ptpFollowUpReceived p (s.bcnDomain p) seq origin corr tlv) s fun t =>
          t.beacon = { b with stepAvail := false, state := .locked } ∧ Raised .bcn 0 s t ∧
          t.rd 0x8044 = wd (offsetWord o) ∧ t.bport p = { x with sync := none }) ∧
      (b.state = .locked → b.written = none → s.rf 0x8024 0 30 = 0 ∨ o.natAbs ≤ s.rf 0x8024 0 30 * 2 ^ 16 →
        After (.ptpFollowUpReceived p (s.bcnDomain p) seq origin corr tlv) s fun t =>
          let e := servoError o w.logInterval
          let i := satInt (2 ^ 37) (b.integral - e / (2 ^ s.rf 0x8028 0 4 : Nat))
          t.beacon.integ = i ∧ t.beacon.corr = satInt (2 ^ 37) (i - e / (2 ^ s.rf 0x8028 4 4 : Nat)) ∧
          t.beacon.state = .locked ∧ t.beacon.refusing = false ∧ t.rd 0x8044 = wd (offsetWord o) ∧
          t.bport p = { x with sync := none })) ∧
    (∀ w, s.isSource p = true → x.sync = some w → w.seq ≠ seq →
      exec (.ptpFollowUpReceived p (s.bcnDomain p) seq origin corr tlv) s = .next s) ∧
    (b.state = .locked → b.written = none → After .sourceLost s fun t =>
      t.beacon = { b with aT := b.timeAt b.raw, aRaw := b.raw, corr := b.integ, state := .holdover,
                          past := t.beacon.past } ∧ t.time = s.time ∧
      Raised .bcn 3 s t ∧ t.rd 0x8068 = wd (satAdd (2 ^ 32 - 1) (s.rd 0x8068).toNat 1)) ∧
    (b.state ≠ .locked → exec .sourceLost s = .next s) ∧
    (∀ c, c = .pdelayRespReceived p (s.bcnDomain p) m ∧ s.peerDelay p = true ∨
        c = .delayRespReceived p (s.bcnDomain p) m ∧ s.bcnRole p = 1 ∧ s.bcnProfile p = 1 →
      (x.dValid = false → exec c s = .next (s.setBport p
        { x with delay := m, dValid := true, latest := m, corrAt := b.corr, integAt := b.integ })) ∧
      (x.dValid = true → x.hold = true → exec c s = .next (s.setBport p { x with latest := m })) ∧
      (x.dValid = true → x.hold = false → s.isSource p = false →
        s.rf (0x8404 + 0x40 * p) 0 16 * 256 < ((m : Int) - x.delay).natAbs → After c s fun t =>
          BportSet p { x with hold := true, holdLeft := s.rf (0x8404 + 0x40 * p) 16 8, latest := m,
                              holdNext := b.raw + 10 ^ 9 * 2 ^ 16 } s t ∧
          Raised .bcn 4 s t ∧ t.beacon = b)) ∧
    (x.hold = true → exec (.holdoffEnd p) s = .next (s.setBport p { x with
      hold := false, holdLeft := 0, delay := x.latest, corrAt := b.corr, integAt := b.integ })) ∧
    (x.hold = false → exec (.holdoffEnd p) s = .next (s.setBport p x)) ∧
    (s.bcnSource = 2 ∨ s.bcnSource = 3 → rising ≠ s.rb 0x8020 23 → b.ppsLast = none → b.state = .acquire →
      b.stepAvail = true → quiet → After (.ppsInEdge ⟨rising, age⟩ f) s fun t =>
        let n := s.ppsStamp age % 10 ^ 9
        t.beacon = { b with aT := b.aT + ((10 ^ 9 - n) % 10 ^ 9 * 2 ^ 16 : Nat), stepAvail := false, state := .locked,
                            ppsLast := some (b.raw / 2 ^ 16 - age), ppsMissed := 0, past := t.beacon.past } ∧
        t.rb Blk.bcn.evtOff 0 = true ∧ t.rb Blk.bcn.evtOff 1 = true) ∧
    (s.bcnSource ≠ 2 → s.bcnSource ≠ 3 → exec (.ppsInEdge ⟨rising, age⟩ f) s = .next s) ∧
    (rising = s.rb 0x8020 23 → exec (.ppsInEdge ⟨rising, age⟩ f) s = .next s) ∧
    (∀ l, b.ppsLast = some l → b.raw / 2 ^ 16 - age < l + 500000000 → exec (.ppsInEdge ⟨rising, age⟩ f) s = .next s)

/-- Messages of a port with its link up and its entry for them free, in a class whose gate never closes (R434, R437,
R439): a MASTER sends Sync, the delay mechanism its requests, and both answer; a port of another role does not, and
nothing is queued without the link. -/
def Obligations.PtpMessages : Prop :=
  ∀ (s : State) (p seq age : Nat) (corr : Int) (who : List Byte),
    let x := s.port p
    let queued (ty : Nat) (t : State) : Prop := ∃ e, (t.port p).ptp = some e ∧
      byteAt e.octets 14 % 16 = ty ∧ beAt e.octets 12 2 = 0x88F7 ∧ byteAt e.octets 18 = s.bcnDomain p ∧
      e.octets.take 6 = [0x01, 0x80, 0xC2, 0x00, 0x00, 0x0E] ∧ e.cls = s.rf (0x8400 + 0x40 * p) 24 3
    let free : Prop := x.ptp = none ∧ s.longest p (s.rf (0x8400 + 0x40 * p) 24 3) = none
    (s.bcnRole p = 2 → x.link = true → x.retired = false → free → After (.syncTx p) s fun t =>
      queued 0 t ∧ (t.port p).syncSeq = (x.syncSeq + 1) % 65536) ∧
    (s.bcnRole p ≠ 2 → exec (.syncTx p) s = .next s) ∧
    (s.bcnRole p ≠ 0 → s.bcnProfile p ≠ 1 → x.link = true → x.retired = false → free →
      After (.delayRequestTx p) s fun t =>
      queued 2 t ∧ (t.port p).delaySeq = (x.delaySeq + 1) % 65536) ∧
    (s.bcnRole p = 1 → s.bcnProfile p = 1 → x.link = true → x.retired = false → free →
      After (.delayRequestTx p) s fun t =>
      queued 1 t ∧ (t.port p).delaySeq = (x.delaySeq + 1) % 65536) ∧
    (s.bcnRole p = 0 → exec (.delayRequestTx p) s = .next s) ∧
    (s.peerDelay p = true → x.link = true → x.retired = false → free →
      After (.pdelayReqReceived p (s.bcnDomain p) seq corr age who) s fun t =>
        queued 3 t ∧ t = s.setPort p (t.port p)) ∧
    (s.bcnRole p = 2 → s.bcnProfile p = 1 → x.link = true → x.retired = false → free →
      After (.delayReqReceived p (s.bcnDomain p) seq corr age who) s fun t =>
        queued 9 t ∧ t = s.setPort p (t.port p)) ∧
    (∀ d, d ≠ s.bcnDomain p → exec (.pdelayReqReceived p d seq corr age who) s = .next s ∧
      exec (.delayReqReceived p d seq corr age who) s = .next s) ∧
    (x.link = false → exec (.pdelayReqReceived p (s.bcnDomain p) seq corr age who) s = .next s)

/-! ### Cycle, filters and check blocks -/

/-- Timelines (R455, R456, R458, R464, R471, R473, R475, R476, R477, R481, R516): the first cycle of a stopped
timeline starts at the next nominal start, at the island edge nearest to it; windows start and end at their placed
times and not before, one later than its nominal time counting as late; an EXCLUSIVE window triggers its descriptor
once, from 2 µs before it, a reference gives a running follower its phase, and a backup takes over once its delay is
over. -/
def Obligations.CycleAndWindows : Prop :=
  ∀ (s : State) (n age : Nat) (c : CycleCfg) (x : Schedule), s.cycle = some c → s.sched n = some x → n < 40 →
    let t := s.tl n
    let k := c.index s.ns
    (s.tlMayRun n = true → t.active = false → c.phase ≤ s.ns → s.gridK = some k → s.ns < c.nominal k + 7 →
      After (.cycleStart n) s fun u =>
      (u.tl n).active = true ∧ (u.tl n).k = k ∧ (u.tl n).start = c.nominal k ∧ (u.tl n).phase = 0 ∧
      (∀ m, m ≠ n → u.tl m = s.tl m)) ∧
    (s.tlMayRun n = true → t.active = false → s.gridK = some k → c.nominal k + 7 ≤ s.ns →
      exec (.cycleStart n) s = .next s) ∧
    (s.tlMayRun n = false → s.gridK = some k → exec (.cycleStart n) s = .next s) ∧
    (∀ w rest, t.active = true → t.current = none → t.rest = w :: rest → w.win.type = .arbitration → w.index ≠ 0xFF →
      w.index ∉ t.lateSeen → t.exempt = false → w.start ≤ s.ns → c.nominal t.k + w.win.offset < w.start →
      t.lateRaised = false → After (.windowStart n) s fun u =>
        (u.tl n).current = some w ∧ (u.tl n).lateSeen = w.index :: t.lateSeen ∧ (u.tl n).rest = rest ∧ (u.tl n).lateRaised = true ∧
        Raised .cyc 0 s u ∧
        u.rd (0xA408 + 0x20 * n) = wd (satAdd (2 ^ 32 - 1) (s.rd (0xA408 + 0x20 * n)).toNat 1)) ∧
    (∀ w rest, t.active = true → t.current = none → t.rest = w :: rest → w.win.type = .arbitration → w.index = 0xFF →
      w.start ≤ s.ns → exec (.windowStart n) s =
        .next (s.setTl n { t with current := some w, rest := rest, taskOpen := false })) ∧
    (∀ w rest, t.rest = w :: rest → s.ns < w.start → exec (.windowStart n) s = .next s) ∧
    (∀ w, t.current = some w → s.ns < w.stop → exec (.windowEnd n) s = .next s) ∧
    (t.active = false → exec (.windowStart n) s = .next s ∧ exec (.windowEnd n) s = .next s) ∧
    (∀ w, t.active = true → t.current = some w → w.win.type = .arbitration → w.index = 0xFF →
      (s.lane n).ctl = .idle → w.stop ≤ s.ns → s.ns < w.stop + 7 →
      exec (.windowEnd n) s = .next (s.setTl n { t with current := none, notBefore := w.stop, taskOpen := false })) ∧
    (∀ w, t.active = true → t.current = some w → (s.lane n).ctl = .receiving →
      exec (.windowEnd n) s = .next s) ∧
    (∀ w, t.active = true → t.rest = [w] → w.win.type = .exclusive → w.win.ref ≠ 0xFFFF → t.triggered = [] →
      w.start ≤ s.ns + 2000 → s.outage n = false → s.blocked n = false → s.isFollower n = false →
      (s.desc w.win.ref).kind = .txStatic → (s.desc w.win.ref).state = .idle → (s.desc w.win.ref).bindIndex = n →
      s.reconf (n / 10) = false → s.takenOver n = false →
      After (.exclusiveTrigger n w.index) s fun u =>
        (u.tl n).triggered = [w.index] ∧ (u.desc w.win.ref).state = .ready ∧
        (u.desc w.win.ref).job.launch = some (w.start * 2 ^ 16) ∧ (u.desc w.win.ref).job.window = some w.win ∧
        (u.lane n).ready = (s.lane n).ready ++ [w.win.ref]) ∧
    (∀ i, t.rest = [] → exec (.exclusiveTrigger n i) s = .next s) ∧
    (s.tlMayRun n = true → t.active = true → x.role = .follower → t.acting = false →
      (let sof := s.sofNs n age
       let kk := (sof + c.period / 2 - c.phase) / c.period
       let phi : Int := (sof : Int) - c.nominal kk
       phi.natAbs ≤ x.followTol → After (.referenceReceived n x.refId age) s fun u =>
         (u.tl n).active = true ∧ (u.tl n).k = kk ∧ (u.tl n).start = sof ∧ (u.tl n).phase = phi ∧
         (u.tl n).synced = true ∧ (u.tl n).refSeen = true)) ∧
    (∀ i, i / 8 ≠ x.refId / 8 → exec (.referenceReceived n i age) s = .next s) ∧
    (t.active = true → x.role = .backup → t.acting = false → t.refSeen = false →
      c.nominal t.k + x.backupDelay ≤ s.ns → After (.backupTakeover n) s fun u =>
      (u.tl n).acting = true ∧ (u.tl n).start = c.nominal t.k + x.backupDelay ∧
      (u.tl n).phase = x.backupDelay ∧ u.rb Blk.cyc.evtOff 4 = true) ∧
    (t.active = false ∨ x.role ≠ .backup → exec (.backupTakeover n) s = .next s) ∧
    exec .beaconMillisecond s = .next s ∧
    (∀ v : State, v.cycle = none → After .beaconMillisecond v fun u =>
      u.gwLate = [] ∧ u.gwDown = [] ∧ (∀ p, (u.port p).lateRaised = false) ∧ (∀ m, (u.tl m).lateRaised = false) ∧
      ∀ m < 40, ∀ y ∈ (u.lane m).slots, y.clashRun = 0)

/-- The run-time operations of a filter slice (R324 to R326, Table 8-16): each with what it needs batches its change, or
does it at once for the masked shadow bank, with status OK; COMMIT applies the batch and flips the banks, and
ABANDON drops it. Check blocks (R493, R497): QPOP removes the head of the ring, RESYNC forgets the alive counter and
CLEAR zeroes the counters of a loaded context; on a context that is not loaded they are rejected writes. -/
def Obligations.FiltersAndCheckBlocks : Prop :=
  (∀ (s : State) (yw sh flip : Bool) (c i : Nat), s.open_ (fltBase c + 0x80) = true → c < 4 → s.mode.live = true →
     s.reconf c = false → (s.slice c).busy = false → i < 28672 →
     let x := s.slice c
     let f := x.future
     let key := ofLe (s.stageBytes c 0 4)
     let slot (u : State) : Prop := ∀ d, d ≠ c → u.slice d = s.slice d
     (∀ e, x.slot i = some e → e.key < 2 ^ 128 → After (.readExact yw c i) s fun u =>
       ofLe (u.stageBytes c 0 4) = e.key ∧ u.stageBytes c 8 4 = e.act.bytes ∧ (u.slice c).status = 0 ∧ slot u) ∧
     (x.slot i = none → After (.readExact yw c i) s fun u => ofLe (u.stageBytes c 0 4) = 0) ∧
     (∀ e, i < 4096 → (x.bank (x.activeBank != sh)).get (fun _ => none) i = some e → e.value < 2 ^ 128 →
       After (.readMasked yw c sh i) s fun u =>
         ofLe (u.stageBytes c 0 4) = e.value ∧ u.stageWord c 12 = 2 ^ 17 + 2 ^ 16 * b2n e.post ∧
         (u.slice c).status = 0 ∧ slot u) ∧
     (x.batch.length < 32 →
       (∀ e, isCandidate x.seed key i = true → f.get (fun _ => none) i = none →
         ({ x with exact := f } : Slice).find key = none → s.stagedExact c = some e →
         After (.addExact yw c i) s fun u =>
           u.slice c = { x with batch := x.batch ++ [.add i e], status := 0 } ∧ slot u) ∧
       (∀ e n, f.get (fun _ => none) i = some e → e.key = key → s.stagedExact c = some n →
         After (.setExact yw c i) s fun u =>
           u.slice c = { x with batch := x.batch ++ [.set i n.act], status := 0 } ∧ slot u) ∧
       (∀ e, f.get (fun _ => none) i = some e → After (.delExact yw c i) s fun u =>
         u.slice c = { x with batch := x.batch ++ [.del i], status := 0 } ∧ slot u) ∧
       (∀ e, f.get (fun _ => none) i = some e →
         (let dst := nfld (s.stageWord c 12) 0 16
          dst < 28672 → isCandidate x.seed e.key dst = true → f.get (fun _ => none) dst = none →
          After (.moveExact yw c i) s fun u =>
            u.slice c = { x with batch := x.batch ++ [.move i dst], status := 0 } ∧ slot u))) ∧
     (f.get (fun _ => none) i = none → After (.delExact yw c i) s fun u =>
       u.slice c = { x with status := 5 } ∧ slot u ∧ u.rb (Blk.flt c).evtOff 2 = true) ∧
     (i < 4096 → nbit (s.stageWord c 12) 17 = false → After (.writeShadow yw c i) s fun u =>
       ((u.slice c).bank !x.activeBank).get (fun _ => none) i = none ∧
       (u.slice c).bank x.activeBank = x.bank x.activeBank ∧ (u.slice c).status = 0 ∧ slot u) ∧
     (∀ e, i < 4096 → nbit (s.stageWord c 12) 17 = true → s.stagedMasked c = some e →
       After (.writeShadow yw c i) s fun u =>
         ((u.slice c).bank !x.activeBank).get (fun _ => none) i = some e ∧
         (u.slice c).bank x.activeBank = x.bank x.activeBank ∧ (u.slice c).status = 0 ∧ slot u) ∧
     (After (.copyToShadow yw c) s fun u => u.slice c = { x with busy := true, status := 0 } ∧ slot u) ∧
     (After (.filterCommit yw c flip) s fun u =>
       u.slice c = { x with exact := f, batch := [], activeBank := x.activeBank != flip, status := 0 } ∧ slot u) ∧
     (After (.abandon yw c) s fun u => u.slice c = { x with batch := [], status := 0 } ∧ slot u) ∧
     exec (.copyToShadowDone c) s = .next s ∧
     (∀ v : State, (v.slice c).busy = true → After (.copyToShadowDone c) v fun u =>
       (u.slice c).busy = false ∧ (u.slice c).status = 0 ∧
       ∀ b, (u.slice c).bank b = (v.slice c).bank (v.slice c).activeBank)) ∧
  (∀ (s : State) (yw : Bool) (c i : Nat), i < 32768 → s.mode.live = true → c < 4 → s.hasCluster c = true →
     (∀ h rest, (s.ring c).held = h :: rest → exec (.quarantinePop yw c) s = .next (s.setRing c
       { head := ((s.ring c).head + 1) % 64, held := rest, fullRaised := false })) ∧
     ((s.ring c).held = [] → exec (.quarantinePop yw c) s = .next s) ∧
     (∀ x, s.ctx i = some x →
       exec (.resync yw i) s = .next (s.setCtx i (some { x with seen := false })) ∧
       exec (.clear yw i) s = .next (s.setCtx i (some
         { x with checkOk := 0, checkFail := 0, aliveRepeat := 0, skipLost := 0 }))) ∧
     (s.ctx i = none → exec (.resync yw i) s = .next (s.encReject 0xC000) ∧
       exec (.clear yw i) s = .next (s.encReject 0xC000)))

/-! ### Engines, tiles and the Yewirak link -/

/-- Restarts and tiles (R518, R522, R523, R527, R711, R712): a restart runs the engine from its entry with memories
set up anew and its ungranted submissions withdrawn; a faulty engine takes its cluster's spare at once and a worn one
waits for a checkpoint or the time limit; a tile's frame goes the way of a line frame, one that is not taken, or
dropped, counts and is reported to the logic, and its signal reaches every running engine of the cluster. -/
def Obligations.EnginesAndTiles : Prop :=
  ∀ (s : State) (yw : Bool) (g c k : Nat) (m : Image) (r : Report) (d : List Byte) (picks : List Nat),
    let e := s.eng g
    let entry := if m.restartEntry = 0 then m.entry else m.restartEntry
    (g < 32 → s.open_ (engBase g) = true → s.mode.live = true → s.engineMayRun g = true → e.image = some m →
      e.state ≠ .unused → e.state ≠ .reset → e.retired = false → s.faultWaits (0x1000 + g) = false →
      fetchable entry = true → After (.engineRestart yw g) s fun t =>
        (t.eng g).state = .running ∧ (t.eng g).cause = .host ∧ (t.eng g).dbgHalt = false ∧ (t.eng g).subs = [] ∧
        (t.cpu g).pc = entry ∧ t.x g 0 = wd m.paramAddr ∧ t.x g 1 = wd m.params.length ∧ t.x g 2 = 3 ∧
        t.x g 15 = 0x10010000 ∧ (t.eng g).imem = bytesTbl 0 m.code ∧
        (∀ w ∈ t.waits, w.engine ≠ some g) ∧ t.rb (Blk.eng g).evtOff 1 = true) ∧
    (g < 32 → s.open_ (engBase g) = true → s.mode.live = true → e.state = .unused →
      exec (.engineRestart yw g) s = .next s) ∧
    (g < 32 → r.unit = 0x1000 + g → s.health.due = [r] → s.health.unrecorded = [] → s.health.pends = [] →
      s.reconf (g / 8) = false → s.mode ≠ .sleep → s.engSpareFree (g / 8) = true → e.image = none →
      (r.cause = 2 → After (.engineSubstitution g false) s fun t =>
        (t.eng (32 + g / 8)).serving = some g ∧ (t.eng g).state = .unused ∧ t.health.due = [] ∧
        KOp.health ∈ t.keeper.ops ∧ t.rb Blk.hlt.evtOff 1 = true ∧
        t.rd 0x22020 = wd (satAdd (2 ^ 32 - 1) (s.rd 0x22020).toNat 1)) ∧
      (r.cause = 1 → s.health.checkpointed = [] → s.mode ≠ .standby → s.mode ≠ .service → exec (.engineSubstitution g false) s = .next s) ∧
      (r.cause = 1 → After (.engineSubstitution g true) s fun t =>
        (t.eng (32 + g / 8)).serving = some g ∧ t.health.due = [])) ∧
    (s.health.due = [] → exec (.engineSubstitution g true) s = .next s) ∧
    ((s.tile c).running = true → c < 4 → submitOk d = true → nbit (byteAt d 3) 2 = false →
      (let way := s.lineFrame picks c (submitFrame d srcTile c s.stamp) (96 + c) false
         (launchOf (nbit (byteAt d 3) 0) (leAt d 8 8)) (nbit (byteAt d 3) 1) (leAt d 28 4) (fun _ u => (true, u))
       (way.1 = subOk → exec (.tileFrameSubmit picks c d) s = .next way.2) ∧
       (way.1 ≠ subOk → exec (.tileFrameSubmit picks c d) s =
         .next ((way.2.cntF (clusterBase c + 0x200040) 0 16).emit (.tileReport c way.1))))) ∧
    ((s.tile c).running = true → c < 4 → submitOk d = false → exec (.tileFrameSubmit picks c d) s =
      .next ((s.cntF (clusterBase c + 0x200040) 0 16).emit (.tileReport c subBad))) ∧
    ((s.tile c).running = false → exec (.tileFrameSubmit picks c d) s = .next s ∧ exec (.tileSignal c k) s = .next s) ∧
    ((s.tile c).running = true → k < 4 → After (.tileSignal c k) s fun t =>
      (∀ j < 8, (s.eng (8 * c + j)).live = true → (t.cpu (8 * c + j)).priv (8 + k) =
        { (s.cpu (8 * c + j)).priv (8 + k) with
          pending := true, count := satAdd 255 ((s.cpu (8 * c + j)).priv (8 + k)).count 1 }) ∧
      ∀ h, h / 8 ≠ c ∨ (s.eng h).live = false → t.eng h = s.eng h)

/-- The Yewirak link (R617 to R624): a request is answered with its own type, sequence number, status and data, and
the answer is kept for a repeat; a COMMAND stays open until it completes; a link that is down answers nothing. -/
def Obligations.YewirakRequests : Prop :=
  ∀ (s : State) (seq off n : Nat) (ws : List Word) (f : Option (List Byte)) (e : Meets) (b : List Byte),
    let answered (u : State) (ty : Nat) (p : List Byte) (st : Nat) (d : List Byte) (t : State) : Prop :=
      t.yw = { u.yw with last := some (ty, seq, p, leBytes 2 st ++ d) } ∧
      t.out = .yewirak (ywFrame (ty + 0x80) seq (leBytes 2 st ++ d)) :: u.out ∧
      (∀ o, o ≠ 0x1A030 → t.rd o = u.rd o) ∧ t.ctl = u.ctl
    (s.mode ≠ .off → s.yw.up = true → s.yw.open_ = none → s.yw.last = none →
      After (.ywIdentity seq) s (answered s 1 [] 0 s.identity) ∧
      After (.ywStatus seq) s (answered s 2 [] 0 (leBytes 4 s.modStatus.toNat)) ∧
      (s.mode.configured = true → s.mode ≠ .test → After (.ywTime seq) s fun t =>
        answered s 0x30 [] 0 (leBytes 16 (nowBits (max s.time s.beacon.floor))) t ∧
        t.beacon = { s.beacon with floor := max s.time s.beacon.floor + 1 }) ∧
      (off % 4 = 0 → off < 2 ^ 32 → 0 < n → n ≤ 64 → s.matrixRefuses false off n = false →
        After (.ywRead seq off n) s (answered (s.readWords 1 off n).2 0x10 (leBytes 4 off ++ leBytes 4 n) 0
          (wordsBytes (s.readWords 1 off n).1))) ∧
      (off % 4 = 0 → off < 2 ^ 32 → 0 < ws.length → ws.length ≤ 64 → s.matrixRefuses true off ws.length = false →
        s.mode.configured = true → After (.ywWrite seq off ws f e) s (answered (s.writeWords ⟨1, f, e⟩ off ws) 0x11
          (leBytes 4 off ++ leBytes 4 ws.length ++ wordsBytes ws) 0 [])) ∧
      (s.mode = .sleep → After (.ywWake seq) s fun t => t.mode = .standby ∧ t.ctl.prev = .sleep ∧
        Out.yewirak (ywFrame 0xC0 seq [0, 0]) ∈ t.out) ∧
      (s.mode ≠ .sleep → s.executing 6 = none → After (.ywWake seq) s (answered s 0x40 [] 0 [])) ∧
      (n ∉ [0x01, 0x02, 0x10, 0x11, 0x20, 0x30, 0x40] → After (.ywBadRequest n seq b) s (answered s n b 3 [])) ∧
      (let c : Cmd := { origin := .yewirak, opcode := byteAt b 0, target := leAt b 2 2, tag := leAt b 4 4,
                        args := b.drop 8 }
       b.length = 24 → queueServiced s.mode = true → s.ctl.exec = none →
       badCommand c.opcode [b.getD 1 0] c.args = false →
       cmdAllowed c.opcode s.mode = true → (0x0F ≤ c.opcode ∧ c.opcode ≤ 0x11 → s.fuse.optP = true) →
       After (.ywCommand seq b) s fun t =>
         t.yw = { s.yw with open_ := some (0x20, seq, b) } ∧ t.ctl = { s.ctl with exec := some c } ∧ t.out = s.out)) ∧
    (s.yw.up = false → exec (.ywIdentity seq) s = .next s ∧ exec (.ywStatus seq) s = .next s ∧
      exec (.ywRead seq off n) s = .next s ∧ exec (.ywWrite seq off ws f e) s = .next s ∧
      exec (.ywCommand seq b) s = .next s ∧ exec (.ywTime seq) s = .next s ∧ exec (.ywWake seq) s = .next s ∧
      exec (.ywBadRequest n seq b) s = .next s ∧ exec .ywFrameError s = .next s) ∧
    (s.mode ≠ .off → s.yw.up = false → After .ywLinkUp s fun t =>
      t.yw = { s.yw with up := true } ∧ Raised .host 4 s t) ∧
    (s.mode ≠ .off → s.yw.up = true → After .ywLinkDown s fun t =>
      t.yw = { s.yw with up := false } ∧ Raised .host 4 s t)

/-- A damaged frame has no response and is counted (R619); while a request is open any other is answered BUSY, without
effect (R620); a request that repeats the previous one is answered as before, and counted (R621). -/
def Obligations.YewirakBusyAndRepeats : Prop :=
  ∀ (s : State) (seq off n : Nat) (ws : List Word) (f : Option (List Byte)) (e : Meets) (b : List Byte),
    s.mode ≠ .off → s.yw.up = true →
    exec .ywFrameError s = .next (s.cnt 0x1A034) ∧
    ∀ c ty p, (c, ty, p) ∈
        [(Instr.ywIdentity seq, 0x01, []), (.ywStatus seq, 0x02, []),
         (.ywRead seq off n, 0x10, leBytes 4 off ++ leBytes 4 n),
         (.ywWrite seq off ws f e, 0x11, leBytes 4 off ++ leBytes 4 ws.length ++ wordsBytes ws),
         (.ywCommand seq b, 0x20, b), (.ywTime seq, 0x30, []), (.ywWake seq, 0x40, []), (.ywBadRequest n seq b, n, b)] →
      (s.yw.open_.isSome = true → exec c s =
        .next ((s.cnt 0x1A038).emit (.yewirak (ywFrame (ty + 0x80) seq [4, 0])))) ∧
      (∀ r, s.yw.open_ = none → s.yw.last = some (ty, seq, p, r) → exec c s =
        .next ((s.cnt 0x1A03C).emit (.yewirak (ywFrame (ty + 0x80) seq r))))

/-! ### Keeper, its debug window, and health -/

/-- Keeper updates (R627 to R631, R636, R638, R639, R644 to R650): with KPR_UPD_CTRL open, Keeper idle, the kind in a
mode and cell that take it and an object whose closing block, body, key slot and identity are good, the object of each
kind is stored when its signature verifies and its own conditions hold, and a debug token opens its session; a
signature that does not verify ends the update with BAD_SIGNATURE, and a kind that the mode does not take with
WRONG_MODE. -/
def Obligations.KeeperUpdates : Prop :=
  ∀ (s : State) (yw ib u : Bool) (len : Nat) (fetched : Option (List Byte)) (bs body : List Byte) (cl : Closing),
    s.open_ 0x1C058 = true → s.keeper.ops = [] → 0 < len → len < 2 ^ 20 → (ib = true → len ≤ 4096) →
    s.updateObject ib len fetched = some bs →
    let k := s.keeper
    let may (n : Nat) : Prop := updateMode n s.mode = true ∧ s.updateCell n = 0 ∧ bs.length ≤ updateMax n
    let sound (n : Nat) : Prop := may n ∧ closing bs = some (body, cl) ∧ closingFits n cl.kind = true ∧
      bodyForm cl.kind body = true ∧ k.signs cl.slot (kindPurpose cl.kind) = true ∧ s.identityOk cl.kind body = true
    let ends (code : Nat) (t : State) : Prop := t.keeper.done = true ∧ t.keeper.code = code ∧ t.keeper.ops = [] ∧
      t.rb Blk.kpr.evtOff 0 = true
    let verified (c : Instr) (P : State → Prop) : Prop :=
      After c s fun t => if k.verifies body cl = true then P t else ends 7 t
    let fw : Firmware := ⟨cl.slot, (k.slot cl.slot).key, cl.component, cl.version, cl.hwIf, cl.loaderIf,
      cl.personalityIf, cl.tileIf, cl.epoch⟩
    let iid : ImageId := ⟨if cl.kind = 3 then 32 else 0, cl.component, cl.version,
      if cl.kind = 3 then cl.tileIf else cl.personalityIf⟩
    let set := s.setInForce
    (sound 1 → k.epoch ≤ cl.epoch → s.judge646 (s.firmwareSet fw) = .accept u →
      verified (.firmware yw ib len fetched) fun t => t.keeper.ops = [.firmware fw u] ∧ t.keeper.untested = k.untested) ∧
    (sound 2 → s.judge646 { set with images := iid :: set.images } = .accept u →
      imageBytes (k.without cl.component cl.version) + bs.length ≤ 6 * 2 ^ 20 →
      verified (.storeImage yw ib len fetched) fun t =>
        t.keeper.ops = [.image ⟨cl.kind == 3, cl.component, cl.version, cl.slot, bs⟩ u] ∧
        t.keeper.untested = k.untested) ∧
    (may 3 → bs.length = 8 → (∀ i ∈ set.images, ¬ (i.component = leAt bs 0 4 ∧ i.version = leAt bs 4 4)) →
      After (.eraseImage yw ib len fetched) s fun t =>
        t.keeper = { k with ops := [.erase (leAt bs 0 4) (leAt bs 4 4)], running := k.running || !s.power.warn,
                            done := false }) ∧
    (∀ tb, sound 4 → testedTable body = some tb → (if cl.slot < 2 then k.thrumsyn.seq else k.owner.seq) ≤ tb.seq →
      verified (.testedSet yw ib len fetched) fun t => t.keeper.ops = [.tested (2 ≤ cl.slot) tb]) ∧
    (sound 5 → k.policySeq ≤ leAt body 4 4 → verified (.policy yw ib len fetched) fun t =>
      t.keeper.ops = [.policy (nbit (byteAt body 0) 0) (leAt body 4 4)]) ∧
    (sound 6 → cl.slot ≠ byteAt body 0 → byteAt body 1 = 1 → (k.slot (byteAt body 0)).state ≠ .revoked →
      verified (.keyCert yw ib len fetched) fun t =>
        t.keeper.ops = [.keyCert (byteAt body 0) ⟨.active, byteAt body 2, (body.drop 16).take 97⟩]) ∧
    (∀ tg, sound 7 → lifecycleOf (byteAt body 0) = some tg → lifecycleMay k.lifecycle tg cl.slot = true →
      verified (.lifecycle yw ib len fetched) fun t => t.keeper.ops = [.lifecycle tg] ∧
        t.keeper.challenge = (Config.random s.free).toNat) ∧
    (sound 8 → ¬ (byteAt body 0 = 2 ∧ k.lifecycle = .deployed) → verified (.debug yw ib len fetched) fun t =>
      t.keeper.session = some ⟨byteAt body 0, leAt body 4 4, leAt body 2 2, s.beacon.raw⟩ ∧ ends 0 t ∧
      t.rb Blk.kpr.evtOff 1 = true) ∧
    (∀ n c, (n, c) ∈ [(1, Instr.firmware yw ib len fetched), (2, .storeImage yw ib len fetched),
        (3, .eraseImage yw ib len fetched), (4, .testedSet yw ib len fetched), (5, .policy yw ib len fetched),
        (6, .keyCert yw ib len fetched), (7, .lifecycle yw ib len fetched), (8, .debug yw ib len fetched)] →
      s.mode.update = true → updateMode n s.mode = false → After c s (ends 1))

/-- Stores, sessions and the debug window (R636, R640 to R643, R651, R726): the running store leaves its object in
Keeper storage and ends its update; a session that has run out or is closed releases every halted engine; halt, single
step and engine memory act on an engine that the session covers; a TAP shift returns free bits (a free value, log 48). -/
def Obligations.StoresAndDebug : Prop :=
  ∀ (s : State) (yw halt u : Bool) (g : Nat) (w : Word),
    let k := s.keeper
    (∀ a q, k.ops = [.policy a q] → k.running = true → After .keeperStoreDone s fun t =>
      t.keeper = { k with allow := a, policySeq := q, ops := [], running := false, done := true, code := 0 } ∧
      Raised .kpr 0 s t) ∧
    (∀ fw, k.ops = [.firmware fw u] → k.running = true → After .keeperStoreDone s fun t =>
      t.keeper = { (if k.runsB then { k with fwA := some fw, activeB := false } else { k with fwB := some fw, activeB := true })
        with untested := u, ops := [], running := false, done := true, code := 0 }) ∧
    (∀ c v, k.ops = [.erase c v] → k.running = true → After .keeperStoreDone s fun t =>
      t.keeper = { k with images := k.without c v, ops := [], running := false, done := true, code := 0 }) ∧
    (∀ tg, k.ops = [.lifecycle tg] → k.running = true → k.lifecycle = .factory → tg = .provisioned →
      s.mode = .service → After .keeperStoreDone s fun t =>
        t.mode = .bringUp ∧ t.keeper.lifecycle = .provisioned ∧
          t.keeper.lifeCount = k.lifeCount + 1 ∧ t.keeper.session = none) ∧
    (k.running = false → exec .keeperStoreDone s = .next s) ∧
    (∀ x, k.session = some x → s.sessionLeft = 0 → After .sessionExpiry s fun t =>
      t.keeper = { k with session := none } ∧ (∀ h, (t.eng h).dbgHalt = false) ∧ Raised .kpr 2 s t) ∧
    (s.sessionLeft ≠ 0 → exec .sessionExpiry s = .next s) ∧
    (∀ x, k.session = some x → s.open_ 0x1C060 = true → s.portO = true → After (.sessionClose yw) s fun t =>
      t.keeper = { k with session := none } ∧ (∀ h, (t.eng h).dbgHalt = false) ∧ Raised .kpr 2 s t) ∧
    (s.open_ 0x1C060 = true → s.portO = false → exec (.sessionClose yw) s = .next (s.mgReject 0x1C060)) ∧
    (s.open_ 0x1C068 = true → s.portF = true → g < 32 → nbit s.debugMask g = true →
      (After (.debugHalt yw g halt) s fun t =>
        EngSet g { s.eng g with dbgHalt := halt } s t ∧ t.rd 0x1C068 = wd g) ∧
      ((s.eng g).dbgHalt = true → (s.eng g).state = .running → s.engineMayRun g = true →
        decodeWord (s.fetched g) = some .nop → fetchable (s.nextPc g) = true → After (.debugStep yw g .none) s fun t =>
          t.cpu g = (s.goesOn g id).cpu g ∧ (t.eng g).dbgHalt = true ∧ (∀ h, h ≠ g → t.eng h = s.eng h))) ∧
    (s.open_ 0x1C070 = true → s.portF = true → s.dbgCovered = true → s.rd 0x1C06C = wd (0x10000000 + 4 * g) →
      g < 16384 →
      (After (.debugData yw true w) s fun t =>
        t.engVal s.dbgSel (0x10000000 + 4 * g) 4 = w.toNat ∧ t.rd 0x1C06C = wd (0x10000004 + 4 * g) ∧
        ∀ h, h ≠ s.dbgSel → t.eng h = s.eng h) ∧
      (After (.debugData false false w) s fun t =>
        t.out = .hostRead 0 0x1C070 (wd (s.engVal s.dbgSel (0x10000000 + 4 * g) 4)) :: s.out ∧
        t.rd 0x1C06C = wd (0x10000004 + 4 * g) ∧ t.engines = s.engines)) ∧
    (s.open_ 0x1C070 = true → s.portF = false → exec (.debugData yw true w) s = .next (s.mgReject 0x1C070)) ∧
    (s.open_ 0x1C080 = true → s.portFT = true → 0 < fld w 0 6 → fld w 0 6 ≤ 32 → bit w 31 = true →
      After (.tapShift yw w) s fun t =>
        t.rd 0x1C080 = wd (fld w 0 6) ∧ fld (t.rd 0x1C08C) 0 (fld w 0 6) = fld (Config.tdo s.free) 0 (fld w 0 6) ∧
        t.free = s.free + 1) ∧
    (s.open_ 0x1C080 = true → s.portFT = false → exec (.tapShift yw w) s = .next (s.mgReject 0x1C080))

/-- Health and calibration (R702, R704, R707, R711, R713, R714, R718, R720, R723, R725): margins and wear, a faulty
unit with and without a spare, the two ends of a slice substitution, a segment switched in for another, the retest of
a retired unit, and a user calibration value. -/
def Obligations.HealthAndSpares : Prop :=
  ∀ (s : State) (yw pass : Bool) (i m n k : Nat) (r : Report) (w : Word),
    let h := s.health
    let bare : Prop := h.due = [] ∧ h.unrecorded = [] ∧ h.pends = []
    (i < 80 → s.mode.monitors = true →
      (let low := if m < 10 then min 16 (h.low.get (fun _ => 0) i + 1) else 0
       (low < 16 → After (.marginEvaluation [(i, m)] []) s fun t =>
         t.rd (0x22200 + 4 * i) = wd (min 255 m) ∧ t.health.low.get (fun _ => 0) i = low ∧
         t.health = { h with low := t.health.low }) ∧
       (low = 16 → i < 32 → bare → s.unitLive (0x1000 + i) = true → s.engSpareFree (i / 8) = true →
         s.rf 0x22000 0 2 = 0 → h.declined = [] → After (.marginEvaluation [(i, m)] []) s fun t =>
           t.health.due = [⟨0x1000 + i, 1⟩]))) ∧
    (s.mode.monitors = false → exec (.marginEvaluation [(i, m)] []) s = .next s ∧
      exec (.unitFault r) s = .next s) ∧
    (i < 24 → s.mode.monitors = true → bare → r = ⟨0x5000 + i, 2⟩ → s.hasCluster (i / 6) = true → (s.port i).retired = false →
      After (.unitFault r) s fun t => (t.port i).retired = true ∧ (t.port i).link = false) ∧
    (i < 32 → s.mode.monitors = true → bare → r = ⟨0x1000 + i, 2⟩ → s.unitLive (0x1000 + i) = true → s.engSpareFree (i / 8) = true →
      s.rf 0x22000 0 2 = 0 → (s.eng i).live = true → After (.unitFault r) s fun t =>
        t.health.due = [r] ∧ (t.eng i).state = .haltedFault) ∧
    (n < 40 → h.due = [r] → h.unrecorded = [] → h.pends = [] → r = ⟨0x2000 + n, 2⟩ → s.reconf (n / 10) = false →
      s.mode ≠ .sleep → s.sliceSpareFree (n / 10) = true → After (.sliceSubstitution n false true) s fun t =>
        t.spareSlice (n / 10) = ⟨.readying, some (n % 10)⟩ ∧ (t.lane n).ctl = .quiet ∧ t.health.due = [r]) ∧
    (n < 40 → h.due = [r] → h.unrecorded = [] → h.pends = [] → r = ⟨0x2000 + n, 2⟩ →
      s.spareSlice (n / 10) = ⟨.readying, some (n % 10)⟩ → After (.sliceSubstitution n true pass) s fun t =>
        t.spareSlice (n / 10) = ⟨.serving, some (n % 10)⟩ ∧ t.health.due = [] ∧
        (pass = true → (t.lane n).tec = (s.lane n).tec ∧ (t.lane n).recv = (s.lane n).recv) ∧
        (pass = false → (t.lane n).tec = 0 ∧ (t.lane n).recv = 0 ∧ (t.lane n).conf = .active) ∧
        t.rb Blk.hlt.evtOff 1 = true) ∧
    (h.due = [] → exec (.sliceSubstitution n false true) s = .next s ∧
      exec (.segmentSubstitution (0x3000 + 16 * n + k)) s = .next s) ∧
    (n < 40 → k < 8 → h.due = [r] → h.unrecorded = [] → h.pends = [] → r = ⟨0x3000 + 16 * n + k, 2⟩ →
      s.reconf (n / 10) = false → s.mode ≠ .sleep → (s.lane n).segSpare = 2 → s.segMask r.unit = 0xFF →
      s.segBad r.unit = 0 → After (.segmentSubstitution r.unit) s fun t =>
        t.segMask r.unit = 0x1FF - 2 ^ k ∧ t.segBad r.unit = 2 ^ k ∧ (t.lane n).segSpare = 1 ∧ t.health.due = [] ∧
        t.rb Blk.hlt.evtOff 1 = true) ∧
    (s.open_ 0x22008 = true → s.mode = .service → s.unitRetired (fld w 0 16) = true → exec (.hltRetest yw w) s =
      .next ({ s with health := { h with retest := some (fld w 0 16) } }.setf 0x22008 0 16 (fld w 0 16))) ∧
    (s.open_ 0x22008 = true → s.mode ≠ .service → exec (.hltRetest yw w) s = .next (s.mgReject 0x22008)) ∧
    (h.retest = some (0x5000 + i) → i < 24 → After (.retestDone pass) s fun t =>
      t.health.retest = none ∧ t.rb 0x22008 30 = pass ∧ (t.port i).retired = (!pass && (s.port i).retired) ∧
      Raised .hlt 7 s t) ∧
    (h.retest = none → exec (.retestDone pass) s = .next s) ∧
    (∀ tr range, i < 2048 → calItem s.fuse i = some (tr, range) → s.calCell = true →
      (w.toInt.natAbs ≤ range → exec (.calUserWrite yw i w) s = .next (s.wr (0x30004 + 16 * i) w)) ∧
      (range < w.toInt.natAbs → exec (.calUserWrite yw i w) s = .next (s.encReject (0x30004 + 16 * i)))) ∧
    (∀ tr range, i < 2048 → calItem s.fuse i = some (tr, range) → s.mode = .operational →
      exec (.calUserWrite yw i w) s = .next (s.mgReject (0x30004 + 16 * i)))
end

