-- ==== Sys2Proof/Laws/Table.lean ====
section
/-! SUPPORT. The laws of sparse tables: a read after a write, at the same key and at another, and the canonical form
that every operation keeps. -/
namespace Sys2Proof.Machine

theorem Tbl.above_mono {α : Type} {m n : Nat} (h : m ≤ n) (t : Tbl α) (ht : Tbl.above n t = true) :
    Tbl.above m t = true := by
  cases t with
  | nil => rfl
  | cons e t => simp only [Tbl.above, decide_eq_true_eq] at *; omega

theorem Tbl.wf_cons {α : Type} [DecidableEq α] (d : Nat → α) (j : Nat) (v : α) (t : Tbl α) :
    Tbl.wf d ((j, v) :: t) = true ↔ v ≠ d j ∧ Tbl.above (j + 1) t = true ∧ Tbl.wf d t = true := by
  simp [Tbl.wf, and_assoc]

theorem Tbl.get_del {α : Type} (d : Nat → α) (t : Tbl α) (k k' : Nat) :
    (t.del k).get d k' = if k' = k then d k' else t.get d k' := by
  induction t with
  | nil => simp [Tbl.del, Tbl.get]
  | cons e t ih =>
    obtain ⟨j, w⟩ := e
    by_cases hj : j = k
    · by_cases hk : k' = k
      · simpa [Tbl.del, hj, hk] using ih
      · simpa [Tbl.del, Tbl.get, hj, hk, Ne.symm hk] using ih
    · by_cases hk : k' = k
      · simpa [Tbl.del, Tbl.get, hj, hk] using ih
      · simp [Tbl.del, Tbl.get, hj, hk, ih]

theorem Tbl.get_ins {α : Type} (d : Nat → α) (t : Tbl α) (k k' : Nat) (v : α) :
    ((t.del k).ins k v).get d k' = if k' = k then v else t.get d k' := by
  induction t with
  | nil => simp [Tbl.del, Tbl.ins, Tbl.get, eq_comm]
  | cons e t ih =>
    obtain ⟨j, w⟩ := e
    by_cases hj : j = k
    · by_cases hk : k' = k
      · simpa [Tbl.del, hj, hk] using ih
      · simpa [Tbl.del, Tbl.get, hj, hk, Ne.symm hk] using ih
    · by_cases h : k < j
      · by_cases hk : k' = k
        · simp [Tbl.del, Tbl.ins, Tbl.get, hj, hk, h]
        · simp [Tbl.del, Tbl.ins, Tbl.get, hj, hk, h, Ne.symm hk, Tbl.get_del]
      · by_cases hk : k' = k
        · subst hk; simpa [Tbl.del, Tbl.ins, Tbl.get, hj, h] using ih
        · simp [Tbl.del, Tbl.ins, Tbl.get, hj, h, hk, ih]

/-- A key reads as what was set there, and every other key as before. -/
theorem Tbl.get_set {α : Type} [DecidableEq α] (d : Nat → α) (t : Tbl α) (k k' : Nat) (v : α) :
    (t.set d k v).get d k' = if k' = k then v else t.get d k' := by
  by_cases hv : v = d k
  · by_cases hk : k' = k <;> simp [Tbl.set, hv, hk, Tbl.get_del]
  · simp [Tbl.set, hv, Tbl.get_ins]

theorem Tbl.del_del {α : Type} (t : Tbl α) (k : Nat) : (t.del k).del k = t.del k := by
  induction t with
  | nil => rfl
  | cons e t ih =>
    obtain ⟨j, w⟩ := e
    by_cases hj : j = k <;> simp [Tbl.del, hj, ih]

theorem Tbl.del_ins {α : Type} (t : Tbl α) (k : Nat) (v : α) : (t.ins k v).del k = t.del k := by
  induction t with
  | nil => simp [Tbl.ins, Tbl.del]
  | cons e t ih =>
    obtain ⟨j, w⟩ := e
    by_cases h : k < j
    · simp [Tbl.ins, Tbl.del, h]
    · by_cases hj : j = k <;> simp [Tbl.ins, Tbl.del, h, hj, ih]

/-- The last of two writes of one key counts. -/
theorem Tbl.set_set {α : Type} [DecidableEq α] (d : Nat → α) (t : Tbl α) (k : Nat) (v w : α) :
    (t.set d k v).set d k w = t.set d k w := by
  have h : (t.set d k v).del k = t.del k := by
    by_cases hv : v = d k <;> simp [Tbl.set, hv, Tbl.del_del, Tbl.del_ins]
  change (if w = d k then (t.set d k v).del k else ((t.set d k v).del k).ins k w) = _
  rw [h]; rfl

theorem Tbl.above_del {α : Type} [DecidableEq α] (d : Nat → α) (n k : Nat) (t : Tbl α) (h : Tbl.above n t = true)
    (hw : Tbl.wf d t = true) : Tbl.above n (t.del k) = true := by
  induction t with
  | nil => rfl
  | cons e t ih =>
    obtain ⟨j, w⟩ := e
    obtain ⟨-, ha, ht⟩ := (Tbl.wf_cons d j w t).1 hw
    simp only [Tbl.above, decide_eq_true_eq] at h
    by_cases hj : j = k
    · simpa [Tbl.del, hj] using ih (Tbl.above_mono (by omega) t ha) ht
    · simp [Tbl.del, hj, Tbl.above, h]

theorem Tbl.wf_del {α : Type} [DecidableEq α] (d : Nat → α) (t : Tbl α) (k : Nat) (h : Tbl.wf d t = true) :
    Tbl.wf d (t.del k) = true := by
  induction t with
  | nil => rfl
  | cons e t ih =>
    obtain ⟨j, w⟩ := e
    obtain ⟨hv, ha, hw⟩ := (Tbl.wf_cons d j w t).1 h
    by_cases h1 : j = k
    · simpa [Tbl.del, h1] using ih hw
    · simpa [Tbl.del, h1] using (Tbl.wf_cons d j w _).2 ⟨hv, Tbl.above_del d _ k t ha hw, ih hw⟩

theorem Tbl.above_ins {α : Type} (n k : Nat) (v : α) (t : Tbl α) (h : Tbl.above n t = true) (hk : n ≤ k) :
    Tbl.above n (t.ins k v) = true := by
  cases t with
  | nil => simpa [Tbl.ins, Tbl.above] using hk
  | cons e t =>
    obtain ⟨j, w⟩ := e
    by_cases h2 : k < j
    · simpa [Tbl.ins, h2, Tbl.above] using hk
    · simpa [Tbl.ins, h2, Tbl.above] using h

theorem Tbl.wf_ins {α : Type} [DecidableEq α] (d : Nat → α) (t : Tbl α) (k : Nat) (v : α) (h : Tbl.wf d t = true)
    (hv : v ≠ d k) : Tbl.wf d ((t.del k).ins k v) = true := by
  induction t with
  | nil => simp [Tbl.del, Tbl.ins, Tbl.wf, Tbl.above, hv]
  | cons e t ih =>
    obtain ⟨j, w⟩ := e
    obtain ⟨hw, ha, ht⟩ := (Tbl.wf_cons d j w t).1 h
    by_cases h1 : j = k
    · simpa [Tbl.del, h1] using ih ht
    · by_cases h2 : k < j
      · simp only [Tbl.del, Tbl.ins, h1, h2, if_true, if_false]
        refine (Tbl.wf_cons d k v _).2 ⟨hv, by simp [Tbl.above]; omega, ?_⟩
        exact (Tbl.wf_cons d j w _).2 ⟨hw, Tbl.above_del d _ k t ha ht, Tbl.wf_del d t k ht⟩
      · simp only [Tbl.del, Tbl.ins, h1, h2, if_false]
        exact (Tbl.wf_cons d j w _).2
          ⟨hw, Tbl.above_ins _ _ _ _ (Tbl.above_del d _ k t ha ht) (by omega), ih ht⟩

/-- Setting a key keeps the canonical form. -/
theorem Tbl.wf_set {α : Type} [DecidableEq α] (d : Nat → α) (t : Tbl α) (k : Nat) (v : α) (h : Tbl.wf d t = true) :
    Tbl.wf d (t.set d k v) = true := by
  by_cases hv : v = d k
  · simp [Tbl.set, hv, Tbl.wf_del d t k h]
  · simp [Tbl.set, hv, Tbl.wf_ins d t k v h hv]

theorem Tbl.above_mapv {α : Type} [DecidableEq α] (d : Nat → α) (f : α → α) (n : Nat) (t : Tbl α)
    (h : Tbl.wf d t = true) (ha : Tbl.above n t = true) : Tbl.above n (t.mapv d f) = true := by
  induction t with
  | nil => rfl
  | cons e t ih =>
    obtain ⟨j, v⟩ := e
    obtain ⟨-, hj, hw⟩ := (Tbl.wf_cons d j v t).1 h
    have ha' : n ≤ j := by simpa [Tbl.above] using ha
    by_cases hv : f v = d j
    · simpa [Tbl.mapv, hv] using ih hw (Tbl.above_mono (by omega) t hj)
    · simpa [Tbl.mapv, hv, Tbl.above] using ha'

/-- Applying a function to every listed value keeps the canonical form. -/
theorem Tbl.wf_mapv {α : Type} [DecidableEq α] (d : Nat → α) (f : α → α) (t : Tbl α) (h : Tbl.wf d t = true) :
    Tbl.wf d (t.mapv d f) = true := by
  induction t with
  | nil => rfl
  | cons e t ih =>
    obtain ⟨j, v⟩ := e
    obtain ⟨-, ha, hw⟩ := (Tbl.wf_cons d j v t).1 h
    by_cases hv : f v = d j
    · simpa [Tbl.mapv, hv] using ih hw
    · simp only [Tbl.mapv, hv, if_false]
      exact (Tbl.wf_cons d j _ _).2 ⟨hv, Tbl.above_mapv d f _ t hw ha, ih hw⟩

theorem Tbl.above_filter {α : Type} [DecidableEq α] (d : Nat → α) (p : Nat × α → Bool) (n : Nat) (t : Tbl α)
    (h : Tbl.wf d t = true) (ha : Tbl.above n t = true) : Tbl.above n (t.filter p) = true := by
  induction t with
  | nil => rfl
  | cons e t ih =>
    obtain ⟨j, v⟩ := e
    obtain ⟨-, hj, hw⟩ := (Tbl.wf_cons d j v t).1 h
    have ha' : n ≤ j := by simpa [Tbl.above] using ha
    by_cases hp : p (j, v) = true
    · simpa [List.filter, hp, Tbl.above] using ha'
    · simpa [List.filter, hp] using ih hw (Tbl.above_mono (by omega) t hj)

/-- Leaving keys out keeps the canonical form. -/
theorem Tbl.wf_filter {α : Type} [DecidableEq α] (d : Nat → α) (p : Nat × α → Bool) (t : Tbl α)
    (h : Tbl.wf d t = true) : Tbl.wf d (t.filter p) = true := by
  induction t with
  | nil => rfl
  | cons e t ih =>
    obtain ⟨j, v⟩ := e
    obtain ⟨hv, ha, hw⟩ := (Tbl.wf_cons d j v t).1 h
    by_cases hp : p (j, v) = true
    · simp only [List.filter, hp]
      exact (Tbl.wf_cons d j v _).2 ⟨hv, Tbl.above_filter d p _ t hw ha, ih hw⟩
    · simpa [List.filter, hp] using ih hw

theorem Tbl.wf_keep {α : Type} [DecidableEq α] (d : Nat → α) (p : Nat → Bool) (t : Tbl α)
    (h : Tbl.wf d t = true) : Tbl.wf d (t.keep p) = true := Tbl.wf_filter d _ t h

/-- Changing listed values to others that are no defaults keeps the canonical form. -/
theorem Tbl.wf_map {α : Type} [DecidableEq α] (d : Nat → α) (f : Nat × α → Nat × α) (t : Tbl α)
    (hf : ∀ e, (f e).1 = e.1) (hd : ∀ e, e.2 ≠ d e.1 → (f e).2 ≠ d e.1) (h : Tbl.wf d t = true) :
    Tbl.wf d (t.map f) = true := by
  induction t with
  | nil => rfl
  | cons e t ih =>
    obtain ⟨j, v⟩ := e
    obtain ⟨hv, ha, hw⟩ := (Tbl.wf_cons d j v t).1 h
    have ht : Tbl.above (j + 1) (t.map f) = true := by
      cases t with
      | nil => rfl
      | cons e t => simpa [Tbl.above, hf] using ha
    have h1 : f (j, v) = (j, (f (j, v)).2) := Prod.ext (hf (j, v)) rfl
    rw [List.map_cons, h1]
    exact (Tbl.wf_cons d j _ _).2 ⟨hd (j, v) hv, ht, ih hw⟩

end Sys2Proof.Machine
end

