-- ==== Sys2Proof/Laws/FrameBase.lean ====
section
/-! SUPPORT. How frames compose: `Kept m s t` says that between two states only the fields of the mask `m` may differ,
never the fuses or the queue, that the canonical form of the tables is
kept, and that what has been sent stays sent. Bit k of a mask is the k-th field of
the state. -/
namespace Sys2Proof
open Machine

/-- Only fields of the mask have changed, never the fuses or the queue; canonical tables are canonical; the outputs
have only grown. -/
def Kept (m : Nat) (s t : State) : Prop :=
  (∀ f : Field, m.testBit f.ctorIdx = true ∨ f.same s t) ∧ (s.canonical = true → t.canonical = true) ∧
    t.fuse = s.fuse ∧ t.pending = s.pending ∧ s.out <:+ t.out

/-- The mask of a list of fields. -/
def maskOf (l : List Field) : Nat := l.foldr (fun f m => 2 ^ f.ctorIdx ||| m) 0

theorem Field.same_refl (f : Field) (s : State) : f.same s s := by cases f <;> rfl

theorem Field.same_trans (f : Field) {s t u : State} (h : f.same s t) (k : f.same t u) : f.same s u := by
  cases f <;> exact Eq.trans k h

theorem Field.ctorIdx_inj {f g : Field} (h : f.ctorIdx = g.ctorIdx) : f = g := by
  cases f <;> cases g <;> first | rfl | exact absurd h (by decide)

theorem testBit_maskOf (l : List Field) (f : Field) (h : (maskOf l).testBit f.ctorIdx = true) : f ∈ l := by
  induction l with
  | nil => simp [maskOf] at h
  | cons g l ih =>
    simp only [maskOf, List.foldr_cons, Nat.testBit_or, Bool.or_eq_true, Nat.testBit_two_pow, decide_eq_true_eq] at h
    rcases h with h | h
    · exact List.mem_cons.2 (Or.inl (Field.ctorIdx_inj h.symm))
    · exact List.mem_cons.2 (Or.inr (ih h))

/-- A kept mask of fields is a frame. -/
theorem Kept.touches {l : List Field} {s t : State} (h : Kept (maskOf l) s t) : Touches l s t := fun f =>
  (h.1 f).imp_left (testBit_maskOf l f)

theorem Kept.refl (m : Nat) (s : State) : Kept m s s := ⟨fun f => Or.inr (f.same_refl s), id, rfl, rfl, List.suffix_refl _⟩

theorem testBit_of_sub {a m i : Nat} (hs : a &&& m = a) (h : a.testBit i = true) : m.testBit i = true := by
  rw [← hs, Nat.testBit_and, Bool.and_eq_true] at h
  exact h.2

theorem sub_trans {a b m : Nat} (h : a &&& b = a) (hm : b &&& m = b) : a &&& m = a := by
  rw [← h, Nat.and_assoc, hm]

theorem Kept.step {a m : Nat} {s t u : State} (hs : a &&& m = a) (k : Kept a t u) (h : Kept m s t) : Kept m s u := by
  refine ⟨fun f => ?_, fun c => k.2.1 (h.2.1 c), k.2.2.1.trans h.2.2.1, k.2.2.2.1.trans h.2.2.2.1,
    h.2.2.2.2.trans k.2.2.2.2⟩
  rcases h.1 f with hf | hf
  · exact Or.inl hf
  · rcases k.1 f with kf | kf
    · exact Or.inl (testBit_of_sub hs kf)
    · exact Or.inr (f.same_trans hf kf)

theorem Kept.mono {a m : Nat} {s t : State} (hs : a &&& m = a) (h : Kept a s t) : Kept m s t :=
  Kept.step hs h (Kept.refl m s)

/-- A kept mask is a frame; the queue and the fuses need not be named. -/
theorem Kept.frame {m : Nat} {l : List Field} {s t : State} (h : Kept m s t) (hs : m &&& (3 ||| maskOf l) = m) :
    Touches l s t := by
  intro f
  rcases h.1 f with k | k
  · have k' := testBit_of_sub hs k
    rw [Nat.testBit_or, Bool.or_eq_true] at k'
    rcases k' with k' | k'
    · cases f
      · exact Or.inr h.2.2.2.1
      · exact Or.inr h.2.2.1
      all_goals exact absurd k' (by decide)
    · exact Or.inl (testBit_maskOf l f k')
  · exact Or.inr k

/-- A field outside the mask is unchanged. -/
theorem Kept.same {m : Nat} {s t : State} (h : Kept m s t) (f : Field) (hf : m.testBit f.ctorIdx = false) :
    f.same s t := by
  rcases h.1 f with k | k
  · rw [k] at hf; cases hf
  · exact k

theorem Kept.each {m : Nat} {s t : State} {α : Type} (xs : List α) (f : α → State → State)
    (hf : ∀ a u, Kept m u (f a u)) (h : Kept m s t) : Kept m s (t.each xs f) := by
  unfold State.each
  induction xs generalizing t with
  | nil => exact h
  | cons a xs ih => exact ih (Kept.step (Nat.and_self m) (hf a t) h)

theorem Kept.cut {m : Nat} {s t x : State} (h : Kept m s x) (k : Kept m s x → Kept m s t) : Kept m s t := k h

/-- What a function that answers more than a state keeps. -/
def KeptP {α : Type} (m : Nat) (s : State) (p : α × State) : Prop := Kept m s p.2
def KeptT {α β : Type} (m : Nat) (s : State) (p : α × β × State) : Prop := Kept m s p.2.2
structure KeptO (m : Nat) (s : State) (o : Option State) : Prop where
  of : ∀ t, o = some t → Kept m s t
structure KeptQ {α : Type} (m : Nat) (s : State) (o : Option (α × State)) : Prop where
  of : ∀ r t, o = some (r, t) → Kept m s t
structure KeptU (m : Nat) (s : State) (u : UnitAns) : Prop where
  of : ∀ t, (u = .ok t ∨ u = .wait t) → Kept m s t

theorem KeptP.mk {α : Type} {m : Nat} {s t : State} {a : α} (h : Kept m s t) : KeptP m s (a, t) := h
theorem KeptT.mk {α β : Type} {m : Nat} {s t : State} {a : α} {b : β} (h : Kept m s t) : KeptT m s (a, b, t) := h
theorem KeptO.none {m : Nat} {s : State} : KeptO m s Option.none := ⟨fun _ h => by cases h⟩
theorem KeptO.some {m : Nat} {s t : State} (h : Kept m s t) : KeptO m s (Option.some t) :=
  ⟨fun _ e => by cases e; exact h⟩
theorem KeptQ.none {α : Type} {m : Nat} {s : State} : KeptQ (α := α) m s Option.none :=
  ⟨fun _ _ h => by cases h⟩
theorem KeptQ.some {α : Type} {m : Nat} {s t : State} {a : α} (h : Kept m s t) : KeptQ m s (Option.some (a, t)) :=
  ⟨fun _ _ e => by cases e; exact h⟩
theorem KeptU.arg {m : Nat} {s : State} {v : Nat} : KeptU m s (.arg v) := ⟨fun _ h => by rcases h with h | h <;> cases h⟩
theorem KeptU.ok {m : Nat} {s t : State} (h : Kept m s t) : KeptU m s (.ok t) :=
  ⟨fun _ e => by rcases e with e | e <;> cases e; exact h⟩
theorem KeptU.wait {m : Nat} {s t : State} (h : Kept m s t) : KeptU m s (.wait t) :=
  ⟨fun _ e => by rcases e with e | e <;> cases e; exact h⟩

theorem KeptP.step {α : Type} {a m : Nat} {s t : State} {p : α × State} (hs : a &&& m = a) (k : KeptP a t p)
    (h : Kept m s t) : KeptP m s p := Kept.step hs k h
theorem KeptT.step {α β : Type} {a m : Nat} {s t : State} {p : α × β × State} (hs : a &&& m = a) (k : KeptT a t p)
    (h : Kept m s t) : KeptT m s p := Kept.step hs k h
theorem KeptO.step {a m : Nat} {s t : State} {p : Option State} (hs : a &&& m = a) (k : KeptO a t p)
    (h : Kept m s t) : KeptO m s p := ⟨fun u e => Kept.step hs (k.of u e) h⟩
theorem KeptQ.step {α : Type} {a m : Nat} {s t : State} {p : Option (α × State)} (hs : a &&& m = a) (k : KeptQ a t p)
    (h : Kept m s t) : KeptQ m s p := ⟨fun r u e => Kept.step hs (k.of r u e) h⟩
theorem KeptU.step {a m : Nat} {s t : State} {p : UnitAns} (hs : a &&& m = a) (k : KeptU a t p)
    (h : Kept m s t) : KeptU m s p := ⟨fun u e => Kept.step hs (k.of u e) h⟩
theorem KeptU.cut {m : Nat} {s x : State} {t : UnitAns} (h : Kept m s x)
    (k : Kept m s x → KeptU m s t) : KeptU m s t := k h

theorem KeptP.cut {α : Type} {m : Nat} {s x : State} {t : α × State} (h : Kept m s x)
    (k : Kept m s x → KeptP m s t) : KeptP m s t := k h
theorem KeptT.cut {α β : Type} {m : Nat} {s x : State} {t : α × β × State} (h : Kept m s x)
    (k : Kept m s x → KeptT m s t) : KeptT m s t := k h
theorem KeptO.cut {m : Nat} {s x : State} {t : Option State} (h : Kept m s x)
    (k : Kept m s x → KeptO m s t) : KeptO m s t := k h
theorem KeptQ.cut {α : Type} {m : Nat} {s x : State} {t : Option (α × State)} (h : Kept m s x)
    (k : Kept m s x → KeptQ m s t) : KeptQ m s t := k h

theorem Kept.cutP {α : Type} {m : Nat} {s t : State} {x : α × State} (h : KeptP m s x)
    (k : KeptP m s x → Kept m s t) : Kept m s t := k h
theorem KeptP.cutP {α β : Type} {m : Nat} {s : State} {t : β × State} {x : α × State} (h : KeptP m s x)
    (k : KeptP m s x → KeptP m s t) : KeptP m s t := k h
theorem Kept.cutT {α β : Type} {m : Nat} {s t : State} {x : α × β × State} (h : KeptT m s x)
    (k : KeptT m s x → Kept m s t) : Kept m s t := k h
theorem KeptQ.map {α β : Type} {m : Nat} {s : State} {o : Option (α × State)} {f : α × State → β × State}
    (hf : ∀ r, (f r).2 = r.2) (h : KeptQ m s o) : KeptQ m s (o.map f) := by
  refine ⟨fun r t e => ?_⟩
  cases o with
  | none => cases e
  | some x =>
    have e' : f x = (r, t) := by simpa using e
    have e2 : x.2 = t := by rw [← hf x, e']
    exact e2 ▸ h.of x.1 x.2 rfl
theorem KeptO.getD {m : Nat} {s t : State} {o : Option State} (h : KeptO m s o) (h0 : Kept m s t) :
    Kept m s (o.getD t) := by
  cases o with
  | none => exact h0
  | some x => exact h.of x rfl
theorem KeptP.get {α : Type} {m : Nat} {s t : State} {p : α × State} {a : α} (h : p = (a, t)) (k : KeptP m s p) :
    Kept m s t := by
  subst h; exact k
theorem KeptT.get {α β : Type} {m : Nat} {s t : State} {p : α × β × State} {a : α} {b : β} (h : p = (a, b, t))
    (k : KeptT m s p) : Kept m s t := by
  subst h; exact k
theorem KeptO.get {m : Nat} {s t : State} {o : Option State} (h : o = Option.some t) (k : KeptO m s o) : Kept m s t := k.of t h
theorem KeptQ.get {α : Type} {m : Nat} {s t : State} {o : Option (α × State)} {a : α} (h : o = Option.some (a, t))
    (k : KeptQ m s o) : Kept m s t := k.of a t h
theorem KeptP.snd {α : Type} {m : Nat} {s : State} {p : α × State} (k : KeptP m s p) : Kept m s p.2 := k
theorem KeptT.snd {α β : Type} {m : Nat} {s : State} {p : α × β × State} (k : KeptT m s p) : Kept m s p.2.2 := k

theorem KeptP.foldl {α β : Type} {m : Nat} {s : State} (l : List β) (f : α × State → β → α × State) {p : α × State}
    (hf : ∀ q b, KeptP m s q → KeptP m s (f q b)) (h : KeptP m s p) : KeptP m s (l.foldl f p) := by
  induction l generalizing p with
  | nil => exact h
  | cons b l ih => exact ih (hf p b h)
theorem KeptT.foldl {α β γ : Type} {m : Nat} {s : State} (l : List β) (f : α × γ × State → β → α × γ × State)
    {p : α × γ × State} (hf : ∀ q b, KeptT m s q → KeptT m s (f q b)) (h : KeptT m s p) :
    KeptT m s (l.foldl f p) := by
  induction l generalizing p with
  | nil => exact h
  | cons b l ih => exact ih (hf p b h)
theorem Kept.foldl {β : Type} {m : Nat} {s : State} (l : List β) (f : State → β → State) {p : State}
    (hf : ∀ q b, Kept m s q → Kept m s (f q b)) (h : Kept m s p) : Kept m s (l.foldl f p) := by
  induction l generalizing p with
  | nil => exact h
  | cons b l ih => exact ih (hf p b h)

theorem canonical_iff (t : State) : t.canonical = true ↔
    Tbl.wf (resetWord t.fuse) t.regs = true ∧
    Tbl.wf (fun _ => none) t.stage = true ∧
    Tbl.wf (fun _ => none) t.latch = true ∧
    Tbl.wf (fun _ => (0 : Byte)) t.mem = true ∧
    Tbl.wf (fun _ => Link1.free) t.links = true ∧
    Tbl.wf (fun _ => none) t.recs = true ∧
    Tbl.wf (fun _ => Desc.unused) t.descs = true ∧
    Tbl.wf (fun _ => Fifo.none) t.fifos = true ∧
    Tbl.wf Partner.none t.partners = true ∧
    Tbl.wf (fun _ => Slice.empty) t.slices = true ∧
    Tbl.wf (fun _ => []) t.routes = true ∧
    Tbl.wf IrqSrc.reset t.irq = true ∧
    Tbl.wf (fun _ => EventQ.reset) t.eqs = true ∧
    Tbl.wf (fun _ => HostQ.reset) t.hostQs = true ∧
    Tbl.wf (fun _ => BcnPort.reset) t.bports = true ∧
    Tbl.wf (fun _ => BusLane.reset) t.bus = true ∧
    Tbl.wf (fun _ => NodeEnt.free) t.nodes = true ∧
    Tbl.wf (fun _ => Port.reset) t.ports = true ∧
    Tbl.wf (fun _ => none) t.scheds = true ∧
    Tbl.wf (fun _ => Timeline.stopped) t.timelines = true ∧
    Tbl.wf (fun _ => none) t.ctxs = true ∧
    Tbl.wf (fun _ => Quar.empty) t.quar = true ∧
    Tbl.wf (fun _ => Engine.unused) t.engines = true ∧
    Tbl.wf (fun _ => (0 : Byte)) t.shared = true ∧
    Tbl.wf (fun _ => Tile.none) t.tiles = true ∧
    Tbl.wf (fun _ => none) t.loads = true ∧
    Tbl.wf (fun _ => Spar.reset) t.spars = true := by
  simp only [State.canonical, Memory.wf, Bool.and_eq_true, and_assoc]

/-- A structure update: each field is what it was, or is in the mask and, if it is a table, stays canonical. -/
theorem Kept.upd {m : Nat} {s t : State}
    {x0 : List Instr} (h0 : x0 = t.pending)
    {x1 : Fuse} (h1 : x1 = t.fuse)
    {x2 : ModeCtl} (h2 : x2 = t.ctl ∨ m.testBit 2 = true)
    {x3 : Tbl Word} (h3 : x3 = t.regs ∨ m.testBit 3 = true ∧ (Tbl.wf (resetWord t.fuse) t.regs = true → Tbl.wf (resetWord t.fuse) x3 = true))
    {x4 : Tbl (Option Word)} (h4 : x4 = t.stage ∨ m.testBit 4 = true ∧ (Tbl.wf (fun _ => none) t.stage = true → Tbl.wf (fun _ => none) x4 = true))
    {x5 : Tbl (Option Word)} (h5 : x5 = t.latch ∨ m.testBit 5 = true ∧ (Tbl.wf (fun _ => none) t.latch = true → Tbl.wf (fun _ => none) x5 = true))
    {x6 : List Host.Cell} (h6 : x6 = t.mem ∨ m.testBit 6 = true ∧ (Tbl.wf (fun _ => (0 : Byte)) t.mem = true → Tbl.wf (fun _ => (0 : Byte)) x6 = true))
    {x7 : Tbl Link1} (h7 : x7 = t.links ∨ m.testBit 7 = true ∧ (Tbl.wf (fun _ => Link1.free) t.links = true → Tbl.wf (fun _ => Link1.free) x7 = true))
    {x8 : Tbl (Option Rec)} (h8 : x8 = t.recs ∨ m.testBit 8 = true ∧ (Tbl.wf (fun _ => none) t.recs = true → Tbl.wf (fun _ => none) x8 = true))
    {x9 : Tbl Desc} (h9 : x9 = t.descs ∨ m.testBit 9 = true ∧ (Tbl.wf (fun _ => Desc.unused) t.descs = true → Tbl.wf (fun _ => Desc.unused) x9 = true))
    {x10 : Tbl Fifo} (h10 : x10 = t.fifos ∨ m.testBit 10 = true ∧ (Tbl.wf (fun _ => Fifo.none) t.fifos = true → Tbl.wf (fun _ => Fifo.none) x10 = true))
    {x11 : Tbl Partner} (h11 : x11 = t.partners ∨ m.testBit 11 = true ∧ (Tbl.wf Partner.none t.partners = true → Tbl.wf Partner.none x11 = true))
    {x12 : Books} (h12 : x12 = t.books ∨ m.testBit 12 = true)
    {x13 : List Transit} (h13 : x13 = t.transit ∨ m.testBit 13 = true)
    {x14 : List HeldFrame} (h14 : x14 = t.held ∨ m.testBit 14 = true)
    {x15 : List WaitReq} (h15 : x15 = t.waits ∨ m.testBit 15 = true)
    {x16 : Nat} (h16 : x16 = t.nextId ∨ m.testBit 16 = true)
    {x17 : Tbl Word} (h17 : x17 = t.psnap ∨ m.testBit 17 = true)
    {x18 : List Nat} (h18 : x18 = t.retiredRows ∨ m.testBit 18 = true)
    {x19 : Tbl Nat} (h19 : x19 = t.spareRows ∨ m.testBit 19 = true)
    {x20 : Tbl Slice} (h20 : x20 = t.slices ∨ m.testBit 20 = true ∧ (Tbl.wf (fun _ => Slice.empty) t.slices = true → Tbl.wf (fun _ => Slice.empty) x20 = true))
    {x21 : Tbl (List Byte)} (h21 : x21 = t.routes ∨ m.testBit 21 = true ∧ (Tbl.wf (fun _ => []) t.routes = true → Tbl.wf (fun _ => []) x21 = true))
    {x22 : Tbl Nat} (h22 : x22 = t.routeOwners ∨ m.testBit 22 = true)
    {x23 : Tbl Nat} (h23 : x23 = t.tunSeq ∨ m.testBit 23 = true)
    {x24 : List Nat} (h24 : x24 = t.gwLate ∨ m.testBit 24 = true)
    {x25 : List Nat} (h25 : x25 = t.gwDown ∨ m.testBit 25 = true)
    {x26 : Tbl IrqSrc} (h26 : x26 = t.irq ∨ m.testBit 26 = true ∧ (Tbl.wf IrqSrc.reset t.irq = true → Tbl.wf IrqSrc.reset x26 = true))
    {x27 : Tbl EventQ} (h27 : x27 = t.eqs ∨ m.testBit 27 = true ∧ (Tbl.wf (fun _ => EventQ.reset) t.eqs = true → Tbl.wf (fun _ => EventQ.reset) x27 = true))
    {x28 : List (Nat × EvRec)} (h28 : x28 = t.hold ∨ m.testBit 28 = true)
    {x29 : HostLink} (h29 : x29 = t.host ∨ m.testBit 29 = true)
    {x30 : Tbl HostQ} (h30 : x30 = t.hostQs ∨ m.testBit 30 = true ∧ (Tbl.wf (fun _ => HostQ.reset) t.hostQs = true → Tbl.wf (fun _ => HostQ.reset) x30 = true))
    {x31 : Yewirak} (h31 : x31 = t.yw ∨ m.testBit 31 = true)
    {x32 : Beacon} (h32 : x32 = t.beacon ∨ m.testBit 32 = true)
    {x33 : Tbl BcnPort} (h33 : x33 = t.bports ∨ m.testBit 33 = true ∧ (Tbl.wf (fun _ => BcnPort.reset) t.bports = true → Tbl.wf (fun _ => BcnPort.reset) x33 = true))
    {x34 : Tbl BusLane} (h34 : x34 = t.bus ∨ m.testBit 34 = true ∧ (Tbl.wf (fun _ => BusLane.reset) t.bus = true → Tbl.wf (fun _ => BusLane.reset) x34 = true))
    {x35 : Tbl NodeEnt} (h35 : x35 = t.nodes ∨ m.testBit 35 = true ∧ (Tbl.wf (fun _ => NodeEnt.free) t.nodes = true → Tbl.wf (fun _ => NodeEnt.free) x35 = true))
    {x36 : Tbl Port} (h36 : x36 = t.ports ∨ m.testBit 36 = true ∧ (Tbl.wf (fun _ => Port.reset) t.ports = true → Tbl.wf (fun _ => Port.reset) x36 = true))
    {x37 : Option CycleCfg} (h37 : x37 = t.cycle ∨ m.testBit 37 = true)
    {x38 : Option Nat} (h38 : x38 = t.gridK ∨ m.testBit 38 = true)
    {x39 : Tbl (Option Schedule)} (h39 : x39 = t.scheds ∨ m.testBit 39 = true ∧ (Tbl.wf (fun _ => none) t.scheds = true → Tbl.wf (fun _ => none) x39 = true))
    {x40 : Tbl Timeline} (h40 : x40 = t.timelines ∨ m.testBit 40 = true ∧ (Tbl.wf (fun _ => Timeline.stopped) t.timelines = true → Tbl.wf (fun _ => Timeline.stopped) x40 = true))
    {x41 : Tbl (Option Ctx)} (h41 : x41 = t.ctxs ∨ m.testBit 41 = true ∧ (Tbl.wf (fun _ => none) t.ctxs = true → Tbl.wf (fun _ => none) x41 = true))
    {x42 : Tbl Quar} (h42 : x42 = t.quar ∨ m.testBit 42 = true ∧ (Tbl.wf (fun _ => Quar.empty) t.quar = true → Tbl.wf (fun _ => Quar.empty) x42 = true))
    {x43 : Tbl Bool} (h43 : x43 = t.chkRetired ∨ m.testBit 43 = true)
    {x44 : Tbl Engine} (h44 : x44 = t.engines ∨ m.testBit 44 = true ∧ (Tbl.wf (fun _ => Engine.unused) t.engines = true → Tbl.wf (fun _ => Engine.unused) x44 = true))
    {x45 : Tbl Byte} (h45 : x45 = t.shared ∨ m.testBit 45 = true ∧ (Tbl.wf (fun _ => (0 : Byte)) t.shared = true → Tbl.wf (fun _ => (0 : Byte)) x45 = true))
    {x46 : Tbl Tile} (h46 : x46 = t.tiles ∨ m.testBit 46 = true ∧ (Tbl.wf (fun _ => Tile.none) t.tiles = true → Tbl.wf (fun _ => Tile.none) x46 = true))
    {x47 : Tbl (Option LoadJob)} (h47 : x47 = t.loads ∨ m.testBit 47 = true ∧ (Tbl.wf (fun _ => none) t.loads = true → Tbl.wf (fun _ => none) x47 = true))
    {x48 : Option Structure} (h48 : x48 = t.struct ∨ m.testBit 48 = true)
    {x49 : Keeper} (h49 : x49 = t.keeper ∨ m.testBit 49 = true)
    {x50 : Power} (h50 : x50 = t.power ∨ m.testBit 50 = true)
    {x51 : Tbl Spar} (h51 : x51 = t.spars ∨ m.testBit 51 = true ∧ (Tbl.wf (fun _ => Spar.reset) t.spars = true → Tbl.wf (fun _ => Spar.reset) x51 = true))
    {x52 : Health} (h52 : x52 = t.health ∨ m.testBit 52 = true)
    {x53 : List Out} (h53 : x53 = t.out)
    {x54 : Nat} (h54 : x54 = t.free ∨ m.testBit 54 = true)
    (h : Kept m s t) :
    Kept m s (State.mk x0 x1 x2 x3 x4 x5 x6 x7 x8 x9 x10 x11 x12 x13 x14 x15 x16 x17 x18 x19 x20 x21 x22 x23 x24 x25 x26
      x27 x28 x29 x30 x31 x32 x33 x34 x35 x36 x37 x38 x39 x40 x41 x42 x43 x44 x45 x46 x47 x48 x49 x50 x51
      x52 x53 x54) := by
  refine Kept.step (Nat.and_self m) ⟨fun f => ?_, fun c => ?_, h1, h0, h53 ▸ List.suffix_refl _⟩ h
  · cases f
    · exact Or.inr h0
    · exact Or.inr h1
    · exact h2.symm
    · exact h3.symm.imp_left And.left
    · exact h4.symm.imp_left And.left
    · exact h5.symm.imp_left And.left
    · exact h6.symm.imp_left And.left
    · exact h7.symm.imp_left And.left
    · exact h8.symm.imp_left And.left
    · exact h9.symm.imp_left And.left
    · exact h10.symm.imp_left And.left
    · exact h11.symm.imp_left And.left
    · exact h12.symm
    · exact h13.symm
    · exact h14.symm
    · exact h15.symm
    · exact h16.symm
    · exact h17.symm
    · exact h18.symm
    · exact h19.symm
    · exact h20.symm.imp_left And.left
    · exact h21.symm.imp_left And.left
    · exact h22.symm
    · exact h23.symm
    · exact h24.symm
    · exact h25.symm
    · exact h26.symm.imp_left And.left
    · exact h27.symm.imp_left And.left
    · exact h28.symm
    · exact h29.symm
    · exact h30.symm.imp_left And.left
    · exact h31.symm
    · exact h32.symm
    · exact h33.symm.imp_left And.left
    · exact h34.symm.imp_left And.left
    · exact h35.symm.imp_left And.left
    · exact h36.symm.imp_left And.left
    · exact h37.symm
    · exact h38.symm
    · exact h39.symm.imp_left And.left
    · exact h40.symm.imp_left And.left
    · exact h41.symm.imp_left And.left
    · exact h42.symm.imp_left And.left
    · exact h43.symm
    · exact h44.symm.imp_left And.left
    · exact h45.symm.imp_left And.left
    · exact h46.symm.imp_left And.left
    · exact h47.symm.imp_left And.left
    · exact h48.symm
    · exact h49.symm
    · exact h50.symm
    · exact h51.symm.imp_left And.left
    · exact h52.symm
    · exact Or.inr h53
    · exact h54.symm
  · rw [canonical_iff] at c ⊢
    obtain ⟨c3, c4, c5, c6, c7, c8, c9, c10, c11, c20, c21, c26, c27, c30, c33, c34, c35, c36, c39, c40, c41, c42, c44, c45, c46, c47, c51⟩ := c
    refine ⟨?_, ?_, ?_, ?_, ?_, ?_, ?_, ?_, ?_, ?_, ?_, ?_, ?_, ?_, ?_, ?_, ?_, ?_, ?_, ?_, ?_, ?_, ?_, ?_, ?_, ?_, ?_⟩
    · have := h3.elim (fun e => e ▸ c3) (fun k => k.2 c3); exact h1 ▸ this
    · exact h4.elim (fun e => e ▸ c4) (fun k => k.2 c4)
    · exact h5.elim (fun e => e ▸ c5) (fun k => k.2 c5)
    · exact h6.elim (fun e => e ▸ c6) (fun k => k.2 c6)
    · exact h7.elim (fun e => e ▸ c7) (fun k => k.2 c7)
    · exact h8.elim (fun e => e ▸ c8) (fun k => k.2 c8)
    · exact h9.elim (fun e => e ▸ c9) (fun k => k.2 c9)
    · exact h10.elim (fun e => e ▸ c10) (fun k => k.2 c10)
    · exact h11.elim (fun e => e ▸ c11) (fun k => k.2 c11)
    · exact h20.elim (fun e => e ▸ c20) (fun k => k.2 c20)
    · exact h21.elim (fun e => e ▸ c21) (fun k => k.2 c21)
    · exact h26.elim (fun e => e ▸ c26) (fun k => k.2 c26)
    · exact h27.elim (fun e => e ▸ c27) (fun k => k.2 c27)
    · exact h30.elim (fun e => e ▸ c30) (fun k => k.2 c30)
    · exact h33.elim (fun e => e ▸ c33) (fun k => k.2 c33)
    · exact h34.elim (fun e => e ▸ c34) (fun k => k.2 c34)
    · exact h35.elim (fun e => e ▸ c35) (fun k => k.2 c35)
    · exact h36.elim (fun e => e ▸ c36) (fun k => k.2 c36)
    · exact h39.elim (fun e => e ▸ c39) (fun k => k.2 c39)
    · exact h40.elim (fun e => e ▸ c40) (fun k => k.2 c40)
    · exact h41.elim (fun e => e ▸ c41) (fun k => k.2 c41)
    · exact h42.elim (fun e => e ▸ c42) (fun k => k.2 c42)
    · exact h44.elim (fun e => e ▸ c44) (fun k => k.2 c44)
    · exact h45.elim (fun e => e ▸ c45) (fun k => k.2 c45)
    · exact h46.elim (fun e => e ▸ c46) (fun k => k.2 c46)
    · exact h47.elim (fun e => e ▸ c47) (fun k => k.2 c47)
    · exact h51.elim (fun e => e ▸ c51) (fun k => k.2 c51)

theorem Kept.set_ctl {m : Nat} {s0 t : State} {x : ModeCtl} (hm : 4 &&& m = 4) (h0 : Kept m s0 t) :
    Kept m s0 { t with ctl := x } :=
  Kept.step hm (Kept.upd rfl rfl (Or.inr (by decide)) (Or.inl rfl) (Or.inl rfl) (Or.inl rfl) (Or.inl rfl) (Or.inl
    rfl) (Or.inl rfl) (Or.inl rfl) (Or.inl rfl) (Or.inl rfl) (Or.inl rfl) (Or.inl rfl) (Or.inl rfl) (Or.inl rfl)
    (Or.inl rfl) (Or.inl rfl) (Or.inl rfl) (Or.inl rfl) (Or.inl rfl) (Or.inl rfl) (Or.inl rfl) (Or.inl rfl) (Or.inl
    rfl) (Or.inl rfl) (Or.inl rfl) (Or.inl rfl) (Or.inl rfl) (Or.inl rfl) (Or.inl rfl) (Or.inl rfl) (Or.inl rfl)
    (Or.inl rfl) (Or.inl rfl) (Or.inl rfl) (Or.inl rfl) (Or.inl rfl) (Or.inl rfl) (Or.inl rfl) (Or.inl rfl) (Or.inl
    rfl) (Or.inl rfl) (Or.inl rfl) (Or.inl rfl) (Or.inl rfl) (Or.inl rfl) (Or.inl rfl) (Or.inl rfl) (Or.inl rfl)
    (Or.inl rfl) (Or.inl rfl) (Or.inl rfl) rfl (Or.inl rfl) (Kept.refl _ t)) h0

theorem Kept.set_regs {m : Nat} {s0 t : State} {x : Tbl Word} (hw : Tbl.wf (resetWord t.fuse) t.regs = true → Tbl.wf (resetWord t.fuse) x = true) (hm : 8 &&& m = 8) (h0 : Kept m s0 t) :
    Kept m s0 { t with regs := x } :=
  Kept.step hm (Kept.upd rfl rfl (Or.inl rfl) (Or.inr ⟨by decide, hw⟩) (Or.inl rfl) (Or.inl rfl) (Or.inl rfl)
    (Or.inl rfl) (Or.inl rfl) (Or.inl rfl) (Or.inl rfl) (Or.inl rfl) (Or.inl rfl) (Or.inl rfl) (Or.inl rfl) (Or.inl
    rfl) (Or.inl rfl) (Or.inl rfl) (Or.inl rfl) (Or.inl rfl) (Or.inl rfl) (Or.inl rfl) (Or.inl rfl) (Or.inl rfl)
    (Or.inl rfl) (Or.inl rfl) (Or.inl rfl) (Or.inl rfl) (Or.inl rfl) (Or.inl rfl) (Or.inl rfl) (Or.inl rfl) (Or.inl
    rfl) (Or.inl rfl) (Or.inl rfl) (Or.inl rfl) (Or.inl rfl) (Or.inl rfl) (Or.inl rfl) (Or.inl rfl) (Or.inl rfl)
    (Or.inl rfl) (Or.inl rfl) (Or.inl rfl) (Or.inl rfl) (Or.inl rfl) (Or.inl rfl) (Or.inl rfl) (Or.inl rfl) (Or.inl
    rfl) (Or.inl rfl) (Or.inl rfl) (Or.inl rfl) rfl (Or.inl rfl) (Kept.refl _ t)) h0

theorem Kept.set_stage {m : Nat} {s0 t : State} {x : Tbl (Option Word)} (hw : Tbl.wf (fun _ => none) t.stage = true → Tbl.wf (fun _ => none) x = true) (hm : 16 &&& m = 16) (h0 : Kept m s0 t) :
    Kept m s0 { t with stage := x } :=
  Kept.step hm (Kept.upd rfl rfl (Or.inl rfl) (Or.inl rfl) (Or.inr ⟨by decide, hw⟩) (Or.inl rfl) (Or.inl rfl)
    (Or.inl rfl) (Or.inl rfl) (Or.inl rfl) (Or.inl rfl) (Or.inl rfl) (Or.inl rfl) (Or.inl rfl) (Or.inl rfl) (Or.inl
    rfl) (Or.inl rfl) (Or.inl rfl) (Or.inl rfl) (Or.inl rfl) (Or.inl rfl) (Or.inl rfl) (Or.inl rfl) (Or.inl rfl)
    (Or.inl rfl) (Or.inl rfl) (Or.inl rfl) (Or.inl rfl) (Or.inl rfl) (Or.inl rfl) (Or.inl rfl) (Or.inl rfl) (Or.inl
    rfl) (Or.inl rfl) (Or.inl rfl) (Or.inl rfl) (Or.inl rfl) (Or.inl rfl) (Or.inl rfl) (Or.inl rfl) (Or.inl rfl)
    (Or.inl rfl) (Or.inl rfl) (Or.inl rfl) (Or.inl rfl) (Or.inl rfl) (Or.inl rfl) (Or.inl rfl) (Or.inl rfl) (Or.inl
    rfl) (Or.inl rfl) (Or.inl rfl) (Or.inl rfl) rfl (Or.inl rfl) (Kept.refl _ t)) h0

theorem Kept.set_latch {m : Nat} {s0 t : State} {x : Tbl (Option Word)} (hw : Tbl.wf (fun _ => none) t.latch = true → Tbl.wf (fun _ => none) x = true) (hm : 32 &&& m = 32) (h0 : Kept m s0 t) :
    Kept m s0 { t with latch := x } :=
  Kept.step hm (Kept.upd rfl rfl (Or.inl rfl) (Or.inl rfl) (Or.inl rfl) (Or.inr ⟨by decide, hw⟩) (Or.inl rfl)
    (Or.inl rfl) (Or.inl rfl) (Or.inl rfl) (Or.inl rfl) (Or.inl rfl) (Or.inl rfl) (Or.inl rfl) (Or.inl rfl) (Or.inl
    rfl) (Or.inl rfl) (Or.inl rfl) (Or.inl rfl) (Or.inl rfl) (Or.inl rfl) (Or.inl rfl) (Or.inl rfl) (Or.inl rfl)
    (Or.inl rfl) (Or.inl rfl) (Or.inl rfl) (Or.inl rfl) (Or.inl rfl) (Or.inl rfl) (Or.inl rfl) (Or.inl rfl) (Or.inl
    rfl) (Or.inl rfl) (Or.inl rfl) (Or.inl rfl) (Or.inl rfl) (Or.inl rfl) (Or.inl rfl) (Or.inl rfl) (Or.inl rfl)
    (Or.inl rfl) (Or.inl rfl) (Or.inl rfl) (Or.inl rfl) (Or.inl rfl) (Or.inl rfl) (Or.inl rfl) (Or.inl rfl) (Or.inl
    rfl) (Or.inl rfl) (Or.inl rfl) (Or.inl rfl) rfl (Or.inl rfl) (Kept.refl _ t)) h0

theorem Kept.set_mem {m : Nat} {s0 t : State} {x : List Host.Cell} (hw : Tbl.wf (fun _ => (0 : Byte)) t.mem = true → Tbl.wf (fun _ => (0 : Byte)) x = true) (hm : 64 &&& m = 64) (h0 : Kept m s0 t) :
    Kept m s0 { t with mem := x } :=
  Kept.step hm (Kept.upd rfl rfl (Or.inl rfl) (Or.inl rfl) (Or.inl rfl) (Or.inl rfl) (Or.inr ⟨by decide, hw⟩)
    (Or.inl rfl) (Or.inl rfl) (Or.inl rfl) (Or.inl rfl) (Or.inl rfl) (Or.inl rfl) (Or.inl rfl) (Or.inl rfl) (Or.inl
    rfl) (Or.inl rfl) (Or.inl rfl) (Or.inl rfl) (Or.inl rfl) (Or.inl rfl) (Or.inl rfl) (Or.inl rfl) (Or.inl rfl)
    (Or.inl rfl) (Or.inl rfl) (Or.inl rfl) (Or.inl rfl) (Or.inl rfl) (Or.inl rfl) (Or.inl rfl) (Or.inl rfl) (Or.inl
    rfl) (Or.inl rfl) (Or.inl rfl) (Or.inl rfl) (Or.inl rfl) (Or.inl rfl) (Or.inl rfl) (Or.inl rfl) (Or.inl rfl)
    (Or.inl rfl) (Or.inl rfl) (Or.inl rfl) (Or.inl rfl) (Or.inl rfl) (Or.inl rfl) (Or.inl rfl) (Or.inl rfl) (Or.inl
    rfl) (Or.inl rfl) (Or.inl rfl) (Or.inl rfl) rfl (Or.inl rfl) (Kept.refl _ t)) h0

theorem Kept.set_links {m : Nat} {s0 t : State} {x : Tbl Link1} (hw : Tbl.wf (fun _ => Link1.free) t.links = true → Tbl.wf (fun _ => Link1.free) x = true) (hm : 128 &&& m = 128) (h0 : Kept m s0 t) :
    Kept m s0 { t with links := x } :=
  Kept.step hm (Kept.upd rfl rfl (Or.inl rfl) (Or.inl rfl) (Or.inl rfl) (Or.inl rfl) (Or.inl rfl) (Or.inr ⟨by
    decide, hw⟩) (Or.inl rfl) (Or.inl rfl) (Or.inl rfl) (Or.inl rfl) (Or.inl rfl) (Or.inl rfl) (Or.inl rfl) (Or.inl
    rfl) (Or.inl rfl) (Or.inl rfl) (Or.inl rfl) (Or.inl rfl) (Or.inl rfl) (Or.inl rfl) (Or.inl rfl) (Or.inl rfl)
    (Or.inl rfl) (Or.inl rfl) (Or.inl rfl) (Or.inl rfl) (Or.inl rfl) (Or.inl rfl) (Or.inl rfl) (Or.inl rfl) (Or.inl
    rfl) (Or.inl rfl) (Or.inl rfl) (Or.inl rfl) (Or.inl rfl) (Or.inl rfl) (Or.inl rfl) (Or.inl rfl) (Or.inl rfl)
    (Or.inl rfl) (Or.inl rfl) (Or.inl rfl) (Or.inl rfl) (Or.inl rfl) (Or.inl rfl) (Or.inl rfl) (Or.inl rfl) (Or.inl
    rfl) (Or.inl rfl) (Or.inl rfl) (Or.inl rfl) rfl (Or.inl rfl) (Kept.refl _ t)) h0

theorem Kept.set_recs {m : Nat} {s0 t : State} {x : Tbl (Option Rec)} (hw : Tbl.wf (fun _ => none) t.recs = true → Tbl.wf (fun _ => none) x = true) (hm : 256 &&& m = 256) (h0 : Kept m s0 t) :
    Kept m s0 { t with recs := x } :=
  Kept.step hm (Kept.upd rfl rfl (Or.inl rfl) (Or.inl rfl) (Or.inl rfl) (Or.inl rfl) (Or.inl rfl) (Or.inl rfl)
    (Or.inr ⟨by decide, hw⟩) (Or.inl rfl) (Or.inl rfl) (Or.inl rfl) (Or.inl rfl) (Or.inl rfl) (Or.inl rfl) (Or.inl
    rfl) (Or.inl rfl) (Or.inl rfl) (Or.inl rfl) (Or.inl rfl) (Or.inl rfl) (Or.inl rfl) (Or.inl rfl) (Or.inl rfl)
    (Or.inl rfl) (Or.inl rfl) (Or.inl rfl) (Or.inl rfl) (Or.inl rfl) (Or.inl rfl) (Or.inl rfl) (Or.inl rfl) (Or.inl
    rfl) (Or.inl rfl) (Or.inl rfl) (Or.inl rfl) (Or.inl rfl) (Or.inl rfl) (Or.inl rfl) (Or.inl rfl) (Or.inl rfl)
    (Or.inl rfl) (Or.inl rfl) (Or.inl rfl) (Or.inl rfl) (Or.inl rfl) (Or.inl rfl) (Or.inl rfl) (Or.inl rfl) (Or.inl
    rfl) (Or.inl rfl) (Or.inl rfl) (Or.inl rfl) rfl (Or.inl rfl) (Kept.refl _ t)) h0

theorem Kept.set_descs {m : Nat} {s0 t : State} {x : Tbl Desc} (hw : Tbl.wf (fun _ => Desc.unused) t.descs = true → Tbl.wf (fun _ => Desc.unused) x = true) (hm : 512 &&& m = 512) (h0 : Kept m s0 t) :
    Kept m s0 { t with descs := x } :=
  Kept.step hm (Kept.upd rfl rfl (Or.inl rfl) (Or.inl rfl) (Or.inl rfl) (Or.inl rfl) (Or.inl rfl) (Or.inl rfl)
    (Or.inl rfl) (Or.inr ⟨by decide, hw⟩) (Or.inl rfl) (Or.inl rfl) (Or.inl rfl) (Or.inl rfl) (Or.inl rfl) (Or.inl
    rfl) (Or.inl rfl) (Or.inl rfl) (Or.inl rfl) (Or.inl rfl) (Or.inl rfl) (Or.inl rfl) (Or.inl rfl) (Or.inl rfl)
    (Or.inl rfl) (Or.inl rfl) (Or.inl rfl) (Or.inl rfl) (Or.inl rfl) (Or.inl rfl) (Or.inl rfl) (Or.inl rfl) (Or.inl
    rfl) (Or.inl rfl) (Or.inl rfl) (Or.inl rfl) (Or.inl rfl) (Or.inl rfl) (Or.inl rfl) (Or.inl rfl) (Or.inl rfl)
    (Or.inl rfl) (Or.inl rfl) (Or.inl rfl) (Or.inl rfl) (Or.inl rfl) (Or.inl rfl) (Or.inl rfl) (Or.inl rfl) (Or.inl
    rfl) (Or.inl rfl) (Or.inl rfl) (Or.inl rfl) rfl (Or.inl rfl) (Kept.refl _ t)) h0

theorem Kept.set_fifos {m : Nat} {s0 t : State} {x : Tbl Fifo} (hw : Tbl.wf (fun _ => Fifo.none) t.fifos = true → Tbl.wf (fun _ => Fifo.none) x = true) (hm : 1024 &&& m = 1024) (h0 : Kept m s0 t) :
    Kept m s0 { t with fifos := x } :=
  Kept.step hm (Kept.upd rfl rfl (Or.inl rfl) (Or.inl rfl) (Or.inl rfl) (Or.inl rfl) (Or.inl rfl) (Or.inl rfl)
    (Or.inl rfl) (Or.inl rfl) (Or.inr ⟨by decide, hw⟩) (Or.inl rfl) (Or.inl rfl) (Or.inl rfl) (Or.inl rfl) (Or.inl
    rfl) (Or.inl rfl) (Or.inl rfl) (Or.inl rfl) (Or.inl rfl) (Or.inl rfl) (Or.inl rfl) (Or.inl rfl) (Or.inl rfl)
    (Or.inl rfl) (Or.inl rfl) (Or.inl rfl) (Or.inl rfl) (Or.inl rfl) (Or.inl rfl) (Or.inl rfl) (Or.inl rfl) (Or.inl
    rfl) (Or.inl rfl) (Or.inl rfl) (Or.inl rfl) (Or.inl rfl) (Or.inl rfl) (Or.inl rfl) (Or.inl rfl) (Or.inl rfl)
    (Or.inl rfl) (Or.inl rfl) (Or.inl rfl) (Or.inl rfl) (Or.inl rfl) (Or.inl rfl) (Or.inl rfl) (Or.inl rfl) (Or.inl
    rfl) (Or.inl rfl) (Or.inl rfl) (Or.inl rfl) rfl (Or.inl rfl) (Kept.refl _ t)) h0

theorem Kept.set_partners {m : Nat} {s0 t : State} {x : Tbl Partner} (hw : Tbl.wf Partner.none t.partners = true → Tbl.wf Partner.none x = true) (hm : 2048 &&& m = 2048) (h0 : Kept m s0 t) :
    Kept m s0 { t with partners := x } :=
  Kept.step hm (Kept.upd rfl rfl (Or.inl rfl) (Or.inl rfl) (Or.inl rfl) (Or.inl rfl) (Or.inl rfl) (Or.inl rfl)
    (Or.inl rfl) (Or.inl rfl) (Or.inl rfl) (Or.inr ⟨by decide, hw⟩) (Or.inl rfl) (Or.inl rfl) (Or.inl rfl) (Or.inl
    rfl) (Or.inl rfl) (Or.inl rfl) (Or.inl rfl) (Or.inl rfl) (Or.inl rfl) (Or.inl rfl) (Or.inl rfl) (Or.inl rfl)
    (Or.inl rfl) (Or.inl rfl) (Or.inl rfl) (Or.inl rfl) (Or.inl rfl) (Or.inl rfl) (Or.inl rfl) (Or.inl rfl) (Or.inl
    rfl) (Or.inl rfl) (Or.inl rfl) (Or.inl rfl) (Or.inl rfl) (Or.inl rfl) (Or.inl rfl) (Or.inl rfl) (Or.inl rfl)
    (Or.inl rfl) (Or.inl rfl) (Or.inl rfl) (Or.inl rfl) (Or.inl rfl) (Or.inl rfl) (Or.inl rfl) (Or.inl rfl) (Or.inl
    rfl) (Or.inl rfl) (Or.inl rfl) (Or.inl rfl) rfl (Or.inl rfl) (Kept.refl _ t)) h0

theorem Kept.set_books {m : Nat} {s0 t : State} {x : Books} (hm : 4096 &&& m = 4096) (h0 : Kept m s0 t) :
    Kept m s0 { t with books := x } :=
  Kept.step hm (Kept.upd rfl rfl (Or.inl rfl) (Or.inl rfl) (Or.inl rfl) (Or.inl rfl) (Or.inl rfl) (Or.inl rfl)
    (Or.inl rfl) (Or.inl rfl) (Or.inl rfl) (Or.inl rfl) (Or.inr (by decide)) (Or.inl rfl) (Or.inl rfl) (Or.inl rfl)
    (Or.inl rfl) (Or.inl rfl) (Or.inl rfl) (Or.inl rfl) (Or.inl rfl) (Or.inl rfl) (Or.inl rfl) (Or.inl rfl) (Or.inl
    rfl) (Or.inl rfl) (Or.inl rfl) (Or.inl rfl) (Or.inl rfl) (Or.inl rfl) (Or.inl rfl) (Or.inl rfl) (Or.inl rfl)
    (Or.inl rfl) (Or.inl rfl) (Or.inl rfl) (Or.inl rfl) (Or.inl rfl) (Or.inl rfl) (Or.inl rfl) (Or.inl rfl) (Or.inl
    rfl) (Or.inl rfl) (Or.inl rfl) (Or.inl rfl) (Or.inl rfl) (Or.inl rfl) (Or.inl rfl) (Or.inl rfl) (Or.inl rfl)
    (Or.inl rfl) (Or.inl rfl) (Or.inl rfl) rfl (Or.inl rfl) (Kept.refl _ t)) h0

theorem Kept.set_transit {m : Nat} {s0 t : State} {x : List Transit} (hm : 8192 &&& m = 8192) (h0 : Kept m s0 t) :
    Kept m s0 { t with transit := x } :=
  Kept.step hm (Kept.upd rfl rfl (Or.inl rfl) (Or.inl rfl) (Or.inl rfl) (Or.inl rfl) (Or.inl rfl) (Or.inl rfl)
    (Or.inl rfl) (Or.inl rfl) (Or.inl rfl) (Or.inl rfl) (Or.inl rfl) (Or.inr (by decide)) (Or.inl rfl) (Or.inl rfl)
    (Or.inl rfl) (Or.inl rfl) (Or.inl rfl) (Or.inl rfl) (Or.inl rfl) (Or.inl rfl) (Or.inl rfl) (Or.inl rfl) (Or.inl
    rfl) (Or.inl rfl) (Or.inl rfl) (Or.inl rfl) (Or.inl rfl) (Or.inl rfl) (Or.inl rfl) (Or.inl rfl) (Or.inl rfl)
    (Or.inl rfl) (Or.inl rfl) (Or.inl rfl) (Or.inl rfl) (Or.inl rfl) (Or.inl rfl) (Or.inl rfl) (Or.inl rfl) (Or.inl
    rfl) (Or.inl rfl) (Or.inl rfl) (Or.inl rfl) (Or.inl rfl) (Or.inl rfl) (Or.inl rfl) (Or.inl rfl) (Or.inl rfl)
    (Or.inl rfl) (Or.inl rfl) (Or.inl rfl) rfl (Or.inl rfl) (Kept.refl _ t)) h0

theorem Kept.set_held {m : Nat} {s0 t : State} {x : List HeldFrame} (hm : 16384 &&& m = 16384) (h0 : Kept m s0 t) :
    Kept m s0 { t with held := x } :=
  Kept.step hm (Kept.upd rfl rfl (Or.inl rfl) (Or.inl rfl) (Or.inl rfl) (Or.inl rfl) (Or.inl rfl) (Or.inl rfl)
    (Or.inl rfl) (Or.inl rfl) (Or.inl rfl) (Or.inl rfl) (Or.inl rfl) (Or.inl rfl) (Or.inr (by decide)) (Or.inl rfl)
    (Or.inl rfl) (Or.inl rfl) (Or.inl rfl) (Or.inl rfl) (Or.inl rfl) (Or.inl rfl) (Or.inl rfl) (Or.inl rfl) (Or.inl
    rfl) (Or.inl rfl) (Or.inl rfl) (Or.inl rfl) (Or.inl rfl) (Or.inl rfl) (Or.inl rfl) (Or.inl rfl) (Or.inl rfl)
    (Or.inl rfl) (Or.inl rfl) (Or.inl rfl) (Or.inl rfl) (Or.inl rfl) (Or.inl rfl) (Or.inl rfl) (Or.inl rfl) (Or.inl
    rfl) (Or.inl rfl) (Or.inl rfl) (Or.inl rfl) (Or.inl rfl) (Or.inl rfl) (Or.inl rfl) (Or.inl rfl) (Or.inl rfl)
    (Or.inl rfl) (Or.inl rfl) (Or.inl rfl) rfl (Or.inl rfl) (Kept.refl _ t)) h0

theorem Kept.set_waits {m : Nat} {s0 t : State} {x : List WaitReq} (hm : 32768 &&& m = 32768) (h0 : Kept m s0 t) :
    Kept m s0 { t with waits := x } :=
  Kept.step hm (Kept.upd rfl rfl (Or.inl rfl) (Or.inl rfl) (Or.inl rfl) (Or.inl rfl) (Or.inl rfl) (Or.inl rfl)
    (Or.inl rfl) (Or.inl rfl) (Or.inl rfl) (Or.inl rfl) (Or.inl rfl) (Or.inl rfl) (Or.inl rfl) (Or.inr (by decide))
    (Or.inl rfl) (Or.inl rfl) (Or.inl rfl) (Or.inl rfl) (Or.inl rfl) (Or.inl rfl) (Or.inl rfl) (Or.inl rfl) (Or.inl
    rfl) (Or.inl rfl) (Or.inl rfl) (Or.inl rfl) (Or.inl rfl) (Or.inl rfl) (Or.inl rfl) (Or.inl rfl) (Or.inl rfl)
    (Or.inl rfl) (Or.inl rfl) (Or.inl rfl) (Or.inl rfl) (Or.inl rfl) (Or.inl rfl) (Or.inl rfl) (Or.inl rfl) (Or.inl
    rfl) (Or.inl rfl) (Or.inl rfl) (Or.inl rfl) (Or.inl rfl) (Or.inl rfl) (Or.inl rfl) (Or.inl rfl) (Or.inl rfl)
    (Or.inl rfl) (Or.inl rfl) (Or.inl rfl) rfl (Or.inl rfl) (Kept.refl _ t)) h0

theorem Kept.set_nextId {m : Nat} {s0 t : State} {x : Nat} (hm : 65536 &&& m = 65536) (h0 : Kept m s0 t) :
    Kept m s0 { t with nextId := x } :=
  Kept.step hm (Kept.upd rfl rfl (Or.inl rfl) (Or.inl rfl) (Or.inl rfl) (Or.inl rfl) (Or.inl rfl) (Or.inl rfl)
    (Or.inl rfl) (Or.inl rfl) (Or.inl rfl) (Or.inl rfl) (Or.inl rfl) (Or.inl rfl) (Or.inl rfl) (Or.inl rfl) (Or.inr
    (by decide)) (Or.inl rfl) (Or.inl rfl) (Or.inl rfl) (Or.inl rfl) (Or.inl rfl) (Or.inl rfl) (Or.inl rfl) (Or.inl
    rfl) (Or.inl rfl) (Or.inl rfl) (Or.inl rfl) (Or.inl rfl) (Or.inl rfl) (Or.inl rfl) (Or.inl rfl) (Or.inl rfl)
    (Or.inl rfl) (Or.inl rfl) (Or.inl rfl) (Or.inl rfl) (Or.inl rfl) (Or.inl rfl) (Or.inl rfl) (Or.inl rfl) (Or.inl
    rfl) (Or.inl rfl) (Or.inl rfl) (Or.inl rfl) (Or.inl rfl) (Or.inl rfl) (Or.inl rfl) (Or.inl rfl) (Or.inl rfl)
    (Or.inl rfl) (Or.inl rfl) (Or.inl rfl) rfl (Or.inl rfl) (Kept.refl _ t)) h0

theorem Kept.set_psnap {m : Nat} {s0 t : State} {x : Tbl Word} (hm : 131072 &&& m = 131072) (h0 : Kept m s0 t) :
    Kept m s0 { t with psnap := x } :=
  Kept.step hm (Kept.upd rfl rfl (Or.inl rfl) (Or.inl rfl) (Or.inl rfl) (Or.inl rfl) (Or.inl rfl) (Or.inl rfl)
    (Or.inl rfl) (Or.inl rfl) (Or.inl rfl) (Or.inl rfl) (Or.inl rfl) (Or.inl rfl) (Or.inl rfl) (Or.inl rfl) (Or.inl
    rfl) (Or.inr (by decide)) (Or.inl rfl) (Or.inl rfl) (Or.inl rfl) (Or.inl rfl) (Or.inl rfl) (Or.inl rfl) (Or.inl
    rfl) (Or.inl rfl) (Or.inl rfl) (Or.inl rfl) (Or.inl rfl) (Or.inl rfl) (Or.inl rfl) (Or.inl rfl) (Or.inl rfl)
    (Or.inl rfl) (Or.inl rfl) (Or.inl rfl) (Or.inl rfl) (Or.inl rfl) (Or.inl rfl) (Or.inl rfl) (Or.inl rfl) (Or.inl
    rfl) (Or.inl rfl) (Or.inl rfl) (Or.inl rfl) (Or.inl rfl) (Or.inl rfl) (Or.inl rfl) (Or.inl rfl) (Or.inl rfl)
    (Or.inl rfl) (Or.inl rfl) (Or.inl rfl) rfl (Or.inl rfl) (Kept.refl _ t)) h0

theorem Kept.set_retiredRows {m : Nat} {s0 t : State} {x : List Nat} (hm : 262144 &&& m = 262144) (h0 : Kept m s0 t) :
    Kept m s0 { t with retiredRows := x } :=
  Kept.step hm (Kept.upd rfl rfl (Or.inl rfl) (Or.inl rfl) (Or.inl rfl) (Or.inl rfl) (Or.inl rfl) (Or.inl rfl)
    (Or.inl rfl) (Or.inl rfl) (Or.inl rfl) (Or.inl rfl) (Or.inl rfl) (Or.inl rfl) (Or.inl rfl) (Or.inl rfl) (Or.inl
    rfl) (Or.inl rfl) (Or.inr (by decide)) (Or.inl rfl) (Or.inl rfl) (Or.inl rfl) (Or.inl rfl) (Or.inl rfl) (Or.inl
    rfl) (Or.inl rfl) (Or.inl rfl) (Or.inl rfl) (Or.inl rfl) (Or.inl rfl) (Or.inl rfl) (Or.inl rfl) (Or.inl rfl)
    (Or.inl rfl) (Or.inl rfl) (Or.inl rfl) (Or.inl rfl) (Or.inl rfl) (Or.inl rfl) (Or.inl rfl) (Or.inl rfl) (Or.inl
    rfl) (Or.inl rfl) (Or.inl rfl) (Or.inl rfl) (Or.inl rfl) (Or.inl rfl) (Or.inl rfl) (Or.inl rfl) (Or.inl rfl)
    (Or.inl rfl) (Or.inl rfl) (Or.inl rfl) rfl (Or.inl rfl) (Kept.refl _ t)) h0

theorem Kept.set_spareRows {m : Nat} {s0 t : State} {x : Tbl Nat} (hm : 524288 &&& m = 524288) (h0 : Kept m s0 t) :
    Kept m s0 { t with spareRows := x } :=
  Kept.step hm (Kept.upd rfl rfl (Or.inl rfl) (Or.inl rfl) (Or.inl rfl) (Or.inl rfl) (Or.inl rfl) (Or.inl rfl)
    (Or.inl rfl) (Or.inl rfl) (Or.inl rfl) (Or.inl rfl) (Or.inl rfl) (Or.inl rfl) (Or.inl rfl) (Or.inl rfl) (Or.inl
    rfl) (Or.inl rfl) (Or.inl rfl) (Or.inr (by decide)) (Or.inl rfl) (Or.inl rfl) (Or.inl rfl) (Or.inl rfl) (Or.inl
    rfl) (Or.inl rfl) (Or.inl rfl) (Or.inl rfl) (Or.inl rfl) (Or.inl rfl) (Or.inl rfl) (Or.inl rfl) (Or.inl rfl)
    (Or.inl rfl) (Or.inl rfl) (Or.inl rfl) (Or.inl rfl) (Or.inl rfl) (Or.inl rfl) (Or.inl rfl) (Or.inl rfl) (Or.inl
    rfl) (Or.inl rfl) (Or.inl rfl) (Or.inl rfl) (Or.inl rfl) (Or.inl rfl) (Or.inl rfl) (Or.inl rfl) (Or.inl rfl)
    (Or.inl rfl) (Or.inl rfl) (Or.inl rfl) rfl (Or.inl rfl) (Kept.refl _ t)) h0

theorem Kept.set_slices {m : Nat} {s0 t : State} {x : Tbl Slice} (hw : Tbl.wf (fun _ => Slice.empty) t.slices = true → Tbl.wf (fun _ => Slice.empty) x = true) (hm : 1048576 &&& m = 1048576) (h0 : Kept m s0 t) :
    Kept m s0 { t with slices := x } :=
  Kept.step hm (Kept.upd rfl rfl (Or.inl rfl) (Or.inl rfl) (Or.inl rfl) (Or.inl rfl) (Or.inl rfl) (Or.inl rfl)
    (Or.inl rfl) (Or.inl rfl) (Or.inl rfl) (Or.inl rfl) (Or.inl rfl) (Or.inl rfl) (Or.inl rfl) (Or.inl rfl) (Or.inl
    rfl) (Or.inl rfl) (Or.inl rfl) (Or.inl rfl) (Or.inr ⟨by decide, hw⟩) (Or.inl rfl) (Or.inl rfl) (Or.inl rfl)
    (Or.inl rfl) (Or.inl rfl) (Or.inl rfl) (Or.inl rfl) (Or.inl rfl) (Or.inl rfl) (Or.inl rfl) (Or.inl rfl) (Or.inl
    rfl) (Or.inl rfl) (Or.inl rfl) (Or.inl rfl) (Or.inl rfl) (Or.inl rfl) (Or.inl rfl) (Or.inl rfl) (Or.inl rfl)
    (Or.inl rfl) (Or.inl rfl) (Or.inl rfl) (Or.inl rfl) (Or.inl rfl) (Or.inl rfl) (Or.inl rfl) (Or.inl rfl) (Or.inl
    rfl) (Or.inl rfl) (Or.inl rfl) (Or.inl rfl) rfl (Or.inl rfl) (Kept.refl _ t)) h0

theorem Kept.set_routes {m : Nat} {s0 t : State} {x : Tbl (List Byte)} (hw : Tbl.wf (fun _ => []) t.routes = true → Tbl.wf (fun _ => []) x = true) (hm : 2097152 &&& m = 2097152) (h0 : Kept m s0 t) :
    Kept m s0 { t with routes := x } :=
  Kept.step hm (Kept.upd rfl rfl (Or.inl rfl) (Or.inl rfl) (Or.inl rfl) (Or.inl rfl) (Or.inl rfl) (Or.inl rfl)
    (Or.inl rfl) (Or.inl rfl) (Or.inl rfl) (Or.inl rfl) (Or.inl rfl) (Or.inl rfl) (Or.inl rfl) (Or.inl rfl) (Or.inl
    rfl) (Or.inl rfl) (Or.inl rfl) (Or.inl rfl) (Or.inl rfl) (Or.inr ⟨by decide, hw⟩) (Or.inl rfl) (Or.inl rfl)
    (Or.inl rfl) (Or.inl rfl) (Or.inl rfl) (Or.inl rfl) (Or.inl rfl) (Or.inl rfl) (Or.inl rfl) (Or.inl rfl) (Or.inl
    rfl) (Or.inl rfl) (Or.inl rfl) (Or.inl rfl) (Or.inl rfl) (Or.inl rfl) (Or.inl rfl) (Or.inl rfl) (Or.inl rfl)
    (Or.inl rfl) (Or.inl rfl) (Or.inl rfl) (Or.inl rfl) (Or.inl rfl) (Or.inl rfl) (Or.inl rfl) (Or.inl rfl) (Or.inl
    rfl) (Or.inl rfl) (Or.inl rfl) (Or.inl rfl) rfl (Or.inl rfl) (Kept.refl _ t)) h0

theorem Kept.set_routeOwners {m : Nat} {s0 t : State} {x : Tbl Nat} (hm : 4194304 &&& m = 4194304) (h0 : Kept m s0 t) :
    Kept m s0 { t with routeOwners := x } :=
  Kept.step hm (Kept.upd rfl rfl (Or.inl rfl) (Or.inl rfl) (Or.inl rfl) (Or.inl rfl) (Or.inl rfl) (Or.inl rfl)
    (Or.inl rfl) (Or.inl rfl) (Or.inl rfl) (Or.inl rfl) (Or.inl rfl) (Or.inl rfl) (Or.inl rfl) (Or.inl rfl) (Or.inl
    rfl) (Or.inl rfl) (Or.inl rfl) (Or.inl rfl) (Or.inl rfl) (Or.inl rfl) (Or.inr (by decide)) (Or.inl rfl) (Or.inl
    rfl) (Or.inl rfl) (Or.inl rfl) (Or.inl rfl) (Or.inl rfl) (Or.inl rfl) (Or.inl rfl) (Or.inl rfl) (Or.inl rfl)
    (Or.inl rfl) (Or.inl rfl) (Or.inl rfl) (Or.inl rfl) (Or.inl rfl) (Or.inl rfl) (Or.inl rfl) (Or.inl rfl) (Or.inl
    rfl) (Or.inl rfl) (Or.inl rfl) (Or.inl rfl) (Or.inl rfl) (Or.inl rfl) (Or.inl rfl) (Or.inl rfl) (Or.inl rfl)
    (Or.inl rfl) (Or.inl rfl) (Or.inl rfl) rfl (Or.inl rfl) (Kept.refl _ t)) h0

theorem Kept.set_tunSeq {m : Nat} {s0 t : State} {x : Tbl Nat} (hm : 8388608 &&& m = 8388608) (h0 : Kept m s0 t) :
    Kept m s0 { t with tunSeq := x } :=
  Kept.step hm (Kept.upd rfl rfl (Or.inl rfl) (Or.inl rfl) (Or.inl rfl) (Or.inl rfl) (Or.inl rfl) (Or.inl rfl)
    (Or.inl rfl) (Or.inl rfl) (Or.inl rfl) (Or.inl rfl) (Or.inl rfl) (Or.inl rfl) (Or.inl rfl) (Or.inl rfl) (Or.inl
    rfl) (Or.inl rfl) (Or.inl rfl) (Or.inl rfl) (Or.inl rfl) (Or.inl rfl) (Or.inl rfl) (Or.inr (by decide)) (Or.inl
    rfl) (Or.inl rfl) (Or.inl rfl) (Or.inl rfl) (Or.inl rfl) (Or.inl rfl) (Or.inl rfl) (Or.inl rfl) (Or.inl rfl)
    (Or.inl rfl) (Or.inl rfl) (Or.inl rfl) (Or.inl rfl) (Or.inl rfl) (Or.inl rfl) (Or.inl rfl) (Or.inl rfl) (Or.inl
    rfl) (Or.inl rfl) (Or.inl rfl) (Or.inl rfl) (Or.inl rfl) (Or.inl rfl) (Or.inl rfl) (Or.inl rfl) (Or.inl rfl)
    (Or.inl rfl) (Or.inl rfl) (Or.inl rfl) rfl (Or.inl rfl) (Kept.refl _ t)) h0

theorem Kept.set_gwLate {m : Nat} {s0 t : State} {x : List Nat} (hm : 16777216 &&& m = 16777216) (h0 : Kept m s0 t) :
    Kept m s0 { t with gwLate := x } :=
  Kept.step hm (Kept.upd rfl rfl (Or.inl rfl) (Or.inl rfl) (Or.inl rfl) (Or.inl rfl) (Or.inl rfl) (Or.inl rfl)
    (Or.inl rfl) (Or.inl rfl) (Or.inl rfl) (Or.inl rfl) (Or.inl rfl) (Or.inl rfl) (Or.inl rfl) (Or.inl rfl) (Or.inl
    rfl) (Or.inl rfl) (Or.inl rfl) (Or.inl rfl) (Or.inl rfl) (Or.inl rfl) (Or.inl rfl) (Or.inl rfl) (Or.inr (by
    decide)) (Or.inl rfl) (Or.inl rfl) (Or.inl rfl) (Or.inl rfl) (Or.inl rfl) (Or.inl rfl) (Or.inl rfl) (Or.inl rfl)
    (Or.inl rfl) (Or.inl rfl) (Or.inl rfl) (Or.inl rfl) (Or.inl rfl) (Or.inl rfl) (Or.inl rfl) (Or.inl rfl) (Or.inl
    rfl) (Or.inl rfl) (Or.inl rfl) (Or.inl rfl) (Or.inl rfl) (Or.inl rfl) (Or.inl rfl) (Or.inl rfl) (Or.inl rfl)
    (Or.inl rfl) (Or.inl rfl) (Or.inl rfl) rfl (Or.inl rfl) (Kept.refl _ t)) h0

theorem Kept.set_gwDown {m : Nat} {s0 t : State} {x : List Nat} (hm : 33554432 &&& m = 33554432) (h0 : Kept m s0 t) :
    Kept m s0 { t with gwDown := x } :=
  Kept.step hm (Kept.upd rfl rfl (Or.inl rfl) (Or.inl rfl) (Or.inl rfl) (Or.inl rfl) (Or.inl rfl) (Or.inl rfl)
    (Or.inl rfl) (Or.inl rfl) (Or.inl rfl) (Or.inl rfl) (Or.inl rfl) (Or.inl rfl) (Or.inl rfl) (Or.inl rfl) (Or.inl
    rfl) (Or.inl rfl) (Or.inl rfl) (Or.inl rfl) (Or.inl rfl) (Or.inl rfl) (Or.inl rfl) (Or.inl rfl) (Or.inl rfl)
    (Or.inr (by decide)) (Or.inl rfl) (Or.inl rfl) (Or.inl rfl) (Or.inl rfl) (Or.inl rfl) (Or.inl rfl) (Or.inl rfl)
    (Or.inl rfl) (Or.inl rfl) (Or.inl rfl) (Or.inl rfl) (Or.inl rfl) (Or.inl rfl) (Or.inl rfl) (Or.inl rfl) (Or.inl
    rfl) (Or.inl rfl) (Or.inl rfl) (Or.inl rfl) (Or.inl rfl) (Or.inl rfl) (Or.inl rfl) (Or.inl rfl) (Or.inl rfl)
    (Or.inl rfl) (Or.inl rfl) (Or.inl rfl) rfl (Or.inl rfl) (Kept.refl _ t)) h0

theorem Kept.set_irq {m : Nat} {s0 t : State} {x : Tbl IrqSrc} (hw : Tbl.wf IrqSrc.reset t.irq = true → Tbl.wf IrqSrc.reset x = true) (hm : 67108864 &&& m = 67108864) (h0 : Kept m s0 t) :
    Kept m s0 { t with irq := x } :=
  Kept.step hm (Kept.upd rfl rfl (Or.inl rfl) (Or.inl rfl) (Or.inl rfl) (Or.inl rfl) (Or.inl rfl) (Or.inl rfl)
    (Or.inl rfl) (Or.inl rfl) (Or.inl rfl) (Or.inl rfl) (Or.inl rfl) (Or.inl rfl) (Or.inl rfl) (Or.inl rfl) (Or.inl
    rfl) (Or.inl rfl) (Or.inl rfl) (Or.inl rfl) (Or.inl rfl) (Or.inl rfl) (Or.inl rfl) (Or.inl rfl) (Or.inl rfl)
    (Or.inl rfl) (Or.inr ⟨by decide, hw⟩) (Or.inl rfl) (Or.inl rfl) (Or.inl rfl) (Or.inl rfl) (Or.inl rfl) (Or.inl
    rfl) (Or.inl rfl) (Or.inl rfl) (Or.inl rfl) (Or.inl rfl) (Or.inl rfl) (Or.inl rfl) (Or.inl rfl) (Or.inl rfl)
    (Or.inl rfl) (Or.inl rfl) (Or.inl rfl) (Or.inl rfl) (Or.inl rfl) (Or.inl rfl) (Or.inl rfl) (Or.inl rfl) (Or.inl
    rfl) (Or.inl rfl) (Or.inl rfl) (Or.inl rfl) rfl (Or.inl rfl) (Kept.refl _ t)) h0

theorem Kept.set_eqs {m : Nat} {s0 t : State} {x : Tbl EventQ} (hw : Tbl.wf (fun _ => EventQ.reset) t.eqs = true → Tbl.wf (fun _ => EventQ.reset) x = true) (hm : 134217728 &&& m = 134217728) (h0 : Kept m s0 t) :
    Kept m s0 { t with eqs := x } :=
  Kept.step hm (Kept.upd rfl rfl (Or.inl rfl) (Or.inl rfl) (Or.inl rfl) (Or.inl rfl) (Or.inl rfl) (Or.inl rfl)
    (Or.inl rfl) (Or.inl rfl) (Or.inl rfl) (Or.inl rfl) (Or.inl rfl) (Or.inl rfl) (Or.inl rfl) (Or.inl rfl) (Or.inl
    rfl) (Or.inl rfl) (Or.inl rfl) (Or.inl rfl) (Or.inl rfl) (Or.inl rfl) (Or.inl rfl) (Or.inl rfl) (Or.inl rfl)
    (Or.inl rfl) (Or.inl rfl) (Or.inr ⟨by decide, hw⟩) (Or.inl rfl) (Or.inl rfl) (Or.inl rfl) (Or.inl rfl) (Or.inl
    rfl) (Or.inl rfl) (Or.inl rfl) (Or.inl rfl) (Or.inl rfl) (Or.inl rfl) (Or.inl rfl) (Or.inl rfl) (Or.inl rfl)
    (Or.inl rfl) (Or.inl rfl) (Or.inl rfl) (Or.inl rfl) (Or.inl rfl) (Or.inl rfl) (Or.inl rfl) (Or.inl rfl) (Or.inl
    rfl) (Or.inl rfl) (Or.inl rfl) (Or.inl rfl) rfl (Or.inl rfl) (Kept.refl _ t)) h0

theorem Kept.set_hold {m : Nat} {s0 t : State} {x : List (Nat × EvRec)} (hm : 268435456 &&& m = 268435456) (h0 : Kept m s0 t) :
    Kept m s0 { t with hold := x } :=
  Kept.step hm (Kept.upd rfl rfl (Or.inl rfl) (Or.inl rfl) (Or.inl rfl) (Or.inl rfl) (Or.inl rfl) (Or.inl rfl)
    (Or.inl rfl) (Or.inl rfl) (Or.inl rfl) (Or.inl rfl) (Or.inl rfl) (Or.inl rfl) (Or.inl rfl) (Or.inl rfl) (Or.inl
    rfl) (Or.inl rfl) (Or.inl rfl) (Or.inl rfl) (Or.inl rfl) (Or.inl rfl) (Or.inl rfl) (Or.inl rfl) (Or.inl rfl)
    (Or.inl rfl) (Or.inl rfl) (Or.inl rfl) (Or.inr (by decide)) (Or.inl rfl) (Or.inl rfl) (Or.inl rfl) (Or.inl rfl)
    (Or.inl rfl) (Or.inl rfl) (Or.inl rfl) (Or.inl rfl) (Or.inl rfl) (Or.inl rfl) (Or.inl rfl) (Or.inl rfl) (Or.inl
    rfl) (Or.inl rfl) (Or.inl rfl) (Or.inl rfl) (Or.inl rfl) (Or.inl rfl) (Or.inl rfl) (Or.inl rfl) (Or.inl rfl)
    (Or.inl rfl) (Or.inl rfl) (Or.inl rfl) rfl (Or.inl rfl) (Kept.refl _ t)) h0

theorem Kept.set_host {m : Nat} {s0 t : State} {x : HostLink} (hm : 536870912 &&& m = 536870912) (h0 : Kept m s0 t) :
    Kept m s0 { t with host := x } :=
  Kept.step hm (Kept.upd rfl rfl (Or.inl rfl) (Or.inl rfl) (Or.inl rfl) (Or.inl rfl) (Or.inl rfl) (Or.inl rfl)
    (Or.inl rfl) (Or.inl rfl) (Or.inl rfl) (Or.inl rfl) (Or.inl rfl) (Or.inl rfl) (Or.inl rfl) (Or.inl rfl) (Or.inl
    rfl) (Or.inl rfl) (Or.inl rfl) (Or.inl rfl) (Or.inl rfl) (Or.inl rfl) (Or.inl rfl) (Or.inl rfl) (Or.inl rfl)
    (Or.inl rfl) (Or.inl rfl) (Or.inl rfl) (Or.inl rfl) (Or.inr (by decide)) (Or.inl rfl) (Or.inl rfl) (Or.inl rfl)
    (Or.inl rfl) (Or.inl rfl) (Or.inl rfl) (Or.inl rfl) (Or.inl rfl) (Or.inl rfl) (Or.inl rfl) (Or.inl rfl) (Or.inl
    rfl) (Or.inl rfl) (Or.inl rfl) (Or.inl rfl) (Or.inl rfl) (Or.inl rfl) (Or.inl rfl) (Or.inl rfl) (Or.inl rfl)
    (Or.inl rfl) (Or.inl rfl) (Or.inl rfl) rfl (Or.inl rfl) (Kept.refl _ t)) h0

theorem Kept.set_hostQs {m : Nat} {s0 t : State} {x : Tbl HostQ} (hw : Tbl.wf (fun _ => HostQ.reset) t.hostQs = true → Tbl.wf (fun _ => HostQ.reset) x = true) (hm : 1073741824 &&& m = 1073741824) (h0 : Kept m s0 t) :
    Kept m s0 { t with hostQs := x } :=
  Kept.step hm (Kept.upd rfl rfl (Or.inl rfl) (Or.inl rfl) (Or.inl rfl) (Or.inl rfl) (Or.inl rfl) (Or.inl rfl)
    (Or.inl rfl) (Or.inl rfl) (Or.inl rfl) (Or.inl rfl) (Or.inl rfl) (Or.inl rfl) (Or.inl rfl) (Or.inl rfl) (Or.inl
    rfl) (Or.inl rfl) (Or.inl rfl) (Or.inl rfl) (Or.inl rfl) (Or.inl rfl) (Or.inl rfl) (Or.inl rfl) (Or.inl rfl)
    (Or.inl rfl) (Or.inl rfl) (Or.inl rfl) (Or.inl rfl) (Or.inl rfl) (Or.inr ⟨by decide, hw⟩) (Or.inl rfl) (Or.inl
    rfl) (Or.inl rfl) (Or.inl rfl) (Or.inl rfl) (Or.inl rfl) (Or.inl rfl) (Or.inl rfl) (Or.inl rfl) (Or.inl rfl)
    (Or.inl rfl) (Or.inl rfl) (Or.inl rfl) (Or.inl rfl) (Or.inl rfl) (Or.inl rfl) (Or.inl rfl) (Or.inl rfl) (Or.inl
    rfl) (Or.inl rfl) (Or.inl rfl) (Or.inl rfl) rfl (Or.inl rfl) (Kept.refl _ t)) h0

theorem Kept.set_yw {m : Nat} {s0 t : State} {x : Yewirak} (hm : 2147483648 &&& m = 2147483648) (h0 : Kept m s0 t) :
    Kept m s0 { t with yw := x } :=
  Kept.step hm (Kept.upd rfl rfl (Or.inl rfl) (Or.inl rfl) (Or.inl rfl) (Or.inl rfl) (Or.inl rfl) (Or.inl rfl)
    (Or.inl rfl) (Or.inl rfl) (Or.inl rfl) (Or.inl rfl) (Or.inl rfl) (Or.inl rfl) (Or.inl rfl) (Or.inl rfl) (Or.inl
    rfl) (Or.inl rfl) (Or.inl rfl) (Or.inl rfl) (Or.inl rfl) (Or.inl rfl) (Or.inl rfl) (Or.inl rfl) (Or.inl rfl)
    (Or.inl rfl) (Or.inl rfl) (Or.inl rfl) (Or.inl rfl) (Or.inl rfl) (Or.inl rfl) (Or.inr (by decide)) (Or.inl rfl)
    (Or.inl rfl) (Or.inl rfl) (Or.inl rfl) (Or.inl rfl) (Or.inl rfl) (Or.inl rfl) (Or.inl rfl) (Or.inl rfl) (Or.inl
    rfl) (Or.inl rfl) (Or.inl rfl) (Or.inl rfl) (Or.inl rfl) (Or.inl rfl) (Or.inl rfl) (Or.inl rfl) (Or.inl rfl)
    (Or.inl rfl) (Or.inl rfl) (Or.inl rfl) rfl (Or.inl rfl) (Kept.refl _ t)) h0

theorem Kept.set_beacon {m : Nat} {s0 t : State} {x : Beacon} (hm : 4294967296 &&& m = 4294967296) (h0 : Kept m s0 t) :
    Kept m s0 { t with beacon := x } :=
  Kept.step hm (Kept.upd rfl rfl (Or.inl rfl) (Or.inl rfl) (Or.inl rfl) (Or.inl rfl) (Or.inl rfl) (Or.inl rfl)
    (Or.inl rfl) (Or.inl rfl) (Or.inl rfl) (Or.inl rfl) (Or.inl rfl) (Or.inl rfl) (Or.inl rfl) (Or.inl rfl) (Or.inl
    rfl) (Or.inl rfl) (Or.inl rfl) (Or.inl rfl) (Or.inl rfl) (Or.inl rfl) (Or.inl rfl) (Or.inl rfl) (Or.inl rfl)
    (Or.inl rfl) (Or.inl rfl) (Or.inl rfl) (Or.inl rfl) (Or.inl rfl) (Or.inl rfl) (Or.inl rfl) (Or.inr (by decide))
    (Or.inl rfl) (Or.inl rfl) (Or.inl rfl) (Or.inl rfl) (Or.inl rfl) (Or.inl rfl) (Or.inl rfl) (Or.inl rfl) (Or.inl
    rfl) (Or.inl rfl) (Or.inl rfl) (Or.inl rfl) (Or.inl rfl) (Or.inl rfl) (Or.inl rfl) (Or.inl rfl) (Or.inl rfl)
    (Or.inl rfl) (Or.inl rfl) (Or.inl rfl) rfl (Or.inl rfl) (Kept.refl _ t)) h0

theorem Kept.set_bports {m : Nat} {s0 t : State} {x : Tbl BcnPort} (hw : Tbl.wf (fun _ => BcnPort.reset) t.bports = true → Tbl.wf (fun _ => BcnPort.reset) x = true) (hm : 8589934592 &&& m = 8589934592) (h0 : Kept m s0 t) :
    Kept m s0 { t with bports := x } :=
  Kept.step hm (Kept.upd rfl rfl (Or.inl rfl) (Or.inl rfl) (Or.inl rfl) (Or.inl rfl) (Or.inl rfl) (Or.inl rfl)
    (Or.inl rfl) (Or.inl rfl) (Or.inl rfl) (Or.inl rfl) (Or.inl rfl) (Or.inl rfl) (Or.inl rfl) (Or.inl rfl) (Or.inl
    rfl) (Or.inl rfl) (Or.inl rfl) (Or.inl rfl) (Or.inl rfl) (Or.inl rfl) (Or.inl rfl) (Or.inl rfl) (Or.inl rfl)
    (Or.inl rfl) (Or.inl rfl) (Or.inl rfl) (Or.inl rfl) (Or.inl rfl) (Or.inl rfl) (Or.inl rfl) (Or.inl rfl) (Or.inr
    ⟨by decide, hw⟩) (Or.inl rfl) (Or.inl rfl) (Or.inl rfl) (Or.inl rfl) (Or.inl rfl) (Or.inl rfl) (Or.inl rfl)
    (Or.inl rfl) (Or.inl rfl) (Or.inl rfl) (Or.inl rfl) (Or.inl rfl) (Or.inl rfl) (Or.inl rfl) (Or.inl rfl) (Or.inl
    rfl) (Or.inl rfl) (Or.inl rfl) (Or.inl rfl) rfl (Or.inl rfl) (Kept.refl _ t)) h0

theorem Kept.set_bus {m : Nat} {s0 t : State} {x : Tbl BusLane} (hw : Tbl.wf (fun _ => BusLane.reset) t.bus = true → Tbl.wf (fun _ => BusLane.reset) x = true) (hm : 17179869184 &&& m = 17179869184) (h0 : Kept m s0 t) :
    Kept m s0 { t with bus := x } :=
  Kept.step hm (Kept.upd rfl rfl (Or.inl rfl) (Or.inl rfl) (Or.inl rfl) (Or.inl rfl) (Or.inl rfl) (Or.inl rfl)
    (Or.inl rfl) (Or.inl rfl) (Or.inl rfl) (Or.inl rfl) (Or.inl rfl) (Or.inl rfl) (Or.inl rfl) (Or.inl rfl) (Or.inl
    rfl) (Or.inl rfl) (Or.inl rfl) (Or.inl rfl) (Or.inl rfl) (Or.inl rfl) (Or.inl rfl) (Or.inl rfl) (Or.inl rfl)
    (Or.inl rfl) (Or.inl rfl) (Or.inl rfl) (Or.inl rfl) (Or.inl rfl) (Or.inl rfl) (Or.inl rfl) (Or.inl rfl) (Or.inl
    rfl) (Or.inr ⟨by decide, hw⟩) (Or.inl rfl) (Or.inl rfl) (Or.inl rfl) (Or.inl rfl) (Or.inl rfl) (Or.inl rfl)
    (Or.inl rfl) (Or.inl rfl) (Or.inl rfl) (Or.inl rfl) (Or.inl rfl) (Or.inl rfl) (Or.inl rfl) (Or.inl rfl) (Or.inl
    rfl) (Or.inl rfl) (Or.inl rfl) (Or.inl rfl) rfl (Or.inl rfl) (Kept.refl _ t)) h0

theorem Kept.set_nodes {m : Nat} {s0 t : State} {x : Tbl NodeEnt} (hw : Tbl.wf (fun _ => NodeEnt.free) t.nodes = true → Tbl.wf (fun _ => NodeEnt.free) x = true) (hm : 34359738368 &&& m = 34359738368) (h0 : Kept m s0 t) :
    Kept m s0 { t with nodes := x } :=
  Kept.step hm (Kept.upd rfl rfl (Or.inl rfl) (Or.inl rfl) (Or.inl rfl) (Or.inl rfl) (Or.inl rfl) (Or.inl rfl)
    (Or.inl rfl) (Or.inl rfl) (Or.inl rfl) (Or.inl rfl) (Or.inl rfl) (Or.inl rfl) (Or.inl rfl) (Or.inl rfl) (Or.inl
    rfl) (Or.inl rfl) (Or.inl rfl) (Or.inl rfl) (Or.inl rfl) (Or.inl rfl) (Or.inl rfl) (Or.inl rfl) (Or.inl rfl)
    (Or.inl rfl) (Or.inl rfl) (Or.inl rfl) (Or.inl rfl) (Or.inl rfl) (Or.inl rfl) (Or.inl rfl) (Or.inl rfl) (Or.inl
    rfl) (Or.inl rfl) (Or.inr ⟨by decide, hw⟩) (Or.inl rfl) (Or.inl rfl) (Or.inl rfl) (Or.inl rfl) (Or.inl rfl)
    (Or.inl rfl) (Or.inl rfl) (Or.inl rfl) (Or.inl rfl) (Or.inl rfl) (Or.inl rfl) (Or.inl rfl) (Or.inl rfl) (Or.inl
    rfl) (Or.inl rfl) (Or.inl rfl) (Or.inl rfl) rfl (Or.inl rfl) (Kept.refl _ t)) h0

theorem Kept.set_ports {m : Nat} {s0 t : State} {x : Tbl Port} (hw : Tbl.wf (fun _ => Port.reset) t.ports = true → Tbl.wf (fun _ => Port.reset) x = true) (hm : 68719476736 &&& m = 68719476736) (h0 : Kept m s0 t) :
    Kept m s0 { t with ports := x } :=
  Kept.step hm (Kept.upd rfl rfl (Or.inl rfl) (Or.inl rfl) (Or.inl rfl) (Or.inl rfl) (Or.inl rfl) (Or.inl rfl)
    (Or.inl rfl) (Or.inl rfl) (Or.inl rfl) (Or.inl rfl) (Or.inl rfl) (Or.inl rfl) (Or.inl rfl) (Or.inl rfl) (Or.inl
    rfl) (Or.inl rfl) (Or.inl rfl) (Or.inl rfl) (Or.inl rfl) (Or.inl rfl) (Or.inl rfl) (Or.inl rfl) (Or.inl rfl)
    (Or.inl rfl) (Or.inl rfl) (Or.inl rfl) (Or.inl rfl) (Or.inl rfl) (Or.inl rfl) (Or.inl rfl) (Or.inl rfl) (Or.inl
    rfl) (Or.inl rfl) (Or.inl rfl) (Or.inr ⟨by decide, hw⟩) (Or.inl rfl) (Or.inl rfl) (Or.inl rfl) (Or.inl rfl)
    (Or.inl rfl) (Or.inl rfl) (Or.inl rfl) (Or.inl rfl) (Or.inl rfl) (Or.inl rfl) (Or.inl rfl) (Or.inl rfl) (Or.inl
    rfl) (Or.inl rfl) (Or.inl rfl) (Or.inl rfl) rfl (Or.inl rfl) (Kept.refl _ t)) h0

theorem Kept.set_cycle {m : Nat} {s0 t : State} {x : Option CycleCfg} (hm : 137438953472 &&& m = 137438953472) (h0 : Kept m s0 t) :
    Kept m s0 { t with cycle := x } :=
  Kept.step hm (Kept.upd rfl rfl (Or.inl rfl) (Or.inl rfl) (Or.inl rfl) (Or.inl rfl) (Or.inl rfl) (Or.inl rfl)
    (Or.inl rfl) (Or.inl rfl) (Or.inl rfl) (Or.inl rfl) (Or.inl rfl) (Or.inl rfl) (Or.inl rfl) (Or.inl rfl) (Or.inl
    rfl) (Or.inl rfl) (Or.inl rfl) (Or.inl rfl) (Or.inl rfl) (Or.inl rfl) (Or.inl rfl) (Or.inl rfl) (Or.inl rfl)
    (Or.inl rfl) (Or.inl rfl) (Or.inl rfl) (Or.inl rfl) (Or.inl rfl) (Or.inl rfl) (Or.inl rfl) (Or.inl rfl) (Or.inl
    rfl) (Or.inl rfl) (Or.inl rfl) (Or.inl rfl) (Or.inr (by decide)) (Or.inl rfl) (Or.inl rfl) (Or.inl rfl) (Or.inl
    rfl) (Or.inl rfl) (Or.inl rfl) (Or.inl rfl) (Or.inl rfl) (Or.inl rfl) (Or.inl rfl) (Or.inl rfl) (Or.inl rfl)
    (Or.inl rfl) (Or.inl rfl) (Or.inl rfl) rfl (Or.inl rfl) (Kept.refl _ t)) h0

theorem Kept.set_gridK {m : Nat} {s0 t : State} {x : Option Nat} (hm : 274877906944 &&& m = 274877906944) (h0 : Kept m s0 t) :
    Kept m s0 { t with gridK := x } :=
  Kept.step hm (Kept.upd rfl rfl (Or.inl rfl) (Or.inl rfl) (Or.inl rfl) (Or.inl rfl) (Or.inl rfl) (Or.inl rfl)
    (Or.inl rfl) (Or.inl rfl) (Or.inl rfl) (Or.inl rfl) (Or.inl rfl) (Or.inl rfl) (Or.inl rfl) (Or.inl rfl) (Or.inl
    rfl) (Or.inl rfl) (Or.inl rfl) (Or.inl rfl) (Or.inl rfl) (Or.inl rfl) (Or.inl rfl) (Or.inl rfl) (Or.inl rfl)
    (Or.inl rfl) (Or.inl rfl) (Or.inl rfl) (Or.inl rfl) (Or.inl rfl) (Or.inl rfl) (Or.inl rfl) (Or.inl rfl) (Or.inl
    rfl) (Or.inl rfl) (Or.inl rfl) (Or.inl rfl) (Or.inl rfl) (Or.inr (by decide)) (Or.inl rfl) (Or.inl rfl) (Or.inl
    rfl) (Or.inl rfl) (Or.inl rfl) (Or.inl rfl) (Or.inl rfl) (Or.inl rfl) (Or.inl rfl) (Or.inl rfl) (Or.inl rfl)
    (Or.inl rfl) (Or.inl rfl) (Or.inl rfl) rfl (Or.inl rfl) (Kept.refl _ t)) h0

theorem Kept.set_scheds {m : Nat} {s0 t : State} {x : Tbl (Option Schedule)} (hw : Tbl.wf (fun _ => none) t.scheds = true → Tbl.wf (fun _ => none) x = true) (hm : 549755813888 &&& m = 549755813888) (h0 : Kept m s0 t) :
    Kept m s0 { t with scheds := x } :=
  Kept.step hm (Kept.upd rfl rfl (Or.inl rfl) (Or.inl rfl) (Or.inl rfl) (Or.inl rfl) (Or.inl rfl) (Or.inl rfl)
    (Or.inl rfl) (Or.inl rfl) (Or.inl rfl) (Or.inl rfl) (Or.inl rfl) (Or.inl rfl) (Or.inl rfl) (Or.inl rfl) (Or.inl
    rfl) (Or.inl rfl) (Or.inl rfl) (Or.inl rfl) (Or.inl rfl) (Or.inl rfl) (Or.inl rfl) (Or.inl rfl) (Or.inl rfl)
    (Or.inl rfl) (Or.inl rfl) (Or.inl rfl) (Or.inl rfl) (Or.inl rfl) (Or.inl rfl) (Or.inl rfl) (Or.inl rfl) (Or.inl
    rfl) (Or.inl rfl) (Or.inl rfl) (Or.inl rfl) (Or.inl rfl) (Or.inl rfl) (Or.inr ⟨by decide, hw⟩) (Or.inl rfl)
    (Or.inl rfl) (Or.inl rfl) (Or.inl rfl) (Or.inl rfl) (Or.inl rfl) (Or.inl rfl) (Or.inl rfl) (Or.inl rfl) (Or.inl
    rfl) (Or.inl rfl) (Or.inl rfl) (Or.inl rfl) rfl (Or.inl rfl) (Kept.refl _ t)) h0

theorem Kept.set_timelines {m : Nat} {s0 t : State} {x : Tbl Timeline} (hw : Tbl.wf (fun _ => Timeline.stopped) t.timelines = true → Tbl.wf (fun _ => Timeline.stopped) x = true) (hm : 1099511627776 &&& m = 1099511627776) (h0 : Kept m s0 t) :
    Kept m s0 { t with timelines := x } :=
  Kept.step hm (Kept.upd rfl rfl (Or.inl rfl) (Or.inl rfl) (Or.inl rfl) (Or.inl rfl) (Or.inl rfl) (Or.inl rfl)
    (Or.inl rfl) (Or.inl rfl) (Or.inl rfl) (Or.inl rfl) (Or.inl rfl) (Or.inl rfl) (Or.inl rfl) (Or.inl rfl) (Or.inl
    rfl) (Or.inl rfl) (Or.inl rfl) (Or.inl rfl) (Or.inl rfl) (Or.inl rfl) (Or.inl rfl) (Or.inl rfl) (Or.inl rfl)
    (Or.inl rfl) (Or.inl rfl) (Or.inl rfl) (Or.inl rfl) (Or.inl rfl) (Or.inl rfl) (Or.inl rfl) (Or.inl rfl) (Or.inl
    rfl) (Or.inl rfl) (Or.inl rfl) (Or.inl rfl) (Or.inl rfl) (Or.inl rfl) (Or.inl rfl) (Or.inr ⟨by decide, hw⟩)
    (Or.inl rfl) (Or.inl rfl) (Or.inl rfl) (Or.inl rfl) (Or.inl rfl) (Or.inl rfl) (Or.inl rfl) (Or.inl rfl) (Or.inl
    rfl) (Or.inl rfl) (Or.inl rfl) (Or.inl rfl) rfl (Or.inl rfl) (Kept.refl _ t)) h0

theorem Kept.set_ctxs {m : Nat} {s0 t : State} {x : Tbl (Option Ctx)} (hw : Tbl.wf (fun _ => none) t.ctxs = true → Tbl.wf (fun _ => none) x = true) (hm : 2199023255552 &&& m = 2199023255552) (h0 : Kept m s0 t) :
    Kept m s0 { t with ctxs := x } :=
  Kept.step hm (Kept.upd rfl rfl (Or.inl rfl) (Or.inl rfl) (Or.inl rfl) (Or.inl rfl) (Or.inl rfl) (Or.inl rfl)
    (Or.inl rfl) (Or.inl rfl) (Or.inl rfl) (Or.inl rfl) (Or.inl rfl) (Or.inl rfl) (Or.inl rfl) (Or.inl rfl) (Or.inl
    rfl) (Or.inl rfl) (Or.inl rfl) (Or.inl rfl) (Or.inl rfl) (Or.inl rfl) (Or.inl rfl) (Or.inl rfl) (Or.inl rfl)
    (Or.inl rfl) (Or.inl rfl) (Or.inl rfl) (Or.inl rfl) (Or.inl rfl) (Or.inl rfl) (Or.inl rfl) (Or.inl rfl) (Or.inl
    rfl) (Or.inl rfl) (Or.inl rfl) (Or.inl rfl) (Or.inl rfl) (Or.inl rfl) (Or.inl rfl) (Or.inl rfl) (Or.inr ⟨by
    decide, hw⟩) (Or.inl rfl) (Or.inl rfl) (Or.inl rfl) (Or.inl rfl) (Or.inl rfl) (Or.inl rfl) (Or.inl rfl) (Or.inl
    rfl) (Or.inl rfl) (Or.inl rfl) (Or.inl rfl) rfl (Or.inl rfl) (Kept.refl _ t)) h0

theorem Kept.set_quar {m : Nat} {s0 t : State} {x : Tbl Quar} (hw : Tbl.wf (fun _ => Quar.empty) t.quar = true → Tbl.wf (fun _ => Quar.empty) x = true) (hm : 4398046511104 &&& m = 4398046511104) (h0 : Kept m s0 t) :
    Kept m s0 { t with quar := x } :=
  Kept.step hm (Kept.upd rfl rfl (Or.inl rfl) (Or.inl rfl) (Or.inl rfl) (Or.inl rfl) (Or.inl rfl) (Or.inl rfl)
    (Or.inl rfl) (Or.inl rfl) (Or.inl rfl) (Or.inl rfl) (Or.inl rfl) (Or.inl rfl) (Or.inl rfl) (Or.inl rfl) (Or.inl
    rfl) (Or.inl rfl) (Or.inl rfl) (Or.inl rfl) (Or.inl rfl) (Or.inl rfl) (Or.inl rfl) (Or.inl rfl) (Or.inl rfl)
    (Or.inl rfl) (Or.inl rfl) (Or.inl rfl) (Or.inl rfl) (Or.inl rfl) (Or.inl rfl) (Or.inl rfl) (Or.inl rfl) (Or.inl
    rfl) (Or.inl rfl) (Or.inl rfl) (Or.inl rfl) (Or.inl rfl) (Or.inl rfl) (Or.inl rfl) (Or.inl rfl) (Or.inl rfl)
    (Or.inr ⟨by decide, hw⟩) (Or.inl rfl) (Or.inl rfl) (Or.inl rfl) (Or.inl rfl) (Or.inl rfl) (Or.inl rfl) (Or.inl
    rfl) (Or.inl rfl) (Or.inl rfl) (Or.inl rfl) rfl (Or.inl rfl) (Kept.refl _ t)) h0

theorem Kept.set_chkRetired {m : Nat} {s0 t : State} {x : Tbl Bool} (hm : 8796093022208 &&& m = 8796093022208) (h0 : Kept m s0 t) :
    Kept m s0 { t with chkRetired := x } :=
  Kept.step hm (Kept.upd rfl rfl (Or.inl rfl) (Or.inl rfl) (Or.inl rfl) (Or.inl rfl) (Or.inl rfl) (Or.inl rfl)
    (Or.inl rfl) (Or.inl rfl) (Or.inl rfl) (Or.inl rfl) (Or.inl rfl) (Or.inl rfl) (Or.inl rfl) (Or.inl rfl) (Or.inl
    rfl) (Or.inl rfl) (Or.inl rfl) (Or.inl rfl) (Or.inl rfl) (Or.inl rfl) (Or.inl rfl) (Or.inl rfl) (Or.inl rfl)
    (Or.inl rfl) (Or.inl rfl) (Or.inl rfl) (Or.inl rfl) (Or.inl rfl) (Or.inl rfl) (Or.inl rfl) (Or.inl rfl) (Or.inl
    rfl) (Or.inl rfl) (Or.inl rfl) (Or.inl rfl) (Or.inl rfl) (Or.inl rfl) (Or.inl rfl) (Or.inl rfl) (Or.inl rfl)
    (Or.inl rfl) (Or.inr (by decide)) (Or.inl rfl) (Or.inl rfl) (Or.inl rfl) (Or.inl rfl) (Or.inl rfl) (Or.inl rfl)
    (Or.inl rfl) (Or.inl rfl) (Or.inl rfl) rfl (Or.inl rfl) (Kept.refl _ t)) h0

theorem Kept.set_engines {m : Nat} {s0 t : State} {x : Tbl Engine} (hw : Tbl.wf (fun _ => Engine.unused) t.engines = true → Tbl.wf (fun _ => Engine.unused) x = true) (hm : 17592186044416 &&& m = 17592186044416) (h0 : Kept m s0 t) :
    Kept m s0 { t with engines := x } :=
  Kept.step hm (Kept.upd rfl rfl (Or.inl rfl) (Or.inl rfl) (Or.inl rfl) (Or.inl rfl) (Or.inl rfl) (Or.inl rfl)
    (Or.inl rfl) (Or.inl rfl) (Or.inl rfl) (Or.inl rfl) (Or.inl rfl) (Or.inl rfl) (Or.inl rfl) (Or.inl rfl) (Or.inl
    rfl) (Or.inl rfl) (Or.inl rfl) (Or.inl rfl) (Or.inl rfl) (Or.inl rfl) (Or.inl rfl) (Or.inl rfl) (Or.inl rfl)
    (Or.inl rfl) (Or.inl rfl) (Or.inl rfl) (Or.inl rfl) (Or.inl rfl) (Or.inl rfl) (Or.inl rfl) (Or.inl rfl) (Or.inl
    rfl) (Or.inl rfl) (Or.inl rfl) (Or.inl rfl) (Or.inl rfl) (Or.inl rfl) (Or.inl rfl) (Or.inl rfl) (Or.inl rfl)
    (Or.inl rfl) (Or.inl rfl) (Or.inr ⟨by decide, hw⟩) (Or.inl rfl) (Or.inl rfl) (Or.inl rfl) (Or.inl rfl) (Or.inl
    rfl) (Or.inl rfl) (Or.inl rfl) (Or.inl rfl) rfl (Or.inl rfl) (Kept.refl _ t)) h0

theorem Kept.set_shared {m : Nat} {s0 t : State} {x : Tbl Byte} (hw : Tbl.wf (fun _ => (0 : Byte)) t.shared = true → Tbl.wf (fun _ => (0 : Byte)) x = true) (hm : 35184372088832 &&& m = 35184372088832) (h0 : Kept m s0 t) :
    Kept m s0 { t with shared := x } :=
  Kept.step hm (Kept.upd rfl rfl (Or.inl rfl) (Or.inl rfl) (Or.inl rfl) (Or.inl rfl) (Or.inl rfl) (Or.inl rfl)
    (Or.inl rfl) (Or.inl rfl) (Or.inl rfl) (Or.inl rfl) (Or.inl rfl) (Or.inl rfl) (Or.inl rfl) (Or.inl rfl) (Or.inl
    rfl) (Or.inl rfl) (Or.inl rfl) (Or.inl rfl) (Or.inl rfl) (Or.inl rfl) (Or.inl rfl) (Or.inl rfl) (Or.inl rfl)
    (Or.inl rfl) (Or.inl rfl) (Or.inl rfl) (Or.inl rfl) (Or.inl rfl) (Or.inl rfl) (Or.inl rfl) (Or.inl rfl) (Or.inl
    rfl) (Or.inl rfl) (Or.inl rfl) (Or.inl rfl) (Or.inl rfl) (Or.inl rfl) (Or.inl rfl) (Or.inl rfl) (Or.inl rfl)
    (Or.inl rfl) (Or.inl rfl) (Or.inl rfl) (Or.inr ⟨by decide, hw⟩) (Or.inl rfl) (Or.inl rfl) (Or.inl rfl) (Or.inl
    rfl) (Or.inl rfl) (Or.inl rfl) (Or.inl rfl) rfl (Or.inl rfl) (Kept.refl _ t)) h0

theorem Kept.set_tiles {m : Nat} {s0 t : State} {x : Tbl Tile} (hw : Tbl.wf (fun _ => Tile.none) t.tiles = true → Tbl.wf (fun _ => Tile.none) x = true) (hm : 70368744177664 &&& m = 70368744177664) (h0 : Kept m s0 t) :
    Kept m s0 { t with tiles := x } :=
  Kept.step hm (Kept.upd rfl rfl (Or.inl rfl) (Or.inl rfl) (Or.inl rfl) (Or.inl rfl) (Or.inl rfl) (Or.inl rfl)
    (Or.inl rfl) (Or.inl rfl) (Or.inl rfl) (Or.inl rfl) (Or.inl rfl) (Or.inl rfl) (Or.inl rfl) (Or.inl rfl) (Or.inl
    rfl) (Or.inl rfl) (Or.inl rfl) (Or.inl rfl) (Or.inl rfl) (Or.inl rfl) (Or.inl rfl) (Or.inl rfl) (Or.inl rfl)
    (Or.inl rfl) (Or.inl rfl) (Or.inl rfl) (Or.inl rfl) (Or.inl rfl) (Or.inl rfl) (Or.inl rfl) (Or.inl rfl) (Or.inl
    rfl) (Or.inl rfl) (Or.inl rfl) (Or.inl rfl) (Or.inl rfl) (Or.inl rfl) (Or.inl rfl) (Or.inl rfl) (Or.inl rfl)
    (Or.inl rfl) (Or.inl rfl) (Or.inl rfl) (Or.inl rfl) (Or.inr ⟨by decide, hw⟩) (Or.inl rfl) (Or.inl rfl) (Or.inl
    rfl) (Or.inl rfl) (Or.inl rfl) (Or.inl rfl) rfl (Or.inl rfl) (Kept.refl _ t)) h0

theorem Kept.set_loads {m : Nat} {s0 t : State} {x : Tbl (Option LoadJob)} (hw : Tbl.wf (fun _ => none) t.loads = true → Tbl.wf (fun _ => none) x = true) (hm : 140737488355328 &&& m = 140737488355328) (h0 : Kept m s0 t) :
    Kept m s0 { t with loads := x } :=
  Kept.step hm (Kept.upd rfl rfl (Or.inl rfl) (Or.inl rfl) (Or.inl rfl) (Or.inl rfl) (Or.inl rfl) (Or.inl rfl)
    (Or.inl rfl) (Or.inl rfl) (Or.inl rfl) (Or.inl rfl) (Or.inl rfl) (Or.inl rfl) (Or.inl rfl) (Or.inl rfl) (Or.inl
    rfl) (Or.inl rfl) (Or.inl rfl) (Or.inl rfl) (Or.inl rfl) (Or.inl rfl) (Or.inl rfl) (Or.inl rfl) (Or.inl rfl)
    (Or.inl rfl) (Or.inl rfl) (Or.inl rfl) (Or.inl rfl) (Or.inl rfl) (Or.inl rfl) (Or.inl rfl) (Or.inl rfl) (Or.inl
    rfl) (Or.inl rfl) (Or.inl rfl) (Or.inl rfl) (Or.inl rfl) (Or.inl rfl) (Or.inl rfl) (Or.inl rfl) (Or.inl rfl)
    (Or.inl rfl) (Or.inl rfl) (Or.inl rfl) (Or.inl rfl) (Or.inl rfl) (Or.inr ⟨by decide, hw⟩) (Or.inl rfl) (Or.inl
    rfl) (Or.inl rfl) (Or.inl rfl) (Or.inl rfl) rfl (Or.inl rfl) (Kept.refl _ t)) h0

theorem Kept.set_struct {m : Nat} {s0 t : State} {x : Option Structure} (hm : 281474976710656 &&& m = 281474976710656) (h0 : Kept m s0 t) :
    Kept m s0 { t with struct := x } :=
  Kept.step hm (Kept.upd rfl rfl (Or.inl rfl) (Or.inl rfl) (Or.inl rfl) (Or.inl rfl) (Or.inl rfl) (Or.inl rfl)
    (Or.inl rfl) (Or.inl rfl) (Or.inl rfl) (Or.inl rfl) (Or.inl rfl) (Or.inl rfl) (Or.inl rfl) (Or.inl rfl) (Or.inl
    rfl) (Or.inl rfl) (Or.inl rfl) (Or.inl rfl) (Or.inl rfl) (Or.inl rfl) (Or.inl rfl) (Or.inl rfl) (Or.inl rfl)
    (Or.inl rfl) (Or.inl rfl) (Or.inl rfl) (Or.inl rfl) (Or.inl rfl) (Or.inl rfl) (Or.inl rfl) (Or.inl rfl) (Or.inl
    rfl) (Or.inl rfl) (Or.inl rfl) (Or.inl rfl) (Or.inl rfl) (Or.inl rfl) (Or.inl rfl) (Or.inl rfl) (Or.inl rfl)
    (Or.inl rfl) (Or.inl rfl) (Or.inl rfl) (Or.inl rfl) (Or.inl rfl) (Or.inl rfl) (Or.inr (by decide)) (Or.inl rfl)
    (Or.inl rfl) (Or.inl rfl) (Or.inl rfl) rfl (Or.inl rfl) (Kept.refl _ t)) h0

theorem Kept.set_keeper {m : Nat} {s0 t : State} {x : Keeper} (hm : 562949953421312 &&& m = 562949953421312) (h0 : Kept m s0 t) :
    Kept m s0 { t with keeper := x } :=
  Kept.step hm (Kept.upd rfl rfl (Or.inl rfl) (Or.inl rfl) (Or.inl rfl) (Or.inl rfl) (Or.inl rfl) (Or.inl rfl)
    (Or.inl rfl) (Or.inl rfl) (Or.inl rfl) (Or.inl rfl) (Or.inl rfl) (Or.inl rfl) (Or.inl rfl) (Or.inl rfl) (Or.inl
    rfl) (Or.inl rfl) (Or.inl rfl) (Or.inl rfl) (Or.inl rfl) (Or.inl rfl) (Or.inl rfl) (Or.inl rfl) (Or.inl rfl)
    (Or.inl rfl) (Or.inl rfl) (Or.inl rfl) (Or.inl rfl) (Or.inl rfl) (Or.inl rfl) (Or.inl rfl) (Or.inl rfl) (Or.inl
    rfl) (Or.inl rfl) (Or.inl rfl) (Or.inl rfl) (Or.inl rfl) (Or.inl rfl) (Or.inl rfl) (Or.inl rfl) (Or.inl rfl)
    (Or.inl rfl) (Or.inl rfl) (Or.inl rfl) (Or.inl rfl) (Or.inl rfl) (Or.inl rfl) (Or.inl rfl) (Or.inr (by decide))
    (Or.inl rfl) (Or.inl rfl) (Or.inl rfl) rfl (Or.inl rfl) (Kept.refl _ t)) h0

theorem Kept.set_power {m : Nat} {s0 t : State} {x : Power} (hm : 1125899906842624 &&& m = 1125899906842624) (h0 : Kept m s0 t) :
    Kept m s0 { t with power := x } :=
  Kept.step hm (Kept.upd rfl rfl (Or.inl rfl) (Or.inl rfl) (Or.inl rfl) (Or.inl rfl) (Or.inl rfl) (Or.inl rfl)
    (Or.inl rfl) (Or.inl rfl) (Or.inl rfl) (Or.inl rfl) (Or.inl rfl) (Or.inl rfl) (Or.inl rfl) (Or.inl rfl) (Or.inl
    rfl) (Or.inl rfl) (Or.inl rfl) (Or.inl rfl) (Or.inl rfl) (Or.inl rfl) (Or.inl rfl) (Or.inl rfl) (Or.inl rfl)
    (Or.inl rfl) (Or.inl rfl) (Or.inl rfl) (Or.inl rfl) (Or.inl rfl) (Or.inl rfl) (Or.inl rfl) (Or.inl rfl) (Or.inl
    rfl) (Or.inl rfl) (Or.inl rfl) (Or.inl rfl) (Or.inl rfl) (Or.inl rfl) (Or.inl rfl) (Or.inl rfl) (Or.inl rfl)
    (Or.inl rfl) (Or.inl rfl) (Or.inl rfl) (Or.inl rfl) (Or.inl rfl) (Or.inl rfl) (Or.inl rfl) (Or.inl rfl) (Or.inr
    (by decide)) (Or.inl rfl) (Or.inl rfl) rfl (Or.inl rfl) (Kept.refl _ t)) h0

theorem Kept.set_spars {m : Nat} {s0 t : State} {x : Tbl Spar} (hw : Tbl.wf (fun _ => Spar.reset) t.spars = true → Tbl.wf (fun _ => Spar.reset) x = true) (hm : 2251799813685248 &&& m = 2251799813685248) (h0 : Kept m s0 t) :
    Kept m s0 { t with spars := x } :=
  Kept.step hm (Kept.upd rfl rfl (Or.inl rfl) (Or.inl rfl) (Or.inl rfl) (Or.inl rfl) (Or.inl rfl) (Or.inl rfl)
    (Or.inl rfl) (Or.inl rfl) (Or.inl rfl) (Or.inl rfl) (Or.inl rfl) (Or.inl rfl) (Or.inl rfl) (Or.inl rfl) (Or.inl
    rfl) (Or.inl rfl) (Or.inl rfl) (Or.inl rfl) (Or.inl rfl) (Or.inl rfl) (Or.inl rfl) (Or.inl rfl) (Or.inl rfl)
    (Or.inl rfl) (Or.inl rfl) (Or.inl rfl) (Or.inl rfl) (Or.inl rfl) (Or.inl rfl) (Or.inl rfl) (Or.inl rfl) (Or.inl
    rfl) (Or.inl rfl) (Or.inl rfl) (Or.inl rfl) (Or.inl rfl) (Or.inl rfl) (Or.inl rfl) (Or.inl rfl) (Or.inl rfl)
    (Or.inl rfl) (Or.inl rfl) (Or.inl rfl) (Or.inl rfl) (Or.inl rfl) (Or.inl rfl) (Or.inl rfl) (Or.inl rfl) (Or.inl
    rfl) (Or.inr ⟨by decide, hw⟩) (Or.inl rfl) rfl (Or.inl rfl) (Kept.refl _ t)) h0

theorem Kept.set_health {m : Nat} {s0 t : State} {x : Health} (hm : 4503599627370496 &&& m = 4503599627370496) (h0 : Kept m s0 t) :
    Kept m s0 { t with health := x } :=
  Kept.step hm (Kept.upd rfl rfl (Or.inl rfl) (Or.inl rfl) (Or.inl rfl) (Or.inl rfl) (Or.inl rfl) (Or.inl rfl)
    (Or.inl rfl) (Or.inl rfl) (Or.inl rfl) (Or.inl rfl) (Or.inl rfl) (Or.inl rfl) (Or.inl rfl) (Or.inl rfl) (Or.inl
    rfl) (Or.inl rfl) (Or.inl rfl) (Or.inl rfl) (Or.inl rfl) (Or.inl rfl) (Or.inl rfl) (Or.inl rfl) (Or.inl rfl)
    (Or.inl rfl) (Or.inl rfl) (Or.inl rfl) (Or.inl rfl) (Or.inl rfl) (Or.inl rfl) (Or.inl rfl) (Or.inl rfl) (Or.inl
    rfl) (Or.inl rfl) (Or.inl rfl) (Or.inl rfl) (Or.inl rfl) (Or.inl rfl) (Or.inl rfl) (Or.inl rfl) (Or.inl rfl)
    (Or.inl rfl) (Or.inl rfl) (Or.inl rfl) (Or.inl rfl) (Or.inl rfl) (Or.inl rfl) (Or.inl rfl) (Or.inl rfl) (Or.inl
    rfl) (Or.inl rfl) (Or.inr (by decide)) rfl (Or.inl rfl) (Kept.refl _ t)) h0

theorem Kept.set_free {m : Nat} {s0 t : State} {x : Nat} (hm : 18014398509481984 &&& m = 18014398509481984) (h0 : Kept m s0 t) :
    Kept m s0 { t with free := x } :=
  Kept.step hm (Kept.upd rfl rfl (Or.inl rfl) (Or.inl rfl) (Or.inl rfl) (Or.inl rfl) (Or.inl rfl) (Or.inl rfl)
    (Or.inl rfl) (Or.inl rfl) (Or.inl rfl) (Or.inl rfl) (Or.inl rfl) (Or.inl rfl) (Or.inl rfl) (Or.inl rfl) (Or.inl
    rfl) (Or.inl rfl) (Or.inl rfl) (Or.inl rfl) (Or.inl rfl) (Or.inl rfl) (Or.inl rfl) (Or.inl rfl) (Or.inl rfl)
    (Or.inl rfl) (Or.inl rfl) (Or.inl rfl) (Or.inl rfl) (Or.inl rfl) (Or.inl rfl) (Or.inl rfl) (Or.inl rfl) (Or.inl
    rfl) (Or.inl rfl) (Or.inl rfl) (Or.inl rfl) (Or.inl rfl) (Or.inl rfl) (Or.inl rfl) (Or.inl rfl) (Or.inl rfl)
    (Or.inl rfl) (Or.inl rfl) (Or.inl rfl) (Or.inl rfl) (Or.inl rfl) (Or.inl rfl) (Or.inl rfl) (Or.inl rfl) (Or.inl
    rfl) (Or.inl rfl) (Or.inl rfl) rfl (Or.inr (by decide)) (Kept.refl _ t)) h0

/-- Something more is sent. -/
theorem Kept.emit {m : Nat} {s0 t : State} {o : Out} (hm : 9007199254740992 &&& m = 9007199254740992) (h0 : Kept m s0 t) :
    Kept m s0 { t with out := o :: t.out } := by
  refine Kept.step (t := t) hm ⟨fun f => ?_, fun c => ?_, rfl, rfl, List.suffix_cons _ _⟩ h0
  · cases f <;> first | exact Or.inr rfl | exact Or.inl (by decide)
  · rw [canonical_iff] at c ⊢
    exact c

end Sys2Proof
end

