-- ==== Sys2Proof/Laws/FrameOps.lean ====
section
/-! SUPPORT. Frames of Machine/Ops.lean: the fields each function may change. -/
namespace Sys2Proof.Machine
open Sys2Proof

theorem State.wr_k {m : Nat} {s0 : State} (off : Nat) (w : Word) (s : State) (hm : 0x8 &&& m = 0x8) (h0 : Kept m
    s0 s) : Kept m s0 (State.wr off w s) := by
  refine Kept.step hm ?_ h0; clear h0 hm
  unfold State.wr
  repeat' first
    | with_reducible exact Kept.refl _ _
    | with_reducible assumption
    | exact rfl
    | with_reducible apply Kept.set_regs
    | exact fun hw => Tbl.wf_set _ _ _ _ hw

theorem State.setf_k {m : Nat} {s0 : State} (off : Nat) (lo : Nat) (len : Nat) (v : Nat) (s : State) (hm : 0x8
    &&& m = 0x8) (h0 : Kept m s0 s) : Kept m s0 (State.setf off lo len v s) := by
  refine Kept.step hm ?_ h0; clear h0 hm
  unfold State.setf
  repeat' first
    | with_reducible exact Kept.refl _ _
    | with_reducible apply State.wr_k
    | exact rfl

theorem State.cnt_k {m : Nat} {s0 : State} (off : Nat) (s : State) (n : Nat) (hm : 0x8 &&& m = 0x8) (h0 : Kept m
    s0 s) : Kept m s0 (State.cnt off s n) := by
  refine Kept.step hm ?_ h0; clear h0 hm
  unfold State.cnt
  repeat' first
    | with_reducible exact Kept.refl _ _
    | with_reducible apply State.wr_k
    | exact rfl

theorem State.cntF_k {m : Nat} {s0 : State} (off : Nat) (lo : Nat) (len : Nat) (s : State) (n : Nat) (hm : 0x8
    &&& m = 0x8) (h0 : Kept m s0 s) : Kept m s0 (State.cntF off lo len s n) := by
  refine Kept.step hm ?_ h0; clear h0 hm
  unfold State.cntF
  repeat' first
    | with_reducible exact Kept.refl _ _
    | with_reducible apply State.setf_k
    | exact rfl

theorem State.setDesc_k {m : Nat} {s0 : State} (i : Nat) (d : Desc) (s : State) (hm : 0x200 &&& m = 0x200) (h0 :
    Kept m s0 s) : Kept m s0 (State.setDesc i d s) := by
  refine Kept.step hm ?_ h0; clear h0 hm
  unfold State.setDesc
  repeat' first
    | with_reducible exact Kept.refl _ _
    | with_reducible assumption
    | exact rfl
    | with_reducible apply Kept.set_descs
    | exact fun hw => Tbl.wf_set _ _ _ _ hw

theorem State.setFifo_k {m : Nat} {s0 : State} (f : Nat) (x : Fifo) (s : State) (hm : 0x400 &&& m = 0x400) (h0 :
    Kept m s0 s) : Kept m s0 (State.setFifo f x s) := by
  refine Kept.step hm ?_ h0; clear h0 hm
  unfold State.setFifo
  repeat' first
    | with_reducible exact Kept.refl _ _
    | with_reducible assumption
    | exact rfl
    | with_reducible apply Kept.set_fifos
    | exact fun hw => Tbl.wf_set _ _ _ _ hw

theorem State.setLink_k {m : Nat} {s0 : State} (i : Nat) (x : Link1) (s : State) (hm : 0x80 &&& m = 0x80) (h0 :
    Kept m s0 s) : Kept m s0 (State.setLink i x s) := by
  refine Kept.step hm ?_ h0; clear h0 hm
  unfold State.setLink
  repeat' first
    | with_reducible exact Kept.refl _ _
    | with_reducible assumption
    | exact rfl
    | with_reducible apply Kept.set_links
    | exact fun hw => Tbl.wf_set _ _ _ _ hw

theorem State.setRecord_k {m : Nat} {s0 : State} (i : Nat) (x : Option Rec) (s : State) (hm : 0x100 &&& m =
    0x100) (h0 : Kept m s0 s) : Kept m s0 (State.setRecord i x s) := by
  refine Kept.step hm ?_ h0; clear h0 hm
  unfold State.setRecord
  repeat' first
    | with_reducible exact Kept.refl _ _
    | with_reducible assumption
    | exact rfl
    | with_reducible apply Kept.set_recs
    | exact fun hw => Tbl.wf_set _ _ _ _ hw

theorem State.setPartner_k {m : Nat} {s0 : State} (p : Nat) (x : Partner) (s : State) (hm : 0x800 &&& m = 0x800)
    (h0 : Kept m s0 s) : Kept m s0 (State.setPartner p x s) := by
  refine Kept.step hm ?_ h0; clear h0 hm
  unfold State.setPartner
  repeat' first
    | with_reducible exact Kept.refl _ _
    | with_reducible assumption
    | exact rfl
    | with_reducible apply Kept.set_partners
    | exact fun hw => Tbl.wf_set _ _ _ _ hw

theorem State.setSlice_k {m : Nat} {s0 : State} (c : Nat) (x : Slice) (s : State) (hm : 0x100000 &&& m =
    0x100000) (h0 : Kept m s0 s) : Kept m s0 (State.setSlice c x s) := by
  refine Kept.step hm ?_ h0; clear h0 hm
  unfold State.setSlice
  repeat' first
    | with_reducible exact Kept.refl _ _
    | with_reducible assumption
    | exact rfl
    | with_reducible apply Kept.set_slices
    | exact fun hw => Tbl.wf_set _ _ _ _ hw

theorem State.setRoute_k {m : Nat} {s0 : State} (r : Nat) (x : List Byte) (s : State) (hm : 0x200000 &&& m =
    0x200000) (h0 : Kept m s0 s) : Kept m s0 (State.setRoute r x s) := by
  refine Kept.step hm ?_ h0; clear h0 hm
  unfold State.setRoute
  repeat' first
    | with_reducible exact Kept.refl _ _
    | with_reducible assumption
    | exact rfl
    | with_reducible apply Kept.set_routes
    | exact fun hw => Tbl.wf_set _ _ _ _ hw

theorem State.setSrc_k {m : Nat} {s0 : State} (i : Nat) (x : IrqSrc) (s : State) (hm : 0x4000000 &&& m =
    0x4000000) (h0 : Kept m s0 s) : Kept m s0 (State.setSrc i x s) := by
  refine Kept.step hm ?_ h0; clear h0 hm
  unfold State.setSrc
  repeat' first
    | with_reducible exact Kept.refl _ _
    | with_reducible assumption
    | exact rfl
    | with_reducible apply Kept.set_irq
    | exact fun hw => Tbl.wf_set _ _ _ _ hw

theorem State.setEq_k {m : Nat} {s0 : State} (q : Nat) (x : EventQ) (s : State) (hm : 0x8000000 &&& m =
    0x8000000) (h0 : Kept m s0 s) : Kept m s0 (State.setEq q x s) := by
  refine Kept.step hm ?_ h0; clear h0 hm
  unfold State.setEq
  repeat' first
    | with_reducible exact Kept.refl _ _
    | with_reducible assumption
    | exact rfl
    | with_reducible apply Kept.set_eqs
    | exact fun hw => Tbl.wf_set _ _ _ _ hw

theorem State.setMsix_k {m : Nat} {s0 : State} (v : Nat) (x : Msix) (s : State) (hm : 0x20000000 &&& m =
    0x20000000) (h0 : Kept m s0 s) : Kept m s0 (State.setMsix v x s) := by
  refine Kept.step hm ?_ h0; clear h0 hm
  unfold State.setMsix
  repeat' first
    | with_reducible exact Kept.refl _ _
    | with_reducible assumption
    | (extract_lets +onlyGivenNames x; first
        | (with_reducible refine Kept.cut (x := x) ?_ ?_; (on_goal 2 => (clear_value x; intro hx)); (on_goal 1 => (unfold x; clear x)))
        | clear_value x
        | (unfold x; clear x))
    | exact rfl
    | with_reducible apply Kept.set_host

theorem State.setHostQ_k {m : Nat} {s0 : State} (q : Nat) (x : HostQ) (s : State) (hm : 0x40000000 &&& m =
    0x40000000) (h0 : Kept m s0 s) : Kept m s0 (State.setHostQ q x s) := by
  refine Kept.step hm ?_ h0; clear h0 hm
  unfold State.setHostQ
  repeat' first
    | with_reducible exact Kept.refl _ _
    | with_reducible assumption
    | exact rfl
    | with_reducible apply Kept.set_hostQs
    | exact fun hw => Tbl.wf_set _ _ _ _ hw

theorem State.setBport_k {m : Nat} {s0 : State} (p : Nat) (x : BcnPort) (s : State) (hm : 0x200000000 &&& m =
    0x200000000) (h0 : Kept m s0 s) : Kept m s0 (State.setBport p x s) := by
  refine Kept.step hm ?_ h0; clear h0 hm
  unfold State.setBport
  repeat' first
    | with_reducible exact Kept.refl _ _
    | with_reducible assumption
    | exact rfl
    | with_reducible apply Kept.set_bports
    | exact fun hw => Tbl.wf_set _ _ _ _ hw

theorem State.setLane_k {m : Nat} {s0 : State} (n : Nat) (x : BusLane) (s : State) (hm : 0x400000000 &&& m =
    0x400000000) (h0 : Kept m s0 s) : Kept m s0 (State.setLane n x s) := by
  refine Kept.step hm ?_ h0; clear h0 hm
  unfold State.setLane
  repeat' first
    | with_reducible exact Kept.refl _ _
    | with_reducible assumption
    | exact rfl
    | with_reducible apply Kept.set_bus
    | exact fun hw => Tbl.wf_set _ _ _ _ hw

theorem State.setNode_k {m : Nat} {s0 : State} (i : Nat) (x : NodeEnt) (s : State) (hm : 0x800000000 &&& m =
    0x800000000) (h0 : Kept m s0 s) : Kept m s0 (State.setNode i x s) := by
  refine Kept.step hm ?_ h0; clear h0 hm
  unfold State.setNode
  repeat' first
    | with_reducible exact Kept.refl _ _
    | with_reducible assumption
    | exact rfl
    | with_reducible apply Kept.set_nodes
    | exact fun hw => Tbl.wf_set _ _ _ _ hw

theorem State.setPort_k {m : Nat} {s0 : State} (p : Nat) (x : Port) (s : State) (hm : 0x1000000000 &&& m =
    0x1000000000) (h0 : Kept m s0 s) : Kept m s0 (State.setPort p x s) := by
  refine Kept.step hm ?_ h0; clear h0 hm
  unfold State.setPort
  repeat' first
    | with_reducible exact Kept.refl _ _
    | with_reducible assumption
    | exact rfl
    | with_reducible apply Kept.set_ports
    | exact fun hw => Tbl.wf_set _ _ _ _ hw

theorem State.setSched_k {m : Nat} {s0 : State} (t : Nat) (x : Option Schedule) (s : State) (hm : 0x8000000000
    &&& m = 0x8000000000) (h0 : Kept m s0 s) : Kept m s0 (State.setSched t x s) := by
  refine Kept.step hm ?_ h0; clear h0 hm
  unfold State.setSched
  repeat' first
    | with_reducible exact Kept.refl _ _
    | with_reducible assumption
    | exact rfl
    | with_reducible apply Kept.set_scheds
    | exact fun hw => Tbl.wf_set _ _ _ _ hw

theorem State.setTl_k {m : Nat} {s0 : State} (t : Nat) (x : Timeline) (s : State) (hm : 0x10000000000 &&& m =
    0x10000000000) (h0 : Kept m s0 s) : Kept m s0 (State.setTl t x s) := by
  refine Kept.step hm ?_ h0; clear h0 hm
  unfold State.setTl
  repeat' first
    | with_reducible exact Kept.refl _ _
    | with_reducible assumption
    | exact rfl
    | with_reducible apply Kept.set_timelines
    | exact fun hw => Tbl.wf_set _ _ _ _ hw

theorem State.setCtx_k {m : Nat} {s0 : State} (i : Nat) (x : Option Ctx) (s : State) (hm : 0x20000000000 &&& m =
    0x20000000000) (h0 : Kept m s0 s) : Kept m s0 (State.setCtx i x s) := by
  refine Kept.step hm ?_ h0; clear h0 hm
  unfold State.setCtx
  repeat' first
    | with_reducible exact Kept.refl _ _
    | with_reducible assumption
    | exact rfl
    | with_reducible apply Kept.set_ctxs
    | exact fun hw => Tbl.wf_set _ _ _ _ hw

theorem State.setRing_k {m : Nat} {s0 : State} (c : Nat) (x : Quar) (s : State) (hm : 0x40000000000 &&& m =
    0x40000000000) (h0 : Kept m s0 s) : Kept m s0 (State.setRing c x s) := by
  refine Kept.step hm ?_ h0; clear h0 hm
  unfold State.setRing
  repeat' first
    | with_reducible exact Kept.refl _ _
    | with_reducible assumption
    | exact rfl
    | with_reducible apply Kept.set_quar
    | exact fun hw => Tbl.wf_set _ _ _ _ hw

theorem State.setUnitDown_k {m : Nat} {s0 : State} (u : Nat) (b : Bool) (s : State) (hm : 0x80000000000 &&& m =
    0x80000000000) (h0 : Kept m s0 s) : Kept m s0 (State.setUnitDown u b s) := by
  refine Kept.step hm ?_ h0; clear h0 hm
  unfold State.setUnitDown
  repeat' first
    | with_reducible exact Kept.refl _ _
    | with_reducible assumption
    | exact rfl
    | with_reducible apply Kept.set_chkRetired

theorem State.setEng_k {m : Nat} {s0 : State} (g : Nat) (x : Engine) (s : State) (hm : 0x100000000000 &&& m =
    0x100000000000) (h0 : Kept m s0 s) : Kept m s0 (State.setEng g x s) := by
  refine Kept.step hm ?_ h0; clear h0 hm
  unfold State.setEng
  repeat' first
    | with_reducible exact Kept.refl _ _
    | with_reducible assumption
    | exact rfl
    | with_reducible apply Kept.set_engines
    | exact fun hw => Tbl.wf_set _ _ _ _ hw

theorem State.setTile_k {m : Nat} {s0 : State} (c : Nat) (x : Tile) (s : State) (hm : 0x400000000000 &&& m =
    0x400000000000) (h0 : Kept m s0 s) : Kept m s0 (State.setTile c x s) := by
  refine Kept.step hm ?_ h0; clear h0 hm
  unfold State.setTile
  repeat' first
    | with_reducible exact Kept.refl _ _
    | with_reducible assumption
    | exact rfl
    | with_reducible apply Kept.set_tiles
    | exact fun hw => Tbl.wf_set _ _ _ _ hw

theorem State.setSpar_k {m : Nat} {s0 : State} (q : Nat) (x : Spar) (s : State) (hm : 0x8000000000000 &&& m =
    0x8000000000000) (h0 : Kept m s0 s) : Kept m s0 (State.setSpar q x s) := by
  refine Kept.step hm ?_ h0; clear h0 hm
  unfold State.setSpar
  repeat' first
    | with_reducible exact Kept.refl _ _
    | with_reducible assumption
    | exact rfl
    | with_reducible apply Kept.set_spars
    | exact fun hw => Tbl.wf_set _ _ _ _ hw

theorem State.setLoad_k {m : Nat} {s0 : State} (t : Nat) (x : Option LoadJob) (s : State) (hm : 0x800000000000
    &&& m = 0x800000000000) (h0 : Kept m s0 s) : Kept m s0 (State.setLoad t x s) := by
  refine Kept.step hm ?_ h0; clear h0 hm
  unfold State.setLoad
  repeat' first
    | with_reducible exact Kept.refl _ _
    | with_reducible assumption
    | exact rfl
    | with_reducible apply Kept.set_loads
    | exact fun hw => Tbl.wf_set _ _ _ _ hw

theorem State.setSpareSlice_k {m : Nat} {s0 : State} (c : Nat) (x : SpareSlice) (s : State) (hm :
    0x10000000000000 &&& m = 0x10000000000000) (h0 : Kept m s0 s) : Kept m s0 (State.setSpareSlice c x s) := by
  refine Kept.step hm ?_ h0; clear h0 hm
  unfold State.setSpareSlice
  repeat' first
    | with_reducible exact Kept.refl _ _
    | with_reducible assumption
    | (extract_lets +onlyGivenNames x; first
        | (with_reducible refine Kept.cut (x := x) ?_ ?_; (on_goal 2 => (clear_value x; intro hx)); (on_goal 1 => (unfold x; clear x)))
        | clear_value x
        | (unfold x; clear x))
    | exact rfl
    | with_reducible apply Kept.set_health

theorem State.setPend_k {m : Nat} {s0 : State} (i : Nat) (x : Option Report) (s : State) (hm : 0x10000000000000
    &&& m = 0x10000000000000) (h0 : Kept m s0 s) : Kept m s0 (State.setPend i x s) := by
  refine Kept.step hm ?_ h0; clear h0 hm
  unfold State.setPend
  repeat' first
    | with_reducible exact Kept.refl _ _
    | with_reducible assumption
    | (extract_lets +onlyGivenNames x; first
        | (with_reducible refine Kept.cut (x := x) ?_ ?_; (on_goal 2 => (clear_value x; intro hx)); (on_goal 1 => (unfold x; clear x)))
        | clear_value x
        | (unfold x; clear x))
    | exact rfl
    | with_reducible apply Kept.set_health

theorem State.setCellByte_k {m : Nat} {s0 : State} (a : Nat) (b : Byte) (s : State) (hm : 0x40 &&& m = 0x40) (h0
    : Kept m s0 s) : Kept m s0 (State.setCellByte a b s) := by
  refine Kept.step hm ?_ h0; clear h0 hm
  unfold State.setCellByte
  repeat' first
    | with_reducible exact Kept.refl _ _
    | with_reducible assumption
    | exact rfl
    | with_reducible apply Kept.set_mem
    | exact fun hw => Tbl.wf_set _ _ _ _ hw

theorem State.putBytes_k {m : Nat} {s0 : State} (a : Nat) (a1 : List Byte) (a2 : State) (hm : 0x40 &&& m = 0x40)
    (h0 : Kept m s0 a2) : Kept m s0 (State.putBytes a a1 a2) := by
  fun_induction State.putBytes a a1 a2
  repeat' first
    | with_reducible exact Kept.refl _ _
    | with_reducible assumption
    | with_reducible apply State.setCellByte_k
    | (rename_i ih; with_reducible apply ih)

theorem State.emit_k {m : Nat} {s0 : State} (o : Out) (s : State) (hm : 0x20000000000000 &&& m =
    0x20000000000000) (h0 : Kept m s0 s) : Kept m s0 (State.emit o s) := by
  refine Kept.step hm ?_ h0; clear h0 hm
  unfold State.emit
  repeat' first
    | with_reducible exact Kept.refl _ _
    | with_reducible assumption
    | exact rfl
    | with_reducible apply Kept.emit

theorem State.draw_k {m : Nat} {s0 : State} (s : State) (hm : 0x40000000000000 &&& m = 0x40000000000000) (h0 :
    Kept m s0 s) : Kept m s0 (State.draw s) := by
  refine Kept.step hm ?_ h0; clear h0 hm
  unfold State.draw
  repeat' first
    | with_reducible exact Kept.refl _ _
    | with_reducible assumption
    | exact rfl
    | with_reducible apply Kept.set_free

end Sys2Proof.Machine
end

