-- ==== Sys2Proof/Laws/FrameAccess.lean ====
section
/-! SUPPORT. Frames of Machine/Access.lean: the fields each function may change. -/
namespace Sys2Proof.Machine
open Sys2Proof



end Sys2Proof.Machine
end

