-- ==== Sys2Proof/Laws/FrameEvents.lean ====
section
/-! SUPPORT. Frames of Machine/Events.lean: the fields each function may change. -/
namespace Sys2Proof.Machine
open Sys2Proof

theorem State.noteEngine_k {m : Nat} {s0 : State} (g : Nat) (s : State) (hm : 0x100000000000 &&& m =
    0x100000000000) (h0 : Kept m s0 s) : Kept m s0 (State.noteEngine g s) := by
  refine Kept.step hm ?_ h0; clear h0 hm
  unfold State.noteEngine
  repeat' first
    | with_reducible exact Kept.refl _ _
    | with_reducible assumption
    | with_reducible apply State.setEng_k
    | (extract_lets +onlyGivenNames x; first
        | (with_reducible refine Kept.cut (x := x) ?_ ?_; (on_goal 2 => (clear_value x; intro hx)); (on_goal 1 => (unfold x; clear x)))
        | clear_value x
        | (unfold x; clear x))
    | exact rfl
    | split

theorem State.noteSrc_k {m : Nat} {s0 : State} (i : Nat) (before : Bool) (s : State) (hm : 0x100000000000 &&& m
    = 0x100000000000) (h0 : Kept m s0 s) : Kept m s0 (State.noteSrc i before s) := by
  refine Kept.step hm ?_ h0; clear h0 hm
  unfold State.noteSrc
  repeat' first
    | with_reducible exact Kept.refl _ _
    | with_reducible apply State.noteEngine_k
    | exact rfl
    | split

theorem State.arrive_k {m : Nat} {s0 : State} (i : Nat) (s : State) (hm : 0x100004000000 &&& m = 0x100004000000)
    (h0 : Kept m s0 s) : Kept m s0 (State.arrive i s) := by
  refine Kept.step hm ?_ h0; clear h0 hm
  unfold State.arrive
  repeat' first
    | with_reducible exact Kept.refl _ _
    | with_reducible assumption
    | with_reducible apply State.setSrc_k
    | with_reducible apply State.noteSrc_k
    | (extract_lets +onlyGivenNames x; first
        | (with_reducible refine Kept.cut (x := x) ?_ ?_; (on_goal 2 => (clear_value x; intro hx)); (on_goal 1 => (unfold x; clear x)))
        | clear_value x
        | (unfold x; clear x))
    | exact rfl
    | split

theorem State.privArrive_k {m : Nat} {s0 : State} (g : Nat) (i : Nat) (s : State) (hm : 0x100000000000 &&& m =
    0x100000000000) (h0 : Kept m s0 s) : Kept m s0 (State.privArrive g i s) := by
  refine Kept.step hm ?_ h0; clear h0 hm
  unfold State.privArrive
  repeat' first
    | with_reducible exact Kept.refl _ _
    | with_reducible assumption
    | with_reducible apply State.noteEngine_k
    | with_reducible apply State.setEng_k
    | (extract_lets +onlyGivenNames x; first
        | (with_reducible refine Kept.cut (x := x) ?_ ?_; (on_goal 2 => (clear_value x; intro hx)); (on_goal 1 => (unfold x; clear x)))
        | clear_value x
        | (unfold x; clear x))
    | exact rfl
    | split

theorem State.msixSend_k {m : Nat} {s0 : State} (v : Nat) (s : State) (hm : 0x20000020000000 &&& m =
    0x20000020000000) (h0 : Kept m s0 s) : Kept m s0 (State.msixSend v s) := by
  refine Kept.step hm ?_ h0; clear h0 hm
  unfold State.msixSend
  repeat' first
    | with_reducible exact Kept.refl _ _
    | with_reducible assumption
    | with_reducible apply State.setMsix_k
    | with_reducible apply State.emit_k
    | (extract_lets +onlyGivenNames x; first
        | (with_reducible refine Kept.cut (x := x) ?_ ?_; (on_goal 2 => (clear_value x; intro hx)); (on_goal 1 => (unfold x; clear x)))
        | clear_value x
        | (unfold x; clear x))
    | exact rfl
    | split

theorem State.eqMessage_k {m : Nat} {s0 : State} (q : Nat) (s : State) (hm : 0x20000028000000 &&& m =
    0x20000028000000) (h0 : Kept m s0 s) : Kept m s0 (State.eqMessage q s) := by
  refine Kept.step hm ?_ h0; clear h0 hm
  unfold State.eqMessage
  repeat' first
    | with_reducible exact Kept.refl _ _
    | with_reducible apply State.setEq_k
    | with_reducible apply State.msixSend_k
    | exact rfl

theorem State.moderate_k {m : Nat} {s0 : State} (q : Nat) (n : Nat) (s : State) (hm : 0x20000028000000 &&& m =
    0x20000028000000) (h0 : Kept m s0 s) : Kept m s0 (State.moderate q n s) := by
  refine Kept.step hm ?_ h0; clear h0 hm
  unfold State.moderate
  repeat' first
    | with_reducible exact Kept.refl _ _
    | with_reducible apply State.eqMessage_k
    | with_reducible apply State.setEq_k
    | exact rfl
    | split

theorem State.recordWritten_k {m : Nat} {s0 : State} (q : Nat) (s : State) (hm : 0x20000028000000 &&& m =
    0x20000028000000) (h0 : Kept m s0 s) : Kept m s0 (State.recordWritten q s) := by
  refine Kept.step hm ?_ h0; clear h0 hm
  unfold State.recordWritten
  repeat' first
    | with_reducible exact Kept.refl _ _
    | with_reducible apply State.eqMessage_k
    | with_reducible apply State.moderate_k
    | exact rfl
    | split

theorem State.eqWrite_k {m : Nat} {s0 : State} (q : Nat) (r : EvRec) (s : State) (hm : 0x20000008000000 &&& m =
    0x20000008000000) (h0 : Kept m s0 s) : Kept m s0 (State.eqWrite q r s) := by
  refine Kept.step hm ?_ h0; clear h0 hm
  unfold State.eqWrite
  repeat' first
    | with_reducible exact Kept.refl _ _
    | with_reducible assumption
    | with_reducible apply State.setEq_k
    | with_reducible apply State.emit_k
    | exact rfl

theorem State.eqLose_k {m : Nat} {s0 : State} (q : Nat) (s : State) (hm : 0x20000028000000 &&& m =
    0x20000028000000) (h0 : Kept m s0 s) : Kept m s0 (State.eqLose q s) := by
  refine Kept.step hm ?_ h0; clear h0 hm
  unfold State.eqLose
  repeat' first
    | with_reducible exact Kept.refl _ _
    | with_reducible assumption
    | with_reducible apply State.eqMessage_k
    | with_reducible apply State.setEq_k
    | (extract_lets +onlyGivenNames x; first
        | (with_reducible refine Kept.cut (x := x) ?_ ?_; (on_goal 2 => (clear_value x; intro hx)); (on_goal 1 => (unfold x; clear x)))
        | clear_value x
        | (unfold x; clear x))
    | exact rfl
    | split

theorem State.writeHeld_k {m : Nat} {s0 : State} (s : State) (hm : 0x20000018000000 &&& m = 0x20000018000000)
    (h0 : Kept m s0 s) : Kept m s0 (State.writeHeld s) := by
  refine Kept.step hm ?_ h0; clear h0 hm
  unfold State.writeHeld
  repeat' first
    | with_reducible exact Kept.refl _ _
    | with_reducible assumption
    | with_reducible apply State.eqWrite_k
    | with_reducible apply Kept.each
    | with_reducible apply State.setEq_k
    | exact rfl
    | (intro _ _)
    | with_reducible apply Kept.set_hold

theorem State.setWake_k {m : Nat} {s0 : State} (on : Bool) (s : State) (hm : 0x20000020000000 &&& m =
    0x20000020000000) (h0 : Kept m s0 s) : Kept m s0 (State.setWake on s) := by
  refine Kept.step hm ?_ h0; clear h0 hm
  unfold State.setWake
  repeat' first
    | with_reducible exact Kept.refl _ _
    | with_reducible assumption
    | with_reducible apply State.emit_k
    | (extract_lets +onlyGivenNames x; first
        | (with_reducible refine Kept.cut (x := x) ?_ ?_; (on_goal 2 => (clear_value x; intro hx)); (on_goal 1 => (unfold x; clear x)))
        | clear_value x
        | (unfold x; clear x))
    | exact rfl
    | split
    | with_reducible apply Kept.set_host

theorem State.l1Exit_k {m : Nat} {s0 : State} (s : State) (hm : 0x20000038000000 &&& m = 0x20000038000000) (h0 :
    Kept m s0 s) : Kept m s0 (State.l1Exit s) := by
  refine Kept.step hm ?_ h0; clear h0 hm
  unfold State.l1Exit
  repeat' first
    | with_reducible exact Kept.refl _ _
    | with_reducible assumption
    | with_reducible apply State.writeHeld_k
    | with_reducible apply State.recordWritten_k
    | with_reducible apply Kept.each
    | with_reducible apply State.setWake_k
    | (extract_lets +onlyGivenNames x; first
        | (with_reducible refine Kept.cut (x := x) ?_ ?_; (on_goal 2 => (clear_value x; intro hx)); (on_goal 1 => (unfold x; clear x)))
        | clear_value x
        | (unfold x; clear x))
    | exact rfl
    | (intro _ _)
    | split
    | with_reducible apply Kept.set_host

theorem State.rejudgeEq_k {m : Nat} {s0 : State} (q : Nat) (s : State) (hm : 0x20000038000000 &&& m =
    0x20000038000000) (h0 : Kept m s0 s) : Kept m s0 (State.rejudgeEq q s) := by
  refine Kept.step hm ?_ h0; clear h0 hm
  unfold State.rejudgeEq
  repeat' first
    | with_reducible exact Kept.refl _ _
    | with_reducible assumption
    | with_reducible apply State.l1Exit_k
    | with_reducible apply State.moderate_k
    | exact rfl
    | split

theorem State.signalPme_k {m : Nat} {s0 : State} (s : State) (hm : 0x20000020000000 &&& m = 0x20000020000000)
    (h0 : Kept m s0 s) : Kept m s0 (State.signalPme s) := by
  refine Kept.step hm ?_ h0; clear h0 hm
  unfold State.signalPme
  repeat' first
    | with_reducible exact Kept.refl _ _
    | with_reducible assumption
    | with_reducible apply State.emit_k
    | (extract_lets +onlyGivenNames x; first
        | (with_reducible refine Kept.cut (x := x) ?_ ?_; (on_goal 2 => (clear_value x; intro hx)); (on_goal 1 => (unfold x; clear x)))
        | clear_value x
        | (unfold x; clear x))
    | exact rfl
    | split
    | with_reducible apply Kept.set_host

theorem State.keepRecord_k {m : Nat} {s0 : State} (q : Nat) (r : EvRec) (s : State) (hm : 0x18000000 &&& m =
    0x18000000) (h0 : Kept m s0 s) : Kept m s0 (State.keepRecord q r s) := by
  refine Kept.step hm ?_ h0; clear h0 hm
  unfold State.keepRecord
  repeat' first
    | with_reducible exact Kept.refl _ _
    | with_reducible assumption
    | with_reducible apply State.setEq_k
    | exact rfl
    | with_reducible apply Kept.set_hold

theorem State.holdInL1_k {m : Nat} {s0 : State} (q : Nat) (s : State) (hm : 0x20000038000000 &&& m =
    0x20000038000000) (h0 : Kept m s0 s) : Kept m s0 (State.holdInL1 q s) := by
  refine Kept.step hm ?_ h0; clear h0 hm
  unfold State.holdInL1
  repeat' first
    | with_reducible exact Kept.refl _ _
    | with_reducible apply State.l1Exit_k
    | with_reducible apply State.moderate_k
    | exact rfl
    | split

theorem State.holdRecord_k {m : Nat} {s0 : State} (q : Nat) (r : EvRec) (s : State) (hm : 0x20000038000000 &&& m
    = 0x20000038000000) (h0 : Kept m s0 s) : Kept m s0 (State.holdRecord q r s) := by
  refine Kept.step hm ?_ h0; clear h0 hm
  unfold State.holdRecord
  repeat' first
    | with_reducible exact Kept.refl _ _
    | with_reducible assumption
    | with_reducible apply State.keepRecord_k
    | with_reducible apply State.holdInL1_k
    | with_reducible apply State.eqLose_k
    | with_reducible apply State.signalPme_k
    | (extract_lets +onlyGivenNames x; first
        | (with_reducible refine Kept.cut (x := x) ?_ ?_; (on_goal 2 => (clear_value x; intro hx)); (on_goal 1 => (unfold x; clear x)))
        | clear_value x
        | (unfold x; clear x))
    | exact rfl
    | split

theorem State.record16_k {m : Nat} {s0 : State} (q : Nat) (r : EvRec) (s : State) (hm : 0x20000038000000 &&& m =
    0x20000038000000) (h0 : Kept m s0 s) : Kept m s0 (State.record16 q r s) := by
  refine Kept.step hm ?_ h0; clear h0 hm
  unfold State.record16
  repeat' first
    | with_reducible exact Kept.refl _ _
    | with_reducible apply State.eqWrite_k
    | with_reducible apply State.recordWritten_k
    | with_reducible apply State.eqLose_k
    | with_reducible apply State.holdRecord_k
    | with_reducible apply State.setEq_k
    | exact rfl
    | split

theorem State.raiseBit_k {m : Nat} {s0 : State} (b : Blk) (i : Nat) (s : State) (hm : 0x100004000008 &&& m =
    0x100004000008) (h0 : Kept m s0 s) : Kept m s0 (State.raiseBit b i s) := by
  refine Kept.step hm ?_ h0; clear h0 hm
  unfold State.raiseBit
  repeat' first
    | with_reducible exact Kept.refl _ _
    | with_reducible assumption
    | with_reducible apply State.wr_k
    | with_reducible apply State.arrive_k
    | with_reducible apply State.noteSrc_k
    | (extract_lets +onlyGivenNames x; first
        | (with_reducible refine Kept.cut (x := x) ?_ ?_; (on_goal 2 => (clear_value x; intro hx)); (on_goal 1 => (unfold x; clear x)))
        | clear_value x
        | (unfold x; clear x))
    | exact rfl
    | split

theorem State.raise_k {m : Nat} {s0 : State} (b : Blk) (i : Nat) (unit : Nat) (info : Nat) (s : State) (hm :
    0x2010003C000008 &&& m = 0x2010003C000008) (h0 : Kept m s0 s) : Kept m s0 (State.raise b i unit info s) := by
  refine Kept.step hm ?_ h0; clear h0 hm
  unfold State.raise
  repeat' first
    | with_reducible exact Kept.refl _ _
    | with_reducible assumption
    | with_reducible apply State.record16_k
    | with_reducible apply State.raiseBit_k
    | (extract_lets +onlyGivenNames x; first
        | (with_reducible refine Kept.cut (x := x) ?_ ?_; (on_goal 2 => (clear_value x; intro hx)); (on_goal 1 => (unfold x; clear x)))
        | clear_value x
        | (unfold x; clear x))
    | exact rfl
    | split

theorem State.modRecord_k {m : Nat} {s0 : State} (code : Nat) (unit : Nat) (info : Nat) (s : State) (hm :
    0x2010003C000000 &&& m = 0x2010003C000000) (h0 : Kept m s0 s) : Kept m s0 (State.modRecord code unit info s) :=
    by
  refine Kept.step hm ?_ h0; clear h0 hm
  unfold State.modRecord
  repeat' first
    | with_reducible exact Kept.refl _ _
    | with_reducible apply State.record16_k
    | with_reducible apply State.arrive_k
    | exact rfl

theorem State.bufRecord_k {m : Nat} {s0 : State} (q : Nat) (code : Nat) (unit : Nat) (info : Nat) (s : State)
    (hm : 0x20000038000000 &&& m = 0x20000038000000) (h0 : Kept m s0 s) : Kept m s0 (State.bufRecord q code unit
    info s) := by
  refine Kept.step hm ?_ h0; clear h0 hm
  unfold State.bufRecord
  repeat' first
    | with_reducible exact Kept.refl _ _
    | with_reducible apply State.record16_k
    | exact rfl

theorem State.noteReject_k {m : Nat} {s0 : State} (off : Nat) (s : State) (hm : 0x8 &&& m = 0x8) (h0 : Kept m s0
    s) : Kept m s0 (State.noteReject off s) := by
  refine Kept.step hm ?_ h0; clear h0 hm
  unfold State.noteReject
  repeat' first
    | with_reducible exact Kept.refl _ _
    | with_reducible assumption
    | with_reducible apply State.setf_k
    | with_reducible apply State.wr_k
    | (extract_lets +onlyGivenNames x; first
        | (with_reducible refine Kept.cut (x := x) ?_ ?_; (on_goal 2 => (clear_value x; intro hx)); (on_goal 1 => (unfold x; clear x)))
        | clear_value x
        | (unfold x; clear x))
    | exact rfl
    | split

theorem State.mgReject_k {m : Nat} {s0 : State} (off : Nat) (s : State) (hm : 0x2010003C000008 &&& m =
    0x2010003C000008) (h0 : Kept m s0 s) : Kept m s0 (State.mgReject off s) := by
  refine Kept.step hm ?_ h0; clear h0 hm
  unfold State.mgReject
  repeat' first
    | with_reducible exact Kept.refl _ _
    | with_reducible apply State.modRecord_k
    | with_reducible apply State.noteReject_k
    | exact rfl

theorem State.encReject_k {m : Nat} {s0 : State} (off : Nat) (s : State) (hm : 0x2010003C000008 &&& m =
    0x2010003C000008) (h0 : Kept m s0 s) : Kept m s0 (State.encReject off s) := by
  refine Kept.step hm ?_ h0; clear h0 hm
  unfold State.encReject
  repeat' first
    | with_reducible exact Kept.refl _ _
    | with_reducible apply State.modRecord_k
    | with_reducible apply State.noteReject_k
    | exact rfl

theorem State.srcWrite_k {m : Nat} {s0 : State} (i : Nat) (w : Word) (s : State) (hm : 0x2010003C000008 &&& m =
    0x2010003C000008) (h0 : Kept m s0 s) : Kept m s0 (State.srcWrite i w s) := by
  refine Kept.step hm ?_ h0; clear h0 hm
  unfold State.srcWrite
  repeat' first
    | with_reducible exact Kept.refl _ _
    | with_reducible assumption
    | with_reducible apply State.setSrc_k
    | with_reducible apply State.encReject_k
    | with_reducible apply State.noteSrc_k
    | (extract_lets +onlyGivenNames x; first
        | (with_reducible refine Kept.cut (x := x) ?_ ?_; (on_goal 2 => (clear_value x; intro hx)); (on_goal 1 => (unfold x; clear x)))
        | clear_value x
        | (unfold x; clear x))
    | exact rfl
    | split

theorem State.evtEnable_k {m : Nat} {s0 : State} (b : Blk) (w : Word) (s : State) (hm : 0x100000000008 &&& m =
    0x100000000008) (h0 : Kept m s0 s) : Kept m s0 (State.evtEnable b w s) := by
  refine Kept.step hm ?_ h0; clear h0 hm
  unfold State.evtEnable
  repeat' first
    | with_reducible exact Kept.refl _ _
    | with_reducible assumption
    | with_reducible apply State.wr_k
    | with_reducible apply State.noteSrc_k
    | exact rfl

end Sys2Proof.Machine
end

