-- ==== Sys2Proof/Laws/FramePool.lean ====
section
/-! SUPPORT. Frames of Machine/Pool.lean: the fields each function may change. -/
namespace Sys2Proof.Machine
open Sys2Proof

theorem State.handBack_k {m : Nat} {s0 : State} (cells : List Nat) (s : State) (hm : 0x1000 &&& m = 0x1000) (h0
    : Kept m s0 s) : Kept m s0 (State.handBack cells s) := by
  refine Kept.step hm ?_ h0; clear h0 hm
  unfold State.handBack
  repeat' first
    | with_reducible exact Kept.refl _ _
    | with_reducible assumption
    | (extract_lets +onlyGivenNames x; first
        | (with_reducible refine Kept.cut (x := x) ?_ ?_; (on_goal 2 => (clear_value x; intro hx)); (on_goal 1 => (unfold x; clear x)))
        | clear_value x
        | (unfold x; clear x))
    | exact rfl
    | with_reducible apply Kept.set_books

theorem State.pauseWatch_k {m : Nat} {s0 : State} (p : Nat) (s : State) (hm : 0x1000000000 &&& m = 0x1000000000)
    (h0 : Kept m s0 s) : Kept m s0 (State.pauseWatch p s) := by
  refine Kept.step hm ?_ h0; clear h0 hm
  unfold State.pauseWatch
  repeat' first
    | with_reducible exact Kept.refl _ _
    | with_reducible assumption
    | with_reducible apply State.setPort_k
    | (extract_lets +onlyGivenNames x; first
        | (with_reducible refine Kept.cut (x := x) ?_ ?_; (on_goal 2 => (clear_value x; intro hx)); (on_goal 1 => (unfold x; clear x)))
        | clear_value x
        | (unfold x; clear x))
    | exact rfl
    | split

theorem State.chargeMoved_k {m : Nat} {s0 : State} (p : Nat) (s : State) (hm : 0x1000000000 &&& m =
    0x1000000000) (h0 : Kept m s0 s) : Kept m s0 (State.chargeMoved p s) := by
  refine Kept.step hm ?_ h0; clear h0 hm
  unfold State.chargeMoved
  repeat' first
    | with_reducible exact Kept.refl _ _
    | with_reducible apply State.pauseWatch_k
    | exact rfl
    | split

theorem State.chargeTiers_k {m : Nat} {s0 : State} (p : Nat) (t : Nat × Nat × Nat) (s : State) (hm :
    0x2010103C000808 &&& m = 0x2010103C000808) (h0 : Kept m s0 s) : Kept m s0 (State.chargeTiers p t s) := by
  refine Kept.step hm ?_ h0; clear h0 hm
  unfold State.chargeTiers
  repeat' first
    | with_reducible exact Kept.refl _ _
    | with_reducible assumption
    | with_reducible apply State.setPartner_k
    | with_reducible apply State.chargeMoved_k
    | with_reducible apply State.raise_k
    | exact rfl
    | split

theorem State.absorb_k {m : Nat} {s0 : State} (s : State) (hm : 0x2010003C001008 &&& m = 0x2010003C001008) (h0 :
    Kept m s0 s) : Kept m s0 (State.absorb s) := by
  refine Kept.step hm ?_ h0; clear h0 hm
  unfold State.absorb
  repeat' first
    | with_reducible exact Kept.refl _ _
    | with_reducible assumption
    | with_reducible apply State.raise_k
    | (extract_lets +onlyGivenNames x; first
        | (with_reducible refine Kept.cut (x := x) ?_ ?_; (on_goal 2 => (clear_value x; intro hx)); (on_goal 1 => (unfold x; clear x)))
        | clear_value x
        | (unfold x; clear x))
    | exact rfl
    | split
    | with_reducible apply Kept.set_books

theorem State.chain_k {m : Nat} {s0 : State} (hw : Bool) (a1 : List Nat) (a2 : State) (hm : 0x80 &&& m = 0x80)
    (h0 : Kept m s0 a2) : Kept m s0 (State.chain hw a1 a2) := by
  fun_induction State.chain hw a1 a2
  repeat' first
    | with_reducible exact Kept.refl _ _
    | with_reducible assumption
    | with_reducible apply State.setLink_k
    | (rename_i ih; with_reducible apply ih)

theorem State.putCells_k {m : Nat} {s0 : State} (a0 : List Nat) (a1 : List Byte) (a2 : State) (hm : 0x40 &&& m =
    0x40) (h0 : Kept m s0 a2) : Kept m s0 (State.putCells a0 a1 a2) := by
  fun_induction State.putCells a0 a1 a2
  repeat' first
    | with_reducible exact Kept.refl _ _
    | with_reducible assumption
    | with_reducible apply State.putBytes_k
    | (rename_i ih; with_reducible apply ih)

theorem State.allocate_k {m : Nat} {s0 : State} (s : State) (picks : List Nat) (n : Nat) (p : Nat) (refs : Nat)
    (static : Bool) (hw : Bool) (frame : Option Nat) (hm : 0x40000000000180 &&& m = 0x40000000000180) (h0 : Kept m
    s0 s) : KeptP m s0 (State.allocate s picks n p refs static hw frame) := by
  refine KeptP.step hm ?_ h0; clear h0 hm
  unfold State.allocate
  repeat' first
    | with_reducible exact Kept.refl _ _
    | with_reducible assumption
    | with_reducible apply State.chain_k
    | with_reducible apply State.draw_k
    | with_reducible apply State.setRecord_k
    | (extract_lets +onlyGivenNames x; first
        | (with_reducible refine Kept.cut (x := x) ?_ ?_; (on_goal 2 => (clear_value x; intro hx)); (on_goal 1 => (unfold x; clear x)))
        | (with_reducible refine KeptP.cut (x := x) ?_ ?_; (on_goal 2 => (clear_value x; intro hx)); (on_goal 1 => (unfold x; clear x)))
        | clear_value x
        | (unfold x; clear x))
    | exact rfl
    | with_reducible apply KeptP.mk

theorem State.writeFrame_k {m : Nat} {s0 : State} (c : Nat) (f : Frame) (s : State) (hm : 0x40 &&& m = 0x40) (h0
    : Kept m s0 s) : Kept m s0 (State.writeFrame c f s) := by
  refine Kept.step hm ?_ h0; clear h0 hm
  unfold State.writeFrame
  repeat' first
    | with_reducible exact Kept.refl _ _
    | with_reducible apply State.putCells_k
    | exact rfl
    | split

theorem State.freeRecord_k {m : Nat} {s0 : State} (c : Nat) (s : State) (hm : 0x2010103C001988 &&& m =
    0x2010103C001988) (h0 : Kept m s0 s) : Kept m s0 (State.freeRecord c s) := by
  refine Kept.step hm ?_ h0; clear h0 hm
  unfold State.freeRecord
  repeat' first
    | with_reducible exact Kept.refl _ _
    | with_reducible assumption
    | with_reducible apply State.absorb_k
    | with_reducible apply State.setPartner_k
    | with_reducible apply State.handBack_k
    | with_reducible apply Kept.each
    | with_reducible apply State.chargeMoved_k
    | with_reducible apply State.setLink_k
    | with_reducible apply State.setRecord_k
    | (extract_lets +onlyGivenNames x; first
        | (with_reducible refine Kept.cut (x := x) ?_ ?_; (on_goal 2 => (clear_value x; intro hx)); (on_goal 1 => (unfold x; clear x)))
        | clear_value x
        | (unfold x; clear x))
    | exact rfl
    | (intro _ _)
    | split

theorem State.dropRef_k {m : Nat} {s0 : State} (c : Nat) (s : State) (hm : 0x2010103C001988 &&& m =
    0x2010103C001988) (h0 : Kept m s0 s) : Kept m s0 (State.dropRef c s) := by
  refine Kept.step hm ?_ h0; clear h0 hm
  unfold State.dropRef
  repeat' first
    | with_reducible exact Kept.refl _ _
    | with_reducible apply State.setRecord_k
    | with_reducible apply State.freeRecord_k
    | exact rfl
    | split

theorem State.dropRefs_k {m : Nat} {s0 : State} (cs : List Nat) (s : State) (hm : 0x2010103C001988 &&& m =
    0x2010103C001988) (h0 : Kept m s0 s) : Kept m s0 (State.dropRefs cs s) := by
  refine Kept.step hm ?_ h0; clear h0 hm
  unfold State.dropRefs
  repeat' first
    | with_reducible exact Kept.refl _ _
    | with_reducible apply Kept.each
    | with_reducible apply State.dropRef_k
    | exact rfl
    | (intro _ _)

theorem State.countPartner_k {m : Nat} {s0 : State} (p : Nat) (w : Nat) (s : State) (hm : 0x8 &&& m = 0x8) (h0 :
    Kept m s0 s) : Kept m s0 (State.countPartner p w s) := by
  refine Kept.step hm ?_ h0; clear h0 hm
  unfold State.countPartner
  repeat' first
    | with_reducible exact Kept.refl _ _
    | with_reducible apply State.cnt_k
    | exact rfl

theorem State.noteRefused_k {m : Nat} {s0 : State} (p : Nat) (s : State) (hm : 0x2010003C000808 &&& m =
    0x2010003C000808) (h0 : Kept m s0 s) : Kept m s0 (State.noteRefused p s) := by
  refine Kept.step hm ?_ h0; clear h0 hm
  unfold State.noteRefused
  repeat' first
    | with_reducible exact Kept.refl _ _
    | with_reducible assumption
    | with_reducible apply State.setPartner_k
    | with_reducible apply State.raise_k
    | (extract_lets +onlyGivenNames x; first
        | (with_reducible refine Kept.cut (x := x) ?_ ?_; (on_goal 2 => (clear_value x; intro hx)); (on_goal 1 => (unfold x; clear x)))
        | clear_value x
        | (unfold x; clear x))
    | exact rfl
    | split

theorem State.restDeficit_k {m : Nat} {s0 : State} (p : Nat) (s : State) (hm : 0x800 &&& m = 0x800) (h0 : Kept m
    s0 s) : Kept m s0 (State.restDeficit p s) := by
  refine Kept.step hm ?_ h0; clear h0 hm
  unfold State.restDeficit
  repeat' first
    | with_reducible exact Kept.refl _ _
    | with_reducible apply State.setPartner_k
    | exact rfl
    | split

theorem State.dropWaits_k {m : Nat} {s0 : State} (gone : WaitReq → Bool) (s : State) (hm : 0x8800 &&& m =
    0x8800) (h0 : Kept m s0 s) : Kept m s0 (State.dropWaits gone s) := by
  refine Kept.step hm ?_ h0; clear h0 hm
  unfold State.dropWaits
  repeat' first
    | with_reducible exact Kept.refl _ _
    | with_reducible assumption
    | with_reducible apply State.restDeficit_k
    | with_reducible apply Kept.each
    | exact rfl
    | (intro _ _)
    | with_reducible apply Kept.set_waits

theorem State.noteAdmitted_k {m : Nat} {s0 : State} (p : Nat) (s : State) (hm : 0x800 &&& m = 0x800) (h0 : Kept
    m s0 s) : Kept m s0 (State.noteAdmitted p s) := by
  refine Kept.step hm ?_ h0; clear h0 hm
  unfold State.noteAdmitted
  repeat' first
    | with_reducible exact Kept.refl _ _
    | with_reducible apply State.setPartner_k
    | exact rfl

theorem State.countRoute_k {m : Nat} {s0 : State} (r : Nat) (w : Nat) (s : State) (hm : 0x8 &&& m = 0x8) (h0 :
    Kept m s0 s) : Kept m s0 (State.countRoute r w s) := by
  refine Kept.step hm ?_ h0; clear h0 hm
  unfold State.countRoute
  repeat' first
    | with_reducible exact Kept.refl _ _
    | with_reducible apply State.cnt_k
    | exact rfl

theorem State.countGw_k {m : Nat} {s0 : State} (i : Nat) (s : State) (hm : 0x8 &&& m = 0x8) (h0 : Kept m s0 s) :
    Kept m s0 (State.countGw i s) := by
  refine Kept.step hm ?_ h0; clear h0 hm
  unfold State.countGw
  repeat' first
    | with_reducible exact Kept.refl _ _
    | with_reducible apply State.cnt_k
    | exact rfl

theorem State.destDown_k {m : Nat} {s0 : State} (r : Nat) (s : State) (hm : 0x2010003E000008 &&& m =
    0x2010003E000008) (h0 : Kept m s0 s) : Kept m s0 (State.destDown r s) := by
  refine Kept.step hm ?_ h0; clear h0 hm
  unfold State.destDown
  repeat' first
    | with_reducible exact Kept.refl _ _
    | with_reducible assumption
    | with_reducible apply State.raise_k
    | with_reducible apply State.countRoute_k
    | (extract_lets +onlyGivenNames x; first
        | (with_reducible refine Kept.cut (x := x) ?_ ?_; (on_goal 2 => (clear_value x; intro hx)); (on_goal 1 => (unfold x; clear x)))
        | clear_value x
        | (unfold x; clear x))
    | exact rfl
    | split
    | with_reducible apply Kept.set_gwDown

theorem State.noteUe_k {m : Nat} {s0 : State} (ue : Nat) (s : State) (hm : 0x2010003C000008 &&& m =
    0x2010003C000008) (h0 : Kept m s0 s) : Kept m s0 (State.noteUe ue s) := by
  refine Kept.step hm ?_ h0; clear h0 hm
  unfold State.noteUe
  repeat' first
    | with_reducible exact Kept.refl _ _
    | with_reducible assumption
    | with_reducible apply State.modRecord_k
    | with_reducible apply State.wr_k
    | exact rfl

theorem State.noteCe_k {m : Nat} {s0 : State} (n : Nat) (s : State) (hm : 0x8 &&& m = 0x8) (h0 : Kept m s0 s) :
    Kept m s0 (State.noteCe n s) := by
  refine Kept.step hm ?_ h0; clear h0 hm
  unfold State.noteCe
  repeat' first
    | with_reducible exact Kept.refl _ _
    | with_reducible apply State.cntF_k
    | exact rfl
    | split

theorem State.readCells_k {m : Nat} {s0 : State} (e : RecEcc) (s : State) (hm : 0x2010003C000008 &&& m =
    0x2010003C000008) (h0 : Kept m s0 s) : Kept m s0 (State.readCells e s) := by
  refine Kept.step hm ?_ h0; clear h0 hm
  unfold State.readCells
  repeat' first
    | with_reducible exact Kept.refl _ _
    | with_reducible apply State.noteUe_k
    | with_reducible apply State.noteCe_k
    | exact rfl
    | split

end Sys2Proof.Machine
end

