-- ==== Sys2Proof/Laws/FrameMbox.lean ====
section
/-! SUPPORT. Frames of Machine/Mbox.lean: the fields each function may change. -/
namespace Sys2Proof.Machine
open Sys2Proof

theorem State.dropOpt_k {m : Nat} {s0 : State} (r : Option Nat) (s : State) (hm : 0x2010103C001988 &&& m =
    0x2010103C001988) (h0 : Kept m s0 s) : Kept m s0 (State.dropOpt r s) := by
  refine Kept.step hm ?_ h0; clear h0 hm
  unfold State.dropOpt
  repeat' first
    | with_reducible exact Kept.refl _ _
    | with_reducible apply State.dropRef_k
    | exact rfl
    | split

theorem State.publish_k {m : Nat} {s0 : State} (i : Nat) (r : Nat) (d : Desc) (s : State) (hm : 0x2010103C001B88
    &&& m = 0x2010103C001B88) (h0 : Kept m s0 s) : Kept m s0 (State.publish i r d s) := by
  refine Kept.step hm ?_ h0; clear h0 hm
  unfold State.publish
  repeat' first
    | with_reducible exact Kept.refl _ _
    | with_reducible apply State.setDesc_k
    | with_reducible apply State.bufRecord_k
    | with_reducible apply State.dropOpt_k
    | exact rfl

theorem State.mailboxArrival_k {m : Nat} {s0 : State} (i : Nat) (r : Nat) (s : State) (hm : 0x2010103C001B88 &&&
    m = 0x2010103C001B88) (h0 : Kept m s0 s) : KeptP m s0 (State.mailboxArrival i r s) := by
  refine KeptP.step hm ?_ h0; clear h0 hm
  unfold State.mailboxArrival
  repeat' first
    | with_reducible exact Kept.refl _ _
    | with_reducible assumption
    | with_reducible apply State.setDesc_k
    | with_reducible apply State.dropOpt_k
    | with_reducible apply State.publish_k
    | with_reducible apply State.dropRef_k
    | (extract_lets +onlyGivenNames x; first
        | (with_reducible refine Kept.cut (x := x) ?_ ?_; (on_goal 2 => (clear_value x; intro hx)); (on_goal 1 => (unfold x; clear x)))
        | (with_reducible refine KeptP.cut (x := x) ?_ ?_; (on_goal 2 => (clear_value x; intro hx)); (on_goal 1 => (unfold x; clear x)))
        | clear_value x
        | (unfold x; clear x))
    | exact rfl
    | split
    | with_reducible apply KeptP.mk

theorem State.unlockMailbox_k {m : Nat} {s0 : State} (ack : Bool) (i : Nat) (s : State) (hm : 0x2010103C001B88
    &&& m = 0x2010103C001B88) (h0 : Kept m s0 s) : Kept m s0 (State.unlockMailbox ack i s) := by
  refine Kept.step hm ?_ h0; clear h0 hm
  unfold State.unlockMailbox
  repeat' first
    | with_reducible exact Kept.refl _ _
    | with_reducible assumption
    | with_reducible apply State.setDesc_k
    | with_reducible apply State.publish_k
    | with_reducible apply State.dropRef_k
    | (extract_lets +onlyGivenNames x; first
        | (with_reducible refine Kept.cut (x := x) ?_ ?_; (on_goal 2 => (clear_value x; intro hx)); (on_goal 1 => (unfold x; clear x)))
        | clear_value x
        | (unfold x; clear x))
    | exact rfl
    | split

theorem State.fifoAdvance_k {m : Nat} {s0 : State} (f : Nat) (s : State) (hm : 0x2010103C001F88 &&& m =
    0x2010103C001F88) (h0 : Kept m s0 s) : Kept m s0 (State.fifoAdvance f s) := by
  refine Kept.step hm ?_ h0; clear h0 hm
  unfold State.fifoAdvance
  repeat' first
    | with_reducible exact Kept.refl _ _
    | with_reducible assumption
    | with_reducible apply State.setFifo_k
    | with_reducible apply State.setDesc_k
    | with_reducible apply State.dropOpt_k
    | exact rfl

theorem State.fifoAppend_k {m : Nat} {s0 : State} (f : Nat) (r : Nat) (s : State) (hm : 0x20000038000600 &&& m =
    0x20000038000600) (h0 : Kept m s0 s) : Kept m s0 (State.fifoAppend f r s) := by
  refine Kept.step hm ?_ h0; clear h0 hm
  unfold State.fifoAppend
  repeat' first
    | with_reducible exact Kept.refl _ _
    | with_reducible assumption
    | with_reducible apply State.setFifo_k
    | with_reducible apply State.setDesc_k
    | with_reducible apply State.bufRecord_k
    | exact rfl

theorem State.fifoArrival_k {m : Nat} {s0 : State} (f : Nat) (r : Nat) (s : State) (hm : 0x2010103C001F88 &&& m
    = 0x2010103C001F88) (h0 : Kept m s0 s) : KeptP m s0 (State.fifoArrival f r s) := by
  refine KeptP.step hm ?_ h0; clear h0 hm
  unfold State.fifoArrival
  repeat' first
    | with_reducible exact Kept.refl _ _
    | with_reducible assumption
    | with_reducible apply State.fifoAdvance_k
    | with_reducible apply State.fifoAppend_k
    | with_reducible apply State.dropRef_k
    | with_reducible apply State.cnt_k
    | (extract_lets +onlyGivenNames x; first
        | (with_reducible refine Kept.cut (x := x) ?_ ?_; (on_goal 2 => (clear_value x; intro hx)); (on_goal 1 => (unfold x; clear x)))
        | (with_reducible refine KeptP.cut (x := x) ?_ ?_; (on_goal 2 => (clear_value x; intro hx)); (on_goal 1 => (unfold x; clear x)))
        | clear_value x
        | (unfold x; clear x))
    | exact rfl
    | split
    | with_reducible apply KeptP.mk

theorem State.setHw_k {m : Nat} {s0 : State} (hw : Bool) (r : Option Nat) (s : State) (hm : 0x80 &&& m = 0x80)
    (h0 : Kept m s0 s) : Kept m s0 (State.setHw hw r s) := by
  refine Kept.step hm ?_ h0; clear h0 hm
  unfold State.setHw
  repeat' first
    | with_reducible exact Kept.refl _ _
    | with_reducible apply Kept.each
    | with_reducible apply State.setLink_k
    | exact rfl
    | (intro _ _)
    | split

theorem State.swapStatic_k {m : Nat} {s0 : State} (i : Nat) (s : State) (hm : 0x280 &&& m = 0x280) (h0 : Kept m
    s0 s) : Kept m s0 (State.swapStatic i s) := by
  refine Kept.step hm ?_ h0; clear h0 hm
  unfold State.swapStatic
  repeat' first
    | with_reducible exact Kept.refl _ _
    | with_reducible assumption
    | with_reducible apply State.setDesc_k
    | with_reducible apply State.setHw_k
    | exact rfl

theorem State.commitHeader_k {m : Nat} {s0 : State} (r : Nat) (s : State) (hm : 0x40 &&& m = 0x40) (h0 : Kept m
    s0 s) : Kept m s0 (State.commitHeader r s) := by
  refine Kept.step hm ?_ h0; clear h0 hm
  unfold State.commitHeader
  repeat' first
    | with_reducible exact Kept.refl _ _
    | with_reducible assumption
    | with_reducible apply State.putBytes_k
    | exact rfl

theorem State.commitStatic_k {m : Nat} {s0 : State} (i : Nat) (s : State) (hm : 0x2C0 &&& m = 0x2C0) (h0 : Kept
    m s0 s) : Kept m s0 (State.commitStatic i s) := by
  refine Kept.step hm ?_ h0; clear h0 hm
  unfold State.commitStatic
  repeat' first
    | with_reducible exact Kept.refl _ _
    | with_reducible assumption
    | with_reducible apply State.setDesc_k
    | with_reducible apply State.commitHeader_k
    | with_reducible apply State.setHw_k
    | with_reducible apply State.swapStatic_k
    | (extract_lets +onlyGivenNames x; first
        | (with_reducible refine Kept.cut (x := x) ?_ ?_; (on_goal 2 => (clear_value x; intro hx)); (on_goal 1 => (unfold x; clear x)))
        | clear_value x
        | (unfold x; clear x))
    | exact rfl
    | split

theorem State.triggerStatic_k {m : Nat} {s0 : State} (i : Nat) (s : State) (hm : 0x400000200 &&& m =
    0x400000200) (h0 : Kept m s0 s) : KeptP m s0 (State.triggerStatic i s) := by
  refine KeptP.step hm ?_ h0; clear h0 hm
  unfold State.triggerStatic
  repeat' first
    | with_reducible exact Kept.refl _ _
    | with_reducible assumption
    | with_reducible apply State.setLane_k
    | with_reducible apply State.setDesc_k
    | (extract_lets +onlyGivenNames x; first
        | (with_reducible refine Kept.cut (x := x) ?_ ?_; (on_goal 2 => (clear_value x; intro hx)); (on_goal 1 => (unfold x; clear x)))
        | (with_reducible refine KeptP.cut (x := x) ?_ ?_; (on_goal 2 => (clear_value x; intro hx)); (on_goal 1 => (unfold x; clear x)))
        | clear_value x
        | (unfold x; clear x))
    | exact rfl
    | split
    | with_reducible apply KeptP.mk

theorem State.bufferOp_k {m : Nat} {s0 : State} (op : Nat) (onFifo : Bool) (arg : Nat) (s : State) (hm :
    0x2010143C001FC8 &&& m = 0x2010143C001FC8) (h0 : Kept m s0 s) : KeptO m s0 (State.bufferOp op onFifo arg s) :=
    by
  refine KeptO.step hm ?_ h0; clear h0 hm
  unfold State.bufferOp
  repeat' first
    | with_reducible exact Kept.refl _ _
    | with_reducible assumption
    | with_reducible apply State.commitStatic_k
    | with_reducible apply State.setDesc_k
    | with_reducible apply State.fifoAdvance_k
    | with_reducible apply State.wr_k
    | with_reducible apply State.unlockMailbox_k
    | with_reducible apply State.triggerStatic_k
    | (extract_lets +onlyGivenNames x; first
        | (with_reducible refine Kept.cut (x := x) ?_ ?_; (on_goal 2 => (clear_value x; intro hx)); (on_goal 1 => (unfold x; clear x)))
        | (with_reducible refine KeptO.cut (x := x) ?_ ?_; (on_goal 2 => (clear_value x; intro hx)); (on_goal 1 => (unfold x; clear x)))
        | clear_value x
        | (unfold x; clear x))
    | with_reducible exact KeptO.none
    | with_reducible apply KeptO.some
    | (with_reducible refine KeptP.get (by assumption) ?_)
    | exact rfl
    | split
    | with_reducible apply KeptP.snd

theorem State.mbop_k {m : Nat} {s0 : State} (cells : RecEcc) (w : Word) (s : State) (hm : 0x2010143C001FC8 &&& m
    = 0x2010143C001FC8) (h0 : Kept m s0 s) : Kept m s0 (State.mbop cells w s) := by
  refine Kept.step hm ?_ h0; clear h0 hm
  unfold State.mbop
  repeat' first
    | with_reducible exact Kept.refl _ _
    | with_reducible assumption
    | with_reducible apply State.encReject_k
    | with_reducible apply State.readCells_k
    | with_reducible apply State.bufferOp_k
    | (extract_lets +onlyGivenNames x; first
        | (with_reducible refine Kept.cut (x := x) ?_ ?_; (on_goal 2 => (clear_value x; intro hx)); (on_goal 1 => (unfold x; clear x)))
        | clear_value x
        | (unfold x; clear x))
    | with_reducible exact KeptO.none
    | with_reducible apply KeptO.some
    | (with_reducible refine KeptO.get (by assumption) ?_)
    | exact rfl
    | split

end Sys2Proof.Machine
end

