-- ==== Sys2Proof/Laws/FrameFilters.lean ====
section
/-! SUPPORT. Frames of Machine/Filters.lean: the fields each function may change. -/
namespace Sys2Proof.Machine
open Sys2Proof

theorem State.countFlt_k {m : Nat} {s0 : State} (c : Nat) (i : Nat) (n : Nat) (s : State) (hm : 0x8 &&& m = 0x8)
    (h0 : Kept m s0 s) : Kept m s0 (State.countFlt c i n s) := by
  refine Kept.step hm ?_ h0; clear h0 hm
  unfold State.countFlt
  repeat' first
    | with_reducible exact Kept.refl _ _
    | with_reducible apply State.cnt_k
    | exact rfl
    | split

theorem State.countLookup_k {m : Nat} {s0 : State} (c : Nat) (g : Gather) (s : State) (hm : 0x2010003C000008 &&&
    m = 0x2010003C000008) (h0 : Kept m s0 s) : Kept m s0 (State.countLookup c g s) := by
  refine Kept.step hm ?_ h0; clear h0 hm
  unfold State.countLookup
  dsimp only
  repeat' first
    | with_reducible exact Kept.refl _ _
    | with_reducible assumption
    | with_reducible apply Kept.each
    | with_reducible apply State.raise_k
    | with_reducible apply State.countFlt_k
    | with_reducible apply State.cnt_k
    | exact rfl
    | (intro _ _)
    | split

theorem State.match__k {m : Nat} {s0 : State} (c : Nat) (f : Frame) (sigValid : Bool) (s : State) (hm :
    0x2010003C000008 &&& m = 0x2010003C000008) (h0 : Kept m s0 s) : KeptP m s0 (State.match_ c f sigValid s) := by
  refine KeptP.step hm ?_ h0; clear h0 hm
  unfold State.match_
  repeat' first
    | with_reducible exact Kept.refl _ _
    | with_reducible assumption
    | with_reducible apply State.countLookup_k
    | with_reducible apply State.raise_k
    | with_reducible apply State.cnt_k
    | (extract_lets +onlyGivenNames x; first
        | (with_reducible refine Kept.cut (x := x) ?_ ?_; (on_goal 2 => (clear_value x; intro hx)); (on_goal 1 => (unfold x; clear x)))
        | (with_reducible refine KeptP.cut (x := x) ?_ ?_; (on_goal 2 => (clear_value x; intro hx)); (on_goal 1 => (unfold x; clear x)))
        | clear_value x
        | (unfold x; clear x))
    | exact rfl
    | split
    | with_reducible apply KeptP.mk

theorem State.setStage_k {m : Nat} {s0 : State} (c : Nat) (w : Nat) (a2 : List Byte) (a3 : Nat) (a4 : State) (hm
    : 0x8 &&& m = 0x8) (h0 : Kept m s0 a4) : Kept m s0 (State.setStage c w a2 a3 a4) := by
  fun_induction State.setStage c w a2 a3 a4
  repeat' first
    | with_reducible exact Kept.refl _ _
    | with_reducible assumption
    | with_reducible apply State.wr_k
    | (rename_i ih; with_reducible apply ih)

theorem State.fltStatus_k {m : Nat} {s0 : State} (c : Nat) (st : Nat) (s : State) (hm : 0x2010003C100008 &&& m =
    0x2010003C100008) (h0 : Kept m s0 s) : Kept m s0 (State.fltStatus c st s) := by
  refine Kept.step hm ?_ h0; clear h0 hm
  unfold State.fltStatus
  repeat' first
    | with_reducible exact Kept.refl _ _
    | with_reducible assumption
    | with_reducible apply State.raise_k
    | with_reducible apply State.setSlice_k
    | (extract_lets +onlyGivenNames x; first
        | (with_reducible refine Kept.cut (x := x) ?_ ?_; (on_goal 2 => (clear_value x; intro hx)); (on_goal 1 => (unfold x; clear x)))
        | clear_value x
        | (unfold x; clear x))
    | exact rfl
    | split

theorem State.fltBatch_k {m : Nat} {s0 : State} (c : Nat) (o : BatchOp) (s : State) (hm : 0x2010003C100008 &&& m
    = 0x2010003C100008) (h0 : Kept m s0 s) : Kept m s0 (State.fltBatch c o s) := by
  refine Kept.step hm ?_ h0; clear h0 hm
  unfold State.fltBatch
  repeat' first
    | with_reducible exact Kept.refl _ _
    | with_reducible assumption
    | with_reducible apply State.fltStatus_k
    | with_reducible apply State.setSlice_k
    | (extract_lets +onlyGivenNames x; first
        | (with_reducible refine Kept.cut (x := x) ?_ ?_; (on_goal 2 => (clear_value x; intro hx)); (on_goal 1 => (unfold x; clear x)))
        | clear_value x
        | (unfold x; clear x))
    | exact rfl
    | split

theorem State.fltAdd_k {m : Nat} {s0 : State} (c : Nat) (slot : Nat) (s : State) (hm : 0x2010003C100008 &&& m =
    0x2010003C100008) (h0 : Kept m s0 s) : Kept m s0 (State.fltAdd c slot s) := by
  refine Kept.step hm ?_ h0; clear h0 hm
  unfold State.fltAdd
  repeat' first
    | with_reducible exact Kept.refl _ _
    | with_reducible assumption
    | with_reducible apply State.fltStatus_k
    | with_reducible apply State.fltBatch_k
    | (extract_lets +onlyGivenNames x; first
        | (with_reducible refine Kept.cut (x := x) ?_ ?_; (on_goal 2 => (clear_value x; intro hx)); (on_goal 1 => (unfold x; clear x)))
        | clear_value x
        | (unfold x; clear x))
    | exact rfl
    | split

theorem State.fltSet_k {m : Nat} {s0 : State} (c : Nat) (slot : Nat) (s : State) (hm : 0x2010003C100008 &&& m =
    0x2010003C100008) (h0 : Kept m s0 s) : Kept m s0 (State.fltSet c slot s) := by
  refine Kept.step hm ?_ h0; clear h0 hm
  unfold State.fltSet
  repeat' first
    | with_reducible exact Kept.refl _ _
    | with_reducible assumption
    | with_reducible apply State.fltStatus_k
    | with_reducible apply State.fltBatch_k
    | (extract_lets +onlyGivenNames x; first
        | (with_reducible refine Kept.cut (x := x) ?_ ?_; (on_goal 2 => (clear_value x; intro hx)); (on_goal 1 => (unfold x; clear x)))
        | clear_value x
        | (unfold x; clear x))
    | exact rfl
    | split

theorem State.fltDel_k {m : Nat} {s0 : State} (c : Nat) (slot : Nat) (s : State) (hm : 0x2010003C100008 &&& m =
    0x2010003C100008) (h0 : Kept m s0 s) : Kept m s0 (State.fltDel c slot s) := by
  refine Kept.step hm ?_ h0; clear h0 hm
  unfold State.fltDel
  repeat' first
    | with_reducible exact Kept.refl _ _
    | with_reducible apply State.fltStatus_k
    | with_reducible apply State.fltBatch_k
    | exact rfl
    | split

theorem State.fltMove_k {m : Nat} {s0 : State} (c : Nat) (slot : Nat) (s : State) (hm : 0x2010003C100008 &&& m =
    0x2010003C100008) (h0 : Kept m s0 s) : Kept m s0 (State.fltMove c slot s) := by
  refine Kept.step hm ?_ h0; clear h0 hm
  unfold State.fltMove
  repeat' first
    | with_reducible exact Kept.refl _ _
    | with_reducible assumption
    | with_reducible apply State.fltStatus_k
    | with_reducible apply State.fltBatch_k
    | (extract_lets +onlyGivenNames x; first
        | (with_reducible refine Kept.cut (x := x) ?_ ?_; (on_goal 2 => (clear_value x; intro hx)); (on_goal 1 => (unfold x; clear x)))
        | clear_value x
        | (unfold x; clear x))
    | exact rfl
    | split

theorem State.fltReadExact_k {m : Nat} {s0 : State} (c : Nat) (slot : Nat) (s : State) (hm : 0x2010003C100008
    &&& m = 0x2010003C100008) (h0 : Kept m s0 s) : Kept m s0 (State.fltReadExact c slot s) := by
  refine Kept.step hm ?_ h0; clear h0 hm
  unfold State.fltReadExact
  repeat' first
    | with_reducible exact Kept.refl _ _
    | with_reducible assumption
    | with_reducible apply State.fltStatus_k
    | with_reducible apply State.setStage_k
    | (extract_lets +onlyGivenNames x; first
        | (with_reducible refine Kept.cut (x := x) ?_ ?_; (on_goal 2 => (clear_value x; intro hx)); (on_goal 1 => (unfold x; clear x)))
        | clear_value x
        | (unfold x; clear x))
    | exact rfl
    | split

theorem State.fltReadMasked_k {m : Nat} {s0 : State} (c : Nat) (i : Nat) (shadow : Bool) (s : State) (hm :
    0x2010003C100008 &&& m = 0x2010003C100008) (h0 : Kept m s0 s) : Kept m s0 (State.fltReadMasked c i shadow s) :=
    by
  refine Kept.step hm ?_ h0; clear h0 hm
  unfold State.fltReadMasked
  repeat' first
    | with_reducible exact Kept.refl _ _
    | with_reducible assumption
    | with_reducible apply State.fltStatus_k
    | with_reducible apply State.wr_k
    | with_reducible apply State.setStage_k
    | (extract_lets +onlyGivenNames x; first
        | (with_reducible refine Kept.cut (x := x) ?_ ?_; (on_goal 2 => (clear_value x; intro hx)); (on_goal 1 => (unfold x; clear x)))
        | clear_value x
        | (unfold x; clear x))
    | exact rfl
    | split

theorem State.fltWriteShadow_k {m : Nat} {s0 : State} (c : Nat) (i : Nat) (s : State) (hm : 0x2010003C100008 &&&
    m = 0x2010003C100008) (h0 : Kept m s0 s) : Kept m s0 (State.fltWriteShadow c i s) := by
  refine Kept.step hm ?_ h0; clear h0 hm
  unfold State.fltWriteShadow
  dsimp only
  repeat' first
    | with_reducible exact Kept.refl _ _
    | with_reducible assumption
    | with_reducible apply State.fltStatus_k
    | with_reducible apply State.setSlice_k
    | exact rfl
    | split

theorem State.fltCommit_k {m : Nat} {s0 : State} (c : Nat) (flip : Bool) (s : State) (hm : 0x2010003C100008 &&&
    m = 0x2010003C100008) (h0 : Kept m s0 s) : Kept m s0 (State.fltCommit c flip s) := by
  refine Kept.step hm ?_ h0; clear h0 hm
  unfold State.fltCommit
  repeat' first
    | with_reducible exact Kept.refl _ _
    | with_reducible assumption
    | with_reducible apply State.fltStatus_k
    | with_reducible apply State.setSlice_k
    | exact rfl

theorem State.fltCopyDone_k {m : Nat} {s0 : State} (c : Nat) (s : State) (hm : 0x100000 &&& m = 0x100000) (h0 :
    Kept m s0 s) : Kept m s0 (State.fltCopyDone c s) := by
  refine Kept.step hm ?_ h0; clear h0 hm
  unfold State.fltCopyDone
  repeat' first
    | with_reducible exact Kept.refl _ _
    | with_reducible assumption
    | with_reducible apply State.setSlice_k
    | (extract_lets +onlyGivenNames x; first
        | (with_reducible refine Kept.cut (x := x) ?_ ?_; (on_goal 2 => (clear_value x; intro hx)); (on_goal 1 => (unfold x; clear x)))
        | clear_value x
        | (unfold x; clear x))
    | exact rfl
    | split

theorem State.fltOp_k {m : Nat} {s0 : State} (c : Nat) (w : Word) (s : State) (hm : 0x2010003C100008 &&& m =
    0x2010003C100008) (h0 : Kept m s0 s) : Kept m s0 (State.fltOp c w s) := by
  refine Kept.step hm ?_ h0; clear h0 hm
  unfold State.fltOp
  repeat' first
    | with_reducible exact Kept.refl _ _
    | with_reducible assumption
    | with_reducible apply State.fltMove_k
    | with_reducible apply State.fltStatus_k
    | with_reducible apply State.fltReadExact_k
    | with_reducible apply State.fltWriteShadow_k
    | with_reducible apply State.encReject_k
    | with_reducible apply State.fltReadMasked_k
    | with_reducible apply State.fltAdd_k
    | with_reducible apply State.setSlice_k
    | with_reducible apply State.fltSet_k
    | with_reducible apply State.fltDel_k
    | with_reducible apply State.fltCommit_k
    | (extract_lets +onlyGivenNames x; first
        | (with_reducible refine Kept.cut (x := x) ?_ ?_; (on_goal 2 => (clear_value x; intro hx)); (on_goal 1 => (unfold x; clear x)))
        | clear_value x
        | (unfold x; clear x))
    | exact rfl
    | split

end Sys2Proof.Machine
end

