-- ==== Sys2Proof/Laws/FrameCheck.lean ====
section
/-! SUPPORT. Frames of Machine/Check.lean: the fields each function may change. -/
namespace Sys2Proof.Machine
open Sys2Proof

theorem State.quarantine_k {m : Nat} {s0 : State} (c : Nat) (i : Nat) (cause : Nat) (received : Nat) (computed :
    Nat) (f : Frame) (s : State) (hm : 0x2014003C000008 &&& m = 0x2014003C000008) (h0 : Kept m s0 s) : Kept m s0
    (State.quarantine c i cause received computed f s) := by
  refine Kept.step hm ?_ h0; clear h0 hm
  unfold State.quarantine
  repeat' first
    | with_reducible exact Kept.refl _ _
    | with_reducible assumption
    | with_reducible apply State.raise_k
    | with_reducible apply State.setRing_k
    | with_reducible apply State.cntF_k
    | (extract_lets +onlyGivenNames x; first
        | (with_reducible refine Kept.cut (x := x) ?_ ?_; (on_goal 2 => (clear_value x; intro hx)); (on_goal 1 => (unfold x; clear x)))
        | clear_value x
        | (unfold x; clear x))
    | exact rfl
    | split

theorem State.quarantinePop_k {m : Nat} {s0 : State} (c : Nat) (s : State) (hm : 0x40000000000 &&& m =
    0x40000000000) (h0 : Kept m s0 s) : Kept m s0 (State.quarantinePop c s) := by
  refine Kept.step hm ?_ h0; clear h0 hm
  unfold State.quarantinePop
  repeat' first
    | with_reducible exact Kept.refl _ _
    | with_reducible assumption
    | with_reducible apply State.setRing_k
    | (extract_lets +onlyGivenNames x; first
        | (with_reducible refine Kept.cut (x := x) ?_ ?_; (on_goal 2 => (clear_value x; intro hx)); (on_goal 1 => (unfold x; clear x)))
        | clear_value x
        | (unfold x; clear x))
    | exact rfl
    | split

theorem State.raiseFail_k {m : Nat} {s0 : State} (c : Nat) (x : Nat) (cause : Nat) (already : Bool) (s : State)
    (hm : 0x2010003C000008 &&& m = 0x2010003C000008) (h0 : Kept m s0 s) : Kept m s0 (State.raiseFail c x cause
    already s) := by
  refine Kept.step hm ?_ h0; clear h0 hm
  unfold State.raiseFail
  repeat' first
    | with_reducible exact Kept.refl _ _
    | with_reducible apply State.raise_k
    | exact rfl
    | split

theorem State.raiseAlive_k {m : Nat} {s0 : State} (c : Nat) (i : Nat) (x : Nat) (already : Bool) (s : State) (hm
    : 0x2010003C000008 &&& m = 0x2010003C000008) (h0 : Kept m s0 s) : Kept m s0 (State.raiseAlive c i x already s)
    := by
  refine Kept.step hm ?_ h0; clear h0 hm
  unfold State.raiseAlive
  repeat' first
    | with_reducible exact Kept.refl _ _
    | with_reducible apply State.raise_k
    | with_reducible apply State.raiseBit_k
    | exact rfl
    | split

theorem State.rxCheck_k {m : Nat} {s0 : State} (i : Nat) (route : Nat) (f : Frame) (s : State) (hm :
    0x2016003C000008 &&& m = 0x2016003C000008) (h0 : Kept m s0 s) : KeptP m s0 (State.rxCheck i route f s) := by
  refine KeptP.step hm ?_ h0; clear h0 hm
  unfold State.rxCheck
  repeat' first
    | with_reducible exact Kept.refl _ _
    | with_reducible assumption
    | with_reducible apply State.raiseAlive_k
    | with_reducible apply State.raiseFail_k
    | with_reducible apply State.quarantine_k
    | with_reducible apply State.setCtx_k
    | (extract_lets +onlyGivenNames x; first
        | (with_reducible refine Kept.cut (x := x) ?_ ?_; (on_goal 2 => (clear_value x; intro hx)); (on_goal 1 => (unfold x; clear x)))
        | (with_reducible refine KeptP.cut (x := x) ?_ ?_; (on_goal 2 => (clear_value x; intro hx)); (on_goal 1 => (unfold x; clear x)))
        | clear_value x
        | (unfold x; clear x))
    | exact rfl
    | split
    | with_reducible apply KeptP.mk

theorem State.txAppend_k {m : Nat} {s0 : State} (i : Nat) (f : Frame) (s : State) (hm : 0x2012003C000008 &&& m =
    0x2012003C000008) (h0 : Kept m s0 s) : KeptP m s0 (State.txAppend i f s) := by
  refine KeptP.step hm ?_ h0; clear h0 hm
  unfold State.txAppend
  repeat' first
    | with_reducible exact Kept.refl _ _
    | with_reducible assumption
    | with_reducible apply State.raiseFail_k
    | with_reducible apply State.setCtx_k
    | (extract_lets +onlyGivenNames x; first
        | (with_reducible refine Kept.cut (x := x) ?_ ?_; (on_goal 2 => (clear_value x; intro hx)); (on_goal 1 => (unfold x; clear x)))
        | (with_reducible refine KeptP.cut (x := x) ?_ ?_; (on_goal 2 => (clear_value x; intro hx)); (on_goal 1 => (unfold x; clear x)))
        | clear_value x
        | (unfold x; clear x))
    | exact rfl
    | split
    | with_reducible apply KeptP.mk

theorem State.ctxOp_k {m : Nat} {s0 : State} (w : Word) (s : State) (hm : 0x2012003C000008 &&& m =
    0x2012003C000008) (h0 : Kept m s0 s) : Kept m s0 (State.ctxOp w s) := by
  refine Kept.step hm ?_ h0; clear h0 hm
  unfold State.ctxOp
  repeat' first
    | with_reducible exact Kept.refl _ _
    | with_reducible assumption
    | with_reducible apply State.encReject_k
    | with_reducible apply State.setCtx_k
    | (extract_lets +onlyGivenNames x; first
        | (with_reducible refine Kept.cut (x := x) ?_ ?_; (on_goal 2 => (clear_value x; intro hx)); (on_goal 1 => (unfold x; clear x)))
        | clear_value x
        | (unfold x; clear x))
    | exact rfl
    | split

theorem State.unseeAll_k {m : Nat} {s0 : State} (s : State) (hm : 0x20000000000 &&& m = 0x20000000000) (h0 :
    Kept m s0 s) : Kept m s0 (State.unseeAll s) := by
  refine Kept.step hm ?_ h0; clear h0 hm
  refine Kept.set_ctxs ?_ rfl (Kept.refl _ s)
  refine fun h => Tbl.wf_map _ _ _ (fun _ => rfl) (fun e he => ?_) h
  obtain ⟨k, v⟩ := e
  cases v with
  | none => exact absurd rfl he
  | some v => simp

end Sys2Proof.Machine
end

