-- ==== Sys2Proof/Laws/FrameGates.lean ====
section
/-! SUPPORT. Frames of Machine/Gates.lean: the fields each function may change. -/
namespace Sys2Proof.Machine
open Sys2Proof

theorem State.upPort_k {m : Nat} {s0 : State} (p : Nat) (f : Port → Port) (s : State) (hm : 0x1000000000 &&& m =
    0x1000000000) (h0 : Kept m s0 s) : Kept m s0 (State.upPort p f s) := by
  refine Kept.step hm ?_ h0; clear h0 hm
  unfold State.upPort
  repeat' first
    | with_reducible exact Kept.refl _ _
    | with_reducible apply State.setPort_k
    | exact rfl

theorem State.countMac_k {m : Nat} {s0 : State} (p : Nat) (i : Nat) (s : State) (n : Nat) (hm : 0x8 &&& m = 0x8)
    (h0 : Kept m s0 s) : Kept m s0 (State.countMac p i s n) := by
  refine Kept.step hm ?_ h0; clear h0 hm
  unfold State.countMac
  repeat' first
    | with_reducible exact Kept.refl _ _
    | with_reducible apply State.cnt_k
    | exact rfl

theorem State.stampRecord_k {m : Nat} {s0 : State} (p : Nat) (tag : Nat) (outcome : Nat) (stamp : Nat) (s :
    State) (hm : 0x2010023C000008 &&& m = 0x2010023C000008) (h0 : Kept m s0 s) : Kept m s0 (State.stampRecord p tag
    outcome stamp s) := by
  refine Kept.step hm ?_ h0; clear h0 hm
  unfold State.stampRecord
  repeat' first
    | with_reducible exact Kept.refl _ _
    | with_reducible assumption
    | with_reducible apply State.setBport_k
    | with_reducible apply State.raise_k
    | with_reducible apply State.cnt_k
    | (extract_lets +onlyGivenNames x; first
        | (with_reducible refine Kept.cut (x := x) ?_ ?_; (on_goal 2 => (clear_value x; intro hx)); (on_goal 1 => (unfold x; clear x)))
        | clear_value x
        | (unfold x; clear x))
    | exact rfl
    | split

theorem State.tsRecord_k {m : Nat} {s0 : State} (p : Nat) (e : EthEntry) (outcome : Nat) (stamp : Nat) (s :
    State) (hm : 0x2010023C000008 &&& m = 0x2010023C000008) (h0 : Kept m s0 s) : Kept m s0 (State.tsRecord p e
    outcome stamp s) := by
  refine Kept.step hm ?_ h0; clear h0 hm
  unfold State.tsRecord
  repeat' first
    | with_reducible exact Kept.refl _ _
    | with_reducible apply State.stampRecord_k
    | exact rfl
    | split

theorem State.entryGone_k {m : Nat} {s0 : State} (p : Nat) (outcome : Nat) (e : EthEntry) (s : State) (hm :
    0x2010123C001988 &&& m = 0x2010123C001988) (h0 : Kept m s0 s) : Kept m s0 (State.entryGone p outcome e s) := by
  refine Kept.step hm ?_ h0; clear h0 hm
  unfold State.entryGone
  repeat' first
    | with_reducible exact Kept.refl _ _
    | with_reducible assumption
    | with_reducible apply State.dropRef_k
    | with_reducible apply State.tsRecord_k
    | (extract_lets +onlyGivenNames x; first
        | (with_reducible refine Kept.cut (x := x) ?_ ?_; (on_goal 2 => (clear_value x; intro hx)); (on_goal 1 => (unfold x; clear x)))
        | clear_value x
        | (unfold x; clear x))
    | exact rfl
    | split

theorem State.advanceCredit_k {m : Nat} {s0 : State} (p : Nat) (s : State) (hm : 0x1000000000 &&& m =
    0x1000000000) (h0 : Kept m s0 s) : Kept m s0 (State.advanceCredit p s) := by
  refine Kept.step hm ?_ h0; clear h0 hm
  unfold State.advanceCredit
  repeat' first
    | with_reducible exact Kept.refl _ _
    | with_reducible assumption
    | with_reducible apply State.setPort_k
    | with_reducible apply Kept.foldl
    | (intro _ _ _)
    | exact rfl

theorem State.refreshGates_k {m : Nat} {s0 : State} (p : Nat) (s : State) (hm : 0x1000000000 &&& m =
    0x1000000000) (h0 : Kept m s0 s) : Kept m s0 (State.refreshGates p s) := by
  refine Kept.step hm ?_ h0; clear h0 hm
  unfold State.refreshGates
  repeat' first
    | with_reducible exact Kept.refl _ _
    | with_reducible assumption
    | with_reducible apply State.upPort_k
    | with_reducible apply State.advanceCredit_k
    | exact rfl

theorem State.refreshAllGates_k {m : Nat} {s0 : State} (s : State) (hm : 0x1000000000 &&& m = 0x1000000000) (h0
    : Kept m s0 s) : Kept m s0 (State.refreshAllGates s) := by
  refine Kept.step hm ?_ h0; clear h0 hm
  unfold State.refreshAllGates
  repeat' first
    | with_reducible exact Kept.refl _ _
    | with_reducible apply Kept.each
    | with_reducible apply State.refreshGates_k
    | exact rfl
    | (intro _ _)

theorem State.gateOversize_k {m : Nat} {s0 : State} (p : Nat) (e : EthEntry) (s : State) (hm : 0x2010123C001988
    &&& m = 0x2010123C001988) (h0 : Kept m s0 s) : Kept m s0 (State.gateOversize p e s) := by
  refine Kept.step hm ?_ h0; clear h0 hm
  unfold State.gateOversize
  repeat' first
    | with_reducible exact Kept.refl _ _
    | with_reducible apply State.countMac_k
    | with_reducible apply State.raise_k
    | with_reducible apply State.entryGone_k
    | exact rfl

theorem State.checkHeads_k {m : Nat} {s0 : State} (p : Nat) (t : Nat) (a2 : List EthEntry) (a3 : State) (hm :
    0x2010123C001988 &&& m = 0x2010123C001988) (h0 : Kept m s0 a3) : Kept m s0 (State.checkHeads p t a2 a3) := by
  fun_induction State.checkHeads p t a2 a3
  repeat' first
    | with_reducible exact Kept.refl _ _
    | with_reducible assumption
    | with_reducible apply State.upPort_k
    | with_reducible apply State.gateOversize_k
    | (rename_i ih; with_reducible apply ih)
    | exact sub_trans rfl hm

theorem State.checkPtp_k {m : Nat} {s0 : State} (p : Nat) (t : Nat) (s : State) (hm : 0x2010123C001988 &&& m =
    0x2010123C001988) (h0 : Kept m s0 s) : Kept m s0 (State.checkPtp p t s) := by
  refine Kept.step hm ?_ h0; clear h0 hm
  unfold State.checkPtp
  repeat' first
    | with_reducible exact Kept.refl _ _
    | with_reducible apply State.upPort_k
    | with_reducible apply State.gateOversize_k
    | exact rfl
    | split

theorem State.checkHead_k {m : Nat} {s0 : State} (p : Nat) (t : Nat) (s : State) (hm : 0x2010123C001988 &&& m =
    0x2010123C001988) (h0 : Kept m s0 s) : Kept m s0 (State.checkHead p t s) := by
  refine Kept.step hm ?_ h0; clear h0 hm
  unfold State.checkHead
  repeat' first
    | with_reducible exact Kept.refl _ _
    | with_reducible assumption
    | with_reducible apply State.checkHeads_k
    | with_reducible apply State.checkPtp_k
    | exact rfl

theorem State.ethEnqueue_k {m : Nat} {s0 : State} (p : Nat) (e : EthEntry) (s : State) (hm : 0x2010123C001988
    &&& m = 0x2010123C001988) (h0 : Kept m s0 s) : Kept m s0 (State.ethEnqueue p e s) := by
  refine Kept.step hm ?_ h0; clear h0 hm
  unfold State.ethEnqueue
  repeat' first
    | with_reducible exact Kept.refl _ _
    | with_reducible assumption
    | with_reducible apply State.upPort_k
    | with_reducible apply State.advanceCredit_k
    | with_reducible apply State.checkHead_k
    | (extract_lets +onlyGivenNames x; first
        | (with_reducible refine Kept.cut (x := x) ?_ ?_; (on_goal 2 => (clear_value x; intro hx)); (on_goal 1 => (unfold x; clear x)))
        | clear_value x
        | (unfold x; clear x))
    | exact rfl
    | split

end Sys2Proof.Machine
end

