-- ==== Sys2Proof/Laws/FrameDeliver.lean ====
section
/-! SUPPORT. Frames of Machine/Deliver.lean: the fields each function may change. -/
namespace Sys2Proof.Machine
open Sys2Proof

theorem State.issueBack_k {m : Nat} {s0 : State} (q : Nat) (f : HostSlot) (s : State) (hm : 0x2010003C000008 &&&
    m = 0x2010003C000008) (h0 : Kept m s0 s) : Kept m s0 (State.issueBack q f s) := by
  refine Kept.step hm ?_ h0; clear h0 hm
  unfold State.issueBack
  repeat' first
    | with_reducible exact Kept.refl _ _
    | with_reducible assumption
    | with_reducible apply State.raise_k
    | with_reducible apply State.emit_k
    | with_reducible apply State.cnt_k
    | (extract_lets +onlyGivenNames x; first
        | (with_reducible refine Kept.cut (x := x) ?_ ?_; (on_goal 2 => (clear_value x; intro hx)); (on_goal 1 => (unfold x; clear x)))
        | clear_value x
        | (unfold x; clear x))
    | exact rfl
    | split

theorem State.writeBacksFrom_k {m : Nat} {s0 : State} (q : Nat) (a1 : List HostSlot) (a2 : State) (hm :
    0x2010007C000008 &&& m = 0x2010007C000008) (h0 : Kept m s0 a2) : Kept m s0 (State.writeBacksFrom q a1 a2) := by
  fun_induction State.writeBacksFrom q a1 a2
  repeat' first
    | with_reducible exact Kept.refl _ _
    | with_reducible assumption
    | with_reducible apply State.setHostQ_k
    | with_reducible apply State.issueBack_k
    | (rename_i ih; with_reducible apply ih)
    | exact sub_trans rfl hm

theorem State.writeBacks_k {m : Nat} {s0 : State} (q : Nat) (s : State) (hm : 0x2010007C000008 &&& m =
    0x2010007C000008) (h0 : Kept m s0 s) : Kept m s0 (State.writeBacks q s) := by
  refine Kept.step hm ?_ h0; clear h0 hm
  unfold State.writeBacks
  repeat' first
    | with_reducible exact Kept.refl _ _
    | with_reducible apply State.writeBacksFrom_k
    | exact rfl
    | split

theorem State.setSlot_k {m : Nat} {s0 : State} (q : Nat) (i : Nat) (f : HostSlot → HostSlot) (s : State) (hm :
    0x40000000 &&& m = 0x40000000) (h0 : Kept m s0 s) : Kept m s0 (State.setSlot q i f s) := by
  refine Kept.step hm ?_ h0; clear h0 hm
  unfold State.setSlot
  repeat' first
    | with_reducible exact Kept.refl _ _
    | with_reducible assumption
    | with_reducible apply State.setHostQ_k
    | exact rfl

theorem State.slotDue_k {m : Nat} {s0 : State} (q : Nat) (i : Nat) (status : Nat) (written : Nat) (s : State)
    (hm : 0x2010007C000008 &&& m = 0x2010007C000008) (h0 : Kept m s0 s) : Kept m s0 (State.slotDue q i status
    written s) := by
  refine Kept.step hm ?_ h0; clear h0 hm
  unfold State.slotDue
  repeat' first
    | with_reducible exact Kept.refl _ _
    | with_reducible apply State.writeBacks_k
    | with_reducible apply State.setSlot_k
    | exact rfl

theorem State.takeToken_k {m : Nat} {s0 : State} (q : Nat) (s : State) (hm : 0x40000000 &&& m = 0x40000000) (h0
    : Kept m s0 s) : KeptQ m s0 (State.takeToken q s) := by
  refine KeptQ.step hm ?_ h0; clear h0 hm
  unfold State.takeToken
  repeat' first
    | with_reducible exact Kept.refl _ _
    | with_reducible assumption
    | with_reducible apply State.setHostQ_k
    | with_reducible apply State.setSlot_k
    | (extract_lets +onlyGivenNames x; first
        | (with_reducible refine Kept.cut (x := x) ?_ ?_; (on_goal 2 => (clear_value x; intro hx)); (on_goal 1 => (unfold x; clear x)))
        | (with_reducible refine KeptQ.cut (x := x) ?_ ?_; (on_goal 2 => (clear_value x; intro hx)); (on_goal 1 => (unfold x; clear x)))
        | clear_value x
        | (unfold x; clear x))
    | with_reducible exact KeptQ.none
    | with_reducible apply KeptQ.some
    | exact rfl
    | split

theorem State.giveToken_k {m : Nat} {s0 : State} (q : Nat) (i : Nat) (s : State) (hm : 0x2010007C000008 &&& m =
    0x2010007C000008) (h0 : Kept m s0 s) : Kept m s0 (State.giveToken q i s) := by
  refine Kept.step hm ?_ h0; clear h0 hm
  unfold State.giveToken
  repeat' first
    | with_reducible exact Kept.refl _ _
    | with_reducible apply State.writeBacks_k
    | with_reducible apply State.setSlot_k
    | exact rfl

theorem State.rxWrite_k {m : Nat} {s0 : State} (q : Nat) (i : Nat) (c : Nat) (s : State) (hm : 0x2010007C000008
    &&& m = 0x2010007C000008) (h0 : Kept m s0 s) : Kept m s0 (State.rxWrite q i c s) := by
  refine Kept.step hm ?_ h0; clear h0 hm
  unfold State.rxWrite
  repeat' first
    | with_reducible exact Kept.refl _ _
    | with_reducible assumption
    | with_reducible apply State.slotDue_k
    | with_reducible apply State.emit_k
    | (extract_lets +onlyGivenNames x; first
        | (with_reducible refine Kept.cut (x := x) ?_ ?_; (on_goal 2 => (clear_value x; intro hx)); (on_goal 1 => (unfold x; clear x)))
        | clear_value x
        | (unfold x; clear x))
    | exact rfl
    | split

theorem State.hostDiscard_k {m : Nat} {s0 : State} (q : Nat) (s : State) (hm : 0x8 &&& m = 0x8) (h0 : Kept m s0
    s) : Kept m s0 (State.hostDiscard q s) := by
  refine Kept.step hm ?_ h0; clear h0 hm
  unfold State.hostDiscard
  repeat' first
    | with_reducible exact Kept.refl _ _
    | with_reducible apply State.cnt_k
    | exact rfl

theorem State.stopQueue_k {m : Nat} {s0 : State} (q : Nat) (s : State) (hm : 0x2010007C008808 &&& m =
    0x2010007C008808) (h0 : Kept m s0 s) : Kept m s0 (State.stopQueue q s) := by
  refine Kept.step hm ?_ h0; clear h0 hm
  unfold State.stopQueue
  repeat' first
    | with_reducible exact Kept.refl _ _
    | with_reducible assumption
    | with_reducible apply State.setf_k
    | with_reducible apply State.setHostQ_k
    | with_reducible apply State.writeBacks_k
    | with_reducible apply State.setSlot_k
    | with_reducible apply Kept.each
    | with_reducible apply State.dropWaits_k
    | exact rfl
    | (intro _ _)
    | split

theorem State.queueFault_k {m : Nat} {s0 : State} (q : Nat) (i : Nat) (s : State) (hm : 0x2010007C008808 &&& m =
    0x2010007C008808) (h0 : Kept m s0 s) : Kept m s0 (State.queueFault q i s) := by
  refine Kept.step hm ?_ h0; clear h0 hm
  unfold State.queueFault
  repeat' first
    | with_reducible exact Kept.refl _ _
    | with_reducible apply State.stopQueue_k
    | with_reducible apply State.setHostQ_k
    | with_reducible apply State.raise_k
    | exact rfl

theorem State.inboxArrive_k {m : Nat} {s0 : State} (g : Nat) (i : Nat) (record : Nat) (route : Nat) (s : State)
    (hm : 0x100000000000 &&& m = 0x100000000000) (h0 : Kept m s0 s) : Kept m s0 (State.inboxArrive g i record route
    s) := by
  refine Kept.step hm ?_ h0; clear h0 hm
  unfold State.inboxArrive
  repeat' first
    | with_reducible exact Kept.refl _ _
    | with_reducible assumption
    | with_reducible apply State.noteEngine_k
    | with_reducible apply State.setEng_k
    | (extract_lets +onlyGivenNames x; first
        | (with_reducible refine Kept.cut (x := x) ?_ ?_; (on_goal 2 => (clear_value x; intro hx)); (on_goal 1 => (unfold x; clear x)))
        | clear_value x
        | (unfold x; clear x))
    | exact rfl
    | split

theorem State.txQueueArrive_k {m : Nat} {s0 : State} (n : Nat) (record : Nat) (job : TxJob) (s : State) (hm :
    0x2010143C001B88 &&& m = 0x2010143C001B88) (h0 : Kept m s0 s) : Kept m s0 (State.txQueueArrive n record job s)
    := by
  refine Kept.step hm ?_ h0; clear h0 hm
  unfold State.txQueueArrive
  repeat' first
    | with_reducible exact Kept.refl _ _
    | with_reducible assumption
    | with_reducible apply State.setLane_k
    | with_reducible apply State.setDesc_k
    | with_reducible apply State.dropRef_k
    | (extract_lets +onlyGivenNames x; first
        | (with_reducible refine Kept.cut (x := x) ?_ ?_; (on_goal 2 => (clear_value x; intro hx)); (on_goal 1 => (unfold x; clear x)))
        | clear_value x
        | (unfold x; clear x))
    | exact rfl
    | split

end Sys2Proof.Machine
end

