-- ==== Sys2Proof/Laws/FrameGateway.lean ====
section
/-! SUPPORT. Frames of Machine/Gateway.lean: the fields each function may change. -/
namespace Sys2Proof.Machine
open Sys2Proof

theorem State.addWords_k {m : Nat} {s0 : State} (r : Nat) (ws : List Delivery) (acc : List Delivery × State)
    (hm : 0x8 &&& m = 0x8) (h0 : KeptP m s0 acc) : KeptP m s0 (State.addWords r ws acc) := by
  unfold State.addWords
  refine KeptP.foldl _ _ (fun q b h => ?_) h0
  split
  · exact State.countRoute_k _ _ _ hm h
  · exact h

theorem State.namedSet_k {m : Nat} {s0 : State} (routes : List Nat) (kind : Nat) (index : Nat) (launch : Option
    Nat) (stampReq : Bool) (tag : Nat) (ref : Nat) (s : State) (hm : 0x2010003C000008 &&& m = 0x2010003C000008) (h0
    : Kept m s0 s) : KeptP m s0 (State.namedSet routes kind index launch stampReq tag ref s) := by
  refine KeptP.step hm ?_ h0; clear h0 hm
  unfold State.namedSet
  repeat' first
    | with_reducible exact Kept.refl _ _
    | with_reducible assumption
    | with_reducible apply State.addWords_k
    | with_reducible apply State.raise_k
    | with_reducible apply State.countGw_k
    | with_reducible apply State.countRoute_k
    | (extract_lets +onlyGivenNames x; first
        | (with_reducible refine Kept.cut (x := x) ?_ ?_; (on_goal 2 => (clear_value x; intro hx)); (on_goal 1 => (unfold x; clear x)))
        | (with_reducible refine KeptP.cut (x := x) ?_ ?_; (on_goal 2 => (clear_value x; intro hx)); (on_goal 1 => (unfold x; clear x)))
        | clear_value x
        | (unfold x; clear x))
    | (with_reducible refine KeptP.get (by assumption) ?_)
    | with_reducible apply Kept.foldl
    | with_reducible apply KeptP.foldl
    | (intro _ _ _)
    | exact rfl
    | split
    | with_reducible apply KeptP.mk
    | with_reducible apply KeptT.snd
    | with_reducible apply KeptP.snd

theorem State.streamCheck_k {m : Nat} {s0 : State} (sid : List Byte) (ds : List Delivery) (s : State) (hm : 0x8
    &&& m = 0x8) (h0 : Kept m s0 s) : KeptP m s0 (State.streamCheck sid ds s) := by
  refine KeptP.step hm ?_ h0; clear h0 hm
  unfold State.streamCheck
  repeat' first
    | with_reducible exact Kept.refl _ _
    | with_reducible assumption
    | with_reducible apply Kept.each
    | with_reducible apply State.countGw_k
    | (extract_lets +onlyGivenNames x; first
        | (with_reducible refine Kept.cut (x := x) ?_ ?_; (on_goal 2 => (clear_value x; intro hx)); (on_goal 1 => (unfold x; clear x)))
        | (with_reducible refine KeptP.cut (x := x) ?_ ?_; (on_goal 2 => (clear_value x; intro hx)); (on_goal 1 => (unfold x; clear x)))
        | clear_value x
        | (unfold x; clear x))
    | exact rfl
    | (intro _ _)
    | with_reducible apply KeptP.mk

theorem State.unpackSet_k {m : Nat} {s0 : State} (f : Frame) (ds : List Delivery) (s : State) (hm :
    0x2010003C000008 &&& m = 0x2010003C000008) (h0 : Kept m s0 s) : KeptP m s0 (State.unpackSet f ds s) := by
  refine KeptP.step hm ?_ h0; clear h0 hm
  unfold State.unpackSet
  repeat' first
    | with_reducible exact Kept.refl _ _
    | with_reducible assumption
    | with_reducible apply State.streamCheck_k
    | with_reducible apply State.raise_k
    | with_reducible apply State.countGw_k
    | with_reducible apply State.cnt_k
    | (extract_lets +onlyGivenNames x; first
        | (with_reducible refine Kept.cut (x := x) ?_ ?_; (on_goal 2 => (clear_value x; intro hx)); (on_goal 1 => (unfold x; clear x)))
        | (with_reducible refine KeptP.cut (x := x) ?_ ?_; (on_goal 2 => (clear_value x; intro hx)); (on_goal 1 => (unfold x; clear x)))
        | clear_value x
        | (unfold x; clear x))
    | (with_reducible refine KeptP.get (by assumption) ?_)
    | (with_reducible refine KeptT.get (by assumption) ?_)
    | exact rfl
    | split
    | with_reducible apply KeptP.mk

theorem State.dropUnsuited_k {m : Nat} {s0 : State} (f : Frame) (ds : List Delivery) (s : State) (hm : 0x8 &&& m
    = 0x8) (h0 : Kept m s0 s) : KeptP m s0 (State.dropUnsuited f ds s) := by
  refine KeptP.step hm ?_ h0; clear h0 hm
  unfold State.dropUnsuited
  repeat' first
    | with_reducible exact Kept.refl _ _
    | with_reducible apply Kept.each
    | with_reducible apply State.countRoute_k
    | exact rfl
    | (intro _ _)
    | with_reducible apply KeptP.mk

theorem State.available_k {m : Nat} {s0 : State} (ds : List (Delivery × List Frame)) (s : State) (hm :
    0x2010003E000008 &&& m = 0x2010003E000008) (h0 : Kept m s0 s) : KeptP m s0 (State.available ds s) := by
  refine KeptP.step hm ?_ h0; clear h0 hm
  unfold State.available
  repeat' first
    | with_reducible exact Kept.refl _ _
    | with_reducible assumption
    | with_reducible apply State.countRoute_k
    | with_reducible apply State.destDown_k
    | (extract_lets +onlyGivenNames x; first
        | (with_reducible refine Kept.cut (x := x) ?_ ?_; (on_goal 2 => (clear_value x; intro hx)); (on_goal 1 => (unfold x; clear x)))
        | (with_reducible refine KeptP.cut (x := x) ?_ ?_; (on_goal 2 => (clear_value x; intro hx)); (on_goal 1 => (unfold x; clear x)))
        | clear_value x
        | (unfold x; clear x))
    | with_reducible apply Kept.foldl
    | with_reducible apply KeptP.foldl
    | (intro _ _ _)
    | exact rfl
    | split
    | with_reducible apply KeptP.mk
    | with_reducible apply KeptT.snd
    | with_reducible apply KeptP.snd

theorem State.takeCredit_k {m : Nat} {s0 : State} (spare : Nat) (x : Delivery × List Frame) (s : State) (hm :
    0x101440000000 &&& m = 0x101440000000) (h0 : Kept m s0 s) : KeptQ m s0 (State.takeCredit spare x s) := by
  refine KeptQ.step hm ?_ h0; clear h0 hm
  unfold State.takeCredit
  repeat' first
    | with_reducible exact Kept.refl _ _
    | with_reducible assumption
    | with_reducible apply State.setPort_k
    | with_reducible apply State.setLane_k
    | with_reducible apply State.setEng_k
    | with_reducible apply State.takeToken_k
    | (extract_lets +onlyGivenNames x; first
        | (with_reducible refine Kept.cut (x := x) ?_ ?_; (on_goal 2 => (clear_value x; intro hx)); (on_goal 1 => (unfold x; clear x)))
        | (with_reducible refine KeptQ.cut (x := x) ?_ ?_; (on_goal 2 => (clear_value x; intro hx)); (on_goal 1 => (unfold x; clear x)))
        | clear_value x
        | (unfold x; clear x))
    | with_reducible exact KeptQ.none
    | with_reducible apply KeptQ.some
    | (with_reducible refine KeptQ.get (by assumption) ?_)
    | exact rfl
    | split
    | with_reducible apply KeptQ.map
    | exact fun _ => rfl

theorem State.giveCredit_k {m : Nat} {s0 : State} (d : Delivery) (s : State) (hm : 0x101400000000 &&& m =
    0x101400000000) (h0 : Kept m s0 s) : Kept m s0 (State.giveCredit d s) := by
  refine Kept.step hm ?_ h0; clear h0 hm
  unfold State.giveCredit
  repeat' first
    | with_reducible exact Kept.refl _ _
    | with_reducible assumption
    | with_reducible apply State.setPort_k
    | with_reducible apply State.setLane_k
    | with_reducible apply State.setEng_k
    | (extract_lets +onlyGivenNames x; first
        | (with_reducible refine Kept.cut (x := x) ?_ ?_; (on_goal 2 => (clear_value x; intro hx)); (on_goal 1 => (unfold x; clear x)))
        | clear_value x
        | (unfold x; clear x))
    | exact rfl
    | split

theorem State.takeCredits_k {m : Nat} {s0 : State} (xs : List (Delivery × List Frame)) (s : State) (hm :
    0x101440000000 &&& m = 0x101440000000) (h0 : Kept m s0 s) : KeptT m s0 (State.takeCredits xs s) := by
  refine KeptT.step hm ?_ h0; clear h0 hm
  unfold State.takeCredits
  repeat' first
    | with_reducible exact Kept.refl _ _
    | with_reducible assumption
    | with_reducible apply State.takeCredit_k
    | with_reducible exact KeptQ.none
    | with_reducible apply KeptQ.some
    | (with_reducible refine KeptQ.get (by assumption) ?_)
    | with_reducible apply Kept.foldl
    | with_reducible apply KeptT.foldl
    | (intro _ _ _)
    | exact rfl
    | split
    | with_reducible apply KeptT.mk
    | with_reducible apply KeptT.snd

theorem State.nextSeq_k {m : Nat} {s0 : State} (kind : Nat) (index : Nat) (s : State) (hm : 0x501440000000 &&& m
    = 0x501440000000) (h0 : Kept m s0 s) : KeptP m s0 (State.nextSeq kind index s) := by
  refine KeptP.step hm ?_ h0; clear h0 hm
  unfold State.nextSeq
  repeat' first
    | with_reducible exact Kept.refl _ _
    | with_reducible assumption
    | with_reducible apply State.setPort_k
    | with_reducible apply State.setLane_k
    | with_reducible apply State.setHostQ_k
    | with_reducible apply State.setEng_k
    | with_reducible apply State.setTile_k
    | (extract_lets +onlyGivenNames x; first
        | (with_reducible refine Kept.cut (x := x) ?_ ?_; (on_goal 2 => (clear_value x; intro hx)); (on_goal 1 => (unfold x; clear x)))
        | (with_reducible refine KeptP.cut (x := x) ?_ ?_; (on_goal 2 => (clear_value x; intro hx)); (on_goal 1 => (unfold x; clear x)))
        | clear_value x
        | (unfold x; clear x))
    | exact rfl
    | split
    | with_reducible apply KeptP.mk

theorem State.newRecord_k {m : Nat} {s0 : State} (picks : List Nat) (p : Nat) (id : Nat) (held : Bool) (f :
    Frame) (ds : List Delivery) (s : State) (hm : 0x405014400001C0 &&& m = 0x405014400001C0) (h0 : Kept m s0 s) :
    KeptT m s0 (State.newRecord picks p id held f ds s) := by
  refine KeptT.step hm ?_ h0; clear h0 hm
  unfold State.newRecord
  repeat' first
    | with_reducible exact Kept.refl _ _
    | with_reducible assumption
    | with_reducible apply State.nextSeq_k
    | with_reducible apply State.writeFrame_k
    | with_reducible apply State.allocate_k
    | (extract_lets +onlyGivenNames x; first
        | (with_reducible refine Kept.cut (x := x) ?_ ?_; (on_goal 2 => (clear_value x; intro hx)); (on_goal 1 => (unfold x; clear x)))
        | (with_reducible refine KeptT.cut (x := x) ?_ ?_; (on_goal 2 => (clear_value x; intro hx)); (on_goal 1 => (unfold x; clear x)))
        | clear_value x
        | (unfold x; clear x))
    | (with_reducible refine KeptP.get (by assumption) ?_)
    | (with_reducible refine KeptT.get (by assumption) ?_)
    | exact rfl
    | split
    | with_reducible apply KeptP.mk
    | with_reducible apply KeptT.mk

theorem State.hold__k {m : Nat} {s0 : State} (d : Delivery) (s : State) (hm : 0x4000 &&& m = 0x4000) (h0 : Kept
    m s0 s) : Kept m s0 (State.hold_ d s) := by
  refine Kept.step hm ?_ h0; clear h0 hm
  unfold State.hold_
  repeat' first
    | with_reducible exact Kept.refl _ _
    | with_reducible assumption
    | exact rfl
    | with_reducible apply Kept.set_held

theorem State.endTransit_k {m : Nat} {s0 : State} (id : Nat) (s : State) (hm : 0x2000 &&& m = 0x2000) (h0 : Kept
    m s0 s) : Kept m s0 (State.endTransit id s) := by
  refine Kept.step hm ?_ h0; clear h0 hm
  unfold State.endTransit
  repeat' first
    | with_reducible exact Kept.refl _ _
    | with_reducible assumption
    | exact rfl
    | split
    | with_reducible apply Kept.set_transit

theorem State.launchFrame_k {m : Nat} {s0 : State} (picks : List Nat) (p : Nat) (f : Frame) (xs : List (Delivery
    × List Frame)) (s : State) (hm : 0x405014400161C8 &&& m = 0x405014400161C8) (h0 : Kept m s0 s) : Kept m s0
    (State.launchFrame picks p f xs s) := by
  refine Kept.step hm ?_ h0; clear h0 hm
  unfold State.launchFrame
  repeat' first
    | with_reducible exact Kept.refl _ _
    | with_reducible assumption
    | with_reducible apply State.newRecord_k
    | with_reducible apply State.hold__k
    | with_reducible apply Kept.each
    | with_reducible apply State.countGw_k
    | (extract_lets +onlyGivenNames x; first
        | (with_reducible refine Kept.cut (x := x) ?_ ?_; (on_goal 2 => (clear_value x; intro hx)); (on_goal 1 => (unfold x; clear x)))
        | clear_value x
        | (unfold x; clear x))
    | (with_reducible refine KeptP.get (by assumption) ?_)
    | (with_reducible refine KeptT.get (by assumption) ?_)
    | with_reducible apply Kept.foldl
    | with_reducible apply KeptT.foldl
    | (intro _ _ _)
    | exact rfl
    | (intro _ _)
    | split
    | with_reducible apply KeptP.mk
    | with_reducible apply KeptT.mk
    | with_reducible apply KeptT.snd
    | with_reducible apply KeptP.snd
    | (with_reducible apply Kept.upd <;> try first
        | exact rfl
        | exact Or.inl rfl
        | exact Or.inr rfl)

theorem State.countRefused_k {m : Nat} {s0 : State} (ds : List Delivery) (s : State) (hm : 0x8 &&& m = 0x8) (h0
    : Kept m s0 s) : Kept m s0 (State.countRefused ds s) := by
  refine Kept.step hm ?_ h0; clear h0 hm
  unfold State.countRefused
  repeat' first
    | with_reducible exact Kept.refl _ _
    | with_reducible apply Kept.each
    | with_reducible apply State.countRoute_k
    | exact rfl
    | (intro _ _)

theorem State.admitLine_k {m : Nat} {s0 : State} (picks : List Nat) (p : Nat) (f : Frame) (xs : List (Delivery ×
    List Frame)) (s : State) (hm : 0x6050147C0169C8 &&& m = 0x6050147C0169C8) (h0 : Kept m s0 s) : KeptP m s0
    (State.admitLine picks p f xs s) := by
  refine KeptP.step hm ?_ h0; clear h0 hm
  unfold State.admitLine
  repeat' first
    | with_reducible exact Kept.refl _ _
    | with_reducible assumption
    | with_reducible apply State.noteRefused_k
    | with_reducible apply State.noteAdmitted_k
    | with_reducible apply State.launchFrame_k
    | with_reducible apply State.countPartner_k
    | with_reducible apply State.countRefused_k
    | with_reducible apply State.takeCredits_k
    | with_reducible apply State.chargeTiers_k
    | with_reducible apply State.cnt_k
    | (extract_lets +onlyGivenNames x; first
        | (with_reducible refine Kept.cut (x := x) ?_ ?_; (on_goal 2 => (clear_value x; intro hx)); (on_goal 1 => (unfold x; clear x)))
        | (with_reducible refine KeptP.cut (x := x) ?_ ?_; (on_goal 2 => (clear_value x; intro hx)); (on_goal 1 => (unfold x; clear x)))
        | clear_value x
        | (unfold x; clear x))
    | (with_reducible refine KeptP.get (by assumption) ?_)
    | (with_reducible refine KeptT.get (by assumption) ?_)
    | exact rfl
    | split
    | with_reducible apply KeptP.mk

theorem State.portOutcome_k {m : Nat} {s0 : State} (d : Delivery) (s : State) (hm : 0x2010023C000008 &&& m =
    0x2010023C000008) (h0 : Kept m s0 s) : Kept m s0 (State.portOutcome d s) := by
  refine Kept.step hm ?_ h0; clear h0 hm
  unfold State.portOutcome
  repeat' first
    | with_reducible exact Kept.refl _ _
    | with_reducible apply State.stampRecord_k
    | exact rfl
    | split

theorem State.releaseDelivery_k {m : Nat} {s0 : State} (d : Delivery) (s : State) (hm : 0x2010163C001988 &&& m =
    0x2010163C001988) (h0 : Kept m s0 s) : Kept m s0 (State.releaseDelivery d s) := by
  refine Kept.step hm ?_ h0; clear h0 hm
  unfold State.releaseDelivery
  repeat' first
    | with_reducible exact Kept.refl _ _
    | with_reducible apply State.portOutcome_k
    | with_reducible apply State.dropRef_k
    | with_reducible apply State.giveCredit_k
    | exact rfl

theorem State.noteLate_k {m : Nat} {s0 : State} (d : Delivery) (s : State) (hm : 0x2010003D000008 &&& m =
    0x2010003D000008) (h0 : Kept m s0 s) : Kept m s0 (State.noteLate d s) := by
  refine Kept.step hm ?_ h0; clear h0 hm
  unfold State.noteLate
  repeat' first
    | with_reducible exact Kept.refl _ _
    | with_reducible assumption
    | with_reducible apply State.raise_k
    | with_reducible apply State.countRoute_k
    | (extract_lets +onlyGivenNames x; first
        | (with_reducible refine Kept.cut (x := x) ?_ ?_; (on_goal 2 => (clear_value x; intro hx)); (on_goal 1 => (unfold x; clear x)))
        | clear_value x
        | (unfold x; clear x))
    | exact rfl
    | split
    | with_reducible apply Kept.set_gwLate

theorem State.memUe_k {m : Nat} {s0 : State} (ue : Nat) (s : State) (hm : 0x2010003C000008 &&& m =
    0x2010003C000008) (h0 : Kept m s0 s) : Kept m s0 (State.memUe ue s) := by
  refine Kept.step hm ?_ h0; clear h0 hm
  unfold State.memUe
  repeat' first
    | with_reducible exact Kept.refl _ _
    | with_reducible apply State.noteUe_k
    | with_reducible apply State.cntF_k
    | exact rfl

theorem State.takeTunSeq_k {m : Nat} {s0 : State} (d : Delivery) (s : State) (hm : 0x806000 &&& m = 0x806000)
    (h0 : Kept m s0 s) : KeptP m s0 (State.takeTunSeq d s) := by
  refine KeptP.step hm ?_ h0; clear h0 hm
  unfold State.takeTunSeq
  repeat' first
    | with_reducible exact Kept.refl _ _
    | with_reducible assumption
    | (extract_lets +onlyGivenNames x; first
        | (with_reducible refine Kept.cut (x := x) ?_ ?_; (on_goal 2 => (clear_value x; intro hx)); (on_goal 1 => (unfold x; clear x)))
        | (with_reducible refine KeptP.cut (x := x) ?_ ?_; (on_goal 2 => (clear_value x; intro hx)); (on_goal 1 => (unfold x; clear x)))
        | clear_value x
        | (unfold x; clear x))
    | exact rfl
    | split
    | with_reducible apply KeptP.mk
    | with_reducible apply KeptP.snd
    | (with_reducible apply Kept.upd <;> try first
        | exact rfl
        | exact Or.inl rfl
        | exact Or.inr rfl)

theorem State.deliver_k {m : Nat} {s0 : State} (d : Delivery) (s : State) (hm : 0x2010167C807F88 &&& m =
    0x2010167C807F88) (h0 : Kept m s0 s) : Kept m s0 (State.deliver d s) := by
  refine Kept.step hm ?_ h0; clear h0 hm
  unfold State.deliver
  repeat' first
    | with_reducible exact Kept.refl _ _
    | with_reducible assumption
    | with_reducible apply State.rxWrite_k
    | with_reducible apply State.mailboxArrival_k
    | with_reducible apply State.inboxArrive_k
    | with_reducible apply State.fifoArrival_k
    | with_reducible apply State.ethEnqueue_k
    | with_reducible apply State.dropRef_k
    | with_reducible apply State.takeTunSeq_k
    | with_reducible apply State.txQueueArrive_k
    | with_reducible apply State.countRoute_k
    | with_reducible apply State.giveCredit_k
    | (extract_lets +onlyGivenNames x; first
        | (with_reducible refine Kept.cut (x := x) ?_ ?_; (on_goal 2 => (clear_value x; intro hx)); (on_goal 1 => (unfold x; clear x)))
        | (with_reducible refine Kept.cutP (x := x) ?_ ?_; (on_goal 2 => (clear_value x; intro hx)); (on_goal 1 => (unfold x; clear x)))
        | clear_value x
        | (unfold x; clear x))
    | (with_reducible refine KeptP.get (by assumption) ?_)
    | (with_reducible refine KeptT.get (by assumption) ?_)
    | exact rfl
    | split
    | with_reducible apply KeptP.mk
    | with_reducible apply KeptT.mk
    | with_reducible apply KeptT.snd
    | with_reducible apply KeptP.snd

theorem State.hostQGone_k {m : Nat} {s0 : State} (d : Delivery) (s : State) (hm : 0x2010107C001988 &&& m =
    0x2010107C001988) (h0 : Kept m s0 s) : Kept m s0 (State.hostQGone d s) := by
  refine Kept.step hm ?_ h0; clear h0 hm
  unfold State.hostQGone
  repeat' first
    | with_reducible exact Kept.refl _ _
    | with_reducible apply State.hostDiscard_k
    | with_reducible apply State.giveToken_k
    | with_reducible apply State.dropRef_k
    | exact rfl

theorem State.readOut_k {m : Nat} {s0 : State} (d : Delivery) (ecc : RecEcc) (s : State) (hm : 0x2010167C807F88
    &&& m = 0x2010167C807F88) (h0 : Kept m s0 s) : Kept m s0 (State.readOut d ecc s) := by
  refine Kept.step hm ?_ h0; clear h0 hm
  unfold State.readOut
  repeat' first
    | with_reducible exact Kept.refl _ _
    | with_reducible assumption
    | with_reducible apply State.memUe_k
    | with_reducible apply State.giveToken_k
    | with_reducible apply State.releaseDelivery_k
    | with_reducible apply State.dropRef_k
    | with_reducible apply State.deliver_k
    | with_reducible apply State.noteCe_k
    | (extract_lets +onlyGivenNames x; first
        | (with_reducible refine Kept.cut (x := x) ?_ ?_; (on_goal 2 => (clear_value x; intro hx)); (on_goal 1 => (unfold x; clear x)))
        | clear_value x
        | (unfold x; clear x))
    | exact rfl
    | split

theorem State.deliveryPoint_k {m : Nat} {s0 : State} (d : Delivery) (ecc : RecEcc) (s : State) (hm :
    0x2010167F807F88 &&& m = 0x2010167F807F88) (h0 : Kept m s0 s) : Kept m s0 (State.deliveryPoint d ecc s) := by
  refine Kept.step hm ?_ h0; clear h0 hm
  unfold State.deliveryPoint
  dsimp only
  repeat' first
    | with_reducible exact Kept.refl _ _
    | with_reducible assumption
    | with_reducible apply State.readOut_k
    | with_reducible apply State.giveToken_k
    | with_reducible apply State.hold__k
    | with_reducible apply State.hostQGone_k
    | with_reducible apply State.releaseDelivery_k
    | with_reducible apply State.dropRef_k
    | with_reducible apply State.countRoute_k
    | with_reducible apply State.giveCredit_k
    | with_reducible apply State.destDown_k
    | with_reducible apply State.noteLate_k
    | exact rfl
    | split

theorem State.pointOf_k {m : Nat} {s0 : State} (id : Nat) (k : Nat) (ecc : RecEcc) (s : State) (hm :
    0x2010167F807F88 &&& m = 0x2010167F807F88) (h0 : Kept m s0 s) : Kept m s0 (State.pointOf id k ecc s) := by
  refine Kept.step hm ?_ h0; clear h0 hm
  unfold State.pointOf
  repeat' first
    | with_reducible exact Kept.refl _ _
    | with_reducible assumption
    | with_reducible apply State.endTransit_k
    | with_reducible apply State.deliveryPoint_k
    | (extract_lets +onlyGivenNames x; first
        | (with_reducible refine Kept.cut (x := x) ?_ ?_; (on_goal 2 => (clear_value x; intro hx)); (on_goal 1 => (unfold x; clear x)))
        | clear_value x
        | (unfold x; clear x))
    | exact rfl
    | split
    | with_reducible apply Kept.set_transit

theorem State.heldCredit_k {m : Nat} {s0 : State} (k : Nat) (ecc : RecEcc) (s : State) (hm : 0x2010167F807F88
    &&& m = 0x2010167F807F88) (h0 : Kept m s0 s) : Kept m s0 (State.heldCredit k ecc s) := by
  refine Kept.step hm ?_ h0; clear h0 hm
  unfold State.heldCredit
  repeat' first
    | with_reducible exact Kept.refl _ _
    | with_reducible assumption
    | with_reducible apply State.deliveryPoint_k
    | with_reducible apply State.takeCredit_k
    | (extract_lets +onlyGivenNames x; first
        | (with_reducible refine Kept.cut (x := x) ?_ ?_; (on_goal 2 => (clear_value x; intro hx)); (on_goal 1 => (unfold x; clear x)))
        | clear_value x
        | (unfold x; clear x))
    | with_reducible exact KeptQ.none
    | with_reducible apply KeptQ.some
    | (with_reducible refine KeptQ.get (by assumption) ?_)
    | exact rfl
    | split
    | with_reducible apply Kept.set_held

theorem State.discardHeld_k {m : Nat} {s0 : State} (c : Nat) (s : State) (hm : 0x2010123C005988 &&& m =
    0x2010123C005988) (h0 : Kept m s0 s) : Kept m s0 (State.discardHeld c s) := by
  refine Kept.step hm ?_ h0; clear h0 hm
  unfold State.discardHeld
  repeat' first
    | with_reducible exact Kept.refl _ _
    | with_reducible assumption
    | with_reducible apply State.portOutcome_k
    | with_reducible apply Kept.each
    | with_reducible apply State.dropRef_k
    | with_reducible apply State.countRoute_k
    | exact rfl
    | (intro _ _)
    | with_reducible apply Kept.set_held

theorem State.readyHeld_k {m : Nat} {s0 : State} (c : Nat) (s : State) (hm : 0x4000 &&& m = 0x4000) (h0 : Kept m
    s0 s) : Kept m s0 (State.readyHeld c s) := by
  refine Kept.step hm ?_ h0; clear h0 hm
  unfold State.readyHeld
  repeat' first
    | with_reducible exact Kept.refl _ _
    | with_reducible assumption
    | exact rfl
    | split
    | with_reducible apply Kept.set_held

theorem State.transitLate_k {m : Nat} {s0 : State} (id : Nat) (s : State) (hm : 0x2010003C002008 &&& m =
    0x2010003C002008) (h0 : Kept m s0 s) : Kept m s0 (State.transitLate id s) := by
  refine Kept.step hm ?_ h0; clear h0 hm
  unfold State.transitLate
  repeat' first
    | with_reducible exact Kept.refl _ _
    | with_reducible assumption
    | with_reducible apply State.raise_k
    | with_reducible apply State.cntF_k
    | with_reducible apply State.cnt_k
    | exact rfl
    | split
    | with_reducible apply Kept.set_transit

end Sys2Proof.Machine
end

