-- ==== Sys2Proof/Laws/FrameIngress.lean ====
section
/-! SUPPORT. Frames of Machine/Ingress.lean: the fields each function may change. -/
namespace Sys2Proof.Machine
open Sys2Proof

theorem State.completeSubs_k {m : Nat} {s0 : State} (g : Nat) (a1 : List Sub) (a2 : State) (hm : 0x100000000008
    &&& m = 0x100000000008) (h0 : Kept m s0 a2) : Kept m s0 (State.completeSubs g a1 a2) := by
  fun_induction State.completeSubs g a1 a2
  repeat' first
    | with_reducible exact Kept.refl _ _
    | with_reducible assumption
    | with_reducible apply State.setEng_k
    | with_reducible apply State.privArrive_k
    | with_reducible apply State.cnt_k
    | (rename_i ih; with_reducible apply ih)
    | exact sub_trans rfl hm

theorem State.endSub_k {m : Nat} {s0 : State} (g : Nat) (id : Nat) (st : Nat) (s : State) (hm : 0x100000000008
    &&& m = 0x100000000008) (h0 : Kept m s0 s) : Kept m s0 (State.endSub g id st s) := by
  refine Kept.step hm ?_ h0; clear h0 hm
  unfold State.endSub
  repeat' first
    | with_reducible exact Kept.refl _ _
    | with_reducible assumption
    | with_reducible apply State.completeSubs_k
    | exact rfl

theorem State.endWait_k {m : Nat} {s0 : State} (w : WaitReq) (st : Nat) (s : State) (hm : 0x2010007C008008 &&& m
    = 0x2010007C008008) (h0 : Kept m s0 s) : Kept m s0 (State.endWait w st s) := by
  refine Kept.step hm ?_ h0; clear h0 hm
  unfold State.endWait
  repeat' first
    | with_reducible exact Kept.refl _ _
    | with_reducible assumption
    | with_reducible apply State.endSub_k
    | with_reducible apply State.slotDue_k
    | (extract_lets +onlyGivenNames x; first
        | (with_reducible refine Kept.cut (x := x) ?_ ?_; (on_goal 2 => (clear_value x; intro hx)); (on_goal 1 => (unfold x; clear x)))
        | clear_value x
        | (unfold x; clear x))
    | exact rfl
    | split
    | with_reducible apply Kept.set_waits

theorem State.destinations_k {m : Nat} {s0 : State} (routes : List Nat) (f : Frame) (launch : Option Nat)
    (stampReq : Bool) (tag : Nat) (ref : Nat) (s : State) (hm : 0x2010003C000008 &&& m = 0x2010003C000008) (h0 :
    Kept m s0 s) : KeptP m s0 (State.destinations routes f launch stampReq tag ref s) := by
  refine KeptP.step hm ?_ h0; clear h0 hm
  unfold State.destinations
  repeat' first
    | with_reducible exact Kept.refl _ _
    | with_reducible assumption
    | with_reducible apply State.dropUnsuited_k
    | with_reducible apply State.unpackSet_k
    | with_reducible apply State.namedSet_k
    | (with_reducible refine KeptP.get (by assumption) ?_)
    | (with_reducible refine KeptT.get (by assumption) ?_)
    | exact rfl
    | split
    | with_reducible apply KeptP.mk
    | with_reducible apply KeptT.mk
    | with_reducible apply KeptT.snd
    | with_reducible apply KeptP.snd

theorem State.stage4_k {m : Nat} {s0 : State} (c : Nat) (f : Frame) (sigValid : Bool) (s : State) (hm :
    0x2016003C000008 &&& m = 0x2016003C000008) (h0 : Kept m s0 s) : KeptP m s0 (State.stage4 c f sigValid s) := by
  refine KeptP.step hm ?_ h0; clear h0 hm
  unfold State.stage4
  repeat' first
    | with_reducible exact Kept.refl _ _
    | with_reducible assumption
    | with_reducible apply State.rxCheck_k
    | with_reducible apply State.match__k
    | (extract_lets +onlyGivenNames x; first
        | (with_reducible refine Kept.cut (x := x) ?_ ?_; (on_goal 2 => (clear_value x; intro hx)); (on_goal 1 => (unfold x; clear x)))
        | (with_reducible refine KeptP.cut (x := x) ?_ ?_; (on_goal 2 => (clear_value x; intro hx)); (on_goal 1 => (unfold x; clear x)))
        | clear_value x
        | (unfold x; clear x))
    | (with_reducible refine KeptP.get (by assumption) ?_)
    | (with_reducible refine KeptT.get (by assumption) ?_)
    | exact rfl
    | split
    | with_reducible apply KeptP.mk

theorem State.lineFrame_k {m : Nat} {s0 : State} (picks : List Nat) (c : Nat) (f : Frame) (partner : Nat)
    (sigValid : Bool) (launch : Option Nat) (stampReq : Bool) (tag : Nat) (meter : Nat → State → Bool × State) (s :
    State) (h_meter : ∀ v0 v1, Kept m s0 v1 → KeptP m s0 (meter v0 v1)) (hm : 0x6056147E0169C8 &&& m =
    0x6056147E0169C8) (h0 : Kept m s0 s) : KeptP m s0 (State.lineFrame picks c f partner sigValid launch stampReq
    tag meter s) := by
  unfold State.lineFrame
  repeat' first
    | with_reducible exact Kept.refl _ _
    | with_reducible assumption
    | with_reducible apply State.admitLine_k
    | with_reducible apply State.stage4_k
    | with_reducible apply State.destinations_k
    | with_reducible apply State.available_k
    | with_reducible apply h_meter
    | (extract_lets +onlyGivenNames x; first
        | (with_reducible refine Kept.cut (x := x) ?_ ?_; (on_goal 2 => (clear_value x; intro hx)); (on_goal 1 => (unfold x; clear x)))
        | (with_reducible refine KeptP.cut (x := x) ?_ ?_; (on_goal 2 => (clear_value x; intro hx)); (on_goal 1 => (unfold x; clear x)))
        | clear_value x
        | (unfold x; clear x))
    | (with_reducible refine KeptP.get (by assumption) ?_)
    | (with_reducible refine KeptT.get (by assumption) ?_)
    | exact sub_trans rfl hm
    | split
    | with_reducible apply KeptP.mk

theorem State.addWait_k {m : Nat} {s0 : State} (w : WaitReq) (s : State) (hm : 0x18000 &&& m = 0x18000) (h0 :
    Kept m s0 s) : Kept m s0 (State.addWait w s) := by
  refine Kept.step hm ?_ h0; clear h0 hm
  unfold State.addWait
  repeat' first
    | with_reducible exact Kept.refl _ _
    | with_reducible assumption
    | exact rfl
    | (with_reducible apply Kept.upd <;> try first
        | exact rfl
        | exact Or.inl rfl
        | exact Or.inr rfl)

theorem State.tryGrant_k {m : Nat} {s0 : State} (picks : List Nat) (w : WaitReq) (s : State) (hm :
    0x6050147E01E9C8 &&& m = 0x6050147E01E9C8) (h0 : Kept m s0 s) : KeptQ m s0 (State.tryGrant picks w s) := by
  refine KeptQ.step hm ?_ h0; clear h0 hm
  unfold State.tryGrant
  repeat' first
    | with_reducible exact Kept.refl _ _
    | with_reducible assumption
    | with_reducible apply State.noteAdmitted_k
    | with_reducible apply State.launchFrame_k
    | with_reducible apply State.countMac_k
    | with_reducible apply State.takeCredits_k
    | with_reducible apply State.available_k
    | with_reducible apply State.chargeTiers_k
    | with_reducible apply State.endWait_k
    | (extract_lets +onlyGivenNames x; first
        | (with_reducible refine Kept.cut (x := x) ?_ ?_; (on_goal 2 => (clear_value x; intro hx)); (on_goal 1 => (unfold x; clear x)))
        | (with_reducible refine KeptQ.cut (x := x) ?_ ?_; (on_goal 2 => (clear_value x; intro hx)); (on_goal 1 => (unfold x; clear x)))
        | clear_value x
        | (unfold x; clear x))
    | with_reducible exact KeptQ.none
    | with_reducible apply KeptQ.some
    | (with_reducible refine KeptP.get (by assumption) ?_)
    | (with_reducible refine KeptT.get (by assumption) ?_)
    | exact rfl
    | split

theorem State.payDeficit_k {m : Nat} {s0 : State} (p : Nat) (n : Nat) (s : State) (hm : 0x800 &&& m = 0x800) (h0
    : Kept m s0 s) : Kept m s0 (State.payDeficit p n s) := by
  refine Kept.step hm ?_ h0; clear h0 hm
  unfold State.payDeficit
  repeat' first
    | with_reducible exact Kept.refl _ _
    | with_reducible assumption
    | with_reducible apply State.setPartner_k
    | exact rfl

theorem State.grantEscalated_k {m : Nat} {s0 : State} (picks : List Nat) (s : State) (a2 : List WaitReq) (hm :
    0x6050147E01E9C8 &&& m = 0x6050147E01E9C8) (h0 : Kept m s0 s) : KeptO m s0 (State.grantEscalated picks s a2) :=
    by
  fun_induction State.grantEscalated picks s a2
  repeat' first
    | with_reducible exact Kept.refl _ _
    | with_reducible assumption
    | with_reducible apply State.tryGrant_k
    | with_reducible apply State.restDeficit_k
    | with_reducible apply State.payDeficit_k
    | with_reducible exact KeptO.none
    | with_reducible apply KeptO.some
    | with_reducible exact KeptQ.none
    | with_reducible apply KeptQ.some
    | (with_reducible refine KeptO.get (by assumption) ?_)
    | (with_reducible refine KeptQ.get (by assumption) ?_)
    | exact sub_trans rfl hm

theorem State.closeTurn_k {m : Nat} {s0 : State} (port : Nat) (p : Nat) (n : Nat) (start : Nat) (all : Bool) (s
    : State) (hm : 0x1800 &&& m = 0x1800) (h0 : Kept m s0 s) : Kept m s0 (State.closeTurn port p n start all s) :=
    by
  refine Kept.step hm ?_ h0; clear h0 hm
  unfold State.closeTurn
  repeat' first
    | with_reducible exact Kept.refl _ _
    | with_reducible assumption
    | with_reducible apply State.setPartner_k
    | with_reducible apply Kept.each
    | with_reducible apply State.payDeficit_k
    | (extract_lets +onlyGivenNames x; first
        | (with_reducible refine Kept.cut (x := x) ?_ ?_; (on_goal 2 => (clear_value x; intro hx)); (on_goal 1 => (unfold x; clear x)))
        | clear_value x
        | (unfold x; clear x))
    | exact rfl
    | (intro _ _)
    | split
    | with_reducible apply Kept.set_books

theorem State.grantRound_k {m : Nat} {s0 : State} (picks : List Nat) (port : Nat) (start : Nat) (all : Bool) (a4
    : List (WaitReq × Bool)) (a5 : Bool) (a6 : State) (hm : 0x6050147E01F9C8 &&& m = 0x6050147E01F9C8) (h0 : Kept m
    s0 a6) : KeptT m s0 (State.grantRound picks port start all a4 a5 a6) := by
  fun_induction State.grantRound picks port start all a4 a5 a6
  repeat' first
    | with_reducible exact Kept.refl _ _
    | with_reducible assumption
    | with_reducible apply State.tryGrant_k
    | with_reducible apply State.setPartner_k
    | with_reducible apply State.closeTurn_k
    | (rename_i ih; with_reducible apply ih)
    | with_reducible exact KeptQ.none
    | with_reducible apply KeptQ.some
    | (with_reducible refine KeptQ.get (by assumption) ?_)
    | (with_reducible refine KeptT.get (by assumption) ?_)
    | exact sub_trans rfl hm
    | split
    | with_reducible apply KeptT.mk

theorem State.grantRound_granted {m : Nat} {s0 : State} (picks : List Nat) (port : Nat) (start : Nat) (all : Bool)
    (l : List (WaitReq × Bool)) (short : Bool) (s : State) (hm : 0x6050147E01F9C8 &&& m = 0x6050147E01F9C8)
    (h0 : Kept m s0 s) : KeptO m s0 (State.grantRound picks port start all l short s).1 := by
  fun_induction State.grantRound picks port start all l short s
  repeat' first
    | exact KeptO.none
    | with_reducible assumption
    | (rename_i ih; with_reducible apply ih)
    | with_reducible apply KeptO.some
    | with_reducible apply State.closeTurn_k
    | (with_reducible refine KeptQ.get (by assumption) ?_)
    | with_reducible apply State.tryGrant_k
    | with_reducible apply State.setPartner_k
    | exact sub_trans rfl hm

theorem State.grantRounds_k {m : Nat} {s0 : State} (picks : List Nat) (port : Nat) (start : Nat) (cyc : List
    (WaitReq × Bool)) (k : Nat) (l : List (WaitReq × Bool)) (all : Bool) (s : State) (hm : 0x6050147E01F9C8 &&& m
    = 0x6050147E01F9C8) (h0 : Kept m s0 s) : KeptO m s0 (State.grantRounds picks port start cyc k l all s) := by
  induction k generalizing l all s with
  | zero => exact KeptO.none
  | succ k ih =>
    unfold State.grantRounds
    have hg := State.grantRound_granted picks port start all l false s hm h0
    have hr := State.grantRound_k picks port start all l false s hm h0
    split
    · rename_i h; rw [h] at hg; exact hg
    · rename_i h; rw [h] at hr; exact ih _ _ _ hr
    · exact KeptO.none

theorem State.waitingGrant_k {m : Nat} {s0 : State} (picks : List Nat) (port : Nat) (s : State) (hm :
    0x6050147E01F9C8 &&& m = 0x6050147E01F9C8) (h0 : Kept m s0 s) : Kept m s0 (State.waitingGrant picks port s) :=
    by
  refine Kept.step hm ?_ h0; clear h0 hm
  unfold State.waitingGrant
  repeat' first
    | with_reducible exact Kept.refl _ _
    | with_reducible assumption
    | with_reducible apply State.grantEscalated_k
    | with_reducible apply State.grantRounds_k
    | (extract_lets +onlyGivenNames x; first
        | (with_reducible refine Kept.cut (x := x) ?_ ?_; (on_goal 2 => (clear_value x; intro hx)); (on_goal 1 => (unfold x; clear x)))
        | clear_value x
        | (unfold x; clear x))
    | with_reducible exact KeptO.none
    | with_reducible apply KeptO.some
    | (with_reducible refine KeptO.get (by assumption) ?_)
    | exact rfl
    | split
    | with_reducible apply KeptO.getD

theorem State.escalateHead_k {m : Nat} {s0 : State} (p : Nat) (s : State) (hm : 0x8008 &&& m = 0x8008) (h0 :
    Kept m s0 s) : Kept m s0 (State.escalateHead p s) := by
  refine Kept.step hm ?_ h0; clear h0 hm
  unfold State.escalateHead
  repeat' first
    | with_reducible exact Kept.refl _ _
    | with_reducible assumption
    | with_reducible apply State.countPartner_k
    | exact rfl
    | split
    | with_reducible apply Kept.set_waits

theorem State.waitingSet_k {m : Nat} {s0 : State} (routes : List Nat) (f : Frame) (launch : Option Nat)
    (stampReq : Bool) (tag : Nat) (ref : Nat) (s : State) (hm : 0x2010003E000008 &&& m = 0x2010003E000008) (h0 :
    Kept m s0 s) : KeptP m s0 (State.waitingSet routes f launch stampReq tag ref s) := by
  refine KeptP.step hm ?_ h0; clear h0 hm
  unfold State.waitingSet
  repeat' first
    | with_reducible exact Kept.refl _ _
    | with_reducible assumption
    | with_reducible apply State.countMac_k
    | with_reducible apply State.destinations_k
    | with_reducible apply State.available_k
    | (with_reducible refine KeptP.get (by assumption) ?_)
    | (with_reducible refine KeptT.get (by assumption) ?_)
    | exact rfl
    | split
    | with_reducible apply KeptP.mk

theorem State.engineSubmit_k {m : Nat} {s0 : State} (g : Nat) (a : Nat) (d : List Byte) (s : State) (hm :
    0x2016003E018008 &&& m = 0x2016003E018008) (h0 : Kept m s0 s) : Kept m s0 (State.engineSubmit g a d s) := by
  refine Kept.step hm ?_ h0; clear h0 hm
  unfold State.engineSubmit
  repeat' first
    | with_reducible exact Kept.refl _ _
    | with_reducible assumption
    | with_reducible apply State.stage4_k
    | with_reducible apply State.setEng_k
    | with_reducible apply State.waitingSet_k
    | with_reducible apply State.endSub_k
    | with_reducible apply State.txAppend_k
    | (extract_lets +onlyGivenNames x; first
        | (with_reducible refine Kept.cut (x := x) ?_ ?_; (on_goal 2 => (clear_value x; intro hx)); (on_goal 1 => (unfold x; clear x)))
        | (with_reducible refine Kept.cutP (x := x) ?_ ?_; (on_goal 2 => (clear_value x; intro hx)); (on_goal 1 => (unfold x; clear x)))
        | clear_value x
        | (unfold x; clear x))
    | (with_reducible refine KeptP.get (by assumption) ?_)
    | (with_reducible refine KeptT.get (by assumption) ?_)
    | exact rfl
    | split
    | with_reducible apply KeptP.mk
    | with_reducible apply KeptT.mk
    | with_reducible apply KeptT.snd
    | with_reducible apply KeptP.snd
    | (with_reducible apply Kept.upd <;> try first
        | exact rfl
        | exact Or.inl rfl
        | exact Or.inr rfl)

theorem State.tileSubmit_k {m : Nat} {s0 : State} (picks : List Nat) (c : Nat) (d : List Byte) (s : State) (hm :
    0x6056147E0169C8 &&& m = 0x6056147E0169C8) (h0 : Kept m s0 s) : KeptP m s0 (State.tileSubmit picks c d s) := by
  refine KeptP.step hm ?_ h0; clear h0 hm
  unfold State.tileSubmit
  repeat' first
    | with_reducible exact Kept.refl _ _
    | with_reducible assumption
    | with_reducible apply State.lineFrame_k
    | with_reducible apply State.txAppend_k
    | (extract_lets +onlyGivenNames x; first
        | (with_reducible refine Kept.cut (x := x) ?_ ?_; (on_goal 2 => (clear_value x; intro hx)); (on_goal 1 => (unfold x; clear x)))
        | (with_reducible refine KeptP.cut (x := x) ?_ ?_; (on_goal 2 => (clear_value x; intro hx)); (on_goal 1 => (unfold x; clear x)))
        | clear_value x
        | (unfold x; clear x))
    | (with_reducible refine KeptP.get (by assumption) ?_)
    | (with_reducible refine KeptT.get (by assumption) ?_)
    | exact rfl
    | (intro _ _ _)
    | split
    | with_reducible apply KeptP.mk

theorem State.formSet_k {m : Nat} {s0 : State} (w : WaitReq) (f : Frame) (s : State) (hm : 0x2010007E008008 &&&
    m = 0x2010007E008008) (h0 : Kept m s0 s) : Kept m s0 (State.formSet w f s) := by
  refine Kept.step hm ?_ h0; clear h0 hm
  unfold State.formSet
  repeat' first
    | with_reducible exact Kept.refl _ _
    | with_reducible assumption
    | with_reducible apply State.waitingSet_k
    | with_reducible apply State.endWait_k
    | (with_reducible refine KeptP.get (by assumption) ?_)
    | (with_reducible refine KeptT.get (by assumption) ?_)
    | exact rfl
    | split
    | with_reducible apply KeptP.mk
    | with_reducible apply KeptT.mk
    | with_reducible apply KeptT.snd
    | with_reducible apply KeptP.snd
    | with_reducible apply Kept.set_waits

theorem State.formWait_k {m : Nat} {s0 : State} (w : WaitReq) (s : State) (hm : 0x2012007E008008 &&& m =
    0x2012007E008008) (h0 : Kept m s0 s) : Kept m s0 (State.formWait w s) := by
  refine Kept.step hm ?_ h0; clear h0 hm
  unfold State.formWait
  repeat' first
    | with_reducible exact Kept.refl _ _
    | with_reducible apply State.formSet_k
    | with_reducible apply State.endWait_k
    | with_reducible apply State.txAppend_k
    | (with_reducible refine KeptP.get (by assumption) ?_)
    | exact rfl
    | split

theorem State.formWaits_k {m : Nat} {s0 : State} (s : State) (hm : 0x2012007E008008 &&& m = 0x2012007E008008)
    (h0 : Kept m s0 s) : Kept m s0 (State.formWaits s) := by
  refine Kept.step hm ?_ h0; clear h0 hm
  unfold State.formWaits
  repeat' first
    | with_reducible exact Kept.refl _ _
    | with_reducible apply Kept.each
    | with_reducible apply State.formWait_k
    | exact rfl
    | (intro _ _)

theorem State.hostFrame_k {m : Nat} {s0 : State} (q : Nat) (i : Nat) (d : List Byte) (image : Option (List
    Byte)) (s : State) (hm : 0x2012007E018008 &&& m = 0x2012007E018008) (h0 : Kept m s0 s) : Kept m s0
    (State.hostFrame q i d image s) := by
  refine Kept.step hm ?_ h0; clear h0 hm
  unfold State.hostFrame
  repeat' first
    | with_reducible exact Kept.refl _ _
    | with_reducible assumption
    | with_reducible apply State.addWait_k
    | with_reducible apply State.formWait_k
    | with_reducible apply State.slotDue_k
    | (extract_lets +onlyGivenNames x; first
        | (with_reducible refine Kept.cut (x := x) ?_ ?_; (on_goal 2 => (clear_value x; intro hx)); (on_goal 1 => (unfold x; clear x)))
        | clear_value x
        | (unfold x; clear x))
    | exact rfl
    | split

end Sys2Proof.Machine
end

