-- ==== Sys2Proof/Laws/FrameNodes.lean ====
section
/-! SUPPORT. Frames of Machine/Nodes.lean: the fields each function may change. -/
namespace Sys2Proof.Machine
open Sys2Proof

theorem State.drift_k {m : Nat} {s0 : State} (i : Nat) (s : State) (hm : 0x2010083C000008 &&& m =
    0x2010083C000008) (h0 : Kept m s0 s) : Kept m s0 (State.drift i s) := by
  refine Kept.step hm ?_ h0; clear h0 hm
  unfold State.drift
  repeat' first
    | with_reducible exact Kept.refl _ _
    | with_reducible assumption
    | with_reducible apply Kept.each
    | with_reducible apply State.raise_k
    | with_reducible apply State.setNode_k
    | (extract_lets +onlyGivenNames x; first
        | (with_reducible refine Kept.cut (x := x) ?_ ?_; (on_goal 2 => (clear_value x; intro hx)); (on_goal 1 => (unfold x; clear x)))
        | clear_value x
        | (unfold x; clear x))
    | exact rfl
    | (intro _ _)
    | split

theorem State.nodeUpdate_k {m : Nat} {s0 : State} (i : Nat) (x : Sig) (s : State) (hm : 0x2010083C000008 &&& m =
    0x2010083C000008) (h0 : Kept m s0 s) : Kept m s0 (State.nodeUpdate i x s) := by
  refine Kept.step hm ?_ h0; clear h0 hm
  unfold State.nodeUpdate
  repeat' first
    | with_reducible exact Kept.refl _ _
    | with_reducible assumption
    | with_reducible apply State.drift_k
    | with_reducible apply State.setNode_k
    | with_reducible apply Kept.foldl
    | (intro _ _ _)
    | exact rfl

theorem State.forensics.full_k {m : Nat} {s0 : State} (n : Nat) (s : State) (hm : 0x2010043C000008 &&& m =
    0x2010043C000008) (h0 : Kept m s0 s) : Kept m s0 (State.forensics.full n s) := by
  refine Kept.step hm ?_ h0; clear h0 hm
  unfold State.forensics.full
  repeat' first
    | with_reducible exact Kept.refl _ _
    | with_reducible assumption
    | with_reducible apply State.setLane_k
    | with_reducible apply State.raise_k
    | (extract_lets +onlyGivenNames x; first
        | (with_reducible refine Kept.cut (x := x) ?_ ?_; (on_goal 2 => (clear_value x; intro hx)); (on_goal 1 => (unfold x; clear x)))
        | clear_value x
        | (unfold x; clear x))
    | exact rfl
    | split

theorem State.forensics_k {m : Nat} {s0 : State} (n : Nat) (x : Sig) (s : State) (hm : 0x20100C3C000008 &&& m =
    0x20100C3C000008) (h0 : Kept m s0 s) : KeptP m s0 (State.forensics n x s) := by
  refine KeptP.step hm ?_ h0; clear h0 hm
  unfold State.forensics
  repeat' first
    | with_reducible exact Kept.refl _ _
    | with_reducible assumption
    | with_reducible apply State.forensics.full_k
    | with_reducible apply State.nodeUpdate_k
    | with_reducible apply State.setNode_k
    | (extract_lets +onlyGivenNames x; first
        | (with_reducible refine Kept.cut (x := x) ?_ ?_; (on_goal 2 => (clear_value x; intro hx)); (on_goal 1 => (unfold x; clear x)))
        | (with_reducible refine KeptP.cut (x := x) ?_ ?_; (on_goal 2 => (clear_value x; intro hx)); (on_goal 1 => (unfold x; clear x)))
        | clear_value x
        | (unfold x; clear x))
    | exact rfl
    | split
    | with_reducible apply KeptP.mk

theorem State.nodeClash_k {m : Nat} {s0 : State} (i : Nat) (ident : Nat) (s : State) (hm : 0x800000000 &&& m =
    0x800000000) (h0 : Kept m s0 s) : Kept m s0 (State.nodeClash i ident s) := by
  refine Kept.step hm ?_ h0; clear h0 hm
  unfold State.nodeClash
  repeat' first
    | with_reducible exact Kept.refl _ _
    | with_reducible assumption
    | with_reducible apply State.setNode_k
    | (extract_lets +onlyGivenNames x; first
        | (with_reducible refine Kept.cut (x := x) ?_ ?_; (on_goal 2 => (clear_value x; intro hx)); (on_goal 1 => (unfold x; clear x)))
        | clear_value x
        | (unfold x; clear x))
    | exact rfl
    | split

theorem State.nodeCommit_k {m : Nat} {s0 : State} (i : Nat) (b : List Byte) (s : State) (hm : 0x20100C3C000008
    &&& m = 0x20100C3C000008) (h0 : Kept m s0 s) : KeptO m s0 (State.nodeCommit i b s) := by
  refine KeptO.step hm ?_ h0; clear h0 hm
  unfold State.nodeCommit
  repeat' first
    | with_reducible exact Kept.refl _ _
    | with_reducible assumption
    | with_reducible apply State.drift_k
    | with_reducible apply State.setLane_k
    | with_reducible apply State.setNode_k
    | (extract_lets +onlyGivenNames x; first
        | (with_reducible refine Kept.cut (x := x) ?_ ?_; (on_goal 2 => (clear_value x; intro hx)); (on_goal 1 => (unfold x; clear x)))
        | (with_reducible refine KeptO.cut (x := x) ?_ ?_; (on_goal 2 => (clear_value x; intro hx)); (on_goal 1 => (unfold x; clear x)))
        | clear_value x
        | (unfold x; clear x))
    | with_reducible exact KeptO.none
    | with_reducible apply KeptO.some
    | exact rfl
    | split

end Sys2Proof.Machine
end

