-- ==== Sys2Proof/Laws/FrameBus.lean ====
section
/-! SUPPORT. Frames of Machine/Bus.lean: the fields each function may change. -/
namespace Sys2Proof.Machine
open Sys2Proof

theorem State.upLane_k {m : Nat} {s0 : State} (n : Nat) (f : BusLane → BusLane) (s : State) (hm : 0x400000000
    &&& m = 0x400000000) (h0 : Kept m s0 s) : Kept m s0 (State.upLane n f s) := by
  refine Kept.step hm ?_ h0; clear h0 hm
  unfold State.upLane
  repeat' first
    | with_reducible exact Kept.refl _ _
    | with_reducible apply State.setLane_k
    | exact rfl

theorem State.countBus_k {m : Nat} {s0 : State} (n : Nat) (i : Nat) (s : State) (hm : 0x8 &&& m = 0x8) (h0 :
    Kept m s0 s) : Kept m s0 (State.countBus n i s) := by
  refine Kept.step hm ?_ h0; clear h0 hm
  unfold State.countBus
  repeat' first
    | with_reducible exact Kept.refl _ _
    | with_reducible apply State.cnt_k
    | exact rfl

theorem State.frameEnds_k {m : Nat} {s0 : State} (n : Nat) (age : Nat) (s : State) (hm : 0x400000000 &&& m =
    0x400000000) (h0 : Kept m s0 s) : Kept m s0 (State.frameEnds n age s) := by
  refine Kept.step hm ?_ h0; clear h0 hm
  unfold State.frameEnds
  repeat' first
    | with_reducible exact Kept.refl _ _
    | with_reducible assumption
    | with_reducible apply State.upLane_k
    | exact rfl

theorem State.noteWrite_k {m : Nat} {s0 : State} (n : Nat) (off : Nat) (old : Word) (s : State) (hm :
    0x400000000 &&& m = 0x400000000) (h0 : Kept m s0 s) : Kept m s0 (State.noteWrite n off old s) := by
  refine Kept.step hm ?_ h0; clear h0 hm
  unfold State.noteWrite
  repeat' first
    | with_reducible exact Kept.refl _ _
    | with_reducible apply State.upLane_k
    | exact rfl
    | split

theorem State.laneStart_k {m : Nat} {s0 : State} (n : Nat) (s : State) (hm : 0x400000000 &&& m = 0x400000000)
    (h0 : Kept m s0 s) : Kept m s0 (State.laneStart n s) := by
  refine Kept.step hm ?_ h0; clear h0 hm
  unfold State.laneStart
  repeat' first
    | with_reducible exact Kept.refl _ _
    | with_reducible apply State.upLane_k
    | exact rfl

theorem State.laneQuiet_k {m : Nat} {s0 : State} (n : Nat) (s : State) (hm : 0x10400000000 &&& m =
    0x10400000000) (h0 : Kept m s0 s) : Kept m s0 (State.laneQuiet n s) := by
  refine Kept.step hm ?_ h0; clear h0 hm
  unfold State.laneQuiet
  repeat' first
    | with_reducible exact Kept.refl _ _
    | with_reducible apply State.upLane_k
    | with_reducible apply State.setTl_k
    | exact rfl

theorem State.warn_k {m : Nat} {s0 : State} (n : Nat) (s : State) (hm : 0x2010043C000008 &&& m =
    0x2010043C000008) (h0 : Kept m s0 s) : Kept m s0 (State.warn n s) := by
  refine Kept.step hm ?_ h0; clear h0 hm
  unfold State.warn
  repeat' first
    | with_reducible exact Kept.refl _ _
    | with_reducible assumption
    | with_reducible apply State.setLane_k
    | with_reducible apply State.raise_k
    | (extract_lets +onlyGivenNames x; first
        | (with_reducible refine Kept.cut (x := x) ?_ ?_; (on_goal 2 => (clear_value x; intro hx)); (on_goal 1 => (unfold x; clear x)))
        | clear_value x
        | (unfold x; clear x))
    | exact rfl
    | split

theorem State.busOff_k {m : Nat} {s0 : State} (n : Nat) (s : State) (hm : 0x2010043C000008 &&& m =
    0x2010043C000008) (h0 : Kept m s0 s) : Kept m s0 (State.busOff n s) := by
  refine Kept.step hm ?_ h0; clear h0 hm
  unfold State.busOff
  repeat' first
    | with_reducible exact Kept.refl _ _
    | with_reducible apply State.countBus_k
    | with_reducible apply State.upLane_k
    | with_reducible apply State.raise_k
    | exact rfl

theorem State.confine_k {m : Nat} {s0 : State} (n : Nat) (s : State) (hm : 0x2010043C000008 &&& m =
    0x2010043C000008) (h0 : Kept m s0 s) : Kept m s0 (State.confine n s) := by
  refine Kept.step hm ?_ h0; clear h0 hm
  unfold State.confine
  repeat' first
    | with_reducible exact Kept.refl _ _
    | with_reducible assumption
    | with_reducible apply State.warn_k
    | with_reducible apply State.setLane_k
    | with_reducible apply State.busOff_k
    | with_reducible apply State.raise_k
    | (extract_lets +onlyGivenNames x; first
        | (with_reducible refine Kept.cut (x := x) ?_ ?_; (on_goal 2 => (clear_value x; intro hx)); (on_goal 1 => (unfold x; clear x)))
        | clear_value x
        | (unfold x; clear x))
    | exact rfl
    | split

theorem State.bumpTec_k {m : Nat} {s0 : State} (n : Nat) (d : Nat) (s : State) (hm : 0x2010043C000008 &&& m =
    0x2010043C000008) (h0 : Kept m s0 s) : Kept m s0 (State.bumpTec n d s) := by
  refine Kept.step hm ?_ h0; clear h0 hm
  unfold State.bumpTec
  repeat' first
    | with_reducible exact Kept.refl _ _
    | with_reducible assumption
    | with_reducible apply State.confine_k
    | with_reducible apply State.setLane_k
    | (extract_lets +onlyGivenNames x; first
        | (with_reducible refine Kept.cut (x := x) ?_ ?_; (on_goal 2 => (clear_value x; intro hx)); (on_goal 1 => (unfold x; clear x)))
        | clear_value x
        | (unfold x; clear x))
    | exact rfl
    | split

theorem State.bumpRec_k {m : Nat} {s0 : State} (n : Nat) (d : Nat) (s : State) (hm : 0x2010043C000008 &&& m =
    0x2010043C000008) (h0 : Kept m s0 s) : Kept m s0 (State.bumpRec n d s) := by
  refine Kept.step hm ?_ h0; clear h0 hm
  unfold State.bumpRec
  repeat' first
    | with_reducible exact Kept.refl _ _
    | with_reducible assumption
    | with_reducible apply State.confine_k
    | with_reducible apply State.setLane_k
    | (extract_lets +onlyGivenNames x; first
        | (with_reducible refine Kept.cut (x := x) ?_ ?_; (on_goal 2 => (clear_value x; intro hx)); (on_goal 1 => (unfold x; clear x)))
        | clear_value x
        | (unfold x; clear x))
    | exact rfl
    | split

theorem State.txValid_k {m : Nat} {s0 : State} (n : Nat) (s : State) (hm : 0x2010043C000008 &&& m =
    0x2010043C000008) (h0 : Kept m s0 s) : Kept m s0 (State.txValid n s) := by
  refine Kept.step hm ?_ h0; clear h0 hm
  unfold State.txValid
  repeat' first
    | with_reducible exact Kept.refl _ _
    | with_reducible apply State.upLane_k
    | with_reducible apply State.confine_k
    | exact rfl
    | split

theorem State.rxValid_k {m : Nat} {s0 : State} (n : Nat) (s : State) (hm : 0x2010043C000008 &&& m =
    0x2010043C000008) (h0 : Kept m s0 s) : Kept m s0 (State.rxValid n s) := by
  refine Kept.step hm ?_ h0; clear h0 hm
  unfold State.rxValid
  repeat' first
    | with_reducible exact Kept.refl _ _
    | with_reducible apply State.upLane_k
    | with_reducible apply State.confine_k
    | exact rfl
    | split

theorem State.delayedRecovery_k {m : Nat} {s0 : State} (n : Nat) (s : State) (hm : 0x400000000 &&& m =
    0x400000000) (h0 : Kept m s0 s) : Kept m s0 (State.delayedRecovery n s) := by
  refine Kept.step hm ?_ h0; clear h0 hm
  unfold State.delayedRecovery
  repeat' first
    | with_reducible exact Kept.refl _ _
    | with_reducible assumption
    | with_reducible apply State.setLane_k
    | (extract_lets +onlyGivenNames x; first
        | (with_reducible refine Kept.cut (x := x) ?_ ?_; (on_goal 2 => (clear_value x; intro hx)); (on_goal 1 => (unfold x; clear x)))
        | clear_value x
        | (unfold x; clear x))
    | exact rfl
    | split

theorem State.hostRecover_k {m : Nat} {s0 : State} (n : Nat) (s : State) (hm : 0x400000000 &&& m = 0x400000000)
    (h0 : Kept m s0 s) : Kept m s0 (State.hostRecover n s) := by
  refine Kept.step hm ?_ h0; clear h0 hm
  unfold State.hostRecover
  repeat' first
    | with_reducible exact Kept.refl _ _
    | with_reducible assumption
    | with_reducible apply State.setLane_k
    | (extract_lets +onlyGivenNames x; first
        | (with_reducible refine Kept.cut (x := x) ?_ ?_; (on_goal 2 => (clear_value x; intro hx)); (on_goal 1 => (unfold x; clear x)))
        | clear_value x
        | (unfold x; clear x))
    | exact rfl
    | split

theorem State.recessiveCount_k {m : Nat} {s0 : State} (s : State) (hm : 0x400000000 &&& m = 0x400000000) (h0 :
    Kept m s0 s) : Kept m s0 (State.recessiveCount s) := by
  refine Kept.step hm ?_ h0; clear h0 hm
  unfold State.recessiveCount
  repeat' first
    | with_reducible exact Kept.refl _ _
    | with_reducible assumption
    | with_reducible apply State.setLane_k
    | with_reducible apply Kept.each
    | (extract_lets +onlyGivenNames x; first
        | (with_reducible refine Kept.cut (x := x) ?_ ?_; (on_goal 2 => (clear_value x; intro hx)); (on_goal 1 => (unfold x; clear x)))
        | clear_value x
        | (unfold x; clear x))
    | exact rfl
    | (intro _ _)
    | split

theorem State.busOn_k {m : Nat} {s0 : State} (n : Nat) (s : State) (hm : 0x2010043C000008 &&& m =
    0x2010043C000008) (h0 : Kept m s0 s) : Kept m s0 (State.busOn n s) := by
  refine Kept.step hm ?_ h0; clear h0 hm
  unfold State.busOn
  repeat' first
    | with_reducible exact Kept.refl _ _
    | with_reducible assumption
    | with_reducible apply State.setLane_k
    | with_reducible apply State.raise_k
    | (extract_lets +onlyGivenNames x; first
        | (with_reducible refine Kept.cut (x := x) ?_ ?_; (on_goal 2 => (clear_value x; intro hx)); (on_goal 1 => (unfold x; clear x)))
        | clear_value x
        | (unfold x; clear x))
    | exact rfl
    | split

theorem State.integrated_k {m : Nat} {s0 : State} (n : Nat) (s : State) (hm : 0x400000000 &&& m = 0x400000000)
    (h0 : Kept m s0 s) : Kept m s0 (State.integrated n s) := by
  refine Kept.step hm ?_ h0; clear h0 hm
  unfold State.integrated
  repeat' first
    | with_reducible exact Kept.refl _ _
    | with_reducible assumption
    | with_reducible apply State.setLane_k
    | (extract_lets +onlyGivenNames x; first
        | (with_reducible refine Kept.cut (x := x) ?_ ?_; (on_goal 2 => (clear_value x; intro hx)); (on_goal 1 => (unfold x; clear x)))
        | clear_value x
        | (unfold x; clear x))
    | exact rfl
    | split

theorem State.busRetry_k {m : Nat} {s0 : State} (n : Nat) (s : State) (hm : 0x400000000 &&& m = 0x400000000) (h0
    : Kept m s0 s) : Kept m s0 (State.busRetry n s) := by
  refine Kept.step hm ?_ h0; clear h0 hm
  unfold State.busRetry
  repeat' first
    | with_reducible exact Kept.refl _ _
    | with_reducible apply State.upLane_k
    | exact rfl
    | split

theorem State.ackFailed_k {m : Nat} {s0 : State} (n : Nat) (s : State) (hm : 0x2010043C000008 &&& m =
    0x2010043C000008) (h0 : Kept m s0 s) : Kept m s0 (State.ackFailed n s) := by
  refine Kept.step hm ?_ h0; clear h0 hm
  unfold State.ackFailed
  repeat' first
    | with_reducible exact Kept.refl _ _
    | with_reducible assumption
    | with_reducible apply State.upLane_k
    | with_reducible apply State.setLane_k
    | with_reducible apply State.raise_k
    | (extract_lets +onlyGivenNames x; first
        | (with_reducible refine Kept.cut (x := x) ?_ ?_; (on_goal 2 => (clear_value x; intro hx)); (on_goal 1 => (unfold x; clear x)))
        | clear_value x
        | (unfold x; clear x))
    | exact rfl
    | split

theorem State.slotComplete_k {m : Nat} {s0 : State} (n : Nat) (k : Nat) (outcome : Nat) (stamp : Nat) (s :
    State) (hm : 0x2010143C001BC8 &&& m = 0x2010143C001BC8) (h0 : Kept m s0 s) : Kept m s0 (State.slotComplete n k
    outcome stamp s) := by
  refine Kept.step hm ?_ h0; clear h0 hm
  unfold State.slotComplete
  repeat' first
    | with_reducible exact Kept.refl _ _
    | with_reducible assumption
    | with_reducible apply State.setLane_k
    | with_reducible apply State.setDesc_k
    | with_reducible apply State.dropOpt_k
    | with_reducible apply State.swapStatic_k
    | with_reducible apply State.putBytes_k
    | (extract_lets +onlyGivenNames x; first
        | (with_reducible refine Kept.cut (x := x) ?_ ?_; (on_goal 2 => (clear_value x; intro hx)); (on_goal 1 => (unfold x; clear x)))
        | clear_value x
        | (unfold x; clear x))
    | exact rfl
    | split

theorem State.readyDiscard_k {m : Nat} {s0 : State} (n : Nat) (i : Nat) (s : State) (hm : 0x2010143C001B88 &&& m
    = 0x2010143C001B88) (h0 : Kept m s0 s) : Kept m s0 (State.readyDiscard n i s) := by
  refine Kept.step hm ?_ h0; clear h0 hm
  unfold State.readyDiscard
  repeat' first
    | with_reducible exact Kept.refl _ _
    | with_reducible assumption
    | with_reducible apply State.setLane_k
    | with_reducible apply State.setDesc_k
    | with_reducible apply State.dropOpt_k
    | (extract_lets +onlyGivenNames x; first
        | (with_reducible refine Kept.cut (x := x) ?_ ?_; (on_goal 2 => (clear_value x; intro hx)); (on_goal 1 => (unfold x; clear x)))
        | clear_value x
        | (unfold x; clear x))
    | exact rfl
    | split

theorem State.laneDiscard_k {m : Nat} {s0 : State} (n : Nat) (s : State) (hm : 0x2010143C001BC8 &&& m =
    0x2010143C001BC8) (h0 : Kept m s0 s) : Kept m s0 (State.laneDiscard n s) := by
  refine Kept.step hm ?_ h0; clear h0 hm
  unfold State.laneDiscard
  repeat' first
    | with_reducible exact Kept.refl _ _
    | with_reducible assumption
    | with_reducible apply State.readyDiscard_k
    | with_reducible apply Kept.each
    | with_reducible apply State.slotComplete_k
    | exact rfl
    | (intro _ _)

theorem State.laneDiscardCounted_k {m : Nat} {s0 : State} (n : Nat) (s : State) (hm : 0x2010143C001BC8 &&& m =
    0x2010143C001BC8) (h0 : Kept m s0 s) : Kept m s0 (State.laneDiscardCounted n s) := by
  refine Kept.step hm ?_ h0; clear h0 hm
  unfold State.laneDiscardCounted
  repeat' first
    | with_reducible exact Kept.refl _ _
    | with_reducible assumption
    | with_reducible apply State.countBus_k
    | with_reducible apply Kept.each
    | with_reducible apply State.laneDiscard_k
    | exact rfl
    | (intro _ _)

theorem State.slotLoad_k {m : Nat} {s0 : State} (n : Nat) (k : Nat) (ecc : RecEcc) (s : State) (hm :
    0x2010143C001B88 &&& m = 0x2010143C001B88) (h0 : Kept m s0 s) : Kept m s0 (State.slotLoad n k ecc s) := by
  refine Kept.step hm ?_ h0; clear h0 hm
  unfold State.slotLoad
  repeat' first
    | with_reducible exact Kept.refl _ _
    | with_reducible assumption
    | with_reducible apply State.memUe_k
    | with_reducible apply State.setLane_k
    | with_reducible apply State.setDesc_k
    | with_reducible apply State.dropOpt_k
    | with_reducible apply State.noteCe_k
    | (extract_lets +onlyGivenNames x; first
        | (with_reducible refine Kept.cut (x := x) ?_ ?_; (on_goal 2 => (clear_value x; intro hx)); (on_goal 1 => (unfold x; clear x)))
        | clear_value x
        | (unfold x; clear x))
    | exact rfl
    | split

theorem State.unpark_k {m : Nat} {s0 : State} (n : Nat) (k : Nat) (s : State) (hm : 0x400000000 &&& m =
    0x400000000) (h0 : Kept m s0 s) : Kept m s0 (State.unpark n k s) := by
  refine Kept.step hm ?_ h0; clear h0 hm
  unfold State.unpark
  repeat' first
    | with_reducible exact Kept.refl _ _
    | with_reducible apply State.upLane_k
    | exact rfl

theorem State.slotArbitration_k {m : Nat} {s0 : State} (n : Nat) (s : State) (hm : 0x10400000000 &&& m =
    0x10400000000) (h0 : Kept m s0 s) : Kept m s0 (State.slotArbitration n s) := by
  refine Kept.step hm ?_ h0; clear h0 hm
  unfold State.slotArbitration
  repeat' first
    | with_reducible exact Kept.refl _ _
    | with_reducible assumption
    | with_reducible apply State.upLane_k
    | with_reducible apply State.setTl_k
    | (extract_lets +onlyGivenNames x; first
        | (with_reducible refine Kept.cut (x := x) ?_ ?_; (on_goal 2 => (clear_value x; intro hx)); (on_goal 1 => (unfold x; clear x)))
        | clear_value x
        | (unfold x; clear x))
    | exact rfl
    | split

theorem State.arbitrationLost_k {m : Nat} {s0 : State} (n : Nat) (s : State) (hm : 0x2011143C001BC8 &&& m =
    0x2011143C001BC8) (h0 : Kept m s0 s) : Kept m s0 (State.arbitrationLost n s) := by
  refine Kept.step hm ?_ h0; clear h0 hm
  unfold State.arbitrationLost
  repeat' first
    | with_reducible exact Kept.refl _ _
    | with_reducible assumption
    | with_reducible apply State.countBus_k
    | with_reducible apply State.setLane_k
    | with_reducible apply State.setTl_k
    | with_reducible apply State.slotComplete_k
    | (extract_lets +onlyGivenNames x; first
        | (with_reducible refine Kept.cut (x := x) ?_ ?_; (on_goal 2 => (clear_value x; intro hx)); (on_goal 1 => (unfold x; clear x)))
        | clear_value x
        | (unfold x; clear x))
    | exact rfl
    | split

theorem State.busPath_k {m : Nat} {s0 : State} (picks : List Nat) (n : Nat) (f : Frame) (sigValid : Bool) (s :
    State) (hm : 0x6056147E0169C8 &&& m = 0x6056147E0169C8) (h0 : Kept m s0 s) : Kept m s0 (State.busPath picks n f
    sigValid s) := by
  refine Kept.step hm ?_ h0; clear h0 hm
  unfold State.busPath
  repeat' first
    | with_reducible exact Kept.refl _ _
    | with_reducible assumption
    | with_reducible apply State.lineFrame_k
    | (with_reducible refine KeptP.get (by assumption) ?_)
    | exact rfl
    | (intro _ _ _)
    | with_reducible apply KeptP.mk
    | with_reducible apply KeptP.snd

theorem State.busTaken_k {m : Nat} {s0 : State} (picks : List Nat) (n : Nat) (age : Nat) (sig : Sig) (f : Frame)
    (s : State) (hm : 0x60561C7E0169C8 &&& m = 0x60561C7E0169C8) (h0 : Kept m s0 s) : Kept m s0 (State.busTaken
    picks n age sig f s) := by
  refine Kept.step hm ?_ h0; clear h0 hm
  unfold State.busTaken
  repeat' first
    | with_reducible exact Kept.refl _ _
    | with_reducible assumption
    | with_reducible apply State.busPath_k
    | with_reducible apply State.forensics_k
    | (with_reducible refine KeptP.get (by assumption) ?_)
    | (with_reducible refine KeptT.get (by assumption) ?_)
    | exact rfl
    | split
    | with_reducible apply KeptP.mk
    | with_reducible apply KeptT.mk
    | with_reducible apply KeptT.snd
    | with_reducible apply KeptP.snd

theorem State.busReceived_k {m : Nat} {s0 : State} (picks : List Nat) (n : Nat) (age : Nat) (sig : Sig) (f :
    Frame) (s : State) (hm : 0x60561C7E0169C8 &&& m = 0x60561C7E0169C8) (h0 : Kept m s0 s) : Kept m s0
    (State.busReceived picks n age sig f s) := by
  refine Kept.step hm ?_ h0; clear h0 hm
  unfold State.busReceived
  generalize lengthOk f.format f.flags f.dlc f.data.length = b
  repeat' first
    | with_reducible exact Kept.refl _ _
    | with_reducible assumption
    | with_reducible apply State.countBus_k
    | with_reducible apply State.upLane_k
    | with_reducible apply State.frameEnds_k
    | with_reducible apply State.rxValid_k
    | with_reducible apply State.busTaken_k
    | (extract_lets +onlyGivenNames x; first
        | (with_reducible refine Kept.cut (x := x) ?_ ?_; (on_goal 2 => (clear_value x; intro hx)); (on_goal 1 => (unfold x; clear x)))
        | clear_value x
        | (unfold x; clear x))
    | exact rfl
    | split

theorem State.noteTdcv_k {m : Nat} {s0 : State} (n : Nat) (f : Frame) (v : Nat) (s : State) (hm : 0x400000000
    &&& m = 0x400000000) (h0 : Kept m s0 s) : Kept m s0 (State.noteTdcv n f v s) := by
  refine Kept.step hm ?_ h0; clear h0 hm
  unfold State.noteTdcv
  repeat' first
    | with_reducible exact Kept.refl _ _
    | with_reducible apply State.upLane_k
    | exact rfl
    | split

theorem State.flagBitError_k {m : Nat} {s0 : State} (n : Nat) (s : State) (hm : 0x400000008 &&& m = 0x400000008)
    (h0 : Kept m s0 s) : Kept m s0 (State.flagBitError n s) := by
  refine Kept.step hm ?_ h0; clear h0 hm
  unfold State.flagBitError
  repeat' first
    | with_reducible exact Kept.refl _ _
    | with_reducible apply State.countBus_k
    | with_reducible apply State.upLane_k
    | exact rfl

theorem State.extraRule_k {m : Nat} {s0 : State} (n : Nat) (tx : Bool) (r : Nat) (s : State) (hm :
    0x2010043C000008 &&& m = 0x2010043C000008) (h0 : Kept m s0 s) : Kept m s0 (State.extraRule n tx r s) := by
  refine Kept.step hm ?_ h0; clear h0 hm
  unfold State.extraRule
  repeat' first
    | with_reducible exact Kept.refl _ _
    | with_reducible apply State.bumpRec_k
    | with_reducible apply State.flagBitError_k
    | with_reducible apply State.bumpTec_k
    | exact rfl
    | split

theorem State.errorRules_k {m : Nat} {s0 : State} (n : Nat) (tx : Bool) (e : BusFault) (s : State) (hm :
    0x2010043C000008 &&& m = 0x2010043C000008) (h0 : Kept m s0 s) : Kept m s0 (State.errorRules n tx e s) := by
  refine Kept.step hm ?_ h0; clear h0 hm
  unfold State.errorRules
  repeat' first
    | with_reducible exact Kept.refl _ _
    | with_reducible assumption
    | with_reducible apply State.bumpRec_k
    | with_reducible apply Kept.each
    | with_reducible apply State.bumpTec_k
    | with_reducible apply State.extraRule_k
    | exact rfl
    | (intro _ _)
    | split

theorem State.idClash_k {m : Nat} {s0 : State} (n : Nat) (f : Frame) (slot : Option Nat) (e : BusFault) (s :
    State) (hm : 0x20100C3C000008 &&& m = 0x20100C3C000008) (h0 : Kept m s0 s) : Kept m s0 (State.idClash n f slot e
    s) := by
  refine Kept.step hm ?_ h0; clear h0 hm
  unfold State.idClash
  repeat' first
    | with_reducible exact Kept.refl _ _
    | with_reducible assumption
    | with_reducible apply State.countBus_k
    | with_reducible apply State.upLane_k
    | with_reducible apply State.raise_k
    | with_reducible apply State.nodeClash_k
    | (extract_lets +onlyGivenNames x; first
        | (with_reducible refine Kept.cut (x := x) ?_ ?_; (on_goal 2 => (clear_value x; intro hx)); (on_goal 1 => (unfold x; clear x)))
        | clear_value x
        | (unfold x; clear x))
    | exact rfl
    | split

theorem State.txFailed_k {m : Nat} {s0 : State} (n : Nat) (slot : Option Nat) (ack : Bool) (s : State) (hm :
    0x2011143C001BC8 &&& m = 0x2011143C001BC8) (h0 : Kept m s0 s) : Kept m s0 (State.txFailed n slot ack s) := by
  refine Kept.step hm ?_ h0; clear h0 hm
  unfold State.txFailed
  repeat' first
    | with_reducible exact Kept.refl _ _
    | with_reducible assumption
    | with_reducible apply State.upLane_k
    | with_reducible apply State.ackFailed_k
    | with_reducible apply State.setTl_k
    | with_reducible apply State.slotComplete_k
    | (extract_lets +onlyGivenNames x; first
        | (with_reducible refine Kept.cut (x := x) ?_ ?_; (on_goal 2 => (clear_value x; intro hx)); (on_goal 1 => (unfold x; clear x)))
        | clear_value x
        | (unfold x; clear x))
    | exact rfl
    | split

theorem State.afterError_k {m : Nat} {s0 : State} (n : Nat) (s : State) (hm : 0x400000000 &&& m = 0x400000000)
    (h0 : Kept m s0 s) : Kept m s0 (State.afterError n s) := by
  refine Kept.step hm ?_ h0; clear h0 hm
  unfold State.afterError
  repeat' first
    | with_reducible exact Kept.refl _ _
    | with_reducible assumption
    | with_reducible apply State.setLane_k
    | (extract_lets +onlyGivenNames x; first
        | (with_reducible refine Kept.cut (x := x) ?_ ?_; (on_goal 2 => (clear_value x; intro hx)); (on_goal 1 => (unfold x; clear x)))
        | clear_value x
        | (unfold x; clear x))
    | exact rfl
    | split

theorem State.overload_k {m : Nat} {s0 : State} (n : Nat) (e : BusFault) (s : State) (hm : 0x2010043C000008 &&&
    m = 0x2010043C000008) (h0 : Kept m s0 s) : Kept m s0 (State.overload n e s) := by
  refine Kept.step hm ?_ h0; clear h0 hm
  unfold State.overload
  repeat' first
    | with_reducible exact Kept.refl _ _
    | with_reducible assumption
    | with_reducible apply State.countBus_k
    | with_reducible apply State.upLane_k
    | with_reducible apply State.errorRules_k
    | (extract_lets +onlyGivenNames x; first
        | (with_reducible refine Kept.cut (x := x) ?_ ?_; (on_goal 2 => (clear_value x; intro hx)); (on_goal 1 => (unfold x; clear x)))
        | clear_value x
        | (unfold x; clear x))
    | exact rfl
    | split

theorem State.failedSig_k {m : Nat} {s0 : State} (n : Nat) (e : BusFault) (s : State) (hm : 0x400000000 &&& m =
    0x400000000) (h0 : Kept m s0 s) : Kept m s0 (State.failedSig n e s) := by
  refine Kept.step hm ?_ h0; clear h0 hm
  unfold State.failedSig
  repeat' first
    | with_reducible exact Kept.refl _ _
    | with_reducible assumption
    | with_reducible apply State.upLane_k
    | exact rfl

theorem State.failedTdc_k {m : Nat} {s0 : State} (n : Nat) (f : Option Frame) (e : BusFault) (s : State) (hm :
    0x2010043C000008 &&& m = 0x2010043C000008) (h0 : Kept m s0 s) : KeptP m s0 (State.failedTdc n f e s) := by
  refine KeptP.step hm ?_ h0; clear h0 hm
  unfold State.failedTdc
  repeat' first
    | with_reducible exact Kept.refl _ _
    | with_reducible assumption
    | with_reducible apply State.raise_k
    | with_reducible apply State.cntF_k
    | with_reducible apply State.noteTdcv_k
    | (extract_lets +onlyGivenNames x; first
        | (with_reducible refine Kept.cut (x := x) ?_ ?_; (on_goal 2 => (clear_value x; intro hx)); (on_goal 1 => (unfold x; clear x)))
        | (with_reducible refine KeptP.cut (x := x) ?_ ?_; (on_goal 2 => (clear_value x; intro hx)); (on_goal 1 => (unfold x; clear x)))
        | clear_value x
        | (unfold x; clear x))
    | exact rfl
    | split
    | with_reducible apply KeptP.mk

theorem State.noteError_k {m : Nat} {s0 : State} (n : Nat) (tx : Bool) (e : BusFault) (s : State) (hm :
    0x2010043C000008 &&& m = 0x2010043C000008) (h0 : Kept m s0 s) : Kept m s0 (State.noteError n tx e s) := by
  refine Kept.step hm ?_ h0; clear h0 hm
  unfold State.noteError
  repeat' first
    | with_reducible exact Kept.refl _ _
    | with_reducible assumption
    | with_reducible apply State.countBus_k
    | with_reducible apply State.upLane_k
    | with_reducible apply State.failedSig_k
    | with_reducible apply State.errorRules_k
    | (extract_lets +onlyGivenNames x; first
        | (with_reducible refine Kept.cut (x := x) ?_ ?_; (on_goal 2 => (clear_value x; intro hx)); (on_goal 1 => (unfold x; clear x)))
        | clear_value x
        | (unfold x; clear x))
    | exact rfl
    | split

theorem State.errorClash_k {m : Nat} {s0 : State} (n : Nat) (f : Option Frame) (slot : Option Nat) (e :
    BusFault) (s : State) (hm : 0x20100C3C000008 &&& m = 0x20100C3C000008) (h0 : Kept m s0 s) : Kept m s0
    (State.errorClash n f slot e s) := by
  refine Kept.step hm ?_ h0; clear h0 hm
  unfold State.errorClash
  repeat' first
    | with_reducible exact Kept.refl _ _
    | with_reducible apply State.idClash_k
    | exact rfl
    | split

theorem State.frameError_k {m : Nat} {s0 : State} (n : Nat) (e : BusFault) (s : State) (hm : 0x20111C3C001BC8
    &&& m = 0x20111C3C001BC8) (h0 : Kept m s0 s) : Kept m s0 (State.frameError n e s) := by
  refine Kept.step hm ?_ h0; clear h0 hm
  unfold State.frameError
  repeat' first
    | with_reducible exact Kept.refl _ _
    | with_reducible assumption
    | with_reducible apply State.errorClash_k
    | with_reducible apply State.afterError_k
    | with_reducible apply State.frameEnds_k
    | with_reducible apply State.failedTdc_k
    | with_reducible apply State.noteError_k
    | with_reducible apply State.txFailed_k
    | (with_reducible refine KeptP.get (by assumption) ?_)
    | exact rfl
    | split
    | with_reducible apply KeptP.snd

theorem State.busError_k {m : Nat} {s0 : State} (n : Nat) (e : BusFault) (s : State) (hm : 0x20111C3C001BC8 &&&
    m = 0x20111C3C001BC8) (h0 : Kept m s0 s) : Kept m s0 (State.busError n e s) := by
  refine Kept.step hm ?_ h0; clear h0 hm
  unfold State.busError
  repeat' first
    | with_reducible exact Kept.refl _ _
    | with_reducible apply State.overload_k
    | with_reducible apply State.frameError_k
    | exact rfl
    | split

theorem State.frameSentOn_k {m : Nat} {s0 : State} (picks : List Nat) (n : Nat) (age : Nat) (tdcv : Nat) (f :
    Frame) (s : State) (hm : 0x6057147E017BC8 &&& m = 0x6057147E017BC8) (h0 : Kept m s0 s) : Kept m s0
    (State.frameSentOn picks n age tdcv f s) := by
  refine Kept.step hm ?_ h0; clear h0 hm
  unfold State.frameSentOn
  repeat' first
    | with_reducible exact Kept.refl _ _
    | with_reducible assumption
    | with_reducible apply State.countBus_k
    | with_reducible apply State.upLane_k
    | with_reducible apply State.txValid_k
    | with_reducible apply State.frameEnds_k
    | with_reducible apply State.setTl_k
    | with_reducible apply State.busPath_k
    | with_reducible apply State.slotComplete_k
    | with_reducible apply State.noteTdcv_k
    | with_reducible apply State.emit_k
    | (extract_lets +onlyGivenNames x; first
        | (with_reducible refine Kept.cut (x := x) ?_ ?_; (on_goal 2 => (clear_value x; intro hx)); (on_goal 1 => (unfold x; clear x)))
        | clear_value x
        | (unfold x; clear x))
    | exact rfl
    | split

theorem State.busSent_k {m : Nat} {s0 : State} (picks : List Nat) (n : Nat) (age : Nat) (tdcv : Nat) (s : State)
    (hm : 0x60571C7E017BC8 &&& m = 0x60571C7E017BC8) (h0 : Kept m s0 s) : Kept m s0 (State.busSent picks n age tdcv
    s) := by
  refine Kept.step hm ?_ h0; clear h0 hm
  unfold State.busSent
  repeat' first
    | with_reducible exact Kept.refl _ _
    | with_reducible apply State.frameError_k
    | with_reducible apply State.frameSentOn_k
    | exact rfl
    | split

theorem State.txdTimeout_k {m : Nat} {s0 : State} (n : Nat) (extra : List Nat) (s : State) (hm :
    0x20111C3C001BC8 &&& m = 0x20111C3C001BC8) (h0 : Kept m s0 s) : Kept m s0 (State.txdTimeout n extra s) := by
  refine Kept.step hm ?_ h0; clear h0 hm
  unfold State.txdTimeout
  repeat' first
    | with_reducible exact Kept.refl _ _
    | with_reducible assumption
    | with_reducible apply State.busError_k
    | with_reducible apply State.raise_k
    | with_reducible apply State.cntF_k
    | (extract_lets +onlyGivenNames x; first
        | (with_reducible refine Kept.cut (x := x) ?_ ?_; (on_goal 2 => (clear_value x; intro hx)); (on_goal 1 => (unfold x; clear x)))
        | clear_value x
        | (unfold x; clear x))
    | exact rfl
    | split

theorem State.busDom_k {m : Nat} {s0 : State} (n : Nat) (s : State) (hm : 0x2010003C000008 &&& m =
    0x2010003C000008) (h0 : Kept m s0 s) : Kept m s0 (State.busDom n s) := by
  refine Kept.step hm ?_ h0; clear h0 hm
  unfold State.busDom
  repeat' first
    | with_reducible exact Kept.refl _ _
    | with_reducible apply State.raise_k
    | with_reducible apply State.cntF_k
    | exact rfl

theorem State.protocolException_k {m : Nat} {s0 : State} (e : FormatError) (s : State) (hm : 0x20111C3C001BC8
    &&& m = 0x20111C3C001BC8) (h0 : Kept m s0 s) : Kept m s0 (State.protocolException e s) := by
  refine Kept.step hm ?_ h0; clear h0 hm
  unfold State.protocolException
  repeat' first
    | with_reducible exact Kept.refl _ _
    | with_reducible assumption
    | with_reducible apply State.countBus_k
    | with_reducible apply State.upLane_k
    | with_reducible apply State.busError_k
    | with_reducible apply State.raise_k
    | (extract_lets +onlyGivenNames x; first
        | (with_reducible refine Kept.cut (x := x) ?_ ?_; (on_goal 2 => (clear_value x; intro hx)); (on_goal 1 => (unfold x; clear x)))
        | clear_value x
        | (unfold x; clear x))
    | exact rfl
    | split

theorem State.clearClash_k {m : Nat} {s0 : State} (n : Nat) (s : State) (hm : 0x400000000 &&& m = 0x400000000)
    (h0 : Kept m s0 s) : Kept m s0 (State.clearClash n s) := by
  refine Kept.step hm ?_ h0; clear h0 hm
  unfold State.clearClash
  repeat' first
    | with_reducible exact Kept.refl _ _
    | with_reducible apply State.upLane_k
    | exact rfl

end Sys2Proof.Machine
end

