-- ==== Sys2Proof/Laws/FrameCycle.lean ====
section
/-! SUPPORT. Frames of Machine/Cycle.lean: the fields each function may change. -/
namespace Sys2Proof.Machine
open Sys2Proof

theorem State.newPeriod_k {m : Nat} {s0 : State} (s : State) (hm : 0x31403000000 &&& m = 0x31403000000) (h0 :
    Kept m s0 s) : Kept m s0 (State.newPeriod s) := by
  refine Kept.step hm ?_ h0; clear h0 hm
  unfold State.newPeriod
  repeat' first
    | with_reducible exact Kept.refl _ _
    | with_reducible assumption
    | with_reducible apply State.clearClash_k
    | with_reducible apply Kept.each
    | (extract_lets +onlyGivenNames x; first
        | (with_reducible refine Kept.cut (x := x) ?_ ?_; (on_goal 2 => (clear_value x; intro hx)); (on_goal 1 => (unfold x; clear x)))
        | clear_value x
        | (unfold x; clear x))
    | exact rfl
    | (intro _ _)
    | (with_reducible apply Kept.upd <;> try first
        | exact rfl
        | exact Or.inl rfl
        | exact Or.inr rfl
        | exact Or.inr ⟨rfl, fun hw => rfl⟩
        | exact Or.inr ⟨rfl, fun hw => Tbl.wf_mapv _ _ _ hw⟩)

theorem State.gridCheck_k {m : Nat} {s0 : State} (s : State) (hm : 0x35403000000 &&& m = 0x35403000000) (h0 :
    Kept m s0 s) : Kept m s0 (State.gridCheck s) := by
  refine Kept.step hm ?_ h0; clear h0 hm
  unfold State.gridCheck
  repeat' first
    | with_reducible exact Kept.refl _ _
    | with_reducible assumption
    | with_reducible apply State.newPeriod_k
    | (extract_lets +onlyGivenNames x; first
        | (with_reducible refine Kept.cut (x := x) ?_ ?_; (on_goal 2 => (clear_value x; intro hx)); (on_goal 1 => (unfold x; clear x)))
        | clear_value x
        | (unfold x; clear x))
    | exact rfl
    | split
    | with_reducible apply Kept.set_gridK

theorem State.beaconMs_k {m : Nat} {s0 : State} (s : State) (hm : 0x31403000000 &&& m = 0x31403000000) (h0 :
    Kept m s0 s) : Kept m s0 (State.beaconMs s) := by
  refine Kept.step hm ?_ h0; clear h0 hm
  unfold State.beaconMs
  repeat' first
    | with_reducible exact Kept.refl _ _
    | with_reducible apply State.newPeriod_k
    | exact rfl
    | split

theorem State.countTl_k {m : Nat} {s0 : State} (t : Nat) (i : Nat) (s : State) (hm : 0x8 &&& m = 0x8) (h0 : Kept
    m s0 s) : Kept m s0 (State.countTl t i s) := by
  refine Kept.step hm ?_ h0; clear h0 hm
  unfold State.countTl
  repeat' first
    | with_reducible exact Kept.refl _ _
    | with_reducible apply State.cnt_k
    | exact rfl

theorem State.upTl_k {m : Nat} {s0 : State} (t : Nat) (f : Timeline → Timeline) (s : State) (hm : 0x10000000000
    &&& m = 0x10000000000) (h0 : Kept m s0 s) : Kept m s0 (State.upTl t f s) := by
  refine Kept.step hm ?_ h0; clear h0 hm
  unfold State.upTl
  repeat' first
    | with_reducible exact Kept.refl _ _
    | with_reducible apply State.setTl_k
    | exact rfl

theorem State.stopTimelines_k {m : Nat} {s0 : State} (p : Nat → Bool) (s : State) (hm : 0x10000000000 &&& m =
    0x10000000000) (h0 : Kept m s0 s) : Kept m s0 (State.stopTimelines p s) := by
  refine Kept.step hm ?_ h0; clear h0 hm
  unfold State.stopTimelines
  repeat' first
    | with_reducible exact Kept.refl _ _
    | with_reducible apply Kept.each
    | with_reducible apply State.setTl_k
    | exact rfl
    | (intro _ _)

theorem State.countLate_k {m : Nat} {s0 : State} (t : Nat) (w : Placed) (s : State) (hm : 0x2011003C000008 &&& m
    = 0x2011003C000008) (h0 : Kept m s0 s) : Kept m s0 (State.countLate t w s) := by
  refine Kept.step hm ?_ h0; clear h0 hm
  unfold State.countLate
  repeat' first
    | with_reducible exact Kept.refl _ _
    | with_reducible assumption
    | with_reducible apply State.countTl_k
    | with_reducible apply State.raise_k
    | with_reducible apply State.setTl_k
    | (extract_lets +onlyGivenNames x; first
        | (with_reducible refine Kept.cut (x := x) ?_ ?_; (on_goal 2 => (clear_value x; intro hx)); (on_goal 1 => (unfold x; clear x)))
        | clear_value x
        | (unfold x; clear x))
    | exact rfl
    | split

theorem State.judgeLate_k {m : Nat} {s0 : State} (t : Nat) (atEnd : Bool) (moment : Nat) (s : State) (hm :
    0x2011003C000008 &&& m = 0x2011003C000008) (h0 : Kept m s0 s) : Kept m s0 (State.judgeLate t atEnd moment s) :=
    by
  refine Kept.step hm ?_ h0; clear h0 hm
  unfold State.judgeLate
  repeat' first
    | with_reducible exact Kept.refl _ _
    | with_reducible assumption
    | with_reducible apply State.setTl_k
    | with_reducible apply State.countLate_k
    | (extract_lets +onlyGivenNames x; first
        | (with_reducible refine Kept.cut (x := x) ?_ ?_; (on_goal 2 => (clear_value x; intro hx)); (on_goal 1 => (unfold x; clear x)))
        | clear_value x
        | (unfold x; clear x))
    | exact rfl
    | split

theorem State.taskRelease_k {m : Nat} {s0 : State} (g : Nat) (n : Nat) (s : State) (hm : 0x100000000000 &&& m =
    0x100000000000) (h0 : Kept m s0 s) : Kept m s0 (State.taskRelease g n s) := by
  refine Kept.step hm ?_ h0; clear h0 hm
  unfold State.taskRelease
  repeat' first
    | with_reducible exact Kept.refl _ _
    | with_reducible apply State.privArrive_k
    | exact rfl

theorem State.skipWindow_k {m : Nat} {s0 : State} (t : Nat) (w : Placed) (s : State) (hm : 0x8 &&& m = 0x8) (h0
    : Kept m s0 s) : Kept m s0 (State.skipWindow t w s) := by
  refine Kept.step hm ?_ h0; clear h0 hm
  unfold State.skipWindow
  repeat' first
    | with_reducible exact Kept.refl _ _
    | with_reducible apply State.countTl_k
    | exact rfl
    | split

theorem State.windowEffect_k {m : Nat} {s0 : State} (t : Nat) (w : Placed) (s : State) (hm : 0x110000000008 &&&
    m = 0x110000000008) (h0 : Kept m s0 s) : Kept m s0 (State.windowEffect t w s) := by
  refine Kept.step hm ?_ h0; clear h0 hm
  unfold State.windowEffect
  repeat' first
    | with_reducible exact Kept.refl _ _
    | with_reducible assumption
    | with_reducible apply State.countTl_k
    | with_reducible apply State.skipWindow_k
    | with_reducible apply State.upTl_k
    | with_reducible apply State.taskRelease_k
    | (extract_lets +onlyGivenNames x; first
        | (with_reducible refine Kept.cut (x := x) ?_ ?_; (on_goal 2 => (clear_value x; intro hx)); (on_goal 1 => (unfold x; clear x)))
        | clear_value x
        | (unfold x; clear x))
    | exact rfl
    | split

theorem State.beginWindow_k {m : Nat} {s0 : State} (t : Nat) (a : Nat) (w : Placed) (rest : List Placed) (s :
    State) (hm : 0x2011003C000008 &&& m = 0x2011003C000008) (h0 : Kept m s0 s) : Kept m s0 (State.beginWindow t a w
    rest s) := by
  refine Kept.step hm ?_ h0; clear h0 hm
  unfold State.beginWindow
  repeat' first
    | with_reducible exact Kept.refl _ _
    | with_reducible assumption
    | with_reducible apply State.upTl_k
    | with_reducible apply State.windowEffect_k
    | with_reducible apply State.judgeLate_k
    | exact rfl

theorem State.windowStart_k {m : Nat} {s0 : State} (t : Nat) (s : State) (hm : 0x2011003C000008 &&& m =
    0x2011003C000008) (h0 : Kept m s0 s) : Kept m s0 (State.windowStart t s) := by
  refine Kept.step hm ?_ h0; clear h0 hm
  unfold State.windowStart
  repeat' first
    | with_reducible exact Kept.refl _ _
    | with_reducible assumption
    | with_reducible apply State.beginWindow_k
    | (extract_lets +onlyGivenNames x; first
        | (with_reducible refine Kept.cut (x := x) ?_ ?_; (on_goal 2 => (clear_value x; intro hx)); (on_goal 1 => (unfold x; clear x)))
        | clear_value x
        | (unfold x; clear x))
    | exact rfl
    | split

theorem State.endWindow_k {m : Nat} {s0 : State} (t : Nat) (moment : Nat) (w : Placed) (s : State) (hm :
    0x2011003C000008 &&& m = 0x2011003C000008) (h0 : Kept m s0 s) : Kept m s0 (State.endWindow t moment w s) := by
  refine Kept.step hm ?_ h0; clear h0 hm
  unfold State.endWindow
  repeat' first
    | with_reducible exact Kept.refl _ _
    | with_reducible assumption
    | with_reducible apply State.countTl_k
    | with_reducible apply State.upTl_k
    | with_reducible apply State.raise_k
    | with_reducible apply State.setTl_k
    | with_reducible apply State.judgeLate_k
    | (extract_lets +onlyGivenNames x; first
        | (with_reducible refine Kept.cut (x := x) ?_ ?_; (on_goal 2 => (clear_value x; intro hx)); (on_goal 1 => (unfold x; clear x)))
        | clear_value x
        | (unfold x; clear x))
    | exact rfl
    | split

theorem State.windowEnd_k {m : Nat} {s0 : State} (t : Nat) (s : State) (hm : 0x2011003C000008 &&& m =
    0x2011003C000008) (h0 : Kept m s0 s) : Kept m s0 (State.windowEnd t s) := by
  refine Kept.step hm ?_ h0; clear h0 hm
  unfold State.windowEnd
  repeat' first
    | with_reducible exact Kept.refl _ _
    | with_reducible assumption
    | with_reducible apply State.endWindow_k
    | (extract_lets +onlyGivenNames x; first
        | (with_reducible refine Kept.cut (x := x) ?_ ?_; (on_goal 2 => (clear_value x; intro hx)); (on_goal 1 => (unfold x; clear x)))
        | clear_value x
        | (unfold x; clear x))
    | exact rfl
    | split

theorem State.taskDone_k {m : Nat} {s0 : State} (g : Nat) (n : Nat) (s : State) (hm : 0x2011003C000008 &&& m =
    0x2011003C000008) (h0 : Kept m s0 s) : Kept m s0 (State.taskDone g n s) := by
  refine Kept.step hm ?_ h0; clear h0 hm
  unfold State.taskDone
  repeat' first
    | with_reducible exact Kept.refl _ _
    | with_reducible assumption
    | with_reducible apply State.setTl_k
    | with_reducible apply State.endWindow_k
    | (extract_lets +onlyGivenNames x; first
        | (with_reducible refine Kept.cut (x := x) ?_ ?_; (on_goal 2 => (clear_value x; intro hx)); (on_goal 1 => (unfold x; clear x)))
        | clear_value x
        | (unfold x; clear x))
    | exact rfl
    | split

theorem State.startCycle_k {m : Nat} {s0 : State} (t : Nat) (k : Nat) (a : Nat) (phi : Int) (catchUp : Bool)
    (ref : Bool) (s : State) (hm : 0x2011003C000008 &&& m = 0x2011003C000008) (h0 : Kept m s0 s) : Kept m s0
    (State.startCycle t k a phi catchUp ref s) := by
  refine Kept.step hm ?_ h0; clear h0 hm
  unfold State.startCycle
  repeat' first
    | with_reducible exact Kept.refl _ _
    | with_reducible assumption
    | with_reducible apply State.upTl_k
    | with_reducible apply State.beginWindow_k
    | (extract_lets +onlyGivenNames x; first
        | (with_reducible refine Kept.cut (x := x) ?_ ?_; (on_goal 2 => (clear_value x; intro hx)); (on_goal 1 => (unfold x; clear x)))
        | clear_value x
        | (unfold x; clear x))
    | exact rfl
    | split

theorem State.cycleStart_k {m : Nat} {s0 : State} (t : Nat) (s : State) (hm : 0x2013543F000008 &&& m =
    0x2013543F000008) (h0 : Kept m s0 s) : Kept m s0 (State.cycleStart t s) := by
  refine Kept.step hm ?_ h0; clear h0 hm
  unfold State.cycleStart
  repeat' first
    | with_reducible exact Kept.refl _ _
    | with_reducible assumption
    | with_reducible apply State.startCycle_k
    | with_reducible apply State.gridCheck_k
    | (extract_lets +onlyGivenNames x; first
        | (with_reducible refine Kept.cut (x := x) ?_ ?_; (on_goal 2 => (clear_value x; intro hx)); (on_goal 1 => (unfold x; clear x)))
        | clear_value x
        | (unfold x; clear x))
    | exact rfl
    | split

theorem State.skipTrigger_k {m : Nat} {s0 : State} (t : Nat) (i : Nat) (s : State) (hm : 0x10000000008 &&& m =
    0x10000000008) (h0 : Kept m s0 s) : Kept m s0 (State.skipTrigger t i s) := by
  refine Kept.step hm ?_ h0; clear h0 hm
  unfold State.skipTrigger
  repeat' first
    | with_reducible exact Kept.refl _ _
    | with_reducible apply State.countTl_k
    | with_reducible apply State.upTl_k
    | exact rfl

theorem State.exclusiveTrigger_k {m : Nat} {s0 : State} (t : Nat) (i : Nat) (s : State) (hm : 0x10400000208 &&&
    m = 0x10400000208) (h0 : Kept m s0 s) : Kept m s0 (State.exclusiveTrigger t i s) := by
  refine Kept.step hm ?_ h0; clear h0 hm
  unfold State.exclusiveTrigger
  repeat' first
    | with_reducible exact Kept.refl _ _
    | with_reducible assumption
    | with_reducible apply State.setDesc_k
    | with_reducible apply State.setTl_k
    | with_reducible apply State.skipTrigger_k
    | with_reducible apply State.triggerStatic_k
    | (extract_lets +onlyGivenNames x; first
        | (with_reducible refine Kept.cut (x := x) ?_ ?_; (on_goal 2 => (clear_value x; intro hx)); (on_goal 1 => (unfold x; clear x)))
        | (with_reducible refine Kept.cutP (x := x) ?_ ?_; (on_goal 2 => (clear_value x; intro hx)); (on_goal 1 => (unfold x; clear x)))
        | clear_value x
        | (unfold x; clear x))
    | (with_reducible refine KeptP.get (by assumption) ?_)
    | (with_reducible refine KeptT.get (by assumption) ?_)
    | exact rfl
    | split
    | with_reducible apply KeptP.mk
    | with_reducible apply KeptT.mk
    | with_reducible apply KeptT.snd
    | with_reducible apply KeptP.snd

theorem State.followPhase_k {m : Nat} {s0 : State} (t : Nat) (phi : Int) (s : State) (hm : 0x2011003C000008 &&&
    m = 0x2011003C000008) (h0 : Kept m s0 s) : Kept m s0 (State.followPhase t phi s) := by
  refine Kept.step hm ?_ h0; clear h0 hm
  unfold State.followPhase
  repeat' first
    | with_reducible exact Kept.refl _ _
    | with_reducible assumption
    | with_reducible apply State.raise_k
    | with_reducible apply State.setTl_k
    | (extract_lets +onlyGivenNames x; first
        | (with_reducible refine Kept.cut (x := x) ?_ ?_; (on_goal 2 => (clear_value x; intro hx)); (on_goal 1 => (unfold x; clear x)))
        | clear_value x
        | (unfold x; clear x))
    | exact rfl
    | split

theorem State.toFollower_k {m : Nat} {s0 : State} (n : Nat) (s : State) (hm : 0x10000000008 &&& m =
    0x10000000008) (h0 : Kept m s0 s) : Kept m s0 (State.toFollower n s) := by
  refine Kept.step hm ?_ h0; clear h0 hm
  unfold State.toFollower
  repeat' first
    | with_reducible exact Kept.refl _ _
    | with_reducible assumption
    | with_reducible apply State.countTl_k
    | with_reducible apply State.setTl_k
    | (extract_lets +onlyGivenNames x; first
        | (with_reducible refine Kept.cut (x := x) ?_ ?_; (on_goal 2 => (clear_value x; intro hx)); (on_goal 1 => (unfold x; clear x)))
        | clear_value x
        | (unfold x; clear x))
    | exact rfl
    | split

theorem State.referenceReceived_k {m : Nat} {s0 : State} (n : Nat) (ident : Nat) (age : Nat) (s : State) (hm :
    0x2011003C000008 &&& m = 0x2011003C000008) (h0 : Kept m s0 s) : Kept m s0 (State.referenceReceived n ident age
    s) := by
  refine Kept.step hm ?_ h0; clear h0 hm
  unfold State.referenceReceived
  repeat' first
    | with_reducible exact Kept.refl _ _
    | with_reducible assumption
    | with_reducible apply State.startCycle_k
    | with_reducible apply State.countTl_k
    | with_reducible apply State.upTl_k
    | with_reducible apply State.toFollower_k
    | with_reducible apply State.raise_k
    | with_reducible apply State.followPhase_k
    | (extract_lets +onlyGivenNames x; first
        | (with_reducible refine Kept.cut (x := x) ?_ ?_; (on_goal 2 => (clear_value x; intro hx)); (on_goal 1 => (unfold x; clear x)))
        | clear_value x
        | (unfold x; clear x))
    | exact rfl
    | split

theorem State.backupTakeover_k {m : Nat} {s0 : State} (n : Nat) (s : State) (hm : 0x2011003C000008 &&& m =
    0x2011003C000008) (h0 : Kept m s0 s) : Kept m s0 (State.backupTakeover n s) := by
  refine Kept.step hm ?_ h0; clear h0 hm
  unfold State.backupTakeover
  repeat' first
    | with_reducible exact Kept.refl _ _
    | with_reducible assumption
    | with_reducible apply State.startCycle_k
    | with_reducible apply State.upTl_k
    | with_reducible apply State.raise_k
    | (extract_lets +onlyGivenNames x; first
        | (with_reducible refine Kept.cut (x := x) ?_ ?_; (on_goal 2 => (clear_value x; intro hx)); (on_goal 1 => (unfold x; clear x)))
        | clear_value x
        | (unfold x; clear x))
    | exact rfl
    | split

theorem State.resyncAll_k {m : Nat} {s0 : State} (d : Int) (s : State) (hm : 0x2011003C000008 &&& m =
    0x2011003C000008) (h0 : Kept m s0 s) : Kept m s0 (State.resyncAll d s) := by
  refine Kept.step hm ?_ h0; clear h0 hm
  unfold State.resyncAll
  repeat' first
    | with_reducible exact Kept.refl _ _
    | with_reducible assumption
    | with_reducible apply State.countTl_k
    | with_reducible apply Kept.each
    | with_reducible apply State.upTl_k
    | with_reducible apply State.raise_k
    | (extract_lets +onlyGivenNames x; first
        | (with_reducible refine Kept.cut (x := x) ?_ ?_; (on_goal 2 => (clear_value x; intro hx)); (on_goal 1 => (unfold x; clear x)))
        | clear_value x
        | (unfold x; clear x))
    | exact rfl
    | (intro _ _)
    | split

end Sys2Proof.Machine
end

