-- ==== Sys2Proof/Laws/FrameBeacon.lean ====
section
/-! SUPPORT. Frames of Machine/Beacon.lean: the fields each function may change. -/
namespace Sys2Proof.Machine
open Sys2Proof

theorem State.upBcn_k {m : Nat} {s0 : State} (f : Beacon → Beacon) (s : State) (hm : 0x100000000 &&& m =
    0x100000000) (h0 : Kept m s0 s) : Kept m s0 (State.upBcn f s) := by
  refine Kept.step hm ?_ h0; clear h0 hm
  unfold State.upBcn
  repeat' first
    | with_reducible exact Kept.refl _ _
    | with_reducible assumption
    | exact rfl
    | with_reducible apply Kept.set_beacon

theorem State.upBport_k {m : Nat} {s0 : State} (p : Nat) (f : BcnPort → BcnPort) (s : State) (hm : 0x200000000
    &&& m = 0x200000000) (h0 : Kept m s0 s) : Kept m s0 (State.upBport p f s) := by
  refine Kept.step hm ?_ h0; clear h0 hm
  unfold State.upBport
  repeat' first
    | with_reducible exact Kept.refl _ _
    | with_reducible apply State.setBport_k
    | exact rfl

theorem State.countBcn_k {m : Nat} {s0 : State} (i : Nat) (s : State) (hm : 0x8 &&& m = 0x8) (h0 : Kept m s0 s)
    : Kept m s0 (State.countBcn i s) := by
  refine Kept.step hm ?_ h0; clear h0 hm
  unfold State.countBcn
  repeat' first
    | with_reducible exact Kept.refl _ _
    | with_reducible apply State.cnt_k
    | exact rfl

theorem State.ppsOut_k {m : Nat} {s0 : State} (s : State) (hm : 0x20000100000000 &&& m = 0x20000100000000) (h0 :
    Kept m s0 s) : Kept m s0 (State.ppsOut s) := by
  refine Kept.step hm ?_ h0; clear h0 hm
  unfold State.ppsOut
  repeat' first
    | with_reducible exact Kept.refl _ _
    | with_reducible apply State.upBcn_k
    | with_reducible apply State.emit_k
    | exact rfl
    | split

theorem State.ppsFall_k {m : Nat} {s0 : State} (s : State) (hm : 0x20000100000000 &&& m = 0x20000100000000) (h0
    : Kept m s0 s) : Kept m s0 (State.ppsFall s) := by
  refine Kept.step hm ?_ h0; clear h0 hm
  unfold State.ppsFall
  repeat' first
    | with_reducible exact Kept.refl _ _
    | with_reducible apply State.upBcn_k
    | with_reducible apply State.emit_k
    | exact rfl
    | split

theorem State.syncOut_k {m : Nat} {s0 : State} (s : State) (hm : 0x20000100000000 &&& m = 0x20000100000000) (h0
    : Kept m s0 s) : Kept m s0 (State.syncOut s) := by
  refine Kept.step hm ?_ h0; clear h0 hm
  unfold State.syncOut
  repeat' first
    | with_reducible exact Kept.refl _ _
    | with_reducible assumption
    | with_reducible apply State.upBcn_k
    | with_reducible apply State.emit_k
    | (extract_lets +onlyGivenNames x; first
        | (with_reducible refine Kept.cut (x := x) ?_ ?_; (on_goal 2 => (clear_value x; intro hx)); (on_goal 1 => (unfold x; clear x)))
        | clear_value x
        | (unfold x; clear x))
    | exact rfl
    | split

theorem State.stepUnits_k {m : Nat} {s0 : State} (u : Int) (s : State) (hm : 0x2011013C000008 &&& m =
    0x2011013C000008) (h0 : Kept m s0 s) : Kept m s0 (State.stepUnits u s) := by
  refine Kept.step hm ?_ h0; clear h0 hm
  unfold State.stepUnits
  repeat' first
    | with_reducible exact Kept.refl _ _
    | with_reducible assumption
    | with_reducible apply State.upBcn_k
    | with_reducible apply State.syncOut_k
    | with_reducible apply State.resyncAll_k
    | with_reducible apply State.ppsOut_k
    | with_reducible apply State.countBcn_k
    | exact rfl
    | split

theorem State.reading_k {m : Nat} {s0 : State} (s : State) (hm : 0x100000000 &&& m = 0x100000000) (h0 : Kept m
    s0 s) : KeptP m s0 (State.reading s) := by
  refine KeptP.step hm ?_ h0; clear h0 hm
  unfold State.reading
  repeat' first
    | with_reducible exact Kept.refl _ _
    | with_reducible assumption
    | with_reducible apply State.upBcn_k
    | (extract_lets +onlyGivenNames x; first
        | (with_reducible refine Kept.cut (x := x) ?_ ?_; (on_goal 2 => (clear_value x; intro hx)); (on_goal 1 => (unfold x; clear x)))
        | (with_reducible refine KeptP.cut (x := x) ?_ ?_; (on_goal 2 => (clear_value x; intro hx)); (on_goal 1 => (unfold x; clear x)))
        | clear_value x
        | (unfold x; clear x))
    | exact rfl
    | split
    | with_reducible apply KeptP.mk

theorem State.beaconRestart_k {m : Nat} {s0 : State} (s : State) (hm : 0x20001100000000 &&& m =
    0x20001100000000) (h0 : Kept m s0 s) : Kept m s0 (State.beaconRestart s) := by
  refine Kept.step hm ?_ h0; clear h0 hm
  unfold State.beaconRestart
  repeat' first
    | with_reducible exact Kept.refl _ _
    | with_reducible assumption
    | with_reducible apply State.upBcn_k
    | with_reducible apply State.syncOut_k
    | with_reducible apply State.upPort_k
    | with_reducible apply Kept.each
    | with_reducible apply State.ppsFall_k
    | exact rfl
    | (intro _ _)

theorem State.restep_k {m : Nat} {s0 : State} (s : State) (hm : 0x100000000 &&& m = 0x100000000) (h0 : Kept m s0
    s) : Kept m s0 (State.restep s) := by
  refine Kept.step hm ?_ h0; clear h0 hm
  unfold State.restep
  repeat' first
    | with_reducible exact Kept.refl _ _
    | with_reducible apply State.upBcn_k
    | exact rfl

theorem State.bcnCfg_k {m : Nat} {s0 : State} (w : Word) (s : State) (hm : 0x100000008 &&& m = 0x100000008) (h0
    : Kept m s0 s) : Kept m s0 (State.bcnCfg w s) := by
  refine Kept.step hm ?_ h0; clear h0 hm
  unfold State.bcnCfg
  repeat' first
    | with_reducible exact Kept.refl _ _
    | with_reducible assumption
    | with_reducible apply State.upBcn_k
    | with_reducible apply State.wr_k
    | (extract_lets +onlyGivenNames x; first
        | (with_reducible refine Kept.cut (x := x) ?_ ?_; (on_goal 2 => (clear_value x; intro hx)); (on_goal 1 => (unfold x; clear x)))
        | clear_value x
        | (unfold x; clear x))
    | exact rfl
    | split

theorem State.bcnRate_k {m : Nat} {s0 : State} (corr : Int) (s : State) (hm : 0x100000000 &&& m = 0x100000000)
    (h0 : Kept m s0 s) : Kept m s0 (State.bcnRate corr s) := by
  refine Kept.step hm ?_ h0; clear h0 hm
  unfold State.bcnRate
  repeat' first
    | with_reducible exact Kept.refl _ _
    | with_reducible assumption
    | with_reducible apply State.upBcn_k
    | exact rfl

theorem State.bcnAdj_k {m : Nat} {s0 : State} (ns : Int) (s : State) (hm : 0x2011013C000008 &&& m =
    0x2011013C000008) (h0 : Kept m s0 s) : Kept m s0 (State.bcnAdj ns s) := by
  refine Kept.step hm ?_ h0; clear h0 hm
  unfold State.bcnAdj
  repeat' first
    | with_reducible exact Kept.refl _ _
    | with_reducible apply State.upBcn_k
    | with_reducible apply State.stepUnits_k
    | exact rfl

theorem State.servoApply_k {m : Nat} {s0 : State} (o : Int) (log : Int) (freq : Option Int) (s : State) (hm :
    0x2010013C000008 &&& m = 0x2010013C000008) (h0 : Kept m s0 s) : Kept m s0 (State.servoApply o log freq s) := by
  refine Kept.step hm ?_ h0; clear h0 hm
  unfold State.servoApply
  repeat' first
    | with_reducible exact Kept.refl _ _
    | with_reducible assumption
    | with_reducible apply State.upBcn_k
    | with_reducible apply State.raise_k
    | with_reducible apply State.countBcn_k
    | (extract_lets +onlyGivenNames x; first
        | (with_reducible refine Kept.cut (x := x) ?_ ?_; (on_goal 2 => (clear_value x; intro hx)); (on_goal 1 => (unfold x; clear x)))
        | clear_value x
        | (unfold x; clear x))
    | exact rfl
    | split

theorem State.servoJudge_k {m : Nat} {s0 : State} (o : Int) (log : Int) (freq : Option Int) (s : State) (hm :
    0x2010013C000008 &&& m = 0x2010013C000008) (h0 : Kept m s0 s) : Kept m s0 (State.servoJudge o log freq s) := by
  refine Kept.step hm ?_ h0; clear h0 hm
  unfold State.servoJudge
  repeat' first
    | with_reducible exact Kept.refl _ _
    | with_reducible assumption
    | with_reducible apply State.upBcn_k
    | with_reducible apply State.servoApply_k
    | with_reducible apply State.wr_k
    | with_reducible apply State.raise_k
    | with_reducible apply State.countBcn_k
    | (extract_lets +onlyGivenNames x; first
        | (with_reducible refine Kept.cut (x := x) ?_ ?_; (on_goal 2 => (clear_value x; intro hx)); (on_goal 1 => (unfold x; clear x)))
        | clear_value x
        | (unfold x; clear x))
    | exact rfl
    | split

theorem State.firstLock_k {m : Nat} {s0 : State} (o : Int) (pps : Option Nat) (s : State) (hm : 0x2011013C000008
    &&& m = 0x2011013C000008) (h0 : Kept m s0 s) : Kept m s0 (State.firstLock o pps s) := by
  refine Kept.step hm ?_ h0; clear h0 hm
  unfold State.firstLock
  repeat' first
    | with_reducible exact Kept.refl _ _
    | with_reducible assumption
    | with_reducible apply State.upBcn_k
    | with_reducible apply State.raise_k
    | with_reducible apply State.stepUnits_k
    | exact rfl
    | split

theorem State.measure_k {m : Nat} {s0 : State} (o : Int) (log : Int) (pps : Option Nat) (freq : Option Int) (s :
    State) (hm : 0x2011013C000008 &&& m = 0x2011013C000008) (h0 : Kept m s0 s) : Kept m s0 (State.measure o log pps
    freq s) := by
  refine Kept.step hm ?_ h0; clear h0 hm
  unfold State.measure
  repeat' first
    | with_reducible exact Kept.refl _ _
    | with_reducible assumption
    | with_reducible apply State.upBcn_k
    | with_reducible apply State.servoJudge_k
    | with_reducible apply State.wr_k
    | with_reducible apply State.firstLock_k
    | (extract_lets +onlyGivenNames x; first
        | (with_reducible refine Kept.cut (x := x) ?_ ?_; (on_goal 2 => (clear_value x; intro hx)); (on_goal 1 => (unfold x; clear x)))
        | clear_value x
        | (unfold x; clear x))
    | exact rfl
    | split

theorem State.sourceLost_k {m : Nat} {s0 : State} (s : State) (hm : 0x2010013C000008 &&& m = 0x2010013C000008)
    (h0 : Kept m s0 s) : Kept m s0 (State.sourceLost s) := by
  refine Kept.step hm ?_ h0; clear h0 hm
  unfold State.sourceLost
  repeat' first
    | with_reducible exact Kept.refl _ _
    | with_reducible apply State.upBcn_k
    | with_reducible apply State.raise_k
    | with_reducible apply State.countBcn_k
    | exact rfl
    | split

theorem State.holdoffEnd_k {m : Nat} {s0 : State} (p : Nat) (s : State) (hm : 0x200000000 &&& m = 0x200000000)
    (h0 : Kept m s0 s) : Kept m s0 (State.holdoffEnd p s) := by
  refine Kept.step hm ?_ h0; clear h0 hm
  unfold State.holdoffEnd
  repeat' first
    | with_reducible exact Kept.refl _ _
    | with_reducible apply State.upBport_k
    | exact rfl

theorem State.holdTick_k {m : Nat} {s0 : State} (p : Nat) (s : State) (hm : 0x200000000 &&& m = 0x200000000) (h0
    : Kept m s0 s) : Kept m s0 (State.holdTick p s) := by
  refine Kept.step hm ?_ h0; clear h0 hm
  unfold State.holdTick
  repeat' first
    | with_reducible exact Kept.refl _ _
    | with_reducible assumption
    | with_reducible apply State.setBport_k
    | with_reducible apply State.holdoffEnd_k
    | (extract_lets +onlyGivenNames x; first
        | (with_reducible refine Kept.cut (x := x) ?_ ?_; (on_goal 2 => (clear_value x; intro hx)); (on_goal 1 => (unfold x; clear x)))
        | clear_value x
        | (unfold x; clear x))
    | exact rfl
    | split

theorem State.syncMeasure_k {m : Nat} {s0 : State} (p : Nat) (t2 : Nat) (t1 : Int) (c : Int) (log : Int) (s :
    State) (hm : 0x2011013C000008 &&& m = 0x2011013C000008) (h0 : Kept m s0 s) : Kept m s0 (State.syncMeasure p t2
    t1 c log s) := by
  refine Kept.step hm ?_ h0; clear h0 hm
  unfold State.syncMeasure
  repeat' first
    | with_reducible exact Kept.refl _ _
    | with_reducible assumption
    | with_reducible apply State.wr_k
    | with_reducible apply State.measure_k
    | (extract_lets +onlyGivenNames x; first
        | (with_reducible refine Kept.cut (x := x) ?_ ?_; (on_goal 2 => (clear_value x; intro hx)); (on_goal 1 => (unfold x; clear x)))
        | clear_value x
        | (unfold x; clear x))
    | exact rfl
    | split

theorem State.ptpSync_k {m : Nat} {s0 : State} (p : Nat) (domain : Nat) (seq : Nat) (twoStep : Bool) (origin :
    Nat) (correction : Int) (log : Int) (age : Nat) (s : State) (hm : 0x2011033C000008 &&& m = 0x2011033C000008) (h0
    : Kept m s0 s) : Kept m s0 (State.ptpSync p domain seq twoStep origin correction log age s) := by
  refine Kept.step hm ?_ h0; clear h0 hm
  unfold State.ptpSync
  repeat' first
    | with_reducible exact Kept.refl _ _
    | with_reducible assumption
    | with_reducible apply State.upBport_k
    | with_reducible apply State.syncMeasure_k
    | (extract_lets +onlyGivenNames x; first
        | (with_reducible refine Kept.cut (x := x) ?_ ?_; (on_goal 2 => (clear_value x; intro hx)); (on_goal 1 => (unfold x; clear x)))
        | clear_value x
        | (unfold x; clear x))
    | exact rfl
    | split

theorem State.ptpFollowUp_k {m : Nat} {s0 : State} (p : Nat) (domain : Nat) (seq : Nat) (origin : Nat)
    (correction : Int) (tlv : List Byte) (s : State) (hm : 0x2011033C000008 &&& m = 0x2011033C000008) (h0 : Kept m
    s0 s) : Kept m s0 (State.ptpFollowUp p domain seq origin correction tlv s) := by
  refine Kept.step hm ?_ h0; clear h0 hm
  unfold State.ptpFollowUp
  repeat' first
    | with_reducible exact Kept.refl _ _
    | with_reducible assumption
    | with_reducible apply State.upBcn_k
    | with_reducible apply State.upBport_k
    | with_reducible apply State.syncMeasure_k
    | (extract_lets +onlyGivenNames x; first
        | (with_reducible refine Kept.cut (x := x) ?_ ?_; (on_goal 2 => (clear_value x; intro hx)); (on_goal 1 => (unfold x; clear x)))
        | clear_value x
        | (unfold x; clear x))
    | exact rfl
    | split

theorem State.pathDelay_k {m : Nat} {s0 : State} (p : Nat) (a1 : Nat) (s : State) (hm : 0x2010033C000008 &&& m =
    0x2010033C000008) (h0 : Kept m s0 s) : Kept m s0 (State.pathDelay p a1 s) := by
  refine Kept.step hm ?_ h0; clear h0 hm
  unfold State.pathDelay
  dsimp only
  repeat' first
    | with_reducible exact Kept.refl _ _
    | with_reducible assumption
    | with_reducible apply State.setBport_k
    | with_reducible apply State.upBcn_k
    | with_reducible apply State.raise_k
    | with_reducible apply State.countBcn_k
    | exact rfl
    | split

theorem State.pdelayResp_k {m : Nat} {s0 : State} (p : Nat) (domain : Nat) (a2 : Nat) (s : State) (hm :
    0x2010033C000008 &&& m = 0x2010033C000008) (h0 : Kept m s0 s) : Kept m s0 (State.pdelayResp p domain a2 s) := by
  refine Kept.step hm ?_ h0; clear h0 hm
  unfold State.pdelayResp
  repeat' first
    | with_reducible exact Kept.refl _ _
    | with_reducible apply State.pathDelay_k
    | exact rfl
    | split

theorem State.delayResp_k {m : Nat} {s0 : State} (p : Nat) (domain : Nat) (a2 : Nat) (s : State) (hm :
    0x2010033C000008 &&& m = 0x2010033C000008) (h0 : Kept m s0 s) : Kept m s0 (State.delayResp p domain a2 s) := by
  refine Kept.step hm ?_ h0; clear h0 hm
  unfold State.delayResp
  repeat' first
    | with_reducible exact Kept.refl _ _
    | with_reducible apply State.pathDelay_k
    | exact rfl
    | split

theorem State.ptpQueue_k {m : Nat} {s0 : State} (p : Nat) (octets : List Byte) (s : State) (hm :
    0x2010123C001988 &&& m = 0x2010123C001988) (h0 : Kept m s0 s) : Kept m s0 (State.ptpQueue p octets s) := by
  refine Kept.step hm ?_ h0; clear h0 hm
  unfold State.ptpQueue
  repeat' first
    | with_reducible exact Kept.refl _ _
    | with_reducible assumption
    | with_reducible apply State.upPort_k
    | with_reducible apply State.advanceCredit_k
    | with_reducible apply State.checkPtp_k
    | (extract_lets +onlyGivenNames x; first
        | (with_reducible refine Kept.cut (x := x) ?_ ?_; (on_goal 2 => (clear_value x; intro hx)); (on_goal 1 => (unfold x; clear x)))
        | clear_value x
        | (unfold x; clear x))
    | exact rfl
    | split

theorem State.syncTx_k {m : Nat} {s0 : State} (p : Nat) (s : State) (hm : 0x2010123C001988 &&& m =
    0x2010123C001988) (h0 : Kept m s0 s) : Kept m s0 (State.syncTx p s) := by
  refine Kept.step hm ?_ h0; clear h0 hm
  unfold State.syncTx
  repeat' first
    | with_reducible exact Kept.refl _ _
    | with_reducible assumption
    | with_reducible apply State.upPort_k
    | with_reducible apply State.ptpQueue_k
    | (extract_lets +onlyGivenNames x; first
        | (with_reducible refine Kept.cut (x := x) ?_ ?_; (on_goal 2 => (clear_value x; intro hx)); (on_goal 1 => (unfold x; clear x)))
        | clear_value x
        | (unfold x; clear x))
    | exact rfl
    | split

theorem State.delayReqTx_k {m : Nat} {s0 : State} (p : Nat) (s : State) (hm : 0x2010123C001988 &&& m =
    0x2010123C001988) (h0 : Kept m s0 s) : Kept m s0 (State.delayReqTx p s) := by
  refine Kept.step hm ?_ h0; clear h0 hm
  unfold State.delayReqTx
  repeat' first
    | with_reducible exact Kept.refl _ _
    | with_reducible assumption
    | with_reducible apply State.upPort_k
    | with_reducible apply State.ptpQueue_k
    | (extract_lets +onlyGivenNames x; first
        | (with_reducible refine Kept.cut (x := x) ?_ ?_; (on_goal 2 => (clear_value x; intro hx)); (on_goal 1 => (unfold x; clear x)))
        | clear_value x
        | (unfold x; clear x))
    | exact rfl
    | split

theorem State.pdelayReq_k {m : Nat} {s0 : State} (p : Nat) (domain : Nat) (seq : Nat) (correction : Int) (age :
    Nat) (who : List Byte) (s : State) (hm : 0x2010123C001988 &&& m = 0x2010123C001988) (h0 : Kept m s0 s) : Kept m
    s0 (State.pdelayReq p domain seq correction age who s) := by
  refine Kept.step hm ?_ h0; clear h0 hm
  unfold State.pdelayReq
  repeat' first
    | with_reducible exact Kept.refl _ _
    | with_reducible assumption
    | with_reducible apply State.ptpQueue_k
    | (extract_lets +onlyGivenNames x; first
        | (with_reducible refine Kept.cut (x := x) ?_ ?_; (on_goal 2 => (clear_value x; intro hx)); (on_goal 1 => (unfold x; clear x)))
        | clear_value x
        | (unfold x; clear x))
    | exact rfl
    | split

theorem State.delayReq_k {m : Nat} {s0 : State} (p : Nat) (domain : Nat) (seq : Nat) (correction : Int) (age :
    Nat) (who : List Byte) (s : State) (hm : 0x2010123C001988 &&& m = 0x2010123C001988) (h0 : Kept m s0 s) : Kept m
    s0 (State.delayReq p domain seq correction age who s) := by
  refine Kept.step hm ?_ h0; clear h0 hm
  unfold State.delayReq
  repeat' first
    | with_reducible exact Kept.refl _ _
    | with_reducible assumption
    | with_reducible apply State.ptpQueue_k
    | (extract_lets +onlyGivenNames x; first
        | (with_reducible refine Kept.cut (x := x) ?_ ?_; (on_goal 2 => (clear_value x; intro hx)); (on_goal 1 => (unfold x; clear x)))
        | clear_value x
        | (unfold x; clear x))
    | exact rfl
    | split

theorem State.ptpSent_k {m : Nat} {s0 : State} (p : Nat) (l : List Byte) (ns : Nat) (s : State) (hm :
    0x2010123C001988 &&& m = 0x2010123C001988) (h0 : Kept m s0 s) : Kept m s0 (State.ptpSent p l ns s) := by
  refine Kept.step hm ?_ h0; clear h0 hm
  unfold State.ptpSent
  repeat' first
    | with_reducible exact Kept.refl _ _
    | with_reducible assumption
    | with_reducible apply State.ptpQueue_k
    | (extract_lets +onlyGivenNames x; first
        | (with_reducible refine Kept.cut (x := x) ?_ ?_; (on_goal 2 => (clear_value x; intro hx)); (on_goal 1 => (unfold x; clear x)))
        | clear_value x
        | (unfold x; clear x))
    | exact rfl
    | split

theorem State.latchWords_k {m : Nat} {s0 : State} (link : Nat) (a1 : Nat) (a2 : List Nat) (a3 : State) (hm :
    0x20 &&& m = 0x20) (h0 : Kept m s0 a3) : Kept m s0 (State.latchWords link a1 a2 a3) := by
  fun_induction State.latchWords link a1 a2 a3
  repeat' first
    | with_reducible exact Kept.refl _ _
    | with_reducible assumption
    | (rename_i ih; with_reducible apply ih)
    | exact sub_trans rfl hm
    | split
    | with_reducible apply Kept.set_latch
    | exact fun hw => Tbl.wf_set _ _ _ _ hw

theorem State.tsqRead_k {m : Nat} {s0 : State} (link : Nat) (p : Nat) (s : State) (hm : 0x200000020 &&& m =
    0x200000020) (h0 : Kept m s0 s) : Kept m s0 (State.tsqRead link p s) := by
  refine Kept.step hm ?_ h0; clear h0 hm
  unfold State.tsqRead
  repeat' first
    | with_reducible exact Kept.refl _ _
    | with_reducible assumption
    | with_reducible apply State.latchWords_k
    | with_reducible apply State.upBport_k
    | (extract_lets +onlyGivenNames x; first
        | (with_reducible refine Kept.cut (x := x) ?_ ?_; (on_goal 2 => (clear_value x; intro hx)); (on_goal 1 => (unfold x; clear x)))
        | clear_value x
        | (unfold x; clear x))
    | exact rfl
    | split

theorem State.ppsEdge_k {m : Nat} {s0 : State} (rising : Bool) (age : Nat) (freq : Int) (s : State) (hm :
    0x2011013C000008 &&& m = 0x2011013C000008) (h0 : Kept m s0 s) : Kept m s0 (State.ppsEdge rising age freq s) :=
    by
  refine Kept.step hm ?_ h0; clear h0 hm
  unfold State.ppsEdge
  repeat' first
    | with_reducible exact Kept.refl _ _
    | with_reducible assumption
    | with_reducible apply State.upBcn_k
    | with_reducible apply State.measure_k
    | (extract_lets +onlyGivenNames x; first
        | (with_reducible refine Kept.cut (x := x) ?_ ?_; (on_goal 2 => (clear_value x; intro hx)); (on_goal 1 => (unfold x; clear x)))
        | clear_value x
        | (unfold x; clear x))
    | exact rfl
    | split

theorem State.ppsMissing_k {m : Nat} {s0 : State} (s : State) (hm : 0x100000008 &&& m = 0x100000008) (h0 : Kept
    m s0 s) : Kept m s0 (State.ppsMissing s) := by
  refine Kept.step hm ?_ h0; clear h0 hm
  unfold State.ppsMissing
  repeat' first
    | with_reducible exact Kept.refl _ _
    | with_reducible apply State.upBcn_k
    | with_reducible apply State.countBcn_k
    | exact rfl
    | split

theorem State.holdTicks_k {m : Nat} {s0 : State} (s : State) (hm : 0x200000000 &&& m = 0x200000000) (h0 : Kept m
    s0 s) : Kept m s0 (State.holdTicks s) := by
  refine Kept.step hm ?_ h0; clear h0 hm
  unfold State.holdTicks
  repeat' first
    | with_reducible exact Kept.refl _ _
    | with_reducible apply Kept.each
    | with_reducible apply State.holdTick_k
    | exact rfl
    | (intro _ _)

theorem State.tick_k {m : Nat} {s0 : State} (s : State) (hm : 0x20035703000008 &&& m = 0x20035703000008) (h0 :
    Kept m s0 s) : Kept m s0 (State.tick s) := by
  refine Kept.step hm ?_ h0; clear h0 hm
  unfold State.tick
  repeat' first
    | with_reducible exact Kept.refl _ _
    | with_reducible assumption
    | with_reducible apply State.upBcn_k
    | with_reducible apply State.syncOut_k
    | with_reducible apply State.recessiveCount_k
    | with_reducible apply State.ppsMissing_k
    | with_reducible apply State.holdTicks_k
    | with_reducible apply State.ppsFall_k
    | with_reducible apply State.gridCheck_k
    | (extract_lets +onlyGivenNames x; first
        | (with_reducible refine Kept.cut (x := x) ?_ ?_; (on_goal 2 => (clear_value x; intro hx)); (on_goal 1 => (unfold x; clear x)))
        | clear_value x
        | (unfold x; clear x))
    | exact rfl
    | split

end Sys2Proof.Machine
end

