-- ==== Sys2Proof/Laws/FrameEth.lean ====
section
/-! SUPPORT. Frames of Machine/Eth.lean: the fields each function may change. -/
namespace Sys2Proof.Machine
open Sys2Proof

theorem State.pauseReceived_k {m : Nat} {s0 : State} (p : Nat) (quanta : Nat) (s : State) (hm : 0x1000000008 &&&
    m = 0x1000000008) (h0 : Kept m s0 s) : Kept m s0 (State.pauseReceived p quanta s) := by
  refine Kept.step hm ?_ h0; clear h0 hm
  unfold State.pauseReceived
  repeat' first
    | with_reducible exact Kept.refl _ _
    | with_reducible assumption
    | with_reducible apply State.upPort_k
    | with_reducible apply State.countMac_k
    | with_reducible apply State.advanceCredit_k
    | with_reducible apply Kept.foldl
    | (intro _ _ _)
    | exact rfl
    | split

theorem State.pfcReceived_k {m : Nat} {s0 : State} (p : Nat) (vector : Nat) (times : List Nat) (s : State) (hm :
    0x1000000008 &&& m = 0x1000000008) (h0 : Kept m s0 s) : Kept m s0 (State.pfcReceived p vector times s) := by
  refine Kept.step hm ?_ h0; clear h0 hm
  unfold State.pfcReceived
  repeat' first
    | with_reducible exact Kept.refl _ _
    | with_reducible assumption
    | with_reducible apply State.upPort_k
    | with_reducible apply State.countMac_k
    | with_reducible apply State.advanceCredit_k
    | with_reducible apply Kept.foldl
    | (intro _ _ _)
    | exact rfl
    | split

theorem State.macControl_k {m : Nat} {s0 : State} (p : Nat) (b : List Byte) (s : State) (hm : 0x1000000008 &&& m
    = 0x1000000008) (h0 : Kept m s0 s) : Kept m s0 (State.macControl p b s) := by
  refine Kept.step hm ?_ h0; clear h0 hm
  unfold State.macControl
  repeat' first
    | with_reducible exact Kept.refl _ _
    | with_reducible apply State.pfcReceived_k
    | with_reducible apply State.countMac_k
    | with_reducible apply State.pauseReceived_k
    | exact rfl
    | split

theorem State.suspendTx_k {m : Nat} {s0 : State} (p : Nat) (s : State) (hm : 0x1000000008 &&& m = 0x1000000008)
    (h0 : Kept m s0 s) : Kept m s0 (State.suspendTx p s) := by
  refine Kept.step hm ?_ h0; clear h0 hm
  unfold State.suspendTx
  repeat' first
    | with_reducible exact Kept.refl _ _
    | with_reducible assumption
    | with_reducible apply State.setPort_k
    | with_reducible apply State.countMac_k
    | (extract_lets +onlyGivenNames x; first
        | (with_reducible refine Kept.cut (x := x) ?_ ?_; (on_goal 2 => (clear_value x; intro hx)); (on_goal 1 => (unfold x; clear x)))
        | clear_value x
        | (unfold x; clear x))
    | exact rfl
    | split

theorem State.pauseEffect_k {m : Nat} {s0 : State} (p : Nat) (s : State) (hm : 0x1000000008 &&& m =
    0x1000000008) (h0 : Kept m s0 s) : Kept m s0 (State.pauseEffect p s) := by
  refine Kept.step hm ?_ h0; clear h0 hm
  unfold State.pauseEffect
  repeat' first
    | with_reducible exact Kept.refl _ _
    | with_reducible assumption
    | with_reducible apply State.suspendTx_k
    | with_reducible apply State.upPort_k
    | with_reducible apply State.advanceCredit_k
    | (extract_lets +onlyGivenNames x; first
        | (with_reducible refine Kept.cut (x := x) ?_ ?_; (on_goal 2 => (clear_value x; intro hx)); (on_goal 1 => (unfold x; clear x)))
        | clear_value x
        | (unfold x; clear x))
    | exact rfl
    | split

theorem State.pauseExpiry_k {m : Nat} {s0 : State} (p : Nat) (t : Nat) (s : State) (hm : 0x1000000000 &&& m =
    0x1000000000) (h0 : Kept m s0 s) : Kept m s0 (State.pauseExpiry p t s) := by
  refine Kept.step hm ?_ h0; clear h0 hm
  unfold State.pauseExpiry
  repeat' first
    | with_reducible exact Kept.refl _ _
    | with_reducible apply State.upPort_k
    | with_reducible apply State.advanceCredit_k
    | exact rfl

theorem State.pauseRepeat_k {m : Nat} {s0 : State} (p : Nat) (s : State) (hm : 0x1000000000 &&& m =
    0x1000000000) (h0 : Kept m s0 s) : Kept m s0 (State.pauseRepeat p s) := by
  refine Kept.step hm ?_ h0; clear h0 hm
  unfold State.pauseRepeat
  repeat' first
    | with_reducible exact Kept.refl _ _
    | with_reducible assumption
    | with_reducible apply State.setPort_k
    | (extract_lets +onlyGivenNames x; first
        | (with_reducible refine Kept.cut (x := x) ?_ ?_; (on_goal 2 => (clear_value x; intro hx)); (on_goal 1 => (unfold x; clear x)))
        | clear_value x
        | (unfold x; clear x))
    | exact rfl
    | split

theorem State.setMeter_k {m : Nat} {s0 : State} (p : Nat) (i : Nat) (a2 : Meter) (s : State) (hm : 0x1000000000
    &&& m = 0x1000000000) (h0 : Kept m s0 s) : Kept m s0 (State.setMeter p i a2 s) := by
  refine Kept.step hm ?_ h0; clear h0 hm
  unfold State.setMeter
  repeat' first
    | with_reducible exact Kept.refl _ _
    | with_reducible apply State.upPort_k
    | exact rfl

theorem State.fillMeter_k {m : Nat} {s0 : State} (p : Nat) (i : Nat) (s : State) (hm : 0x1000000000 &&& m =
    0x1000000000) (h0 : Kept m s0 s) : Kept m s0 (State.fillMeter p i s) := by
  refine Kept.step hm ?_ h0; clear h0 hm
  unfold State.fillMeter
  repeat' first
    | with_reducible exact Kept.refl _ _
    | with_reducible assumption
    | with_reducible apply State.setMeter_k
    | (with_reducible refine KeptP.get (by assumption) ?_)
    | (with_reducible refine KeptT.get (by assumption) ?_)
    | exact rfl

theorem State.meterDrop_k {m : Nat} {s0 : State} (p : Nat) (i : Nat) (k : Nat) (s : State) (hm :
    0x2010103C000008 &&& m = 0x2010103C000008) (h0 : Kept m s0 s) : Kept m s0 (State.meterDrop p i k s) := by
  refine Kept.step hm ?_ h0; clear h0 hm
  unfold State.meterDrop
  repeat' first
    | with_reducible exact Kept.refl _ _
    | with_reducible assumption
    | with_reducible apply State.countMac_k
    | with_reducible apply State.raise_k
    | with_reducible apply State.setMeter_k
    | (extract_lets +onlyGivenNames x; first
        | (with_reducible refine Kept.cut (x := x) ?_ ?_; (on_goal 2 => (clear_value x; intro hx)); (on_goal 1 => (unfold x; clear x)))
        | clear_value x
        | (unfold x; clear x))
    | exact rfl
    | split

theorem State.meter_k {m : Nat} {s0 : State} (p : Nat) (len : Nat) (partner : Nat) (s : State) (hm :
    0x2010103C000008 &&& m = 0x2010103C000008) (h0 : Kept m s0 s) : KeptP m s0 (State.meter p len partner s) := by
  refine KeptP.step hm ?_ h0; clear h0 hm
  unfold State.meter
  repeat' first
    | with_reducible exact Kept.refl _ _
    | with_reducible assumption
    | with_reducible apply State.meterDrop_k
    | with_reducible apply State.setMeter_k
    | (extract_lets +onlyGivenNames x; first
        | (with_reducible refine Kept.cut (x := x) ?_ ?_; (on_goal 2 => (clear_value x; intro hx)); (on_goal 1 => (unfold x; clear x)))
        | (with_reducible refine KeptP.cut (x := x) ?_ ?_; (on_goal 2 => (clear_value x; intro hx)); (on_goal 1 => (unfold x; clear x)))
        | clear_value x
        | (unfold x; clear x))
    | (with_reducible refine KeptP.get (by assumption) ?_)
    | (with_reducible refine KeptT.get (by assumption) ?_)
    | exact rfl
    | split
    | with_reducible apply KeptP.mk

theorem State.ethReceived_k {m : Nat} {s0 : State} (picks : List Nat) (p : Nat) (phyErr : Bool) (smdErr : Bool)
    (fcsErr : Bool) (frags : Nat) (age : Nat) (b : List Byte) (s : State) (hm : 0x6056147E0169C8 &&& m =
    0x6056147E0169C8) (h0 : Kept m s0 s) : Kept m s0 (State.ethReceived picks p phyErr smdErr fcsErr frags age b s)
    := by
  refine Kept.step hm ?_ h0; clear h0 hm
  unfold State.ethReceived
  repeat' first
    | with_reducible exact Kept.refl _ _
    | with_reducible assumption
    | with_reducible apply State.lineFrame_k
    | with_reducible apply State.countMac_k
    | with_reducible apply State.macControl_k
    | with_reducible apply State.meter_k
    | (extract_lets +onlyGivenNames x; first
        | (with_reducible refine Kept.cut (x := x) ?_ ?_; (on_goal 2 => (clear_value x; intro hx)); (on_goal 1 => (unfold x; clear x)))
        | (with_reducible refine Kept.cutP (x := x) ?_ ?_; (on_goal 2 => (clear_value x; intro hx)); (on_goal 1 => (unfold x; clear x)))
        | clear_value x
        | (unfold x; clear x))
    | (with_reducible refine KeptP.get (by assumption) ?_)
    | exact rfl
    | (intro _ _ _)
    | split
    | with_reducible apply KeptP.mk
    | with_reducible apply KeptP.snd

theorem State.noteLaunchLate_k {m : Nat} {s0 : State} (p : Nat) (k : Nat) (s : State) (hm : 0x2010103C000008 &&&
    m = 0x2010103C000008) (h0 : Kept m s0 s) : Kept m s0 (State.noteLaunchLate p k s) := by
  refine Kept.step hm ?_ h0; clear h0 hm
  unfold State.noteLaunchLate
  repeat' first
    | with_reducible exact Kept.refl _ _
    | with_reducible assumption
    | with_reducible apply State.setPort_k
    | with_reducible apply State.countMac_k
    | with_reducible apply State.raise_k
    | (extract_lets +onlyGivenNames x; first
        | (with_reducible refine Kept.cut (x := x) ?_ ?_; (on_goal 2 => (clear_value x; intro hx)); (on_goal 1 => (unfold x; clear x)))
        | clear_value x
        | (unfold x; clear x))
    | exact rfl
    | split

theorem State.dropLate_k {m : Nat} {s0 : State} (p : Nat) (s : State) (hm : 0x2010123C001988 &&& m =
    0x2010123C001988) (h0 : Kept m s0 s) : Kept m s0 (State.dropLate p s) := by
  refine Kept.step hm ?_ h0; clear h0 hm
  unfold State.dropLate
  repeat' first
    | with_reducible exact Kept.refl _ _
    | with_reducible assumption
    | with_reducible apply State.upPort_k
    | with_reducible apply Kept.each
    | with_reducible apply State.entryGone_k
    | with_reducible apply State.noteLaunchLate_k
    | (extract_lets +onlyGivenNames x; first
        | (with_reducible refine Kept.cut (x := x) ?_ ?_; (on_goal 2 => (clear_value x; intro hx)); (on_goal 1 => (unfold x; clear x)))
        | clear_value x
        | (unfold x; clear x))
    | exact rfl
    | (intro _ _)
    | split

theorem State.entryUe_k {m : Nat} {s0 : State} (p : Nat) (ue : Nat) (e : EthEntry) (s : State) (hm :
    0x2010123C001988 &&& m = 0x2010123C001988) (h0 : Kept m s0 s) : Kept m s0 (State.entryUe p ue e s) := by
  refine Kept.step hm ?_ h0; clear h0 hm
  unfold State.entryUe
  repeat' first
    | with_reducible exact Kept.refl _ _
    | with_reducible apply State.memUe_k
    | with_reducible apply State.entryGone_k
    | exact rfl

theorem State.countAcf_k {m : Nat} {s0 : State} (e : EthEntry) (s : State) (hm : 0x8 &&& m = 0x8) (h0 : Kept m
    s0 s) : Kept m s0 (State.countAcf e s) := by
  refine Kept.step hm ?_ h0; clear h0 hm
  unfold State.countAcf
  repeat' first
    | with_reducible exact Kept.refl _ _
    | with_reducible apply State.countGw_k
    | exact rfl
    | split

theorem State.startPick_k {m : Nat} {s0 : State} (p : Nat) (ecc : RecEcc) (k : Pick) (s : State) (hm :
    0x2010123C001988 &&& m = 0x2010123C001988) (h0 : Kept m s0 s) : Kept m s0 (State.startPick p ecc k s) := by
  refine Kept.step hm ?_ h0; clear h0 hm
  unfold State.startPick
  repeat' first
    | with_reducible exact Kept.refl _ _
    | with_reducible assumption
    | with_reducible apply State.upPort_k
    | with_reducible apply State.countAcf_k
    | with_reducible apply State.checkHead_k
    | with_reducible apply State.entryUe_k
    | with_reducible apply State.noteLaunchLate_k
    | with_reducible apply State.noteCe_k
    | (extract_lets +onlyGivenNames x; first
        | (with_reducible refine Kept.cut (x := x) ?_ ?_; (on_goal 2 => (clear_value x; intro hx)); (on_goal 1 => (unfold x; clear x)))
        | clear_value x
        | (unfold x; clear x))
    | with_reducible apply Kept.foldl
    | (intro _ _ _)
    | exact rfl
    | split

theorem State.frameStart_k {m : Nat} {s0 : State} (p : Nat) (ecc : RecEcc) (s : State) (hm : 0x2010123C001988
    &&& m = 0x2010123C001988) (h0 : Kept m s0 s) : Kept m s0 (State.frameStart p ecc s) := by
  refine Kept.step hm ?_ h0; clear h0 hm
  unfold State.frameStart
  repeat' first
    | with_reducible exact Kept.refl _ _
    | with_reducible assumption
    | with_reducible apply State.suspendTx_k
    | with_reducible apply State.dropLate_k
    | with_reducible apply State.advanceCredit_k
    | with_reducible apply State.startPick_k
    | (extract_lets +onlyGivenNames x; first
        | (with_reducible refine Kept.cut (x := x) ?_ ?_; (on_goal 2 => (clear_value x; intro hx)); (on_goal 1 => (unfold x; clear x)))
        | clear_value x
        | (unfold x; clear x))
    | exact rfl
    | split

theorem State.launchDue_k {m : Nat} {s0 : State} (p : Nat) (ecc : RecEcc) (s : State) (hm : 0x2010123C001988 &&&
    m = 0x2010123C001988) (h0 : Kept m s0 s) : Kept m s0 (State.launchDue p ecc s) := by
  refine Kept.step hm ?_ h0; clear h0 hm
  unfold State.launchDue
  repeat' first
    | with_reducible exact Kept.refl _ _
    | with_reducible assumption
    | with_reducible apply State.suspendTx_k
    | with_reducible apply State.dropLate_k
    | with_reducible apply State.advanceCredit_k
    | with_reducible apply State.startPick_k
    | (extract_lets +onlyGivenNames x; first
        | (with_reducible refine Kept.cut (x := x) ?_ ?_; (on_goal 2 => (clear_value x; intro hx)); (on_goal 1 => (unfold x; clear x)))
        | clear_value x
        | (unfold x; clear x))
    | exact rfl
    | split

theorem State.raiseTxStart_k {m : Nat} {s0 : State} (p : Nat) (s : State) (hm : 0x8 &&& m = 0x8) (h0 : Kept m s0
    s) : Kept m s0 (State.raiseTxStart p s) := by
  refine Kept.step hm ?_ h0; clear h0 hm
  unfold State.raiseTxStart
  repeat' first
    | with_reducible exact Kept.refl _ _
    | with_reducible apply State.setf_k
    | exact rfl

theorem State.countSent_k {m : Nat} {s0 : State} (p : Nat) (y : EthTx) (underrun : Bool) (s : State) (hm :
    0x2010003C000008 &&& m = 0x2010003C000008) (h0 : Kept m s0 s) : Kept m s0 (State.countSent p y underrun s) := by
  refine Kept.step hm ?_ h0; clear h0 hm
  unfold State.countSent
  repeat' first
    | with_reducible exact Kept.refl _ _
    | with_reducible assumption
    | with_reducible apply State.countMac_k
    | with_reducible apply State.raise_k
    | with_reducible apply State.raiseTxStart_k
    | (extract_lets +onlyGivenNames x; first
        | (with_reducible refine Kept.cut (x := x) ?_ ?_; (on_goal 2 => (clear_value x; intro hx)); (on_goal 1 => (unfold x; clear x)))
        | clear_value x
        | (unfold x; clear x))
    | exact rfl
    | split

theorem State.afterSent_k {m : Nat} {s0 : State} (p : Nat) (age : Nat) (y : EthTx) (underrun : Bool) (octets :
    List Byte) (s : State) (hm : 0x2010123C001988 &&& m = 0x2010123C001988) (h0 : Kept m s0 s) : Kept m s0
    (State.afterSent p age y underrun octets s) := by
  refine Kept.step hm ?_ h0; clear h0 hm
  unfold State.afterSent
  repeat' first
    | with_reducible exact Kept.refl _ _
    | with_reducible assumption
    | with_reducible apply State.dropRef_k
    | with_reducible apply State.ptpSent_k
    | with_reducible apply State.tsRecord_k
    | with_reducible apply State.emit_k
    | (extract_lets +onlyGivenNames x; first
        | (with_reducible refine Kept.cut (x := x) ?_ ?_; (on_goal 2 => (clear_value x; intro hx)); (on_goal 1 => (unfold x; clear x)))
        | clear_value x
        | (unfold x; clear x))
    | exact rfl
    | split

theorem State.frameSent_k {m : Nat} {s0 : State} (p : Nat) (age : Nat) (underrun : Bool) (s : State) (hm :
    0x2010123C001988 &&& m = 0x2010123C001988) (h0 : Kept m s0 s) : Kept m s0 (State.frameSent p age underrun s) :=
    by
  refine Kept.step hm ?_ h0; clear h0 hm
  unfold State.frameSent
  repeat' first
    | with_reducible exact Kept.refl _ _
    | with_reducible assumption
    | with_reducible apply State.afterSent_k
    | with_reducible apply State.upPort_k
    | with_reducible apply State.countMac_k
    | with_reducible apply State.advanceCredit_k
    | with_reducible apply State.countSent_k
    | with_reducible apply State.emit_k
    | (extract_lets +onlyGivenNames x; first
        | (with_reducible refine Kept.cut (x := x) ?_ ?_; (on_goal 2 => (clear_value x; intro hx)); (on_goal 1 => (unfold x; clear x)))
        | clear_value x
        | (unfold x; clear x))
    | exact rfl
    | split

theorem State.linkUp_k {m : Nat} {s0 : State} (p : Nat) (rcvr : Bool) (s : State) (hm : 0x2010123C000008 &&& m =
    0x2010123C000008) (h0 : Kept m s0 s) : Kept m s0 (State.linkUp p rcvr s) := by
  refine Kept.step hm ?_ h0; clear h0 hm
  unfold State.linkUp
  repeat' first
    | with_reducible exact Kept.refl _ _
    | with_reducible assumption
    | with_reducible apply State.upPort_k
    | with_reducible apply State.raise_k
    | with_reducible apply State.upBport_k
    | (extract_lets +onlyGivenNames x; first
        | (with_reducible refine Kept.cut (x := x) ?_ ?_; (on_goal 2 => (clear_value x; intro hx)); (on_goal 1 => (unfold x; clear x)))
        | clear_value x
        | (unfold x; clear x))
    | exact rfl
    | split

theorem State.portDiscard_k {m : Nat} {s0 : State} (p : Nat) (s : State) (hm : 0x2010123C001988 &&& m =
    0x2010123C001988) (h0 : Kept m s0 s) : Kept m s0 (State.portDiscard p s) := by
  refine Kept.step hm ?_ h0; clear h0 hm
  unfold State.portDiscard
  repeat' first
    | with_reducible exact Kept.refl _ _
    | with_reducible assumption
    | with_reducible apply State.setPort_k
    | with_reducible apply State.countMac_k
    | with_reducible apply Kept.each
    | with_reducible apply State.entryGone_k
    | with_reducible apply Kept.foldl
    | (intro _ _ _)
    | exact rfl
    | (intro _ _)

theorem State.linkDown_k {m : Nat} {s0 : State} (p : Nat) (s : State) (hm : 0x2010133C001988 &&& m =
    0x2010133C001988) (h0 : Kept m s0 s) : Kept m s0 (State.linkDown p s) := by
  refine Kept.step hm ?_ h0; clear h0 hm
  unfold State.linkDown
  repeat' first
    | with_reducible exact Kept.refl _ _
    | with_reducible assumption
    | with_reducible apply State.upPort_k
    | with_reducible apply State.countMac_k
    | with_reducible apply State.advanceCredit_k
    | with_reducible apply State.raise_k
    | with_reducible apply State.sourceLost_k
    | with_reducible apply State.upBport_k
    | with_reducible apply State.portDiscard_k
    | (extract_lets +onlyGivenNames x; first
        | (with_reducible refine Kept.cut (x := x) ?_ ?_; (on_goal 2 => (clear_value x; intro hx)); (on_goal 1 => (unfold x; clear x)))
        | clear_value x
        | (unfold x; clear x))
    | exact rfl
    | split

theorem State.verifyAttempt_k {m : Nat} {s0 : State} (p : Nat) (ok : Bool) (s : State) (hm : 0x2010103C000008
    &&& m = 0x2010103C000008) (h0 : Kept m s0 s) : Kept m s0 (State.verifyAttempt p ok s) := by
  refine Kept.step hm ?_ h0; clear h0 hm
  unfold State.verifyAttempt
  repeat' first
    | with_reducible exact Kept.refl _ _
    | with_reducible assumption
    | with_reducible apply State.setPort_k
    | with_reducible apply State.raise_k
    | (extract_lets +onlyGivenNames x; first
        | (with_reducible refine Kept.cut (x := x) ?_ ?_; (on_goal 2 => (clear_value x; intro hx)); (on_goal 1 => (unfold x; clear x)))
        | clear_value x
        | (unfold x; clear x))
    | exact rfl
    | split

theorem State.lpiEnter_k {m : Nat} {s0 : State} (p : Nat) (rx : Bool) (s : State) (hm : 0x1000000000 &&& m =
    0x1000000000) (h0 : Kept m s0 s) : Kept m s0 (State.lpiEnter p rx s) := by
  refine Kept.step hm ?_ h0; clear h0 hm
  unfold State.lpiEnter
  repeat' first
    | with_reducible exact Kept.refl _ _
    | with_reducible assumption
    | with_reducible apply State.setPort_k
    | (extract_lets +onlyGivenNames x; first
        | (with_reducible refine Kept.cut (x := x) ?_ ?_; (on_goal 2 => (clear_value x; intro hx)); (on_goal 1 => (unfold x; clear x)))
        | clear_value x
        | (unfold x; clear x))
    | exact rfl
    | split

theorem State.lpiExit_k {m : Nat} {s0 : State} (p : Nat) (rx : Bool) (s : State) (hm : 0x1000000000 &&& m =
    0x1000000000) (h0 : Kept m s0 s) : Kept m s0 (State.lpiExit p rx s) := by
  refine Kept.step hm ?_ h0; clear h0 hm
  unfold State.lpiExit
  repeat' first
    | with_reducible exact Kept.refl _ _
    | with_reducible assumption
    | with_reducible apply State.upPort_k
    | exact rfl

theorem State.gateCommit_k {m : Nat} {s0 : State} (p : Nat) (s : State) (hm : 0x1000000000 &&& m = 0x1000000000)
    (h0 : Kept m s0 s) : Kept m s0 (State.gateCommit p s) := by
  refine Kept.step hm ?_ h0; clear h0 hm
  unfold State.gateCommit
  repeat' first
    | with_reducible exact Kept.refl _ _
    | with_reducible assumption
    | with_reducible apply State.upPort_k
    | exact rfl

theorem State.gateSwitch_k {m : Nat} {s0 : State} (p : Nat) (s : State) (hm : 0x2010123C001988 &&& m =
    0x2010123C001988) (h0 : Kept m s0 s) : Kept m s0 (State.gateSwitch p s) := by
  refine Kept.step hm ?_ h0; clear h0 hm
  unfold State.gateSwitch
  repeat' first
    | with_reducible exact Kept.refl _ _
    | with_reducible assumption
    | with_reducible apply State.upPort_k
    | with_reducible apply Kept.each
    | with_reducible apply State.raise_k
    | with_reducible apply State.checkHead_k
    | with_reducible apply State.refreshGates_k
    | (extract_lets +onlyGivenNames x; first
        | (with_reducible refine Kept.cut (x := x) ?_ ?_; (on_goal 2 => (clear_value x; intro hx)); (on_goal 1 => (unfold x; clear x)))
        | clear_value x
        | (unfold x; clear x))
    | exact rfl
    | (intro _ _)
    | split

end Sys2Proof.Machine
end

