-- ==== Sys2Proof/Laws/FrameGenat.lean ====
section
/-! SUPPORT. Frames of Machine/Genat.lean: the fields each function may change. -/
namespace Sys2Proof.Machine
open Sys2Proof

theorem State.upEng_k {m : Nat} {s0 : State} (g : Nat) (f : Engine → Engine) (s : State) (hm : 0x100000000000
    &&& m = 0x100000000000) (h0 : Kept m s0 s) : Kept m s0 (State.upEng g f s) := by
  refine Kept.step hm ?_ h0; clear h0 hm
  unfold State.upEng
  repeat' first
    | with_reducible exact Kept.refl _ _
    | with_reducible apply State.setEng_k
    | exact rfl

theorem State.upCpu_k {m : Nat} {s0 : State} (g : Nat) (f : Cpu → Cpu) (s : State) (hm : 0x100000000000 &&& m =
    0x100000000000) (h0 : Kept m s0 s) : Kept m s0 (State.upCpu g f s) := by
  refine Kept.step hm ?_ h0; clear h0 hm
  unfold State.upCpu
  repeat' first
    | with_reducible exact Kept.refl _ _
    | with_reducible apply State.upEng_k
    | exact rfl

theorem State.countEng_k {m : Nat} {s0 : State} (g : Nat) (i : Nat) (s : State) (hm : 0x8 &&& m = 0x8) (h0 :
    Kept m s0 s) : Kept m s0 (State.countEng g i s) := by
  refine Kept.step hm ?_ h0; clear h0 hm
  unfold State.countEng
  repeat' first
    | with_reducible exact Kept.refl _ _
    | with_reducible apply State.cnt_k
    | exact rfl

theorem State.setX_k {m : Nat} {s0 : State} (g : Nat) (r : Nat) (w : Word) (s : State) (hm : 0x100000000000 &&&
    m = 0x100000000000) (h0 : Kept m s0 s) : Kept m s0 (State.setX g r w s) := by
  refine Kept.step hm ?_ h0; clear h0 hm
  unfold State.setX
  repeat' first
    | with_reducible exact Kept.refl _ _
    | with_reducible apply State.upCpu_k
    | exact rfl

theorem State.setPair_k {m : Nat} {s0 : State} (g : Nat) (r : Nat) (n : Nat) (s : State) (hm : 0x100000000000
    &&& m = 0x100000000000) (h0 : Kept m s0 s) : Kept m s0 (State.setPair g r n s) := by
  refine Kept.step hm ?_ h0; clear h0 hm
  unfold State.setPair
  repeat' first
    | with_reducible exact Kept.refl _ _
    | with_reducible apply State.setX_k
    | exact rfl

theorem State.setEngByte_k {m : Nat} {s0 : State} (g : Nat) (a : Nat) (b : Byte) (s : State) (hm :
    0x300000000000 &&& m = 0x300000000000) (h0 : Kept m s0 s) : Kept m s0 (State.setEngByte g a b s) := by
  refine Kept.step hm ?_ h0; clear h0 hm
  unfold State.setEngByte
  repeat' first
    | with_reducible exact Kept.refl _ _
    | with_reducible assumption
    | with_reducible apply State.upEng_k
    | exact rfl
    | split
    | with_reducible apply Kept.set_shared
    | exact fun hw => Tbl.wf_set _ _ _ _ hw

theorem State.putEngBytes_k {m : Nat} {s0 : State} (g : Nat) (a : Nat) (a2 : List Byte) (a3 : State) (hm :
    0x300000000000 &&& m = 0x300000000000) (h0 : Kept m s0 a3) : Kept m s0 (State.putEngBytes g a a2 a3) := by
  fun_induction State.putEngBytes g a a2 a3
  repeat' first
    | with_reducible exact Kept.refl _ _
    | with_reducible assumption
    | with_reducible apply State.setEngByte_k
    | (rename_i ih; with_reducible apply ih)

theorem State.claim_k {m : Nat} {s0 : State} (g : Nat) (k : Cand) (s : State) (hm : 0x100004000000 &&& m =
    0x100004000000) (h0 : Kept m s0 s) : KeptP m s0 (State.claim g k s) := by
  refine KeptP.step hm ?_ h0; clear h0 hm
  unfold State.claim
  repeat' first
    | with_reducible exact Kept.refl _ _
    | with_reducible assumption
    | with_reducible apply State.setSrc_k
    | with_reducible apply State.upCpu_k
    | (extract_lets +onlyGivenNames x; first
        | (with_reducible refine Kept.cut (x := x) ?_ ?_; (on_goal 2 => (clear_value x; intro hx)); (on_goal 1 => (unfold x; clear x)))
        | (with_reducible refine KeptP.cut (x := x) ?_ ?_; (on_goal 2 => (clear_value x; intro hx)); (on_goal 1 => (unfold x; clear x)))
        | clear_value x
        | (unfold x; clear x))
    | exact rfl
    | split
    | with_reducible apply KeptP.mk

theorem State.samplePriv_k {m : Nat} {s0 : State} (g : Nat) (i : Nat) (s : State) (hm : 0x100000000000 &&& m =
    0x100000000000) (h0 : Kept m s0 s) : Kept m s0 (State.samplePriv g i s) := by
  refine Kept.step hm ?_ h0; clear h0 hm
  unfold State.samplePriv
  repeat' first
    | with_reducible exact Kept.refl _ _
    | with_reducible assumption
    | with_reducible apply State.noteEngine_k
    | with_reducible apply State.upCpu_k
    | (extract_lets +onlyGivenNames x; first
        | (with_reducible refine Kept.cut (x := x) ?_ ?_; (on_goal 2 => (clear_value x; intro hx)); (on_goal 1 => (unfold x; clear x)))
        | clear_value x
        | (unfold x; clear x))
    | exact rfl
    | split

theorem State.complete1_k {m : Nat} {s0 : State} (g : Nat) (k : Bool × Nat) (s : State) (hm : 0x100004000000 &&&
    m = 0x100004000000) (h0 : Kept m s0 s) : Kept m s0 (State.complete1 g k s) := by
  refine Kept.step hm ?_ h0; clear h0 hm
  unfold State.complete1
  repeat' first
    | with_reducible exact Kept.refl _ _
    | with_reducible assumption
    | with_reducible apply State.samplePriv_k
    | with_reducible apply State.setSrc_k
    | with_reducible apply State.noteSrc_k
    | (extract_lets +onlyGivenNames x; first
        | (with_reducible refine Kept.cut (x := x) ?_ ?_; (on_goal 2 => (clear_value x; intro hx)); (on_goal 1 => (unfold x; clear x)))
        | clear_value x
        | (unfold x; clear x))
    | exact rfl
    | split

theorem State.completeAll_k {m : Nat} {s0 : State} (g : Nat) (s : State) (hm : 0x100004000000 &&& m =
    0x100004000000) (h0 : Kept m s0 s) : Kept m s0 (State.completeAll g s) := by
  refine Kept.step hm ?_ h0; clear h0 hm
  unfold State.completeAll
  repeat' first
    | with_reducible exact Kept.refl _ _
    | with_reducible apply State.complete1_k
    | with_reducible apply Kept.each
    | with_reducible apply State.upCpu_k
    | exact rfl
    | (intro _ _)

theorem State.haltFault_k {m : Nat} {s0 : State} (g : Nat) (s : State) (hm : 0x2010003C000008 &&& m =
    0x2010003C000008) (h0 : Kept m s0 s) : Kept m s0 (State.haltFault g s) := by
  refine Kept.step hm ?_ h0; clear h0 hm
  unfold State.haltFault
  repeat' first
    | with_reducible exact Kept.refl _ _
    | with_reducible apply State.raise_k
    | with_reducible apply State.upEng_k
    | exact rfl

theorem State.setTrap_k {m : Nat} {s0 : State} (g : Nat) (cause : Nat) (addr : Nat) (val : Nat) (s : State) (hm
    : 0x100000000000 &&& m = 0x100000000000) (h0 : Kept m s0 s) : Kept m s0 (State.setTrap g cause addr val s) := by
  refine Kept.step hm ?_ h0; clear h0 hm
  unfold State.setTrap
  repeat' first
    | with_reducible exact Kept.refl _ _
    | with_reducible apply State.upCpu_k
    | exact rfl

theorem State.pushFrame_k {m : Nat} {s0 : State} (g : Nat) (ret : Nat) (s : State) (hm : 0x300000000000 &&& m =
    0x300000000000) (h0 : Kept m s0 s) : Kept m s0 (State.pushFrame g ret s) := by
  refine Kept.step hm ?_ h0; clear h0 hm
  unfold State.pushFrame
  repeat' first
    | with_reducible exact Kept.refl _ _
    | with_reducible assumption
    | with_reducible apply State.upCpu_k
    | with_reducible apply State.putEngBytes_k
    | exact rfl

theorem State.trapAt_k {m : Nat} {s0 : State} (g : Nat) (cause : Nat) (addr : Nat) (val : Nat) (ret : Nat) (s :
    State) (hm : 0x2030003C000008 &&& m = 0x2030003C000008) (h0 : Kept m s0 s) : Kept m s0 (State.trapAt g cause
    addr val ret s) := by
  refine Kept.step hm ?_ h0; clear h0 hm
  unfold State.trapAt
  repeat' first
    | with_reducible exact Kept.refl _ _
    | with_reducible assumption
    | with_reducible apply State.upCpu_k
    | with_reducible apply State.pushFrame_k
    | with_reducible apply State.setTrap_k
    | with_reducible apply State.haltFault_k
    | (extract_lets +onlyGivenNames x; first
        | (with_reducible refine Kept.cut (x := x) ?_ ?_; (on_goal 2 => (clear_value x; intro hx)); (on_goal 1 => (unfold x; clear x)))
        | clear_value x
        | (unfold x; clear x))
    | exact rfl
    | split

theorem State.trap_k {m : Nat} {s0 : State} (g : Nat) (cause : Nat) (val : Nat) (s : State) (hm :
    0x2030003C000008 &&& m = 0x2030003C000008) (h0 : Kept m s0 s) : Kept m s0 (State.trap g cause val s) := by
  refine Kept.step hm ?_ h0; clear h0 hm
  unfold State.trap
  repeat' first
    | with_reducible exact Kept.refl _ _
    | with_reducible assumption
    | with_reducible apply State.trapAt_k
    | exact rfl

theorem State.goto_k {m : Nat} {s0 : State} (g : Nat) (a : Nat) (next : Nat) (s : State) (hm : 0x2030003C000008
    &&& m = 0x2030003C000008) (h0 : Kept m s0 s) : Kept m s0 (State.goto g a next s) := by
  refine Kept.step hm ?_ h0; clear h0 hm
  unfold State.goto
  repeat' first
    | with_reducible exact Kept.refl _ _
    | with_reducible assumption
    | with_reducible apply State.trapAt_k
    | with_reducible apply State.upCpu_k
    | (extract_lets +onlyGivenNames x; first
        | (with_reducible refine Kept.cut (x := x) ?_ ?_; (on_goal 2 => (clear_value x; intro hx)); (on_goal 1 => (unfold x; clear x)))
        | clear_value x
        | (unfold x; clear x))
    | exact rfl
    | split

theorem State.completed_k {m : Nat} {s0 : State} (g : Nat) (s : State) (hm : 0x100000000000 &&& m =
    0x100000000000) (h0 : Kept m s0 s) : Kept m s0 (State.completed g s) := by
  refine Kept.step hm ?_ h0; clear h0 hm
  unfold State.completed
  repeat' first
    | with_reducible exact Kept.refl _ _
    | with_reducible apply State.upCpu_k
    | exact rfl

theorem State.advance_k {m : Nat} {s0 : State} (g : Nat) (s : State) (hm : 0x2030003C000008 &&& m =
    0x2030003C000008) (h0 : Kept m s0 s) : Kept m s0 (State.advance g s) := by
  refine Kept.step hm ?_ h0; clear h0 hm
  unfold State.advance
  repeat' first
    | with_reducible exact Kept.refl _ _
    | with_reducible assumption
    | with_reducible apply State.goto_k
    | with_reducible apply State.completed_k
    | with_reducible apply State.upCpu_k
    | (with_reducible refine KeptP.get (by assumption) ?_)
    | (with_reducible refine KeptT.get (by assumption) ?_)
    | exact rfl

theorem State.transfer_k {m : Nat} {s0 : State} (g : Nat) (target : Nat) (s : State) (hm : 0x2030003C000008 &&&
    m = 0x2030003C000008) (h0 : Kept m s0 s) : Kept m s0 (State.transfer g target s) := by
  refine Kept.step hm ?_ h0; clear h0 hm
  unfold State.transfer
  repeat' first
    | with_reducible exact Kept.refl _ _
    | with_reducible assumption
    | with_reducible apply State.goto_k
    | with_reducible apply State.completed_k
    | with_reducible apply State.upCpu_k
    | exact rfl

theorem State.jump_k {m : Nat} {s0 : State} (g : Nat) (target : Nat) (s : State) (hm : 0x2030003C000008 &&& m =
    0x2030003C000008) (h0 : Kept m s0 s) : Kept m s0 (State.jump g target s) := by
  refine Kept.step hm ?_ h0; clear h0 hm
  unfold State.jump
  repeat' first
    | with_reducible exact Kept.refl _ _
    | with_reducible assumption
    | with_reducible apply State.goto_k
    | with_reducible apply State.completed_k
    | exact rfl

theorem State.beginEngine_k {m : Nat} {s0 : State} (g : Nat) (cause : RestartCause) (restored : Bool) (s :
    State) (hm : 0x2030003C000008 &&& m = 0x2030003C000008) (h0 : Kept m s0 s) : Kept m s0 (State.beginEngine g
    cause restored s) := by
  refine Kept.step hm ?_ h0; clear h0 hm
  unfold State.beginEngine
  repeat' first
    | with_reducible exact Kept.refl _ _
    | with_reducible assumption
    | with_reducible apply State.completeAll_k
    | with_reducible apply State.goto_k
    | with_reducible apply State.upEng_k
    | exact rfl

theorem State.coldStart_k {m : Nat} {s0 : State} (g : Nat) (s : State) (hm : 0x2030003C000008 &&& m =
    0x2030003C000008) (h0 : Kept m s0 s) : Kept m s0 (State.coldStart g s) := by
  refine Kept.step hm ?_ h0; clear h0 hm
  unfold State.coldStart
  repeat' first
    | with_reducible exact Kept.refl _ _
    | with_reducible apply State.beginEngine_k
    | exact rfl

theorem State.withdraw_k {m : Nat} {s0 : State} (g : Nat) (s : State) (hm : 0x100000008808 &&& m =
    0x100000008808) (h0 : Kept m s0 s) : Kept m s0 (State.withdraw g s) := by
  refine Kept.step hm ?_ h0; clear h0 hm
  unfold State.withdraw
  repeat' first
    | with_reducible exact Kept.refl _ _
    | with_reducible assumption
    | with_reducible apply State.dropWaits_k
    | with_reducible apply State.upEng_k
    | with_reducible apply State.cnt_k
    | exact rfl

theorem State.restartEngine_k {m : Nat} {s0 : State} (g : Nat) (cause : RestartCause) (s : State) (hm :
    0x2031003C008808 &&& m = 0x2031003C008808) (h0 : Kept m s0 s) : Kept m s0 (State.restartEngine g cause s) := by
  refine Kept.step hm ?_ h0; clear h0 hm
  unfold State.restartEngine
  repeat' first
    | with_reducible exact Kept.refl _ _
    | with_reducible assumption
    | with_reducible apply State.countEng_k
    | with_reducible apply State.beginEngine_k
    | with_reducible apply State.withdraw_k
    | with_reducible apply State.raise_k
    | with_reducible apply State.setTl_k
    | with_reducible apply State.upEng_k
    | (extract_lets +onlyGivenNames x; first
        | (with_reducible refine Kept.cut (x := x) ?_ ?_; (on_goal 2 => (clear_value x; intro hx)); (on_goal 1 => (unfold x; clear x)))
        | clear_value x
        | (unfold x; clear x))
    | exact rfl
    | split

theorem State.stopEngine_k {m : Nat} {s0 : State} (g : Nat) (s : State) (hm : 0x100000000000 &&& m =
    0x100000000000) (h0 : Kept m s0 s) : Kept m s0 (State.stopEngine g s) := by
  refine Kept.step hm ?_ h0; clear h0 hm
  unfold State.stopEngine
  repeat' first
    | with_reducible exact Kept.refl _ _
    | with_reducible apply State.upEng_k
    | exact rfl

end Sys2Proof.Machine
end

