-- ==== Sys2Proof/Laws/FrameSpar.lean ====
section
/-! SUPPORT. Frames of Machine/Spar.lean: the fields each function may change. -/
namespace Sys2Proof.Machine
open Sys2Proof

theorem State.queueOp_k {m : Nat} {s0 : State} (op : KOp) (s : State) (hm : 0x2000000000000 &&& m =
    0x2000000000000) (h0 : Kept m s0 s) : Kept m s0 (State.queueOp op s) := by
  refine Kept.step hm ?_ h0; clear h0 hm
  unfold State.queueOp
  repeat' first
    | with_reducible exact Kept.refl _ _
    | with_reducible assumption
    | (extract_lets +onlyGivenNames x; first
        | (with_reducible refine Kept.cut (x := x) ?_ ?_; (on_goal 2 => (clear_value x; intro hx)); (on_goal 1 => (unfold x; clear x)))
        | clear_value x
        | (unfold x; clear x))
    | exact rfl
    | with_reducible apply Kept.set_keeper

theorem State.queueHealth_k {m : Nat} {s0 : State} (s : State) (hm : 0x2000000000000 &&& m = 0x2000000000000)
    (h0 : Kept m s0 s) : Kept m s0 (State.queueHealth s) := by
  refine Kept.step hm ?_ h0; clear h0 hm
  unfold State.queueHealth
  repeat' first
    | with_reducible exact Kept.refl _ _
    | with_reducible assumption
    | with_reducible apply State.queueOp_k
    | (extract_lets +onlyGivenNames x; first
        | (with_reducible refine Kept.cut (x := x) ?_ ?_; (on_goal 2 => (clear_value x; intro hx)); (on_goal 1 => (unfold x; clear x)))
        | clear_value x
        | (unfold x; clear x))
    | exact rfl
    | split

theorem State.upSpar_k {m : Nat} {s0 : State} (q : Nat) (f : Spar → Spar) (s : State) (hm : 0x8000000000000 &&&
    m = 0x8000000000000) (h0 : Kept m s0 s) : Kept m s0 (State.upSpar q f s) := by
  refine Kept.step hm ?_ h0; clear h0 hm
  unfold State.upSpar
  repeat' first
    | with_reducible exact Kept.refl _ _
    | with_reducible apply State.setSpar_k
    | exact rfl

theorem State.countSpar_k {m : Nat} {s0 : State} (q : Nat) (i : Nat) (s : State) (hm : 0x8 &&& m = 0x8) (h0 :
    Kept m s0 s) : Kept m s0 (State.countSpar q i s) := by
  refine Kept.step hm ?_ h0; clear h0 hm
  unfold State.countSpar
  repeat' first
    | with_reducible exact Kept.refl _ _
    | with_reducible apply State.cnt_k
    | exact rfl

theorem State.setPg_k {m : Nat} {s0 : State} (q : Nat) (on : Bool) (s : State) (hm : 0x2810003C000008 &&& m =
    0x2810003C000008) (h0 : Kept m s0 s) : Kept m s0 (State.setPg q on s) := by
  refine Kept.step hm ?_ h0; clear h0 hm
  unfold State.setPg
  repeat' first
    | with_reducible exact Kept.refl _ _
    | with_reducible apply State.upSpar_k
    | with_reducible apply State.raise_k
    | exact rfl
    | split

theorem State.sparTo_k {m : Nat} {s0 : State} (q : Nat) (st : SparState) (s : State) (hm : 0x2810003C000008 &&&
    m = 0x2810003C000008) (h0 : Kept m s0 s) : Kept m s0 (State.sparTo q st s) := by
  refine Kept.step hm ?_ h0; clear h0 hm
  unfold State.sparTo
  repeat' first
    | with_reducible exact Kept.refl _ _
    | with_reducible apply State.upSpar_k
    | with_reducible apply State.setPg_k
    | exact rfl

theorem State.shedWarn_k {m : Nat} {s0 : State} (q : Nat) (s : State) (hm : 0x2810003C000008 &&& m =
    0x2810003C000008) (h0 : Kept m s0 s) : Kept m s0 (State.shedWarn q s) := by
  refine Kept.step hm ?_ h0; clear h0 hm
  unfold State.shedWarn
  repeat' first
    | with_reducible exact Kept.refl _ _
    | with_reducible apply State.raise_k
    | with_reducible apply State.countSpar_k
    | with_reducible apply State.sparTo_k
    | exact rfl

theorem State.sparEnter_k {m : Nat} {s0 : State} (q : Nat) (s : State) (hm : 0x8000000000000 &&& m =
    0x8000000000000) (h0 : Kept m s0 s) : Kept m s0 (State.sparEnter q s) := by
  refine Kept.step hm ?_ h0; clear h0 hm
  unfold State.sparEnter
  repeat' first
    | with_reducible exact Kept.refl _ _
    | with_reducible apply State.upSpar_k
    | exact rfl

theorem State.sparStart_k {m : Nat} {s0 : State} (q : Nat) (s : State) (hm : 0x2810003C000008 &&& m =
    0x2810003C000008) (h0 : Kept m s0 s) : Kept m s0 (State.sparStart q s) := by
  refine Kept.step hm ?_ h0; clear h0 hm
  unfold State.sparStart
  repeat' first
    | with_reducible exact Kept.refl _ _
    | with_reducible apply State.shedWarn_k
    | with_reducible apply State.sparEnter_k
    | exact rfl
    | split

theorem State.sparFollow_k {m : Nat} {s0 : State} (q : Nat) (s : State) (hm : 0x2810003C000008 &&& m =
    0x2810003C000008) (h0 : Kept m s0 s) : Kept m s0 (State.sparFollow q s) := by
  refine Kept.step hm ?_ h0; clear h0 hm
  unfold State.sparFollow
  repeat' first
    | with_reducible exact Kept.refl _ _
    | with_reducible assumption
    | with_reducible apply State.upSpar_k
    | with_reducible apply State.shedWarn_k
    | with_reducible apply State.sparTo_k
    | (extract_lets +onlyGivenNames x; first
        | (with_reducible refine Kept.cut (x := x) ?_ ?_; (on_goal 2 => (clear_value x; intro hx)); (on_goal 1 => (unfold x; clear x)))
        | clear_value x
        | (unfold x; clear x))
    | exact rfl
    | split

theorem State.sparRefresh_k {m : Nat} {s0 : State} (s : State) (hm : 0x2810003C000008 &&& m = 0x2810003C000008)
    (h0 : Kept m s0 s) : Kept m s0 (State.sparRefresh s) := by
  refine Kept.step hm ?_ h0; clear h0 hm
  unfold State.sparRefresh
  repeat' first
    | with_reducible exact Kept.refl _ _
    | with_reducible apply State.sparFollow_k
    | with_reducible apply Kept.each
    | exact rfl
    | (intro _ _)

theorem State.sequenceStart_k {m : Nat} {s0 : State} (s : State) (hm : 0x2810003C000008 &&& m =
    0x2810003C000008) (h0 : Kept m s0 s) : Kept m s0 (State.sequenceStart s) := by
  refine Kept.step hm ?_ h0; clear h0 hm
  unfold State.sequenceStart
  repeat' first
    | with_reducible exact Kept.refl _ _
    | with_reducible apply State.sparStart_k
    | exact rfl
    | split

theorem State.clearCommanded_k {m : Nat} {s0 : State} (p : Nat → Bool) (s : State) (hm : 0x2810003C000008 &&& m
    = 0x2810003C000008) (h0 : Kept m s0 s) : Kept m s0 (State.clearCommanded p s) := by
  refine Kept.step hm ?_ h0; clear h0 hm
  unfold State.clearCommanded
  repeat' first
    | with_reducible exact Kept.refl _ _
    | with_reducible apply State.upSpar_k
    | with_reducible apply State.sparRefresh_k
    | with_reducible apply Kept.each
    | exact rfl
    | (intro _ _)
    | split

theorem State.shedAll_k {m : Nat} {s0 : State} (s : State) (hm : 0x2810003C000008 &&& m = 0x2810003C000008) (h0
    : Kept m s0 s) : Kept m s0 (State.shedAll s) := by
  refine Kept.step hm ?_ h0; clear h0 hm
  unfold State.shedAll
  repeat' first
    | with_reducible exact Kept.refl _ _
    | with_reducible apply Kept.each
    | with_reducible apply State.shedWarn_k
    | exact rfl
    | (intro _ _)
    | split

theorem State.sparOn_k {m : Nat} {s0 : State} (q : Nat) (s : State) (hm : 0x2810003C000008 &&& m =
    0x2810003C000008) (h0 : Kept m s0 s) : KeptP m s0 (State.sparOn q s) := by
  refine KeptP.step hm ?_ h0; clear h0 hm
  unfold State.sparOn
  repeat' first
    | with_reducible exact Kept.refl _ _
    | with_reducible assumption
    | with_reducible apply State.upSpar_k
    | with_reducible apply State.sparStart_k
    | (extract_lets +onlyGivenNames x; first
        | (with_reducible refine Kept.cut (x := x) ?_ ?_; (on_goal 2 => (clear_value x; intro hx)); (on_goal 1 => (unfold x; clear x)))
        | (with_reducible refine KeptP.cut (x := x) ?_ ?_; (on_goal 2 => (clear_value x; intro hx)); (on_goal 1 => (unfold x; clear x)))
        | clear_value x
        | (unfold x; clear x))
    | exact rfl
    | split
    | with_reducible apply KeptP.mk

theorem State.sparOff_k {m : Nat} {s0 : State} (q : Nat) (s : State) (hm : 0x2810003C000008 &&& m =
    0x2810003C000008) (h0 : Kept m s0 s) : Kept m s0 (State.sparOff q s) := by
  refine Kept.step hm ?_ h0; clear h0 hm
  unfold State.sparOff
  repeat' first
    | with_reducible exact Kept.refl _ _
    | with_reducible assumption
    | with_reducible apply State.upSpar_k
    | with_reducible apply State.sparTo_k
    | (extract_lets +onlyGivenNames x; first
        | (with_reducible refine Kept.cut (x := x) ?_ ?_; (on_goal 2 => (clear_value x; intro hx)); (on_goal 1 => (unfold x; clear x)))
        | clear_value x
        | (unfold x; clear x))
    | exact rfl
    | split

theorem State.sparMeas_k {m : Nat} {s0 : State} (q : Nat) (v : Nat) (i : Nat) (s : State) (hm : 0x8000000000000
    &&& m = 0x8000000000000) (h0 : Kept m s0 s) : Kept m s0 (State.sparMeas q v i s) := by
  refine Kept.step hm ?_ h0; clear h0 hm
  unfold State.sparMeas
  repeat' first
    | with_reducible exact Kept.refl _ _
    | with_reducible apply State.upSpar_k
    | exact rfl

theorem State.sparTrip_k {m : Nat} {s0 : State} (q : Nat) (cause : Nat) (mA : Nat) (s : State) (hm :
    0x2810003C000008 &&& m = 0x2810003C000008) (h0 : Kept m s0 s) : Kept m s0 (State.sparTrip q cause mA s) := by
  refine Kept.step hm ?_ h0; clear h0 hm
  unfold State.sparTrip
  repeat' first
    | with_reducible exact Kept.refl _ _
    | with_reducible assumption
    | with_reducible apply State.upSpar_k
    | with_reducible apply State.raise_k
    | with_reducible apply State.countSpar_k
    | with_reducible apply State.sparTo_k
    | (extract_lets +onlyGivenNames x; first
        | (with_reducible refine Kept.cut (x := x) ?_ ?_; (on_goal 2 => (clear_value x; intro hx)); (on_goal 1 => (unfold x; clear x)))
        | clear_value x
        | (unfold x; clear x))
    | exact rfl
    | split

theorem State.portInrushComplete_k {m : Nat} {s0 : State} (q : Nat) (v : Nat) (i : Nat) (s : State) (hm :
    0x8000000000000 &&& m = 0x8000000000000) (h0 : Kept m s0 s) : Kept m s0 (State.portInrushComplete q v i s) := by
  refine Kept.step hm ?_ h0; clear h0 hm
  unfold State.portInrushComplete
  repeat' first
    | with_reducible exact Kept.refl _ _
    | with_reducible apply State.upSpar_k
    | with_reducible apply State.sparMeas_k
    | exact rfl
    | split

theorem State.portInrushTimeout_k {m : Nat} {s0 : State} (q : Nat) (mA : Nat) (s : State) (hm : 0x2810003C000008
    &&& m = 0x2810003C000008) (h0 : Kept m s0 s) : Kept m s0 (State.portInrushTimeout q mA s) := by
  refine Kept.step hm ?_ h0; clear h0 hm
  unfold State.portInrushTimeout
  repeat' first
    | with_reducible exact Kept.refl _ _
    | with_reducible apply State.sparTrip_k
    | exact rfl
    | split

theorem State.portLimit_k {m : Nat} {s0 : State} (q : Nat) (v : Nat) (i : Nat) (s : State) (hm :
    0x2810003C000008 &&& m = 0x2810003C000008) (h0 : Kept m s0 s) : Kept m s0 (State.portLimit q v i s) := by
  refine Kept.step hm ?_ h0; clear h0 hm
  unfold State.portLimit
  repeat' first
    | with_reducible exact Kept.refl _ _
    | with_reducible apply State.upSpar_k
    | with_reducible apply State.sparMeas_k
    | with_reducible apply State.raise_k
    | with_reducible apply State.setPg_k
    | exact rfl
    | split

theorem State.portLimitEnd_k {m : Nat} {s0 : State} (q : Nat) (v : Nat) (i : Nat) (s : State) (hm :
    0x8000000000000 &&& m = 0x8000000000000) (h0 : Kept m s0 s) : Kept m s0 (State.portLimitEnd q v i s) := by
  refine Kept.step hm ?_ h0; clear h0 hm
  unfold State.portLimitEnd
  repeat' first
    | with_reducible exact Kept.refl _ _
    | with_reducible apply State.upSpar_k
    | with_reducible apply State.sparMeas_k
    | exact rfl
    | split

theorem State.portFaultTimer_k {m : Nat} {s0 : State} (q : Nat) (mA : Nat) (s : State) (hm : 0x2810003C000008
    &&& m = 0x2810003C000008) (h0 : Kept m s0 s) : Kept m s0 (State.portFaultTimer q mA s) := by
  refine Kept.step hm ?_ h0; clear h0 hm
  unfold State.portFaultTimer
  repeat' first
    | with_reducible exact Kept.refl _ _
    | with_reducible apply State.sparTrip_k
    | exact rfl
    | split

theorem State.portShort_k {m : Nat} {s0 : State} (q : Nat) (mA : Nat) (s : State) (hm : 0x2810003C000008 &&& m =
    0x2810003C000008) (h0 : Kept m s0 s) : Kept m s0 (State.portShort q mA s) := by
  refine Kept.step hm ?_ h0; clear h0 hm
  unfold State.portShort
  repeat' first
    | with_reducible exact Kept.refl _ _
    | with_reducible apply State.sparTrip_k
    | exact rfl
    | split

theorem State.portRetryEnd_k {m : Nat} {s0 : State} (q : Nat) (s : State) (hm : 0x2810003C000008 &&& m =
    0x2810003C000008) (h0 : Kept m s0 s) : Kept m s0 (State.portRetryEnd q s) := by
  refine Kept.step hm ?_ h0; clear h0 hm
  unfold State.portRetryEnd
  repeat' first
    | with_reducible exact Kept.refl _ _
    | with_reducible apply State.sparStart_k
    | with_reducible apply State.sparTo_k
    | exact rfl
    | split

theorem State.portPg_k {m : Nat} {s0 : State} (q : Nat) (on : Bool) (v : Nat) (i : Nat) (s : State) (hm :
    0x2810003C000008 &&& m = 0x2810003C000008) (h0 : Kept m s0 s) : Kept m s0 (State.portPg q on v i s) := by
  refine Kept.step hm ?_ h0; clear h0 hm
  unfold State.portPg
  repeat' first
    | with_reducible exact Kept.refl _ _
    | with_reducible apply State.sparMeas_k
    | with_reducible apply State.setPg_k
    | exact rfl
    | split

theorem State.portRetriesReset_k {m : Nat} {s0 : State} (q : Nat) (s : State) (hm : 0x8000000000000 &&& m =
    0x8000000000000) (h0 : Kept m s0 s) : Kept m s0 (State.portRetriesReset q s) := by
  refine Kept.step hm ?_ h0; clear h0 hm
  unfold State.portRetriesReset
  repeat' first
    | with_reducible exact Kept.refl _ _
    | with_reducible apply State.upSpar_k
    | exact rfl
    | split

theorem State.portPassFault_k {m : Nat} {s0 : State} (q : Nat) (s : State) (hm : 0x2A10003C000008 &&& m =
    0x2A10003C000008) (h0 : Kept m s0 s) : Kept m s0 (State.portPassFault q s) := by
  refine Kept.step hm ?_ h0; clear h0 hm
  unfold State.portPassFault
  repeat' first
    | with_reducible exact Kept.refl _ _
    | with_reducible apply State.upSpar_k
    | with_reducible apply State.raise_k
    | with_reducible apply State.queueHealth_k
    | with_reducible apply State.sparTo_k
    | exact rfl
    | split

theorem State.pdFound_k {m : Nat} {s0 : State} (q : Nat) (cls : Nat) (s : State) (hm : 0x2810003C000008 &&& m =
    0x2810003C000008) (h0 : Kept m s0 s) : Kept m s0 (State.pdFound q cls s) := by
  refine Kept.step hm ?_ h0; clear h0 hm
  unfold State.pdFound
  repeat' first
    | with_reducible exact Kept.refl _ _
    | with_reducible assumption
    | with_reducible apply State.upSpar_k
    | with_reducible apply State.raise_k
    | with_reducible apply State.countSpar_k
    | (extract_lets +onlyGivenNames x; first
        | (with_reducible refine Kept.cut (x := x) ?_ ?_; (on_goal 2 => (clear_value x; intro hx)); (on_goal 1 => (unfold x; clear x)))
        | clear_value x
        | (unfold x; clear x))
    | exact rfl
    | split

theorem State.detect_k {m : Nat} {s0 : State} (q : Nat) (cls : Option Nat) (s : State) (hm : 0x2810003C000008
    &&& m = 0x2810003C000008) (h0 : Kept m s0 s) : Kept m s0 (State.detect q cls s) := by
  refine Kept.step hm ?_ h0; clear h0 hm
  unfold State.detect
  repeat' first
    | with_reducible exact Kept.refl _ _
    | with_reducible apply State.pdFound_k
    | exact rfl
    | split

theorem State.classRetry_k {m : Nat} {s0 : State} (q : Nat) (cls : Option Nat) (s : State) (hm :
    0x2810003C000008 &&& m = 0x2810003C000008) (h0 : Kept m s0 s) : Kept m s0 (State.classRetry q cls s) := by
  refine Kept.step hm ?_ h0; clear h0 hm
  unfold State.classRetry
  repeat' first
    | with_reducible exact Kept.refl _ _
    | with_reducible apply State.upSpar_k
    | with_reducible apply State.detect_k
    | exact rfl
    | split

theorem State.limitShed_k {m : Nat} {s0 : State} (s : State) (hm : 0x2810003C000008 &&& m = 0x2810003C000008)
    (h0 : Kept m s0 s) : Kept m s0 (State.limitShed s) := by
  refine Kept.step hm ?_ h0; clear h0 hm
  unfold State.limitShed
  repeat' first
    | with_reducible exact Kept.refl _ _
    | with_reducible apply State.upSpar_k
    | with_reducible apply State.raise_k
    | with_reducible apply State.countSpar_k
    | with_reducible apply State.sparTo_k
    | exact rfl
    | split

end Sys2Proof.Machine
end

