-- ==== Sys2Proof/Laws/FrameClear.lean ====
section
/-! SUPPORT. Frames of Machine/Clear.lean: the fields each function may change. -/
namespace Sys2Proof.Machine
open Sys2Proof

theorem State.resetWindows_k {m : Nat} {s0 : State} (t : Nat) (s : State) (hm : 0x1400000018 &&& m =
    0x1400000018) (h0 : Kept m s0 s) : Kept m s0 (State.resetWindows t s) := by
  refine Kept.step hm ?_ h0; clear h0 hm
  unfold State.resetWindows
  repeat' first
    | with_reducible exact Kept.refl _ _
    | with_reducible assumption
    | with_reducible apply State.upLane_k
    | with_reducible apply State.upPort_k
    | with_reducible apply Kept.each
    | (extract_lets +onlyGivenNames x; first
        | (with_reducible refine Kept.cut (x := x) ?_ ?_; (on_goal 2 => (clear_value x; intro hx)); (on_goal 1 => (unfold x; clear x)))
        | clear_value x
        | (unfold x; clear x))
    | exact rfl
    | (intro _ _)
    | (with_reducible apply Kept.upd <;> try first
        | exact rfl
        | exact Or.inl rfl
        | exact Or.inr rfl
        | exact Or.inr ⟨rfl, fun hw => Tbl.wf_keep _ _ _ hw⟩
        | exact Or.inr ⟨rfl, fun hw => Tbl.wf_filter _ _ _ hw⟩)

theorem State.clearRoute_k {m : Nat} {s0 : State} (r : Nat) (s : State) (hm : 0x600008 &&& m = 0x600008) (h0 :
    Kept m s0 s) : Kept m s0 (State.clearRoute r s) := by
  refine Kept.step hm ?_ h0; clear h0 hm
  unfold State.clearRoute
  repeat' first
    | with_reducible exact Kept.refl _ _
    | with_reducible assumption
    | with_reducible apply State.setRoute_k
    | (extract_lets +onlyGivenNames x; first
        | (with_reducible refine Kept.cut (x := x) ?_ ?_; (on_goal 2 => (clear_value x; intro hx)); (on_goal 1 => (unfold x; clear x)))
        | clear_value x
        | (unfold x; clear x))
    | exact rfl
    | (with_reducible apply Kept.upd <;> try first
        | exact rfl
        | exact Or.inl rfl
        | exact Or.inr rfl
        | exact Or.inr ⟨rfl, fun hw => Tbl.wf_keep _ _ _ hw⟩)

theorem State.clearOwned_k {m : Nat} {s0 : State} (t : Nat) (s : State) (hm : 0x539400708818 &&& m =
    0x539400708818) (h0 : Kept m s0 s) : Kept m s0 (State.clearOwned t s) := by
  refine Kept.step hm ?_ h0; clear h0 hm
  unfold State.clearOwned
  repeat' first
    | with_reducible exact Kept.refl _ _
    | with_reducible assumption
    | with_reducible apply Kept.each
    | with_reducible apply State.withdraw_k
    | with_reducible apply State.setTile_k
    | with_reducible apply State.resetWindows_k
    | with_reducible apply State.upEng_k
    | with_reducible apply State.clearRoute_k
    | with_reducible apply State.setSlice_k
    | (extract_lets +onlyGivenNames x; first
        | (with_reducible refine Kept.cut (x := x) ?_ ?_; (on_goal 2 => (clear_value x; intro hx)); (on_goal 1 => (unfold x; clear x)))
        | clear_value x
        | (unfold x; clear x))
    | exact rfl
    | (intro _ _)
    | split
    | (with_reducible apply Kept.upd <;> try first
        | exact rfl
        | exact Or.inl rfl
        | exact Or.inr rfl
        | exact Or.inr ⟨rfl, fun hw => Tbl.wf_keep _ _ _ hw⟩
        | exact Or.inr ⟨rfl, fun hw => Tbl.wf_filter _ _ _ hw⟩)

theorem State.dropCluster_k {m : Nat} {s0 : State} (c : Nat) (s : State) (hm : 0x1539400708818 &&& m =
    0x1539400708818) (h0 : Kept m s0 s) : Kept m s0 (State.dropCluster c s) := by
  refine Kept.step hm ?_ h0; clear h0 hm
  unfold State.dropCluster
  repeat' first
    | with_reducible exact Kept.refl _ _
    | with_reducible assumption
    | with_reducible apply State.setPartner_k
    | with_reducible apply State.wr_k
    | with_reducible apply Kept.each
    | with_reducible apply State.clearOwned_k
    | (extract_lets +onlyGivenNames x; first
        | (with_reducible refine Kept.cut (x := x) ?_ ?_; (on_goal 2 => (clear_value x; intro hx)); (on_goal 1 => (unfold x; clear x)))
        | clear_value x
        | (unfold x; clear x))
    | exact rfl
    | (intro _ _)
    | with_reducible apply Kept.set_struct

end Sys2Proof.Machine
end

