-- ==== Sys2Proof/Laws/FrameModes.lean ====
section
/-! SUPPORT. Frames of Machine/Modes.lean: the fields each function may change. -/
namespace Sys2Proof.Machine
open Sys2Proof

theorem State.laneFollow_k {m : Nat} {s0 : State} (n : Nat) (s : State) (hm : 0x10400000000 &&& m =
    0x10400000000) (h0 : Kept m s0 s) : Kept m s0 (State.laneFollow n s) := by
  refine Kept.step hm ?_ h0; clear h0 hm
  unfold State.laneFollow
  repeat' first
    | with_reducible exact Kept.refl _ _
    | with_reducible apply State.laneStart_k
    | with_reducible apply State.laneQuiet_k
    | exact rfl
    | split

theorem State.portFollow_k {m : Nat} {s0 : State} (p : Nat) (s : State) (hm : 0x2010133C001988 &&& m =
    0x2010133C001988) (h0 : Kept m s0 s) : Kept m s0 (State.portFollow p s) := by
  refine Kept.step hm ?_ h0; clear h0 hm
  unfold State.portFollow
  repeat' first
    | with_reducible exact Kept.refl _ _
    | with_reducible apply State.linkDown_k
    | exact rfl
    | split

theorem State.lanesFollow_k {m : Nat} {s0 : State} (s : State) (hm : 0x2011173C001988 &&& m = 0x2011173C001988)
    (h0 : Kept m s0 s) : Kept m s0 (State.lanesFollow s) := by
  refine Kept.step hm ?_ h0; clear h0 hm
  unfold State.lanesFollow
  repeat' first
    | with_reducible exact Kept.refl _ _
    | with_reducible apply State.laneFollow_k
    | with_reducible apply State.portFollow_k
    | with_reducible apply Kept.each
    | exact rfl
    | (intro _ _)

theorem State.dropTransit_k {m : Nat} {s0 : State} (s : State) (hm : 0x2010167C006008 &&& m = 0x2010167C006008)
    (h0 : Kept m s0 s) : Kept m s0 (State.dropTransit s) := by
  refine Kept.step hm ?_ h0; clear h0 hm
  unfold State.dropTransit
  repeat' first
    | with_reducible exact Kept.refl _ _
    | with_reducible assumption
    | with_reducible apply State.giveToken_k
    | with_reducible apply State.portOutcome_k
    | with_reducible apply Kept.each
    | with_reducible apply State.giveCredit_k
    | (extract_lets +onlyGivenNames x; first
        | (with_reducible refine Kept.cut (x := x) ?_ ?_; (on_goal 2 => (clear_value x; intro hx)); (on_goal 1 => (unfold x; clear x)))
        | clear_value x
        | (unfold x; clear x))
    | exact rfl
    | (intro _ _)
    | split
    | (with_reducible apply Kept.upd <;> try first
        | exact rfl
        | exact Or.inl rfl
        | exact Or.inr rfl)

theorem State.dropQueued_k {m : Nat} {s0 : State} (count : Bool) (s : State) (hm : 0x2010163C001BC8 &&& m =
    0x2010163C001BC8) (h0 : Kept m s0 s) : Kept m s0 (State.dropQueued count s) := by
  refine Kept.step hm ?_ h0; clear h0 hm
  unfold State.dropQueued
  repeat' first
    | with_reducible exact Kept.refl _ _
    | with_reducible assumption
    | with_reducible apply State.upPort_k
    | with_reducible apply Kept.each
    | with_reducible apply State.laneDiscardCounted_k
    | with_reducible apply State.laneDiscard_k
    | with_reducible apply State.portDiscard_k
    | exact rfl
    | (intro _ _)
    | split

theorem State.dropStamps_k {m : Nat} {s0 : State} (s : State) (hm : 0x200000000 &&& m = 0x200000000) (h0 : Kept
    m s0 s) : Kept m s0 (State.dropStamps s) := by
  refine Kept.step hm ?_ h0; clear h0 hm
  unfold State.dropStamps
  repeat' first
    | with_reducible exact Kept.refl _ _
    | with_reducible apply Kept.each
    | with_reducible apply State.upBport_k
    | exact rfl
    | (intro _ _)

theorem State.sleepDiscard_k {m : Nat} {s0 : State} (s : State) (hm : 0x2010167C007FC8 &&& m = 0x2010167C007FC8)
    (h0 : Kept m s0 s) : Kept m s0 (State.sleepDiscard s) := by
  refine Kept.step hm ?_ h0; clear h0 hm
  unfold State.sleepDiscard
  repeat' first
    | with_reducible exact Kept.refl _ _
    | with_reducible assumption
    | with_reducible apply State.setFifo_k
    | with_reducible apply State.dropStamps_k
    | with_reducible apply State.setPartner_k
    | with_reducible apply State.setDesc_k
    | with_reducible apply State.dropTransit_k
    | with_reducible apply State.setHw_k
    | with_reducible apply Kept.each
    | with_reducible apply State.dropQueued_k
    | with_reducible apply State.upEng_k
    | with_reducible apply State.freeRecord_k
    | (extract_lets +onlyGivenNames x; first
        | (with_reducible refine Kept.cut (x := x) ?_ ?_; (on_goal 2 => (clear_value x; intro hx)); (on_goal 1 => (unfold x; clear x)))
        | clear_value x
        | (unfold x; clear x))
    | exact rfl
    | (intro _ _)
    | split

theorem State.blankStructure_k {m : Nat} {s0 : State} (s : State) (hm : 0x143E043F09F80 &&& m = 0x143E043F09F80)
    (h0 : Kept m s0 s) : Kept m s0 (State.blankStructure s) := by
  refine Kept.step hm ?_ h0; clear h0 hm
  unfold State.blankStructure
  repeat' first
    | with_reducible exact Kept.refl _ _
    | with_reducible assumption
    | (extract_lets +onlyGivenNames x; first
        | (with_reducible refine Kept.cut (x := x) ?_ ?_; (on_goal 2 => (clear_value x; intro hx)); (on_goal 1 => (unfold x; clear x)))
        | clear_value x
        | (unfold x; clear x))
    | exact rfl
    | (with_reducible apply Kept.upd <;> try first
        | exact rfl
        | exact Or.inl rfl
        | exact Or.inr rfl
        | exact Or.inr ⟨rfl, fun hw => rfl⟩
        | exact Or.inr ⟨rfl, fun hw => Tbl.wf_mapv _ _ _ hw⟩)

theorem State.dropStructure_k {m : Nat} {s0 : State} (count : Bool) (s : State) (hm : 0x2953F67FF0FFC8 &&& m =
    0x2953F67FF0FFC8) (h0 : Kept m s0 s) : Kept m s0 (State.dropStructure count s) := by
  refine Kept.step hm ?_ h0; clear h0 hm
  unfold State.dropStructure
  repeat' first
    | with_reducible exact Kept.refl _ _
    | with_reducible assumption
    | with_reducible apply State.blankStructure_k
    | with_reducible apply State.setf_k
    | with_reducible apply State.upLane_k
    | with_reducible apply State.refreshAllGates_k
    | with_reducible apply State.upPort_k
    | with_reducible apply State.wr_k
    | with_reducible apply State.clearCommanded_k
    | with_reducible apply State.dropTransit_k
    | with_reducible apply State.completeAll_k
    | with_reducible apply Kept.each
    | with_reducible apply State.dropQueued_k
    | with_reducible apply State.upEng_k
    | (extract_lets +onlyGivenNames x; first
        | (with_reducible refine Kept.cut (x := x) ?_ ?_; (on_goal 2 => (clear_value x; intro hx)); (on_goal 1 => (unfold x; clear x)))
        | clear_value x
        | (unfold x; clear x))
    | exact rfl
    | (intro _ _)

theorem State.markRetired_k {m : Nat} {s0 : State} (u : Nat) (s : State) (hm : 0x181400000000 &&& m =
    0x181400000000) (h0 : Kept m s0 s) : Kept m s0 (State.markRetired u s) := by
  refine Kept.step hm ?_ h0; clear h0 hm
  unfold State.markRetired
  repeat' first
    | with_reducible exact Kept.refl _ _
    | with_reducible assumption
    | with_reducible apply State.upLane_k
    | with_reducible apply State.setUnitDown_k
    | with_reducible apply State.upPort_k
    | with_reducible apply State.upEng_k
    | (extract_lets +onlyGivenNames x; first
        | (with_reducible refine Kept.cut (x := x) ?_ ?_; (on_goal 2 => (clear_value x; intro hx)); (on_goal 1 => (unfold x; clear x)))
        | clear_value x
        | (unfold x; clear x))
    | exact rfl
    | split

theorem State.applyHealth_k {m : Nat} {s0 : State} (r : HealthRec) (s : State) (hm : 0x1C1814000C0000 &&& m =
    0x1C1814000C0000) (h0 : Kept m s0 s) : Kept m s0 (State.applyHealth r s) := by
  refine Kept.step hm ?_ h0; clear h0 hm
  unfold State.applyHealth
  repeat' first
    | with_reducible exact Kept.refl _ _
    | with_reducible assumption
    | with_reducible apply State.upSpar_k
    | with_reducible apply State.upLane_k
    | with_reducible apply State.setSpareSlice_k
    | with_reducible apply State.markRetired_k
    | with_reducible apply Kept.each
    | with_reducible apply State.upEng_k
    | (extract_lets +onlyGivenNames x; first
        | (with_reducible refine Kept.cut (x := x) ?_ ?_; (on_goal 2 => (clear_value x; intro hx)); (on_goal 1 => (unfold x; clear x)))
        | clear_value x
        | (unfold x; clear x))
    | exact rfl
    | (intro _ _)
    | split
    | (with_reducible apply Kept.upd <;> try first
        | exact rfl
        | exact Or.inl rfl
        | exact Or.inr rfl)

theorem State.blank_k {m : Nat} {s0 : State} (a0 : Mode) (s : State) (hm : 0x7FFFFFFFFFFFFF &&& m =
    0x7FFFFFFFFFFFFF) (h0 : Kept m s0 s) : Kept m s0 (State.blank a0 s) := by
  refine Kept.step hm ?_ h0; clear h0 hm
  exact Kept.upd (t := s) rfl rfl (.inr rfl) (.inr ⟨rfl, fun _ => rfl⟩) (.inr ⟨rfl, fun _ => rfl⟩) (.inr ⟨rfl, fun _ => rfl⟩)
    (.inr ⟨rfl, fun _ => rfl⟩) (.inr ⟨rfl, fun _ => rfl⟩) (.inr ⟨rfl, fun _ => rfl⟩) (.inr ⟨rfl, fun _
    => rfl⟩) (.inr ⟨rfl, fun _ => rfl⟩) (.inr ⟨rfl, fun _ => rfl⟩) (.inr rfl) (.inr rfl) (.inr rfl)
    (.inr rfl) (.inl rfl) (.inr rfl) (.inr rfl) (.inr rfl) (.inr ⟨rfl, fun _ => rfl⟩) (.inr ⟨rfl, fun _
    => rfl⟩) (.inr rfl) (.inr rfl) (.inr rfl) (.inr rfl) (.inr ⟨rfl, fun _ => rfl⟩) (.inr ⟨rfl, fun _ =>
    rfl⟩) (.inr rfl) (.inl rfl) (.inr ⟨rfl, fun _ => rfl⟩) (.inl rfl) (.inr rfl) (.inr ⟨rfl, fun _ =>
    rfl⟩) (.inr ⟨rfl, fun _ => rfl⟩) (.inr ⟨rfl, fun _ => rfl⟩) (.inr ⟨rfl, fun _ => rfl⟩) (.inr rfl)
    (.inr rfl) (.inr ⟨rfl, fun _ => rfl⟩) (.inr ⟨rfl, fun _ => rfl⟩) (.inr ⟨rfl, fun _ => rfl⟩) (.inr
    ⟨rfl, fun _ => rfl⟩) (.inr rfl) (.inr ⟨rfl, fun _ => rfl⟩) (.inr ⟨rfl, fun _ => rfl⟩) (.inr ⟨rfl,
    fun _ => rfl⟩) (.inr ⟨rfl, fun _ => rfl⟩) (.inr rfl) (.inr rfl) (.inr rfl) (.inr ⟨rfl, fun _ =>
    rfl⟩) (.inr rfl) rfl (.inl rfl) (Kept.refl _ s)

theorem State.coldReset_k {m : Nat} {s0 : State} (a0 : Mode) (s : State) (hm : 0x7FFFFFFFFFFFFF &&& m =
    0x7FFFFFFFFFFFFF) (h0 : Kept m s0 s) : Kept m s0 (State.coldReset a0 s) := by
  refine Kept.step hm ?_ h0; clear h0 hm
  unfold State.coldReset
  repeat' first
    | with_reducible exact Kept.refl _ _
    | with_reducible assumption
    | with_reducible apply State.wr_k
    | with_reducible apply Kept.each
    | with_reducible apply State.blank_k
    | with_reducible apply State.applyHealth_k
    | exact rfl
    | (intro _ _)

theorem State.newChallenge_k {m : Nat} {s0 : State} (s : State) (hm : 0x42000000000000 &&& m = 0x42000000000000)
    (h0 : Kept m s0 s) : Kept m s0 (State.newChallenge s) := by
  refine Kept.step hm ?_ h0; clear h0 hm
  unfold State.newChallenge
  repeat' first
    | with_reducible exact Kept.refl _ _
    | with_reducible assumption
    | with_reducible apply State.draw_k
    | (extract_lets +onlyGivenNames x; first
        | (with_reducible refine Kept.cut (x := x) ?_ ?_; (on_goal 2 => (clear_value x; intro hx)); (on_goal 1 => (unfold x; clear x)))
        | clear_value x
        | (unfold x; clear x))
    | exact rfl
    | with_reducible apply Kept.set_keeper

theorem State.respond_k {m : Nat} {s0 : State} (c : Cmd) (status : Nat) (detail : Nat) (s : State) (hm :
    0x201000BC000000 &&& m = 0x201000BC000000) (h0 : Kept m s0 s) : Kept m s0 (State.respond c status detail s) :=
    by
  refine Kept.step hm ?_ h0; clear h0 hm
  unfold State.respond
  repeat' first
    | with_reducible exact Kept.refl _ _
    | with_reducible assumption
    | with_reducible apply State.modRecord_k
    | with_reducible apply State.emit_k
    | (extract_lets +onlyGivenNames x; first
        | (with_reducible refine Kept.cut (x := x) ?_ ?_; (on_goal 2 => (clear_value x; intro hx)); (on_goal 1 => (unfold x; clear x)))
        | clear_value x
        | (unfold x; clear x))
    | exact rfl
    | split
    | with_reducible apply Kept.set_yw

theorem State.begin__k {m : Nat} {s0 : State} (c : Cmd) (s : State) (hm : 0x201000BC000004 &&& m =
    0x201000BC000004) (h0 : Kept m s0 s) : KeptP m s0 (State.begin_ c s) := by
  refine KeptP.step hm ?_ h0; clear h0 hm
  unfold State.begin_
  repeat' first
    | with_reducible exact Kept.refl _ _
    | with_reducible assumption
    | with_reducible apply State.modRecord_k
    | with_reducible apply State.respond_k
    | (extract_lets +onlyGivenNames x; first
        | (with_reducible refine Kept.cut (x := x) ?_ ?_; (on_goal 2 => (clear_value x; intro hx)); (on_goal 1 => (unfold x; clear x)))
        | (with_reducible refine KeptP.cut (x := x) ?_ ?_; (on_goal 2 => (clear_value x; intro hx)); (on_goal 1 => (unfold x; clear x)))
        | clear_value x
        | (unfold x; clear x))
    | exact rfl
    | split
    | with_reducible apply KeptP.mk
    | with_reducible apply KeptP.snd
    | with_reducible apply Kept.set_ctl

theorem State.submitCmd_k {m : Nat} {s0 : State} (c : Cmd) (reserved : List Byte) (s : State) (hm :
    0x201000BC000004 &&& m = 0x201000BC000004) (h0 : Kept m s0 s) : Kept m s0 (State.submitCmd c reserved s) := by
  refine Kept.step hm ?_ h0; clear h0 hm
  unfold State.submitCmd
  repeat' first
    | with_reducible exact Kept.refl _ _
    | with_reducible assumption
    | with_reducible apply State.begin__k
    | (extract_lets +onlyGivenNames x; first
        | (with_reducible refine Kept.cut (x := x) ?_ ?_; (on_goal 2 => (clear_value x; intro hx)); (on_goal 1 => (unfold x; clear x)))
        | (with_reducible refine Kept.cutP (x := x) ?_ ?_; (on_goal 2 => (clear_value x; intro hx)); (on_goal 1 => (unfold x; clear x)))
        | clear_value x
        | (unfold x; clear x))
    | (with_reducible refine KeptP.get (by assumption) ?_)
    | exact rfl
    | split
    | with_reducible apply KeptP.snd
    | with_reducible apply Kept.set_ctl

theorem State.beginNext_k {m : Nat} {s0 : State} (a0 : List Cmd) (a1 : State) (hm : 0x201000BC000004 &&& m =
    0x201000BC000004) (h0 : Kept m s0 a1) : Kept m s0 (State.beginNext a0 a1) := by
  fun_induction State.beginNext a0 a1
  repeat' first
    | with_reducible exact Kept.refl _ _
    | with_reducible assumption
    | with_reducible apply State.begin__k
    | (rename_i ih; with_reducible apply ih)
    | (extract_lets +onlyGivenNames x; first
        | (with_reducible refine Kept.cut (x := x) ?_ ?_; (on_goal 2 => (clear_value x; intro hx)); (on_goal 1 => (unfold x; clear x)))
        | (with_reducible refine Kept.cutP (x := x) ?_ ?_; (on_goal 2 => (clear_value x; intro hx)); (on_goal 1 => (unfold x; clear x)))
        | clear_value x
        | (unfold x; clear x))
    | (with_reducible refine KeptP.get (by assumption) ?_)
    | (with_reducible refine KeptT.get (by assumption) ?_)
    | exact sub_trans rfl hm
    | split
    | with_reducible apply KeptP.mk
    | with_reducible apply KeptT.mk
    | with_reducible apply KeptT.snd
    | with_reducible apply KeptP.snd
    | with_reducible apply Kept.set_ctl

theorem State.finish_k {m : Nat} {s0 : State} (status : Nat) (detail : Nat) (s : State) (hm : 0x201000BC000004
    &&& m = 0x201000BC000004) (h0 : Kept m s0 s) : Kept m s0 (State.finish status detail s) := by
  refine Kept.step hm ?_ h0; clear h0 hm
  unfold State.finish
  repeat' first
    | with_reducible exact Kept.refl _ _
    | with_reducible assumption
    | with_reducible apply State.beginNext_k
    | with_reducible apply State.respond_k
    | (extract_lets +onlyGivenNames x; first
        | (with_reducible refine Kept.cut (x := x) ?_ ?_; (on_goal 2 => (clear_value x; intro hx)); (on_goal 1 => (unfold x; clear x)))
        | clear_value x
        | (unfold x; clear x))
    | exact rfl
    | split
    | with_reducible apply Kept.set_ctl

theorem State.closeSession_k {m : Nat} {s0 : State} (s : State) (hm : 0x2210003C000008 &&& m = 0x2210003C000008)
    (h0 : Kept m s0 s) : Kept m s0 (State.closeSession s) := by
  refine Kept.step hm ?_ h0; clear h0 hm
  unfold State.closeSession
  repeat' first
    | with_reducible exact Kept.refl _ _
    | with_reducible assumption
    | with_reducible apply Kept.each
    | with_reducible apply State.raise_k
    | with_reducible apply State.upEng_k
    | (extract_lets +onlyGivenNames x; first
        | (with_reducible refine Kept.cut (x := x) ?_ ?_; (on_goal 2 => (clear_value x; intro hx)); (on_goal 1 => (unfold x; clear x)))
        | clear_value x
        | (unfold x; clear x))
    | exact rfl
    | (intro _ _)
    | split
    | with_reducible apply Kept.set_keeper

theorem State.abortWork_k {m : Nat} {s0 : State} (s : State) (hm : 0x2BD3F6FFF0FFDC &&& m = 0x2BD3F6FFF0FFDC)
    (h0 : Kept m s0 s) : Kept m s0 (State.abortWork s) := by
  refine Kept.step hm ?_ h0; clear h0 hm
  unfold State.abortWork
  repeat' first
    | with_reducible exact Kept.refl _ _
    | with_reducible assumption
    | with_reducible apply Kept.each
    | with_reducible apply State.dropCluster_k
    | with_reducible apply State.resetWindows_k
    | with_reducible apply State.respond_k
    | with_reducible apply State.dropStructure_k
    | (extract_lets +onlyGivenNames x; first
        | (with_reducible refine Kept.cut (x := x) ?_ ?_; (on_goal 2 => (clear_value x; intro hx)); (on_goal 1 => (unfold x; clear x)))
        | clear_value x
        | (unfold x; clear x))
    | exact rfl
    | (intro _ _)
    | split
    | (with_reducible apply Kept.upd <;> try first
        | exact rfl
        | exact Or.inl rfl
        | exact Or.inr rfl
        | exact Or.inr ⟨rfl, fun hw => rfl⟩
        | exact Or.inr ⟨rfl, fun hw => Tbl.wf_keep _ _ _ hw⟩
        | exact Or.inr ⟨rfl, fun hw => Tbl.wf_filter _ _ _ hw⟩)

theorem State.enginesFollow_k {m : Nat} {s0 : State} (s : State) (hm : 0x100000000000 &&& m = 0x100000000000)
    (h0 : Kept m s0 s) : Kept m s0 (State.enginesFollow s) := by
  refine Kept.step hm ?_ h0; clear h0 hm
  unfold State.enginesFollow
  repeat' first
    | with_reducible exact Kept.refl _ _
    | with_reducible apply Kept.each
    | with_reducible apply State.stopEngine_k
    | exact rfl
    | (intro _ _)
    | split

theorem State.wakeEngines_k {m : Nat} {s0 : State} (s : State) (hm : 0x2031003C008808 &&& m = 0x2031003C008808)
    (h0 : Kept m s0 s) : Kept m s0 (State.wakeEngines s) := by
  refine Kept.step hm ?_ h0; clear h0 hm
  unfold State.wakeEngines
  repeat' first
    | with_reducible exact Kept.refl _ _
    | with_reducible apply State.restartEngine_k
    | with_reducible apply Kept.each
    | exact rfl
    | (intro _ _)
    | split

theorem State.resumeTiles_k {m : Nat} {s0 : State} (s : State) (hm : 0x400000000000 &&& m = 0x400000000000) (h0
    : Kept m s0 s) : Kept m s0 (State.resumeTiles s) := by
  refine Kept.step hm ?_ h0; clear h0 hm
  unfold State.resumeTiles
  repeat' first
    | with_reducible exact Kept.refl _ _
    | with_reducible assumption
    | exact rfl
    | with_reducible apply Kept.set_tiles
    | exact fun hw => Tbl.wf_mapv _ _ _ hw

theorem State.engineSleeps_k {m : Nat} {s0 : State} (g : Nat) (s : State) (hm : 0x100000000000 &&& m =
    0x100000000000) (h0 : Kept m s0 s) : Kept m s0 (State.engineSleeps g s) := by
  refine Kept.step hm ?_ h0; clear h0 hm
  unfold State.engineSleeps
  repeat' first
    | with_reducible exact Kept.refl _ _
    | with_reducible apply State.upEng_k
    | exact rfl

theorem State.intoSleep_k {m : Nat} {s0 : State} (s : State) (hm : 0x2270167C007FC8 &&& m = 0x2270167C007FC8)
    (h0 : Kept m s0 s) : Kept m s0 (State.intoSleep s) := by
  refine Kept.step hm ?_ h0; clear h0 hm
  unfold State.intoSleep
  repeat' first
    | with_reducible exact Kept.refl _ _
    | with_reducible assumption
    | with_reducible apply State.setf_k
    | with_reducible apply State.upLane_k
    | with_reducible apply State.engineSleeps_k
    | with_reducible apply Kept.each
    | with_reducible apply State.closeSession_k
    | with_reducible apply State.sleepDiscard_k
    | (extract_lets +onlyGivenNames x; first
        | (with_reducible refine Kept.cut (x := x) ?_ ?_; (on_goal 2 => (clear_value x; intro hx)); (on_goal 1 => (unfold x; clear x)))
        | clear_value x
        | (unfold x; clear x))
    | exact rfl
    | (intro _ _)
    | (with_reducible apply Kept.upd <;> try first
        | exact rfl
        | exact Or.inl rfl
        | exact Or.inr rfl
        | exact Or.inr ⟨rfl, fun hw => rfl⟩
        | exact Or.inr ⟨rfl, fun hw => Tbl.wf_mapv _ _ _ hw⟩)

theorem State.wakeHost_k {m : Nat} {s0 : State} (s : State) (hm : 0x20000020000000 &&& m = 0x20000020000000) (h0
    : Kept m s0 s) : Kept m s0 (State.wakeHost s) := by
  refine Kept.step hm ?_ h0; clear h0 hm
  unfold State.wakeHost
  repeat' first
    | with_reducible exact Kept.refl _ _
    | with_reducible apply State.setWake_k
    | exact rfl

theorem State.changeMode_k {m : Nat} {s0 : State} (a0 : Mode) (s : State) (hm : 0x2A73177C00FFCC &&& m =
    0x2A73177C00FFCC) (h0 : Kept m s0 s) : Kept m s0 (State.changeMode a0 s) := by
  refine Kept.step hm ?_ h0; clear h0 hm
  unfold State.changeMode
  repeat' first
    | with_reducible exact Kept.refl _ _
    | with_reducible assumption
    | with_reducible apply State.setf_k
    | with_reducible apply State.lanesFollow_k
    | with_reducible apply State.stopTimelines_k
    | with_reducible apply State.wakeEngines_k
    | with_reducible apply State.modRecord_k
    | with_reducible apply State.enginesFollow_k
    | with_reducible apply State.sparRefresh_k
    | with_reducible apply State.clearCommanded_k
    | with_reducible apply Kept.each
    | with_reducible apply State.closeSession_k
    | with_reducible apply State.wakeHost_k
    | with_reducible apply State.unseeAll_k
    | with_reducible apply State.resumeTiles_k
    | with_reducible apply State.intoSleep_k
    | (extract_lets +onlyGivenNames x; first
        | (with_reducible refine Kept.cut (x := x) ?_ ?_; (on_goal 2 => (clear_value x; intro hx)); (on_goal 1 => (unfold x; clear x)))
        | clear_value x
        | (unfold x; clear x))
    | exact rfl
    | (intro _ _)
    | split
    | (with_reducible apply Kept.upd <;> try first
        | exact rfl
        | exact Or.inl rfl
        | exact Or.inr rfl
        | exact Or.inr ⟨rfl, fun hw => rfl⟩)

theorem State.settle_k {m : Nat} {s0 : State} (s : State) (hm : 0x201000BC000004 &&& m = 0x201000BC000004) (h0 :
    Kept m s0 s) : Kept m s0 (State.settle s) := by
  refine Kept.step hm ?_ h0; clear h0 hm
  unfold State.settle
  repeat' first
    | with_reducible exact Kept.refl _ _
    | with_reducible apply State.beginNext_k
    | exact rfl
    | split

theorem State.enterMode_k {m : Nat} {s0 : State} (a0 : Mode) (s : State) (hm : 0x7FFFFFFFFFFFFF &&& m =
    0x7FFFFFFFFFFFFF) (h0 : Kept m s0 s) : Kept m s0 (State.enterMode a0 s) := by
  refine Kept.step hm ?_ h0; clear h0 hm
  unfold State.enterMode
  repeat' first
    | with_reducible exact Kept.refl _ _
    | with_reducible assumption
    | with_reducible apply State.beaconRestart_k
    | with_reducible apply State.modRecord_k
    | with_reducible apply State.changeMode_k
    | with_reducible apply State.coldReset_k
    | with_reducible apply State.settle_k
    | with_reducible apply State.closeSession_k
    | with_reducible apply State.wakeHost_k
    | with_reducible apply State.abortWork_k
    | with_reducible apply State.newChallenge_k
    | (extract_lets +onlyGivenNames x; first
        | (with_reducible refine Kept.cut (x := x) ?_ ?_; (on_goal 2 => (clear_value x; intro hx)); (on_goal 1 => (unfold x; clear x)))
        | clear_value x
        | (unfold x; clear x))
    | exact rfl
    | split
    | (with_reducible apply Kept.upd <;> try first
        | exact rfl
        | exact Or.inl rfl
        | exact Or.inr rfl)

theorem State.faultHold_k {m : Nat} {s0 : State} (cause : HoldCause) (detail : Nat) (s : State) (hm :
    0x2BF3F7FFF0FFDC &&& m = 0x2BF3F7FFF0FFDC) (h0 : Kept m s0 s) : Kept m s0 (State.faultHold cause detail s) := by
  refine Kept.step hm ?_ h0; clear h0 hm
  unfold State.faultHold
  repeat' first
    | with_reducible exact Kept.refl _ _
    | with_reducible assumption
    | with_reducible apply State.wr_k
    | with_reducible apply State.changeMode_k
    | with_reducible apply State.settle_k
    | with_reducible apply State.abortWork_k
    | (extract_lets +onlyGivenNames x; first
        | (with_reducible refine Kept.cut (x := x) ?_ ?_; (on_goal 2 => (clear_value x; intro hx)); (on_goal 1 => (unfold x; clear x)))
        | clear_value x
        | (unfold x; clear x))
    | exact rfl
    | split
    | with_reducible apply Kept.set_ctl

end Sys2Proof.Machine
end

