-- ==== Sys2Proof/Laws/State.lean ====
section
/-! SUPPORT. What each named update of the state leaves alone: every field but its own; and what its own field then reads as. -/
namespace Sys2Proof.Machine

@[simp] theorem State.wr_fields (off : Nat) (w : Word) (s : State) :
    (s.wr off w).pending = s.pending ∧ (s.wr off w).fuse = s.fuse ∧ (s.wr off w).ctl = s.ctl ∧ (s.wr off w).stage =
    s.stage ∧ (s.wr off w).latch = s.latch ∧ (s.wr off w).mem = s.mem ∧ (s.wr off w).links = s.links ∧ (s.wr off
    w).recs = s.recs ∧ (s.wr off w).descs = s.descs ∧ (s.wr off w).fifos = s.fifos ∧ (s.wr off w).partners =
    s.partners ∧ (s.wr off w).books = s.books ∧ (s.wr off w).transit = s.transit ∧ (s.wr off w).held = s.held ∧
    (s.wr off w).waits = s.waits ∧ (s.wr off w).nextId = s.nextId ∧ (s.wr off w).psnap = s.psnap ∧ (s.wr off
    w).retiredRows = s.retiredRows ∧ (s.wr off w).spareRows = s.spareRows ∧ (s.wr off w).slices = s.slices ∧ (s.wr
    off w).routes = s.routes ∧ (s.wr off w).routeOwners = s.routeOwners ∧ (s.wr off w).tunSeq = s.tunSeq ∧ (s.wr off
    w).gwLate = s.gwLate ∧ (s.wr off w).gwDown = s.gwDown ∧ (s.wr off w).irq = s.irq ∧ (s.wr off w).eqs = s.eqs ∧
    (s.wr off w).hold = s.hold ∧ (s.wr off w).host = s.host ∧ (s.wr off w).hostQs = s.hostQs ∧ (s.wr off w).yw =
    s.yw ∧ (s.wr off w).beacon = s.beacon ∧ (s.wr off w).bports = s.bports ∧ (s.wr off w).bus = s.bus ∧ (s.wr off
    w).nodes = s.nodes ∧ (s.wr off w).ports = s.ports ∧ (s.wr off w).cycle = s.cycle ∧ (s.wr off w).gridK = s.gridK
    ∧ (s.wr off w).scheds = s.scheds ∧ (s.wr off w).timelines = s.timelines ∧ (s.wr off w).ctxs = s.ctxs ∧ (s.wr off
    w).quar = s.quar ∧ (s.wr off w).chkRetired = s.chkRetired ∧ (s.wr off w).engines = s.engines ∧ (s.wr off
    w).shared = s.shared ∧ (s.wr off w).tiles = s.tiles ∧ (s.wr off w).loads = s.loads ∧ (s.wr off w).struct =
    s.struct ∧ (s.wr off w).keeper = s.keeper ∧ (s.wr off w).power = s.power ∧ (s.wr off w).spars = s.spars ∧ (s.wr
    off w).health = s.health ∧ (s.wr off w).out = s.out ∧ (s.wr off w).free = s.free := by
  refine ⟨?_, ?_, ?_, ?_, ?_, ?_, ?_, ?_, ?_, ?_, ?_, ?_, ?_, ?_, ?_, ?_, ?_, ?_, ?_, ?_, ?_, ?_, ?_, ?_, ?_, ?_, ?_, ?_, ?_, ?_, ?_, ?_, ?_, ?_, ?_, ?_, ?_, ?_, ?_, ?_, ?_, ?_, ?_, ?_, ?_, ?_, ?_, ?_, ?_, ?_, ?_, ?_, ?_, ?_⟩ <;> rfl

@[simp] theorem State.setDesc_fields (i : Nat) (d : Desc) (s : State) :
    (s.setDesc i d).pending = s.pending ∧ (s.setDesc i d).fuse = s.fuse ∧ (s.setDesc i d).ctl = s.ctl ∧ (s.setDesc i
    d).regs = s.regs ∧ (s.setDesc i d).stage = s.stage ∧ (s.setDesc i d).latch = s.latch ∧ (s.setDesc i d).mem =
    s.mem ∧ (s.setDesc i d).links = s.links ∧ (s.setDesc i d).recs = s.recs ∧ (s.setDesc i d).fifos = s.fifos ∧
    (s.setDesc i d).partners = s.partners ∧ (s.setDesc i d).books = s.books ∧ (s.setDesc i d).transit = s.transit ∧
    (s.setDesc i d).held = s.held ∧ (s.setDesc i d).waits = s.waits ∧ (s.setDesc i d).nextId = s.nextId ∧ (s.setDesc
    i d).psnap = s.psnap ∧ (s.setDesc i d).retiredRows = s.retiredRows ∧ (s.setDesc i d).spareRows = s.spareRows ∧
    (s.setDesc i d).slices = s.slices ∧ (s.setDesc i d).routes = s.routes ∧ (s.setDesc i d).routeOwners =
    s.routeOwners ∧ (s.setDesc i d).tunSeq = s.tunSeq ∧ (s.setDesc i d).gwLate = s.gwLate ∧ (s.setDesc i d).gwDown =
    s.gwDown ∧ (s.setDesc i d).irq = s.irq ∧ (s.setDesc i d).eqs = s.eqs ∧ (s.setDesc i d).hold = s.hold ∧
    (s.setDesc i d).host = s.host ∧ (s.setDesc i d).hostQs = s.hostQs ∧ (s.setDesc i d).yw = s.yw ∧ (s.setDesc i
    d).beacon = s.beacon ∧ (s.setDesc i d).bports = s.bports ∧ (s.setDesc i d).bus = s.bus ∧ (s.setDesc i d).nodes =
    s.nodes ∧ (s.setDesc i d).ports = s.ports ∧ (s.setDesc i d).cycle = s.cycle ∧ (s.setDesc i d).gridK = s.gridK ∧
    (s.setDesc i d).scheds = s.scheds ∧ (s.setDesc i d).timelines = s.timelines ∧ (s.setDesc i d).ctxs = s.ctxs ∧
    (s.setDesc i d).quar = s.quar ∧ (s.setDesc i d).chkRetired = s.chkRetired ∧ (s.setDesc i d).engines = s.engines
    ∧ (s.setDesc i d).shared = s.shared ∧ (s.setDesc i d).tiles = s.tiles ∧ (s.setDesc i d).loads = s.loads ∧
    (s.setDesc i d).struct = s.struct ∧ (s.setDesc i d).keeper = s.keeper ∧ (s.setDesc i d).power = s.power ∧
    (s.setDesc i d).spars = s.spars ∧ (s.setDesc i d).health = s.health ∧ (s.setDesc i d).out = s.out ∧ (s.setDesc i
    d).free = s.free := by
  refine ⟨?_, ?_, ?_, ?_, ?_, ?_, ?_, ?_, ?_, ?_, ?_, ?_, ?_, ?_, ?_, ?_, ?_, ?_, ?_, ?_, ?_, ?_, ?_, ?_, ?_, ?_, ?_, ?_, ?_, ?_, ?_, ?_, ?_, ?_, ?_, ?_, ?_, ?_, ?_, ?_, ?_, ?_, ?_, ?_, ?_, ?_, ?_, ?_, ?_, ?_, ?_, ?_, ?_, ?_⟩ <;> rfl

@[simp] theorem State.setFifo_fields (i : Nat) (d : Fifo) (s : State) :
    (s.setFifo i d).pending = s.pending ∧ (s.setFifo i d).fuse = s.fuse ∧ (s.setFifo i d).ctl = s.ctl ∧ (s.setFifo i
    d).regs = s.regs ∧ (s.setFifo i d).stage = s.stage ∧ (s.setFifo i d).latch = s.latch ∧ (s.setFifo i d).mem =
    s.mem ∧ (s.setFifo i d).links = s.links ∧ (s.setFifo i d).recs = s.recs ∧ (s.setFifo i d).descs = s.descs ∧
    (s.setFifo i d).partners = s.partners ∧ (s.setFifo i d).books = s.books ∧ (s.setFifo i d).transit = s.transit ∧
    (s.setFifo i d).held = s.held ∧ (s.setFifo i d).waits = s.waits ∧ (s.setFifo i d).nextId = s.nextId ∧ (s.setFifo
    i d).psnap = s.psnap ∧ (s.setFifo i d).retiredRows = s.retiredRows ∧ (s.setFifo i d).spareRows = s.spareRows ∧
    (s.setFifo i d).slices = s.slices ∧ (s.setFifo i d).routes = s.routes ∧ (s.setFifo i d).routeOwners =
    s.routeOwners ∧ (s.setFifo i d).tunSeq = s.tunSeq ∧ (s.setFifo i d).gwLate = s.gwLate ∧ (s.setFifo i d).gwDown =
    s.gwDown ∧ (s.setFifo i d).irq = s.irq ∧ (s.setFifo i d).eqs = s.eqs ∧ (s.setFifo i d).hold = s.hold ∧
    (s.setFifo i d).host = s.host ∧ (s.setFifo i d).hostQs = s.hostQs ∧ (s.setFifo i d).yw = s.yw ∧ (s.setFifo i
    d).beacon = s.beacon ∧ (s.setFifo i d).bports = s.bports ∧ (s.setFifo i d).bus = s.bus ∧ (s.setFifo i d).nodes =
    s.nodes ∧ (s.setFifo i d).ports = s.ports ∧ (s.setFifo i d).cycle = s.cycle ∧ (s.setFifo i d).gridK = s.gridK ∧
    (s.setFifo i d).scheds = s.scheds ∧ (s.setFifo i d).timelines = s.timelines ∧ (s.setFifo i d).ctxs = s.ctxs ∧
    (s.setFifo i d).quar = s.quar ∧ (s.setFifo i d).chkRetired = s.chkRetired ∧ (s.setFifo i d).engines = s.engines
    ∧ (s.setFifo i d).shared = s.shared ∧ (s.setFifo i d).tiles = s.tiles ∧ (s.setFifo i d).loads = s.loads ∧
    (s.setFifo i d).struct = s.struct ∧ (s.setFifo i d).keeper = s.keeper ∧ (s.setFifo i d).power = s.power ∧
    (s.setFifo i d).spars = s.spars ∧ (s.setFifo i d).health = s.health ∧ (s.setFifo i d).out = s.out ∧ (s.setFifo i
    d).free = s.free := by
  refine ⟨?_, ?_, ?_, ?_, ?_, ?_, ?_, ?_, ?_, ?_, ?_, ?_, ?_, ?_, ?_, ?_, ?_, ?_, ?_, ?_, ?_, ?_, ?_, ?_, ?_, ?_, ?_, ?_, ?_, ?_, ?_, ?_, ?_, ?_, ?_, ?_, ?_, ?_, ?_, ?_, ?_, ?_, ?_, ?_, ?_, ?_, ?_, ?_, ?_, ?_, ?_, ?_, ?_, ?_⟩ <;> rfl

@[simp] theorem State.setLink_fields (i : Nat) (d : Link1) (s : State) :
    (s.setLink i d).pending = s.pending ∧ (s.setLink i d).fuse = s.fuse ∧ (s.setLink i d).ctl = s.ctl ∧ (s.setLink i
    d).regs = s.regs ∧ (s.setLink i d).stage = s.stage ∧ (s.setLink i d).latch = s.latch ∧ (s.setLink i d).mem =
    s.mem ∧ (s.setLink i d).recs = s.recs ∧ (s.setLink i d).descs = s.descs ∧ (s.setLink i d).fifos = s.fifos ∧
    (s.setLink i d).partners = s.partners ∧ (s.setLink i d).books = s.books ∧ (s.setLink i d).transit = s.transit ∧
    (s.setLink i d).held = s.held ∧ (s.setLink i d).waits = s.waits ∧ (s.setLink i d).nextId = s.nextId ∧ (s.setLink
    i d).psnap = s.psnap ∧ (s.setLink i d).retiredRows = s.retiredRows ∧ (s.setLink i d).spareRows = s.spareRows ∧
    (s.setLink i d).slices = s.slices ∧ (s.setLink i d).routes = s.routes ∧ (s.setLink i d).routeOwners =
    s.routeOwners ∧ (s.setLink i d).tunSeq = s.tunSeq ∧ (s.setLink i d).gwLate = s.gwLate ∧ (s.setLink i d).gwDown =
    s.gwDown ∧ (s.setLink i d).irq = s.irq ∧ (s.setLink i d).eqs = s.eqs ∧ (s.setLink i d).hold = s.hold ∧
    (s.setLink i d).host = s.host ∧ (s.setLink i d).hostQs = s.hostQs ∧ (s.setLink i d).yw = s.yw ∧ (s.setLink i
    d).beacon = s.beacon ∧ (s.setLink i d).bports = s.bports ∧ (s.setLink i d).bus = s.bus ∧ (s.setLink i d).nodes =
    s.nodes ∧ (s.setLink i d).ports = s.ports ∧ (s.setLink i d).cycle = s.cycle ∧ (s.setLink i d).gridK = s.gridK ∧
    (s.setLink i d).scheds = s.scheds ∧ (s.setLink i d).timelines = s.timelines ∧ (s.setLink i d).ctxs = s.ctxs ∧
    (s.setLink i d).quar = s.quar ∧ (s.setLink i d).chkRetired = s.chkRetired ∧ (s.setLink i d).engines = s.engines
    ∧ (s.setLink i d).shared = s.shared ∧ (s.setLink i d).tiles = s.tiles ∧ (s.setLink i d).loads = s.loads ∧
    (s.setLink i d).struct = s.struct ∧ (s.setLink i d).keeper = s.keeper ∧ (s.setLink i d).power = s.power ∧
    (s.setLink i d).spars = s.spars ∧ (s.setLink i d).health = s.health ∧ (s.setLink i d).out = s.out ∧ (s.setLink i
    d).free = s.free := by
  refine ⟨?_, ?_, ?_, ?_, ?_, ?_, ?_, ?_, ?_, ?_, ?_, ?_, ?_, ?_, ?_, ?_, ?_, ?_, ?_, ?_, ?_, ?_, ?_, ?_, ?_, ?_, ?_, ?_, ?_, ?_, ?_, ?_, ?_, ?_, ?_, ?_, ?_, ?_, ?_, ?_, ?_, ?_, ?_, ?_, ?_, ?_, ?_, ?_, ?_, ?_, ?_, ?_, ?_, ?_⟩ <;> rfl

@[simp] theorem State.setRecord_fields (i : Nat) (d : Option Rec) (s : State) :
    (s.setRecord i d).pending = s.pending ∧ (s.setRecord i d).fuse = s.fuse ∧ (s.setRecord i d).ctl = s.ctl ∧
    (s.setRecord i d).regs = s.regs ∧ (s.setRecord i d).stage = s.stage ∧ (s.setRecord i d).latch = s.latch ∧
    (s.setRecord i d).mem = s.mem ∧ (s.setRecord i d).links = s.links ∧ (s.setRecord i d).descs = s.descs ∧
    (s.setRecord i d).fifos = s.fifos ∧ (s.setRecord i d).partners = s.partners ∧ (s.setRecord i d).books = s.books
    ∧ (s.setRecord i d).transit = s.transit ∧ (s.setRecord i d).held = s.held ∧ (s.setRecord i d).waits = s.waits ∧
    (s.setRecord i d).nextId = s.nextId ∧ (s.setRecord i d).psnap = s.psnap ∧ (s.setRecord i d).retiredRows =
    s.retiredRows ∧ (s.setRecord i d).spareRows = s.spareRows ∧ (s.setRecord i d).slices = s.slices ∧ (s.setRecord i
    d).routes = s.routes ∧ (s.setRecord i d).routeOwners = s.routeOwners ∧ (s.setRecord i d).tunSeq = s.tunSeq ∧
    (s.setRecord i d).gwLate = s.gwLate ∧ (s.setRecord i d).gwDown = s.gwDown ∧ (s.setRecord i d).irq = s.irq ∧
    (s.setRecord i d).eqs = s.eqs ∧ (s.setRecord i d).hold = s.hold ∧ (s.setRecord i d).host = s.host ∧ (s.setRecord
    i d).hostQs = s.hostQs ∧ (s.setRecord i d).yw = s.yw ∧ (s.setRecord i d).beacon = s.beacon ∧ (s.setRecord i
    d).bports = s.bports ∧ (s.setRecord i d).bus = s.bus ∧ (s.setRecord i d).nodes = s.nodes ∧ (s.setRecord i
    d).ports = s.ports ∧ (s.setRecord i d).cycle = s.cycle ∧ (s.setRecord i d).gridK = s.gridK ∧ (s.setRecord i
    d).scheds = s.scheds ∧ (s.setRecord i d).timelines = s.timelines ∧ (s.setRecord i d).ctxs = s.ctxs ∧
    (s.setRecord i d).quar = s.quar ∧ (s.setRecord i d).chkRetired = s.chkRetired ∧ (s.setRecord i d).engines =
    s.engines ∧ (s.setRecord i d).shared = s.shared ∧ (s.setRecord i d).tiles = s.tiles ∧ (s.setRecord i d).loads =
    s.loads ∧ (s.setRecord i d).struct = s.struct ∧ (s.setRecord i d).keeper = s.keeper ∧ (s.setRecord i d).power =
    s.power ∧ (s.setRecord i d).spars = s.spars ∧ (s.setRecord i d).health = s.health ∧ (s.setRecord i d).out =
    s.out ∧ (s.setRecord i d).free = s.free := by
  refine ⟨?_, ?_, ?_, ?_, ?_, ?_, ?_, ?_, ?_, ?_, ?_, ?_, ?_, ?_, ?_, ?_, ?_, ?_, ?_, ?_, ?_, ?_, ?_, ?_, ?_, ?_, ?_, ?_, ?_, ?_, ?_, ?_, ?_, ?_, ?_, ?_, ?_, ?_, ?_, ?_, ?_, ?_, ?_, ?_, ?_, ?_, ?_, ?_, ?_, ?_, ?_, ?_, ?_, ?_⟩ <;> rfl

@[simp] theorem State.setPartner_fields (i : Nat) (d : Partner) (s : State) :
    (s.setPartner i d).pending = s.pending ∧ (s.setPartner i d).fuse = s.fuse ∧ (s.setPartner i d).ctl = s.ctl ∧
    (s.setPartner i d).regs = s.regs ∧ (s.setPartner i d).stage = s.stage ∧ (s.setPartner i d).latch = s.latch ∧
    (s.setPartner i d).mem = s.mem ∧ (s.setPartner i d).links = s.links ∧ (s.setPartner i d).recs = s.recs ∧
    (s.setPartner i d).descs = s.descs ∧ (s.setPartner i d).fifos = s.fifos ∧ (s.setPartner i d).books = s.books ∧
    (s.setPartner i d).transit = s.transit ∧ (s.setPartner i d).held = s.held ∧ (s.setPartner i d).waits = s.waits ∧
    (s.setPartner i d).nextId = s.nextId ∧ (s.setPartner i d).psnap = s.psnap ∧ (s.setPartner i d).retiredRows =
    s.retiredRows ∧ (s.setPartner i d).spareRows = s.spareRows ∧ (s.setPartner i d).slices = s.slices ∧
    (s.setPartner i d).routes = s.routes ∧ (s.setPartner i d).routeOwners = s.routeOwners ∧ (s.setPartner i
    d).tunSeq = s.tunSeq ∧ (s.setPartner i d).gwLate = s.gwLate ∧ (s.setPartner i d).gwDown = s.gwDown ∧
    (s.setPartner i d).irq = s.irq ∧ (s.setPartner i d).eqs = s.eqs ∧ (s.setPartner i d).hold = s.hold ∧
    (s.setPartner i d).host = s.host ∧ (s.setPartner i d).hostQs = s.hostQs ∧ (s.setPartner i d).yw = s.yw ∧
    (s.setPartner i d).beacon = s.beacon ∧ (s.setPartner i d).bports = s.bports ∧ (s.setPartner i d).bus = s.bus ∧
    (s.setPartner i d).nodes = s.nodes ∧ (s.setPartner i d).ports = s.ports ∧ (s.setPartner i d).cycle = s.cycle ∧
    (s.setPartner i d).gridK = s.gridK ∧ (s.setPartner i d).scheds = s.scheds ∧ (s.setPartner i d).timelines =
    s.timelines ∧ (s.setPartner i d).ctxs = s.ctxs ∧ (s.setPartner i d).quar = s.quar ∧ (s.setPartner i
    d).chkRetired = s.chkRetired ∧ (s.setPartner i d).engines = s.engines ∧ (s.setPartner i d).shared = s.shared ∧
    (s.setPartner i d).tiles = s.tiles ∧ (s.setPartner i d).loads = s.loads ∧ (s.setPartner i d).struct = s.struct ∧
    (s.setPartner i d).keeper = s.keeper ∧ (s.setPartner i d).power = s.power ∧ (s.setPartner i d).spars = s.spars ∧
    (s.setPartner i d).health = s.health ∧ (s.setPartner i d).out = s.out ∧ (s.setPartner i d).free = s.free := by
  refine ⟨?_, ?_, ?_, ?_, ?_, ?_, ?_, ?_, ?_, ?_, ?_, ?_, ?_, ?_, ?_, ?_, ?_, ?_, ?_, ?_, ?_, ?_, ?_, ?_, ?_, ?_, ?_, ?_, ?_, ?_, ?_, ?_, ?_, ?_, ?_, ?_, ?_, ?_, ?_, ?_, ?_, ?_, ?_, ?_, ?_, ?_, ?_, ?_, ?_, ?_, ?_, ?_, ?_, ?_⟩ <;> rfl

@[simp] theorem State.setSlice_fields (i : Nat) (d : Slice) (s : State) :
    (s.setSlice i d).pending = s.pending ∧ (s.setSlice i d).fuse = s.fuse ∧ (s.setSlice i d).ctl = s.ctl ∧
    (s.setSlice i d).regs = s.regs ∧ (s.setSlice i d).stage = s.stage ∧ (s.setSlice i d).latch = s.latch ∧
    (s.setSlice i d).mem = s.mem ∧ (s.setSlice i d).links = s.links ∧ (s.setSlice i d).recs = s.recs ∧ (s.setSlice i
    d).descs = s.descs ∧ (s.setSlice i d).fifos = s.fifos ∧ (s.setSlice i d).partners = s.partners ∧ (s.setSlice i
    d).books = s.books ∧ (s.setSlice i d).transit = s.transit ∧ (s.setSlice i d).held = s.held ∧ (s.setSlice i
    d).waits = s.waits ∧ (s.setSlice i d).nextId = s.nextId ∧ (s.setSlice i d).psnap = s.psnap ∧ (s.setSlice i
    d).retiredRows = s.retiredRows ∧ (s.setSlice i d).spareRows = s.spareRows ∧ (s.setSlice i d).routes = s.routes ∧
    (s.setSlice i d).routeOwners = s.routeOwners ∧ (s.setSlice i d).tunSeq = s.tunSeq ∧ (s.setSlice i d).gwLate =
    s.gwLate ∧ (s.setSlice i d).gwDown = s.gwDown ∧ (s.setSlice i d).irq = s.irq ∧ (s.setSlice i d).eqs = s.eqs ∧
    (s.setSlice i d).hold = s.hold ∧ (s.setSlice i d).host = s.host ∧ (s.setSlice i d).hostQs = s.hostQs ∧
    (s.setSlice i d).yw = s.yw ∧ (s.setSlice i d).beacon = s.beacon ∧ (s.setSlice i d).bports = s.bports ∧
    (s.setSlice i d).bus = s.bus ∧ (s.setSlice i d).nodes = s.nodes ∧ (s.setSlice i d).ports = s.ports ∧ (s.setSlice
    i d).cycle = s.cycle ∧ (s.setSlice i d).gridK = s.gridK ∧ (s.setSlice i d).scheds = s.scheds ∧ (s.setSlice i
    d).timelines = s.timelines ∧ (s.setSlice i d).ctxs = s.ctxs ∧ (s.setSlice i d).quar = s.quar ∧ (s.setSlice i
    d).chkRetired = s.chkRetired ∧ (s.setSlice i d).engines = s.engines ∧ (s.setSlice i d).shared = s.shared ∧
    (s.setSlice i d).tiles = s.tiles ∧ (s.setSlice i d).loads = s.loads ∧ (s.setSlice i d).struct = s.struct ∧
    (s.setSlice i d).keeper = s.keeper ∧ (s.setSlice i d).power = s.power ∧ (s.setSlice i d).spars = s.spars ∧
    (s.setSlice i d).health = s.health ∧ (s.setSlice i d).out = s.out ∧ (s.setSlice i d).free = s.free := by
  refine ⟨?_, ?_, ?_, ?_, ?_, ?_, ?_, ?_, ?_, ?_, ?_, ?_, ?_, ?_, ?_, ?_, ?_, ?_, ?_, ?_, ?_, ?_, ?_, ?_, ?_, ?_, ?_, ?_, ?_, ?_, ?_, ?_, ?_, ?_, ?_, ?_, ?_, ?_, ?_, ?_, ?_, ?_, ?_, ?_, ?_, ?_, ?_, ?_, ?_, ?_, ?_, ?_, ?_, ?_⟩ <;> rfl

@[simp] theorem State.setRoute_fields (i : Nat) (d : List Byte) (s : State) :
    (s.setRoute i d).pending = s.pending ∧ (s.setRoute i d).fuse = s.fuse ∧ (s.setRoute i d).ctl = s.ctl ∧
    (s.setRoute i d).regs = s.regs ∧ (s.setRoute i d).stage = s.stage ∧ (s.setRoute i d).latch = s.latch ∧
    (s.setRoute i d).mem = s.mem ∧ (s.setRoute i d).links = s.links ∧ (s.setRoute i d).recs = s.recs ∧ (s.setRoute i
    d).descs = s.descs ∧ (s.setRoute i d).fifos = s.fifos ∧ (s.setRoute i d).partners = s.partners ∧ (s.setRoute i
    d).books = s.books ∧ (s.setRoute i d).transit = s.transit ∧ (s.setRoute i d).held = s.held ∧ (s.setRoute i
    d).waits = s.waits ∧ (s.setRoute i d).nextId = s.nextId ∧ (s.setRoute i d).psnap = s.psnap ∧ (s.setRoute i
    d).retiredRows = s.retiredRows ∧ (s.setRoute i d).spareRows = s.spareRows ∧ (s.setRoute i d).slices = s.slices ∧
    (s.setRoute i d).routeOwners = s.routeOwners ∧ (s.setRoute i d).tunSeq = s.tunSeq ∧ (s.setRoute i d).gwLate =
    s.gwLate ∧ (s.setRoute i d).gwDown = s.gwDown ∧ (s.setRoute i d).irq = s.irq ∧ (s.setRoute i d).eqs = s.eqs ∧
    (s.setRoute i d).hold = s.hold ∧ (s.setRoute i d).host = s.host ∧ (s.setRoute i d).hostQs = s.hostQs ∧
    (s.setRoute i d).yw = s.yw ∧ (s.setRoute i d).beacon = s.beacon ∧ (s.setRoute i d).bports = s.bports ∧
    (s.setRoute i d).bus = s.bus ∧ (s.setRoute i d).nodes = s.nodes ∧ (s.setRoute i d).ports = s.ports ∧ (s.setRoute
    i d).cycle = s.cycle ∧ (s.setRoute i d).gridK = s.gridK ∧ (s.setRoute i d).scheds = s.scheds ∧ (s.setRoute i
    d).timelines = s.timelines ∧ (s.setRoute i d).ctxs = s.ctxs ∧ (s.setRoute i d).quar = s.quar ∧ (s.setRoute i
    d).chkRetired = s.chkRetired ∧ (s.setRoute i d).engines = s.engines ∧ (s.setRoute i d).shared = s.shared ∧
    (s.setRoute i d).tiles = s.tiles ∧ (s.setRoute i d).loads = s.loads ∧ (s.setRoute i d).struct = s.struct ∧
    (s.setRoute i d).keeper = s.keeper ∧ (s.setRoute i d).power = s.power ∧ (s.setRoute i d).spars = s.spars ∧
    (s.setRoute i d).health = s.health ∧ (s.setRoute i d).out = s.out ∧ (s.setRoute i d).free = s.free := by
  refine ⟨?_, ?_, ?_, ?_, ?_, ?_, ?_, ?_, ?_, ?_, ?_, ?_, ?_, ?_, ?_, ?_, ?_, ?_, ?_, ?_, ?_, ?_, ?_, ?_, ?_, ?_, ?_, ?_, ?_, ?_, ?_, ?_, ?_, ?_, ?_, ?_, ?_, ?_, ?_, ?_, ?_, ?_, ?_, ?_, ?_, ?_, ?_, ?_, ?_, ?_, ?_, ?_, ?_, ?_⟩ <;> rfl

@[simp] theorem State.setSrc_fields (i : Nat) (d : IrqSrc) (s : State) :
    (s.setSrc i d).pending = s.pending ∧ (s.setSrc i d).fuse = s.fuse ∧ (s.setSrc i d).ctl = s.ctl ∧ (s.setSrc i
    d).regs = s.regs ∧ (s.setSrc i d).stage = s.stage ∧ (s.setSrc i d).latch = s.latch ∧ (s.setSrc i d).mem = s.mem
    ∧ (s.setSrc i d).links = s.links ∧ (s.setSrc i d).recs = s.recs ∧ (s.setSrc i d).descs = s.descs ∧ (s.setSrc i
    d).fifos = s.fifos ∧ (s.setSrc i d).partners = s.partners ∧ (s.setSrc i d).books = s.books ∧ (s.setSrc i
    d).transit = s.transit ∧ (s.setSrc i d).held = s.held ∧ (s.setSrc i d).waits = s.waits ∧ (s.setSrc i d).nextId =
    s.nextId ∧ (s.setSrc i d).psnap = s.psnap ∧ (s.setSrc i d).retiredRows = s.retiredRows ∧ (s.setSrc i
    d).spareRows = s.spareRows ∧ (s.setSrc i d).slices = s.slices ∧ (s.setSrc i d).routes = s.routes ∧ (s.setSrc i
    d).routeOwners = s.routeOwners ∧ (s.setSrc i d).tunSeq = s.tunSeq ∧ (s.setSrc i d).gwLate = s.gwLate ∧ (s.setSrc
    i d).gwDown = s.gwDown ∧ (s.setSrc i d).eqs = s.eqs ∧ (s.setSrc i d).hold = s.hold ∧ (s.setSrc i d).host =
    s.host ∧ (s.setSrc i d).hostQs = s.hostQs ∧ (s.setSrc i d).yw = s.yw ∧ (s.setSrc i d).beacon = s.beacon ∧
    (s.setSrc i d).bports = s.bports ∧ (s.setSrc i d).bus = s.bus ∧ (s.setSrc i d).nodes = s.nodes ∧ (s.setSrc i
    d).ports = s.ports ∧ (s.setSrc i d).cycle = s.cycle ∧ (s.setSrc i d).gridK = s.gridK ∧ (s.setSrc i d).scheds =
    s.scheds ∧ (s.setSrc i d).timelines = s.timelines ∧ (s.setSrc i d).ctxs = s.ctxs ∧ (s.setSrc i d).quar = s.quar
    ∧ (s.setSrc i d).chkRetired = s.chkRetired ∧ (s.setSrc i d).engines = s.engines ∧ (s.setSrc i d).shared =
    s.shared ∧ (s.setSrc i d).tiles = s.tiles ∧ (s.setSrc i d).loads = s.loads ∧ (s.setSrc i d).struct = s.struct ∧
    (s.setSrc i d).keeper = s.keeper ∧ (s.setSrc i d).power = s.power ∧ (s.setSrc i d).spars = s.spars ∧ (s.setSrc i
    d).health = s.health ∧ (s.setSrc i d).out = s.out ∧ (s.setSrc i d).free = s.free := by
  refine ⟨?_, ?_, ?_, ?_, ?_, ?_, ?_, ?_, ?_, ?_, ?_, ?_, ?_, ?_, ?_, ?_, ?_, ?_, ?_, ?_, ?_, ?_, ?_, ?_, ?_, ?_, ?_, ?_, ?_, ?_, ?_, ?_, ?_, ?_, ?_, ?_, ?_, ?_, ?_, ?_, ?_, ?_, ?_, ?_, ?_, ?_, ?_, ?_, ?_, ?_, ?_, ?_, ?_, ?_⟩ <;> rfl

@[simp] theorem State.setEq_fields (i : Nat) (d : EventQ) (s : State) :
    (s.setEq i d).pending = s.pending ∧ (s.setEq i d).fuse = s.fuse ∧ (s.setEq i d).ctl = s.ctl ∧ (s.setEq i d).regs
    = s.regs ∧ (s.setEq i d).stage = s.stage ∧ (s.setEq i d).latch = s.latch ∧ (s.setEq i d).mem = s.mem ∧ (s.setEq
    i d).links = s.links ∧ (s.setEq i d).recs = s.recs ∧ (s.setEq i d).descs = s.descs ∧ (s.setEq i d).fifos =
    s.fifos ∧ (s.setEq i d).partners = s.partners ∧ (s.setEq i d).books = s.books ∧ (s.setEq i d).transit =
    s.transit ∧ (s.setEq i d).held = s.held ∧ (s.setEq i d).waits = s.waits ∧ (s.setEq i d).nextId = s.nextId ∧
    (s.setEq i d).psnap = s.psnap ∧ (s.setEq i d).retiredRows = s.retiredRows ∧ (s.setEq i d).spareRows =
    s.spareRows ∧ (s.setEq i d).slices = s.slices ∧ (s.setEq i d).routes = s.routes ∧ (s.setEq i d).routeOwners =
    s.routeOwners ∧ (s.setEq i d).tunSeq = s.tunSeq ∧ (s.setEq i d).gwLate = s.gwLate ∧ (s.setEq i d).gwDown =
    s.gwDown ∧ (s.setEq i d).irq = s.irq ∧ (s.setEq i d).hold = s.hold ∧ (s.setEq i d).host = s.host ∧ (s.setEq i
    d).hostQs = s.hostQs ∧ (s.setEq i d).yw = s.yw ∧ (s.setEq i d).beacon = s.beacon ∧ (s.setEq i d).bports =
    s.bports ∧ (s.setEq i d).bus = s.bus ∧ (s.setEq i d).nodes = s.nodes ∧ (s.setEq i d).ports = s.ports ∧ (s.setEq
    i d).cycle = s.cycle ∧ (s.setEq i d).gridK = s.gridK ∧ (s.setEq i d).scheds = s.scheds ∧ (s.setEq i d).timelines
    = s.timelines ∧ (s.setEq i d).ctxs = s.ctxs ∧ (s.setEq i d).quar = s.quar ∧ (s.setEq i d).chkRetired =
    s.chkRetired ∧ (s.setEq i d).engines = s.engines ∧ (s.setEq i d).shared = s.shared ∧ (s.setEq i d).tiles =
    s.tiles ∧ (s.setEq i d).loads = s.loads ∧ (s.setEq i d).struct = s.struct ∧ (s.setEq i d).keeper = s.keeper ∧
    (s.setEq i d).power = s.power ∧ (s.setEq i d).spars = s.spars ∧ (s.setEq i d).health = s.health ∧ (s.setEq i
    d).out = s.out ∧ (s.setEq i d).free = s.free := by
  refine ⟨?_, ?_, ?_, ?_, ?_, ?_, ?_, ?_, ?_, ?_, ?_, ?_, ?_, ?_, ?_, ?_, ?_, ?_, ?_, ?_, ?_, ?_, ?_, ?_, ?_, ?_, ?_, ?_, ?_, ?_, ?_, ?_, ?_, ?_, ?_, ?_, ?_, ?_, ?_, ?_, ?_, ?_, ?_, ?_, ?_, ?_, ?_, ?_, ?_, ?_, ?_, ?_, ?_, ?_⟩ <;> rfl

@[simp] theorem State.setMsix_fields (i : Nat) (d : Msix) (s : State) :
    (s.setMsix i d).pending = s.pending ∧ (s.setMsix i d).fuse = s.fuse ∧ (s.setMsix i d).ctl = s.ctl ∧ (s.setMsix i
    d).regs = s.regs ∧ (s.setMsix i d).stage = s.stage ∧ (s.setMsix i d).latch = s.latch ∧ (s.setMsix i d).mem =
    s.mem ∧ (s.setMsix i d).links = s.links ∧ (s.setMsix i d).recs = s.recs ∧ (s.setMsix i d).descs = s.descs ∧
    (s.setMsix i d).fifos = s.fifos ∧ (s.setMsix i d).partners = s.partners ∧ (s.setMsix i d).books = s.books ∧
    (s.setMsix i d).transit = s.transit ∧ (s.setMsix i d).held = s.held ∧ (s.setMsix i d).waits = s.waits ∧
    (s.setMsix i d).nextId = s.nextId ∧ (s.setMsix i d).psnap = s.psnap ∧ (s.setMsix i d).retiredRows =
    s.retiredRows ∧ (s.setMsix i d).spareRows = s.spareRows ∧ (s.setMsix i d).slices = s.slices ∧ (s.setMsix i
    d).routes = s.routes ∧ (s.setMsix i d).routeOwners = s.routeOwners ∧ (s.setMsix i d).tunSeq = s.tunSeq ∧
    (s.setMsix i d).gwLate = s.gwLate ∧ (s.setMsix i d).gwDown = s.gwDown ∧ (s.setMsix i d).irq = s.irq ∧ (s.setMsix
    i d).eqs = s.eqs ∧ (s.setMsix i d).hold = s.hold ∧ (s.setMsix i d).hostQs = s.hostQs ∧ (s.setMsix i d).yw = s.yw
    ∧ (s.setMsix i d).beacon = s.beacon ∧ (s.setMsix i d).bports = s.bports ∧ (s.setMsix i d).bus = s.bus ∧
    (s.setMsix i d).nodes = s.nodes ∧ (s.setMsix i d).ports = s.ports ∧ (s.setMsix i d).cycle = s.cycle ∧ (s.setMsix
    i d).gridK = s.gridK ∧ (s.setMsix i d).scheds = s.scheds ∧ (s.setMsix i d).timelines = s.timelines ∧ (s.setMsix
    i d).ctxs = s.ctxs ∧ (s.setMsix i d).quar = s.quar ∧ (s.setMsix i d).chkRetired = s.chkRetired ∧ (s.setMsix i
    d).engines = s.engines ∧ (s.setMsix i d).shared = s.shared ∧ (s.setMsix i d).tiles = s.tiles ∧ (s.setMsix i
    d).loads = s.loads ∧ (s.setMsix i d).struct = s.struct ∧ (s.setMsix i d).keeper = s.keeper ∧ (s.setMsix i
    d).power = s.power ∧ (s.setMsix i d).spars = s.spars ∧ (s.setMsix i d).health = s.health ∧ (s.setMsix i d).out =
    s.out ∧ (s.setMsix i d).free = s.free := by
  refine ⟨?_, ?_, ?_, ?_, ?_, ?_, ?_, ?_, ?_, ?_, ?_, ?_, ?_, ?_, ?_, ?_, ?_, ?_, ?_, ?_, ?_, ?_, ?_, ?_, ?_, ?_, ?_, ?_, ?_, ?_, ?_, ?_, ?_, ?_, ?_, ?_, ?_, ?_, ?_, ?_, ?_, ?_, ?_, ?_, ?_, ?_, ?_, ?_, ?_, ?_, ?_, ?_, ?_, ?_⟩ <;> rfl

@[simp] theorem State.setHostQ_fields (i : Nat) (d : HostQ) (s : State) :
    (s.setHostQ i d).pending = s.pending ∧ (s.setHostQ i d).fuse = s.fuse ∧ (s.setHostQ i d).ctl = s.ctl ∧
    (s.setHostQ i d).regs = s.regs ∧ (s.setHostQ i d).stage = s.stage ∧ (s.setHostQ i d).latch = s.latch ∧
    (s.setHostQ i d).mem = s.mem ∧ (s.setHostQ i d).links = s.links ∧ (s.setHostQ i d).recs = s.recs ∧ (s.setHostQ i
    d).descs = s.descs ∧ (s.setHostQ i d).fifos = s.fifos ∧ (s.setHostQ i d).partners = s.partners ∧ (s.setHostQ i
    d).books = s.books ∧ (s.setHostQ i d).transit = s.transit ∧ (s.setHostQ i d).held = s.held ∧ (s.setHostQ i
    d).waits = s.waits ∧ (s.setHostQ i d).nextId = s.nextId ∧ (s.setHostQ i d).psnap = s.psnap ∧ (s.setHostQ i
    d).retiredRows = s.retiredRows ∧ (s.setHostQ i d).spareRows = s.spareRows ∧ (s.setHostQ i d).slices = s.slices ∧
    (s.setHostQ i d).routes = s.routes ∧ (s.setHostQ i d).routeOwners = s.routeOwners ∧ (s.setHostQ i d).tunSeq =
    s.tunSeq ∧ (s.setHostQ i d).gwLate = s.gwLate ∧ (s.setHostQ i d).gwDown = s.gwDown ∧ (s.setHostQ i d).irq =
    s.irq ∧ (s.setHostQ i d).eqs = s.eqs ∧ (s.setHostQ i d).hold = s.hold ∧ (s.setHostQ i d).host = s.host ∧
    (s.setHostQ i d).yw = s.yw ∧ (s.setHostQ i d).beacon = s.beacon ∧ (s.setHostQ i d).bports = s.bports ∧
    (s.setHostQ i d).bus = s.bus ∧ (s.setHostQ i d).nodes = s.nodes ∧ (s.setHostQ i d).ports = s.ports ∧ (s.setHostQ
    i d).cycle = s.cycle ∧ (s.setHostQ i d).gridK = s.gridK ∧ (s.setHostQ i d).scheds = s.scheds ∧ (s.setHostQ i
    d).timelines = s.timelines ∧ (s.setHostQ i d).ctxs = s.ctxs ∧ (s.setHostQ i d).quar = s.quar ∧ (s.setHostQ i
    d).chkRetired = s.chkRetired ∧ (s.setHostQ i d).engines = s.engines ∧ (s.setHostQ i d).shared = s.shared ∧
    (s.setHostQ i d).tiles = s.tiles ∧ (s.setHostQ i d).loads = s.loads ∧ (s.setHostQ i d).struct = s.struct ∧
    (s.setHostQ i d).keeper = s.keeper ∧ (s.setHostQ i d).power = s.power ∧ (s.setHostQ i d).spars = s.spars ∧
    (s.setHostQ i d).health = s.health ∧ (s.setHostQ i d).out = s.out ∧ (s.setHostQ i d).free = s.free := by
  refine ⟨?_, ?_, ?_, ?_, ?_, ?_, ?_, ?_, ?_, ?_, ?_, ?_, ?_, ?_, ?_, ?_, ?_, ?_, ?_, ?_, ?_, ?_, ?_, ?_, ?_, ?_, ?_, ?_, ?_, ?_, ?_, ?_, ?_, ?_, ?_, ?_, ?_, ?_, ?_, ?_, ?_, ?_, ?_, ?_, ?_, ?_, ?_, ?_, ?_, ?_, ?_, ?_, ?_, ?_⟩ <;> rfl

@[simp] theorem State.setBport_fields (i : Nat) (d : BcnPort) (s : State) :
    (s.setBport i d).pending = s.pending ∧ (s.setBport i d).fuse = s.fuse ∧ (s.setBport i d).ctl = s.ctl ∧
    (s.setBport i d).regs = s.regs ∧ (s.setBport i d).stage = s.stage ∧ (s.setBport i d).latch = s.latch ∧
    (s.setBport i d).mem = s.mem ∧ (s.setBport i d).links = s.links ∧ (s.setBport i d).recs = s.recs ∧ (s.setBport i
    d).descs = s.descs ∧ (s.setBport i d).fifos = s.fifos ∧ (s.setBport i d).partners = s.partners ∧ (s.setBport i
    d).books = s.books ∧ (s.setBport i d).transit = s.transit ∧ (s.setBport i d).held = s.held ∧ (s.setBport i
    d).waits = s.waits ∧ (s.setBport i d).nextId = s.nextId ∧ (s.setBport i d).psnap = s.psnap ∧ (s.setBport i
    d).retiredRows = s.retiredRows ∧ (s.setBport i d).spareRows = s.spareRows ∧ (s.setBport i d).slices = s.slices ∧
    (s.setBport i d).routes = s.routes ∧ (s.setBport i d).routeOwners = s.routeOwners ∧ (s.setBport i d).tunSeq =
    s.tunSeq ∧ (s.setBport i d).gwLate = s.gwLate ∧ (s.setBport i d).gwDown = s.gwDown ∧ (s.setBport i d).irq =
    s.irq ∧ (s.setBport i d).eqs = s.eqs ∧ (s.setBport i d).hold = s.hold ∧ (s.setBport i d).host = s.host ∧
    (s.setBport i d).hostQs = s.hostQs ∧ (s.setBport i d).yw = s.yw ∧ (s.setBport i d).beacon = s.beacon ∧
    (s.setBport i d).bus = s.bus ∧ (s.setBport i d).nodes = s.nodes ∧ (s.setBport i d).ports = s.ports ∧ (s.setBport
    i d).cycle = s.cycle ∧ (s.setBport i d).gridK = s.gridK ∧ (s.setBport i d).scheds = s.scheds ∧ (s.setBport i
    d).timelines = s.timelines ∧ (s.setBport i d).ctxs = s.ctxs ∧ (s.setBport i d).quar = s.quar ∧ (s.setBport i
    d).chkRetired = s.chkRetired ∧ (s.setBport i d).engines = s.engines ∧ (s.setBport i d).shared = s.shared ∧
    (s.setBport i d).tiles = s.tiles ∧ (s.setBport i d).loads = s.loads ∧ (s.setBport i d).struct = s.struct ∧
    (s.setBport i d).keeper = s.keeper ∧ (s.setBport i d).power = s.power ∧ (s.setBport i d).spars = s.spars ∧
    (s.setBport i d).health = s.health ∧ (s.setBport i d).out = s.out ∧ (s.setBport i d).free = s.free := by
  refine ⟨?_, ?_, ?_, ?_, ?_, ?_, ?_, ?_, ?_, ?_, ?_, ?_, ?_, ?_, ?_, ?_, ?_, ?_, ?_, ?_, ?_, ?_, ?_, ?_, ?_, ?_, ?_, ?_, ?_, ?_, ?_, ?_, ?_, ?_, ?_, ?_, ?_, ?_, ?_, ?_, ?_, ?_, ?_, ?_, ?_, ?_, ?_, ?_, ?_, ?_, ?_, ?_, ?_, ?_⟩ <;> rfl

@[simp] theorem State.setLane_fields (i : Nat) (d : BusLane) (s : State) :
    (s.setLane i d).pending = s.pending ∧ (s.setLane i d).fuse = s.fuse ∧ (s.setLane i d).ctl = s.ctl ∧ (s.setLane i
    d).regs = s.regs ∧ (s.setLane i d).stage = s.stage ∧ (s.setLane i d).latch = s.latch ∧ (s.setLane i d).mem =
    s.mem ∧ (s.setLane i d).links = s.links ∧ (s.setLane i d).recs = s.recs ∧ (s.setLane i d).descs = s.descs ∧
    (s.setLane i d).fifos = s.fifos ∧ (s.setLane i d).partners = s.partners ∧ (s.setLane i d).books = s.books ∧
    (s.setLane i d).transit = s.transit ∧ (s.setLane i d).held = s.held ∧ (s.setLane i d).waits = s.waits ∧
    (s.setLane i d).nextId = s.nextId ∧ (s.setLane i d).psnap = s.psnap ∧ (s.setLane i d).retiredRows =
    s.retiredRows ∧ (s.setLane i d).spareRows = s.spareRows ∧ (s.setLane i d).slices = s.slices ∧ (s.setLane i
    d).routes = s.routes ∧ (s.setLane i d).routeOwners = s.routeOwners ∧ (s.setLane i d).tunSeq = s.tunSeq ∧
    (s.setLane i d).gwLate = s.gwLate ∧ (s.setLane i d).gwDown = s.gwDown ∧ (s.setLane i d).irq = s.irq ∧ (s.setLane
    i d).eqs = s.eqs ∧ (s.setLane i d).hold = s.hold ∧ (s.setLane i d).host = s.host ∧ (s.setLane i d).hostQs =
    s.hostQs ∧ (s.setLane i d).yw = s.yw ∧ (s.setLane i d).beacon = s.beacon ∧ (s.setLane i d).bports = s.bports ∧
    (s.setLane i d).nodes = s.nodes ∧ (s.setLane i d).ports = s.ports ∧ (s.setLane i d).cycle = s.cycle ∧ (s.setLane
    i d).gridK = s.gridK ∧ (s.setLane i d).scheds = s.scheds ∧ (s.setLane i d).timelines = s.timelines ∧ (s.setLane
    i d).ctxs = s.ctxs ∧ (s.setLane i d).quar = s.quar ∧ (s.setLane i d).chkRetired = s.chkRetired ∧ (s.setLane i
    d).engines = s.engines ∧ (s.setLane i d).shared = s.shared ∧ (s.setLane i d).tiles = s.tiles ∧ (s.setLane i
    d).loads = s.loads ∧ (s.setLane i d).struct = s.struct ∧ (s.setLane i d).keeper = s.keeper ∧ (s.setLane i
    d).power = s.power ∧ (s.setLane i d).spars = s.spars ∧ (s.setLane i d).health = s.health ∧ (s.setLane i d).out =
    s.out ∧ (s.setLane i d).free = s.free := by
  refine ⟨?_, ?_, ?_, ?_, ?_, ?_, ?_, ?_, ?_, ?_, ?_, ?_, ?_, ?_, ?_, ?_, ?_, ?_, ?_, ?_, ?_, ?_, ?_, ?_, ?_, ?_, ?_, ?_, ?_, ?_, ?_, ?_, ?_, ?_, ?_, ?_, ?_, ?_, ?_, ?_, ?_, ?_, ?_, ?_, ?_, ?_, ?_, ?_, ?_, ?_, ?_, ?_, ?_, ?_⟩ <;> rfl

@[simp] theorem State.setNode_fields (i : Nat) (d : NodeEnt) (s : State) :
    (s.setNode i d).pending = s.pending ∧ (s.setNode i d).fuse = s.fuse ∧ (s.setNode i d).ctl = s.ctl ∧ (s.setNode i
    d).regs = s.regs ∧ (s.setNode i d).stage = s.stage ∧ (s.setNode i d).latch = s.latch ∧ (s.setNode i d).mem =
    s.mem ∧ (s.setNode i d).links = s.links ∧ (s.setNode i d).recs = s.recs ∧ (s.setNode i d).descs = s.descs ∧
    (s.setNode i d).fifos = s.fifos ∧ (s.setNode i d).partners = s.partners ∧ (s.setNode i d).books = s.books ∧
    (s.setNode i d).transit = s.transit ∧ (s.setNode i d).held = s.held ∧ (s.setNode i d).waits = s.waits ∧
    (s.setNode i d).nextId = s.nextId ∧ (s.setNode i d).psnap = s.psnap ∧ (s.setNode i d).retiredRows =
    s.retiredRows ∧ (s.setNode i d).spareRows = s.spareRows ∧ (s.setNode i d).slices = s.slices ∧ (s.setNode i
    d).routes = s.routes ∧ (s.setNode i d).routeOwners = s.routeOwners ∧ (s.setNode i d).tunSeq = s.tunSeq ∧
    (s.setNode i d).gwLate = s.gwLate ∧ (s.setNode i d).gwDown = s.gwDown ∧ (s.setNode i d).irq = s.irq ∧ (s.setNode
    i d).eqs = s.eqs ∧ (s.setNode i d).hold = s.hold ∧ (s.setNode i d).host = s.host ∧ (s.setNode i d).hostQs =
    s.hostQs ∧ (s.setNode i d).yw = s.yw ∧ (s.setNode i d).beacon = s.beacon ∧ (s.setNode i d).bports = s.bports ∧
    (s.setNode i d).bus = s.bus ∧ (s.setNode i d).ports = s.ports ∧ (s.setNode i d).cycle = s.cycle ∧ (s.setNode i
    d).gridK = s.gridK ∧ (s.setNode i d).scheds = s.scheds ∧ (s.setNode i d).timelines = s.timelines ∧ (s.setNode i
    d).ctxs = s.ctxs ∧ (s.setNode i d).quar = s.quar ∧ (s.setNode i d).chkRetired = s.chkRetired ∧ (s.setNode i
    d).engines = s.engines ∧ (s.setNode i d).shared = s.shared ∧ (s.setNode i d).tiles = s.tiles ∧ (s.setNode i
    d).loads = s.loads ∧ (s.setNode i d).struct = s.struct ∧ (s.setNode i d).keeper = s.keeper ∧ (s.setNode i
    d).power = s.power ∧ (s.setNode i d).spars = s.spars ∧ (s.setNode i d).health = s.health ∧ (s.setNode i d).out =
    s.out ∧ (s.setNode i d).free = s.free := by
  refine ⟨?_, ?_, ?_, ?_, ?_, ?_, ?_, ?_, ?_, ?_, ?_, ?_, ?_, ?_, ?_, ?_, ?_, ?_, ?_, ?_, ?_, ?_, ?_, ?_, ?_, ?_, ?_, ?_, ?_, ?_, ?_, ?_, ?_, ?_, ?_, ?_, ?_, ?_, ?_, ?_, ?_, ?_, ?_, ?_, ?_, ?_, ?_, ?_, ?_, ?_, ?_, ?_, ?_, ?_⟩ <;> rfl

@[simp] theorem State.setPort_fields (i : Nat) (d : Port) (s : State) :
    (s.setPort i d).pending = s.pending ∧ (s.setPort i d).fuse = s.fuse ∧ (s.setPort i d).ctl = s.ctl ∧ (s.setPort i
    d).regs = s.regs ∧ (s.setPort i d).stage = s.stage ∧ (s.setPort i d).latch = s.latch ∧ (s.setPort i d).mem =
    s.mem ∧ (s.setPort i d).links = s.links ∧ (s.setPort i d).recs = s.recs ∧ (s.setPort i d).descs = s.descs ∧
    (s.setPort i d).fifos = s.fifos ∧ (s.setPort i d).partners = s.partners ∧ (s.setPort i d).books = s.books ∧
    (s.setPort i d).transit = s.transit ∧ (s.setPort i d).held = s.held ∧ (s.setPort i d).waits = s.waits ∧
    (s.setPort i d).nextId = s.nextId ∧ (s.setPort i d).psnap = s.psnap ∧ (s.setPort i d).retiredRows =
    s.retiredRows ∧ (s.setPort i d).spareRows = s.spareRows ∧ (s.setPort i d).slices = s.slices ∧ (s.setPort i
    d).routes = s.routes ∧ (s.setPort i d).routeOwners = s.routeOwners ∧ (s.setPort i d).tunSeq = s.tunSeq ∧
    (s.setPort i d).gwLate = s.gwLate ∧ (s.setPort i d).gwDown = s.gwDown ∧ (s.setPort i d).irq = s.irq ∧ (s.setPort
    i d).eqs = s.eqs ∧ (s.setPort i d).hold = s.hold ∧ (s.setPort i d).host = s.host ∧ (s.setPort i d).hostQs =
    s.hostQs ∧ (s.setPort i d).yw = s.yw ∧ (s.setPort i d).beacon = s.beacon ∧ (s.setPort i d).bports = s.bports ∧
    (s.setPort i d).bus = s.bus ∧ (s.setPort i d).nodes = s.nodes ∧ (s.setPort i d).cycle = s.cycle ∧ (s.setPort i
    d).gridK = s.gridK ∧ (s.setPort i d).scheds = s.scheds ∧ (s.setPort i d).timelines = s.timelines ∧ (s.setPort i
    d).ctxs = s.ctxs ∧ (s.setPort i d).quar = s.quar ∧ (s.setPort i d).chkRetired = s.chkRetired ∧ (s.setPort i
    d).engines = s.engines ∧ (s.setPort i d).shared = s.shared ∧ (s.setPort i d).tiles = s.tiles ∧ (s.setPort i
    d).loads = s.loads ∧ (s.setPort i d).struct = s.struct ∧ (s.setPort i d).keeper = s.keeper ∧ (s.setPort i
    d).power = s.power ∧ (s.setPort i d).spars = s.spars ∧ (s.setPort i d).health = s.health ∧ (s.setPort i d).out =
    s.out ∧ (s.setPort i d).free = s.free := by
  refine ⟨?_, ?_, ?_, ?_, ?_, ?_, ?_, ?_, ?_, ?_, ?_, ?_, ?_, ?_, ?_, ?_, ?_, ?_, ?_, ?_, ?_, ?_, ?_, ?_, ?_, ?_, ?_, ?_, ?_, ?_, ?_, ?_, ?_, ?_, ?_, ?_, ?_, ?_, ?_, ?_, ?_, ?_, ?_, ?_, ?_, ?_, ?_, ?_, ?_, ?_, ?_, ?_, ?_, ?_⟩ <;> rfl

@[simp] theorem State.setSched_fields (i : Nat) (d : Option Schedule) (s : State) :
    (s.setSched i d).pending = s.pending ∧ (s.setSched i d).fuse = s.fuse ∧ (s.setSched i d).ctl = s.ctl ∧
    (s.setSched i d).regs = s.regs ∧ (s.setSched i d).stage = s.stage ∧ (s.setSched i d).latch = s.latch ∧
    (s.setSched i d).mem = s.mem ∧ (s.setSched i d).links = s.links ∧ (s.setSched i d).recs = s.recs ∧ (s.setSched i
    d).descs = s.descs ∧ (s.setSched i d).fifos = s.fifos ∧ (s.setSched i d).partners = s.partners ∧ (s.setSched i
    d).books = s.books ∧ (s.setSched i d).transit = s.transit ∧ (s.setSched i d).held = s.held ∧ (s.setSched i
    d).waits = s.waits ∧ (s.setSched i d).nextId = s.nextId ∧ (s.setSched i d).psnap = s.psnap ∧ (s.setSched i
    d).retiredRows = s.retiredRows ∧ (s.setSched i d).spareRows = s.spareRows ∧ (s.setSched i d).slices = s.slices ∧
    (s.setSched i d).routes = s.routes ∧ (s.setSched i d).routeOwners = s.routeOwners ∧ (s.setSched i d).tunSeq =
    s.tunSeq ∧ (s.setSched i d).gwLate = s.gwLate ∧ (s.setSched i d).gwDown = s.gwDown ∧ (s.setSched i d).irq =
    s.irq ∧ (s.setSched i d).eqs = s.eqs ∧ (s.setSched i d).hold = s.hold ∧ (s.setSched i d).host = s.host ∧
    (s.setSched i d).hostQs = s.hostQs ∧ (s.setSched i d).yw = s.yw ∧ (s.setSched i d).beacon = s.beacon ∧
    (s.setSched i d).bports = s.bports ∧ (s.setSched i d).bus = s.bus ∧ (s.setSched i d).nodes = s.nodes ∧
    (s.setSched i d).ports = s.ports ∧ (s.setSched i d).cycle = s.cycle ∧ (s.setSched i d).gridK = s.gridK ∧
    (s.setSched i d).timelines = s.timelines ∧ (s.setSched i d).ctxs = s.ctxs ∧ (s.setSched i d).quar = s.quar ∧
    (s.setSched i d).chkRetired = s.chkRetired ∧ (s.setSched i d).engines = s.engines ∧ (s.setSched i d).shared =
    s.shared ∧ (s.setSched i d).tiles = s.tiles ∧ (s.setSched i d).loads = s.loads ∧ (s.setSched i d).struct =
    s.struct ∧ (s.setSched i d).keeper = s.keeper ∧ (s.setSched i d).power = s.power ∧ (s.setSched i d).spars =
    s.spars ∧ (s.setSched i d).health = s.health ∧ (s.setSched i d).out = s.out ∧ (s.setSched i d).free = s.free :=
    by
  refine ⟨?_, ?_, ?_, ?_, ?_, ?_, ?_, ?_, ?_, ?_, ?_, ?_, ?_, ?_, ?_, ?_, ?_, ?_, ?_, ?_, ?_, ?_, ?_, ?_, ?_, ?_, ?_, ?_, ?_, ?_, ?_, ?_, ?_, ?_, ?_, ?_, ?_, ?_, ?_, ?_, ?_, ?_, ?_, ?_, ?_, ?_, ?_, ?_, ?_, ?_, ?_, ?_, ?_, ?_⟩ <;> rfl

@[simp] theorem State.setTl_fields (i : Nat) (d : Timeline) (s : State) :
    (s.setTl i d).pending = s.pending ∧ (s.setTl i d).fuse = s.fuse ∧ (s.setTl i d).ctl = s.ctl ∧ (s.setTl i d).regs
    = s.regs ∧ (s.setTl i d).stage = s.stage ∧ (s.setTl i d).latch = s.latch ∧ (s.setTl i d).mem = s.mem ∧ (s.setTl
    i d).links = s.links ∧ (s.setTl i d).recs = s.recs ∧ (s.setTl i d).descs = s.descs ∧ (s.setTl i d).fifos =
    s.fifos ∧ (s.setTl i d).partners = s.partners ∧ (s.setTl i d).books = s.books ∧ (s.setTl i d).transit =
    s.transit ∧ (s.setTl i d).held = s.held ∧ (s.setTl i d).waits = s.waits ∧ (s.setTl i d).nextId = s.nextId ∧
    (s.setTl i d).psnap = s.psnap ∧ (s.setTl i d).retiredRows = s.retiredRows ∧ (s.setTl i d).spareRows =
    s.spareRows ∧ (s.setTl i d).slices = s.slices ∧ (s.setTl i d).routes = s.routes ∧ (s.setTl i d).routeOwners =
    s.routeOwners ∧ (s.setTl i d).tunSeq = s.tunSeq ∧ (s.setTl i d).gwLate = s.gwLate ∧ (s.setTl i d).gwDown =
    s.gwDown ∧ (s.setTl i d).irq = s.irq ∧ (s.setTl i d).eqs = s.eqs ∧ (s.setTl i d).hold = s.hold ∧ (s.setTl i
    d).host = s.host ∧ (s.setTl i d).hostQs = s.hostQs ∧ (s.setTl i d).yw = s.yw ∧ (s.setTl i d).beacon = s.beacon ∧
    (s.setTl i d).bports = s.bports ∧ (s.setTl i d).bus = s.bus ∧ (s.setTl i d).nodes = s.nodes ∧ (s.setTl i
    d).ports = s.ports ∧ (s.setTl i d).cycle = s.cycle ∧ (s.setTl i d).gridK = s.gridK ∧ (s.setTl i d).scheds =
    s.scheds ∧ (s.setTl i d).ctxs = s.ctxs ∧ (s.setTl i d).quar = s.quar ∧ (s.setTl i d).chkRetired = s.chkRetired ∧
    (s.setTl i d).engines = s.engines ∧ (s.setTl i d).shared = s.shared ∧ (s.setTl i d).tiles = s.tiles ∧ (s.setTl i
    d).loads = s.loads ∧ (s.setTl i d).struct = s.struct ∧ (s.setTl i d).keeper = s.keeper ∧ (s.setTl i d).power =
    s.power ∧ (s.setTl i d).spars = s.spars ∧ (s.setTl i d).health = s.health ∧ (s.setTl i d).out = s.out ∧ (s.setTl
    i d).free = s.free := by
  refine ⟨?_, ?_, ?_, ?_, ?_, ?_, ?_, ?_, ?_, ?_, ?_, ?_, ?_, ?_, ?_, ?_, ?_, ?_, ?_, ?_, ?_, ?_, ?_, ?_, ?_, ?_, ?_, ?_, ?_, ?_, ?_, ?_, ?_, ?_, ?_, ?_, ?_, ?_, ?_, ?_, ?_, ?_, ?_, ?_, ?_, ?_, ?_, ?_, ?_, ?_, ?_, ?_, ?_, ?_⟩ <;> rfl

@[simp] theorem State.setCtx_fields (i : Nat) (d : Option Ctx) (s : State) :
    (s.setCtx i d).pending = s.pending ∧ (s.setCtx i d).fuse = s.fuse ∧ (s.setCtx i d).ctl = s.ctl ∧ (s.setCtx i
    d).regs = s.regs ∧ (s.setCtx i d).stage = s.stage ∧ (s.setCtx i d).latch = s.latch ∧ (s.setCtx i d).mem = s.mem
    ∧ (s.setCtx i d).links = s.links ∧ (s.setCtx i d).recs = s.recs ∧ (s.setCtx i d).descs = s.descs ∧ (s.setCtx i
    d).fifos = s.fifos ∧ (s.setCtx i d).partners = s.partners ∧ (s.setCtx i d).books = s.books ∧ (s.setCtx i
    d).transit = s.transit ∧ (s.setCtx i d).held = s.held ∧ (s.setCtx i d).waits = s.waits ∧ (s.setCtx i d).nextId =
    s.nextId ∧ (s.setCtx i d).psnap = s.psnap ∧ (s.setCtx i d).retiredRows = s.retiredRows ∧ (s.setCtx i
    d).spareRows = s.spareRows ∧ (s.setCtx i d).slices = s.slices ∧ (s.setCtx i d).routes = s.routes ∧ (s.setCtx i
    d).routeOwners = s.routeOwners ∧ (s.setCtx i d).tunSeq = s.tunSeq ∧ (s.setCtx i d).gwLate = s.gwLate ∧ (s.setCtx
    i d).gwDown = s.gwDown ∧ (s.setCtx i d).irq = s.irq ∧ (s.setCtx i d).eqs = s.eqs ∧ (s.setCtx i d).hold = s.hold
    ∧ (s.setCtx i d).host = s.host ∧ (s.setCtx i d).hostQs = s.hostQs ∧ (s.setCtx i d).yw = s.yw ∧ (s.setCtx i
    d).beacon = s.beacon ∧ (s.setCtx i d).bports = s.bports ∧ (s.setCtx i d).bus = s.bus ∧ (s.setCtx i d).nodes =
    s.nodes ∧ (s.setCtx i d).ports = s.ports ∧ (s.setCtx i d).cycle = s.cycle ∧ (s.setCtx i d).gridK = s.gridK ∧
    (s.setCtx i d).scheds = s.scheds ∧ (s.setCtx i d).timelines = s.timelines ∧ (s.setCtx i d).quar = s.quar ∧
    (s.setCtx i d).chkRetired = s.chkRetired ∧ (s.setCtx i d).engines = s.engines ∧ (s.setCtx i d).shared = s.shared
    ∧ (s.setCtx i d).tiles = s.tiles ∧ (s.setCtx i d).loads = s.loads ∧ (s.setCtx i d).struct = s.struct ∧ (s.setCtx
    i d).keeper = s.keeper ∧ (s.setCtx i d).power = s.power ∧ (s.setCtx i d).spars = s.spars ∧ (s.setCtx i d).health
    = s.health ∧ (s.setCtx i d).out = s.out ∧ (s.setCtx i d).free = s.free := by
  refine ⟨?_, ?_, ?_, ?_, ?_, ?_, ?_, ?_, ?_, ?_, ?_, ?_, ?_, ?_, ?_, ?_, ?_, ?_, ?_, ?_, ?_, ?_, ?_, ?_, ?_, ?_, ?_, ?_, ?_, ?_, ?_, ?_, ?_, ?_, ?_, ?_, ?_, ?_, ?_, ?_, ?_, ?_, ?_, ?_, ?_, ?_, ?_, ?_, ?_, ?_, ?_, ?_, ?_, ?_⟩ <;> rfl

@[simp] theorem State.setRing_fields (i : Nat) (d : Quar) (s : State) :
    (s.setRing i d).pending = s.pending ∧ (s.setRing i d).fuse = s.fuse ∧ (s.setRing i d).ctl = s.ctl ∧ (s.setRing i
    d).regs = s.regs ∧ (s.setRing i d).stage = s.stage ∧ (s.setRing i d).latch = s.latch ∧ (s.setRing i d).mem =
    s.mem ∧ (s.setRing i d).links = s.links ∧ (s.setRing i d).recs = s.recs ∧ (s.setRing i d).descs = s.descs ∧
    (s.setRing i d).fifos = s.fifos ∧ (s.setRing i d).partners = s.partners ∧ (s.setRing i d).books = s.books ∧
    (s.setRing i d).transit = s.transit ∧ (s.setRing i d).held = s.held ∧ (s.setRing i d).waits = s.waits ∧
    (s.setRing i d).nextId = s.nextId ∧ (s.setRing i d).psnap = s.psnap ∧ (s.setRing i d).retiredRows =
    s.retiredRows ∧ (s.setRing i d).spareRows = s.spareRows ∧ (s.setRing i d).slices = s.slices ∧ (s.setRing i
    d).routes = s.routes ∧ (s.setRing i d).routeOwners = s.routeOwners ∧ (s.setRing i d).tunSeq = s.tunSeq ∧
    (s.setRing i d).gwLate = s.gwLate ∧ (s.setRing i d).gwDown = s.gwDown ∧ (s.setRing i d).irq = s.irq ∧ (s.setRing
    i d).eqs = s.eqs ∧ (s.setRing i d).hold = s.hold ∧ (s.setRing i d).host = s.host ∧ (s.setRing i d).hostQs =
    s.hostQs ∧ (s.setRing i d).yw = s.yw ∧ (s.setRing i d).beacon = s.beacon ∧ (s.setRing i d).bports = s.bports ∧
    (s.setRing i d).bus = s.bus ∧ (s.setRing i d).nodes = s.nodes ∧ (s.setRing i d).ports = s.ports ∧ (s.setRing i
    d).cycle = s.cycle ∧ (s.setRing i d).gridK = s.gridK ∧ (s.setRing i d).scheds = s.scheds ∧ (s.setRing i
    d).timelines = s.timelines ∧ (s.setRing i d).ctxs = s.ctxs ∧ (s.setRing i d).chkRetired = s.chkRetired ∧
    (s.setRing i d).engines = s.engines ∧ (s.setRing i d).shared = s.shared ∧ (s.setRing i d).tiles = s.tiles ∧
    (s.setRing i d).loads = s.loads ∧ (s.setRing i d).struct = s.struct ∧ (s.setRing i d).keeper = s.keeper ∧
    (s.setRing i d).power = s.power ∧ (s.setRing i d).spars = s.spars ∧ (s.setRing i d).health = s.health ∧
    (s.setRing i d).out = s.out ∧ (s.setRing i d).free = s.free := by
  refine ⟨?_, ?_, ?_, ?_, ?_, ?_, ?_, ?_, ?_, ?_, ?_, ?_, ?_, ?_, ?_, ?_, ?_, ?_, ?_, ?_, ?_, ?_, ?_, ?_, ?_, ?_, ?_, ?_, ?_, ?_, ?_, ?_, ?_, ?_, ?_, ?_, ?_, ?_, ?_, ?_, ?_, ?_, ?_, ?_, ?_, ?_, ?_, ?_, ?_, ?_, ?_, ?_, ?_, ?_⟩ <;> rfl

@[simp] theorem State.setUnitDown_fields (i : Nat) (d : Bool) (s : State) :
    (s.setUnitDown i d).pending = s.pending ∧ (s.setUnitDown i d).fuse = s.fuse ∧ (s.setUnitDown i d).ctl = s.ctl ∧
    (s.setUnitDown i d).regs = s.regs ∧ (s.setUnitDown i d).stage = s.stage ∧ (s.setUnitDown i d).latch = s.latch ∧
    (s.setUnitDown i d).mem = s.mem ∧ (s.setUnitDown i d).links = s.links ∧ (s.setUnitDown i d).recs = s.recs ∧
    (s.setUnitDown i d).descs = s.descs ∧ (s.setUnitDown i d).fifos = s.fifos ∧ (s.setUnitDown i d).partners =
    s.partners ∧ (s.setUnitDown i d).books = s.books ∧ (s.setUnitDown i d).transit = s.transit ∧ (s.setUnitDown i
    d).held = s.held ∧ (s.setUnitDown i d).waits = s.waits ∧ (s.setUnitDown i d).nextId = s.nextId ∧ (s.setUnitDown
    i d).psnap = s.psnap ∧ (s.setUnitDown i d).retiredRows = s.retiredRows ∧ (s.setUnitDown i d).spareRows =
    s.spareRows ∧ (s.setUnitDown i d).slices = s.slices ∧ (s.setUnitDown i d).routes = s.routes ∧ (s.setUnitDown i
    d).routeOwners = s.routeOwners ∧ (s.setUnitDown i d).tunSeq = s.tunSeq ∧ (s.setUnitDown i d).gwLate = s.gwLate ∧
    (s.setUnitDown i d).gwDown = s.gwDown ∧ (s.setUnitDown i d).irq = s.irq ∧ (s.setUnitDown i d).eqs = s.eqs ∧
    (s.setUnitDown i d).hold = s.hold ∧ (s.setUnitDown i d).host = s.host ∧ (s.setUnitDown i d).hostQs = s.hostQs ∧
    (s.setUnitDown i d).yw = s.yw ∧ (s.setUnitDown i d).beacon = s.beacon ∧ (s.setUnitDown i d).bports = s.bports ∧
    (s.setUnitDown i d).bus = s.bus ∧ (s.setUnitDown i d).nodes = s.nodes ∧ (s.setUnitDown i d).ports = s.ports ∧
    (s.setUnitDown i d).cycle = s.cycle ∧ (s.setUnitDown i d).gridK = s.gridK ∧ (s.setUnitDown i d).scheds =
    s.scheds ∧ (s.setUnitDown i d).timelines = s.timelines ∧ (s.setUnitDown i d).ctxs = s.ctxs ∧ (s.setUnitDown i
    d).quar = s.quar ∧ (s.setUnitDown i d).engines = s.engines ∧ (s.setUnitDown i d).shared = s.shared ∧
    (s.setUnitDown i d).tiles = s.tiles ∧ (s.setUnitDown i d).loads = s.loads ∧ (s.setUnitDown i d).struct =
    s.struct ∧ (s.setUnitDown i d).keeper = s.keeper ∧ (s.setUnitDown i d).power = s.power ∧ (s.setUnitDown i
    d).spars = s.spars ∧ (s.setUnitDown i d).health = s.health ∧ (s.setUnitDown i d).out = s.out ∧ (s.setUnitDown i
    d).free = s.free := by
  refine ⟨?_, ?_, ?_, ?_, ?_, ?_, ?_, ?_, ?_, ?_, ?_, ?_, ?_, ?_, ?_, ?_, ?_, ?_, ?_, ?_, ?_, ?_, ?_, ?_, ?_, ?_, ?_, ?_, ?_, ?_, ?_, ?_, ?_, ?_, ?_, ?_, ?_, ?_, ?_, ?_, ?_, ?_, ?_, ?_, ?_, ?_, ?_, ?_, ?_, ?_, ?_, ?_, ?_, ?_⟩ <;> rfl

@[simp] theorem State.setEng_fields (i : Nat) (d : Engine) (s : State) :
    (s.setEng i d).pending = s.pending ∧ (s.setEng i d).fuse = s.fuse ∧ (s.setEng i d).ctl = s.ctl ∧ (s.setEng i
    d).regs = s.regs ∧ (s.setEng i d).stage = s.stage ∧ (s.setEng i d).latch = s.latch ∧ (s.setEng i d).mem = s.mem
    ∧ (s.setEng i d).links = s.links ∧ (s.setEng i d).recs = s.recs ∧ (s.setEng i d).descs = s.descs ∧ (s.setEng i
    d).fifos = s.fifos ∧ (s.setEng i d).partners = s.partners ∧ (s.setEng i d).books = s.books ∧ (s.setEng i
    d).transit = s.transit ∧ (s.setEng i d).held = s.held ∧ (s.setEng i d).waits = s.waits ∧ (s.setEng i d).nextId =
    s.nextId ∧ (s.setEng i d).psnap = s.psnap ∧ (s.setEng i d).retiredRows = s.retiredRows ∧ (s.setEng i
    d).spareRows = s.spareRows ∧ (s.setEng i d).slices = s.slices ∧ (s.setEng i d).routes = s.routes ∧ (s.setEng i
    d).routeOwners = s.routeOwners ∧ (s.setEng i d).tunSeq = s.tunSeq ∧ (s.setEng i d).gwLate = s.gwLate ∧ (s.setEng
    i d).gwDown = s.gwDown ∧ (s.setEng i d).irq = s.irq ∧ (s.setEng i d).eqs = s.eqs ∧ (s.setEng i d).hold = s.hold
    ∧ (s.setEng i d).host = s.host ∧ (s.setEng i d).hostQs = s.hostQs ∧ (s.setEng i d).yw = s.yw ∧ (s.setEng i
    d).beacon = s.beacon ∧ (s.setEng i d).bports = s.bports ∧ (s.setEng i d).bus = s.bus ∧ (s.setEng i d).nodes =
    s.nodes ∧ (s.setEng i d).ports = s.ports ∧ (s.setEng i d).cycle = s.cycle ∧ (s.setEng i d).gridK = s.gridK ∧
    (s.setEng i d).scheds = s.scheds ∧ (s.setEng i d).timelines = s.timelines ∧ (s.setEng i d).ctxs = s.ctxs ∧
    (s.setEng i d).quar = s.quar ∧ (s.setEng i d).chkRetired = s.chkRetired ∧ (s.setEng i d).shared = s.shared ∧
    (s.setEng i d).tiles = s.tiles ∧ (s.setEng i d).loads = s.loads ∧ (s.setEng i d).struct = s.struct ∧ (s.setEng i
    d).keeper = s.keeper ∧ (s.setEng i d).power = s.power ∧ (s.setEng i d).spars = s.spars ∧ (s.setEng i d).health =
    s.health ∧ (s.setEng i d).out = s.out ∧ (s.setEng i d).free = s.free := by
  refine ⟨?_, ?_, ?_, ?_, ?_, ?_, ?_, ?_, ?_, ?_, ?_, ?_, ?_, ?_, ?_, ?_, ?_, ?_, ?_, ?_, ?_, ?_, ?_, ?_, ?_, ?_, ?_, ?_, ?_, ?_, ?_, ?_, ?_, ?_, ?_, ?_, ?_, ?_, ?_, ?_, ?_, ?_, ?_, ?_, ?_, ?_, ?_, ?_, ?_, ?_, ?_, ?_, ?_, ?_⟩ <;> rfl

@[simp] theorem State.setTile_fields (i : Nat) (d : Tile) (s : State) :
    (s.setTile i d).pending = s.pending ∧ (s.setTile i d).fuse = s.fuse ∧ (s.setTile i d).ctl = s.ctl ∧ (s.setTile i
    d).regs = s.regs ∧ (s.setTile i d).stage = s.stage ∧ (s.setTile i d).latch = s.latch ∧ (s.setTile i d).mem =
    s.mem ∧ (s.setTile i d).links = s.links ∧ (s.setTile i d).recs = s.recs ∧ (s.setTile i d).descs = s.descs ∧
    (s.setTile i d).fifos = s.fifos ∧ (s.setTile i d).partners = s.partners ∧ (s.setTile i d).books = s.books ∧
    (s.setTile i d).transit = s.transit ∧ (s.setTile i d).held = s.held ∧ (s.setTile i d).waits = s.waits ∧
    (s.setTile i d).nextId = s.nextId ∧ (s.setTile i d).psnap = s.psnap ∧ (s.setTile i d).retiredRows =
    s.retiredRows ∧ (s.setTile i d).spareRows = s.spareRows ∧ (s.setTile i d).slices = s.slices ∧ (s.setTile i
    d).routes = s.routes ∧ (s.setTile i d).routeOwners = s.routeOwners ∧ (s.setTile i d).tunSeq = s.tunSeq ∧
    (s.setTile i d).gwLate = s.gwLate ∧ (s.setTile i d).gwDown = s.gwDown ∧ (s.setTile i d).irq = s.irq ∧ (s.setTile
    i d).eqs = s.eqs ∧ (s.setTile i d).hold = s.hold ∧ (s.setTile i d).host = s.host ∧ (s.setTile i d).hostQs =
    s.hostQs ∧ (s.setTile i d).yw = s.yw ∧ (s.setTile i d).beacon = s.beacon ∧ (s.setTile i d).bports = s.bports ∧
    (s.setTile i d).bus = s.bus ∧ (s.setTile i d).nodes = s.nodes ∧ (s.setTile i d).ports = s.ports ∧ (s.setTile i
    d).cycle = s.cycle ∧ (s.setTile i d).gridK = s.gridK ∧ (s.setTile i d).scheds = s.scheds ∧ (s.setTile i
    d).timelines = s.timelines ∧ (s.setTile i d).ctxs = s.ctxs ∧ (s.setTile i d).quar = s.quar ∧ (s.setTile i
    d).chkRetired = s.chkRetired ∧ (s.setTile i d).engines = s.engines ∧ (s.setTile i d).shared = s.shared ∧
    (s.setTile i d).loads = s.loads ∧ (s.setTile i d).struct = s.struct ∧ (s.setTile i d).keeper = s.keeper ∧
    (s.setTile i d).power = s.power ∧ (s.setTile i d).spars = s.spars ∧ (s.setTile i d).health = s.health ∧
    (s.setTile i d).out = s.out ∧ (s.setTile i d).free = s.free := by
  refine ⟨?_, ?_, ?_, ?_, ?_, ?_, ?_, ?_, ?_, ?_, ?_, ?_, ?_, ?_, ?_, ?_, ?_, ?_, ?_, ?_, ?_, ?_, ?_, ?_, ?_, ?_, ?_, ?_, ?_, ?_, ?_, ?_, ?_, ?_, ?_, ?_, ?_, ?_, ?_, ?_, ?_, ?_, ?_, ?_, ?_, ?_, ?_, ?_, ?_, ?_, ?_, ?_, ?_, ?_⟩ <;> rfl

@[simp] theorem State.setSpar_fields (i : Nat) (d : Spar) (s : State) :
    (s.setSpar i d).pending = s.pending ∧ (s.setSpar i d).fuse = s.fuse ∧ (s.setSpar i d).ctl = s.ctl ∧ (s.setSpar i
    d).regs = s.regs ∧ (s.setSpar i d).stage = s.stage ∧ (s.setSpar i d).latch = s.latch ∧ (s.setSpar i d).mem =
    s.mem ∧ (s.setSpar i d).links = s.links ∧ (s.setSpar i d).recs = s.recs ∧ (s.setSpar i d).descs = s.descs ∧
    (s.setSpar i d).fifos = s.fifos ∧ (s.setSpar i d).partners = s.partners ∧ (s.setSpar i d).books = s.books ∧
    (s.setSpar i d).transit = s.transit ∧ (s.setSpar i d).held = s.held ∧ (s.setSpar i d).waits = s.waits ∧
    (s.setSpar i d).nextId = s.nextId ∧ (s.setSpar i d).psnap = s.psnap ∧ (s.setSpar i d).retiredRows =
    s.retiredRows ∧ (s.setSpar i d).spareRows = s.spareRows ∧ (s.setSpar i d).slices = s.slices ∧ (s.setSpar i
    d).routes = s.routes ∧ (s.setSpar i d).routeOwners = s.routeOwners ∧ (s.setSpar i d).tunSeq = s.tunSeq ∧
    (s.setSpar i d).gwLate = s.gwLate ∧ (s.setSpar i d).gwDown = s.gwDown ∧ (s.setSpar i d).irq = s.irq ∧ (s.setSpar
    i d).eqs = s.eqs ∧ (s.setSpar i d).hold = s.hold ∧ (s.setSpar i d).host = s.host ∧ (s.setSpar i d).hostQs =
    s.hostQs ∧ (s.setSpar i d).yw = s.yw ∧ (s.setSpar i d).beacon = s.beacon ∧ (s.setSpar i d).bports = s.bports ∧
    (s.setSpar i d).bus = s.bus ∧ (s.setSpar i d).nodes = s.nodes ∧ (s.setSpar i d).ports = s.ports ∧ (s.setSpar i
    d).cycle = s.cycle ∧ (s.setSpar i d).gridK = s.gridK ∧ (s.setSpar i d).scheds = s.scheds ∧ (s.setSpar i
    d).timelines = s.timelines ∧ (s.setSpar i d).ctxs = s.ctxs ∧ (s.setSpar i d).quar = s.quar ∧ (s.setSpar i
    d).chkRetired = s.chkRetired ∧ (s.setSpar i d).engines = s.engines ∧ (s.setSpar i d).shared = s.shared ∧
    (s.setSpar i d).tiles = s.tiles ∧ (s.setSpar i d).loads = s.loads ∧ (s.setSpar i d).struct = s.struct ∧
    (s.setSpar i d).keeper = s.keeper ∧ (s.setSpar i d).power = s.power ∧ (s.setSpar i d).health = s.health ∧
    (s.setSpar i d).out = s.out ∧ (s.setSpar i d).free = s.free := by
  refine ⟨?_, ?_, ?_, ?_, ?_, ?_, ?_, ?_, ?_, ?_, ?_, ?_, ?_, ?_, ?_, ?_, ?_, ?_, ?_, ?_, ?_, ?_, ?_, ?_, ?_, ?_, ?_, ?_, ?_, ?_, ?_, ?_, ?_, ?_, ?_, ?_, ?_, ?_, ?_, ?_, ?_, ?_, ?_, ?_, ?_, ?_, ?_, ?_, ?_, ?_, ?_, ?_, ?_, ?_⟩ <;> rfl

@[simp] theorem State.setLoad_fields (i : Nat) (d : Option LoadJob) (s : State) :
    (s.setLoad i d).pending = s.pending ∧ (s.setLoad i d).fuse = s.fuse ∧ (s.setLoad i d).ctl = s.ctl ∧ (s.setLoad i
    d).regs = s.regs ∧ (s.setLoad i d).stage = s.stage ∧ (s.setLoad i d).latch = s.latch ∧ (s.setLoad i d).mem =
    s.mem ∧ (s.setLoad i d).links = s.links ∧ (s.setLoad i d).recs = s.recs ∧ (s.setLoad i d).descs = s.descs ∧
    (s.setLoad i d).fifos = s.fifos ∧ (s.setLoad i d).partners = s.partners ∧ (s.setLoad i d).books = s.books ∧
    (s.setLoad i d).transit = s.transit ∧ (s.setLoad i d).held = s.held ∧ (s.setLoad i d).waits = s.waits ∧
    (s.setLoad i d).nextId = s.nextId ∧ (s.setLoad i d).psnap = s.psnap ∧ (s.setLoad i d).retiredRows =
    s.retiredRows ∧ (s.setLoad i d).spareRows = s.spareRows ∧ (s.setLoad i d).slices = s.slices ∧ (s.setLoad i
    d).routes = s.routes ∧ (s.setLoad i d).routeOwners = s.routeOwners ∧ (s.setLoad i d).tunSeq = s.tunSeq ∧
    (s.setLoad i d).gwLate = s.gwLate ∧ (s.setLoad i d).gwDown = s.gwDown ∧ (s.setLoad i d).irq = s.irq ∧ (s.setLoad
    i d).eqs = s.eqs ∧ (s.setLoad i d).hold = s.hold ∧ (s.setLoad i d).host = s.host ∧ (s.setLoad i d).hostQs =
    s.hostQs ∧ (s.setLoad i d).yw = s.yw ∧ (s.setLoad i d).beacon = s.beacon ∧ (s.setLoad i d).bports = s.bports ∧
    (s.setLoad i d).bus = s.bus ∧ (s.setLoad i d).nodes = s.nodes ∧ (s.setLoad i d).ports = s.ports ∧ (s.setLoad i
    d).cycle = s.cycle ∧ (s.setLoad i d).gridK = s.gridK ∧ (s.setLoad i d).scheds = s.scheds ∧ (s.setLoad i
    d).timelines = s.timelines ∧ (s.setLoad i d).ctxs = s.ctxs ∧ (s.setLoad i d).quar = s.quar ∧ (s.setLoad i
    d).chkRetired = s.chkRetired ∧ (s.setLoad i d).engines = s.engines ∧ (s.setLoad i d).shared = s.shared ∧
    (s.setLoad i d).tiles = s.tiles ∧ (s.setLoad i d).struct = s.struct ∧ (s.setLoad i d).keeper = s.keeper ∧
    (s.setLoad i d).power = s.power ∧ (s.setLoad i d).spars = s.spars ∧ (s.setLoad i d).health = s.health ∧
    (s.setLoad i d).out = s.out ∧ (s.setLoad i d).free = s.free := by
  refine ⟨?_, ?_, ?_, ?_, ?_, ?_, ?_, ?_, ?_, ?_, ?_, ?_, ?_, ?_, ?_, ?_, ?_, ?_, ?_, ?_, ?_, ?_, ?_, ?_, ?_, ?_, ?_, ?_, ?_, ?_, ?_, ?_, ?_, ?_, ?_, ?_, ?_, ?_, ?_, ?_, ?_, ?_, ?_, ?_, ?_, ?_, ?_, ?_, ?_, ?_, ?_, ?_, ?_, ?_⟩ <;> rfl

@[simp] theorem State.setSpareSlice_fields (i : Nat) (d : SpareSlice) (s : State) :
    (s.setSpareSlice i d).pending = s.pending ∧ (s.setSpareSlice i d).fuse = s.fuse ∧ (s.setSpareSlice i d).ctl =
    s.ctl ∧ (s.setSpareSlice i d).regs = s.regs ∧ (s.setSpareSlice i d).stage = s.stage ∧ (s.setSpareSlice i
    d).latch = s.latch ∧ (s.setSpareSlice i d).mem = s.mem ∧ (s.setSpareSlice i d).links = s.links ∧
    (s.setSpareSlice i d).recs = s.recs ∧ (s.setSpareSlice i d).descs = s.descs ∧ (s.setSpareSlice i d).fifos =
    s.fifos ∧ (s.setSpareSlice i d).partners = s.partners ∧ (s.setSpareSlice i d).books = s.books ∧ (s.setSpareSlice
    i d).transit = s.transit ∧ (s.setSpareSlice i d).held = s.held ∧ (s.setSpareSlice i d).waits = s.waits ∧
    (s.setSpareSlice i d).nextId = s.nextId ∧ (s.setSpareSlice i d).psnap = s.psnap ∧ (s.setSpareSlice i
    d).retiredRows = s.retiredRows ∧ (s.setSpareSlice i d).spareRows = s.spareRows ∧ (s.setSpareSlice i d).slices =
    s.slices ∧ (s.setSpareSlice i d).routes = s.routes ∧ (s.setSpareSlice i d).routeOwners = s.routeOwners ∧
    (s.setSpareSlice i d).tunSeq = s.tunSeq ∧ (s.setSpareSlice i d).gwLate = s.gwLate ∧ (s.setSpareSlice i d).gwDown
    = s.gwDown ∧ (s.setSpareSlice i d).irq = s.irq ∧ (s.setSpareSlice i d).eqs = s.eqs ∧ (s.setSpareSlice i d).hold
    = s.hold ∧ (s.setSpareSlice i d).host = s.host ∧ (s.setSpareSlice i d).hostQs = s.hostQs ∧ (s.setSpareSlice i
    d).yw = s.yw ∧ (s.setSpareSlice i d).beacon = s.beacon ∧ (s.setSpareSlice i d).bports = s.bports ∧
    (s.setSpareSlice i d).bus = s.bus ∧ (s.setSpareSlice i d).nodes = s.nodes ∧ (s.setSpareSlice i d).ports =
    s.ports ∧ (s.setSpareSlice i d).cycle = s.cycle ∧ (s.setSpareSlice i d).gridK = s.gridK ∧ (s.setSpareSlice i
    d).scheds = s.scheds ∧ (s.setSpareSlice i d).timelines = s.timelines ∧ (s.setSpareSlice i d).ctxs = s.ctxs ∧
    (s.setSpareSlice i d).quar = s.quar ∧ (s.setSpareSlice i d).chkRetired = s.chkRetired ∧ (s.setSpareSlice i
    d).engines = s.engines ∧ (s.setSpareSlice i d).shared = s.shared ∧ (s.setSpareSlice i d).tiles = s.tiles ∧
    (s.setSpareSlice i d).loads = s.loads ∧ (s.setSpareSlice i d).struct = s.struct ∧ (s.setSpareSlice i d).keeper =
    s.keeper ∧ (s.setSpareSlice i d).power = s.power ∧ (s.setSpareSlice i d).spars = s.spars ∧ (s.setSpareSlice i
    d).out = s.out ∧ (s.setSpareSlice i d).free = s.free := by
  refine ⟨?_, ?_, ?_, ?_, ?_, ?_, ?_, ?_, ?_, ?_, ?_, ?_, ?_, ?_, ?_, ?_, ?_, ?_, ?_, ?_, ?_, ?_, ?_, ?_, ?_, ?_, ?_, ?_, ?_, ?_, ?_, ?_, ?_, ?_, ?_, ?_, ?_, ?_, ?_, ?_, ?_, ?_, ?_, ?_, ?_, ?_, ?_, ?_, ?_, ?_, ?_, ?_, ?_, ?_⟩ <;> rfl

@[simp] theorem State.setPend_fields (i : Nat) (d : Option Report) (s : State) :
    (s.setPend i d).pending = s.pending ∧ (s.setPend i d).fuse = s.fuse ∧ (s.setPend i d).ctl = s.ctl ∧ (s.setPend i
    d).regs = s.regs ∧ (s.setPend i d).stage = s.stage ∧ (s.setPend i d).latch = s.latch ∧ (s.setPend i d).mem =
    s.mem ∧ (s.setPend i d).links = s.links ∧ (s.setPend i d).recs = s.recs ∧ (s.setPend i d).descs = s.descs ∧
    (s.setPend i d).fifos = s.fifos ∧ (s.setPend i d).partners = s.partners ∧ (s.setPend i d).books = s.books ∧
    (s.setPend i d).transit = s.transit ∧ (s.setPend i d).held = s.held ∧ (s.setPend i d).waits = s.waits ∧
    (s.setPend i d).nextId = s.nextId ∧ (s.setPend i d).psnap = s.psnap ∧ (s.setPend i d).retiredRows =
    s.retiredRows ∧ (s.setPend i d).spareRows = s.spareRows ∧ (s.setPend i d).slices = s.slices ∧ (s.setPend i
    d).routes = s.routes ∧ (s.setPend i d).routeOwners = s.routeOwners ∧ (s.setPend i d).tunSeq = s.tunSeq ∧
    (s.setPend i d).gwLate = s.gwLate ∧ (s.setPend i d).gwDown = s.gwDown ∧ (s.setPend i d).irq = s.irq ∧ (s.setPend
    i d).eqs = s.eqs ∧ (s.setPend i d).hold = s.hold ∧ (s.setPend i d).host = s.host ∧ (s.setPend i d).hostQs =
    s.hostQs ∧ (s.setPend i d).yw = s.yw ∧ (s.setPend i d).beacon = s.beacon ∧ (s.setPend i d).bports = s.bports ∧
    (s.setPend i d).bus = s.bus ∧ (s.setPend i d).nodes = s.nodes ∧ (s.setPend i d).ports = s.ports ∧ (s.setPend i
    d).cycle = s.cycle ∧ (s.setPend i d).gridK = s.gridK ∧ (s.setPend i d).scheds = s.scheds ∧ (s.setPend i
    d).timelines = s.timelines ∧ (s.setPend i d).ctxs = s.ctxs ∧ (s.setPend i d).quar = s.quar ∧ (s.setPend i
    d).chkRetired = s.chkRetired ∧ (s.setPend i d).engines = s.engines ∧ (s.setPend i d).shared = s.shared ∧
    (s.setPend i d).tiles = s.tiles ∧ (s.setPend i d).loads = s.loads ∧ (s.setPend i d).struct = s.struct ∧
    (s.setPend i d).keeper = s.keeper ∧ (s.setPend i d).power = s.power ∧ (s.setPend i d).spars = s.spars ∧
    (s.setPend i d).out = s.out ∧ (s.setPend i d).free = s.free := by
  refine ⟨?_, ?_, ?_, ?_, ?_, ?_, ?_, ?_, ?_, ?_, ?_, ?_, ?_, ?_, ?_, ?_, ?_, ?_, ?_, ?_, ?_, ?_, ?_, ?_, ?_, ?_, ?_, ?_, ?_, ?_, ?_, ?_, ?_, ?_, ?_, ?_, ?_, ?_, ?_, ?_, ?_, ?_, ?_, ?_, ?_, ?_, ?_, ?_, ?_, ?_, ?_, ?_, ?_, ?_⟩ <;> rfl

@[simp] theorem State.setCellByte_fields (a : Nat) (b : Byte) (s : State) :
    (s.setCellByte a b).pending = s.pending ∧ (s.setCellByte a b).fuse = s.fuse ∧ (s.setCellByte a b).ctl = s.ctl ∧
    (s.setCellByte a b).regs = s.regs ∧ (s.setCellByte a b).stage = s.stage ∧ (s.setCellByte a b).latch = s.latch ∧
    (s.setCellByte a b).links = s.links ∧ (s.setCellByte a b).recs = s.recs ∧ (s.setCellByte a b).descs = s.descs ∧
    (s.setCellByte a b).fifos = s.fifos ∧ (s.setCellByte a b).partners = s.partners ∧ (s.setCellByte a b).books =
    s.books ∧ (s.setCellByte a b).transit = s.transit ∧ (s.setCellByte a b).held = s.held ∧ (s.setCellByte a
    b).waits = s.waits ∧ (s.setCellByte a b).nextId = s.nextId ∧ (s.setCellByte a b).psnap = s.psnap ∧
    (s.setCellByte a b).retiredRows = s.retiredRows ∧ (s.setCellByte a b).spareRows = s.spareRows ∧ (s.setCellByte a
    b).slices = s.slices ∧ (s.setCellByte a b).routes = s.routes ∧ (s.setCellByte a b).routeOwners = s.routeOwners ∧
    (s.setCellByte a b).tunSeq = s.tunSeq ∧ (s.setCellByte a b).gwLate = s.gwLate ∧ (s.setCellByte a b).gwDown =
    s.gwDown ∧ (s.setCellByte a b).irq = s.irq ∧ (s.setCellByte a b).eqs = s.eqs ∧ (s.setCellByte a b).hold = s.hold
    ∧ (s.setCellByte a b).host = s.host ∧ (s.setCellByte a b).hostQs = s.hostQs ∧ (s.setCellByte a b).yw = s.yw ∧
    (s.setCellByte a b).beacon = s.beacon ∧ (s.setCellByte a b).bports = s.bports ∧ (s.setCellByte a b).bus = s.bus
    ∧ (s.setCellByte a b).nodes = s.nodes ∧ (s.setCellByte a b).ports = s.ports ∧ (s.setCellByte a b).cycle =
    s.cycle ∧ (s.setCellByte a b).gridK = s.gridK ∧ (s.setCellByte a b).scheds = s.scheds ∧ (s.setCellByte a
    b).timelines = s.timelines ∧ (s.setCellByte a b).ctxs = s.ctxs ∧ (s.setCellByte a b).quar = s.quar ∧
    (s.setCellByte a b).chkRetired = s.chkRetired ∧ (s.setCellByte a b).engines = s.engines ∧ (s.setCellByte a
    b).shared = s.shared ∧ (s.setCellByte a b).tiles = s.tiles ∧ (s.setCellByte a b).loads = s.loads ∧
    (s.setCellByte a b).struct = s.struct ∧ (s.setCellByte a b).keeper = s.keeper ∧ (s.setCellByte a b).power =
    s.power ∧ (s.setCellByte a b).spars = s.spars ∧ (s.setCellByte a b).health = s.health ∧ (s.setCellByte a b).out
    = s.out ∧ (s.setCellByte a b).free = s.free := by
  refine ⟨?_, ?_, ?_, ?_, ?_, ?_, ?_, ?_, ?_, ?_, ?_, ?_, ?_, ?_, ?_, ?_, ?_, ?_, ?_, ?_, ?_, ?_, ?_, ?_, ?_, ?_, ?_, ?_, ?_, ?_, ?_, ?_, ?_, ?_, ?_, ?_, ?_, ?_, ?_, ?_, ?_, ?_, ?_, ?_, ?_, ?_, ?_, ?_, ?_, ?_, ?_, ?_, ?_, ?_⟩ <;> rfl

@[simp] theorem State.emit_fields (o : Out) (s : State) :
    (s.emit o).pending = s.pending ∧ (s.emit o).fuse = s.fuse ∧ (s.emit o).ctl = s.ctl ∧ (s.emit o).regs = s.regs ∧
    (s.emit o).stage = s.stage ∧ (s.emit o).latch = s.latch ∧ (s.emit o).mem = s.mem ∧ (s.emit o).links = s.links ∧
    (s.emit o).recs = s.recs ∧ (s.emit o).descs = s.descs ∧ (s.emit o).fifos = s.fifos ∧ (s.emit o).partners =
    s.partners ∧ (s.emit o).books = s.books ∧ (s.emit o).transit = s.transit ∧ (s.emit o).held = s.held ∧ (s.emit
    o).waits = s.waits ∧ (s.emit o).nextId = s.nextId ∧ (s.emit o).psnap = s.psnap ∧ (s.emit o).retiredRows =
    s.retiredRows ∧ (s.emit o).spareRows = s.spareRows ∧ (s.emit o).slices = s.slices ∧ (s.emit o).routes = s.routes
    ∧ (s.emit o).routeOwners = s.routeOwners ∧ (s.emit o).tunSeq = s.tunSeq ∧ (s.emit o).gwLate = s.gwLate ∧ (s.emit
    o).gwDown = s.gwDown ∧ (s.emit o).irq = s.irq ∧ (s.emit o).eqs = s.eqs ∧ (s.emit o).hold = s.hold ∧ (s.emit
    o).host = s.host ∧ (s.emit o).hostQs = s.hostQs ∧ (s.emit o).yw = s.yw ∧ (s.emit o).beacon = s.beacon ∧ (s.emit
    o).bports = s.bports ∧ (s.emit o).bus = s.bus ∧ (s.emit o).nodes = s.nodes ∧ (s.emit o).ports = s.ports ∧
    (s.emit o).cycle = s.cycle ∧ (s.emit o).gridK = s.gridK ∧ (s.emit o).scheds = s.scheds ∧ (s.emit o).timelines =
    s.timelines ∧ (s.emit o).ctxs = s.ctxs ∧ (s.emit o).quar = s.quar ∧ (s.emit o).chkRetired = s.chkRetired ∧
    (s.emit o).engines = s.engines ∧ (s.emit o).shared = s.shared ∧ (s.emit o).tiles = s.tiles ∧ (s.emit o).loads =
    s.loads ∧ (s.emit o).struct = s.struct ∧ (s.emit o).keeper = s.keeper ∧ (s.emit o).power = s.power ∧ (s.emit
    o).spars = s.spars ∧ (s.emit o).health = s.health ∧ (s.emit o).free = s.free := by
  refine ⟨?_, ?_, ?_, ?_, ?_, ?_, ?_, ?_, ?_, ?_, ?_, ?_, ?_, ?_, ?_, ?_, ?_, ?_, ?_, ?_, ?_, ?_, ?_, ?_, ?_, ?_, ?_, ?_, ?_, ?_, ?_, ?_, ?_, ?_, ?_, ?_, ?_, ?_, ?_, ?_, ?_, ?_, ?_, ?_, ?_, ?_, ?_, ?_, ?_, ?_, ?_, ?_, ?_, ?_⟩ <;> rfl

@[simp] theorem State.draw_fields (s : State) :
    (s.draw).pending = s.pending ∧ (s.draw).fuse = s.fuse ∧ (s.draw).ctl = s.ctl ∧ (s.draw).regs = s.regs ∧
    (s.draw).stage = s.stage ∧ (s.draw).latch = s.latch ∧ (s.draw).mem = s.mem ∧ (s.draw).links = s.links ∧
    (s.draw).recs = s.recs ∧ (s.draw).descs = s.descs ∧ (s.draw).fifos = s.fifos ∧ (s.draw).partners = s.partners ∧
    (s.draw).books = s.books ∧ (s.draw).transit = s.transit ∧ (s.draw).held = s.held ∧ (s.draw).waits = s.waits ∧
    (s.draw).nextId = s.nextId ∧ (s.draw).psnap = s.psnap ∧ (s.draw).retiredRows = s.retiredRows ∧
    (s.draw).spareRows = s.spareRows ∧ (s.draw).slices = s.slices ∧ (s.draw).routes = s.routes ∧
    (s.draw).routeOwners = s.routeOwners ∧ (s.draw).tunSeq = s.tunSeq ∧ (s.draw).gwLate = s.gwLate ∧ (s.draw).gwDown
    = s.gwDown ∧ (s.draw).irq = s.irq ∧ (s.draw).eqs = s.eqs ∧ (s.draw).hold = s.hold ∧ (s.draw).host = s.host ∧
    (s.draw).hostQs = s.hostQs ∧ (s.draw).yw = s.yw ∧ (s.draw).beacon = s.beacon ∧ (s.draw).bports = s.bports ∧
    (s.draw).bus = s.bus ∧ (s.draw).nodes = s.nodes ∧ (s.draw).ports = s.ports ∧ (s.draw).cycle = s.cycle ∧
    (s.draw).gridK = s.gridK ∧ (s.draw).scheds = s.scheds ∧ (s.draw).timelines = s.timelines ∧ (s.draw).ctxs =
    s.ctxs ∧ (s.draw).quar = s.quar ∧ (s.draw).chkRetired = s.chkRetired ∧ (s.draw).engines = s.engines ∧
    (s.draw).shared = s.shared ∧ (s.draw).tiles = s.tiles ∧ (s.draw).loads = s.loads ∧ (s.draw).struct = s.struct ∧
    (s.draw).keeper = s.keeper ∧ (s.draw).power = s.power ∧ (s.draw).spars = s.spars ∧ (s.draw).health = s.health ∧
    (s.draw).out = s.out := by
  refine ⟨?_, ?_, ?_, ?_, ?_, ?_, ?_, ?_, ?_, ?_, ?_, ?_, ?_, ?_, ?_, ?_, ?_, ?_, ?_, ?_, ?_, ?_, ?_, ?_, ?_, ?_, ?_, ?_, ?_, ?_, ?_, ?_, ?_, ?_, ?_, ?_, ?_, ?_, ?_, ?_, ?_, ?_, ?_, ?_, ?_, ?_, ?_, ?_, ?_, ?_, ?_, ?_, ?_, ?_⟩ <;> rfl

@[simp] theorem State.desc_setDesc (i k : Nat) (d : Desc) (s : State) :
    (s.setDesc i d).desc k = if k = i then d else s.desc k := Tbl.get_set _ _ _ _ _

@[simp] theorem State.fifo_setFifo (i k : Nat) (d : Fifo) (s : State) :
    (s.setFifo i d).fifo k = if k = i then d else s.fifo k := Tbl.get_set _ _ _ _ _

@[simp] theorem State.link_setLink (i k : Nat) (d : Link1) (s : State) :
    (s.setLink i d).link k = if k = i then d else s.link k := Tbl.get_set _ _ _ _ _

@[simp] theorem State.record_setRecord (i k : Nat) (d : Option Rec) (s : State) :
    (s.setRecord i d).record k = if k = i then d else s.record k := Tbl.get_set _ _ _ _ _

@[simp] theorem State.partner_setPartner (i k : Nat) (d : Partner) (s : State) :
    (s.setPartner i d).partner k = if k = i then d else s.partner k := Tbl.get_set _ _ _ _ _

@[simp] theorem State.slice_setSlice (i k : Nat) (d : Slice) (s : State) :
    (s.setSlice i d).slice k = if k = i then d else s.slice k := Tbl.get_set _ _ _ _ _

@[simp] theorem State.route_setRoute (i k : Nat) (d : List Byte) (s : State) :
    (s.setRoute i d).route k = if k = i then d else s.route k := Tbl.get_set _ _ _ _ _

@[simp] theorem State.src_setSrc (i k : Nat) (d : IrqSrc) (s : State) :
    (s.setSrc i d).src k = if k = i then d else s.src k := Tbl.get_set _ _ _ _ _

@[simp] theorem State.eq_setEq (i k : Nat) (d : EventQ) (s : State) :
    (s.setEq i d).eq k = if k = i then d else s.eq k := Tbl.get_set _ _ _ _ _

@[simp] theorem State.hostQ_setHostQ (i k : Nat) (d : HostQ) (s : State) :
    (s.setHostQ i d).hostQ k = if k = i then d else s.hostQ k := Tbl.get_set _ _ _ _ _

@[simp] theorem State.bport_setBport (i k : Nat) (d : BcnPort) (s : State) :
    (s.setBport i d).bport k = if k = i then d else s.bport k := Tbl.get_set _ _ _ _ _

@[simp] theorem State.lane_setLane (i k : Nat) (d : BusLane) (s : State) :
    (s.setLane i d).lane k = if k = i then d else s.lane k := Tbl.get_set _ _ _ _ _

@[simp] theorem State.node_setNode (i k : Nat) (d : NodeEnt) (s : State) :
    (s.setNode i d).node k = if k = i then d else s.node k := Tbl.get_set _ _ _ _ _

@[simp] theorem State.port_setPort (i k : Nat) (d : Port) (s : State) :
    (s.setPort i d).port k = if k = i then d else s.port k := Tbl.get_set _ _ _ _ _

@[simp] theorem State.sched_setSched (i k : Nat) (d : Option Schedule) (s : State) :
    (s.setSched i d).sched k = if k = i then d else s.sched k := Tbl.get_set _ _ _ _ _

@[simp] theorem State.tl_setTl (i k : Nat) (d : Timeline) (s : State) :
    (s.setTl i d).tl k = if k = i then d else s.tl k := Tbl.get_set _ _ _ _ _

@[simp] theorem State.ctx_setCtx (i k : Nat) (d : Option Ctx) (s : State) :
    (s.setCtx i d).ctx k = if k = i then d else s.ctx k := Tbl.get_set _ _ _ _ _

@[simp] theorem State.ring_setRing (i k : Nat) (d : Quar) (s : State) :
    (s.setRing i d).ring k = if k = i then d else s.ring k := Tbl.get_set _ _ _ _ _

@[simp] theorem State.eng_setEng (i k : Nat) (d : Engine) (s : State) :
    (s.setEng i d).eng k = if k = i then d else s.eng k := Tbl.get_set _ _ _ _ _

@[simp] theorem State.tile_setTile (i k : Nat) (d : Tile) (s : State) :
    (s.setTile i d).tile k = if k = i then d else s.tile k := Tbl.get_set _ _ _ _ _

@[simp] theorem State.spar_setSpar (i k : Nat) (d : Spar) (s : State) :
    (s.setSpar i d).spar k = if k = i then d else s.spar k := Tbl.get_set _ _ _ _ _

@[simp] theorem State.load_setLoad (i k : Nat) (d : Option LoadJob) (s : State) :
    (s.setLoad i d).load k = if k = i then d else s.load k := Tbl.get_set _ _ _ _ _

@[simp] theorem State.rd_wr (off k : Nat) (w : Word) (s : State) :
    (s.wr off w).rd k = if k = off then w else s.rd k := Tbl.get_set _ _ _ _ _

@[simp] theorem State.cellByte_setCellByte (a k : Nat) (b : Byte) (s : State) :
    (s.setCellByte a b).cellByte k = if k = a then b else s.cellByte k := Tbl.get_set _ _ _ _ _

/-- Every write of cell memory keeps its canonical form. -/
theorem State.setCellByte_wf (a : Nat) (b : Byte) (s : State) (h : Memory.wf s.mem = true) :
    Memory.wf (s.setCellByte a b).mem = true := Tbl.wf_set _ _ _ _ h

theorem State.putBytes_wf (bs : List Byte) (a : Nat) (s : State) (h : Memory.wf s.mem = true) :
    Memory.wf (s.putBytes a bs).mem = true := by
  induction bs generalizing a s with
  | nil => simpa [State.putBytes] using h
  | cons b bs ih => simpa [State.putBytes] using ih (a + 1) _ (State.setCellByte_wf a b s h)

theorem State.reset_mem_wf : Memory.wf State.reset.mem = true := rfl

end Sys2Proof.Machine
end

