-- ==== Sys2Proof/Laws/Fields.lean ====
section
/-! SUPPORT. What the operations that most commands share leave alone, field by field; and the registers after an event. -/
namespace Sys2Proof.Machine
open Sys2Proof

@[simp] theorem State.setf_fields (off : Nat) (lo : Nat) (len : Nat) (v : Nat) (s : State) :
    (State.setf off lo len v s).pending = s.pending ∧ (State.setf off lo len v s).fuse = s.fuse ∧ (State.setf off lo
    len v s).ctl = s.ctl ∧ (State.setf off lo len v s).stage = s.stage ∧ (State.setf off lo len v s).latch = s.latch
    ∧ (State.setf off lo len v s).mem = s.mem ∧ (State.setf off lo len v s).links = s.links ∧ (State.setf off lo len
    v s).recs = s.recs ∧ (State.setf off lo len v s).descs = s.descs ∧ (State.setf off lo len v s).fifos = s.fifos ∧
    (State.setf off lo len v s).partners = s.partners ∧ (State.setf off lo len v s).books = s.books ∧ (State.setf
    off lo len v s).transit = s.transit ∧ (State.setf off lo len v s).held = s.held ∧ (State.setf off lo len v
    s).waits = s.waits ∧ (State.setf off lo len v s).nextId = s.nextId ∧ (State.setf off lo len v s).psnap = s.psnap
    ∧ (State.setf off lo len v s).retiredRows = s.retiredRows ∧ (State.setf off lo len v s).spareRows = s.spareRows
    ∧ (State.setf off lo len v s).slices = s.slices ∧ (State.setf off lo len v s).routes = s.routes ∧ (State.setf
    off lo len v s).routeOwners = s.routeOwners ∧ (State.setf off lo len v s).tunSeq = s.tunSeq ∧ (State.setf off lo
    len v s).gwLate = s.gwLate ∧ (State.setf off lo len v s).gwDown = s.gwDown ∧ (State.setf off lo len v s).irq =
    s.irq ∧ (State.setf off lo len v s).eqs = s.eqs ∧ (State.setf off lo len v s).hold = s.hold ∧ (State.setf off lo
    len v s).host = s.host ∧ (State.setf off lo len v s).hostQs = s.hostQs ∧ (State.setf off lo len v s).yw = s.yw ∧
    (State.setf off lo len v s).beacon = s.beacon ∧ (State.setf off lo len v s).bports = s.bports ∧ (State.setf off
    lo len v s).bus = s.bus ∧ (State.setf off lo len v s).nodes = s.nodes ∧ (State.setf off lo len v s).ports =
    s.ports ∧ (State.setf off lo len v s).cycle = s.cycle ∧ (State.setf off lo len v s).gridK = s.gridK ∧
    (State.setf off lo len v s).scheds = s.scheds ∧ (State.setf off lo len v s).timelines = s.timelines ∧
    (State.setf off lo len v s).ctxs = s.ctxs ∧ (State.setf off lo len v s).quar = s.quar ∧ (State.setf off lo len v
    s).chkRetired = s.chkRetired ∧ (State.setf off lo len v s).engines = s.engines ∧ (State.setf off lo len v
    s).shared = s.shared ∧ (State.setf off lo len v s).tiles = s.tiles ∧ (State.setf off lo len v s).loads = s.loads
    ∧ (State.setf off lo len v s).struct = s.struct ∧ (State.setf off lo len v s).keeper = s.keeper ∧ (State.setf
    off lo len v s).power = s.power ∧ (State.setf off lo len v s).spars = s.spars ∧ (State.setf off lo len v
    s).health = s.health ∧ (State.setf off lo len v s).out = s.out ∧ (State.setf off lo len v s).free = s.free := by
  have h := State.setf_k (m := 0x8) (s0 := s) off lo len v s rfl (Kept.refl _ s)
  exact ⟨h.2.2.2.1, h.2.2.1, h.same .ctl rfl, h.same .stage rfl, h.same .latch rfl, h.same .mem rfl, h.same .links rfl,
    h.same .recs rfl, h.same .descs rfl, h.same .fifos rfl, h.same .partners rfl, h.same .books rfl, h.same .transit
    rfl, h.same .held rfl, h.same .waits rfl, h.same .nextId rfl, h.same .psnap rfl, h.same .retiredRows rfl, h.same
    .spareRows rfl, h.same .slices rfl, h.same .routes rfl, h.same .routeOwners rfl, h.same .tunSeq rfl, h.same
    .gwLate rfl, h.same .gwDown rfl, h.same .irq rfl, h.same .eqs rfl, h.same .hold rfl, h.same .host rfl, h.same
    .hostQs rfl, h.same .yw rfl, h.same .beacon rfl, h.same .bports rfl, h.same .bus rfl, h.same .nodes rfl, h.same
    .ports rfl, h.same .cycle rfl, h.same .gridK rfl, h.same .scheds rfl, h.same .timelines rfl, h.same .ctxs rfl,
    h.same .quar rfl, h.same .chkRetired rfl, h.same .engines rfl, h.same .shared rfl, h.same .tiles rfl, h.same
    .loads rfl, h.same .structure_ rfl, h.same .keeper rfl, h.same .power rfl, h.same .spars rfl, h.same .health
    rfl, h.same .out rfl, h.same .free rfl⟩

@[simp] theorem State.cnt_fields (off : Nat) (s : State) (n : Nat) :
    (State.cnt off s n).pending = s.pending ∧ (State.cnt off s n).fuse = s.fuse ∧ (State.cnt off s n).ctl = s.ctl ∧
    (State.cnt off s n).stage = s.stage ∧ (State.cnt off s n).latch = s.latch ∧ (State.cnt off s n).mem = s.mem ∧
    (State.cnt off s n).links = s.links ∧ (State.cnt off s n).recs = s.recs ∧ (State.cnt off s n).descs = s.descs ∧
    (State.cnt off s n).fifos = s.fifos ∧ (State.cnt off s n).partners = s.partners ∧ (State.cnt off s n).books =
    s.books ∧ (State.cnt off s n).transit = s.transit ∧ (State.cnt off s n).held = s.held ∧ (State.cnt off s
    n).waits = s.waits ∧ (State.cnt off s n).nextId = s.nextId ∧ (State.cnt off s n).psnap = s.psnap ∧ (State.cnt
    off s n).retiredRows = s.retiredRows ∧ (State.cnt off s n).spareRows = s.spareRows ∧ (State.cnt off s n).slices
    = s.slices ∧ (State.cnt off s n).routes = s.routes ∧ (State.cnt off s n).routeOwners = s.routeOwners ∧
    (State.cnt off s n).tunSeq = s.tunSeq ∧ (State.cnt off s n).gwLate = s.gwLate ∧ (State.cnt off s n).gwDown =
    s.gwDown ∧ (State.cnt off s n).irq = s.irq ∧ (State.cnt off s n).eqs = s.eqs ∧ (State.cnt off s n).hold = s.hold
    ∧ (State.cnt off s n).host = s.host ∧ (State.cnt off s n).hostQs = s.hostQs ∧ (State.cnt off s n).yw = s.yw ∧
    (State.cnt off s n).beacon = s.beacon ∧ (State.cnt off s n).bports = s.bports ∧ (State.cnt off s n).bus = s.bus
    ∧ (State.cnt off s n).nodes = s.nodes ∧ (State.cnt off s n).ports = s.ports ∧ (State.cnt off s n).cycle =
    s.cycle ∧ (State.cnt off s n).gridK = s.gridK ∧ (State.cnt off s n).scheds = s.scheds ∧ (State.cnt off s
    n).timelines = s.timelines ∧ (State.cnt off s n).ctxs = s.ctxs ∧ (State.cnt off s n).quar = s.quar ∧ (State.cnt
    off s n).chkRetired = s.chkRetired ∧ (State.cnt off s n).engines = s.engines ∧ (State.cnt off s n).shared =
    s.shared ∧ (State.cnt off s n).tiles = s.tiles ∧ (State.cnt off s n).loads = s.loads ∧ (State.cnt off s
    n).struct = s.struct ∧ (State.cnt off s n).keeper = s.keeper ∧ (State.cnt off s n).power = s.power ∧ (State.cnt
    off s n).spars = s.spars ∧ (State.cnt off s n).health = s.health ∧ (State.cnt off s n).out = s.out ∧ (State.cnt
    off s n).free = s.free := by
  have h := State.cnt_k (m := 0x8) (s0 := s) off s n rfl (Kept.refl _ s)
  exact ⟨h.2.2.2.1, h.2.2.1, h.same .ctl rfl, h.same .stage rfl, h.same .latch rfl, h.same .mem rfl, h.same .links rfl,
    h.same .recs rfl, h.same .descs rfl, h.same .fifos rfl, h.same .partners rfl, h.same .books rfl, h.same .transit
    rfl, h.same .held rfl, h.same .waits rfl, h.same .nextId rfl, h.same .psnap rfl, h.same .retiredRows rfl, h.same
    .spareRows rfl, h.same .slices rfl, h.same .routes rfl, h.same .routeOwners rfl, h.same .tunSeq rfl, h.same
    .gwLate rfl, h.same .gwDown rfl, h.same .irq rfl, h.same .eqs rfl, h.same .hold rfl, h.same .host rfl, h.same
    .hostQs rfl, h.same .yw rfl, h.same .beacon rfl, h.same .bports rfl, h.same .bus rfl, h.same .nodes rfl, h.same
    .ports rfl, h.same .cycle rfl, h.same .gridK rfl, h.same .scheds rfl, h.same .timelines rfl, h.same .ctxs rfl,
    h.same .quar rfl, h.same .chkRetired rfl, h.same .engines rfl, h.same .shared rfl, h.same .tiles rfl, h.same
    .loads rfl, h.same .structure_ rfl, h.same .keeper rfl, h.same .power rfl, h.same .spars rfl, h.same .health
    rfl, h.same .out rfl, h.same .free rfl⟩

@[simp] theorem State.cntF_fields (off : Nat) (lo : Nat) (len : Nat) (s : State) (n : Nat) :
    (State.cntF off lo len s n).pending = s.pending ∧ (State.cntF off lo len s n).fuse = s.fuse ∧ (State.cntF off lo
    len s n).ctl = s.ctl ∧ (State.cntF off lo len s n).stage = s.stage ∧ (State.cntF off lo len s n).latch = s.latch
    ∧ (State.cntF off lo len s n).mem = s.mem ∧ (State.cntF off lo len s n).links = s.links ∧ (State.cntF off lo len
    s n).recs = s.recs ∧ (State.cntF off lo len s n).descs = s.descs ∧ (State.cntF off lo len s n).fifos = s.fifos ∧
    (State.cntF off lo len s n).partners = s.partners ∧ (State.cntF off lo len s n).books = s.books ∧ (State.cntF
    off lo len s n).transit = s.transit ∧ (State.cntF off lo len s n).held = s.held ∧ (State.cntF off lo len s
    n).waits = s.waits ∧ (State.cntF off lo len s n).nextId = s.nextId ∧ (State.cntF off lo len s n).psnap = s.psnap
    ∧ (State.cntF off lo len s n).retiredRows = s.retiredRows ∧ (State.cntF off lo len s n).spareRows = s.spareRows
    ∧ (State.cntF off lo len s n).slices = s.slices ∧ (State.cntF off lo len s n).routes = s.routes ∧ (State.cntF
    off lo len s n).routeOwners = s.routeOwners ∧ (State.cntF off lo len s n).tunSeq = s.tunSeq ∧ (State.cntF off lo
    len s n).gwLate = s.gwLate ∧ (State.cntF off lo len s n).gwDown = s.gwDown ∧ (State.cntF off lo len s n).irq =
    s.irq ∧ (State.cntF off lo len s n).eqs = s.eqs ∧ (State.cntF off lo len s n).hold = s.hold ∧ (State.cntF off lo
    len s n).host = s.host ∧ (State.cntF off lo len s n).hostQs = s.hostQs ∧ (State.cntF off lo len s n).yw = s.yw ∧
    (State.cntF off lo len s n).beacon = s.beacon ∧ (State.cntF off lo len s n).bports = s.bports ∧ (State.cntF off
    lo len s n).bus = s.bus ∧ (State.cntF off lo len s n).nodes = s.nodes ∧ (State.cntF off lo len s n).ports =
    s.ports ∧ (State.cntF off lo len s n).cycle = s.cycle ∧ (State.cntF off lo len s n).gridK = s.gridK ∧
    (State.cntF off lo len s n).scheds = s.scheds ∧ (State.cntF off lo len s n).timelines = s.timelines ∧
    (State.cntF off lo len s n).ctxs = s.ctxs ∧ (State.cntF off lo len s n).quar = s.quar ∧ (State.cntF off lo len s
    n).chkRetired = s.chkRetired ∧ (State.cntF off lo len s n).engines = s.engines ∧ (State.cntF off lo len s
    n).shared = s.shared ∧ (State.cntF off lo len s n).tiles = s.tiles ∧ (State.cntF off lo len s n).loads = s.loads
    ∧ (State.cntF off lo len s n).struct = s.struct ∧ (State.cntF off lo len s n).keeper = s.keeper ∧ (State.cntF
    off lo len s n).power = s.power ∧ (State.cntF off lo len s n).spars = s.spars ∧ (State.cntF off lo len s
    n).health = s.health ∧ (State.cntF off lo len s n).out = s.out ∧ (State.cntF off lo len s n).free = s.free := by
  have h := State.cntF_k (m := 0x8) (s0 := s) off lo len s n rfl (Kept.refl _ s)
  exact ⟨h.2.2.2.1, h.2.2.1, h.same .ctl rfl, h.same .stage rfl, h.same .latch rfl, h.same .mem rfl, h.same .links rfl,
    h.same .recs rfl, h.same .descs rfl, h.same .fifos rfl, h.same .partners rfl, h.same .books rfl, h.same .transit
    rfl, h.same .held rfl, h.same .waits rfl, h.same .nextId rfl, h.same .psnap rfl, h.same .retiredRows rfl, h.same
    .spareRows rfl, h.same .slices rfl, h.same .routes rfl, h.same .routeOwners rfl, h.same .tunSeq rfl, h.same
    .gwLate rfl, h.same .gwDown rfl, h.same .irq rfl, h.same .eqs rfl, h.same .hold rfl, h.same .host rfl, h.same
    .hostQs rfl, h.same .yw rfl, h.same .beacon rfl, h.same .bports rfl, h.same .bus rfl, h.same .nodes rfl, h.same
    .ports rfl, h.same .cycle rfl, h.same .gridK rfl, h.same .scheds rfl, h.same .timelines rfl, h.same .ctxs rfl,
    h.same .quar rfl, h.same .chkRetired rfl, h.same .engines rfl, h.same .shared rfl, h.same .tiles rfl, h.same
    .loads rfl, h.same .structure_ rfl, h.same .keeper rfl, h.same .power rfl, h.same .spars rfl, h.same .health
    rfl, h.same .out rfl, h.same .free rfl⟩

@[simp] theorem State.arrive_fields (i : Nat) (s : State) :
    (State.arrive i s).pending = s.pending ∧ (State.arrive i s).fuse = s.fuse ∧ (State.arrive i s).ctl = s.ctl ∧
    (State.arrive i s).regs = s.regs ∧ (State.arrive i s).stage = s.stage ∧ (State.arrive i s).latch = s.latch ∧
    (State.arrive i s).mem = s.mem ∧ (State.arrive i s).links = s.links ∧ (State.arrive i s).recs = s.recs ∧
    (State.arrive i s).descs = s.descs ∧ (State.arrive i s).fifos = s.fifos ∧ (State.arrive i s).partners =
    s.partners ∧ (State.arrive i s).books = s.books ∧ (State.arrive i s).transit = s.transit ∧ (State.arrive i
    s).held = s.held ∧ (State.arrive i s).waits = s.waits ∧ (State.arrive i s).nextId = s.nextId ∧ (State.arrive i
    s).psnap = s.psnap ∧ (State.arrive i s).retiredRows = s.retiredRows ∧ (State.arrive i s).spareRows = s.spareRows
    ∧ (State.arrive i s).slices = s.slices ∧ (State.arrive i s).routes = s.routes ∧ (State.arrive i s).routeOwners =
    s.routeOwners ∧ (State.arrive i s).tunSeq = s.tunSeq ∧ (State.arrive i s).gwLate = s.gwLate ∧ (State.arrive i
    s).gwDown = s.gwDown ∧ (State.arrive i s).eqs = s.eqs ∧ (State.arrive i s).hold = s.hold ∧ (State.arrive i
    s).host = s.host ∧ (State.arrive i s).hostQs = s.hostQs ∧ (State.arrive i s).yw = s.yw ∧ (State.arrive i
    s).beacon = s.beacon ∧ (State.arrive i s).bports = s.bports ∧ (State.arrive i s).bus = s.bus ∧ (State.arrive i
    s).nodes = s.nodes ∧ (State.arrive i s).ports = s.ports ∧ (State.arrive i s).cycle = s.cycle ∧ (State.arrive i
    s).gridK = s.gridK ∧ (State.arrive i s).scheds = s.scheds ∧ (State.arrive i s).timelines = s.timelines ∧
    (State.arrive i s).ctxs = s.ctxs ∧ (State.arrive i s).quar = s.quar ∧ (State.arrive i s).chkRetired =
    s.chkRetired ∧ (State.arrive i s).shared = s.shared ∧ (State.arrive i s).tiles = s.tiles ∧ (State.arrive i
    s).loads = s.loads ∧ (State.arrive i s).struct = s.struct ∧ (State.arrive i s).keeper = s.keeper ∧ (State.arrive
    i s).power = s.power ∧ (State.arrive i s).spars = s.spars ∧ (State.arrive i s).health = s.health ∧ (State.arrive
    i s).out = s.out ∧ (State.arrive i s).free = s.free := by
  have h := State.arrive_k (m := 0x100004000000) (s0 := s) i s rfl (Kept.refl _ s)
  exact ⟨h.2.2.2.1, h.2.2.1, h.same .ctl rfl, h.same .regs rfl, h.same .stage rfl, h.same .latch rfl, h.same .mem rfl,
    h.same .links rfl, h.same .recs rfl, h.same .descs rfl, h.same .fifos rfl, h.same .partners rfl, h.same .books
    rfl, h.same .transit rfl, h.same .held rfl, h.same .waits rfl, h.same .nextId rfl, h.same .psnap rfl, h.same
    .retiredRows rfl, h.same .spareRows rfl, h.same .slices rfl, h.same .routes rfl, h.same .routeOwners rfl, h.same
    .tunSeq rfl, h.same .gwLate rfl, h.same .gwDown rfl, h.same .eqs rfl, h.same .hold rfl, h.same .host rfl, h.same
    .hostQs rfl, h.same .yw rfl, h.same .beacon rfl, h.same .bports rfl, h.same .bus rfl, h.same .nodes rfl, h.same
    .ports rfl, h.same .cycle rfl, h.same .gridK rfl, h.same .scheds rfl, h.same .timelines rfl, h.same .ctxs rfl,
    h.same .quar rfl, h.same .chkRetired rfl, h.same .shared rfl, h.same .tiles rfl, h.same .loads rfl, h.same
    .structure_ rfl, h.same .keeper rfl, h.same .power rfl, h.same .spars rfl, h.same .health rfl, h.same .out rfl,
    h.same .free rfl⟩

@[simp] theorem State.record16_fields (q : Nat) (r : EvRec) (s : State) :
    (State.record16 q r s).pending = s.pending ∧ (State.record16 q r s).fuse = s.fuse ∧ (State.record16 q r s).ctl =
    s.ctl ∧ (State.record16 q r s).regs = s.regs ∧ (State.record16 q r s).stage = s.stage ∧ (State.record16 q r
    s).latch = s.latch ∧ (State.record16 q r s).mem = s.mem ∧ (State.record16 q r s).links = s.links ∧
    (State.record16 q r s).recs = s.recs ∧ (State.record16 q r s).descs = s.descs ∧ (State.record16 q r s).fifos =
    s.fifos ∧ (State.record16 q r s).partners = s.partners ∧ (State.record16 q r s).books = s.books ∧
    (State.record16 q r s).transit = s.transit ∧ (State.record16 q r s).held = s.held ∧ (State.record16 q r s).waits
    = s.waits ∧ (State.record16 q r s).nextId = s.nextId ∧ (State.record16 q r s).psnap = s.psnap ∧ (State.record16
    q r s).retiredRows = s.retiredRows ∧ (State.record16 q r s).spareRows = s.spareRows ∧ (State.record16 q r
    s).slices = s.slices ∧ (State.record16 q r s).routes = s.routes ∧ (State.record16 q r s).routeOwners =
    s.routeOwners ∧ (State.record16 q r s).tunSeq = s.tunSeq ∧ (State.record16 q r s).gwLate = s.gwLate ∧
    (State.record16 q r s).gwDown = s.gwDown ∧ (State.record16 q r s).irq = s.irq ∧ (State.record16 q r s).hostQs =
    s.hostQs ∧ (State.record16 q r s).yw = s.yw ∧ (State.record16 q r s).beacon = s.beacon ∧ (State.record16 q r
    s).bports = s.bports ∧ (State.record16 q r s).bus = s.bus ∧ (State.record16 q r s).nodes = s.nodes ∧
    (State.record16 q r s).ports = s.ports ∧ (State.record16 q r s).cycle = s.cycle ∧ (State.record16 q r s).gridK =
    s.gridK ∧ (State.record16 q r s).scheds = s.scheds ∧ (State.record16 q r s).timelines = s.timelines ∧
    (State.record16 q r s).ctxs = s.ctxs ∧ (State.record16 q r s).quar = s.quar ∧ (State.record16 q r s).chkRetired
    = s.chkRetired ∧ (State.record16 q r s).engines = s.engines ∧ (State.record16 q r s).shared = s.shared ∧
    (State.record16 q r s).tiles = s.tiles ∧ (State.record16 q r s).loads = s.loads ∧ (State.record16 q r s).struct
    = s.struct ∧ (State.record16 q r s).keeper = s.keeper ∧ (State.record16 q r s).power = s.power ∧ (State.record16
    q r s).spars = s.spars ∧ (State.record16 q r s).health = s.health ∧ (State.record16 q r s).free = s.free := by
  have h := State.record16_k (m := 0x20000038000000) (s0 := s) q r s rfl (Kept.refl _ s)
  exact ⟨h.2.2.2.1, h.2.2.1, h.same .ctl rfl, h.same .regs rfl, h.same .stage rfl, h.same .latch rfl, h.same .mem rfl,
    h.same .links rfl, h.same .recs rfl, h.same .descs rfl, h.same .fifos rfl, h.same .partners rfl, h.same .books
    rfl, h.same .transit rfl, h.same .held rfl, h.same .waits rfl, h.same .nextId rfl, h.same .psnap rfl, h.same
    .retiredRows rfl, h.same .spareRows rfl, h.same .slices rfl, h.same .routes rfl, h.same .routeOwners rfl, h.same
    .tunSeq rfl, h.same .gwLate rfl, h.same .gwDown rfl, h.same .irq rfl, h.same .hostQs rfl, h.same .yw rfl, h.same
    .beacon rfl, h.same .bports rfl, h.same .bus rfl, h.same .nodes rfl, h.same .ports rfl, h.same .cycle rfl,
    h.same .gridK rfl, h.same .scheds rfl, h.same .timelines rfl, h.same .ctxs rfl, h.same .quar rfl, h.same
    .chkRetired rfl, h.same .engines rfl, h.same .shared rfl, h.same .tiles rfl, h.same .loads rfl, h.same
    .structure_ rfl, h.same .keeper rfl, h.same .power rfl, h.same .spars rfl, h.same .health rfl, h.same .free rfl⟩

@[simp] theorem State.raise_fields (b : Blk) (i : Nat) (unit : Nat) (info : Nat) (s : State) :
    (State.raise b i unit info s).pending = s.pending ∧ (State.raise b i unit info s).fuse = s.fuse ∧ (State.raise b
    i unit info s).ctl = s.ctl ∧ (State.raise b i unit info s).stage = s.stage ∧ (State.raise b i unit info s).latch
    = s.latch ∧ (State.raise b i unit info s).mem = s.mem ∧ (State.raise b i unit info s).links = s.links ∧
    (State.raise b i unit info s).recs = s.recs ∧ (State.raise b i unit info s).descs = s.descs ∧ (State.raise b i
    unit info s).fifos = s.fifos ∧ (State.raise b i unit info s).partners = s.partners ∧ (State.raise b i unit info
    s).books = s.books ∧ (State.raise b i unit info s).transit = s.transit ∧ (State.raise b i unit info s).held =
    s.held ∧ (State.raise b i unit info s).waits = s.waits ∧ (State.raise b i unit info s).nextId = s.nextId ∧
    (State.raise b i unit info s).psnap = s.psnap ∧ (State.raise b i unit info s).retiredRows = s.retiredRows ∧
    (State.raise b i unit info s).spareRows = s.spareRows ∧ (State.raise b i unit info s).slices = s.slices ∧
    (State.raise b i unit info s).routes = s.routes ∧ (State.raise b i unit info s).routeOwners = s.routeOwners ∧
    (State.raise b i unit info s).tunSeq = s.tunSeq ∧ (State.raise b i unit info s).gwLate = s.gwLate ∧ (State.raise
    b i unit info s).gwDown = s.gwDown ∧ (State.raise b i unit info s).hostQs = s.hostQs ∧ (State.raise b i unit
    info s).yw = s.yw ∧ (State.raise b i unit info s).beacon = s.beacon ∧ (State.raise b i unit info s).bports =
    s.bports ∧ (State.raise b i unit info s).bus = s.bus ∧ (State.raise b i unit info s).nodes = s.nodes ∧
    (State.raise b i unit info s).ports = s.ports ∧ (State.raise b i unit info s).cycle = s.cycle ∧ (State.raise b i
    unit info s).gridK = s.gridK ∧ (State.raise b i unit info s).scheds = s.scheds ∧ (State.raise b i unit info
    s).timelines = s.timelines ∧ (State.raise b i unit info s).ctxs = s.ctxs ∧ (State.raise b i unit info s).quar =
    s.quar ∧ (State.raise b i unit info s).chkRetired = s.chkRetired ∧ (State.raise b i unit info s).shared =
    s.shared ∧ (State.raise b i unit info s).tiles = s.tiles ∧ (State.raise b i unit info s).loads = s.loads ∧
    (State.raise b i unit info s).struct = s.struct ∧ (State.raise b i unit info s).keeper = s.keeper ∧ (State.raise
    b i unit info s).power = s.power ∧ (State.raise b i unit info s).spars = s.spars ∧ (State.raise b i unit info
    s).health = s.health ∧ (State.raise b i unit info s).free = s.free := by
  have h := State.raise_k (m := 0x2010003C000008) (s0 := s) b i unit info s rfl (Kept.refl _ s)
  exact ⟨h.2.2.2.1, h.2.2.1, h.same .ctl rfl, h.same .stage rfl, h.same .latch rfl, h.same .mem rfl, h.same .links rfl,
    h.same .recs rfl, h.same .descs rfl, h.same .fifos rfl, h.same .partners rfl, h.same .books rfl, h.same .transit
    rfl, h.same .held rfl, h.same .waits rfl, h.same .nextId rfl, h.same .psnap rfl, h.same .retiredRows rfl, h.same
    .spareRows rfl, h.same .slices rfl, h.same .routes rfl, h.same .routeOwners rfl, h.same .tunSeq rfl, h.same
    .gwLate rfl, h.same .gwDown rfl, h.same .hostQs rfl, h.same .yw rfl, h.same .beacon rfl, h.same .bports rfl,
    h.same .bus rfl, h.same .nodes rfl, h.same .ports rfl, h.same .cycle rfl, h.same .gridK rfl, h.same .scheds rfl,
    h.same .timelines rfl, h.same .ctxs rfl, h.same .quar rfl, h.same .chkRetired rfl, h.same .shared rfl, h.same
    .tiles rfl, h.same .loads rfl, h.same .structure_ rfl, h.same .keeper rfl, h.same .power rfl, h.same .spars rfl,
    h.same .health rfl, h.same .free rfl⟩

@[simp] theorem State.modRecord_fields (code : Nat) (unit : Nat) (info : Nat) (s : State) :
    (State.modRecord code unit info s).pending = s.pending ∧ (State.modRecord code unit info s).fuse = s.fuse ∧
    (State.modRecord code unit info s).ctl = s.ctl ∧ (State.modRecord code unit info s).regs = s.regs ∧
    (State.modRecord code unit info s).stage = s.stage ∧ (State.modRecord code unit info s).latch = s.latch ∧
    (State.modRecord code unit info s).mem = s.mem ∧ (State.modRecord code unit info s).links = s.links ∧
    (State.modRecord code unit info s).recs = s.recs ∧ (State.modRecord code unit info s).descs = s.descs ∧
    (State.modRecord code unit info s).fifos = s.fifos ∧ (State.modRecord code unit info s).partners = s.partners ∧
    (State.modRecord code unit info s).books = s.books ∧ (State.modRecord code unit info s).transit = s.transit ∧
    (State.modRecord code unit info s).held = s.held ∧ (State.modRecord code unit info s).waits = s.waits ∧
    (State.modRecord code unit info s).nextId = s.nextId ∧ (State.modRecord code unit info s).psnap = s.psnap ∧
    (State.modRecord code unit info s).retiredRows = s.retiredRows ∧ (State.modRecord code unit info s).spareRows =
    s.spareRows ∧ (State.modRecord code unit info s).slices = s.slices ∧ (State.modRecord code unit info s).routes =
    s.routes ∧ (State.modRecord code unit info s).routeOwners = s.routeOwners ∧ (State.modRecord code unit info
    s).tunSeq = s.tunSeq ∧ (State.modRecord code unit info s).gwLate = s.gwLate ∧ (State.modRecord code unit info
    s).gwDown = s.gwDown ∧ (State.modRecord code unit info s).hostQs = s.hostQs ∧ (State.modRecord code unit info
    s).yw = s.yw ∧ (State.modRecord code unit info s).beacon = s.beacon ∧ (State.modRecord code unit info s).bports
    = s.bports ∧ (State.modRecord code unit info s).bus = s.bus ∧ (State.modRecord code unit info s).nodes = s.nodes
    ∧ (State.modRecord code unit info s).ports = s.ports ∧ (State.modRecord code unit info s).cycle = s.cycle ∧
    (State.modRecord code unit info s).gridK = s.gridK ∧ (State.modRecord code unit info s).scheds = s.scheds ∧
    (State.modRecord code unit info s).timelines = s.timelines ∧ (State.modRecord code unit info s).ctxs = s.ctxs ∧
    (State.modRecord code unit info s).quar = s.quar ∧ (State.modRecord code unit info s).chkRetired = s.chkRetired
    ∧ (State.modRecord code unit info s).shared = s.shared ∧ (State.modRecord code unit info s).tiles = s.tiles ∧
    (State.modRecord code unit info s).loads = s.loads ∧ (State.modRecord code unit info s).struct = s.struct ∧
    (State.modRecord code unit info s).keeper = s.keeper ∧ (State.modRecord code unit info s).power = s.power ∧
    (State.modRecord code unit info s).spars = s.spars ∧ (State.modRecord code unit info s).health = s.health ∧
    (State.modRecord code unit info s).free = s.free := by
  have h := State.modRecord_k (m := 0x2010003C000000) (s0 := s) code unit info s rfl (Kept.refl _ s)
  exact ⟨h.2.2.2.1, h.2.2.1, h.same .ctl rfl, h.same .regs rfl, h.same .stage rfl, h.same .latch rfl, h.same .mem rfl,
    h.same .links rfl, h.same .recs rfl, h.same .descs rfl, h.same .fifos rfl, h.same .partners rfl, h.same .books
    rfl, h.same .transit rfl, h.same .held rfl, h.same .waits rfl, h.same .nextId rfl, h.same .psnap rfl, h.same
    .retiredRows rfl, h.same .spareRows rfl, h.same .slices rfl, h.same .routes rfl, h.same .routeOwners rfl, h.same
    .tunSeq rfl, h.same .gwLate rfl, h.same .gwDown rfl, h.same .hostQs rfl, h.same .yw rfl, h.same .beacon rfl,
    h.same .bports rfl, h.same .bus rfl, h.same .nodes rfl, h.same .ports rfl, h.same .cycle rfl, h.same .gridK rfl,
    h.same .scheds rfl, h.same .timelines rfl, h.same .ctxs rfl, h.same .quar rfl, h.same .chkRetired rfl, h.same
    .shared rfl, h.same .tiles rfl, h.same .loads rfl, h.same .structure_ rfl, h.same .keeper rfl, h.same .power
    rfl, h.same .spars rfl, h.same .health rfl, h.same .free rfl⟩

@[simp] theorem State.bufRecord_fields (q : Nat) (code : Nat) (unit : Nat) (info : Nat) (s : State) :
    (State.bufRecord q code unit info s).pending = s.pending ∧ (State.bufRecord q code unit info s).fuse = s.fuse ∧
    (State.bufRecord q code unit info s).ctl = s.ctl ∧ (State.bufRecord q code unit info s).regs = s.regs ∧
    (State.bufRecord q code unit info s).stage = s.stage ∧ (State.bufRecord q code unit info s).latch = s.latch ∧
    (State.bufRecord q code unit info s).mem = s.mem ∧ (State.bufRecord q code unit info s).links = s.links ∧
    (State.bufRecord q code unit info s).recs = s.recs ∧ (State.bufRecord q code unit info s).descs = s.descs ∧
    (State.bufRecord q code unit info s).fifos = s.fifos ∧ (State.bufRecord q code unit info s).partners =
    s.partners ∧ (State.bufRecord q code unit info s).books = s.books ∧ (State.bufRecord q code unit info s).transit
    = s.transit ∧ (State.bufRecord q code unit info s).held = s.held ∧ (State.bufRecord q code unit info s).waits =
    s.waits ∧ (State.bufRecord q code unit info s).nextId = s.nextId ∧ (State.bufRecord q code unit info s).psnap =
    s.psnap ∧ (State.bufRecord q code unit info s).retiredRows = s.retiredRows ∧ (State.bufRecord q code unit info
    s).spareRows = s.spareRows ∧ (State.bufRecord q code unit info s).slices = s.slices ∧ (State.bufRecord q code
    unit info s).routes = s.routes ∧ (State.bufRecord q code unit info s).routeOwners = s.routeOwners ∧
    (State.bufRecord q code unit info s).tunSeq = s.tunSeq ∧ (State.bufRecord q code unit info s).gwLate = s.gwLate
    ∧ (State.bufRecord q code unit info s).gwDown = s.gwDown ∧ (State.bufRecord q code unit info s).irq = s.irq ∧
    (State.bufRecord q code unit info s).hostQs = s.hostQs ∧ (State.bufRecord q code unit info s).yw = s.yw ∧
    (State.bufRecord q code unit info s).beacon = s.beacon ∧ (State.bufRecord q code unit info s).bports = s.bports
    ∧ (State.bufRecord q code unit info s).bus = s.bus ∧ (State.bufRecord q code unit info s).nodes = s.nodes ∧
    (State.bufRecord q code unit info s).ports = s.ports ∧ (State.bufRecord q code unit info s).cycle = s.cycle ∧
    (State.bufRecord q code unit info s).gridK = s.gridK ∧ (State.bufRecord q code unit info s).scheds = s.scheds ∧
    (State.bufRecord q code unit info s).timelines = s.timelines ∧ (State.bufRecord q code unit info s).ctxs =
    s.ctxs ∧ (State.bufRecord q code unit info s).quar = s.quar ∧ (State.bufRecord q code unit info s).chkRetired =
    s.chkRetired ∧ (State.bufRecord q code unit info s).engines = s.engines ∧ (State.bufRecord q code unit info
    s).shared = s.shared ∧ (State.bufRecord q code unit info s).tiles = s.tiles ∧ (State.bufRecord q code unit info
    s).loads = s.loads ∧ (State.bufRecord q code unit info s).struct = s.struct ∧ (State.bufRecord q code unit info
    s).keeper = s.keeper ∧ (State.bufRecord q code unit info s).power = s.power ∧ (State.bufRecord q code unit info
    s).spars = s.spars ∧ (State.bufRecord q code unit info s).health = s.health ∧ (State.bufRecord q code unit info
    s).free = s.free := by
  have h := State.bufRecord_k (m := 0x20000038000000) (s0 := s) q code unit info s rfl (Kept.refl _ s)
  exact ⟨h.2.2.2.1, h.2.2.1, h.same .ctl rfl, h.same .regs rfl, h.same .stage rfl, h.same .latch rfl, h.same .mem rfl,
    h.same .links rfl, h.same .recs rfl, h.same .descs rfl, h.same .fifos rfl, h.same .partners rfl, h.same .books
    rfl, h.same .transit rfl, h.same .held rfl, h.same .waits rfl, h.same .nextId rfl, h.same .psnap rfl, h.same
    .retiredRows rfl, h.same .spareRows rfl, h.same .slices rfl, h.same .routes rfl, h.same .routeOwners rfl, h.same
    .tunSeq rfl, h.same .gwLate rfl, h.same .gwDown rfl, h.same .irq rfl, h.same .hostQs rfl, h.same .yw rfl, h.same
    .beacon rfl, h.same .bports rfl, h.same .bus rfl, h.same .nodes rfl, h.same .ports rfl, h.same .cycle rfl,
    h.same .gridK rfl, h.same .scheds rfl, h.same .timelines rfl, h.same .ctxs rfl, h.same .quar rfl, h.same
    .chkRetired rfl, h.same .engines rfl, h.same .shared rfl, h.same .tiles rfl, h.same .loads rfl, h.same
    .structure_ rfl, h.same .keeper rfl, h.same .power rfl, h.same .spars rfl, h.same .health rfl, h.same .free rfl⟩

@[simp] theorem State.noteReject_fields (off : Nat) (s : State) :
    (State.noteReject off s).pending = s.pending ∧ (State.noteReject off s).fuse = s.fuse ∧ (State.noteReject off
    s).ctl = s.ctl ∧ (State.noteReject off s).stage = s.stage ∧ (State.noteReject off s).latch = s.latch ∧
    (State.noteReject off s).mem = s.mem ∧ (State.noteReject off s).links = s.links ∧ (State.noteReject off s).recs
    = s.recs ∧ (State.noteReject off s).descs = s.descs ∧ (State.noteReject off s).fifos = s.fifos ∧
    (State.noteReject off s).partners = s.partners ∧ (State.noteReject off s).books = s.books ∧ (State.noteReject
    off s).transit = s.transit ∧ (State.noteReject off s).held = s.held ∧ (State.noteReject off s).waits = s.waits ∧
    (State.noteReject off s).nextId = s.nextId ∧ (State.noteReject off s).psnap = s.psnap ∧ (State.noteReject off
    s).retiredRows = s.retiredRows ∧ (State.noteReject off s).spareRows = s.spareRows ∧ (State.noteReject off
    s).slices = s.slices ∧ (State.noteReject off s).routes = s.routes ∧ (State.noteReject off s).routeOwners =
    s.routeOwners ∧ (State.noteReject off s).tunSeq = s.tunSeq ∧ (State.noteReject off s).gwLate = s.gwLate ∧
    (State.noteReject off s).gwDown = s.gwDown ∧ (State.noteReject off s).irq = s.irq ∧ (State.noteReject off s).eqs
    = s.eqs ∧ (State.noteReject off s).hold = s.hold ∧ (State.noteReject off s).host = s.host ∧ (State.noteReject
    off s).hostQs = s.hostQs ∧ (State.noteReject off s).yw = s.yw ∧ (State.noteReject off s).beacon = s.beacon ∧
    (State.noteReject off s).bports = s.bports ∧ (State.noteReject off s).bus = s.bus ∧ (State.noteReject off
    s).nodes = s.nodes ∧ (State.noteReject off s).ports = s.ports ∧ (State.noteReject off s).cycle = s.cycle ∧
    (State.noteReject off s).gridK = s.gridK ∧ (State.noteReject off s).scheds = s.scheds ∧ (State.noteReject off
    s).timelines = s.timelines ∧ (State.noteReject off s).ctxs = s.ctxs ∧ (State.noteReject off s).quar = s.quar ∧
    (State.noteReject off s).chkRetired = s.chkRetired ∧ (State.noteReject off s).engines = s.engines ∧
    (State.noteReject off s).shared = s.shared ∧ (State.noteReject off s).tiles = s.tiles ∧ (State.noteReject off
    s).loads = s.loads ∧ (State.noteReject off s).struct = s.struct ∧ (State.noteReject off s).keeper = s.keeper ∧
    (State.noteReject off s).power = s.power ∧ (State.noteReject off s).spars = s.spars ∧ (State.noteReject off
    s).health = s.health ∧ (State.noteReject off s).out = s.out ∧ (State.noteReject off s).free = s.free := by
  have h := State.noteReject_k (m := 0x8) (s0 := s) off s rfl (Kept.refl _ s)
  exact ⟨h.2.2.2.1, h.2.2.1, h.same .ctl rfl, h.same .stage rfl, h.same .latch rfl, h.same .mem rfl, h.same .links rfl,
    h.same .recs rfl, h.same .descs rfl, h.same .fifos rfl, h.same .partners rfl, h.same .books rfl, h.same .transit
    rfl, h.same .held rfl, h.same .waits rfl, h.same .nextId rfl, h.same .psnap rfl, h.same .retiredRows rfl, h.same
    .spareRows rfl, h.same .slices rfl, h.same .routes rfl, h.same .routeOwners rfl, h.same .tunSeq rfl, h.same
    .gwLate rfl, h.same .gwDown rfl, h.same .irq rfl, h.same .eqs rfl, h.same .hold rfl, h.same .host rfl, h.same
    .hostQs rfl, h.same .yw rfl, h.same .beacon rfl, h.same .bports rfl, h.same .bus rfl, h.same .nodes rfl, h.same
    .ports rfl, h.same .cycle rfl, h.same .gridK rfl, h.same .scheds rfl, h.same .timelines rfl, h.same .ctxs rfl,
    h.same .quar rfl, h.same .chkRetired rfl, h.same .engines rfl, h.same .shared rfl, h.same .tiles rfl, h.same
    .loads rfl, h.same .structure_ rfl, h.same .keeper rfl, h.same .power rfl, h.same .spars rfl, h.same .health
    rfl, h.same .out rfl, h.same .free rfl⟩

@[simp] theorem State.mgReject_fields (off : Nat) (s : State) :
    (State.mgReject off s).pending = s.pending ∧ (State.mgReject off s).fuse = s.fuse ∧ (State.mgReject off s).ctl =
    s.ctl ∧ (State.mgReject off s).stage = s.stage ∧ (State.mgReject off s).latch = s.latch ∧ (State.mgReject off
    s).mem = s.mem ∧ (State.mgReject off s).links = s.links ∧ (State.mgReject off s).recs = s.recs ∧ (State.mgReject
    off s).descs = s.descs ∧ (State.mgReject off s).fifos = s.fifos ∧ (State.mgReject off s).partners = s.partners ∧
    (State.mgReject off s).books = s.books ∧ (State.mgReject off s).transit = s.transit ∧ (State.mgReject off
    s).held = s.held ∧ (State.mgReject off s).waits = s.waits ∧ (State.mgReject off s).nextId = s.nextId ∧
    (State.mgReject off s).psnap = s.psnap ∧ (State.mgReject off s).retiredRows = s.retiredRows ∧ (State.mgReject
    off s).spareRows = s.spareRows ∧ (State.mgReject off s).slices = s.slices ∧ (State.mgReject off s).routes =
    s.routes ∧ (State.mgReject off s).routeOwners = s.routeOwners ∧ (State.mgReject off s).tunSeq = s.tunSeq ∧
    (State.mgReject off s).gwLate = s.gwLate ∧ (State.mgReject off s).gwDown = s.gwDown ∧ (State.mgReject off
    s).hostQs = s.hostQs ∧ (State.mgReject off s).yw = s.yw ∧ (State.mgReject off s).beacon = s.beacon ∧
    (State.mgReject off s).bports = s.bports ∧ (State.mgReject off s).bus = s.bus ∧ (State.mgReject off s).nodes =
    s.nodes ∧ (State.mgReject off s).ports = s.ports ∧ (State.mgReject off s).cycle = s.cycle ∧ (State.mgReject off
    s).gridK = s.gridK ∧ (State.mgReject off s).scheds = s.scheds ∧ (State.mgReject off s).timelines = s.timelines ∧
    (State.mgReject off s).ctxs = s.ctxs ∧ (State.mgReject off s).quar = s.quar ∧ (State.mgReject off s).chkRetired
    = s.chkRetired ∧ (State.mgReject off s).shared = s.shared ∧ (State.mgReject off s).tiles = s.tiles ∧
    (State.mgReject off s).loads = s.loads ∧ (State.mgReject off s).struct = s.struct ∧ (State.mgReject off
    s).keeper = s.keeper ∧ (State.mgReject off s).power = s.power ∧ (State.mgReject off s).spars = s.spars ∧
    (State.mgReject off s).health = s.health ∧ (State.mgReject off s).free = s.free := by
  have h := State.mgReject_k (m := 0x2010003C000008) (s0 := s) off s rfl (Kept.refl _ s)
  exact ⟨h.2.2.2.1, h.2.2.1, h.same .ctl rfl, h.same .stage rfl, h.same .latch rfl, h.same .mem rfl, h.same .links rfl,
    h.same .recs rfl, h.same .descs rfl, h.same .fifos rfl, h.same .partners rfl, h.same .books rfl, h.same .transit
    rfl, h.same .held rfl, h.same .waits rfl, h.same .nextId rfl, h.same .psnap rfl, h.same .retiredRows rfl, h.same
    .spareRows rfl, h.same .slices rfl, h.same .routes rfl, h.same .routeOwners rfl, h.same .tunSeq rfl, h.same
    .gwLate rfl, h.same .gwDown rfl, h.same .hostQs rfl, h.same .yw rfl, h.same .beacon rfl, h.same .bports rfl,
    h.same .bus rfl, h.same .nodes rfl, h.same .ports rfl, h.same .cycle rfl, h.same .gridK rfl, h.same .scheds rfl,
    h.same .timelines rfl, h.same .ctxs rfl, h.same .quar rfl, h.same .chkRetired rfl, h.same .shared rfl, h.same
    .tiles rfl, h.same .loads rfl, h.same .structure_ rfl, h.same .keeper rfl, h.same .power rfl, h.same .spars rfl,
    h.same .health rfl, h.same .free rfl⟩

@[simp] theorem State.encReject_fields (off : Nat) (s : State) :
    (State.encReject off s).pending = s.pending ∧ (State.encReject off s).fuse = s.fuse ∧ (State.encReject off
    s).ctl = s.ctl ∧ (State.encReject off s).stage = s.stage ∧ (State.encReject off s).latch = s.latch ∧
    (State.encReject off s).mem = s.mem ∧ (State.encReject off s).links = s.links ∧ (State.encReject off s).recs =
    s.recs ∧ (State.encReject off s).descs = s.descs ∧ (State.encReject off s).fifos = s.fifos ∧ (State.encReject
    off s).partners = s.partners ∧ (State.encReject off s).books = s.books ∧ (State.encReject off s).transit =
    s.transit ∧ (State.encReject off s).held = s.held ∧ (State.encReject off s).waits = s.waits ∧ (State.encReject
    off s).nextId = s.nextId ∧ (State.encReject off s).psnap = s.psnap ∧ (State.encReject off s).retiredRows =
    s.retiredRows ∧ (State.encReject off s).spareRows = s.spareRows ∧ (State.encReject off s).slices = s.slices ∧
    (State.encReject off s).routes = s.routes ∧ (State.encReject off s).routeOwners = s.routeOwners ∧
    (State.encReject off s).tunSeq = s.tunSeq ∧ (State.encReject off s).gwLate = s.gwLate ∧ (State.encReject off
    s).gwDown = s.gwDown ∧ (State.encReject off s).hostQs = s.hostQs ∧ (State.encReject off s).yw = s.yw ∧
    (State.encReject off s).beacon = s.beacon ∧ (State.encReject off s).bports = s.bports ∧ (State.encReject off
    s).bus = s.bus ∧ (State.encReject off s).nodes = s.nodes ∧ (State.encReject off s).ports = s.ports ∧
    (State.encReject off s).cycle = s.cycle ∧ (State.encReject off s).gridK = s.gridK ∧ (State.encReject off
    s).scheds = s.scheds ∧ (State.encReject off s).timelines = s.timelines ∧ (State.encReject off s).ctxs = s.ctxs ∧
    (State.encReject off s).quar = s.quar ∧ (State.encReject off s).chkRetired = s.chkRetired ∧ (State.encReject off
    s).shared = s.shared ∧ (State.encReject off s).tiles = s.tiles ∧ (State.encReject off s).loads = s.loads ∧
    (State.encReject off s).struct = s.struct ∧ (State.encReject off s).keeper = s.keeper ∧ (State.encReject off
    s).power = s.power ∧ (State.encReject off s).spars = s.spars ∧ (State.encReject off s).health = s.health ∧
    (State.encReject off s).free = s.free := by
  have h := State.encReject_k (m := 0x2010003C000008) (s0 := s) off s rfl (Kept.refl _ s)
  exact ⟨h.2.2.2.1, h.2.2.1, h.same .ctl rfl, h.same .stage rfl, h.same .latch rfl, h.same .mem rfl, h.same .links rfl,
    h.same .recs rfl, h.same .descs rfl, h.same .fifos rfl, h.same .partners rfl, h.same .books rfl, h.same .transit
    rfl, h.same .held rfl, h.same .waits rfl, h.same .nextId rfl, h.same .psnap rfl, h.same .retiredRows rfl, h.same
    .spareRows rfl, h.same .slices rfl, h.same .routes rfl, h.same .routeOwners rfl, h.same .tunSeq rfl, h.same
    .gwLate rfl, h.same .gwDown rfl, h.same .hostQs rfl, h.same .yw rfl, h.same .beacon rfl, h.same .bports rfl,
    h.same .bus rfl, h.same .nodes rfl, h.same .ports rfl, h.same .cycle rfl, h.same .gridK rfl, h.same .scheds rfl,
    h.same .timelines rfl, h.same .ctxs rfl, h.same .quar rfl, h.same .chkRetired rfl, h.same .shared rfl, h.same
    .tiles rfl, h.same .loads rfl, h.same .structure_ rfl, h.same .keeper rfl, h.same .power rfl, h.same .spars rfl,
    h.same .health rfl, h.same .free rfl⟩

@[simp] theorem State.queueOp_fields (op : KOp) (s : State) :
    (State.queueOp op s).pending = s.pending ∧ (State.queueOp op s).fuse = s.fuse ∧ (State.queueOp op s).ctl = s.ctl
    ∧ (State.queueOp op s).regs = s.regs ∧ (State.queueOp op s).stage = s.stage ∧ (State.queueOp op s).latch =
    s.latch ∧ (State.queueOp op s).mem = s.mem ∧ (State.queueOp op s).links = s.links ∧ (State.queueOp op s).recs =
    s.recs ∧ (State.queueOp op s).descs = s.descs ∧ (State.queueOp op s).fifos = s.fifos ∧ (State.queueOp op
    s).partners = s.partners ∧ (State.queueOp op s).books = s.books ∧ (State.queueOp op s).transit = s.transit ∧
    (State.queueOp op s).held = s.held ∧ (State.queueOp op s).waits = s.waits ∧ (State.queueOp op s).nextId =
    s.nextId ∧ (State.queueOp op s).psnap = s.psnap ∧ (State.queueOp op s).retiredRows = s.retiredRows ∧
    (State.queueOp op s).spareRows = s.spareRows ∧ (State.queueOp op s).slices = s.slices ∧ (State.queueOp op
    s).routes = s.routes ∧ (State.queueOp op s).routeOwners = s.routeOwners ∧ (State.queueOp op s).tunSeq = s.tunSeq
    ∧ (State.queueOp op s).gwLate = s.gwLate ∧ (State.queueOp op s).gwDown = s.gwDown ∧ (State.queueOp op s).irq =
    s.irq ∧ (State.queueOp op s).eqs = s.eqs ∧ (State.queueOp op s).hold = s.hold ∧ (State.queueOp op s).host =
    s.host ∧ (State.queueOp op s).hostQs = s.hostQs ∧ (State.queueOp op s).yw = s.yw ∧ (State.queueOp op s).beacon =
    s.beacon ∧ (State.queueOp op s).bports = s.bports ∧ (State.queueOp op s).bus = s.bus ∧ (State.queueOp op
    s).nodes = s.nodes ∧ (State.queueOp op s).ports = s.ports ∧ (State.queueOp op s).cycle = s.cycle ∧
    (State.queueOp op s).gridK = s.gridK ∧ (State.queueOp op s).scheds = s.scheds ∧ (State.queueOp op s).timelines =
    s.timelines ∧ (State.queueOp op s).ctxs = s.ctxs ∧ (State.queueOp op s).quar = s.quar ∧ (State.queueOp op
    s).chkRetired = s.chkRetired ∧ (State.queueOp op s).engines = s.engines ∧ (State.queueOp op s).shared = s.shared
    ∧ (State.queueOp op s).tiles = s.tiles ∧ (State.queueOp op s).loads = s.loads ∧ (State.queueOp op s).struct =
    s.struct ∧ (State.queueOp op s).power = s.power ∧ (State.queueOp op s).spars = s.spars ∧ (State.queueOp op
    s).health = s.health ∧ (State.queueOp op s).out = s.out ∧ (State.queueOp op s).free = s.free := by
  have h := State.queueOp_k (m := 0x2000000000000) (s0 := s) op s rfl (Kept.refl _ s)
  exact ⟨h.2.2.2.1, h.2.2.1, h.same .ctl rfl, h.same .regs rfl, h.same .stage rfl, h.same .latch rfl, h.same .mem rfl,
    h.same .links rfl, h.same .recs rfl, h.same .descs rfl, h.same .fifos rfl, h.same .partners rfl, h.same .books
    rfl, h.same .transit rfl, h.same .held rfl, h.same .waits rfl, h.same .nextId rfl, h.same .psnap rfl, h.same
    .retiredRows rfl, h.same .spareRows rfl, h.same .slices rfl, h.same .routes rfl, h.same .routeOwners rfl, h.same
    .tunSeq rfl, h.same .gwLate rfl, h.same .gwDown rfl, h.same .irq rfl, h.same .eqs rfl, h.same .hold rfl, h.same
    .host rfl, h.same .hostQs rfl, h.same .yw rfl, h.same .beacon rfl, h.same .bports rfl, h.same .bus rfl, h.same
    .nodes rfl, h.same .ports rfl, h.same .cycle rfl, h.same .gridK rfl, h.same .scheds rfl, h.same .timelines rfl,
    h.same .ctxs rfl, h.same .quar rfl, h.same .chkRetired rfl, h.same .engines rfl, h.same .shared rfl, h.same
    .tiles rfl, h.same .loads rfl, h.same .structure_ rfl, h.same .power rfl, h.same .spars rfl, h.same .health rfl,
    h.same .out rfl, h.same .free rfl⟩

@[simp] theorem State.queueHealth_fields (s : State) :
    (State.queueHealth s).pending = s.pending ∧ (State.queueHealth s).fuse = s.fuse ∧ (State.queueHealth s).ctl =
    s.ctl ∧ (State.queueHealth s).regs = s.regs ∧ (State.queueHealth s).stage = s.stage ∧ (State.queueHealth
    s).latch = s.latch ∧ (State.queueHealth s).mem = s.mem ∧ (State.queueHealth s).links = s.links ∧
    (State.queueHealth s).recs = s.recs ∧ (State.queueHealth s).descs = s.descs ∧ (State.queueHealth s).fifos =
    s.fifos ∧ (State.queueHealth s).partners = s.partners ∧ (State.queueHealth s).books = s.books ∧
    (State.queueHealth s).transit = s.transit ∧ (State.queueHealth s).held = s.held ∧ (State.queueHealth s).waits =
    s.waits ∧ (State.queueHealth s).nextId = s.nextId ∧ (State.queueHealth s).psnap = s.psnap ∧ (State.queueHealth
    s).retiredRows = s.retiredRows ∧ (State.queueHealth s).spareRows = s.spareRows ∧ (State.queueHealth s).slices =
    s.slices ∧ (State.queueHealth s).routes = s.routes ∧ (State.queueHealth s).routeOwners = s.routeOwners ∧
    (State.queueHealth s).tunSeq = s.tunSeq ∧ (State.queueHealth s).gwLate = s.gwLate ∧ (State.queueHealth s).gwDown
    = s.gwDown ∧ (State.queueHealth s).irq = s.irq ∧ (State.queueHealth s).eqs = s.eqs ∧ (State.queueHealth s).hold
    = s.hold ∧ (State.queueHealth s).host = s.host ∧ (State.queueHealth s).hostQs = s.hostQs ∧ (State.queueHealth
    s).yw = s.yw ∧ (State.queueHealth s).beacon = s.beacon ∧ (State.queueHealth s).bports = s.bports ∧
    (State.queueHealth s).bus = s.bus ∧ (State.queueHealth s).nodes = s.nodes ∧ (State.queueHealth s).ports =
    s.ports ∧ (State.queueHealth s).cycle = s.cycle ∧ (State.queueHealth s).gridK = s.gridK ∧ (State.queueHealth
    s).scheds = s.scheds ∧ (State.queueHealth s).timelines = s.timelines ∧ (State.queueHealth s).ctxs = s.ctxs ∧
    (State.queueHealth s).quar = s.quar ∧ (State.queueHealth s).chkRetired = s.chkRetired ∧ (State.queueHealth
    s).engines = s.engines ∧ (State.queueHealth s).shared = s.shared ∧ (State.queueHealth s).tiles = s.tiles ∧
    (State.queueHealth s).loads = s.loads ∧ (State.queueHealth s).struct = s.struct ∧ (State.queueHealth s).power =
    s.power ∧ (State.queueHealth s).spars = s.spars ∧ (State.queueHealth s).health = s.health ∧ (State.queueHealth
    s).out = s.out ∧ (State.queueHealth s).free = s.free := by
  have h := State.queueHealth_k (m := 0x2000000000000) (s0 := s) s rfl (Kept.refl _ s)
  exact ⟨h.2.2.2.1, h.2.2.1, h.same .ctl rfl, h.same .regs rfl, h.same .stage rfl, h.same .latch rfl, h.same .mem rfl,
    h.same .links rfl, h.same .recs rfl, h.same .descs rfl, h.same .fifos rfl, h.same .partners rfl, h.same .books
    rfl, h.same .transit rfl, h.same .held rfl, h.same .waits rfl, h.same .nextId rfl, h.same .psnap rfl, h.same
    .retiredRows rfl, h.same .spareRows rfl, h.same .slices rfl, h.same .routes rfl, h.same .routeOwners rfl, h.same
    .tunSeq rfl, h.same .gwLate rfl, h.same .gwDown rfl, h.same .irq rfl, h.same .eqs rfl, h.same .hold rfl, h.same
    .host rfl, h.same .hostQs rfl, h.same .yw rfl, h.same .beacon rfl, h.same .bports rfl, h.same .bus rfl, h.same
    .nodes rfl, h.same .ports rfl, h.same .cycle rfl, h.same .gridK rfl, h.same .scheds rfl, h.same .timelines rfl,
    h.same .ctxs rfl, h.same .quar rfl, h.same .chkRetired rfl, h.same .engines rfl, h.same .shared rfl, h.same
    .tiles rfl, h.same .loads rfl, h.same .structure_ rfl, h.same .power rfl, h.same .spars rfl, h.same .health rfl,
    h.same .out rfl, h.same .free rfl⟩

@[simp] theorem State.respond_fields (c : Cmd) (status : Nat) (detail : Nat) (s : State) :
    (State.respond c status detail s).pending = s.pending ∧ (State.respond c status detail s).fuse = s.fuse ∧
    (State.respond c status detail s).ctl = s.ctl ∧ (State.respond c status detail s).regs = s.regs ∧ (State.respond
    c status detail s).stage = s.stage ∧ (State.respond c status detail s).latch = s.latch ∧ (State.respond c status
    detail s).mem = s.mem ∧ (State.respond c status detail s).links = s.links ∧ (State.respond c status detail
    s).recs = s.recs ∧ (State.respond c status detail s).descs = s.descs ∧ (State.respond c status detail s).fifos =
    s.fifos ∧ (State.respond c status detail s).partners = s.partners ∧ (State.respond c status detail s).books =
    s.books ∧ (State.respond c status detail s).transit = s.transit ∧ (State.respond c status detail s).held =
    s.held ∧ (State.respond c status detail s).waits = s.waits ∧ (State.respond c status detail s).nextId = s.nextId
    ∧ (State.respond c status detail s).psnap = s.psnap ∧ (State.respond c status detail s).retiredRows =
    s.retiredRows ∧ (State.respond c status detail s).spareRows = s.spareRows ∧ (State.respond c status detail
    s).slices = s.slices ∧ (State.respond c status detail s).routes = s.routes ∧ (State.respond c status detail
    s).routeOwners = s.routeOwners ∧ (State.respond c status detail s).tunSeq = s.tunSeq ∧ (State.respond c status
    detail s).gwLate = s.gwLate ∧ (State.respond c status detail s).gwDown = s.gwDown ∧ (State.respond c status
    detail s).hostQs = s.hostQs ∧ (State.respond c status detail s).beacon = s.beacon ∧ (State.respond c status
    detail s).bports = s.bports ∧ (State.respond c status detail s).bus = s.bus ∧ (State.respond c status detail
    s).nodes = s.nodes ∧ (State.respond c status detail s).ports = s.ports ∧ (State.respond c status detail s).cycle
    = s.cycle ∧ (State.respond c status detail s).gridK = s.gridK ∧ (State.respond c status detail s).scheds =
    s.scheds ∧ (State.respond c status detail s).timelines = s.timelines ∧ (State.respond c status detail s).ctxs =
    s.ctxs ∧ (State.respond c status detail s).quar = s.quar ∧ (State.respond c status detail s).chkRetired =
    s.chkRetired ∧ (State.respond c status detail s).shared = s.shared ∧ (State.respond c status detail s).tiles =
    s.tiles ∧ (State.respond c status detail s).loads = s.loads ∧ (State.respond c status detail s).struct =
    s.struct ∧ (State.respond c status detail s).keeper = s.keeper ∧ (State.respond c status detail s).power =
    s.power ∧ (State.respond c status detail s).spars = s.spars ∧ (State.respond c status detail s).health =
    s.health ∧ (State.respond c status detail s).free = s.free := by
  have h := State.respond_k (m := 0x201000BC000000) (s0 := s) c status detail s rfl (Kept.refl _ s)
  exact ⟨h.2.2.2.1, h.2.2.1, h.same .ctl rfl, h.same .regs rfl, h.same .stage rfl, h.same .latch rfl, h.same .mem rfl,
    h.same .links rfl, h.same .recs rfl, h.same .descs rfl, h.same .fifos rfl, h.same .partners rfl, h.same .books
    rfl, h.same .transit rfl, h.same .held rfl, h.same .waits rfl, h.same .nextId rfl, h.same .psnap rfl, h.same
    .retiredRows rfl, h.same .spareRows rfl, h.same .slices rfl, h.same .routes rfl, h.same .routeOwners rfl, h.same
    .tunSeq rfl, h.same .gwLate rfl, h.same .gwDown rfl, h.same .hostQs rfl, h.same .beacon rfl, h.same .bports rfl,
    h.same .bus rfl, h.same .nodes rfl, h.same .ports rfl, h.same .cycle rfl, h.same .gridK rfl, h.same .scheds rfl,
    h.same .timelines rfl, h.same .ctxs rfl, h.same .quar rfl, h.same .chkRetired rfl, h.same .shared rfl, h.same
    .tiles rfl, h.same .loads rfl, h.same .structure_ rfl, h.same .keeper rfl, h.same .power rfl, h.same .spars rfl,
    h.same .health rfl, h.same .free rfl⟩

@[simp] theorem State.beginNext_fields (a0 : List Cmd) (a1 : State) :
    (State.beginNext a0 a1).pending = a1.pending ∧ (State.beginNext a0 a1).fuse = a1.fuse ∧ (State.beginNext a0
    a1).regs = a1.regs ∧ (State.beginNext a0 a1).stage = a1.stage ∧ (State.beginNext a0 a1).latch = a1.latch ∧
    (State.beginNext a0 a1).mem = a1.mem ∧ (State.beginNext a0 a1).links = a1.links ∧ (State.beginNext a0 a1).recs =
    a1.recs ∧ (State.beginNext a0 a1).descs = a1.descs ∧ (State.beginNext a0 a1).fifos = a1.fifos ∧ (State.beginNext
    a0 a1).partners = a1.partners ∧ (State.beginNext a0 a1).books = a1.books ∧ (State.beginNext a0 a1).transit =
    a1.transit ∧ (State.beginNext a0 a1).held = a1.held ∧ (State.beginNext a0 a1).waits = a1.waits ∧
    (State.beginNext a0 a1).nextId = a1.nextId ∧ (State.beginNext a0 a1).psnap = a1.psnap ∧ (State.beginNext a0
    a1).retiredRows = a1.retiredRows ∧ (State.beginNext a0 a1).spareRows = a1.spareRows ∧ (State.beginNext a0
    a1).slices = a1.slices ∧ (State.beginNext a0 a1).routes = a1.routes ∧ (State.beginNext a0 a1).routeOwners =
    a1.routeOwners ∧ (State.beginNext a0 a1).tunSeq = a1.tunSeq ∧ (State.beginNext a0 a1).gwLate = a1.gwLate ∧
    (State.beginNext a0 a1).gwDown = a1.gwDown ∧ (State.beginNext a0 a1).hostQs = a1.hostQs ∧ (State.beginNext a0
    a1).beacon = a1.beacon ∧ (State.beginNext a0 a1).bports = a1.bports ∧ (State.beginNext a0 a1).bus = a1.bus ∧
    (State.beginNext a0 a1).nodes = a1.nodes ∧ (State.beginNext a0 a1).ports = a1.ports ∧ (State.beginNext a0
    a1).cycle = a1.cycle ∧ (State.beginNext a0 a1).gridK = a1.gridK ∧ (State.beginNext a0 a1).scheds = a1.scheds ∧
    (State.beginNext a0 a1).timelines = a1.timelines ∧ (State.beginNext a0 a1).ctxs = a1.ctxs ∧ (State.beginNext a0
    a1).quar = a1.quar ∧ (State.beginNext a0 a1).chkRetired = a1.chkRetired ∧ (State.beginNext a0 a1).shared =
    a1.shared ∧ (State.beginNext a0 a1).tiles = a1.tiles ∧ (State.beginNext a0 a1).loads = a1.loads ∧
    (State.beginNext a0 a1).struct = a1.struct ∧ (State.beginNext a0 a1).keeper = a1.keeper ∧ (State.beginNext a0
    a1).power = a1.power ∧ (State.beginNext a0 a1).spars = a1.spars ∧ (State.beginNext a0 a1).health = a1.health ∧
    (State.beginNext a0 a1).free = a1.free := by
  have h := State.beginNext_k (m := 0x201000BC000004) (s0 := a1) a0 a1 rfl (Kept.refl _ a1)
  exact ⟨h.2.2.2.1, h.2.2.1, h.same .regs rfl, h.same .stage rfl, h.same .latch rfl, h.same .mem rfl, h.same .links rfl,
    h.same .recs rfl, h.same .descs rfl, h.same .fifos rfl, h.same .partners rfl, h.same .books rfl, h.same .transit
    rfl, h.same .held rfl, h.same .waits rfl, h.same .nextId rfl, h.same .psnap rfl, h.same .retiredRows rfl, h.same
    .spareRows rfl, h.same .slices rfl, h.same .routes rfl, h.same .routeOwners rfl, h.same .tunSeq rfl, h.same
    .gwLate rfl, h.same .gwDown rfl, h.same .hostQs rfl, h.same .beacon rfl, h.same .bports rfl, h.same .bus rfl,
    h.same .nodes rfl, h.same .ports rfl, h.same .cycle rfl, h.same .gridK rfl, h.same .scheds rfl, h.same
    .timelines rfl, h.same .ctxs rfl, h.same .quar rfl, h.same .chkRetired rfl, h.same .shared rfl, h.same .tiles
    rfl, h.same .loads rfl, h.same .structure_ rfl, h.same .keeper rfl, h.same .power rfl, h.same .spars rfl, h.same
    .health rfl, h.same .free rfl⟩

@[simp] theorem State.finish_fields (status : Nat) (detail : Nat) (s : State) :
    (State.finish status detail s).pending = s.pending ∧ (State.finish status detail s).fuse = s.fuse ∧
    (State.finish status detail s).regs = s.regs ∧ (State.finish status detail s).stage = s.stage ∧ (State.finish
    status detail s).latch = s.latch ∧ (State.finish status detail s).mem = s.mem ∧ (State.finish status detail
    s).links = s.links ∧ (State.finish status detail s).recs = s.recs ∧ (State.finish status detail s).descs =
    s.descs ∧ (State.finish status detail s).fifos = s.fifos ∧ (State.finish status detail s).partners = s.partners
    ∧ (State.finish status detail s).books = s.books ∧ (State.finish status detail s).transit = s.transit ∧
    (State.finish status detail s).held = s.held ∧ (State.finish status detail s).waits = s.waits ∧ (State.finish
    status detail s).nextId = s.nextId ∧ (State.finish status detail s).psnap = s.psnap ∧ (State.finish status
    detail s).retiredRows = s.retiredRows ∧ (State.finish status detail s).spareRows = s.spareRows ∧ (State.finish
    status detail s).slices = s.slices ∧ (State.finish status detail s).routes = s.routes ∧ (State.finish status
    detail s).routeOwners = s.routeOwners ∧ (State.finish status detail s).tunSeq = s.tunSeq ∧ (State.finish status
    detail s).gwLate = s.gwLate ∧ (State.finish status detail s).gwDown = s.gwDown ∧ (State.finish status detail
    s).hostQs = s.hostQs ∧ (State.finish status detail s).beacon = s.beacon ∧ (State.finish status detail s).bports
    = s.bports ∧ (State.finish status detail s).bus = s.bus ∧ (State.finish status detail s).nodes = s.nodes ∧
    (State.finish status detail s).ports = s.ports ∧ (State.finish status detail s).cycle = s.cycle ∧ (State.finish
    status detail s).gridK = s.gridK ∧ (State.finish status detail s).scheds = s.scheds ∧ (State.finish status
    detail s).timelines = s.timelines ∧ (State.finish status detail s).ctxs = s.ctxs ∧ (State.finish status detail
    s).quar = s.quar ∧ (State.finish status detail s).chkRetired = s.chkRetired ∧ (State.finish status detail
    s).shared = s.shared ∧ (State.finish status detail s).tiles = s.tiles ∧ (State.finish status detail s).loads =
    s.loads ∧ (State.finish status detail s).struct = s.struct ∧ (State.finish status detail s).keeper = s.keeper ∧
    (State.finish status detail s).power = s.power ∧ (State.finish status detail s).spars = s.spars ∧ (State.finish
    status detail s).health = s.health ∧ (State.finish status detail s).free = s.free := by
  have h := State.finish_k (m := 0x201000BC000004) (s0 := s) status detail s rfl (Kept.refl _ s)
  exact ⟨h.2.2.2.1, h.2.2.1, h.same .regs rfl, h.same .stage rfl, h.same .latch rfl, h.same .mem rfl, h.same .links rfl,
    h.same .recs rfl, h.same .descs rfl, h.same .fifos rfl, h.same .partners rfl, h.same .books rfl, h.same .transit
    rfl, h.same .held rfl, h.same .waits rfl, h.same .nextId rfl, h.same .psnap rfl, h.same .retiredRows rfl, h.same
    .spareRows rfl, h.same .slices rfl, h.same .routes rfl, h.same .routeOwners rfl, h.same .tunSeq rfl, h.same
    .gwLate rfl, h.same .gwDown rfl, h.same .hostQs rfl, h.same .beacon rfl, h.same .bports rfl, h.same .bus rfl,
    h.same .nodes rfl, h.same .ports rfl, h.same .cycle rfl, h.same .gridK rfl, h.same .scheds rfl, h.same
    .timelines rfl, h.same .ctxs rfl, h.same .quar rfl, h.same .chkRetired rfl, h.same .shared rfl, h.same .tiles
    rfl, h.same .loads rfl, h.same .structure_ rfl, h.same .keeper rfl, h.same .power rfl, h.same .spars rfl, h.same
    .health rfl, h.same .free rfl⟩

@[simp] theorem State.settle_fields (s : State) :
    (State.settle s).pending = s.pending ∧ (State.settle s).fuse = s.fuse ∧ (State.settle s).regs = s.regs ∧
    (State.settle s).stage = s.stage ∧ (State.settle s).latch = s.latch ∧ (State.settle s).mem = s.mem ∧
    (State.settle s).links = s.links ∧ (State.settle s).recs = s.recs ∧ (State.settle s).descs = s.descs ∧
    (State.settle s).fifos = s.fifos ∧ (State.settle s).partners = s.partners ∧ (State.settle s).books = s.books ∧
    (State.settle s).transit = s.transit ∧ (State.settle s).held = s.held ∧ (State.settle s).waits = s.waits ∧
    (State.settle s).nextId = s.nextId ∧ (State.settle s).psnap = s.psnap ∧ (State.settle s).retiredRows =
    s.retiredRows ∧ (State.settle s).spareRows = s.spareRows ∧ (State.settle s).slices = s.slices ∧ (State.settle
    s).routes = s.routes ∧ (State.settle s).routeOwners = s.routeOwners ∧ (State.settle s).tunSeq = s.tunSeq ∧
    (State.settle s).gwLate = s.gwLate ∧ (State.settle s).gwDown = s.gwDown ∧ (State.settle s).hostQs = s.hostQs ∧
    (State.settle s).beacon = s.beacon ∧ (State.settle s).bports = s.bports ∧ (State.settle s).bus = s.bus ∧
    (State.settle s).nodes = s.nodes ∧ (State.settle s).ports = s.ports ∧ (State.settle s).cycle = s.cycle ∧
    (State.settle s).gridK = s.gridK ∧ (State.settle s).scheds = s.scheds ∧ (State.settle s).timelines = s.timelines
    ∧ (State.settle s).ctxs = s.ctxs ∧ (State.settle s).quar = s.quar ∧ (State.settle s).chkRetired = s.chkRetired ∧
    (State.settle s).shared = s.shared ∧ (State.settle s).tiles = s.tiles ∧ (State.settle s).loads = s.loads ∧
    (State.settle s).struct = s.struct ∧ (State.settle s).keeper = s.keeper ∧ (State.settle s).power = s.power ∧
    (State.settle s).spars = s.spars ∧ (State.settle s).health = s.health ∧ (State.settle s).free = s.free := by
  have h := State.settle_k (m := 0x201000BC000004) (s0 := s) s rfl (Kept.refl _ s)
  exact ⟨h.2.2.2.1, h.2.2.1, h.same .regs rfl, h.same .stage rfl, h.same .latch rfl, h.same .mem rfl, h.same .links rfl,
    h.same .recs rfl, h.same .descs rfl, h.same .fifos rfl, h.same .partners rfl, h.same .books rfl, h.same .transit
    rfl, h.same .held rfl, h.same .waits rfl, h.same .nextId rfl, h.same .psnap rfl, h.same .retiredRows rfl, h.same
    .spareRows rfl, h.same .slices rfl, h.same .routes rfl, h.same .routeOwners rfl, h.same .tunSeq rfl, h.same
    .gwLate rfl, h.same .gwDown rfl, h.same .hostQs rfl, h.same .beacon rfl, h.same .bports rfl, h.same .bus rfl,
    h.same .nodes rfl, h.same .ports rfl, h.same .cycle rfl, h.same .gridK rfl, h.same .scheds rfl, h.same
    .timelines rfl, h.same .ctxs rfl, h.same .quar rfl, h.same .chkRetired rfl, h.same .shared rfl, h.same .tiles
    rfl, h.same .loads rfl, h.same .structure_ rfl, h.same .keeper rfl, h.same .power rfl, h.same .spars rfl, h.same
    .health rfl, h.same .free rfl⟩

@[simp] theorem State.setPg_fields (q : Nat) (on : Bool) (s : State) :
    (State.setPg q on s).pending = s.pending ∧ (State.setPg q on s).fuse = s.fuse ∧ (State.setPg q on s).ctl = s.ctl
    ∧ (State.setPg q on s).stage = s.stage ∧ (State.setPg q on s).latch = s.latch ∧ (State.setPg q on s).mem = s.mem
    ∧ (State.setPg q on s).links = s.links ∧ (State.setPg q on s).recs = s.recs ∧ (State.setPg q on s).descs =
    s.descs ∧ (State.setPg q on s).fifos = s.fifos ∧ (State.setPg q on s).partners = s.partners ∧ (State.setPg q on
    s).books = s.books ∧ (State.setPg q on s).transit = s.transit ∧ (State.setPg q on s).held = s.held ∧
    (State.setPg q on s).waits = s.waits ∧ (State.setPg q on s).nextId = s.nextId ∧ (State.setPg q on s).psnap =
    s.psnap ∧ (State.setPg q on s).retiredRows = s.retiredRows ∧ (State.setPg q on s).spareRows = s.spareRows ∧
    (State.setPg q on s).slices = s.slices ∧ (State.setPg q on s).routes = s.routes ∧ (State.setPg q on
    s).routeOwners = s.routeOwners ∧ (State.setPg q on s).tunSeq = s.tunSeq ∧ (State.setPg q on s).gwLate = s.gwLate
    ∧ (State.setPg q on s).gwDown = s.gwDown ∧ (State.setPg q on s).hostQs = s.hostQs ∧ (State.setPg q on s).yw =
    s.yw ∧ (State.setPg q on s).beacon = s.beacon ∧ (State.setPg q on s).bports = s.bports ∧ (State.setPg q on
    s).bus = s.bus ∧ (State.setPg q on s).nodes = s.nodes ∧ (State.setPg q on s).ports = s.ports ∧ (State.setPg q on
    s).cycle = s.cycle ∧ (State.setPg q on s).gridK = s.gridK ∧ (State.setPg q on s).scheds = s.scheds ∧
    (State.setPg q on s).timelines = s.timelines ∧ (State.setPg q on s).ctxs = s.ctxs ∧ (State.setPg q on s).quar =
    s.quar ∧ (State.setPg q on s).chkRetired = s.chkRetired ∧ (State.setPg q on s).shared = s.shared ∧ (State.setPg
    q on s).tiles = s.tiles ∧ (State.setPg q on s).loads = s.loads ∧ (State.setPg q on s).struct = s.struct ∧
    (State.setPg q on s).keeper = s.keeper ∧ (State.setPg q on s).power = s.power ∧ (State.setPg q on s).health =
    s.health ∧ (State.setPg q on s).free = s.free := by
  have h := State.setPg_k (m := 0x2810003C000008) (s0 := s) q on s rfl (Kept.refl _ s)
  exact ⟨h.2.2.2.1, h.2.2.1, h.same .ctl rfl, h.same .stage rfl, h.same .latch rfl, h.same .mem rfl, h.same .links rfl,
    h.same .recs rfl, h.same .descs rfl, h.same .fifos rfl, h.same .partners rfl, h.same .books rfl, h.same .transit
    rfl, h.same .held rfl, h.same .waits rfl, h.same .nextId rfl, h.same .psnap rfl, h.same .retiredRows rfl, h.same
    .spareRows rfl, h.same .slices rfl, h.same .routes rfl, h.same .routeOwners rfl, h.same .tunSeq rfl, h.same
    .gwLate rfl, h.same .gwDown rfl, h.same .hostQs rfl, h.same .yw rfl, h.same .beacon rfl, h.same .bports rfl,
    h.same .bus rfl, h.same .nodes rfl, h.same .ports rfl, h.same .cycle rfl, h.same .gridK rfl, h.same .scheds rfl,
    h.same .timelines rfl, h.same .ctxs rfl, h.same .quar rfl, h.same .chkRetired rfl, h.same .shared rfl, h.same
    .tiles rfl, h.same .loads rfl, h.same .structure_ rfl, h.same .keeper rfl, h.same .power rfl, h.same .health
    rfl, h.same .free rfl⟩

@[simp] theorem State.sparRefresh_fields (s : State) :
    (State.sparRefresh s).pending = s.pending ∧ (State.sparRefresh s).fuse = s.fuse ∧ (State.sparRefresh s).ctl =
    s.ctl ∧ (State.sparRefresh s).stage = s.stage ∧ (State.sparRefresh s).latch = s.latch ∧ (State.sparRefresh
    s).mem = s.mem ∧ (State.sparRefresh s).links = s.links ∧ (State.sparRefresh s).recs = s.recs ∧
    (State.sparRefresh s).descs = s.descs ∧ (State.sparRefresh s).fifos = s.fifos ∧ (State.sparRefresh s).partners =
    s.partners ∧ (State.sparRefresh s).books = s.books ∧ (State.sparRefresh s).transit = s.transit ∧
    (State.sparRefresh s).held = s.held ∧ (State.sparRefresh s).waits = s.waits ∧ (State.sparRefresh s).nextId =
    s.nextId ∧ (State.sparRefresh s).psnap = s.psnap ∧ (State.sparRefresh s).retiredRows = s.retiredRows ∧
    (State.sparRefresh s).spareRows = s.spareRows ∧ (State.sparRefresh s).slices = s.slices ∧ (State.sparRefresh
    s).routes = s.routes ∧ (State.sparRefresh s).routeOwners = s.routeOwners ∧ (State.sparRefresh s).tunSeq =
    s.tunSeq ∧ (State.sparRefresh s).gwLate = s.gwLate ∧ (State.sparRefresh s).gwDown = s.gwDown ∧
    (State.sparRefresh s).hostQs = s.hostQs ∧ (State.sparRefresh s).yw = s.yw ∧ (State.sparRefresh s).beacon =
    s.beacon ∧ (State.sparRefresh s).bports = s.bports ∧ (State.sparRefresh s).bus = s.bus ∧ (State.sparRefresh
    s).nodes = s.nodes ∧ (State.sparRefresh s).ports = s.ports ∧ (State.sparRefresh s).cycle = s.cycle ∧
    (State.sparRefresh s).gridK = s.gridK ∧ (State.sparRefresh s).scheds = s.scheds ∧ (State.sparRefresh
    s).timelines = s.timelines ∧ (State.sparRefresh s).ctxs = s.ctxs ∧ (State.sparRefresh s).quar = s.quar ∧
    (State.sparRefresh s).chkRetired = s.chkRetired ∧ (State.sparRefresh s).shared = s.shared ∧ (State.sparRefresh
    s).tiles = s.tiles ∧ (State.sparRefresh s).loads = s.loads ∧ (State.sparRefresh s).struct = s.struct ∧
    (State.sparRefresh s).keeper = s.keeper ∧ (State.sparRefresh s).power = s.power ∧ (State.sparRefresh s).health =
    s.health ∧ (State.sparRefresh s).free = s.free := by
  have h := State.sparRefresh_k (m := 0x2810003C000008) (s0 := s) s rfl (Kept.refl _ s)
  exact ⟨h.2.2.2.1, h.2.2.1, h.same .ctl rfl, h.same .stage rfl, h.same .latch rfl, h.same .mem rfl, h.same .links rfl,
    h.same .recs rfl, h.same .descs rfl, h.same .fifos rfl, h.same .partners rfl, h.same .books rfl, h.same .transit
    rfl, h.same .held rfl, h.same .waits rfl, h.same .nextId rfl, h.same .psnap rfl, h.same .retiredRows rfl, h.same
    .spareRows rfl, h.same .slices rfl, h.same .routes rfl, h.same .routeOwners rfl, h.same .tunSeq rfl, h.same
    .gwLate rfl, h.same .gwDown rfl, h.same .hostQs rfl, h.same .yw rfl, h.same .beacon rfl, h.same .bports rfl,
    h.same .bus rfl, h.same .nodes rfl, h.same .ports rfl, h.same .cycle rfl, h.same .gridK rfl, h.same .scheds rfl,
    h.same .timelines rfl, h.same .ctxs rfl, h.same .quar rfl, h.same .chkRetired rfl, h.same .shared rfl, h.same
    .tiles rfl, h.same .loads rfl, h.same .structure_ rfl, h.same .keeper rfl, h.same .power rfl, h.same .health
    rfl, h.same .free rfl⟩

@[simp] theorem State.changeMode_fields (a0 : Mode) (s : State) :
    (State.changeMode a0 s).pending = s.pending ∧ (State.changeMode a0 s).fuse = s.fuse ∧ (State.changeMode a0
    s).stage = s.stage ∧ (State.changeMode a0 s).latch = s.latch ∧ (State.changeMode a0 s).nextId = s.nextId ∧
    (State.changeMode a0 s).psnap = s.psnap ∧ (State.changeMode a0 s).retiredRows = s.retiredRows ∧
    (State.changeMode a0 s).spareRows = s.spareRows ∧ (State.changeMode a0 s).slices = s.slices ∧ (State.changeMode
    a0 s).routes = s.routes ∧ (State.changeMode a0 s).routeOwners = s.routeOwners ∧ (State.changeMode a0 s).tunSeq =
    s.tunSeq ∧ (State.changeMode a0 s).gwLate = s.gwLate ∧ (State.changeMode a0 s).gwDown = s.gwDown ∧
    (State.changeMode a0 s).yw = s.yw ∧ (State.changeMode a0 s).nodes = s.nodes ∧ (State.changeMode a0 s).cycle =
    s.cycle ∧ (State.changeMode a0 s).gridK = s.gridK ∧ (State.changeMode a0 s).scheds = s.scheds ∧
    (State.changeMode a0 s).quar = s.quar ∧ (State.changeMode a0 s).chkRetired = s.chkRetired ∧ (State.changeMode a0
    s).loads = s.loads ∧ (State.changeMode a0 s).struct = s.struct ∧ (State.changeMode a0 s).power = s.power ∧
    (State.changeMode a0 s).health = s.health ∧ (State.changeMode a0 s).free = s.free := by
  have h := State.changeMode_k (m := 0x2A73177C00FFCC) (s0 := s) a0 s rfl (Kept.refl _ s)
  exact ⟨h.2.2.2.1, h.2.2.1, h.same .stage rfl, h.same .latch rfl, h.same .nextId rfl, h.same .psnap rfl, h.same
    .retiredRows rfl, h.same .spareRows rfl, h.same .slices rfl, h.same .routes rfl, h.same .routeOwners rfl, h.same
    .tunSeq rfl, h.same .gwLate rfl, h.same .gwDown rfl, h.same .yw rfl, h.same .nodes rfl, h.same .cycle rfl,
    h.same .gridK rfl, h.same .scheds rfl, h.same .quar rfl, h.same .chkRetired rfl, h.same .loads rfl, h.same
    .structure_ rfl, h.same .power rfl, h.same .health rfl, h.same .free rfl⟩

/-- The registers after an event's bit is set: that bit, and nothing else. -/
theorem State.raiseBit_regs (b : Blk) (i : Nat) (s : State) :
    (s.raiseBit b i).regs = (s.wr b.evtOff (s.rd b.evtOff ||| wd (2 ^ i))).regs := by
  unfold State.raiseBit
  extract_lets before s1
  split
  · rfl
  · split
    · exact (State.arrive_k (m := 0x100004000000) (s0 := s1) _ _ rfl (Kept.refl _ _)).same .regs rfl
    · exact (State.noteSrc_k (m := 0x100000000000) (s0 := s1) _ _ _ rfl (Kept.refl _ _)).same .regs rfl

/-- The registers after an event: its sticky bit is set, and nothing else. -/
theorem State.raise_regs (b : Blk) (i unit info : Nat) (s : State) :
    (s.raise b i unit info).regs = (s.wr b.evtOff (s.rd b.evtOff ||| wd (2 ^ i))).regs := by
  unfold State.raise
  extract_lets s1
  split
  · exact ((State.record16_k (m := 0x20000038000000) (s0 := s1) _ _ _ rfl (Kept.refl _ _)).same .regs rfl).trans
      (State.raiseBit_regs b i s)
  · exact State.raiseBit_regs b i s

/-- A register after an event. -/
@[simp] theorem State.rd_raise (b : Blk) (i unit info : Nat) (s : State) (o : Nat) :
    (s.raise b i unit info).rd o = if o = b.evtOff then s.rd b.evtOff ||| wd (2 ^ i) else s.rd o := by
  have hf : (s.raise b i unit info).fuse = s.fuse := (State.raise_fields b i unit info s).2.1
  rw [State.rd, State.raise_regs, hf]
  exact State.rd_wr _ _ _ _

end Sys2Proof.Machine
end

