-- ==== Sys2Proof/Laws/FrameHealth.lean ====
section
/-! SUPPORT. Frames of Machine/Health.lean: the fields each function may change. -/
namespace Sys2Proof.Machine
open Sys2Proof

theorem State.countHlt_k {m : Nat} {s0 : State} (i : Nat) (s : State) (n : Nat) (hm : 0x8 &&& m = 0x8) (h0 :
    Kept m s0 s) : Kept m s0 (State.countHlt i s n) := by
  refine Kept.step hm ?_ h0; clear h0 hm
  unfold State.countHlt
  repeat' first
    | with_reducible exact Kept.refl _ _
    | with_reducible apply State.cnt_k
    | exact rfl

theorem State.setSegs_k {m : Nat} {s0 : State} (u : Nat) (f : Nat × Nat → Nat × Nat) (s : State) (hm :
    0x8000400000000 &&& m = 0x8000400000000) (h0 : Kept m s0 s) : Kept m s0 (State.setSegs u f s) := by
  refine Kept.step hm ?_ h0; clear h0 hm
  unfold State.setSegs
  repeat' first
    | with_reducible exact Kept.refl _ _
    | with_reducible assumption
    | with_reducible apply State.upSpar_k
    | with_reducible apply State.upLane_k
    | (extract_lets +onlyGivenNames x; first
        | (with_reducible refine Kept.cut (x := x) ?_ ?_; (on_goal 2 => (clear_value x; intro hx)); (on_goal 1 => (unfold x; clear x)))
        | clear_value x
        | (unfold x; clear x))
    | exact rfl
    | split

theorem State.setMasks_k {m : Nat} {s0 : State} (u : Nat) (use : Nat → Nat) (bad : Nat → Nat) (s : State) (hm :
    0x10000000000000 &&& m = 0x10000000000000) (h0 : Kept m s0 s) : Kept m s0 (State.setMasks u use bad s) := by
  refine Kept.step hm ?_ h0; clear h0 hm
  unfold State.setMasks
  repeat' first
    | with_reducible exact Kept.refl _ _
    | with_reducible assumption
    | (extract_lets +onlyGivenNames x; first
        | (with_reducible refine Kept.cut (x := x) ?_ ?_; (on_goal 2 => (clear_value x; intro hx)); (on_goal 1 => (unfold x; clear x)))
        | clear_value x
        | (unfold x; clear x))
    | exact rfl
    | with_reducible apply Kept.set_health

theorem State.retireDiscard_k {m : Nat} {s0 : State} (n : Nat) (s : State) (hm : 0x8 &&& m = 0x8) (h0 : Kept m
    s0 s) : Kept m s0 (State.retireDiscard n s) := by
  refine Kept.step hm ?_ h0; clear h0 hm
  unfold State.retireDiscard
  repeat' first
    | with_reducible exact Kept.refl _ _
    | with_reducible apply State.countHlt_k
    | exact rfl

theorem State.routedDown_k {m : Nat} {s0 : State} (records : List Nat) (s : State) (hm : 0x2010003E000008 &&& m
    = 0x2010003E000008) (h0 : Kept m s0 s) : Kept m s0 (State.routedDown records s) := by
  refine Kept.step hm ?_ h0; clear h0 hm
  unfold State.routedDown
  repeat' first
    | with_reducible exact Kept.refl _ _
    | with_reducible apply Kept.each
    | with_reducible apply State.destDown_k
    | exact rfl
    | (intro _ _)
    | split

theorem State.releaseLane_k {m : Nat} {s0 : State} (n : Nat) (s : State) (hm : 0x2011143E001BC8 &&& m =
    0x2011143E001BC8) (h0 : Kept m s0 s) : Kept m s0 (State.releaseLane n s) := by
  refine Kept.step hm ?_ h0; clear h0 hm
  unfold State.releaseLane
  repeat' first
    | with_reducible exact Kept.refl _ _
    | with_reducible assumption
    | with_reducible apply State.stopTimelines_k
    | with_reducible apply State.routedDown_k
    | with_reducible apply State.laneFollow_k
    | with_reducible apply State.retireDiscard_k
    | with_reducible apply State.laneDiscard_k
    | exact rfl

theorem State.releasePort_k {m : Nat} {s0 : State} (p : Nat) (s : State) (hm : 0x2010133C001988 &&& m =
    0x2010133C001988) (h0 : Kept m s0 s) : Kept m s0 (State.releasePort p s) := by
  refine Kept.step hm ?_ h0; clear h0 hm
  unfold State.releasePort
  repeat' first
    | with_reducible exact Kept.refl _ _
    | with_reducible assumption
    | with_reducible apply State.linkDown_k
    | with_reducible apply State.retireDiscard_k
    | with_reducible apply State.portDiscard_k
    | exact rfl

theorem State.releaseEngine_k {m : Nat} {s0 : State} (g : Nat) (s : State) (hm : 0x2011103E009988 &&& m =
    0x2011103E009988) (h0 : Kept m s0 s) : Kept m s0 (State.releaseEngine g s) := by
  refine Kept.step hm ?_ h0; clear h0 hm
  unfold State.releaseEngine
  repeat' first
    | with_reducible exact Kept.refl _ _
    | with_reducible assumption
    | with_reducible apply State.stopTimelines_k
    | with_reducible apply State.routedDown_k
    | with_reducible apply State.completeAll_k
    | with_reducible apply State.retireDiscard_k
    | with_reducible apply State.withdraw_k
    | with_reducible apply State.upEng_k
    | with_reducible apply State.dropRefs_k
    | exact rfl

theorem State.dropReports_k {m : Nat} {s0 : State} (u : Nat) (s : State) (hm : 0x10000000000000 &&& m =
    0x10000000000000) (h0 : Kept m s0 s) : Kept m s0 (State.dropReports u s) := by
  refine Kept.step hm ?_ h0; clear h0 hm
  unfold State.dropReports
  repeat' first
    | with_reducible exact Kept.refl _ _
    | with_reducible assumption
    | (extract_lets +onlyGivenNames x; first
        | (with_reducible refine Kept.cut (x := x) ?_ ?_; (on_goal 2 => (clear_value x; intro hx)); (on_goal 1 => (unfold x; clear x)))
        | clear_value x
        | (unfold x; clear x))
    | exact rfl
    | split
    | with_reducible apply Kept.set_health

theorem State.retire_k {m : Nat} {s0 : State} (u : Nat) (s : State) (hm : 0x3A7B177E00FFCC &&& m =
    0x3A7B177E00FFCC) (h0 : Kept m s0 s) : Kept m s0 (State.retire u s) := by
  refine Kept.step hm ?_ h0; clear h0 hm
  unfold State.retire
  repeat' first
    | with_reducible exact Kept.refl _ _
    | with_reducible assumption
    | with_reducible apply State.dropReports_k
    | with_reducible apply State.releasePort_k
    | with_reducible apply State.changeMode_k
    | with_reducible apply State.releaseEngine_k
    | with_reducible apply State.markRetired_k
    | with_reducible apply State.raise_k
    | with_reducible apply State.queueHealth_k
    | with_reducible apply State.countHlt_k
    | with_reducible apply State.releaseLane_k
    | (extract_lets +onlyGivenNames x; first
        | (with_reducible refine Kept.cut (x := x) ?_ ?_; (on_goal 2 => (clear_value x; intro hx)); (on_goal 1 => (unfold x; clear x)))
        | clear_value x
        | (unfold x; clear x))
    | exact rfl
    | split

theorem State.pendReport_k {m : Nat} {s0 : State} (r : Report) (s : State) (hm : 0x3010003C000008 &&& m =
    0x3010003C000008) (h0 : Kept m s0 s) : Kept m s0 (State.pendReport r s) := by
  refine Kept.step hm ?_ h0; clear h0 hm
  unfold State.pendReport
  repeat' first
    | with_reducible exact Kept.refl _ _
    | with_reducible assumption
    | with_reducible apply State.setPend_k
    | with_reducible apply State.raise_k
    | (extract_lets +onlyGivenNames x; first
        | (with_reducible refine Kept.cut (x := x) ?_ ?_; (on_goal 2 => (clear_value x; intro hx)); (on_goal 1 => (unfold x; clear x)))
        | clear_value x
        | (unfold x; clear x))
    | exact rfl
    | split
    | with_reducible apply Kept.set_health

theorem State.fillPend_k {m : Nat} {s0 : State} (s : State) (hm : 0x3010003C000008 &&& m = 0x3010003C000008) (h0
    : Kept m s0 s) : Kept m s0 (State.fillPend s) := by
  refine Kept.step hm ?_ h0; clear h0 hm
  unfold State.fillPend
  repeat' first
    | with_reducible exact Kept.refl _ _
    | with_reducible assumption
    | with_reducible apply Kept.each
    | with_reducible apply State.pendReport_k
    | (extract_lets +onlyGivenNames x; first
        | (with_reducible refine Kept.cut (x := x) ?_ ?_; (on_goal 2 => (clear_value x; intro hx)); (on_goal 1 => (unfold x; clear x)))
        | clear_value x
        | (unfold x; clear x))
    | exact rfl
    | (intro _ _)
    | split
    | with_reducible apply Kept.set_health

theorem State.wearNoSpare_k {m : Nat} {s0 : State} (u : Nat) (name : Nat) (s : State) (hm : 0x3010003C000008 &&&
    m = 0x3010003C000008) (h0 : Kept m s0 s) : Kept m s0 (State.wearNoSpare u name s) := by
  refine Kept.step hm ?_ h0; clear h0 hm
  unfold State.wearNoSpare
  repeat' first
    | with_reducible exact Kept.refl _ _
    | with_reducible assumption
    | with_reducible apply State.raise_k
    | (extract_lets +onlyGivenNames x; first
        | (with_reducible refine Kept.cut (x := x) ?_ ?_; (on_goal 2 => (clear_value x; intro hx)); (on_goal 1 => (unfold x; clear x)))
        | clear_value x
        | (unfold x; clear x))
    | exact rfl
    | split
    | with_reducible apply Kept.set_health

theorem State.judge_k {m : Nat} {s0 : State} (r : Report) (s : State) (hm : 0x3A7B177E00FFCC &&& m =
    0x3A7B177E00FFCC) (h0 : Kept m s0 s) : Kept m s0 (State.judge r s) := by
  refine Kept.step hm ?_ h0; clear h0 hm
  unfold State.judge
  repeat' first
    | with_reducible exact Kept.refl _ _
    | with_reducible assumption
    | with_reducible apply State.retire_k
    | with_reducible apply State.wearNoSpare_k
    | with_reducible apply State.pendReport_k
    | (extract_lets +onlyGivenNames x; first
        | (with_reducible refine Kept.cut (x := x) ?_ ?_; (on_goal 2 => (clear_value x; intro hx)); (on_goal 1 => (unfold x; clear x)))
        | clear_value x
        | (unfold x; clear x))
    | exact rfl
    | split
    | with_reducible apply Kept.set_health

theorem State.outOfService_k {m : Nat} {s0 : State} (u : Nat) (s : State) (hm : 0x2011043C000008 &&& m =
    0x2011043C000008) (h0 : Kept m s0 s) : Kept m s0 (State.outOfService u s) := by
  refine Kept.step hm ?_ h0; clear h0 hm
  unfold State.outOfService
  repeat' first
    | with_reducible exact Kept.refl _ _
    | with_reducible assumption
    | with_reducible apply State.laneFollow_k
    | with_reducible apply State.haltFault_k
    | (extract_lets +onlyGivenNames x; first
        | (with_reducible refine Kept.cut (x := x) ?_ ?_; (on_goal 2 => (clear_value x; intro hx)); (on_goal 1 => (unfold x; clear x)))
        | clear_value x
        | (unfold x; clear x))
    | exact rfl
    | split

theorem State.spareFails_k {m : Nat} {s0 : State} (kind : Nat) (c : Nat) (s : State) (hm : 0x3A7B177E00FFCC &&&
    m = 0x3A7B177E00FFCC) (h0 : Kept m s0 s) : Kept m s0 (State.spareFails kind c s) := by
  refine Kept.step hm ?_ h0; clear h0 hm
  unfold State.spareFails
  repeat' first
    | with_reducible exact Kept.refl _ _
    | with_reducible assumption
    | with_reducible apply State.retire_k
    | with_reducible apply State.setSpareSlice_k
    | with_reducible apply State.raise_k
    | with_reducible apply State.queueHealth_k
    | with_reducible apply State.upEng_k
    | (extract_lets +onlyGivenNames x; first
        | (with_reducible refine Kept.cut (x := x) ?_ ?_; (on_goal 2 => (clear_value x; intro hx)); (on_goal 1 => (unfold x; clear x)))
        | clear_value x
        | (unfold x; clear x))
    | exact rfl
    | split

theorem State.segFails_k {m : Nat} {s0 : State} (u : Nat) (s : State) (hm : 0x3A10043C000008 &&& m =
    0x3A10043C000008) (h0 : Kept m s0 s) : Kept m s0 (State.segFails u s) := by
  refine Kept.step hm ?_ h0; clear h0 hm
  unfold State.segFails
  repeat' first
    | with_reducible exact Kept.refl _ _
    | with_reducible assumption
    | with_reducible apply State.raise_k
    | with_reducible apply State.queueHealth_k
    | with_reducible apply State.setMasks_k
    | with_reducible apply State.setSegs_k
    | exact rfl

theorem State.rejudge_k {m : Nat} {s0 : State} (s : State) (hm : 0x3A7B177E00FFCC &&& m = 0x3A7B177E00FFCC) (h0
    : Kept m s0 s) : Kept m s0 (State.rejudge s) := by
  refine Kept.step hm ?_ h0; clear h0 hm
  unfold State.rejudge
  repeat' first
    | with_reducible exact Kept.refl _ _
    | with_reducible assumption
    | with_reducible apply State.dropReports_k
    | with_reducible apply State.fillPend_k
    | with_reducible apply State.judge_k
    | with_reducible apply Kept.each
    | exact rfl
    | (intro _ _)

theorem State.report_k {m : Nat} {s0 : State} (r : Report) (s : State) (hm : 0x3A7B177E00FFCC &&& m =
    0x3A7B177E00FFCC) (h0 : Kept m s0 s) : Kept m s0 (State.report r s) := by
  refine Kept.step hm ?_ h0; clear h0 hm
  unfold State.report
  repeat' first
    | with_reducible exact Kept.refl _ _
    | with_reducible assumption
    | with_reducible apply State.dropReports_k
    | with_reducible apply State.fillPend_k
    | with_reducible apply State.outOfService_k
    | with_reducible apply State.judge_k
    | with_reducible apply State.spareFails_k
    | with_reducible apply State.wearNoSpare_k
    | with_reducible apply State.segFails_k
    | with_reducible apply State.rejudge_k
    | (extract_lets +onlyGivenNames x; first
        | (with_reducible refine Kept.cut (x := x) ?_ ?_; (on_goal 2 => (clear_value x; intro hx)); (on_goal 1 => (unfold x; clear x)))
        | clear_value x
        | (unfold x; clear x))
    | exact rfl
    | split
    | with_reducible apply Kept.set_health

theorem State.reports_k {m : Nat} {s0 : State} (rs : List Report) (s : State) (hm : 0x3A7B177E00FFCC &&& m =
    0x3A7B177E00FFCC) (h0 : Kept m s0 s) : Kept m s0 (State.reports rs s) := by
  refine Kept.step hm ?_ h0; clear h0 hm
  unfold State.reports
  repeat' first
    | with_reducible exact Kept.refl _ _
    | with_reducible apply State.report_k
    | with_reducible apply Kept.each
    | exact rfl
    | (intro _ _)

theorem State.approve_k {m : Nat} {s0 : State} (i : Nat) (decline : Bool) (s : State) (hm : 0x3A7B177E00FFCC &&&
    m = 0x3A7B177E00FFCC) (h0 : Kept m s0 s) : Kept m s0 (State.approve i decline s) := by
  refine Kept.step hm ?_ h0; clear h0 hm
  unfold State.approve
  repeat' first
    | with_reducible exact Kept.refl _ _
    | with_reducible assumption
    | with_reducible apply State.fillPend_k
    | with_reducible apply State.retire_k
    | with_reducible apply State.setPend_k
    | with_reducible apply State.countHlt_k
    | (extract_lets +onlyGivenNames x; first
        | (with_reducible refine Kept.cut (x := x) ?_ ?_; (on_goal 2 => (clear_value x; intro hx)); (on_goal 1 => (unfold x; clear x)))
        | clear_value x
        | (unfold x; clear x))
    | exact rfl
    | split
    | with_reducible apply Kept.set_health

theorem State.freshMargin_k {m : Nat} {s0 : State} (u : Nat) (s : State) (hm : 0x10000000000000 &&& m =
    0x10000000000000) (h0 : Kept m s0 s) : Kept m s0 (State.freshMargin u s) := by
  refine Kept.step hm ?_ h0; clear h0 hm
  unfold State.freshMargin
  repeat' first
    | with_reducible exact Kept.refl _ _
    | with_reducible assumption
    | (extract_lets +onlyGivenNames x; first
        | (with_reducible refine Kept.cut (x := x) ?_ ?_; (on_goal 2 => (clear_value x; intro hx)); (on_goal 1 => (unfold x; clear x)))
        | clear_value x
        | (unfold x; clear x))
    | exact rfl
    | split
    | with_reducible apply Kept.set_health

theorem State.substituted_k {m : Nat} {s0 : State} (r : Report) (info : Nat) (s : State) (hm : 0x3A7B177E00FFCC
    &&& m = 0x3A7B177E00FFCC) (h0 : Kept m s0 s) : Kept m s0 (State.substituted r info s) := by
  refine Kept.step hm ?_ h0; clear h0 hm
  unfold State.substituted
  repeat' first
    | with_reducible exact Kept.refl _ _
    | with_reducible apply State.dropReports_k
    | with_reducible apply State.raise_k
    | with_reducible apply State.queueHealth_k
    | with_reducible apply State.countHlt_k
    | with_reducible apply State.freshMargin_k
    | with_reducible apply State.rejudge_k
    | exact rfl

theorem State.engineSubstitution_k {m : Nat} {s0 : State} (g : Nat) (timeout : Bool) (s : State) (hm :
    0x3A7B177E00FFCC &&& m = 0x3A7B177E00FFCC) (h0 : Kept m s0 s) : Kept m s0 (State.engineSubstitution g timeout s)
    := by
  refine Kept.step hm ?_ h0; clear h0 hm
  unfold State.engineSubstitution
  repeat' first
    | with_reducible exact Kept.refl _ _
    | with_reducible assumption
    | with_reducible apply State.dropReports_k
    | with_reducible apply State.substituted_k
    | with_reducible apply State.restartEngine_k
    | with_reducible apply State.upEng_k
    | (extract_lets +onlyGivenNames x; first
        | (with_reducible refine Kept.cut (x := x) ?_ ?_; (on_goal 2 => (clear_value x; intro hx)); (on_goal 1 => (unfold x; clear x)))
        | clear_value x
        | (unfold x; clear x))
    | exact rfl
    | split
    | with_reducible apply Kept.set_health

theorem State.sliceStart_k {m : Nat} {s0 : State} (n : Nat) (s : State) (hm : 0x3A7B177E00FFCC &&& m =
    0x3A7B177E00FFCC) (h0 : Kept m s0 s) : Kept m s0 (State.sliceStart n s) := by
  refine Kept.step hm ?_ h0; clear h0 hm
  unfold State.sliceStart
  repeat' first
    | with_reducible exact Kept.refl _ _
    | with_reducible apply State.laneQuiet_k
    | with_reducible apply State.setSpareSlice_k
    | with_reducible apply State.rejudge_k
    | exact rfl
    | split

theorem State.sliceDone_k {m : Nat} {s0 : State} (n : Nat) (parityOk : Bool) (s : State) (hm : 0x3A7B177E00FFCC
    &&& m = 0x3A7B177E00FFCC) (h0 : Kept m s0 s) : Kept m s0 (State.sliceDone n parityOk s) := by
  refine Kept.step hm ?_ h0; clear h0 hm
  unfold State.sliceDone
  repeat' first
    | with_reducible exact Kept.refl _ _
    | with_reducible assumption
    | with_reducible apply State.dropReports_k
    | with_reducible apply State.upLane_k
    | with_reducible apply State.substituted_k
    | with_reducible apply State.setSpareSlice_k
    | (extract_lets +onlyGivenNames x; first
        | (with_reducible refine Kept.cut (x := x) ?_ ?_; (on_goal 2 => (clear_value x; intro hx)); (on_goal 1 => (unfold x; clear x)))
        | clear_value x
        | (unfold x; clear x))
    | exact rfl
    | split

theorem State.sliceSubstitution_k {m : Nat} {s0 : State} (n : Nat) (done : Bool) (parityOk : Bool) (s : State)
    (hm : 0x3A7B177E00FFCC &&& m = 0x3A7B177E00FFCC) (h0 : Kept m s0 s) : Kept m s0 (State.sliceSubstitution n done
    parityOk s) := by
  refine Kept.step hm ?_ h0; clear h0 hm
  unfold State.sliceSubstitution
  repeat' first
    | with_reducible exact Kept.refl _ _
    | with_reducible apply State.sliceStart_k
    | with_reducible apply State.sliceDone_k
    | exact rfl
    | split

theorem State.swapSegment_k {m : Nat} {s0 : State} (u : Nat) (s : State) (hm : 0x18000400000000 &&& m =
    0x18000400000000) (h0 : Kept m s0 s) : Kept m s0 (State.swapSegment u s) := by
  refine Kept.step hm ?_ h0; clear h0 hm
  unfold State.swapSegment
  repeat' first
    | with_reducible exact Kept.refl _ _
    | with_reducible assumption
    | with_reducible apply State.setMasks_k
    | with_reducible apply State.setSegs_k
    | exact rfl

theorem State.segmentSubstitution_k {m : Nat} {s0 : State} (u : Nat) (s : State) (hm : 0x3A7B177E00FFCC &&& m =
    0x3A7B177E00FFCC) (h0 : Kept m s0 s) : Kept m s0 (State.segmentSubstitution u s) := by
  refine Kept.step hm ?_ h0; clear h0 hm
  unfold State.segmentSubstitution
  repeat' first
    | with_reducible exact Kept.refl _ _
    | with_reducible apply State.substituted_k
    | with_reducible apply State.swapSegment_k
    | exact rfl
    | split

theorem State.retireOutput_k {m : Nat} {s0 : State} (q : Nat) (k : Nat) (s : State) (hm : 0x3A10003C000008 &&& m
    = 0x3A10003C000008) (h0 : Kept m s0 s) : Kept m s0 (State.retireOutput q k s) := by
  refine Kept.step hm ?_ h0; clear h0 hm
  unfold State.retireOutput
  repeat' first
    | with_reducible exact Kept.refl _ _
    | with_reducible assumption
    | with_reducible apply State.dropReports_k
    | with_reducible apply Kept.each
    | with_reducible apply State.raise_k
    | with_reducible apply State.queueHealth_k
    | with_reducible apply State.countHlt_k
    | with_reducible apply State.sparTo_k
    | exact rfl
    | (intro _ _)

theorem State.passTest_k {m : Nat} {s0 : State} (q : Nat) (damaged : Nat) (s : State) (hm : 0x3A7B177E00FFCC &&&
    m = 0x3A7B177E00FFCC) (h0 : Kept m s0 s) : Kept m s0 (State.passTest q damaged s) := by
  refine Kept.step hm ?_ h0; clear h0 hm
  unfold State.passTest
  repeat' first
    | with_reducible exact Kept.refl _ _
    | with_reducible assumption
    | with_reducible apply State.upSpar_k
    | with_reducible apply State.substituted_k
    | with_reducible apply Kept.each
    | with_reducible apply State.swapSegment_k
    | with_reducible apply State.queueHealth_k
    | with_reducible apply State.retireOutput_k
    | with_reducible apply State.segFails_k
    | with_reducible apply State.rejudge_k
    | with_reducible apply State.sparTo_k
    | (extract_lets +onlyGivenNames x; first
        | (with_reducible refine Kept.cut (x := x) ?_ ?_; (on_goal 2 => (clear_value x; intro hx)); (on_goal 1 => (unfold x; clear x)))
        | clear_value x
        | (unfold x; clear x))
    | exact rfl
    | (intro _ _)
    | split

theorem State.sparClear_k {m : Nat} {s0 : State} (q : Nat) (damaged : Nat) (s : State) (hm : 0x3A7B177E00FFCC
    &&& m = 0x3A7B177E00FFCC) (h0 : Kept m s0 s) : Kept m s0 (State.sparClear q damaged s) := by
  refine Kept.step hm ?_ h0; clear h0 hm
  unfold State.sparClear
  repeat' first
    | with_reducible exact Kept.refl _ _
    | with_reducible assumption
    | with_reducible apply State.upSpar_k
    | with_reducible apply State.passTest_k
    | with_reducible apply State.sparTo_k
    | (extract_lets +onlyGivenNames x; first
        | (with_reducible refine Kept.cut (x := x) ?_ ?_; (on_goal 2 => (clear_value x; intro hx)); (on_goal 1 => (unfold x; clear x)))
        | clear_value x
        | (unfold x; clear x))
    | exact rfl
    | split

theorem State.retestDone_k {m : Nat} {s0 : State} (pass : Bool) (s : State) (hm : 0x3218143C000008 &&& m =
    0x3218143C000008) (h0 : Kept m s0 s) : Kept m s0 (State.retestDone pass s) := by
  refine Kept.step hm ?_ h0; clear h0 hm
  unfold State.retestDone
  repeat' first
    | with_reducible exact Kept.refl _ _
    | with_reducible assumption
    | with_reducible apply State.setf_k
    | with_reducible apply State.upLane_k
    | with_reducible apply State.setUnitDown_k
    | with_reducible apply State.upPort_k
    | with_reducible apply State.raise_k
    | with_reducible apply State.queueHealth_k
    | with_reducible apply State.freshMargin_k
    | with_reducible apply State.upEng_k
    | (extract_lets +onlyGivenNames x; first
        | (with_reducible refine Kept.cut (x := x) ?_ ?_; (on_goal 2 => (clear_value x; intro hx)); (on_goal 1 => (unfold x; clear x)))
        | clear_value x
        | (unfold x; clear x))
    | exact rfl
    | split
    | with_reducible apply Kept.set_health

theorem State.monitorReport_k {m : Nat} {s0 : State} (r : Report) (s : State) (hm : 0x3A7B177E00FFCC &&& m =
    0x3A7B177E00FFCC) (h0 : Kept m s0 s) : Kept m s0 (State.monitorReport r s) := by
  refine Kept.step hm ?_ h0; clear h0 hm
  unfold State.monitorReport
  repeat' first
    | with_reducible exact Kept.refl _ _
    | with_reducible apply State.report_k
    | exact rfl
    | split

theorem State.marginEvaluation_k {m : Nat} {s0 : State} (margins : List (Nat × Nat)) (rs : List Report) (s :
    State) (hm : 0x3A7B177E00FFCC &&& m = 0x3A7B177E00FFCC) (h0 : Kept m s0 s) : Kept m s0 (State.marginEvaluation
    margins rs s) := by
  refine Kept.step hm ?_ h0; clear h0 hm
  unfold State.marginEvaluation
  repeat' first
    | with_reducible exact Kept.refl _ _
    | with_reducible assumption
    | with_reducible apply State.reports_k
    | with_reducible apply State.wr_k
    | with_reducible apply Kept.each
    | (extract_lets +onlyGivenNames x; first
        | (with_reducible refine Kept.cut (x := x) ?_ ?_; (on_goal 2 => (clear_value x; intro hx)); (on_goal 1 => (unfold x; clear x)))
        | clear_value x
        | (unfold x; clear x))
    | exact rfl
    | (intro _ _)
    | split
    | with_reducible apply Kept.set_health

end Sys2Proof.Machine
end

