-- ==== Sys2Proof/Laws/FrameIsa.lean ====
section
/-! SUPPORT. Frames of Machine/Isa.lean: the fields each function may change. -/
namespace Sys2Proof.Machine
open Sys2Proof

theorem State.engineUe_k {m : Nat} {s0 : State} (g : Nat) (s : State) (hm : 0x3A7B177E00FFCC &&& m =
    0x3A7B177E00FFCC) (h0 : Kept m s0 s) : Kept m s0 (State.engineUe g s) := by
  refine Kept.step hm ?_ h0; clear h0 hm
  unfold State.engineUe
  repeat' first
    | with_reducible exact Kept.refl _ _
    | with_reducible apply State.report_k
    | with_reducible apply State.haltFault_k
    | exact rfl

theorem State.readMem_k {m : Nat} {s0 : State} (g : Nat) (e : Ecc) (f : State → State) (s : State) (h_f : ∀ v0,
    Kept m s0 v0 → Kept m s0 (f v0)) (hm : 0x3A7B177E00FFCC &&& m = 0x3A7B177E00FFCC) (h0 : Kept m s0 s) : Kept m s0
    (State.readMem g e f s) := by
  unfold State.readMem
  repeat' first
    | with_reducible exact Kept.refl _ _
    | with_reducible assumption
    | with_reducible apply State.engineUe_k
    | with_reducible apply State.countEng_k
    | with_reducible apply h_f
    | exact sub_trans rfl hm
    | split

theorem State.vectorRead_k {m : Nat} {s0 : State} (g : Nat) (e : Ecc) (s : State) (old : State) (hm :
    0x3A7B177E00FFCC &&& m = 0x3A7B177E00FFCC) (h0 : Kept m s0 s) : Kept m s0 (State.vectorRead g e s old) := by
  refine Kept.step hm ?_ h0; clear h0 hm
  unfold State.vectorRead
  repeat' first
    | with_reducible exact Kept.refl _ _
    | with_reducible apply State.engineUe_k
    | with_reducible apply State.countEng_k
    | with_reducible apply State.upCpu_k
    | exact rfl
    | split

theorem State.issue_k {m : Nat} {s0 : State} (i : Issue) (o : Op) (f : State → State) (s : State) (h_f : ∀ v0,
    Kept m s0 v0 → Kept m s0 (f v0)) (hm : 0x3A7B177E00FFCC &&& m = 0x3A7B177E00FFCC) (h0 : Kept m s0 s) : Kept m s0
    (State.issue i o f s) := by
  unfold State.issue
  repeat' first
    | with_reducible exact Kept.refl _ _
    | with_reducible assumption
    | with_reducible apply State.vectorRead_k
    | with_reducible apply State.readMem_k
    | with_reducible apply h_f
    | exact sub_trans rfl hm
    | (intro _ _)
    | split

theorem State.illegal_k {m : Nat} {s0 : State} (g : Nat) (s : State) (hm : 0x2030003C000008 &&& m =
    0x2030003C000008) (h0 : Kept m s0 s) : Kept m s0 (State.illegal g s) := by
  refine Kept.step hm ?_ h0; clear h0 hm
  unfold State.illegal
  repeat' first
    | with_reducible exact Kept.refl _ _
    | with_reducible apply State.trap_k
    | exact rfl

theorem State.putAlu_k {m : Nat} {s0 : State} (g : Nat) (rd : Nat) (v : Alu) (s : State) (hm : 0x2030003C000008
    &&& m = 0x2030003C000008) (h0 : Kept m s0 s) : Kept m s0 (State.putAlu g rd v s) := by
  refine Kept.step hm ?_ h0; clear h0 hm
  unfold State.putAlu
  repeat' first
    | with_reducible exact Kept.refl _ _
    | with_reducible apply State.upCpu_k
    | with_reducible apply State.advance_k
    | exact rfl

theorem State.putPsr_k {m : Nat} {s0 : State} (g : Nat) (psr : Word) (s : State) (hm : 0x2030003C000008 &&& m =
    0x2030003C000008) (h0 : Kept m s0 s) : Kept m s0 (State.putPsr g psr s) := by
  refine Kept.step hm ?_ h0; clear h0 hm
  unfold State.putPsr
  repeat' first
    | with_reducible exact Kept.refl _ _
    | with_reducible apply State.upCpu_k
    | with_reducible apply State.advance_k
    | exact rfl

theorem State.runReg3_k {m : Nat} {s0 : State} (i : Issue) (f : Reg3) (rd : Nat) (ra : Nat) (rb : Nat) (s :
    State) (hm : 0x3A7B177E00FFCC &&& m = 0x3A7B177E00FFCC) (h0 : Kept m s0 s) : Kept m s0 (State.runReg3 i f rd ra
    rb s) := by
  refine Kept.step hm ?_ h0; clear h0 hm
  unfold State.runReg3
  repeat' first
    | with_reducible exact Kept.refl _ _
    | with_reducible assumption
    | with_reducible apply State.issue_k
    | with_reducible apply State.putAlu_k
    | with_reducible apply State.upCpu_k
    | with_reducible apply State.trap_k
    | (extract_lets +onlyGivenNames x; first
        | (with_reducible refine Kept.cut (x := x) ?_ ?_; (on_goal 2 => (clear_value x; intro hx)); (on_goal 1 => (unfold x; clear x)))
        | clear_value x
        | (unfold x; clear x))
    | exact rfl
    | (intro _ _)
    | split

theorem State.runReg2_k {m : Nat} {s0 : State} (i : Issue) (f : Reg2) (rd : Nat) (ra : Nat) (s : State) (hm :
    0x3A7B177E00FFCC &&& m = 0x3A7B177E00FFCC) (h0 : Kept m s0 s) : Kept m s0 (State.runReg2 i f rd ra s) := by
  refine Kept.step hm ?_ h0; clear h0 hm
  unfold State.runReg2
  repeat' first
    | with_reducible exact Kept.refl _ _
    | with_reducible assumption
    | with_reducible apply State.issue_k
    | with_reducible apply State.putAlu_k
    | exact rfl
    | (intro _ _)

theorem State.runExt_k {m : Nat} {s0 : State} (i : Issue) (rd : Nat) (ra : Nat) (pos : Nat) (len : Nat) (sign :
    Bool) (s : State) (hm : 0x3A7B177E00FFCC &&& m = 0x3A7B177E00FFCC) (h0 : Kept m s0 s) : Kept m s0 (State.runExt
    i rd ra pos len sign s) := by
  refine Kept.step hm ?_ h0; clear h0 hm
  unfold State.runExt
  repeat' first
    | with_reducible exact Kept.refl _ _
    | with_reducible assumption
    | with_reducible apply State.issue_k
    | with_reducible apply State.putAlu_k
    | exact rfl
    | (intro _ _)

theorem State.runIns_k {m : Nat} {s0 : State} (i : Issue) (rd : Nat) (ra : Nat) (pos : Nat) (len : Nat) (s :
    State) (hm : 0x3A7B177E00FFCC &&& m = 0x3A7B177E00FFCC) (h0 : Kept m s0 s) : Kept m s0 (State.runIns i rd ra pos
    len s) := by
  refine Kept.step hm ?_ h0; clear h0 hm
  unfold State.runIns
  repeat' first
    | with_reducible exact Kept.refl _ _
    | with_reducible assumption
    | with_reducible apply State.issue_k
    | with_reducible apply State.putAlu_k
    | exact rfl
    | (intro _ _)

theorem State.runImm_k {m : Nat} {s0 : State} (i : Issue) (f : ImmOp) (rd : Nat) (ra : Nat) (v : Nat) (s :
    State) (hm : 0x3A7B177E00FFCC &&& m = 0x3A7B177E00FFCC) (h0 : Kept m s0 s) : Kept m s0 (State.runImm i f rd ra v
    s) := by
  refine Kept.step hm ?_ h0; clear h0 hm
  unfold State.runImm
  repeat' first
    | with_reducible exact Kept.refl _ _
    | with_reducible assumption
    | with_reducible apply State.issue_k
    | with_reducible apply State.putAlu_k
    | exact rfl
    | (intro _ _)

theorem State.runShi_k {m : Nat} {s0 : State} (i : Issue) (rd : Nat) (ra : Nat) (kind : Nat) (n : Nat) (s :
    State) (hm : 0x3A7B177E00FFCC &&& m = 0x3A7B177E00FFCC) (h0 : Kept m s0 s) : Kept m s0 (State.runShi i rd ra
    kind n s) := by
  refine Kept.step hm ?_ h0; clear h0 hm
  unfold State.runShi
  repeat' first
    | with_reducible exact Kept.refl _ _
    | with_reducible assumption
    | with_reducible apply State.issue_k
    | with_reducible apply State.putAlu_k
    | exact rfl
    | (intro _ _)

theorem State.runLui_k {m : Nat} {s0 : State} (i : Issue) (rd : Nat) (v : Nat) (s : State) (hm :
    0x3A7B177E00FFCC &&& m = 0x3A7B177E00FFCC) (h0 : Kept m s0 s) : Kept m s0 (State.runLui i rd v s) := by
  refine Kept.step hm ?_ h0; clear h0 hm
  unfold State.runLui
  repeat' first
    | with_reducible exact Kept.refl _ _
    | with_reducible assumption
    | with_reducible apply State.issue_k
    | with_reducible apply State.setX_k
    | with_reducible apply State.advance_k
    | exact rfl
    | (intro _ _)

theorem State.runCmp_k {m : Nat} {s0 : State} (i : Issue) (ra : Nat) (rb : Nat) (s : State) (hm :
    0x3A7B177E00FFCC &&& m = 0x3A7B177E00FFCC) (h0 : Kept m s0 s) : Kept m s0 (State.runCmp i ra rb s) := by
  refine Kept.step hm ?_ h0; clear h0 hm
  unfold State.runCmp
  repeat' first
    | with_reducible exact Kept.refl _ _
    | with_reducible assumption
    | with_reducible apply State.putPsr_k
    | with_reducible apply State.issue_k
    | exact rfl
    | (intro _ _)

theorem State.runCmpi_k {m : Nat} {s0 : State} (i : Issue) (ra : Nat) (v : Nat) (s : State) (hm :
    0x3A7B177E00FFCC &&& m = 0x3A7B177E00FFCC) (h0 : Kept m s0 s) : Kept m s0 (State.runCmpi i ra v s) := by
  refine Kept.step hm ?_ h0; clear h0 hm
  unfold State.runCmpi
  repeat' first
    | with_reducible exact Kept.refl _ _
    | with_reducible assumption
    | with_reducible apply State.putPsr_k
    | with_reducible apply State.issue_k
    | exact rfl
    | (intro _ _)

theorem State.runTst_k {m : Nat} {s0 : State} (i : Issue) (ra : Nat) (rb : Nat) (s : State) (hm :
    0x3A7B177E00FFCC &&& m = 0x3A7B177E00FFCC) (h0 : Kept m s0 s) : Kept m s0 (State.runTst i ra rb s) := by
  refine Kept.step hm ?_ h0; clear h0 hm
  unfold State.runTst
  repeat' first
    | with_reducible exact Kept.refl _ _
    | with_reducible assumption
    | with_reducible apply State.putPsr_k
    | with_reducible apply State.issue_k
    | exact rfl
    | (intro _ _)

theorem State.runLoad_k {m : Nat} {s0 : State} (i : Issue) (f : LoadOp) (rd : Nat) (ra : Nat) (v : Nat) (e :
    Ecc) (s : State) (hm : 0x3A7B177E00FFCC &&& m = 0x3A7B177E00FFCC) (h0 : Kept m s0 s) : Kept m s0 (State.runLoad
    i f rd ra v e s) := by
  refine Kept.step hm ?_ h0; clear h0 hm
  unfold State.runLoad
  repeat' first
    | with_reducible exact Kept.refl _ _
    | with_reducible assumption
    | with_reducible apply State.issue_k
    | with_reducible apply State.setX_k
    | with_reducible apply State.setPair_k
    | with_reducible apply State.trap_k
    | with_reducible apply State.advance_k
    | with_reducible apply State.readMem_k
    | (extract_lets +onlyGivenNames x; first
        | (with_reducible refine Kept.cut (x := x) ?_ ?_; (on_goal 2 => (clear_value x; intro hx)); (on_goal 1 => (unfold x; clear x)))
        | clear_value x
        | (unfold x; clear x))
    | exact rfl
    | (intro _ _)
    | split

theorem State.runStore_k {m : Nat} {s0 : State} (i : Issue) (f : StoreOp) (rd : Nat) (ra : Nat) (v : Nat) (s :
    State) (hm : 0x3A7B177E00FFCC &&& m = 0x3A7B177E00FFCC) (h0 : Kept m s0 s) : Kept m s0 (State.runStore i f rd ra
    v s) := by
  refine Kept.step hm ?_ h0; clear h0 hm
  unfold State.runStore
  repeat' first
    | with_reducible exact Kept.refl _ _
    | with_reducible assumption
    | with_reducible apply State.issue_k
    | with_reducible apply State.putEngBytes_k
    | with_reducible apply State.trap_k
    | with_reducible apply State.advance_k
    | (extract_lets +onlyGivenNames x; first
        | (with_reducible refine Kept.cut (x := x) ?_ ?_; (on_goal 2 => (clear_value x; intro hx)); (on_goal 1 => (unfold x; clear x)))
        | clear_value x
        | (unfold x; clear x))
    | exact rfl
    | (intro _ _)
    | split

theorem State.runAtom_k {m : Nat} {s0 : State} (i : Issue) (f : AtomOp) (rd : Nat) (ra : Nat) (rb : Nat) (e :
    Ecc) (s : State) (hm : 0x3A7B177E00FFCC &&& m = 0x3A7B177E00FFCC) (h0 : Kept m s0 s) : Kept m s0 (State.runAtom
    i f rd ra rb e s) := by
  refine Kept.step hm ?_ h0; clear h0 hm
  unfold State.runAtom
  repeat' first
    | with_reducible exact Kept.refl _ _
    | with_reducible assumption
    | with_reducible apply State.issue_k
    | with_reducible apply State.upCpu_k
    | with_reducible apply State.putEngBytes_k
    | with_reducible apply State.trap_k
    | with_reducible apply State.advance_k
    | with_reducible apply State.readMem_k
    | (extract_lets +onlyGivenNames x; first
        | (with_reducible refine Kept.cut (x := x) ?_ ?_; (on_goal 2 => (clear_value x; intro hx)); (on_goal 1 => (unfold x; clear x)))
        | clear_value x
        | (unfold x; clear x))
    | exact rfl
    | (intro _ _)
    | split

theorem State.runBc_k {m : Nat} {s0 : State} (i : Issue) (cond : Nat) (off : Nat) (s : State) (hm :
    0x3A7B177E00FFCC &&& m = 0x3A7B177E00FFCC) (h0 : Kept m s0 s) : Kept m s0 (State.runBc i cond off s) := by
  refine Kept.step hm ?_ h0; clear h0 hm
  unfold State.runBc
  repeat' first
    | with_reducible exact Kept.refl _ _
    | with_reducible assumption
    | with_reducible apply State.issue_k
    | with_reducible apply State.transfer_k
    | with_reducible apply State.advance_k
    | exact rfl
    | (intro _ _)
    | split

theorem State.runCb_k {m : Nat} {s0 : State} (i : Issue) (nonzero : Bool) (ra : Nat) (off : Nat) (s : State) (hm
    : 0x3A7B177E00FFCC &&& m = 0x3A7B177E00FFCC) (h0 : Kept m s0 s) : Kept m s0 (State.runCb i nonzero ra off s) :=
    by
  refine Kept.step hm ?_ h0; clear h0 hm
  unfold State.runCb
  repeat' first
    | with_reducible exact Kept.refl _ _
    | with_reducible assumption
    | with_reducible apply State.issue_k
    | with_reducible apply State.transfer_k
    | with_reducible apply State.advance_k
    | exact rfl
    | (intro _ _)
    | split

theorem State.runJmp_k {m : Nat} {s0 : State} (i : Issue) (off : Nat) (s : State) (hm : 0x3A7B177E00FFCC &&& m =
    0x3A7B177E00FFCC) (h0 : Kept m s0 s) : Kept m s0 (State.runJmp i off s) := by
  refine Kept.step hm ?_ h0; clear h0 hm
  unfold State.runJmp
  repeat' first
    | with_reducible exact Kept.refl _ _
    | with_reducible assumption
    | with_reducible apply State.issue_k
    | with_reducible apply State.transfer_k
    | exact rfl
    | (intro _ _)

theorem State.runCall_k {m : Nat} {s0 : State} (i : Issue) (off : Nat) (s : State) (hm : 0x3A7B177E00FFCC &&& m
    = 0x3A7B177E00FFCC) (h0 : Kept m s0 s) : Kept m s0 (State.runCall i off s) := by
  refine Kept.step hm ?_ h0; clear h0 hm
  unfold State.runCall
  repeat' first
    | with_reducible exact Kept.refl _ _
    | with_reducible assumption
    | with_reducible apply State.issue_k
    | with_reducible apply State.setX_k
    | with_reducible apply State.jump_k
    | exact rfl
    | (intro _ _)

theorem State.runJr_k {m : Nat} {s0 : State} (i : Issue) (ra : Nat) (s : State) (hm : 0x3A7B177E00FFCC &&& m =
    0x3A7B177E00FFCC) (h0 : Kept m s0 s) : Kept m s0 (State.runJr i ra s) := by
  refine Kept.step hm ?_ h0; clear h0 hm
  unfold State.runJr
  repeat' first
    | with_reducible exact Kept.refl _ _
    | with_reducible assumption
    | with_reducible apply State.issue_k
    | with_reducible apply State.transfer_k
    | exact rfl
    | (intro _ _)

theorem State.runCallr_k {m : Nat} {s0 : State} (i : Issue) (ra : Nat) (s : State) (hm : 0x3A7B177E00FFCC &&& m
    = 0x3A7B177E00FFCC) (h0 : Kept m s0 s) : Kept m s0 (State.runCallr i ra s) := by
  refine Kept.step hm ?_ h0; clear h0 hm
  unfold State.runCallr
  repeat' first
    | with_reducible exact Kept.refl _ _
    | with_reducible assumption
    | with_reducible apply State.issue_k
    | with_reducible apply State.setX_k
    | with_reducible apply State.jump_k
    | (extract_lets +onlyGivenNames x; first
        | (with_reducible refine Kept.cut (x := x) ?_ ?_; (on_goal 2 => (clear_value x; intro hx)); (on_goal 1 => (unfold x; clear x)))
        | clear_value x
        | (unfold x; clear x))
    | exact rfl
    | (intro _ _)

theorem State.issueLoop_k {m : Nat} {s0 : State} (g : Nat) (n : Nat) (len : Nat) (s : State) (hm :
    0x2030003C000008 &&& m = 0x2030003C000008) (h0 : Kept m s0 s) : Kept m s0 (State.issueLoop g n len s) := by
  refine Kept.step hm ?_ h0; clear h0 hm
  unfold State.issueLoop
  repeat' first
    | with_reducible exact Kept.refl _ _
    | with_reducible assumption
    | with_reducible apply State.upCpu_k
    | with_reducible apply State.jump_k
    | with_reducible apply State.trap_k
    | (extract_lets +onlyGivenNames x; first
        | (with_reducible refine Kept.cut (x := x) ?_ ?_; (on_goal 2 => (clear_value x; intro hx)); (on_goal 1 => (unfold x; clear x)))
        | clear_value x
        | (unfold x; clear x))
    | exact rfl
    | split

theorem State.runLoop_k {m : Nat} {s0 : State} (i : Issue) (ra : Nat) (len : Nat) (s : State) (hm :
    0x3A7B177E00FFCC &&& m = 0x3A7B177E00FFCC) (h0 : Kept m s0 s) : Kept m s0 (State.runLoop i ra len s) := by
  refine Kept.step hm ?_ h0; clear h0 hm
  unfold State.runLoop
  repeat' first
    | with_reducible exact Kept.refl _ _
    | with_reducible assumption
    | with_reducible apply State.issueLoop_k
    | with_reducible apply State.issue_k
    | exact rfl
    | (intro _ _)

theorem State.runLoopi_k {m : Nat} {s0 : State} (i : Issue) (count : Nat) (len : Nat) (s : State) (hm :
    0x3A7B177E00FFCC &&& m = 0x3A7B177E00FFCC) (h0 : Kept m s0 s) : Kept m s0 (State.runLoopi i count len s) := by
  refine Kept.step hm ?_ h0; clear h0 hm
  unfold State.runLoopi
  repeat' first
    | with_reducible exact Kept.refl _ _
    | with_reducible assumption
    | with_reducible apply State.issueLoop_k
    | with_reducible apply State.issue_k
    | exact rfl
    | (intro _ _)

theorem State.runLexit_k {m : Nat} {s0 : State} (i : Issue) (k : Nat) (s : State) (hm : 0x3A7B177E00FFCC &&& m =
    0x3A7B177E00FFCC) (h0 : Kept m s0 s) : Kept m s0 (State.runLexit i k s) := by
  refine Kept.step hm ?_ h0; clear h0 hm
  unfold State.runLexit
  repeat' first
    | with_reducible exact Kept.refl _ _
    | with_reducible assumption
    | with_reducible apply State.issue_k
    | with_reducible apply State.upCpu_k
    | with_reducible apply State.jump_k
    | with_reducible apply State.trap_k
    | (extract_lets +onlyGivenNames x; first
        | (with_reducible refine Kept.cut (x := x) ?_ ?_; (on_goal 2 => (clear_value x; intro hx)); (on_goal 1 => (unfold x; clear x)))
        | clear_value x
        | (unfold x; clear x))
    | exact rfl
    | (intro _ _)
    | split

end Sys2Proof.Machine
end

