-- ==== Sys2Proof/Laws/FrameIsaSys.lean ====
section
/-! SUPPORT. Frames of Machine/IsaSys.lean: the fields each function may change. -/
namespace Sys2Proof.Machine
open Sys2Proof

theorem State.setEvent_k {m : Nat} {s0 : State} (g : Nat) (b : Bool) (s : State) (hm : 0x100000000000 &&& m =
    0x100000000000) (h0 : Kept m s0 s) : Kept m s0 (State.setEvent g b s) := by
  refine Kept.step hm ?_ h0; clear h0 hm
  unfold State.setEvent
  repeat' first
    | with_reducible exact Kept.refl _ _
    | with_reducible apply State.upCpu_k
    | exact rfl

theorem State.await_k {m : Nat} {s0 : State} (g : Nat) (w : Wait) (s : State) (hm : 0x100000000000 &&& m =
    0x100000000000) (h0 : Kept m s0 s) : Kept m s0 (State.await g w s) := by
  refine Kept.step hm ?_ h0; clear h0 hm
  unfold State.await
  repeat' first
    | with_reducible exact Kept.refl _ _
    | with_reducible apply State.upEng_k
    | exact rfl

theorem State.awake_k {m : Nat} {s0 : State} (g : Nat) (s : State) (hm : 0x100000000000 &&& m = 0x100000000000)
    (h0 : Kept m s0 s) : Kept m s0 (State.awake g s) := by
  refine Kept.step hm ?_ h0; clear h0 hm
  unfold State.awake
  repeat' first
    | with_reducible exact Kept.refl _ _
    | with_reducible apply State.upEng_k
    | exact rfl

theorem State.runWfe_k {m : Nat} {s0 : State} (i : Issue) (s : State) (hm : 0x3A7B177E00FFCC &&& m =
    0x3A7B177E00FFCC) (h0 : Kept m s0 s) : Kept m s0 (State.runWfe i s) := by
  refine Kept.step hm ?_ h0; clear h0 hm
  unfold State.runWfe
  repeat' first
    | with_reducible exact Kept.refl _ _
    | with_reducible assumption
    | with_reducible apply State.setEvent_k
    | with_reducible apply State.issue_k
    | with_reducible apply State.await_k
    | with_reducible apply State.advance_k
    | exact rfl
    | (intro _ _)
    | split

theorem State.wfeWake_k {m : Nat} {s0 : State} (g : Nat) (s : State) (hm : 0x2030003C000008 &&& m =
    0x2030003C000008) (h0 : Kept m s0 s) : Kept m s0 (State.wfeWake g s) := by
  refine Kept.step hm ?_ h0; clear h0 hm
  unfold State.wfeWake
  repeat' first
    | with_reducible exact Kept.refl _ _
    | with_reducible apply State.setEvent_k
    | with_reducible apply State.awake_k
    | with_reducible apply State.advance_k
    | exact rfl
    | split

theorem State.runSev_k {m : Nat} {s0 : State} (i : Issue) (s : State) (hm : 0x3A7B177E00FFCC &&& m =
    0x3A7B177E00FFCC) (h0 : Kept m s0 s) : Kept m s0 (State.runSev i s) := by
  refine Kept.step hm ?_ h0; clear h0 hm
  unfold State.runSev
  repeat' first
    | with_reducible exact Kept.refl _ _
    | with_reducible assumption
    | with_reducible apply State.setEvent_k
    | with_reducible apply State.issue_k
    | with_reducible apply Kept.each
    | with_reducible apply State.advance_k
    | (extract_lets +onlyGivenNames x; first
        | (with_reducible refine Kept.cut (x := x) ?_ ?_; (on_goal 2 => (clear_value x; intro hx)); (on_goal 1 => (unfold x; clear x)))
        | clear_value x
        | (unfold x; clear x))
    | exact rfl
    | (intro _ _)
    | (intro _ _)
    | split

theorem State.enterHandler_k {m : Nat} {s0 : State} (g : Nat) (e : Ecc) (k : Cand) (s : State) (hm :
    0x3A7B177E00FFCC &&& m = 0x3A7B177E00FFCC) (h0 : Kept m s0 s) : Kept m s0 (State.enterHandler g e k s) := by
  refine Kept.step hm ?_ h0; clear h0 hm
  unfold State.enterHandler
  repeat' first
    | with_reducible exact Kept.refl _ _
    | with_reducible assumption
    | with_reducible apply State.claim_k
    | with_reducible apply State.goto_k
    | with_reducible apply State.upCpu_k
    | with_reducible apply State.readMem_k
    | (with_reducible refine KeptP.get (by assumption) ?_)
    | (with_reducible refine KeptT.get (by assumption) ?_)
    | exact rfl
    | (intro _ _)
    | split
    | with_reducible apply KeptP.mk
    | with_reducible apply KeptT.mk
    | with_reducible apply KeptT.snd
    | with_reducible apply KeptP.snd

theorem State.arriveLate_k {m : Nat} {s0 : State} (g : Nat) (x : Late) (s : State) (hm : 0x2010167F807F88 &&& m
    = 0x2010167F807F88) (h0 : Kept m s0 s) : Kept m s0 (State.arriveLate g x s) := by
  refine Kept.step hm ?_ h0; clear h0 hm
  unfold State.arriveLate
  repeat' first
    | with_reducible exact Kept.refl _ _
    | with_reducible apply State.privArrive_k
    | with_reducible apply State.pointOf_k
    | with_reducible apply State.arrive_k
    | with_reducible apply State.srcWrite_k
    | with_reducible apply State.raise_k
    | with_reducible apply State.evtEnable_k
    | exact rfl
    | split

theorem State.interruptEntry_k {m : Nat} {s0 : State} (i : Issue) (late : List Late) (s : State) (hm :
    0x3A7B177F80FFCC &&& m = 0x3A7B177F80FFCC) (h0 : Kept m s0 s) : Kept m s0 (State.interruptEntry i late s) := by
  refine Kept.step hm ?_ h0; clear h0 hm
  unfold State.interruptEntry
  repeat' first
    | with_reducible exact Kept.refl _ _
    | with_reducible assumption
    | with_reducible apply State.arriveLate_k
    | with_reducible apply State.enterHandler_k
    | with_reducible apply Kept.each
    | with_reducible apply State.upCpu_k
    | with_reducible apply State.pushFrame_k
    | with_reducible apply State.setTrap_k
    | with_reducible apply State.haltFault_k
    | (extract_lets +onlyGivenNames x; first
        | (with_reducible refine Kept.cut (x := x) ?_ ?_; (on_goal 2 => (clear_value x; intro hx)); (on_goal 1 => (unfold x; clear x)))
        | clear_value x
        | (unfold x; clear x))
    | exact rfl
    | (intro _ _)
    | split

theorem State.returnFrom_k {m : Nat} {s0 : State} (i : Issue) (late : List Late) (s : State) (hm :
    0x3A7B177F80FFCC &&& m = 0x3A7B177F80FFCC) (h0 : Kept m s0 s) : Kept m s0 (State.returnFrom i late s) := by
  refine Kept.step hm ?_ h0; clear h0 hm
  unfold State.returnFrom
  repeat' first
    | with_reducible exact Kept.refl _ _
    | with_reducible assumption
    | with_reducible apply State.arriveLate_k
    | with_reducible apply State.complete1_k
    | with_reducible apply State.enterHandler_k
    | with_reducible apply Kept.each
    | with_reducible apply State.goto_k
    | with_reducible apply State.completed_k
    | with_reducible apply State.upCpu_k
    | with_reducible apply State.readMem_k
    | (extract_lets +onlyGivenNames x; first
        | (with_reducible refine Kept.cut (x := x) ?_ ?_; (on_goal 2 => (clear_value x; intro hx)); (on_goal 1 => (unfold x; clear x)))
        | clear_value x
        | (unfold x; clear x))
    | exact rfl
    | (intro _ _)
    | (intro _ _)
    | split

theorem State.runNop_k {m : Nat} {s0 : State} (i : Issue) (s : State) (hm : 0x3A7B177E00FFCC &&& m =
    0x3A7B177E00FFCC) (h0 : Kept m s0 s) : Kept m s0 (State.runNop i s) := by
  refine Kept.step hm ?_ h0; clear h0 hm
  unfold State.runNop
  repeat' first
    | with_reducible exact Kept.refl _ _
    | with_reducible assumption
    | with_reducible apply State.issue_k
    | with_reducible apply State.advance_k
    | exact rfl
    | (intro _ _)

theorem State.runReti_k {m : Nat} {s0 : State} (i : Issue) (late : List Late) (s : State) (hm : 0x3A7B177F80FFCC
    &&& m = 0x3A7B177F80FFCC) (h0 : Kept m s0 s) : Kept m s0 (State.runReti i late s) := by
  refine Kept.step hm ?_ h0; clear h0 hm
  unfold State.runReti
  repeat' first
    | with_reducible exact Kept.refl _ _
    | with_reducible assumption
    | with_reducible apply State.returnFrom_k
    | with_reducible apply State.issue_k
    | with_reducible apply State.trap_k
    | with_reducible apply State.illegal_k
    | (extract_lets +onlyGivenNames x; first
        | (with_reducible refine Kept.cut (x := x) ?_ ?_; (on_goal 2 => (clear_value x; intro hx)); (on_goal 1 => (unfold x; clear x)))
        | clear_value x
        | (unfold x; clear x))
    | exact rfl
    | (intro _ _)
    | split

theorem State.runTrap_k {m : Nat} {s0 : State} (i : Issue) (v : Nat) (s : State) (hm : 0x3A7B177E00FFCC &&& m =
    0x3A7B177E00FFCC) (h0 : Kept m s0 s) : Kept m s0 (State.runTrap i v s) := by
  refine Kept.step hm ?_ h0; clear h0 hm
  unfold State.runTrap
  repeat' first
    | with_reducible exact Kept.refl _ _
    | with_reducible assumption
    | with_reducible apply State.issue_k
    | with_reducible apply State.trapAt_k
    | exact rfl
    | (intro _ _)

theorem State.runBreak_k {m : Nat} {s0 : State} (i : Issue) (v : Nat) (s : State) (hm : 0x3A7B177E00FFCC &&& m =
    0x3A7B177E00FFCC) (h0 : Kept m s0 s) : Kept m s0 (State.runBreak i v s) := by
  refine Kept.step hm ?_ h0; clear h0 hm
  unfold State.runBreak
  repeat' first
    | with_reducible exact Kept.refl _ _
    | with_reducible assumption
    | with_reducible apply State.issue_k
    | with_reducible apply State.trapAt_k
    | with_reducible apply State.upEng_k
    | with_reducible apply State.advance_k
    | exact rfl
    | (intro _ _)
    | split

theorem State.setIe_k {m : Nat} {s0 : State} (g : Nat) (b : Bool) (s : State) (hm : 0x100000000000 &&& m =
    0x100000000000) (h0 : Kept m s0 s) : Kept m s0 (State.setIe g b s) := by
  refine Kept.step hm ?_ h0; clear h0 hm
  unfold State.setIe
  repeat' first
    | with_reducible exact Kept.refl _ _
    | with_reducible apply State.upCpu_k
    | exact rfl

theorem State.runEi_k {m : Nat} {s0 : State} (i : Issue) (s : State) (hm : 0x3A7B177E00FFCC &&& m =
    0x3A7B177E00FFCC) (h0 : Kept m s0 s) : Kept m s0 (State.runEi i s) := by
  refine Kept.step hm ?_ h0; clear h0 hm
  unfold State.runEi
  repeat' first
    | with_reducible exact Kept.refl _ _
    | with_reducible assumption
    | with_reducible apply State.setIe_k
    | with_reducible apply State.issue_k
    | with_reducible apply State.advance_k
    | exact rfl
    | (intro _ _)

theorem State.runDi_k {m : Nat} {s0 : State} (i : Issue) (s : State) (hm : 0x3A7B177E00FFCC &&& m =
    0x3A7B177E00FFCC) (h0 : Kept m s0 s) : Kept m s0 (State.runDi i s) := by
  refine Kept.step hm ?_ h0; clear h0 hm
  unfold State.runDi
  repeat' first
    | with_reducible exact Kept.refl _ _
    | with_reducible assumption
    | with_reducible apply State.setIe_k
    | with_reducible apply State.issue_k
    | with_reducible apply State.advance_k
    | exact rfl
    | (intro _ _)

theorem State.runIllegal_k {m : Nat} {s0 : State} (i : Issue) (s : State) (hm : 0x3A7B177E00FFCC &&& m =
    0x3A7B177E00FFCC) (h0 : Kept m s0 s) : Kept m s0 (State.runIllegal i s) := by
  refine Kept.step hm ?_ h0; clear h0 hm
  unfold State.runIllegal
  repeat' first
    | with_reducible exact Kept.refl _ _
    | with_reducible assumption
    | with_reducible apply State.vectorRead_k
    | with_reducible apply State.illegal_k
    | with_reducible apply State.readMem_k
    | (extract_lets +onlyGivenNames x; first
        | (with_reducible refine Kept.cut (x := x) ?_ ?_; (on_goal 2 => (clear_value x; intro hx)); (on_goal 1 => (unfold x; clear x)))
        | clear_value x
        | (unfold x; clear x))
    | exact rfl
    | (intro _ _)
    | split

theorem State.icRaise_k {m : Nat} {s0 : State} (g : Nat) (w : Word) (s : State) (hm : 0x100004000000 &&& m =
    0x100004000000) (h0 : Kept m s0 s) : Kept m s0 (State.icRaise g w s) := by
  refine Kept.step hm ?_ h0; clear h0 hm
  unfold State.icRaise
  repeat' first
    | with_reducible exact Kept.refl _ _
    | with_reducible assumption
    | with_reducible apply State.privArrive_k
    | with_reducible apply State.arrive_k
    | (extract_lets +onlyGivenNames x; first
        | (with_reducible refine Kept.cut (x := x) ?_ ?_; (on_goal 2 => (clear_value x; intro hx)); (on_goal 1 => (unfold x; clear x)))
        | clear_value x
        | (unfold x; clear x))
    | exact rfl
    | split

theorem State.icClear_k {m : Nat} {s0 : State} (g : Nat) (i : Nat) (s : State) (hm : 0x100000000000 &&& m =
    0x100000000000) (h0 : Kept m s0 s) : Kept m s0 (State.icClear g i s) := by
  refine Kept.step hm ?_ h0; clear h0 hm
  unfold State.icClear
  repeat' first
    | with_reducible exact Kept.refl _ _
    | with_reducible apply State.samplePriv_k
    | with_reducible apply State.upCpu_k
    | exact rfl

theorem State.csrWrite_k {m : Nat} {s0 : State} (g : Nat) (n : Nat) (w : Word) (s : State) (hm : 0x100004000000
    &&& m = 0x100004000000) (h0 : Kept m s0 s) : KeptO m s0 (State.csrWrite g n w s) := by
  refine KeptO.step hm ?_ h0; clear h0 hm
  unfold State.csrWrite
  repeat' first
    | with_reducible exact Kept.refl _ _
    | with_reducible apply State.icClear_k
    | with_reducible apply State.icRaise_k
    | with_reducible apply State.upCpu_k
    | with_reducible exact KeptO.none
    | with_reducible apply KeptO.some
    | exact rfl
    | split

theorem State.doCsr_k {m : Nat} {s0 : State} (g : Nat) (f : CsrOp) (r : Nat) (n : Nat) (s : State) (hm :
    0x2030003C000008 &&& m = 0x2030003C000008) (h0 : Kept m s0 s) : Kept m s0 (State.doCsr g f r n s) := by
  refine Kept.step hm ?_ h0; clear h0 hm
  unfold State.doCsr
  repeat' first
    | with_reducible exact Kept.refl _ _
    | with_reducible apply State.csrWrite_k
    | with_reducible apply State.setX_k
    | with_reducible apply State.advance_k
    | with_reducible apply State.illegal_k
    | with_reducible exact KeptO.none
    | with_reducible apply KeptO.some
    | (with_reducible refine KeptO.get (by assumption) ?_)
    | exact rfl
    | split

theorem State.runCsr_k {m : Nat} {s0 : State} (i : Issue) (f : CsrOp) (r : Nat) (n : Nat) (s : State) (hm :
    0x3A7B177E00FFCC &&& m = 0x3A7B177E00FFCC) (h0 : Kept m s0 s) : Kept m s0 (State.runCsr i f r n s) := by
  refine Kept.step hm ?_ h0; clear h0 hm
  unfold State.runCsr
  repeat' first
    | with_reducible exact Kept.refl _ _
    | with_reducible assumption
    | with_reducible apply State.doCsr_k
    | with_reducible apply State.issue_k
    | exact rfl
    | (intro _ _)

theorem State.unitReads_k {m : Nat} {s0 : State} (g : Nat) (e : Ecc) (f : State → UnitAns) (s : State)
    (hf : ∀ v0, Kept m s0 v0 → KeptU m s0 (f v0)) (hm : 0x3A7B177E00FFCC &&& m = 0x3A7B177E00FFCC) (h0 : Kept m s0 s) :
    KeptU m s0 (State.unitReads g e f s) := by
  unfold State.unitReads
  split
  · exact hf _ h0
  · exact hf _ (State.countEng_k _ _ _ (sub_trans rfl hm) h0)
  · exact KeptU.wait (State.engineUe_k _ _ (sub_trans rfl hm) h0)

theorem State.unitTake_k {m : Nat} {s0 : State} (g : Nat) (rd : Nat) (a : Word) (s : State) (hm : 0x100000000000
    &&& m = 0x100000000000) (h0 : Kept m s0 s) : KeptU m s0 (State.unitTake g rd a s) := by
  refine KeptU.step hm ?_ h0; clear h0 hm
  unfold State.unitTake
  repeat' first
    | with_reducible exact Kept.refl _ _
    | with_reducible assumption
    | with_reducible apply State.setEng_k
    | with_reducible apply State.setPair_k
    | (extract_lets +onlyGivenNames x; first
        | (with_reducible refine Kept.cut (x := x) ?_ ?_; (on_goal 2 => (clear_value x; intro hx)); (on_goal 1 => (unfold x; clear x)))
        | (with_reducible refine KeptU.cut (x := x) ?_ ?_; (on_goal 2 => (clear_value x; intro hx)); (on_goal 1 => (unfold x; clear x)))
        | clear_value x
        | (unfold x; clear x))
    | with_reducible exact KeptU.arg
    | with_reducible apply KeptU.ok
    | with_reducible apply KeptU.wait
    | exact rfl
    | split

theorem State.unitRelease_k {m : Nat} {s0 : State} (g : Nat) (a : Word) (s : State) (hm : 0x2010103C001988 &&& m
    = 0x2010103C001988) (h0 : Kept m s0 s) : KeptU m s0 (State.unitRelease g a s) := by
  refine KeptU.step hm ?_ h0; clear h0 hm
  unfold State.unitRelease
  repeat' first
    | with_reducible exact Kept.refl _ _
    | with_reducible assumption
    | with_reducible apply State.setEng_k
    | with_reducible apply State.countEng_k
    | with_reducible apply State.dropRef_k
    | (extract_lets +onlyGivenNames x; first
        | (with_reducible refine Kept.cut (x := x) ?_ ?_; (on_goal 2 => (clear_value x; intro hx)); (on_goal 1 => (unfold x; clear x)))
        | (with_reducible refine KeptU.cut (x := x) ?_ ?_; (on_goal 2 => (clear_value x; intro hx)); (on_goal 1 => (unfold x; clear x)))
        | clear_value x
        | (unfold x; clear x))
    | with_reducible exact KeptU.arg
    | with_reducible apply KeptU.ok
    | with_reducible apply KeptU.wait
    | exact rfl
    | split

theorem State.unitHdr_k {m : Nat} {s0 : State} (g : Nat) (e : RecEcc) (rd : Nat) (a : Word) (b : Word) (s :
    State) (hm : 0x2010003C000008 &&& m = 0x2010003C000008) (h0 : Kept m s0 s) : KeptU m s0 (State.unitHdr g e rd a
    b s) := by
  refine KeptU.step hm ?_ h0; clear h0 hm
  unfold State.unitHdr
  repeat' first
    | with_reducible exact Kept.refl _ _
    | with_reducible apply State.setX_k
    | with_reducible apply State.readCells_k
    | with_reducible exact KeptU.arg
    | with_reducible apply KeptU.ok
    | with_reducible apply KeptU.wait
    | exact rfl
    | split

theorem State.unitData_k {m : Nat} {s0 : State} (g : Nat) (e : RecEcc) (rd : Nat) (a : Word) (b : Word) (s :
    State) (hm : 0x2010003C000008 &&& m = 0x2010003C000008) (h0 : Kept m s0 s) : KeptU m s0 (State.unitData g e rd a
    b s) := by
  refine KeptU.step hm ?_ h0; clear h0 hm
  unfold State.unitData
  repeat' first
    | with_reducible exact Kept.refl _ _
    | with_reducible apply State.setX_k
    | with_reducible apply State.readCells_k
    | with_reducible exact KeptU.arg
    | with_reducible apply KeptU.ok
    | with_reducible apply KeptU.wait
    | exact rfl
    | split

theorem State.unitCopy_k {m : Nat} {s0 : State} (g : Nat) (e : RecEcc) (rd : Nat) (a : Word) (b : Word) (s :
    State) (hm : 0x2030003C000008 &&& m = 0x2030003C000008) (h0 : Kept m s0 s) : KeptU m s0 (State.unitCopy g e rd a
    b s) := by
  refine KeptU.step hm ?_ h0; clear h0 hm
  unfold State.unitCopy
  repeat' first
    | with_reducible exact Kept.refl _ _
    | with_reducible assumption
    | with_reducible apply State.setX_k
    | with_reducible apply State.putEngBytes_k
    | with_reducible apply State.readCells_k
    | (extract_lets +onlyGivenNames x; first
        | (with_reducible refine Kept.cut (x := x) ?_ ?_; (on_goal 2 => (clear_value x; intro hx)); (on_goal 1 => (unfold x; clear x)))
        | (with_reducible refine KeptU.cut (x := x) ?_ ?_; (on_goal 2 => (clear_value x; intro hx)); (on_goal 1 => (unfold x; clear x)))
        | clear_value x
        | (unfold x; clear x))
    | with_reducible exact KeptU.arg
    | with_reducible apply KeptU.ok
    | with_reducible apply KeptU.wait
    | exact rfl
    | split

theorem State.unitSubmit_k {m : Nat} {s0 : State} (g : Nat) (e : Ecc) (rd : Nat) (a : Word) (s : State) (hm :
    0x3A7F177E01FFCC &&& m = 0x3A7F177E01FFCC) (h0 : Kept m s0 s) : KeptU m s0 (State.unitSubmit g e rd a s) := by
  refine KeptU.step hm ?_ h0; clear h0 hm
  unfold State.unitSubmit
  repeat' first
    | with_reducible exact Kept.refl _ _
    | with_reducible assumption
    | with_reducible apply State.engineSubmit_k
    | with_reducible apply State.setX_k
    | with_reducible apply State.unitReads_k
    | (extract_lets +onlyGivenNames x; first
        | (with_reducible refine Kept.cut (x := x) ?_ ?_; (on_goal 2 => (clear_value x; intro hx)); (on_goal 1 => (unfold x; clear x)))
        | (with_reducible refine KeptU.cut (x := x) ?_ ?_; (on_goal 2 => (clear_value x; intro hx)); (on_goal 1 => (unfold x; clear x)))
        | clear_value x
        | (unfold x; clear x))
    | with_reducible exact KeptU.arg
    | with_reducible apply KeptU.ok
    | with_reducible apply KeptU.wait
    | exact rfl
    | (intro _ _)
    | split

theorem State.unitDone_k {m : Nat} {s0 : State} (g : Nat) (rd : Nat) (s : State) (hm : 0x100000000000 &&& m =
    0x100000000000) (h0 : Kept m s0 s) : KeptU m s0 (State.unitDone g rd s) := by
  refine KeptU.step hm ?_ h0; clear h0 hm
  unfold State.unitDone
  repeat' first
    | with_reducible exact Kept.refl _ _
    | with_reducible apply State.upEng_k
    | with_reducible apply State.setPair_k
    | with_reducible exact KeptU.arg
    | with_reducible apply KeptU.ok
    | with_reducible apply KeptU.wait
    | exact rfl
    | split

theorem State.unitNow_k {m : Nat} {s0 : State} (g : Nat) (rd : Nat) (s : State) (hm : 0x100100000000 &&& m =
    0x100100000000) (h0 : Kept m s0 s) : KeptU m s0 (State.unitNow g rd s) := by
  refine KeptU.step hm ?_ h0; clear h0 hm
  unfold State.unitNow
  repeat' first
    | with_reducible exact Kept.refl _ _
    | with_reducible assumption
    | with_reducible apply State.reading_k
    | with_reducible apply State.upCpu_k
    | with_reducible apply State.setPair_k
    | with_reducible exact KeptU.arg
    | with_reducible apply KeptU.ok
    | with_reducible apply KeptU.wait
    | (with_reducible refine KeptP.get (by assumption) ?_)
    | (with_reducible refine KeptT.get (by assumption) ?_)
    | exact rfl
    | split
    | with_reducible apply KeptP.mk
    | with_reducible apply KeptT.mk
    | with_reducible apply KeptT.snd
    | with_reducible apply KeptP.snd

theorem State.unitWaitUntil_k {m : Nat} {s0 : State} (g : Nat) (rd : Nat) (a : Word) (b : Word) (s : State) (hm
    : 0x100000000000 &&& m = 0x100000000000) (h0 : Kept m s0 s) : KeptU m s0 (State.unitWaitUntil g rd a b s) := by
  refine KeptU.step hm ?_ h0; clear h0 hm
  unfold State.unitWaitUntil
  repeat' first
    | with_reducible exact Kept.refl _ _
    | with_reducible assumption
    | with_reducible apply State.setEvent_k
    | with_reducible apply State.setX_k
    | with_reducible apply State.await_k
    | (extract_lets +onlyGivenNames x; first
        | (with_reducible refine Kept.cut (x := x) ?_ ?_; (on_goal 2 => (clear_value x; intro hx)); (on_goal 1 => (unfold x; clear x)))
        | (with_reducible refine KeptU.cut (x := x) ?_ ?_; (on_goal 2 => (clear_value x; intro hx)); (on_goal 1 => (unfold x; clear x)))
        | clear_value x
        | (unfold x; clear x))
    | with_reducible exact KeptU.arg
    | with_reducible apply KeptU.ok
    | with_reducible apply KeptU.wait
    | exact rfl
    | split

theorem State.unitTaskDone_k {m : Nat} {s0 : State} (g : Nat) (a : Word) (s : State) (hm : 0x2011003C000008 &&&
    m = 0x2011003C000008) (h0 : Kept m s0 s) : KeptU m s0 (State.unitTaskDone g a s) := by
  refine KeptU.step hm ?_ h0; clear h0 hm
  unfold State.unitTaskDone
  repeat' first
    | with_reducible exact Kept.refl _ _
    | with_reducible apply State.taskDone_k
    | with_reducible exact KeptU.arg
    | with_reducible apply KeptU.ok
    | with_reducible apply KeptU.wait
    | exact rfl
    | split

theorem State.unitTsqPop_k {m : Nat} {s0 : State} (g : Nat) (rd : Nat) (a : Word) (s : State) (hm :
    0x100200000000 &&& m = 0x100200000000) (h0 : Kept m s0 s) : KeptU m s0 (State.unitTsqPop g rd a s) := by
  refine KeptU.step hm ?_ h0; clear h0 hm
  unfold State.unitTsqPop
  repeat' first
    | with_reducible exact Kept.refl _ _
    | with_reducible assumption
    | with_reducible apply State.upCpu_k
    | with_reducible apply State.upBport_k
    | with_reducible apply State.setPair_k
    | (extract_lets +onlyGivenNames x; first
        | (with_reducible refine Kept.cut (x := x) ?_ ?_; (on_goal 2 => (clear_value x; intro hx)); (on_goal 1 => (unfold x; clear x)))
        | (with_reducible refine KeptU.cut (x := x) ?_ ?_; (on_goal 2 => (clear_value x; intro hx)); (on_goal 1 => (unfold x; clear x)))
        | clear_value x
        | (unfold x; clear x))
    | with_reducible exact KeptU.arg
    | with_reducible apply KeptU.ok
    | with_reducible apply KeptU.wait
    | exact rfl
    | split

theorem State.unitCheckpoint_k {m : Nat} {s0 : State} (g : Nat) (x : Ecc) (rd : Nat) (s : State) (hm :
    0x3A7B177E00FFCC &&& m = 0x3A7B177E00FFCC) (h0 : Kept m s0 s) : KeptU m s0 (State.unitCheckpoint g x rd s) := by
  refine KeptU.step hm ?_ h0; clear h0 hm
  unfold State.unitCheckpoint
  repeat' first
    | with_reducible exact Kept.refl _ _
    | with_reducible assumption
    | with_reducible apply State.setX_k
    | with_reducible apply State.setEng_k
    | with_reducible apply State.countEng_k
    | with_reducible apply State.unitReads_k
    | (extract_lets +onlyGivenNames x; first
        | (with_reducible refine Kept.cut (x := x) ?_ ?_; (on_goal 2 => (clear_value x; intro hx)); (on_goal 1 => (unfold x; clear x)))
        | (with_reducible refine KeptU.cut (x := x) ?_ ?_; (on_goal 2 => (clear_value x; intro hx)); (on_goal 1 => (unfold x; clear x)))
        | clear_value x
        | (unfold x; clear x))
    | with_reducible exact KeptU.arg
    | with_reducible apply KeptU.ok
    | with_reducible apply KeptU.wait
    | exact rfl
    | (intro _ _)
    | split
    | with_reducible apply Kept.set_health

theorem State.unitAnswer_k {m : Nat} {s0 : State} (i : Issue) (f : UnitFn) (rd : Nat) (ra : Nat) (rb : Nat) (s :
    State) (hm : 0x3A7F177E01FFCC &&& m = 0x3A7F177E01FFCC) (h0 : Kept m s0 s) : KeptU m s0 (State.unitAnswer i f rd
    ra rb s) := by
  refine KeptU.step hm ?_ h0; clear h0 hm
  unfold State.unitAnswer
  repeat' first
    | with_reducible exact Kept.refl _ _
    | with_reducible assumption
    | with_reducible apply State.unitHdr_k
    | with_reducible apply State.unitRelease_k
    | with_reducible apply State.unitTsqPop_k
    | with_reducible apply State.unitSubmit_k
    | with_reducible apply State.setX_k
    | with_reducible apply State.unitData_k
    | with_reducible apply State.unitNow_k
    | with_reducible apply State.unitCopy_k
    | with_reducible apply State.unitTake_k
    | with_reducible apply State.unitCheckpoint_k
    | with_reducible apply State.unitDone_k
    | with_reducible apply State.unitWaitUntil_k
    | with_reducible apply State.setPair_k
    | with_reducible apply State.unitTaskDone_k
    | (extract_lets +onlyGivenNames x; first
        | (with_reducible refine Kept.cut (x := x) ?_ ?_; (on_goal 2 => (clear_value x; intro hx)); (on_goal 1 => (unfold x; clear x)))
        | (with_reducible refine KeptU.cut (x := x) ?_ ?_; (on_goal 2 => (clear_value x; intro hx)); (on_goal 1 => (unfold x; clear x)))
        | clear_value x
        | (unfold x; clear x))
    | with_reducible exact KeptU.arg
    | with_reducible apply KeptU.ok
    | with_reducible apply KeptU.wait
    | exact rfl
    | split

theorem State.endCall_k {m : Nat} {s0 : State} (g : Nat) (ans : UnitAns) (s : State) (ha : KeptU m s0 ans)
    (hm : 0x2030003C000008 &&& m = 0x2030003C000008) (h0 : Kept m s0 s) : Kept m s0 (State.endCall g ans s) := by
  unfold State.endCall
  split
  · with_reducible apply State.trap_k
    · exact sub_trans rfl hm
    · exact h0
  · rename_i t
    with_reducible apply State.advance_k
    · exact sub_trans rfl hm
    · exact ha.of t (.inl rfl)
  · rename_i t
    exact ha.of t (.inr rfl)

theorem State.runUnit_k {m : Nat} {s0 : State} (i : Issue) (f : UnitFn) (rd : Nat) (ra : Nat) (rb : Nat) (s :
    State) (hm : 0x3A7F177E01FFCC &&& m = 0x3A7F177E01FFCC) (h0 : Kept m s0 s) : Kept m s0 (State.runUnit i f rd ra
    rb s) := by
  refine Kept.step hm ?_ h0; clear h0 hm
  unfold State.runUnit
  repeat' first
    | with_reducible exact Kept.refl _ _
    | with_reducible assumption
    | with_reducible apply State.issue_k
    | with_reducible apply State.unitAnswer_k
    | with_reducible apply State.trap_k
    | with_reducible apply State.endCall_k
    | exact rfl
    | (intro _ _)
    | split

theorem State.runCrc_k {m : Nat} {s0 : State} (i : Issue) (j : Nat) (rd : Nat) (ra : Nat) (rb : Nat) (s : State)
    (hm : 0x3A7B177E00FFCC &&& m = 0x3A7B177E00FFCC) (h0 : Kept m s0 s) : Kept m s0 (State.runCrc i j rd ra rb s) :=
    by
  refine Kept.step hm ?_ h0; clear h0 hm
  unfold State.runCrc
  repeat' first
    | with_reducible exact Kept.refl _ _
    | with_reducible assumption
    | with_reducible apply State.issue_k
    | with_reducible apply State.setPair_k
    | with_reducible apply State.trap_k
    | with_reducible apply State.advance_k
    | with_reducible apply State.readMem_k
    | (extract_lets +onlyGivenNames x; first
        | (with_reducible refine Kept.cut (x := x) ?_ ?_; (on_goal 2 => (clear_value x; intro hx)); (on_goal 1 => (unfold x; clear x)))
        | clear_value x
        | (unfold x; clear x))
    | exact rfl
    | (intro _ _)
    | split

theorem State.tileCall_k {m : Nat} {s0 : State} (g : Nat) (fn : Nat) (rd : Nat) (ra : Nat) (rb : Nat) (imm :
    Nat) (s : State) (hm : 0x6030003C000008 &&& m = 0x6030003C000008) (h0 : Kept m s0 s) : Kept m s0 (State.tileCall
    g fn rd ra rb imm s) := by
  refine Kept.step hm ?_ h0; clear h0 hm
  unfold State.tileCall
  repeat' first
    | with_reducible exact Kept.refl _ _
    | with_reducible apply State.draw_k
    | with_reducible apply State.setX_k
    | with_reducible apply State.trap_k
    | with_reducible apply State.advance_k
    | exact rfl
    | split

theorem State.runCust_k {m : Nat} {s0 : State} (i : Issue) (fn : Nat) (rd : Nat) (ra : Nat) (rb : Nat) (imm :
    Nat) (s : State) (hm : 0x7A7B177E00FFCC &&& m = 0x7A7B177E00FFCC) (h0 : Kept m s0 s) : Kept m s0 (State.runCust
    i fn rd ra rb imm s) := by
  refine Kept.step hm ?_ h0; clear h0 hm
  unfold State.runCust
  repeat' first
    | with_reducible exact Kept.refl _ _
    | with_reducible assumption
    | with_reducible apply State.issue_k
    | with_reducible apply State.tileCall_k
    | exact rfl
    | (intro _ _)

theorem State.runAbsent_k {m : Nat} {s0 : State} (i : Issue) (u : Nat) (fn : Nat) (rd : Nat) (ra : Nat) (rb :
    Nat) (s : State) (hm : 0x3A7B177E00FFCC &&& m = 0x3A7B177E00FFCC) (h0 : Kept m s0 s) : Kept m s0
    (State.runAbsent i u fn rd ra rb s) := by
  refine Kept.step hm ?_ h0; clear h0 hm
  unfold State.runAbsent
  repeat' first
    | with_reducible exact Kept.refl _ _
    | with_reducible assumption
    | with_reducible apply State.issue_k
    | with_reducible apply State.trap_k
    | exact rfl
    | (intro _ _)

theorem State.waitUntilWake_k {m : Nat} {s0 : State} (g : Nat) (s : State) (hm : 0x2030003C000008 &&& m =
    0x2030003C000008) (h0 : Kept m s0 s) : Kept m s0 (State.waitUntilWake g s) := by
  refine Kept.step hm ?_ h0; clear h0 hm
  unfold State.waitUntilWake
  repeat' first
    | with_reducible exact Kept.refl _ _
    | with_reducible apply State.setEvent_k
    | with_reducible apply State.setX_k
    | with_reducible apply State.awake_k
    | with_reducible apply State.advance_k
    | exact rfl
    | split

theorem State.takeInterrupt_k {m : Nat} {s0 : State} (i : Issue) (late : List Late) (s : State) (hm :
    0x3A7B177F80FFCC &&& m = 0x3A7B177F80FFCC) (h0 : Kept m s0 s) : Kept m s0 (State.takeInterrupt i late s) := by
  refine Kept.step hm ?_ h0; clear h0 hm
  unfold State.takeInterrupt
  repeat' first
    | with_reducible exact Kept.refl _ _
    | with_reducible apply State.interruptEntry_k
    | exact rfl
    | split

theorem State.tileFrame_k {m : Nat} {s0 : State} (picks : List Nat) (c : Nat) (d : List Byte) (s : State) (hm :
    0x6056147E0169C8 &&& m = 0x6056147E0169C8) (h0 : Kept m s0 s) : Kept m s0 (State.tileFrame picks c d s) := by
  refine Kept.step hm ?_ h0; clear h0 hm
  unfold State.tileFrame
  repeat' first
    | with_reducible exact Kept.refl _ _
    | with_reducible assumption
    | with_reducible apply State.tileSubmit_k
    | with_reducible apply State.cntF_k
    | with_reducible apply State.emit_k
    | (with_reducible refine KeptP.get (by assumption) ?_)
    | (with_reducible refine KeptT.get (by assumption) ?_)
    | exact rfl
    | split

theorem State.tileSignal_k {m : Nat} {s0 : State} (c : Nat) (k : Nat) (s : State) (hm : 0x100000000000 &&& m =
    0x100000000000) (h0 : Kept m s0 s) : Kept m s0 (State.tileSignal c k s) := by
  refine Kept.step hm ?_ h0; clear h0 hm
  unfold State.tileSignal
  repeat' first
    | with_reducible exact Kept.refl _ _
    | with_reducible apply State.privArrive_k
    | with_reducible apply Kept.each
    | exact rfl
    | (intro _ _)
    | split

end Sys2Proof.Machine
end

