-- ==== Sys2Proof/Laws/FramePower.lean ====
section
/-! SUPPORT. Frames of Machine/Power.lean: the fields each function may change. -/
namespace Sys2Proof.Machine
open Sys2Proof

theorem State.upPower_k {m : Nat} {s0 : State} (f : Power → Power) (s : State) (hm : 0x4000000000000 &&& m =
    0x4000000000000) (h0 : Kept m s0 s) : Kept m s0 (State.upPower f s) := by
  refine Kept.step hm ?_ h0; clear h0 hm
  unfold State.upPower
  repeat' first
    | with_reducible exact Kept.refl _ _
    | with_reducible assumption
    | exact rfl
    | with_reducible apply Kept.set_power

theorem State.countPwr_k {m : Nat} {s0 : State} (i : Nat) (s : State) (hm : 0x8 &&& m = 0x8) (h0 : Kept m s0 s)
    : Kept m s0 (State.countPwr i s) := by
  refine Kept.step hm ?_ h0; clear h0 hm
  unfold State.countPwr
  repeat' first
    | with_reducible exact Kept.refl _ _
    | with_reducible apply State.cnt_k
    | exact rfl

theorem State.setModPg_k {m : Nat} {s0 : State} (on : Bool) (s : State) (hm : 0x24000000000000 &&& m =
    0x24000000000000) (h0 : Kept m s0 s) : Kept m s0 (State.setModPg on s) := by
  refine Kept.step hm ?_ h0; clear h0 hm
  unfold State.setModPg
  repeat' first
    | with_reducible exact Kept.refl _ _
    | with_reducible apply State.upPower_k
    | with_reducible apply State.emit_k
    | exact rfl
    | split

theorem State.setWarn_k {m : Nat} {s0 : State} (on : Bool) (s : State) (hm : 0x2410003C000008 &&& m =
    0x2410003C000008) (h0 : Kept m s0 s) : Kept m s0 (State.setWarn on s) := by
  refine Kept.step hm ?_ h0; clear h0 hm
  unfold State.setWarn
  repeat' first
    | with_reducible exact Kept.refl _ _
    | with_reducible apply State.raise_k
    | with_reducible apply State.upPower_k
    | with_reducible apply State.emit_k
    | exact rfl
    | split

theorem State.conduct_k {m : Nat} {s0 : State} (feed : Nat) (s : State) (hm : 0x4000000000000 &&& m =
    0x4000000000000) (h0 : Kept m s0 s) : Kept m s0 (State.conduct feed s) := by
  refine Kept.step hm ?_ h0; clear h0 hm
  unfold State.conduct
  repeat' first
    | with_reducible exact Kept.refl _ _
    | with_reducible apply State.upPower_k
    | exact rfl

theorem State.switchOn_k {m : Nat} {s0 : State} (s : State) (hm : 0x44000000000000 &&& m = 0x44000000000000) (h0
    : Kept m s0 s) : Kept m s0 (State.switchOn s) := by
  refine Kept.step hm ?_ h0; clear h0 hm
  unfold State.switchOn
  repeat' first
    | with_reducible exact Kept.refl _ _
    | with_reducible apply State.draw_k
    | with_reducible apply State.upPower_k
    | exact rfl

theorem State.unlatch_k {m : Nat} {s0 : State} (s : State) (hm : 0x44000000000000 &&& m = 0x44000000000000) (h0
    : Kept m s0 s) : Kept m s0 (State.unlatch s) := by
  refine Kept.step hm ?_ h0; clear h0 hm
  unfold State.unlatch
  repeat' first
    | with_reducible exact Kept.refl _ _
    | with_reducible apply State.switchOn_k
    | with_reducible apply State.upPower_k
    | exact rfl
    | split

theorem State.noteCause_k {m : Nat} {s0 : State} (cause : Nat) (s : State) (hm : 0x4000000000000 &&& m =
    0x4000000000000) (h0 : Kept m s0 s) : Kept m s0 (State.noteCause cause s) := by
  refine Kept.step hm ?_ h0; clear h0 hm
  unfold State.noteCause
  repeat' first
    | with_reducible exact Kept.refl _ _
    | with_reducible apply State.upPower_k
    | exact rfl
    | split

theorem State.retentionEnds_k {m : Nat} {s0 : State} (s : State) (hm : 0x4000000000008 &&& m = 0x4000000000008)
    (h0 : Kept m s0 s) : Kept m s0 (State.retentionEnds s) := by
  refine Kept.step hm ?_ h0; clear h0 hm
  unfold State.retentionEnds
  repeat' first
    | with_reducible exact Kept.refl _ _
    | with_reducible apply State.wr_k
    | with_reducible apply State.upPower_k
    | exact rfl
    | split

theorem State.enterOff_k {m : Nat} {s0 : State} (s : State) (hm : 0x7FFFFFFFFFFFFF &&& m = 0x7FFFFFFFFFFFFF) (h0
    : Kept m s0 s) : Kept m s0 (State.enterOff s) := by
  refine Kept.step hm ?_ h0; clear h0 hm
  unfold State.enterOff
  repeat' first
    | with_reducible exact Kept.refl _ _
    | with_reducible assumption
    | with_reducible apply State.setModPg_k
    | with_reducible apply State.upPower_k
    | with_reducible apply State.enterMode_k
    | with_reducible apply State.retentionEnds_k
    | with_reducible apply State.setWarn_k
    | with_reducible apply State.noteCause_k
    | (extract_lets +onlyGivenNames x; first
        | (with_reducible refine Kept.cut (x := x) ?_ ?_; (on_goal 2 => (clear_value x; intro hx)); (on_goal 1 => (unfold x; clear x)))
        | clear_value x
        | (unfold x; clear x))
    | exact rfl
    | split

theorem State.supplyLost_k {m : Nat} {s0 : State} (s : State) (hm : 0x7FFFFFFFFFFFFF &&& m = 0x7FFFFFFFFFFFFF)
    (h0 : Kept m s0 s) : Kept m s0 (State.supplyLost s) := by
  refine Kept.step hm ?_ h0; clear h0 hm
  unfold State.supplyLost
  repeat' first
    | with_reducible exact Kept.refl _ _
    | with_reducible apply State.countPwr_k
    | with_reducible apply State.shedAll_k
    | with_reducible apply State.setWarn_k
    | with_reducible apply State.enterOff_k
    | exact rfl
    | split

theorem State.feedIn_k {m : Nat} {s0 : State} (feed : Nat) (mV : Nat) (s : State) (hm : 0x7FFFFFFFFFFFFF &&& m =
    0x7FFFFFFFFFFFFF) (h0 : Kept m s0 s) : Kept m s0 (State.feedIn feed mV s) := by
  refine Kept.step hm ?_ h0; clear h0 hm
  unfold State.feedIn
  repeat' first
    | with_reducible exact Kept.refl _ _
    | with_reducible assumption
    | with_reducible apply State.raise_k
    | with_reducible apply State.upPower_k
    | with_reducible apply State.enterMode_k
    | with_reducible apply State.conduct_k
    | (extract_lets +onlyGivenNames x; first
        | (with_reducible refine Kept.cut (x := x) ?_ ?_; (on_goal 2 => (clear_value x; intro hx)); (on_goal 1 => (unfold x; clear x)))
        | clear_value x
        | (unfold x; clear x))
    | exact rfl
    | split

theorem State.pinsLow_k {m : Nat} {s0 : State} (s : State) (hm : 0x400000000000C &&& m = 0x400000000000C) (h0 :
    Kept m s0 s) : Kept m s0 (State.pinsLow s) := by
  refine Kept.step hm ?_ h0; clear h0 hm
  unfold State.pinsLow
  repeat' first
    | with_reducible exact Kept.refl _ _
    | with_reducible assumption
    | with_reducible apply State.upPower_k
    | with_reducible apply State.retentionEnds_k
    | (extract_lets +onlyGivenNames x; first
        | (with_reducible refine Kept.cut (x := x) ?_ ?_; (on_goal 2 => (clear_value x; intro hx)); (on_goal 1 => (unfold x; clear x)))
        | clear_value x
        | (unfold x; clear x))
    | exact rfl
    | split
    | with_reducible apply Kept.set_ctl

theorem State.feedOut_k {m : Nat} {s0 : State} (feed : Nat) (mV : Nat) (s : State) (hm : 0x7FFFFFFFFFFFFF &&& m
    = 0x7FFFFFFFFFFFFF) (h0 : Kept m s0 s) : Kept m s0 (State.feedOut feed mV s) := by
  refine Kept.step hm ?_ h0; clear h0 hm
  unfold State.feedOut
  repeat' first
    | with_reducible exact Kept.refl _ _
    | with_reducible assumption
    | with_reducible apply State.countPwr_k
    | with_reducible apply State.unlatch_k
    | with_reducible apply State.raise_k
    | with_reducible apply State.upPower_k
    | with_reducible apply State.supplyLost_k
    | with_reducible apply State.conduct_k
    | with_reducible apply State.pinsLow_k
    | (extract_lets +onlyGivenNames x; first
        | (with_reducible refine Kept.cut (x := x) ?_ ?_; (on_goal 2 => (clear_value x; intro hx)); (on_goal 1 => (unfold x; clear x)))
        | clear_value x
        | (unfold x; clear x))
    | exact rfl
    | split

theorem State.feedsRemoved_k {m : Nat} {s0 : State} (s : State) (hm : 0x400000000000C &&& m = 0x400000000000C)
    (h0 : Kept m s0 s) : Kept m s0 (State.feedsRemoved s) := by
  refine Kept.step hm ?_ h0; clear h0 hm
  unfold State.feedsRemoved
  repeat' first
    | with_reducible exact Kept.refl _ _
    | with_reducible apply State.upPower_k
    | with_reducible apply State.pinsLow_k
    | exact rfl
    | split

theorem State.wake_k {m : Nat} {s0 : State} (s : State) (hm : 0x7FFFFFFFFFFFFF &&& m = 0x7FFFFFFFFFFFFF) (h0 :
    Kept m s0 s) : Kept m s0 (State.wake s) := by
  refine Kept.step hm ?_ h0; clear h0 hm
  unfold State.wake
  repeat' first
    | with_reducible exact Kept.refl _ _
    | with_reducible assumption
    | with_reducible apply State.enterMode_k
    | (extract_lets +onlyGivenNames x; first
        | (with_reducible refine Kept.cut (x := x) ?_ ?_; (on_goal 2 => (clear_value x; intro hx)); (on_goal 1 => (unfold x; clear x)))
        | clear_value x
        | (unfold x; clear x))
    | exact rfl
    | split
    | with_reducible apply Kept.set_ctl

theorem State.keeperStart_k {m : Nat} {s0 : State} (s : State) (hm : 0x2000000000000 &&& m = 0x2000000000000)
    (h0 : Kept m s0 s) : Kept m s0 (State.keeperStart s) := by
  refine Kept.step hm ?_ h0; clear h0 hm
  unfold State.keeperStart
  repeat' first
    | with_reducible exact Kept.refl _ _
    | with_reducible assumption
    | (extract_lets +onlyGivenNames x; first
        | (with_reducible refine Kept.cut (x := x) ?_ ?_; (on_goal 2 => (clear_value x; intro hx)); (on_goal 1 => (unfold x; clear x)))
        | clear_value x
        | (unfold x; clear x))
    | exact rfl
    | split
    | with_reducible apply Kept.set_keeper

theorem State.pwrRestore_k {m : Nat} {s0 : State} (s : State) (hm : 0x7FFFFFFFFFFFFF &&& m = 0x7FFFFFFFFFFFFF)
    (h0 : Kept m s0 s) : Kept m s0 (State.pwrRestore s) := by
  refine Kept.step hm ?_ h0; clear h0 hm
  unfold State.pwrRestore
  repeat' first
    | with_reducible exact Kept.refl _ _
    | with_reducible assumption
    | with_reducible apply State.wake_k
    | with_reducible apply State.sparRefresh_k
    | with_reducible apply State.keeperStart_k
    | with_reducible apply State.setWarn_k
    | (extract_lets +onlyGivenNames x; first
        | (with_reducible refine Kept.cut (x := x) ?_ ?_; (on_goal 2 => (clear_value x; intro hx)); (on_goal 1 => (unfold x; clear x)))
        | clear_value x
        | (unfold x; clear x))
    | exact rfl
    | split

theorem State.reverseOff_k {m : Nat} {s0 : State} (feed : Nat) (s : State) (hm : 0x2410003C000008 &&& m =
    0x2410003C000008) (h0 : Kept m s0 s) : Kept m s0 (State.reverseOff feed s) := by
  refine Kept.step hm ?_ h0; clear h0 hm
  unfold State.reverseOff
  repeat' first
    | with_reducible exact Kept.refl _ _
    | with_reducible apply State.countPwr_k
    | with_reducible apply State.raise_k
    | with_reducible apply State.upPower_k
    | exact rfl
    | split

theorem State.seatMade_k {m : Nat} {s0 : State} (pin : Nat) (s : State) (hm : 0x4000000000000 &&& m =
    0x4000000000000) (h0 : Kept m s0 s) : Kept m s0 (State.seatMade pin s) := by
  refine Kept.step hm ?_ h0; clear h0 hm
  unfold State.seatMade
  repeat' first
    | with_reducible exact Kept.refl _ _
    | with_reducible apply State.upPower_k
    | exact rfl
    | split

theorem State.seatDone_k {m : Nat} {s0 : State} (s : State) (hm : 0x7FFFFFFFFFFFFF &&& m = 0x7FFFFFFFFFFFFF) (h0
    : Kept m s0 s) : Kept m s0 (State.seatDone s) := by
  refine Kept.step hm ?_ h0; clear h0 hm
  unfold State.seatDone
  repeat' first
    | with_reducible exact Kept.refl _ _
    | with_reducible apply State.switchOn_k
    | with_reducible apply State.enterMode_k
    | exact rfl
    | split

theorem State.seatOpen_k {m : Nat} {s0 : State} (pin : Nat) (s : State) (hm : 0x7FFFFFFFFFFFFF &&& m =
    0x7FFFFFFFFFFFFF) (h0 : Kept m s0 s) : Kept m s0 (State.seatOpen pin s) := by
  refine Kept.step hm ?_ h0; clear h0 hm
  unfold State.seatOpen
  repeat' first
    | with_reducible exact Kept.refl _ _
    | with_reducible assumption
    | with_reducible apply State.setModPg_k
    | with_reducible apply State.unlatch_k
    | with_reducible apply State.upPower_k
    | with_reducible apply State.enterMode_k
    | with_reducible apply State.setWarn_k
    | with_reducible apply State.noteCause_k
    | (extract_lets +onlyGivenNames x; first
        | (with_reducible refine Kept.cut (x := x) ?_ ?_; (on_goal 2 => (clear_value x; intro hx)); (on_goal 1 => (unfold x; clear x)))
        | clear_value x
        | (unfold x; clear x))
    | exact rfl
    | split

theorem State.inrushDone_k {m : Nat} {s0 : State} (mV : Nat) (mA : Nat) (s : State) (hm : 0x7FFFFFFFFFFFFF &&& m
    = 0x7FFFFFFFFFFFFF) (h0 : Kept m s0 s) : Kept m s0 (State.inrushDone mV mA s) := by
  refine Kept.step hm ?_ h0; clear h0 hm
  unfold State.inrushDone
  repeat' first
    | with_reducible exact Kept.refl _ _
    | with_reducible assumption
    | with_reducible apply State.upPower_k
    | with_reducible apply State.enterMode_k
    | (extract_lets +onlyGivenNames x; first
        | (with_reducible refine Kept.cut (x := x) ?_ ?_; (on_goal 2 => (clear_value x; intro hx)); (on_goal 1 => (unfold x; clear x)))
        | clear_value x
        | (unfold x; clear x))
    | exact rfl
    | split

theorem State.inputTrip_k {m : Nat} {s0 : State} (mA : Nat) (s : State) (hm : 0x7FFFFFFFFFFFFF &&& m =
    0x7FFFFFFFFFFFFF) (h0 : Kept m s0 s) : Kept m s0 (State.inputTrip mA s) := by
  refine Kept.step hm ?_ h0; clear h0 hm
  unfold State.inputTrip
  repeat' first
    | with_reducible exact Kept.refl _ _
    | with_reducible assumption
    | with_reducible apply State.countPwr_k
    | with_reducible apply State.setModPg_k
    | with_reducible apply State.raise_k
    | with_reducible apply State.upPower_k
    | with_reducible apply State.supplyLost_k
    | exact rfl

theorem State.inrushTimeout_k {m : Nat} {s0 : State} (mA : Nat) (s : State) (hm : 0x7FFFFFFFFFFFFF &&& m =
    0x7FFFFFFFFFFFFF) (h0 : Kept m s0 s) : Kept m s0 (State.inrushTimeout mA s) := by
  refine Kept.step hm ?_ h0; clear h0 hm
  unfold State.inrushTimeout
  repeat' first
    | with_reducible exact Kept.refl _ _
    | with_reducible apply State.inputTrip_k
    | exact rfl
    | split

theorem State.inputLimit_k {m : Nat} {s0 : State} (mA : Nat) (s : State) (hm : 0x2410003C000008 &&& m =
    0x2410003C000008) (h0 : Kept m s0 s) : Kept m s0 (State.inputLimit mA s) := by
  refine Kept.step hm ?_ h0; clear h0 hm
  unfold State.inputLimit
  repeat' first
    | with_reducible exact Kept.refl _ _
    | with_reducible assumption
    | with_reducible apply State.countPwr_k
    | with_reducible apply State.setModPg_k
    | with_reducible apply State.raise_k
    | with_reducible apply State.upPower_k
    | (extract_lets +onlyGivenNames x; first
        | (with_reducible refine Kept.cut (x := x) ?_ ?_; (on_goal 2 => (clear_value x; intro hx)); (on_goal 1 => (unfold x; clear x)))
        | clear_value x
        | (unfold x; clear x))
    | exact rfl
    | split

theorem State.inputLimitEnd_k {m : Nat} {s0 : State} (mA : Nat) (s : State) (hm : 0x4000000000000 &&& m =
    0x4000000000000) (h0 : Kept m s0 s) : Kept m s0 (State.inputLimitEnd mA s) := by
  refine Kept.step hm ?_ h0; clear h0 hm
  unfold State.inputLimitEnd
  repeat' first
    | with_reducible exact Kept.refl _ _
    | with_reducible apply State.upPower_k
    | exact rfl
    | split

theorem State.inputFaultTimer_k {m : Nat} {s0 : State} (mA : Nat) (s : State) (hm : 0x7FFFFFFFFFFFFF &&& m =
    0x7FFFFFFFFFFFFF) (h0 : Kept m s0 s) : Kept m s0 (State.inputFaultTimer mA s) := by
  refine Kept.step hm ?_ h0; clear h0 hm
  unfold State.inputFaultTimer
  repeat' first
    | with_reducible exact Kept.refl _ _
    | with_reducible apply State.inputTrip_k
    | exact rfl
    | split

theorem State.inputShort_k {m : Nat} {s0 : State} (mA : Nat) (s : State) (hm : 0x7FFFFFFFFFFFFF &&& m =
    0x7FFFFFFFFFFFFF) (h0 : Kept m s0 s) : Kept m s0 (State.inputShort mA s) := by
  refine Kept.step hm ?_ h0; clear h0 hm
  unfold State.inputShort
  repeat' first
    | with_reducible exact Kept.refl _ _
    | with_reducible apply State.inputTrip_k
    | exact rfl
    | split

theorem State.inputRetryEnd_k {m : Nat} {s0 : State} (s : State) (hm : 0x7FFFFFFFFFFFFF &&& m =
    0x7FFFFFFFFFFFFF) (h0 : Kept m s0 s) : Kept m s0 (State.inputRetryEnd s) := by
  refine Kept.step hm ?_ h0; clear h0 hm
  unfold State.inputRetryEnd
  repeat' first
    | with_reducible exact Kept.refl _ _
    | with_reducible assumption
    | with_reducible apply State.switchOn_k
    | with_reducible apply State.upPower_k
    | with_reducible apply State.enterMode_k
    | (extract_lets +onlyGivenNames x; first
        | (with_reducible refine Kept.cut (x := x) ?_ ?_; (on_goal 2 => (clear_value x; intro hx)); (on_goal 1 => (unfold x; clear x)))
        | clear_value x
        | (unfold x; clear x))
    | exact rfl
    | split

theorem State.inputRetriesReset_k {m : Nat} {s0 : State} (s : State) (hm : 0x4000000000000 &&& m =
    0x4000000000000) (h0 : Kept m s0 s) : Kept m s0 (State.inputRetriesReset s) := by
  refine Kept.step hm ?_ h0; clear h0 hm
  unfold State.inputRetriesReset
  repeat' first
    | with_reducible exact Kept.refl _ _
    | with_reducible apply State.upPower_k
    | exact rfl
    | split

theorem State.inputPassFault_k {m : Nat} {s0 : State} (s : State) (hm : 0x2FF3F7FFF0FFDC &&& m =
    0x2FF3F7FFF0FFDC) (h0 : Kept m s0 s) : Kept m s0 (State.inputPassFault s) := by
  refine Kept.step hm ?_ h0; clear h0 hm
  unfold State.inputPassFault
  repeat' first
    | with_reducible exact Kept.refl _ _
    | with_reducible assumption
    | with_reducible apply State.setModPg_k
    | with_reducible apply State.raise_k
    | with_reducible apply State.queueHealth_k
    | with_reducible apply State.upPower_k
    | with_reducible apply State.faultHold_k
    | with_reducible apply State.noteCause_k
    | (extract_lets +onlyGivenNames x; first
        | (with_reducible refine Kept.cut (x := x) ?_ ?_; (on_goal 2 => (clear_value x; intro hx)); (on_goal 1 => (unfold x; clear x)))
        | clear_value x
        | (unfold x; clear x))
    | exact rfl
    | split

theorem State.modPgAssert_k {m : Nat} {s0 : State} (s : State) (hm : 0x24000000000000 &&& m = 0x24000000000000)
    (h0 : Kept m s0 s) : Kept m s0 (State.modPgAssert s) := by
  refine Kept.step hm ?_ h0; clear h0 hm
  unfold State.modPgAssert
  repeat' first
    | with_reducible exact Kept.refl _ _
    | with_reducible apply State.setModPg_k
    | with_reducible apply State.upPower_k
    | exact rfl
    | split

theorem State.railOut_k {m : Nat} {s0 : State} (s : State) (hm : 0x24000000000000 &&& m = 0x24000000000000) (h0
    : Kept m s0 s) : Kept m s0 (State.railOut s) := by
  refine Kept.step hm ?_ h0; clear h0 hm
  unfold State.railOut
  repeat' first
    | with_reducible exact Kept.refl _ _
    | with_reducible apply State.setModPg_k
    | with_reducible apply State.upPower_k
    | exact rfl

theorem State.holdupExhausted_k {m : Nat} {s0 : State} (mV : Nat) (s : State) (hm : 0x7FFFFFFFFFFFFF &&& m =
    0x7FFFFFFFFFFFFF) (h0 : Kept m s0 s) : Kept m s0 (State.holdupExhausted mV s) := by
  refine Kept.step hm ?_ h0; clear h0 hm
  unfold State.holdupExhausted
  repeat' first
    | with_reducible exact Kept.refl _ _
    | with_reducible assumption
    | with_reducible apply State.setModPg_k
    | with_reducible apply State.upPower_k
    | with_reducible apply State.enterOff_k
    | (extract_lets +onlyGivenNames x; first
        | (with_reducible refine Kept.cut (x := x) ?_ ?_; (on_goal 2 => (clear_value x; intro hx)); (on_goal 1 => (unfold x; clear x)))
        | clear_value x
        | (unfold x; clear x))
    | exact rfl
    | split

end Sys2Proof.Machine
end

