-- ==== Sys2Proof/Laws/FrameKeeper.lean ====
section
/-! SUPPORT. Frames of Machine/Keeper.lean: the fields each function may change. -/
namespace Sys2Proof.Machine
open Sys2Proof

theorem State.upKeeper_k {m : Nat} {s0 : State} (f : Keeper → Keeper) (s : State) (hm : 0x2000000000000 &&& m =
    0x2000000000000) (h0 : Kept m s0 s) : Kept m s0 (State.upKeeper f s) := by
  refine Kept.step hm ?_ h0; clear h0 hm
  unfold State.upKeeper
  repeat' first
    | with_reducible exact Kept.refl _ _
    | with_reducible assumption
    | exact rfl
    | with_reducible apply Kept.set_keeper

theorem State.kprEvent_k {m : Nat} {s0 : State} (i : Nat) (info : Nat) (s : State) (hm : 0x2010003C000008 &&& m
    = 0x2010003C000008) (h0 : Kept m s0 s) : Kept m s0 (State.kprEvent i info s) := by
  refine Kept.step hm ?_ h0; clear h0 hm
  unfold State.kprEvent
  repeat' first
    | with_reducible exact Kept.refl _ _
    | with_reducible apply State.raise_k
    | exact rfl

theorem State.setUntested_k {m : Nat} {s0 : State} (b : Bool) (s : State) (hm : 0x2210003C000008 &&& m =
    0x2210003C000008) (h0 : Kept m s0 s) : Kept m s0 (State.setUntested b s) := by
  refine Kept.step hm ?_ h0; clear h0 hm
  unfold State.setUntested
  repeat' first
    | with_reducible exact Kept.refl _ _
    | with_reducible assumption
    | with_reducible apply State.kprEvent_k
    | with_reducible apply State.upKeeper_k
    | (extract_lets +onlyGivenNames x; first
        | (with_reducible refine Kept.cut (x := x) ?_ ?_; (on_goal 2 => (clear_value x; intro hx)); (on_goal 1 => (unfold x; clear x)))
        | clear_value x
        | (unfold x; clear x))
    | exact rfl
    | split

theorem State.keeperBoot_k {m : Nat} {s0 : State} (soundA : Bool) (soundB : Bool) (s : State) (hm :
    0x2210003C000008 &&& m = 0x2210003C000008) (h0 : Kept m s0 s) : KeptO m s0 (State.keeperBoot soundA soundB s) :=
    by
  refine KeptO.step hm ?_ h0; clear h0 hm
  unfold State.keeperBoot
  repeat' first
    | with_reducible exact Kept.refl _ _
    | with_reducible assumption
    | with_reducible apply State.kprEvent_k
    | with_reducible apply State.upKeeper_k
    | (extract_lets +onlyGivenNames x; first
        | (with_reducible refine Kept.cut (x := x) ?_ ?_; (on_goal 2 => (clear_value x; intro hx)); (on_goal 1 => (unfold x; clear x)))
        | (with_reducible refine KeptO.cut (x := x) ?_ ?_; (on_goal 2 => (clear_value x; intro hx)); (on_goal 1 => (unfold x; clear x)))
        | clear_value x
        | (unfold x; clear x))
    | with_reducible exact KeptO.none
    | with_reducible apply KeptO.some
    | exact rfl
    | split

theorem State.raiseEpoch_k {m : Nat} {s0 : State} (s : State) (hm : 0x2000000000000 &&& m = 0x2000000000000) (h0
    : Kept m s0 s) : Kept m s0 (State.raiseEpoch s) := by
  refine Kept.step hm ?_ h0; clear h0 hm
  unfold State.raiseEpoch
  repeat' first
    | with_reducible exact Kept.refl _ _
    | with_reducible apply State.upKeeper_k
    | exact rfl

theorem State.endUpdate_k {m : Nat} {s0 : State} (kind : Nat) (code : Nat) (s : State) (hm : 0x2210003C000008
    &&& m = 0x2210003C000008) (h0 : Kept m s0 s) : Kept m s0 (State.endUpdate kind code s) := by
  refine Kept.step hm ?_ h0; clear h0 hm
  unfold State.endUpdate
  repeat' first
    | with_reducible exact Kept.refl _ _
    | with_reducible assumption
    | with_reducible apply State.kprEvent_k
    | with_reducible apply State.upKeeper_k
    | exact rfl
    | split

theorem State.openSession_k {m : Nat} {s0 : State} (x : Session) (s : State) (hm : 0x2210003C000008 &&& m =
    0x2210003C000008) (h0 : Kept m s0 s) : Kept m s0 (State.openSession x s) := by
  refine Kept.step hm ?_ h0; clear h0 hm
  unfold State.openSession
  repeat' first
    | with_reducible exact Kept.refl _ _
    | with_reducible assumption
    | with_reducible apply State.kprEvent_k
    | with_reducible apply Kept.each
    | with_reducible apply State.upEng_k
    | with_reducible apply State.upKeeper_k
    | exact rfl
    | (intro _ _)
    | split

theorem State.updateGo_k {m : Nat} {s0 : State} (kind : Nat) (inbuf : Bool) (n : Nat) (fetched : Option (List
    Byte)) (s : State) (hm : 0x6210003C000008 &&& m = 0x6210003C000008) (h0 : Kept m s0 s) : Kept m s0
    (State.updateGo kind inbuf n fetched s) := by
  refine Kept.step hm ?_ h0; clear h0 hm
  unfold State.updateGo
  repeat' first
    | with_reducible exact Kept.refl _ _
    | with_reducible assumption
    | with_reducible apply State.openSession_k
    | with_reducible apply State.queueOp_k
    | with_reducible apply State.newChallenge_k
    | with_reducible apply State.upKeeper_k
    | with_reducible apply State.endUpdate_k
    | (extract_lets +onlyGivenNames x; first
        | (with_reducible refine Kept.cut (x := x) ?_ ?_; (on_goal 2 => (clear_value x; intro hx)); (on_goal 1 => (unfold x; clear x)))
        | clear_value x
        | (unfold x; clear x))
    | exact rfl
    | split

theorem State.finishCal_k {m : Nat} {s0 : State} (s : State) (hm : 0x201000BC000004 &&& m = 0x201000BC000004)
    (h0 : Kept m s0 s) : Kept m s0 (State.finishCal s) := by
  refine Kept.step hm ?_ h0; clear h0 hm
  unfold State.finishCal
  repeat' first
    | with_reducible exact Kept.refl _ _
    | with_reducible apply State.finish_k
    | exact rfl
    | split

theorem State.storeDone_k {m : Nat} {s0 : State} (s : State) (hm : 0x7FFFFFFFFFFFFF &&& m = 0x7FFFFFFFFFFFFF)
    (h0 : Kept m s0 s) : Kept m s0 (State.storeDone s) := by
  refine Kept.step hm ?_ h0; clear h0 hm
  unfold State.storeDone
  repeat' first
    | with_reducible exact Kept.refl _ _
    | with_reducible assumption
    | with_reducible apply State.setLoad_k
    | with_reducible apply State.finishCal_k
    | with_reducible apply State.kprEvent_k
    | with_reducible apply Kept.each
    | with_reducible apply State.closeSession_k
    | with_reducible apply State.keeperStart_k
    | with_reducible apply State.enterMode_k
    | with_reducible apply State.upKeeper_k
    | with_reducible apply State.endUpdate_k
    | with_reducible apply State.setUntested_k
    | (extract_lets +onlyGivenNames x; first
        | (with_reducible refine Kept.cut (x := x) ?_ ?_; (on_goal 2 => (clear_value x; intro hx)); (on_goal 1 => (unfold x; clear x)))
        | clear_value x
        | (unfold x; clear x))
    | exact rfl
    | (intro _ _)
    | split

end Sys2Proof.Machine
end

