-- ==== Sys2Proof/Laws/FrameDebug.lean ====
section
/-! SUPPORT. Frames of Machine/Debug.lean: the fields each function may change. -/
namespace Sys2Proof.Machine
open Sys2Proof

theorem State.runOp_k {m : Nat} {s0 : State} (i : Issue) (o : Op) (late : List Late) (s : State) (hm :
    0x7A7F177F81FFCC &&& m = 0x7A7F177F81FFCC) (h0 : Kept m s0 s) : Kept m s0 (State.runOp i o late s) := by
  refine Kept.step hm ?_ h0; clear h0 hm
  unfold State.runOp
  repeat' first
    | with_reducible exact Kept.refl _ _
    | with_reducible apply State.runDi_k
    | with_reducible apply State.runCallr_k
    | with_reducible apply State.runReg3_k
    | with_reducible apply State.runStore_k
    | with_reducible apply State.runCmp_k
    | with_reducible apply State.runIns_k
    | with_reducible apply State.runShi_k
    | with_reducible apply State.runLoopi_k
    | with_reducible apply State.runWfe_k
    | with_reducible apply State.runSev_k
    | with_reducible apply State.runNop_k
    | with_reducible apply State.runAbsent_k
    | with_reducible apply State.runImm_k
    | with_reducible apply State.runExt_k
    | with_reducible apply State.runCsr_k
    | with_reducible apply State.runBreak_k
    | with_reducible apply State.runLui_k
    | with_reducible apply State.runJr_k
    | with_reducible apply State.runCb_k
    | with_reducible apply State.runAtom_k
    | with_reducible apply State.runCmpi_k
    | with_reducible apply State.runTst_k
    | with_reducible apply State.runUnit_k
    | with_reducible apply State.runLexit_k
    | with_reducible apply State.runLoad_k
    | with_reducible apply State.runReti_k
    | with_reducible apply State.runCall_k
    | with_reducible apply State.runBc_k
    | with_reducible apply State.runCust_k
    | with_reducible apply State.runLoop_k
    | with_reducible apply State.runJmp_k
    | with_reducible apply State.runReg2_k
    | with_reducible apply State.runEi_k
    | with_reducible apply State.runCrc_k
    | with_reducible apply State.runTrap_k
    | exact rfl
    | split

theorem State.setHalt_k {m : Nat} {s0 : State} (g : Nat) (b : Bool) (s : State) (hm : 0x100000000000 &&& m =
    0x100000000000) (h0 : Kept m s0 s) : Kept m s0 (State.setHalt g b s) := by
  refine Kept.step hm ?_ h0; clear h0 hm
  unfold State.setHalt
  repeat' first
    | with_reducible exact Kept.refl _ _
    | with_reducible apply State.upEng_k
    | exact rfl

theorem State.stepOne_k {m : Nat} {s0 : State} (g : Nat) (e : Meets) (s : State) (hm : 0x7A7F177F81FFCC &&& m =
    0x7A7F177F81FFCC) (h0 : Kept m s0 s) : Kept m s0 (State.stepOne g e s) := by
  refine Kept.step hm ?_ h0; clear h0 hm
  unfold State.stepOne
  repeat' first
    | with_reducible exact Kept.refl _ _
    | with_reducible assumption
    | with_reducible apply State.runOp_k
    | with_reducible apply State.setHalt_k
    | with_reducible apply State.runIllegal_k
    | (extract_lets +onlyGivenNames x; first
        | (with_reducible refine Kept.cut (x := x) ?_ ?_; (on_goal 2 => (clear_value x; intro hx)); (on_goal 1 => (unfold x; clear x)))
        | clear_value x
        | (unfold x; clear x))
    | exact rfl
    | split

theorem State.dbgCtrl_k {m : Nat} {s0 : State} (close : Bool) (s : State) (hm : 0x2210003C000008 &&& m =
    0x2210003C000008) (h0 : Kept m s0 s) : Kept m s0 (State.dbgCtrl close s) := by
  refine Kept.step hm ?_ h0; clear h0 hm
  unfold State.dbgCtrl
  repeat' first
    | with_reducible exact Kept.refl _ _
    | with_reducible apply State.closeSession_k
    | with_reducible apply State.mgReject_k
    | exact rfl
    | split

theorem State.dbgSelect_k {m : Nat} {s0 : State} (g : Nat) (halt : Bool) (step : Bool) (e : Meets) (s : State)
    (hm : 0x7A7F177F81FFCC &&& m = 0x7A7F177F81FFCC) (h0 : Kept m s0 s) : Kept m s0 (State.dbgSelect g halt step e
    s) := by
  refine Kept.step hm ?_ h0; clear h0 hm
  unfold State.dbgSelect
  repeat' first
    | with_reducible exact Kept.refl _ _
    | with_reducible assumption
    | with_reducible apply State.wr_k
    | with_reducible apply State.encReject_k
    | with_reducible apply State.setHalt_k
    | with_reducible apply State.stepOne_k
    | with_reducible apply State.mgReject_k
    | (extract_lets +onlyGivenNames x; first
        | (with_reducible refine Kept.cut (x := x) ?_ ?_; (on_goal 2 => (clear_value x; intro hx)); (on_goal 1 => (unfold x; clear x)))
        | clear_value x
        | (unfold x; clear x))
    | exact rfl
    | split

theorem State.dbgAddr_k {m : Nat} {s0 : State} (a : Nat) (s : State) (hm : 0x2010003C000008 &&& m =
    0x2010003C000008) (h0 : Kept m s0 s) : Kept m s0 (State.dbgAddr a s) := by
  refine Kept.step hm ?_ h0; clear h0 hm
  unfold State.dbgAddr
  repeat' first
    | with_reducible exact Kept.refl _ _
    | with_reducible apply State.wr_k
    | with_reducible apply State.encReject_k
    | with_reducible apply State.mgReject_k
    | exact rfl
    | split

theorem State.setAnyByte_k {m : Nat} {s0 : State} (g : Nat) (a : Nat) (b : Byte) (s : State) (hm :
    0x300000000000 &&& m = 0x300000000000) (h0 : Kept m s0 s) : Kept m s0 (State.setAnyByte g a b s) := by
  refine Kept.step hm ?_ h0; clear h0 hm
  unfold State.setAnyByte
  repeat' first
    | with_reducible exact Kept.refl _ _
    | with_reducible apply State.setEngByte_k
    | with_reducible apply State.upEng_k
    | exact rfl
    | split

theorem State.putAnyWord_k {m : Nat} {s0 : State} (g : Nat) (a : Nat) (w : Word) (s : State) (hm :
    0x300000000000 &&& m = 0x300000000000) (h0 : Kept m s0 s) : Kept m s0 (State.putAnyWord g a w s) := by
  refine Kept.step hm ?_ h0; clear h0 hm
  unfold State.putAnyWord
  repeat' first
    | with_reducible exact Kept.refl _ _
    | with_reducible apply Kept.each
    | with_reducible apply State.setAnyByte_k
    | exact rfl
    | (intro _ _)

theorem State.dbgNext_k {m : Nat} {s0 : State} (s : State) (hm : 0x8 &&& m = 0x8) (h0 : Kept m s0 s) : Kept m s0
    (State.dbgNext s) := by
  refine Kept.step hm ?_ h0; clear h0 hm
  unfold State.dbgNext
  repeat' first
    | with_reducible exact Kept.refl _ _
    | with_reducible apply State.wr_k
    | exact rfl

theorem State.dbgRead_k {m : Nat} {s0 : State} (s : State) (hm : 0x8 &&& m = 0x8) (h0 : Kept m s0 s) : KeptP m
    s0 (State.dbgRead s) := by
  refine KeptP.step hm ?_ h0; clear h0 hm
  unfold State.dbgRead
  repeat' first
    | with_reducible exact Kept.refl _ _
    | with_reducible apply State.dbgNext_k
    | exact rfl
    | split
    | with_reducible apply KeptP.mk

theorem State.dbgWrite_k {m : Nat} {s0 : State} (w : Word) (s : State) (hm : 0x2030003C000008 &&& m =
    0x2030003C000008) (h0 : Kept m s0 s) : Kept m s0 (State.dbgWrite w s) := by
  refine Kept.step hm ?_ h0; clear h0 hm
  unfold State.dbgWrite
  repeat' first
    | with_reducible exact Kept.refl _ _
    | with_reducible apply State.putAnyWord_k
    | with_reducible apply State.dbgNext_k
    | with_reducible apply State.mgReject_k
    | exact rfl
    | split

theorem State.tapWrite_k {m : Nat} {s0 : State} (i : Nat) (w : Word) (s : State) (hm : 0x6010003C000008 &&& m =
    0x6010003C000008) (h0 : Kept m s0 s) : Kept m s0 (State.tapWrite i w s) := by
  refine Kept.step hm ?_ h0; clear h0 hm
  unfold State.tapWrite
  repeat' first
    | with_reducible exact Kept.refl _ _
    | with_reducible assumption
    | with_reducible apply State.setf_k
    | with_reducible apply State.draw_k
    | with_reducible apply State.wr_k
    | with_reducible apply State.encReject_k
    | with_reducible apply State.mgReject_k
    | (extract_lets +onlyGivenNames x; first
        | (with_reducible refine Kept.cut (x := x) ?_ ?_; (on_goal 2 => (clear_value x; intro hx)); (on_goal 1 => (unfold x; clear x)))
        | clear_value x
        | (unfold x; clear x))
    | exact rfl
    | split

end Sys2Proof.Machine
end

