-- ==== Sys2Proof/Laws/FrameIrq.lean ====
section
/-! SUPPORT. Frames of Machine/Irq.lean: the fields each function may change. -/
namespace Sys2Proof.Machine
open Sys2Proof

theorem State.spendSet1_k {m : Nat} {s0 : State} (i : Nat) (s : State) (hm : 0x100004000000 &&& m =
    0x100004000000) (h0 : Kept m s0 s) : Kept m s0 (State.spendSet1 i s) := by
  refine Kept.step hm ?_ h0; clear h0 hm
  unfold State.spendSet1
  repeat' first
    | with_reducible exact Kept.refl _ _
    | with_reducible apply State.arrive_k
    | exact rfl

theorem State.spendClear1_k {m : Nat} {s0 : State} (i : Nat) (s : State) (hm : 0x100004000000 &&& m =
    0x100004000000) (h0 : Kept m s0 s) : Kept m s0 (State.spendClear1 i s) := by
  refine Kept.step hm ?_ h0; clear h0 hm
  unfold State.spendClear1
  repeat' first
    | with_reducible exact Kept.refl _ _
    | with_reducible assumption
    | with_reducible apply State.setSrc_k
    | with_reducible apply State.noteSrc_k
    | exact rfl

theorem State.spendSet_k {m : Nat} {s0 : State} (w : Nat) (v : Word) (s : State) (hm : 0x100004000000 &&& m =
    0x100004000000) (h0 : Kept m s0 s) : Kept m s0 (State.spendSet w v s) := by
  refine Kept.step hm ?_ h0; clear h0 hm
  unfold State.spendSet
  repeat' first
    | with_reducible exact Kept.refl _ _
    | with_reducible apply Kept.each
    | with_reducible apply State.spendSet1_k
    | exact rfl
    | (intro _ _)

theorem State.spendClear_k {m : Nat} {s0 : State} (w : Nat) (v : Word) (s : State) (hm : 0x100004000000 &&& m =
    0x100004000000) (h0 : Kept m s0 s) : Kept m s0 (State.spendClear w v s) := by
  refine Kept.step hm ?_ h0; clear h0 hm
  unfold State.spendClear
  repeat' first
    | with_reducible exact Kept.refl _ _
    | with_reducible apply Kept.each
    | with_reducible apply State.spendClear1_k
    | exact rfl
    | (intro _ _)

theorem State.dropHeld_k {m : Nat} {s0 : State} (q : Nat) (s : State) (hm : 0x18000000 &&& m = 0x18000000) (h0 :
    Kept m s0 s) : Kept m s0 (State.dropHeld q s) := by
  refine Kept.step hm ?_ h0; clear h0 hm
  unfold State.dropHeld
  repeat' first
    | with_reducible exact Kept.refl _ _
    | with_reducible assumption
    | with_reducible apply State.setEq_k
    | exact rfl
    | with_reducible apply Kept.set_hold

theorem State.eqCfg_k {m : Nat} {s0 : State} (q : Nat) (w : Word) (s : State) (hm : 0x2010003C000008 &&& m =
    0x2010003C000008) (h0 : Kept m s0 s) : Kept m s0 (State.eqCfg q w s) := by
  refine Kept.step hm ?_ h0; clear h0 hm
  unfold State.eqCfg
  repeat' first
    | with_reducible exact Kept.refl _ _
    | with_reducible assumption
    | with_reducible apply State.wr_k
    | with_reducible apply State.encReject_k
    | with_reducible apply State.dropHeld_k
    | with_reducible apply State.rejudgeEq_k
    | with_reducible apply State.setEq_k
    | with_reducible apply State.mgReject_k
    | (extract_lets +onlyGivenNames x; first
        | (with_reducible refine Kept.cut (x := x) ?_ ?_; (on_goal 2 => (clear_value x; intro hx)); (on_goal 1 => (unfold x; clear x)))
        | clear_value x
        | (unfold x; clear x))
    | exact rfl
    | split

theorem State.eqHead_k {m : Nat} {s0 : State} (q : Nat) (w : Word) (s : State) (hm : 0x2010003C000008 &&& m =
    0x2010003C000008) (h0 : Kept m s0 s) : Kept m s0 (State.eqHead q w s) := by
  refine Kept.step hm ?_ h0; clear h0 hm
  unfold State.eqHead
  repeat' first
    | with_reducible exact Kept.refl _ _
    | with_reducible assumption
    | with_reducible apply State.encReject_k
    | with_reducible apply State.rejudgeEq_k
    | with_reducible apply State.setEq_k
    | (extract_lets +onlyGivenNames x; first
        | (with_reducible refine Kept.cut (x := x) ?_ ?_; (on_goal 2 => (clear_value x; intro hx)); (on_goal 1 => (unfold x; clear x)))
        | clear_value x
        | (unfold x; clear x))
    | exact rfl
    | split

theorem State.moderationTimer_k {m : Nat} {s0 : State} (q : Nat) (s : State) (hm : 0x20000038000000 &&& m =
    0x20000038000000) (h0 : Kept m s0 s) : Kept m s0 (State.moderationTimer q s) := by
  refine Kept.step hm ?_ h0; clear h0 hm
  unfold State.moderationTimer
  repeat' first
    | with_reducible exact Kept.refl _ _
    | with_reducible assumption
    | with_reducible apply State.eqMessage_k
    | with_reducible apply State.l1Exit_k
    | (extract_lets +onlyGivenNames x; first
        | (with_reducible refine Kept.cut (x := x) ?_ ?_; (on_goal 2 => (clear_value x; intro hx)); (on_goal 1 => (unfold x; clear x)))
        | clear_value x
        | (unfold x; clear x))
    | exact rfl
    | split

theorem State.sleepShake_k {m : Nat} {s0 : State} (s : State) (hm : 0x20000028000008 &&& m = 0x20000028000008)
    (h0 : Kept m s0 s) : Kept m s0 (State.sleepShake s) := by
  refine Kept.step hm ?_ h0; clear h0 hm
  unfold State.sleepShake
  repeat' first
    | with_reducible exact Kept.refl _ _
    | with_reducible assumption
    | with_reducible apply State.eqMessage_k
    | with_reducible apply State.wr_k
    | with_reducible apply Kept.each
    | exact rfl
    | (intro _ _)
    | split

theorem State.sleepReq_k {m : Nat} {s0 : State} (req : Bool) (s : State) (hm : 0x20000038000008 &&& m =
    0x20000038000008) (h0 : Kept m s0 s) : Kept m s0 (State.sleepReq req s) := by
  refine Kept.step hm ?_ h0; clear h0 hm
  unfold State.sleepReq
  repeat' first
    | with_reducible exact Kept.refl _ _
    | with_reducible assumption
    | with_reducible apply State.setf_k
    | with_reducible apply State.wr_k
    | with_reducible apply State.sleepShake_k
    | with_reducible apply State.l1Exit_k
    | (extract_lets +onlyGivenNames x; first
        | (with_reducible refine Kept.cut (x := x) ?_ ?_; (on_goal 2 => (clear_value x; intro hx)); (on_goal 1 => (unfold x; clear x)))
        | clear_value x
        | (unfold x; clear x))
    | exact rfl
    | split

theorem State.wakeHold_k {m : Nat} {s0 : State} (s : State) (hm : 0x20000020000000 &&& m = 0x20000020000000) (h0
    : Kept m s0 s) : Kept m s0 (State.wakeHold s) := by
  refine Kept.step hm ?_ h0; clear h0 hm
  unfold State.wakeHold
  repeat' first
    | with_reducible exact Kept.refl _ _
    | with_reducible apply State.signalPme_k
    | exact rfl
    | split

theorem State.flushHeld_k {m : Nat} {s0 : State} (s : State) (hm : 0x2010007C000008 &&& m = 0x2010007C000008)
    (h0 : Kept m s0 s) : Kept m s0 (State.flushHeld s) := by
  refine Kept.step hm ?_ h0; clear h0 hm
  unfold State.flushHeld
  repeat' first
    | with_reducible exact Kept.refl _ _
    | with_reducible assumption
    | with_reducible apply State.writeHeld_k
    | with_reducible apply State.eqMessage_k
    | with_reducible apply State.writeBacks_k
    | with_reducible apply Kept.each
    | (extract_lets +onlyGivenNames x; first
        | (with_reducible refine Kept.cut (x := x) ?_ ?_; (on_goal 2 => (clear_value x; intro hx)); (on_goal 1 => (unfold x; clear x)))
        | clear_value x
        | (unfold x; clear x))
    | exact rfl
    | (intro _ _)
    | split

theorem State.masterBack_k {m : Nat} {s0 : State} (s : State) (hm : 0x2010007C000008 &&& m = 0x2010007C000008)
    (h0 : Kept m s0 s) : Kept m s0 (State.masterBack s) := by
  refine Kept.step hm ?_ h0; clear h0 hm
  unfold State.masterBack
  repeat' first
    | with_reducible exact Kept.refl _ _
    | with_reducible assumption
    | with_reducible apply State.setf_k
    | with_reducible apply State.flushHeld_k
    | (extract_lets +onlyGivenNames x; first
        | (with_reducible refine Kept.cut (x := x) ?_ ?_; (on_goal 2 => (clear_value x; intro hx)); (on_goal 1 => (unfold x; clear x)))
        | clear_value x
        | (unfold x; clear x))
    | exact rfl
    | split
    | with_reducible apply Kept.set_host

theorem State.d3Entry_k {m : Nat} {s0 : State} (d3 : Bool) (bme : Bool) (pmeEn : Bool) (s : State) (hm :
    0x2010007C000008 &&& m = 0x2010007C000008) (h0 : Kept m s0 s) : Kept m s0 (State.d3Entry d3 bme pmeEn s) := by
  refine Kept.step hm ?_ h0; clear h0 hm
  unfold State.d3Entry
  repeat' first
    | with_reducible exact Kept.refl _ _
    | with_reducible assumption
    | with_reducible apply State.setf_k
    | with_reducible apply State.flushHeld_k
    | (extract_lets +onlyGivenNames x; first
        | (with_reducible refine Kept.cut (x := x) ?_ ?_; (on_goal 2 => (clear_value x; intro hx)); (on_goal 1 => (unfold x; clear x)))
        | clear_value x
        | (unfold x; clear x))
    | exact rfl
    | split
    | with_reducible apply Kept.set_host

theorem State.l1Leave_k {m : Nat} {s0 : State} (s : State) (hm : 0x20000038000000 &&& m = 0x20000038000000) (h0
    : Kept m s0 s) : Kept m s0 (State.l1Leave s) := by
  refine Kept.step hm ?_ h0; clear h0 hm
  unfold State.l1Leave
  repeat' first
    | with_reducible exact Kept.refl _ _
    | with_reducible apply State.l1Exit_k
    | exact rfl
    | split

theorem State.l1Enter_k {m : Nat} {s0 : State} (s : State) (hm : 0x20000000 &&& m = 0x20000000) (h0 : Kept m s0
    s) : Kept m s0 (State.l1Enter s) := by
  refine Kept.step hm ?_ h0; clear h0 hm
  unfold State.l1Enter
  repeat' first
    | with_reducible exact Kept.refl _ _
    | with_reducible assumption
    | (extract_lets +onlyGivenNames x; first
        | (with_reducible refine Kept.cut (x := x) ?_ ?_; (on_goal 2 => (clear_value x; intro hx)); (on_goal 1 => (unfold x; clear x)))
        | clear_value x
        | (unfold x; clear x))
    | exact rfl
    | split
    | with_reducible apply Kept.set_host

theorem State.linkL0_k {m : Nat} {s0 : State} (s : State) (hm : 0x2010007C000008 &&& m = 0x2010007C000008) (h0 :
    Kept m s0 s) : Kept m s0 (State.linkL0 s) := by
  refine Kept.step hm ?_ h0; clear h0 hm
  unfold State.linkL0
  repeat' first
    | with_reducible exact Kept.refl _ _
    | with_reducible assumption
    | with_reducible apply State.setWake_k
    | with_reducible apply State.raise_k
    | with_reducible apply State.flushHeld_k
    | (extract_lets +onlyGivenNames x; first
        | (with_reducible refine Kept.cut (x := x) ?_ ?_; (on_goal 2 => (clear_value x; intro hx)); (on_goal 1 => (unfold x; clear x)))
        | clear_value x
        | (unfold x; clear x))
    | exact rfl
    | split
    | with_reducible apply Kept.set_host

theorem State.perstHigh_k {m : Nat} {s0 : State} (s : State) (hm : 0x20000000 &&& m = 0x20000000) (h0 : Kept m
    s0 s) : Kept m s0 (State.perstHigh s) := by
  refine Kept.step hm ?_ h0; clear h0 hm
  unfold State.perstHigh
  repeat' first
    | with_reducible exact Kept.refl _ _
    | with_reducible assumption
    | (extract_lets +onlyGivenNames x; first
        | (with_reducible refine Kept.cut (x := x) ?_ ?_; (on_goal 2 => (clear_value x; intro hx)); (on_goal 1 => (unfold x; clear x)))
        | clear_value x
        | (unfold x; clear x))
    | exact rfl
    | with_reducible apply Kept.set_host

theorem State.resetQueues_k {m : Nat} {s0 : State} (s : State) (hm : 0x18000008 &&& m = 0x18000008) (h0 : Kept m
    s0 s) : Kept m s0 (State.resetQueues s) := by
  refine Kept.step hm ?_ h0; clear h0 hm
  unfold State.resetQueues
  repeat' first
    | with_reducible exact Kept.refl _ _
    | with_reducible assumption
    | with_reducible apply State.setf_k
    | with_reducible apply Kept.each
    | with_reducible apply State.dropHeld_k
    | exact rfl
    | (intro _ _)

theorem State.resetHostQs_k {m : Nat} {s0 : State} (s : State) (hm : 0x4000A808 &&& m = 0x4000A808) (h0 : Kept m
    s0 s) : Kept m s0 (State.resetHostQs s) := by
  refine Kept.step hm ?_ h0; clear h0 hm
  unfold State.resetHostQs
  repeat' first
    | with_reducible exact Kept.refl _ _
    | with_reducible assumption
    | with_reducible apply State.setf_k
    | with_reducible apply State.setHostQ_k
    | with_reducible apply Kept.each
    | with_reducible apply State.dropWaits_k
    | exact rfl
    | (intro _ _)
    | split
    | with_reducible apply Kept.set_transit

theorem State.hostReset_k {m : Nat} {s0 : State} (kind : Nat) (s : State) (hm : 0x2010007C00A808 &&& m =
    0x2010007C00A808) (h0 : Kept m s0 s) : Kept m s0 (State.hostReset kind s) := by
  refine Kept.step hm ?_ h0; clear h0 hm
  unfold State.hostReset
  repeat' first
    | with_reducible exact Kept.refl _ _
    | with_reducible assumption
    | with_reducible apply State.resetHostQs_k
    | with_reducible apply State.resetQueues_k
    | with_reducible apply State.raise_k
    | (extract_lets +onlyGivenNames x; first
        | (with_reducible refine Kept.cut (x := x) ?_ ?_; (on_goal 2 => (clear_value x; intro hx)); (on_goal 1 => (unfold x; clear x)))
        | clear_value x
        | (unfold x; clear x))
    | exact rfl
    | split
    | with_reducible apply Kept.set_host

theorem State.msixWrite_k {m : Nat} {s0 : State} (v : Nat) (addr : Nat) (data : Nat) (masked : Bool) (s : State)
    (hm : 0x20000020000000 &&& m = 0x20000020000000) (h0 : Kept m s0 s) : Kept m s0 (State.msixWrite v addr data
    masked s) := by
  refine Kept.step hm ?_ h0; clear h0 hm
  unfold State.msixWrite
  repeat' first
    | with_reducible exact Kept.refl _ _
    | with_reducible assumption
    | with_reducible apply State.setMsix_k
    | with_reducible apply State.emit_k
    | (extract_lets +onlyGivenNames x; first
        | (with_reducible refine Kept.cut (x := x) ?_ ?_; (on_goal 2 => (clear_value x; intro hx)); (on_goal 1 => (unfold x; clear x)))
        | clear_value x
        | (unfold x; clear x))
    | exact rfl
    | split

theorem State.fnMaskWrite_k {m : Nat} {s0 : State} (mask : Bool) (s : State) (hm : 0x20000020000000 &&& m =
    0x20000020000000) (h0 : Kept m s0 s) : Kept m s0 (State.fnMaskWrite mask s) := by
  refine Kept.step hm ?_ h0; clear h0 hm
  unfold State.fnMaskWrite
  repeat' first
    | with_reducible exact Kept.refl _ _
    | with_reducible assumption
    | with_reducible apply State.setMsix_k
    | with_reducible apply Kept.each
    | with_reducible apply State.emit_k
    | (extract_lets +onlyGivenNames x; first
        | (with_reducible refine Kept.cut (x := x) ?_ ?_; (on_goal 2 => (clear_value x; intro hx)); (on_goal 1 => (unfold x; clear x)))
        | clear_value x
        | (unfold x; clear x))
    | exact rfl
    | (intro _ _)
    | split
    | with_reducible apply Kept.set_host

theorem State.hostWake_k {m : Nat} {s0 : State} (s : State) (hm : 0x7FFFFFFFFFFFFF &&& m = 0x7FFFFFFFFFFFFF) (h0
    : Kept m s0 s) : Kept m s0 (State.hostWake s) := by
  refine Kept.step hm ?_ h0; clear h0 hm
  unfold State.hostWake
  repeat' first
    | with_reducible exact Kept.refl _ _
    | with_reducible apply State.wake_k
    | exact rfl

theorem State.wakeRelease_k {m : Nat} {s0 : State} (s : State) (hm : 0x20000020000000 &&& m = 0x20000020000000)
    (h0 : Kept m s0 s) : Kept m s0 (State.wakeRelease s) := by
  refine Kept.step hm ?_ h0; clear h0 hm
  unfold State.wakeRelease
  repeat' first
    | with_reducible exact Kept.refl _ _
    | with_reducible apply State.setWake_k
    | exact rfl

theorem State.hostQCfg_k {m : Nat} {s0 : State} (q : Nat) (w : Word) (s : State) (hm : 0x2010007C008808 &&& m =
    0x2010007C008808) (h0 : Kept m s0 s) : Kept m s0 (State.hostQCfg q w s) := by
  refine Kept.step hm ?_ h0; clear h0 hm
  unfold State.hostQCfg
  repeat' first
    | with_reducible exact Kept.refl _ _
    | with_reducible assumption
    | with_reducible apply State.stopQueue_k
    | with_reducible apply State.setHostQ_k
    | with_reducible apply State.wr_k
    | with_reducible apply State.encReject_k
    | with_reducible apply State.mgReject_k
    | (extract_lets +onlyGivenNames x; first
        | (with_reducible refine Kept.cut (x := x) ?_ ?_; (on_goal 2 => (clear_value x; intro hx)); (on_goal 1 => (unfold x; clear x)))
        | clear_value x
        | (unfold x; clear x))
    | exact rfl
    | split

theorem State.hostQTail_k {m : Nat} {s0 : State} (q : Nat) (w : Word) (s : State) (hm : 0x2010007C000008 &&& m =
    0x2010007C000008) (h0 : Kept m s0 s) : Kept m s0 (State.hostQTail q w s) := by
  refine Kept.step hm ?_ h0; clear h0 hm
  unfold State.hostQTail
  repeat' first
    | with_reducible exact Kept.refl _ _
    | with_reducible assumption
    | with_reducible apply State.setHostQ_k
    | with_reducible apply State.encReject_k
    | (extract_lets +onlyGivenNames x; first
        | (with_reducible refine Kept.cut (x := x) ?_ ?_; (on_goal 2 => (clear_value x; intro hx)); (on_goal 1 => (unfold x; clear x)))
        | clear_value x
        | (unfold x; clear x))
    | exact rfl
    | split

theorem State.txDescriptor_k {m : Nat} {s0 : State} (q : Nat) (desc : Option (List Byte)) (image : Option (List
    Byte)) (s : State) (hm : 0x2012007E018808 &&& m = 0x2012007E018808) (h0 : Kept m s0 s) : Kept m s0
    (State.txDescriptor q desc image s) := by
  refine Kept.step hm ?_ h0; clear h0 hm
  unfold State.txDescriptor
  repeat' first
    | with_reducible exact Kept.refl _ _
    | with_reducible assumption
    | with_reducible apply State.queueFault_k
    | with_reducible apply State.setHostQ_k
    | with_reducible apply State.hostFrame_k
    | (extract_lets +onlyGivenNames x; first
        | (with_reducible refine Kept.cut (x := x) ?_ ?_; (on_goal 2 => (clear_value x; intro hx)); (on_goal 1 => (unfold x; clear x)))
        | clear_value x
        | (unfold x; clear x))
    | exact rfl
    | split

theorem State.dropReserved_k {m : Nat} {s0 : State} (q : Nat) (i : Nat) (s : State) (hm : 0x2010103C003988 &&& m
    = 0x2010103C003988) (h0 : Kept m s0 s) : Kept m s0 (State.dropReserved q i s) := by
  refine Kept.step hm ?_ h0; clear h0 hm
  unfold State.dropReserved
  repeat' first
    | with_reducible exact Kept.refl _ _
    | with_reducible assumption
    | with_reducible apply State.endTransit_k
    | with_reducible apply State.hostDiscard_k
    | with_reducible apply Kept.each
    | with_reducible apply State.dropRef_k
    | exact rfl
    | (intro _ _)
    | with_reducible apply Kept.set_transit

theorem State.rxSlotFetch_k {m : Nat} {s0 : State} (q : Nat) (i : Nat) (desc : Option (List Byte)) (s : State)
    (hm : 0x2010107C00B988 &&& m = 0x2010107C00B988) (h0 : Kept m s0 s) : Kept m s0 (State.rxSlotFetch q i desc s)
    := by
  refine Kept.step hm ?_ h0; clear h0 hm
  unfold State.rxSlotFetch
  repeat' first
    | with_reducible exact Kept.refl _ _
    | with_reducible assumption
    | with_reducible apply State.queueFault_k
    | with_reducible apply State.setSlot_k
    | with_reducible apply State.dropReserved_k
    | with_reducible apply State.slotDue_k
    | (extract_lets +onlyGivenNames x; first
        | (with_reducible refine Kept.cut (x := x) ?_ ?_; (on_goal 2 => (clear_value x; intro hx)); (on_goal 1 => (unfold x; clear x)))
        | clear_value x
        | (unfold x; clear x))
    | exact rfl
    | split

theorem State.queueStopped_k {m : Nat} {s0 : State} (q : Nat) (s : State) (hm : 0x40000000 &&& m = 0x40000000)
    (h0 : Kept m s0 s) : Kept m s0 (State.queueStopped q s) := by
  refine Kept.step hm ?_ h0; clear h0 hm
  unfold State.queueStopped
  repeat' first
    | with_reducible exact Kept.refl _ _
    | with_reducible assumption
    | with_reducible apply State.setHostQ_k
    | (extract_lets +onlyGivenNames x; first
        | (with_reducible refine Kept.cut (x := x) ?_ ?_; (on_goal 2 => (clear_value x; intro hx)); (on_goal 1 => (unfold x; clear x)))
        | clear_value x
        | (unfold x; clear x))
    | exact rfl
    | split

end Sys2Proof.Machine
end

