-- ==== Sys2Proof/Laws/FrameViews.lean ====
section
/-! SUPPORT. Frames of Machine/Views.lean: the fields each function may change. -/
namespace Sys2Proof.Machine
open Sys2Proof



end Sys2Proof.Machine
end

