-- ==== Sys2Proof/Laws/FrameRegUnit.lean ====
section
/-! SUPPORT. Frames of Machine/RegUnit.lean: the fields each function may change. -/
namespace Sys2Proof.Machine
open Sys2Proof

theorem State.storeFields_k {m : Nat} {s0 : State} (off : Nat) (fs : List FieldSpec) (w : Word) (s : State) (hm
    : 0x2010003C000008 &&& m = 0x2010003C000008) (h0 : Kept m s0 s) : Kept m s0 (State.storeFields off fs w s) := by
  refine Kept.step hm ?_ h0; clear h0 hm
  unfold State.storeFields
  repeat' first
    | with_reducible exact Kept.refl _ _
    | with_reducible assumption
    | with_reducible apply State.wr_k
    | with_reducible apply State.encReject_k
    | (extract_lets +onlyGivenNames x; first
        | (with_reducible refine Kept.cut (x := x) ?_ ?_; (on_goal 2 => (clear_value x; intro hx)); (on_goal 1 => (unfold x; clear x)))
        | clear_value x
        | (unfold x; clear x))
    | (with_reducible refine KeptP.get (by assumption) ?_)
    | (with_reducible refine KeptT.get (by assumption) ?_)
    | exact rfl
    | split

theorem State.storeWhole_k {m : Nat} {s0 : State} (off : Nat) (fs : List FieldSpec) (ok : Word → Bool) (w :
    Word) (s : State) (hm : 0x2010003C000008 &&& m = 0x2010003C000008) (h0 : Kept m s0 s) : Kept m s0
    (State.storeWhole off fs ok w s) := by
  refine Kept.step hm ?_ h0; clear h0 hm
  unfold State.storeWhole
  repeat' first
    | with_reducible exact Kept.refl _ _
    | with_reducible assumption
    | with_reducible apply State.storeFields_k
    | with_reducible apply State.encReject_k
    | (extract_lets +onlyGivenNames x; first
        | (with_reducible refine Kept.cut (x := x) ?_ ?_; (on_goal 2 => (clear_value x; intro hx)); (on_goal 1 => (unfold x; clear x)))
        | clear_value x
        | (unfold x; clear x))
    | exact rfl
    | split

theorem State.gate_k {m : Nat} {s0 : State} (allowed : Mode → Bool) (off : Nat) (f : State → State) (s : State)
    (h_f : ∀ v0, Kept m s0 v0 → Kept m s0 (f v0)) (hm : 0x2010003C000008 &&& m = 0x2010003C000008) (h0 : Kept m s0
    s) : Kept m s0 (State.gate allowed off f s) := by
  unfold State.gate
  repeat' first
    | with_reducible exact Kept.refl _ _
    | with_reducible assumption
    | with_reducible apply State.mgReject_k
    | with_reducible apply h_f
    | exact sub_trans rfl hm
    | split

theorem State.setStaged_k {m : Nat} {s0 : State} (link : Nat) (off : Nat) (v : Option Word) (s : State) (hm :
    0x10 &&& m = 0x10) (h0 : Kept m s0 s) : Kept m s0 (State.setStaged link off v s) := by
  refine Kept.step hm ?_ h0; clear h0 hm
  unfold State.setStaged
  repeat' first
    | with_reducible exact Kept.refl _ _
    | with_reducible assumption
    | exact rfl
    | with_reducible apply Kept.set_stage
    | exact fun hw => Tbl.wf_set _ _ _ _ hw

theorem State.wideWrite_k {m : Nat} {s0 : State} (link : Nat) (base : Nat) (n : Nat) (k : Nat) (v : Nat → Word)
    (w : Word) (commit : Nat → State → Option State) (refuse : State → State) (s : State) (h_commit : ∀ v0 v1, Kept
    m s0 v1 → KeptO m s0 (commit v0 v1)) (h_refuse : ∀ v0, Kept m s0 v0 → Kept m s0 (refuse v0)) (hm : 0x10 &&& m =
    0x10) (h0 : Kept m s0 s) : Kept m s0 (State.wideWrite link base n k v w commit refuse s) := by
  unfold State.wideWrite
  repeat' first
    | with_reducible exact Kept.refl _ _
    | with_reducible assumption
    | with_reducible apply State.setStaged_k
    | with_reducible apply Kept.each
    | with_reducible apply h_commit
    | with_reducible apply h_refuse
    | (extract_lets +onlyGivenNames x; first
        | (with_reducible refine Kept.cut (x := x) ?_ ?_; (on_goal 2 => (clear_value x; intro hx)); (on_goal 1 => (unfold x; clear x)))
        | clear_value x
        | (unfold x; clear x))
    | (with_reducible refine KeptO.get (by assumption) ?_)
    | exact sub_trans rfl hm
    | (intro _ _)
    | split

theorem State.wrWide_k {m : Nat} {s0 : State} (base : Nat) (n : Nat) (v : Nat) (s : State) (hm : 0x8 &&& m =
    0x8) (h0 : Kept m s0 s) : Kept m s0 (State.wrWide base n v s) := by
  refine Kept.step hm ?_ h0; clear h0 hm
  unfold State.wrWide
  repeat' first
    | with_reducible exact Kept.refl _ _
    | with_reducible apply State.wr_k
    | with_reducible apply Kept.each
    | exact rfl
    | (intro _ _)

theorem State.wideStore_k {m : Nat} {s0 : State} (link : Nat) (base : Nat) (n : Nat) (k : Nat) (mask : Nat) (w :
    Word) (allowed : Mode → Bool) (ok : State → Nat → Bool) (act : Nat → State → State) (s : State) (h_act : ∀ v0
    v1, Kept m s0 v1 → Kept m s0 (act v0 v1)) (hm : 0x2010003C000018 &&& m = 0x2010003C000018) (h0 : Kept m s0 s) :
    Kept m s0 (State.wideStore link base n k mask w allowed ok act s) := by
  unfold State.wideStore
  repeat' first
    | with_reducible exact Kept.refl _ _
    | with_reducible assumption
    | with_reducible apply State.wideWrite_k
    | with_reducible apply State.wrWide_k
    | with_reducible apply State.encReject_k
    | with_reducible apply State.mgReject_k
    | with_reducible apply h_act
    | with_reducible exact KeptO.none
    | with_reducible apply KeptO.some
    | exact sub_trans rfl hm
    | (intro _ _ _)
    | (intro _ _)
    | split

theorem State.busWritten_k {m : Nat} {s0 : State} (n : Nat) (r : BusReg) (old : Word) (s : State) (hm :
    0x400000000 &&& m = 0x400000000) (h0 : Kept m s0 s) : Kept m s0 (State.busWritten n r old s) := by
  refine Kept.step hm ?_ h0; clear h0 hm
  unfold State.busWritten
  repeat' first
    | with_reducible exact Kept.refl _ _
    | with_reducible assumption
    | with_reducible apply State.upLane_k
    | with_reducible apply State.noteWrite_k
    | (extract_lets +onlyGivenNames x; first
        | (with_reducible refine Kept.cut (x := x) ?_ ?_; (on_goal 2 => (clear_value x; intro hx)); (on_goal 1 => (unfold x; clear x)))
        | clear_value x
        | (unfold x; clear x))
    | exact rfl
    | split

theorem State.busWrite_k {m : Nat} {s0 : State} (n : Nat) (r : BusReg) (w : Word) (s : State) (hm :
    0x2010043C000008 &&& m = 0x2010043C000008) (h0 : Kept m s0 s) : Kept m s0 (State.busWrite n r w s) := by
  refine Kept.step hm ?_ h0; clear h0 hm
  unfold State.busWrite
  repeat' first
    | with_reducible exact Kept.refl _ _
    | with_reducible assumption
    | with_reducible apply State.hostRecover_k
    | with_reducible apply State.gate_k
    | with_reducible apply State.storeWhole_k
    | with_reducible apply State.busWritten_k
    | (extract_lets +onlyGivenNames x; first
        | (with_reducible refine Kept.cut (x := x) ?_ ?_; (on_goal 2 => (clear_value x; intro hx)); (on_goal 1 => (unfold x; clear x)))
        | clear_value x
        | (unfold x; clear x))
    | exact rfl
    | (intro _ _)
    | split

theorem State.macWritten_k {m : Nat} {s0 : State} (p : Nat) (r : MacReg) (w : Word) (s : State) (hm :
    0x1000000000 &&& m = 0x1000000000) (h0 : Kept m s0 s) : Kept m s0 (State.macWritten p r w s) := by
  refine Kept.step hm ?_ h0; clear h0 hm
  unfold State.macWritten
  repeat' first
    | with_reducible exact Kept.refl _ _
    | with_reducible assumption
    | with_reducible apply State.upPort_k
    | with_reducible apply State.refreshGates_k
    | with_reducible apply State.pauseWatch_k
    | with_reducible apply State.gateCommit_k
    | (extract_lets +onlyGivenNames x; first
        | (with_reducible refine Kept.cut (x := x) ?_ ?_; (on_goal 2 => (clear_value x; intro hx)); (on_goal 1 => (unfold x; clear x)))
        | clear_value x
        | (unfold x; clear x))
    | exact rfl
    | split

theorem State.macWrite_k {m : Nat} {s0 : State} (link : Nat) (p : Nat) (r : MacReg) (w : Word) (s : State) (hm :
    0x2010103C000018 &&& m = 0x2010103C000018) (h0 : Kept m s0 s) : Kept m s0 (State.macWrite link p r w s) := by
  refine Kept.step hm ?_ h0; clear h0 hm
  unfold State.macWrite
  repeat' first
    | with_reducible exact Kept.refl _ _
    | with_reducible assumption
    | with_reducible apply State.macWritten_k
    | with_reducible apply State.advanceCredit_k
    | with_reducible apply State.fillMeter_k
    | with_reducible apply State.wideStore_k
    | with_reducible apply State.gate_k
    | with_reducible apply State.storeWhole_k
    | (extract_lets +onlyGivenNames x; first
        | (with_reducible refine Kept.cut (x := x) ?_ ?_; (on_goal 2 => (clear_value x; intro hx)); (on_goal 1 => (unfold x; clear x)))
        | clear_value x
        | (unfold x; clear x))
    | exact rfl
    | (intro _ _ _)
    | (intro _ _)
    | split

theorem State.chkWrite_k {m : Nat} {s0 : State} (link : Nat) (u : Nat) (k : Nat) (w : Word) (s : State) (hm :
    0x2010003C000018 &&& m = 0x2010003C000018) (h0 : Kept m s0 s) : Kept m s0 (State.chkWrite link u k w s) := by
  refine Kept.step hm ?_ h0; clear h0 hm
  unfold State.chkWrite
  repeat' first
    | with_reducible exact Kept.refl _ _
    | with_reducible assumption
    | with_reducible apply State.storeFields_k
    | with_reducible apply State.wideStore_k
    | with_reducible apply State.gate_k
    | with_reducible apply State.encReject_k
    | (extract_lets +onlyGivenNames x; first
        | (with_reducible refine Kept.cut (x := x) ?_ ?_; (on_goal 2 => (clear_value x; intro hx)); (on_goal 1 => (unfold x; clear x)))
        | clear_value x
        | (unfold x; clear x))
    | exact rfl
    | (intro _ _ _)
    | (intro _ _)
    | split

end Sys2Proof.Machine
end

