-- ==== Sys2Proof/Laws/FrameRegWrite.lean ====
section
/-! SUPPORT. Frames of Machine/RegWrite.lean: the fields each function may change. -/
namespace Sys2Proof.Machine
open Sys2Proof

theorem State.rejectAlias_k {m : Nat} {s0 : State} (a : Nat) (w : Word) (s : State) (hm : 0x8 &&& m = 0x8) (h0 :
    Kept m s0 s) : Kept m s0 (State.rejectAlias a w s) := by
  refine Kept.step hm ?_ h0; clear h0 hm
  unfold State.rejectAlias
  repeat' first
    | with_reducible exact Kept.refl _ _
    | with_reducible apply State.wr_k
    | exact rfl
    | split

theorem State.cmdqCfg_k {m : Nat} {s0 : State} (w : Word) (s : State) (hm : 0x2010003C000008 &&& m =
    0x2010003C000008) (h0 : Kept m s0 s) : Kept m s0 (State.cmdqCfg w s) := by
  refine Kept.step hm ?_ h0; clear h0 hm
  unfold State.cmdqCfg
  repeat' first
    | with_reducible exact Kept.refl _ _
    | with_reducible assumption
    | with_reducible apply State.wr_k
    | with_reducible apply State.storeFields_k
    | with_reducible apply State.mgReject_k
    | (extract_lets +onlyGivenNames x; first
        | (with_reducible refine Kept.cut (x := x) ?_ ?_; (on_goal 2 => (clear_value x; intro hx)); (on_goal 1 => (unfold x; clear x)))
        | clear_value x
        | (unfold x; clear x))
    | exact rfl
    | split

theorem State.cmdqTail_k {m : Nat} {s0 : State} (w : Word) (s : State) (hm : 0x2010003C000008 &&& m =
    0x2010003C000008) (h0 : Kept m s0 s) : Kept m s0 (State.cmdqTail w s) := by
  refine Kept.step hm ?_ h0; clear h0 hm
  unfold State.cmdqTail
  repeat' first
    | with_reducible exact Kept.refl _ _
    | with_reducible apply State.wr_k
    | with_reducible apply State.encReject_k
    | exact rfl
    | split

theorem State.guardedBase_k {m : Nat} {s0 : State} (link : Nat) (base : Nat) (k : Nat) (mask : Nat) (w : Word)
    (guard : State → Bool) (s : State) (hm : 0x2010003C000018 &&& m = 0x2010003C000018) (h0 : Kept m s0 s) : Kept m
    s0 (State.guardedBase link base k mask w guard s) := by
  refine Kept.step hm ?_ h0; clear h0 hm
  unfold State.guardedBase
  repeat' first
    | with_reducible exact Kept.refl _ _
    | with_reducible assumption
    | with_reducible apply State.wideWrite_k
    | with_reducible apply State.wrWide_k
    | with_reducible apply State.mgReject_k
    | (extract_lets +onlyGivenNames x; first
        | (with_reducible refine Kept.cut (x := x) ?_ ?_; (on_goal 2 => (clear_value x; intro hx)); (on_goal 1 => (unfold x; clear x)))
        | clear_value x
        | (unfold x; clear x))
    | with_reducible exact KeptO.none
    | with_reducible apply KeptO.some
    | exact rfl
    | (intro _ _ _)
    | (intro _ _)
    | split

theorem State.evtAlias_k {m : Nat} {s0 : State} (b : Blk) (a : Nat) (w : Word) (s : State) (hm : 0x100000000008
    &&& m = 0x100000000008) (h0 : Kept m s0 s) : Kept m s0 (State.evtAlias b a w s) := by
  refine Kept.step hm ?_ h0; clear h0 hm
  unfold State.evtAlias
  repeat' first
    | with_reducible exact Kept.refl _ _
    | with_reducible assumption
    | with_reducible apply State.wr_k
    | with_reducible apply State.noteSrc_k
    | (extract_lets +onlyGivenNames x; first
        | (with_reducible refine Kept.cut (x := x) ?_ ?_; (on_goal 2 => (clear_value x; intro hx)); (on_goal 1 => (unfold x; clear x)))
        | clear_value x
        | (unfold x; clear x))
    | exact rfl
    | split

theorem State.bcnCfgWrite_k {m : Nat} {s0 : State} (w : Word) (s : State) (hm : 0x2010013C000008 &&& m =
    0x2010013C000008) (h0 : Kept m s0 s) : Kept m s0 (State.bcnCfgWrite w s) := by
  refine Kept.step hm ?_ h0; clear h0 hm
  unfold State.bcnCfgWrite
  repeat' first
    | with_reducible exact Kept.refl _ _
    | with_reducible assumption
    | with_reducible apply State.bcnCfg_k
    | with_reducible apply State.encReject_k
    | (extract_lets +onlyGivenNames x; first
        | (with_reducible refine Kept.cut (x := x) ?_ ?_; (on_goal 2 => (clear_value x; intro hx)); (on_goal 1 => (unfold x; clear x)))
        | clear_value x
        | (unfold x; clear x))
    | (with_reducible refine KeptP.get (by assumption) ?_)
    | (with_reducible refine KeptT.get (by assumption) ?_)
    | exact rfl
    | split

theorem State.bcnPortWrite_k {m : Nat} {s0 : State} (p : Nat) (k : Nat) (w : Word) (s : State) (hm :
    0x2010003C000008 &&& m = 0x2010003C000008) (h0 : Kept m s0 s) : Kept m s0 (State.bcnPortWrite p k w s) := by
  refine Kept.step hm ?_ h0; clear h0 hm
  unfold State.bcnPortWrite
  repeat' first
    | with_reducible exact Kept.refl _ _
    | with_reducible assumption
    | with_reducible apply State.storeFields_k
    | (extract_lets +onlyGivenNames x; first
        | (with_reducible refine Kept.cut (x := x) ?_ ?_; (on_goal 2 => (clear_value x; intro hx)); (on_goal 1 => (unfold x; clear x)))
        | clear_value x
        | (unfold x; clear x))
    | exact rfl
    | split

theorem State.bcnSave_k {m : Nat} {s0 : State} (s : State) (hm : 0x2000100000000 &&& m = 0x2000100000000) (h0 :
    Kept m s0 s) : Kept m s0 (State.bcnSave s) := by
  refine Kept.step hm ?_ h0; clear h0 hm
  unfold State.bcnSave
  repeat' first
    | with_reducible exact Kept.refl _ _
    | with_reducible assumption
    | with_reducible apply State.upBcn_k
    | with_reducible apply State.queueOp_k
    | (extract_lets +onlyGivenNames x; first
        | (with_reducible refine Kept.cut (x := x) ?_ ?_; (on_goal 2 => (clear_value x; intro hx)); (on_goal 1 => (unfold x; clear x)))
        | clear_value x
        | (unfold x; clear x))
    | exact rfl
    | split

theorem State.bcnRateCommit_k {m : Nat} {s0 : State} (v : Nat) (s : State) (hm : 0x100000000 &&& m =
    0x100000000) (h0 : Kept m s0 s) : KeptO m s0 (State.bcnRateCommit v s) := by
  refine KeptO.step hm ?_ h0; clear h0 hm
  unfold State.bcnRateCommit
  repeat' first
    | with_reducible exact Kept.refl _ _
    | with_reducible assumption
    | with_reducible apply State.bcnRate_k
    | (extract_lets +onlyGivenNames x; first
        | (with_reducible refine Kept.cut (x := x) ?_ ?_; (on_goal 2 => (clear_value x; intro hx)); (on_goal 1 => (unfold x; clear x)))
        | (with_reducible refine KeptO.cut (x := x) ?_ ?_; (on_goal 2 => (clear_value x; intro hx)); (on_goal 1 => (unfold x; clear x)))
        | clear_value x
        | (unfold x; clear x))
    | with_reducible exact KeptO.none
    | with_reducible apply KeptO.some
    | exact rfl
    | split

theorem State.bcnAdjCommit_k {m : Nat} {s0 : State} (v : Nat) (s : State) (hm : 0x2011013C000008 &&& m =
    0x2011013C000008) (h0 : Kept m s0 s) : KeptO m s0 (State.bcnAdjCommit v s) := by
  refine KeptO.step hm ?_ h0; clear h0 hm
  unfold State.bcnAdjCommit
  repeat' first
    | with_reducible exact Kept.refl _ _
    | with_reducible assumption
    | with_reducible apply State.bcnAdj_k
    | (extract_lets +onlyGivenNames x; first
        | (with_reducible refine Kept.cut (x := x) ?_ ?_; (on_goal 2 => (clear_value x; intro hx)); (on_goal 1 => (unfold x; clear x)))
        | (with_reducible refine KeptO.cut (x := x) ?_ ?_; (on_goal 2 => (clear_value x; intro hx)); (on_goal 1 => (unfold x; clear x)))
        | clear_value x
        | (unfold x; clear x))
    | with_reducible exact KeptO.none
    | with_reducible apply KeptO.some
    | exact rfl
    | split

theorem State.refuseSetup_k {m : Nat} {s0 : State} (off : Nat) (s : State) (hm : 0x2010003C000008 &&& m =
    0x2010003C000008) (h0 : Kept m s0 s) : Kept m s0 (State.refuseSetup off s) := by
  refine Kept.step hm ?_ h0; clear h0 hm
  unfold State.refuseSetup
  repeat' first
    | with_reducible exact Kept.refl _ _
    | with_reducible apply State.encReject_k
    | with_reducible apply State.mgReject_k
    | exact rfl
    | split

theorem State.sparWrite_k {m : Nat} {s0 : State} (q : Nat) (k : Nat) (w : Word) (s : State) (hm :
    0x2010003C000008 &&& m = 0x2010003C000008) (h0 : Kept m s0 s) : Kept m s0 (State.sparWrite q k w s) := by
  refine Kept.step hm ?_ h0; clear h0 hm
  unfold State.sparWrite
  repeat' first
    | with_reducible exact Kept.refl _ _
    | with_reducible assumption
    | with_reducible apply State.storeFields_k
    | with_reducible apply State.gate_k
    | with_reducible apply State.mgReject_k
    | exact rfl
    | (intro _ _)
    | split

theorem State.retestWrite_k {m : Nat} {s0 : State} (w : Word) (s : State) (hm : 0x3010003C000008 &&& m =
    0x3010003C000008) (h0 : Kept m s0 s) : Kept m s0 (State.retestWrite w s) := by
  refine Kept.step hm ?_ h0; clear h0 hm
  unfold State.retestWrite
  repeat' first
    | with_reducible exact Kept.refl _ _
    | with_reducible assumption
    | with_reducible apply State.setf_k
    | with_reducible apply State.gate_k
    | with_reducible apply State.encReject_k
    | (extract_lets +onlyGivenNames x; first
        | (with_reducible refine Kept.cut (x := x) ?_ ?_; (on_goal 2 => (clear_value x; intro hx)); (on_goal 1 => (unfold x; clear x)))
        | clear_value x
        | (unfold x; clear x))
    | exact rfl
    | (intro _ _)
    | split
    | with_reducible apply Kept.set_health

theorem State.calWrite_k {m : Nat} {s0 : State} (i : Nat) (w : Word) (s : State) (hm : 0x2010003C000008 &&& m =
    0x2010003C000008) (h0 : Kept m s0 s) : Kept m s0 (State.calWrite i w s) := by
  refine Kept.step hm ?_ h0; clear h0 hm
  unfold State.calWrite
  repeat' first
    | with_reducible exact Kept.refl _ _
    | with_reducible assumption
    | with_reducible apply State.wr_k
    | with_reducible apply State.encReject_k
    | with_reducible apply State.mgReject_k
    | (extract_lets +onlyGivenNames x; first
        | (with_reducible refine Kept.cut (x := x) ?_ ?_; (on_goal 2 => (clear_value x; intro hx)); (on_goal 1 => (unfold x; clear x)))
        | clear_value x
        | (unfold x; clear x))
    | exact rfl
    | split

theorem State.updCtrlWrite_k {m : Nat} {s0 : State} (fetched : Option (List Byte)) (w : Word) (s : State) (hm :
    0x6210003C000008 &&& m = 0x6210003C000008) (h0 : Kept m s0 s) : Kept m s0 (State.updCtrlWrite fetched w s) := by
  refine Kept.step hm ?_ h0; clear h0 hm
  unfold State.updCtrlWrite
  repeat' first
    | with_reducible exact Kept.refl _ _
    | with_reducible assumption
    | with_reducible apply State.updateGo_k
    | with_reducible apply State.wr_k
    | with_reducible apply State.gate_k
    | with_reducible apply State.encReject_k
    | (extract_lets +onlyGivenNames x; first
        | (with_reducible refine Kept.cut (x := x) ?_ ?_; (on_goal 2 => (clear_value x; intro hx)); (on_goal 1 => (unfold x; clear x)))
        | clear_value x
        | (unfold x; clear x))
    | (with_reducible refine KeptP.get (by assumption) ?_)
    | (with_reducible refine KeptT.get (by assumption) ?_)
    | exact rfl
    | (intro _ _)
    | split

theorem State.inbufWrite_k {m : Nat} {s0 : State} (k : Nat) (w : Word) (be : Nat) (s : State) (hm : 0x8 &&& m =
    0x8) (h0 : Kept m s0 s) : Kept m s0 (State.inbufWrite k w be s) := by
  refine Kept.step hm ?_ h0; clear h0 hm
  unfold State.inbufWrite
  repeat' first
    | with_reducible exact Kept.refl _ _
    | with_reducible apply State.wr_k
    | exact rfl

theorem State.dbgRegWrite_k {m : Nat} {s0 : State} (k : Nat) (e : Meets) (w : Word) (s : State) (hm :
    0x7A7F177F81FFCC &&& m = 0x7A7F177F81FFCC) (h0 : Kept m s0 s) : Kept m s0 (State.dbgRegWrite k e w s) := by
  refine Kept.step hm ?_ h0; clear h0 hm
  unfold State.dbgRegWrite
  repeat' first
    | with_reducible exact Kept.refl _ _
    | with_reducible apply State.dbgWrite_k
    | with_reducible apply State.dbgCtrl_k
    | with_reducible apply State.dbgAddr_k
    | with_reducible apply State.dbgSelect_k
    | exact rfl
    | split

theorem State.nodeWrite_k {m : Nat} {s0 : State} (link : Nat) (i : Nat) (k : Nat) (w : Word) (s : State) (hm :
    0x20100C3C000018 &&& m = 0x20100C3C000018) (h0 : Kept m s0 s) : Kept m s0 (State.nodeWrite link i k w s) := by
  refine Kept.step hm ?_ h0; clear h0 hm
  unfold State.nodeWrite
  repeat' first
    | with_reducible exact Kept.refl _ _
    | with_reducible assumption
    | with_reducible apply State.wideWrite_k
    | with_reducible apply State.refuseSetup_k
    | with_reducible apply State.nodeCommit_k
    | with_reducible exact KeptO.none
    | with_reducible apply KeptO.some
    | (with_reducible refine KeptO.get (by assumption) ?_)
    | exact rfl
    | (intro _ _ _)
    | (intro _ _)
    | split

theorem State.fltWrite_k {m : Nat} {s0 : State} (c : Nat) (r : FltReg) (w : Word) (s : State) (hm :
    0x2010003C100008 &&& m = 0x2010003C100008) (h0 : Kept m s0 s) : Kept m s0 (State.fltWrite c r w s) := by
  refine Kept.step hm ?_ h0; clear h0 hm
  unfold State.fltWrite
  repeat' first
    | with_reducible exact Kept.refl _ _
    | with_reducible assumption
    | with_reducible apply State.wr_k
    | with_reducible apply State.gate_k
    | with_reducible apply State.fltOp_k
    | exact rfl
    | (intro _ _)
    | split

theorem State.engCtrlWrite_k {m : Nat} {s0 : State} (g : Nat) (w : Word) (s : State) (hm : 0x2031003C008808 &&&
    m = 0x2031003C008808) (h0 : Kept m s0 s) : Kept m s0 (State.engCtrlWrite g w s) := by
  refine Kept.step hm ?_ h0; clear h0 hm
  unfold State.engCtrlWrite
  repeat' first
    | with_reducible exact Kept.refl _ _
    | with_reducible assumption
    | with_reducible apply State.restartEngine_k
    | with_reducible apply State.gate_k
    | (extract_lets +onlyGivenNames x; first
        | (with_reducible refine Kept.cut (x := x) ?_ ?_; (on_goal 2 => (clear_value x; intro hx)); (on_goal 1 => (unfold x; clear x)))
        | clear_value x
        | (unfold x; clear x))
    | exact rfl
    | (intro _ _)
    | split

theorem State.chkQWrite_k {m : Nat} {s0 : State} (c : Nat) (k : Nat) (w : Word) (s : State) (hm :
    0x2014003C000008 &&& m = 0x2014003C000008) (h0 : Kept m s0 s) : Kept m s0 (State.chkQWrite c k w s) := by
  refine Kept.step hm ?_ h0; clear h0 hm
  unfold State.chkQWrite
  repeat' first
    | with_reducible exact Kept.refl _ _
    | with_reducible apply State.storeFields_k
    | with_reducible apply State.quarantinePop_k
    | exact rfl
    | split

theorem State.mbopWrite_k {m : Nat} {s0 : State} (cells : RecEcc) (w : Word) (s : State) (hm : 0x2010143C001FC8
    &&& m = 0x2010143C001FC8) (h0 : Kept m s0 s) : Kept m s0 (State.mbopWrite cells w s) := by
  refine Kept.step hm ?_ h0; clear h0 hm
  unfold State.mbopWrite
  repeat' first
    | with_reducible exact Kept.refl _ _
    | with_reducible assumption
    | with_reducible apply State.mbop_k
    | with_reducible apply State.gate_k
    | exact rfl
    | (intro _ _)

theorem State.eqRegWrite_k {m : Nat} {s0 : State} (link : Nat) (q : Nat) (k : Nat) (w : Word) (s : State) (hm :
    0x2010003C000018 &&& m = 0x2010003C000018) (h0 : Kept m s0 s) : Kept m s0 (State.eqRegWrite link q k w s) := by
  refine Kept.step hm ?_ h0; clear h0 hm
  unfold State.eqRegWrite
  repeat' first
    | with_reducible exact Kept.refl _ _
    | with_reducible apply State.guardedBase_k
    | with_reducible apply State.eqCfg_k
    | with_reducible apply State.eqHead_k
    | exact rfl
    | split

theorem State.hostQRegWrite_k {m : Nat} {s0 : State} (link : Nat) (q : Nat) (k : Nat) (w : Word) (s : State) (hm
    : 0x2010007C008818 &&& m = 0x2010007C008818) (h0 : Kept m s0 s) : Kept m s0 (State.hostQRegWrite link q k w s)
    := by
  refine Kept.step hm ?_ h0; clear h0 hm
  unfold State.hostQRegWrite
  repeat' first
    | with_reducible exact Kept.refl _ _
    | with_reducible apply State.hostQCfg_k
    | with_reducible apply State.guardedBase_k
    | with_reducible apply State.hostQTail_k
    | exact rfl
    | split

theorem State.regWrite_k {m : Nat} {s0 : State} (env : WriteEnv) (r : Reg) (w : Word) (s : State) (hm :
    0x7A7F1F7F91FFDC &&& m = 0x7A7F1F7F91FFDC) (h0 : Kept m s0 s) : Kept m s0 (State.regWrite env r w s) := by
  refine Kept.step hm ?_ h0; clear h0 hm
  unfold State.regWrite
  repeat' first
    | with_reducible exact Kept.refl _ _
    | with_reducible assumption
    | with_reducible apply State.sleepReq_k
    | with_reducible apply State.wideWrite_k
    | with_reducible apply State.mbopWrite_k
    | with_reducible apply State.bcnPortWrite_k
    | with_reducible apply State.ctxOp_k
    | with_reducible apply State.inbufWrite_k
    | with_reducible apply State.bcnRateCommit_k
    | with_reducible apply State.bcnCfgWrite_k
    | with_reducible apply State.spendSet_k
    | with_reducible apply State.nodeWrite_k
    | with_reducible apply State.rejectAlias_k
    | with_reducible apply State.tapWrite_k
    | with_reducible apply State.guardedBase_k
    | with_reducible apply State.cmdqCfg_k
    | with_reducible apply State.busWrite_k
    | with_reducible apply State.eqRegWrite_k
    | with_reducible apply State.refuseSetup_k
    | with_reducible apply State.sparWrite_k
    | with_reducible apply State.cmdqTail_k
    | with_reducible apply State.engCtrlWrite_k
    | with_reducible apply State.storeFields_k
    | with_reducible apply State.chkWrite_k
    | with_reducible apply State.bcnAdjCommit_k
    | with_reducible apply State.wideStore_k
    | with_reducible apply State.srcWrite_k
    | with_reducible apply State.retestWrite_k
    | with_reducible apply State.gate_k
    | with_reducible apply State.fltWrite_k
    | with_reducible apply State.evtAlias_k
    | with_reducible apply State.hostQRegWrite_k
    | with_reducible apply State.bcnSave_k
    | with_reducible apply State.spendClear_k
    | with_reducible apply State.evtEnable_k
    | with_reducible apply State.calWrite_k
    | with_reducible apply State.dbgRegWrite_k
    | with_reducible apply State.updCtrlWrite_k
    | with_reducible apply State.macWrite_k
    | with_reducible apply State.chkQWrite_k
    | (extract_lets +onlyGivenNames x; first
        | (with_reducible refine Kept.cut (x := x) ?_ ?_; (on_goal 2 => (clear_value x; intro hx)); (on_goal 1 => (unfold x; clear x)))
        | clear_value x
        | (unfold x; clear x))
    | with_reducible exact KeptO.none
    | with_reducible apply KeptO.some
    | (with_reducible refine KeptO.get (by assumption) ?_)
    | exact rfl
    | (intro _ _ _)
    | (intro _ _)
    | split

theorem State.writeWord_k {m : Nat} {s0 : State} (env : WriteEnv) (off : Nat) (be : Nat) (w : Word) (s : State)
    (hm : 0x7A7F1F7F91FFDC &&& m = 0x7A7F1F7F91FFDC) (h0 : Kept m s0 s) : Kept m s0 (State.writeWord env off be w s)
    := by
  refine Kept.step hm ?_ h0; clear h0 hm
  unfold State.writeWord
  repeat' first
    | with_reducible exact Kept.refl _ _
    | with_reducible apply State.inbufWrite_k
    | with_reducible apply State.regWrite_k
    | with_reducible apply State.encReject_k
    | exact rfl
    | split

theorem State.writeWords_k {m : Nat} {s0 : State} (env : WriteEnv) (a1 : Nat) (a2 : List Word) (a3 : State) (hm
    : 0x7A7F1F7F91FFDC &&& m = 0x7A7F1F7F91FFDC) (h0 : Kept m s0 a3) : Kept m s0 (State.writeWords env a1 a2 a3) :=
    by
  fun_induction State.writeWords env a1 a2 a3
  repeat' first
    | with_reducible exact Kept.refl _ _
    | with_reducible assumption
    | with_reducible apply State.writeWord_k
    | (rename_i ih; with_reducible apply ih)

end Sys2Proof.Machine
end

