-- ==== Sys2Proof/Laws/FrameRegRead.lean ====
section
/-! SUPPORT. Frames of Machine/RegRead.lean: the fields each function may change. -/
namespace Sys2Proof.Machine
open Sys2Proof

theorem State.clearRead_k {m : Nat} {s0 : State} (r : Reg) (s : State) (hm : 0x8000008 &&& m = 0x8000008) (h0 :
    Kept m s0 s) : Kept m s0 (State.clearRead r s) := by
  refine Kept.step hm ?_ h0; clear h0 hm
  unfold State.clearRead
  repeat' first
    | with_reducible exact Kept.refl _ _
    | with_reducible apply State.wr_k
    | with_reducible apply State.setEq_k
    | exact rfl
    | split

theorem State.latchGroup_k {m : Nat} {s0 : State} (link : Nat) (rs : List Reg) (s : State) (hm : 0x20 &&& m =
    0x20) (h0 : Kept m s0 s) : Kept m s0 (State.latchGroup link rs s) := by
  refine Kept.step hm ?_ h0; clear h0 hm
  unfold State.latchGroup
  repeat' first
    | with_reducible exact Kept.refl _ _
    | with_reducible assumption
    | with_reducible apply Kept.each
    | exact rfl
    | (intro _ _)
    | with_reducible apply Kept.set_latch
    | exact fun hw => Tbl.wf_set _ _ _ _ hw

theorem State.latchFirst_k {m : Nat} {s0 : State} (link : Nat) (r : Reg) (rs : List Reg) (s : State) (hm :
    0x300000020 &&& m = 0x300000020) (h0 : Kept m s0 s) : Kept m s0 (State.latchFirst link r rs s) := by
  refine Kept.step hm ?_ h0; clear h0 hm
  unfold State.latchFirst
  repeat' first
    | with_reducible exact Kept.refl _ _
    | with_reducible assumption
    | with_reducible apply State.tsqRead_k
    | with_reducible apply State.latchGroup_k
    | with_reducible apply State.latchWords_k
    | with_reducible apply State.reading_k
    | (with_reducible refine KeptP.get (by assumption) ?_)
    | (with_reducible refine KeptT.get (by assumption) ?_)
    | exact rfl
    | split
    | with_reducible apply KeptP.mk
    | with_reducible apply KeptT.mk
    | with_reducible apply KeptT.snd
    | with_reducible apply KeptP.snd

theorem State.regRead_k {m : Nat} {s0 : State} (link : Nat) (r : Reg) (s : State) (hm : 0x308000028 &&& m =
    0x308000028) (h0 : Kept m s0 s) : KeptP m s0 (State.regRead link r s) := by
  refine KeptP.step hm ?_ h0; clear h0 hm
  unfold State.regRead
  repeat' first
    | with_reducible exact Kept.refl _ _
    | with_reducible assumption
    | with_reducible apply State.clearRead_k
    | with_reducible apply State.dbgRead_k
    | with_reducible apply State.latchFirst_k
    | (extract_lets +onlyGivenNames x; first
        | (with_reducible refine Kept.cut (x := x) ?_ ?_; (on_goal 2 => (clear_value x; intro hx)); (on_goal 1 => (unfold x; clear x)))
        | (with_reducible refine KeptP.cut (x := x) ?_ ?_; (on_goal 2 => (clear_value x; intro hx)); (on_goal 1 => (unfold x; clear x)))
        | clear_value x
        | (unfold x; clear x))
    | (with_reducible refine KeptP.get (by assumption) ?_)
    | exact rfl
    | split
    | with_reducible apply KeptP.mk

theorem State.readWord_k {m : Nat} {s0 : State} (link : Nat) (off : Nat) (s : State) (hm : 0x308000028 &&& m =
    0x308000028) (h0 : Kept m s0 s) : KeptP m s0 (State.readWord link off s) := by
  refine KeptP.step hm ?_ h0; clear h0 hm
  unfold State.readWord
  repeat' first
    | with_reducible exact Kept.refl _ _
    | with_reducible apply State.regRead_k
    | (with_reducible refine KeptP.get (by assumption) ?_)
    | exact rfl
    | split
    | with_reducible apply KeptP.mk

theorem State.readWords_k {m : Nat} {s0 : State} (link : Nat) (a1 : Nat) (a2 : Nat) (a3 : State) (hm :
    0x308000028 &&& m = 0x308000028) (h0 : Kept m s0 a3) : KeptP m s0 (State.readWords link a1 a2 a3) := by
  fun_induction State.readWords link a1 a2 a3
  repeat' first
    | with_reducible exact Kept.refl _ _
    | with_reducible assumption
    | with_reducible apply State.readWord_k
    | (rename_i ih; with_reducible apply ih)
    | (with_reducible refine KeptP.get (by assumption) ?_)
    | (with_reducible refine KeptT.get (by assumption) ?_)
    | exact sub_trans rfl hm
    | split
    | with_reducible apply KeptP.mk

end Sys2Proof.Machine
end

