-- ==== Sys2Proof/Laws/FrameYewirak.lean ====
section
/-! SUPPORT. Frames of Machine/Yewirak.lean: the fields each function may change. -/
namespace Sys2Proof.Machine
open Sys2Proof

theorem State.countYw_k {m : Nat} {s0 : State} (i : Nat) (s : State) (hm : 0x8 &&& m = 0x8) (h0 : Kept m s0 s) :
    Kept m s0 (State.countYw i s) := by
  refine Kept.step hm ?_ h0; clear h0 hm
  unfold State.countYw
  repeat' first
    | with_reducible exact Kept.refl _ _
    | with_reducible apply State.cnt_k
    | exact rfl

theorem State.ywLink_k {m : Nat} {s0 : State} (up : Bool) (s : State) (hm : 0x201000BC000008 &&& m =
    0x201000BC000008) (h0 : Kept m s0 s) : Kept m s0 (State.ywLink up s) := by
  refine Kept.step hm ?_ h0; clear h0 hm
  unfold State.ywLink
  repeat' first
    | with_reducible exact Kept.refl _ _
    | with_reducible assumption
    | with_reducible apply State.raise_k
    | (extract_lets +onlyGivenNames x; first
        | (with_reducible refine Kept.cut (x := x) ?_ ?_; (on_goal 2 => (clear_value x; intro hx)); (on_goal 1 => (unfold x; clear x)))
        | clear_value x
        | (unfold x; clear x))
    | exact rfl
    | split
    | with_reducible apply Kept.set_yw

theorem State.ywFrameError_k {m : Nat} {s0 : State} (s : State) (hm : 0x8 &&& m = 0x8) (h0 : Kept m s0 s) : Kept
    m s0 (State.ywFrameError s) := by
  refine Kept.step hm ?_ h0; clear h0 hm
  unfold State.ywFrameError
  repeat' first
    | with_reducible exact Kept.refl _ _
    | with_reducible apply State.countYw_k
    | exact rfl
    | split

theorem State.ywRead_k {m : Nat} {s0 : State} (p : List Byte) (s : State) (hm : 0x308000028 &&& m = 0x308000028)
    (h0 : Kept m s0 s) : KeptT m s0 (State.ywRead p s) := by
  refine KeptT.step hm ?_ h0; clear h0 hm
  unfold State.ywRead
  repeat' first
    | with_reducible exact Kept.refl _ _
    | with_reducible assumption
    | with_reducible apply State.readWords_k
    | (extract_lets +onlyGivenNames x; first
        | (with_reducible refine Kept.cut (x := x) ?_ ?_; (on_goal 2 => (clear_value x; intro hx)); (on_goal 1 => (unfold x; clear x)))
        | (with_reducible refine KeptT.cut (x := x) ?_ ?_; (on_goal 2 => (clear_value x; intro hx)); (on_goal 1 => (unfold x; clear x)))
        | clear_value x
        | (unfold x; clear x))
    | (with_reducible refine KeptP.get (by assumption) ?_)
    | (with_reducible refine KeptT.get (by assumption) ?_)
    | exact rfl
    | split
    | with_reducible apply KeptP.mk
    | with_reducible apply KeptT.mk

theorem State.ywWrite_k {m : Nat} {s0 : State} (env : WriteEnv) (p : List Byte) (s : State) (hm :
    0x7A7F1F7F91FFDC &&& m = 0x7A7F1F7F91FFDC) (h0 : Kept m s0 s) : KeptT m s0 (State.ywWrite env p s) := by
  refine KeptT.step hm ?_ h0; clear h0 hm
  unfold State.ywWrite
  repeat' first
    | with_reducible exact Kept.refl _ _
    | with_reducible assumption
    | with_reducible apply State.writeWords_k
    | (extract_lets +onlyGivenNames x; first
        | (with_reducible refine Kept.cut (x := x) ?_ ?_; (on_goal 2 => (clear_value x; intro hx)); (on_goal 1 => (unfold x; clear x)))
        | (with_reducible refine KeptT.cut (x := x) ?_ ?_; (on_goal 2 => (clear_value x; intro hx)); (on_goal 1 => (unfold x; clear x)))
        | clear_value x
        | (unfold x; clear x))
    | exact rfl
    | split
    | with_reducible apply KeptT.mk

theorem State.ywExecute_k {m : Nat} {s0 : State} (type : Nat) (env : WriteEnv) (p : List Byte) (s : State) (hm :
    0x7FFFFFFFFFFFFF &&& m = 0x7FFFFFFFFFFFFF) (h0 : Kept m s0 s) : KeptT m s0 (State.ywExecute type env p s) := by
  refine KeptT.step hm ?_ h0; clear h0 hm
  unfold State.ywExecute
  repeat' first
    | with_reducible exact Kept.refl _ _
    | with_reducible assumption
    | with_reducible apply State.ywWrite_k
    | with_reducible apply State.wake_k
    | with_reducible apply State.reading_k
    | with_reducible apply State.ywRead_k
    | (with_reducible refine KeptP.get (by assumption) ?_)
    | (with_reducible refine KeptT.get (by assumption) ?_)
    | exact rfl
    | split
    | with_reducible apply KeptP.mk
    | with_reducible apply KeptT.mk

theorem State.ywAnswer_k {m : Nat} {s0 : State} (type : Nat) (seq : Nat) (p : List Byte) (st : Nat) (d : List
    Byte) (s : State) (hm : 0x20000080000008 &&& m = 0x20000080000008) (h0 : Kept m s0 s) : Kept m s0
    (State.ywAnswer type seq p st d s) := by
  refine Kept.step hm ?_ h0; clear h0 hm
  unfold State.ywAnswer
  repeat' first
    | with_reducible exact Kept.refl _ _
    | with_reducible assumption
    | with_reducible apply State.countYw_k
    | with_reducible apply State.emit_k
    | (extract_lets +onlyGivenNames x; first
        | (with_reducible refine Kept.cut (x := x) ?_ ?_; (on_goal 2 => (clear_value x; intro hx)); (on_goal 1 => (unfold x; clear x)))
        | clear_value x
        | (unfold x; clear x))
    | exact rfl
    | split
    | with_reducible apply Kept.set_yw

theorem State.ywCommand_k {m : Nat} {s0 : State} (seq : Nat) (p : List Byte) (s : State) (hm : 0x201000BC00000C
    &&& m = 0x201000BC00000C) (h0 : Kept m s0 s) : Kept m s0 (State.ywCommand seq p s) := by
  refine Kept.step hm ?_ h0; clear h0 hm
  unfold State.ywCommand
  repeat' first
    | with_reducible exact Kept.refl _ _
    | with_reducible assumption
    | with_reducible apply State.countYw_k
    | with_reducible apply State.ywAnswer_k
    | with_reducible apply State.submitCmd_k
    | (extract_lets +onlyGivenNames x; first
        | (with_reducible refine Kept.cut (x := x) ?_ ?_; (on_goal 2 => (clear_value x; intro hx)); (on_goal 1 => (unfold x; clear x)))
        | clear_value x
        | (unfold x; clear x))
    | exact rfl
    | split
    | with_reducible apply Kept.set_yw

theorem State.ywRequest_k {m : Nat} {s0 : State} (type : Nat) (seq : Nat) (env : WriteEnv) (p : List Byte) (s :
    State) (hm : 0x7FFFFFFFFFFFFF &&& m = 0x7FFFFFFFFFFFFF) (h0 : Kept m s0 s) : Kept m s0 (State.ywRequest type seq
    env p s) := by
  refine Kept.step hm ?_ h0; clear h0 hm
  unfold State.ywRequest
  repeat' first
    | with_reducible exact Kept.refl _ _
    | with_reducible assumption
    | with_reducible apply State.ywExecute_k
    | with_reducible apply State.countYw_k
    | with_reducible apply State.ywAnswer_k
    | with_reducible apply State.ywCommand_k
    | with_reducible apply State.emit_k
    | (with_reducible refine KeptP.get (by assumption) ?_)
    | (with_reducible refine KeptT.get (by assumption) ?_)
    | exact rfl
    | split
    | with_reducible apply KeptP.mk
    | with_reducible apply KeptT.mk
    | with_reducible apply KeptT.snd

end Sys2Proof.Machine
end

