-- ==== Sys2Proof/Laws/FrameLoadApply.lean ====
section
/-! SUPPORT. Frames of Machine/LoadApply.lean: the fields each function may change. -/
namespace Sys2Proof.Machine
open Sys2Proof

theorem State.laneWrite_k {m : Nat} {s0 : State} (off : Nat) (v : Word) (s : State) (hm : 0x7A7F1F7F91FFDC &&& m
    = 0x7A7F1F7F91FFDC) (h0 : Kept m s0 s) : Kept m s0 (State.laneWrite off v s) := by
  refine Kept.step hm ?_ h0; clear h0 hm
  unfold State.laneWrite
  repeat' first
    | with_reducible exact Kept.refl _ _
    | with_reducible assumption
    | with_reducible apply State.writeWord_k
    | (extract_lets +onlyGivenNames x; first
        | (with_reducible refine Kept.cut (x := x) ?_ ?_; (on_goal 2 => (clear_value x; intro hx)); (on_goal 1 => (unfold x; clear x)))
        | clear_value x
        | (unfold x; clear x))
    | exact rfl
    | with_reducible apply Kept.set_ctl

theorem State.laneRecord_k {m : Nat} {s0 : State} (r : MRec) (s : State) (hm : 0x7A7F1F7F91FFDC &&& m =
    0x7A7F1F7F91FFDC) (h0 : Kept m s0 s) : Kept m s0 (State.laneRecord r s) := by
  refine Kept.step hm ?_ h0; clear h0 hm
  unfold State.laneRecord
  repeat' first
    | with_reducible exact Kept.refl _ _
    | with_reducible apply Kept.each
    | with_reducible apply State.laneWrite_k
    | exact rfl
    | (intro _ _)
    | split

theorem State.loadEngine_k {m : Nat} {s0 : State} (rs : List MRec) (r : MRec) (s : State) (hm : 0x100000000000
    &&& m = 0x100000000000) (h0 : Kept m s0 s) : Kept m s0 (State.loadEngine rs r s) := by
  refine Kept.step hm ?_ h0; clear h0 hm
  unfold State.loadEngine
  repeat' first
    | with_reducible exact Kept.refl _ _
    | with_reducible assumption
    | with_reducible apply State.upEng_k
    | (extract_lets +onlyGivenNames x; first
        | (with_reducible refine Kept.cut (x := x) ?_ ?_; (on_goal 2 => (clear_value x; intro hx)); (on_goal 1 => (unfold x; clear x)))
        | clear_value x
        | (unfold x; clear x))
    | exact rfl
    | split

theorem State.loadTile_k {m : Nat} {s0 : State} (r : MRec) (s : State) (hm : 0x400000000000 &&& m =
    0x400000000000) (h0 : Kept m s0 s) : Kept m s0 (State.loadTile r s) := by
  refine Kept.step hm ?_ h0; clear h0 hm
  unfold State.loadTile
  repeat' first
    | with_reducible exact Kept.refl _ _
    | with_reducible assumption
    | with_reducible apply State.setTile_k
    | (extract_lets +onlyGivenNames x; first
        | (with_reducible refine Kept.cut (x := x) ?_ ?_; (on_goal 2 => (clear_value x; intro hx)); (on_goal 1 => (unfold x; clear x)))
        | clear_value x
        | (unfold x; clear x))
    | exact rfl
    | split

theorem State.makeDescs_k {m : Nat} {s0 : State} (first : Nat) (n : Nat) (d : Desc) (k : DescKind) (st :
    DescState) (s : State) (hm : 0x200 &&& m = 0x200) (h0 : Kept m s0 s) : Kept m s0 (State.makeDescs first n d k st
    s) := by
  refine Kept.step hm ?_ h0; clear h0 hm
  unfold State.makeDescs
  repeat' first
    | with_reducible exact Kept.refl _ _
    | with_reducible apply State.setDesc_k
    | with_reducible apply Kept.each
    | exact rfl
    | (intro _ _)

theorem State.applyBuffer_k {m : Nat} {s0 : State} (e : List Byte) (s : State) (hm : 0x40000600 &&& m =
    0x40000600) (h0 : Kept m s0 s) : Kept m s0 (State.applyBuffer e s) := by
  refine Kept.step hm ?_ h0; clear h0 hm
  unfold State.applyBuffer
  repeat' first
    | with_reducible exact Kept.refl _ _
    | with_reducible assumption
    | with_reducible apply State.setFifo_k
    | with_reducible apply State.setHostQ_k
    | with_reducible apply State.makeDescs_k
    | (extract_lets +onlyGivenNames x; first
        | (with_reducible refine Kept.cut (x := x) ?_ ?_; (on_goal 2 => (clear_value x; intro hx)); (on_goal 1 => (unfold x; clear x)))
        | clear_value x
        | (unfold x; clear x))
    | exact rfl
    | split

theorem State.applyQuotas_k {m : Nat} {s0 : State} (t : Nat) (rs : List MRec) (s : State) (hm : 0x2010003C001808
    &&& m = 0x2010003C001808) (h0 : Kept m s0 s) : Kept m s0 (State.applyQuotas t rs s) := by
  refine Kept.step hm ?_ h0; clear h0 hm
  unfold State.applyQuotas
  repeat' first
    | with_reducible exact Kept.refl _ _
    | with_reducible assumption
    | with_reducible apply State.absorb_k
    | with_reducible apply State.setPartner_k
    | with_reducible apply Kept.each
    | (extract_lets +onlyGivenNames x; first
        | (with_reducible refine Kept.cut (x := x) ?_ ?_; (on_goal 2 => (clear_value x; intro hx)); (on_goal 1 => (unfold x; clear x)))
        | clear_value x
        | (unfold x; clear x))
    | exact rfl
    | (intro _ _)
    | split
    | with_reducible apply Kept.set_books

theorem State.applySlice_k {m : Nat} {s0 : State} (rs : List MRec) (c : Nat) (s : State) (hm : 0x100000 &&& m =
    0x100000) (h0 : Kept m s0 s) : Kept m s0 (State.applySlice rs c s) := by
  refine Kept.step hm ?_ h0; clear h0 hm
  unfold State.applySlice
  repeat' first
    | with_reducible exact Kept.refl _ _
    | with_reducible assumption
    | with_reducible apply State.setSlice_k
    | with_reducible apply Kept.foldl
    | (intro _ _ _)
    | exact rfl

theorem State.applyRoute_k {m : Nat} {s0 : State} (owner : Nat) (e : List Byte) (s : State) (hm : 0x600008 &&& m
    = 0x600008) (h0 : Kept m s0 s) : Kept m s0 (State.applyRoute owner e s) := by
  refine Kept.step hm ?_ h0; clear h0 hm
  unfold State.applyRoute
  repeat' first
    | with_reducible exact Kept.refl _ _
    | with_reducible assumption
    | with_reducible apply State.setRoute_k
    | with_reducible apply State.clearRoute_k
    | (extract_lets +onlyGivenNames x; first
        | (with_reducible refine Kept.cut (x := x) ?_ ?_; (on_goal 2 => (clear_value x; intro hx)); (on_goal 1 => (unfold x; clear x)))
        | clear_value x
        | (unfold x; clear x))
    | exact rfl
    | with_reducible apply Kept.set_routeOwners

theorem State.applyCycle_k {m : Nat} {s0 : State} (rs : List MRec) (c : Nat) (s : State) (hm : 0x8000000000 &&&
    m = 0x8000000000) (h0 : Kept m s0 s) : Kept m s0 (State.applyCycle rs c s) := by
  refine Kept.step hm ?_ h0; clear h0 hm
  unfold State.applyCycle
  repeat' first
    | with_reducible exact Kept.refl _ _
    | with_reducible assumption
    | with_reducible apply State.setSched_k
    | with_reducible apply Kept.each
    | (extract_lets +onlyGivenNames x; first
        | (with_reducible refine Kept.cut (x := x) ?_ ?_; (on_goal 2 => (clear_value x; intro hx)); (on_goal 1 => (unfold x; clear x)))
        | clear_value x
        | (unfold x; clear x))
    | exact rfl
    | (intro _ _)
    | split

theorem State.applyTables_k {m : Nat} {s0 : State} (t : Nat) (bs : List Byte) (rs : List MRec) (s : State) (hm :
    0x7B7FBF7FF1FFDC &&& m = 0x7B7FBF7FF1FFDC) (h0 : Kept m s0 s) : Kept m s0 (State.applyTables t bs rs s) := by
  refine Kept.step hm ?_ h0; clear h0 hm
  unfold State.applyTables
  repeat' first
    | with_reducible exact Kept.refl _ _
    | with_reducible assumption
    | with_reducible apply State.applyQuotas_k
    | with_reducible apply State.refreshAllGates_k
    | with_reducible apply State.loadEngine_k
    | with_reducible apply State.loadTile_k
    | with_reducible apply State.applySlice_k
    | with_reducible apply State.laneRecord_k
    | with_reducible apply State.applyRoute_k
    | with_reducible apply Kept.each
    | with_reducible apply State.clearOwned_k
    | with_reducible apply State.applyCycle_k
    | with_reducible apply State.setCtx_k
    | with_reducible apply State.applyBuffer_k
    | exact rfl
    | (intro _ _)
    | split
    | (with_reducible apply Kept.upd <;> try first
        | exact rfl
        | exact Or.inl rfl
        | exact Or.inr rfl
        | exact Or.inr ⟨rfl, fun hw => Tbl.wf_keep _ _ _ hw⟩
        | exact Or.inr ⟨rfl, fun hw => Tbl.wf_filter _ _ _ hw⟩)

end Sys2Proof.Machine
end

