-- ==== Sys2Proof/Laws/FrameLoadCheck.lean ====
section
/-! SUPPORT. Frames of Machine/LoadCheck.lean: the fields each function may change. -/
namespace Sys2Proof.Machine
open Sys2Proof

theorem State.judgePair_k {m : Nat} {s0 : State} (s : State) (base : Nat) (p : Nat × Word) (hm :
    0x7A7F1F7F91FFDC &&& m = 0x7A7F1F7F91FFDC) (h0 : Kept m s0 s) : KeptP m s0 (State.judgePair s base p) := by
  refine KeptP.step hm ?_ h0; clear h0 hm
  unfold State.judgePair
  repeat' first
    | with_reducible exact Kept.refl _ _
    | with_reducible assumption
    | with_reducible apply State.laneWrite_k
    | (extract_lets +onlyGivenNames x; first
        | (with_reducible refine Kept.cut (x := x) ?_ ?_; (on_goal 2 => (clear_value x; intro hx)); (on_goal 1 => (unfold x; clear x)))
        | (with_reducible refine KeptP.cut (x := x) ?_ ?_; (on_goal 2 => (clear_value x; intro hx)); (on_goal 1 => (unfold x; clear x)))
        | clear_value x
        | (unfold x; clear x))
    | exact rfl
    | split
    | with_reducible apply KeptP.mk

end Sys2Proof.Machine
end

