-- ==== Sys2Proof/Laws/FrameLoader.lean ====
section
/-! SUPPORT. Frames of Machine/Loader.lean: the fields each function may change. -/
namespace Sys2Proof.Machine
open Sys2Proof

theorem State.clearMica_k {m : Nat} {s0 : State} (s : State) (hm : 0x8 &&& m = 0x8) (h0 : Kept m s0 s) : Kept m
    s0 (State.clearMica s) := by
  refine Kept.step hm ?_ h0; clear h0 hm
  unfold State.clearMica
  repeat' first
    | with_reducible exact Kept.refl _ _
    | with_reducible apply State.setf_k
    | with_reducible apply State.wr_k
    | exact rfl

theorem State.noteMica_k {m : Nat} {s0 : State} (f : LoadFail) (s : State) (hm : 0x8 &&& m = 0x8) (h0 : Kept m
    s0 s) : Kept m s0 (State.noteMica f s) := by
  refine Kept.step hm ?_ h0; clear h0 hm
  unfold State.noteMica
  repeat' first
    | with_reducible exact Kept.refl _ _
    | with_reducible apply State.setf_k
    | with_reducible apply State.wr_k
    | exact rfl

theorem State.failFull_k {m : Nat} {s0 : State} (auto : Bool) (f : LoadFail) (s : State) (hm : 0x7FFFFFFFFFFFFF
    &&& m = 0x7FFFFFFFFFFFFF) (h0 : Kept m s0 s) : Kept m s0 (State.failFull auto f s) := by
  refine Kept.step hm ?_ h0; clear h0 hm
  unfold State.failFull
  repeat' first
    | with_reducible exact Kept.refl _ _
    | with_reducible assumption
    | with_reducible apply State.setLoad_k
    | with_reducible apply State.wr_k
    | with_reducible apply State.finish_k
    | with_reducible apply State.enterMode_k
    | with_reducible apply State.noteMica_k
    | (extract_lets +onlyGivenNames x; first
        | (with_reducible refine Kept.cut (x := x) ?_ ?_; (on_goal 2 => (clear_value x; intro hx)); (on_goal 1 => (unfold x; clear x)))
        | clear_value x
        | (unfold x; clear x))
    | exact rfl
    | split
    | with_reducible apply Kept.set_books

theorem State.leaveReconf_k {m : Nat} {s0 : State} (c : Nat) (s : State) (hm : 0x7FFFFFFFFFFFFF &&& m =
    0x7FFFFFFFFFFFFF) (h0 : Kept m s0 s) : Kept m s0 (State.leaveReconf c s) := by
  refine Kept.step hm ?_ h0; clear h0 hm
  unfold State.leaveReconf
  repeat' first
    | with_reducible exact Kept.refl _ _
    | with_reducible assumption
    | with_reducible apply State.lanesFollow_k
    | with_reducible apply State.readyHeld_k
    | with_reducible apply State.enterMode_k
    | with_reducible apply State.formWaits_k
    | (extract_lets +onlyGivenNames x; first
        | (with_reducible refine Kept.cut (x := x) ?_ ?_; (on_goal 2 => (clear_value x; intro hx)); (on_goal 1 => (unfold x; clear x)))
        | clear_value x
        | (unfold x; clear x))
    | exact rfl
    | split
    | with_reducible apply Kept.set_ctl

theorem State.tileRuns_k {m : Nat} {s0 : State} (c : Nat) (s : State) (hm : 0x400000000000 &&& m =
    0x400000000000) (h0 : Kept m s0 s) : Kept m s0 (State.tileRuns c s) := by
  refine Kept.step hm ?_ h0; clear h0 hm
  unfold State.tileRuns
  repeat' first
    | with_reducible exact Kept.refl _ _
    | with_reducible assumption
    | with_reducible apply State.setTile_k
    | exact rfl

theorem State.failCluster_k {m : Nat} {s0 : State} (c : Nat) (f : LoadFail) (s : State) (hm : 0x7FFFFFFFFFFFFF
    &&& m = 0x7FFFFFFFFFFFFF) (h0 : Kept m s0 s) : Kept m s0 (State.failCluster c f s) := by
  refine Kept.step hm ?_ h0; clear h0 hm
  unfold State.failCluster
  repeat' first
    | with_reducible exact Kept.refl _ _
    | with_reducible assumption
    | with_reducible apply State.setLoad_k
    | with_reducible apply State.restartEngine_k
    | with_reducible apply State.leaveReconf_k
    | with_reducible apply State.tileRuns_k
    | with_reducible apply Kept.each
    | with_reducible apply State.finish_k
    | with_reducible apply State.noteMica_k
    | exact rfl
    | (intro _ _)

theorem State.failLoad_k {m : Nat} {s0 : State} (t : Nat) (auto : Bool) (f : LoadFail) (s : State) (hm :
    0x7FFFFFFFFFFFFF &&& m = 0x7FFFFFFFFFFFFF) (h0 : Kept m s0 s) : Kept m s0 (State.failLoad t auto f s) := by
  refine Kept.step hm ?_ h0; clear h0 hm
  unfold State.failLoad
  repeat' first
    | with_reducible exact Kept.refl _ _
    | with_reducible apply State.failCluster_k
    | with_reducible apply State.failFull_k
    | exact rfl
    | split

theorem State.holdStream_k {m : Nat} {s0 : State} (picks : List Nat) (auto : Bool) (bs : List Byte) (s : State)
    (hm : 0x40800000001040 &&& m = 0x40800000001040) (h0 : Kept m s0 s) : Kept m s0 (State.holdStream picks auto bs
    s) := by
  refine Kept.step hm ?_ h0; clear h0 hm
  unfold State.holdStream
  repeat' first
    | with_reducible exact Kept.refl _ _
    | with_reducible assumption
    | with_reducible apply State.setLoad_k
    | with_reducible apply State.draw_k
    | with_reducible apply State.putCells_k
    | (extract_lets +onlyGivenNames x; first
        | (with_reducible refine Kept.cut (x := x) ?_ ?_; (on_goal 2 => (clear_value x; intro hx)); (on_goal 1 => (unfold x; clear x)))
        | clear_value x
        | (unfold x; clear x))
    | exact rfl
    | with_reducible apply Kept.set_books

theorem State.loadStream_k {m : Nat} {s0 : State} (picks : List Nat) (header : Option (List Byte)) (body :
    Option (List Byte)) (s : State) (hm : 0x7FFFFFFFFFFFFF &&& m = 0x7FFFFFFFFFFFFF) (h0 : Kept m s0 s) : Kept m s0
    (State.loadStream picks header body s) := by
  refine Kept.step hm ?_ h0; clear h0 hm
  unfold State.loadStream
  repeat' first
    | with_reducible exact Kept.refl _ _
    | with_reducible assumption
    | with_reducible apply State.finish_k
    | with_reducible apply State.clearMica_k
    | with_reducible apply State.holdStream_k
    | with_reducible apply State.enterMode_k
    | with_reducible apply State.failFull_k
    | (extract_lets +onlyGivenNames x; first
        | (with_reducible refine Kept.cut (x := x) ?_ ?_; (on_goal 2 => (clear_value x; intro hx)); (on_goal 1 => (unfold x; clear x)))
        | clear_value x
        | (unfold x; clear x))
    | exact rfl
    | split

theorem State.autoloadStart_k {m : Nat} {s0 : State} (picks : List Nat) (bs : List Byte) (s : State) (hm :
    0x7FFFFFFFFFFFFF &&& m = 0x7FFFFFFFFFFFFF) (h0 : Kept m s0 s) : Kept m s0 (State.autoloadStart picks bs s) := by
  refine Kept.step hm ?_ h0; clear h0 hm
  unfold State.autoloadStart
  repeat' first
    | with_reducible exact Kept.refl _ _
    | with_reducible assumption
    | with_reducible apply State.clearMica_k
    | with_reducible apply State.holdStream_k
    | with_reducible apply State.enterMode_k
    | with_reducible apply State.failFull_k
    | (extract_lets +onlyGivenNames x; first
        | (with_reducible refine Kept.cut (x := x) ?_ ?_; (on_goal 2 => (clear_value x; intro hx)); (on_goal 1 => (unfold x; clear x)))
        | clear_value x
        | (unfold x; clear x))
    | exact rfl
    | split

theorem State.putShared_k {m : Nat} {s0 : State} (c : Nat) (bs : List Byte) (s : State) (hm : 0x200000000000 &&&
    m = 0x200000000000) (h0 : Kept m s0 s) : Kept m s0 (State.putShared c bs s) := by
  refine Kept.step hm ?_ h0; clear h0 hm
  refine Kept.set_shared (fun hw => ?_) rfl (Kept.refl _ s)
  suffices H : ∀ (l : List Byte) (p : Tbl Byte × Nat), Tbl.wf (fun _ => (0 : Byte)) p.1 = true →
      Tbl.wf (fun _ => (0 : Byte))
        (l.foldl (fun (x : Tbl Byte × Nat) b => (x.1.set (fun _ => 0) x.2 b, x.2 + 1)) p).1 = true from
    H bs (s.shared, c * 2 ^ 21) hw
  intro l
  induction l with
  | nil => exact fun _ h => h
  | cons b l ih => exact fun p h => ih _ (Tbl.wf_set _ _ _ _ h)

theorem State.emptyInboxes_k {m : Nat} {s0 : State} (g : Nat) (s : State) (hm : 0x2010103C001988 &&& m =
    0x2010103C001988) (h0 : Kept m s0 s) : Kept m s0 (State.emptyInboxes g s) := by
  refine Kept.step hm ?_ h0; clear h0 hm
  unfold State.emptyInboxes
  repeat' first
    | with_reducible exact Kept.refl _ _
    | with_reducible assumption
    | with_reducible apply State.upEng_k
    | with_reducible apply State.dropRefs_k
    | exact rfl

theorem State.quiesce_k {m : Nat} {s0 : State} (c : Nat) (s : State) (hm : 0x7FFFFFFFFFFFFF &&& m =
    0x7FFFFFFFFFFFFF) (h0 : Kept m s0 s) : Kept m s0 (State.quiesce c s) := by
  refine Kept.step hm ?_ h0; clear h0 hm
  unfold State.quiesce
  repeat' first
    | with_reducible exact Kept.refl _ _
    | with_reducible assumption
    | with_reducible apply State.lanesFollow_k
    | with_reducible apply State.stopTimelines_k
    | with_reducible apply State.countMac_k
    | with_reducible apply State.emptyInboxes_k
    | with_reducible apply Kept.each
    | with_reducible apply State.laneDiscardCounted_k
    | with_reducible apply State.setTile_k
    | with_reducible apply State.stopEngine_k
    | with_reducible apply State.enterMode_k
    | with_reducible apply State.setSlice_k
    | with_reducible apply State.portDiscard_k
    | (extract_lets +onlyGivenNames x; first
        | (with_reducible refine Kept.cut (x := x) ?_ ?_; (on_goal 2 => (clear_value x; intro hx)); (on_goal 1 => (unfold x; clear x)))
        | clear_value x
        | (unfold x; clear x))
    | exact rfl
    | (intro _ _)
    | with_reducible apply Kept.set_ctl

theorem State.reloadCluster_k {m : Nat} {s0 : State} (header : Option (List Byte)) (body : Option (List Byte))
    (s : State) (hm : 0x7FFFFFFFFFFFFF &&& m = 0x7FFFFFFFFFFFFF) (h0 : Kept m s0 s) : Kept m s0 (State.reloadCluster
    header body s) := by
  refine Kept.step hm ?_ h0; clear h0 hm
  unfold State.reloadCluster
  repeat' first
    | with_reducible exact Kept.refl _ _
    | with_reducible assumption
    | with_reducible apply State.setLoad_k
    | with_reducible apply State.putShared_k
    | with_reducible apply State.finish_k
    | with_reducible apply State.quiesce_k
    | with_reducible apply State.clearMica_k
    | with_reducible apply State.failCluster_k
    | (extract_lets +onlyGivenNames x; first
        | (with_reducible refine Kept.cut (x := x) ?_ ?_; (on_goal 2 => (clear_value x; intro hx)); (on_goal 1 => (unfold x; clear x)))
        | clear_value x
        | (unfold x; clear x))
    | exact rfl
    | split

theorem State.setPlan_k {m : Nat} {s0 : State} (q : Nat) (e : PlanEntry) (s : State) (hm : 0x8 &&& m = 0x8) (h0
    : Kept m s0 s) : Kept m s0 (State.setPlan q e s) := by
  refine Kept.step hm ?_ h0; clear h0 hm
  unfold State.setPlan
  repeat' first
    | with_reducible exact Kept.refl _ _
    | with_reducible assumption
    | with_reducible apply State.wr_k
    | exact rfl

theorem State.applyPlan_k {m : Nat} {s0 : State} (t : Nat) (old : Option Structure) (s : State) (hm :
    0x2810003C000008 &&& m = 0x2810003C000008) (h0 : Kept m s0 s) : Kept m s0 (State.applyPlan t old s) := by
  refine Kept.step hm ?_ h0; clear h0 hm
  unfold State.applyPlan
  repeat' first
    | with_reducible exact Kept.refl _ _
    | with_reducible assumption
    | with_reducible apply State.upSpar_k
    | with_reducible apply State.setPlan_k
    | with_reducible apply State.sparRefresh_k
    | with_reducible apply Kept.each
    | (extract_lets +onlyGivenNames x; first
        | (with_reducible refine Kept.cut (x := x) ?_ ?_; (on_goal 2 => (clear_value x; intro hx)); (on_goal 1 => (unfold x; clear x)))
        | clear_value x
        | (unfold x; clear x))
    | exact rfl
    | (intro _ _)
    | split

theorem State.overQuota_k {m : Nat} {s0 : State} (t : Nat) (s : State) (hm : 0x2010003C000008 &&& m =
    0x2010003C000008) (h0 : Kept m s0 s) : Kept m s0 (State.overQuota t s) := by
  refine Kept.step hm ?_ h0; clear h0 hm
  unfold State.overQuota
  repeat' first
    | with_reducible exact Kept.refl _ _
    | with_reducible assumption
    | with_reducible apply Kept.each
    | with_reducible apply State.raise_k
    | exact rfl
    | (intro _ _)

theorem State.noteVersions_k {m : Nat} {s0 : State} (bs : List Byte) (s : State) (hm : 0x8 &&& m = 0x8) (h0 :
    Kept m s0 s) : Kept m s0 (State.noteVersions bs s) := by
  refine Kept.step hm ?_ h0; clear h0 hm
  unfold State.noteVersions
  repeat' first
    | with_reducible exact Kept.refl _ _
    | with_reducible apply State.wr_k
    | with_reducible apply Kept.each
    | exact rfl
    | (intro _ _)

theorem State.settleSet_k {m : Nat} {s0 : State} (t : Nat) (bs : List Byte) (s : State) (hm : 0x2210003C000008
    &&& m = 0x2210003C000008) (h0 : Kept m s0 s) : Kept m s0 (State.settleSet t bs s) := by
  refine Kept.step hm ?_ h0; clear h0 hm
  unfold State.settleSet
  repeat' first
    | with_reducible exact Kept.refl _ _
    | with_reducible apply State.setUntested_k
    | exact rfl
    | split

theorem State.storeStream_k {m : Nat} {s0 : State} (j : LoadJob) (s : State) (hm : 0x2210003C000008 &&& m =
    0x2210003C000008) (h0 : Kept m s0 s) : KeptP m s0 (State.storeStream j s) := by
  refine KeptP.step hm ?_ h0; clear h0 hm
  unfold State.storeStream
  repeat' first
    | with_reducible exact Kept.refl _ _
    | with_reducible apply State.kprEvent_k
    | with_reducible apply State.queueOp_k
    | exact rfl
    | split
    | with_reducible apply KeptP.mk

theorem State.applyLoad_k {m : Nat} {s0 : State} (j : LoadJob) (s : State) (hm : 0x7BFFBFFFF1FFDC &&& m =
    0x7BFFBFFFF1FFDC) (h0 : Kept m s0 s) : Kept m s0 (State.applyLoad j s) := by
  refine Kept.step hm ?_ h0; clear h0 hm
  unfold State.applyLoad
  repeat' first
    | with_reducible exact Kept.refl _ _
    | with_reducible assumption
    | with_reducible apply State.overQuota_k
    | with_reducible apply State.setLoad_k
    | with_reducible apply State.storeStream_k
    | with_reducible apply State.finish_k
    | with_reducible apply State.applyTables_k
    | with_reducible apply State.settleSet_k
    | with_reducible apply State.applyPlan_k
    | with_reducible apply State.noteVersions_k
    | (with_reducible refine KeptP.get (by assumption) ?_)
    | (with_reducible refine KeptT.get (by assumption) ?_)
    | exact rfl
    | split
    | with_reducible apply KeptP.mk
    | with_reducible apply KeptT.mk
    | with_reducible apply KeptT.snd
    | with_reducible apply KeptP.snd

theorem State.validate_k {m : Nat} {s0 : State} (t : Nat) (s : State) (hm : 0x7FFFFFFFFFFFFF &&& m =
    0x7FFFFFFFFFFFFF) (h0 : Kept m s0 s) : Kept m s0 (State.validate t s) := by
  refine Kept.step hm ?_ h0; clear h0 hm
  unfold State.validate
  repeat' first
    | with_reducible exact Kept.refl _ _
    | with_reducible apply State.setLoad_k
    | with_reducible apply State.failLoad_k
    | with_reducible apply State.applyLoad_k
    | exact rfl
    | split

theorem State.clusterStage6_k {m : Nat} {s0 : State} (c : Nat) (s : State) (hm : 0x7FFFFFFFFFFFFF &&& m =
    0x7FFFFFFFFFFFFF) (h0 : Kept m s0 s) : Kept m s0 (State.clusterStage6 c s) := by
  refine Kept.step hm ?_ h0; clear h0 hm
  unfold State.clusterStage6
  repeat' first
    | with_reducible exact Kept.refl _ _
    | with_reducible apply State.applyLoad_k
    | with_reducible apply State.failCluster_k
    | exact rfl
    | split

theorem State.autoloadCopy_k {m : Nat} {s0 : State} (s : State) (hm : 0x2800000000000 &&& m = 0x2800000000000)
    (h0 : Kept m s0 s) : Kept m s0 (State.autoloadCopy s) := by
  refine Kept.step hm ?_ h0; clear h0 hm
  unfold State.autoloadCopy
  repeat' first
    | with_reducible exact Kept.refl _ _
    | with_reducible assumption
    | with_reducible apply State.setLoad_k
    | with_reducible apply State.keeperStart_k
    | (extract_lets +onlyGivenNames x; first
        | (with_reducible refine Kept.cut (x := x) ?_ ?_; (on_goal 2 => (clear_value x; intro hx)); (on_goal 1 => (unfold x; clear x)))
        | clear_value x
        | (unfold x; clear x))
    | exact rfl
    | split

theorem State.takeStatic_k {m : Nat} {s0 : State} (i : Nat) (s : State) (hm : 0x40000000000B80 &&& m =
    0x40000000000B80) (h0 : Kept m s0 s) : Kept m s0 (State.takeStatic i s) := by
  refine Kept.step hm ?_ h0; clear h0 hm
  unfold State.takeStatic
  repeat' first
    | with_reducible exact Kept.refl _ _
    | with_reducible assumption
    | with_reducible apply State.setPartner_k
    | with_reducible apply State.setDesc_k
    | with_reducible apply State.allocate_k
    | (with_reducible refine KeptP.get (by assumption) ?_)
    | (with_reducible refine KeptT.get (by assumption) ?_)
    | exact rfl
    | split
    | with_reducible apply KeptP.mk
    | with_reducible apply KeptT.mk
    | with_reducible apply KeptT.snd
    | with_reducible apply KeptP.snd

theorem State.releaseCluster_k {m : Nat} {s0 : State} (c : Nat) (s : State) (hm : 0x2070003C000008 &&& m =
    0x2070003C000008) (h0 : Kept m s0 s) : Kept m s0 (State.releaseCluster c s) := by
  refine Kept.step hm ?_ h0; clear h0 hm
  unfold State.releaseCluster
  repeat' first
    | with_reducible exact Kept.refl _ _
    | with_reducible assumption
    | with_reducible apply State.tileRuns_k
    | with_reducible apply State.coldStart_k
    | with_reducible apply Kept.each
    | exact rfl
    | (intro _ _)
    | split

theorem State.endFull_k {m : Nat} {s0 : State} (s : State) (hm : 0x7FFFFFFFFFFFFF &&& m = 0x7FFFFFFFFFFFFF) (h0
    : Kept m s0 s) : Kept m s0 (State.endFull s) := by
  refine Kept.step hm ?_ h0; clear h0 hm
  unfold State.endFull
  repeat' first
    | with_reducible exact Kept.refl _ _
    | with_reducible assumption
    | with_reducible apply State.setLoad_k
    | with_reducible apply State.modRecord_k
    | with_reducible apply State.releaseCluster_k
    | with_reducible apply Kept.each
    | with_reducible apply State.enterMode_k
    | with_reducible apply State.takeStatic_k
    | with_reducible apply State.upKeeper_k
    | (extract_lets +onlyGivenNames x; first
        | (with_reducible refine Kept.cut (x := x) ?_ ?_; (on_goal 2 => (clear_value x; intro hx)); (on_goal 1 => (unfold x; clear x)))
        | clear_value x
        | (unfold x; clear x))
    | exact rfl
    | (intro _ _)
    | split
    | with_reducible apply Kept.set_books

theorem State.endCluster_k {m : Nat} {s0 : State} (c : Nat) (s : State) (hm : 0x7FFFFFFFFFFFFF &&& m =
    0x7FFFFFFFFFFFFF) (h0 : Kept m s0 s) : Kept m s0 (State.endCluster c s) := by
  refine Kept.step hm ?_ h0; clear h0 hm
  unfold State.endCluster
  repeat' first
    | with_reducible exact Kept.refl _ _
    | with_reducible apply State.setLoad_k
    | with_reducible apply State.modRecord_k
    | with_reducible apply State.leaveReconf_k
    | with_reducible apply State.releaseCluster_k
    | exact rfl

theorem State.step8_k {m : Nat} {s0 : State} (t : Nat) (s : State) (hm : 0x7FFFFFFFFFFFFF &&& m =
    0x7FFFFFFFFFFFFF) (h0 : Kept m s0 s) : Kept m s0 (State.step8 t s) := by
  refine Kept.step hm ?_ h0; clear h0 hm
  unfold State.step8
  repeat' first
    | with_reducible exact Kept.refl _ _
    | with_reducible assumption
    | with_reducible apply State.endCluster_k
    | with_reducible apply State.endFull_k
    | (extract_lets +onlyGivenNames x; first
        | (with_reducible refine Kept.cut (x := x) ?_ ?_; (on_goal 2 => (clear_value x; intro hx)); (on_goal 1 => (unfold x; clear x)))
        | clear_value x
        | (unfold x; clear x))
    | exact rfl
    | split

theorem State.holdMax_k {m : Nat} {s0 : State} (c : Nat) (s : State) (hm : 0x2010123C00598C &&& m =
    0x2010123C00598C) (h0 : Kept m s0 s) : Kept m s0 (State.holdMax c s) := by
  refine Kept.step hm ?_ h0; clear h0 hm
  unfold State.holdMax
  repeat' first
    | with_reducible exact Kept.refl _ _
    | with_reducible assumption
    | with_reducible apply State.discardHeld_k
    | (extract_lets +onlyGivenNames x; first
        | (with_reducible refine Kept.cut (x := x) ?_ ?_; (on_goal 2 => (clear_value x; intro hx)); (on_goal 1 => (unfold x; clear x)))
        | clear_value x
        | (unfold x; clear x))
    | exact rfl
    | split
    | with_reducible apply Kept.set_ctl

theorem State.dropNodes_k {m : Nat} {s0 : State} (s : State) (hm : 0xC00000000 &&& m = 0xC00000000) (h0 : Kept m
    s0 s) : Kept m s0 (State.dropNodes s) := by
  refine Kept.step hm ?_ h0; clear h0 hm
  unfold State.dropNodes
  repeat' first
    | with_reducible exact Kept.refl _ _
    | with_reducible assumption
    | with_reducible apply State.upLane_k
    | with_reducible apply Kept.each
    | exact rfl
    | (intro _ _)
    | with_reducible apply Kept.set_nodes
    | exact fun hw => rfl

theorem State.unload_k {m : Nat} {s0 : State} (s : State) (hm : 0x7FFFFFFFFFFFFF &&& m = 0x7FFFFFFFFFFFFF) (h0 :
    Kept m s0 s) : Kept m s0 (State.unload s) := by
  refine Kept.step hm ?_ h0; clear h0 hm
  unfold State.unload
  repeat' first
    | with_reducible exact Kept.refl _ _
    | with_reducible assumption
    | with_reducible apply State.dropStamps_k
    | with_reducible apply State.lanesFollow_k
    | with_reducible apply State.finish_k
    | with_reducible apply State.dropNodes_k
    | with_reducible apply State.enterMode_k
    | with_reducible apply State.dropStructure_k
    | (extract_lets +onlyGivenNames x; first
        | (with_reducible refine Kept.cut (x := x) ?_ ?_; (on_goal 2 => (clear_value x; intro hx)); (on_goal 1 => (unfold x; clear x)))
        | clear_value x
        | (unfold x; clear x))
    | exact rfl
    | split

end Sys2Proof.Machine
end

