-- ==== Sys2Proof/Laws/FrameBringUp.lean ====
section
/-! SUPPORT. Frames of Machine/BringUp.lean: the fields each function may change. -/
namespace Sys2Proof.Machine
open Sys2Proof

theorem State.rowFail_k {m : Nat} {s0 : State} (b : Nat) (row : Nat) (s : State) (hm : 0x2210003C0C1008 &&& m =
    0x2210003C0C1008) (h0 : Kept m s0 s) : Kept m s0 (State.rowFail b row s) := by
  refine Kept.step hm ?_ h0; clear h0 hm
  unfold State.rowFail
  repeat' first
    | with_reducible exact Kept.refl _ _
    | with_reducible assumption
    | with_reducible apply State.absorb_k
    | with_reducible apply State.modRecord_k
    | with_reducible apply State.raise_k
    | with_reducible apply State.queueHealth_k
    | with_reducible apply State.countHlt_k
    | (extract_lets +onlyGivenNames x; first
        | (with_reducible refine Kept.cut (x := x) ?_ ?_; (on_goal 2 => (clear_value x; intro hx)); (on_goal 1 => (unfold x; clear x)))
        | clear_value x
        | (unfold x; clear x))
    | exact rfl
    | split
    | (with_reducible apply Kept.upd <;> try first
        | exact rfl
        | exact Or.inl rfl
        | exact Or.inr rfl)

theorem State.noteHoldup_k {m : Nat} {s0 : State} (uf : Nat) (mw : Nat) (s : State) (hm : 0x3610003C000008 &&& m
    = 0x3610003C000008) (h0 : Kept m s0 s) : Kept m s0 (State.noteHoldup uf mw s) := by
  refine Kept.step hm ?_ h0; clear h0 hm
  unfold State.noteHoldup
  repeat' first
    | with_reducible exact Kept.refl _ _
    | with_reducible assumption
    | with_reducible apply State.raise_k
    | with_reducible apply State.queueHealth_k
    | with_reducible apply State.upPower_k
    | (extract_lets +onlyGivenNames x; first
        | (with_reducible refine Kept.cut (x := x) ?_ ?_; (on_goal 2 => (clear_value x; intro hx)); (on_goal 1 => (unfold x; clear x)))
        | clear_value x
        | (unfold x; clear x))
    | exact rfl
    | split
    | with_reducible apply Kept.set_health

theorem State.moduleChecks_k {m : Nat} {s0 : State} (units : List Nat) (rows : List (Nat × Nat)) (s : State) (hm
    : 0x3A7B177E0CFFCC &&& m = 0x3A7B177E0CFFCC) (h0 : Kept m s0 s) : Kept m s0 (State.moduleChecks units rows s) :=
    by
  refine Kept.step hm ?_ h0; clear h0 hm
  unfold State.moduleChecks
  repeat' first
    | with_reducible exact Kept.refl _ _
    | with_reducible assumption
    | with_reducible apply State.reports_k
    | with_reducible apply State.rowFail_k
    | with_reducible apply Kept.each
    | (extract_lets +onlyGivenNames x; first
        | (with_reducible refine Kept.cut (x := x) ?_ ?_; (on_goal 2 => (clear_value x; intro hx)); (on_goal 1 => (unfold x; clear x)))
        | clear_value x
        | (unfold x; clear x))
    | exact rfl
    | (intro _ _)
    | with_reducible apply Kept.set_mem
    | exact fun hw => rfl

theorem State.bringUpRest_k {m : Nat} {s0 : State} (selfTest : Nat) (units : List Nat) (rows : List (Nat × Nat))
    (uf : Nat) (mw : Nat) (picks : List Nat) (s : State) (hm : 0x7FFFFFFFFFFFFF &&& m = 0x7FFFFFFFFFFFFF) (h0 : Kept
    m s0 s) : Kept m s0 (State.bringUpRest selfTest units rows uf mw picks s) := by
  refine Kept.step hm ?_ h0; clear h0 hm
  unfold State.bringUpRest
  repeat' first
    | with_reducible exact Kept.refl _ _
    | with_reducible assumption
    | with_reducible apply State.autoloadStart_k
    | with_reducible apply State.settle_k
    | with_reducible apply State.noteHoldup_k
    | with_reducible apply State.faultHold_k
    | with_reducible apply State.enterMode_k
    | with_reducible apply State.moduleChecks_k
    | (extract_lets +onlyGivenNames x; first
        | (with_reducible refine Kept.cut (x := x) ?_ ?_; (on_goal 2 => (clear_value x; intro hx)); (on_goal 1 => (unfold x; clear x)))
        | clear_value x
        | (unfold x; clear x))
    | exact rfl
    | split

theorem State.bringUpComplete_k {m : Nat} {s0 : State} (soundA : Bool) (soundB : Bool) (selfTest : Nat) (units :
    List Nat) (rows : List (Nat × Nat)) (uf : Nat) (mw : Nat) (picks : List Nat) (s : State) (hm : 0x7FFFFFFFFFFFFF
    &&& m = 0x7FFFFFFFFFFFFF) (h0 : Kept m s0 s) : Kept m s0 (State.bringUpComplete soundA soundB selfTest units
    rows uf mw picks s) := by
  refine Kept.step hm ?_ h0; clear h0 hm
  unfold State.bringUpComplete
  repeat' first
    | with_reducible exact Kept.refl _ _
    | with_reducible apply State.faultHold_k
    | with_reducible apply State.raiseEpoch_k
    | with_reducible apply State.bringUpRest_k
    | with_reducible apply State.keeperBoot_k
    | with_reducible exact KeptO.none
    | with_reducible apply KeptO.some
    | (with_reducible refine KeptO.get (by assumption) ?_)
    | exact rfl
    | split

theorem State.bringUpTimeout_k {m : Nat} {s0 : State} (stage : Nat) (s : State) (hm : 0x2BF3F7FFF0FFDC &&& m =
    0x2BF3F7FFF0FFDC) (h0 : Kept m s0 s) : Kept m s0 (State.bringUpTimeout stage s) := by
  refine Kept.step hm ?_ h0; clear h0 hm
  unfold State.bringUpTimeout
  repeat' first
    | with_reducible exact Kept.refl _ _
    | with_reducible apply State.faultHold_k
    | exact rfl
    | split

theorem State.tempUpdate_k {m : Nat} {s0 : State} (t : Int) (s : State) (hm : 0x3BF3F7FFF0FFDC &&& m =
    0x3BF3F7FFF0FFDC) (h0 : Kept m s0 s) : Kept m s0 (State.tempUpdate t s) := by
  refine Kept.step hm ?_ h0; clear h0 hm
  unfold State.tempUpdate
  repeat' first
    | with_reducible exact Kept.refl _ _
    | with_reducible assumption
    | with_reducible apply State.wr_k
    | with_reducible apply State.faultHold_k
    | (extract_lets +onlyGivenNames x; first
        | (with_reducible refine Kept.cut (x := x) ?_ ?_; (on_goal 2 => (clear_value x; intro hx)); (on_goal 1 => (unfold x; clear x)))
        | clear_value x
        | (unfold x; clear x))
    | exact rfl
    | split
    | (with_reducible apply Kept.upd <;> try first
        | exact rfl
        | exact Or.inl rfl
        | exact Or.inr rfl)

theorem State.rateWindow_k {m : Nat} {s0 : State} (c : Nat) (rate : Nat) (s : State) (hm : 0x3010003C000008 &&&
    m = 0x3010003C000008) (h0 : Kept m s0 s) : Kept m s0 (State.rateWindow c rate s) := by
  refine Kept.step hm ?_ h0; clear h0 hm
  unfold State.rateWindow
  repeat' first
    | with_reducible exact Kept.refl _ _
    | with_reducible assumption
    | with_reducible apply State.modRecord_k
    | with_reducible apply State.wr_k
    | with_reducible apply State.countHlt_k
    | (extract_lets +onlyGivenNames x; first
        | (with_reducible refine Kept.cut (x := x) ?_ ?_; (on_goal 2 => (clear_value x; intro hx)); (on_goal 1 => (unfold x; clear x)))
        | clear_value x
        | (unfold x; clear x))
    | exact rfl
    | split
    | with_reducible apply Kept.set_health

theorem State.fireWake_k {m : Nat} {s0 : State} (cause : Nat) (ns : List Nat) (s : State) (hm : 0x7FFFFFFFFFFFFF
    &&& m = 0x7FFFFFFFFFFFFF) (h0 : Kept m s0 s) : Kept m s0 (State.fireWake cause ns s) := by
  refine Kept.step hm ?_ h0; clear h0 hm
  unfold State.fireWake
  repeat' first
    | with_reducible exact Kept.refl _ _
    | with_reducible assumption
    | with_reducible apply State.upLane_k
    | with_reducible apply State.wake_k
    | with_reducible apply Kept.each
    | (extract_lets +onlyGivenNames x; first
        | (with_reducible refine Kept.cut (x := x) ?_ ?_; (on_goal 2 => (clear_value x; intro hx)); (on_goal 1 => (unfold x; clear x)))
        | clear_value x
        | (unfold x; clear x))
    | exact rfl
    | (intro _ _)
    | split
    | with_reducible apply Kept.set_ctl

theorem State.wakePattern_k {m : Nat} {s0 : State} (ns : List Nat) (s : State) (hm : 0x7FFFFFFFFFFFFF &&& m =
    0x7FFFFFFFFFFFFF) (h0 : Kept m s0 s) : Kept m s0 (State.wakePattern ns s) := by
  refine Kept.step hm ?_ h0; clear h0 hm
  unfold State.wakePattern
  repeat' first
    | with_reducible exact Kept.refl _ _
    | with_reducible apply State.fireWake_k
    | exact rfl

theorem State.wakeFrame_k {m : Nat} {s0 : State} (n : Nat) (ident : Nat) (dlc : Nat) (data : List Byte) (s :
    State) (hm : 0x7FFFFFFFFFFFFF &&& m = 0x7FFFFFFFFFFFFF) (h0 : Kept m s0 s) : Kept m s0 (State.wakeFrame n ident
    dlc data s) := by
  refine Kept.step hm ?_ h0; clear h0 hm
  unfold State.wakeFrame
  repeat' first
    | with_reducible exact Kept.refl _ _
    | with_reducible assumption
    | with_reducible apply State.upLane_k
    | with_reducible apply State.fireWake_k
    | (extract_lets +onlyGivenNames x; first
        | (with_reducible refine Kept.cut (x := x) ?_ ?_; (on_goal 2 => (clear_value x; intro hx)); (on_goal 1 => (unfold x; clear x)))
        | clear_value x
        | (unfold x; clear x))
    | exact rfl
    | split

theorem State.wufFrame_k {m : Nat} {s0 : State} (n : Nat) (valid : Bool) (error : Bool) (s : State) (hm :
    0x7FFFFFFFFFFFFF &&& m = 0x7FFFFFFFFFFFFF) (h0 : Kept m s0 s) : Kept m s0 (State.wufFrame n valid error s) := by
  refine Kept.step hm ?_ h0; clear h0 hm
  unfold State.wufFrame
  repeat' first
    | with_reducible exact Kept.refl _ _
    | with_reducible assumption
    | with_reducible apply State.upLane_k
    | with_reducible apply State.fireWake_k
    | (extract_lets +onlyGivenNames x; first
        | (with_reducible refine Kept.cut (x := x) ?_ ?_; (on_goal 2 => (clear_value x; intro hx)); (on_goal 1 => (unfold x; clear x)))
        | clear_value x
        | (unfold x; clear x))
    | exact rfl
    | split

theorem State.wufErrcnt_k {m : Nat} {s0 : State} (n : Nat) (s : State) (hm : 0x7FFFFFFFFFFFFF &&& m =
    0x7FFFFFFFFFFFFF) (h0 : Kept m s0 s) : Kept m s0 (State.wufErrcnt n s) := by
  refine Kept.step hm ?_ h0; clear h0 hm
  unfold State.wufErrcnt
  repeat' first
    | with_reducible exact Kept.refl _ _
    | with_reducible apply State.wufFrame_k
    | exact rfl
    | split

theorem State.bar2Write_k {m : Nat} {s0 : State} (a : Nat) (be : Nat) (w : Word) (s : State) (hm : 0x48 &&& m =
    0x48) (h0 : Kept m s0 s) : Kept m s0 (State.bar2Write a be w s) := by
  refine Kept.step hm ?_ h0; clear h0 hm
  unfold State.bar2Write
  repeat' first
    | with_reducible exact Kept.refl _ _
    | with_reducible assumption
    | with_reducible apply Kept.each
    | with_reducible apply State.setCellByte_k
    | with_reducible apply State.cnt_k
    | (extract_lets +onlyGivenNames x; first
        | (with_reducible refine Kept.cut (x := x) ?_ ?_; (on_goal 2 => (clear_value x; intro hx)); (on_goal 1 => (unfold x; clear x)))
        | clear_value x
        | (unfold x; clear x))
    | exact rfl
    | (intro _ _)
    | split

theorem State.bar2Read_k {m : Nat} {s0 : State} (a : Nat) (e : Ecc) (s : State) (hm : 0x2010003C000008 &&& m =
    0x2010003C000008) (h0 : Kept m s0 s) : Kept m s0 (State.bar2Read a e s) := by
  refine Kept.step hm ?_ h0; clear h0 hm
  unfold State.bar2Read
  repeat' first
    | with_reducible exact Kept.refl _ _
    | with_reducible assumption
    | with_reducible apply State.noteUe_k
    | with_reducible apply State.cntF_k
    | with_reducible apply State.emit_k
    | (extract_lets +onlyGivenNames x; first
        | (with_reducible refine Kept.cut (x := x) ?_ ?_; (on_goal 2 => (clear_value x; intro hx)); (on_goal 1 => (unfold x; clear x)))
        | clear_value x
        | (unfold x; clear x))
    | exact rfl
    | split

end Sys2Proof.Machine
end

