-- ==== Sys2Proof/Laws/FrameCommands.lean ====
section
/-! SUPPORT. Frames of Machine/Commands.lean: the fields each function may change. -/
namespace Sys2Proof.Machine
open Sys2Proof

theorem State.running_k {m : Nat} {s0 : State} (op : Nat) (f : Cmd → State → State) (s : State) (h_f : ∀ v0 v1,
    Kept m s0 v1 → Kept m s0 (f v0 v1)) (hm : 0x0 &&& m = 0x0) (h0 : Kept m s0 s) : Kept m s0 (State.running op f s)
    := by
  unfold State.running
  repeat' first
    | with_reducible exact Kept.refl _ _
    | with_reducible assumption
    | with_reducible apply h_f
    | exact sub_trans rfl hm
    | split

theorem State.commandFetch_k {m : Nat} {s0 : State} (entry : Option (List Byte)) (s : State) (hm :
    0x201000BC00000C &&& m = 0x201000BC00000C) (h0 : Kept m s0 s) : Kept m s0 (State.commandFetch entry s) := by
  refine Kept.step hm ?_ h0; clear h0 hm
  unfold State.commandFetch
  repeat' first
    | with_reducible exact Kept.refl _ _
    | with_reducible assumption
    | with_reducible apply State.wr_k
    | with_reducible apply State.submitCmd_k
    | (extract_lets +onlyGivenNames x; first
        | (with_reducible refine Kept.cut (x := x) ?_ ?_; (on_goal 2 => (clear_value x; intro hx)); (on_goal 1 => (unfold x; clear x)))
        | clear_value x
        | (unfold x; clear x))
    | exact rfl
    | split

theorem State.onChannel_k {m : Nat} {s0 : State} (c : Cmd) (f : State → State) (s : State) (h_f : ∀ v0, Kept m
    s0 v0 → Kept m s0 (f v0)) (hm : 0x201000BC000004 &&& m = 0x201000BC000004) (h0 : Kept m s0 s) : Kept m s0
    (State.onChannel c f s) := by
  unfold State.onChannel
  repeat' first
    | with_reducible exact Kept.refl _ _
    | with_reducible assumption
    | with_reducible apply State.finish_k
    | with_reducible apply h_f
    | exact sub_trans rfl hm
    | split

theorem State.finishBefore_k {m : Nat} {s0 : State} (f : State → State) (s : State) (h_f : ∀ v0, Kept m s0 v0 →
    Kept m s0 (f v0)) (hm : 0x201000BC000004 &&& m = 0x201000BC000004) (h0 : Kept m s0 s) : Kept m s0
    (State.finishBefore f s) := by
  unfold State.finishBefore
  repeat' first
    | with_reducible exact Kept.refl _ _
    | with_reducible assumption
    | with_reducible apply State.settle_k
    | with_reducible apply State.respond_k
    | with_reducible apply h_f
    | (extract_lets +onlyGivenNames x; first
        | (with_reducible refine Kept.cut (x := x) ?_ ?_; (on_goal 2 => (clear_value x; intro hx)); (on_goal 1 => (unfold x; clear x)))
        | clear_value x
        | (unfold x; clear x))
    | exact sub_trans rfl hm
    | split
    | with_reducible apply Kept.set_ctl

theorem State.enterStandby_k {m : Nat} {s0 : State} (s : State) (hm : 0x7FFFFFFFFFFFFF &&& m = 0x7FFFFFFFFFFFFF)
    (h0 : Kept m s0 s) : Kept m s0 (State.enterStandby s) := by
  refine Kept.step hm ?_ h0; clear h0 hm
  unfold State.enterStandby
  repeat' first
    | with_reducible exact Kept.refl _ _
    | with_reducible assumption
    | with_reducible apply State.running_k
    | with_reducible apply State.finish_k
    | with_reducible apply State.enterMode_k
    | exact rfl
    | (intro _ _ _)

theorem State.resume_k {m : Nat} {s0 : State} (s : State) (hm : 0x7FFFFFFFFFFFFF &&& m = 0x7FFFFFFFFFFFFF) (h0 :
    Kept m s0 s) : Kept m s0 (State.resume s) := by
  refine Kept.step hm ?_ h0; clear h0 hm
  unfold State.resume
  repeat' first
    | with_reducible exact Kept.refl _ _
    | with_reducible assumption
    | with_reducible apply State.running_k
    | with_reducible apply State.finish_k
    | with_reducible apply State.enterMode_k
    | exact rfl
    | (intro _ _ _)

theorem State.enterSleep_k {m : Nat} {s0 : State} (s : State) (hm : 0x7FFFFFFFFFFFFF &&& m = 0x7FFFFFFFFFFFFF)
    (h0 : Kept m s0 s) : Kept m s0 (State.enterSleep s) := by
  refine Kept.step hm ?_ h0; clear h0 hm
  unfold State.enterSleep
  repeat' first
    | with_reducible exact Kept.refl _ _
    | with_reducible assumption
    | with_reducible apply State.upLane_k
    | with_reducible apply State.finishBefore_k
    | with_reducible apply State.running_k
    | with_reducible apply State.wake_k
    | with_reducible apply Kept.each
    | with_reducible apply State.l1Leave_k
    | with_reducible apply State.enterMode_k
    | with_reducible apply State.sleepShake_k
    | (extract_lets +onlyGivenNames x; first
        | (with_reducible refine Kept.cut (x := x) ?_ ?_; (on_goal 2 => (clear_value x; intro hx)); (on_goal 1 => (unfold x; clear x)))
        | clear_value x
        | (unfold x; clear x))
    | exact rfl
    | (intro _ _ _)
    | (intro _ _)
    | (intro _ _)
    | split
    | with_reducible apply Kept.set_ctl

theorem State.enterService_k {m : Nat} {s0 : State} (s : State) (hm : 0x7FFFFFFFFFFFFF &&& m = 0x7FFFFFFFFFFFFF)
    (h0 : Kept m s0 s) : Kept m s0 (State.enterService s) := by
  refine Kept.step hm ?_ h0; clear h0 hm
  unfold State.enterService
  repeat' first
    | with_reducible exact Kept.refl _ _
    | with_reducible assumption
    | with_reducible apply State.running_k
    | with_reducible apply State.finish_k
    | with_reducible apply State.enterMode_k
    | exact rfl
    | (intro _ _ _)
    | split

theorem State.returnedEngines_k {m : Nat} {s0 : State} (s : State) (hm : 0x2031003C008808 &&& m =
    0x2031003C008808) (h0 : Kept m s0 s) : Kept m s0 (State.returnedEngines s) := by
  refine Kept.step hm ?_ h0; clear h0 hm
  unfold State.returnedEngines
  repeat' first
    | with_reducible exact Kept.refl _ _
    | with_reducible apply State.restartEngine_k
    | with_reducible apply Kept.each
    | exact rfl
    | (intro _ _)
    | split

theorem State.leaveService_k {m : Nat} {s0 : State} (s : State) (hm : 0x7FFFFFFFFFFFFF &&& m = 0x7FFFFFFFFFFFFF)
    (h0 : Kept m s0 s) : Kept m s0 (State.leaveService s) := by
  refine Kept.step hm ?_ h0; clear h0 hm
  unfold State.leaveService
  repeat' first
    | with_reducible exact Kept.refl _ _
    | with_reducible assumption
    | with_reducible apply State.running_k
    | with_reducible apply State.returnedEngines_k
    | with_reducible apply State.finish_k
    | with_reducible apply State.enterMode_k
    | exact rfl
    | (intro _ _ _)

theorem State.enterTest_k {m : Nat} {s0 : State} (s : State) (hm : 0x7FFFFFFFFFFFFF &&& m = 0x7FFFFFFFFFFFFF)
    (h0 : Kept m s0 s) : Kept m s0 (State.enterTest s) := by
  refine Kept.step hm ?_ h0; clear h0 hm
  unfold State.enterTest
  repeat' first
    | with_reducible exact Kept.refl _ _
    | with_reducible assumption
    | with_reducible apply State.running_k
    | with_reducible apply State.finish_k
    | with_reducible apply State.enterMode_k
    | exact rfl
    | (intro _ _ _)
    | split

theorem State.beaconAnew_k {m : Nat} {s0 : State} (s : State) (hm : 0x22001100000000 &&& m = 0x22001100000000)
    (h0 : Kept m s0 s) : Kept m s0 (State.beaconAnew s) := by
  refine Kept.step hm ?_ h0; clear h0 hm
  unfold State.beaconAnew
  repeat' first
    | with_reducible exact Kept.refl _ _
    | with_reducible assumption
    | with_reducible apply State.beaconRestart_k
    | with_reducible apply State.upKeeper_k
    | exact rfl
    | with_reducible apply Kept.set_ports
    | exact fun hw => Tbl.wf_mapv _ _ _ hw

theorem State.leaveTest_k {m : Nat} {s0 : State} (s : State) (hm : 0x7FFFFFFFFFFFFF &&& m = 0x7FFFFFFFFFFFFF)
    (h0 : Kept m s0 s) : Kept m s0 (State.leaveTest s) := by
  refine Kept.step hm ?_ h0; clear h0 hm
  unfold State.leaveTest
  repeat' first
    | with_reducible exact Kept.refl _ _
    | with_reducible assumption
    | with_reducible apply State.beaconAnew_k
    | with_reducible apply State.running_k
    | with_reducible apply State.finish_k
    | with_reducible apply State.enterMode_k
    | with_reducible apply State.dropStructure_k
    | exact rfl
    | (intro _ _ _)

theorem State.moduleReset_k {m : Nat} {s0 : State} (s : State) (hm : 0x7FFFFFFFFFFFFF &&& m = 0x7FFFFFFFFFFFFF)
    (h0 : Kept m s0 s) : Kept m s0 (State.moduleReset s) := by
  refine Kept.step hm ?_ h0; clear h0 hm
  unfold State.moduleReset
  repeat' first
    | with_reducible exact Kept.refl _ _
    | with_reducible assumption
    | with_reducible apply State.finishBefore_k
    | with_reducible apply State.running_k
    | with_reducible apply State.finish_k
    | with_reducible apply State.enterMode_k
    | exact rfl
    | (intro _ _ _)
    | (intro _ _)
    | split

theorem State.cmdNop_k {m : Nat} {s0 : State} (s : State) (hm : 0x201000BC000004 &&& m = 0x201000BC000004) (h0 :
    Kept m s0 s) : Kept m s0 (State.cmdNop s) := by
  refine Kept.step hm ?_ h0; clear h0 hm
  unfold State.cmdNop
  repeat' first
    | with_reducible exact Kept.refl _ _
    | with_reducible assumption
    | with_reducible apply State.running_k
    | with_reducible apply State.finish_k
    | exact rfl
    | (intro _ _ _)

theorem State.cmdRestep_k {m : Nat} {s0 : State} (s : State) (hm : 0x201001BC000004 &&& m = 0x201001BC000004)
    (h0 : Kept m s0 s) : Kept m s0 (State.cmdRestep s) := by
  refine Kept.step hm ?_ h0; clear h0 hm
  unfold State.cmdRestep
  repeat' first
    | with_reducible exact Kept.refl _ _
    | with_reducible assumption
    | with_reducible apply State.running_k
    | with_reducible apply State.restep_k
    | with_reducible apply State.finish_k
    | exact rfl
    | (intro _ _ _)

theorem State.cmdBusRetry_k {m : Nat} {s0 : State} (s : State) (hm : 0x201004BC000004 &&& m = 0x201004BC000004)
    (h0 : Kept m s0 s) : Kept m s0 (State.cmdBusRetry s) := by
  refine Kept.step hm ?_ h0; clear h0 hm
  unfold State.cmdBusRetry
  repeat' first
    | with_reducible exact Kept.refl _ _
    | with_reducible assumption
    | with_reducible apply State.running_k
    | with_reducible apply State.busRetry_k
    | with_reducible apply State.onChannel_k
    | exact rfl
    | (intro _ _ _)
    | (intro _ _)

theorem State.cmdUnpark_k {m : Nat} {s0 : State} (s : State) (hm : 0x201004BC000004 &&& m = 0x201004BC000004)
    (h0 : Kept m s0 s) : Kept m s0 (State.cmdUnpark s) := by
  refine Kept.step hm ?_ h0; clear h0 hm
  unfold State.cmdUnpark
  repeat' first
    | with_reducible exact Kept.refl _ _
    | with_reducible assumption
    | with_reducible apply State.running_k
    | with_reducible apply State.unpark_k
    | with_reducible apply State.onChannel_k
    | exact rfl
    | (intro _ _ _)
    | (intro _ _)

theorem State.cmdSparOn_k {m : Nat} {s0 : State} (s : State) (hm : 0x281000BC00000C &&& m = 0x281000BC00000C)
    (h0 : Kept m s0 s) : Kept m s0 (State.cmdSparOn s) := by
  refine Kept.step hm ?_ h0; clear h0 hm
  unfold State.cmdSparOn
  repeat' first
    | with_reducible exact Kept.refl _ _
    | with_reducible assumption
    | with_reducible apply State.running_k
    | with_reducible apply State.sparOn_k
    | with_reducible apply State.finish_k
    | (with_reducible refine KeptP.get (by assumption) ?_)
    | (with_reducible refine KeptT.get (by assumption) ?_)
    | exact rfl
    | (intro _ _ _)
    | split

theorem State.cmdSparOff_k {m : Nat} {s0 : State} (s : State) (hm : 0x281000BC00000C &&& m = 0x281000BC00000C)
    (h0 : Kept m s0 s) : Kept m s0 (State.cmdSparOff s) := by
  refine Kept.step hm ?_ h0; clear h0 hm
  unfold State.cmdSparOff
  repeat' first
    | with_reducible exact Kept.refl _ _
    | with_reducible assumption
    | with_reducible apply State.running_k
    | with_reducible apply State.finish_k
    | with_reducible apply State.sparOff_k
    | exact rfl
    | (intro _ _ _)
    | split

theorem State.cmdSparClear_k {m : Nat} {s0 : State} (damaged : Nat) (s : State) (hm : 0x3A7B17FE00FFCC &&& m =
    0x3A7B17FE00FFCC) (h0 : Kept m s0 s) : Kept m s0 (State.cmdSparClear damaged s) := by
  refine Kept.step hm ?_ h0; clear h0 hm
  unfold State.cmdSparClear
  repeat' first
    | with_reducible exact Kept.refl _ _
    | with_reducible assumption
    | with_reducible apply State.running_k
    | with_reducible apply State.finish_k
    | with_reducible apply State.sparClear_k
    | exact rfl
    | (intro _ _ _)
    | split

theorem State.cmdApprove_k {m : Nat} {s0 : State} (s : State) (hm : 0x3A7B17FE00FFCC &&& m = 0x3A7B17FE00FFCC)
    (h0 : Kept m s0 s) : Kept m s0 (State.cmdApprove s) := by
  refine Kept.step hm ?_ h0; clear h0 hm
  unfold State.cmdApprove
  repeat' first
    | with_reducible exact Kept.refl _ _
    | with_reducible assumption
    | with_reducible apply State.running_k
    | with_reducible apply State.approve_k
    | with_reducible apply State.finish_k
    | exact rfl
    | (intro _ _ _)
    | split

theorem State.cmdCal_k {m : Nat} {s0 : State} (s : State) (hm : 0x221000BC000004 &&& m = 0x221000BC000004) (h0 :
    Kept m s0 s) : Kept m s0 (State.cmdCal s) := by
  refine Kept.step hm ?_ h0; clear h0 hm
  unfold State.cmdCal
  repeat' first
    | with_reducible exact Kept.refl _ _
    | with_reducible assumption
    | with_reducible apply State.running_k
    | with_reducible apply State.queueOp_k
    | with_reducible apply State.finish_k
    | (extract_lets +onlyGivenNames x; first
        | (with_reducible refine Kept.cut (x := x) ?_ ?_; (on_goal 2 => (clear_value x; intro hx)); (on_goal 1 => (unfold x; clear x)))
        | clear_value x
        | (unfold x; clear x))
    | exact rfl
    | (intro _ _ _)
    | split

theorem State.putWords_k {m : Nat} {s0 : State} (a0 : Nat) (a1 : List Nat) (a2 : State) (hm : 0x8 &&& m = 0x8)
    (h0 : Kept m s0 a2) : Kept m s0 (State.putWords a0 a1 a2) := by
  fun_induction State.putWords a0 a1 a2
  repeat' first
    | with_reducible exact Kept.refl _ _
    | with_reducible assumption
    | with_reducible apply State.wr_k
    | (rename_i ih; with_reducible apply ih)

theorem State.snapshot_k {m : Nat} {s0 : State} (s : State) (hm : 0x20008 &&& m = 0x20008) (h0 : Kept m s0 s) :
    Kept m s0 (State.snapshot s) := by
  refine Kept.step hm ?_ h0; clear h0 hm
  unfold State.snapshot
  repeat' first
    | with_reducible exact Kept.refl _ _
    | with_reducible assumption
    | with_reducible apply State.wr_k
    | with_reducible apply State.putWords_k
    | exact rfl
    | with_reducible apply Kept.set_psnap

theorem State.cmdAudit_k {m : Nat} {s0 : State} (s : State) (hm : 0x201000BC02000C &&& m = 0x201000BC02000C) (h0
    : Kept m s0 s) : Kept m s0 (State.cmdAudit s) := by
  refine Kept.step hm ?_ h0; clear h0 hm
  unfold State.cmdAudit
  repeat' first
    | with_reducible exact Kept.refl _ _
    | with_reducible assumption
    | with_reducible apply State.running_k
    | with_reducible apply State.finish_k
    | with_reducible apply State.snapshot_k
    | exact rfl
    | (intro _ _ _)

end Sys2Proof.Machine
end

