-- ==== Sys2Proof/Laws/FrameRows.lean ====
section
/-! SUPPORT. Frames of Machine/Rows.lean: the fields each function may change. -/
namespace Sys2Proof.Machine
open Sys2Proof

theorem State.put_k {m : Nat} {s0 : State} (yw : Bool) (off : Nat) (w : Word) (s : State) (hm : 0x7A7F1F7F91FFDC
    &&& m = 0x7A7F1F7F91FFDC) (h0 : Kept m s0 s) : Kept m s0 (State.put yw off w s) := by
  refine Kept.step hm ?_ h0; clear h0 hm
  unfold State.put
  repeat' first
    | with_reducible exact Kept.refl _ _
    | with_reducible apply State.writeWord_k
    | exact rfl

theorem State.readBy_k {m : Nat} {s0 : State} (yw : Bool) (off : Nat) (s : State) (hm : 0x20000308000028 &&& m =
    0x20000308000028) (h0 : Kept m s0 s) : Kept m s0 (State.readBy yw off s) := by
  refine Kept.step hm ?_ h0; clear h0 hm
  unfold State.readBy
  repeat' first
    | with_reducible exact Kept.refl _ _
    | with_reducible assumption
    | with_reducible apply State.readWord_k
    | with_reducible apply State.emit_k
    | (with_reducible refine KeptP.get (by assumption) ?_)
    | (with_reducible refine KeptT.get (by assumption) ?_)
    | exact rfl
    | split

theorem State.aliasBy_k {m : Nat} {s0 : State} (a : Nat) (yw : Bool) (off : Nat) (w : Word) (s : State) (hm :
    0x7A7F1F7F91FFDC &&& m = 0x7A7F1F7F91FFDC) (h0 : Kept m s0 s) : Kept m s0 (State.aliasBy a yw off w s) := by
  refine Kept.step hm ?_ h0; clear h0 hm
  unfold State.aliasBy
  repeat' first
    | with_reducible exact Kept.refl _ _
    | with_reducible apply State.put_k
    | exact rfl
    | split

theorem State.updateBy_k {m : Nat} {s0 : State} (yw : Bool) (kind : Nat) (inbuf : Bool) (len : Nat) (fetched :
    Option (List Byte)) (s : State) (hm : 0x7A7F1F7F91FFDC &&& m = 0x7A7F1F7F91FFDC) (h0 : Kept m s0 s) : Kept m s0
    (State.updateBy yw kind inbuf len fetched s) := by
  refine Kept.step hm ?_ h0; clear h0 hm
  unfold State.updateBy
  repeat' first
    | with_reducible exact Kept.refl _ _
    | with_reducible apply State.writeWord_k
    | exact rfl

theorem State.sessionExpiry_k {m : Nat} {s0 : State} (s : State) (hm : 0x2210003C000008 &&& m =
    0x2210003C000008) (h0 : Kept m s0 s) : Kept m s0 (State.sessionExpiry s) := by
  refine Kept.step hm ?_ h0; clear h0 hm
  unfold State.sessionExpiry
  repeat' first
    | with_reducible exact Kept.refl _ _
    | with_reducible apply State.closeSession_k
    | exact rfl
    | split

end Sys2Proof.Machine
end

