-- ==== Sys2Proof/Laws/FrameExec.lean ====
section
/-! SUPPORT. Frames of the commands' meanings: the fields each may change. -/
namespace Sys2Proof.Machine
open Sys2Proof

theorem execRegisterWrite_k (yw : Bool) (off : Nat) (be : Nat) (w : Word) (fetched : Option (List Byte)) (e :
    Meets) (s : State) {post : State} (h : execRegisterWrite yw off be w fetched e s = .next post) : Kept
    0x7A7F1F7F91FFDC s post := by
  cases h
  repeat' first
    | with_reducible exact Kept.refl _ _
    | with_reducible apply State.writeWord_k
    | exact rfl

theorem execLatchedRead_k (yw : Bool) (off : Nat) (s : State) {post : State} (h : execLatchedRead yw off s =
    .next post) : Kept 0x20000308000028 s post := by
  cases h
  repeat' first
    | with_reducible exact Kept.refl _ _
    | with_reducible apply State.readBy_k
    | exact rfl

theorem execCounterReadClear_k (yw : Bool) (off : Nat) (s : State) {post : State} (h : execCounterReadClear yw
    off s = .next post) : Kept 0x20000308000028 s post := by
  cases h
  repeat' first
    | with_reducible exact Kept.refl _ _
    | with_reducible apply State.readBy_k
    | exact rfl

theorem execStickySet_k (yw : Bool) (off : Nat) (w : Word) (s : State) {post : State} (h : execStickySet yw off
    w s = .next post) : Kept 0x7A7F1F7F91FFDC s post := by
  cases h
  repeat' first
    | with_reducible exact Kept.refl _ _
    | with_reducible apply State.aliasBy_k
    | exact rfl

theorem execStickyClear_k (yw : Bool) (off : Nat) (w : Word) (s : State) {post : State} (h : execStickyClear yw
    off w s = .next post) : Kept 0x7A7F1F7F91FFDC s post := by
  cases h
  repeat' first
    | with_reducible exact Kept.refl _ _
    | with_reducible apply State.aliasBy_k
    | exact rfl

theorem execBar2Write_k (a : Nat) (be : Nat) (w : Word) (s : State) {post : State} (h : execBar2Write a be w s =
    .next post) : Kept 0x48 s post := by
  cases h
  repeat' first
    | with_reducible exact Kept.refl _ _
    | with_reducible apply State.bar2Write_k
    | exact rfl

theorem execBar2Read_k (a : Nat) (e : Ecc) (s : State) {post : State} (h : execBar2Read a e s = .next post) :
    Kept 0x2010003C000008 s post := by
  cases h
  repeat' first
    | with_reducible exact Kept.refl _ _
    | with_reducible apply State.bar2Read_k
    | exact rfl

theorem execCmdqTail_k (yw : Bool) (w : Word) (s : State) {post : State} (h : execCmdqTail yw w s = .next post)
    : Kept 0x7A7F1F7F91FFDC s post := by
  cases h
  repeat' first
    | with_reducible exact Kept.refl _ _
    | with_reducible apply State.put_k
    | exact rfl

theorem execCmdqCfg_k (yw : Bool) (w : Word) (s : State) {post : State} (h : execCmdqCfg yw w s = .next post) :
    Kept 0x7A7F1F7F91FFDC s post := by
  cases h
  repeat' first
    | with_reducible exact Kept.refl _ _
    | with_reducible apply State.put_k
    | exact rfl

theorem execCommandFetch_k (entry : Option (List Byte)) (s : State) {post : State} (h : execCommandFetch entry s
    = .next post) : Kept 0x201000BC00000C s post := by
  cases h
  repeat' first
    | with_reducible exact Kept.refl _ _
    | with_reducible apply State.commandFetch_k
    | exact rfl

theorem execNop_k (s : State) {post : State} (h : execNop s = .next post) : Kept 0x201000BC000004 s post := by
  cases h
  repeat' first
    | with_reducible exact Kept.refl _ _
    | with_reducible apply State.cmdNop_k
    | exact rfl

theorem execLoadStream_k (picks : List Nat) (header : Option (List Byte)) (body : Option (List Byte)) (s :
    State) {post : State} (h : execLoadStream picks header body s = .next post) : Kept 0x7FFFFFFFFFFFFF s post := by
  cases h
  repeat' first
    | with_reducible exact Kept.refl _ _
    | with_reducible apply State.loadStream_k
    | exact rfl

theorem execStreamValidation_k (t : Nat) (s : State) {post : State} (h : execStreamValidation t s = .next post)
    : Kept 0x7FFFFFFFFFFFFF s post := by
  cases h
  repeat' first
    | with_reducible exact Kept.refl _ _
    | with_reducible apply State.validate_k
    | exact rfl

theorem execAutoloadCopy_k (s : State) {post : State} (h : execAutoloadCopy s = .next post) : Kept
    0x2800000000000 s post := by
  cases h
  repeat' first
    | with_reducible exact Kept.refl _ _
    | with_reducible apply State.autoloadCopy_k
    | exact rfl

theorem execLoaderHoldRelease_k (t : Nat) (s : State) {post : State} (h : execLoaderHoldRelease t s = .next
    post) : Kept 0x7FFFFFFFFFFFFF s post := by
  cases h
  repeat' first
    | with_reducible exact Kept.refl _ _
    | with_reducible apply State.step8_k
    | exact rfl

theorem execReloadCluster_k (header : Option (List Byte)) (body : Option (List Byte)) (s : State) {post : State}
    (h : execReloadCluster header body s = .next post) : Kept 0x7FFFFFFFFFFFFF s post := by
  cases h
  repeat' first
    | with_reducible exact Kept.refl _ _
    | with_reducible apply State.reloadCluster_k
    | exact rfl

theorem execClusterStage6_k (c : Nat) (s : State) {post : State} (h : execClusterStage6 c s = .next post) : Kept
    0x7FFFFFFFFFFFFF s post := by
  cases h
  repeat' first
    | with_reducible exact Kept.refl _ _
    | with_reducible apply State.clusterStage6_k
    | exact rfl

theorem execHoldMaxExpiry_k (c : Nat) (s : State) {post : State} (h : execHoldMaxExpiry c s = .next post) : Kept
    0x2010123C00598C s post := by
  cases h
  repeat' first
    | with_reducible exact Kept.refl _ _
    | with_reducible apply State.holdMax_k
    | exact rfl

theorem execUnload_k (s : State) {post : State} (h : execUnload s = .next post) : Kept 0x7FFFFFFFFFFFFF s post
    := by
  cases h
  repeat' first
    | with_reducible exact Kept.refl _ _
    | with_reducible apply State.unload_k
    | exact rfl

theorem execEnterStandby_k (s : State) {post : State} (h : execEnterStandby s = .next post) : Kept
    0x7FFFFFFFFFFFFF s post := by
  cases h
  repeat' first
    | with_reducible exact Kept.refl _ _
    | with_reducible apply State.enterStandby_k
    | exact rfl

theorem execResume_k (s : State) {post : State} (h : execResume s = .next post) : Kept 0x7FFFFFFFFFFFFF s post
    := by
  cases h
  repeat' first
    | with_reducible exact Kept.refl _ _
    | with_reducible apply State.resume_k
    | exact rfl

theorem execEnterSleep_k (s : State) {post : State} (h : execEnterSleep s = .next post) : Kept 0x7FFFFFFFFFFFFF
    s post := by
  cases h
  repeat' first
    | with_reducible exact Kept.refl _ _
    | with_reducible apply State.enterSleep_k
    | exact rfl

theorem execEnterService_k (s : State) {post : State} (h : execEnterService s = .next post) : Kept
    0x7FFFFFFFFFFFFF s post := by
  cases h
  repeat' first
    | with_reducible exact Kept.refl _ _
    | with_reducible apply State.enterService_k
    | exact rfl

theorem execLeaveService_k (s : State) {post : State} (h : execLeaveService s = .next post) : Kept
    0x7FFFFFFFFFFFFF s post := by
  cases h
  repeat' first
    | with_reducible exact Kept.refl _ _
    | with_reducible apply State.leaveService_k
    | exact rfl

theorem execEnterTest_k (s : State) {post : State} (h : execEnterTest s = .next post) : Kept 0x7FFFFFFFFFFFFF s
    post := by
  cases h
  repeat' first
    | with_reducible exact Kept.refl _ _
    | with_reducible apply State.enterTest_k
    | exact rfl

theorem execLeaveTest_k (s : State) {post : State} (h : execLeaveTest s = .next post) : Kept 0x7FFFFFFFFFFFFF s
    post := by
  cases h
  repeat' first
    | with_reducible exact Kept.refl _ _
    | with_reducible apply State.leaveTest_k
    | exact rfl

theorem execModuleReset_k (s : State) {post : State} (h : execModuleReset s = .next post) : Kept
    0x7FFFFFFFFFFFFF s post := by
  cases h
  repeat' first
    | with_reducible exact Kept.refl _ _
    | with_reducible apply State.moduleReset_k
    | exact rfl

theorem execRestep_k (s : State) {post : State} (h : execRestep s = .next post) : Kept 0x201001BC000004 s post
    := by
  cases h
  repeat' first
    | with_reducible exact Kept.refl _ _
    | with_reducible apply State.cmdRestep_k
    | exact rfl

theorem execBusRetry_k (s : State) {post : State} (h : execBusRetry s = .next post) : Kept 0x201004BC000004 s
    post := by
  cases h
  repeat' first
    | with_reducible exact Kept.refl _ _
    | with_reducible apply State.cmdBusRetry_k
    | exact rfl

theorem execBufUnpark_k (s : State) {post : State} (h : execBufUnpark s = .next post) : Kept 0x201004BC000004 s
    post := by
  cases h
  repeat' first
    | with_reducible exact Kept.refl _ _
    | with_reducible apply State.cmdUnpark_k
    | exact rfl

theorem execSparOn_k (s : State) {post : State} (h : execSparOn s = .next post) : Kept 0x281000BC00000C s post
    := by
  cases h
  repeat' first
    | with_reducible exact Kept.refl _ _
    | with_reducible apply State.cmdSparOn_k
    | exact rfl

theorem execSparOff_k (s : State) {post : State} (h : execSparOff s = .next post) : Kept 0x281000BC00000C s post
    := by
  cases h
  repeat' first
    | with_reducible exact Kept.refl _ _
    | with_reducible apply State.cmdSparOff_k
    | exact rfl

theorem execSparClear_k (damaged : Nat) (s : State) {post : State} (h : execSparClear damaged s = .next post) :
    Kept 0x3A7B17FE00FFCC s post := by
  cases h
  repeat' first
    | with_reducible exact Kept.refl _ _
    | with_reducible apply State.cmdSparClear_k
    | exact rfl

theorem execSpareApprove_k (s : State) {post : State} (h : execSpareApprove s = .next post) : Kept
    0x3A7B17FE00FFCC s post := by
  cases h
  repeat' first
    | with_reducible exact Kept.refl _ _
    | with_reducible apply State.cmdApprove_k
    | exact rfl

theorem execAuditSnapshot_k (s : State) {post : State} (h : execAuditSnapshot s = .next post) : Kept
    0x201000BC02000C s post := by
  cases h
  repeat' first
    | with_reducible exact Kept.refl _ _
    | with_reducible apply State.cmdAudit_k
    | exact rfl

theorem execCalCommit_k (s : State) {post : State} (h : execCalCommit s = .next post) : Kept 0x221000BC000004 s
    post := by
  cases h
  repeat' first
    | with_reducible exact Kept.refl _ _
    | with_reducible apply State.cmdCal_k
    | exact rfl

theorem execFeedInRange_k (feed : Nat) (mV : Nat) (s : State) {post : State} (h : execFeedInRange feed mV s =
    .next post) : Kept 0x7FFFFFFFFFFFFF s post := by
  cases h
  repeat' first
    | with_reducible exact Kept.refl _ _
    | with_reducible apply State.feedIn_k
    | exact rfl

theorem execFeedOutOfRange_k (feed : Nat) (mV : Nat) (s : State) {post : State} (h : execFeedOutOfRange feed mV
    s = .next post) : Kept 0x7FFFFFFFFFFFFF s post := by
  cases h
  repeat' first
    | with_reducible exact Kept.refl _ _
    | with_reducible apply State.feedOut_k
    | exact rfl

theorem execPwrRestore_k (s : State) {post : State} (h : execPwrRestore s = .next post) : Kept 0x7FFFFFFFFFFFFF
    s post := by
  cases h
  repeat' first
    | with_reducible exact Kept.refl _ _
    | with_reducible apply State.pwrRestore_k
    | exact rfl

theorem execReverseTurnOff_k (feed : Nat) (s : State) {post : State} (h : execReverseTurnOff feed s = .next
    post) : Kept 0x2410003C000008 s post := by
  cases h
  repeat' first
    | with_reducible exact Kept.refl _ _
    | with_reducible apply State.reverseOff_k
    | exact rfl

theorem execSeatMade_k (pin : Nat) (s : State) {post : State} (h : execSeatMade pin s = .next post) : Kept
    0x4000000000000 s post := by
  cases h
  repeat' first
    | with_reducible exact Kept.refl _ _
    | with_reducible apply State.seatMade_k
    | exact rfl

theorem execSeatDebounceDone_k (s : State) {post : State} (h : execSeatDebounceDone s = .next post) : Kept
    0x7FFFFFFFFFFFFF s post := by
  cases h
  repeat' first
    | with_reducible exact Kept.refl _ _
    | with_reducible apply State.seatDone_k
    | exact rfl

theorem execSeatOpen_k (pin : Nat) (s : State) {post : State} (h : execSeatOpen pin s = .next post) : Kept
    0x7FFFFFFFFFFFFF s post := by
  cases h
  repeat' first
    | with_reducible exact Kept.refl _ _
    | with_reducible apply State.seatOpen_k
    | exact rfl

theorem execInrushComplete_k (mV : Nat) (mA : Nat) (s : State) {post : State} (h : execInrushComplete mV mA s =
    .next post) : Kept 0x7FFFFFFFFFFFFF s post := by
  cases h
  repeat' first
    | with_reducible exact Kept.refl _ _
    | with_reducible apply State.inrushDone_k
    | exact rfl

theorem execInrushTimeout_k (mA : Nat) (s : State) {post : State} (h : execInrushTimeout mA s = .next post) :
    Kept 0x7FFFFFFFFFFFFF s post := by
  cases h
  repeat' first
    | with_reducible exact Kept.refl _ _
    | with_reducible apply State.inrushTimeout_k
    | exact rfl

theorem execInputLimit_k (mA : Nat) (s : State) {post : State} (h : execInputLimit mA s = .next post) : Kept
    0x2410003C000008 s post := by
  cases h
  repeat' first
    | with_reducible exact Kept.refl _ _
    | with_reducible apply State.inputLimit_k
    | exact rfl

theorem execInputFaultTimer_k (mA : Nat) (s : State) {post : State} (h : execInputFaultTimer mA s = .next post)
    : Kept 0x7FFFFFFFFFFFFF s post := by
  cases h
  repeat' first
    | with_reducible exact Kept.refl _ _
    | with_reducible apply State.inputFaultTimer_k
    | exact rfl

theorem execInputShort_k (mA : Nat) (s : State) {post : State} (h : execInputShort mA s = .next post) : Kept
    0x7FFFFFFFFFFFFF s post := by
  cases h
  repeat' first
    | with_reducible exact Kept.refl _ _
    | with_reducible apply State.inputShort_k
    | exact rfl

theorem execInputRetryEnd_k (s : State) {post : State} (h : execInputRetryEnd s = .next post) : Kept
    0x7FFFFFFFFFFFFF s post := by
  cases h
  repeat' first
    | with_reducible exact Kept.refl _ _
    | with_reducible apply State.inputRetryEnd_k
    | exact rfl

theorem execInputRetriesReset_k (s : State) {post : State} (h : execInputRetriesReset s = .next post) : Kept
    0x4000000000000 s post := by
  cases h
  repeat' first
    | with_reducible exact Kept.refl _ _
    | with_reducible apply State.inputRetriesReset_k
    | exact rfl

theorem execInputPassFault_k (s : State) {post : State} (h : execInputPassFault s = .next post) : Kept
    0x2FF3F7FFF0FFDC s post := by
  cases h
  repeat' first
    | with_reducible exact Kept.refl _ _
    | with_reducible apply State.inputPassFault_k
    | exact rfl

theorem execModPgAssert_k (s : State) {post : State} (h : execModPgAssert s = .next post) : Kept
    0x24000000000000 s post := by
  cases h
  repeat' first
    | with_reducible exact Kept.refl _ _
    | with_reducible apply State.modPgAssert_k
    | exact rfl

theorem execHoldupExhausted_k (mV : Nat) (s : State) {post : State} (h : execHoldupExhausted mV s = .next post)
    : Kept 0x7FFFFFFFFFFFFF s post := by
  cases h
  repeat' first
    | with_reducible exact Kept.refl _ _
    | with_reducible apply State.holdupExhausted_k
    | exact rfl

theorem execBringupComplete_k (soundA : Bool) (soundB : Bool) (selfTest : Nat) (units : List Nat) (rows : List
    (Nat × Nat)) (uf : Nat) (mW : Nat) (picks : List Nat) (s : State) {post : State} (h : execBringupComplete soundA
    soundB selfTest units rows uf mW picks s = .next post) : Kept 0x7FFFFFFFFFFFFF s post := by
  cases h
  repeat' first
    | with_reducible exact Kept.refl _ _
    | with_reducible apply State.bringUpComplete_k
    | exact rfl

theorem execBringupTimeout_k (stage : Nat) (s : State) {post : State} (h : execBringupTimeout stage s = .next
    post) : Kept 0x2BF3F7FFF0FFDC s post := by
  cases h
  repeat' first
    | with_reducible exact Kept.refl _ _
    | with_reducible apply State.bringUpTimeout_k
    | exact rfl

theorem execTempUpdate_k (t : Int) (s : State) {post : State} (h : execTempUpdate t s = .next post) : Kept
    0x3BF3F7FFF0FFDC s post := by
  cases h
  repeat' first
    | with_reducible exact Kept.refl _ _
    | with_reducible apply State.tempUpdate_k
    | exact rfl

theorem execRateWindow_k (c : Nat) (rate : Nat) (s : State) {post : State} (h : execRateWindow c rate s = .next
    post) : Kept 0x3010003C000008 s post := by
  cases h
  repeat' first
    | with_reducible exact Kept.refl _ _
    | with_reducible apply State.rateWindow_k
    | exact rfl

theorem execPerstDeassert_k (s : State) {post : State} (h : execPerstDeassert s = .next post) : Kept 0x20000000
    s post := by
  cases h
  repeat' first
    | with_reducible exact Kept.refl _ _
    | with_reducible apply State.perstHigh_k
    | exact rfl

theorem execHostLinkReset_k (kind : Nat) (s : State) {post : State} (h : execHostLinkReset kind s = .next post)
    : Kept 0x2010007C00A808 s post := by
  cases h
  repeat' first
    | with_reducible exact Kept.refl _ _
    | with_reducible apply State.hostReset_k
    | exact rfl

theorem execHostWake_k (s : State) {post : State} (h : execHostWake s = .next post) : Kept 0x7FFFFFFFFFFFFF s
    post := by
  cases h
  repeat' first
    | with_reducible exact Kept.refl _ _
    | with_reducible apply State.hostWake_k
    | exact rfl

theorem execWakeRelease_k (s : State) {post : State} (h : execWakeRelease s = .next post) : Kept
    0x20000020000000 s post := by
  cases h
  repeat' first
    | with_reducible exact Kept.refl _ _
    | with_reducible apply State.wakeRelease_k
    | exact rfl

theorem execTxdTimeout_k (d : DomTimeout) (s : State) {post : State} (h : execTxdTimeout d s = .next post) :
    Kept 0x20111C3C001BC8 s post := by
  cases h
  repeat' first
    | with_reducible exact Kept.refl _ _
    | with_reducible apply State.txdTimeout_k
    | exact rfl

theorem execBusDom_k (n : Nat) (s : State) {post : State} (h : execBusDom n s = .next post) : Kept
    0x2010003C000008 s post := by
  cases h
  repeat' first
    | with_reducible exact Kept.refl _ _
    | with_reducible apply State.busDom_k
    | exact rfl

theorem execWakeUpPattern_k (ns : List Nat) (s : State) {post : State} (h : execWakeUpPattern ns s = .next post)
    : Kept 0x7FFFFFFFFFFFFF s post := by
  cases h
  repeat' first
    | with_reducible exact Kept.refl _ _
    | with_reducible apply State.wakePattern_k
    | exact rfl

theorem execWakeFrame_k (n : Nat) (ident : Nat) (dlc : Nat) (data : List Byte) (s : State) {post : State} (h :
    execWakeFrame n ident dlc data s = .next post) : Kept 0x7FFFFFFFFFFFFF s post := by
  cases h
  repeat' first
    | with_reducible exact Kept.refl _ _
    | with_reducible apply State.wakeFrame_k
    | exact rfl

theorem execWufErrcnt_k (n : Nat) (s : State) {post : State} (h : execWufErrcnt n s = .next post) : Kept
    0x7FFFFFFFFFFFFF s post := by
  cases h
  repeat' first
    | with_reducible exact Kept.refl _ _
    | with_reducible apply State.wufErrcnt_k
    | exact rfl

theorem execNodeTableStage_k (yw : Bool) (ix : Nat) (k : Nat) (w : Word) (s : State) {post : State} (h :
    execNodeTableStage yw ix k w s = .next post) : Kept 0x7A7F1F7F91FFDC s post := by
  cases h
  repeat' first
    | with_reducible exact Kept.refl _ _
    | with_reducible apply State.put_k
    | exact rfl

theorem execNodeTableCommit_k (yw : Bool) (ix : Nat) (w : Word) (s : State) {post : State} (h :
    execNodeTableCommit yw ix w s = .next post) : Kept 0x7A7F1F7F91FFDC s post := by
  cases h
  repeat' first
    | with_reducible exact Kept.refl _ _
    | with_reducible apply State.put_k
    | exact rfl

theorem execIntegrationComplete_k (n : Nat) (s : State) {post : State} (h : execIntegrationComplete n s = .next
    post) : Kept 0x400000000 s post := by
  cases h
  repeat' first
    | with_reducible exact Kept.refl _ _
    | with_reducible apply State.integrated_k
    | exact rfl

theorem execSlotArbitration_k (n : Nat) (s : State) {post : State} (h : execSlotArbitration n s = .next post) :
    Kept 0x10400000000 s post := by
  cases h
  repeat' first
    | with_reducible exact Kept.refl _ _
    | with_reducible apply State.slotArbitration_k
    | exact rfl

theorem execArbitrationLost_k (n : Nat) (s : State) {post : State} (h : execArbitrationLost n s = .next post) :
    Kept 0x2011143C001BC8 s post := by
  cases h
  repeat' first
    | with_reducible exact Kept.refl _ _
    | with_reducible apply State.arbitrationLost_k
    | exact rfl

theorem execBusFrameReceived_k (picks : List Nat) (n : Nat) (age : Nat) (sig : Sig) (f : Frame) (s : State)
    {post : State} (h : execBusFrameReceived picks n age sig f s = .next post) : Kept 0x60561C7E0169C8 s post := by
  cases h
  repeat' first
    | with_reducible exact Kept.refl _ _
    | with_reducible apply State.busReceived_k
    | exact rfl

theorem execBusFrameSent_k (picks : List Nat) (n : Nat) (age : Nat) (tdcv : Nat) (s : State) {post : State} (h :
    execBusFrameSent picks n age tdcv s = .next post) : Kept 0x60571C7E017BC8 s post := by
  cases h
  repeat' first
    | with_reducible exact Kept.refl _ _
    | with_reducible apply State.busSent_k
    | exact rfl

theorem execBusError_k (n : Nat) (err : BusFault) (s : State) {post : State} (h : execBusError n err s = .next
    post) : Kept 0x20111C3C001BC8 s post := by
  cases h
  repeat' first
    | with_reducible exact Kept.refl _ _
    | with_reducible apply State.busError_k
    | exact rfl

theorem execProtocolException_k (e : FormatError) (s : State) {post : State} (h : execProtocolException e s =
    .next post) : Kept 0x20111C3C001BC8 s post := by
  cases h
  repeat' first
    | with_reducible exact Kept.refl _ _
    | with_reducible apply State.protocolException_k
    | exact rfl

theorem execDelayedRecoveryStart_k (n : Nat) (s : State) {post : State} (h : execDelayedRecoveryStart n s =
    .next post) : Kept 0x400000000 s post := by
  cases h
  repeat' first
    | with_reducible exact Kept.refl _ _
    | with_reducible apply State.delayedRecovery_k
    | exact rfl

theorem execBusCtrlRecover_k (yw : Bool) (n : Nat) (s : State) {post : State} (h : execBusCtrlRecover yw n s =
    .next post) : Kept 0x7A7F1F7F91FFDC s post := by
  cases h
  repeat' first
    | with_reducible exact Kept.refl _ _
    | with_reducible apply State.put_k
    | exact rfl

theorem execBusOn_k (n : Nat) (s : State) {post : State} (h : execBusOn n s = .next post) : Kept
    0x2010043C000008 s post := by
  cases h
  repeat' first
    | with_reducible exact Kept.refl _ _
    | with_reducible apply State.busOn_k
    | exact rfl

theorem execSlotLoad_k (n : Nat) (k : Nat) (ecc : RecEcc) (s : State) {post : State} (h : execSlotLoad n k ecc s
    = .next post) : Kept 0x2010143C001B88 s post := by
  cases h
  repeat' first
    | with_reducible exact Kept.refl _ _
    | with_reducible apply State.slotLoad_k
    | exact rfl

theorem execLock_k (yw : Bool) (ix : Nat) (s : State) {post : State} (h : execLock yw ix s = .next post) : Kept
    0x7A7F1F7F91FFDC s post := by
  cases h
  repeat' first
    | with_reducible exact Kept.refl _ _
    | with_reducible apply State.put_k
    | exact rfl

theorem execRelease_k (yw : Bool) (ix : Nat) (s : State) {post : State} (h : execRelease yw ix s = .next post) :
    Kept 0x7A7F1F7F91FFDC s post := by
  cases h
  repeat' first
    | with_reducible exact Kept.refl _ _
    | with_reducible apply State.put_k
    | exact rfl

theorem execAck_k (yw : Bool) (ix : Nat) (s : State) {post : State} (h : execAck yw ix s = .next post) : Kept
    0x7A7F1F7F91FFDC s post := by
  cases h
  repeat' first
    | with_reducible exact Kept.refl _ _
    | with_reducible apply State.put_k
    | exact rfl

theorem execPop_k (yw : Bool) (ix : Nat) (s : State) {post : State} (h : execPop yw ix s = .next post) : Kept
    0x7A7F1F7F91FFDC s post := by
  cases h
  repeat' first
    | with_reducible exact Kept.refl _ _
    | with_reducible apply State.put_k
    | exact rfl

theorem execCommit_k (yw : Bool) (c : Committed) (s : State) {post : State} (h : execCommit yw c s = .next post)
    : Kept 0x7A7F1F7F91FFDC s post := by
  cases h
  repeat' first
    | with_reducible exact Kept.refl _ _
    | with_reducible apply State.writeWord_k
    | exact rfl

theorem execTrigger_k (yw : Bool) (ix : Nat) (s : State) {post : State} (h : execTrigger yw ix s = .next post) :
    Kept 0x7A7F1F7F91FFDC s post := by
  cases h
  repeat' first
    | with_reducible exact Kept.refl _ _
    | with_reducible apply State.put_k
    | exact rfl

theorem execClearOverrun_k (yw : Bool) (onFifo : Bool) (ix : Nat) (s : State) {post : State} (h :
    execClearOverrun yw onFifo ix s = .next post) : Kept 0x7A7F1F7F91FFDC s post := by
  cases h
  repeat' first
    | with_reducible exact Kept.refl _ _
    | with_reducible apply State.put_k
    | exact rfl

theorem execRowSubstitution_k (b : Nat) (r : Nat) (s : State) {post : State} (h : execRowSubstitution b r s =
    .next post) : Kept 0x2210003C0C1008 s post := by
  cases h
  repeat' first
    | with_reducible exact Kept.refl _ _
    | with_reducible apply State.rowFail_k
    | exact rfl

theorem execWaitingGrant_k (picks : List Nat) (port : Nat) (s : State) {post : State} (h : execWaitingGrant
    picks port s = .next post) : Kept 0x6050147E01F9C8 s post := by
  cases h
  repeat' first
    | with_reducible exact Kept.refl _ _
    | with_reducible apply State.waitingGrant_k
    | exact rfl

theorem execHeadEscalation_k (p : Nat) (s : State) {post : State} (h : execHeadEscalation p s = .next post) :
    Kept 0x8008 s post := by
  cases h
  repeat' first
    | with_reducible exact Kept.refl _ _
    | with_reducible apply State.escalateHead_k
    | exact rfl

theorem execHeldFrameCredit_k (h : HeldRead) (s : State) {post : State} (h : execHeldFrameCredit h s = .next
    post) : Kept 0x2010167F807F88 s post := by
  cases h
  repeat' first
    | with_reducible exact Kept.refl _ _
    | with_reducible apply State.heldCredit_k
    | exact rfl

theorem execTransitLate_k (id : Nat) (s : State) {post : State} (h : execTransitLate id s = .next post) : Kept
    0x2010003C002008 s post := by
  cases h
  repeat' first
    | with_reducible exact Kept.refl _ _
    | with_reducible apply State.transitLate_k
    | exact rfl

theorem execReadExact_k (yw : Bool) (c : Nat) (ix : Nat) (s : State) {post : State} (h : execReadExact yw c ix s
    = .next post) : Kept 0x7A7F1F7F91FFDC s post := by
  cases h
  repeat' first
    | with_reducible exact Kept.refl _ _
    | with_reducible apply State.put_k
    | exact rfl

theorem execReadMasked_k (yw : Bool) (c : Nat) (shadow : Bool) (ix : Nat) (s : State) {post : State} (h :
    execReadMasked yw c shadow ix s = .next post) : Kept 0x7A7F1F7F91FFDC s post := by
  cases h
  repeat' first
    | with_reducible exact Kept.refl _ _
    | with_reducible apply State.put_k
    | exact rfl

theorem execAddExact_k (yw : Bool) (c : Nat) (ix : Nat) (s : State) {post : State} (h : execAddExact yw c ix s =
    .next post) : Kept 0x7A7F1F7F91FFDC s post := by
  cases h
  repeat' first
    | with_reducible exact Kept.refl _ _
    | with_reducible apply State.put_k
    | exact rfl

theorem execSetExact_k (yw : Bool) (c : Nat) (ix : Nat) (s : State) {post : State} (h : execSetExact yw c ix s =
    .next post) : Kept 0x7A7F1F7F91FFDC s post := by
  cases h
  repeat' first
    | with_reducible exact Kept.refl _ _
    | with_reducible apply State.put_k
    | exact rfl

theorem execDelExact_k (yw : Bool) (c : Nat) (ix : Nat) (s : State) {post : State} (h : execDelExact yw c ix s =
    .next post) : Kept 0x7A7F1F7F91FFDC s post := by
  cases h
  repeat' first
    | with_reducible exact Kept.refl _ _
    | with_reducible apply State.put_k
    | exact rfl

theorem execMoveExact_k (yw : Bool) (c : Nat) (ix : Nat) (s : State) {post : State} (h : execMoveExact yw c ix s
    = .next post) : Kept 0x7A7F1F7F91FFDC s post := by
  cases h
  repeat' first
    | with_reducible exact Kept.refl _ _
    | with_reducible apply State.put_k
    | exact rfl

theorem execWriteShadow_k (yw : Bool) (c : Nat) (ix : Nat) (s : State) {post : State} (h : execWriteShadow yw c
    ix s = .next post) : Kept 0x7A7F1F7F91FFDC s post := by
  cases h
  repeat' first
    | with_reducible exact Kept.refl _ _
    | with_reducible apply State.put_k
    | exact rfl

theorem execCopyToShadow_k (yw : Bool) (c : Nat) (s : State) {post : State} (h : execCopyToShadow yw c s = .next
    post) : Kept 0x7A7F1F7F91FFDC s post := by
  cases h
  repeat' first
    | with_reducible exact Kept.refl _ _
    | with_reducible apply State.put_k
    | exact rfl

theorem execCopyToShadowDone_k (c : Nat) (s : State) {post : State} (h : execCopyToShadowDone c s = .next post)
    : Kept 0x100000 s post := by
  cases h
  repeat' first
    | with_reducible exact Kept.refl _ _
    | with_reducible apply State.fltCopyDone_k
    | exact rfl

theorem execFilterCommit_k (yw : Bool) (c : Nat) (flip : Bool) (s : State) {post : State} (h : execFilterCommit
    yw c flip s = .next post) : Kept 0x7A7F1F7F91FFDC s post := by
  cases h
  repeat' first
    | with_reducible exact Kept.refl _ _
    | with_reducible apply State.put_k
    | exact rfl

theorem execAbandon_k (yw : Bool) (c : Nat) (s : State) {post : State} (h : execAbandon yw c s = .next post) :
    Kept 0x7A7F1F7F91FFDC s post := by
  cases h
  repeat' first
    | with_reducible exact Kept.refl _ _
    | with_reducible apply State.put_k
    | exact rfl

theorem execDeliveryPoint_k (id : Nat) (k : Nat) (ecc : RecEcc) (s : State) {post : State} (h :
    execDeliveryPoint id k ecc s = .next post) : Kept 0x2010167F807F88 s post := by
  cases h
  repeat' first
    | with_reducible exact Kept.refl _ _
    | with_reducible apply State.pointOf_k
    | exact rfl

theorem execEthFrameReceived_k (picks : List Nat) (p : Nat) (phyErr : Bool) (smdErr : Bool) (fcsErr : Bool)
    (frags : Nat) (age : Nat) (b : List Byte) (s : State) {post : State} (h : execEthFrameReceived picks p phyErr
    smdErr fcsErr frags age b s = .next post) : Kept 0x6056147E0169C8 s post := by
  cases h
  repeat' first
    | with_reducible exact Kept.refl _ _
    | with_reducible apply State.ethReceived_k
    | exact rfl

theorem execPauseReceived_k (p : Nat) (quanta : Nat) (s : State) {post : State} (h : execPauseReceived p quanta
    s = .next post) : Kept 0x1000000008 s post := by
  cases h
  repeat' first
    | with_reducible exact Kept.refl _ _
    | with_reducible apply State.pauseReceived_k
    | exact rfl

theorem execPfcReceived_k (p : Nat) (vector : Nat) (times : List Nat) (s : State) {post : State} (h :
    execPfcReceived p vector times s = .next post) : Kept 0x1000000008 s post := by
  cases h
  repeat' first
    | with_reducible exact Kept.refl _ _
    | with_reducible apply State.pfcReceived_k
    | exact rfl

theorem execPauseEffect_k (p : Nat) (s : State) {post : State} (h : execPauseEffect p s = .next post) : Kept
    0x1000000008 s post := by
  cases h
  repeat' first
    | with_reducible exact Kept.refl _ _
    | with_reducible apply State.pauseEffect_k
    | exact rfl

theorem execPauseExpiry_k (p : Nat) (t : Nat) (s : State) {post : State} (h : execPauseExpiry p t s = .next
    post) : Kept 0x1000000000 s post := by
  cases h
  repeat' first
    | with_reducible exact Kept.refl _ _
    | with_reducible apply State.pauseExpiry_k
    | exact rfl

theorem execEthFrameStart_k (p : Nat) (ecc : RecEcc) (s : State) {post : State} (h : execEthFrameStart p ecc s =
    .next post) : Kept 0x2010123C001988 s post := by
  cases h
  repeat' first
    | with_reducible exact Kept.refl _ _
    | with_reducible apply State.frameStart_k
    | exact rfl

theorem execEthFrameSent_k (p : Nat) (age : Nat) (underrun : Bool) (s : State) {post : State} (h :
    execEthFrameSent p age underrun s = .next post) : Kept 0x2010123C001988 s post := by
  cases h
  repeat' first
    | with_reducible exact Kept.refl _ _
    | with_reducible apply State.frameSent_k
    | exact rfl

theorem execPauseTxRepeat_k (p : Nat) (s : State) {post : State} (h : execPauseTxRepeat p s = .next post) : Kept
    0x1000000000 s post := by
  cases h
  repeat' first
    | with_reducible exact Kept.refl _ _
    | with_reducible apply State.pauseRepeat_k
    | exact rfl

theorem execLinkUp_k (p : Nat) (rcvr : Bool) (s : State) {post : State} (h : execLinkUp p rcvr s = .next post) :
    Kept 0x2010123C000008 s post := by
  cases h
  repeat' first
    | with_reducible exact Kept.refl _ _
    | with_reducible apply State.linkUp_k
    | exact rfl

theorem execLinkDown_k (p : Nat) (s : State) {post : State} (h : execLinkDown p s = .next post) : Kept
    0x2010133C001988 s post := by
  cases h
  repeat' first
    | with_reducible exact Kept.refl _ _
    | with_reducible apply State.linkDown_k
    | exact rfl

theorem execVerifyAttempt_k (p : Nat) (ok : Bool) (s : State) {post : State} (h : execVerifyAttempt p ok s =
    .next post) : Kept 0x2010103C000008 s post := by
  cases h
  repeat' first
    | with_reducible exact Kept.refl _ _
    | with_reducible apply State.verifyAttempt_k
    | exact rfl

theorem execLpiEnter_k (p : Nat) (rx : Bool) (s : State) {post : State} (h : execLpiEnter p rx s = .next post) :
    Kept 0x1000000000 s post := by
  cases h
  repeat' first
    | with_reducible exact Kept.refl _ _
    | with_reducible apply State.lpiEnter_k
    | exact rfl

theorem execLpiExit_k (p : Nat) (rx : Bool) (s : State) {post : State} (h : execLpiExit p rx s = .next post) :
    Kept 0x1000000000 s post := by
  cases h
  repeat' first
    | with_reducible exact Kept.refl _ _
    | with_reducible apply State.lpiExit_k
    | exact rfl

theorem execGateBoundary_k (p : Nat) (s : State) {post : State} (h : execGateBoundary p s = .next post) : Kept
    0x1000000000 s post := by
  cases h
  repeat' first
    | with_reducible exact Kept.refl _ _
    | with_reducible apply State.refreshGates_k
    | exact rfl

theorem execGateCommit_k (yw : Bool) (p : Nat) (w : Word) (s : State) {post : State} (h : execGateCommit yw p w
    s = .next post) : Kept 0x7A7F1F7F91FFDC s post := by
  cases h
  repeat' first
    | with_reducible exact Kept.refl _ _
    | with_reducible apply State.put_k
    | exact rfl

theorem execGateSwitch_k (p : Nat) (s : State) {post : State} (h : execGateSwitch p s = .next post) : Kept
    0x2010123C001988 s post := by
  cases h
  repeat' first
    | with_reducible exact Kept.refl _ _
    | with_reducible apply State.gateSwitch_k
    | exact rfl

theorem execLaunchDue_k (p : Nat) (ecc : RecEcc) (s : State) {post : State} (h : execLaunchDue p ecc s = .next
    post) : Kept 0x2010123C001988 s post := by
  cases h
  repeat' first
    | with_reducible exact Kept.refl _ _
    | with_reducible apply State.launchDue_k
    | exact rfl

theorem execPtpSyncReceived_k (p : Nat) (domain : Nat) (seq : Nat) (twoStep : Bool) (origin : Nat) (correction :
    Int) (log : Int) (age : Nat) (s : State) {post : State} (h : execPtpSyncReceived p domain seq twoStep origin
    correction log age s = .next post) : Kept 0x2011033C000008 s post := by
  cases h
  repeat' first
    | with_reducible exact Kept.refl _ _
    | with_reducible apply State.ptpSync_k
    | exact rfl

theorem execPtpFollowUpReceived_k (p : Nat) (domain : Nat) (seq : Nat) (origin : Nat) (correction : Int) (tlv :
    List Byte) (s : State) {post : State} (h : execPtpFollowUpReceived p domain seq origin correction tlv s = .next
    post) : Kept 0x2011033C000008 s post := by
  cases h
  repeat' first
    | with_reducible exact Kept.refl _ _
    | with_reducible apply State.ptpFollowUp_k
    | exact rfl

theorem execPdelayReqReceived_k (p : Nat) (domain : Nat) (seq : Nat) (correction : Int) (age : Nat) (who : List
    Byte) (s : State) {post : State} (h : execPdelayReqReceived p domain seq correction age who s = .next post) :
    Kept 0x2010123C001988 s post := by
  cases h
  repeat' first
    | with_reducible exact Kept.refl _ _
    | with_reducible apply State.pdelayReq_k
    | exact rfl

theorem execPdelayRespReceived_k (p : Nat) (domain : Nat) (a2 : Nat) (s : State) {post : State} (h :
    execPdelayRespReceived p domain a2 s = .next post) : Kept 0x2010033C000008 s post := by
  cases h
  repeat' first
    | with_reducible exact Kept.refl _ _
    | with_reducible apply State.pdelayResp_k
    | exact rfl

theorem execDelayReqReceived_k (p : Nat) (domain : Nat) (seq : Nat) (correction : Int) (age : Nat) (who : List
    Byte) (s : State) {post : State} (h : execDelayReqReceived p domain seq correction age who s = .next post) :
    Kept 0x2010123C001988 s post := by
  cases h
  repeat' first
    | with_reducible exact Kept.refl _ _
    | with_reducible apply State.delayReq_k
    | exact rfl

theorem execDelayRespReceived_k (p : Nat) (domain : Nat) (a2 : Nat) (s : State) {post : State} (h :
    execDelayRespReceived p domain a2 s = .next post) : Kept 0x2010033C000008 s post := by
  cases h
  repeat' first
    | with_reducible exact Kept.refl _ _
    | with_reducible apply State.delayResp_k
    | exact rfl

theorem execSyncTx_k (p : Nat) (s : State) {post : State} (h : execSyncTx p s = .next post) : Kept
    0x2010123C001988 s post := by
  cases h
  repeat' first
    | with_reducible exact Kept.refl _ _
    | with_reducible apply State.syncTx_k
    | exact rfl

theorem execDelayRequestTx_k (p : Nat) (s : State) {post : State} (h : execDelayRequestTx p s = .next post) :
    Kept 0x2010123C001988 s post := by
  cases h
  repeat' first
    | with_reducible exact Kept.refl _ _
    | with_reducible apply State.delayReqTx_k
    | exact rfl

theorem execPpsInEdge_k (e : PinEdge) (freq : Int) (s : State) {post : State} (h : execPpsInEdge e freq s =
    .next post) : Kept 0x2011013C000008 s post := by
  cases h
  repeat' first
    | with_reducible exact Kept.refl _ _
    | with_reducible apply State.ppsEdge_k
    | exact rfl

theorem execHoldoffEnd_k (p : Nat) (s : State) {post : State} (h : execHoldoffEnd p s = .next post) : Kept
    0x200000000 s post := by
  cases h
  repeat' first
    | with_reducible exact Kept.refl _ _
    | with_reducible apply State.holdoffEnd_k
    | exact rfl

theorem execSourceLost_k (s : State) {post : State} (h : execSourceLost s = .next post) : Kept 0x2010013C000008
    s post := by
  cases h
  repeat' first
    | with_reducible exact Kept.refl _ _
    | with_reducible apply State.sourceLost_k
    | exact rfl

theorem execBcnRate_k (yw : Bool) (high : Bool) (w : Word) (s : State) {post : State} (h : execBcnRate yw high w
    s = .next post) : Kept 0x7A7F1F7F91FFDC s post := by
  cases h
  repeat' first
    | with_reducible exact Kept.refl _ _
    | with_reducible apply State.put_k
    | exact rfl

theorem execBcnAdj_k (yw : Bool) (high : Bool) (w : Word) (s : State) {post : State} (h : execBcnAdj yw high w s
    = .next post) : Kept 0x7A7F1F7F91FFDC s post := by
  cases h
  repeat' first
    | with_reducible exact Kept.refl _ _
    | with_reducible apply State.put_k
    | exact rfl

theorem execBcnCfg_k (yw : Bool) (w : Word) (s : State) {post : State} (h : execBcnCfg yw w s = .next post) :
    Kept 0x7A7F1F7F91FFDC s post := by
  cases h
  repeat' first
    | with_reducible exact Kept.refl _ _
    | with_reducible apply State.put_k
    | exact rfl

theorem execBcnSave_k (yw : Bool) (w : Word) (s : State) {post : State} (h : execBcnSave yw w s = .next post) :
    Kept 0x7A7F1F7F91FFDC s post := by
  cases h
  repeat' first
    | with_reducible exact Kept.refl _ _
    | with_reducible apply State.put_k
    | exact rfl

theorem execPpsOut_k (s : State) {post : State} (h : execPpsOut s = .next post) : Kept 0x20000100000000 s post
    := by
  cases h
  repeat' first
    | with_reducible exact Kept.refl _ _
    | with_reducible apply State.ppsOut_k
    | exact rfl

theorem execTsqRead_k (yw : Bool) (p : Nat) (s : State) {post : State} (h : execTsqRead yw p s = .next post) :
    Kept 0x20000308000028 s post := by
  cases h
  repeat' first
    | with_reducible exact Kept.refl _ _
    | with_reducible apply State.readBy_k
    | exact rfl

theorem execCycleStart_k (t : Nat) (s : State) {post : State} (h : execCycleStart t s = .next post) : Kept
    0x2013543F000008 s post := by
  cases h
  repeat' first
    | with_reducible exact Kept.refl _ _
    | with_reducible apply State.cycleStart_k
    | exact rfl

theorem execWindowStart_k (t : Nat) (s : State) {post : State} (h : execWindowStart t s = .next post) : Kept
    0x2011003C000008 s post := by
  cases h
  repeat' first
    | with_reducible exact Kept.refl _ _
    | with_reducible apply State.windowStart_k
    | exact rfl

theorem execWindowEnd_k (t : Nat) (s : State) {post : State} (h : execWindowEnd t s = .next post) : Kept
    0x2011003C000008 s post := by
  cases h
  repeat' first
    | with_reducible exact Kept.refl _ _
    | with_reducible apply State.windowEnd_k
    | exact rfl

theorem execExclusiveTrigger_k (t : Nat) (ix : Nat) (s : State) {post : State} (h : execExclusiveTrigger t ix s
    = .next post) : Kept 0x10400000208 s post := by
  cases h
  repeat' first
    | with_reducible exact Kept.refl _ _
    | with_reducible apply State.exclusiveTrigger_k
    | exact rfl

theorem execReferenceReceived_k (n : Nat) (ident : Nat) (age : Nat) (s : State) {post : State} (h :
    execReferenceReceived n ident age s = .next post) : Kept 0x2011003C000008 s post := by
  cases h
  repeat' first
    | with_reducible exact Kept.refl _ _
    | with_reducible apply State.referenceReceived_k
    | exact rfl

theorem execBackupTakeover_k (n : Nat) (s : State) {post : State} (h : execBackupTakeover n s = .next post) :
    Kept 0x2011003C000008 s post := by
  cases h
  repeat' first
    | with_reducible exact Kept.refl _ _
    | with_reducible apply State.backupTakeover_k
    | exact rfl

theorem execQuarantinePop_k (yw : Bool) (c : Nat) (s : State) {post : State} (h : execQuarantinePop yw c s =
    .next post) : Kept 0x7A7F1F7F91FFDC s post := by
  cases h
  repeat' first
    | with_reducible exact Kept.refl _ _
    | with_reducible apply State.put_k
    | exact rfl

theorem execResync_k (yw : Bool) (ix : Nat) (s : State) {post : State} (h : execResync yw ix s = .next post) :
    Kept 0x7A7F1F7F91FFDC s post := by
  cases h
  repeat' first
    | with_reducible exact Kept.refl _ _
    | with_reducible apply State.put_k
    | exact rfl

theorem execClear_k (yw : Bool) (ix : Nat) (s : State) {post : State} (h : execClear yw ix s = .next post) :
    Kept 0x7A7F1F7F91FFDC s post := by
  cases h
  repeat' first
    | with_reducible exact Kept.refl _ _
    | with_reducible apply State.put_k
    | exact rfl

theorem execEngineRestart_k (yw : Bool) (g : Nat) (s : State) {post : State} (h : execEngineRestart yw g s =
    .next post) : Kept 0x7A7F1F7F91FFDC s post := by
  cases h
  repeat' first
    | with_reducible exact Kept.refl _ _
    | with_reducible apply State.put_k
    | exact rfl

theorem execEngineSubstitution_k (g : Nat) (timeout : Bool) (s : State) {post : State} (h :
    execEngineSubstitution g timeout s = .next post) : Kept 0x3A7B177E00FFCC s post := by
  cases h
  repeat' first
    | with_reducible exact Kept.refl _ _
    | with_reducible apply State.engineSubstitution_k
    | exact rfl

theorem execInterruptEntry_k (g : Issue) (late : List Late) (s : State) {post : State} (h : execInterruptEntry g
    late s = .next post) : Kept 0x3A7B177F80FFCC s post := by
  cases h
  repeat' first
    | with_reducible exact Kept.refl _ _
    | with_reducible apply State.takeInterrupt_k
    | exact rfl

theorem execIllegalInstruction_k (g : Issue) (s : State) {post : State} (h : execIllegalInstruction g s = .next
    post) : Kept 0x3A7B177E00FFCC s post := by
  cases h
  repeat' first
    | with_reducible exact Kept.refl _ _
    | with_reducible apply State.runIllegal_k
    | exact rfl

theorem execAdd_k (g : Issue) (rd : Nat) (ra : Nat) (rb : Nat) (s : State) {post : State} (h : execAdd g rd ra
    rb s = .next post) : Kept 0x3A7B177E00FFCC s post := by
  cases h
  repeat' first
    | with_reducible exact Kept.refl _ _
    | with_reducible apply State.runReg3_k
    | exact rfl

theorem execSub_k (g : Issue) (rd : Nat) (ra : Nat) (rb : Nat) (s : State) {post : State} (h : execSub g rd ra
    rb s = .next post) : Kept 0x3A7B177E00FFCC s post := by
  cases h
  repeat' first
    | with_reducible exact Kept.refl _ _
    | with_reducible apply State.runReg3_k
    | exact rfl

theorem execAdc_k (g : Issue) (rd : Nat) (ra : Nat) (rb : Nat) (s : State) {post : State} (h : execAdc g rd ra
    rb s = .next post) : Kept 0x3A7B177E00FFCC s post := by
  cases h
  repeat' first
    | with_reducible exact Kept.refl _ _
    | with_reducible apply State.runReg3_k
    | exact rfl

theorem execSbc_k (g : Issue) (rd : Nat) (ra : Nat) (rb : Nat) (s : State) {post : State} (h : execSbc g rd ra
    rb s = .next post) : Kept 0x3A7B177E00FFCC s post := by
  cases h
  repeat' first
    | with_reducible exact Kept.refl _ _
    | with_reducible apply State.runReg3_k
    | exact rfl

theorem execAnd_k (g : Issue) (rd : Nat) (ra : Nat) (rb : Nat) (s : State) {post : State} (h : execAnd g rd ra
    rb s = .next post) : Kept 0x3A7B177E00FFCC s post := by
  cases h
  repeat' first
    | with_reducible exact Kept.refl _ _
    | with_reducible apply State.runReg3_k
    | exact rfl

theorem execOr_k (g : Issue) (rd : Nat) (ra : Nat) (rb : Nat) (s : State) {post : State} (h : execOr g rd ra rb
    s = .next post) : Kept 0x3A7B177E00FFCC s post := by
  cases h
  repeat' first
    | with_reducible exact Kept.refl _ _
    | with_reducible apply State.runReg3_k
    | exact rfl

theorem execXor_k (g : Issue) (rd : Nat) (ra : Nat) (rb : Nat) (s : State) {post : State} (h : execXor g rd ra
    rb s = .next post) : Kept 0x3A7B177E00FFCC s post := by
  cases h
  repeat' first
    | with_reducible exact Kept.refl _ _
    | with_reducible apply State.runReg3_k
    | exact rfl

theorem execAndn_k (g : Issue) (rd : Nat) (ra : Nat) (rb : Nat) (s : State) {post : State} (h : execAndn g rd ra
    rb s = .next post) : Kept 0x3A7B177E00FFCC s post := by
  cases h
  repeat' first
    | with_reducible exact Kept.refl _ _
    | with_reducible apply State.runReg3_k
    | exact rfl

theorem execSll_k (g : Issue) (rd : Nat) (ra : Nat) (rb : Nat) (s : State) {post : State} (h : execSll g rd ra
    rb s = .next post) : Kept 0x3A7B177E00FFCC s post := by
  cases h
  repeat' first
    | with_reducible exact Kept.refl _ _
    | with_reducible apply State.runReg3_k
    | exact rfl

theorem execSrl_k (g : Issue) (rd : Nat) (ra : Nat) (rb : Nat) (s : State) {post : State} (h : execSrl g rd ra
    rb s = .next post) : Kept 0x3A7B177E00FFCC s post := by
  cases h
  repeat' first
    | with_reducible exact Kept.refl _ _
    | with_reducible apply State.runReg3_k
    | exact rfl

theorem execSra_k (g : Issue) (rd : Nat) (ra : Nat) (rb : Nat) (s : State) {post : State} (h : execSra g rd ra
    rb s = .next post) : Kept 0x3A7B177E00FFCC s post := by
  cases h
  repeat' first
    | with_reducible exact Kept.refl _ _
    | with_reducible apply State.runReg3_k
    | exact rfl

theorem execRot_k (g : Issue) (rd : Nat) (ra : Nat) (rb : Nat) (s : State) {post : State} (h : execRot g rd ra
    rb s = .next post) : Kept 0x3A7B177E00FFCC s post := by
  cases h
  repeat' first
    | with_reducible exact Kept.refl _ _
    | with_reducible apply State.runReg3_k
    | exact rfl

theorem execMul_k (g : Issue) (rd : Nat) (ra : Nat) (rb : Nat) (s : State) {post : State} (h : execMul g rd ra
    rb s = .next post) : Kept 0x3A7B177E00FFCC s post := by
  cases h
  repeat' first
    | with_reducible exact Kept.refl _ _
    | with_reducible apply State.runReg3_k
    | exact rfl

theorem execMulhs_k (g : Issue) (rd : Nat) (ra : Nat) (rb : Nat) (s : State) {post : State} (h : execMulhs g rd
    ra rb s = .next post) : Kept 0x3A7B177E00FFCC s post := by
  cases h
  repeat' first
    | with_reducible exact Kept.refl _ _
    | with_reducible apply State.runReg3_k
    | exact rfl

theorem execMulhu_k (g : Issue) (rd : Nat) (ra : Nat) (rb : Nat) (s : State) {post : State} (h : execMulhu g rd
    ra rb s = .next post) : Kept 0x3A7B177E00FFCC s post := by
  cases h
  repeat' first
    | with_reducible exact Kept.refl _ _
    | with_reducible apply State.runReg3_k
    | exact rfl

theorem execDiv_k (g : Issue) (rd : Nat) (ra : Nat) (rb : Nat) (s : State) {post : State} (h : execDiv g rd ra
    rb s = .next post) : Kept 0x3A7B177E00FFCC s post := by
  cases h
  repeat' first
    | with_reducible exact Kept.refl _ _
    | with_reducible apply State.runReg3_k
    | exact rfl

theorem execDivu_k (g : Issue) (rd : Nat) (ra : Nat) (rb : Nat) (s : State) {post : State} (h : execDivu g rd ra
    rb s = .next post) : Kept 0x3A7B177E00FFCC s post := by
  cases h
  repeat' first
    | with_reducible exact Kept.refl _ _
    | with_reducible apply State.runReg3_k
    | exact rfl

theorem execRem_k (g : Issue) (rd : Nat) (ra : Nat) (rb : Nat) (s : State) {post : State} (h : execRem g rd ra
    rb s = .next post) : Kept 0x3A7B177E00FFCC s post := by
  cases h
  repeat' first
    | with_reducible exact Kept.refl _ _
    | with_reducible apply State.runReg3_k
    | exact rfl

theorem execRemu_k (g : Issue) (rd : Nat) (ra : Nat) (rb : Nat) (s : State) {post : State} (h : execRemu g rd ra
    rb s = .next post) : Kept 0x3A7B177E00FFCC s post := by
  cases h
  repeat' first
    | with_reducible exact Kept.refl _ _
    | with_reducible apply State.runReg3_k
    | exact rfl

theorem execNeg_k (g : Issue) (rd : Nat) (ra : Nat) (s : State) {post : State} (h : execNeg g rd ra s = .next
    post) : Kept 0x3A7B177E00FFCC s post := by
  cases h
  repeat' first
    | with_reducible exact Kept.refl _ _
    | with_reducible apply State.runReg2_k
    | exact rfl

theorem execAbs_k (g : Issue) (rd : Nat) (ra : Nat) (s : State) {post : State} (h : execAbs g rd ra s = .next
    post) : Kept 0x3A7B177E00FFCC s post := by
  cases h
  repeat' first
    | with_reducible exact Kept.refl _ _
    | with_reducible apply State.runReg2_k
    | exact rfl

theorem execAbss_k (g : Issue) (rd : Nat) (ra : Nat) (s : State) {post : State} (h : execAbss g rd ra s = .next
    post) : Kept 0x3A7B177E00FFCC s post := by
  cases h
  repeat' first
    | with_reducible exact Kept.refl _ _
    | with_reducible apply State.runReg2_k
    | exact rfl

theorem execAdds_k (g : Issue) (rd : Nat) (ra : Nat) (rb : Nat) (s : State) {post : State} (h : execAdds g rd ra
    rb s = .next post) : Kept 0x3A7B177E00FFCC s post := by
  cases h
  repeat' first
    | with_reducible exact Kept.refl _ _
    | with_reducible apply State.runReg3_k
    | exact rfl

theorem execSubs_k (g : Issue) (rd : Nat) (ra : Nat) (rb : Nat) (s : State) {post : State} (h : execSubs g rd ra
    rb s = .next post) : Kept 0x3A7B177E00FFCC s post := by
  cases h
  repeat' first
    | with_reducible exact Kept.refl _ _
    | with_reducible apply State.runReg3_k
    | exact rfl

theorem execClz_k (g : Issue) (rd : Nat) (ra : Nat) (s : State) {post : State} (h : execClz g rd ra s = .next
    post) : Kept 0x3A7B177E00FFCC s post := by
  cases h
  repeat' first
    | with_reducible exact Kept.refl _ _
    | with_reducible apply State.runReg2_k
    | exact rfl

theorem execBrev_k (g : Issue) (rd : Nat) (ra : Nat) (s : State) {post : State} (h : execBrev g rd ra s = .next
    post) : Kept 0x3A7B177E00FFCC s post := by
  cases h
  repeat' first
    | with_reducible exact Kept.refl _ _
    | with_reducible apply State.runReg2_k
    | exact rfl

theorem execBswap_k (g : Issue) (rd : Nat) (ra : Nat) (s : State) {post : State} (h : execBswap g rd ra s =
    .next post) : Kept 0x3A7B177E00FFCC s post := by
  cases h
  repeat' first
    | with_reducible exact Kept.refl _ _
    | with_reducible apply State.runReg2_k
    | exact rfl

theorem execExt_k (g : Issue) (rd : Nat) (ra : Nat) (pos : Nat) (len : Nat) (sign : Bool) (s : State) {post :
    State} (h : execExt g rd ra pos len sign s = .next post) : Kept 0x3A7B177E00FFCC s post := by
  cases h
  repeat' first
    | with_reducible exact Kept.refl _ _
    | with_reducible apply State.runExt_k
    | exact rfl

theorem execIns_k (g : Issue) (rd : Nat) (ra : Nat) (pos : Nat) (len : Nat) (s : State) {post : State} (h :
    execIns g rd ra pos len s = .next post) : Kept 0x3A7B177E00FFCC s post := by
  cases h
  repeat' first
    | with_reducible exact Kept.refl _ _
    | with_reducible apply State.runIns_k
    | exact rfl

theorem execAddi_k (g : Issue) (rd : Nat) (ra : Nat) (v : Nat) (s : State) {post : State} (h : execAddi g rd ra
    v s = .next post) : Kept 0x3A7B177E00FFCC s post := by
  cases h
  repeat' first
    | with_reducible exact Kept.refl _ _
    | with_reducible apply State.runImm_k
    | exact rfl

theorem execAndi_k (g : Issue) (rd : Nat) (ra : Nat) (v : Nat) (s : State) {post : State} (h : execAndi g rd ra
    v s = .next post) : Kept 0x3A7B177E00FFCC s post := by
  cases h
  repeat' first
    | with_reducible exact Kept.refl _ _
    | with_reducible apply State.runImm_k
    | exact rfl

theorem execOri_k (g : Issue) (rd : Nat) (ra : Nat) (v : Nat) (s : State) {post : State} (h : execOri g rd ra v
    s = .next post) : Kept 0x3A7B177E00FFCC s post := by
  cases h
  repeat' first
    | with_reducible exact Kept.refl _ _
    | with_reducible apply State.runImm_k
    | exact rfl

theorem execXori_k (g : Issue) (rd : Nat) (ra : Nat) (v : Nat) (s : State) {post : State} (h : execXori g rd ra
    v s = .next post) : Kept 0x3A7B177E00FFCC s post := by
  cases h
  repeat' first
    | with_reducible exact Kept.refl _ _
    | with_reducible apply State.runImm_k
    | exact rfl

theorem execShi_k (g : Issue) (rd : Nat) (ra : Nat) (kind : Nat) (n : Nat) (s : State) {post : State} (h :
    execShi g rd ra kind n s = .next post) : Kept 0x3A7B177E00FFCC s post := by
  cases h
  repeat' first
    | with_reducible exact Kept.refl _ _
    | with_reducible apply State.runShi_k
    | exact rfl

theorem execLui_k (g : Issue) (rd : Nat) (v : Nat) (s : State) {post : State} (h : execLui g rd v s = .next
    post) : Kept 0x3A7B177E00FFCC s post := by
  cases h
  repeat' first
    | with_reducible exact Kept.refl _ _
    | with_reducible apply State.runLui_k
    | exact rfl

theorem execCmp_k (g : Issue) (ra : Nat) (rb : Nat) (s : State) {post : State} (h : execCmp g ra rb s = .next
    post) : Kept 0x3A7B177E00FFCC s post := by
  cases h
  repeat' first
    | with_reducible exact Kept.refl _ _
    | with_reducible apply State.runCmp_k
    | exact rfl

theorem execCmpi_k (g : Issue) (ra : Nat) (v : Nat) (s : State) {post : State} (h : execCmpi g ra v s = .next
    post) : Kept 0x3A7B177E00FFCC s post := by
  cases h
  repeat' first
    | with_reducible exact Kept.refl _ _
    | with_reducible apply State.runCmpi_k
    | exact rfl

theorem execTst_k (g : Issue) (ra : Nat) (rb : Nat) (s : State) {post : State} (h : execTst g ra rb s = .next
    post) : Kept 0x3A7B177E00FFCC s post := by
  cases h
  repeat' first
    | with_reducible exact Kept.refl _ _
    | with_reducible apply State.runTst_k
    | exact rfl

theorem execLdw_k (g : Issue) (rd : Nat) (ra : Nat) (v : Nat) (e : Ecc) (s : State) {post : State} (h : execLdw
    g rd ra v e s = .next post) : Kept 0x3A7B177E00FFCC s post := by
  cases h
  repeat' first
    | with_reducible exact Kept.refl _ _
    | with_reducible apply State.runLoad_k
    | exact rfl

theorem execLdh_k (g : Issue) (rd : Nat) (ra : Nat) (v : Nat) (e : Ecc) (s : State) {post : State} (h : execLdh
    g rd ra v e s = .next post) : Kept 0x3A7B177E00FFCC s post := by
  cases h
  repeat' first
    | with_reducible exact Kept.refl _ _
    | with_reducible apply State.runLoad_k
    | exact rfl

theorem execLdhu_k (g : Issue) (rd : Nat) (ra : Nat) (v : Nat) (e : Ecc) (s : State) {post : State} (h :
    execLdhu g rd ra v e s = .next post) : Kept 0x3A7B177E00FFCC s post := by
  cases h
  repeat' first
    | with_reducible exact Kept.refl _ _
    | with_reducible apply State.runLoad_k
    | exact rfl

theorem execLdb_k (g : Issue) (rd : Nat) (ra : Nat) (v : Nat) (e : Ecc) (s : State) {post : State} (h : execLdb
    g rd ra v e s = .next post) : Kept 0x3A7B177E00FFCC s post := by
  cases h
  repeat' first
    | with_reducible exact Kept.refl _ _
    | with_reducible apply State.runLoad_k
    | exact rfl

theorem execLdbu_k (g : Issue) (rd : Nat) (ra : Nat) (v : Nat) (e : Ecc) (s : State) {post : State} (h :
    execLdbu g rd ra v e s = .next post) : Kept 0x3A7B177E00FFCC s post := by
  cases h
  repeat' first
    | with_reducible exact Kept.refl _ _
    | with_reducible apply State.runLoad_k
    | exact rfl

theorem execStw_k (g : Issue) (rd : Nat) (ra : Nat) (v : Nat) (s : State) {post : State} (h : execStw g rd ra v
    s = .next post) : Kept 0x3A7B177E00FFCC s post := by
  cases h
  repeat' first
    | with_reducible exact Kept.refl _ _
    | with_reducible apply State.runStore_k
    | exact rfl

theorem execSth_k (g : Issue) (rd : Nat) (ra : Nat) (v : Nat) (s : State) {post : State} (h : execSth g rd ra v
    s = .next post) : Kept 0x3A7B177E00FFCC s post := by
  cases h
  repeat' first
    | with_reducible exact Kept.refl _ _
    | with_reducible apply State.runStore_k
    | exact rfl

theorem execStb_k (g : Issue) (rd : Nat) (ra : Nat) (v : Nat) (s : State) {post : State} (h : execStb g rd ra v
    s = .next post) : Kept 0x3A7B177E00FFCC s post := by
  cases h
  repeat' first
    | with_reducible exact Kept.refl _ _
    | with_reducible apply State.runStore_k
    | exact rfl

theorem execLdd_k (g : Issue) (rd : Nat) (ra : Nat) (v : Nat) (e : Ecc) (s : State) {post : State} (h : execLdd
    g rd ra v e s = .next post) : Kept 0x3A7B177E00FFCC s post := by
  cases h
  repeat' first
    | with_reducible exact Kept.refl _ _
    | with_reducible apply State.runLoad_k
    | exact rfl

theorem execStd_k (g : Issue) (rd : Nat) (ra : Nat) (v : Nat) (s : State) {post : State} (h : execStd g rd ra v
    s = .next post) : Kept 0x3A7B177E00FFCC s post := by
  cases h
  repeat' first
    | with_reducible exact Kept.refl _ _
    | with_reducible apply State.runStore_k
    | exact rfl

theorem execSwap_k (g : Issue) (rd : Nat) (ra : Nat) (rb : Nat) (e : Ecc) (s : State) {post : State} (h :
    execSwap g rd ra rb e s = .next post) : Kept 0x3A7B177E00FFCC s post := by
  cases h
  repeat' first
    | with_reducible exact Kept.refl _ _
    | with_reducible apply State.runAtom_k
    | exact rfl

theorem execFadd_k (g : Issue) (rd : Nat) (ra : Nat) (rb : Nat) (e : Ecc) (s : State) {post : State} (h :
    execFadd g rd ra rb e s = .next post) : Kept 0x3A7B177E00FFCC s post := by
  cases h
  repeat' first
    | with_reducible exact Kept.refl _ _
    | with_reducible apply State.runAtom_k
    | exact rfl

theorem execFand_k (g : Issue) (rd : Nat) (ra : Nat) (rb : Nat) (e : Ecc) (s : State) {post : State} (h :
    execFand g rd ra rb e s = .next post) : Kept 0x3A7B177E00FFCC s post := by
  cases h
  repeat' first
    | with_reducible exact Kept.refl _ _
    | with_reducible apply State.runAtom_k
    | exact rfl

theorem execFor_k (g : Issue) (rd : Nat) (ra : Nat) (rb : Nat) (e : Ecc) (s : State) {post : State} (h : execFor
    g rd ra rb e s = .next post) : Kept 0x3A7B177E00FFCC s post := by
  cases h
  repeat' first
    | with_reducible exact Kept.refl _ _
    | with_reducible apply State.runAtom_k
    | exact rfl

theorem execFxor_k (g : Issue) (rd : Nat) (ra : Nat) (rb : Nat) (e : Ecc) (s : State) {post : State} (h :
    execFxor g rd ra rb e s = .next post) : Kept 0x3A7B177E00FFCC s post := by
  cases h
  repeat' first
    | with_reducible exact Kept.refl _ _
    | with_reducible apply State.runAtom_k
    | exact rfl

theorem execCas_k (g : Issue) (rd : Nat) (ra : Nat) (rb : Nat) (e : Ecc) (s : State) {post : State} (h : execCas
    g rd ra rb e s = .next post) : Kept 0x3A7B177E00FFCC s post := by
  cases h
  repeat' first
    | with_reducible exact Kept.refl _ _
    | with_reducible apply State.runAtom_k
    | exact rfl

theorem execBc_k (g : Issue) (cond : Nat) (off : Nat) (s : State) {post : State} (h : execBc g cond off s =
    .next post) : Kept 0x3A7B177E00FFCC s post := by
  cases h
  repeat' first
    | with_reducible exact Kept.refl _ _
    | with_reducible apply State.runBc_k
    | exact rfl

theorem execCbz_k (g : Issue) (ra : Nat) (off : Nat) (s : State) {post : State} (h : execCbz g ra off s = .next
    post) : Kept 0x3A7B177E00FFCC s post := by
  cases h
  repeat' first
    | with_reducible exact Kept.refl _ _
    | with_reducible apply State.runCb_k
    | exact rfl

theorem execCbnz_k (g : Issue) (ra : Nat) (off : Nat) (s : State) {post : State} (h : execCbnz g ra off s =
    .next post) : Kept 0x3A7B177E00FFCC s post := by
  cases h
  repeat' first
    | with_reducible exact Kept.refl _ _
    | with_reducible apply State.runCb_k
    | exact rfl

theorem execJmp_k (g : Issue) (off : Nat) (s : State) {post : State} (h : execJmp g off s = .next post) : Kept
    0x3A7B177E00FFCC s post := by
  cases h
  repeat' first
    | with_reducible exact Kept.refl _ _
    | with_reducible apply State.runJmp_k
    | exact rfl

theorem execCall_k (g : Issue) (off : Nat) (s : State) {post : State} (h : execCall g off s = .next post) : Kept
    0x3A7B177E00FFCC s post := by
  cases h
  repeat' first
    | with_reducible exact Kept.refl _ _
    | with_reducible apply State.runCall_k
    | exact rfl

theorem execJr_k (g : Issue) (ra : Nat) (s : State) {post : State} (h : execJr g ra s = .next post) : Kept
    0x3A7B177E00FFCC s post := by
  cases h
  repeat' first
    | with_reducible exact Kept.refl _ _
    | with_reducible apply State.runJr_k
    | exact rfl

theorem execCallr_k (g : Issue) (ra : Nat) (s : State) {post : State} (h : execCallr g ra s = .next post) : Kept
    0x3A7B177E00FFCC s post := by
  cases h
  repeat' first
    | with_reducible exact Kept.refl _ _
    | with_reducible apply State.runCallr_k
    | exact rfl

theorem execLoop_k (g : Issue) (ra : Nat) (len : Nat) (s : State) {post : State} (h : execLoop g ra len s =
    .next post) : Kept 0x3A7B177E00FFCC s post := by
  cases h
  repeat' first
    | with_reducible exact Kept.refl _ _
    | with_reducible apply State.runLoop_k
    | exact rfl

theorem execLoopi_k (g : Issue) (count : Nat) (len : Nat) (s : State) {post : State} (h : execLoopi g count len
    s = .next post) : Kept 0x3A7B177E00FFCC s post := by
  cases h
  repeat' first
    | with_reducible exact Kept.refl _ _
    | with_reducible apply State.runLoopi_k
    | exact rfl

theorem execLexit_k (g : Issue) (k : Nat) (s : State) {post : State} (h : execLexit g k s = .next post) : Kept
    0x3A7B177E00FFCC s post := by
  cases h
  repeat' first
    | with_reducible exact Kept.refl _ _
    | with_reducible apply State.runLexit_k
    | exact rfl

theorem execSysNop_k (g : Issue) (s : State) {post : State} (h : execSysNop g s = .next post) : Kept
    0x3A7B177E00FFCC s post := by
  cases h
  repeat' first
    | with_reducible exact Kept.refl _ _
    | with_reducible apply State.runNop_k
    | exact rfl

theorem execWfe_k (g : Issue) (s : State) {post : State} (h : execWfe g s = .next post) : Kept 0x3A7B177E00FFCC
    s post := by
  cases h
  repeat' first
    | with_reducible exact Kept.refl _ _
    | with_reducible apply State.runWfe_k
    | exact rfl

theorem execWfeWake_k (g : Nat) (s : State) {post : State} (h : execWfeWake g s = .next post) : Kept
    0x2030003C000008 s post := by
  cases h
  repeat' first
    | with_reducible exact Kept.refl _ _
    | with_reducible apply State.wfeWake_k
    | exact rfl

theorem execSev_k (g : Issue) (s : State) {post : State} (h : execSev g s = .next post) : Kept 0x3A7B177E00FFCC
    s post := by
  cases h
  repeat' first
    | with_reducible exact Kept.refl _ _
    | with_reducible apply State.runSev_k
    | exact rfl

theorem execReti_k (g : Issue) (late : List Late) (s : State) {post : State} (h : execReti g late s = .next
    post) : Kept 0x3A7B177F80FFCC s post := by
  cases h
  repeat' first
    | with_reducible exact Kept.refl _ _
    | with_reducible apply State.runReti_k
    | exact rfl

theorem execTrap_k (g : Issue) (v : Nat) (s : State) {post : State} (h : execTrap g v s = .next post) : Kept
    0x3A7B177E00FFCC s post := by
  cases h
  repeat' first
    | with_reducible exact Kept.refl _ _
    | with_reducible apply State.runTrap_k
    | exact rfl

theorem execBreak_k (g : Issue) (v : Nat) (s : State) {post : State} (h : execBreak g v s = .next post) : Kept
    0x3A7B177E00FFCC s post := by
  cases h
  repeat' first
    | with_reducible exact Kept.refl _ _
    | with_reducible apply State.runBreak_k
    | exact rfl

theorem execCsrr_k (g : Issue) (rd : Nat) (num : Nat) (s : State) {post : State} (h : execCsrr g rd num s =
    .next post) : Kept 0x3A7B177E00FFCC s post := by
  cases h
  repeat' first
    | with_reducible exact Kept.refl _ _
    | with_reducible apply State.runCsr_k
    | exact rfl

theorem execCsrw_k (g : Issue) (ra : Nat) (num : Nat) (s : State) {post : State} (h : execCsrw g ra num s =
    .next post) : Kept 0x3A7B177E00FFCC s post := by
  cases h
  repeat' first
    | with_reducible exact Kept.refl _ _
    | with_reducible apply State.runCsr_k
    | exact rfl

theorem execCsrs_k (g : Issue) (ra : Nat) (num : Nat) (s : State) {post : State} (h : execCsrs g ra num s =
    .next post) : Kept 0x3A7B177E00FFCC s post := by
  cases h
  repeat' first
    | with_reducible exact Kept.refl _ _
    | with_reducible apply State.runCsr_k
    | exact rfl

theorem execCsrc_k (g : Issue) (ra : Nat) (num : Nat) (s : State) {post : State} (h : execCsrc g ra num s =
    .next post) : Kept 0x3A7B177E00FFCC s post := by
  cases h
  repeat' first
    | with_reducible exact Kept.refl _ _
    | with_reducible apply State.runCsr_k
    | exact rfl

theorem execEi_k (g : Issue) (s : State) {post : State} (h : execEi g s = .next post) : Kept 0x3A7B177E00FFCC s
    post := by
  cases h
  repeat' first
    | with_reducible exact Kept.refl _ _
    | with_reducible apply State.runEi_k
    | exact rfl

theorem execDi_k (g : Issue) (s : State) {post : State} (h : execDi g s = .next post) : Kept 0x3A7B177E00FFCC s
    post := by
  cases h
  repeat' first
    | with_reducible exact Kept.refl _ _
    | with_reducible apply State.runDi_k
    | exact rfl

theorem execIcRaise_k (g : Issue) (ra : Nat) (s : State) {post : State} (h : execIcRaise g ra s = .next post) :
    Kept 0x3A7B177E00FFCC s post := by
  cases h
  repeat' first
    | with_reducible exact Kept.refl _ _
    | with_reducible apply State.runCsr_k
    | exact rfl

theorem execIcPclr_k (g : Issue) (ra : Nat) (s : State) {post : State} (h : execIcPclr g ra s = .next post) :
    Kept 0x3A7B177E00FFCC s post := by
  cases h
  repeat' first
    | with_reducible exact Kept.refl _ _
    | with_reducible apply State.runCsr_k
    | exact rfl

theorem execIdent_k (g : Issue) (rd : Nat) (ra : Nat) (rb : Nat) (s : State) {post : State} (h : execIdent g rd
    ra rb s = .next post) : Kept 0x3A7F177E01FFCC s post := by
  cases h
  repeat' first
    | with_reducible exact Kept.refl _ _
    | with_reducible apply State.runUnit_k
    | exact rfl

theorem execImage_k (g : Issue) (rd : Nat) (ra : Nat) (rb : Nat) (s : State) {post : State} (h : execImage g rd
    ra rb s = .next post) : Kept 0x3A7F177E01FFCC s post := by
  cases h
  repeat' first
    | with_reducible exact Kept.refl _ _
    | with_reducible apply State.runUnit_k
    | exact rfl

theorem execCheckpoint_k (g : Issue) (rd : Nat) (ra : Nat) (rb : Nat) (s : State) {post : State} (h :
    execCheckpoint g rd ra rb s = .next post) : Kept 0x3A7F177E01FFCC s post := by
  cases h
  repeat' first
    | with_reducible exact Kept.refl _ _
    | with_reducible apply State.runUnit_k
    | exact rfl

theorem execRate_k (g : Issue) (rd : Nat) (ra : Nat) (rb : Nat) (s : State) {post : State} (h : execRate g rd ra
    rb s = .next post) : Kept 0x3A7F177E01FFCC s post := by
  cases h
  repeat' first
    | with_reducible exact Kept.refl _ _
    | with_reducible apply State.runUnit_k
    | exact rfl

theorem execTake_k (g : Issue) (rd : Nat) (ra : Nat) (rb : Nat) (s : State) {post : State} (h : execTake g rd ra
    rb s = .next post) : Kept 0x3A7F177E01FFCC s post := by
  cases h
  repeat' first
    | with_reducible exact Kept.refl _ _
    | with_reducible apply State.runUnit_k
    | exact rfl

theorem execFrameRelease_k (g : Issue) (rd : Nat) (ra : Nat) (rb : Nat) (s : State) {post : State} (h :
    execFrameRelease g rd ra rb s = .next post) : Kept 0x3A7F177E01FFCC s post := by
  cases h
  repeat' first
    | with_reducible exact Kept.refl _ _
    | with_reducible apply State.runUnit_k
    | exact rfl

theorem execHdr_k (g : Issue) (rd : Nat) (ra : Nat) (rb : Nat) (s : State) {post : State} (h : execHdr g rd ra
    rb s = .next post) : Kept 0x3A7F177E01FFCC s post := by
  cases h
  repeat' first
    | with_reducible exact Kept.refl _ _
    | with_reducible apply State.runUnit_k
    | exact rfl

theorem execData_k (g : Issue) (rd : Nat) (ra : Nat) (rb : Nat) (s : State) {post : State} (h : execData g rd ra
    rb s = .next post) : Kept 0x3A7F177E01FFCC s post := by
  cases h
  repeat' first
    | with_reducible exact Kept.refl _ _
    | with_reducible apply State.runUnit_k
    | exact rfl

theorem execCopy_k (g : Issue) (rd : Nat) (ra : Nat) (rb : Nat) (s : State) {post : State} (h : execCopy g rd ra
    rb s = .next post) : Kept 0x3A7F177E01FFCC s post := by
  cases h
  repeat' first
    | with_reducible exact Kept.refl _ _
    | with_reducible apply State.runUnit_k
    | exact rfl

theorem execSubmit_k (g : Issue) (rd : Nat) (ra : Nat) (rb : Nat) (s : State) {post : State} (h : execSubmit g
    rd ra rb s = .next post) : Kept 0x3A7F177E01FFCC s post := by
  cases h
  repeat' first
    | with_reducible exact Kept.refl _ _
    | with_reducible apply State.runUnit_k
    | exact rfl

theorem execDone_k (g : Issue) (rd : Nat) (ra : Nat) (rb : Nat) (s : State) {post : State} (h : execDone g rd ra
    rb s = .next post) : Kept 0x3A7F177E01FFCC s post := by
  cases h
  repeat' first
    | with_reducible exact Kept.refl _ _
    | with_reducible apply State.runUnit_k
    | exact rfl

theorem execNow_k (g : Issue) (rd : Nat) (ra : Nat) (rb : Nat) (s : State) {post : State} (h : execNow g rd ra
    rb s = .next post) : Kept 0x3A7F177E01FFCC s post := by
  cases h
  repeat' first
    | with_reducible exact Kept.refl _ _
    | with_reducible apply State.runUnit_k
    | exact rfl

theorem execSechi_k (g : Issue) (rd : Nat) (ra : Nat) (rb : Nat) (s : State) {post : State} (h : execSechi g rd
    ra rb s = .next post) : Kept 0x3A7F177E01FFCC s post := by
  cases h
  repeat' first
    | with_reducible exact Kept.refl _ _
    | with_reducible apply State.runUnit_k
    | exact rfl

theorem execFrac_k (g : Issue) (rd : Nat) (ra : Nat) (rb : Nat) (s : State) {post : State} (h : execFrac g rd ra
    rb s = .next post) : Kept 0x3A7F177E01FFCC s post := by
  cases h
  repeat' first
    | with_reducible exact Kept.refl _ _
    | with_reducible apply State.runUnit_k
    | exact rfl

theorem execWaitUntil_k (g : Issue) (rd : Nat) (ra : Nat) (rb : Nat) (s : State) {post : State} (h :
    execWaitUntil g rd ra rb s = .next post) : Kept 0x3A7F177E01FFCC s post := by
  cases h
  repeat' first
    | with_reducible exact Kept.refl _ _
    | with_reducible apply State.runUnit_k
    | exact rfl

theorem execWaitUntilWake_k (g : Nat) (s : State) {post : State} (h : execWaitUntilWake g s = .next post) : Kept
    0x2030003C000008 s post := by
  cases h
  repeat' first
    | with_reducible exact Kept.refl _ _
    | with_reducible apply State.waitUntilWake_k
    | exact rfl

theorem execTaskDone_k (g : Issue) (rd : Nat) (ra : Nat) (rb : Nat) (s : State) {post : State} (h : execTaskDone
    g rd ra rb s = .next post) : Kept 0x3A7F177E01FFCC s post := by
  cases h
  repeat' first
    | with_reducible exact Kept.refl _ _
    | with_reducible apply State.runUnit_k
    | exact rfl

theorem execTsqPop_k (g : Issue) (rd : Nat) (ra : Nat) (rb : Nat) (s : State) {post : State} (h : execTsqPop g
    rd ra rb s = .next post) : Kept 0x3A7F177E01FFCC s post := by
  cases h
  repeat' first
    | with_reducible exact Kept.refl _ _
    | with_reducible apply State.runUnit_k
    | exact rfl

theorem execTsqStamp_k (g : Issue) (rd : Nat) (ra : Nat) (rb : Nat) (s : State) {post : State} (h : execTsqStamp
    g rd ra rb s = .next post) : Kept 0x3A7F177E01FFCC s post := by
  cases h
  repeat' first
    | with_reducible exact Kept.refl _ _
    | with_reducible apply State.runUnit_k
    | exact rfl

theorem execCrc_k (g : Issue) (j : Nat) (rd : Nat) (ra : Nat) (rb : Nat) (s : State) {post : State} (h : execCrc
    g j rd ra rb s = .next post) : Kept 0x3A7B177E00FFCC s post := by
  cases h
  repeat' first
    | with_reducible exact Kept.refl _ _
    | with_reducible apply State.runCrc_k
    | exact rfl

theorem execCust_k (g : Issue) (unit : Nat) (fn : Nat) (rd : Nat) (ra : Nat) (rb : Nat) (imm : Nat) (s : State)
    {post : State} (h : execCust g unit fn rd ra rb imm s = .next post) : Kept 0x7A7B177E00FFCC s post := by
  cases h
  repeat' first
    | with_reducible exact Kept.refl _ _
    | with_reducible apply State.runAbsent_k
    | with_reducible apply State.runCust_k
    | exact rfl
    | split

theorem execTileFrameSubmit_k (picks : List Nat) (c : Nat) (d : List Byte) (s : State) {post : State} (h :
    execTileFrameSubmit picks c d s = .next post) : Kept 0x6056147E0169C8 s post := by
  cases h
  repeat' first
    | with_reducible exact Kept.refl _ _
    | with_reducible apply State.tileFrame_k
    | exact rfl

theorem execTileSignal_k (c : Nat) (k : Nat) (s : State) {post : State} (h : execTileSignal c k s = .next post)
    : Kept 0x100000000000 s post := by
  cases h
  repeat' first
    | with_reducible exact Kept.refl _ _
    | with_reducible apply State.tileSignal_k
    | exact rfl

theorem execIrqSpendSet_k (yw : Bool) (k : Nat) (w : Word) (s : State) {post : State} (h : execIrqSpendSet yw k
    w s = .next post) : Kept 0x7A7F1F7F91FFDC s post := by
  cases h
  repeat' first
    | with_reducible exact Kept.refl _ _
    | with_reducible apply State.put_k
    | exact rfl

theorem execIrqSpendClear_k (yw : Bool) (k : Nat) (w : Word) (s : State) {post : State} (h : execIrqSpendClear
    yw k w s = .next post) : Kept 0x7A7F1F7F91FFDC s post := by
  cases h
  repeat' first
    | with_reducible exact Kept.refl _ _
    | with_reducible apply State.put_k
    | exact rfl

theorem execIrqSrcWrite_k (yw : Bool) (ix : Nat) (w : Word) (s : State) {post : State} (h : execIrqSrcWrite yw
    ix w s = .next post) : Kept 0x7A7F1F7F91FFDC s post := by
  cases h
  repeat' first
    | with_reducible exact Kept.refl _ _
    | with_reducible apply State.put_k
    | exact rfl

theorem execIrqEqEnable_k (yw : Bool) (q : Nat) (w : Word) (s : State) {post : State} (h : execIrqEqEnable yw q
    w s = .next post) : Kept 0x7A7F1F7F91FFDC s post := by
  cases h
  repeat' first
    | with_reducible exact Kept.refl _ _
    | with_reducible apply State.put_k
    | exact rfl

theorem execIrqEqHead_k (yw : Bool) (q : Nat) (w : Word) (s : State) {post : State} (h : execIrqEqHead yw q w s
    = .next post) : Kept 0x7A7F1F7F91FFDC s post := by
  cases h
  repeat' first
    | with_reducible exact Kept.refl _ _
    | with_reducible apply State.put_k
    | exact rfl

theorem execModerationTimer_k (q : Nat) (s : State) {post : State} (h : execModerationTimer q s = .next post) :
    Kept 0x20000038000000 s post := by
  cases h
  repeat' first
    | with_reducible exact Kept.refl _ _
    | with_reducible apply State.moderationTimer_k
    | exact rfl

theorem execHostSleepReq_k (yw : Bool) (w : Word) (s : State) {post : State} (h : execHostSleepReq yw w s =
    .next post) : Kept 0x7A7F1F7F91FFDC s post := by
  cases h
  repeat' first
    | with_reducible exact Kept.refl _ _
    | with_reducible apply State.put_k
    | exact rfl

theorem execWakeHoldExpiry_k (s : State) {post : State} (h : execWakeHoldExpiry s = .next post) : Kept
    0x20000020000000 s post := by
  cases h
  repeat' first
    | with_reducible exact Kept.refl _ _
    | with_reducible apply State.wakeHold_k
    | exact rfl

theorem execHeldRecordsFlush_k (s : State) {post : State} (h : execHeldRecordsFlush s = .next post) : Kept
    0x2010007C000008 s post := by
  cases h
  repeat' first
    | with_reducible exact Kept.refl _ _
    | with_reducible apply State.masterBack_k
    | exact rfl

theorem execL1Exit_k (s : State) {post : State} (h : execL1Exit s = .next post) : Kept 0x20000038000000 s post
    := by
  cases h
  repeat' first
    | with_reducible exact Kept.refl _ _
    | with_reducible apply State.l1Leave_k
    | exact rfl

theorem execHostQTail_k (yw : Bool) (q : Nat) (w : Word) (s : State) {post : State} (h : execHostQTail yw q w s
    = .next post) : Kept 0x7A7F1F7F91FFDC s post := by
  cases h
  repeat' first
    | with_reducible exact Kept.refl _ _
    | with_reducible apply State.put_k
    | exact rfl

theorem execHostQCfg_k (yw : Bool) (q : Nat) (w : Word) (s : State) {post : State} (h : execHostQCfg yw q w s =
    .next post) : Kept 0x7A7F1F7F91FFDC s post := by
  cases h
  repeat' first
    | with_reducible exact Kept.refl _ _
    | with_reducible apply State.put_k
    | exact rfl

theorem execTxDescriptor_k (q : Nat) (desc : Option (List Byte)) (image : Option (List Byte)) (s : State) {post
    : State} (h : execTxDescriptor q desc image s = .next post) : Kept 0x2012007E018808 s post := by
  cases h
  repeat' first
    | with_reducible exact Kept.refl _ _
    | with_reducible apply State.txDescriptor_k
    | exact rfl

theorem execRxSlotFetch_k (q : Nat) (ix : Nat) (desc : Option (List Byte)) (s : State) {post : State} (h :
    execRxSlotFetch q ix desc s = .next post) : Kept 0x2010107C00B988 s post := by
  cases h
  repeat' first
    | with_reducible exact Kept.refl _ _
    | with_reducible apply State.rxSlotFetch_k
    | exact rfl

theorem execQueueStopped_k (q : Nat) (s : State) {post : State} (h : execQueueStopped q s = .next post) : Kept
    0x40000000 s post := by
  cases h
  repeat' first
    | with_reducible exact Kept.refl _ _
    | with_reducible apply State.queueStopped_k
    | exact rfl

theorem execYwLinkUp_k (s : State) {post : State} (h : execYwLinkUp s = .next post) : Kept 0x201000BC000008 s
    post := by
  cases h
  repeat' first
    | with_reducible exact Kept.refl _ _
    | with_reducible apply State.ywLink_k
    | exact rfl

theorem execYwLinkDown_k (s : State) {post : State} (h : execYwLinkDown s = .next post) : Kept 0x201000BC000008
    s post := by
  cases h
  repeat' first
    | with_reducible exact Kept.refl _ _
    | with_reducible apply State.ywLink_k
    | exact rfl

theorem execYwFrameError_k (s : State) {post : State} (h : execYwFrameError s = .next post) : Kept 0x8 s post :=
    by
  cases h
  repeat' first
    | with_reducible exact Kept.refl _ _
    | with_reducible apply State.ywFrameError_k
    | exact rfl

theorem execYwIdentity_k (seq : Nat) (s : State) {post : State} (h : execYwIdentity seq s = .next post) : Kept
    0x7FFFFFFFFFFFFF s post := by
  cases h
  repeat' first
    | with_reducible exact Kept.refl _ _
    | with_reducible apply State.ywRequest_k
    | exact rfl

theorem execYwStatus_k (seq : Nat) (s : State) {post : State} (h : execYwStatus seq s = .next post) : Kept
    0x7FFFFFFFFFFFFF s post := by
  cases h
  repeat' first
    | with_reducible exact Kept.refl _ _
    | with_reducible apply State.ywRequest_k
    | exact rfl

theorem execYwRead_k (seq : Nat) (off : Nat) (n : Nat) (s : State) {post : State} (h : execYwRead seq off n s =
    .next post) : Kept 0x7FFFFFFFFFFFFF s post := by
  cases h
  repeat' first
    | with_reducible exact Kept.refl _ _
    | with_reducible apply State.ywRequest_k
    | exact rfl

theorem execYwWrite_k (seq : Nat) (off : Nat) (ws : List Word) (fetched : Option (List Byte)) (e : Meets) (s :
    State) {post : State} (h : execYwWrite seq off ws fetched e s = .next post) : Kept 0x7FFFFFFFFFFFFF s post := by
  cases h
  repeat' first
    | with_reducible exact Kept.refl _ _
    | with_reducible apply State.ywRequest_k
    | exact rfl

theorem execYwCommand_k (seq : Nat) (b : List Byte) (s : State) {post : State} (h : execYwCommand seq b s =
    .next post) : Kept 0x7FFFFFFFFFFFFF s post := by
  cases h
  repeat' first
    | with_reducible exact Kept.refl _ _
    | with_reducible apply State.ywRequest_k
    | exact rfl

theorem execYwTime_k (seq : Nat) (s : State) {post : State} (h : execYwTime seq s = .next post) : Kept
    0x7FFFFFFFFFFFFF s post := by
  cases h
  repeat' first
    | with_reducible exact Kept.refl _ _
    | with_reducible apply State.ywRequest_k
    | exact rfl

theorem execYwWake_k (seq : Nat) (s : State) {post : State} (h : execYwWake seq s = .next post) : Kept
    0x7FFFFFFFFFFFFF s post := by
  cases h
  repeat' first
    | with_reducible exact Kept.refl _ _
    | with_reducible apply State.ywRequest_k
    | exact rfl

theorem execFirmware_k (yw : Bool) (inbuf : Bool) (len : Nat) (fetched : Option (List Byte)) (s : State) {post :
    State} (h : execFirmware yw inbuf len fetched s = .next post) : Kept 0x7A7F1F7F91FFDC s post := by
  cases h
  repeat' first
    | with_reducible exact Kept.refl _ _
    | with_reducible apply State.updateBy_k
    | exact rfl

theorem execStoreImage_k (yw : Bool) (inbuf : Bool) (len : Nat) (fetched : Option (List Byte)) (s : State) {post
    : State} (h : execStoreImage yw inbuf len fetched s = .next post) : Kept 0x7A7F1F7F91FFDC s post := by
  cases h
  repeat' first
    | with_reducible exact Kept.refl _ _
    | with_reducible apply State.updateBy_k
    | exact rfl

theorem execEraseImage_k (yw : Bool) (inbuf : Bool) (len : Nat) (fetched : Option (List Byte)) (s : State) {post
    : State} (h : execEraseImage yw inbuf len fetched s = .next post) : Kept 0x7A7F1F7F91FFDC s post := by
  cases h
  repeat' first
    | with_reducible exact Kept.refl _ _
    | with_reducible apply State.updateBy_k
    | exact rfl

theorem execTestedSet_k (yw : Bool) (inbuf : Bool) (len : Nat) (fetched : Option (List Byte)) (s : State) {post
    : State} (h : execTestedSet yw inbuf len fetched s = .next post) : Kept 0x7A7F1F7F91FFDC s post := by
  cases h
  repeat' first
    | with_reducible exact Kept.refl _ _
    | with_reducible apply State.updateBy_k
    | exact rfl

theorem execPolicy_k (yw : Bool) (inbuf : Bool) (len : Nat) (fetched : Option (List Byte)) (s : State) {post :
    State} (h : execPolicy yw inbuf len fetched s = .next post) : Kept 0x7A7F1F7F91FFDC s post := by
  cases h
  repeat' first
    | with_reducible exact Kept.refl _ _
    | with_reducible apply State.updateBy_k
    | exact rfl

theorem execKeyCert_k (yw : Bool) (inbuf : Bool) (len : Nat) (fetched : Option (List Byte)) (s : State) {post :
    State} (h : execKeyCert yw inbuf len fetched s = .next post) : Kept 0x7A7F1F7F91FFDC s post := by
  cases h
  repeat' first
    | with_reducible exact Kept.refl _ _
    | with_reducible apply State.updateBy_k
    | exact rfl

theorem execLifecycle_k (yw : Bool) (inbuf : Bool) (len : Nat) (fetched : Option (List Byte)) (s : State) {post
    : State} (h : execLifecycle yw inbuf len fetched s = .next post) : Kept 0x7A7F1F7F91FFDC s post := by
  cases h
  repeat' first
    | with_reducible exact Kept.refl _ _
    | with_reducible apply State.updateBy_k
    | exact rfl

theorem execDebug_k (yw : Bool) (inbuf : Bool) (len : Nat) (fetched : Option (List Byte)) (s : State) {post :
    State} (h : execDebug yw inbuf len fetched s = .next post) : Kept 0x7A7F1F7F91FFDC s post := by
  cases h
  repeat' first
    | with_reducible exact Kept.refl _ _
    | with_reducible apply State.updateBy_k
    | exact rfl

theorem execKeeperStoreDone_k (s : State) {post : State} (h : execKeeperStoreDone s = .next post) : Kept
    0x7FFFFFFFFFFFFF s post := by
  cases h
  repeat' first
    | with_reducible exact Kept.refl _ _
    | with_reducible apply State.storeDone_k
    | exact rfl

theorem execSessionExpiry_k (s : State) {post : State} (h : execSessionExpiry s = .next post) : Kept
    0x2210003C000008 s post := by
  cases h
  repeat' first
    | with_reducible exact Kept.refl _ _
    | with_reducible apply State.sessionExpiry_k
    | exact rfl

theorem execSessionClose_k (yw : Bool) (s : State) {post : State} (h : execSessionClose yw s = .next post) :
    Kept 0x7A7F1F7F91FFDC s post := by
  cases h
  repeat' first
    | with_reducible exact Kept.refl _ _
    | with_reducible apply State.put_k
    | exact rfl

theorem execDebugHalt_k (yw : Bool) (g : Nat) (halt : Bool) (s : State) {post : State} (h : execDebugHalt yw g
    halt s = .next post) : Kept 0x7A7F1F7F91FFDC s post := by
  cases h
  repeat' first
    | with_reducible exact Kept.refl _ _
    | with_reducible apply State.put_k
    | exact rfl

theorem execDebugStep_k (yw : Bool) (g : Nat) (e : Meets) (s : State) {post : State} (h : execDebugStep yw g e s
    = .next post) : Kept 0x7A7F1F7F91FFDC s post := by
  cases h
  repeat' first
    | with_reducible exact Kept.refl _ _
    | with_reducible apply State.writeWord_k
    | exact rfl

theorem execDebugData_k (yw : Bool) (write : Bool) (w : Word) (s : State) {post : State} (h : execDebugData yw
    write w s = .next post) : Kept 0x7A7F1F7F91FFFC s post := by
  cases h
  repeat' first
    | with_reducible exact Kept.refl _ _
    | with_reducible apply State.readBy_k
    | with_reducible apply State.put_k
    | exact rfl
    | split

theorem execTapShift_k (yw : Bool) (w : Word) (s : State) {post : State} (h : execTapShift yw w s = .next post)
    : Kept 0x7A7F1F7F91FFDC s post := by
  cases h
  repeat' first
    | with_reducible exact Kept.refl _ _
    | with_reducible apply State.put_k
    | exact rfl

theorem execOutputSequenceStart_k (s : State) {post : State} (h : execOutputSequenceStart s = .next post) : Kept
    0x2810003C000008 s post := by
  cases h
  repeat' first
    | with_reducible exact Kept.refl _ _
    | with_reducible apply State.sequenceStart_k
    | exact rfl

theorem execPdDetected_k (q : Nat) (cls : Nat) (s : State) {post : State} (h : execPdDetected q cls s = .next
    post) : Kept 0x2810003C000008 s post := by
  cases h
  repeat' first
    | with_reducible exact Kept.refl _ _
    | with_reducible apply State.detect_k
    | exact rfl

theorem execDetectRepeat_k (q : Nat) (cls : Option Nat) (s : State) {post : State} (h : execDetectRepeat q cls s
    = .next post) : Kept 0x2810003C000008 s post := by
  cases h
  repeat' first
    | with_reducible exact Kept.refl _ _
    | with_reducible apply State.detect_k
    | exact rfl

theorem execClassRetry_k (q : Nat) (cls : Option Nat) (s : State) {post : State} (h : execClassRetry q cls s =
    .next post) : Kept 0x2810003C000008 s post := by
  cases h
  repeat' first
    | with_reducible exact Kept.refl _ _
    | with_reducible apply State.classRetry_k
    | exact rfl

theorem execPortInrushComplete_k (q : Nat) (mV : Nat) (mA : Nat) (s : State) {post : State} (h :
    execPortInrushComplete q mV mA s = .next post) : Kept 0x8000000000000 s post := by
  cases h
  repeat' first
    | with_reducible exact Kept.refl _ _
    | with_reducible apply State.portInrushComplete_k
    | exact rfl

theorem execPortInrushTimeout_k (q : Nat) (mA : Nat) (s : State) {post : State} (h : execPortInrushTimeout q mA
    s = .next post) : Kept 0x2810003C000008 s post := by
  cases h
  repeat' first
    | with_reducible exact Kept.refl _ _
    | with_reducible apply State.portInrushTimeout_k
    | exact rfl

theorem execPortLimit_k (q : Nat) (mV : Nat) (mA : Nat) (s : State) {post : State} (h : execPortLimit q mV mA s
    = .next post) : Kept 0x2810003C000008 s post := by
  cases h
  repeat' first
    | with_reducible exact Kept.refl _ _
    | with_reducible apply State.portLimit_k
    | exact rfl

theorem execPortFaultTimer_k (q : Nat) (mA : Nat) (s : State) {post : State} (h : execPortFaultTimer q mA s =
    .next post) : Kept 0x2810003C000008 s post := by
  cases h
  repeat' first
    | with_reducible exact Kept.refl _ _
    | with_reducible apply State.portFaultTimer_k
    | exact rfl

theorem execPortShort_k (q : Nat) (mA : Nat) (s : State) {post : State} (h : execPortShort q mA s = .next post)
    : Kept 0x2810003C000008 s post := by
  cases h
  repeat' first
    | with_reducible exact Kept.refl _ _
    | with_reducible apply State.portShort_k
    | exact rfl

theorem execPortRetryEnd_k (q : Nat) (s : State) {post : State} (h : execPortRetryEnd q s = .next post) : Kept
    0x2810003C000008 s post := by
  cases h
  repeat' first
    | with_reducible exact Kept.refl _ _
    | with_reducible apply State.portRetryEnd_k
    | exact rfl

theorem execPortPg_k (q : Nat) (on : Bool) (mV : Nat) (mA : Nat) (s : State) {post : State} (h : execPortPg q on
    mV mA s = .next post) : Kept 0x2810003C000008 s post := by
  cases h
  repeat' first
    | with_reducible exact Kept.refl _ _
    | with_reducible apply State.portPg_k
    | exact rfl

theorem execPortRetriesReset_k (q : Nat) (s : State) {post : State} (h : execPortRetriesReset q s = .next post)
    : Kept 0x8000000000000 s post := by
  cases h
  repeat' first
    | with_reducible exact Kept.refl _ _
    | with_reducible apply State.portRetriesReset_k
    | exact rfl

theorem execPortPassFault_k (q : Nat) (s : State) {post : State} (h : execPortPassFault q s = .next post) : Kept
    0x2A10003C000008 s post := by
  cases h
  repeat' first
    | with_reducible exact Kept.refl _ _
    | with_reducible apply State.portPassFault_k
    | exact rfl

theorem execLimitShed_k (s : State) {post : State} (h : execLimitShed s = .next post) : Kept 0x2810003C000008 s
    post := by
  cases h
  repeat' first
    | with_reducible exact Kept.refl _ _
    | with_reducible apply State.limitShed_k
    | exact rfl

theorem execMarginEvaluation_k (margins : List (Nat × Nat)) (rs : List Report) (s : State) {post : State} (h :
    execMarginEvaluation margins rs s = .next post) : Kept 0x3A7B177E00FFCC s post := by
  cases h
  repeat' first
    | with_reducible exact Kept.refl _ _
    | with_reducible apply State.marginEvaluation_k
    | exact rfl

theorem execUnitFault_k (r : Report) (s : State) {post : State} (h : execUnitFault r s = .next post) : Kept
    0x3A7B177E00FFCC s post := by
  cases h
  repeat' first
    | with_reducible exact Kept.refl _ _
    | with_reducible apply State.monitorReport_k
    | exact rfl

theorem execSliceSubstitution_k (n : Nat) (done : Bool) (parityOk : Bool) (s : State) {post : State} (h :
    execSliceSubstitution n done parityOk s = .next post) : Kept 0x3A7B177E00FFCC s post := by
  cases h
  repeat' first
    | with_reducible exact Kept.refl _ _
    | with_reducible apply State.sliceSubstitution_k
    | exact rfl

theorem execSegmentSubstitution_k (u : Nat) (s : State) {post : State} (h : execSegmentSubstitution u s = .next
    post) : Kept 0x3A7B177E00FFCC s post := by
  cases h
  repeat' first
    | with_reducible exact Kept.refl _ _
    | with_reducible apply State.segmentSubstitution_k
    | exact rfl

theorem execHltRetest_k (yw : Bool) (w : Word) (s : State) {post : State} (h : execHltRetest yw w s = .next
    post) : Kept 0x7A7F1F7F91FFDC s post := by
  cases h
  repeat' first
    | with_reducible exact Kept.refl _ _
    | with_reducible apply State.put_k
    | exact rfl

theorem execRetestDone_k (pass : Bool) (s : State) {post : State} (h : execRetestDone pass s = .next post) :
    Kept 0x3218143C000008 s post := by
  cases h
  repeat' first
    | with_reducible exact Kept.refl _ _
    | with_reducible apply State.retestDone_k
    | exact rfl

theorem execCalUserWrite_k (yw : Bool) (ix : Nat) (w : Word) (s : State) {post : State} (h : execCalUserWrite yw
    ix w s = .next post) : Kept 0x7A7F1F7F91FFDC s post := by
  cases h
  repeat' first
    | with_reducible exact Kept.refl _ _
    | with_reducible apply State.put_k
    | exact rfl

theorem execBeaconMillisecond_k (s : State) {post : State} (h : execBeaconMillisecond s = .next post) : Kept
    0x31403000000 s post := by
  cases h
  repeat' first
    | with_reducible exact Kept.refl _ _
    | with_reducible apply State.beaconMs_k
    | exact rfl

theorem execInputLimitEnd_k (mA : Nat) (s : State) {post : State} (h : execInputLimitEnd mA s = .next post) :
    Kept 0x4000000000000 s post := by
  cases h
  repeat' first
    | with_reducible exact Kept.refl _ _
    | with_reducible apply State.inputLimitEnd_k
    | exact rfl

theorem execPortLimitEnd_k (q : Nat) (mV : Nat) (mA : Nat) (s : State) {post : State} (h : execPortLimitEnd q mV
    mA s = .next post) : Kept 0x8000000000000 s post := by
  cases h
  repeat' first
    | with_reducible exact Kept.refl _ _
    | with_reducible apply State.portLimitEnd_k
    | exact rfl

theorem execRailOutOfWindow_k (s : State) {post : State} (h : execRailOutOfWindow s = .next post) : Kept
    0x24000000000000 s post := by
  cases h
  repeat' first
    | with_reducible exact Kept.refl _ _
    | with_reducible apply State.railOut_k
    | exact rfl

theorem execFeedsRemoved_k (s : State) {post : State} (h : execFeedsRemoved s = .next post) : Kept
    0x400000000000C s post := by
  cases h
  repeat' first
    | with_reducible exact Kept.refl _ _
    | with_reducible apply State.feedsRemoved_k
    | exact rfl

theorem execPcieLinkUp_k (s : State) {post : State} (h : execPcieLinkUp s = .next post) : Kept 0x2010007C000008
    s post := by
  cases h
  repeat' first
    | with_reducible exact Kept.refl _ _
    | with_reducible apply State.linkL0_k
    | exact rfl

theorem execD3hotEntry_k (d3 : Bool) (bme : Bool) (pmeEn : Bool) (s : State) {post : State} (h : execD3hotEntry
    d3 bme pmeEn s = .next post) : Kept 0x2010007C000008 s post := by
  cases h
  repeat' first
    | with_reducible exact Kept.refl _ _
    | with_reducible apply State.d3Entry_k
    | exact rfl

theorem execLinkL1Entry_k (s : State) {post : State} (h : execLinkL1Entry s = .next post) : Kept 0x20000000 s
    post := by
  cases h
  repeat' first
    | with_reducible exact Kept.refl _ _
    | with_reducible apply State.l1Enter_k
    | exact rfl

theorem execMsixTableWrite_k (v : Nat) (addr : Nat) (data : Nat) (masked : Bool) (fnMask : Option Bool) (s :
    State) {post : State} (h : execMsixTableWrite v addr data masked fnMask s = .next post) : Kept 0x20000020000000
    s post := by
  cases h
  repeat' first
    | with_reducible exact Kept.refl _ _
    | with_reducible apply State.fnMaskWrite_k
    | with_reducible apply State.msixWrite_k
    | exact rfl
    | split

theorem execYwBadRequest_k (type : Nat) (seq : Nat) (b : List Byte) (s : State) {post : State} (h :
    execYwBadRequest type seq b s = .next post) : Kept 0x7FFFFFFFFFFFFF s post := by
  cases h
  repeat' first
    | with_reducible exact Kept.refl _ _
    | with_reducible apply State.ywRequest_k
    | exact rfl

theorem execWufFrameDecoded_k (n : Nat) (valid : Bool) (error : Bool) (s : State) {post : State} (h :
    execWufFrameDecoded n valid error s = .next post) : Kept 0x7FFFFFFFFFFFFF s post := by
  cases h
  repeat' first
    | with_reducible exact Kept.refl _ _
    | with_reducible apply State.wufFrame_k
    | exact rfl

end Sys2Proof.Machine
end

