-- ==== Sys2Proof/Tests/Slice0.lean ====
section
/-! SUPPORT. Tests: operands that no row allows, instruction words written out from the tables of the spec, single steps,
and, for every statement with hypotheses, states and operands that meet them, clause by clause. -/
namespace Sys2Proof.Tests
open Sys2Proof Machine

/- One theorem at a time: side by side they would wait for each other, each with a thread and a stack of its own. -/
set_option Elab.async false

/-! ### Small states -/

/-- The state after reset, in mode `m`. -/
def inMode (m : Mode) : State := { State.reset with ctl := { ModeCtl.reset with mode := m } }

/-- The same with a command of the executor in progress. -/
def running (m : Mode) (op target : Nat) (args : List Byte) : State :=
  { State.reset with ctl := { ModeCtl.reset with
      mode := m, exec := some { origin := .yewirak, opcode := op, target := target, tag := 0, args := args } } }

/-- A state with the registers listed. -/
def withRegs (l : Tbl Word) (s : State) : State := { s with regs := l }

/-- Output `q` in state `x` with `r` retries used, in OPERATIONAL. -/
def output (q : Nat) (x : SparState) (r : Nat) : State :=
  (inMode .operational).setSpar q { (State.reset.spar q) with state := x, retries := r }

/-- A structure of clusters `c` with a feed budget. -/
def structOf (c budget : Nat) : Structure :=
  { id := 1, clusters := c, budgetMa := budget, holdMaxMs := 50, full := ⟨0, 0, 0, 0, 0⟩, reloaded := [], used := [],
    images := [], plan := [] }

/-- Engine `g` running in OPERATIONAL with register state `c`, the word of `o` at its pc. -/
def engineAt (g : Nat) (o : Op) (c : Cpu) : State :=
  (inMode .operational).setEng g { Engine.unused with
    state := .running, cpu := c, imem := bytesTbl c.pc (leBytes 4 o.word.toNat) }

/-- General registers `x`, everything else at its start value. -/
def cpuX (x : List Word) : Cpu := { Cpu.start with x := x ++ List.replicate (16 - x.length) 0 }

/-- An image of depth 8 in each inbox, with a checkpoint of one unit. -/
def imageD : Image := ⟨1, 0x01020003, List.replicate 64 7, [1, 2], 0, 0, 16, [9], 0x10000000, 1, 0, 0x08080808⟩

/-- The engine of `engineAt` changed by `f`. -/
def engineWith (g : Nat) (o : Op) (c : Cpu) (f : Engine → Engine) : State :=
  let s := engineAt g o c
  s.setEng g (f (s.eng g))

/-- Channel `n` in state `x` of the line, confinement `c`, with counts. -/
def chan (n : Nat) (x : CtlState) (c : ConfState) (tec rc : Nat) (s : State) : State :=
  s.setLane n { BusLane.reset with ctl := x, conf := c, tec := tec, recv := rc }

/-- Slot `k` loaded from descriptor `d`. -/
def slotOf (k d : Nat) : BusSlot := ⟨k, d, 0, false, 0, 0, none, none⟩

/-- Channel `n` transmitting slot `k` of descriptor `d`. -/
def sending (n k d : Nat) (c : ConfState) (tec rc : Nat) (s : State) : State :=
  s.setLane n { BusLane.reset with ctl := .transmitting, conf := c, tec := tec, recv := rc, slots := [slotOf k d],
                                   current := some k, order := 1 }

/-- A classical data frame. -/
def frame0 (ident : Nat) (data : List Byte) : Frame :=
  { format := 1, flags := 0, srcKind := 0, srcIndex := 0, ident := ident, stamp := 0, dlc := data.length, sdt := 0,
    af := 0, vcid := 0, conf := 0, node := 0, route := 0, seq := 0, data := data }

/-- Descriptor `i` of kind `k` in state `x`. -/
def descOf (k : DescKind) (x : DescState) : Desc := { Desc.unused with kind := k, state := x }

/-- A delivery of record `r` to mailbox or FIFO `i`. -/
def deliveryTo (kind i r : Nat) : Delivery :=
  { record := r, route := 3, word := 0, kind := kind, index := i, param := 0, deadline := 0, drop := false,
    hold := false, tunnel := [], tagged := false, tunSeq := none, launch := none, stampReq := false, tag := 0,
    arrival := 0, held := false, seq := 0 }

/-- A frame of partner 7 in transit with deliveries `ds`. -/
def transitOf (id : Nat) (ds : List Delivery) : Transit :=
  { id := id, partner := 7, source := 0, seq := 0, since := 0, late := false, pending := ds }

/-- Mode `m` with power die `p`. -/
def powered (m : Mode) (p : Power) : State := { inMode m with power := p }

/-- The power die with its switch in state `w`, both feeds in range and the store full. -/
def die (w : SwState) : Power :=
  { Power.reset with sw := w, feedA := true, feedB := true, pinA := true, pinB := true, vFeedA := 24000, vFeedB := 24000,
                     storeFull := true, railsOk := true, seatA := true, seatB := true }

/-- Mode `m` with the host's link `h`. -/
def hosted (m : Mode) (h : HostLink) : State := { inMode m with host := h }

/-- The host's link up, its function set to master the bus. -/
def hostUp : HostLink := { HostLink.reset with up := true, busMaster := true, perst := false }

/-- OPERATIONAL with port `p`. -/
def withPort (p : Nat) (x : Port) : State := (inMode .operational).setPort p x

/-- A port with its link up. -/
def linked : Port := { Port.reset with link := true }

/-- An entry of class `k` without a record. -/
def ethEntry (k : Nat) (octets : List Byte) : EthEntry :=
  { record := none, route := 3, acf := none, cls := k, launch := none, late := false, stampReq := true, tag := 9,
    octets := octets }

/-- OPERATIONAL with Beacon running at time `ns`, in servo state `x`. -/
def beaconAt (x : Servo) (ns : Nat) : State :=
  { inMode .operational with beacon := { Beacon.reset with running := true, state := x, raw := ns * 2 ^ 16, stepAvail := true } }

/-- A cycle of 1 ms. -/
def cycle1 : CycleCfg := { period := 1000000, phase := 100, catchup := 0, matrixLog2 := 3, ntu := 1000 }

/-- Schedule of role `r` with windows `w`. -/
def schedOf (r : Role) (w : List Window) : Schedule :=
  { role := r, level := 1, refId := 0x100, followTol := 5000, backupDelay := 20000, windows := w }

/-- OPERATIONAL at time `ns` with cycle1, the schedule of timeline `n` and its timeline. -/
def cycleAt (n ns : Nat) (x : Schedule) (t : Timeline) : State :=
  { beaconAt .locked ns with cycle := some cycle1, gridK := some (cycle1.index ns), scheds := [(n, some x)],
                             timelines := [(n, t)], struct := some (structOf 15 1000) }

/-- A window of the cycle, placed. -/
def placed (i : Nat) (ty : WinType) (r start stop : Nat) : Placed :=
  { index := i, win := ⟨ty, 1000, 5000, r, 0, 0⟩, start := start, stop := stop }

/-- State `s` in mode `m`. -/
def withMode (m : Mode) (s : State) : State := { s with ctl := { s.ctl with mode := m } }

/-- A public key, and streams and objects signed with its private key: r and s were computed outside the model. -/
def keyB : List Byte :=
  [4, 124, 36, 251, 126, 213, 34, 45, 130, 140, 206, 225, 155, 47, 41, 89, 70, 31, 122, 163, 46, 96, 65, 56, 74,
    176, 194, 37] ++
  [177, 228, 159, 55, 129, 155, 162, 110, 225, 208, 85, 195, 191, 165, 114, 102, 15, 102, 174, 166, 244, 80, 9, 166,
    105, 190, 81, 165] ++
  [236, 52, 59, 133, 5, 105, 122, 31, 6, 177, 233, 145, 49, 147, 7, 203, 238, 184, 55, 239, 147, 228, 140, 208, 101,
    217, 182, 54] ++
  [112, 101, 154, 240, 248, 160, 255, 236, 22, 26, 240, 138, 243]

/-- State `s` with the key in slot 0, for every purpose. -/
def signer (s : State) : State :=
  { s with keeper := { s.keeper with slots := ⟨.active, 0xFF, keyB⟩ :: s.keeper.slots.drop 1 } }

/-- A FULL stream of a MODULE and a CLUSTER record. -/
def fullS : List Byte :=
  [77, 73, 67, 65, 1, 0, 1, 255, 77] ++
  List.replicate 6 0 ++
  [1, 1, 0, 1, 0, 0, 0, 0, 0, 1, 0, 0, 0, 1, 0, 0, 0, 3, 0, 0, 0, 248] ++
  List.replicate 27 0 ++
  [1, 0, 255, 0, 32] ++
  List.replicate 7 0 ++
  [1, 0, 0, 0, 232, 3, 0, 0, 50] ++
  List.replicate 27 0 ++
  [16, 0, 0, 0, 8, 0, 0, 0, 1] ++
  List.replicate 7 0 ++
  [3] ++
  List.replicate 7 0 ++
  [240, 0, 255, 0, 96, 0, 0, 0, 2, 0, 0, 0, 1, 0, 0, 0, 147, 148, 191, 228, 63, 92, 215, 254, 182, 80, 202, 115] ++
  [85, 93, 36, 245, 123, 44, 7, 37, 58, 170, 163, 118, 223, 243, 40, 160, 87, 242, 104, 225, 193, 147, 253, 144,
    102, 154, 97, 127] ++
  [91, 241, 64, 9, 47, 157, 103, 185, 224, 222, 75, 150, 176, 57, 169, 117, 156, 255, 76, 181, 136, 111, 81, 208, 5,
    164, 49, 45] ++
  [43, 134, 155, 145, 105, 193, 121, 158, 59, 152, 147, 167, 150, 116, 181, 234, 66, 110, 255, 38, 143, 194, 243,
    190, 16, 106, 76, 142]

/-- A CLUSTER stream for cluster 2. -/
def clusS : List Byte :=
  [77, 73, 67, 65, 1, 0, 2, 2, 77] ++
  List.replicate 6 0 ++
  [1, 1, 0, 1, 0, 0, 0, 0, 0, 1, 0, 0, 0, 4, 0, 0, 0, 2, 0, 0, 0, 200] ++
  List.replicate 27 0 ++
  [16, 0, 2, 0, 8] ++
  List.replicate 11 0 ++
  [3] ++
  List.replicate 7 0 ++
  [240, 0, 255, 0, 96, 0, 0, 0, 1, 0, 0, 0, 1, 0, 0, 0, 147, 148, 191, 228, 63, 92, 215, 254, 182, 80, 202, 115] ++
  [85, 93, 36, 245, 123, 44, 7, 37, 58, 170, 163, 118, 223, 243, 40, 160, 87, 242, 104, 225, 193, 147, 253, 144,
    102, 154, 97, 127] ++
  [91, 241, 64, 9, 47, 157, 103, 185, 194, 93, 96, 34, 10, 153, 35, 182, 196, 162, 128, 103, 21, 179, 159, 88, 171,
    10, 52, 242] ++
  [12, 63, 204, 151, 25, 88, 153, 94, 82, 144, 59, 139, 10, 246, 234, 238, 105, 99, 62, 52, 72, 108, 114, 122, 221,
    240, 157, 21]

/-- The FULL stream with one byte changed. -/
def badS : List Byte := fullS.set 100 7

/-- A firmware update. -/
def fwObj : List Byte :=
  [1, 2, 3, 83, 69, 65, 76, 1, 0, 1, 0, 77, 0, 0, 0, 5, 0, 0, 0, 1, 0, 1, 0, 1, 0, 1, 0, 3] ++
  [0, 0, 0, 3, 0, 0, 0, 134, 34, 157, 198, 210, 255, 190, 172, 115, 128, 116, 65, 84, 170, 112, 2, 145, 192, 100,
    53, 42] ++
  [13, 189, 199, 123, 158, 211, 242, 200, 225, 218, 196, 220, 50, 88, 103, 211, 157, 223, 241, 210, 98, 155, 122,
    57, 61, 71, 246] ++
  List.replicate 16 0 ++
  [147, 148, 191, 228, 63, 92, 215, 254, 182, 80, 202, 115, 85, 93, 36, 245, 123, 44, 7, 37, 58, 170, 163, 118, 223,
    243, 40, 160] ++
  [87, 242, 104, 225, 193, 147, 253, 144, 102, 154, 97, 127, 91, 241, 64, 9, 47, 157, 103, 185, 180, 76, 196, 174,
    109, 50, 10, 164] ++
  [249, 205, 177, 72, 31, 210, 241, 153, 157, 207, 166, 196, 8, 177, 213, 207, 78, 67, 20, 128, 160, 43, 119, 86,
    247, 27, 123, 185] ++
  [246, 1, 107, 127, 52, 109, 84, 237, 165, 211, 229, 84]

/-- A Jadesum image. -/
def jadObj : List Byte :=
  [74, 65, 68, 83, 1, 0, 1, 0, 7, 0, 0, 0, 8, 0, 0, 0, 8] ++
  List.replicate 55 0 ++
  [83, 69, 65, 76, 1, 0, 2, 0, 7, 0, 0, 0, 8] ++
  List.replicate 7 0 ++
  [1] ++
  List.replicate 7 0 ++
  [72, 0, 0, 0, 114, 227, 50, 248, 140, 135, 37, 68, 95, 177, 59, 40, 96, 174, 187, 19, 87, 152, 102, 75, 164, 0, 1,
    136] ++
  [86, 70, 232, 84, 155, 247, 28, 127, 86, 132, 115, 196, 208, 96, 118, 32, 74, 206, 227, 132, 53, 61, 32, 11] ++
  List.replicate 16 0 ++
  [147, 148, 191, 228, 63, 92, 215, 254, 182, 80, 202, 115, 85, 93, 36, 245, 123, 44, 7, 37, 58, 170, 163, 118, 223,
    243, 40, 160] ++
  [87, 242, 104, 225, 193, 147, 253, 144, 102, 154, 97, 127, 91, 241, 64, 9, 47, 157, 103, 185, 133, 98, 24, 189,
    195, 39, 192, 198] ++
  [218, 103, 25, 111, 205, 186, 55, 155, 222, 5, 170, 93, 17, 28, 129, 245, 54, 132, 214, 14, 97, 63, 103, 200, 189,
    100, 242, 70] ++
  [82, 131, 216, 89, 120, 51, 6, 71, 203, 248, 252, 74]

/-- A tile image. -/
def tilObj : List Byte :=
  [84, 73, 76, 69, 1, 0, 1, 0, 7, 0, 0, 0, 8] ++
  List.replicate 11 0 ++
  [8] ++
  List.replicate 15 0 ++
  [83, 69, 65, 76, 1, 0, 3, 0, 7, 0, 0, 0, 8] ++
  List.replicate 9 0 ++
  [1, 0, 0, 0, 0, 0, 40, 0, 0, 0, 24, 49, 17, 109, 114, 35, 71, 195, 94, 63, 193, 55, 145, 69, 175, 10, 10, 207] ++
  [77, 127, 16, 235, 188, 118, 24, 69, 187, 123, 123, 246, 45, 74, 97, 68, 69, 115, 83, 149, 139, 66, 29, 202, 81,
    118, 196, 162] ++
  [11, 202] ++
  List.replicate 16 0 ++
  [147, 148, 191, 228, 63, 92, 215, 254, 182, 80, 202, 115, 85, 93, 36, 245, 123, 44, 7, 37, 58, 170, 163, 118, 223,
    243, 40, 160] ++
  [87, 242, 104, 225, 193, 147, 253, 144, 102, 154, 97, 127, 91, 241, 64, 9, 47, 157, 103, 185, 250, 196, 239, 205,
    190, 254, 195, 76] ++
  [235, 112, 120, 217, 91, 130, 30, 226, 163, 158, 104, 67, 152, 12, 16, 154, 176, 189, 219, 114, 37, 67, 79, 0,
    192, 133, 130, 156] ++
  [42, 160, 200, 87, 27, 157, 26, 50, 215, 146, 87, 161]

/-- A tested-set table. -/
def tabObj : List Byte :=
  [1, 0, 0, 0, 9] ++
  List.replicate 11 0 ++
  [1, 0, 0, 0, 1, 0, 0, 0, 1] ++
  List.replicate 7 0 ++
  [83, 69, 65, 76, 1, 0, 4] ++
  List.replicate 21 0 ++
  [32, 0, 0, 0, 184, 136, 199, 29, 96, 119, 175, 188, 114, 144, 155, 125, 79, 157, 64, 194, 194, 52, 36, 136, 237,
    81, 69, 223] ++
  [22, 179, 121, 63, 29, 184, 183, 173, 86, 216, 237, 52, 174, 228, 241, 203, 211, 56, 197, 188, 224, 222, 113, 125] ++
  List.replicate 16 0 ++
  [147, 148, 191, 228, 63, 92, 215, 254, 182, 80, 202, 115, 85, 93, 36, 245, 123, 44, 7, 37, 58, 170, 163, 118, 223,
    243, 40, 160] ++
  [87, 242, 104, 225, 193, 147, 253, 144, 102, 154, 97, 127, 91, 241, 64, 9, 47, 157, 103, 185, 157, 41, 52, 163,
    88, 91, 250, 190] ++
  [158, 50, 244, 180, 152, 58, 237, 244, 163, 14, 193, 159, 202, 29, 35, 220, 214, 138, 208, 120, 161, 10, 221, 140,
    46, 193, 42, 85] ++
  [101, 45, 232, 249, 64, 147, 139, 120, 115, 140, 152, 117]

/-- A policy. -/
def polObj : List Byte :=
  [1, 0, 0, 0, 4] ++
  List.replicate 11 0 ++
  [83, 69, 65, 76, 1, 0, 5] ++
  List.replicate 21 0 ++
  [16, 0, 0, 0, 72, 159, 35, 76, 98, 167, 155, 53, 81, 92, 47, 9, 99, 43, 196, 28, 177, 231, 129, 78, 133, 242, 144,
    168] ++
  [223, 190, 247, 24, 74, 245, 237, 209, 69, 153, 49, 150, 102, 56, 165, 43, 153, 200, 167, 209, 186, 164, 150, 102] ++
  List.replicate 16 0 ++
  [147, 148, 191, 228, 63, 92, 215, 254, 182, 80, 202, 115, 85, 93, 36, 245, 123, 44, 7, 37, 58, 170, 163, 118, 223,
    243, 40, 160] ++
  [87, 242, 104, 225, 193, 147, 253, 144, 102, 154, 97, 127, 91, 241, 64, 9, 47, 157, 103, 185, 104, 54, 150, 7,
    229, 197, 69, 196] ++
  [252, 36, 251, 240, 173, 59, 53, 206, 21, 214, 221, 225, 73, 144, 137, 68, 92, 50, 103, 134, 156, 238, 147, 219,
    108, 127, 144, 238] ++
  [197, 166, 72, 61, 181, 66, 133, 28, 94, 78, 70, 122]

/-- A lifecycle order: DECOMMISSIONED. -/
def lifObj : List Byte :=
  [5] ++
  List.replicate 23 0 ++
  [83, 69, 65, 76, 1, 0, 6] ++
  List.replicate 21 0 ++
  [24, 0, 0, 0, 126, 172, 66, 81, 39, 9, 206, 188, 251, 138, 201, 150, 12, 132, 114, 102, 130, 148, 186, 143, 187,
    179, 88, 149] ++
  [108, 208, 253, 156, 112, 84, 20, 21, 129, 189, 34, 23, 187, 90, 63, 167, 200, 87, 63, 69, 101, 158, 25, 144] ++
  List.replicate 16 0 ++
  [147, 148, 191, 228, 63, 92, 215, 254, 182, 80, 202, 115, 85, 93, 36, 245, 123, 44, 7, 37, 58, 170, 163, 118, 223,
    243, 40, 160] ++
  [87, 242, 104, 225, 193, 147, 253, 144, 102, 154, 97, 127, 91, 241, 64, 9, 47, 157, 103, 185, 72, 229, 96, 221,
    42, 201, 50, 81] ++
  [209, 103, 158, 132, 208, 113, 2, 51, 65, 233, 154, 12, 6, 3, 22, 26, 75, 171, 151, 174, 119, 241, 225, 135, 165,
    83, 28, 143] ++
  [155, 220, 58, 166, 80, 4, 43, 179, 33, 107, 150, 111]

/-- A debug token of level 2. -/
def dbgObj : List Byte :=
  [2, 0, 10, 0, 255] ++
  List.replicate 19 0 ++
  [83, 69, 65, 76, 1, 0, 7] ++
  List.replicate 21 0 ++
  [24, 0, 0, 0, 215, 174, 232, 211, 107, 192, 67, 126, 152, 5, 144, 44, 68, 194, 215, 108, 87, 255, 26, 78, 185,
    220, 72, 207] ++
  [11, 36, 148, 238, 185, 230, 105, 55, 113, 198, 34, 180, 71, 25, 37, 140, 49, 194, 84, 64, 74, 178, 44, 153] ++
  List.replicate 16 0 ++
  [147, 148, 191, 228, 63, 92, 215, 254, 182, 80, 202, 115, 85, 93, 36, 245, 123, 44, 7, 37, 58, 170, 163, 118, 223,
    243, 40, 160] ++
  [87, 242, 104, 225, 193, 147, 253, 144, 102, 154, 97, 127, 91, 241, 64, 9, 47, 157, 103, 185, 4, 151, 172, 240,
    32, 217, 126, 49] ++
  [195, 191, 208, 249, 4, 27, 173, 216, 30, 142, 76, 124, 111, 151, 190, 80, 197, 46, 182, 203, 205, 85, 36, 217,
    185, 2, 249, 226] ++
  [194, 213, 65, 210, 141, 76, 157, 107, 252, 83, 14, 97]

/-- A certificate for key slot 3. -/
def cerObj : List Byte :=
  [3, 1, 16] ++
  List.replicate 13 0 ++
  [4, 0, 1, 2, 3, 4, 5, 6, 7, 8, 9, 10, 11, 12, 13, 14, 15, 16, 17, 18, 19, 20, 21, 22, 23, 24, 25, 26] ++
  [27, 28, 29, 30, 31, 32, 33, 34, 35, 36, 37, 38, 39, 40, 41, 42, 43, 44, 45, 46, 47, 48, 49, 50, 51, 52, 53, 54] ++
  [55, 56, 57, 58, 59, 60, 61, 62, 63, 64, 65, 66, 67, 68, 69, 70, 71, 72, 73, 74, 75, 76, 77, 78, 79, 80, 81, 82] ++
  [83, 84, 85, 86, 87, 88, 89, 90, 91, 92, 93, 94, 95] ++
  List.replicate 7 0 ++
  [83, 69, 65, 76, 1, 0, 8] ++
  List.replicate 21 0 ++
  [120, 0, 0, 0, 169, 46, 147, 135, 126, 60, 23, 1, 161, 212, 76, 37, 56, 134, 51, 83, 121, 212, 175, 88, 91, 234,
    66, 47] ++
  [98, 191, 5, 33, 118, 78, 143, 92, 88, 204, 72, 228, 213, 203, 25, 114, 127, 212, 63, 164, 129, 91, 211, 135] ++
  List.replicate 16 0 ++
  [147, 148, 191, 228, 63, 92, 215, 254, 182, 80, 202, 115, 85, 93, 36, 245, 123, 44, 7, 37, 58, 170, 163, 118, 223,
    243, 40, 160] ++
  [87, 242, 104, 225, 193, 147, 253, 144, 102, 154, 97, 127, 91, 241, 64, 9, 47, 157, 103, 185, 237, 169, 223, 160,
    66, 66, 190, 78] ++
  [31, 172, 146, 123, 118, 36, 50, 93, 56, 97, 37, 83, 238, 210, 206, 98, 162, 194, 137, 148, 186, 17, 127, 39, 34,
    177, 190, 106] ++
  [93, 73, 81, 124, 0, 214, 41, 129, 204, 42, 82, 119]

/-- A policy whose signature has one byte changed. -/
def badObj : List Byte :=
  [0, 0, 0, 0, 4] ++
  List.replicate 11 0 ++
  [83, 69, 65, 76, 1, 0, 5] ++
  List.replicate 21 0 ++
  [16, 0, 0, 0, 135, 221, 84, 207, 65, 168, 53, 191, 16, 209, 36, 106, 14, 71, 144, 238, 28, 165, 28, 241, 166, 217,
    187, 221] ++
  [120, 255, 8, 53, 92, 166, 202, 220, 99, 244, 44, 166, 231, 170, 22, 218, 205, 51, 182, 189, 2, 95, 56, 21] ++
  List.replicate 16 0 ++
  [147, 148, 191, 228, 63, 92, 215, 254, 182, 80, 202, 115, 85, 93, 36, 245, 123, 44, 7, 37, 58, 170, 163, 118, 223,
    243, 40, 160] ++
  [87, 242, 104, 225, 193, 147, 253, 144, 102, 154, 97, 127, 91, 241, 64, 9, 47, 157, 103, 185, 128, 63, 206, 103,
    62, 20, 51, 129] ++
  [107, 206, 36, 115, 113, 72, 51, 169, 132, 178, 6, 236, 20, 137, 140, 253, 188, 208, 159, 27, 19, 221, 22, 0, 34,
    4, 238, 145] ++
  [230, 143, 83, 53, 79, 97, 46, 109, 51, 92, 244, 0]

/-- The body of a signed object. -/
def bodyOf (o : List Byte) : List Byte := o.take (o.length - 192)

/-- The closing block of a signed object. -/
def closingOf (o : List Byte) : Closing :=
  match closing o with
  | some (_, c) => c
  | none => ⟨0, 0, 0, 0, 0, 0, 0, 0, 0, [], [], []⟩

/-- SERVICE with the host open and key slot 0 holding `keyB`. -/
def keepers : State := signer { inMode .service with host := hostUp }

/-- A masked entry of slice 1 that accepts every frame onto route 3, whose one word names inbox 0 of engine 8. -/
def routed (s : State) : State :=
  { s with
    slices := [(1, { Slice.empty with
      bank0 := [(0, some ⟨false, 0, 0, ⟨.accept, .deliver, 3, 0xFFFF, none, none, none⟩⟩)] })],
    routes := [(3, [3, 0, 2, 0, 9, 0, 0, 1] ++ List.replicate 8 0 ++ [4, 0, 8] ++ List.replicate 45 0)],
    routeOwners := [(3, 1)] }

/-- Engine 9 submits two data bytes onto that route. -/
def subState : State :=
  routed ((engineAt 9 (.unit .submit 3 1 0) (cpuX [0, 0x10000000])).putEngBytes 9 0x10000000
    ([1, 0, 0, 0, 0x12, 0, 0, 0, 0, 0, 0, 0, 0, 0, 0, 0, 2, 0, 2, 0, 0, 0, 0, 0, 0, 0, 0, 0, 5, 0, 0, 0] ++ [7, 8]))

/-- What engine 9 submits. -/
def subBytes : List Byte := subState.engBytes 9 0x10000000 34

/-- Stage 4 of that frame. -/
def subStage : Stage4 × State :=
  (subState.submitted 9 3 subBytes).stage4 1 (submitFrame subBytes srcEngine 9 subState.stamp) false

/-- The frame after stage 4. -/
def subFrame : Frame := match subStage.1 with | .pass f _ => f | _ => frame0 0 []

/-- What stage 4 gathers. -/
def subGather : Gather := match subStage.1 with | .pass _ g => g | _ => Gather.start

/-- Its destination set. -/
def subSet : (Nat × List (Delivery × List Frame)) × State :=
  subStage.2.waitingSet subGather.routes subFrame none false 5 subStage.2.time

/-- TX queue 63 posts slot 15, and its route 3 names inbox 0 of engine 8. -/
def txState : State :=
  { hosted .operational hostUp with
    hostQs := [(63, { HostQ.reset with enable := true, depth := 16, head := 15 })],
    routes := [(3, [3, 0, 3, 0, 63, 0, 0, 1, 0, 0, 0, 0, 0, 0, 0, 0, 4, 0, 8, 0, 0, 0, 0, 0] ++ List.replicate 40 0)] }

/-- A descriptor that names route 3, and its image, a classical frame of two bytes. -/
def txDesc : List Byte := List.replicate 20 0 ++ [3, 0] ++ List.replicate 10 0
def txImage : List Byte := [1, 0, 0, 0, 0x12, 0, 0, 0, 0, 0, 0, 0, 0, 0, 0, 0, 2, 0, 2] ++ List.replicate 13 0 ++ [7, 8]

/-- The request they make. -/
def txReq : WaitReq := txState.hostRequest 63 15 txDesc txImage

/-- The queue with it waiting. -/
def txEntered : State :=
  (txState.setHostQ 63 { txState.hostQ 63 with flight := [⟨15, .fetched, txDesc, 0, 0⟩] }).addWait txReq

/-- Its destination set. -/
def txSet : (Nat × List (Delivery × List Frame)) × State :=
  txEntered.waitingSet [txReq.frame.route] txReq.frame txReq.launch txReq.stampReq txReq.tag txReq.entered

/-- The key of a base classical frame from bus lane 0 with identifier 0x123, and an entry that rejects it. -/
def fltKey : Nat := 2 ^ 124 + 0x123 * 2 ^ 64

/-- Its action. -/
def fltAct : ActBlock := ⟨.reject, .deliver, 0xFFFF, 0xFFFF, none, none, none⟩

/-- The exact entry. -/
def exactE : ExactEnt := ⟨fltKey, fltAct⟩

/-- The same as a masked entry with the post flag. -/
def maskedE : MaskedEnt := ⟨true, fltKey, fltKey, fltAct⟩

/-- OPERATIONAL with slice 3 as `x` and that entry staged, `aux` in word 12. -/
def staged (aux : Word) (x : Slice) : State :=
  (withRegs ([(2, 0x123), (3, 0x10000000), (6, 0x123), (7, 0x10000000), (8, 0xFFFF0003), (9, 0xFFFF), (10, 0xFFFFFFFF),
    (12, aux)].map fun e => (fltBase 3 + 0x40 + 4 * e.1, e.2)) (inMode .operational)).setSlice 3 x

/-- A slice with the entry in exact slot 3891 and in shadow slot 4095, another in the first. -/
def fullSlice : Slice :=
  { Slice.empty with exact := [(3891, some exactE)], bank0 := [(0, some maskedE)], bank1 := [(4095, some maskedE)] }

/-- OPERATIONAL with check context 32767 as `x`. -/
def ctxOn (x : Option Ctx) : State := (inMode .operational).setCtx 32767 x

/-- A context that has counted. -/
def ctx0 : Ctx := ⟨3, List.replicate 24 1, true, 5, 4, 3, 2, 1, true, true, true⟩

/-- OPERATIONAL with `h` in quarantine ring 3. -/
def ringOn (h : List (List Byte)) : State := (inMode .operational).setRing 3 ⟨63, h, true⟩

/-- The CLUSTER stream with its LANE record twice. -/
def dupS : List Byte := clusS.take 88 ++ (clusS.drop 64).take 24 ++ clusS.drop 88

/-- State `s` with a FULL debug session over all engines. -/
def fullDebug (s : State) : State := { s with keeper := { s.keeper with session := some ⟨2, 2 ^ 32 - 1, 100, 0⟩ } }

/-- A two-byte frame as a tile submits it. -/
def tileD : List Byte := [1, 0, 0, 0, 0x12] ++ List.replicate 11 0 ++ [2, 0, 2] ++ List.replicate 9 0 ++ [5, 0, 0, 0, 7, 8]

/-- Tile 1 running, its frames routed to inbox 0 of engine 8, its partner with a quota of 50 cells. -/
def tileState : State :=
  let s := routed { inMode .operational with
    tiles := [(1, { Tile.none with running := true })],
    engines := [(8, { Engine.unused with state := .running, image := some imageD })] }
  { s with
    routes := [(3, ((s.route 3).set 2 4).set 4 1)],
    partners := [(97, { Partner.none 97 with allocated := true, weight := 1, age := 100, g := 50 })] }

/-- A head that waits for cells, and a state with room for it. -/
def grantW : WaitReq := ⟨3, 100, 4, 1, frame0 5 [1], [(deliveryTo 5 9 0, [])], none, none, 0, [], none, none, false,
  0, 0, true⟩

/-- Mailbox 9 is empty and partner 100 has cells. -/
def grants : State :=
  { inMode .operational with
    waits := [grantW], descs := [(9, descOf .rxMailbox .empty)],
    partners := [(100, { Partner.none 100 with allocated := true, g := 50 })] }

/-- Its destinations that are up, and those with credit. -/
def granted := grants.available (grantW.dests.map (State.recapture grantW grants))
def credited := granted.2.takeCredits granted.1

/-! ### Well-formedness: each range, one past its end -/

theorem test_wf_offsets :
    Instr.wf (.registerWrite true 0x100 15 0 none .none) = true ∧
    Instr.wf (.registerWrite true 0x102 15 0 none .none) = false ∧
    Instr.wf (.registerWrite true 0x4000000 15 0 none .none) = false ∧
    Instr.wf (.registerWrite true 0x100 16 0 none .none) = false ∧
    Instr.wf (.bar2Write 0x1000000 15 0) = false ∧ Instr.wf (.bar2Write 2 15 0) = false := by decide +kernel

theorem test_wf_units :
    Instr.wf (.integrationComplete 40) = false ∧ Instr.wf (.wakeUpPattern [39, 40]) = false ∧
    Instr.wf (.linkUp 24 true) = false ∧ Instr.wf (.engineRestart true 32) = false ∧
    Instr.wf (.clusterStage6 4) = false ∧
    Instr.wf (.streamValidation 5) = false ∧ Instr.wf (.waitingGrant [] 5) = false ∧
    Instr.wf (.waitingGrant [262144] 4) = false ∧ Instr.wf (.windowStart 72) = false ∧
    Instr.wf (.moderationTimer 64) = false ∧ Instr.wf (.feedInRange 2 24000) = false ∧
    Instr.wf (.headEscalation 4096) = false ∧ Instr.wf (.rowSubstitution 32 0) = false ∧
    Instr.wf (.rowSubstitution 0 512) = false ∧ Instr.wf (.hostLinkReset 4) = false ∧
    Instr.wf (.pauseExpiry 0 8) = false := by decide +kernel

theorem test_wf_tables :
    Instr.wf (.nodeTableCommit true 4096 0) = false ∧ Instr.wf (.nodeTableStage true 0 7 0) = false ∧
    Instr.wf (.lock true 65536) = false ∧ Instr.wf (.pop true 1024) = false ∧
    Instr.wf (.readExact true 0 32768) = false ∧ Instr.wf (.resync true 32768) = false ∧
    Instr.wf (.irqSpendSet true 32 0) = false ∧ Instr.wf (.irqSrcWrite true 1024 0) = false ∧
    Instr.wf (.rxSlotFetch 0 4096 none) = false ∧ Instr.wf (.bringupTimeout 256) = false := by decide +kernel

theorem test_wf_operands :
    Instr.wf (.ext (.clean 0) 1 2 0 32 false) = true ∧ Instr.wf (.ext (.clean 0) 1 2 1 32 false) = false ∧
    Instr.wf (.ins (.clean 0) 1 2 0 0) = false ∧ Instr.wf (.add (.clean 0) 16 0 0) = false ∧
    Instr.wf (.std (.clean 0) 3 0 0) = false ∧
    Instr.wf (.bc (.clean 0) 15 0) = false ∧ Instr.wf (.lexit (.clean 0) 5) = false ∧
    Instr.wf (.loop (.clean 0) 1 0) = false ∧
    Instr.wf (.loopi (.clean 0) 0 512) = false ∧ Instr.wf (.addi (.clean 0) 1 1 262144) = false ∧
    Instr.wf (.trap (.clean 0) 256) = false ∧
    Instr.wf (.slotLoad 0 32 .clean) = false ∧ Instr.wf (.ywWrite 0 0 [] none .none) = false ∧
    Instr.wf (.ywCommand 0 []) = false ∧ Instr.wf (.ywBadRequest 0x30 0 []) = false ∧
    Instr.wf (.busError 0 (BusFault.plain 7 [])) = false ∧
    Instr.wf (.firmware true false 2097152 none) = false := by decide +kernel

/-! ### Words of Genat instructions, from Table 15-6 to Table 15-14 -/

/-- The worked words of Table 15-14; the last has a reserved bit set. -/
theorem test_words_of_table_15_14 :
    decodeWord 0x2D59C000 = some (.reg3 .sra 5 6 7) ∧ decodeWord 0xF4A24830 = some (.unit .waitUntil 2 8 9) ∧
    decodeWord 0xE8001003 = some (.loopi 8 3) ∧ decodeWord 0x2D59C001 = none := by decide +kernel

/-- op, rd, ra, rb, sub, reserved of format A. -/
theorem test_words_format_a :
    decodeWord 0b000001_0001_0010_0011_0000_0000000000 = some (.reg3 .add 1 2 3) ∧
    decodeWord 0b010100_0001_0010_0000_0000_0000000000 = some (.reg2 .neg 1 2) ∧
    decodeWord 0b010100_0001_0010_0001_0000_0000000000 = none ∧
    decodeWord 0b100100_0000_0010_0011_0000_0000000000 = some (.cmp 2 3) ∧
    decodeWord 0b110111_0000_1110_0000_0000_0000000000 = some (.jr 14) ∧
    decodeWord 0b111000_0000_0101_0000_0000_0000000000 = some (.callr 5) := by decide +kernel

/-- op, rd, ra, imm18 of format I. -/
theorem test_words_format_i :
    decodeWord 0b011110_0001_0010_111111111111111111 = some (.immed .addi 1 2 0x3FFFF) ∧
    decodeWord 0b100111_1111_0010_000000000000000100 = some (.load .ldw 15 2 4) ∧
    decodeWord 0b110000_0100_0010_000000000000001000 = some (.store .std 4 2 8) ∧
    decodeWord 0b110000_0101_0010_000000000000001000 = none ∧
    decodeWord 0b100010_0001_0010_10_0000000000_011111 = some (.shi 1 2 2 31) ∧
    decodeWord 0b011100_0001_0010_0000000_1_00011_00100 = some (.ext 1 2 3 5 true) ∧
    decodeWord 0b011101_0001_0010_0000000_0_11111_00000 = some (.ins 1 2 31 1) ∧
    decodeWord 0b011101_0001_0010_0000000_0_11111_00001 = none ∧
    decodeWord 0b110011_0000_0011_111111111111111110 = some (.cb false 3 0x3FFFE) ∧
    decodeWord 0b111001_0000_0011_000000000000000111 = some (.loop 3 7) ∧
    decodeWord 0b111011_0000_0000_000000000000000101 = none := by decide +kernel

/-- The formats B, J, U, S and X. -/
theorem test_words_other_formats :
    decodeWord 0b110010_1110_0000000000000000000001 = some (.bc 14 1) ∧
    decodeWord 0b110010_1111_0000000000000000000001 = none ∧
    decodeWord 0b110101_11111111111111111111111111 = some (.jmp 0x3FFFFFF) ∧
    decodeWord 0b110110_00000000000000000000000010 = some (.call 2) ∧
    decodeWord 0b100011_0111_0000000000000000000001 = some (.lui 7 1) ∧
    decodeWord 0b111100_0000_0000_0000_000000_00000000 = some .nop ∧
    decodeWord 0b111100_0000_0000_0000_000100_11111111 = some (.trap 255) ∧
    decodeWord 0b111100_0011_0000_0000_000110_00101100 = some (.csr .csrr 3 0x2C) ∧
    decodeWord 0b111100_0000_0011_0000_000111_00000010 = some (.csr .csrw 3 2) ∧
    decodeWord 0b111101_0100_0101_0000_0001_000000_0000 = some (.unit .take 4 5 0) ∧
    decodeWord 0b111110_0001_0010_0011_000101_00001001 = some (.tile 5 1 2 3 9) ∧
    decodeWord 0 = none ∧ decodeWord 0b111111_00000000000000000000000000 = none := by decide +kernel

/-! ### Single steps -/

/-- The pc of engine 0 and its register 1 after a command. -/
def after (c : Instr) (s : State) : Nat × Word :=
  match exec c s with
  | .next t => ((t.cpu 0).pc, t.x 0 1)
  | _ => (0, 0)

theorem test_step_takes_the_front :
    step { State.reset with pending := [.nop, .resume] } = exec .nop { State.reset with pending := [.resume] } := rfl

theorem test_add_wraps :
    after (.add (.clean 0) 1 2 3) (engineAt 0 (.reg3 .add 1 2 3) (cpuX [0, 0, 0xFFFFFFFF, 2])) = (4, 1) := by
  decide +kernel

theorem test_sra_keeps_the_sign :
    after (.sra (.clean 0) 1 2 3) (engineAt 0 (.reg3 .sra 1 2 3) (cpuX [0, 0, 0x80000000, 31])) = (4, 0xFFFFFFFF) := by
  decide +kernel

theorem test_lui_shifts_by_ten :
    after (.lui (.clean 0) 1 0x3FFFFF) (engineAt 0 (.lui 1 0x3FFFFF) (cpuX [])) = (4, 0xFFFFFC00) := by decide +kernel

theorem test_jmp_goes_back :
    after (.jmp (.clean 0) 0x3FFFFFF) (engineAt 0 (.jmp 0x3FFFFFF) { cpuX [] with pc := 0x100 }) = (0xFC, 0) := by
  decide +kernel

/-! ### States and operands that meet the hypotheses of each statement -/

def s2_1 : State := State.reset
def s2_2 : State := { State.reset with beacon := { Beacon.reset with running := true } }

theorem witness_IdleStepTicks :
  (s2_1.pending = [] ∧ s2_1.beacon.running = false) ∧
  (s2_2.pending = [] ∧ s2_2.beacon.running = true ∧ s2_2.cycle = none ∧ s2_2.beacon.ppsLast = none ∧
    s2_2.beacon.ppsUntil = none ∧ s2_2.beacon.syncHigh = false ∧ s2_2.rb 32800 21 = false ∧
    (∀ (p : Nat), (s2_2.bport p).hold = false) ∧ (∀ (n : Nat), (s2_2.lane n).recovering = false)) := by
  and_intros <;> first | decide +kernel | exact fun _ => rfl

def s4_1 : State := inMode .operational

theorem witness_RegistersAndAliases :
  (0 < 1024 ∧ 118784 = 118784 + 4 * 0 ∧ s4_1.open_ 118784 = true ∧
    Reg.ofOff (Blk.pool.evtOff + 4) = some (Reg.evt Blk.pool 1) ∧ s4_1.open_ (Blk.pool.evtOff + 4) = true ∧
    Reg.ofOff (Blk.pool.evtOff + 8) = some (Reg.evt Blk.pool 2) ∧ s4_1.open_ (Blk.pool.evtOff + 8) = true ∧
    s4_1.open_ 84 = true ∧ s4_1.open_ 88 = true ∧ 0 < 32 ∧ (isAlias 1 118784 = false ∨ s4_1.open_ 118784 = false) ∧
    (isAlias 2 118784 = false ∨ s4_1.open_ 118784 = false)) ∧
  (3 < 4 ∧ 15 < 16 ∧ fltBase 3 + 124 = fltBase 3 + 64 + 4 * 15 ∧ s4_1.open_ (fltBase 3 + 124) = true) ∧
  (s4_1.open_ 256 = true ∧ 7 % 16 ≠ 15 ∧
    (match Reg.ofOff 256 with | some (Reg.kprInbuf _) => false | _ => true) = true) ∧
  (s4_1.open_ 2 = false) := by
  and_intros <;> decide +kernel

def s5_1 : State := {inMode .operational with links := [(262143, {Link1.free with hw := true})]}
def s5_2 : State := inMode .operational

theorem witness_CountersLatchesAndBar2 :
  (0 < 4 ∧ 0 < 4096 ∧ s5_1.open_ (fltBase 0 + 4096 + 4 * 0) = true ∧ s5_1.open_ (4194304 + 32 * 0) = true ∧
    16777212 < 2 ^ 24 ∧ 16777212 % 4 = 0 ∧ s5_1.mode.bar2 = true ∧ (s5_1.link (16777212 / 64)).hw = true ∧
    Memory.wf s5_1.mem = true) ∧
  (16777212 < 2 ^ 24 ∧ 16777212 % 4 = 0 ∧ s5_2.mode.bar2 = true ∧ (s5_2.link (16777212 / 64)).hw = false) := by
  and_intros <;> decide +kernel

def s6_1 : State := withRegs [(0x108, 0x80000008)] (inMode .operational)
def s6_2 : State := withRegs [(0x108, 0x80000004), (0x10C, 2), (0x110, 1)] (inMode .operational)

theorem witness_CommandQueueRegisters :
  (s6_1.open_ 268 = true ∧ fld 255 0 8 < 2 ^ s6_1.rf 264 0 4 ∧ s6_1.open_ 84 = true ∧ bit 255 0 = true ∧
    s6_1.open_ 88 = true) ∧
  (s6_2.open_ 268 = true ∧ 2 ^ s6_2.rf 264 0 4 ≤ fld 16 0 8 ∧ s6_2.rf 92 26 6 = 0) ∧
  (s6_2.open_ 264 = true ∧ s6_2.rb 264 31 = true ∧ bit 4 31 = false ∧ fld 4 0 4 = s6_2.rf 264 0 4 ∧ 4 ≤ fld 4 0 4 ∧
    fld 4 0 4 ≤ 8) := by
  and_intros <;> decide +kernel

def s9_1 : State := running .operational 11 0 []
def s9_2 : State :=
  let r := running .standby 6 0 []; { r with ctl := { r.ctl with wakePending := true } }
def s9_3 : State := running .standby 6 0 []
def s9_4 : State := running .test 10 0 []
def s9_5 : State := running .operational 4 0 []
def s9_6 : State := running .standby 5 0 []
def s9_7 : State := running .operational 7 0 []
def s9_8 : State := running .service 8 0 []
def s9_9 : State := { running .unconfigured 9 0 [] with keeper := { Keeper.reset with lifecycle := .factory } }

theorem witness_ModeCommands :
  (s9_1.ctl.exec = some { origin := CmdOrigin.yewirak, opcode := 11, target := 0, tag := 0, args := [] : Cmd } ∧
    s9_1.ctl.waiting = [] ∧ s9_1.mode ≠ Mode.bringUp ∧
    (s9_1.mode = Mode.faultHold → s9_1.ctl.causePresent = false)) ∧
  (s9_2.ctl.exec = some { origin := CmdOrigin.yewirak, opcode := 6, target := 0, tag := 0, args := [] : Cmd } ∧
    s9_2.ctl.waiting = [] ∧ s9_2.mode = Mode.standby ∧ s9_2.ctl.wakePending = true) ∧
  (s9_3.ctl.exec = some { origin := CmdOrigin.yewirak, opcode := 6, target := 0, tag := 0, args := [] : Cmd } ∧
    s9_3.ctl.waiting = [] ∧ s9_3.mode = Mode.standby ∧ s9_3.ctl.wakePending = false) ∧
  (s9_4.ctl.exec = some { origin := CmdOrigin.yewirak, opcode := 10, target := 0, tag := 0, args := [] : Cmd } ∧
    s9_4.ctl.waiting = [] ∧ s9_4.mode = Mode.test) ∧
  (s9_5.ctl.exec = some { origin := CmdOrigin.yewirak, opcode := 4, target := 0, tag := 0, args := [] : Cmd } ∧
    s9_5.ctl.waiting = [] ∧ s9_5.mode ≠ Mode.standby) ∧
  (s9_6.ctl.exec = some { origin := CmdOrigin.yewirak, opcode := 5, target := 0, tag := 0, args := [] : Cmd } ∧
    s9_6.ctl.waiting = [] ∧ s9_6.mode = Mode.standby) ∧
  (s9_7.ctl.exec = some { origin := CmdOrigin.yewirak, opcode := 7, target := 0, tag := 0, args := [] : Cmd } ∧
    s9_7.ctl.waiting = [] ∧ s9_7.mode ≠ Mode.service ∧ s9_7.serviceCell = true) ∧
  (s9_8.ctl.exec = some { origin := CmdOrigin.yewirak, opcode := 8, target := 0, tag := 0, args := [] : Cmd } ∧
    s9_8.ctl.waiting = [] ∧ s9_8.mode = Mode.service) ∧
  (s9_9.ctl.exec = some { origin := CmdOrigin.yewirak, opcode := 9, target := 0, tag := 0, args := [] : Cmd } ∧
    s9_9.ctl.waiting = [] ∧ s9_9.mode ≠ Mode.test ∧ s9_9.testCell = true) := by
  and_intros <;> decide +kernel

def s10_1 : State := running .operational 9 0 []
def s10_2 : State :=
  let r := running .faultHold 11 0 []; {r with ctl := {r.ctl with hold := .overtemp, causePresent := true}}
def s10_3 : State :=
  let r := running .operational 7 0 []; {r with keeper := {r.keeper with lifecycle := .decommissioned}}

theorem witness_IdleAndDeniedCommands :
  (s10_1.ctl.exec = some { origin := CmdOrigin.yewirak, opcode := 9, target := 0, tag := 0, args := [] : Cmd } ∧
    s10_1.ctl.waiting = [] ∧ s10_1.testCell = false ∧ s10_1.executing 0 = none ∧ s10_1.executing 3 = none ∧
    s10_1.executing 4 = none ∧ s10_1.executing 5 = none ∧ s10_1.executing 6 = none ∧ s10_1.executing 7 = none ∧
    s10_1.executing 8 = none ∧ s10_1.executing 10 = none ∧ s10_1.executing 11 = none ∧ s10_1.executing 12 = none ∧
    s10_1.executing 13 = none ∧ s10_1.executing 14 = none ∧ s10_1.executing 15 = none ∧ s10_1.executing 16 = none ∧
    s10_1.executing 18 = none ∧ s10_1.executing 19 = none ∧ s10_1.executing 20 = none) ∧
  (s10_2.ctl.exec = some { origin := CmdOrigin.yewirak, opcode := 11, target := 0, tag := 0, args := [] : Cmd } ∧
    s10_2.ctl.waiting = [] ∧ s10_2.mode = Mode.faultHold ∧ s10_2.ctl.causePresent = true ∧
    s10_2.executing 9 = none) ∧
  (s10_3.ctl.exec = some { origin := CmdOrigin.yewirak, opcode := 7, target := 0, tag := 0, args := [] : Cmd } ∧
    s10_3.ctl.waiting = [] ∧ s10_3.serviceCell = false) := by
  and_intros <;> decide +kernel

def s11_1 : State := { output 63 .on 0 with spars := [(63, { Spar.reset with state := .on, pg := true })] }
def s11_2 : State := withRegs [(sparBase 40, 0x10000000), (sparBase 40 + 4, 0x0)] (output 40 .detect 0)
def s11_3 : State := output 0 .inrush 0
def s11_4 : State := output 63 .limit 0
def s11_5 : State := output 40 .detect 0
def s11_6 : State :=
  (withRegs [(sparBase 63, 0x10000000), (sparBase 63 + 4, 0x80)] (inMode .operational)).setSpar 63
    { Spar.reset with state := .detect }

theorem witness_OutputStatesAndDetection :
  ((s11_1.spar 63).state ≠ SparState.inrush ∧ (s11_1.spar 63).state = SparState.on ∧ (s11_1.spar 63).pg = true) ∧
  ((s11_2.spar 40).state = SparState.detect ∧ 7 < 16 ∧
    (Instr.pdDetected 40 7 = Instr.pdDetected 40 7 ∨ Instr.pdDetected 40 7 = Instr.detectRepeat 40 (some 7)) ∧
    s11_2.rb (sparBase 40) 28 = true ∧ s11_2.rb (sparBase 40 + 4) 7 = false ∧ 7 < 8) ∧
  ((s11_3.spar 0).state = SparState.inrush) ∧
  ((s11_4.spar 63).state = SparState.limit) ∧
  ((s11_5.spar 40).state = SparState.detect ∧ 15 < 16 ∧
    (Instr.pdDetected 40 15 = Instr.pdDetected 40 15 ∨ Instr.pdDetected 40 15 = Instr.detectRepeat 40 (some 15)) ∧
    s11_5.rb (sparBase 40) 28 = false) ∧
  ((s11_6.spar 63).state = SparState.detect ∧ 7 < 16 ∧
    (Instr.detectRepeat 63 (some 7) = Instr.pdDetected 63 7 ∨ Instr.detectRepeat 63 (some 7) = Instr.detectRepeat 63
      (some 7)) ∧ s11_6.rb (sparBase 63) 28 = true ∧ s11_6.rb (sparBase 63 + 4) 7 = true ∧ 7 < 8) := by
  and_intros <;> decide +kernel

def s12_1 : State :=
  (withRegs [(sparBase 0, 0x00300000)] (inMode .operational)).setSpar 0
    { Spar.reset with state := .limit, retries := 3, commanded := true }
def s12_2 : State := output 0 .off 0
def s12_3 : State := withRegs [(sparBase 0, 0x00300000)] (output 0 .inrush 0)
def s12_4 : State :=
  let u := output 5 .on 0; { u with power := { u.power with sw := .limit } }

theorem witness_OutputTripsAndShedding :
  ((Instr.portFaultTimer 0 100 = Instr.portInrushTimeout 0 100 ∧ (s12_1.spar 0).state = SparState.inrush ∨
      Instr.portFaultTimer 0 100 = Instr.portFaultTimer 0 100 ∧ (s12_1.spar 0).state = SparState.limit ∨
      Instr.portFaultTimer 0 100 = Instr.portShort 0 100 ∧ ((s12_1.spar 0).state = SparState.inrush ∨ (s12_1.spar
      0).state = SparState.on ∨ (s12_1.spar 0).state = SparState.limit)) ∧
    s12_1.rf (sparBase 0) 20 4 ≤ (s12_1.spar 0).retries ∧ s12_1.power.sw ≠ SwState.limit) ∧
  (s12_2.hasSpar 0 = true ∧
    ((s12_2.spar 0).state = SparState.off ∨ (s12_2.spar 0).state = SparState.shed ∨ (s12_2.spar 0).state =
      SparState.retryOff ∨ (s12_2.spar 0).state = SparState.latched)) ∧
  ((Instr.portInrushTimeout 0 100 = Instr.portInrushTimeout 0 100 ∧ (s12_3.spar 0).state = SparState.inrush ∨
      Instr.portInrushTimeout 0 100 = Instr.portFaultTimer 0 100 ∧ (s12_3.spar 0).state = SparState.limit ∨
      Instr.portInrushTimeout 0 100 = Instr.portShort 0 100 ∧ ((s12_3.spar 0).state = SparState.inrush ∨ (s12_3.spar
      0).state = SparState.on ∨ (s12_3.spar 0).state = SparState.limit)) ∧
    (s12_3.spar 0).retries < s12_3.rf (sparBase 0) 20 4) ∧
  (s12_4.power.sw = SwState.limit ∧ s12_4.shedChoice = some 5) := by
  and_intros <;> decide +kernel

def s13_1 : State := (running .service 17 5 []).setSpar 5 { Spar.reset with state := .passFault, passFault := true }
def s13_2 : State := running .operational 15 0 []
def s13_3 : State :=
  (running .operational 16 5 []).setSpar 5 { Spar.reset with state := .on, commanded := true, pg := true }
def s13_4 : State := (running .operational 17 5 []).setSpar 5 { Spar.reset with state := .latched }
def s13_5 : State := (inMode .operational).setSpar 0 { Spar.reset with state := .retryOff, commanded := true }
def s13_6 : State := (inMode .operational).setSpar 63 { Spar.reset with state := .retryOff, commanded := 0 }
def s13_7 : State :=
  (inMode .operational).setSpar 63 { Spar.reset with state := .off, commanded := true, queued := true }
def s13_8 : State := (inMode .operational).setSpar 63 { Spar.reset with state := .classify, commanded := true }
def s13_9 : State :=
  withRegs [(sparBase 63, 250)] (({ running .operational 15 63 [] with struct := some (structOf 0xF 2499) }))

theorem witness_OutputStartsAndCommands :
  (s13_1.ctl.exec = some { origin := CmdOrigin.yewirak, opcode := 17, target := 5, tag := 0, args := [] : Cmd } ∧
    s13_1.ctl.waiting = [] ∧ s13_1.hasSpar 5 = true ∧ (s13_1.spar 5).state ≠ SparState.retired ∧
    s13_1.reconf (sparCluster 5) = false ∧ s13_1.mode = Mode.service ∧ (s13_1.spar 5).state = SparState.passFault ∧
    s13_1.health.due = [] ∧ s13_1.health.unrecorded = [] ∧ s13_1.health.pends = []) ∧
  (s13_2.ctl.exec = some { origin := CmdOrigin.yewirak, opcode := 15, target := 0, tag := 0, args := [] : Cmd } ∧
    s13_2.ctl.waiting = [] ∧ s13_2.hasSpar 0 = true ∧ (s13_2.spar 0).state ≠ SparState.retired ∧
    s13_2.reconf (sparCluster 0) = false ∧ (s13_2.spar 0).state = SparState.off ∧ (s13_2.spar 0).commanded = false ∧
    s13_2.plan 0 = none ∧ s13_2.sparPermitted 0 = true ∧ s13_2.power.warn = false ∧
    s13_2.heldMa + s13_2.sparLimit 0 ≤ s13_2.budgetMa) ∧
  (s13_3.ctl.exec = some { origin := CmdOrigin.yewirak, opcode := 16, target := 5, tag := 0, args := [] : Cmd } ∧
    s13_3.ctl.waiting = [] ∧ s13_3.hasSpar 5 = true ∧ (s13_3.spar 5).state ≠ SparState.retired ∧
    s13_3.reconf (sparCluster 5) = false ∧ (s13_3.spar 5).state ≠ SparState.latched ∧
    (s13_3.spar 5).state ≠ SparState.passFault) ∧
  (s13_4.ctl.exec = some { origin := CmdOrigin.yewirak, opcode := 17, target := 5, tag := 0, args := [] : Cmd } ∧
    s13_4.ctl.waiting = [] ∧ s13_4.hasSpar 5 = true ∧ (s13_4.spar 5).state ≠ SparState.retired ∧
    s13_4.reconf (sparCluster 5) = false ∧
    ((s13_4.spar 5).state = SparState.retryOff ∨ (s13_4.spar 5).state = SparState.latched)) ∧
  (s13_5.power.warn = false ∧ (s13_5.spar 0).state = SparState.retryOff ∧ s13_5.sparDue 0 = true) ∧
  (s13_6.power.warn = false ∧ (s13_6.spar 63).state = SparState.retryOff ∧ s13_6.sparDue 63 = false) ∧
  (s13_7.power.warn = false ∧ s13_7.nextStart = some 63) ∧
  (s13_8.power.warn = false ∧ (s13_8.spar 63).state = SparState.classify) ∧
  (s13_9.ctl.exec = some { origin := CmdOrigin.yewirak, opcode := 15, target := 63, tag := 0, args := [] : Cmd } ∧
    s13_9.ctl.waiting = [] ∧ s13_9.hasSpar 63 = true ∧ (s13_9.spar 63).state ≠ SparState.retired ∧
    s13_9.reconf (sparCluster 63) = false ∧ (s13_9.spar 63).state = SparState.off ∧
    (s13_9.spar 63).commanded = false ∧ s13_9.plan 63 = none ∧ s13_9.budgetMa < s13_9.heldMa + s13_9.sparLimit 63 ∧
    0 < s13_9.sparLimit 63) := by
  and_intros <;> decide +kernel

def s16_1 : State :=
  engineAt 0 (.reg3 .add 7 1 2) { cpuX [0, 0xFFFFFFFF, 1, 0x80000000, 5, 33, 0x7FFFFFFF] with psr := 0 }
def s16_2 : State :=
  engineAt 0 (.reg3 .sub 7 1 2) { cpuX [0, 0xFFFFFFFF, 1, 0x80000000, 5, 33, 0x7FFFFFFF] with psr := 0 }
def s16_3 : State :=
  engineAt 0 (.reg3 .adc 7 1 2) { cpuX [0, 0xFFFFFFFF, 1, 0x80000000, 5, 33, 0x7FFFFFFF] with psr := 0 }
def s16_4 : State :=
  engineAt 0 (.reg3 .sbc 7 1 2) { cpuX [0, 0xFFFFFFFF, 1, 0x80000000, 5, 33, 0x7FFFFFFF] with psr := 0 }
def s16_5 : State := engineAt 31 (.reg2 .neg 7 3) (cpuX [0, 0xFFFFFFFF, 1, 0x80000000, 5, 33, 0x7FFFFFFF])
def s16_6 : State := engineAt 31 (.immed .addi 7 1 0x3FFFF) (cpuX [0, 0xFFFFFFFF, 1, 0x80000000, 5, 33, 0x7FFFFFFF])
def s16_7 : State := engineAt 31 (.cmp 1 2) (cpuX [0, 0xFFFFFFFF, 1, 0x80000000, 5, 33, 0x7FFFFFFF])
def s16_8 : State := engineAt 31 (.cmpi 1 0x3FFFF) (cpuX [0, 0xFFFFFFFF, 1, 0x80000000, 5, 33, 0x7FFFFFFF])

theorem witness_AddAndSubtract :
  (fetchable (s16_1.nextPc 0) = true ∧ s16_1.issues 0 (Op.reg3 Reg3.add 7 1 2) = true) ∧
  (fetchable (s16_2.nextPc 0) = true ∧ s16_2.issues 0 (Op.reg3 Reg3.sub 7 1 2) = true) ∧
  (fetchable (s16_3.nextPc 0) = true ∧ s16_3.issues 0 (Op.reg3 Reg3.adc 7 1 2) = true) ∧
  (fetchable (s16_4.nextPc 0) = true ∧ s16_4.issues 0 (Op.reg3 Reg3.sbc 7 1 2) = true) ∧
  (fetchable (s16_5.nextPc 31) = true ∧ s16_5.issues 31 (Op.reg2 Reg2.neg 7 3) = true) ∧
  (fetchable (s16_6.nextPc 31) = true ∧ s16_6.issues 31 (Op.immed ImmOp.addi 7 1 262143) = true) ∧
  (fetchable (s16_7.nextPc 31) = true ∧ s16_7.issues 31 (Op.cmp 1 2) = true) ∧
  (fetchable (s16_8.nextPc 31) = true ∧ s16_8.issues 31 (Op.cmpi 1 262143) = true) := by
  and_intros <;> decide +kernel

def s17_1 : State := engineAt 0 (.reg3 .and 7 1 3) (cpuX [0, 0xFFFFFFFF, 1, 0x80000000, 5, 33, 0x7FFFFFFF])
def s17_2 : State := engineAt 0 (.immed .andi 7 3 0x3FFFF) (cpuX [0, 0xFFFFFFFF, 1, 0x80000000, 5, 33, 0x7FFFFFFF])
def s17_3 : State := engineAt 0 (.reg2 .clz 7 5) (cpuX [0, 0xFFFFFFFF, 1, 0x80000000, 5, 33, 0x7FFFFFFF])
def s17_4 : State := engineAt 0 (.ext 7 5 0 32 false) (cpuX [0,1,2,3,4,0xDEADBEEF])
def s17_5 : State := engineAt 0 (.ext 7 5 0 32 true) (cpuX [0,1,2,3,4,0xDEADBEEF])
def s17_6 : State := engineAt 0 (.tst 1 3) (cpuX [0, 0xFFFFFFFF, 1, 0x80000000, 5, 33, 0x7FFFFFFF])
def s17_7 : State := engineAt 0 (.lui 15 0x3FFFFF) (cpuX [0, 0xFFFFFFFF, 1, 0x80000000, 5, 33, 0x7FFFFFFF])

theorem witness_LogicAndFields :
  (fetchable (s17_1.nextPc 0) = true ∧ s17_1.issues 0 (Op.reg3 Reg3.and 7 1 3) = true) ∧
  (fetchable (s17_2.nextPc 0) = true ∧ s17_2.issues 0 (Op.immed ImmOp.andi 7 3 262143) = true) ∧
  (fetchable (s17_3.nextPc 0) = true ∧ s17_3.issues 0 (Op.reg2 Reg2.clz 7 5) = true) ∧
  (fetchable (s17_4.nextPc 0) = true ∧ 1 ≤ 32 ∧ 0 + 32 ≤ 32 ∧ s17_4.issues 0 (Op.ext 7 5 0 32 false) = true) ∧
  (fetchable (s17_5.nextPc 0) = true ∧ 1 ≤ 32 ∧ 0 + 32 ≤ 32 ∧ s17_5.issues 0 (Op.ext 7 5 0 32 true) = true) ∧
  (fetchable (s17_6.nextPc 0) = true ∧ s17_6.issues 0 (Op.tst 1 3) = true) ∧
  (fetchable (s17_7.nextPc 0) = true ∧ s17_7.issues 0 (Op.lui 15 4194303) = true) := by
  and_intros <;> decide +kernel

def s18_1 : State := engineAt 0 (.reg3 .sll 7 6 0) (cpuX [0,32,31,0x80000000,5,33,0x9FFFFFF1])
def s18_2 : State := engineAt 0 (.reg3 .srl 7 6 0) (cpuX [0,32,31,0x80000000,5,33,0x9FFFFFF1])
def s18_3 : State := engineAt 0 (.reg3 .sra 7 6 0) (cpuX [0,32,31,0x80000000,5,33,0x9FFFFFF1])
def s18_4 : State := engineAt 0 (.reg3 .rot 7 6 0) (cpuX [0,32,31,0x80000000,5,33,0x9FFFFFF1])

theorem witness_Shifts :
  (fetchable (s18_1.nextPc 0) = true ∧
    (∀ (o : Op), (Instr.sll (Issue.clean 0) 7 6 0).op = some (Issue.clean 0, o) → s18_1.issues 0 o = true)) ∧
  (fetchable (s18_2.nextPc 0) = true ∧
    (∀ (o : Op), (Instr.srl (Issue.clean 0) 7 6 0).op = some (Issue.clean 0, o) → s18_2.issues 0 o = true)) ∧
  (fetchable (s18_3.nextPc 0) = true ∧
    (∀ (o : Op), (Instr.sra (Issue.clean 0) 7 6 0).op = some (Issue.clean 0, o) → s18_3.issues 0 o = true)) ∧
  (fetchable (s18_4.nextPc 0) = true ∧
    (∀ (o : Op), (Instr.rot (Issue.clean 0) 7 6 0).op = some (Issue.clean 0, o) → s18_4.issues 0 o = true)) := by
  and_intros <;> (first | decide +kernel | (intro o h; cases h; decide +kernel) )

def s19_1 : State :=
  engineAt 0 (.reg3 .div 7 5 2)
    { cpuX [0, 0xFFFFFFFF, 1, 0x80000000, 5, 33, 0x7FFFFFFF] with ecfg := 0, vbase := 1 }
def s19_2 : State :=
  engineAt 0 (.reg3 .div 7 3 0)
    { cpuX [0, 0xFFFFFFFF, 1, 0x80000000, 5, 33, 0x7FFFFFFF] with ecfg := 0, vbase := 1 }
def s19_3 : State :=
  engineAt 0 (.reg3 .div 7 6 0)
    { cpuX [0, 0xFFFFFFFF, 1, 0x80000000, 5, 33, 0x7FFFFFFF] with ecfg := 1, vbase := 1 }
def s19_4 : State := engineAt 0 (.reg2 .abs 7 3) (cpuX [0, 0xFFFFFFFF, 1, 0x80000000, 5, 33, 0x7FFFFFFF])
def s19_5 : State := engineAt 0 (.reg2 .abss 7 3) (cpuX [0, 0xFFFFFFFF, 1, 0x80000000, 5, 33, 0x7FFFFFFF])
def s19_6 : State := engineAt 0 (.reg3 .adds 7 3 1) (cpuX [0, 0xFFFFFFFF, 1, 0x80000000, 5, 33, 0x7FFFFFFF])
def s19_7 : State := engineAt 0 (.reg3 .subs 7 3 1) (cpuX [0, 0xFFFFFFFF, 1, 0x80000000, 5, 33, 0x7FFFFFFF])

theorem witness_DivideAndSaturate :
  (fetchable (s19_1.nextPc 0) = true ∧ s19_1.issues 0 (Op.reg3 Reg3.div 7 5 2) = true ∧ s19_1.x 0 2 ≠ 0) ∧
  (fetchable (s19_2.nextPc 0) = true ∧ s19_2.issues 0 (Op.reg3 Reg3.div 7 3 0) = true ∧ s19_2.x 0 0 = 0 ∧
    BitVec.getLsbD (s19_2.cpu 0).ecfg 0 = false) ∧
  (fetchable (s19_3.nextPc 0) = true ∧ s19_3.issues 0 (Op.reg3 Reg3.div 7 6 0) = true ∧ s19_3.x 0 0 = 0 ∧
    BitVec.getLsbD (s19_3.cpu 0).ecfg 0 = true) ∧
  (fetchable (s19_4.nextPc 0) = true ∧ s19_4.issues 0 (Op.reg2 Reg2.abs 7 3) = true) ∧
  (fetchable (s19_5.nextPc 0) = true ∧ s19_5.issues 0 (Op.reg2 Reg2.abss 7 3) = true) ∧
  (fetchable (s19_6.nextPc 0) = true ∧ s19_6.issues 0 (Op.reg3 Reg3.adds 7 3 1) = true) ∧
  (fetchable (s19_7.nextPc 0) = true ∧ s19_7.issues 0 (Op.reg3 Reg3.subs 7 3 1) = true) := by
  and_intros <;> decide +kernel

def s20_1 : State :=
  (engineAt 9 (.load .ldw 8 1 0) { cpuX [0, 0x10000008, 0x1000000A, 0x0, 0x20000000, 0x201FFFF8, 0x10010000] with vbase := 1 }).upEng
    9 fun e => { e with dmem := bytesTbl 8 [0x81,0x92,0xA3,0xB4,0xC5,0xD6,0xE7,0xF8] }
def s20_4 : State :=
  engineAt 9 (.load .ldw 8 1 1)
    { cpuX [0, 0x10000008, 0x1000000A, 0x0, 0x20000000, 0x201FFFF8, 0x10010000] with vbase := 1 }
def s20_5 : State :=
  engineAt 9 (.load .ldw 8 6 0)
    { cpuX [0, 0x10000008, 0x1000000A, 0x0, 0x20000000, 0x201FFFF8, 0x10010000] with vbase := 1 }

theorem witness_Loads :
  (fetchable (s20_1.nextPc 9) = true ∧ s20_1.issues 9 (Op.load LoadOp.ldw 8 1 0) = true ∧
    BitVec.toNat (s20_1.x 9 1 + BitVec.signExtend 32 0#18) % 4 = 0 ∧
    (regionOf (BitVec.toNat (s20_1.x 9 1 + BitVec.signExtend 32 0#18)) 4).isSome = true) ∧
  (fetchable (s20_1.nextPc 9) = true ∧ s20_1.issues 9 (Op.load LoadOp.ldw 8 1 0) = true ∧
    BitVec.toNat (s20_1.x 9 1 + BitVec.signExtend 32 0#18) % 4 = 0 ∧
    (regionOf (BitVec.toNat (s20_1.x 9 1 + BitVec.signExtend 32 0#18)) 4).isSome = true) ∧
  (fetchable (s20_1.nextPc 9) = true ∧ s20_1.issues 9 (Op.load LoadOp.ldw 8 1 0) = true ∧
    BitVec.toNat (s20_1.x 9 1 + BitVec.signExtend 32 0#18) % 4 = 0 ∧
    (regionOf (BitVec.toNat (s20_1.x 9 1 + BitVec.signExtend 32 0#18)) 4).isSome = true) ∧
  (fetchable (s20_4.nextPc 9) = true ∧ s20_4.issues 9 (Op.load LoadOp.ldw 8 1 1) = true ∧
    BitVec.toNat (s20_4.x 9 1 + BitVec.signExtend 32 1#18) % 4 ≠ 0) ∧
  (fetchable (s20_5.nextPc 9) = true ∧ s20_5.issues 9 (Op.load LoadOp.ldw 8 6 0) = true ∧
    BitVec.toNat (s20_5.x 9 6 + BitVec.signExtend 32 0#18) % 4 = 0 ∧
    regionOf (BitVec.toNat (s20_5.x 9 6 + BitVec.signExtend 32 0#18)) 4 = none) := by
  and_intros <;> decide +kernel

def s21_1 : State :=
  engineAt 9 (.store .stw 4 1 0x3FFF8)
    { cpuX [0, 0x10000008, 0x1000000A, 0x0, 0x20000000, 0x201FFFF8, 0x10010000] with vbase := 1 }
def s21_2 : State :=
  engineAt 9 (.store .stw 4 1 1)
    { cpuX [0, 0x10000008, 0x1000000A, 0x0, 0x20000000, 0x201FFFF8, 0x10010000] with vbase := 1 }
def s21_3 : State :=
  engineAt 9 (.store .stw 4 3 0)
    { cpuX [0, 0x10000008, 0x1000000A, 0x0, 0x20000000, 0x201FFFF8, 0x10010000] with vbase := 1 }

theorem witness_Stores :
  (fetchable (s21_1.nextPc 9) = true ∧ s21_1.issues 9 (Op.store StoreOp.stw 4 1 262136) = true ∧
    BitVec.toNat (s21_1.x 9 1 + BitVec.signExtend 32 262136#18) % 4 = 0 ∧
    bufferOk (BitVec.toNat (s21_1.x 9 1 + BitVec.signExtend 32 262136#18)) 4 = true) ∧
  (fetchable (s21_2.nextPc 9) = true ∧ s21_2.issues 9 (Op.store StoreOp.stw 4 1 1) = true ∧
    BitVec.toNat (s21_2.x 9 1 + BitVec.signExtend 32 1#18) % 4 ≠ 0) ∧
  (fetchable (s21_3.nextPc 9) = true ∧ s21_3.issues 9 (Op.store StoreOp.stw 4 3 0) = true ∧
    BitVec.toNat (s21_3.x 9 3 + BitVec.signExtend 32 0#18) % 4 = 0 ∧
    bufferOk (BitVec.toNat (s21_3.x 9 3 + BitVec.signExtend 32 0#18)) 4 = false) := by
  and_intros <;> decide +kernel

def s22_1 : State :=
  (engineAt 9 (.atom .swap 8 1 4) { cpuX [0, 0x10000008, 0x1000000A, 0x0, 0x20000000, 0x201FFFF8, 0x10010000] with vbase := 1 }).upEng
    9 fun e => { e with dmem := bytesTbl 8 [0x81,0x92,0xA3,0xB4,0xC5,0xD6,0xE7,0xF8] }
def s22_2 : State :=
  (engineAt 9 (.atom .swap 8 2 4) { cpuX [0, 0x10000008, 0x1000000A, 0x0, 0x20000000, 0x201FFFF8, 0x10010000] with vbase := 1 })
def s22_3 : State :=
  (engineAt 9 (.atom .swap 8 3 4) { cpuX [0, 0x10000008, 0x1000000A, 0x0, 0x20000000, 0x201FFFF8, 0x10010000] with vbase := 1 })

theorem witness_Atomics :
  (fetchable (s22_1.nextPc 9) = true ∧ s22_1.issues 9 (Op.atom AtomOp.swap 8 1 4) = true ∧
    BitVec.toNat (s22_1.x 9 1) % 4 = 0 ∧ bufferOk (BitVec.toNat (s22_1.x 9 1)) 4 = true) ∧
  (fetchable (s22_2.nextPc 9) = true ∧ s22_2.issues 9 (Op.atom AtomOp.swap 8 2 4) = true ∧
    BitVec.toNat (s22_2.x 9 2) % 4 ≠ 0) ∧
  (fetchable (s22_3.nextPc 9) = true ∧ s22_3.issues 9 (Op.atom AtomOp.swap 8 3 4) = true ∧
    BitVec.toNat (s22_3.x 9 3) % 4 = 0 ∧ bufferOk (BitVec.toNat (s22_3.x 9 3)) 4 = false) := by
  and_intros <;> decide +kernel

def s23_1 : State := engineAt 9 (.bc 8 4194303) { cpuX [0, 5, 0x40] with pc := 0x100, psr := 8 }
def s23_2 : State := engineAt 9 (.cb false 1 262143) { cpuX [0, 0, 0x40] with pc := 0x100, psr := 8 }
def s23_3 : State := engineAt 9 (.cb false 1 262143) { cpuX [0, 1, 0x40] with pc := 0x100, psr := 8 }
def s23_4 : State := engineAt 9 (.jmp 67108863) { cpuX [0, 0, 0x40] with pc := 0x100, psr := 8 }
def s23_5 : State := engineAt 9 (.jr 2) { cpuX [0, 0, 0x40] with pc := 0x100, psr := 8 }
def s23_6 : State := engineAt 9 (.call 5) { cpuX [0, 0, 0x40] with pc := 0x100, psr := 8 }
def s23_7 : State := engineAt 9 (.bc 0 3) { cpuX [0, 5, 0x40] with pc := 0x100, psr := 0 }

theorem witness_Transfers :
  (s23_1.issues 9 (Op.bc 8 4194303) = true ∧
    [true, BitVec.getLsbD (s23_1.psr 9) 0, !BitVec.getLsbD (s23_1.psr 9) 0, !BitVec.getLsbD (s23_1.psr 9) 2,
      BitVec.getLsbD (s23_1.psr 9) 2, BitVec.getLsbD (s23_1.psr 9) 2 && !BitVec.getLsbD (s23_1.psr 9) 0,
      !BitVec.getLsbD (s23_1.psr 9) 2 || BitVec.getLsbD (s23_1.psr 9) 0, BitVec.getLsbD (s23_1.psr 9) 1 ^^
      BitVec.getLsbD (s23_1.psr 9) 3, !(BitVec.getLsbD (s23_1.psr 9) 1 ^^ BitVec.getLsbD (s23_1.psr 9) 3),
      !BitVec.getLsbD (s23_1.psr 9) 0 && !(BitVec.getLsbD (s23_1.psr 9) 1 ^^ BitVec.getLsbD (s23_1.psr 9) 3),
      BitVec.getLsbD (s23_1.psr 9) 0 || BitVec.getLsbD (s23_1.psr 9) 1 ^^ BitVec.getLsbD (s23_1.psr 9) 3,
      BitVec.getLsbD (s23_1.psr 9) 1, !BitVec.getLsbD (s23_1.psr 9) 1, BitVec.getLsbD (s23_1.psr 9) 3,
      !BitVec.getLsbD (s23_1.psr 9) 3].getD 8 false = false ∧ fetchable (s23_1.nextPc 9) = true) ∧
  (s23_2.issues 9 (Op.cb false 1 262143) = true ∧ (s23_2.x 9 1 = 0 ↔ false = false) ∧
    fetchable ((fun n => BitVec.toNat (wd (s23_2.cpu 9).pc + BitVec.signExtend 32 262143#n * 4)) 18) = true) ∧
  (s23_3.issues 9 (Op.cb false 1 262143) = true ∧ (¬(s23_3.x 9 1 = 0 ↔ false = false)) ∧
    fetchable (s23_3.nextPc 9) = true) ∧
  (s23_4.issues 9 (Op.jmp 67108863) = true ∧
    fetchable ((fun n => BitVec.toNat (wd (s23_4.cpu 9).pc + BitVec.signExtend 32 67108863#n * 4)) 26) = true) ∧
  (s23_5.issues 9 (Op.jr 2) = true ∧ fetchable (BitVec.toNat (s23_5.x 9 2)) = true) ∧
  (s23_6.issues 9 (Op.call 5) = true ∧
    fetchable ((fun n => BitVec.toNat (wd (s23_6.cpu 9).pc + BitVec.signExtend 32 5#n * 4)) 26) = true) ∧
  (s23_7.issues 9 (Op.bc 0 3) = true ∧
    [true, BitVec.getLsbD (s23_7.psr 9) 0, !BitVec.getLsbD (s23_7.psr 9) 0, !BitVec.getLsbD (s23_7.psr 9) 2,
      BitVec.getLsbD (s23_7.psr 9) 2, BitVec.getLsbD (s23_7.psr 9) 2 && !BitVec.getLsbD (s23_7.psr 9) 0,
      !BitVec.getLsbD (s23_7.psr 9) 2 || BitVec.getLsbD (s23_7.psr 9) 0, BitVec.getLsbD (s23_7.psr 9) 1 ^^
      BitVec.getLsbD (s23_7.psr 9) 3, !(BitVec.getLsbD (s23_7.psr 9) 1 ^^ BitVec.getLsbD (s23_7.psr 9) 3),
      !BitVec.getLsbD (s23_7.psr 9) 0 && !(BitVec.getLsbD (s23_7.psr 9) 1 ^^ BitVec.getLsbD (s23_7.psr 9) 3),
      BitVec.getLsbD (s23_7.psr 9) 0 || BitVec.getLsbD (s23_7.psr 9) 1 ^^ BitVec.getLsbD (s23_7.psr 9) 3,
      BitVec.getLsbD (s23_7.psr 9) 1, !BitVec.getLsbD (s23_7.psr 9) 1, BitVec.getLsbD (s23_7.psr 9) 3,
      !BitVec.getLsbD (s23_7.psr 9) 3].getD 0 false = true ∧
    fetchable ((fun n => BitVec.toNat (wd (s23_7.cpu 9).pc + BitVec.signExtend 32 3#n * 4)) 22) = true) := by
  and_intros <;> decide +kernel

def s24_1 : State := engineAt 9 (.loop 1 5) { cpuX [0, 3] with pc := 0x100 }
def s24_2 : State := engineAt 9 (.loop 1 5) { cpuX [0, 0] with pc := 0x100 }
def s24_3 : State :=
  engineAt 9 (.loopi 7 6)
    { cpuX [0, 0] with pc := 0x100, psr := 0x03000000, loops := [⟨0x40, 0x200, 3⟩, ⟨0x40, 0x200, 3⟩, ⟨0x40, 0x114, 3⟩, ⟨0, 0, 0⟩] }
def s24_4 : State :=
  engineAt 9 (.loopi 7 6)
    { cpuX [0, 0] with pc := 0x100, psr := 0x04000000, loops := [⟨0x40, 0x200, 3⟩, ⟨0x40, 0x200, 3⟩, ⟨0x40, 0x114, 3⟩, ⟨0, 0, 0⟩] }
def s24_5 : State :=
  engineAt 9 (.lexit 3)
    { cpuX [0, 0] with pc := 0x100, psr := 0x04100000, loops := [⟨0x40, 0x200, 3⟩, ⟨0x40, 0x200, 3⟩, ⟨0x40, 0x114, 3⟩, ⟨0, 0, 0⟩] }
def s24_6 : State :=
  engineAt 9 (.lexit 4)
    { cpuX [0, 0] with pc := 0x100, psr := 0x04100000, loops := [⟨0x40, 0x200, 3⟩, ⟨0x40, 0x200, 3⟩, ⟨0x40, 0x114, 3⟩, ⟨0, 0, 0⟩] }
def s24_7 : State :=
  engineAt 9 .nop
    { cpuX [0, 0] with pc := 0x100, psr := 0x02000000, loops := [⟨0x40, 0x200, 3⟩, ⟨0x40, 0x100, 2⟩, ⟨0x40, 0x114, 3⟩, ⟨0, 0, 0⟩] }
def s24_8 : State :=
  engineAt 9 .nop
    { cpuX [0, 0] with pc := 0x100, psr := 0x01000000, loops := [⟨0x40, 0x100, 1⟩, ⟨0x40, 0x100, 2⟩, ⟨0x40, 0x114, 3⟩, ⟨0, 0, 0⟩] }
def s24_9 : State := engineAt 9 .nop { cpuX [0, 0] with pc := 0x1FFF8, psr := 0 }

theorem witness_Loops :
  (s24_1.issues 9 (Op.loop 1 5) = true ∧ fld (s24_1.cpu 9).psr 24 3 < 4 ∧
    (fld (s24_1.cpu 9).psr 24 3 ≤ fld (s24_1.cpu 9).psr 20 3 ∨ (s24_1.cpu 9).pc < ((s24_1.cpu 9).loops.getD (fld
      (s24_1.cpu 9).psr 24 3 - 1) { start := 0, stop := 0, count := 0 : LoopLevel }).start ∨ ((s24_1.cpu
      9).loops.getD (fld (s24_1.cpu 9).psr 24 3 - 1) { start := 0, stop := 0, count := 0 : LoopLevel }).stop <
      (s24_1.cpu 9).pc ∨ (s24_1.cpu 9).pc + 4 * 5 ≤ ((s24_1.cpu 9).loops.getD (fld (s24_1.cpu 9).psr 24 3 - 1)
      { start := 0, stop := 0, count := 0 : LoopLevel }).stop) ∧ 0 < BitVec.toNat (s24_1.x 9 1) ∧
    fetchable ((s24_1.cpu 9).pc + 4) = true) ∧
  (s24_2.issues 9 (Op.loop 1 5) = true ∧ fld (s24_2.cpu 9).psr 24 3 < 4 ∧
    (fld (s24_2.cpu 9).psr 24 3 ≤ fld (s24_2.cpu 9).psr 20 3 ∨ (s24_2.cpu 9).pc < ((s24_2.cpu 9).loops.getD (fld
      (s24_2.cpu 9).psr 24 3 - 1) { start := 0, stop := 0, count := 0 : LoopLevel }).start ∨ ((s24_2.cpu
      9).loops.getD (fld (s24_2.cpu 9).psr 24 3 - 1) { start := 0, stop := 0, count := 0 : LoopLevel }).stop <
      (s24_2.cpu 9).pc ∨ (s24_2.cpu 9).pc + 4 * 5 ≤ ((s24_2.cpu 9).loops.getD (fld (s24_2.cpu 9).psr 24 3 - 1)
      { start := 0, stop := 0, count := 0 : LoopLevel }).stop) ∧ BitVec.toNat (s24_2.x 9 1) = 0 ∧
    fetchable ((s24_2.cpu 9).pc + 4 * 5 + 4) = true) ∧
  (s24_3.issues 9 (Op.loopi 7 6) = true ∧ fld (s24_3.cpu 9).psr 20 3 < fld (s24_3.cpu 9).psr 24 3 ∧
    fld (s24_3.cpu 9).psr 24 3 < 4 ∧
    ((s24_3.cpu 9).loops.getD (fld (s24_3.cpu 9).psr 24 3 - 1)
      { start := 0, stop := 0, count := 0 : LoopLevel }).start ≤ (s24_3.cpu 9).pc ∧
    (s24_3.cpu 9).pc ≤ ((s24_3.cpu 9).loops.getD (fld (s24_3.cpu 9).psr 24 3 - 1)
      { start := 0, stop := 0, count := 0 : LoopLevel }).stop ∧
    ((s24_3.cpu 9).loops.getD (fld (s24_3.cpu 9).psr 24 3 - 1)
      { start := 0, stop := 0, count := 0 : LoopLevel }).stop < (s24_3.cpu 9).pc + 4 * 6) ∧
  (s24_4.issues 9 (Op.loopi 7 6) = true ∧ fld (s24_4.cpu 9).psr 24 3 = 4) ∧
  (s24_5.issues 9 (Op.lexit 3) = true ∧ fetchable ((s24_5.cpu 9).pc + 4) = true ∧
    3 ≤ fld (s24_5.cpu 9).psr 24 3 - fld (s24_5.cpu 9).psr 20 3) ∧
  (s24_6.issues 9 (Op.lexit 4) = true ∧ fetchable ((s24_6.cpu 9).pc + 4) = true ∧
    fld (s24_6.cpu 9).psr 24 3 - fld (s24_6.cpu 9).psr 20 3 < 4) ∧
  (s24_7.issues 9 Op.nop = true ∧ fld (s24_7.cpu 9).psr 20 3 < fld (s24_7.cpu 9).psr 24 3 ∧
    (s24_7.cpu 9).pc = ((s24_7.cpu 9).loops.getD (fld (s24_7.cpu 9).psr 24 3 - 1)
      { start := 0, stop := 0, count := 0 : LoopLevel }).stop ∧
    1 < ((s24_7.cpu 9).loops.getD (fld (s24_7.cpu 9).psr 24 3 - 1)
      { start := 0, stop := 0, count := 0 : LoopLevel }).count ∧
    fetchable ((s24_7.cpu 9).loops.getD (fld (s24_7.cpu 9).psr 24 3 - 1)
      { start := 0, stop := 0, count := 0 : LoopLevel }).start = true) ∧
  (s24_8.issues 9 Op.nop = true ∧ fld (s24_8.cpu 9).psr 20 3 + 1 = fld (s24_8.cpu 9).psr 24 3 ∧
    (s24_8.cpu 9).pc = ((s24_8.cpu 9).loops.getD (fld (s24_8.cpu 9).psr 24 3 - 1)
      { start := 0, stop := 0, count := 0 : LoopLevel }).stop ∧
    ((s24_8.cpu 9).loops.getD (fld (s24_8.cpu 9).psr 24 3 - 1)
      { start := 0, stop := 0, count := 0 : LoopLevel }).count ≤ 1 ∧ fetchable ((s24_8.cpu 9).pc + 4) = true) ∧
  (s24_9.issues 9 Op.nop = true ∧
    (fld (s24_9.cpu 9).psr 24 3 ≤ fld (s24_9.cpu 9).psr 20 3 ∨ (s24_9.cpu 9).pc ≠ ((s24_9.cpu 9).loops.getD (fld
      (s24_9.cpu 9).psr 24 3 - 1) { start := 0, stop := 0, count := 0 : LoopLevel }).stop) ∧
    fetchable ((s24_9.cpu 9).pc + 4) = true) := by
  and_intros <;> decide +kernel

def s25_1 : State :=
  engineAt 9 .nop
    { { Cpu.start with x := (List.replicate 16 1).set 15 0x10000040 } with pc := 0x100, psr := 0x0100030F, vbase := 0x41 }
def s25_2 : State :=
  engineAt 9 .nop
    { { Cpu.start with x := (List.replicate 16 1).set 15 0x10000040 } with pc := 0x100, psr := 0x0100010F, vbase := 0x41 }

theorem witness_TrapEntry :
  ((!BitVec.getLsbD (s25_1.cpu 9).psr 9 && BitVec.getLsbD (s25_1.cpu 9).vbase 0 && BitVec.toNat (s25_1.x 9 15 - 32)
      % 8 == 0 && bufferOk (BitVec.toNat (s25_1.x 9 15 - 32)) 32) = false) ∧
  ((!BitVec.getLsbD (s25_2.cpu 9).psr 9 && BitVec.getLsbD (s25_2.cpu 9).vbase 0 && BitVec.toNat (s25_2.x 9 15 - 32)
      % 8 == 0 && bufferOk (BitVec.toNat (s25_2.x 9 15 - 32)) 32) = true ∧ fetchable (s25_2.vector 9 0) = true) := by
  and_intros <;> decide +kernel

def s26_1 : State := engineAt 9 .nop Cpu.start
def s26_2 : State := engineAt 9 .ei Cpu.start
def s26_3 : State := engineAt 9 .di { Cpu.start with psr := 0x100 }
def s26_4 : State := engineAt 9 (.break_ 5) Cpu.start
def s26_5 : State :=
  (inMode .operational).setEng 9
    { Engine.unused with state := .running, imem := bytesTbl 0 [0xFF, 0xFF, 0xFF, 0xFF] }
def s26_6 : State := engineAt 9 (.csr .csrr 1 0x2B) { Cpu.start with ppri := [1, 2, 3, 4, 5, 6, 7, 8] }
def s26_7 : State := engineAt 9 (.csr .csrr 1 0xFF) Cpu.start
def s26_8 : State := engineAt 9 (.csr .csrw 1 0) (cpuX [0, 0xFFFFFFFF])
def s26_9 : State := engineAt 9 (.csr .csrs 1 1) (cpuX [0, 0xFFFFFFFF])
def s26_10 : State := engineAt 9 (.csr .csrc 1 2) { cpuX [0, 0xFFFFFF0F] with vbase := 0x1FFC1 }
def s26_11 : State := engineAt 9 (.csr .csrs 1 0x22) { cpuX [0, 0xFFFFFF0F] with pen0 := 0x00001 }
def s26_12 : State := engineAt 9 (.csr .csrw 1 0x23) { cpuX [0, 0xFFFFFF0F] with pen0 := 0x00001 }
def s26_13 : State :=
  engineAt 9 (.csr .csrc 1 0x2B) { cpuX [0, 0xFFFFFF0F] with ppri := [1, 2, 3, 4, 5, 6, 7, 0x888] }
def s26_14 : State := engineAt 9 (.csr .csrw 1 0x06) (cpuX [0, 0xFFFFFF0F])
def s26_15 : State :=
  let s := engineAt 9 (.break_ 5) Cpu.start
  { s with keeper := { s.keeper with lifecycle := .provisioned, session := some ⟨2, 0xFFFFFFFF, 100, 0⟩ } }
def s26_16 : State := engineAt 9 (.trap 5) Cpu.start

theorem witness_SystemInstructions :
  (fetchable (s26_1.nextPc 9) = true ∧ s26_1.issues 9 Op.nop = true ∧ decodeWord (s26_1.fetched 9) ≠ none) ∧
  (fetchable (s26_2.nextPc 9) = true ∧ s26_2.issues 9 Op.ei = true) ∧
  (fetchable (s26_3.nextPc 9) = true ∧ s26_3.issues 9 Op.di = true) ∧
  (fetchable (s26_4.nextPc 9) = true ∧ s26_4.issues 9 (Op.break_ 5) = true ∧ s26_4.debugHolds 9 = false) ∧
  (fetchable (s26_5.nextPc 9) = true ∧ s26_5.engineRuns 9 = true ∧ decodeWord (s26_5.fetched 9) = none) ∧
  (fetchable (s26_6.nextPc 9) = true ∧ s26_6.issues 9 (Op.csr CsrOp.csrr 1 43) = true) ∧
  (fetchable (s26_7.nextPc 9) = true ∧ 255 ∈ [20, 31, 48, 255] ∧ s26_7.issues 9 (Op.csr CsrOp.csrr 1 255) = true) ∧
  (fetchable (s26_8.nextPc 9) = true ∧ s26_8.issues 9 (Op.csr CsrOp.csrw 1 0) = true) ∧
  (fetchable (s26_9.nextPc 9) = true ∧ s26_9.issues 9 (Op.csr CsrOp.csrs 1 1) = true) ∧
  (fetchable (s26_10.nextPc 9) = true ∧ s26_10.issues 9 (Op.csr CsrOp.csrc 1 2) = true) ∧
  (fetchable (s26_11.nextPc 9) = true ∧ s26_11.issues 9 (Op.csr CsrOp.csrs 1 34) = true) ∧
  (fetchable (s26_12.nextPc 9) = true ∧ s26_12.issues 9 (Op.csr CsrOp.csrw 1 35) = true) ∧
  (fetchable (s26_13.nextPc 9) = true ∧ s26_13.issues 9 (Op.csr CsrOp.csrc 1 43) = true ∧ 36 ≤ 43 ∧ 43 < 44) ∧
  (fetchable (s26_14.nextPc 9) = true ∧ s26_14.issues 9 (Op.csr CsrOp.csrw 1 6) = true ∧
    6 ∈ [3, 4, 5, 6, 7, 8, 12, 16, 32, 33, 44, 47, 20, 48, 255]) ∧
  (fetchable (s26_15.nextPc 9) = true ∧ s26_15.issues 9 (Op.break_ 5) = true ∧ s26_15.debugHolds 9 = true) ∧
  (fetchable (s26_16.nextPc 9) = true ∧ s26_16.issues 9 (Op.trap 5) = true) := by
  and_intros <;> decide +kernel

def s27_1 : State := (engineAt 9 .sev Cpu.start).setEng 15 { Engine.unused with state := .waiting }
def s27_2 : State := engineAt 9 .wfe { Cpu.start with event := true }
def s27_3 : State := engineAt 9 .wfe Cpu.start
def s27_4 : State :=
  engineAt 9 .wfe
    { Cpu.start with psr := 0x100, vbase := 0x41, pen0 := 0x100, ppri := [0, 3, 0, 0, 0, 0, 0, 0], src := [(8, ⟨true, 5, false⟩)] }
def s27_5 : State :=
  engineWith 9 .wfe
    { Cpu.start with wait := .wfe, psr := 0x100, vbase := 0x41, pen0 := 0x100, ppri := [0, 3, 0, 0, 0, 0, 0, 0], src := [(8, ⟨true, 5, false⟩)] }
    (fun e => { e with state := .waiting })
def s27_6 : State :=
  engineWith 9 .wfe { Cpu.start with wait := .wfe, event := true } (fun e => { e with state := .waiting })
def s27_7 : State := engineWith 9 .wfe { Cpu.start with wait := .wfe } (fun e => { e with state := .waiting })

theorem witness_EventFlag :
  (fetchable (s27_1.nextPc 9) = true ∧ s27_1.issues 9 Op.sev = true) ∧
  (fetchable (s27_2.nextPc 9) = true ∧ s27_2.issues 9 Op.wfe = true ∧ (s27_2.cpu 9).event = true) ∧
  (fetchable (s27_3.nextPc 9) = true ∧ s27_3.issues 9 Op.wfe = true ∧ (s27_3.cpu 9).event = false ∧
    s27_3.takeable 9 = none) ∧
  (fetchable (s27_4.nextPc 9) = true ∧ s27_4.issues 9 Op.wfe = true ∧ (s27_4.cpu 9).event = false ∧
    (s27_4.takeable 9).isSome = true) ∧
  (fetchable (s27_5.nextPc 9) = true ∧ (s27_5.eng 9).state = EngState.waiting ∧ (s27_5.cpu 9).wait = Wait.wfe ∧
    (s27_5.eng 9).dbgHalt = false ∧ s27_5.engineMayRun 9 = true ∧ (s27_5.takeable 9).isSome = true) ∧
  (fetchable (s27_6.nextPc 9) = true ∧ (s27_6.eng 9).state = EngState.waiting ∧ (s27_6.cpu 9).wait = Wait.wfe ∧
    (s27_6.eng 9).dbgHalt = false ∧ s27_6.engineMayRun 9 = true ∧ s27_6.takeable 9 = none ∧
    (s27_6.cpu 9).event = true) ∧
  (fetchable (s27_7.nextPc 9) = true ∧ (s27_7.eng 9).state = EngState.waiting ∧ (s27_7.cpu 9).wait = Wait.wfe ∧
    (s27_7.eng 9).dbgHalt = false ∧ s27_7.engineMayRun 9 = true ∧ s27_7.takeable 9 = none ∧
    (s27_7.cpu 9).event = false) := by
  and_intros <;> decide +kernel

def s28_1 : State :=
  (engineWith 9 (.csr .csrw 1 0x2D) (cpuX [0, 0x1C13]) (fun e => { e with image := some imageD })).setEng 15
    { Engine.unused with state := .running, image := some imageD }
def s28_2 : State :=
  { engineAt 9 (.csr .csrw 1 0x2D) (cpuX [0, 0x800003FF]) with
    irq := [(1023, ⟨true, true, false, 3, false, 1, true, 2, 255⟩)] }
def s28_3 : State := engineAt 9 (.csr .csrw 1 0x2D) (cpuX [0, 0x414])
def s28_4 : State := engineAt 9 (.csr .csrw 1 0x2E) { cpuX [0, 63] with src := [(63, ⟨true, 5, true⟩)] }

theorem witness_RaiseAndClear :
  (fetchable (s28_1.nextPc 9) = true ∧ 7 < 8 ∧ 19 < 1024 ∧ s28_1.issues 9 (Op.csr CsrOp.csrw 1 45) = true ∧
    s28_1.x 9 1 = wd (7 * 1024 + 19) ∧ 12 ≤ 19 ∧ 19 < 20 ∧ (s28_1.eng (8 * (9 / 8) + 7)).image.isSome = true) ∧
  (fetchable (s28_2.nextPc 9) = true ∧ 1 < 8 ∧ 1023 < 1024 ∧ s28_2.issues 9 (Op.csr CsrOp.csrw 1 45) = true ∧
    s28_2.x 9 1 = wd (2147483648 + 1023) ∧ 512 ≤ 1023 ∧ (s28_2.src 1023).edge = true) ∧
  (fetchable (s28_3.nextPc 9) = true ∧ 1 < 8 ∧ 20 < 1024 ∧ s28_3.issues 9 (Op.csr CsrOp.csrw 1 45) = true ∧
    s28_3.x 9 1 = wd (1 * 1024 + 20) ∧ (20 < 12 ∨ 20 ≤ 20)) ∧
  (fetchable (s28_4.nextPc 9) = true ∧ 1 < 8 ∧ 63 < 1024 ∧ s28_4.issues 9 (Op.csr CsrOp.csrw 1 46) = true ∧
    4 ≤ 63 ∧ 63 < 64 ∧ s28_4.x 9 1 = wd 63) := by
  and_intros <;> decide +kernel

def s29_1 : State :=
  engineAt 9 .nop
    { Cpu.start with x := (List.replicate 16 1).set 15 0x10000040, psr := 0x0200010F, vbase := 0x41, pen0 := 0x100, ppri := [0, 3, 0, 0, 0, 0, 0, 0], src := [(8, ⟨true, 5, false⟩)] }
def s29_2 : State :=
  { (engineAt 9 .reti { Cpu.start with x := (List.replicate 16 1).set 15 0x10000040, psr := 0x3200000F, claims := [(true, 600)] }).putEngBytes 9 0x10000040 [0x20, 0, 0, 0, 0x1F, 2, 0, 0, 7, 0, 0, 0] with
    irq := [(600, ⟨true, true, true, 3, true, 5, true, 9, 255⟩)] }
def s29_3 : State :=
  { engineAt 9 .nop { Cpu.start with x := (List.replicate 16 1).set 15 0x10000040, psr := 0x0200010F, vbase := 0x41 } with
    irq := [(600, ⟨true, true, true, 3, false, 5, true, 9, 255⟩)] }
def s29_4 : State :=
  (engineAt 9 .reti { Cpu.start with x := (List.replicate 16 1).set 15 0x10000040, psr := 0x0200020F }).putEngBytes
    9 0x10000040 [0x20, 0, 0, 0, 0x1F, 3, 0, 0, 7, 0, 0, 0]
def s29_5 : State :=
  (engineAt 9 .reti { Cpu.start with x := (List.replicate 16 1).set 15 0x10000040, psr := 0x3200000F }).putEngBytes
    9 0x10000040 [0x20, 0, 0, 0, 0x1F, 2, 0, 0, 7, 0, 0, 0]
def s29_6 : State := engineAt 9 .reti Cpu.start

theorem witness_InterruptsAndReturn :
  (s29_1.engineRuns 9 = true ∧ s29_1.takeable 9 = some { pri := 3, isShared := false, num := 8 : Cand } ∧
    BitVec.toNat (s29_1.x 9 15 - 32) % 8 = 0 ∧ bufferOk (BitVec.toNat (s29_1.x 9 15 - 32)) 32 = true ∧
    fetchable (s29_1.vector 9 3) = true) ∧
  ((s29_2.engineRuns 9 = false ∨ s29_2.takeable 9 = none) ∧ s29_2.issues 9 Op.reti = true ∧
    BitVec.toNat (s29_2.x 9 15) % 4 = 0 ∧ (regionOf (BitVec.toNat (s29_2.x 9 15)) 32).isSome = true ∧
    fetchable (BitVec.toNat ((fun i => wd (ofLe (s29_2.engBytes 9 (BitVec.toNat (s29_2.x 9 15) + 4 * i) 4))) 0)) =
      true ∧
    (BitVec.getLsbD ((fun i => wd (ofLe (s29_2.engBytes 9 (BitVec.toNat (s29_2.x 9 15) + 4 * i) 4))) 1) 8 = false ∨
      BitVec.getLsbD (s29_2.cpu 9).vbase 0 = false) ∧ BitVec.getLsbD (s29_2.cpu 9).psr 9 = false ∧
    fld (s29_2.cpu 9).psr 28 4 ≠ 0 ∧ (s29_2.cpu 9).claims = [(true, 600)]) ∧
  (s29_3.engineRuns 9 = true ∧ s29_3.takeable 9 = some { pri := 5, isShared := true, num := 600 : Cand } ∧
    BitVec.toNat (s29_3.x 9 15 - 32) % 8 = 0 ∧ bufferOk (BitVec.toNat (s29_3.x 9 15 - 32)) 32 = true ∧
    fetchable (s29_3.vector 9 5) = true) ∧
  (s29_4.issues 9 Op.reti = true ∧ BitVec.toNat (s29_4.x 9 15) % 4 = 0 ∧
    (regionOf (BitVec.toNat (s29_4.x 9 15)) 32).isSome = true ∧
    fetchable (BitVec.toNat ((fun i => wd (ofLe (s29_4.engBytes 9 (BitVec.toNat (s29_4.x 9 15) + 4 * i) 4))) 0)) =
      true ∧
    (BitVec.getLsbD ((fun i => wd (ofLe (s29_4.engBytes 9 (BitVec.toNat (s29_4.x 9 15) + 4 * i) 4))) 1) 8 = false ∨
      BitVec.getLsbD (s29_4.cpu 9).vbase 0 = false) ∧ BitVec.getLsbD (s29_4.cpu 9).psr 9 = true) ∧
  (s29_5.issues 9 Op.reti = true ∧ BitVec.toNat (s29_5.x 9 15) % 4 = 0 ∧
    (regionOf (BitVec.toNat (s29_5.x 9 15)) 32).isSome = true ∧
    fetchable (BitVec.toNat ((fun i => wd (ofLe (s29_5.engBytes 9 (BitVec.toNat (s29_5.x 9 15) + 4 * i) 4))) 0)) =
      true ∧
    (BitVec.getLsbD ((fun i => wd (ofLe (s29_5.engBytes 9 (BitVec.toNat (s29_5.x 9 15) + 4 * i) 4))) 1) 8 = false ∨
      BitVec.getLsbD (s29_5.cpu 9).vbase 0 = false) ∧ BitVec.getLsbD (s29_5.cpu 9).psr 9 = false ∧
    fld (s29_5.cpu 9).psr 28 4 ≠ 0 ∧ (s29_5.cpu 9).claims = []) ∧
  (s29_6.issues 9 Op.reti = true ∧ BitVec.getLsbD (s29_6.cpu 9).psr 9 = false ∧ fld (s29_6.cpu 9).psr 28 4 = 0) := by
  and_intros <;> decide +kernel

def s30_1 : State :=
  engineWith 9 (.unit .checkpoint 4 0 0) Cpu.start
    (fun e => { e with image := some imageD, ckptSeq := 65535, ckptValid := true, ckptCur := true })
def s30_2 : State :=
  engineWith 9 (.unit .take 4 1 0) (cpuX [0, 3])
    (fun e => { e with image := some imageD, inboxes := [(3, [⟨7, 5, 9, true, false⟩, ⟨63, 6, 9, false, true⟩])] })
def s30_3 : State :=
  engineWith 9 (.unit .release 0 1 0) (cpuX [0, 199])
    (fun e => { e with image := some imageD, inboxes := [(3, [⟨7, 5, 9, true, false⟩, ⟨63, 6, 9, false, true⟩])] })
def s30_4 : State := subState
def s30_5 : State := engineWith 9 (.unit .ident 3 0 0) Cpu.start (fun e => { e with cause := .host })
def s30_6 : State := engineWith 9 (.unit .image 3 0 0) Cpu.start (fun e => { e with image := some imageD })
def s30_7 : State := engineAt 9 (.unit .image 3 1 0) Cpu.start
def s30_8 : State := withRegs [(0x484, 0x80640064)] (engineAt 9 (.unit .rate 3 0 0) Cpu.start)
def s30_9 : State := engineWith 9 (.unit .take 4 1 0) (cpuX [0, 3]) (fun e => { e with image := some imageD })
def s30_10 : State := engineAt 9 (.unit .take 4 1 0) (cpuX [0, 4])
def s30_11 : State :=
  engineWith 9 (.unit .release 0 1 0) (cpuX [0, 255])
    (fun e => { e with image := some imageD, inboxes := [(3, [⟨7, 5, 9, true, false⟩, ⟨63, 6, 9, false, true⟩])] })
def s30_12 : State :=
  { engineWith 9 (.unit .hdr 3 1 2) (cpuX [0, 5, 7]) (fun e => { e with image := some imageD, inboxes := [(3, [⟨7, 5, 9, true, false⟩])] }) with
    recs := [(5, some ⟨7, [5], 1, false, none⟩)], mem := [⟨349, 9⟩] }
def s30_13 : State :=
  { engineWith 9 (.unit .data 3 1 2) (cpuX [0, 5, 2047]) (fun e => { e with image := some imageD, inboxes := [(3, [⟨7, 5, 9, true, false⟩])] }) with
    recs := [(5, some ⟨7, [5], 1, false, none⟩)], mem := [⟨349, 9⟩] }
def s30_14 : State :=
  { engineWith 9 (.unit .copy 3 1 2) (cpuX [0, 5, 0x1000FFF8, 8]) (fun e => { e with image := some imageD, inboxes := [(3, [⟨7, 5, 9, true, false⟩])] }) with
    recs := [(5, some ⟨7, [5], 1, false, none⟩)], mem := [⟨336, 8⟩, ⟨352, 9⟩] }
def s30_15 : State :=
  engineWith 9 (.unit .submit 3 1 0) (cpuX [0, 0x10000000])
    (fun e => { e with subs := List.replicate 8 ⟨1, none, none⟩ })
def s30_16 : State := engineAt 9 (.unit .done 4 0 0) Cpu.start
def s30_17 : State :=
  engineWith 9 (.unit .done 4 0 0) Cpu.start (fun e => { e with done := [⟨2 ^ 32 - 1, 3⟩, ⟨4, 5⟩] })
def s30_18 : State :=
  engineWith 9 (.unit .checkpoint 4 0 0) Cpu.start
    (fun e => { e with image := some { imageD with ckptLen := 0 }, ckptSeq := 8 })

theorem witness_MessageUnits :
  (fetchable (s30_1.nextPc 9) = true ∧ s30_1.issues 9 (Op.unit UnitFn.checkpoint 4 0 0) = true ∧
    (s30_1.eng 9).image = some imageD ∧ 0 < imageD.ckptLen ∧ (s30_1.eng 9).ckptValid = true ∧
    (s30_1.eng 9).ckptCur = true) ∧
  (fetchable (s30_2.nextPc 9) = true ∧ s30_2.issues 9 (Op.unit UnitFn.take 4 1 0) = true ∧ 4 % 2 = 0 ∧
    BitVec.toNat (s30_2.x 9 1) < 4 ∧ (s30_2.eng 9).depth (BitVec.toNat (s30_2.x 9 1)) ≠ 0 ∧
    List.find? (fun y => !y.taken) ((s30_2.eng 9).inbox (BitVec.toNat (s30_2.x 9 1))) = some
      { slot := 63, record := 6, route := 9, taken := false, redelivered := true : InboxEnt }) ∧
  (fetchable (s30_3.nextPc 9) = true ∧ s30_3.issues 9 (Op.unit UnitFn.release 0 1 0) = true ∧
    BitVec.toNat (s30_3.x 9 1) < 256 ∧
    List.find? (fun z => z.taken && z.slot == BitVec.toNat (s30_3.x 9 1) % 64) ((s30_3.eng 9).inbox (BitVec.toNat
      (s30_3.x 9 1) / 64)) = some
      { slot := 7, record := 5, route := 9, taken := true, redelivered := false : InboxEnt } ∧
    fetchable ((State.dropRef 5 (State.upEng 9 (fun e => Engine.setInbox (BitVec.toNat (s30_3.x 9 1) / 64)
      (List.filter (fun z => z.slot != 7) (e.inbox (BitVec.toNat (s30_3.x 9 1) / 64))) e) s30_3)).nextPc 9) = true ∧
    s30_3.record 5 = none) ∧
  (fetchable (s30_4.nextPc 9) = true ∧ s30_4.issues 9 (Op.unit UnitFn.submit 3 1 0) = true ∧
    BitVec.toNat (s30_4.x 9 1) % 8 = 0 ∧ bufferOk (BitVec.toNat (s30_4.x 9 1)) 32 = true ∧
    bufferOk (BitVec.toNat (s30_4.x 9 1)) (32 + leAt (s30_4.engBytes 9 (BitVec.toNat (s30_4.x 9 1)) 32) 16 2) = true ∧
    (s30_4.eng 9).subs.length < 8 ∧
    submitOk (s30_4.engBytes 9 (BitVec.toNat (s30_4.x 9 1)) (32 + leAt (s30_4.engBytes 9 (BitVec.toNat (s30_4.x 9
      1)) 32) 16 2)) = true ∧
    nbit (byteAt (s30_4.engBytes 9 (BitVec.toNat (s30_4.x 9 1)) (32 + leAt (s30_4.engBytes 9 (BitVec.toNat (s30_4.x
      9 1)) 32) 16 2)) 3) 2 = false ∧
    State.stage4 (9 / 8) (submitFrame (s30_4.engBytes 9 (BitVec.toNat (s30_4.x 9 1)) (32 + leAt (s30_4.engBytes 9
      (BitVec.toNat (s30_4.x 9 1)) 32) 16 2)) srcEngine 9 s30_4.stamp) false (State.submitted 9 3 (s30_4.engBytes 9
      (BitVec.toNat (s30_4.x 9 1)) (32 + leAt (s30_4.engBytes 9 (BitVec.toNat (s30_4.x 9 1)) 32) 16 2)) s30_4) =
      (Stage4.pass subFrame subGather, subStage.2) ∧
    State.waitingSet subGather.routes subFrame (launchOf (nbit (byteAt (s30_4.engBytes 9 (BitVec.toNat (s30_4.x 9
      1)) (32 + leAt (s30_4.engBytes 9 (BitVec.toNat (s30_4.x 9 1)) 32) 16 2)) 3) 0) (leAt (s30_4.engBytes 9
      (BitVec.toNat (s30_4.x 9 1)) (32 + leAt (s30_4.engBytes 9 (BitVec.toNat (s30_4.x 9 1)) 32) 16 2)) 8 8)) (nbit
      (byteAt (s30_4.engBytes 9 (BitVec.toNat (s30_4.x 9 1)) (32 + leAt (s30_4.engBytes 9 (BitVec.toNat (s30_4.x 9
      1)) 32) 16 2)) 3) 1) (leAt (s30_4.engBytes 9 (BitVec.toNat (s30_4.x 9 1)) (32 + leAt (s30_4.engBytes 9
      (BitVec.toNat (s30_4.x 9 1)) 32) 16 2)) 28 4) subStage.2.time subStage.2 = ((subOk, subSet.1.2), subSet.2)) ∧
  (fetchable (s30_5.nextPc 9) = true ∧ s30_5.issues 9 (Op.unit UnitFn.ident 3 0 0) = true) ∧
  (fetchable (s30_6.nextPc 9) = true ∧ s30_6.issues 9 (Op.unit UnitFn.image 3 0 0) = true) ∧
  (fetchable (s30_7.nextPc 9) = true ∧ s30_7.issues 9 (Op.unit UnitFn.image 3 1 0) = true ∧ 1 ≠ 0) ∧
  (fetchable (s30_8.nextPc 9) = true ∧ s30_8.issues 9 (Op.unit UnitFn.rate 3 0 0) = true) ∧
  (fetchable (s30_9.nextPc 9) = true ∧ s30_9.issues 9 (Op.unit UnitFn.take 4 1 0) = true ∧ 4 % 2 = 0 ∧
    BitVec.toNat (s30_9.x 9 1) < 4 ∧ (s30_9.eng 9).depth (BitVec.toNat (s30_9.x 9 1)) ≠ 0 ∧
    List.find? (fun y => !y.taken) ((s30_9.eng 9).inbox (BitVec.toNat (s30_9.x 9 1))) = none) ∧
  (fetchable (s30_10.nextPc 9) = true ∧ s30_10.issues 9 (Op.unit UnitFn.take 4 1 0) = true ∧ 4 % 2 = 0 ∧
    4 ≤ BitVec.toNat (s30_10.x 9 1)) ∧
  (fetchable (s30_11.nextPc 9) = true ∧ s30_11.issues 9 (Op.unit UnitFn.release 0 1 0) = true ∧
    BitVec.toNat (s30_11.x 9 1) < 256 ∧
    List.find? (fun z => z.taken && z.slot == BitVec.toNat (s30_11.x 9 1) % 64) ((s30_11.eng 9).inbox (BitVec.toNat
      (s30_11.x 9 1) / 64)) = none) ∧
  (fetchable (s30_12.nextPc 9) = true ∧ s30_12.takenCell 9 (BitVec.toNat (s30_12.x 9 1)) = true ∧
    s30_12.issues 9 (Op.unit UnitFn.hdr 3 1 2) = true ∧ BitVec.toNat (s30_12.x 9 2) < 8) ∧
  (fetchable (s30_13.nextPc 9) = true ∧ s30_13.takenCell 9 (BitVec.toNat (s30_13.x 9 1)) = true ∧
    s30_13.issues 9 (Op.unit UnitFn.data 3 1 2) = true ∧ BitVec.toNat (s30_13.x 9 2) < 2048) ∧
  (fetchable (s30_14.nextPc 9) = true ∧ s30_14.takenCell 9 (BitVec.toNat (s30_14.x 9 1)) = true ∧
    s30_14.issues 9 (Op.unit UnitFn.copy 3 1 2) = true ∧ BitVec.toNat (s30_14.x 9 2) % 8 = 0 ∧
    bufferOk (BitVec.toNat (s30_14.x 9 2)) (BitVec.toNat (s30_14.x 9 3)) = true) ∧
  (fetchable (s30_15.nextPc 9) = true ∧ s30_15.issues 9 (Op.unit UnitFn.submit 3 1 0) = true ∧
    BitVec.toNat (s30_15.x 9 1) % 8 = 0 ∧ bufferOk (BitVec.toNat (s30_15.x 9 1)) 32 = true ∧
    bufferOk (BitVec.toNat (s30_15.x 9 1)) (32 + leAt (s30_15.engBytes 9 (BitVec.toNat (s30_15.x 9 1)) 32) 16 2) =
      true ∧ 8 ≤ (s30_15.eng 9).subs.length) ∧
  (fetchable (s30_16.nextPc 9) = true ∧ s30_16.issues 9 (Op.unit UnitFn.done 4 0 0) = true ∧ 4 % 2 = 0 ∧
    (s30_16.eng 9).done = []) ∧
  (fetchable (s30_17.nextPc 9) = true ∧ s30_17.issues 9 (Op.unit UnitFn.done 4 0 0) = true ∧ 4 % 2 = 0 ∧
    (s30_17.eng 9).done = [{ tag := 2 ^ 32 - 1, status := 3 : SubDone }, { tag := 4, status := 5 : SubDone }]) ∧
  (fetchable (s30_18.nextPc 9) = true ∧ s30_18.issues 9 (Op.unit UnitFn.checkpoint 4 0 0) = true ∧
    (s30_18.eng 9).image = some ({ imageD with ckptLen := 0 : Image }) ∧
    ({ imageD with ckptLen := 0 : Image }).ckptLen = 0) := by
  and_intros <;> decide +kernel

def s31_1 : State :=
  { engineAt 9 (.unit .taskDone 0 1 0) (cpuX [0, 15]) with
    timelines := [(49, { Timeline.stopped with active := true, current := some (placed 0 .task 15 0 5), taskOpen := true })] }
def s31_2 : State :=
  let s := engineAt 9 (.unit .now 4 0 0) Cpu.start
  { s with beacon := { Beacon.reset with running := true, raw := 70000 * 65536, floor := 70001 * 65536 } }
def s31_3 : State := engineAt 9 (.unit .sechi 4 0 0) { Cpu.start with reading := 2 ^ 90 + 5 }
def s31_4 : State := engineAt 9 (.unit .frac 4 0 0) { Cpu.start with reading := 2 ^ 90 + 5 }
def s31_5 : State := engineAt 9 (.unit .waitUntil 4 1 2) (cpuX [0, 0, 0])
def s31_6 : State := engineAt 9 (.unit .waitUntil 4 1 2) (cpuX [0, 999999999, 5])
def s31_7 : State := engineAt 9 (.unit .waitUntil 4 1 2) { cpuX [0, 999999999, 5] with event := true }
def s31_8 : State := engineAt 9 (.unit .waitUntil 4 1 2) (cpuX [0, 1000000000, 5])
def s31_9 : State :=
  engineWith 9 .nop { Cpu.start with wait := .untilTime 0 4 } (fun e => { e with state := .waiting })
def s31_10 : State :=
  engineWith 9 .nop { Cpu.start with wait := .untilTime 5 4, event := true } (fun e => { e with state := .waiting })
def s31_11 : State :=
  engineWith 9 .nop
    { Cpu.start with wait := .untilTime 5 4, psr := 0x100, vbase := 0x41, pen0 := 0x100, ppri := [0, 3, 0, 0, 0, 0, 0, 0], src := [(8, ⟨true, 5, false⟩)] }
    (fun e => { e with state := .waiting })
def s31_12 : State := engineAt 9 (.unit .taskDone 0 1 0) (cpuX [0, 15])
def s31_13 : State := engineAt 9 (.unit .taskDone 0 1 0) (cpuX [0, 16])
def s31_14 : State := engineAt 9 (.unit .tsqPop 4 1 0) (cpuX [0, 11])
def s31_15 : State :=
  (engineAt 9 (.unit .tsqPop 4 1 0) (cpuX [0, 11])).setBport 11 { BcnPort.reset with tsq := [⟨5, 6, 7⟩, ⟨8, 9, 1⟩] }
def s31_16 : State := engineAt 9 (.unit .tsqStamp 4 0 0) { Cpu.start with tsqStamp := 2 ^ 60 + 7 }
def s31_17 : State := engineAt 9 (.tile 63 4 1 2 5) (cpuX [0, 0x10000000, 9])
def s31_18 : State :=
  let s := engineAt 9 (.tile 3 4 1 2 5) (cpuX [0, 0x10000000, 9])
  ({ s with fuse := { s.fuse with optT := true } }).setTile 1
    { Tile.none with running := true, image := some (1, 2, 0xFF) }

theorem witness_TimeAndOtherUnits :
  (fetchable (s31_1.nextPc 9) = true ∧ s31_1.issues 9 (Op.unit UnitFn.taskDone 0 1 0) = true ∧
    (s31_1.tl (40 + 9)).current = some (placed 0 WinType.task 15 0 5) ∧
    (placed 0 WinType.task 15 0 5).win.type = WinType.task ∧
    (placed 0 WinType.task 15 0 5).win.ref = BitVec.toNat (s31_1.x 9 1) ∧ BitVec.toNat (s31_1.x 9 1) < 16 ∧
    (s31_1.tl (40 + 9)).taskOpen = true) ∧
  (fetchable (s31_2.nextPc 9) = true ∧ s31_2.issues 9 (Op.unit UnitFn.now 4 0 0) = true ∧ 4 % 2 = 0 ∧
    s31_2.mode ≠ Mode.test) ∧
  (fetchable (s31_3.nextPc 9) = true ∧ s31_3.issues 9 (Op.unit UnitFn.sechi 4 0 0) = true) ∧
  (fetchable (s31_4.nextPc 9) = true ∧ s31_4.issues 9 (Op.unit UnitFn.frac 4 0 0) = true) ∧
  (fetchable (s31_5.nextPc 9) = true ∧ s31_5.issues 9 (Op.unit UnitFn.waitUntil 4 1 2) = true ∧
    fld (s31_5.x 9 1) 0 30 < 10 ^ 9 ∧
    nsOfStamp (BitVec.toNat (s31_5.x 9 1) + 2 ^ 32 * BitVec.toNat (s31_5.x 9 2)) * 2 ^ 16 ≤ s31_5.time) ∧
  (fetchable (s31_6.nextPc 9) = true ∧ s31_6.issues 9 (Op.unit UnitFn.waitUntil 4 1 2) = true ∧
    fld (s31_6.x 9 1) 0 30 < 10 ^ 9 ∧
    s31_6.time < nsOfStamp (BitVec.toNat (s31_6.x 9 1) + 2 ^ 32 * BitVec.toNat (s31_6.x 9 2)) * 2 ^ 16 ∧
    (s31_6.cpu 9).event = false) ∧
  (fetchable (s31_7.nextPc 9) = true ∧ s31_7.issues 9 (Op.unit UnitFn.waitUntil 4 1 2) = true ∧
    fld (s31_7.x 9 1) 0 30 < 10 ^ 9 ∧
    s31_7.time < nsOfStamp (BitVec.toNat (s31_7.x 9 1) + 2 ^ 32 * BitVec.toNat (s31_7.x 9 2)) * 2 ^ 16 ∧
    (s31_7.cpu 9).event = true) ∧
  (fetchable (s31_8.nextPc 9) = true ∧ s31_8.issues 9 (Op.unit UnitFn.waitUntil 4 1 2) = true ∧
    10 ^ 9 ≤ fld (s31_8.x 9 1) 0 30) ∧
  (fetchable (s31_9.nextPc 9) = true ∧ (s31_9.cpu 9).wait = Wait.untilTime 0 4 ∧
    (s31_9.eng 9).state = EngState.waiting ∧ (s31_9.eng 9).dbgHalt = false ∧ s31_9.engineMayRun 9 = true ∧
    0 ≤ s31_9.time) ∧
  (fetchable (s31_10.nextPc 9) = true ∧ (s31_10.cpu 9).wait = Wait.untilTime 5 4 ∧
    (s31_10.eng 9).state = EngState.waiting ∧ (s31_10.eng 9).dbgHalt = false ∧ s31_10.engineMayRun 9 = true ∧
    s31_10.time < 5 ∧ (s31_10.cpu 9).event = true) ∧
  (fetchable (s31_11.nextPc 9) = true ∧ (s31_11.cpu 9).wait = Wait.untilTime 5 4 ∧
    (s31_11.eng 9).state = EngState.waiting ∧ (s31_11.eng 9).dbgHalt = false ∧ s31_11.engineMayRun 9 = true ∧
    s31_11.time < 5 ∧ (s31_11.cpu 9).event = false ∧ (s31_11.takeable 9).isSome = true) ∧
  (fetchable (s31_12.nextPc 9) = true ∧ s31_12.issues 9 (Op.unit UnitFn.taskDone 0 1 0) = true ∧
    BitVec.toNat (s31_12.x 9 1) < 16 ∧ (s31_12.tl (40 + 9)).current = none) ∧
  (fetchable (s31_13.nextPc 9) = true ∧ s31_13.issues 9 (Op.unit UnitFn.taskDone 0 1 0) = true ∧
    16 ≤ BitVec.toNat (s31_13.x 9 1)) ∧
  (fetchable (s31_14.nextPc 9) = true ∧ s31_14.issues 9 (Op.unit UnitFn.tsqPop 4 1 0) = true ∧ 4 % 2 = 0 ∧
    BitVec.toNat (s31_14.x 9 1) < 24 ∧ BitVec.toNat (s31_14.x 9 1) / 6 = 9 / 8 ∧
    (s31_14.bport (BitVec.toNat (s31_14.x 9 1))).tsq = []) ∧
  (fetchable (s31_15.nextPc 9) = true ∧ s31_15.issues 9 (Op.unit UnitFn.tsqPop 4 1 0) = true ∧ 4 % 2 = 0 ∧
    BitVec.toNat (s31_15.x 9 1) < 24 ∧ BitVec.toNat (s31_15.x 9 1) / 6 = 9 / 8 ∧
    (s31_15.bport (BitVec.toNat (s31_15.x 9 1))).tsq = [{ stamp := 5, tag := 6, outcome := 7 : TsRec },
      { stamp := 8, tag := 9, outcome := 1 : TsRec }]) ∧
  (fetchable (s31_16.nextPc 9) = true ∧ s31_16.issues 9 (Op.unit UnitFn.tsqStamp 4 0 0) = true ∧ 4 % 2 = 0) ∧
  (fetchable (s31_17.nextPc 9) = true ∧ s31_17.issues 9 (Op.tile 63 4 1 2 5) = true ∧
    s31_17.tileOffers (9 / 8) 63 = false) ∧
  (fetchable (s31_18.nextPc 9) = true ∧ s31_18.issues 9 (Op.tile 3 4 1 2 5) = true ∧
    s31_18.tileOffers (9 / 8) 3 = true) := by
  and_intros <;> decide +kernel

def s32_1 : State :=
  (inMode .operational).setLane 39
    { BusLane.reset with ctl := .recovering, conf := .busOff, tec := 256, recv := 9, ew := true, recovering := true }
def s32_2 : State :=
  (inMode .operational).setLane 39 { BusLane.reset with ctl := .idle, slots := [slotOf 4 7], ready := [9, 10] }
def s32_3 : State := chan 39 .integrating .active 0 0 (inMode .operational)
def s32_4 : State := withRegs [(busBase 3, 0x00400000)] (chan 3 .recovering .busOff 256 0 (inMode .operational))
def s32_5 : State := withRegs [(busBase 3, 0x00800000)] (chan 3 .recovering .busOff 256 0 (inMode .operational))
def s32_6 : State := withRegs [(busBase 3, 0x00800000)] (chan 3 .recovering .busOff 256 0 (inMode .unconfigured))
def s32_7 : State := (inMode .operational).setLane 39 { BusLane.reset with ctl := .idle, slots := [slotOf 4 7] }

theorem witness_ChannelStates :
  ((s32_1.lane 39).ctl ≠ CtlState.integrating ∧ (s32_1.lane 39).ctl = CtlState.recovering ∧
    (s32_1.lane 39).recovering = true ∧ s32_1.maySend 39 = false) ∧
  (((s32_2.lane 39).ctl ≠ CtlState.recovering ∨ (s32_2.lane 39).recovering = false) ∧ s32_2.maySend 39 = true ∧
    (s32_2.tl 39).refSlot = none ∧ s32_2.chooseSlot 39 = some (slotOf 4 7) ∧ (s32_2.lane 39).ready = [9, 10] ∧
    31 < 32 ∧ (s32_2.lane 39).slot 31 = none) ∧
  ((s32_3.lane 39).ctl = CtlState.integrating) ∧
  ((s32_4.lane 3).ctl = CtlState.recovering ∧ s32_4.rf (busBase 3) 22 2 = 1) ∧
  ((s32_5.lane 3).ctl = CtlState.recovering ∧ s32_5.rf (busBase 3) 22 2 = 2 ∧ s32_5.open_ (busBase 3 + 4) = true ∧
    s32_5.mode.run = true ∧ 3 < 40) ∧
  (s32_6.open_ (busBase 3 + 4) = true ∧ s32_6.mode.run = false ∧ 3 < 40) ∧
  ((s32_7.lane 39).ready = []) := by
  and_intros <;> decide +kernel

def s33_1 : State := sending 39 2 7 .passive 248 126 (inMode .operational)
def s33_2 : State := withRegs [(busBase 5 + 0x10, 0x00600000)] (chan 5 .receiving .active 3 4 (inMode .operational))
def s33_3 : State := withRegs [(busBase 39 + 0x10, 0x00FF0000)] (sending 39 2 7 .active 119 126 (inMode .operational))
def s33_4 : State := chan 39 .recovering .active 119 126 (inMode .operational)

theorem witness_ErrorsAndBusOff :
  (s33_1.countsErrors 39 = true ∧ (s33_1.tl 39).refBusy = false ∧ (s33_1.lane 39).conf = ConfState.passive ∧
    (s33_1.lane 39).ctl = CtlState.transmitting ∧ (s33_1.lane 39).current = some 2 ∧
    (s33_1.lane 39).slot 2 = some (slotOf 2 7) ∧ s33_1.singleShot 39 (slotOf 2 7) = false ∧
    248 ≤ (s33_1.lane 39).tec ∧ (s33_1.lane 39).tec < 256) ∧
  (BusFault.plain 1 [] = BusFault.plain (BusFault.plain 1 []).kind [] ∧ 1 ≤ (BusFault.plain 1 []).kind ∧
    (BusFault.plain 1 []).kind ≤ 6 ∧ s33_2.countsErrors 5 = true ∧ (s33_2.tl 5).refBusy = false ∧
    (s33_2.lane 5).hist = [] ∧ (s33_2.lane 5).conf = ConfState.active ∧ (s33_2.lane 5).ctl = CtlState.receiving ∧
    (s33_2.lane 5).recv < 127 ∧ (s33_2.lane 5).recv + 1 < s33_2.rf (busBase 5 + 16) 16 8 ∧
    (s33_2.lane 5).tec < s33_2.rf (busBase 5 + 16) 16 8 ∧ (s33_2.lane 5).tec < 128) ∧
  (BusFault.plain 5 [] = BusFault.plain (BusFault.plain 5 []).kind [] ∧ 1 ≤ (BusFault.plain 5 []).kind ∧
    (BusFault.plain 5 []).kind ≤ 6 ∧ s33_3.countsErrors 39 = true ∧ (s33_3.tl 39).refBusy = false ∧
    (s33_3.lane 39).hist = [] ∧ (s33_3.lane 39).conf = ConfState.active ∧
    (s33_3.lane 39).ctl = CtlState.transmitting ∧ (s33_3.lane 39).current = some 2 ∧
    ({ s33_3.lane 39 with sigcfg := s33_3.rd (busBase 39 + 276), limits := s33_3.rd (busBase 39 + 16) : BusLane }).slot
      2 = some (slotOf 2 7) ∧ s33_3.singleShot 39 (slotOf 2 7) = false ∧ (BusFault.plain 5 []).kind ≠ 3 ∧
    (s33_3.lane 39).tec + 8 < 128 ∧ (s33_3.lane 39).tec + 8 < s33_3.rf (busBase 39 + 16) 16 8 ∧
    (s33_3.lane 39).recv < s33_3.rf (busBase 39 + 16) 16 8 ∧ (s33_3.lane 39).recv < 128) ∧
  (BusFault.plain 4 [] = BusFault.plain (BusFault.plain 4 []).kind [] ∧ 1 ≤ (BusFault.plain 4 []).kind ∧
    (BusFault.plain 4 []).kind ≤ 6 ∧ s33_4.countsErrors 39 = true ∧ (s33_4.tl 39).refBusy = false ∧
    (s33_4.lane 39).hist = [] ∧ (s33_4.lane 39).conf = ConfState.active ∧ (s33_4.lane 39).ctl ≠ CtlState.idle ∧
    (s33_4.lane 39).ctl ≠ CtlState.receiving ∧ (s33_4.lane 39).ctl ≠ CtlState.transmitting) := by
  and_intros <;> decide +kernel

def s34_1 : State :=
  (withRegs [(busBase 39 + 0x10, 0x00FF0000)] (sending 39 2 7 .active 5 5 (inMode .operational))).setDesc 7
    { Desc.unused with kind := .txQueue, bindIndex := 39, state := .loaded, slot := some 2 }
def s34_2 : State := withRegs [(busBase 5 + 0x10, 0x00600000)] (chan 5 .receiving .active 3 4 (inMode .operational))

theorem witness_ChannelFrames :
  ((s34_1.lane 39).hist = [] ∧ (s34_1.lane 39).ctl ≠ CtlState.idle ∧ (s34_1.lane 39).ctl ≠ CtlState.receiving ∧
    (s34_1.lane 39).ctl = CtlState.transmitting ∧ (s34_1.lane 39).current = some 2 ∧
    ({ s34_1.lane 39 with sigcfg := s34_1.rd (busBase 39 + 276), limits := s34_1.rd (busBase 39 + 16) : BusLane }).slot
      2 = some (slotOf 2 7) ∧ (s34_1.tl 39).refBusy = false ∧ s34_1.countsErrors 39 = true ∧
    (s34_1.lane 39).conf = ConfState.active ∧ (s34_1.lane 39).tec < s34_1.rf (busBase 39 + 16) 16 8 ∧
    (s34_1.lane 39).recv < s34_1.rf (busBase 39 + 16) 16 8 ∧ (s34_1.lane 39).tec < 128 ∧
    (s34_1.lane 39).recv < 128 ∧ (s34_1.desc (slotOf 2 7).desc).kind = DescKind.txQueue ∧
    s34_1.tdcBad 39 (s34_1.slotFrame (slotOf 2 7)) 3 = false ∧ s34_1.singleShot 39 (slotOf 2 7) = false) ∧
  ((s34_2.lane 5).hist = [] ∧ ((s34_2.lane 5).ctl = CtlState.idle ∨ (s34_2.lane 5).ctl = CtlState.receiving) ∧
    s34_2.countsErrors 5 = true ∧ s34_2.formatOn 5 (frame0 5 [1, 2]).format = true ∧
    lengthOk (frame0 5 [1, 2]).format (frame0 5 [1, 2]).flags (frame0 5 [1, 2]).dlc (frame0 5 [1, 2]).data.length =
      true ∧ (s34_2.lane 5).conf = ConfState.active ∧ (s34_2.lane 5).recv < s34_2.rf (busBase 5 + 16) 16 8 ∧
    (s34_2.lane 5).tec < s34_2.rf (busBase 5 + 16) 16 8 ∧ (s34_2.lane 5).recv < 128 ∧ (s34_2.lane 5).tec < 128 ∧
    (s34_2.lane 5).ctl ≠ CtlState.transmitting) := by
  and_intros <;> decide +kernel

def s35_1 : State :=
  withRegs [(busBase 39 + 0x120, 0x80000000)] ((inMode .sleep).setLane 39 { BusLane.reset with wakeErr := 31 })
def s35_2 : State := withRegs [(busBase 39 + 0x120, 0x40000000), (busBase 3 + 0x120, 0x40000000)] (inMode .sleep)
def s35_3 : State := withRegs [(busBase 39, 0x04000000)] (chan 39 .idle .active 0 0 (inMode .operational))
def s35_4 : State :=
  withRegs [(busBase 39 + 0x120, 0x88000000), (busBase 39 + 0x124, 1), (busBase 39 + 0x128, 0xFFFFFFFF)]
    ((inMode .sleep).setLane 39 { BusLane.reset with wakeErr := 30 })
def s35_5 : State := withRegs [(busBase 39, 0x00000000)] (chan 39 .receiving .active 0 0 (inMode .operational))

theorem witness_LineSupervisionAndWake :
  ((s35_1.lane 39).ctl ≠ CtlState.transmitting ∧ s35_1.mode = Mode.sleep ∧ s35_1.executing 6 = none ∧
    (∀ m ∈ [4, 3], s35_1.listens 1 m = false) ∧ s35_1.listens 2 39 = true ∧ s35_1.wakeMatch 39 0 0 [] = true ∧
    (s35_1.lane 39).wakeErr = 31) ∧
  (s35_2.mode = Mode.sleep ∧ s35_2.executing 6 = none ∧ (∃ m ∈ [39, 4, 3], s35_2.listens 1 m = true) ∧
    s35_2.listens 2 39 = false) ∧
  (s35_3.onLine 39 = true ∧ s35_3.rb (busBase 39) 26 = true) ∧
  (s35_4.mode = Mode.sleep ∧ s35_4.executing 6 = none ∧ s35_4.listens 2 39 = true ∧
    s35_4.wakeMatch 39 0 0 [] = false ∧ (s35_4.lane 39).wakeErr < 31) ∧
  (s35_5.onLine 39 = true ∧ s35_5.rb (busBase 39) 26 = false) := by
  and_intros <;> decide +kernel

def s36_1 : State := inMode .test

theorem witness_NodeTable :
  (4095 < 4096 ∧ s36_1.mode.setup = true ∧ 6 < 7 ∧ s36_1.node 4095 = NodeEnt.free ∧
    (NodeEnt.ofBytes (leBytes 32 (ofWords (List.map (fun j => (Tbl.get (fun _ => none) s36_1.stage (latchKey (b2n
      true) (4194304 + 32 * 4095 + 4 * j))).getD (wordAt (s36_1.node 4095).bytes j)) (List.range 7) ++ [0])))).state
      < 2 ∧
    (NodeEnt.ofBytes (leBytes 32 (ofWords (List.map (fun j => (Tbl.get (fun _ => none) s36_1.stage (latchKey (b2n
      true) (4194304 + 32 * 4095 + 4 * j))).getD (wordAt (s36_1.node 4095).bytes j)) (List.range 7) ++
      [0])))).channel < 40 ∧
    s36_1.hasCluster ((NodeEnt.ofBytes (leBytes 32 (ofWords (List.map (fun j => (Tbl.get (fun _ => none) s36_1.stage
      (latchKey (b2n true) (4194304 + 32 * 4095 + 4 * j))).getD (wordAt (s36_1.node 4095).bytes j)) (List.range 7)
      ++ [0])))).channel / 10) = true ∧
    leAt (leBytes 32 (ofWords (List.map (fun j => (Tbl.get (fun _ => none) s36_1.stage (latchKey (b2n true) (4194304
      + 32 * 4095 + 4 * j))).getD (wordAt (s36_1.node 4095).bytes j)) (List.range 7) ++ [0]))) 22 2 = 0 ∧
    leAt (leBytes 32 (ofWords (List.map (fun j => (Tbl.get (fun _ => none) s36_1.stage (latchKey (b2n true) (4194304
      + 32 * 4095 + 4 * j))).getD (wordAt (s36_1.node 4095).bytes j)) (List.range 7) ++ [0]))) 30 2 = 0) ∧
  (0 < 4096 ∧ s36_1.mode.setup = true ∧
    (2 < (NodeEnt.ofBytes (leBytes 32 (ofWords (List.map (fun j => (Tbl.get (fun _ => none) s36_1.stage (latchKey
      (b2n false) (4194304 + 32 * 0 + 4 * j))).getD (wordAt (s36_1.node 0).bytes j)) (List.range 7) ++
      [4294967295])))).state ∨ 40 ≤ (NodeEnt.ofBytes (leBytes 32 (ofWords (List.map (fun j => (Tbl.get (fun _ =>
      none) s36_1.stage (latchKey (b2n false) (4194304 + 32 * 0 + 4 * j))).getD (wordAt (s36_1.node 0).bytes j))
      (List.range 7) ++ [4294967295])))).channel ∨ s36_1.hasCluster ((NodeEnt.ofBytes (leBytes 32 (ofWords (List.map
      (fun j => (Tbl.get (fun _ => none) s36_1.stage (latchKey (b2n false) (4194304 + 32 * 0 + 4 * j))).getD (wordAt
      (s36_1.node 0).bytes j)) (List.range 7) ++ [4294967295])))).channel / 10) = false ∨ 8 ≤ leAt (leBytes 32
      (ofWords (List.map (fun j => (Tbl.get (fun _ => none) s36_1.stage (latchKey (b2n false) (4194304 + 32 * 0 + 4
      * j))).getD (wordAt (s36_1.node 0).bytes j)) (List.range 7) ++ [4294967295]))) 22 2 ∨ leAt (leBytes 32
      (ofWords (List.map (fun j => (Tbl.get (fun _ => none) s36_1.stage (latchKey (b2n false) (4194304 + 32 * 0 + 4
      * j))).getD (wordAt (s36_1.node 0).bytes j)) (List.range 7) ++ [4294967295]))) 30 2 ≠ 0)) := by
  and_intros <;> decide +kernel

def s37_1 : State :=
  ((({ inMode .operational with recs := [(5, some ⟨7, [5], 1, true, none⟩)] }).setDesc 9 { descOf .txStatic .idle with shadow := some 5, current := some 6, bindIndex := 3, maxCells := 20 }).putBytes 320 [1]).setLane
    3 { BusLane.reset with ctl := .idle, ready := [4] }
def s37_2 : State :=
  { (inMode .operational).setDesc 103 { descOf .rxFifo .new with locked := true, current := some 6 } with
    fifos := [(1023, ⟨100, true, 4, 2, 3⟩)] }
def s37_3 : State := (inMode .operational).setDesc 65535 { descOf .rxMailbox .new with locked := true }
def s37_4 : State :=
  ((({ inMode .operational with recs := [(5, some ⟨7, [5], 1, true, none⟩)] }).setDesc 9 { descOf .txStatic .loaded with shadow := some 5, current := some 6, bindIndex := 3, maxCells := 20, overrun := 65535 }).putBytes 320 [1]).setLane
    3 { BusLane.reset with ctl := .idle, ready := [4] }
def s37_5 : State :=
  (inMode .operational).setDesc 9
    { descOf .rxMailbox .new with locked := true, shadow := some 5, current := some 6 }
def s37_6 : State := (inMode .operational).setDesc 65535 { descOf .rxFifo .seen with locked := true }

theorem witness_BufferOperations :
  (s37_1.open_ 16384 = true ∧ s37_1.mode.live = true ∧ 9 < 65536 ∧ (s37_1.desc 9).locked = false ∧
    (1024 ≤ 9 ∨ (s37_1.fifo 9).count = 0) ∧ (s37_1.desc 9).kind = DescKind.txStatic ∧
    (s37_1.desc 9).commitPending = false ∧ s37_1.commitOk (s37_1.desc 9) = true ∧
    (s37_1.desc 9).state ≠ DescState.loaded ∧ (s37_1.desc 9).state = DescState.idle ∧
    (s37_1.lane (s37_1.desc 9).bindIndex).ctl ≠ CtlState.quiet ∧
    s37_1.reconf ((s37_1.desc 9).bindIndex / 10) = false ∧ (s37_1.desc 9).kind ≠ DescKind.unused) ∧
  (s37_2.open_ 16384 = true ∧ s37_2.mode.live = true ∧ 1023 < 65536 ∧ 1023 < 1024 ∧ 0 < (s37_2.fifo 1023).count ∧
    0 < (s37_2.fifo 1023).depth) ∧
  (s37_3.open_ 16384 = true ∧ s37_3.mode.live = true ∧ 65535 < 65536 ∧
    (s37_3.desc 65535).kind = DescKind.rxMailbox ∧ (s37_3.desc 65535).locked = true ∧
    (s37_3.desc 65535).shadow = none) ∧
  (s37_4.open_ 16384 = true ∧ s37_4.mode.live = true ∧ 9 < 65536 ∧ (s37_4.desc 9).kind = DescKind.txStatic ∧
    (s37_4.desc 9).commitPending = false ∧ s37_4.commitOk (s37_4.desc 9) = true ∧
    (s37_4.desc 9).state = DescState.loaded ∧
    ((s37_4.desc 9).state = DescState.ready ∨ (s37_4.desc 9).state = DescState.loaded)) ∧
  (s37_5.open_ 16384 = true ∧ s37_5.mode.live = true ∧ 9 < 65536 ∧ (s37_5.desc 9).kind = DescKind.rxMailbox ∧
    (s37_5.desc 9).locked = true ∧ (s37_5.desc 9).shadow = some 5 ∧ (s37_5.desc 9).state = DescState.new) ∧
  (s37_6.open_ 16384 = true ∧ s37_6.mode.live = true ∧ 65535 < 65536 ∧ (s37_6.desc 65535).kind = DescKind.rxFifo ∧
    (s37_6.desc 65535).locked = true) := by
  and_intros <;> decide +kernel

def s38_1 : State :=
  { inMode .operational with
    transit := [transitOf 4 [deliveryTo 5 9 6]], recs := [(6, some ⟨7, [6], 1, false, none⟩)],
    descs := [(9, descOf .rxMailbox .empty)] }
def s38_2 : State :=
  { inMode .operational with
    transit := [transitOf 4 [deliveryTo 6 1023 6]], recs := [(6, some ⟨7, [6], 1, false, none⟩)],
    fifos := [(1023, ⟨100, true, 4, 2, 3⟩)], descs := [(101, descOf .rxFifo .empty)] }
def s38_3 : State :=
  { inMode .operational with
    transit := [transitOf 4 [deliveryTo 6 1 6]], held := [⟨deliveryTo 5 9 6, 2, true⟩],
    recs := [(6, some ⟨7, [6], 1, false, none⟩)], descs := [(9, descOf .rxMailbox .empty)] }
def s38_4 : State := { inMode .operational with transit := [{ transitOf 4 [deliveryTo 6 1023 6] with late := true }] }

theorem witness_Deliveries :
  (List.find? (fun t => t.id == 4) s38_1.transit = some (transitOf 4 [deliveryTo 5 9 6]) ∧
    (transitOf 4 [deliveryTo 5 9 6]).pending = [deliveryTo 5 9 6] ∧ (deliveryTo 5 9 6).held = false ∧
    (deliveryTo 5 9 6).deadline = 0 ∧
    s38_1.mustFollow (transitOf 4 [deliveryTo 5 9 6]) 0 (deliveryTo 5 9 6) = false ∧
    (deliveryTo 5 9 6).kind = dMailbox ∧ (s38_1.desc (deliveryTo 5 9 6).index).locked = false ∧
    (s38_1.desc (deliveryTo 5 9 6).index).state ≠ DescState.new ∧ (transitOf 4 [deliveryTo 5 9 6]).late = false) ∧
  (List.find? (fun t => t.id == 4) s38_2.transit = some (transitOf 4 [deliveryTo 6 1023 6]) ∧
    (transitOf 4 [deliveryTo 6 1023 6]).pending = [deliveryTo 6 1023 6] ∧ (deliveryTo 6 1023 6).held = false ∧
    (deliveryTo 6 1023 6).deadline = 0 ∧
    s38_2.mustFollow (transitOf 4 [deliveryTo 6 1023 6]) 0 (deliveryTo 6 1023 6) = false ∧
    (deliveryTo 6 1023 6).kind = dFifo ∧
    (s38_2.fifo (deliveryTo 6 1023 6).index).count ≠ (s38_2.fifo (deliveryTo 6 1023 6).index).depth) ∧
  (List.find? (fun t => t.id == 4) s38_3.transit = some (transitOf 4 [deliveryTo 6 1 6]) ∧
    s38_3.held = [{ delivery := deliveryTo 5 9 6, cluster := 2, ready := true : HeldFrame }] ∧
    s38_3.heldWaits 0 (deliveryTo 5 9 6) = false ∧ (deliveryTo 5 9 6).kind = dMailbox ∧
    (deliveryTo 5 9 6).deadline = 0 ∧ (s38_3.desc (deliveryTo 5 9 6).index).locked = false ∧
    (s38_3.desc (deliveryTo 5 9 6).index).state ≠ DescState.new) ∧
  (List.find? (fun t => t.id == 4) s38_4.transit = some
      ({ transitOf 4 [deliveryTo 6 1023 6] with late := true : Transit }) ∧
    ({ transitOf 4 [deliveryTo 6 1023 6] with late := true : Transit }).late = true) := by
  and_intros <;> decide +kernel

def s39_1 : State :=
  { inMode .operational with
    waits := [⟨3, 100, 4, 1, frame0 5 [1], [(deliveryTo 5 9 0, [])], none, none, 0, [], none, none, false, 0, 0, false⟩] }
def s39_2 : State := { inMode .operational with spareRows := [(31, 32)], retiredRows := [5] }
def s39_3 : State := inMode .operational

theorem witness_RowsAndWaitingRequests :
  (31 < 32 ∧ 511 < 512 ∧ s39_1.mode.unpowered = false ∧ s39_1.retiredRows.contains (31 * 512 + 511) = false ∧
    Tbl.get (fun _ => 0) s39_1.spareRows 31 < 32 ∧ (inMode Mode.off).mode.unpowered = true ∧
    List.find? (fun x => x.partner == 100) s39_1.waits = some
      { id := 3, partner := 100, port := 4, cells := 1, frame := frame0 5 [1], dests := [(deliveryTo 5 9 0, [])], hostQ := none, engine := none, addr := 0, kept := [], ctx := none, launch := none, stampReq := false, tag := 0, entered := 0, escalated := false : WaitReq }) ∧
  (31 < 32 ∧ 511 < 512 ∧ s39_2.mode.unpowered = false ∧ s39_2.retiredRows.contains (31 * 512 + 511) = false ∧
    32 ≤ Tbl.get (fun _ => 0) s39_2.spareRows 31 ∧
    ({ State.reset with retiredRows := [31 * 512 + 511] : State }).retiredRows.contains (31 * 512 + 511) = true) ∧
  (s39_3.heads 4 = [] ∧ List.find? (fun x => x.partner == 5) s39_3.waits = none) ∧
  (grants.heads 4 = [grantW] ∧ grantW.escalated = true ∧ grantW.ctx = none ∧ grantW.engine = none ∧
    grantW.hostQ = none ∧ granted.1 ≠ [] ∧ granted.2.launchFull (granted.1.map (·.1)) = none ∧ credited.2.1 = [] ∧
    (credited.2.2.tiers 100 (cellsFor grantW.frame credited.1)).isSome = true ∧ credited.2.2.transit.length < 4096 ∧
    cellsFor grantW.frame credited.1 ≤ credited.2.2.freeCells) := by
  and_intros <;> decide +kernel

def s40_1 : State :=
  { running .operational 3 0 [] with recs := [(5, none)], nodes := [(3, { NodeEnt.free with state := 1 })] }
def s40_2 : State :=
  { running .operational 18 63 [0] with health := { Health.fresh with pends := [(63, some ⟨3, 1⟩)] } }
def s40_3 : State :=
  { running .operational 18 63 [1] with health := { Health.fresh with pends := [(63, some ⟨3, 1⟩)] } }
def s40_4 : State :=
  (running .operational 13 39 []).setLane 39 { BusLane.reset with held := true, noPartner := true, ackRun := 7 }
def s40_5 : State :=
  (running .operational 14 39 [2]).setLane 39
    { BusLane.reset with slots := [{ slotOf 2 7 with parked := true, clashRun := 5 }] }
def s40_6 : State := withRegs [(0x4100, 0x0000FFFF)] (running .operational 19 0 [])
def s40_7 : State :=
  { running .operational 0 0 [] with
    host := { HostLink.reset with up := true, busMaster := true, perst := false },
    ctl := { ModeCtl.reset with mode := .operational, exec := some ⟨.host 64, 0, 0, 9, [], false⟩ } }
def s40_8 : State := running .operational 12 0 []
def s40_9 : State := running .operational 20 0 []
def s40_10 : State :=
  { withRegs [(0x108, 0x80000004), (0x10C, 3), (0x110, 15), (0x100, 0x40)] (inMode .operational) with
    host := { HostLink.reset with up := true, busMaster := true, perst := false } }
def s40_12 : State :=
  { withRegs [(0x108, 0x80000004), (0x10C, 3), (0x110, 15), (0x100, 0x40)] (running .operational 5 0 []) with
    host := { HostLink.reset with up := true, busMaster := true, perst := false } }

theorem witness_FetchAndUnitCommands :
  ((s40_1.rb 264 31 = false ∨ s40_1.hostCmdOpen = true ∨ s40_1.rf 272 0 8 = s40_1.rf 268 0 8 ∨ s40_1.hostOpen =
      false) ∧
    s40_1.ctl.exec = some { origin := CmdOrigin.yewirak, opcode := 3, target := 0, tag := 0, args := [] : Cmd } ∧
    s40_1.ctl.waiting = []) ∧
  (s40_2.ctl.exec = some { origin := CmdOrigin.yewirak, opcode := 18, target := 63, tag := 0, args := [0] : Cmd } ∧
    s40_2.ctl.waiting = [] ∧ 63 < 64 ∧ s40_2.pend 63 = some { unit := 3, cause := 1 : Report } ∧
    s40_2.reconf (unitCluster 3) = false ∧ s40_2.health.unrecorded = [] ∧ byteAt ([0]) 0 = 0) ∧
  (s40_3.ctl.exec = some { origin := CmdOrigin.yewirak, opcode := 18, target := 63, tag := 0, args := [1] : Cmd } ∧
    s40_3.ctl.waiting = [] ∧ 63 < 64 ∧ s40_3.pend 63 = some { unit := 3, cause := 1 : Report } ∧
    s40_3.reconf (unitCluster 3) = false ∧ s40_3.health.unrecorded = [] ∧ byteAt ([1]) 0 = 1) ∧
  (s40_4.ctl.exec = some { origin := CmdOrigin.yewirak, opcode := 13, target := 39, tag := 0, args := [] : Cmd } ∧
    s40_4.ctl.waiting = [] ∧ 39 < 40 ∧ s40_4.hasCluster (39 / 10) = true ∧ (s40_4.lane 39).retired = false ∧
    s40_4.reconf (39 / 10) = false ∧ (s40_4.lane 39).held = true) ∧
  (s40_5.ctl.exec = some { origin := CmdOrigin.yewirak, opcode := 14, target := 39, tag := 0, args := [2] : Cmd } ∧
    s40_5.ctl.waiting = [] ∧ 39 < 40 ∧ s40_5.hasCluster (39 / 10) = true ∧ (s40_5.lane 39).retired = false ∧
    s40_5.reconf (39 / 10) = false ∧
    (s40_5.lane 39).slots = [{ slotOf 2 7 with parked := true, clashRun := 5 : BusSlot }] ∧
    (slotOf 2 7).index = byteAt ([2]) 0 ∧
    ({ slotOf 2 7 with parked := true, clashRun := 5 : BusSlot }).parked = true) ∧
  (s40_6.ctl.exec = some { origin := CmdOrigin.yewirak, opcode := 19, target := 0, tag := 0, args := [] : Cmd } ∧
    s40_6.ctl.waiting = [] ∧ 4095 < 4096 ∧ 7 < 8) ∧
  (s40_7.ctl.exec = some { origin := CmdOrigin.host 64, opcode := 0, target := 0, tag := 9, args := [] : Cmd } ∧
    s40_7.ctl.waiting = [] ∧ (CmdOrigin.host 64) = CmdOrigin.host 64 ∧ s40_7.hostOpen = true) ∧
  (s40_8.ctl.exec = some { origin := CmdOrigin.yewirak, opcode := 12, target := 0, tag := 0, args := [] : Cmd } ∧
    s40_8.ctl.waiting = []) ∧
  (s40_9.ctl.exec = some { origin := CmdOrigin.yewirak, opcode := 20, target := 0, tag := 0, args := [] : Cmd } ∧
    s40_9.ctl.waiting = [] ∧ s40_9.calCell = false) ∧
  (s40_10.rb 264 31 = true ∧ queueServiced s40_10.mode = true ∧ s40_10.hostCmdOpen = false ∧
    s40_10.rf 272 0 8 ≠ s40_10.rf 268 0 8 ∧ s40_10.hostOpen = true ∧ s40_10.ctl.exec = none ∧
    badCommand (byteAt [0, 0, 0, 0, 7, 0, 0, 0] 0) [[0, 0, 0, 0, 7, 0, 0, 0].getD 1 0, [0, 0, 0, 0, 7, 0, 0, 0].getD
      27 0] (fitBytes 16 (List.drop 8 [0, 0, 0, 0, 7, 0, 0, 0])) = false ∧
    cmdAllowed (byteAt [0, 0, 0, 0, 7, 0, 0, 0] 0) s40_10.mode = true ∧
    (15 ≤ (byteAt [0, 0, 0, 0, 7, 0, 0, 0] 0) ∧ (byteAt [0, 0, 0, 0, 7, 0, 0, 0] 0) ≤ 17 → s40_10.fuse.optP = true)) ∧
  (s40_10.rb 264 31 = true ∧ queueServiced s40_10.mode = true ∧ s40_10.hostCmdOpen = false ∧
    s40_10.rf 272 0 8 ≠ s40_10.rf 268 0 8 ∧ s40_10.hostOpen = true ∧ s40_10.ctl.exec = none ∧
    badCommand (byteAt [0, 9, 0, 0, 7, 0, 0, 0] 0) [[0, 9, 0, 0, 7, 0, 0, 0].getD 1 0, [0, 9, 0, 0, 7, 0, 0, 0].getD
      27 0] (fitBytes 16 (List.drop 8 [0, 9, 0, 0, 7, 0, 0, 0])) = true) ∧
  (s40_12.rb 264 31 = true ∧ queueServiced s40_12.mode = true ∧ s40_12.hostCmdOpen = false ∧
    s40_12.rf 272 0 8 ≠ s40_12.rf 268 0 8 ∧ s40_12.hostOpen = true ∧ s40_12.ctl.exec ≠ none) := by
  and_intros <;> decide +kernel

def s41_1 : State :=
  { inMode .reconfiguring with
    struct := some (structOf 15 1000), loads := [(2, some ⟨2, false, .stage6, dupS, .none⟩)],
    ctl := { ModeCtl.reset with mode := .reconfiguring, reconfig := 4, exec := some ⟨.yewirak, 2, 2, 0, [], false⟩ } }
def s41_2 : State :=
  let r := running .unconfigured 1 0 (List.replicate 8 0 ++ [fullS.getD 36 0, fullS.getD 37 0, 0, 0])
  { r with host := { HostLink.reset with up := true, busMaster := true, perst := false } }
def s41_3 : State := { signer (inMode .configuring) with loads := [(4, some ⟨4, true, .validate, badS, .none⟩)] }
def s41_4 : State :=
  { inMode .configuring with
    loads := [(4, some ⟨4, true, .apply, fullS, .done⟩)], struct := some (structOf 1 1000),
    books := { Books.reset with loaderHold := 4 } }
def s41_5 : State :=
  let r := running .operational 2 2 (List.replicate 8 0 ++ [clusS.getD 36 0, clusS.getD 37 0, 0, 0])
  { r with
    struct := some (structOf 15 1000),
    host := { HostLink.reset with up := true, busMaster := true, perst := false } }
def s41_6 : State :=
  let r := running .unconfigured 1 0 []; { r with keeper := { r.keeper with lifecycle := .decommissioned } }
def s41_7 : State :=
  let r := running .operational 2 3 []; { r with keeper := { r.keeper with lifecycle := .decommissioned } }
def s41_8 : State :=
  { signer (inMode .reconfiguring) with
    struct := some (structOf 15 1000), loads := [(2, some ⟨2, false, .validate, clusS, .none⟩)] }
def s41_9 : State :=
  { signer (inMode .reconfiguring) with
    struct := some (structOf 15 1000), loads := [(2, some ⟨2, false, .stage6, clusS, .none⟩)],
    ctl := { ModeCtl.reset with mode := .reconfiguring, reconfig := 4, exec := some ⟨.yewirak, 2, 2, 0, [], false⟩ } }
def s41_10 : State :=
  { inMode .configuring with
    loads := [(4, some ⟨4, true, .apply, fullS, .waiting⟩)],
    keeper := { Keeper.reset with ops := [.autoload fullS] } }
def s41_11 : State :=
  let r :=
    { inMode .configuring with loads := [(4, some ⟨4, true, .apply, fullS, .waiting⟩)], keeper := { Keeper.reset with ops := [.autoload fullS] } }
  { r with power := { r.power with warn := true } }

theorem witness_LoaderCommands :
  (2 < 4 ∧
    s41_1.loads = [(2, some
      { target := 2, auto := false, phase := LoadPhase.stage6, stream := dupS, copy := CopyState.none : LoadJob })] ∧
    s41_1.ctl.exec = some { origin := CmdOrigin.yewirak, opcode := 2, target := 2, tag := 0, args := [] : Cmd } ∧
    s41_1.ctl.waiting = [] ∧ s41_1.mode = Mode.reconfiguring ∧ s41_1.ctl.reconfig = 2 ^ 2 ∧
    s41_1.stage6 2 dupS ≠ none ∧ s41_1.reconf 2 = true) ∧
  (s41_2.ctl.exec = some
      { origin := CmdOrigin.yewirak, opcode := 1, target := 0, tag := 0, args := List.replicate 8 0 ++ [fullS.getD 36 0, fullS.getD 37 0, 0, 0] : Cmd } ∧
    s41_2.load 4 = none ∧ s41_2.keeper.lifecycle ≠ Lifecycle.decommissioned ∧ s41_2.hostOpen = true ∧
    s41_2.mode = Mode.unconfigured ∧ (List.take 64 fullS).length = 64 ∧
    (List.drop 64 fullS).length =
      { origin := CmdOrigin.yewirak, opcode := 1, target := 0, tag := 0, args := List.replicate 8 0 ++ [fullS.getD 36 0, fullS.getD 37 0, 0, 0] : Cmd }.loadLen
      - 64 ∧
    headerCode true
      { origin := CmdOrigin.yewirak, opcode := 1, target := 0, tag := 0, args := List.replicate 8 0 ++ [fullS.getD 36 0, fullS.getD 37 0, 0, 0] : Cmd }.loadLen
      (List.take 64 fullS) = none ∧ s41_2.reconf 0 = false) ∧
  (s41_3.load 4 = some
      { target := 4, auto := true, phase := LoadPhase.validate, stream := badS, copy := CopyState.none : LoadJob } ∧
    s41_3.mode = Mode.configuring ∧
    (s41_3.keeper.signs (byteAt badS 30) 2 = false ∨ s41_3.stages2to5 4 badS ≠ none ∨ s41_3.stage6 4 badS ≠ none)) ∧
  (s41_4.load 4 = some
      { target := 4, auto := true, phase := LoadPhase.apply, stream := fullS, copy := CopyState.done : LoadJob } ∧
    (CopyState.done = CopyState.none ∨ CopyState.done = CopyState.done) ∧
    (∀ q < 64, (s41_4.spar q).queued = false) ∧ s41_4.mode = Mode.configuring) ∧
  (s41_5.ctl.exec = some
      { origin := CmdOrigin.yewirak, opcode := 2, target := 2, tag := 0, args := List.replicate 8 0 ++ [clusS.getD 36 0, clusS.getD 37 0, 0, 0] : Cmd } ∧
    s41_5.load 2 = none ∧ s41_5.keeper.lifecycle ≠ Lifecycle.decommissioned ∧ s41_5.hasCluster 2 = true ∧
    s41_5.reconf 2 = false ∧ s41_5.hostOpen = true ∧ (List.take 64 clusS).length = 64 ∧
    (List.drop 64 clusS).length =
      { origin := CmdOrigin.yewirak, opcode := 2, target := 2, tag := 0, args := List.replicate 8 0 ++ [clusS.getD 36 0, clusS.getD 37 0, 0, 0] : Cmd }.loadLen
      - 64 ∧
    headerCode false
      { origin := CmdOrigin.yewirak, opcode := 2, target := 2, tag := 0, args := List.replicate 8 0 ++ [clusS.getD 36 0, clusS.getD 37 0, 0, 0] : Cmd }.loadLen
      (List.take 64 clusS) = none) ∧
  (s41_6.ctl.exec = some { origin := CmdOrigin.yewirak, opcode := 1, target := 0, tag := 0, args := [] : Cmd } ∧
    s41_6.ctl.waiting = [] ∧ s41_6.keeper.lifecycle = Lifecycle.decommissioned ∧ s41_6.load 4 = none ∧
    s41_6.load 0 = none) ∧
  (s41_7.ctl.exec = some { origin := CmdOrigin.yewirak, opcode := 2, target := 3, tag := 0, args := [] : Cmd } ∧
    s41_7.ctl.waiting = [] ∧ s41_7.keeper.lifecycle = Lifecycle.decommissioned ∧ s41_7.load 4 = none ∧
    s41_7.load 3 = none) ∧
  (2 < 4 ∧
    s41_8.load 2 = some
      { target := 2, auto := false, phase := LoadPhase.validate, stream := clusS, copy := CopyState.none : LoadJob } ∧
    s41_8.stages2to5 2 clusS = none) ∧
  (2 < 4 ∧
    s41_9.loads = [(2, some
      { target := 2, auto := false, phase := LoadPhase.stage6, stream := clusS, copy := CopyState.none : LoadJob })] ∧
    s41_9.ctl.exec = some { origin := CmdOrigin.yewirak, opcode := 2, target := 2, tag := 0, args := [] : Cmd } ∧
    s41_9.ctl.waiting = [] ∧ s41_9.mode = Mode.reconfiguring ∧ s41_9.ctl.reconfig = 2 ^ 2 ∧
    s41_9.stage6 2 clusS = none) ∧
  (s41_10.load 4 = some
      { target := 4, auto := true, phase := LoadPhase.apply, stream := fullS, copy := CopyState.waiting : LoadJob } ∧
    s41_10.keeper.ops = [KOp.autoload fullS] ∧ s41_10.power.warn = false) ∧
  (s41_11.load 4 = some
      { target := 4, auto := true, phase := LoadPhase.apply, stream := fullS, copy := CopyState.waiting : LoadJob } ∧
    s41_11.keeper.ops = [KOp.autoload fullS] ∧ s41_11.power.warn = true ∧ s41_11.keeper.running = false) := by
  and_intros <;> decide +kernel

def s42_1 : State := inMode .bringUp
def s42_2 : State := { inMode .operational with beacon := { Beacon.reset with running := true } }
def s42_4 : State :=
  withRegs [(0x48C, 0x00640064)]
    { inMode .operational with beacon := { Beacon.reset with running := true }, health := { Health.fresh with tempSeen := true } }
def s42_5 : State :=
  { inMode .faultHold with
    ctl := { ModeCtl.reset with mode := .faultHold, hold := .overtemp, causePresent := true } }

theorem witness_BringUpAndMonitors :
  (s42_1.mode = Mode.bringUp ∧ s42_1.boots s42_1.keeper.fwA true = true ∧ s42_1.keeper.activeB = false ∧
    s42_1.ctl.exec = none ∧ s42_1.ctl.waiting = [] ∧ s42_1.keeper.autoload = none ∧ 140 ≤ 65535 ∧ 65535 < 65536 ∧
    0 < 10000 ∧ 0 < 3 ∧ s42_1.mode.unpowered = false ∧ s42_1.mode ≠ Mode.faultHold ∧ -32768 ≤ 0 ∧ 0 < 2240) ∧
  (s42_2.mode ≠ Mode.bringUp ∧ s42_2.mode.unpowered = false ∧ s42_2.mode ≠ Mode.faultHold ∧ 2240 ≤ 2240 ∧
    2240 ≤ 32767 ∧ s42_2.hasCluster 3 = true ∧ s42_2.mode ≠ Mode.sleep ∧ s42_2.beacon.running = true ∧ 4095 < 4096) ∧
  (s42_1.mode = Mode.bringUp ∧ s42_1.boots s42_1.keeper.fwA false = false ∧
    s42_1.boots s42_1.keeper.fwB false = false) ∧
  (s42_4.hasCluster 3 = true ∧ s42_4.mode.unpowered = false ∧ s42_4.mode ≠ Mode.sleep ∧
    s42_4.beacon.running = true ∧ 99 < 4096 ∧ 99 < s42_4.rf (1152 + 4 * 3) 16 12 ∧
    s42_4.rf (1152 + 4 * 3) 16 12 ≤ s42_4.rf (1152 + 4 * 3) 0 12 ∧ s42_4.health.rateTold.contains 3 = false) ∧
  (s42_5.mode = Mode.faultHold ∧ s42_5.ctl.hold = HoldCause.overtemp ∧ -32768 ≤ 2079 ∧ 2079 < 2080) := by
  and_intros <;> decide +kernel

def s43_1 : State := powered .operational { die .on with warn := true, retries := 4 }
def s43_2 : State := withRegs [(0x70, 4)] (powered .off { die .off with feedA := false, feedB := false })
def s43_3 : State := powered .inrush { die .inrush with storeFull := false }
def s43_4 : State := powered .operational { die .on with feedB := false, retries := 3 }
def s43_5 : State := powered .faultHold { die .on with feedA := false, feedB := false }
def s43_6 : State := powered .operational { die .on with retries := 5, modPg := true }
def s43_7 : State := powered .operational { die .on with condA := true, condB := true }
def s43_8 : State := powered .seating (die .off)
def s43_9 : State := powered .off { die .latched with retries := 5 }
def s43_10 : State := powered .operational { die .retryOff with retries := 5 }
def s43_11 : State := powered .operational (die .inrush)
def s43_12 : State := powered .operational (die .limit)
def s43_13 : State := powered .seating { die .latched with retries := 4 }

theorem witness_FeedsSeatingAndInputSwitch :
  (s43_1.power.sw ≠ SwState.inrush ∧ s43_1.power.sw = SwState.on ∧ s43_1.power.sw ≠ SwState.limit ∧
    (Instr.inputShort 70000 = Instr.inrushTimeout 70000 ∧ s43_1.power.sw = SwState.inrush ∨ Instr.inputShort 70000 =
      Instr.inputFaultTimer 70000 ∧ s43_1.power.sw = SwState.limit ∨ Instr.inputShort 70000 = Instr.inputShort 70000
      ∧ (s43_1.power.sw = SwState.inrush ∨ s43_1.power.sw = SwState.on ∨ s43_1.power.sw = SwState.limit)) ∧
    s43_1.power.storeFull = true ∧ s43_1.mode.unpowered = false ∧ s43_1.power.retries < 5 ∧
    s43_1.power.sw ≠ SwState.retryOff ∧ s43_1.power.modPg = false ∧ s43_1.mode ≠ Mode.faultHold ∧
    s43_1.feedCounts = true ∧ s43_1.mode ≠ Mode.off ∧ s43_1.power.feedB = true ∧ 2 ≤ 9 ∧ s43_1.power.feedA = true ∧
    24000 ≤ 30000 ∧ s43_1.power.pinB = true ∧ s43_1.power.warn = true ∧ s43_1.mode ≠ Mode.sleep ∧ s43_1.spars = [] ∧
    (s43_1.mode ≠ Mode.seating ∨ s43_1.power.seatA = false ∨ s43_1.power.seatB = false) ∧
    s43_1.mode ≠ Mode.seating ∧ s43_1.power.seatB = true ∧ s43_1.ctl.waiting = [] ∧
    (s43_1.power.feedA = true ∨ s43_1.power.feedB = true)) ∧
  (s43_2.power.sw ≠ SwState.on ∧
    (s43_2.power.sw = SwState.retryOff ∨ s43_2.mode = Mode.off ∨ s43_2.mode = Mode.seating) ∧
    s43_2.mode ≠ Mode.faultHold ∧ s43_2.power.feedA = false ∧ s43_2.mode = Mode.off ∧ s43_2.power.sw = SwState.off ∧
    s43_2.ctl.waiting = [] ∧ s43_2.power.warn = false ∧
    (s43_2.mode = Mode.off ∧ (s43_2.power.sw ≠ SwState.latched ∨ s43_2.power.feedA = false ∧ s43_2.power.feedB =
      false) ∨ s43_2.mode = Mode.seating) ∧ s43_2.power.seatA = true ∧ s43_2.power.feedB = false ∧
    s43_2.ctl.hold = HoldCause.none) ∧
  (s43_3.power.sw = SwState.inrush ∧ s43_3.mode = Mode.inrush ∧ s43_3.ctl.exec = none ∧ s43_3.ctl.waiting = [] ∧
    s43_3.power.storeFull = false ∧ s43_3.power.retries < 5 ∧ (s43_3.power.pinA = true ∨ s43_3.power.pinB = true)) ∧
  (s43_4.power.feedA = true ∧ s43_4.power.feedB = false ∧ 10000 ≤ 30000 ∧ s43_4.power.sw = SwState.on ∧
    10000 ≤ 10000 ∧ s43_4.power.storeFull = true ∧ s43_4.power.warn = false ∧ s43_4.mode.unpowered = false ∧
    s43_4.spars = []) ∧
  (s43_5.power.feedA = false ∧ s43_5.mode ≠ Mode.off ∧ s43_5.power.feedB = false ∧ s43_5.power.sw = SwState.on ∧
    (s43_5.power.pinA = true ∨ s43_5.power.pinB = true)) ∧
  ((Instr.inputShort 70000 = Instr.inrushTimeout 70000 ∧ s43_6.power.sw = SwState.inrush ∨ Instr.inputShort 70000 =
      Instr.inputFaultTimer 70000 ∧ s43_6.power.sw = SwState.limit ∨ Instr.inputShort 70000 = Instr.inputShort 70000
      ∧ (s43_6.power.sw = SwState.inrush ∨ s43_6.power.sw = SwState.on ∨ s43_6.power.sw = SwState.limit)) ∧
    s43_6.power.storeFull = true ∧ s43_6.mode.unpowered = false ∧ 5 ≤ s43_6.power.retries ∧
    s43_6.power.modPg = true) ∧
  (s43_7.power.condA = true ∧ s43_7.power.condB = true) ∧
  (s43_8.mode = Mode.seating ∧ s43_8.power.seatA = true ∧ s43_8.power.seatB = true ∧ s43_8.power.sw = SwState.off) ∧
  (s43_9.mode = Mode.off ∧ s43_9.power.sw = SwState.latched ∧ s43_9.power.feedA = true ∧ s43_9.power.seatA = true ∧
    s43_9.ctl.waiting = []) ∧
  (s43_10.power.sw = SwState.retryOff ∧ s43_10.mode ≠ Mode.off ∧ s43_10.mode ≠ Mode.seating) ∧
  (s43_11.power.sw = SwState.inrush ∧ s43_11.mode ≠ Mode.inrush) ∧
  (s43_12.power.sw = SwState.limit) ∧
  (s43_13.mode = Mode.seating ∧ s43_13.power.seatA = true ∧ s43_13.power.seatB = true ∧
    s43_13.power.sw ≠ SwState.off) := by
  and_intros <;> decide +kernel

def s44_1 : State := hosted .sleep { hostUp with l1 := true, wakePin := true }
def s44_2 : State := inMode .operational
def s44_3 : State := hosted .operational { hostUp with l1 := true }
def s44_4 : State :=
  { hosted .standby hostUp with
    ctl := { ModeCtl.reset with mode := .standby, exec := some ⟨.yewirak, 6, 0, 0, [], false⟩ } }
def s44_5 : State :=
  { hosted .operational { hostUp with pmeEn := true } with
    hold := [(0, ⟨1, 2, 3, 4, 5⟩)], eqs := [(0, { EventQ.reset with reserved := 1 })],
    hostQs := [(63, { HostQ.reset with enable := true, depth := 16, head := 2 })] }
def s44_6 : State := hosted .off { hostUp with wakePin := true }

theorem witness_HostFunction :
  (s44_1.host.up = true ∧ s44_1.host.l1 = true ∧ s44_1.hold = [] ∧ s44_1.host.wakePin = true ∧
    s44_1.mode = Mode.sleep ∧ s44_1.mode ≠ Mode.off ∧ s44_1.host.perst = false) ∧
  (s44_2.host.up = false ∧ s44_2.host.l1 = false ∧ s44_2.mode ≠ Mode.sleep ∧ s44_2.executing 6 = none ∧
    s44_2.host.wakePin = false ∧ (s44_2.mode = Mode.off ∨ s44_2.host.perst = true)) ∧
  (s44_3.host.l1 = true ∧ s44_3.hold = [] ∧ s44_3.host.wakePin = false) ∧
  (s44_4.mode ≠ Mode.sleep ∧ s44_4.executing 6 ≠ none) ∧
  (s44_5.hold ≠ [] ∧ s44_5.mode ≠ Mode.sleep ∧ s44_5.host.l1 = false ∧ s44_5.host.pmeEn = true) ∧
  (s44_6.mode = Mode.off) := by
  and_intros <;> decide +kernel

def s45_1 : State :=
  withRegs [(0x16008 + 0x20 * 5, 0x84010000)]
    { hosted .operational { hostUp with busMaster := false } with hold := [(5, ⟨1, 2, 3, 4, 5⟩)], eqs := [(5, { EventQ.reset with reserved := 1, armed := true, tail := 15, phase := true })] }
def s45_2 : State :=
  { hosted .operational { hostUp with msix := [] } with
    eqs := [(5, { EventQ.reset with armed := true, timer := true })] }
def s45_3 : State :=
  { hosted .operational { hostUp with msix := [(5, ⟨0, 0, false, false⟩), (63, ⟨1, 1, true, true⟩)] } with
    eqs := [(5, { EventQ.reset with armed := true, timer := true })] }

theorem witness_MessagesAndRecords :
  (((s45_1.eq 5).armed = false ∨ (s45_1.eq 5).timer = false) ∧ s45_1.mode ≠ Mode.off ∧ 63 < 64 ∧
    s45_1.hold = [(5, { stamp := 1, info := 2, unit := 3, code := 4, block := 5 : EvRec })] ∧ s45_1.hostQs = [] ∧
    s45_1.host.d3hot = false ∧ s45_1.host.up = true ∧ s45_1.host.l1 = false ∧ s45_1.mode ≠ Mode.sleep ∧
    s45_1.open_ 58368 = true ∧ bit 1 0 = true) ∧
  ((s45_2.eq 5).armed = true ∧ (s45_2.eq 5).timer = true ∧ s45_2.host.l1 = false ∧ (s45_2.msix 5).masked = true ∧
    s45_2.hold = [] ∧ s45_2.hostQs = [] ∧ s45_2.host.d3hot = false ∧ s45_2.open_ 58368 = true ∧ bit 0 0 = false) ∧
  ((s45_3.eq 5).armed = true ∧ (s45_3.eq 5).timer = true ∧ s45_3.host.l1 = false ∧ (s45_3.msix 5).masked = false ∧
    s45_3.host.fnMask = false ∧ s45_3.mode ≠ Mode.off ∧ 63 < 64 ∧ (s45_3.msix 63).pending = true) := by
  and_intros <;> decide +kernel

def s46_1 : State :=
  { hosted .operational hostUp with hostQs := [(63, { HostQ.reset with enable := true, depth := 16, head := 15 })] }
def s46_2 : State := { inMode .operational with irq := [(33, ⟨true, true, true, 3, false, 1, true, 2, 255⟩)] }
def s46_3 : State :=
  { hosted .operational hostUp with hostQs := [(63, { HostQ.reset with depth := 16, head := 15, tail := 3 })] }
def s46_4 : State :=
  withRegs [(0x16008 + 0x20 * 63, 0x84010000)]
    { hosted .operational hostUp with eqs := [(63, { EventQ.reset with tail := 9 })] }
def s46_5 : State :=
  withRegs [(0x18008 + 0x40 * 63, 0xC0000005)]
    { hosted .operational hostUp with hostQs := [(63, { HostQ.reset with enable := true, depth := 16, head := 15, tail := 15 })] }
def s46_6 : State :=
  { hosted .operational hostUp with
    hostQs := [(63, { HostQ.reset with stopping := true, depth := 16, head := 15, tail := 15 })] }
def s46_7 : State :=
  { hosted .operational hostUp with
    hostQs := [(63, { HostQ.reset with enable := true, depth := 16, head := 15, flight := [⟨4095, .reserved, [], 0, 0⟩] })] }
def s46_8 : State := txState

theorem witness_InterruptAndHostQueues :
  (1 < 32 ∧ s46_1.open_ (57348 + 16 * 1) = true ∧ 3 < 1024 ∧ s46_1.open_ (81920 + 4 * 3) = true ∧
    (bit 9 15 = true → s46_1.hasCluster (fld 9 8 5 / 8) = true) ∧
    (isEventSrc 3 = true → bit 9 30 = true ∧ fld 9 0 8 = 255) ∧ (fld 9 0 8 < 64 ∨ fld 9 0 8 = 255) ∧ 63 < 64 ∧
    s46_1.open_ (98316 + 64 * 63) = true ∧ fld 9 0 12 < (s46_1.hostQ 63).depth ∧ (s46_1.hostQ 63).enable = true ∧
    s46_1.hostQRx 63 = false ∧ s46_1.hostOpen = true ∧
    ((s46_1.hostQ 63).head + (s46_1.hostQ 63).flight.length) % (s46_1.hostQ 63).depth ≠ (s46_1.hostQ 63).tail ∧
    (s46_1.hostQ 63).inFlight < 256 ∧ ([1] ++ List.replicate 31 0).length = 32 ∧
    txDescOk ([1] ++ List.replicate 31 0) = false ∧ (s46_1.hostQ 63).flight = [] ∧
    nbit (byteAt ([1] ++ List.replicate 31 0) 25) 3 = false ∧ (s46_1.hostQ 63).slot 3 = none ∧
    (s46_1.hostQ 63).stopping = false) ∧
  (63 < 64 ∧ s46_2.open_ (90120 + 32 * 63) = true ∧ s46_2.eqEnabled 63 = false ∧ bit 2214691327 31 = true ∧
    4 ≤ fld 2214691327 24 4 ∧ fld 2214691327 24 4 ≤ 12 ∧ fld 2214691327 16 8 ≠ 0 ∧ (s46_2.hostQ 63).enable = false) ∧
  (63 < 64 ∧ s46_3.open_ (98312 + 64 * 63) = true ∧ (s46_3.hostQ 63).enable = false ∧
    (s46_3.hostQ 63).stopping = false ∧ (s46_3.hostQ 63).depth ≠ 0 ∧ bit 3221225477 31 = true ∧
    bit 3221225477 29 = false) ∧
  (63 < 64 ∧ s46_4.open_ (90124 + 32 * 63) = true ∧ s46_4.host.l1 = false ∧ fld 9 0 12 = (s46_4.eq 63).tail ∧
    (s46_4.eq 63).tail < s46_4.eqSize 63) ∧
  (63 < 64 ∧ s46_5.open_ (98312 + 64 * 63) = true ∧ (s46_5.hostQ 63).enable = true ∧ (s46_5.hostQ 63).flight = [] ∧
    bit 1073741829 31 = false ∧ fld 1073741829 29 2 = fld (s46_5.rd (98312 + 64 * 63)) 29 2 ∧
    fld 1073741829 0 12 = fld (s46_5.rd (98312 + 64 * 63)) 0 12 ∧ bit 1073741829 29 = false ∧ s46_5.waits = []) ∧
  ((s46_6.hostQ 63).stopping = true ∧ (s46_6.hostQ 63).inFlight = 0) ∧
  ((s46_7.hostQ 63).slot 4095 = some
      { index := 4095, phase := SlotPhase.reserved, raw := [], status := 0, written := 0 : HostSlot } ∧
    s46_7.hostOpen = true ∧ (List.replicate 8 0 ++ [64, 0] ++ List.replicate 22 0).length = 32 ∧
    rxDescOk (List.replicate 8 0 ++ [64, 0] ++ List.replicate 22 0) = true) ∧
  ((s46_8.hostQ 63).enable = true ∧ s46_8.hostQRx 63 = false ∧ s46_8.hostOpen = true ∧
    ((s46_8.hostQ 63).head + (s46_8.hostQ 63).flight.length) % (s46_8.hostQ 63).depth ≠ (s46_8.hostQ 63).tail ∧
    (s46_8.hostQ 63).inFlight < 256 ∧ txDesc.length = 32 ∧ txDescOk txDesc = true ∧ imageOk txImage = true ∧
    nbit (byteAt txDesc 25) 2 = false ∧
    State.waitingSet [(s46_8.hostRequest 63 (((s46_8.hostQ 63).head + (s46_8.hostQ 63).flight.length) % (s46_8.hostQ
      63).depth) txDesc txImage).frame.route] (s46_8.hostRequest 63 (((s46_8.hostQ 63).head + (s46_8.hostQ
      63).flight.length) % (s46_8.hostQ 63).depth) txDesc txImage).frame (s46_8.hostRequest 63 (((s46_8.hostQ
      63).head + (s46_8.hostQ 63).flight.length) % (s46_8.hostQ 63).depth) txDesc txImage).launch (s46_8.hostRequest
      63 (((s46_8.hostQ 63).head + (s46_8.hostQ 63).flight.length) % (s46_8.hostQ 63).depth) txDesc
      txImage).stampReq (s46_8.hostRequest 63 (((s46_8.hostQ 63).head + (s46_8.hostQ 63).flight.length) %
      (s46_8.hostQ 63).depth) txDesc txImage).tag (s46_8.hostRequest 63 (((s46_8.hostQ 63).head + (s46_8.hostQ
      63).flight.length) % (s46_8.hostQ 63).depth) txDesc txImage).entered (State.addWait (s46_8.hostRequest 63
      (((s46_8.hostQ 63).head + (s46_8.hostQ 63).flight.length) % (s46_8.hostQ 63).depth) txDesc txImage)
      (State.setHostQ 63
      { enable := (s46_8.hostQ 63).enable, stopping := (s46_8.hostQ 63).stopping, fault := (s46_8.hostQ 63).fault, depth := (s46_8.hostQ 63).depth, head := (s46_8.hostQ 63).head, tail := (s46_8.hostQ 63).tail, seq := (s46_8.hostQ 63).seq, flight := (s46_8.hostQ 63).flight ++ [{ index := ((s46_8.hostQ 63).head + (s46_8.hostQ 63).flight.length) % (s46_8.hostQ 63).depth, phase := SlotPhase.fetched, raw := txDesc, status := 0, written := 0 : HostSlot }] : HostQ }
      s46_8)) = ((subOk, txSet.1.2), txSet.2)) := by
  and_intros <;> decide +kernel

def s47_1 : State :=
  withRegs [(macBase 23 + 0x28, 0x80000000), (macBase 23, 0x0D000000)]
    (withPort 23 { linked with verifyTries := 2, pauses := [(7, ⟨some 3, false⟩)] })
def s47_2 : State :=
  withRegs [(macBase 23 + 0x28, 0xC0000000)]
    (withMode .test (withMode .test (withPort 23 { Port.reset with verifyTries := 2 })))
def s47_3 : State :=
  withRegs [(macBase 23, 0x08000000), (macBase 23 + 0x14, 16)]
    (withPort 23 { linked with lpiTx := true, lpiRx := true, tx := some ⟨.queued, ethEntry 0 [], false, 0⟩, pauses := [(7, ⟨some 3, true⟩)] })
def s47_4 : State := withMode .standby (withRegs [(macBase 23, 0x0A000000)] (withPort 23 linked))
def s47_5 : State := withRegs [(macBase 23 + 0x28, 0x80000000)] (withPort 23 linked)
def s47_6 : State :=
  withRegs [(macBase 23, 0x0A000000)]
    (withPort 23 { linked with xoffSent := true, tx := some ⟨.queued, ethEntry 0 [], false, 0⟩, pauses := [(6, ⟨some 3, true⟩)] })

theorem witness_LinksAndPauses :
  ((s47_1.ethUsable 23 = false ∨ (s47_1.port 23).link = true ∨ false = false) ∧ (s47_1.port 23).link = true ∧
    (s47_1.port 23).queues = [] ∧ (s47_1.port 23).launches = [] ∧ (s47_1.port 23).tx = none ∧
    (s47_1.port 23).suspended = none ∧ s47_1.isSource 23 = false ∧ bit (s47_1.rd (macBase 23 + 40)) 31 = true ∧
    bit (s47_1.rd (macBase 23 + 40)) 30 = false ∧ (s47_1.port 23).preempt = false ∧
    (s47_1.port 23).verifyFailed = false ∧ 2 ≤ (s47_1.port 23).verifyTries ∧ s47_1.rb (macBase 23) 24 = true ∧
    (s47_1.port 23).silent = true ∧ (s47_1.port 23).lpiTx = false ∧ 7 < 8 ∧ s47_1.ethOffLine = false ∧
    (s47_1.rb (macBase 23) 26 = true ∨ s47_1.rb (macBase 23) 27 = false) ∧ s47_1.rb (macBase 23) 26 = true ∧
    ((s47_1.port 23).xoffSent = false ∨ s47_1.rb (macBase 23) 25 = false)) ∧
  (s47_2.ethUsable 23 = true ∧ (s47_2.port 23).link = false ∧
    ((s47_2.port 23).link = false ∨ bit (s47_2.rd (macBase 23 + 40)) 31 = false) ∧ 7 < 8) ∧
  ((s47_3.port 23).link = true ∧ (s47_3.rb (macBase 23) 24 = false ∨ (s47_3.port 23).silent = false) ∧
    (s47_3.port 23).lpiTx = true ∧ 7 < 8 ∧ s47_3.ethOffLine = false ∧ s47_3.rb (macBase 23) 26 = false ∧
    s47_3.rb (macBase 23) 27 = true ∧ (s47_3.port 23).preempt = false) ∧
  (7 < 8 ∧ (s47_4.port 23).link = true ∧ s47_4.ethOffLine = true) ∧
  ((s47_5.port 23).link = true ∧ bit (s47_5.rd (macBase 23 + 40)) 31 = true ∧
    bit (s47_5.rd (macBase 23 + 40)) 30 = false ∧ (s47_5.port 23).preempt = false ∧
    (s47_5.port 23).verifyFailed = false ∧ (s47_5.port 23).verifyTries < 2) ∧
  (7 < 8 ∧ (s47_6.port 23).xoffSent = true ∧ s47_6.rb (macBase 23) 25 = true) := by
  and_intros <;> decide +kernel

def s48_1 : State :=
  { withPort 23 { linked with admin := some ⟨[(3, 500)], 5000, 1000, 7⟩ } with
    beacon := { Beacon.reset with running := true, raw := 5000 * 65536 } }
def s48_2 : State := withPort 23 linked
def s48_3 : State :=
  { withPort 23 { linked with admin := some ⟨[(3, 500)], 5001, 1000, 7⟩ } with
    beacon := { Beacon.reset with running := true, raw := 5000 * 65536 } }

theorem witness_Gates :
  (23 < 24 ∧ s48_1.open_ (macBase 23 + 64) = true ∧ bit 536870914 29 = true ∧ bit 536870914 30 = false ∧
    1 ≤ fld 536870914 0 8 ∧ fld 536870914 0 8 ≤ 128 ∧
    (s48_1.port 23).admin = some { entries := [(3, 500)], base := 5000, cycle := 1000, ext := 7 : GateList } ∧
    5000 ≤ s48_1.ns ∧ (s48_1.port 23).queues = [] ∧ (s48_1.port 23).ptp = none) ∧
  (23 < 24 ∧ (s48_2.port 23).admin = none) ∧
  (23 < 24 ∧
    (s48_3.port 23).admin = some { entries := [(3, 500)], base := 5001, cycle := 1000, ext := 7 : GateList } ∧
    s48_3.ns < 5001) := by
  and_intros <;> decide +kernel

def s49_1 : State := withPort 23 { linked with launches := [{ ethEntry 3 [1,2] with launch := some 0 }] }
def s49_2 : State :=
  { withPort 23 { linked with tx := some ⟨.queued, ethEntry 3 [1,2], false, 0⟩ } with
    beacon := { Beacon.reset with running := true, raw := 5000 * 65536 } }
def s49_3 : State :=
  withRegs [(macBase 23, 0x0C600000), (macBase 23 + 0x20, 0x0055FFFF)]
    (withPort 23 { linked with ctrl := [true, false] })
def s49_4 : State := withPort 23 { linked with tx := some ⟨.control true 5 7, ctrlEntry, false, 0⟩ }
def s49_5 : State := withPort 23 Port.reset
def s49_6 : State := withRegs [(macBase 23, 0x08600000)] (withPort 23 linked)
def s49_8 : State := withRegs [(macBase 23, 0x08600000), (0x8400 + 0x40 * 23, 0x80000000)] (withPort 23 linked)
def s49_9 : State := withMode .standby (withRegs [(macBase 23, 0x08600000)] (withPort 23 linked))
def s49_10 : State := withPort 23 linked

theorem witness_PortFrames :
  ((s49_1.port 23).link = true ∧ s49_1.ethOffLine = false ∧
    (List.replicate 60 0).length + 4 ≤ s49_1.rf (macBase 23) 12 12 ∧ 60 ≤ (List.replicate 60 0).length ∧
    s49_1.txReady 23 = true ∧ (s49_1.port 23).launches = [{ ethEntry 3 [1, 2] with launch := some 0 : EthEntry }] ∧
    (s49_1.port 23).tx = none ∧ ({ ethEntry 3 [1, 2] with launch := some 0 : EthEntry }).launch = some s49_1.time ∧
    (ethEntry 3 [1, 2]).late = false ∧ ((s49_1.port 23).pause (ethEntry 3 [1, 2]).cls).inForce = false ∧
    (ethEntry 3 [1, 2]).acf = none) ∧
  ((s49_2.port 23).tx = some
      { kind := TxKind.queued, entry := ethEntry 3 [1, 2], preemptable := false, cuts := 0 : EthTx } ∧
    (ethEntry 3 [1, 2]).record = none ∧ (ethEntry 3 [1, 2]).stampReq = true ∧ (s49_2.bport 23).tsq.length < 64) ∧
  (s49_3.txReady 23 = true ∧ s49_3.ethOffLine = false ∧ (s49_3.port 23).launches = [] ∧ (s49_3.port 23).tx = none ∧
    (s49_3.port 23).ctrl = [true, false]) ∧
  ((s49_4.port 23).tx = some
      { kind := TxKind.control true 5 7, entry := ctrlEntry, preemptable := false, cuts := 0 : EthTx } ∧
    (TxKind.control true 5 7) = TxKind.control true 5 7) ∧
  ((s49_5.port 23).link = false ∧
    ((s49_5.port 23).link = false ∨ (s49_5.port 23).retired = true ∨ (s49_5.port 23).lpiTx = true ∨ s49_5.beacon.raw
      < (s49_5.port 23).wakeUntil)) ∧
  ((s49_6.port 23).link = true ∧ s49_6.ethOffLine = false ∧
    s49_6.rf (macBase 23) 12 12 < (List.replicate 2000 0).length + 4) ∧
  ((s49_6.port 23).link = true ∧ s49_6.ethOffLine = false ∧
    (List.replicate 6 0 ++ List.replicate 6 1 ++ [136, 8, 0, 1, 0, 5] ++ List.replicate 42 0).length + 4 ≤ s49_6.rf
      (macBase 23) 12 12 ∧
    60 ≤ (List.replicate 6 0 ++ List.replicate 6 1 ++ [136, 8, 0, 1, 0, 5] ++ List.replicate 42 0).length ∧
    beAt (List.replicate 6 0 ++ List.replicate 6 1 ++ [136, 8, 0, 1, 0, 5] ++ List.replicate 42 0) 12 2 = 34824 ∧
    beAt (List.replicate 6 0 ++ List.replicate 6 1 ++ [136, 8, 0, 1, 0, 5] ++ List.replicate 42 0) 14 2 = 1) ∧
  ((s49_8.port 23).link = true ∧ s49_8.ethOffLine = false ∧
    ([1, 128, 194, 0, 0, 14] ++ List.replicate 6 1 ++ [136, 247] ++ List.replicate 46 0).length + 4 ≤ s49_8.rf
      (macBase 23) 12 12 ∧
    60 ≤ ([1, 128, 194, 0, 0, 14] ++ List.replicate 6 1 ++ [136, 247] ++ List.replicate 46 0).length ∧
    s49_8.ptpConsumes 23 ([1, 128, 194, 0, 0, 14] ++ List.replicate 6 1 ++ [136, 247] ++ List.replicate 46 0) = true ∧
    beAt ([1, 128, 194, 0, 0, 14] ++ List.replicate 6 1 ++ [136, 247] ++ List.replicate 46 0) 12 2 ≠ 34824) ∧
  ((s49_9.port 23).link = true ∧ s49_9.ethOffLine = true) ∧
  ((s49_10.port 23).link = true ∧ s49_10.ethOffLine = false ∧
    (List.replicate 59 0).length + 4 ≤ s49_10.rf (macBase 23) 12 12 ∧ (List.replicate 59 0).length < 60) := by
  and_intros <;> decide +kernel

def s50_1 : State :=
  (beaconAt .locked 1000007000).setBport 23 { BcnPort.reset with tsq := [⟨2 ^ 60 + 5, 77, 3⟩, ⟨1, 2, 3⟩] }
def s50_2 : State := withMode .service { beaconAt .locked 7000 with stage := [(latchKey 0 0x8030, some 5)] }
def s50_3 : State := beaconAt .locked 7000
def s50_4 : State := withMode .test { beaconAt .locked 7000 with stage := [(latchKey 1 0x8038, some 5)] }
def s50_5 : State := withMode .service { beaconAt .locked 7000 with stage := [(latchKey 1 0x8038, some 5)] }
def s50_6 : State :=
  withMode .service (let b := beaconAt .locked 7000; { b with keeper := { b.keeper with lifecycle := .deployed } })
def s50_7 : State :=
  withMode .service (let b := beaconAt .locked 7000; { b with keeper := { b.keeper with lifecycle := .blank } })
def s50_8 : State := withRegs [(0x8020, 0x0040000A)] (beaconAt .locked 1000007000)

theorem witness_BeaconRegisters :
  (s50_1.open_ 32816 = true ∧ s50_1.open_ 32820 = true ∧ s50_1.mode.setup = false ∧
    (s50_1.rb 32800 22 = false ∨ s50_1.beacon.second < s50_1.beacon.ppsNext) ∧ 23 < 24 ∧
    s50_1.hasCluster (23 / 6) = true ∧ s50_1.open_ (33808 + 64 * 23) = true ∧
    (s50_1.bport 23).tsq = [{ stamp := 2 ^ 60 + 5, tag := 77, outcome := 3 : TsRec },
      { stamp := 1, tag := 2, outcome := 3 : TsRec }]) ∧
  (s50_2.open_ 32820 = true ∧ s50_2.mode.setup = true ∧
    Tbl.get (fun _ => none) s50_2.stage (latchKey (b2n false) 32816) = some 5 ∧
    (toSigned 40 (BitVec.toNat (5 : Word) + 2 ^ 32 * BitVec.toNat (240 : Word))).natAbs ≤ 2 ^ 37) ∧
  (s50_3.open_ 32800 = true ∧ fld 1996488804 29 3 = 3 ∧ fld 1996488804 24 5 < 24 ∧ fld 1996488804 0 10 = 100 ∧
    s50_3.bcnSource = 0 ∧ (∀ q < 24, s50_3.bcnRole q ≠ 1)) ∧
  (s50_4.open_ 32828 = true ∧ s50_4.mode.setup = true ∧
    Tbl.get (fun _ => none) s50_4.stage (latchKey (b2n true) 32824) = some 5 ∧ s50_4.timelines = [] ∧
    (0 ≤ toSigned 48 (BitVec.toNat (5 : Word) + 2 ^ 32 * BitVec.toNat (32768 : Word)) ∨ s50_4.mode = Mode.test) ∧
    s50_4.rb 32800 22 = false ∧ s50_4.rb 32800 21 = false ∧ s50_4.beacon.syncHigh = false) ∧
  (s50_5.open_ 32828 = true ∧ s50_5.mode.setup = true ∧
    Tbl.get (fun _ => none) s50_5.stage (latchKey (b2n true) 32824) = some 5 ∧ s50_5.timelines = [] ∧
    toSigned 48 (BitVec.toNat (5 : Word) + 2 ^ 32 * BitVec.toNat (32768 : Word)) < 0 ∧ s50_5.mode ≠ Mode.test) ∧
  (s50_6.open_ 32812 = true ∧ s50_6.mode.save = true ∧ bit 2147483648 31 = true ∧
    s50_6.keeper.lifecycle = Lifecycle.deployed) ∧
  (s50_7.open_ 32812 = true ∧ s50_7.mode.save = true ∧ bit 2147483648 31 = true ∧
    s50_7.keeper.lifecycle = Lifecycle.blank) ∧
  (s50_8.rb 32800 22 = true ∧ s50_8.beacon.running = true ∧ s50_8.rb 32800 20 = false ∧
    s50_8.beacon.ppsNext ≤ s50_8.beacon.second) := by
  and_intros <;> decide +kernel

def s51_1 : State :=
  (withRegs [(0x8020, 0x37000064), (0x8024, 0), (0x8400 + 0x40 * 23, 0x40000000)] (beaconAt .locked 7000)).setBport
    23 { BcnPort.reset with dValid := true, delay := 300, sync := some ⟨5000, 1, 5, -3⟩ }
def s51_2 : State :=
  (withRegs [(0x8020, 0x37000064), (0x8024, 5), (0x8400 + 0x40 * 23, 0x40000000)] (beaconAt .acquire 7000)).setBport
    23 { BcnPort.reset with dValid := true, delay := 300, sync := some ⟨5000, 1, 5, 0⟩ }
def s51_3 : State :=
  (withRegs [(0x8020, 0x00000064), (0x8404 + 0x40 * 23, 0x00070001), (0x8400 + 0x40 * 23, 0x40000000)] (beaconAt .holdover 7000)).setBport
    23 { BcnPort.reset with delay := 300, dValid := true }
def s51_4 : State :=
  (withRegs [(0x8020, 0x37000064), (0x8400 + 0x40 * 23, 0x40000000)] (beaconAt .acquire 7000)).setBport 23
    { BcnPort.reset with dValid := true, delay := 300 }
def s51_5 : State :=
  (withRegs [(0x8020, 0x37000064), (0x8024, 5), (0x8400 + 0x40 * 23, 0x40000000)] (beaconAt .locked 7000)).setBport
    23 { BcnPort.reset with dValid := true, delay := 300, sync := some ⟨5000, 1, 5, 0⟩ }
def s51_6 : State :=
  (withRegs [(0x8020, 0x37000064), (0x8024, 5), (0x8400 + 0x40 * 23, 0x50000000)] (beaconAt .holdover 7000)).setBport
    23 { BcnPort.reset with delay := 300, sync := some ⟨5000, 1, 6, 0⟩ }
def s51_7 : State :=
  (withRegs [(0x8020, 0x00000064), (0x8404 + 0x40 * 23, 0x00070001), (0x8400 + 0x40 * 23, 0x40000000)] (beaconAt .holdover 7000)).setBport
    23 { BcnPort.reset with delay := 300, dValid := true, hold := true }
def s51_8 : State := withRegs [(0x8020, 0x40000064)] (beaconAt .acquire 1999999990)
def s51_9 : State :=
  withRegs [(0x8020, 0x60800064)]
    (let b := beaconAt .acquire 2000000101; { b with beacon := { b.beacon with ppsLast := some 1999999999 } })

theorem witness_ServoAndDelays :
  (s51_1.isSource 23 = true ∧ (s51_1.bport 23).hold = false ∧
    (s51_1.bport 23).sync = some { t2 := 5000, corrField := 1, seq := 5, logInterval := -3 : PtpWait } ∧
    (s51_1.bport 23).dValid = true ∧ s51_1.beacon.state = Servo.locked ∧ s51_1.beacon.written = none ∧
    (s51_1.rf 32804 0 30 = 0 ∨ ((fun (t2 : Nat) (c : Int) => (((t2 * 2 ^ 16) : Nat) : Int) - (((60000 * 2 ^ 16) :
      Nat) : Int) - ((((s51_1.bport 23).delay * 2 ^ 8) : Nat) : Int) - c - s51_1.calEff (1280 + 23) * 2 ^ 8) 5000 (1
      + 0)).natAbs ≤ s51_1.rf 32804 0 30 * 2 ^ 16) ∧ s51_1.bcnSource ≠ 2 ∧ s51_1.bcnSource ≠ 3) ∧
  (s51_2.isSource 23 = true ∧ (s51_2.bport 23).hold = false ∧ (s51_2.bport 23).dValid = true ∧
    s51_2.beacon.state = Servo.acquire ∧ s51_2.beacon.stepAvail = true ∧
    0 ≤ (fun (t2 : Nat) (c : Int) => (((t2 * 2 ^ 16) : Nat) : Int) - (((60 * 2 ^ 16) : Nat) : Int) - ((((s51_2.bport
      23).delay * 2 ^ 8) : Nat) : Int) - c - s51_2.calEff (1280 + 23) * 2 ^ 8) (s51_2.ingressNs 23 100) 0 ∧
    (s51_2.bport 23).sync = some { t2 := 5000, corrField := 1, seq := 5, logInterval := 0 : PtpWait } ∧
    0 ≤ (fun (t2 : Nat) (c : Int) => (((t2 * 2 ^ 16) : Nat) : Int) - (((60 * 2 ^ 16) : Nat) : Int) - ((((s51_2.bport
      23).delay * 2 ^ 8) : Nat) : Int) - c - s51_2.calEff (1280 + 23) * 2 ^ 8) 5000 (1 + 0) ∧
    s51_2.beacon.state ≠ Servo.locked) ∧
  (s51_3.isSource 23 = false ∧
    (Instr.pdelayRespReceived 23 0 900 = Instr.pdelayRespReceived 23 (s51_3.bcnDomain 23) 900 ∧ s51_3.peerDelay 23 =
      true ∨ Instr.pdelayRespReceived 23 0 900 = Instr.delayRespReceived 23 (s51_3.bcnDomain 23) 900 ∧ s51_3.bcnRole
      23 = 1 ∧ s51_3.bcnProfile 23 = 1) ∧ (s51_3.bport 23).dValid = true ∧ (s51_3.bport 23).hold = false ∧
    s51_3.rf (33796 + 64 * 23) 0 16 * 256 < (((900 : Nat) : Int) - (((s51_3.bport 23).delay : Nat) : Int)).natAbs) ∧
  (s51_4.isSource 23 = true ∧ (s51_4.bport 23).hold = false ∧ (s51_4.bport 23).dValid = true ∧
    s51_4.beacon.state = Servo.acquire ∧ s51_4.beacon.stepAvail = true ∧
    (fun (t2 : Nat) (c : Int) => (((t2 * 2 ^ 16) : Nat) : Int) - (((60000 * 2 ^ 16) : Nat) : Int) - ((((s51_4.bport
      23).delay * 2 ^ 8) : Nat) : Int) - c - s51_4.calEff (1280 + 23) * 2 ^ 8) (s51_4.ingressNs 23 100) 0 < 0 ∧
    (s51_4.timelines = [] ∧ s51_4.rb 32800 22 = false ∧ s51_4.rb 32800 21 = false ∧ s51_4.beacon.syncHigh = false)) ∧
  (s51_5.isSource 23 = true ∧
    (s51_5.bport 23).sync = some { t2 := 5000, corrField := 1, seq := 5, logInterval := 0 : PtpWait } ∧
    (s51_5.bport 23).dValid = true ∧ (s51_5.bport 23).hold = false ∧ s51_5.beacon.state = Servo.locked ∧
    s51_5.beacon.refusing = false ∧ s51_5.rf 32804 0 30 ≠ 0 ∧
    s51_5.rf 32804 0 30 * 2 ^ 16 < ((fun (t2 : Nat) (c : Int) => (((t2 * 2 ^ 16) : Nat) : Int) - (((60000 * 2 ^ 16)
      : Nat) : Int) - ((((s51_5.bport 23).delay * 2 ^ 8) : Nat) : Int) - c - s51_5.calEff (1280 + 23) * 2 ^ 8) 5000
      (1 + 0)).natAbs) ∧
  (s51_6.isSource 23 = true ∧
    (s51_6.bport 23).sync = some { t2 := 5000, corrField := 1, seq := 6, logInterval := 0 : PtpWait } ∧ 6 ≠ 5 ∧
    (Instr.delayRespReceived 23 0 9 = Instr.pdelayRespReceived 23 (s51_6.bcnDomain 23) 9 ∧ s51_6.peerDelay 23 = true
      ∨ Instr.delayRespReceived 23 0 9 = Instr.delayRespReceived 23 (s51_6.bcnDomain 23) 9 ∧ s51_6.bcnRole 23 = 1 ∧
      s51_6.bcnProfile 23 = 1) ∧ (s51_6.bport 23).dValid = false) ∧
  ((Instr.pdelayRespReceived 23 0 900 = Instr.pdelayRespReceived 23 (s51_7.bcnDomain 23) 900 ∧ s51_7.peerDelay 23 =
      true ∨ Instr.pdelayRespReceived 23 0 900 = Instr.delayRespReceived 23 (s51_7.bcnDomain 23) 900 ∧ s51_7.bcnRole
      23 = 1 ∧ s51_7.bcnProfile 23 = 1) ∧ (s51_7.bport 23).dValid = true ∧ (s51_7.bport 23).hold = true) ∧
  ((s51_8.bcnSource = 2 ∨ s51_8.bcnSource = 3) ∧ true ≠ s51_8.rb 32800 23 ∧ s51_8.beacon.ppsLast = none ∧
    s51_8.beacon.state = Servo.acquire ∧ s51_8.beacon.stepAvail = true ∧
    (s51_8.timelines = [] ∧ s51_8.rb 32800 22 = false ∧ s51_8.rb 32800 21 = false ∧ s51_8.beacon.syncHigh = false)) ∧
  (true = s51_9.rb 32800 23) := by
  and_intros <;> decide +kernel

def s52_1 : State := (withRegs [(0x8400 + 0x40 * 23, 0x87090000)] (beaconAt .locked 7000)).setPort 23 linked
def s52_2 : State := (withRegs [(0x8400 + 0x40 * 23, 0x57090000)] (beaconAt .locked 7000)).setPort 23 linked
def s52_3 : State := (withRegs [(0x8400 + 0x40 * 23, 0x97090000)] (beaconAt .locked 7000)).setPort 23 linked
def s52_4 : State := (withRegs [(0x8400 + 0x40 * 23, 0x07090000)] (beaconAt .locked 7000)).setPort 23 Port.reset

theorem witness_PtpMessages :
  (s52_1.bcnRole 23 = 2 ∧ (s52_1.port 23).link = true ∧ (s52_1.port 23).retired = false ∧
    ((s52_1.port 23).ptp = none ∧ s52_1.longest 23 (s52_1.rf (33792 + 64 * 23) 24 3) = none) ∧
    s52_1.bcnRole 23 ≠ 0 ∧ s52_1.bcnProfile 23 ≠ 1 ∧ s52_1.peerDelay 23 = true ∧ 3 ≠ s52_1.bcnDomain 23) ∧
  (s52_2.bcnRole 23 ≠ 2 ∧ s52_2.bcnRole 23 = 1 ∧ s52_2.bcnProfile 23 = 1 ∧ (s52_2.port 23).link = true ∧
    (s52_2.port 23).retired = false ∧
    ((s52_2.port 23).ptp = none ∧ s52_2.longest 23 (s52_2.rf (33792 + 64 * 23) 24 3) = none)) ∧
  (s52_3.bcnRole 23 = 2 ∧ s52_3.bcnProfile 23 = 1 ∧ (s52_3.port 23).link = true ∧ (s52_3.port 23).retired = false ∧
    ((s52_3.port 23).ptp = none ∧ s52_3.longest 23 (s52_3.rf (33792 + 64 * 23) 24 3) = none)) ∧
  (s52_4.bcnRole 23 = 0 ∧ (s52_4.port 23).link = false) := by
  and_intros <;> decide +kernel

def s53_1 : State := cycleAt 39 1020099 (schedOf .backup []) { Timeline.stopped with k := 1 }
def s53_2 : State :=
  (cycleAt 39 1000200 (schedOf .follower []) { Timeline.stopped with active := true, k := 1, synced := true, current := some (placed 0 .reference 0 1000050 1006150) }).setLane
    39 { BusLane.reset with ctl := .receiving }
def s53_3 : State :=
  cycleAt 39 1001200 (schedOf .master [])
    { Timeline.stopped with active := true, k := 1, rest := [placed 0 .arbitration 0 1001150 1006150] }
def s53_4 : State :=
  ((cycleAt 39 999300 (schedOf .master []) { Timeline.stopped with active := true, k := 1, rest := [placed 3 .exclusive 9 1001100 1006150] }).setLane 39 { BusLane.reset with ctl := .idle, ready := [4] }).setDesc
    9 { descOf .txStatic .idle with bindIndex := 39 }
def s53_5 : State := cycleAt 39 1000102 (schedOf .master []) Timeline.stopped
def s53_6 : State :=
  withMode .test (cycleAt 39 1025000 (schedOf .backup []) { Timeline.stopped with active := true, k := 1 })
def s53_7 : State :=
  cycleAt 39 1001100 (schedOf .master [])
    { Timeline.stopped with active := true, k := 1, rest := [placed 0xFF .arbitration 0 1001100 1006150] }
def s53_8 : State :=
  (cycleAt 39 1006156 (schedOf .master []) { Timeline.stopped with active := true, k := 1, current := some (placed 0xFF .arbitration 0 1001100 1006150) }).setLane
    39 { BusLane.reset with ctl := .idle }

theorem witness_CycleAndWindows :
  (s53_1.cycle = some cycle1 ∧ s53_1.sched 39 = some (schedOf Role.backup []) ∧ 39 < 40 ∧
    s53_1.tlMayRun 39 = true ∧ (s53_1.tl 39).active = false ∧ s53_1.gridK = some (cycle1.index s53_1.ns) ∧
    cycle1.nominal (cycle1.index s53_1.ns) + 7 ≤ s53_1.ns ∧ (s53_1.tl 39).rest = [] ∧
    512 / 8 ≠ (schedOf Role.backup []).refId / 8 ∧
    ((s53_1.tl 39).active = false ∨ (schedOf Role.backup []).role ≠ Role.backup) ∧
    (inMode Mode.operational).cycle = none) ∧
  (s53_2.cycle = some cycle1 ∧ s53_2.sched 39 = some (schedOf Role.follower []) ∧ 39 < 40 ∧
    s53_2.ns < (placed 0 WinType.reference 0 1000050 1006150).stop ∧ (s53_2.tl 39).active = true ∧
    (s53_2.lane 39).ctl = CtlState.receiving ∧ s53_2.tlMayRun 39 = true ∧
    (schedOf Role.follower []).role = Role.follower ∧ (s53_2.tl 39).acting = false ∧
    ((((s53_2.sofNs 39 50) : Nat) : Int) - (((cycle1.nominal ((s53_2.sofNs 39 50 + cycle1.period / 2 - cycle1.phase)
      / cycle1.period)) : Nat) : Int)).natAbs ≤ (schedOf Role.follower []).followTol) ∧
  (s53_3.cycle = some cycle1 ∧ s53_3.sched 39 = some (schedOf Role.master []) ∧ 39 < 40 ∧
    (s53_3.tl 39).active = true ∧ (s53_3.tl 39).current = none ∧
    (s53_3.tl 39).rest = [placed 0 WinType.arbitration 0 1001150 1006150] ∧
    (placed 0 WinType.arbitration 0 1001150 1006150).win.type = WinType.arbitration ∧
    (placed 0 WinType.arbitration 0 1001150 1006150).index ≠ 255 ∧
    (placed 0 WinType.arbitration 0 1001150 1006150).index ∉ (s53_3.tl 39).lateSeen ∧ (s53_3.tl 39).exempt = false ∧
    (placed 0 WinType.arbitration 0 1001150 1006150).start ≤ s53_3.ns ∧
    cycle1.nominal (s53_3.tl 39).k + (placed 0 WinType.arbitration 0 1001150 1006150).win.offset < (placed 0
      WinType.arbitration 0 1001150 1006150).start ∧ (s53_3.tl 39).lateRaised = false) ∧
  (s53_4.cycle = some cycle1 ∧ s53_4.sched 39 = some (schedOf Role.master []) ∧ 39 < 40 ∧
    (s53_4.tl 39).rest = [placed 3 WinType.exclusive 9 1001100 1006150] ∧
    s53_4.ns < (placed 3 WinType.exclusive 9 1001100 1006150).start ∧ (s53_4.tl 39).active = true ∧
    (placed 3 WinType.exclusive 9 1001100 1006150).win.type = WinType.exclusive ∧
    (placed 3 WinType.exclusive 9 1001100 1006150).win.ref ≠ 65535 ∧ (s53_4.tl 39).triggered = [] ∧
    (placed 3 WinType.exclusive 9 1001100 1006150).start ≤ s53_4.ns + 2000 ∧ s53_4.outage 39 = false ∧
    s53_4.blocked 39 = false ∧ s53_4.isFollower 39 = false ∧
    (s53_4.desc (placed 3 WinType.exclusive 9 1001100 1006150).win.ref).kind = DescKind.txStatic ∧
    (s53_4.desc (placed 3 WinType.exclusive 9 1001100 1006150).win.ref).state = DescState.idle ∧
    (s53_4.desc (placed 3 WinType.exclusive 9 1001100 1006150).win.ref).bindIndex = 39 ∧
    s53_4.reconf (39 / 10) = false ∧ s53_4.takenOver 39 = false) ∧
  (s53_5.cycle = some cycle1 ∧ s53_5.sched 39 = some (schedOf Role.master []) ∧ 39 < 40 ∧
    s53_5.tlMayRun 39 = true ∧ (s53_5.tl 39).active = false ∧ cycle1.phase ≤ s53_5.ns ∧
    s53_5.gridK = some (cycle1.index s53_5.ns) ∧ s53_5.ns < cycle1.nominal (cycle1.index s53_5.ns) + 7) ∧
  (s53_6.cycle = some cycle1 ∧ s53_6.sched 39 = some (schedOf Role.backup []) ∧ 39 < 40 ∧
    s53_6.tlMayRun 39 = false ∧ s53_6.gridK = some (cycle1.index s53_6.ns) ∧ (s53_6.tl 39).active = true ∧
    (schedOf Role.backup []).role = Role.backup ∧ (s53_6.tl 39).acting = false ∧ (s53_6.tl 39).refSeen = false ∧
    cycle1.nominal (s53_6.tl 39).k + (schedOf Role.backup []).backupDelay ≤ s53_6.ns) ∧
  (s53_7.cycle = some cycle1 ∧ s53_7.sched 39 = some (schedOf Role.master []) ∧ 39 < 40 ∧
    (s53_7.tl 39).active = true ∧ (s53_7.tl 39).current = none ∧
    (s53_7.tl 39).rest = [placed 255 WinType.arbitration 0 1001100 1006150] ∧
    (placed 255 WinType.arbitration 0 1001100 1006150).win.type = WinType.arbitration ∧
    (placed 255 WinType.arbitration 0 1001100 1006150).index = 255 ∧
    (placed 255 WinType.arbitration 0 1001100 1006150).start ≤ s53_7.ns) ∧
  (s53_8.cycle = some cycle1 ∧ s53_8.sched 39 = some (schedOf Role.master []) ∧ 39 < 40 ∧
    (s53_8.tl 39).active = true ∧ (s53_8.tl 39).current = some (placed 255 WinType.arbitration 0 1001100 1006150) ∧
    (placed 255 WinType.arbitration 0 1001100 1006150).win.type = WinType.arbitration ∧
    (placed 255 WinType.arbitration 0 1001100 1006150).index = 255 ∧ (s53_8.lane 39).ctl = CtlState.idle ∧
    (placed 255 WinType.arbitration 0 1001100 1006150).stop ≤ s53_8.ns ∧
    s53_8.ns < (placed 255 WinType.arbitration 0 1001100 1006150).stop + 7) := by
  and_intros <;> decide +kernel

def s54_1 : State := staged 2072 fullSlice
def s54_2 : State := staged 0x30000 fullSlice
def s54_3 : State := staged 0 Slice.empty
def s54_4 : State := ctxOn (some ctx0)
def s54_5 : State := ringOn [List.replicate 128 1, []]

theorem witness_FiltersAndCheckBlocks :
  (s54_1.open_ (fltBase 3 + 128) = true ∧ 3 < 4 ∧ s54_1.mode.live = true ∧ s54_1.reconf 3 = false ∧
    (s54_1.slice 3).busy = false ∧ 3891 < 28672 ∧ (s54_1.slice 3).slot 3891 = some exactE ∧ exactE.key < 2 ^ 128 ∧
    (s54_1.slice 3).batch.length < 32 ∧ Tbl.get (fun _ => none) (s54_1.slice 3).future 3891 = some exactE ∧
    exactE.key = ofLe (s54_1.stageBytes 3 0 4) ∧ s54_1.stagedExact 3 = some exactE ∧
    nfld (s54_1.stageWord 3 12) 0 16 < 28672 ∧
    isCandidate (s54_1.slice 3).seed exactE.key (nfld (s54_1.stageWord 3 12) 0 16) = true ∧
    Tbl.get (fun _ => none) (s54_1.slice 3).future (nfld (s54_1.stageWord 3 12) 0 16) = none ∧ 3891 < 4096 ∧
    nbit (s54_1.stageWord 3 12) 17 = false ∧
    ((staged 0 ({ fullSlice with busy := true : Slice })).slice 3).busy = true ∧ 3891 < 32768 ∧
    s54_1.hasCluster 3 = true ∧ (s54_1.ring 3).held = [] ∧ s54_1.ctx 3891 = none) ∧
  (s54_2.open_ (fltBase 3 + 128) = true ∧ 3 < 4 ∧ s54_2.mode.live = true ∧ s54_2.reconf 3 = false ∧
    (s54_2.slice 3).busy = false ∧ 4095 < 28672 ∧ (s54_2.slice 3).slot 4095 = none ∧ 4095 < 4096 ∧
    Tbl.get (fun _ => none) ((s54_2.slice 3).bank ((s54_2.slice 3).activeBank != true)) 4095 = some maskedE ∧
    maskedE.value < 2 ^ 128 ∧ Tbl.get (fun _ => none) (s54_2.slice 3).future 4095 = none ∧
    nbit (s54_2.stageWord 3 12) 17 = true ∧ s54_2.stagedMasked 3 = some maskedE) ∧
  (s54_3.open_ (fltBase 3 + 128) = true ∧ 3 < 4 ∧ s54_3.mode.live = true ∧ s54_3.reconf 3 = false ∧
    (s54_3.slice 3).busy = false ∧ 2072 < 28672 ∧ (s54_3.slice 3).batch.length < 32 ∧
    isCandidate (s54_3.slice 3).seed (ofLe (s54_3.stageBytes 3 0 4)) 2072 = true ∧
    Tbl.get (fun _ => none) (s54_3.slice 3).future 2072 = none ∧
    { seed := (s54_3.slice 3).seed, activeBank := (s54_3.slice 3).activeBank, exact := (s54_3.slice 3).future, bank0 := (s54_3.slice 3).bank0, bank1 := (s54_3.slice 3).bank1, batch := (s54_3.slice 3).batch, busy := (s54_3.slice 3).busy, status := (s54_3.slice 3).status : Slice }.find
      (ofLe (s54_3.stageBytes 3 0 4)) = none ∧ s54_3.stagedExact 3 = some exactE) ∧
  (32767 < 32768 ∧ s54_4.mode.live = true ∧ 3 < 4 ∧ s54_4.hasCluster 3 = true ∧ s54_4.ctx 32767 = some ctx0) ∧
  (0 < 32768 ∧ s54_5.mode.live = true ∧ 3 < 4 ∧ s54_5.hasCluster 3 = true ∧
    (s54_5.ring 3).held = [List.replicate 128 1, []]) := by
  and_intros <;> decide +kernel

def s55_1 : State :=
  (inMode .operational).setEng 31
    { Engine.unused with state := .haltedFault, image := some ⟨0, 0, List.replicate 64 7, [1,2], 0, 8, 16, [9,9,9], 0, 0, 0, 0⟩, dbgHalt := true }
def s55_2 : State := { inMode .operational with health := { Health.fresh with due := [⟨0x101F, 2⟩] } }
def s55_3 : State := { inMode .operational with health := { Health.fresh with due := [⟨0x101F, 1⟩] } }
def s55_4 : State :=
  { inMode .operational with
    tiles := [(3, { Tile.none with running := true })],
    engines := [(25, { Engine.unused with state := .running })] }
def s55_6 : State := tileState

theorem witness_EnginesAndTiles :
  (31 < 32 ∧ s55_1.open_ (engBase 31) = true ∧ s55_1.mode.live = true ∧ s55_1.engineMayRun 31 = true ∧
    (s55_1.eng 31).image = some
      { component := 0, version := 0, code := List.replicate 64 7, data := [1, 2], entry := 0, restartEntry := 8, paramAddr := 16, params := [9, 9, 9], ckptAddr := 0, ckptLen := 0, units := 0, depths := 0 : Image } ∧
    (s55_1.eng 31).state ≠ EngState.unused ∧ (s55_1.eng 31).state ≠ EngState.reset ∧
    (s55_1.eng 31).retired = false ∧ s55_1.faultWaits (4096 + 31) = false ∧
    fetchable (if 8 = 0 then 0 else 8) = true ∧ s55_1.health.due = [] ∧ (s55_1.tile 3).running = false) ∧
  (31 < 32 ∧ s55_2.open_ (engBase 31) = true ∧ s55_2.mode.live = true ∧ (s55_2.eng 31).state = EngState.unused ∧
    4127 = 4096 + 31 ∧ s55_2.health.due = [{ unit := 4127, cause := 2 : Report }] ∧ s55_2.health.unrecorded = [] ∧
    s55_2.health.pends = [] ∧ s55_2.reconf (31 / 8) = false ∧ s55_2.mode ≠ Mode.sleep ∧
    s55_2.engSpareFree (31 / 8) = true ∧ (s55_2.eng 31).image = none) ∧
  (31 < 32 ∧ 4127 = 4096 + 31 ∧ s55_3.health.due = [{ unit := 4127, cause := 1 : Report }] ∧
    s55_3.health.unrecorded = [] ∧ s55_3.health.pends = [] ∧ s55_3.reconf (31 / 8) = false ∧
    s55_3.mode ≠ Mode.sleep ∧ s55_3.engSpareFree (31 / 8) = true ∧ (s55_3.eng 31).image = none ∧
    s55_3.health.checkpointed = [] ∧ s55_3.mode ≠ Mode.standby ∧ s55_3.mode ≠ Mode.service) ∧
  ((s55_4.tile 3).running = true ∧ 3 < 4 ∧ submitOk (List.replicate 96 0) = false) ∧
  ((s55_4.tile 3).running = true ∧ 3 < 4 ∧ submitOk ([1, 0, 0, 0, 0, 0, 0, 0] ++ List.replicate 88 0) = true ∧
    nbit (byteAt ([1, 0, 0, 0, 0, 0, 0, 0] ++ List.replicate 88 0) 3) 2 = false ∧
    (State.lineFrame [] 3 (submitFrame ([1, 0, 0, 0, 0, 0, 0, 0] ++ List.replicate 88 0) srcTile 3 s55_4.stamp) (96
      + 3) false (launchOf (nbit (byteAt ([1, 0, 0, 0, 0, 0, 0, 0] ++ List.replicate 88 0) 3) 0) (leAt ([1, 0, 0, 0,
      0, 0, 0, 0] ++ List.replicate 88 0) 8 8)) (nbit (byteAt ([1, 0, 0, 0, 0, 0, 0, 0] ++ List.replicate 88 0) 3)
      1) (leAt ([1, 0, 0, 0, 0, 0, 0, 0] ++ List.replicate 88 0) 28 4) (fun x u => (true, u)) s55_4).1 ≠ subOk) ∧
  ((s55_6.tile 1).running = true ∧ 1 < 4 ∧ submitOk tileD = true ∧ nbit (byteAt tileD 3) 2 = false ∧
    (State.lineFrame [] 1 (submitFrame tileD srcTile 1 s55_6.stamp) (96 + 1) false (launchOf (nbit (byteAt tileD 3)
      0) (leAt tileD 8 8)) (nbit (byteAt tileD 3) 1) (leAt tileD 28 4) (fun x u => (true, u)) s55_6).1 = subOk) := by
  and_intros <;> decide +kernel

def s56_1 : State := { inMode .operational with yw := { Yewirak.reset with up := true } }
def s56_2 : State := inMode .operational
def s56_3 : State := { inMode .standby with yw := { Yewirak.reset with up := true } }
def s56_4 : State := { inMode .sleep with yw := { Yewirak.reset with up := true } }

theorem witness_YewirakRequests :
  (s56_1.mode ≠ Mode.off ∧ s56_1.yw.up = true ∧ s56_1.yw.open_ = none ∧ s56_1.yw.last = none ∧
    s56_1.mode.configured = true ∧ s56_1.mode ≠ Mode.test ∧ 96 % 4 = 0 ∧ 96 < 2 ^ 32 ∧ 0 < 2 ∧ 2 ≤ 64 ∧
    s56_1.matrixRefuses false 96 2 = false ∧ 0 < [1, 2].length ∧ [1, 2].length ≤ 64 ∧
    s56_1.matrixRefuses true 96 [1, 2].length = false ∧ s56_1.mode ≠ Mode.sleep ∧ s56_1.executing 6 = none ∧
    ([13] ++ List.replicate 23 0).length = 24 ∧ queueServiced s56_1.mode = true ∧ s56_1.ctl.exec = none ∧
    badCommand (byteAt ([13] ++ List.replicate 23 0) 0) [([13] ++ List.replicate 23 0).getD 1 0] (List.drop 8 ([13]
      ++ List.replicate 23 0)) = false ∧ cmdAllowed (byteAt ([13] ++ List.replicate 23 0) 0) s56_1.mode = true ∧
    (15 ≤ (byteAt ([13] ++ List.replicate 23 0) 0) ∧ (byteAt ([13] ++ List.replicate 23 0) 0) ≤ 17 → s56_1.fuse.optP
      = true)) ∧
  (s56_2.yw.up = false ∧ s56_2.mode ≠ Mode.off) ∧
  (s56_3.mode ≠ Mode.off ∧ s56_3.yw.up = true ∧ s56_3.yw.open_ = none ∧ s56_3.yw.last = none ∧
    153 ∉ [1, 2, 16, 17, 32, 48, 64]) ∧
  (s56_4.mode ≠ Mode.off ∧ s56_4.yw.up = true ∧ s56_4.yw.open_ = none ∧ s56_4.yw.last = none ∧
    s56_4.mode = Mode.sleep) := by
  and_intros <;> decide +kernel

def s57_1 : State := { inMode .operational with yw := { Yewirak.reset with up := true, open_ := some (0x20, 3, []) } }
def s57_2 : State :=
  { inMode .operational with yw := { Yewirak.reset with up := true, last := some (0x30, 5, [], [9]) } }

theorem witness_YewirakBusyAndRepeats :
  (s57_1.mode ≠ Mode.off ∧ s57_1.yw.up = true ∧ s57_1.yw.open_.isSome = true) ∧
  (s57_2.mode ≠ Mode.off ∧ s57_2.yw.up = true ∧ s57_2.yw.open_ = none ∧ s57_2.yw.last = some (48, 5, [], [9])) := by
  and_intros <;> decide +kernel

def s58_1 : State := withMode .operational keepers
def s58_2 : State := keepers
def s58_7 : State := withRegs [(0x1D000, 7)] keepers

theorem witness_KeeperUpdates :
  (s58_1.open_ 114776 = true ∧ s58_1.keeper.ops = [] ∧ 0 < dbgObj.length ∧ dbgObj.length < 2 ^ 20 ∧
    (false = true → dbgObj.length ≤ 4096) ∧ s58_1.updateObject false dbgObj.length (some dbgObj) = some dbgObj ∧
    ((fun n => updateMode n s58_1.mode = true ∧ s58_1.updateCell n = 0 ∧ dbgObj.length ≤ updateMax n) 8 ∧ closing
      dbgObj = some (bodyOf dbgObj, closingOf dbgObj) ∧ closingFits 8 (closingOf dbgObj).kind = true ∧ bodyForm
      (closingOf dbgObj).kind (bodyOf dbgObj) = true ∧ s58_1.keeper.signs (closingOf dbgObj).slot (kindPurpose
      (closingOf dbgObj).kind) = true ∧ s58_1.identityOk (closingOf dbgObj).kind (bodyOf dbgObj) = true) ∧
    (¬(byteAt (bodyOf dbgObj) 0 = 2 ∧ s58_1.keeper.lifecycle = Lifecycle.deployed)) ∧ s58_1.mode.update = true ∧
    updateMode 1 s58_1.mode = false) ∧
  (s58_2.open_ 114776 = true ∧ s58_2.keeper.ops = [] ∧ 0 < fwObj.length ∧ fwObj.length < 2 ^ 20 ∧
    (false = true → fwObj.length ≤ 4096) ∧ s58_2.updateObject false fwObj.length (some fwObj) = some fwObj ∧
    ((fun n => updateMode n s58_2.mode = true ∧ s58_2.updateCell n = 0 ∧ fwObj.length ≤ updateMax n) 1 ∧ closing
      fwObj = some (bodyOf fwObj, closingOf fwObj) ∧ closingFits 1 (closingOf fwObj).kind = true ∧ bodyForm
      (closingOf fwObj).kind (bodyOf fwObj) = true ∧ s58_2.keeper.signs (closingOf fwObj).slot (kindPurpose
      (closingOf fwObj).kind) = true ∧ s58_2.identityOk (closingOf fwObj).kind (bodyOf fwObj) = true) ∧
    s58_2.keeper.epoch ≤ (closingOf fwObj).epoch ∧
    s58_2.judge646 (s58_2.firmwareSet
      { slot := (closingOf fwObj).slot, key := (s58_2.keeper.slot (closingOf fwObj).slot).key, component := (closingOf fwObj).component, version := (closingOf fwObj).version, hwIf := (closingOf fwObj).hwIf, loaderIf := (closingOf fwObj).loaderIf, personalityIf := (closingOf fwObj).personalityIf, tileIf := (closingOf fwObj).tileIf, epoch := (closingOf fwObj).epoch : Firmware })
      = Compat.accept true) ∧
  (s58_2.open_ 114776 = true ∧ s58_2.keeper.ops = [] ∧ 0 < jadObj.length ∧ jadObj.length < 2 ^ 20 ∧
    (false = true → jadObj.length ≤ 4096) ∧ s58_2.updateObject false jadObj.length (some jadObj) = some jadObj ∧
    ((fun n => updateMode n s58_2.mode = true ∧ s58_2.updateCell n = 0 ∧ jadObj.length ≤ updateMax n) 2 ∧ closing
      jadObj = some (bodyOf jadObj, closingOf jadObj) ∧ closingFits 2 (closingOf jadObj).kind = true ∧ bodyForm
      (closingOf jadObj).kind (bodyOf jadObj) = true ∧ s58_2.keeper.signs (closingOf jadObj).slot (kindPurpose
      (closingOf jadObj).kind) = true ∧ s58_2.identityOk (closingOf jadObj).kind (bodyOf jadObj) = true) ∧
    s58_2.judge646
      { fw := s58_2.setInForce.fw, streams := s58_2.setInForce.streams, images := { unit := if (closingOf jadObj).kind = 3 then 32 else 0, component := (closingOf jadObj).component, version := (closingOf jadObj).version, requires := if (closingOf jadObj).kind = 3 then (closingOf jadObj).tileIf else (closingOf jadObj).personalityIf : ImageId } :: s58_2.setInForce.images : KSet }
      = Compat.accept true ∧
    imageBytes (s58_2.keeper.without (closingOf jadObj).component (closingOf jadObj).version) + jadObj.length ≤ 6 *
      2 ^ 20) ∧
  (s58_2.open_ 114776 = true ∧ s58_2.keeper.ops = [] ∧ 0 < polObj.length ∧ polObj.length < 2 ^ 20 ∧
    (false = true → polObj.length ≤ 4096) ∧ s58_2.updateObject false polObj.length (some polObj) = some polObj ∧
    ((fun n => updateMode n s58_2.mode = true ∧ s58_2.updateCell n = 0 ∧ polObj.length ≤ updateMax n) 5 ∧ closing
      polObj = some (bodyOf polObj, closingOf polObj) ∧ closingFits 5 (closingOf polObj).kind = true ∧ bodyForm
      (closingOf polObj).kind (bodyOf polObj) = true ∧ s58_2.keeper.signs (closingOf polObj).slot (kindPurpose
      (closingOf polObj).kind) = true ∧ s58_2.identityOk (closingOf polObj).kind (bodyOf polObj) = true) ∧
    s58_2.keeper.policySeq ≤ leAt (bodyOf polObj) 4 4) ∧
  (s58_2.open_ 114776 = true ∧ s58_2.keeper.ops = [] ∧ 0 < lifObj.length ∧ lifObj.length < 2 ^ 20 ∧
    (false = true → lifObj.length ≤ 4096) ∧ s58_2.updateObject false lifObj.length (some lifObj) = some lifObj ∧
    ((fun n => updateMode n s58_2.mode = true ∧ s58_2.updateCell n = 0 ∧ lifObj.length ≤ updateMax n) 7 ∧ closing
      lifObj = some (bodyOf lifObj, closingOf lifObj) ∧ closingFits 7 (closingOf lifObj).kind = true ∧ bodyForm
      (closingOf lifObj).kind (bodyOf lifObj) = true ∧ s58_2.keeper.signs (closingOf lifObj).slot (kindPurpose
      (closingOf lifObj).kind) = true ∧ s58_2.identityOk (closingOf lifObj).kind (bodyOf lifObj) = true) ∧
    lifecycleMay s58_2.keeper.lifecycle Lifecycle.decommissioned (closingOf lifObj).slot = true) ∧
  (s58_2.open_ 114776 = true ∧ s58_2.keeper.ops = [] ∧ 0 < tabObj.length ∧ tabObj.length < 2 ^ 20 ∧
    (false = true → tabObj.length ≤ 4096) ∧ s58_2.updateObject false tabObj.length (some tabObj) = some tabObj ∧
    ((fun n => updateMode n s58_2.mode = true ∧ s58_2.updateCell n = 0 ∧ tabObj.length ≤ updateMax n) 4 ∧ closing
      tabObj = some (bodyOf tabObj, closingOf tabObj) ∧ closingFits 4 (closingOf tabObj).kind = true ∧ bodyForm
      (closingOf tabObj).kind (bodyOf tabObj) = true ∧ s58_2.keeper.signs (closingOf tabObj).slot (kindPurpose
      (closingOf tabObj).kind) = true ∧ s58_2.identityOk (closingOf tabObj).kind (bodyOf tabObj) = true) ∧
    testedTable (bodyOf tabObj) = some ((testedTable (bodyOf tabObj)).getD
      { seq := 0, entries := [] : TestedTable }) ∧
    (if (closingOf tabObj).slot < 2 then s58_2.keeper.thrumsyn.seq else s58_2.keeper.owner.seq) ≤ ((testedTable
      (bodyOf tabObj)).getD { seq := 0, entries := [] : TestedTable }).seq) ∧
  (s58_7.open_ 114776 = true ∧ s58_7.keeper.ops = [] ∧ 0 < 8 ∧ 8 < 2 ^ 20 ∧ (true = true → 8 ≤ 4096) ∧
    s58_7.updateObject true 8 none = some (((withRegs [(118784, 7)] keepers).updateObject true 8 none).getD []) ∧
    (updateMode 3 s58_7.mode = true ∧ s58_7.updateCell 3 = 0 ∧ (((withRegs [(118784, 7)] keepers).updateObject true
      8 none).getD []).length ≤ updateMax 3) ∧
    (((withRegs [(118784, 7)] keepers).updateObject true 8 none).getD []).length = 8 ∧
    (∀ i ∈ s58_7.setInForce.images, ¬(i.component = leAt (((withRegs [(118784, 7)] keepers).updateObject true 8
      none).getD []) 0 4 ∧ i.version = leAt (((withRegs [(118784, 7)] keepers).updateObject true 8 none).getD []) 4
      4))) := by
  and_intros <;> decide +kernel

def s59_1 : State := fullDebug (engineWith 31 .nop Cpu.start fun e => { e with dbgHalt := true })
def s59_2 : State := withRegs [(0x1C068, 31), (0x1C06C, 0x1000FFFC)] (fullDebug (engineAt 31 .nop Cpu.start))
def s59_3 : State :=
  let s := inMode .operational; { s with keeper := { s.keeper with ops := [.policy true 5], running := true } }
def s59_4 : State :=
  let s := inMode .service
  { s with keeper := { s.keeper with lifecycle := .factory, ops := [.lifecycle .provisioned], running := true } }
def s59_5 : State :=
  let s :=
    { beaconAt .locked 700000000000 with engines := [(31, { Engine.unused with state := .running, dbgHalt := true })] }
  { s with keeper := { s.keeper with session := some ⟨0xFF, 2^32-1, 1, 0⟩ } }
def s59_6 : State := fullDebug (inMode .test)
def s59_7 : State :=
  let s := inMode .operational; { s with keeper := { s.keeper with ops := [.erase 1 5], running := true } }
def s59_8 : State :=
  let s := inMode .operational
  { s with keeper := { s.keeper with ops := [.firmware ⟨0, keyB, 1, 2, 3, 4, 5, 6, 7⟩ true], running := true } }

theorem witness_StoresAndDebug :
  (s59_1.keeper.running = false ∧ s59_1.sessionLeft ≠ 0 ∧
    s59_1.keeper.session = some { level := 2, engines := 2 ^ 32 - 1, seconds := 100, opened := 0 : Session } ∧
    s59_1.open_ 114784 = true ∧ s59_1.portO = true ∧ s59_1.open_ 114792 = true ∧ s59_1.portF = true ∧ 31 < 32 ∧
    nbit s59_1.debugMask 31 = true ∧ (s59_1.eng 31).dbgHalt = true ∧ (s59_1.eng 31).state = EngState.running ∧
    s59_1.engineMayRun 31 = true ∧ decodeWord (s59_1.fetched 31) = some Op.nop ∧
    fetchable (s59_1.nextPc 31) = true ∧ s59_1.open_ 114816 = true ∧ s59_1.portFT = false) ∧
  (s59_2.open_ 114800 = true ∧ s59_2.portF = true ∧ s59_2.dbgCovered = true ∧
    s59_2.rd 114796 = wd (268435456 + 4 * 16383) ∧ 16383 < 16384) ∧
  (s59_3.keeper.ops = [KOp.policy true 5] ∧ s59_3.keeper.running = true ∧ s59_3.open_ 114784 = true ∧
    s59_3.portO = false ∧ s59_3.open_ 114800 = true ∧ s59_3.portF = false) ∧
  (s59_4.keeper.ops = [KOp.lifecycle Lifecycle.provisioned] ∧ s59_4.keeper.running = true ∧
    s59_4.keeper.lifecycle = Lifecycle.factory ∧ s59_4.mode = Mode.service) ∧
  (s59_5.keeper.session = some { level := 255, engines := 2 ^ 32 - 1, seconds := 1, opened := 0 : Session } ∧
    s59_5.sessionLeft = 0) ∧
  (s59_6.open_ 114816 = true ∧ s59_6.portFT = true ∧ 0 < fld 2147483680 0 6 ∧ fld 2147483680 0 6 ≤ 32 ∧
    bit 2147483680 31 = true) ∧
  (s59_7.keeper.ops = [KOp.erase 1 5] ∧ s59_7.keeper.running = true) ∧
  (s59_8.keeper.ops = [KOp.firmware
      { slot := 0, key := keyB, component := 1, version := 2, hwIf := 3, loaderIf := 4, personalityIf := 5, tileIf := 6, epoch := 7 : Firmware }
      true] ∧ s59_8.keeper.running = true) := by
  and_intros <;> decide +kernel

def s60_1 : State :=
  { (inMode .operational).setLane 39 { BusLane.reset with tec := 5, recv := 6, ctl := .idle } with
    health := { Health.fresh with due := [⟨0x2027, 2⟩], slices := [(3, ⟨.readying, some 9⟩)] } }
def s60_2 : State :=
  { (inMode .service).setPort 23 { Port.reset with retired := true } with
    health := { Health.fresh with retest := some 0x5017 } }
def s60_3 : State := { inMode .operational with health := { Health.fresh with due := [⟨0x3277, 2⟩] } }
def s60_4 : State :=
  { (inMode .operational).setLane 39 { BusLane.reset with tec := 5, recv := 6, ctl := .idle } with
    health := { Health.fresh with due := [⟨0x2027, 2⟩] } }
def s60_5 : State :=
  withRegs [(0x22000, 0)]
    { inMode .operational with health := { Health.fresh with low := [(31, 15)] }, engines := [(31, { Engine.unused with state := .running })] }
def s60_6 : State := inMode .operational
def s60_8 : State := inMode .sleep

theorem witness_HealthAndSpares :
  (23 < 80 ∧ s60_1.mode.monitors = true ∧
    (if 9 < 10 then min 16 (Tbl.get (fun _ => 0) s60_1.health.low 23 + 1) else 0) < 16 ∧ 39 < 40 ∧
    s60_1.health.due = [{ unit := 8231, cause := 2 : Report }] ∧ s60_1.health.unrecorded = [] ∧
    s60_1.health.pends = [] ∧ { unit := 8231, cause := 2 : Report } = { unit := 8192 + 39, cause := 2 : Report } ∧
    s60_1.spareSlice (39 / 10) = { state := SliceState.readying, lane := some (39 % 10) : SpareSlice } ∧
    s60_1.open_ 139272 = true ∧ s60_1.mode ≠ Mode.service ∧ s60_1.health.retest = none) ∧
  (s60_2.health.due = [] ∧ s60_2.open_ 139272 = true ∧ s60_2.mode = Mode.service ∧
    s60_2.unitRetired (fld 20503 0 16) = true ∧ s60_2.health.retest = some (20480 + 23) ∧ 23 < 24) ∧
  (39 < 40 ∧ 7 < 8 ∧ s60_3.health.due = [{ unit := 12919, cause := 2 : Report }] ∧ s60_3.health.unrecorded = [] ∧
    s60_3.health.pends = [] ∧
    { unit := 12919, cause := 2 : Report } = { unit := 12288 + 16 * 39 + 7, cause := 2 : Report } ∧
    s60_3.reconf (39 / 10) = false ∧ s60_3.mode ≠ Mode.sleep ∧ (s60_3.lane 39).segSpare = 2 ∧
    s60_3.segMask 12919 = 255 ∧ s60_3.segBad 12919 = 0) ∧
  (39 < 40 ∧ s60_4.health.due = [{ unit := 8231, cause := 2 : Report }] ∧ s60_4.health.unrecorded = [] ∧
    s60_4.health.pends = [] ∧ { unit := 8231, cause := 2 : Report } = { unit := 8192 + 39, cause := 2 : Report } ∧
    s60_4.reconf (39 / 10) = false ∧ s60_4.mode ≠ Mode.sleep ∧ s60_4.sliceSpareFree (39 / 10) = true) ∧
  (31 < 80 ∧ s60_5.mode.monitors = true ∧
    (if 9 < 10 then min 16 (Tbl.get (fun _ => 0) s60_5.health.low 31 + 1) else 0) = 16 ∧ 31 < 32 ∧
    (s60_5.health.due = [] ∧ s60_5.health.unrecorded = [] ∧ s60_5.health.pends = []) ∧
    s60_5.unitLive (4096 + 31) = true ∧ s60_5.engSpareFree (31 / 8) = true ∧ s60_5.rf 139264 0 2 = 0 ∧
    s60_5.health.declined = [] ∧
    { unit := 4127, cause := 2 : Report } = { unit := 4096 + 31, cause := 2 : Report } ∧
    (s60_5.eng 31).live = true) ∧
  (23 < 24 ∧ s60_6.mode.monitors = true ∧
    (s60_6.health.due = [] ∧ s60_6.health.unrecorded = [] ∧ s60_6.health.pends = []) ∧
    { unit := 20503, cause := 2 : Report } = { unit := 20480 + 23, cause := 2 : Report } ∧
    s60_6.hasCluster (23 / 6) = true ∧ (s60_6.port 23).retired = false) ∧
  (39 < 40 ∧ s60_1.health.due = [{ unit := 8231, cause := 2 : Report }] ∧ s60_1.health.unrecorded = [] ∧
    s60_1.health.pends = [] ∧ { unit := 8231, cause := 2 : Report } = { unit := 8192 + 39, cause := 2 : Report } ∧
    s60_1.spareSlice (39 / 10) = { state := SliceState.readying, lane := some (39 % 10) : SpareSlice }) ∧
  (s60_8.mode.monitors = false) := by
  and_intros <;> decide +kernel

theorem witness_EnginesIdle :
    Instr.op (.add (.clean 31) 15 0 15) = some (.clean 31, .reg3 .add 15 0 15) ∧ State.reset.issues 31 (.reg3 .add 15 0 15) = false := by
  decide +kernel

/-- Engine 9 is about to issue TRAP 5, its vector table in use. -/
def trapping : State :=
  engineAt 9 (.trap 5) { Cpu.start with x := (List.replicate 16 1).set 15 0x10000040, vbase := 0x41 }

/-- TRAP 5 of engine 9 with these reads. -/
def trap5 (f : Finds) : Instr := .trap ⟨9, f⟩ 5

theorem witness_EnginesIdle_reads :
    (∀ f, (trap5 f).op = some (⟨9, f⟩, .trap 5) ∧ (trap5 f).Reads .clean (trap5 .clean)) ∧
    trapping.issues 9 (.trap 5) = true ∧
    (match exec (trap5 .clean) trapping with | .next t => t.tookVector trapping 9 | _ => false) = true ∧
    (match exec (.sysNop (.clean 9)) (engineAt 9 .nop Cpu.start) with
      | .next t => t.tookVector (engineAt 9 .nop Cpu.start) 9
      | _ => true) = false :=
  ⟨fun _ => ⟨rfl, rfl⟩, by decide +kernel, by decide +kernel, by decide +kernel⟩

/-- A corrected vector word is counted, an uncorrectable one leaves pc at the trap. -/
theorem test_vector_word_errors :
    (match exec (trap5 { Finds.clean with vector := .corrected }) trapping with
      | .next t => some (t.rd (engBase 9 + 0x38), (t.eng 9).state, (t.cpu 9).pc == trapping.vector 9 0) | _ => none) =
      some (1, .running, true) ∧
    (match exec (trap5 { Finds.clean with vector := .uncorrectable }) trapping with
      | .next t => some ((t.eng 9).state, (t.cpu 9).pc) | _ => none) = some (.haltedFault, 0) := by
  and_intros <;> decide +kernel

theorem witness_StepInvariant : step State.reset = .next State.reset ∧ State.reset.canonical = true := ⟨rfl, rfl⟩

theorem witness_CommandFrames : exec .resume State.reset = .next State.reset := rfl

theorem witness_GenatWordsDecode :
    Instr.wf (.add (.clean 31) 15 0 15) = true ∧ Instr.op (.add (.clean 31) 15 0 15) = some (.clean 31, .reg3 .add 15 0 15) ∧
    Instr.wf (.cust (.clean 0) 15 63 1 2 3 0) = true ∧ Instr.op (.cust (.clean 0) 15 63 1 2 3 0) = some (.clean 0, .absent 15 63 1 2 3) ∧
    unitOf 15 63 = none := by decide +kernel

theorem witness_FetchAndUnitCommands_calCommit :
    (running .service 20 0 []).calCell = true ∧ (running .operational 20 0 []).calCell = false ∧
    (running .service 20 0 []).ctl.waiting = [] ∧ (∀ v, KOp.cal v ∉ (running .service 20 0 []).keeper.ops) ∧
    ∀ v, KOp.cal v ∉ (running .operational 20 0 []).keeper.ops :=
  ⟨by decide +kernel, by decide +kernel, rfl, fun _ h => List.not_mem_nil h, fun _ h => List.not_mem_nil h⟩

/-- A validation that passes. -/
def loadedS : State := { signer (inMode .configuring) with loads := [(4, some ⟨4, true, .validate, fullS, .none⟩)] }

theorem witness_LoaderCommands_validated :
    loadedS.load 4 = some ⟨4, true, .validate, fullS, .none⟩ ∧ loadedS.mode = .configuring ∧
    loadedS.stages2to5 4 fullS = none ∧ loadedS.stage6 4 fullS = none := by
  and_intros <;> decide +kernel

end Sys2Proof.Tests
end

namespace Sys2Proof.Machine
open Sys2Proof

/-! ### Writes of the command queue's registers and of MOD_REJECT (R75 to R77) -/

/-- A whole word written at an open offset is the write of the register it names (R730). -/
theorem State.writeWord_of_open {off : Nat} {r : Reg} {s : State} (env : WriteEnv) (w : Word)
    (hr : Reg.ofOff off = some r) (ho : s.open_ off = true) : s.writeWord env off 15 w = s.regWrite env r w := by
  have hfull : s.window r = .full := by simpa [State.open_, hr] using ho
  simp [State.writeWord, hr, hfull]

theorem exec_cmdqTail {s : State} (yw : Bool) (w : Word) (ho : s.open_ 0x10C = true) :
    exec (.cmdqTail yw w) s = .next (s.cmdqTail w) :=
  congrArg Host.Outcome.next (State.writeWord_of_open (r := .cmdqTail) _ w rfl ho)

theorem exec_registerWrite_cmdqTail {s : State} (yw : Bool) (w : Word) (fetched : Option (List Byte)) (e : Meets)
    (ho : s.open_ 0x10C = true) : exec (.registerWrite yw 0x10C 15 w fetched e) s = .next (s.cmdqTail w) :=
  congrArg Host.Outcome.next (State.writeWord_of_open (r := .cmdqTail) _ w rfl ho)

theorem exec_cmdqCfg {s : State} (yw : Bool) (w : Word) (ho : s.open_ 0x108 = true) :
    exec (.cmdqCfg yw w) s = .next (s.cmdqCfg w) :=
  congrArg Host.Outcome.next (State.writeWord_of_open (r := .cmdqCfg) _ w rfl ho)

theorem exec_stickySet_modReject {s : State} (yw : Bool) (w : Word) (ho : s.open_ 0x54 = true) :
    exec (.stickySet yw 0x54 w) s = .next (s.rejectAlias 1 w) :=
  congrArg Host.Outcome.next (State.writeWord_of_open (r := .modReject 1) _ w rfl ho)

theorem exec_stickyClear_modReject {s : State} (yw : Bool) (w : Word) (ho : s.open_ 0x58 = true) :
    exec (.stickyClear yw 0x58 w) s = .next (s.rejectAlias 2 w) :=
  congrArg Host.Outcome.next (State.writeWord_of_open (r := .modReject 2) _ w rfl ho)

theorem State.rejectAlias_set {s : State} {w : Word} (hw : bit w 0 = true) : s.rejectAlias 1 w = s.wr 0x50 1 := by
  simp [State.rejectAlias, hw]

theorem State.rejectAlias_clear {s : State} {w : Word} (hw : bit w 0 = true) :
    s.rejectAlias 2 w = (s.wr 0x50 0).wr 0x5C 0 := by
  simp [State.rejectAlias, hw]

/-- A tail within the ring is stored, and no other register changes (R75). -/
theorem State.cmdqTail_stored {s : State} {w : Word} (h : fld w 0 8 < 2 ^ s.rf 0x108 0 4) :
    (s.cmdqTail w).rd 0x10C = wd (fld w 0 8) ∧ (∀ o, o ≠ 0x10C → (s.cmdqTail w).rd o = s.rd o) ∧
      s.cmdqTail w = { s with regs := (s.cmdqTail w).regs } := by
  rw [State.cmdqTail, if_pos h]
  exact ⟨by simp, fun o ho => by simp [ho], rfl⟩

/-- A tail outside the ring is a rejected write (R75). -/
theorem State.cmdqTail_rejected {s : State} {w : Word} (h : 2 ^ s.rf 0x108 0 4 ≤ fld w 0 8) :
    s.cmdqTail w = s.encReject 0x10C :=
  if_neg (Nat.not_lt.2 h)

/-- A register after a rejected write is noted: cmd_reject is set, the rejection counted, and the offset of the first
kept (R77, R78). -/
@[simp] theorem State.rd_noteReject (off : Nat) (s : State) (o : Nat) :
    (s.noteReject off).rd o =
      if o = 0x5C then
        if s.rf 0x5C 26 6 = 0 then wd (2 ^ 26 + off) else setFld (s.rd 0x5C) 26 6 (satAdd 63 (s.rf 0x5C 26 6) 1)
      else if o = 0x50 then 1 else s.rd o := by
  by_cases h : s.rf 0x5C 26 6 = 0 <;> simp [State.noteReject, State.setf, h]

/-- The record of a rejected write changes no register. -/
@[simp] theorem State.rd_encReject (off : Nat) (s : State) (o : Nat) :
    (s.encReject off).rd o = (s.noteReject off).rd o := by
  simp [State.encReject, State.rd]

/-- A one-bit field holds the bit stored there. -/
theorem bit_setFld_fld_one (u w : Word) {i : Nat} (hi : i < 32) : bit (setFld u i 1 (fld w i 1)) i = bit w i := by
  have hmask : ((2 ^ 1 - 1) <<< i).testBit i = true := by simp [Nat.testBit_shiftLeft]
  have hval : ((w.toNat >>> i % 2 ^ 1 % 2 ^ 1) <<< i).testBit i = w.toNat.testBit i := by
    simp [Nat.testBit_shiftLeft]
  simp only [bit, setFld, fld, BitVec.getLsbD_or, BitVec.getLsbD_and, BitVec.getLsbD_not, BitVec.getLsbD_ofNat, hmask,
    hval, hi]
  simp [BitVec.getLsbD]

/-- Fields that are all defined are stored, and nothing is rejected (R17). -/
theorem State.storeFields_accepted {off : Nat} {fs : List FieldSpec} {w v : Word} {s : State}
    (h : writeFields (s.rd off) w fs = (v, false)) : s.storeFields off fs w = s.wr off v := by
  simp [State.storeFields, h]

/-- Clearing enable with the ring size kept zeroes head and tail at once (R76, log 10). -/
theorem State.cmdqCfg_disable {s : State} {w : Word} (he : s.rb 0x108 31 = true) (hw : bit w 31 = false)
    (hsize : fld w 0 4 = s.rf 0x108 0 4) (hmin : 4 ≤ fld w 0 4) (hmax : fld w 0 4 ≤ 8) :
    s.cmdqCfg w =
      ((s.wr 0x108 (setFld (setFld (s.rd 0x108) 0 4 (fld w 0 4)) 31 1 (fld w 31 1))).wr 0x10C 0).wr 0x110 0 := by
  have hfields : writeFields (s.rd 0x108) w [plainField 31 1, (0, 4, fun v => 4 ≤ v && v ≤ 8)] =
      (setFld (setFld (s.rd 0x108) 0 4 (fld w 0 4)) 31 1 (fld w 31 1), false) := by
    simp [writeFields, plainField, anyVal, hmin, hmax]
  rw [State.rb] at he
  rw [State.rf] at hsize
  simp [State.cmdqCfg, State.storeFields_accepted hfields, he, hw, ← hsize]

end Sys2Proof.Machine

section
open Sys2Proof Sys2Proof.Machine

/-- Settles O6: each row is the write of the register it names, and what that write stores is read off it. The ring is
stopped by the write itself, also while a command executes (log 10). -/
theorem commandQueueRegisters : Obligations.CommandQueueRegisters := by
  unfold Obligations.CommandQueueRegisters
  intro yw w s
  refine ⟨fun ho hlt => ⟨_, exec_cmdqTail yw w ho, State.cmdqTail_stored hlt⟩,
    fun f e ho hlt => ⟨_, exec_registerWrite_cmdqTail yw w f e ho, State.cmdqTail_stored hlt⟩,
    ?set, ?clear, ?reject, ?disable⟩
  case set =>
    intro ho hw
    refine ⟨_, exec_stickySet_modReject yw w ho, ?_⟩
    rw [State.rejectAlias_set hw]
    exact ⟨by simp, fun o h => by simp [h], rfl⟩
  case clear =>
    intro ho hw
    refine ⟨_, exec_stickyClear_modReject yw w ho, ?_⟩
    rw [State.rejectAlias_clear hw]
    exact ⟨by simp, by simp, fun o h50 h5C => by simp [h50, h5C], rfl⟩
  case reject =>
    intro ho hge
    refine ⟨_, exec_cmdqTail yw w ho, State.cmdqTail_rejected hge, ?_⟩
    rw [State.cmdqTail_rejected hge]
    exact ⟨by simp, by simp, fun hfirst => by simp [hfirst]⟩
  case disable =>
    intro ho he hw hsize hmin hmax
    refine ⟨_, exec_cmdqCfg yw w ho, ?_⟩
    rw [State.cmdqCfg_disable he hw hsize hmin hmax]
    exact ⟨by simp [State.rb, bit_setFld_fld_one, hw], by simp, by simp, rfl⟩

end

namespace Sys2Proof.Machine
open Sys2Proof

/-! ### The command executor: idle rows and completion (R62 to R66) -/

theorem State.executing_of_exec {s : State} {c : Cmd} {op : Nat} (hx : s.ctl.exec = some c) (ho : c.opcode = op) :
    s.executing op = some c := by
  simp [State.executing, hx, ho]

theorem State.running_of_executing {s : State} {c : Cmd} {op : Nat} (h : s.executing op = some c)
    (f : Cmd → State → State) : s.running op f = f c s := by
  simp [State.running, h]

/-- A row that runs an opcode does nothing while that opcode is not the one executing (R65, R66). -/
theorem exec_idle {i : Instr} {op : Nat} {f : Cmd → State → State} {s : State}
    (hi : exec i s = .next (s.running op f)) (h : s.executing op = none) : exec i s = .next s := by
  simpa [State.running, h] using hi

theorem exec_unload_idle {s : State} (h : s.executing 3 = none) : exec .unload s = .next s := by
  have hi : exec .unload s = .next s.unload := rfl
  rw [hi, State.unload, h]

theorem exec_enterService_denied {s : State} {c : Cmd} (h : s.executing 7 = some c) (hcell : s.serviceCell = false) :
    exec .enterService s = .next (s.finish cDenied 0) :=
  congrArg Host.Outcome.next (by simp [State.enterService, State.running_of_executing h, hcell])

theorem exec_enterTest_denied {s : State} {c : Cmd} (h : s.executing 9 = some c) (hcell : s.testCell = false) :
    exec .enterTest s = .next (s.finish cDenied 0) :=
  congrArg Host.Outcome.next (by simp [State.enterTest, State.running_of_executing h, hcell])

theorem exec_moduleReset_denied {s : State} {c : Cmd} (h : s.executing 11 = some c) (hm : s.mode = .faultHold)
    (hcause : s.ctl.causePresent = true) : exec .moduleReset s = .next (s.finish cDenied 0) :=
  congrArg Host.Outcome.next (by simp [State.moduleReset, State.running_of_executing h, hm, hcause])

theorem State.beginNext_nil {s : State} (hw : s.ctl.waiting = []) : s.beginNext [] = s := by
  rw [State.beginNext, ← hw]

/-- With nothing waiting, the executing command completes and none follows it. -/
theorem State.finish_of_none_waiting {s : State} {c : Cmd} (hx : s.ctl.exec = some c) (hw : s.ctl.waiting = [])
    (status detail : Nat) :
    s.finish status detail = { s with ctl := { s.ctl with exec := none } }.respond c status detail := by
  have hwait : ({ s with ctl := { s.ctl with exec := none } }.respond c status detail).ctl.waiting = [] := by
    simp [hw]
  simp only [State.finish, hx, hwait]
  exact State.beginNext_nil hwait

/-- What has been sent stays sent. -/
theorem mem_out_of_kept {m : Nat} {s t : State} {o : Out} (h : Kept m s t) (ho : o ∈ s.out) : o ∈ t.out := by
  obtain ⟨-, -, -, -, hsent⟩ := h
  exact hsent.subset ho

/-- The completion of a host command is written to its entry, whatever is sent after it (R63, Table 2-6). -/
theorem State.hostWrite_mem_respond {s : State} {c : Cmd} {a : Nat} (ha : c.origin = .host a) (ho : s.hostOpen = true)
    (status detail : Nat) :
    Out.hostWrite a (leBytes 2 status ++ [1, 0] ++ leBytes 4 detail) ∈ (s.respond c status detail).out := by
  simp only [State.respond, ha, ho, if_true]
  exact mem_out_of_kept (State.modRecord_k (m := 0x2010003C000000) 0 status c.tag _ rfl (Kept.refl _ _))
    (List.mem_cons_self ..)

/-- A row that only finishes its command with DENIED leaves the executor idle in the same mode, and tells a host in
bytes 24 to 31 of the entry. -/
theorem after_denied {i : Instr} {s : State} {c : Cmd} (hx : s.ctl.exec = some c) (hw : s.ctl.waiting = [])
    (hi : exec i s = .next (s.finish cDenied 0)) :
    After i s fun t => t.ctl = { s.ctl with exec := none } ∧
      ∀ a, c.origin = .host a → s.hostOpen = true → Out.hostWrite a [5, 0, 1, 0, 0, 0, 0, 0] ∈ t.out := by
  rw [State.finish_of_none_waiting hx hw] at hi
  refine ⟨_, hi, by simp, fun a ha ho => ?_⟩
  have ho' : { s with ctl := { s.ctl with exec := none } }.hostOpen = true := ho
  exact State.hostWrite_mem_respond ha ho' cDenied 0

end Sys2Proof.Machine

section
open Sys2Proof Sys2Proof.Machine

/-- Settles O10: a refused mode command only finishes with DENIED, and every other row goes through the guard on the
opcode executing. -/
theorem idleAndDeniedCommands : Obligations.IdleAndDeniedCommands := by
  unfold Obligations.IdleAndDeniedCommands
  refine ⟨fun s c hx hw => ⟨fun hop hcell => ?_, fun hop hcell => ?_, fun hop hm hcause => ?_⟩, fun s => ?idle⟩
  · exact after_denied hx hw (exec_enterService_denied (State.executing_of_exec hx hop) hcell)
  · exact after_denied hx hw (exec_enterTest_denied (State.executing_of_exec hx hop) hcell)
  · exact after_denied hx hw (exec_moduleReset_denied (State.executing_of_exec hx hop) hm hcause)
  case idle =>
    exact ⟨exec_idle rfl, exec_unload_idle, exec_idle rfl, exec_idle rfl, exec_idle rfl, exec_idle rfl, exec_idle rfl,
      exec_idle rfl, exec_idle rfl, exec_idle rfl, exec_idle rfl, exec_idle rfl, exec_idle rfl, exec_idle rfl,
      exec_idle rfl, fun _ => exec_idle rfl, exec_idle rfl, exec_idle rfl, exec_idle rfl⟩

end

namespace Sys2Proof.Machine
open Sys2Proof

/-! ### Staged and committed writes of the node table (R153 to R155, R733) -/

/-- The words of entry `i` of the node table lie where R729 puts them: 32 bytes an entry from 0x0040_0000. -/
theorem Reg.ofOff_node {i k : Nat} (hi : i < 4096) (hk : k < 8) :
    Reg.ofOff (0x400000 + 0x20 * i + 4 * k) = some (.node i k) := by
  have hword : (0x400000 + 0x20 * i + 4 * k) % 4 = 0 := by omega
  have hmod : (0x400000 + 0x20 * i + 4 * k - 0x400000) % 0x20 = 4 * k := by omega
  have hdiv : (0x400000 + 0x20 * i + 4 * k - 0x400000) / 0x20 = i := by omega
  have hin : 0x400000 + 0x20 * i + 4 * k - 0x400000 < 0x20 * 4096 := by omega
  have hgrid : grid (0x400000 + 0x20 * i + 4 * k) 0x400000 0x20 8 4096 .node = some (.node i k) := by
    simp [grid, hmod, hdiv, hin]; omega
  rw [Reg.ofOff, if_neg (by omega), if_neg (by omega), if_neg (by omega), if_neg (by omega), if_pos (by omega),
    Reg.ofHigh, if_pos (by omega), hgrid]

/-- In the modes of R154 the node table is open to writes. -/
theorem State.open_node {i k : Nat} {s : State} (hi : i < 4096) (hk : k < 8) (hm : s.mode.setup = true) :
    s.open_ (0x400000 + 0x20 * i + 4 * k) = true := by
  have hfull : s.window (.node i k) = .full := by
    revert hm
    cases hmode : s.mode <;> simp [State.window, Reg.cluster, Mode.setup, hmode]
  simp [State.open_, Reg.ofOff_node hi hk, hfull]

theorem exec_nodeTableStage {i k : Nat} {s : State} (yw : Bool) (w : Word) (hi : i < 4096) (hk : k < 7)
    (hm : s.mode.setup = true) : exec (.nodeTableStage yw i k w) s = .next (s.nodeWrite (b2n yw) i k w) :=
  congrArg Host.Outcome.next (State.writeWord_of_open (r := .node i k) _ w (Reg.ofOff_node hi (by omega))
    (State.open_node hi (by omega) hm))

theorem exec_nodeTableCommit {i : Nat} {s : State} (yw : Bool) (w : Word) (hi : i < 4096)
    (hm : s.mode.setup = true) : exec (.nodeTableCommit yw i w) s = .next (s.nodeWrite (b2n yw) i 7 w) := by
  have hoff : 0x40001C + 0x20 * i = 0x400000 + 0x20 * i + 4 * 7 := by omega
  have hwrite : s.put yw (0x40001C + 0x20 * i) w = s.nodeWrite (b2n yw) i 7 w := by
    rw [hoff]
    exact State.writeWord_of_open (r := .node i 7) _ w (Reg.ofOff_node hi (by omega)) (State.open_node hi (by omega) hm)
  exact congrArg Host.Outcome.next hwrite

/-! Wide registers (R733). -/

/-- Clears what `link` has staged of words `js` of the register at `base`, as an applied commit does (R733). -/
def State.unstage (link base : Nat) (js : List Nat) (s : State) : State :=
  s.each js fun i t => t.setStaged link (base + 4 * i) none

theorem State.unstage_cons (link base j : Nat) (js : List Nat) (s : State) :
    s.unstage link base (j :: js) = (s.setStaged link (base + 4 * j) none).unstage link base js := rfl

theorem State.unstage_frame (link base : Nat) (js : List Nat) (s : State) :
    s.unstage link base js = { s with stage := (s.unstage link base js).stage } := by
  induction js generalizing s with
  | nil => rfl
  | cons j js ih => rw [State.unstage_cons, ih]; rfl

/-- Words that are not staged stay so, and those applied are no longer staged. -/
theorem State.unstage_none {link base : Nat} {js : List Nat} {s : State} {k : Nat}
    (h : (∃ j ∈ js, k = latchKey link (base + 4 * j)) ∨ s.stage.get (fun _ => none) k = none) :
    (s.unstage link base js).stage.get (fun _ => none) k = none := by
  induction js generalizing s with
  | nil => simpa [State.unstage, State.each] using h
  | cons j js ih =>
    refine ih ?_
    by_cases hk : k = latchKey link (base + 4 * j)
    · exact .inr (by simp [State.setStaged, Tbl.get_set, hk])
    · simpa [State.setStaged, Tbl.get_set, hk] using h

section
variable {link base n k : Nat} {v : Nat → Word} {w : Word} {commit : Nat → State → Option State}
  {refuse : State → State} {s : State}

theorem State.wideWrite_staged (hk : k + 1 < n) :
    s.wideWrite link base n k v w commit refuse = s.setStaged link (base + 4 * k) (some w) :=
  if_pos hk

/-- The number a write of the highest word commits. -/
def State.committed (s : State) (link base n : Nat) (v : Nat → Word) (w : Word) : Nat :=
  ofWords ((List.range (n - 1)).map (fun i => s.stagedWord link (base + 4 * i) (v i)) ++ [w])

theorem State.wideWrite_refused (hk : n ≤ k + 1) (hc : commit (s.committed link base n v w) s = none) :
    s.wideWrite link base n k v w commit refuse = refuse s := by
  rw [State.committed] at hc
  simp only [State.wideWrite, if_neg (Nat.not_lt.2 hk), hc]

theorem State.wideWrite_applied {t : State} (hk : n ≤ k + 1) (hc : commit (s.committed link base n v w) s = some t) :
    s.wideWrite link base n k v w commit refuse = t.unstage link base (List.range (n - 1)) := by
  rw [State.committed] at hc
  simp only [State.wideWrite, if_neg (Nat.not_lt.2 hk), hc, State.unstage]

end

/-! The commit of an entry (R155). -/

/-- A field of two bytes. -/
theorem leAt_two (bs : List Byte) (off : Nat) : leAt bs off 2 = byteAt bs off + 256 * byteAt bs (off + 1) := by
  have h0 : byteAt bs off = byteAt (bs.drop off) 0 := by simp [byteAt]
  have h1 : byteAt bs (off + 1) = byteAt (bs.drop off) 1 := by simp [byteAt]
  rw [h0, h1, leAt]
  match bs.drop off with
  | [] => rfl
  | [_] => simp [ofLe, byteAt]
  | _ :: _ :: _ => simp [ofLe, byteAt]

theorem byteAt_lt (bs : List Byte) (i : Nat) : byteAt bs i < 256 := BitVec.isLt _

/-- A reserved encoding commits nothing (R155). -/
theorem State.nodeCommit_reserved {i : Nat} {b : List Byte} {s : State}
    (h : 2 < (NodeEnt.ofBytes b).state ∨ 40 ≤ (NodeEnt.ofBytes b).channel ∨
      s.hasCluster ((NodeEnt.ofBytes b).channel / 10) = false ∨ 8 ≤ leAt b 22 2 ∨ leAt b 30 2 ≠ 0) :
    s.nodeCommit i b = none := by
  have hfield : leAt b 22 2 = byteAt b 22 + 256 * byteAt b 23 := leAt_two b 22
  have hdrift : 8 ≤ leAt b 22 2 → 8 ≤ byteAt b 22 ∨ byteAt b 23 ≠ 0 := by omega
  refine if_pos ?_
  simp only [Bool.or_eq_true, decide_eq_true_eq, Bool.not_eq_true']
  tauto

/-- Only a KNOWN entry drifts (R148). -/
theorem State.drift_of_not_known {i : Nat} {s : State} (h : (s.node i).state ≠ 2) : s.drift i = s := by
  simp [State.drift, State.each, h]

/-- A defined entry that is not KNOWN, committed over a FREE one, is stored as staged: no drift flag stands that its
commit could clear, and no drift is found (R148, log 98). -/
theorem State.nodeCommit_free {i : Nat} {b : List Byte} {s : State} (hold : s.node i = NodeEnt.free)
    (hstate : (NodeEnt.ofBytes b).state < 2) (hchan : (NodeEnt.ofBytes b).channel < 40)
    (hcl : s.hasCluster ((NodeEnt.ofBytes b).channel / 10) = true) (hdrift : leAt b 22 2 = 0)
    (hres : leAt b 30 2 = 0) : s.nodeCommit i b = some (s.setNode i (NodeEnt.ofBytes b)) := by
  have hfield : leAt b 22 2 = byteAt b 22 + 256 * byteAt b 23 := leAt_two b 22
  have hbytes : byteAt b 22 = 0 ∧ byteAt b 23 = 0 := by omega
  have hdefined : ¬ (2 < (NodeEnt.ofBytes b).state || 40 ≤ (NodeEnt.ofBytes b).channel ||
      !s.hasCluster ((NodeEnt.ofBytes b).channel / 10) || 8 ≤ byteAt b 22 || byteAt b 23 ≠ 0 ||
      leAt b 30 2 ≠ 0) = true := by
    simp [hbytes, hcl, hres]; omega
  have hkept : (s.setNode i (NodeEnt.ofBytes b)).drift i = s.setNode i (NodeEnt.ofBytes b) :=
    State.drift_of_not_known (by simp; omega)
  rw [State.nodeCommit, if_neg hdefined, hold]
  exact congrArg some hkept

/-- A staged word waits for its link and changes nothing else (R153, R733). -/
theorem State.nodeWrite_staged {link i k : Nat} {w : Word} {s : State} (hk : k < 7) :
    s.nodeWrite link i k w = s.setStaged link (0x400000 + 0x20 * i + 4 * k) (some w) := by
  rw [State.nodeWrite, State.wideWrite_staged (by omega)]

/-- The bytes that a commit of entry `i` with highest word `w` gives. -/
def State.committedNode (s : State) (link i : Nat) (w : Word) : List Byte :=
  leBytes 32 (s.committed link (0x400000 + 0x20 * i) 8 (fun j => wordAt (s.node i).bytes j) w)

theorem State.nodeWrite_refused {link i : Nat} {w : Word} {s : State} (hm : s.mode.setup = true)
    (hc : s.nodeCommit i (s.committedNode link i w) = none) :
    s.nodeWrite link i 7 w = s.encReject (0x400000 + 0x20 * i + 0x1C) := by
  rw [State.nodeWrite, State.wideWrite_refused (by omega) (by rw [if_pos hm]; exact hc), State.refuseSetup, if_pos hm]

theorem State.nodeWrite_applied {link i : Nat} {w : Word} {s t : State} (hm : s.mode.setup = true)
    (hc : s.nodeCommit i (s.committedNode link i w) = some t) :
    s.nodeWrite link i 7 w = t.unstage link (0x400000 + 0x20 * i) (List.range 7) := by
  rw [State.nodeWrite, State.wideWrite_applied (by omega) (by rw [if_pos hm]; exact hc)]

theorem State.node_unstage_setNode (link base : Nat) (js : List Nat) (i j : Nat) (e : NodeEnt) (s : State) :
    ((s.setNode i e).unstage link base js).node j = if j = i then e else s.node j := by
  rw [State.unstage_frame]
  exact State.node_setNode i j e s

/-- A committed entry changes the node table and its link's staging only. -/
theorem State.unstage_setNode_frame (link base : Nat) (js : List Nat) (i : Nat) (e : NodeEnt) (s : State) :
    (s.setNode i e).unstage link base js = { s with
      nodes := ((s.setNode i e).unstage link base js).nodes
      stage := ((s.setNode i e).unstage link base js).stage } := by
  rw [State.unstage_frame]
  rfl

end Sys2Proof.Machine

section
open Sys2Proof Sys2Proof.Machine

/-- Settles O36: each row is a write of the node table's wide register (R733), and the commit that it makes is refused
or stores the entry. A refused commit is recorded under the entry's highest word (log 9), and one over a FREE entry
copies no mean to a reference (log 98). -/
theorem nodeTable : Obligations.NodeTable := by
  unfold Obligations.NodeTable
  intro s yw i k w hi hm base v e
  refine ⟨fun hk => ?stage, fun hold hstate hchan hcl hdrift hres => ?commit, fun hbad => ?reserved⟩
  case stage =>
    refine ⟨_, exec_nodeTableStage yw w hi hk hm, ?_⟩
    rw [State.nodeWrite_staged hk]
    exact ⟨by simp [State.setStaged, Tbl.get_set, base], rfl⟩
  case commit =>
    refine ⟨_, exec_nodeTableCommit yw w hi hm, ?_⟩
    rw [State.nodeWrite_applied hm (State.nodeCommit_free hold hstate hchan hcl hdrift hres)]
    refine ⟨?_, fun j hj => ?_, fun j hj => State.unstage_none (.inl ⟨j, List.mem_range.2 hj, rfl⟩),
      State.unstage_setNode_frame ..⟩
    · exact (State.node_unstage_setNode ..).trans (if_pos rfl)
    · exact (State.node_unstage_setNode ..).trans (if_neg hj)
  case reserved =>
    rw [exec_nodeTableCommit yw w hi hm, State.nodeWrite_refused hm (State.nodeCommit_reserved hbad)]

end

namespace Sys2Proof.Machine
open Sys2Proof

/-! ### Words of POOL_MBOP (Table 6-9) -/

section
variable {op i : Nat} {onFifo : Bool}

theorem toNat_mbopWord (hop : op < 16) (hi : i < 65536) :
    (mbopWord op onFifo i).toNat = op * 2 ^ 28 + b2n onFifo * 2 ^ 16 + i := by
  cases onFifo <;> simp [mbopWord, wd, b2n] <;> omega

theorem fld_mbopWord_op (hop : op < 16) (hi : i < 65536) : fld (mbopWord op onFifo i) 28 4 = op := by
  rw [fld, toNat_mbopWord hop hi, Nat.shiftRight_eq_div_pow]
  cases onFifo <;> simp [b2n] <;> omega

theorem fld_mbopWord_reserved (hop : op < 16) (hi : i < 65536) : fld (mbopWord op onFifo i) 17 11 = 0 := by
  rw [fld, toNat_mbopWord hop hi, Nat.shiftRight_eq_div_pow]
  cases onFifo <;> simp [b2n] <;> omega

theorem fld_mbopWord_arg (hop : op < 16) (hi : i < 65536) : fld (mbopWord op onFifo i) 0 16 = i := by
  rw [fld, toNat_mbopWord hop hi, Nat.shiftRight_eq_div_pow]
  cases onFifo <;> simp [b2n] <;> omega

theorem bit_mbopWord_onFifo (hop : op < 16) (hi : i < 65536) : bit (mbopWord op onFifo i) 16 = onFifo := by
  rw [bit, BitVec.getLsbD, toNat_mbopWord hop hi, Nat.testBit_eq_decide_div_mod_eq]
  cases onFifo <;> simp [b2n] <;> omega

end

/-! ### Reads of a record by COMMIT (R248, R234 to R236) -/

theorem State.rd_readCells_of_ne {e : RecEcc} {s : State} {o : Nat} (hce : o ≠ 0x4010) (hue : o ≠ 0x4014) :
    (s.readCells e).rd o = s.rd o := by
  have hcount : (s.noteCe e.corrected).rd o = s.rd o := by
    by_cases hn : e.corrected = 0 <;> simp [State.noteCe, State.cntF, State.setf, hn, hce]
  have hmod : ∀ (t : State) (a b c : Nat), (t.modRecord a b c).rd o = t.rd o := by simp [State.rd]
  cases hu : e.ue <;> simp [State.readCells, State.noteUe, hu, hue, hmod, hcount]

@[simp] theorem State.descs_readCells (e : RecEcc) (s : State) : (s.readCells e).descs = s.descs :=
  (State.readCells_k e s rfl (Kept.refl 0x2010003C000008 s)).same .descs rfl

@[simp] theorem State.desc_readCells (e : RecEcc) (s : State) (k : Nat) : (s.readCells e).desc k = s.desc k := by
  simp [State.desc]

theorem State.getBytes_congr {s t : State} (h : t.mem = s.mem) (a n : Nat) : t.getBytes a n = s.getBytes a n := by
  induction n generalizing a with
  | zero => rfl
  | succ n ih => simp [State.getBytes, State.cellByte, h, ih]

theorem State.cellBytes_congr {s t : State} (h : t.mem = s.mem) (cs : List Nat) : t.cellBytes cs = s.cellBytes cs := by
  induction cs with
  | nil => rfl
  | cons c cs ih => simp [State.cellBytes, State.getBytes_congr h, ih]

/-- What a read finds in error leaves the record's bytes as stored (log 99). -/
theorem State.recBytes_readCells (e : RecEcc) (s : State) (c : Nat) : (s.readCells e).recBytes c = s.recBytes c := by
  have hk := State.readCells_k e s rfl (Kept.refl 0x2010003C000008 s)
  have hrec : (s.readCells e).record c = s.record c := congrArg (Tbl.get (fun _ => none) · c) (hk.same .recs rfl)
  rw [State.recBytes, State.recBytes, hrec]
  cases s.record c with
  | none => rfl
  | some r => exact State.cellBytes_congr (hk.same .mem rfl) r.cells

theorem State.rb_busBase_readCells (e : RecEcc) (s : State) (n k : Nat) :
    (s.readCells e).rb (busBase n) k = s.rb (busBase n) k := by
  have hbase : 0x1000000 ≤ busBase n := by unfold busBase clusterBase; omega
  rw [State.rb, State.rb, State.rd_readCells_of_ne (by omega) (by omega)]

@[simp] theorem State.commitOk_readCells (e : RecEcc) (s : State) (d : Desc) :
    (s.readCells e).commitOk d = s.commitOk d := by
  simp [State.commitOk, State.formatOn, State.recBytes_readCells, State.rb_busBase_readCells]

/-! ### What the operations leave of descriptors and FIFOs -/

@[simp] theorem State.descs_dropOpt (r : Option Nat) (s : State) : (s.dropOpt r).descs = s.descs :=
  (State.dropOpt_k r s rfl (Kept.refl 0x2010103C001988 s)).same .descs rfl

@[simp] theorem State.fifos_dropOpt (r : Option Nat) (s : State) : (s.dropOpt r).fifos = s.fifos :=
  (State.dropOpt_k r s rfl (Kept.refl 0x2010103C001988 s)).same .fifos rfl

@[simp] theorem State.descs_setHw (hw : Bool) (r : Option Nat) (s : State) : (s.setHw hw r).descs = s.descs :=
  (State.setHw_k hw r s rfl (Kept.refl 0x80 s)).same .descs rfl

@[simp] theorem State.descs_commitHeader (r : Nat) (s : State) : (s.commitHeader r).descs = s.descs :=
  (State.commitHeader_k r s rfl (Kept.refl 0x40 s)).same .descs rfl

theorem State.descs_setDesc (i : Nat) (d : Desc) (s : State) :
    (s.setDesc i d).descs = s.descs.set (fun _ => Desc.unused) i d := rfl

/-- Whatever else a row changes, its table of descriptors says which descriptor it set. -/
theorem descSet_of_descs {i : Nat} {x : Desc} {s t : State} (h : t.descs = (s.setDesc i x).descs) :
    DescSet i x s t := by
  have hdesc : ∀ j, t.desc j = if j = i then x else s.desc j := fun j =>
    (congrArg (Tbl.get (fun _ => Desc.unused) · j) h).trans (State.desc_setDesc i j x s)
  exact ⟨by simp [hdesc], fun j hj => by simp [hdesc, hj]⟩

theorem State.publish_descSet (i r : Nat) (d : Desc) (s : State) :
    DescSet i { d with current := some r, state := .new, damaged := false } s (s.publish i r d) :=
  descSet_of_descs (by simp [State.publish])

theorem State.unlockMailbox_of_no_shadow {ack : Bool} {i : Nat} {s : State} (h : (s.desc i).shadow = none) :
    s.unlockMailbox ack i = s.setDesc i { s.desc i with
      locked := false, state := if ack && (s.desc i).state == .new then .seen else (s.desc i).state } := by
  by_cases hack : (ack && (s.desc i).state == .new) = true <;> simp [State.unlockMailbox, hack, h]

/-- The promoted shadow is an arrival at a mailbox that the ACK has left SEEN: it overwrites nothing unread (R242). -/
theorem State.unlockMailbox_ack_promotes {i r : Nat} {s : State} (hsh : (s.desc i).shadow = some r)
    (hst : (s.desc i).state = .new) :
    s.unlockMailbox true i = s.publish i r { s.desc i with state := .seen, locked := false, shadow := none } := by
  simp [State.unlockMailbox, hsh, hst]

theorem State.fifoAdvance_fifo (f : Nat) (s : State) :
    (s.fifoAdvance f).fifo f = { s.fifo f with
      head := ((s.fifo f).head + 1) % (s.fifo f).depth, count := (s.fifo f).count - 1 } := by
  rw [State.fifoAdvance, State.fifo, State.fifos_dropOpt]
  exact (State.fifo_setFifo f f _ _).trans (if_pos rfl)

theorem State.fifoAdvance_descSet (f : Nat) (s : State) :
    DescSet ((s.fifo f).at 0) { s.desc ((s.fifo f).at 0) with
      current := none, state := .empty, locked := false, damaged := false } s (s.fifoAdvance f) :=
  descSet_of_descs (by simp [State.fifoAdvance])

theorem State.commitStatic_loaded_descs {i : Nat} {s : State} (h : (s.desc i).state = .loaded) :
    (s.commitStatic i).descs = (s.setDesc i { s.desc i with commitPending := true }).descs := by
  simp [State.commitStatic, h, State.descs_setDesc]

theorem State.commitStatic_swapped_descs {i : Nat} {s : State} (h : (s.desc i).state ≠ .loaded) :
    (s.commitStatic i).descs = (s.setDesc i { s.desc i with
      state := if (s.desc i).state = .empty then .idle else (s.desc i).state
      current := (s.desc i).shadow, shadow := (s.desc i).current, damaged := false }).descs := by
  simp [State.commitStatic, State.swapStatic, h, State.descs_setDesc, Tbl.set_set]

theorem State.triggerStatic_idle {i : Nat} {s : State} (hst : (s.desc i).state = .idle)
    (hctl : (s.lane (s.desc i).bindIndex).ctl ≠ .quiet) (hre : s.reconf ((s.desc i).bindIndex / 10) = false) :
    (s.triggerStatic i).2 = (s.setDesc i { s.desc i with state := .ready }).setLane (s.desc i).bindIndex
      { s.lane (s.desc i).bindIndex with ready := (s.lane (s.desc i).bindIndex).ready ++ [i] } := by
  simp [State.triggerStatic, hst, hctl, hre]

theorem State.triggerStatic_not_idle {i : Nat} {s : State} (h : (s.desc i).state ≠ .idle) :
    (s.triggerStatic i).2 = s.setDesc i (s.desc i).lose := by
  simp [State.triggerStatic, h]

/-! ### The operations Table 6-8 permits, and those it does not (R251) -/

section
variable {i : Nat} {s : State}

theorem State.bufferOp_lock {f : Bool} (h : (s.desc i).kind = .rxMailbox) :
    s.bufferOp 1 f i = some (s.setDesc i { s.desc i with locked := true }) := by
  simp [State.bufferOp, h]

theorem State.bufferOp_release_unlocked {f : Bool} (h : (s.desc i).locked = false) : s.bufferOp 2 f i = none := by
  simp [State.bufferOp, h]

theorem State.bufferOp_release_mailbox {f : Bool} (hk : (s.desc i).kind = .rxMailbox) (hl : (s.desc i).locked = true) :
    s.bufferOp 2 f i = some (s.unlockMailbox false i) := by
  simp [State.bufferOp, hk, hl]

theorem State.bufferOp_release_fifo {f : Bool} (hk : (s.desc i).kind = .rxFifo) (hl : (s.desc i).locked = true) :
    s.bufferOp 2 f i = some (s.setDesc i { s.desc i with locked := false }) := by
  simp [State.bufferOp, hk, hl]

theorem State.bufferOp_ack_mailbox {f : Bool} (hk : (s.desc i).kind = .rxMailbox) (hl : (s.desc i).locked = true) :
    s.bufferOp 3 f i = some (s.unlockMailbox true i) := by
  simp [State.bufferOp, hk, hl]

theorem State.bufferOp_pop {f : Bool} (hi : i < 1024) (hc : 0 < (s.fifo i).count) :
    s.bufferOp 4 f i = some (s.fifoAdvance i) := by
  simp [State.bufferOp, hi, hc]

theorem State.bufferOp_pop_refused {f : Bool} (h : 1024 ≤ i ∨ (s.fifo i).count = 0) : s.bufferOp 4 f i = none := by
  simp only [State.bufferOp, Bool.and_eq_true, decide_eq_true_eq]
  exact if_neg (by omega)

theorem State.bufferOp_commit {f : Bool} (hk : (s.desc i).kind = .txStatic) (hp : (s.desc i).commitPending = false)
    (hok : s.commitOk (s.desc i) = true) : s.bufferOp 5 f i = some (s.commitStatic i) := by
  simp [State.bufferOp, hk, hp, hok]

theorem State.bufferOp_trigger {f : Bool} (hk : (s.desc i).kind = .txStatic) (hst : (s.desc i).state ≠ .empty) :
    s.bufferOp 6 f i = some (s.triggerStatic i).2 := by
  simp [State.bufferOp, hk, hst]

theorem State.bufferOp_clearOverrun_desc (h : (s.desc i).kind ≠ .unused) :
    s.bufferOp 7 false i = some (s.setDesc i { s.desc i with overrun := 0 }) := by
  simp [State.bufferOp, h]

theorem State.bufferOp_clearOverrun_fifo (hi : i < 1024) (hd : 0 < (s.fifo i).depth) :
    s.bufferOp 7 true i = some (s.wr (0x10008 + 0x10 * i) 0) := by
  simp [State.bufferOp, hi, hd, fifoOvr]

end

/-! ### Writes of POOL_MBOP in a mode that takes them (R250) -/

section
variable {op i : Nat} {onFifo : Bool} {s : State}

/-- A word without reserved bits asks for its operation; on a FIFO only CLEAR_OVERRUN is asked for so (Table 6-9). -/
theorem State.mbop_mbopWord {cells : RecEcc} (hop : op < 16) (hi : i < 65536) (hf : onFifo = true → op = 7) :
    s.mbop cells (mbopWord op onFifo i) =
      let t := if op = 5 ∧ (s.desc i).kind = .txStatic ∧ (s.desc i).commitPending = false then s.readCells cells
        else s
      (t.bufferOp op onFifo i).getD (t.encReject 0x4000) := by
  have hform : ¬(onFifo && op != 7) = true := by simpa using hf
  simp only [State.mbop, fld_mbopWord_op hop hi, fld_mbopWord_reserved hop hi, fld_mbopWord_arg hop hi,
    bit_mbopWord_onFifo hop hi, hform]
  generalize (if op = 5 ∧ (s.desc i).kind = .txStatic ∧ (s.desc i).commitPending = false then s.readCells cells
    else s) = t
  cases t.bufferOp op onFifo i <;> rfl

theorem State.writeWord_mbop {env : WriteEnv} (w : Word) (ho : s.open_ 0x4000 = true) (hm : s.mode.live = true) :
    s.writeWord env 0x4000 15 w = s.mbop env.meets.finds.cells w := by
  rw [State.writeWord_of_open (r := .poolMbop) env w rfl ho]
  exact if_pos hm

/-- Any operation but COMMIT is performed on the state as the write finds it. -/
theorem State.put_mbopWord {yw : Bool} (ho : s.open_ 0x4000 = true) (hm : s.mode.live = true) (hop : op < 16)
    (hne : op ≠ 5) (hi : i < 65536) (hf : onFifo = true → op = 7) :
    s.put yw 0x4000 (mbopWord op onFifo i) = (s.bufferOp op onFifo i).getD (s.encReject 0x4000) := by
  rw [State.put, State.writeWord_mbop _ ho hm, State.mbop_mbopWord hop hi hf]
  simp [hne]

/-- A row of POOL_MBOP other than COMMIT that Table 6-8 permits. -/
theorem exec_of_bufferOp {c : Instr} {yw : Bool} {t : State}
    (hc : exec c s = .next (s.put yw 0x4000 (mbopWord op onFifo i))) (ho : s.open_ 0x4000 = true)
    (hm : s.mode.live = true) (hi : i < 65536) (hdone : s.bufferOp op onFifo i = some t)
    (hop : op < 16 := by decide) (hne : op ≠ 5 := by decide) (hf : onFifo = true → op = 7 := by decide) :
    exec c s = .next t := by
  rw [hc, State.put_mbopWord ho hm hop hne hi hf, hdone, Option.getD_some]

/-- One that it does not permit is a rejected write and changes nothing else (R251). -/
theorem exec_of_bufferOp_none {c : Instr} {yw : Bool}
    (hc : exec c s = .next (s.put yw 0x4000 (mbopWord op onFifo i))) (ho : s.open_ 0x4000 = true)
    (hm : s.mode.live = true) (hi : i < 65536) (hdone : s.bufferOp op onFifo i = none)
    (hop : op < 16 := by decide) (hne : op ≠ 5 := by decide) (hf : onFifo = true → op = 7 := by decide) :
    exec c s = .next (s.encReject 0x4000) := by
  rw [hc, State.put_mbopWord ho hm hop hne hi hf, hdone, Option.getD_none]

/-- A permitted COMMIT reads the shadow record's cells, then commits (R248). -/
theorem exec_commit {yw : Bool} {cells : RecEcc} (ho : s.open_ 0x4000 = true) (hm : s.mode.live = true)
    (hi : i < 65536) (hk : (s.desc i).kind = .txStatic) (hp : (s.desc i).commitPending = false)
    (hok : s.commitOk (s.desc i) = true) :
    exec (.commit yw ⟨i, cells⟩) s = .next ((s.readCells cells).commitStatic i) := by
  have hdone : (s.readCells cells).bufferOp 5 false i = some ((s.readCells cells).commitStatic i) :=
    State.bufferOp_commit (by simpa using hk) (by simpa using hp) (by simpa using hok)
  refine congrArg Host.Outcome.next ((State.writeWord_mbop _ ho hm).trans ?_)
  rw [State.mbop_mbopWord (by decide) hi (by decide), if_pos ⟨rfl, hk, hp⟩]
  exact congrArg (Option.getD · _) hdone

end

end Sys2Proof.Machine

section
open Sys2Proof Sys2Proof.Machine

/-- Settles O37: each row is the write of its POOL_MBOP word, Table 6-8 says what that word asks of the descriptor or
FIFO or that it is refused, and the records released on the way touch no descriptor or FIFO. The record that COMMIT
checks is read as stored (log 99). -/
theorem bufferOperations : Obligations.BufferOperations := by
  unfold Obligations.BufferOperations
  intro s yw i cells ho hm hi d
  subst d
  refine ⟨fun hk => exec_of_bufferOp rfl ho hm hi (State.bufferOp_lock hk), ?unlock,
    fun hk hl => exec_of_bufferOp rfl ho hm hi (State.bufferOp_release_fifo hk hl),
    fun hl => exec_of_bufferOp_none rfl ho hm hi (State.bufferOp_release_unlocked hl), ?promote, ?pop,
    fun h => exec_of_bufferOp_none rfl ho hm hi (State.bufferOp_pop_refused h), ?commit, ?trigger, ?overrun,
    fun hk => exec_of_bufferOp rfl ho hm hi (State.bufferOp_clearOverrun_desc hk),
    fun hf hd => exec_of_bufferOp rfl ho hm hi (State.bufferOp_clearOverrun_fifo hf hd)⟩
  case unlock =>
    intro hk hl hsh
    refine ⟨exec_of_bufferOp rfl ho hm hi ?_, exec_of_bufferOp rfl ho hm hi ?_⟩
    · rw [State.bufferOp_release_mailbox hk hl, State.unlockMailbox_of_no_shadow hsh]
      rfl
    · rw [State.bufferOp_ack_mailbox hk hl, State.unlockMailbox_of_no_shadow hsh]
      simp
  case promote =>
    intro r hk hl hsh hst
    refine ⟨_, exec_of_bufferOp rfl ho hm hi (State.bufferOp_ack_mailbox hk hl), ?_⟩
    rw [State.unlockMailbox_ack_promotes hsh hst]
    exact State.publish_descSet ..
  case pop =>
    intro hf hc
    refine ⟨_, exec_of_bufferOp rfl ho hm hi (State.bufferOp_pop hf hc), State.fifoAdvance_fifo i s, ?_⟩
    exact State.fifoAdvance_descSet i s
  case commit =>
    intro hk hp hok
    refine ⟨fun hst => ⟨_, exec_commit ho hm hi hk hp hok, descSet_of_descs ?_⟩,
      fun hst => ⟨_, exec_commit ho hm hi hk hp hok, descSet_of_descs ?_⟩⟩
    · rw [State.commitStatic_loaded_descs (by simpa using hst)]
      simp [State.descs_setDesc]
    · rw [State.commitStatic_swapped_descs (by simpa using hst)]
      simp [State.descs_setDesc]
  case trigger =>
    intro hk hst hctl hre
    refine exec_of_bufferOp rfl ho hm hi ?_
    rw [State.bufferOp_trigger hk (by simp [hst]), State.triggerStatic_idle hst hctl hre]
  case overrun =>
    intro hk hst
    have hstate : (s.desc i).state ≠ .empty ∧ (s.desc i).state ≠ .idle := by
      rcases hst with h | h <;> simp [h]
    refine exec_of_bufferOp rfl ho hm hi ?_
    rw [State.bufferOp_trigger hk hstate.1, State.triggerStatic_not_idle hstate.2]
    rfl

end

namespace Sys2Proof.Machine
open Sys2Proof

/-! ### Bytes of a number (R11) -/

@[simp] theorem length_leBytes (k n : Nat) : (leBytes k n).length = k := by
  induction k generalizing n with
  | zero => rfl
  | succ k ih => simp [leBytes, ih]

theorem ofLe_lt (bs : List Byte) : ofLe bs < 256 ^ bs.length := by
  induction bs with
  | nil => simp [ofLe]
  | cons b bs ih =>
    have hb : b.toNat < 256 := b.isLt
    rw [ofLe, List.length_cons, pow_succ]
    omega

theorem leAt_lt (bs : List Byte) (off n : Nat) : leAt bs off n < 256 ^ n :=
  (ofLe_lt _).trans_le (Nat.pow_le_pow_right (by decide) (by simp))

theorem leAt_drop (bs : List Byte) (k off n : Nat) : leAt (bs.drop k) off n = leAt bs (k + off) n := by
  simp [leAt, List.drop_drop]

/-- The bytes of a number that fits in them spell it again. -/
theorem ofLe_leBytes {k n : Nat} (h : n < 256 ^ k) : ofLe (leBytes k n) = n := by
  induction k generalizing n with
  | zero => simp [leBytes, ofLe]; omega
  | succ k ih =>
    have hdiv : n / 256 < 256 ^ k := Nat.div_lt_of_lt_mul (by rwa [pow_succ, mul_comm] at h)
    rw [leBytes, ofLe, ih hdiv, BitVec.toNat_ofNat]
    omega

/-- A byte string cut or padded piece by piece. -/
theorem fitBytes_add (a k : Nat) (bs : List Byte) : fitBytes (a + k) bs = fitBytes a bs ++ fitBytes k (bs.drop a) := by
  induction a generalizing bs with
  | zero => simp [fitBytes]
  | succ a ih =>
    cases bs with
    | nil => simp [fitBytes]
    | cons b bs => simpa [fitBytes, Nat.succ_add] using ih bs

theorem fitBytes_of_length {n : Nat} {bs : List Byte} (h : bs.length = n) : fitBytes n bs = bs := by
  subst h
  simp [fitBytes]

/-- A first part of the length asked for is all that is kept. -/
theorem fitBytes_append {n : Nat} {bs cs : List Byte} (h : bs.length = n) : fitBytes n (bs ++ cs) = bs := by
  subst h
  simp [fitBytes]

/-- The bytes of the number that a byte string spells are that string, cut or padded. -/
theorem leBytes_ofLe (k : Nat) (bs : List Byte) : leBytes k (ofLe bs) = fitBytes k bs := by
  induction k generalizing bs with
  | zero => simp [leBytes, fitBytes]
  | succ k ih =>
    cases bs with
    | nil => simpa [leBytes, ofLe, fitBytes, List.replicate_succ] using ih []
    | cons b bs =>
      have hlow : BitVec.ofNat 8 (b.toNat + 256 * ofLe bs) = b := by
        apply BitVec.eq_of_toNat_eq
        have hb : b.toNat < 256 := b.isLt
        rw [BitVec.toNat_ofNat]
        omega
      have hhigh : (b.toNat + 256 * ofLe bs) / 256 = ofLe bs := by
        have hb : b.toNat < 256 := b.isLt
        omega
      rw [ofLe, leBytes, hlow, hhigh, ih]
      simp [fitBytes]

theorem leBytes_leAt (bs : List Byte) (off n : Nat) : leBytes n (leAt bs off n) = fitBytes n (bs.drop off) := by
  rw [leAt, leBytes_ofLe, fitBytes, fitBytes, List.take_take, Nat.min_self, List.length_take]
  congr 2
  omega

@[simp] theorem length_actBlock_bytes (a : ActBlock) : a.bytes.length = 16 := by
  simp [ActBlock.bytes]

/-! ### Staging words of a slice (R331) -/

theorem State.stageWord_wr (c w k : Nat) (v : Word) (s : State) :
    (s.wr (fltBase c + 0x40 + 4 * w) v).stageWord c k = if k = w then v.toNat else s.stageWord c k := by
  have hoff : fltBase c + 0x40 + 4 * k = fltBase c + 0x40 + 4 * w ↔ k = w := by omega
  simp only [State.stageWord, State.rd_wr, hoff]
  split <;> rfl

/-- The staging words after a byte string is written to `n` of them from word `w` on. -/
theorem State.stageWord_setStage (c w n k : Nat) (b : List Byte) (s : State) :
    (State.setStage c w b n s).stageWord c k =
      if w ≤ k ∧ k < w + n then leAt b (4 * (k - w)) 4 else s.stageWord c k := by
  fun_induction State.setStage c w b n s with
  | case1 w b s => rw [if_neg (by omega)]
  | case2 w b n s ih =>
    rw [ih, leAt_drop, State.stageWord_wr]
    by_cases hrest : w + 1 ≤ k ∧ k < w + 1 + n
    · rw [if_pos hrest, if_pos (by omega)]
      congr 1
      omega
    · rw [if_neg hrest]
      by_cases hk : k = w
      · have hlt := leAt_lt b 0 4
        rw [if_pos hk, if_pos (by omega), hk, Nat.sub_self, wd, BitVec.toNat_ofNat]
        exact Nat.mod_eq_of_lt hlt
      · rw [if_neg hk, if_neg (by omega)]

/-- Bytes staged from word `w` on are the string written there, cut or padded. -/
theorem State.stageBytes_setStage {c w n m : Nat} (b : List Byte) (s : State) (hm : m ≤ n) :
    (State.setStage c w b n s).stageBytes c w m = fitBytes (4 * m) b := by
  induction m with
  | zero => simp [State.stageBytes, fitBytes]
  | succ m ih =>
    have hinit := ih (by omega)
    rw [State.stageBytes] at hinit
    rw [State.stageBytes, List.range_succ, List.flatMap_append, hinit, List.flatMap_singleton,
      State.stageWord_setStage, if_pos (by omega), Nat.add_sub_cancel_left, leBytes_leAt, Nat.mul_succ, fitBytes_add]

theorem State.stageBytes_congr {c w m : Nat} {s t : State}
    (h : ∀ k, w ≤ k → k < w + m → t.stageWord c k = s.stageWord c k) :
    t.stageBytes c w m = s.stageBytes c w m := by
  refine List.flatMap_congr fun i hi => ?_
  rw [h (w + i) (by omega) (by have := List.mem_range.1 hi; omega)]

/-- Words staged from `w` on leave the bytes below them. -/
theorem State.stageBytes_setStage_below {c w n k m : Nat} (b : List Byte) (s : State) (h : k + m ≤ w) :
    (State.setStage c w b n s).stageBytes c k m = s.stageBytes c k m :=
  State.stageBytes_congr fun j _ hj => by rw [State.stageWord_setStage, if_neg (by omega)]

theorem State.stageBytes_wr_above {c w k m : Nat} (v : Word) (s : State) (h : k + m ≤ w) :
    (s.wr (fltBase c + 0x40 + 4 * w) v).stageBytes c k m = s.stageBytes c k m :=
  State.stageBytes_congr fun j _ hj => by rw [State.stageWord_wr, if_neg (by omega)]

@[simp] theorem State.slices_setStage (c w n : Nat) (b : List Byte) (s : State) :
    (State.setStage c w b n s).slices = s.slices :=
  (State.setStage_k c w b n s rfl (Kept.refl 0x8 s)).same .slices rfl

/-! ### Banks of a slice (R320) -/

@[simp] theorem Slice.bank_setBank (x : Slice) (a b : Bool) (t : Tbl (Option MaskedEnt)) :
    (x.setBank a t).bank b = if b = a then t else x.bank b := by
  cases a <;> cases b <;> rfl

/-- The banks do not depend on how a slice's last operation ended. -/
@[simp] theorem Slice.bank_ended (x : Slice) (st : Nat) (busy b : Bool) :
    ({ x with busy := busy, status := st } : Slice).bank b = x.bank b := by
  cases b <;> rfl

/-! ### Ends of an operation (Table 8-16) -/

/-- Slice `c` is `x`, and every other slice as before. -/
def SliceSet (c : Nat) (x : Slice) (s t : State) : Prop := t.slice c = x ∧ ∀ d, d ≠ c → t.slice d = s.slice d

theorem State.sliceSet_setSlice (c : Nat) (x : Slice) (s : State) : SliceSet c x s (s.setSlice c x) :=
  ⟨by simp, fun d hd => by simp [hd]⟩

/-- However an operation ends, its status is all that its end changes of the slices. -/
theorem State.sliceSet_fltStatus (c st : Nat) (s : State) :
    SliceSet c { s.slice c with status := st } s (s.fltStatus c st) := by
  have hslices : (s.fltStatus c st).slices = (s.setSlice c { s.slice c with status := st }).slices := by
    by_cases hst : st = optOk <;> simp [State.fltStatus, hst]
  have hslice : ∀ d, (s.fltStatus c st).slice d = (s.setSlice c { s.slice c with status := st }).slice d := fun d =>
    congrArg (Tbl.get (fun _ => Slice.empty) · d) hslices
  exact ⟨by simp [hslice], fun d hd => by simp [hslice, hd]⟩

/-- A change of the slice that ends with OK. -/
theorem State.sliceSet_setSlice_ok (c : Nat) (x : Slice) (s : State) :
    SliceSet c { x with status := 0 } s ((s.setSlice c x).fltStatus c optOk) := by
  obtain ⟨hc, hd⟩ := State.sliceSet_fltStatus c optOk (s.setSlice c x)
  rw [State.slice_setSlice, if_pos rfl] at hc
  refine ⟨hc, fun d hne => ?_⟩
  rw [hd d hne, State.slice_setSlice, if_neg hne]

/-- An OK end raises nothing, so no staging word changes. -/
@[simp] theorem State.stageWord_fltStatus_ok (c d k : Nat) (s : State) :
    (s.fltStatus c optOk).stageWord d k = s.stageWord d k := rfl

@[simp] theorem State.stageBytes_fltStatus_ok (c d w n : Nat) (s : State) :
    (s.fltStatus c optOk).stageBytes d w n = s.stageBytes d w n := rfl

/-- A refusal is an event (R325). -/
theorem State.rb_fltStatus_refused {c st : Nat} {s : State} (h : st ≠ optOk) :
    (s.fltStatus c st).rb (Blk.flt c).evtOff 2 = true := by
  simp [State.fltStatus, h, State.rb, bit, wd]

/-- A batch with room takes an operation that has passed its check (R325). -/
theorem State.sliceSet_fltBatch {c : Nat} {s : State} (o : BatchOp) (h : (s.slice c).batch.length < 32) :
    SliceSet c { s.slice c with batch := (s.slice c).batch ++ [o], status := 0 } s (s.fltBatch c o) := by
  rw [State.fltBatch, if_neg (Nat.not_le.2 h)]
  exact State.sliceSet_setSlice_ok ..

/-! ### What each operation does where its needs are met (Table 8-9) -/

section
variable {c i : Nat} {s : State}

theorem State.fltAdd_batched {e : ExactEnt} (hi : i < slotCount)
    (hcand : isCandidate (s.slice c).seed (ofLe (s.stageBytes c 0 4)) i = true)
    (hfree : (s.slice c).future.get (fun _ => none) i = none)
    (hnew : ({ s.slice c with exact := (s.slice c).future } : Slice).find (ofLe (s.stageBytes c 0 4)) = none)
    (hent : s.stagedExact c = some e) : s.fltAdd c i = s.fltBatch c (.add i e) := by
  simp [State.fltAdd, Nat.not_le.2 hi, hcand, hfree, hnew, hent]

theorem State.fltSet_batched {e n : ExactEnt} (hi : i < slotCount)
    (hslot : (s.slice c).future.get (fun _ => none) i = some e) (hkey : e.key = ofLe (s.stageBytes c 0 4))
    (hent : s.stagedExact c = some n) : s.fltSet c i = s.fltBatch c (.set i n.act) := by
  simp [State.fltSet, Nat.not_le.2 hi, hslot, hkey, hent]

theorem State.fltDel_batched {e : ExactEnt} (hi : i < slotCount)
    (hslot : (s.slice c).future.get (fun _ => none) i = some e) : s.fltDel c i = s.fltBatch c (.del i) := by
  simp [State.fltDel, Nat.not_le.2 hi, hslot]

theorem State.fltDel_empty (hi : i < slotCount) (hslot : (s.slice c).future.get (fun _ => none) i = none) :
    s.fltDel c i = s.fltStatus c optSlotEmpty := by
  simp [State.fltDel, Nat.not_le.2 hi, hslot]

theorem State.fltMove_batched {e : ExactEnt} (hi : i < slotCount)
    (hslot : (s.slice c).future.get (fun _ => none) i = some e) (hdst : nfld (s.stageWord c 12) 0 16 < slotCount)
    (hcand : isCandidate (s.slice c).seed e.key (nfld (s.stageWord c 12) 0 16) = true)
    (hfree : (s.slice c).future.get (fun _ => none) (nfld (s.stageWord c 12) 0 16) = none) :
    s.fltMove c i = s.fltBatch c (.move i (nfld (s.stageWord c 12) 0 16)) := by
  simp [State.fltMove, Nat.not_le.2 hi, Nat.not_le.2 hdst, hslot, hcand, hfree]

theorem State.fltReadExact_some {e : ExactEnt} (hi : i < slotCount) (hslot : (s.slice c).slot i = some e) :
    s.fltReadExact c i =
      ((s.setStage c 0 (leBytes 16 e.key) 4).setStage c 8 e.act.bytes 4).fltStatus c optOk := by
  simp [State.fltReadExact, Nat.not_le.2 hi, hslot]

theorem State.fltReadExact_none (hi : i < slotCount) (hslot : (s.slice c).slot i = none) :
    s.fltReadExact c i = ((s.setStage c 0 [] 4).setStage c 8 [] 4).fltStatus c optOk := by
  simp [State.fltReadExact, Nat.not_le.2 hi, hslot]

theorem State.fltReadMasked_some {e : MaskedEnt} {shadow : Bool} (hi : i < 4096)
    (hent : ((s.slice c).bank ((s.slice c).activeBank != shadow)).get (fun _ => none) i = some e) :
    s.fltReadMasked c i shadow =
      ((s.setStage c 0 (leBytes 16 e.value ++ leBytes 16 e.mask ++ e.act.bytes) 12).wr (fltBase c + 0x40 + 4 * 12)
        (wd (2 ^ 17 + 2 ^ 16 * b2n e.post))).fltStatus c optOk := by
  simp [State.fltReadMasked, Nat.not_le.2 hi, hent]

/-- An OK end after the staging registers alone have changed. -/
theorem State.sliceSet_staged {t : State} (h : t.slices = s.slices) :
    SliceSet c { s.slice c with status := 0 } s (t.fltStatus c optOk) := by
  have hslice : ∀ d, t.slice d = s.slice d := fun d => congrArg (Tbl.get (fun _ => Slice.empty) · d) h
  obtain ⟨hc, hne⟩ := State.sliceSet_fltStatus c optOk t
  rw [hslice] at hc
  exact ⟨hc, fun d hd => (hne d hd).trans (hslice d)⟩

/-- The key and action of a slot, as software reads them back from the staging registers. -/
theorem State.fltReadExact_staged {e : ExactEnt} (hi : i < slotCount) (hslot : (s.slice c).slot i = some e)
    (hk : e.key < 2 ^ 128) :
    ofLe ((s.fltReadExact c i).stageBytes c 0 4) = e.key ∧ (s.fltReadExact c i).stageBytes c 8 4 = e.act.bytes ∧
      SliceSet c { s.slice c with status := 0 } s (s.fltReadExact c i) := by
  rw [State.fltReadExact_some hi hslot]
  refine ⟨?key, ?act, State.sliceSet_staged (by simp)⟩
  case key =>
    rw [State.stageBytes_fltStatus_ok, State.stageBytes_setStage_below _ _ (by decide),
      State.stageBytes_setStage _ _ le_rfl, fitBytes_of_length (length_leBytes ..), ofLe_leBytes hk]
  case act =>
    rw [State.stageBytes_fltStatus_ok, State.stageBytes_setStage _ _ le_rfl,
      fitBytes_of_length (length_actBlock_bytes e.act)]

theorem State.fltReadExact_zero (hi : i < slotCount) (hslot : (s.slice c).slot i = none) :
    ofLe ((s.fltReadExact c i).stageBytes c 0 4) = 0 := by
  rw [State.fltReadExact_none hi hslot, State.stageBytes_fltStatus_ok,
    State.stageBytes_setStage_below _ _ (by decide), State.stageBytes_setStage _ _ le_rfl]
  rfl

/-- The value, stage and valid bit of a masked entry, as software reads them back. -/
theorem State.fltReadMasked_staged {e : MaskedEnt} {shadow : Bool} (hi : i < 4096)
    (hent : ((s.slice c).bank ((s.slice c).activeBank != shadow)).get (fun _ => none) i = some e)
    (hv : e.value < 2 ^ 128) :
    ofLe ((s.fltReadMasked c i shadow).stageBytes c 0 4) = e.value ∧
      (s.fltReadMasked c i shadow).stageWord c 12 = 2 ^ 17 + 2 ^ 16 * b2n e.post ∧
      SliceSet c { s.slice c with status := 0 } s (s.fltReadMasked c i shadow) := by
  rw [State.fltReadMasked_some hi hent]
  refine ⟨?value, ?aux, State.sliceSet_staged (by simp)⟩
  case value =>
    rw [State.stageBytes_fltStatus_ok, State.stageBytes_wr_above _ _ (by decide),
      State.stageBytes_setStage _ _ (by decide), List.append_assoc, fitBytes_append (length_leBytes ..),
      ofLe_leBytes hv]
  case aux =>
    rw [State.stageWord_fltStatus_ok, State.stageWord_wr, if_pos rfl]
    cases e.post <;> decide

/-- The slice with index `i` of its shadow bank written. -/
def Slice.shadowSet (x : Slice) (i : Nat) (e : Option MaskedEnt) : Slice :=
  x.setBank (!x.activeBank) ((x.bank (!x.activeBank)).set (fun _ => none) i e)

theorem State.fltWriteShadow_invalid (hi : i < 4096) (hv : nbit (s.stageWord c 12) 17 = false) :
    s.fltWriteShadow c i = (s.setSlice c ((s.slice c).shadowSet i none)).fltStatus c optOk := by
  simp [State.fltWriteShadow, Nat.not_le.2 hi, hv, Slice.shadowSet]

theorem State.fltWriteShadow_valid {e : MaskedEnt} (hi : i < 4096) (hv : nbit (s.stageWord c 12) 17 = true)
    (hent : s.stagedMasked c = some e) :
    s.fltWriteShadow c i = (s.setSlice c ((s.slice c).shadowSet i (some e))).fltStatus c optOk := by
  simp [State.fltWriteShadow, Nat.not_le.2 hi, hv, hent, Slice.shadowSet]

end

/-- The shadow bank holds at the index what was written, and the active bank is as before. -/
theorem Slice.banks_shadowSet (x : Slice) (i : Nat) (e : Option MaskedEnt) :
    ((x.shadowSet i e).bank !x.activeBank).get (fun _ => none) i = e ∧
      (x.shadowSet i e).bank x.activeBank = x.bank x.activeBank := by
  simp [Slice.shadowSet, Tbl.get_set]

/-- What software finds after it has written an index of the shadow bank. -/
theorem State.fltStatus_shadowSet (c i : Nat) (e : Option MaskedEnt) (s : State) :
    let t := (s.setSlice c ((s.slice c).shadowSet i e)).fltStatus c optOk
    ((t.slice c).bank !(s.slice c).activeBank).get (fun _ => none) i = e ∧
      (t.slice c).bank (s.slice c).activeBank = (s.slice c).bank (s.slice c).activeBank ∧
      (t.slice c).status = 0 ∧ ∀ d, d ≠ c → t.slice d = s.slice d := by
  obtain ⟨hset, hother⟩ := State.sliceSet_setSlice_ok c ((s.slice c).shadowSet i e) s
  obtain ⟨hshadow, hactive⟩ := Slice.banks_shadowSet (s.slice c) i e
  intro t
  rw [hset, Slice.bank_ended, Slice.bank_ended]
  exact ⟨hshadow, hactive, rfl, hother⟩

/-! ### Words of FLT[c]_OP (Table 8-14) -/

section
variable {op i : Nat} {shadow flip : Bool}

theorem toNat_fltWord (hop : op < 16) (hi : i < 32768) :
    (fltWord op shadow flip i).toNat = op * 2 ^ 28 + b2n flip * 2 ^ 27 + b2n shadow * 2 ^ 26 + i := by
  cases shadow <;> cases flip <;> simp [fltWord, wd, b2n] <;> omega

@[simp] theorem fld_fltWord_op (hop : op < 16) (hi : i < 32768) : fld (fltWord op shadow flip i) 28 4 = op := by
  rw [fld, toNat_fltWord hop hi, Nat.shiftRight_eq_div_pow]
  cases shadow <;> cases flip <;> simp [b2n] <;> omega

@[simp] theorem fld_fltWord_index (hop : op < 16) (hi : i < 32768) : fld (fltWord op shadow flip i) 0 15 = i := by
  rw [fld, toNat_fltWord hop hi, Nat.shiftRight_eq_div_pow]
  cases shadow <;> cases flip <;> simp [b2n] <;> omega

@[simp] theorem bit_fltWord_bank (hop : op < 16) (hi : i < 32768) : bit (fltWord op shadow flip i) 26 = shadow := by
  rw [bit, BitVec.getLsbD, toNat_fltWord hop hi, Nat.testBit_eq_decide_div_mod_eq]
  cases shadow <;> cases flip <;> simp [b2n] <;> omega

@[simp] theorem bit_fltWord_flip (hop : op < 16) (hi : i < 32768) : bit (fltWord op shadow flip i) 27 = flip := by
  rw [bit, BitVec.getLsbD, toNat_fltWord hop hi, Nat.testBit_eq_decide_div_mod_eq]
  cases shadow <;> cases flip <;> simp [b2n] <;> omega

end

/-! ### Writes of FLT[c]_OP to a slice that takes operations (R327, Table 8-14) -/

/-- FLT[c]_OP lies where Table 8-10 puts it. -/
theorem Reg.ofOff_fltOp {c : Nat} (hc : c < 4) : Reg.ofOff (fltBase c + 0x80) = some (.flt c .op) := by
  interval_cases c <;> rfl

/-- Slice `c` takes operations: its window is open, the mode is one of Table 8-14, and nothing makes it BUSY (R327). -/
structure State.FltTakes (s : State) (c : Nat) : Prop where
  cluster : c < 4
  opened : s.open_ (fltBase c + 0x80) = true
  live : s.mode.live = true
  steady : s.reconf c = false
  idle : (s.slice c).busy = false

section
variable {s : State} {c i : Nat}

theorem State.put_fltOp (yw : Bool) (w : Word) (h : s.FltTakes c) :
    s.put yw (fltBase c + 0x80) w = s.fltOp c w := by
  rw [State.put, State.writeWord_of_open _ w (Reg.ofOff_fltOp h.cluster) h.opened]
  exact if_pos h.live

/-- A row of Table 8-9 does what its word asks of the slice. -/
theorem exec_of_fltOp {x : Instr} {yw : Bool} {w : Word} {t : State} (h : s.FltTakes c)
    (hx : exec x s = .next (s.put yw (fltBase c + 0x80) w)) (ht : s.fltOp c w = t) : exec x s = .next t := by
  rw [hx, State.put_fltOp yw w h, ht]

/-! Each row of Table 8-9. -/

theorem exec_readExact (yw : Bool) (h : s.FltTakes c) (hi : i < 32768) :
    exec (.readExact yw c i) s = .next (s.fltReadExact c i) :=
  exec_of_fltOp h rfl (by simp [State.fltOp, hi, h.steady, h.idle])

theorem exec_readMasked (yw shadow : Bool) (h : s.FltTakes c) (hi : i < 32768) :
    exec (.readMasked yw c shadow i) s = .next (s.fltReadMasked c i shadow) :=
  exec_of_fltOp h rfl (by simp [State.fltOp, hi, h.steady, h.idle])

theorem exec_addExact (yw : Bool) (h : s.FltTakes c) (hi : i < 32768) :
    exec (.addExact yw c i) s = .next (s.fltAdd c i) :=
  exec_of_fltOp h rfl (by simp [State.fltOp, hi, h.steady, h.idle])

theorem exec_setExact (yw : Bool) (h : s.FltTakes c) (hi : i < 32768) :
    exec (.setExact yw c i) s = .next (s.fltSet c i) :=
  exec_of_fltOp h rfl (by simp [State.fltOp, hi, h.steady, h.idle])

theorem exec_delExact (yw : Bool) (h : s.FltTakes c) (hi : i < 32768) :
    exec (.delExact yw c i) s = .next (s.fltDel c i) :=
  exec_of_fltOp h rfl (by simp [State.fltOp, hi, h.steady, h.idle])

theorem exec_moveExact (yw : Bool) (h : s.FltTakes c) (hi : i < 32768) :
    exec (.moveExact yw c i) s = .next (s.fltMove c i) :=
  exec_of_fltOp h rfl (by simp [State.fltOp, hi, h.steady, h.idle])

theorem exec_writeShadow (yw : Bool) (h : s.FltTakes c) (hi : i < 32768) :
    exec (.writeShadow yw c i) s = .next (s.fltWriteShadow c i) :=
  exec_of_fltOp h rfl (by simp [State.fltOp, hi, h.steady, h.idle])

theorem exec_copyToShadow (yw : Bool) (h : s.FltTakes c) :
    exec (.copyToShadow yw c) s = .next (s.setSlice c { s.slice c with busy := true, status := 0 }) :=
  exec_of_fltOp h rfl (by simp [State.fltOp, h.steady, h.idle, optOk])

theorem exec_filterCommit (yw flip : Bool) (h : s.FltTakes c) :
    exec (.filterCommit yw c flip) s = .next (s.fltCommit c flip) :=
  exec_of_fltOp h rfl (by simp [State.fltOp, h.steady, h.idle])

theorem exec_abandon (yw : Bool) (h : s.FltTakes c) :
    exec (.abandon yw c) s = .next ((s.setSlice c { s.slice c with batch := [] }).fltStatus c optOk) :=
  exec_of_fltOp h rfl (by simp [State.fltOp, h.steady, h.idle])

end

/-! The end of COPY_TO_SHADOW. -/

theorem exec_copyToShadowDone_of_idle {s : State} {c : Nat} (h : (s.slice c).busy = false) :
    exec (.copyToShadowDone c) s = .next s :=
  congrArg Host.Outcome.next (by simp [State.fltCopyDone, h])

/-- The slice when its copy has ended: both banks are the active one. -/
def Slice.copied (x : Slice) : Slice :=
  { x.setBank (!x.activeBank) (x.bank x.activeBank) with busy := false, status := 0 }

theorem Slice.bank_copied (x : Slice) (b : Bool) : x.copied.bank b = x.bank x.activeBank := by
  rw [Slice.copied, Slice.bank_ended, Slice.bank_setBank]
  by_cases hb : b = !x.activeBank
  · rw [if_pos hb]
  · rw [if_neg hb, Bool.eq_not.not_left.1 hb]

theorem exec_copyToShadowDone_of_busy {s : State} {c : Nat} (h : (s.slice c).busy = true) :
    exec (.copyToShadowDone c) s = .next (s.setSlice c (s.slice c).copied) :=
  congrArg Host.Outcome.next (if_pos h)

/-! ### Operations of check blocks (R493, R497) -/

theorem State.open_of_window {s : State} {off : Nat} {r : Reg} (hr : Reg.ofOff off = some r)
    (hw : s.window r = .full) : s.open_ off = true := by
  simp [State.open_, hr, hw]

/-- CHK[c]_QPOP lies in the check block of cluster `c`. -/
theorem Reg.ofOff_chkQPop {c : Nat} (hc : c < 4) : Reg.ofOff (chkQBase c + 8) = some (.chkQ c 2) := by
  have hoff : chkQBase c + 8 = 0x13C0008 + c * 0x400000 := by unfold chkQBase clusterBase; omega
  have hdiv : (0x13C0008 + c * 0x400000 - 0x1000000) / 0x400000 = c := by omega
  have hmod : (0x13C0008 + c * 0x400000 - 0x1000000) % 0x400000 = 0x3C0008 := by omega
  rw [hoff, Reg.ofOff, if_neg (by omega), if_neg (by omega), if_neg (by omega), if_neg (by omega),
    if_neg (by omega), if_pos (by omega), hdiv, hmod]
  rfl

/-- In a mode of Table 13-11 the pop register of a fitted cluster's check block is open to writes. -/
theorem State.open_chkQPop {s : State} {c : Nat} (hm : s.mode.live = true) (hc : c < 4)
    (hcl : s.hasCluster c = true) : s.open_ (chkQBase c + 8) = true := by
  have hfull : s.window (.chkQ c 2) = .full := by
    revert hm
    cases hmode : s.mode <;> simp [State.window, Reg.cluster, Mode.live, Mode.run, hcl, hmode]
  exact State.open_of_window (Reg.ofOff_chkQPop hc) hfull

theorem State.chkQWrite_pop (c : Nat) (s : State) : s.chkQWrite c 2 1 = s.quarantinePop c := by
  have hpop : bit 1 0 = true := by decide
  rw [State.chkQWrite, if_pos hpop]

theorem exec_quarantinePop {s : State} {c : Nat} (yw : Bool) (hm : s.mode.live = true) (hc : c < 4)
    (hcl : s.hasCluster c = true) : exec (.quarantinePop yw c) s = .next (s.quarantinePop c) := by
  have hput : s.put yw (chkQBase c + 8) 1 = s.quarantinePop c := by
    rw [State.put, State.writeWord_of_open _ 1 (Reg.ofOff_chkQPop hc) (State.open_chkQPop hm hc hcl)]
    exact State.chkQWrite_pop c s
  exact congrArg Host.Outcome.next hput

theorem State.quarantinePop_cons {s : State} {c : Nat} {h : List Byte} {rest : List (List Byte)}
    (hq : (s.ring c).held = h :: rest) :
    s.quarantinePop c = s.setRing c { head := ((s.ring c).head + 1) % 64, held := rest, fullRaised := false } := by
  simp [State.quarantinePop, hq]

theorem State.quarantinePop_nil {s : State} {c : Nat} (hq : (s.ring c).held = []) : s.quarantinePop c = s := by
  simp [State.quarantinePop, hq]

section
variable {op i : Nat} {s : State}

theorem toNat_ctxOpWord (hop : op < 16) (hi : i < 32768) : (ctxOpWord op i).toNat = op * 2 ^ 28 + i := by
  simp [ctxOpWord, wd]; omega

@[simp] theorem fld_ctxOpWord_op (hop : op < 16) (hi : i < 32768) : fld (ctxOpWord op i) 28 4 = op := by
  rw [fld, toNat_ctxOpWord hop hi, Nat.shiftRight_eq_div_pow]
  omega

@[simp] theorem fld_ctxOpWord_index (hop : op < 16) (hi : i < 32768) : fld (ctxOpWord op i) 0 15 = i := by
  rw [fld, toNat_ctxOpWord hop hi, Nat.shiftRight_eq_div_pow]
  omega

/-- A word of CHK_CTXOP in a mode that takes it (Table 13-11). -/
theorem State.put_ctxOp (yw : Bool) (w : Word) (hm : s.mode.live = true) : s.put yw 0xC000 w = s.ctxOp w := by
  have hfull : s.window .chkCtxop = .full := by
    revert hm
    cases hmode : s.mode <;> simp [State.window, Reg.cluster, Mode.live, Mode.run, hmode]
  have hopen : s.open_ 0xC000 = true := State.open_of_window (r := .chkCtxop) rfl hfull
  rw [State.put, State.writeWord_of_open (r := .chkCtxop) _ w rfl hopen]
  exact if_pos hm

theorem State.ctxOp_resync {x : Ctx} (hi : i < 32768) (hx : s.ctx i = some x) :
    s.ctxOp (ctxOpWord 1 i) = s.setCtx i (some { x with seen := false }) := by
  simp [State.ctxOp, hi, hx]

theorem State.ctxOp_clear {x : Ctx} (hi : i < 32768) (hx : s.ctx i = some x) :
    s.ctxOp (ctxOpWord 2 i) =
      s.setCtx i (some { x with checkOk := 0, checkFail := 0, aliveRepeat := 0, skipLost := 0 }) := by
  simp [State.ctxOp, hi, hx]

/-- No operation has a context to work on where none is loaded. -/
theorem State.ctxOp_not_loaded (hop : op < 16) (hi : i < 32768) (hx : s.ctx i = none) :
    s.ctxOp (ctxOpWord op i) = s.encReject 0xC000 := by
  simp [State.ctxOp, hop, hi, hx]

theorem exec_resync (yw : Bool) (i : Nat) (hm : s.mode.live = true) :
    exec (.resync yw i) s = .next (s.ctxOp (ctxOpWord 1 i)) :=
  congrArg Host.Outcome.next (State.put_ctxOp yw _ hm)

theorem exec_clear (yw : Bool) (i : Nat) (hm : s.mode.live = true) :
    exec (.clear yw i) s = .next (s.ctxOp (ctxOpWord 2 i)) :=
  congrArg Host.Outcome.next (State.put_ctxOp yw _ hm)

end

end Sys2Proof.Machine

section
open Sys2Proof Sys2Proof.Machine

/-- Settles O54: each row is the write of its register's word, and what that word does where its needs are met is
read off the operation: it ends with a change of slice `c` alone, or with the staging registers holding an entry. -/
theorem filtersAndCheckBlocks : Obligations.FiltersAndCheckBlocks := by
  unfold Obligations.FiltersAndCheckBlocks
  refine ⟨?filters, ?checks⟩
  case filters =>
    intro s yw sh flip c i ho hc hm hr hb hi x f key slot
    have hs : s.FltTakes c := ⟨hc, ho, hm, hr, hb⟩
    have hi' : i < 32768 := by omega
    refine ⟨?readExact, ?readEmpty, ?readMasked, ?batched, ?delEmpty, ?shadowOff, ?shadowOn,
      ⟨_, exec_copyToShadow yw hs, State.sliceSet_setSlice ..⟩,
      ⟨_, exec_filterCommit yw flip hs, State.sliceSet_setSlice_ok ..⟩,
      ⟨_, exec_abandon yw hs, State.sliceSet_setSlice_ok ..⟩,
      exec_copyToShadowDone_of_idle hb, ?copied⟩
    case readExact =>
      intro e he hk
      obtain ⟨hkey, hact, hset, hother⟩ := State.fltReadExact_staged hi he hk
      exact ⟨_, exec_readExact yw hs hi', hkey, hact, by rw [hset], hother⟩
    case readEmpty => exact fun hslot => ⟨_, exec_readExact yw hs hi', State.fltReadExact_zero hi hslot⟩
    case readMasked =>
      intro e hbank he hv
      obtain ⟨hvalue, haux, hset, hother⟩ := State.fltReadMasked_staged hbank he hv
      exact ⟨_, exec_readMasked yw sh hs hi', hvalue, haux, by rw [hset], hother⟩
    case batched =>
      intro hroom
      refine ⟨?add, ?set, ?del, ?move⟩
      case add =>
        intro e hcand hfree hnew hent
        refine ⟨_, exec_addExact yw hs hi', ?_⟩
        rw [State.fltAdd_batched hi hcand hfree hnew hent]
        exact State.sliceSet_fltBatch _ hroom
      case set =>
        intro e n hslot hkey hent
        refine ⟨_, exec_setExact yw hs hi', ?_⟩
        rw [State.fltSet_batched hi hslot hkey hent]
        exact State.sliceSet_fltBatch _ hroom
      case del =>
        intro e hslot
        refine ⟨_, exec_delExact yw hs hi', ?_⟩
        rw [State.fltDel_batched hi hslot]
        exact State.sliceSet_fltBatch _ hroom
      case move =>
        intro e hslot dst hdst hcand hfree
        refine ⟨_, exec_moveExact yw hs hi', ?_⟩
        rw [State.fltMove_batched hi hslot hdst hcand hfree]
        exact State.sliceSet_fltBatch _ hroom
    case delEmpty =>
      intro hslot
      refine ⟨_, exec_delExact yw hs hi', ?_⟩
      rw [State.fltDel_empty hi hslot]
      obtain ⟨hset, hother⟩ := State.sliceSet_fltStatus c optSlotEmpty s
      exact ⟨hset, hother, State.rb_fltStatus_refused (by decide)⟩
    case shadowOff =>
      intro hbank hv
      refine ⟨_, exec_writeShadow yw hs hi', ?_⟩
      rw [State.fltWriteShadow_invalid hbank hv]
      exact State.fltStatus_shadowSet ..
    case shadowOn =>
      intro e hbank hv hent
      refine ⟨_, exec_writeShadow yw hs hi', ?_⟩
      rw [State.fltWriteShadow_valid hbank hv hent]
      exact State.fltStatus_shadowSet ..
    case copied =>
      intro v hv
      refine ⟨_, exec_copyToShadowDone_of_busy hv, ?_⟩
      obtain ⟨hset, -⟩ := State.sliceSet_setSlice c (v.slice c).copied v
      exact ⟨by rw [hset]; rfl, by rw [hset]; rfl, by rw [hset]; exact Slice.bank_copied _⟩
  case checks =>
    intro s yw c i hi hm hc hcl
    refine ⟨fun h rest hq => ?_, fun hq => ?_, fun x hx => ⟨?_, ?_⟩, fun hx => ⟨?_, ?_⟩⟩
    · rw [exec_quarantinePop yw hm hc hcl, State.quarantinePop_cons hq]
    · rw [exec_quarantinePop yw hm hc hcl, State.quarantinePop_nil hq]
    · rw [exec_resync yw i hm, State.ctxOp_resync hi hx]
    · rw [exec_clear yw i hm, State.ctxOp_clear hi hx]
    · rw [exec_resync yw i hm, State.ctxOp_not_loaded (by decide) hi hx]
    · rw [exec_clear yw i hm, State.ctxOp_not_loaded (by decide) hi hx]

end

namespace Sys2Proof.Machine
open Sys2Proof

/-! ### Fields of a stored word -/

theorem testBit_fld (w : Word) (lo len i : Nat) : (fld w lo len).testBit i = (decide (i < len) && bit w (lo + i)) := by
  rw [fld, Nat.testBit_mod_two_pow, Nat.testBit_shiftRight, bit, BitVec.getLsbD]

theorem bit_setFld (w : Word) (lo len v : Nat) {i : Nat} (hi : i < 32) :
    bit (setFld w lo len v) i = if lo ≤ i ∧ i < lo + len then v.testBit (i - lo) else bit w i := by
  have hmask : ((2 ^ len - 1) <<< lo).testBit i = decide (lo ≤ i ∧ i < lo + len) := by
    rw [Nat.testBit_shiftLeft, Nat.testBit_two_pow_sub_one, ← Bool.decide_and]
    exact decide_eq_decide.2 (by omega)
  have hval : ((v % 2 ^ len) <<< lo).testBit i = (decide (lo ≤ i ∧ i < lo + len) && v.testBit (i - lo)) := by
    rw [Nat.testBit_shiftLeft, Nat.testBit_mod_two_pow, ← Bool.and_assoc, ← Bool.decide_and]
    exact congrArg (· && _) (decide_eq_decide.2 (by omega))
  simp only [bit, setFld, BitVec.getLsbD_or, BitVec.getLsbD_and, BitVec.getLsbD_not, BitVec.getLsbD_ofNat, hmask, hval,
    hi]
  by_cases hin : lo ≤ i ∧ i < lo + len <;> simp [hin]

/-- A field holds what is stored there. -/
theorem fld_setFld (w : Word) {lo len v : Nat} (h : lo + len ≤ 32) (hv : v < 2 ^ len) :
    fld (setFld w lo len v) lo len = v := by
  refine Nat.eq_of_testBit_eq fun i => ?_
  rw [testBit_fld]
  by_cases hi : i < len
  · rw [bit_setFld w lo len v (by omega), if_pos (by omega), Nat.add_sub_cancel_left]
    simp [hi]
  · have hzero : v.testBit i = false :=
      Nat.testBit_lt_two_pow (hv.trans_le (Nat.pow_le_pow_right (by decide) (by omega)))
    simp [hi, hzero]

/-- A field stored beside another leaves it. -/
theorem fld_setFld_of_disjoint (w : Word) {lo len v lo' len' : Nat} (h : lo' + len' ≤ 32)
    (hd : lo' + len' ≤ lo ∨ lo + len ≤ lo') : fld (setFld w lo len v) lo' len' = fld w lo' len' := by
  refine Nat.eq_of_testBit_eq fun i => ?_
  rw [testBit_fld, testBit_fld]
  by_cases hi : i < len'
  · rw [bit_setFld w lo len v (by omega), if_neg (by omega)]
  · simp [hi]

theorem fld_lt (w : Word) (lo len : Nat) : fld w lo len < 2 ^ len := Nat.mod_lt _ (by positivity)

/-! ### Beacon's operations and the rest of the state -/

@[simp] theorem State.beacon_upBcn (f : Beacon → Beacon) (s : State) : (s.upBcn f).beacon = f s.beacon := rfl

@[simp] theorem State.rd_upBcn (f : Beacon → Beacon) (s : State) (o : Nat) : (s.upBcn f).rd o = s.rd o := rfl

@[simp] theorem State.beacon_unstage (link base : Nat) (js : List Nat) (s : State) :
    (s.unstage link base js).beacon = s.beacon := by
  rw [State.unstage_frame]

@[simp] theorem State.rd_unstage (link base : Nat) (js : List Nat) (s : State) (o : Nat) :
    (s.unstage link base js).rd o = s.rd o := by
  rw [State.unstage_frame]
  rfl

/-- What a write of the highest word commits of a register of two words whose lower one is staged (R733). -/
theorem State.committed_two {s : State} {link base : Nat} {v : Nat → Word} {lo : Word} (w : Word)
    (h : s.stage.get (fun _ => none) (latchKey link base) = some lo) :
    s.committed link base 2 v w = lo.toNat + 2 ^ 32 * w.toNat := by
  simp [State.committed, State.stagedWord, ofWords, h]

/-! ### BCN_RATE (R414, R420) -/

section
variable {s : State} {v : Nat}

theorem exec_bcnRate (yw high : Bool) (w : Word) (ho : s.open_ (0x8030 + 4 * b2n high) = true) :
    exec (.bcnRate yw high w) s = .next (s.wideWrite (b2n yw) 0x8030 2 (b2n high) (fun j => s.view (.bcnRate j)) w
      State.bcnRateCommit (State.refuseSetup 0x8034)) := by
  cases high with
  | false => exact congrArg Host.Outcome.next (State.writeWord_of_open (r := .bcnRate 0) _ w rfl ho)
  | true => exact congrArg Host.Outcome.next (State.writeWord_of_open (r := .bcnRate 1) _ w rfl ho)

theorem State.bcnRateCommit_applied (hm : s.mode.setup = true) (hc : (toSigned 40 v).natAbs ≤ 2 ^ 37) :
    s.bcnRateCommit v = some (s.bcnRate (toSigned 40 v)) := by
  simp only [State.bcnRateCommit, hm, hc, decide_true, Bool.and_self, if_true]

theorem State.bcnRateCommit_shut (hm : s.mode.setup = false) : s.bcnRateCommit v = none := by
  simp [State.bcnRateCommit, hm]

theorem State.beacon_bcnRate (c : Int) (s : State) :
    (s.bcnRate c).beacon = { s.beacon with
      aT := s.beacon.timeAt s.beacon.raw, aRaw := s.beacon.raw, corr := c, integ := c
      past := (s.bcnRate c).beacon.past, written := (s.bcnRate c).beacon.written } := rfl

/-- T at the anchor is the anchor time, whatever the rate: so T is continuous across a change of corr (R414). -/
theorem anchorTime_anchor (r : Nat) (aT corr : Int) : anchorTime r aT corr r = aT := by
  simp [anchorTime]

theorem State.time_bcnRate (c : Int) (s : State) : (s.bcnRate c).time = s.time := by
  have hT : (s.bcnRate c).beacon.timeAt s.beacon.raw = s.beacon.timeAt s.beacon.raw := anchorTime_anchor ..
  exact congrArg Int.toNat hT

end

/-! ### Output pins (R448 to R450) -/

section
variable {s : State}

/-- CELL_PPS_OUT rises for a second that has come, and the second is marked (R448). -/
theorem State.ppsOut_due (hon : s.rb 0x8020 22 = true) (hrun : s.beacon.running = true) (hany : s.rb 0x8020 20 = false)
    (hcome : s.beacon.ppsNext ≤ s.beacon.second) :
    s.ppsOut = { s with out := .pin 0 true :: s.out, beacon := { s.beacon with
      ppsNext := s.beacon.second + 1
      ppsUntil := some (s.beacon.raw + s.rf 0x8020 0 10 * 10 ^ 6 * 2 ^ 16) } } := by
  have houtputs : s.outputsRun = true := by simp [State.outputsRun, hrun, hany]
  exact if_pos (by simp [hon, houtputs, hcome])

theorem State.ppsOut_idle (h : s.rb 0x8020 22 = false ∨ s.beacon.second < s.beacon.ppsNext) : s.ppsOut = s := by
  refine if_neg ?_
  rcases h with hoff | hmarked
  · simp [hoff]
  · simp [Nat.not_le.2 hmarked]

theorem State.syncOut_low (hoff : s.rb 0x8020 21 = false) (hlow : s.beacon.syncHigh = false) : s.syncOut = s := by
  simp [State.syncOut, hoff, hlow]

end

/-! ### Steps (R415, R421) -/

theorem State.rd_each {α : Type} {l : List α} {f : α → State → State} {s : State} {o : Nat}
    (h : ∀ a ∈ l, ∀ u : State, (f a u).rd o = u.rd o) : (s.each l f).rd o = s.rd o := by
  induction l generalizing s with
  | nil => rfl
  | cons a l ih => exact (ih fun b hb => h b (.tail a hb)).trans (h a (.head l) s)

@[simp] theorem State.beacon_resyncAll (d : Int) (s : State) : (s.resyncAll d).beacon = s.beacon :=
  (State.resyncAll_k d s rfl (Kept.refl 0x2011003C000008 s)).same .beacon rfl

/-- A resynchronisation counts in the cycle's own registers (R478). -/
theorem State.rd_resyncAll {d : Int} {s : State} {o : Nat} (ho : o < 0xA000) : (s.resyncAll d).rd o = s.rd o := by
  have hevt : o ≠ Blk.cyc.evtOff := by show o ≠ 0xA020; omega
  by_cases hc : s.cycle.isNone
  · rw [State.resyncAll, if_pos hc]
  · rw [State.resyncAll, if_neg hc]
    refine (State.rd_raise ..).trans ((if_neg hevt).trans (State.rd_each fun t _ u => ?_))
    have hcnt : o ≠ 0xA408 + 0x20 * t + 4 * 4 := by omega
    exact (State.rd_wr ..).trans (if_neg hcnt)

/-- A step with both output pins off moves the anchor, counts and resynchronises; no pin moves. -/
theorem State.stepUnits_pins_off {u : Int} {s : State} (hpps : s.rb 0x8020 22 = false) (hsync : s.rb 0x8020 21 = false)
    (hlow : s.beacon.syncHigh = false) :
    s.stepUnits u =
      ((s.upBcn fun b => { b.keepAnchor with aT := b.aT + u }).countBcn 0).resyncAll (u / 2 ^ 16) := by
  let t := (s.upBcn fun b => { b.keepAnchor with aT := b.aT + u }).countBcn 0
  have hrb : ∀ i, t.rb 0x8020 i = s.rb 0x8020 i := fun i => by simp [t, State.rb, State.countBcn, State.cnt]
  have hhigh : t.beacon.syncHigh = false := hlow
  have hstay : (if 0 < u then t.ppsOut else t) = t := by
    rw [State.ppsOut_idle (.inl ((hrb 22).trans hpps)), ite_self]
  show ((if 0 < u then t.ppsOut else t).syncOut).resyncAll _ = t.resyncAll _
  rw [hstay, State.syncOut_low ((hrb 21).trans hsync) hhigh]

section
variable {s : State} {v : Nat}

theorem exec_bcnAdj (yw : Bool) (w : Word) (ho : s.open_ 0x803C = true) :
    exec (.bcnAdj yw true w) s = .next (s.wideWrite (b2n yw) 0x8038 2 1 (fun _ => 0) w State.bcnAdjCommit
      (State.refuseSetup 0x803C)) :=
  congrArg Host.Outcome.next (State.writeWord_of_open (r := .bcnAdj 1) _ w rfl ho)

theorem State.bcnAdjCommit_applied (hm : s.mode.setup = true) (hns : 0 ≤ toSigned 48 v ∨ s.mode = .test) :
    s.bcnAdjCommit v = some (s.bcnAdj (toSigned 48 v)) := by
  simp only [State.bcnAdjCommit, hm, Bool.true_and]
  exact if_pos (by simpa using hns)

/-- Outside TEST a backward step is a reserved encoding (R421). -/
theorem State.bcnAdjCommit_backward (hns : toSigned 48 v < 0) (hm : s.mode ≠ .test) : s.bcnAdjCommit v = none := by
  simp only [State.bcnAdjCommit]
  exact if_neg (by simp [hns, hm])

/-- A step written by software moves T by the whole of it, and is counted (R415, R421). -/
theorem State.bcnAdj_pins_off {ns : Int} (hpps : s.rb 0x8020 22 = false) (hsync : s.rb 0x8020 21 = false)
    (hlow : s.beacon.syncHigh = false) :
    (s.bcnAdj ns).beacon = { s.beacon with
        aT := s.beacon.aT + ns * 65536, past := (s.bcnAdj ns).beacon.past, written := (s.bcnAdj ns).beacon.written } ∧
      (s.bcnAdj ns).rd 0x8060 = wd (satAdd (2 ^ 32 - 1) (s.rd 0x8060).toNat 1) := by
  rw [State.bcnAdj, State.stepUnits_pins_off ?pps ?sync ?low]
  case pps => exact hpps
  case sync => exact hsync
  case low => exact hlow
  refine ⟨?_, ?_⟩
  · rw [State.beacon_resyncAll]
    rfl
  · rw [State.rd_resyncAll (by decide)]
    simp [State.countBcn, State.cnt]

end

/-! ### BCN_CFG (R424 to R426) -/

/-- The word that a write of defined fields leaves in BCN_CFG. -/
def bcnCfgWord (old w : Word) : Word :=
  setFld (setFld (setFld (setFld old 0 10 (fld w 0 10)) 20 4 (fld w 20 4)) 24 5 (fld w 24 5)) 29 3 (fld w 29 3)

theorem fld_bcnCfgWord_source (old w : Word) : fld (bcnCfgWord old w) 29 3 = fld w 29 3 :=
  fld_setFld _ (by decide) (fld_lt ..)

theorem fld_bcnCfgWord_srcPort (old w : Word) : fld (bcnCfgWord old w) 24 5 = fld w 24 5 := by
  rw [bcnCfgWord, fld_setFld_of_disjoint _ (by decide) (by decide), fld_setFld _ (by decide) (fld_lt ..)]

/-- Without a SLAVE port, any source but PTP may be selected (R425). -/
theorem rolesOk_of_no_slave {source port : Nat} {role : Nat → Nat} (hs : source ≠ 1) (hr : ∀ q < 24, role q ≠ 1) :
    rolesOk source port role = true := by
  simp only [rolesOk, Bool.and_eq_true, List.all_eq_true, List.mem_range]
  exact ⟨fun q hq => by simp [hr q hq], by simp [hs]⟩

section
variable {s : State} {w : Word}

theorem exec_bcnCfg (yw : Bool) (w : Word) (ho : s.open_ 0x8020 = true) :
    exec (.bcnCfg yw w) s = .next (s.bcnCfgWrite w) :=
  congrArg Host.Outcome.next (State.writeWord_of_open (r := .bcnCfg) _ w rfl ho)

theorem State.bcnCfgWrite_accepted (hsrc : fld w 29 3 ≤ 3) (hport : fld w 24 5 ≤ 23) (hlen : 1 ≤ fld w 0 10)
    (hmax : fld w 0 10 ≤ 500) (hroles : rolesOk (fld w 29 3) (fld w 24 5) s.bcnRole = true) :
    s.bcnCfgWrite w = s.bcnCfg (bcnCfgWord (s.rd 0x8020) w) := by
  have hfields : writeFields (s.rd 0x8020) w
      [(29, 3, fun v => v ≤ 3), (24, 5, fun v => v ≤ 23), plainField 20 4, (0, 10, fun v => 1 ≤ v && v ≤ 500)] =
      (bcnCfgWord (s.rd 0x8020) w, false) := by
    simp [writeFields, plainField, anyVal, bcnCfgWord, hsrc, hport, hlen, hmax]
  simp [State.bcnCfgWrite, hfields, fld_bcnCfgWord_source, fld_bcnCfgWord_srcPort, hroles]

/-- A word that selects another source starts the state that waits for its first measurement (R426). -/
theorem State.bcnCfg_new_source (h : fld w 29 3 ≠ s.bcnSource) :
    s.bcnCfg w = (s.wr 0x8020 w).upBcn fun b =>
      { b with state := waitState (fld w 29 3), ppsLast := none, ppsMissed := 0 } := by
  have hsource : (s.wr 0x8020 w).bcnSource = fld w 29 3 := by simp [State.bcnSource, State.rf]
  rw [← hsource]
  exact if_pos (.inl h)

end

/-! ### BCN_SAVE (R452, R637) -/

section
variable {s : State}

theorem exec_bcnSave {w : Word} (yw : Bool) (ho : s.open_ 0x802C = true) (hm : s.mode.save = true)
    (hw : bit w 31 = true) : exec (.bcnSave yw w) s = .next s.bcnSave := by
  refine congrArg Host.Outcome.next ((State.writeWord_of_open (r := .bcnCtrl) _ w rfl ho).trans ?_)
  exact (if_pos hm).trans (if_pos hw)

theorem State.bcnSave_queued (h : s.keeper.lifecycle = .deployed) :
    s.bcnSave = (s.upBcn fun b => { b with saveFailed := false }).queueOp
      (.beacon (bcnStored.map fun o => (o, s.rd o))) := by
  have hallowed : (s.keeper.lifecycle == .blank || s.decommissioned) = false := by
    rw [State.decommissioned, h]
    rfl
  simp [State.bcnSave, hallowed]

theorem State.bcnSave_blank (h : s.keeper.lifecycle = .blank) :
    s.bcnSave = s.upBcn fun b => { b with saveFailed := true } := by
  simp [State.bcnSave, h]

end

/-! ### Latched words and the stamp queue's read (R443, R733) -/

theorem State.latchWords_frame (link off : Nat) (ws : List Nat) (s : State) :
    s.latchWords link off ws = { s with latch := (s.latchWords link off ws).latch } := by
  induction ws generalizing off s with
  | nil => rfl
  | cons w ws ih => rw [State.latchWords, ih]

/-- Words latched from `off` on leave those below. -/
theorem State.latch_latchWords_below {link off k : Nat} {ws : List Nat} {s : State} (h : k < latchKey link off) :
    (s.latchWords link off ws).latch.get (fun _ => none) k = s.latch.get (fun _ => none) k := by
  induction ws generalizing off s with
  | nil => rfl
  | cons w ws ih =>
    have hnext : k < latchKey link (off + 4) := by unfold latchKey at *; omega
    rw [State.latchWords, ih hnext, Tbl.get_set, if_neg (by omega)]

/-- Each word is latched under its own offset. -/
theorem State.latch_latchWords {link off o i v : Nat} {ws : List Nat} {s : State} (h : ws[i]? = some v)
    (ho : o = off + 4 * i) :
    (s.latchWords link off ws).latch.get (fun _ => none) (latchKey link o) = some (wd v) := by
  subst ho
  induction ws generalizing off i s with
  | nil => simp at h
  | cons w ws ih =>
    cases i with
    | zero =>
      have hw : w = v := by simpa using h
      rw [State.latchWords, State.latch_latchWords_below (by unfold latchKey; omega), Tbl.get_set, if_pos (by simp), hw]
    | succ i =>
      have hoff : off + 4 * (i + 1) = off + 4 + 4 * i := by omega
      rw [State.latchWords, hoff]
      exact ih (by simpa using h)

section
variable {s : State} {p : Nat}

/-- Word 0 of the stamp queue of port `p` lies where Table 11-21 puts it. -/
theorem Reg.ofOff_tsq (hp : p < 24) : Reg.ofOff (0x8410 + 0x40 * p) = some (.bcnPort p 4) := by
  interval_cases p <;> rfl

theorem State.readWord_of_open {off : Nat} {r : Reg} (link : Nat) (hr : Reg.ofOff off = some r)
    (ho : s.open_ off = true) : s.readWord link off = s.regRead link r := by
  have hfull : s.window r = .full := by simpa [State.open_, hr] using ho
  simp [State.readWord, hr, hfull]

theorem State.regRead_tsq (link p : Nat) (s : State) :
    s.regRead link (.bcnPort p 4) = ((s.tsqRead link p).latched link (.bcnPort p 4), s.tsqRead link p) := rfl

theorem State.tsqRead_cons {r : TsRec} {rs : List TsRec} (link : Nat) (h : (s.bport p).tsq = r :: rs) :
    s.tsqRead link p =
      (s.setBport p { s.bport p with tsq := rs }).latchWords link (0x8410 + 0x40 * p) r.words := by
  simp [State.tsqRead, State.upBport, h]

/-- A host read of word 0 answers the word that it latches. -/
theorem exec_tsqRead {r : TsRec} {rs : List TsRec} (hp : p < 24) (ho : s.open_ (0x8410 + 0x40 * p) = true)
    (h : (s.bport p).tsq = r :: rs) :
    exec (.tsqRead false p) s = .next
      (((s.setBport p { s.bport p with tsq := rs }).latchWords 0 (0x8410 + 0x40 * p) r.words).emit
        (.hostRead 0 (0x8410 + 0x40 * p) (wd (2 ^ 31 + r.outcome % 16)))) := by
  have hread : s.readWord 0 (0x8410 + 0x40 * p) =
      ((s.tsqRead 0 p).latched 0 (.bcnPort p 4), s.tsqRead 0 p) := by
    rw [State.readWord_of_open 0 (Reg.ofOff_tsq hp) ho, State.regRead_tsq]
  have hoff : Reg.off (.bcnPort p 4) = 0x8410 + 0x40 * p + 4 * 0 := by simp only [Reg.off]; omega
  have hword : (s.tsqRead 0 p).latched 0 (.bcnPort p 4) = wd (2 ^ 31 + r.outcome % 16) := by
    rw [State.latched, State.tsqRead_cons 0 h, State.latch_latchWords (i := 0) rfl hoff, Option.getD_some]
  refine congrArg Host.Outcome.next ?_
  show (s.readBy false _) = _
  simp only [State.readBy, b2n, Bool.false_eq_true, if_false]
  rw [hread, hword, State.tsqRead_cons 0 h]

end

end Sys2Proof.Machine

section
open Sys2Proof Sys2Proof.Machine

/-- Settles O50: each row is the write or read of the register it names, and what the operation behind it does is read
off the Beacon island. A refused commit of BCN_RATE is recorded under its highest word (log 9). -/
theorem beaconRegisters : Obligations.BeaconRegisters := by
  unfold Obligations.BeaconRegisters
  intro s yw w lo p link staged
  refine ⟨fun ho => ?stage, fun ho hm hlo => ?rate, fun ho hm => ?shut, fun ho hm hlo _ => ⟨?step, ?backward⟩,
    fun ho hsrc hport hlen hnone hroles => ?cfg, fun ho hm hw hlife => ?save, fun ho hm hw hlife => ?blank,
    fun hon hrun hany hcome => congrArg Host.Outcome.next (State.ppsOut_due hon hrun hany hcome),
    fun h => congrArg Host.Outcome.next (State.ppsOut_idle h), fun r rs hp _ ho hq => ?tsq⟩
  case stage =>
    refine ⟨_, exec_bcnRate yw false w ho, ?_⟩
    rw [State.wideWrite_staged (by decide)]
    exact ⟨by simp [State.setStaged, Tbl.get_set, b2n, link], rfl⟩
  case rate =>
    intro c hc
    have hcommit := State.bcnRateCommit_applied hm hc
    rw [← State.committed_two (v := fun j => s.view (.bcnRate j)) w hlo] at hcommit
    refine ⟨_, exec_bcnRate yw true w ho, ?_⟩
    rw [State.wideWrite_applied (by decide) hcommit, State.committed_two w hlo]
    refine ⟨?_, ?_, State.unstage_none (.inl ⟨0, by decide, rfl⟩)⟩
    · rw [State.beacon_unstage]
      exact State.beacon_bcnRate c s
    · rw [State.time, State.beacon_unstage]
      exact State.time_bcnRate c s
  case shut =>
    rw [exec_bcnRate yw true w ho, State.wideWrite_refused (by decide) (State.bcnRateCommit_shut hm),
      State.refuseSetup, hm]
    rfl
  case step =>
    intro hns hpps hsync hlow
    have hcommit := State.bcnAdjCommit_applied hm hns
    rw [← State.committed_two (v := fun _ => 0) w hlo] at hcommit
    refine ⟨_, exec_bcnAdj yw w ho, ?_⟩
    rw [State.wideWrite_applied (by decide) hcommit, State.committed_two w hlo]
    beta_reduce
    rw [State.beacon_unstage, State.rd_unstage]
    exact State.bcnAdj_pins_off hpps hsync hlow
  case backward =>
    intro hns htest
    have hcommit := State.bcnAdjCommit_backward hns htest
    rw [← State.committed_two (v := fun _ => 0) w hlo] at hcommit
    refine ⟨_, exec_bcnAdj yw w ho, ?_⟩
    rw [State.wideWrite_refused (by decide) hcommit, State.refuseSetup, if_pos hm]
    exact ⟨by simp, by simp⟩
  case cfg =>
    have hchanged : fld (bcnCfgWord (s.rd 0x8020) w) 29 3 ≠ s.bcnSource := by
      rw [fld_bcnCfgWord_source, hsrc, hnone]; decide
    refine ⟨_, exec_bcnCfg yw w ho, ?_⟩
    rw [State.bcnCfgWrite_accepted (by omega) (by omega) (by omega) (by omega) (rolesOk_of_no_slave (by omega) hroles),
      State.bcnCfg_new_source hchanged]
    refine ⟨?_, ?_, ?_⟩
    · simp [State.bcnSource, State.rf, fld_bcnCfgWord_source, hsrc]
    · simp [State.srcPort, State.rf, fld_bcnCfgWord_srcPort]
    · simp [fld_bcnCfgWord_source, hsrc, waitState]
  case save =>
    refine ⟨_, exec_bcnSave yw ho hm hw, ?_⟩
    rw [State.bcnSave_queued hlife]
    exact ⟨by simp, rfl⟩
  case blank =>
    rw [exec_bcnSave yw ho hm hw, State.bcnSave_blank hlife]
    rfl
  case tsq =>
    refine ⟨_, exec_tsqRead hp ho hq, ?_, ?_, State.latch_latchWords (i := 1) rfl (by omega),
      State.latch_latchWords (i := 2) rfl (by omega), State.latch_latchWords (i := 3) rfl (by omega)⟩
    · rw [State.latchWords_frame]
      exact (State.bport_setBport ..).trans (if_pos rfl)
    · rw [State.latchWords_frame]
      rfl

end

namespace Sys2Proof.Machine
open Sys2Proof

/-! ### Updates of an engine and of its registers -/

theorem State.eng_upEng (g h : Nat) (f : Engine → Engine) (s : State) :
    (s.upEng g f).eng h = if h = g then f (s.eng g) else s.eng h := by
  simp [State.upEng]

@[simp] theorem State.eng_upEng_self (g : Nat) (f : Engine → Engine) (s : State) :
    (s.upEng g f).eng g = f (s.eng g) := by
  simp [State.eng_upEng]

theorem State.cpu_upCpu (g h : Nat) (f : Cpu → Cpu) (s : State) :
    (s.upCpu g f).cpu h = if h = g then f (s.cpu g) else s.cpu h := by
  simp only [State.cpu, State.upCpu, State.eng_upEng]
  split <;> rfl

@[simp] theorem State.cpu_upCpu_self (g : Nat) (f : Cpu → Cpu) (s : State) : (s.upCpu g f).cpu g = f (s.cpu g) := by
  simp [State.cpu_upCpu]

/-- Two updates of one engine are one. -/
theorem State.upEng_upEng (g : Nat) (f f' : Engine → Engine) (s : State) :
    (s.upEng g f).upEng g f' = s.upEng g fun e => f' (f e) := by
  rw [State.upEng, State.eng_upEng_self]
  exact congrArg (fun t => { s with engines := t }) (Tbl.set_set _ _ _ _ _)

/-- Two updates of one engine's registers are one. -/
@[simp] theorem State.upCpu_upCpu (g : Nat) (f f' : Cpu → Cpu) (s : State) :
    (s.upCpu g f).upCpu g f' = s.upCpu g fun c => f' (f c) :=
  State.upEng_upEng g _ _ s

theorem State.upEng_congr {g : Nat} {f f' : Engine → Engine} {s : State} (h : f (s.eng g) = f' (s.eng g)) :
    s.upEng g f = s.upEng g f' := by
  rw [State.upEng, State.upEng, h]

/-- Only what an update does to the engine's registers as they are counts. -/
theorem State.upCpu_congr {g : Nat} {f f' : Cpu → Cpu} {s : State} (h : f (s.cpu g) = f' (s.cpu g)) :
    s.upCpu g f = s.upCpu g f' :=
  State.upEng_congr (congrArg (fun c => { s.eng g with cpu := c }) h)

/-! ### The issue of an instruction whose reads find nothing (R504) -/

theorem State.issue_clean {s : State} {g : Nat} {o : Op} (f : State → State) (h : s.issues g o = true) :
    s.issue (.clean g) o f = f s := by
  simp [State.issue, State.readMem, State.vectorRead, Finds.clean, h]

/-! ### The next pc (R540, R542, R543) -/

theorem State.goto_of_fetchable {g a n : Nat} {s : State} (h : fetchable n = true) :
    s.goto g a n = s.upCpu g fun c => { c with pc := n } :=
  if_pos h

/-- An address that cannot be fetched from traps there. -/
theorem State.goto_of_not_fetchable {g a n : Nat} {s : State} (h : fetchable n = false) :
    s.goto g a n = (s.upCpu g fun c => { c with pc := n }).trapAt g 1 n a n :=
  if_neg (by simp [h])

theorem State.jump_of_fetchable {g t : Nat} {s : State} (h : fetchable t = true) :
    s.jump g t = s.upCpu g fun c => { c with pc := t, icnt := c.icnt + 1 } := by
  simp [State.jump, State.completed, State.goto_of_fetchable h]

theorem State.transfer_of_fetchable {g t : Nat} {s : State} (h : fetchable t = true) :
    s.transfer g t = s.leapsTo g t := by
  rw [State.transfer, State.goto_of_fetchable h, State.completed, State.upCpu_upCpu, State.upCpu_upCpu]
  exact State.upCpu_congr rfl

theorem State.advance_of_fetchable {g : Nat} {s : State} (h : fetchable (s.nextPc g) = true) :
    s.advance g = s.goesOn g id := by
  change State.goto g _ (s.nextPc g) _ = _
  rw [State.goto_of_fetchable h, State.completed, State.upCpu_upCpu, State.upCpu_upCpu]
  exact State.upCpu_congr rfl

@[simp] theorem psrDepth_setFld_depth (p : Word) (n : Nat) : psrDepth (setFld p 24 3 n) = n % 8 := by
  have hmod : setFld p 24 3 n = setFld p 24 3 (n % 8) := by simp [setFld]
  rw [hmod]
  exact fld_setFld p (by decide) (Nat.mod_lt _ (by decide))

@[simp] theorem psrBase_setFld_depth (p : Word) (n : Nat) : psrBase (setFld p 24 3 n) = psrBase p :=
  fld_setFld_of_disjoint p (by decide) (Or.inl (by decide))

/-- `c'` has what the loop test of R542 reads as in `c`: the pc, the levels, ldepth and lbase. -/
structure Cpu.LoopsAs (c' c : Cpu) : Prop where
  pc : c'.pc = c.pc
  loops : c'.loops = c.loops
  depth : psrDepth c'.psr = psrDepth c.psr
  base : psrBase c'.psr = psrBase c.psr

theorem Cpu.LoopsAs.setDepth {c' c : Cpu} (h : c'.LoopsAs c) (n : Nat) : (c'.setDepth n).LoopsAs (c.setDepth n) where
  pc := h.pc
  loops := h.loops
  depth := by simp [Cpu.setDepth]
  base := by simp [Cpu.setDepth, h.base]

theorem loopNext_fst_of_loopsAs (a n : Nat) {c' c : Cpu} (h : c'.LoopsAs c) :
    (loopNext a n c').1 = (loopNext a n c).1 := by
  induction n generalizing c' c with
  | zero => rfl
  | succ n ih =>
    have hd : c'.depth = c.depth := h.depth
    have hb : c'.base = c.base := h.base
    have hl : c'.level (c.depth - 1) = c.level (c.depth - 1) := by rw [Cpu.level, Cpu.level, h.loops]
    simp only [loopNext, hd, hb, hl]
    split
    · split
      · rfl
      · exact ih (h.setDepth _)
    · rfl

theorem State.nextPc_of_loopsAs {g : Nat} {s t : State} (h : (t.cpu g).LoopsAs (s.cpu g)) :
    t.nextPc g = s.nextPc g := by
  rw [State.nextPc, h.pc]
  exact loopNext_fst_of_loopsAs _ _ h

/-- An instruction that changes registers outside the loops and then goes on. -/
theorem State.advance_upCpu {g : Nat} {f : Cpu → Cpu} {s : State} (hn : fetchable (s.nextPc g) = true)
    (h : (f (s.cpu g)).LoopsAs (s.cpu g)) : (s.upCpu g f).advance g = s.goesOn g f := by
  have hc : ((s.upCpu g f).cpu g).LoopsAs (s.cpu g) := (State.cpu_upCpu_self g f s).symm ▸ h
  rw [State.advance_of_fetchable (by rwa [State.nextPc_of_loopsAs hc]), State.goesOn, State.goesOn, State.upCpu_upCpu]
  exact State.upCpu_congr (by rw [h.pc]; rfl)

end Sys2Proof.Machine

namespace Sys2Proof.Machine
open Sys2Proof

/-! ### Flags of a result (Table 15-3, R533) -/

/-- Two masked stores in a row are one. -/
theorem masked_store_store (p a b c d : Word) :
    ((p &&& a ||| b) &&& c) ||| d = (p &&& (a &&& c)) ||| ((b &&& c) ||| d) := by
  ext i hi
  simp only [BitVec.getElem_or, BitVec.getElem_and, Bool.and_or_distrib_right, Bool.and_assoc, Bool.or_assoc]

theorem setNZ_eq_withNZ (r p : Word) : setNZ r p = withNZ r p := by
  have hn : bit r 31 = r.msb := by simp [bit, BitVec.msb_eq_getLsbD_last]
  simp only [setNZ, hn, withNZ, setFlag, setFld, masked_store_store]
  cases r == 0 <;> cases r.msb <;> rfl

theorem setFlag_C (b : Bool) (p : Word) : setFlag flagC b p = withC b p := by cases b <;> rfl

theorem setFlag_V (b : Bool) (p : Word) : setFlag flagV b p = withV b p := by cases b <;> rfl

theorem setFlag_Z (b : Bool) (p : Word) : setFlag flagZ b p = (p &&& 0xFFFFFFFE) ||| wd (b2n b) := by cases b <;> rfl

theorem setFlag_dz (p : Word) : setFlag flagDz true p = p ||| 0x10 := by
  have hset (m : Word) : (p &&& ~~~m) ||| m = p ||| m := by
    ext i hi
    simp only [BitVec.getElem_or, BitVec.getElem_and, BitVec.getElem_not]
    cases p[i] <;> cases m[i] <;> rfl
  exact hset 0x10

end Sys2Proof.Machine

namespace Sys2Proof.Machine
open Sys2Proof

/-! ### Updates of the PSR that leave the loops (R541) -/

/-- `f` leaves ldepth and lbase of a PSR. -/
def KeepsDepths (f : Word → Word) : Prop := ∀ p, psrDepth (f p) = psrDepth p ∧ psrBase (f p) = psrBase p

theorem keepsDepths_id : KeepsDepths id := fun _ => ⟨rfl, rfl⟩

theorem KeepsDepths.comp {f f' : Word → Word} (h' : KeepsDepths f') (h : KeepsDepths f) :
    KeepsDepths fun p => f' (f p) :=
  fun p => ⟨(h' (f p)).1.trans (h p).1, (h' (f p)).2.trans (h p).2⟩

theorem keepsDepths_setFlag {i : Nat} (hi : i < 20) (b : Bool) : KeepsDepths (setFlag i b) := fun p =>
  ⟨fld_setFld_of_disjoint p (by decide) (Or.inr (by omega)), fld_setFld_of_disjoint p (by decide) (Or.inr (by omega))⟩

theorem keepsDepths_withNZ (r : Word) : KeepsDepths (withNZ r) := by
  have h : KeepsDepths (setNZ r) :=
    (keepsDepths_setFlag (i := flagZ) (by decide) _).comp (keepsDepths_setFlag (i := flagN) (by decide) _)
  rwa [funext (setNZ_eq_withNZ r)] at h

theorem keepsDepths_withC (b : Bool) : KeepsDepths (withC b) :=
  funext (setFlag_C b) ▸ keepsDepths_setFlag (by decide) b

theorem keepsDepths_withV (b : Bool) : KeepsDepths (withV b) :=
  funext (setFlag_V b) ▸ keepsDepths_setFlag (by decide) b

theorem keepsDepths_or_dz : KeepsDepths (· ||| 0x10) := by
  have h : KeepsDepths (setFlag flagDz true) := keepsDepths_setFlag (by decide) true
  rwa [funext setFlag_dz] at h

theorem KeepsDepths.loopsAs {f : Word → Word} (h : KeepsDepths f) (c : Cpu) (x : List Word) :
    Cpu.LoopsAs { c with x := x, psr := f c.psr } c :=
  ⟨rfl, rfl, (h c.psr).1, (h c.psr).2⟩

/-! ### Register operations (R532 to R536) -/

section
variable {s : State} {g rd ra rb : Nat}

theorem State.runReg3_clean {f : Reg3} (hi : s.issues g (.reg3 f rd ra rb) = true)
    (hz : f.divides = true → s.x g rb = 0 → (s.cpu g).ecfg.getLsbD 0 = false) :
    s.runReg3 (.clean g) f rd ra rb = s.putAlu g rd (f.alu (s.x g ra) (s.x g rb) (s.psr g)) := by
  rw [State.runReg3, State.issue_clean _ hi]
  exact if_neg (by simpa [bit] using hz)

theorem State.runReg2_clean {f : Reg2} (hi : s.issues g (.reg2 f rd ra) = true) :
    s.runReg2 (.clean g) f rd ra = s.putAlu g rd (f.alu (s.x g ra) (s.psr g)) :=
  State.issue_clean _ hi

theorem State.runShi_clean {kind n : Nat} (hi : s.issues g (.shi rd ra kind n) = true) :
    s.runShi (.clean g) rd ra kind n = s.putAlu g rd (aluShift kind (s.x g ra) n (s.psr g)) :=
  State.issue_clean _ hi

/-- A result with N and Z of it, and the other flags as `f` leaves them, goes to `rd`. -/
theorem State.putAlu_gives {f : Word → Word} (hn : fetchable (s.nextPc g) = true) (hf : KeepsDepths f) (r : Word) :
    s.putAlu g rd ⟨r, f (withNZ r (s.psr g))⟩ = s.gives g rd r f := by
  have hloops := (hf.comp (keepsDepths_withNZ r)).loopsAs (s.cpu g) ((s.cpu g).x.set rd r)
  rw [State.putAlu, State.advance_upCpu hn hloops]
  exact State.upCpu_congr rfl

end

/-! ### Shifts (Table 15-11) -/

theorem shiftVal_sll (a : Word) (n : Nat) : shiftVal 0 a n = a <<< n := by
  by_cases h : 32 ≤ n
  · simp [shiftVal, shSll, h, BitVec.shiftLeft_eq_zero h]
  · simp [shiftVal, shSll, h]

theorem shiftVal_srl (a : Word) (n : Nat) : shiftVal 1 a n = a >>> n := by
  by_cases h : 32 ≤ n
  · simp [shiftVal, shSll, shSrl, h, BitVec.ushiftRight_eq_zero h]
  · simp [shiftVal, shSll, shSrl, h]

/-- From an amount of 32 on, every bit of an arithmetic shift is the sign. -/
theorem shiftVal_sra (a : Word) (n : Nat) : shiftVal 2 a n = a.sshiftRight n := by
  have hval : shiftVal 2 a n = a.sshiftRight (min n 32) := rfl
  rw [hval]
  rcases Nat.le_total n 32 with h | h
  · rw [Nat.min_eq_left h]
  · apply BitVec.eq_of_getLsbD_eq
    intro i hi
    rw [Nat.min_eq_right h, BitVec.getLsbD_sshiftRight, BitVec.getLsbD_sshiftRight, if_neg (by omega),
      if_neg (by omega)]

theorem shiftVal_rot (a : Word) (n : Nat) : shiftVal 3 a n = a.rotateRight n :=
  BitVec.rotateRight_mod_eq_rotateRight

theorem shiftC_sll (a : Word) (n : Nat) : shiftC 0 a n = (a.toNat <<< n).testBit 32 := by
  rw [Nat.testBit_shiftLeft]
  rfl

theorem shiftC_srl (a : Word) (n : Nat) : shiftC 1 a n = a.toNat.testBit (n - 1) := by
  have hval : shiftC 1 a n = (decide (n ≤ 32) && a.getLsbD (n - 1)) := rfl
  rw [hval]
  by_cases h : n ≤ 32
  · simp [h, BitVec.testBit_toNat]
  · simp [h, BitVec.testBit_toNat, BitVec.getLsbD_of_ge a (n - 1) (by omega)]

theorem shiftC_sra (a : Word) (n : Nat) : shiftC 2 a n = (a.sshiftRight (n - 1)).getLsbD 0 := by
  have hval : shiftC 2 a n = a.getLsbD (min (n - 1) 31) := rfl
  rw [hval, BitVec.getLsbD_sshiftRight]
  by_cases h : n - 1 < 32
  · simp [h, Nat.min_eq_left (show n - 1 ≤ 31 by omega)]
  · simp [h, Nat.min_eq_right (show 31 ≤ n - 1 by omega), BitVec.msb_eq_getLsbD_last]

theorem shiftC_rot (a : Word) (n : Nat) : shiftC 3 a n = (a.rotateRight n).msb := by
  have hval : shiftC 3 a n = bit (shiftVal 3 a n) 31 := rfl
  rw [hval, shiftVal_rot, BitVec.msb_eq_getLsbD_last]
  rfl

/-- C after a shift by `n`: an amount of 0 leaves it (R534). -/
def carryOf (n : Nat) (b : Bool) : Word → Word := if n = 0 then id else withC b

theorem keepsDepths_carryOf (n : Nat) (b : Bool) : KeepsDepths (carryOf n b) := by
  unfold carryOf
  split
  · exact keepsDepths_id
  · exact keepsDepths_withC b

theorem aluShift_eq (kind : Nat) (a : Word) (n : Nat) (p : Word) :
    aluShift kind a n p =
      ⟨shiftVal kind a n, carryOf n (shiftC kind a n) (withNZ (shiftVal kind a n) p)⟩ := by
  by_cases hn : n = 0 <;> simp [aluShift, carryOf, hn, setNZ_eq_withNZ, setFlag_C]

theorem State.putAlu_aluShift {s : State} {g rd : Nat} (hn : fetchable (s.nextPc g) = true) (kind : Nat) (a : Word)
    (n : Nat) : s.putAlu g rd (aluShift kind a n (s.psr g)) =
      s.gives g rd (shiftVal kind a n) (carryOf n (shiftC kind a n)) := by
  rw [aluShift_eq, State.putAlu_gives hn (keepsDepths_carryOf _ _)]

end Sys2Proof.Machine

section
open Sys2Proof Sys2Proof.Machine

/-- Settles O18: each row is `aluShift` of its kind and amount, whose result and C are those of Table 15-11. -/
theorem shifts : Obligations.Shifts := by
  unfold Obligations.Shifts
  intro s g rd ra rb m hn a b c kind n hrow hissues carry
  have hexec : exec c s = .next (s.gives g rd (shiftVal kind a n) (carryOf n (shiftC kind a n))) := by
    rw [← State.putAlu_aluShift hn]
    simp only [List.mem_cons, Prod.mk.injEq, List.not_mem_nil, or_false] at hrow
    rcases hrow with ⟨rfl, rfl, rfl⟩ | ⟨rfl, rfl, rfl⟩ | ⟨rfl, rfl, rfl⟩ | ⟨rfl, rfl, rfl⟩ | ⟨rfl, rfl, rfl⟩ |
      ⟨rfl, rfl, rfl⟩ | ⟨rfl, rfl, rfl⟩ | ⟨rfl, rfl, rfl⟩
    iterate 4 exact congrArg Host.Outcome.next (State.runReg3_clean (hissues _ rfl) nofun)
    iterate 4 exact congrArg Host.Outcome.next (State.runShi_clean (hissues _ rfl))
  rw [hexec]
  refine ⟨?sll, ?srl, ?sra, ?rot⟩
  case sll => rintro rfl; rw [shiftVal_sll, shiftC_sll]; rfl
  case srl => rintro rfl; rw [shiftVal_srl, shiftC_srl]; rfl
  case sra => rintro rfl; rw [shiftVal_sra, shiftC_sra]; rfl
  case rot => rintro rfl; rw [shiftVal_rot, shiftC_rot]; rfl

end

namespace Sys2Proof.Machine
open Sys2Proof

/-! ### Division (R535, Table 15-12) -/

theorem ofInt_tdiv (a b : Word) : BitVec.ofInt 32 (a.toInt.tdiv b.toInt) = a.sdiv b := by
  apply BitVec.eq_of_toInt_eq
  rw [BitVec.toInt_ofInt, BitVec.toInt_sdiv]

theorem ofInt_tmod (a b : Word) : BitVec.ofInt 32 (a.toInt.tmod b.toInt) = a.srem b := by
  rw [← BitVec.toInt_srem, BitVec.ofInt_toInt]

section
variable {a b : Word} {p : Word}

theorem aluDiv_of_ne (hb : b ≠ 0) : aluDiv a b p = ⟨a.sdiv b, withV (divOverflows a b) (withNZ (a.sdiv b) p)⟩ := by
  simp only [aluDiv, if_neg hb, ofInt_tdiv, setNZ_eq_withNZ, setFlag_V]

theorem aluDiv_zero : aluDiv a 0 p =
    ⟨if a.msb then 0x80000000 else 0x7FFFFFFF,
      withV false (withNZ (if a.msb then 0x80000000 else 0x7FFFFFFF) p) ||| 0x10⟩ := by
  have hmsb : bit a 31 = a.msb := by simp [bit, BitVec.msb_eq_getLsbD_last]
  simp only [aluDiv, if_true, hmsb, setNZ_eq_withNZ, setFlag_V, setFlag_dz]

theorem aluRem_of_ne (hb : b ≠ 0) : aluRem a b p = ⟨a.srem b, withV (divOverflows a b) (withNZ (a.srem b) p)⟩ := by
  simp only [aluRem, if_neg hb, ofInt_tmod, setNZ_eq_withNZ, setFlag_V]

theorem aluRem_zero : aluRem a 0 p = ⟨a, withV false (withNZ a p) ||| 0x10⟩ := by
  rw [aluRem, if_pos rfl, setNZ_eq_withNZ, setFlag_V, setFlag_dz]

theorem aluDivu_of_ne (hb : b ≠ 0) : aluDivu a b p = ⟨a / b, withNZ (a / b) p⟩ := by
  rw [aluDivu, if_neg hb, aluNZ, setNZ_eq_withNZ]

theorem aluDivu_zero : aluDivu a 0 p = ⟨0xFFFFFFFF, withNZ 0xFFFFFFFF p ||| 0x10⟩ := by
  rw [aluDivu, if_pos rfl, setNZ_eq_withNZ, setFlag_dz]

theorem aluRemu_of_ne (hb : b ≠ 0) : aluRemu a b p = ⟨a % b, withNZ (a % b) p⟩ := by
  rw [aluRemu, if_neg hb, aluNZ, setNZ_eq_withNZ]

theorem aluRemu_zero : aluRemu a 0 p = ⟨a, withNZ a p ||| 0x10⟩ := by
  rw [aluRemu, if_pos rfl, setNZ_eq_withNZ, setFlag_dz]

end

/-- A division whose quotient or remainder is `q` with flags `v`, and by zero `z` with flags `v'` and dz. -/
structure Reg3.Divides (f : Reg3) (a : Word) (q : Word → Word) (z : Word) (v : Word → Word → Word) (v' : Word → Word) :
    Prop where
  divides : f.divides = true
  keeps : ∀ b, KeepsDepths (v b)
  keeps_zero : KeepsDepths v'
  quotient : ∀ b p, b ≠ 0 → f.alu a b p = ⟨q b, v b (withNZ (q b) p)⟩
  by_zero : ∀ p, f.alu a 0 p = ⟨z, v' (withNZ z p) ||| 0x10⟩

theorem Reg3.divides_div (a : Word) : Reg3.div.Divides a a.sdiv (if a.msb then 0x80000000 else 0x7FFFFFFF)
    (fun b => withV (divOverflows a b)) (withV false) :=
  ⟨rfl, fun _ => keepsDepths_withV _, keepsDepths_withV _, fun _ _ => aluDiv_of_ne, fun _ => aluDiv_zero⟩

theorem Reg3.divides_rem (a : Word) : Reg3.rem.Divides a a.srem a (fun b => withV (divOverflows a b)) (withV false) :=
  ⟨rfl, fun _ => keepsDepths_withV _, keepsDepths_withV _, fun _ _ => aluRem_of_ne, fun _ => aluRem_zero⟩

theorem Reg3.divides_divu (a : Word) : Reg3.divu.Divides a (a / ·) 0xFFFFFFFF (fun _ => id) id :=
  ⟨rfl, fun _ => keepsDepths_id, keepsDepths_id, fun _ _ => aluDivu_of_ne, fun _ => aluDivu_zero⟩

theorem Reg3.divides_remu (a : Word) : Reg3.remu.Divides a (a % ·) a (fun _ => id) id :=
  ⟨rfl, fun _ => keepsDepths_id, keepsDepths_id, fun _ _ => aluRemu_of_ne, fun _ => aluRemu_zero⟩

section
variable {s : State} {g rd ra rb : Nat}

/-- The row of a division: what dz_trap selects where the divisor is zero (R535). -/
theorem exec_division {f : Reg3} {c : Instr} {q : Word → Word} {z : Word} {v : Word → Word → Word} {v' : Word → Word}
    (hn : fetchable (s.nextPc g) = true) (hc : exec c s = .next (s.runReg3 (.clean g) f rd ra rb))
    (hf : f.Divides (s.x g ra) q z v v') (hi : s.issues g (.reg3 f rd ra rb) = true) :
    (s.x g rb ≠ 0 → exec c s = .next (s.gives g rd (q (s.x g rb)) (v (s.x g rb)))) ∧
    (s.x g rb = 0 → (s.cpu g).ecfg.getLsbD 0 = false → exec c s = .next (s.gives g rd z fun p => v' p ||| 0x10)) ∧
    (s.x g rb = 0 → (s.cpu g).ecfg.getLsbD 0 = true →
      exec c s = .next ((s.upCpu g fun k => { k with psr := k.psr ||| 0x10 }).trap g 8 (s.x g ra).toNat)) := by
  rw [hc]
  refine ⟨fun hb => ?quotient, fun hb he => ?by_zero, fun hb he => ?trap⟩
  case quotient =>
    rw [State.runReg3_clean hi (fun _ h => absurd h hb), hf.quotient _ _ hb, State.putAlu_gives hn (hf.keeps _)]
  case by_zero =>
    rw [State.runReg3_clean hi (fun _ _ => he), hb, hf.by_zero,
      State.putAlu_gives hn (f := fun p => v' p ||| 0x10) (keepsDepths_or_dz.comp hf.keeps_zero)]
  case trap =>
    have hdz : (s.upCpu g fun k => { k with psr := setFlag flagDz true k.psr }) =
        s.upCpu g fun k => { k with psr := k.psr ||| 0x10 } := State.upCpu_congr (by rw [setFlag_dz])
    rw [State.runReg3, State.issue_clean _ hi, ← hdz]
    exact congrArg Host.Outcome.next (if_pos (by simp [hf.divides, hb, bit, he]))

end

/-! ### Exact signed results (R536) -/

/-- A signed result held within the signed range. -/
def saturated (e : Int) : Word :=
  if 2147483647 < e then 0x7FFFFFFF else if e < -2147483648 then 0x80000000 else BitVec.ofInt 32 e

theorem aluExact_saturating (e : Int) (p : Word) :
    aluExact true e p = ⟨saturated e, withV (beyond e) (withNZ (saturated e) p)⟩ := by
  simp [aluExact, saturated, beyond, setNZ_eq_withNZ, setFlag_V, Bool.or_comm]

theorem aluExact_wrapping (e : Int) (p : Word) :
    aluExact false e p = ⟨BitVec.ofInt 32 e, withV (beyond e) (withNZ (BitVec.ofInt 32 e) p)⟩ := by
  simp [aluExact, beyond, setNZ_eq_withNZ, setFlag_V, Bool.or_comm]

theorem ofInt_natAbs (a : Word) : BitVec.ofInt 32 (a.toInt.natAbs : Int) = if a.msb then 0 - a else a := by
  rw [BitVec.msb_eq_toInt]
  by_cases h : a.toInt < 0
  · rw [Int.ofNat_natAbs_of_nonpos h.le, BitVec.ofInt_neg, BitVec.ofInt_toInt]
    simp [h]
  · rw [Int.natAbs_of_nonneg (by omega), BitVec.ofInt_toInt]
    simp [h]

/-- Only the least number has no magnitude in the signed range. -/
theorem lt_natAbs_iff (a : Word) : 2147483647 < (a.toInt.natAbs : Int) ↔ a = 0x80000000 := by
  have hle : -2147483648 ≤ a.toInt := BitVec.le_toInt a
  have hlt : a.toInt < 2147483648 := BitVec.toInt_lt
  rw [← BitVec.toInt_inj]
  have hmin : (0x80000000 : Word).toInt = -2147483648 := by decide
  omega

theorem beyond_natAbs (a : Word) : beyond (a.toInt.natAbs : Int) = (a == 0x80000000) := by
  have hlow : ¬(a.toInt.natAbs : Int) < -2147483648 := by omega
  rw [beyond, Bool.eq_iff_iff]
  simp only [hlow, lt_natAbs_iff, decide_false, Bool.false_or, decide_eq_true_eq, beq_iff_eq]

theorem saturated_natAbs (a : Word) : saturated (a.toInt.natAbs : Int) =
    if a == 0x80000000 then 0x7FFFFFFF else if a.msb then 0 - a else a := by
  have hlow : ¬(a.toInt.natAbs : Int) < -2147483648 := by omega
  simp only [saturated, lt_natAbs_iff, hlow, if_false, ofInt_natAbs, beq_iff_eq]

section
variable {s : State} {g rd : Nat}

theorem State.putAlu_saturating (hn : fetchable (s.nextPc g) = true) (e : Int) :
    s.putAlu g rd (aluExact true e (s.psr g)) = s.gives g rd (saturated e) (withV (beyond e)) := by
  rw [aluExact_saturating, State.putAlu_gives hn (keepsDepths_withV _)]

theorem State.putAlu_wrapping (hn : fetchable (s.nextPc g) = true) (e : Int) :
    s.putAlu g rd (aluExact false e (s.psr g)) = s.gives g rd (BitVec.ofInt 32 e) (withV (beyond e)) := by
  rw [aluExact_wrapping, State.putAlu_gives hn (keepsDepths_withV _)]

end

end Sys2Proof.Machine

section
open Sys2Proof Sys2Proof.Machine

/-- Settles O19: the four divisions share one row lemma over what Table 15-12 gives each; the others are exact signed
results, wrapped or saturated. -/
theorem divideAndSaturate : Obligations.DivideAndSaturate := by
  unfold Obligations.DivideAndSaturate
  intro s g rd ra rb hn a b ovf sat
  refine ⟨?divisions, fun hi => ?abs, fun hi => ?abss, fun hi => ?adds, fun hi => ?subs⟩
  case divisions =>
    intro f c q z v v' hrow hi
    simp only [List.mem_cons, Prod.mk.injEq, List.not_mem_nil, or_false] at hrow
    rcases hrow with ⟨rfl, rfl, rfl, rfl, rfl, rfl⟩ | ⟨rfl, rfl, rfl, rfl, rfl, rfl⟩ | ⟨rfl, rfl, rfl, rfl, rfl, rfl⟩ |
      ⟨rfl, rfl, rfl, rfl, rfl, rfl⟩
    · have h := exec_division (c := .div (.clean g) rd ra rb) hn rfl (Reg3.divides_div _) hi
      exact h
    · have h := exec_division (c := .rem (.clean g) rd ra rb) hn rfl (Reg3.divides_rem _) hi
      exact h
    · have h := exec_division (c := .divu (.clean g) rd ra rb) hn rfl (Reg3.divides_divu _) hi
      exact h
    · have h := exec_division (c := .remu (.clean g) rd ra rb) hn rfl (Reg3.divides_remu _) hi
      exact h
  case abs =>
    rw [← ofInt_natAbs, ← beyond_natAbs, ← State.putAlu_wrapping hn]
    exact congrArg Host.Outcome.next (State.runReg2_clean hi)
  case abss =>
    rw [← saturated_natAbs, ← beyond_natAbs, ← State.putAlu_saturating hn]
    exact congrArg Host.Outcome.next (State.runReg2_clean hi)
  case adds =>
    exact congrArg Host.Outcome.next ((State.runReg3_clean hi nofun).trans (State.putAlu_saturating hn _))
  case subs =>
    exact congrArg Host.Outcome.next ((State.runReg3_clean hi nofun).trans (State.putAlu_saturating hn _))

end

namespace Sys2Proof.Machine
open Sys2Proof

/-! ### Targets and conditions of transfers (R539, R543, Table 15-10) -/

/-- A signed field of an instruction, as a word. -/
theorem simm_eq_signExtend {n : Nat} (hn : 0 < n) (v : Nat) : simm n v = (BitVec.ofNat n v).signExtend 32 := by
  have hhalf : 2 ^ n = 2 * 2 ^ (n - 1) := by rw [← pow_succ']; congr 1; omega
  have hcond : v % 2 ^ n < 2 ^ (n - 1) ↔ 2 * (v % 2 ^ n) < 2 ^ n := by omega
  have hval : toSigned n v = (BitVec.ofNat n v).toInt := by
    rw [BitVec.toInt_eq_toNat_cond, BitVec.toNat_ofNat]
    simp only [toSigned, hcond]
  rw [simm, hval]
  rfl

theorem State.target_eq {n : Nat} (hn : 0 < n) (s : State) (g off : Nat) :
    s.target g n off = (wd (s.cpu g).pc + (BitVec.ofNat n off).signExtend 32 * 4).toNat := by
  rw [State.target, simm_eq_signExtend hn]

/-- The conditions of Table 15-10 in the order of their codes. -/
def conditions (p : Word) : List Bool :=
  let z := p.getLsbD 0
  let n := p.getLsbD 1
  let c := p.getLsbD 2
  let v := p.getLsbD 3
  [true, z, !z, !c, c, c && !z, !c || z, n ^^ v, !(n ^^ v), !z && !(n ^^ v), z || n ^^ v, n, !n, v, !v]

theorem condHolds_eq_true_iff (cond : Nat) (p : Word) :
    condHolds cond p = some true ↔ (conditions p).getD cond false = true := by
  have hxor (a b : Bool) : (a == b) = !(a ^^ b) := by cases a <;> cases b <;> rfl
  by_cases h : cond < 15
  · have hlisted : condHolds cond p = some ((conditions p).getD cond false) := by
      interval_cases cond <;> simp only [condHolds, hxor] <;> rfl
    rw [hlisted, Option.some.injEq]
  · obtain ⟨k, rfl⟩ := Nat.exists_eq_add_of_le' (Nat.le_of_not_lt h)
    exact ⟨nofun, nofun⟩

section
variable {s : State} {g : Nat}

theorem State.runBc_taken {cond off : Nat} (hi : s.issues g (.bc cond off) = true)
    (hc : (conditions (s.psr g)).getD cond false = true) (ht : fetchable (s.target g 22 off) = true) :
    s.runBc (.clean g) cond off = s.leapsTo g (s.target g 22 off) := by
  rw [State.runBc, State.issue_clean _ hi, if_pos ((condHolds_eq_true_iff ..).2 hc)]
  exact State.transfer_of_fetchable ht

theorem State.runBc_not_taken {cond off : Nat} (hi : s.issues g (.bc cond off) = true)
    (hc : (conditions (s.psr g)).getD cond false = false) (hn : fetchable (s.nextPc g) = true) :
    s.runBc (.clean g) cond off = s.goesOn g id := by
  rw [State.runBc, State.issue_clean _ hi, if_neg fun h =>
    Bool.false_ne_true (hc.symm.trans ((condHolds_eq_true_iff ..).1 h))]
  exact State.advance_of_fetchable hn

theorem State.runCb_taken {nz : Bool} {ra off : Nat} (hi : s.issues g (.cb nz ra off) = true)
    (hc : s.x g ra = 0 ↔ nz = false) (ht : fetchable (s.target g 18 off) = true) :
    s.runCb (.clean g) nz ra off = s.leapsTo g (s.target g 18 off) := by
  rw [State.runCb, State.issue_clean _ hi, if_pos (by cases nz <;> simpa using hc)]
  exact State.transfer_of_fetchable ht

theorem State.runCb_not_taken {nz : Bool} {ra off : Nat} (hi : s.issues g (.cb nz ra off) = true)
    (hc : ¬(s.x g ra = 0 ↔ nz = false)) (hn : fetchable (s.nextPc g) = true) :
    s.runCb (.clean g) nz ra off = s.goesOn g id := by
  rw [State.runCb, State.issue_clean _ hi, if_neg (by cases nz <;> simpa using hc)]
  exact State.advance_of_fetchable hn

/-- A call puts the address of the next instruction in x14 and leaves every loop level. -/
theorem State.call_of_fetchable {t : Nat} (w : Word) (ht : fetchable t = true) :
    (s.setX g 14 w).jump g t = s.upCpu g fun c => { c with x := c.x.set 14 w, pc := t, icnt := c.icnt + 1 } := by
  rw [State.jump_of_fetchable ht, State.setX, State.upCpu_upCpu]
  rfl

/-- A transfer to an address that cannot be fetched from traps as FETCH, with pc at that address (R540). -/
theorem State.transfer_of_not_fetchable {t : Nat} (ht : fetchable t = false) :
    ∃ u : State, s.transfer g t = u.trapAt g 1 t (s.cpu g).pc t ∧ (u.cpu g).pc = t :=
  ⟨_, State.goto_of_not_fetchable ht, by rw [State.cpu_upCpu_self]⟩

end

end Sys2Proof.Machine

section
open Sys2Proof Sys2Proof.Machine

/-- Settles O23: each row is a taken transfer, a call or the way on, at the target that its field names. -/
theorem transfers : Obligations.Transfers := by
  unfold Obligations.Transfers
  intro s g ra cond off pc dest z n c v holds
  have hdest (n : Nat) (hn : 0 < n) : dest n = s.target g n off := (State.target_eq hn s g off).symm
  rw [hdest 22 (by decide), hdest 18 (by decide), hdest 26 (by decide)]
  refine ⟨fun hi hc ht => ?_, fun hi hc hn => ?_, fun nz i hrow hi => ?cb, fun hi ht => ?_, fun hi ht => ?_,
    fun o i t hrow hi ht => ?call, fun hi ht => ?_⟩
  · exact congrArg Host.Outcome.next (State.runBc_taken hi hc ht)
  · exact congrArg Host.Outcome.next (State.runBc_not_taken hi hc hn)
  case cb =>
    have hexec : exec i s = .next (s.runCb (.clean g) nz ra off) := by
      simp only [List.mem_cons, Prod.mk.injEq, List.not_mem_nil, or_false] at hrow
      rcases hrow with ⟨rfl, rfl⟩ | ⟨rfl, rfl⟩ <;> rfl
    rw [hexec]
    exact ⟨fun hc ht => by rw [State.runCb_taken hi hc ht], fun hc hn => by rw [State.runCb_not_taken hi hc hn]⟩
  · exact congrArg Host.Outcome.next ((State.issue_clean _ hi).trans (State.transfer_of_fetchable ht))
  · exact congrArg Host.Outcome.next ((State.issue_clean _ hi).trans (State.transfer_of_fetchable ht))
  case call =>
    simp only [List.mem_cons, Prod.mk.injEq, List.not_mem_nil, or_false] at hrow
    rcases hrow with ⟨rfl, rfl, rfl⟩ | ⟨rfl, rfl, rfl⟩
    · exact congrArg Host.Outcome.next ((State.issue_clean _ hi).trans (State.call_of_fetchable _ ht))
    · exact congrArg Host.Outcome.next ((State.issue_clean _ hi).trans (State.call_of_fetchable _ ht))
  · obtain ⟨u, hu, hpc⟩ := State.transfer_of_not_fetchable (s := s) (g := g) ht
    exact ⟨_, rfl, u, (State.issue_clean _ hi).trans hu, hpc⟩

end

namespace Sys2Proof.Machine
open Sys2Proof

/-! ### Zero-overhead loops (R541, R542, R544) -/

section
variable {s : State} {g : Nat}

/-- A fifth level traps. -/
theorem State.issueLoop_full (n len : Nat) (hd : (s.cpu g).depth = 4) : s.issueLoop g n len = s.trap g 7 4 := by
  simp [State.issueLoop, hd, trLoop]

/-- A body that begins in the innermost loop and ends after it traps. -/
theorem State.issueLoop_crossing {n len : Nat} (hd : (s.cpu g).depth < 4) (hb : (s.cpu g).base < (s.cpu g).depth)
    (hstart : ((s.cpu g).level ((s.cpu g).depth - 1)).start ≤ (s.cpu g).pc)
    (hstop : (s.cpu g).pc ≤ ((s.cpu g).level ((s.cpu g).depth - 1)).stop)
    (hend : ((s.cpu g).level ((s.cpu g).depth - 1)).stop < (s.cpu g).pc + 4 * len) :
    s.issueLoop g n len = s.trap g 7 (s.cpu g).depth := by
  simp only [State.issueLoop]
  rw [if_neg (by omega), if_pos ⟨hb, ⟨hstart, hstop⟩, hend⟩]
  rfl

/-- The level of a body of `len` words may be pushed: one is free, and the body ends within the loop around it. -/
structure Cpu.Nests (c : Cpu) (len : Nat) : Prop where
  free : c.depth < 4
  within : c.depth ≤ c.base ∨ c.pc < (c.level (c.depth - 1)).start ∨ (c.level (c.depth - 1)).stop < c.pc ∨
    c.pc + 4 * len ≤ (c.level (c.depth - 1)).stop

theorem State.issueLoop_of_nests {n len : Nat} (h : (s.cpu g).Nests len) : s.issueLoop g n len =
    if n = 0 then s.jump g ((s.cpu g).pc + 4 * len + 4)
    else (s.upCpu g fun c => { c.setDepth ((s.cpu g).depth + 1) with
      loops := c.loops.set (s.cpu g).depth ⟨(s.cpu g).pc + 4, (s.cpu g).pc + 4 * len, n⟩ }).jump g
        ((s.cpu g).pc + 4) := by
  obtain ⟨hfree, hwithin⟩ := h
  simp only [State.issueLoop]
  rw [if_neg (by omega), if_neg (by omega)]

theorem State.issueLoop_push {n len : Nat} (h : (s.cpu g).Nests len) (hn : 0 < n)
    (hf : fetchable ((s.cpu g).pc + 4) = true) : s.issueLoop g n len = s.upCpu g fun c =>
      { c with psr := setFld c.psr 24 3 (c.depth + 1), loops := c.loops.set c.depth ⟨c.pc + 4, c.pc + 4 * len, n⟩,
               pc := c.pc + 4, icnt := c.icnt + 1 } := by
  rw [State.issueLoop_of_nests h, if_neg (by omega), State.jump_of_fetchable hf, State.upCpu_upCpu]
  exact State.upCpu_congr rfl

/-- A loop of no pass goes past its body. -/
theorem State.issueLoop_no_pass {len : Nat} (h : (s.cpu g).Nests len)
    (hf : fetchable ((s.cpu g).pc + 4 * len + 4) = true) :
    s.issueLoop g 0 len = s.upCpu g fun c => { c with pc := c.pc + 4 * len + 4, icnt := c.icnt + 1 } := by
  rw [State.issueLoop_of_nests h, if_pos rfl, State.jump_of_fetchable hf]
  exact State.upCpu_congr rfl

theorem State.runLexit_pop {lev : Nat} (hi : s.issues g (.lexit lev) = true)
    (hf : fetchable ((s.cpu g).pc + 4) = true) (h : lev ≤ (s.cpu g).depth - (s.cpu g).base) :
    s.runLexit (.clean g) lev = s.upCpu g fun c =>
      { c with psr := setFld c.psr 24 3 (c.depth - lev), pc := c.pc + 4, icnt := c.icnt + 1 } := by
  rw [State.runLexit, State.issue_clean _ hi]
  refine (if_neg (Nat.not_lt.2 h)).trans ?_
  rw [State.jump_of_fetchable hf, State.upCpu_upCpu]
  exact State.upCpu_congr rfl

theorem State.runLexit_fault {lev : Nat} (hi : s.issues g (.lexit lev) = true)
    (h : (s.cpu g).depth - (s.cpu g).base < lev) : s.runLexit (.clean g) lev = s.trap g 7 (s.cpu g).depth := by
  rw [State.runLexit, State.issue_clean _ hi]
  exact if_pos h

end

/-! The loop test at the end of an instruction (R542). -/

section
variable {a n : Nat} {c : Cpu}

theorem loopNext_outside (h : c.depth ≤ c.base ∨ a ≠ (c.level (c.depth - 1)).stop) : loopNext a n c = (a + 4, c) := by
  cases n with
  | zero => rfl
  | succ n => exact if_neg (by omega)

theorem loopNext_again (hb : c.base < c.depth) (ha : a = (c.level (c.depth - 1)).stop)
    (hcount : 1 < (c.level (c.depth - 1)).count) :
    loopNext a (n + 1) c =
      let l := c.level (c.depth - 1)
      (l.start, { c with loops := c.loops.set (c.depth - 1) { l with count := l.count - 1 } }) :=
  (if_pos ⟨hb, ha⟩).trans (if_pos hcount)

theorem loopNext_last (hb : c.base < c.depth) (ha : a = (c.level (c.depth - 1)).stop)
    (hcount : (c.level (c.depth - 1)).count ≤ 1) :
    loopNext a (n + 1) c = loopNext a n (c.setDepth (c.depth - 1)) :=
  (if_pos ⟨hb, ha⟩).trans (if_neg (by omega))

/-- The last pass of the one loop of this level of traps pops it. -/
theorem loopNext_pop (hb : c.base + 1 = c.depth) (ha : a = (c.level (c.depth - 1)).stop)
    (hcount : (c.level (c.depth - 1)).count ≤ 1) : loopNext a (n + 1) c = (a + 4, c.setDepth c.base) := by
  have hbase : (c.setDepth (c.depth - 1)).base = c.base := psrBase_setFld_depth ..
  have hdepth : (c.setDepth (c.depth - 1)).depth = (c.depth - 1) % 8 := psrDepth_setFld_depth ..
  rw [loopNext_last (by omega) ha hcount, loopNext_outside (Or.inl (by omega)), ← hb, Nat.add_sub_cancel]

end

section
variable {s : State} {g : Nat}

/-- An instruction that changes nothing goes where the loop test says. -/
theorem State.advance_of_loopNext {next : Nat} {c : Cpu}
    (h : loopNext (s.cpu g).pc 8 (s.cpu g) = (next, c)) (hf : fetchable next = true) :
    s.advance g = s.upCpu g fun _ => { c with pc := next, icnt := c.icnt + 1 } := by
  have hn : s.nextPc g = next := congrArg Prod.fst h
  rw [State.advance_of_fetchable (hn ▸ hf)]
  exact State.upCpu_congr (by simp only [id, h])

/-- Where the next address cannot be fetched, execution traps there as FETCH (R540). -/
theorem State.advance_of_not_fetchable {next : Nat} {c : Cpu}
    (h : loopNext (s.cpu g).pc 8 (s.cpu g) = (next, c)) (hf : fetchable next = false) :
    ∃ u : State, s.advance g = u.trapAt g 1 next (s.cpu g).pc next ∧ (u.cpu g).pc = next := by
  have hn : s.nextPc g = next := congrArg Prod.fst h
  change ∃ u : State, State.goto g _ (s.nextPc g) _ = _ ∧ _
  rw [hn]
  exact ⟨_, State.goto_of_not_fetchable hf, by rw [State.cpu_upCpu_self]⟩

end

end Sys2Proof.Machine

section
open Sys2Proof Sys2Proof.Machine

/-- Settles O24: LOOP and LOOPI by what is true of the levels as they issue, NOP by the outcome of its loop test. -/
theorem loops : Obligations.Loops := by
  unfold Obligations.Loops
  intro s g ra count len lev k d base top stop
  refine ⟨fun o i n hrow hi => ?issue, fun hi hf => ⟨fun h => ?_, fun h => ?_⟩, fun hi =>
    ⟨fun hb ha hcount hf => ?again, fun hb ha hcount hf => ?pop, fun h hf => ?outside, fun h hpc => ?past⟩⟩
  case issue =>
    have hexec : exec i s = .next (s.issueLoop g n len) := by
      simp only [List.mem_cons, Prod.mk.injEq, List.not_mem_nil, or_false] at hrow
      rcases hrow with ⟨rfl, rfl, rfl⟩ | ⟨rfl, rfl, rfl⟩
      · exact congrArg Host.Outcome.next (State.issue_clean _ hi)
      · exact congrArg Host.Outcome.next (State.issue_clean _ hi)
    rw [hexec]
    refine ⟨fun hd hw => ⟨fun hn hf => ?_, fun hn hf => ?_⟩, fun hd => ?_, fun hb hd hstart hstop hend => ?_⟩
    · rw [State.issueLoop_push ⟨hd, hw⟩ hn hf]
      exact congrArg Host.Outcome.next (State.upCpu_congr rfl)
    · rw [hn, State.issueLoop_no_pass ⟨hd, hw⟩ hf]
      exact congrArg Host.Outcome.next (State.upCpu_congr rfl)
    · rw [State.issueLoop_full n len hd]
    · exact congrArg Host.Outcome.next (State.issueLoop_crossing hd hb hstart hstop hend)
  · exact congrArg Host.Outcome.next ((State.runLexit_pop hi hf h).trans (State.upCpu_congr rfl))
  · exact congrArg Host.Outcome.next (State.runLexit_fault hi h)
  case again =>
    exact congrArg Host.Outcome.next
      ((State.issue_clean _ hi).trans (State.advance_of_loopNext (loopNext_again hb ha hcount) hf))
  case pop =>
    exact congrArg Host.Outcome.next
      ((State.issue_clean _ hi).trans (State.advance_of_loopNext (loopNext_pop hb ha hcount) hf))
  case outside =>
    exact congrArg Host.Outcome.next
      ((State.issue_clean _ hi).trans (State.advance_of_loopNext (loopNext_outside h) hf))
  case past =>
    have hnext : loopNext k.pc 8 k = (0x20000, k) := by rw [loopNext_outside (Or.inl h), hpc]
    obtain ⟨u, hu, hupc⟩ := State.advance_of_not_fetchable hnext rfl
    rw [hpc] at hu
    exact ⟨_, rfl, u, (State.issue_clean _ hi).trans hu, hupc⟩

end

namespace Sys2Proof.Machine
open Sys2Proof

/-! ### WFE and its wake (R547) -/

section
variable {s : State} {g : Nat}

theorem State.advance_setEvent (b : Bool) (hn : fetchable (s.nextPc g) = true) :
    (s.setEvent g b).advance g = s.goesOn g fun k => { k with event := b } :=
  State.advance_upCpu hn ⟨rfl, rfl, rfl, rfl⟩

/-- The end of a wait leaves the loops. -/
theorem State.nextPc_awake : (s.awake g).nextPc g = s.nextPc g := by
  have hcpu : (s.awake g).cpu g = { s.cpu g with wait := .none } := congrArg Engine.cpu (State.eng_upEng_self ..)
  refine State.nextPc_of_loopsAs ?_
  rw [hcpu]
  exact ⟨rfl, rfl, rfl, rfl⟩

theorem State.runWfe_event (hi : s.issues g .wfe = true) (hn : fetchable (s.nextPc g) = true)
    (he : (s.cpu g).event = true) : s.runWfe (.clean g) = s.goesOn g fun k => { k with event := false } := by
  rw [State.runWfe, State.issue_clean _ hi]
  exact (if_pos he).trans (State.advance_setEvent false hn)

theorem State.runWfe_interrupt (hi : s.issues g .wfe = true) (hn : fetchable (s.nextPc g) = true)
    (he : (s.cpu g).event = false) (ht : (s.takeable g).isSome = true) : s.runWfe (.clean g) = s.goesOn g id := by
  rw [State.runWfe, State.issue_clean _ hi]
  exact (if_neg (by simp [he])).trans ((if_pos ht).trans (State.advance_of_fetchable hn))

theorem State.runWfe_waits (hi : s.issues g .wfe = true) (he : (s.cpu g).event = false) (ht : s.takeable g = none) :
    s.runWfe (.clean g) = s.await g .wfe := by
  rw [State.runWfe, State.issue_clean _ hi]
  exact (if_neg (by simp [he])).trans (if_neg (by simp [ht]))

/-- Engine `g` waits in WFE, and neither its mode nor debug holds it. -/
structure State.InWfe (s : State) (g : Nat) : Prop where
  waiting : (s.eng g).state = .waiting
  wait : (s.cpu g).wait = .wfe
  free : (s.eng g).dbgHalt = false
  mayRun : s.engineMayRun g = true

theorem State.wfeWake_of_inWfe (h : s.InWfe g) : s.wfeWake g =
    if (s.takeable g).isSome then (s.awake g).advance g
    else if (s.cpu g).event then ((s.awake g).setEvent g false).advance g
    else s := by
  refine if_neg ?_
  simp [State.waits_, h.waiting, h.wait, h.free, h.mayRun]

end

/-! ### SEV (R548) -/

/-- The event flag of engine `j` is set if it runs or waits. -/
def State.signal (j : Nat) (s : State) : State := if (s.eng j).live then s.setEvent j true else s

/-- A live engine with its event flag set; another as it is. -/
def Engine.signalled (e : Engine) : Engine := if e.live then { e with cpu := { e.cpu with event := true } } else e

theorem Engine.signalled_signalled (e : Engine) : e.signalled.signalled = e.signalled := by
  unfold Engine.signalled
  by_cases h : e.live = true
  · have hlive : ({ e with cpu := { e.cpu with event := true } } : Engine).live = true := h
    simp [h, hlive]
  · simp [h]

theorem State.eng_signal (j h : Nat) (s : State) :
    (s.signal j).eng h = if h = j then (s.eng j).signalled else s.eng h := by
  by_cases hl : (s.eng j).live = true
  · simp [State.signal, Engine.signalled, hl, State.setEvent, State.upCpu, State.eng_upEng]
  · by_cases hj : h = j <;> simp [State.signal, Engine.signalled, hl, hj]

theorem State.signal_frame (j : Nat) (s : State) : s.signal j = { s with engines := (s.signal j).engines } := by
  unfold State.signal
  split <;> rfl

theorem State.eng_each_signal (f : Nat → Nat) (l : List Nat) (h : Nat) (s : State) :
    (s.each l fun k => State.signal (f k)).eng h = if h ∈ l.map f then (s.eng h).signalled else s.eng h := by
  induction l generalizing s with
  | nil => rfl
  | cons k l ih =>
    have hstep : (s.each (k :: l) fun k => State.signal (f k)) =
        (s.signal (f k)).each l fun k => State.signal (f k) := rfl
    rw [hstep, ih, State.eng_signal]
    by_cases hk : h = f k
    · simp [hk, Engine.signalled_signalled]
    · simp [hk]

theorem State.each_signal_frame (f : Nat → Nat) (l : List Nat) (s : State) :
    (s.each l fun k => State.signal (f k)) =
      { s with engines := (s.each l fun k => State.signal (f k)).engines } := by
  induction l generalizing s with
  | nil => rfl
  | cons k l ih =>
    have hstep : (s.each (k :: l) fun k => State.signal (f k)) =
        (s.signal (f k)).each l fun k => State.signal (f k) := rfl
    rw [hstep, ih, State.signal_frame (f k) s]

/-- The engines of engine `g`'s cluster, each signalled. -/
def State.signalCluster (g : Nat) (s : State) : State :=
  s.each (List.range 8) fun k => State.signal (8 * (g / 8) + k)

section
variable {s : State} {g : Nat}

theorem State.eng_signalCluster (h : Nat) :
    (s.signalCluster g).eng h = if h / 8 = g / 8 then (s.eng h).signalled else s.eng h := by
  have hmem : h ∈ (List.range 8).map (8 * (g / 8) + ·) ↔ h / 8 = g / 8 := by
    simp only [List.mem_map, List.mem_range]
    exact ⟨fun ⟨k, hk, he⟩ => by omega, fun he => ⟨h % 8, by omega, by omega⟩⟩
  rw [State.signalCluster, State.eng_each_signal]
  simp only [hmem]

/-- The issuer runs, so its own flag is set. -/
theorem State.cpu_signalCluster (hl : (s.eng g).live = true) :
    (s.signalCluster g).cpu g = { s.cpu g with event := true } := by
  rw [State.cpu, State.eng_signalCluster, if_pos rfl, Engine.signalled, if_pos hl]
  rfl

/-- An update of registers changes nothing beside the engines. -/
theorem State.upCpu_of_frame {u : State} (hu : u = { s with engines := u.engines }) (f : Cpu → Cpu) :
    u.upCpu g f = { s with engines := (u.upCpu g f).engines } :=
  congrArg (fun v : State => { v with engines := (u.upCpu g f).engines }) hu

theorem State.live_of_issues {o : Op} (hi : s.issues g o = true) : (s.eng g).live = true := by
  simp only [State.issues, State.engineRuns, Bool.and_eq_true] at hi
  obtain ⟨⟨⟨hrun, -⟩, -⟩, -⟩ := hi
  simp [Engine.live, hrun]

theorem State.nextPc_signalCluster (hl : (s.eng g).live = true) : (s.signalCluster g).nextPc g = s.nextPc g := by
  refine State.nextPc_of_loopsAs ?_
  rw [State.cpu_signalCluster hl]
  exact ⟨rfl, rfl, rfl, rfl⟩

theorem State.runSev_clean (hi : s.issues g .sev = true) (hn : fetchable (s.nextPc g) = true) :
    s.runSev (.clean g) = (s.signalCluster g).goesOn g id := by
  have hf : fetchable ((s.signalCluster g).nextPc g) = true := by
    rw [State.nextPc_signalCluster (State.live_of_issues hi), hn]
  rw [← State.advance_of_fetchable hf]
  exact State.issue_clean (fun s => (s.signalCluster g).advance g) hi

end

end Sys2Proof.Machine

section
open Sys2Proof Sys2Proof.Machine

/-- Settles O27: WFE and its wake by the reason that comes first, SEV engine by engine of the cluster. -/
theorem eventFlag : Obligations.EventFlag := by
  unfold Obligations.EventFlag
  intro s g hn wakes spent
  refine ⟨fun hi => ⟨fun he => ?_, fun he ht => ?_, fun he ht => ?_⟩, fun hstate hwait hfree hmay => ?wake,
    fun hi => ?sev⟩
  · exact congrArg Host.Outcome.next (State.runWfe_event hi hn he)
  · exact congrArg Host.Outcome.next (State.runWfe_interrupt hi hn he ht)
  · exact congrArg Host.Outcome.next (State.runWfe_waits hi he ht)
  case wake =>
    have hexec : exec (.wfeWake g) s = .next (s.wfeWake g) := rfl
    have hn' : fetchable ((s.awake g).nextPc g) = true := by rwa [State.nextPc_awake]
    rw [hexec, State.wfeWake_of_inWfe ⟨hstate, hwait, hfree, hmay⟩]
    refine ⟨fun ht => ?_, fun ht he => ?_, fun ht he => ?_⟩
    · rw [if_pos ht, State.advance_of_fetchable hn']
      rfl
    · rw [if_neg (by simp [ht]), if_pos he, State.advance_setEvent false hn']
      rfl
    · rw [if_neg (by simp [ht]), if_neg (by simp [he])]
  case sev =>
    refine ⟨_, rfl, ?_⟩
    rw [State.runSev_clean hi hn, State.goesOn, State.goesOn]
    refine ⟨?_, fun j hj => ?_, ?_⟩
    · rw [State.cpu_upCpu_self, State.cpu_upCpu_self, State.cpu_signalCluster (State.live_of_issues hi)]
      rfl
    · rw [State.upCpu, State.eng_upEng, if_neg hj, State.eng_signalCluster, Engine.signalled]
      by_cases hc : j / 8 = g / 8 <;> simp [hc]
    · exact State.upCpu_of_frame (State.each_signal_frame ..) _

end

namespace Sys2Proof.Machine
open Sys2Proof

/-! ### Data and shared memory (Table 14-1) -/

/-- A buffer lies wholly in data memory or wholly in shared memory. -/
theorem bufferOk_iff (a n : Nat) : bufferOk a n = true ↔
    0x10000000 ≤ a ∧ a + n ≤ 0x10010000 ∨ 0x20000000 ≤ a ∧ a + n ≤ 0x20200000 := by
  have hregion : regionOf a n = if a + n ≤ 0x20000 then some .imem
      else if 0x10000000 ≤ a ∧ a + n ≤ 0x10010000 then some .dmem
      else if 0x20000000 ≤ a ∧ a + n ≤ 0x20200000 then some .shared else none := rfl
  rw [bufferOk, hregion]
  split_ifs <;> simp <;> omega

theorem regionOf_byte_dmem {a : Nat} (h : 0x10000000 ≤ a) (h' : a < 0x10010000) : regionOf a 1 = some .dmem := by
  rw [regionOf, if_neg (by omega), if_pos (by omega)]

theorem regionOf_byte_shared {a : Nat} (h : 0x20000000 ≤ a) (h' : a < 0x20200000) : regionOf a 1 = some .shared := by
  rw [regionOf, if_neg (by omega), if_neg (by omega), if_pos (by omega)]

/-- Where the region of a byte begins and ends. -/
theorem regionOf_byte_bounds {a : Nat} {r : Region} (h : regionOf a 1 = some r) :
    match r with
    | .imem => a < 0x20000
    | .dmem => 0x10000000 ≤ a ∧ a < 0x10010000
    | .shared => 0x20000000 ≤ a ∧ a < 0x20200000 := by
  unfold regionOf at h
  split_ifs at h <;> cases h <;> simp only <;> omega

theorem State.setEngByte_dmem {a : Nat} (ha : regionOf a 1 = some .dmem) (g : Nat) (b : Byte) (s : State) :
    s.setEngByte g a b =
      s.upEng g fun e => { e with dmem := e.dmem.set (fun _ => 0) (a - 0x10000000) b } := by
  rw [State.setEngByte, ha]

theorem State.setEngByte_shared {a : Nat} (ha : regionOf a 1 = some .shared) (g : Nat) (b : Byte) (s : State) :
    s.setEngByte g a b =
      { s with shared := s.shared.set (fun _ => 0) (g / 8 * 2 ^ 21 + (a - 0x20000000)) b } := by
  rw [State.setEngByte, ha]

section
variable {a : Nat}

/-- A byte written to data memory is its engine's alone. -/
theorem State.engByte_setEngByte_dmem (hlo : 0x10000000 ≤ a) (hhi : a < 0x10010000) (g h c : Nat) (b : Byte)
    (s : State) : (s.setEngByte g a b).engByte h c = if c = a ∧ h = g then b else s.engByte h c := by
  have ha := regionOf_byte_dmem hlo hhi
  simp only [State.setEngByte_dmem ha, State.engByte, State.eng_upEng]
  cases hc : regionOf c 1 with
  | none =>
    have hca : c ≠ a := by rintro rfl; simp [ha] at hc
    simp [hca]
  | some r =>
    have hbounds := regionOf_byte_bounds hc
    cases r with
    | imem =>
      have hca : c ≠ a := by simp only at hbounds; omega
      by_cases hg : h = g <;> simp [hca, hg]
    | dmem =>
      have hkey : c - 0x10000000 = a - 0x10000000 ↔ c = a := by simp only at hbounds; omega
      by_cases hg : h = g <;> simp [hg, Tbl.get_set, hkey]
    | shared =>
      have hca : c ≠ a := by simp only at hbounds; omega
      simp [hca, State.upEng]

/-- A byte written to shared memory is seen by every engine of the cluster. -/
theorem State.engByte_setEngByte_shared (hlo : 0x20000000 ≤ a) (hhi : a < 0x20200000) (g h c : Nat) (b : Byte)
    (s : State) : (s.setEngByte g a b).engByte h c = if c = a ∧ h / 8 = g / 8 then b else s.engByte h c := by
  have ha := regionOf_byte_shared hlo hhi
  simp only [State.setEngByte_shared ha, State.engByte]
  cases hc : regionOf c 1 with
  | none =>
    have hca : c ≠ a := by rintro rfl; simp [ha] at hc
    simp [hca]
  | some r =>
    have hbounds := regionOf_byte_bounds hc
    cases r with
    | imem =>
      have hca : c ≠ a := by simp only at hbounds; omega
      exact (if_neg (by simp [hca])).symm
    | dmem =>
      have hca : c ≠ a := by simp only at hbounds; omega
      exact (if_neg (by simp [hca])).symm
    | shared =>
      have hkey : h / 8 * 2 ^ 21 + (c - 0x20000000) = g / 8 * 2 ^ 21 + (a - 0x20000000) ↔ c = a ∧ h / 8 = g / 8 := by
        simp only at hbounds
        omega
      simp only [Tbl.get_set, hkey]

end

/-- Engine `h` sees what engine `g` writes at `a`: its own memory, or the shared memory of one cluster. -/
abbrev Sees (h g a : Nat) : Prop := h = g ∨ 0x20000000 ≤ a ∧ h / 8 = g / 8

/-- A byte written reads back for each engine that sees it, and every other byte reads as before. -/
theorem State.engByte_setEngByte {a : Nat} (ha : bufferOk a 1 = true) (g h c : Nat) (b : Byte) (s : State) :
    (s.setEngByte g a b).engByte h c = if c = a ∧ Sees h g a then b else s.engByte h c := by
  rcases (bufferOk_iff a 1).1 ha with ⟨hlo, hhi⟩ | ⟨hlo, hhi⟩
  · have hsees : Sees h g a ↔ h = g := ⟨fun hs => by omega, Or.inl⟩
    simp only [State.engByte_setEngByte_dmem hlo (by omega), hsees]
  · have hsees : Sees h g a ↔ h / 8 = g / 8 := ⟨fun hs => by omega, fun hs => Or.inr ⟨hlo, hs⟩⟩
    simp only [State.engByte_setEngByte_shared hlo (by omega), hsees]

theorem State.cpu_setEngByte (g a h : Nat) (b : Byte) (s : State) : (s.setEngByte g a b).cpu h = s.cpu h := by
  unfold State.setEngByte
  split
  · by_cases hg : h = g <;> simp [State.cpu, State.eng_upEng, hg]
  · rfl
  · rfl

theorem State.setEngByte_frame (g a : Nat) (b : Byte) (s : State) :
    s.setEngByte g a b =
      { s with engines := (s.setEngByte g a b).engines, shared := (s.setEngByte g a b).shared } := by
  unfold State.setEngByte
  split <;> rfl

/-! Consecutive bytes. -/

theorem State.engByte_putEngBytes {a : Nat} {bs : List Byte} (ha : bufferOk a bs.length = true) (g h c : Nat)
    (s : State) : (s.putEngBytes g a bs).engByte h c =
      if (a ≤ c ∧ c < a + bs.length) ∧ Sees h g a then bs.getD (c - a) 0 else s.engByte h c := by
  induction bs generalizing a s with
  | nil => exact (if_neg (by simp only [List.length_nil]; omega)).symm
  | cons b bs ih =>
    rw [List.length_cons] at ha ⊢
    have hbounds := (bufferOk_iff _ _).1 ha
    have hhead : bufferOk a 1 = true := (bufferOk_iff _ _).2 (by omega)
    have htail : bufferOk (a + 1) bs.length = true := (bufferOk_iff _ _).2 (by omega)
    have hsees : Sees h g (a + 1) ↔ Sees h g a := by omega
    rw [State.putEngBytes, ih htail, State.engByte_setEngByte hhead]
    simp only [hsees]
    by_cases hs : Sees h g a
    · rcases Nat.lt_trichotomy c a with hlt | rfl | hgt
      · rw [if_neg (by omega), if_neg (by omega), if_neg (by omega)]
      · rw [if_neg (by omega), if_pos ⟨rfl, hs⟩, if_pos (by omega), Nat.sub_self]
        rfl
      · obtain ⟨k, rfl⟩ := Nat.exists_eq_add_of_lt hgt
        have hk : a + k + 1 - a = k + 1 := by omega
        have hk' : a + k + 1 - (a + 1) = k := by omega
        rw [hk, hk', List.getD_cons_succ, if_neg (c := a + k + 1 = a ∧ _) (by omega)]
        exact if_congr (by omega) rfl rfl
    · simp only [hs, and_false, if_false]

theorem State.cpu_putEngBytes (g a h : Nat) (bs : List Byte) (s : State) :
    (s.putEngBytes g a bs).cpu h = s.cpu h := by
  induction bs generalizing a s with
  | nil => rfl
  | cons b bs ih => rw [State.putEngBytes, ih, State.cpu_setEngByte]

theorem State.putEngBytes_frame (g a : Nat) (bs : List Byte) (s : State) :
    s.putEngBytes g a bs =
      { s with engines := (s.putEngBytes g a bs).engines, shared := (s.putEngBytes g a bs).shared } := by
  induction bs generalizing a s with
  | nil => rfl
  | cons b bs ih =>
    rw [State.putEngBytes, ih, State.setEngByte_frame g a b s]

theorem leBytes_getD {k i : Nat} (n : Nat) (hi : i < k) : (leBytes k n).getD i 0 = BitVec.ofNat 8 (n / 256 ^ i) := by
  induction k generalizing n i with
  | zero => omega
  | succ k ih =>
    cases i with
    | zero => simp [leBytes]
    | succ i => rw [leBytes, List.getD_cons_succ, ih _ (by omega), Nat.div_div_eq_div_mul, pow_succ']

theorem State.engByte_upCpu (g h c : Nat) (f : Cpu → Cpu) (s : State) : (s.upCpu g f).engByte h c = s.engByte h c := by
  by_cases hg : h = g <;> simp [State.engByte, State.upCpu, State.eng_upEng, hg] <;> rfl

/-! ### Instructions that write a word of memory (R537, R538) -/

section
variable {s : State} {g a n : Nat}

theorem State.upCpu_of_memory_frame {u : State} (hu : u = { s with engines := u.engines, shared := u.shared })
    (f : Cpu → Cpu) :
    u.upCpu g f = { s with engines := (u.upCpu g f).engines, shared := (u.upCpu g f).shared } :=
  congrArg (fun v : State => { v with engines := (u.upCpu g f).engines }) hu

/-- Bytes written to memory and registers that then go on. -/
theorem State.stored_goesOn (w : Nat) (f : Cpu → Cpu) (hb : bufferOk a n = true) :
    Stored g a n w f s ((s.putEngBytes g a (leBytes n w)).goesOn g f) := by
  have hb' : bufferOk a (leBytes n w).length = true := by rwa [length_leBytes]
  have hbyte (h b : Nat) : ((s.putEngBytes g a (leBytes n w)).goesOn g f).engByte h b =
      if (a ≤ b ∧ b < a + n) ∧ Sees h g a then (leBytes n w).getD (b - a) 0 else s.engByte h b := by
    rw [State.goesOn, State.engByte_upCpu, State.engByte_putEngBytes hb', length_leBytes]
  refine ⟨fun b => ?own, fun h b hh hout => ?_, ?_, fun h hh => ?_, ?frame⟩
  case own =>
    rw [hbyte]
    by_cases hin : a ≤ b ∧ b < a + n
    · rw [if_pos ⟨hin, Or.inl rfl⟩, if_pos hin, leBytes_getD w (by omega)]
    · rw [if_neg (fun h => hin h.1), if_neg hin]
  · rw [hbyte, if_neg (by omega)]
  · rw [State.goesOn, State.goesOn, State.cpu_upCpu_self, State.cpu_upCpu_self, State.cpu_putEngBytes]
  · rw [State.goesOn, State.cpu_upCpu, if_neg hh, State.cpu_putEngBytes]
  case frame =>
    exact State.upCpu_of_memory_frame (State.putEngBytes_frame g a _ s) _

/-- A write of memory leaves the loops. -/
theorem State.nextPc_putEngBytes (bs : List Byte) : (s.putEngBytes g a bs).nextPc g = s.nextPc g := by
  rw [State.nextPc, State.nextPc, State.cpu_putEngBytes]

end

/-! ### Atomic operations (Table 15-9) -/

/-- Registers after an atomic operation that found `old`, with `held` in `rd` before. -/
def Cpu.afterAtom (f : AtomOp) (rd : Nat) (old held : Word) (c : Cpu) : Cpu :=
  { c with x := c.x.set rd old, psr := if f = .cas then (c.psr &&& 0xFFFFFFFE) ||| wd (b2n (old == held)) else c.psr }

theorem Cpu.afterAtom_loopsAs (f : AtomOp) (rd : Nat) (old held : Word) (c : Cpu) :
    (c.afterAtom f rd old held).LoopsAs c := by
  by_cases hf : f = .cas
  · have hkeep : KeepsDepths (setFlag flagZ (old == held)) := keepsDepths_setFlag (by decide) _
    rw [Cpu.afterAtom, if_pos hf, ← setFlag_Z]
    exact hkeep.loopsAs c _
  · rw [Cpu.afterAtom, if_neg hf]
    exact ⟨rfl, rfl, rfl, rfl⟩

section
variable {s : State} {g rd ra rb : Nat} {f : AtomOp}

theorem State.runAtom_misaligned (e : Ecc) (hi : s.issues g (.atom f rd ra rb) = true)
    (ha : (s.x g ra).toNat % 4 ≠ 0) : s.runAtom (.clean g) f rd ra rb e = s.trap g 3 (s.x g ra).toNat := by
  rw [State.runAtom, State.issue_clean _ hi]
  exact if_pos ha

theorem State.runAtom_access (e : Ecc) (hi : s.issues g (.atom f rd ra rb) = true)
    (ha : (s.x g ra).toNat % 4 = 0) (hb : bufferOk (s.x g ra).toNat 4 = false) :
    s.runAtom (.clean g) f rd ra rb e = s.trap g 4 (s.x g ra).toNat := by
  rw [State.runAtom, State.issue_clean _ hi]
  exact (if_neg (by simp [ha])).trans (if_pos (by simp [hb]))

theorem State.runAtom_good (hi : s.issues g (.atom f rd ra rb) = true) (hn : fetchable (s.nextPc g) = true)
    (ha : (s.x g ra).toNat % 4 = 0) (hb : bufferOk (s.x g ra).toNat 4 = true) :
    s.runAtom (.clean g) f rd ra rb .good =
      let old := wd (s.engVal g (s.x g ra).toNat 4)
      (s.putEngBytes g (s.x g ra).toNat (leBytes 4 (f.new old (s.x g rb) (s.x g rd)).toNat)).goesOn g
        (Cpu.afterAtom f rd old (s.x g rd)) := by
  have hn' (bs : List Byte) : fetchable ((s.putEngBytes g (s.x g ra).toNat bs).nextPc g) = true := by
    rwa [State.nextPc_putEngBytes]
  rw [State.runAtom, State.issue_clean _ hi]
  refine (if_neg (by simp [ha])).trans ((if_neg (by simp [hb])).trans ?_)
  rw [← State.advance_upCpu (hn' _) (Cpu.afterAtom_loopsAs ..)]
  refine congrArg (State.advance g) (State.upCpu_congr ?_)
  simp only [setFlag_Z]
  rfl

end

end Sys2Proof.Machine

section
open Sys2Proof Sys2Proof.Machine

/-- Settles O22: every row is the atomic operation of its function, and its new word is what Table 15-9 gives. -/
theorem atomics : Obligations.Atomics := by
  unfold Obligations.Atomics
  intro s g rd ra rb hn a b old f c w hrow hi
  have hexec : exec c s = .next (s.runAtom (.clean g) f rd ra rb .good) ∧ w = f.new old b (s.x g rd) := by
    simp only [List.mem_cons, Prod.mk.injEq, List.not_mem_nil, or_false] at hrow
    rcases hrow with ⟨rfl, rfl, rfl⟩ | ⟨rfl, rfl, rfl⟩ | ⟨rfl, rfl, rfl⟩ | ⟨rfl, rfl, rfl⟩ | ⟨rfl, rfl, rfl⟩ |
      ⟨rfl, rfl, rfl⟩
    iterate 6 exact ⟨rfl, rfl⟩
  obtain ⟨hc, rfl⟩ := hexec
  refine ⟨fun ha hb => ⟨_, hc, ?_⟩, fun ha => ?_, fun ha hb => ?_⟩
  · rw [State.runAtom_good hi hn ha hb]
    exact State.stored_goesOn _ _ hb
  · rw [hc, State.runAtom_misaligned _ hi ha]
  · rw [hc, State.runAtom_access _ hi ha hb]

end

namespace Sys2Proof.Machine
open Sys2Proof

/-! ### An interrupt whose vector word lies in the frame it stores (R574, R575)

The model holds the priority of a shared source as a number without a bound; a write of IRQ_SRC stores 0 to 15 there
(Table 16-3). A source of priority 2^26 takes its vector word from data memory, where the frame of the entry can stand. -/

/-- Engine 0 runs at address 4 with interrupts on, its frame is to stand at the beginning of its data memory, and source
600, of priority 2^26, is pending: its vector word is the first of that memory, which is zero. -/
def State.vectorInFrame : State :=
  { State.reset with
    ctl := { ModeCtl.reset with mode := .operational },
    irq := [(600, { enable := true, edge := true, pending := true, count := 3, masked := false, priority := 2 ^ 26,
                    targetValid := true, target := 0, queue := 255 })],
    engines := [(0, { Engine.unused with
      state := .running,
      cpu := { Cpu.start with x := List.replicate 15 0 ++ [0x10000020], pc := 4, psr := 0x100, vbase := 1 } })] }

/-- The interrupt can be taken, its frame can be written, and the vector word read before the entry is an address that
instructions can be fetched from. -/
theorem State.vectorInFrame_takes :
    State.vectorInFrame.engineRuns 0 = true ∧ State.vectorInFrame.takeable 0 = some ⟨2 ^ 26, true, 600⟩ ∧
      (State.vectorInFrame.x 0 15 - 32).toNat % 8 = 0 ∧ bufferOk (State.vectorInFrame.x 0 15 - 32).toNat 32 = true ∧
      fetchable (State.vectorInFrame.vector 0 (2 ^ 26)) = true := by
  and_intros <;> decide +kernel

/-- The vector word is 0 before the entry. -/
theorem State.vectorInFrame_vector : State.vectorInFrame.vector 0 (2 ^ 26) = 0 := by decide +kernel

/-- The entry goes to address 4, the return address that its frame holds where the vector word was. -/
theorem State.vectorInFrame_enters :
    ((State.vectorInFrame.takeInterrupt (.clean 0) []).cpu 0).pc = 4 := by
  decide +kernel

end Sys2Proof.Machine

section
open Sys2Proof Sys2Proof.Machine

/-- Refutes O29: where the frame of the entry overwrites the vector word, the handler that runs is not the one the
vector named before. Only a priority that no write of IRQ_SRC stores puts a vector word
there. -/
theorem not_interruptsAndReturn : ¬ Obligations.InterruptsAndReturn := by
  unfold Obligations.InterruptsAndReturn
  intro h
  obtain ⟨hentry, -⟩ := h State.vectorInFrame 0
  obtain ⟨hruns, htakes, halign, hframe, hfetch⟩ := State.vectorInFrame_takes
  obtain ⟨t, ht, -, -, hpc, -⟩ := hentry _ hruns htakes halign hframe hfetch
  have hexec : exec (.interruptEntry (.clean 0) []) State.vectorInFrame =
      .next (State.vectorInFrame.takeInterrupt (.clean 0) []) := rfl
  obtain rfl := Host.Outcome.next.inj (hexec.symm.trans ht)
  rw [State.vectorInFrame_enters, State.vectorInFrame_vector] at hpc
  exact absurd hpc (by decide)

end

namespace Sys2Proof.Machine
open Sys2Proof

/-! ### Requests of the Yewirak link that are not executed (R619 to R621)

The link judges a sound request by its open request first and its previous response second (log 29). -/

section
variable {s : State} {type seq : Nat} {env : WriteEnv} {p : List Byte}

theorem State.ywFrameError_of_up (hup : s.yw.up = true) : s.ywFrameError = s.cnt 0x1A034 :=
  if_pos hup

/-- While a request is open every other is counted and answered BUSY, whatever it holds (R620). -/
theorem State.ywRequest_of_open (hm : s.mode ≠ .off) (hup : s.yw.up = true) (ho : s.yw.open_.isSome = true) :
    s.ywRequest type seq env p = (s.cnt 0x1A038).emit (.yewirak (ywFrame (type + 0x80) seq [4, 0])) := by
  have hserved : ¬ (!s.yw.up || s.mode == .off) = true := by simp [hm, hup]
  exact (if_neg hserved).trans (if_pos ho)

/-- The type, sequence number and payload of the previous request are answered as it was, and counted (R621). -/
theorem State.ywRequest_of_repeat {r : List Byte} (hm : s.mode ≠ .off) (hup : s.yw.up = true)
    (ho : s.yw.open_ = none) (hl : s.yw.last = some (type, seq, p, r)) :
    s.ywRequest type seq env p = (s.cnt 0x1A03C).emit (.yewirak (ywFrame (type + 0x80) seq r)) := by
  have hserved : ¬ (!s.yw.up || s.mode == .off) = true := by simp [hm, hup]
  have hclosed : ¬ s.yw.open_.isSome = true := by simp [ho]
  refine (if_neg hserved).trans ((if_neg hclosed).trans ?_)
  rw [hl]
  exact if_pos (by simp)

end

end Sys2Proof.Machine

section
open Sys2Proof Sys2Proof.Machine

/-- Settles O57: every row is one request frame of its type, sequence number and payload; the link answers it by the
request that is open or the one that went before, and executes none. -/
theorem yewirakBusyAndRepeats : Obligations.YewirakBusyAndRepeats := by
  unfold Obligations.YewirakBusyAndRepeats
  intro s seq off n ws f e b hm hup
  refine ⟨congrArg Host.Outcome.next (State.ywFrameError_of_up hup), fun c ty p hrow => ?_⟩
  have hexec : ∃ env, exec c s = .next (s.ywRequest ty seq env p) := by
    simp only [List.mem_cons, Prod.mk.injEq, List.not_mem_nil, or_false] at hrow
    rcases hrow with ⟨rfl, rfl, rfl⟩ | ⟨rfl, rfl, rfl⟩ | ⟨rfl, rfl, rfl⟩ | ⟨rfl, rfl, rfl⟩ | ⟨rfl, rfl, rfl⟩ |
      ⟨rfl, rfl, rfl⟩ | ⟨rfl, rfl, rfl⟩ | ⟨rfl, rfl, rfl⟩
    iterate 8 exact ⟨_, rfl⟩
  obtain ⟨env, hc⟩ := hexec
  refine ⟨fun hopen => ?busy, fun r hclosed hlast => ?again⟩
  case busy => rw [hc, State.ywRequest_of_open hm hup hopen]
  case again => rw [hc, State.ywRequest_of_repeat hm hup hclosed hlast]

end

namespace Sys2Proof.Machine
open Sys2Proof

/-! ### What the operations of an output leave of the outputs and of the event bits -/

@[simp] theorem State.spar_upSpar (q r : Nat) (f : Spar → Spar) (s : State) :
    (s.upSpar q f).spar r = if r = q then f (s.spar q) else s.spar r := State.spar_setSpar ..

theorem State.spar_of_spars_eq {s t : State} (h : t.spars = s.spars) (r : Nat) : t.spar r = s.spar r :=
  congrArg (Tbl.get (fun _ => Spar.reset) · r) h

@[simp] theorem State.spar_raise (b : Blk) (i unit info : Nat) (s : State) (r : Nat) :
    (s.raise b i unit info).spar r = s.spar r := State.spar_of_spars_eq (by simp) r

@[simp] theorem State.spar_countSpar (q i : Nat) (s : State) (r : Nat) : (s.countSpar q i).spar r = s.spar r := rfl

@[simp] theorem State.spar_queueHealth (s : State) (r : Nat) : s.queueHealth.spar r = s.spar r :=
  State.spar_of_spars_eq (by simp) r

@[simp] theorem sparSet_raise {q : Nat} {x : Spar} {s t : State} (b : Blk) (i unit info : Nat) :
    SparSet q x s (t.raise b i unit info) ↔ SparSet q x s t := by simp [SparSet]

@[simp] theorem sparSet_countSpar {q : Nat} {x : Spar} {s t : State} (p i : Nat) :
    SparSet q x s (t.countSpar p i) ↔ SparSet q x s t := by simp [SparSet]

@[simp] theorem sparSet_queueHealth {q : Nat} {x : Spar} {s t : State} :
    SparSet q x s t.queueHealth ↔ SparSet q x s t := by simp [SparSet]

@[simp] theorem State.rb_upSpar (q : Nat) (f : Spar → Spar) (s : State) (o j : Nat) :
    (s.upSpar q f).rb o j = s.rb o j := rfl

@[simp] theorem State.rb_queueHealth (s : State) (o j : Nat) : s.queueHealth.rb o j = s.rb o j := by
  have hregs : s.queueHealth.regs = s.regs := by simp
  have hfuse : s.queueHealth.fuse = s.fuse := by simp
  simp only [State.rb, State.rd, hregs, hfuse]

/-- The counters of an output stand beside the event register. -/
@[simp] theorem State.rb_evt_countSpar (q i j : Nat) (s : State) (hi : i < 4) :
    (s.countSpar q i).rb Blk.spar.evtOff j = s.rb Blk.spar.evtOff j := by
  have hoff : Blk.spar.evtOff ≠ sparBase q + 0x10 + 4 * i := by show 0x20800 ≠ 0x20000 + 0x20 * q + 0x10 + 4 * i; omega
  exact congrArg (bit · j) ((State.rd_wr ..).trans (if_neg hoff))

theorem State.rb_raise_self (b : Blk) {i : Nat} (unit info : Nat) (s : State) (hi : i < 32) :
    (s.raise b i unit info).rb b.evtOff i = true := by
  rw [State.rb, State.rd_raise, if_pos rfl, bit, BitVec.getLsbD_or, wd, BitVec.getLsbD_ofNat]
  simp [hi]

/-- An event clears no register bit. -/
theorem State.rb_raise_of_rb (b : Blk) (i unit info : Nat) {s : State} {o j : Nat} (h : s.rb o j = true) :
    (s.raise b i unit info).rb o j = true := by
  unfold State.rb bit at *
  rw [State.rd_raise]
  split
  next ho => subst ho; simp [h]
  next => exact h

/-! ### An output that leaves its state for one in which it is not powered -/

/-- The output in state `st`, in which it is not powered. -/
def Spar.unpowered (st : SparState) (x : Spar) : Spar := { x with state := st, pg := false, queued := false, iOut := 0 }

theorem State.spar_setPg (q : Nat) (on : Bool) (s : State) (r : Nat) :
    (s.setPg q on).spar r = if r = q then { s.spar q with pg := on } else s.spar r := by
  unfold State.setPg
  split
  next hsame =>
    split
    next hr => subst hr hsame; rfl
    next => rfl
  next => simp

@[simp] theorem State.spar_sparTo (q : Nat) (st : SparState) (s : State) (r : Nat) :
    (s.sparTo q st).spar r = if r = q then (s.spar q).unpowered st else s.spar r := by
  rw [State.sparTo, State.spar_upSpar, State.spar_setPg, State.spar_setPg]
  by_cases hr : r = q <;> simp [hr, Spar.unpowered]

/-- Power-good raises an event of its own at most. -/
theorem State.rb_sparTo_of_rb (q : Nat) (st : SparState) {s : State} {o j : Nat} (h : s.rb o j = true) :
    (s.sparTo q st).rb o j = true := by
  rw [State.sparTo, State.rb_upSpar, State.setPg]
  split
  · exact h
  · exact State.rb_raise_of_rb _ _ _ _ h

/-- A change of output `q` that ends unpowered, from a state whose outputs are those of `u`. -/
theorem State.sparSet_unpowered {q : Nat} {st : SparState} {f : Spar → Spar} {s u : State}
    (hs : ∀ r, s.spar r = u.spar r) : SparSet q ((f (u.spar q)).unpowered st) u ((s.upSpar q f).sparTo q st) := by
  refine ⟨?_, fun r hr => ?_⟩
  · rw [State.spar_sparTo, if_pos rfl, State.spar_upSpar, if_pos rfl, hs]
  · rw [State.spar_sparTo, if_neg hr, State.spar_upSpar, if_neg hr, hs]

/-! ### Trips (R690, R691) -/

/-- The output's trip is counted, and PORT_TRIP raised with its cause and its current. -/
def State.sparTripped (q cause mA : Nat) (s : State) : State :=
  (s.countSpar q 0).raise .spar 2 q (cause * 2 ^ 16 + mA % 2 ^ 16)

theorem fld_or_two_pow_of_lt (w : Word) {i lo : Nat} (len : Nat) (h : i < lo) :
    fld (w ||| wd (2 ^ i)) lo len = fld w lo len := by
  refine Nat.eq_of_testBit_eq fun k => ?_
  have hother : (wd (2 ^ i)).getLsbD (lo + k) = false := by
    rw [wd, BitVec.getLsbD_ofNat, Nat.testBit_two_pow_of_ne (by omega), Bool.and_false]
  rw [testBit_fld, testBit_fld, bit, BitVec.getLsbD_or, hother, Bool.or_false, bit]

/-- The trip leaves retry_max, even where the base of a number past the last output is the event register's offset. -/
theorem State.retryMax_sparTripped (q cause mA : Nat) (s : State) :
    (s.sparTripped q cause mA).rf (sparBase q) 20 4 = s.rf (sparBase q) 20 4 := by
  have hcount : ∀ o, o = sparBase q → (s.countSpar q 0).rd o = s.rd o := fun o ho =>
    (State.rd_wr ..).trans (if_neg (by omega))
  unfold State.sparTripped State.rf
  rw [State.rd_raise]
  split
  next hevt => rw [hcount _ hevt.symm, fld_or_two_pow_of_lt _ _ (by decide), hevt]
  next => rw [hcount _ rfl]

theorem State.sparTrip_retries {q : Nat} {s : State} (cause mA : Nat)
    (h : (s.spar q).retries < s.rf (sparBase q) 20 4) :
    s.sparTrip q cause mA =
      ((s.sparTripped q cause mA).upSpar q fun x => { x with retries := (s.spar q).retries + 1 }).sparTo q
        .retryOff := by
  refine if_neg (?_ : ¬ (s.sparTripped q cause mA).rf (sparBase q) 20 4 < (s.spar q).retries + 1)
  rw [State.retryMax_sparTripped]
  omega

theorem State.sparTrip_latches {q : Nat} {s : State} (cause mA : Nat)
    (h : s.rf (sparBase q) 20 4 ≤ (s.spar q).retries) :
    s.sparTrip q cause mA =
      ((((s.sparTripped q cause mA).upSpar q fun x => { x with commanded := false }).sparTo q .latched).countSpar q
        1).raise .spar 3 q 0 := by
  refine if_pos (?_ : (s.sparTripped q cause mA).rf (sparBase q) 20 4 < (s.spar q).retries + 1)
  rw [State.retryMax_sparTripped]
  omega

@[simp] theorem State.spar_sparTripped (q cause mA : Nat) (s : State) (r : Nat) :
    (s.sparTripped q cause mA).spar r = s.spar r := by
  simp [State.sparTripped]

theorem State.rb_sparTripped (q cause mA : Nat) (s : State) :
    (s.sparTripped q cause mA).rb Blk.spar.evtOff 2 = true := State.rb_raise_self _ _ _ _ (by decide)

/-- Each trip is the one of its cause in a state its timer runs in (R685 to R687). -/
theorem exec_trip {s : State} {q mA : Nat} {c : Instr}
    (h : c = .portInrushTimeout q mA ∧ (s.spar q).state = .inrush ∨ c = .portFaultTimer q mA ∧ (s.spar q).state = .limit
      ∨ c = .portShort q mA ∧ ((s.spar q).state = .inrush ∨ (s.spar q).state = .on ∨ (s.spar q).state = .limit)) :
    ∃ cause, exec c s = .next (s.sparTrip q cause mA) := by
  rcases h with ⟨rfl, hst⟩ | ⟨rfl, hst⟩ | ⟨rfl, hst⟩
  case inl => exact ⟨1, congrArg Host.Outcome.next (if_pos (by simp [hst]))⟩
  case inr.inl => exact ⟨2, congrArg Host.Outcome.next (if_pos (by simp [hst]))⟩
  case inr.inr =>
    refine ⟨3, congrArg Host.Outcome.next (?_ : s.portShort q mA = _)⟩
    rcases hst with hst | hst | hst <;> rw [State.portShort, hst]

/-! ### Damaged pass elements and shedding (R693, R696) -/

/-- A change of the health record waits to be stored, if not by this then by an earlier operation (R722). -/
theorem State.health_mem_queueHealth (s : State) : KOp.health ∈ s.queueHealth.keeper.ops := by
  unfold State.queueHealth
  extract_lets waiting
  split
  next hwaits =>
    have hmem : KOp.health ∈ waiting := List.contains_iff_mem.1 hwaits
    unfold waiting at hmem
    split at hmem
    · exact List.mem_of_mem_drop hmem
    · exact hmem
  next => simp [State.queueOp]

theorem State.portPassFault_of_off {q : Nat} {s : State} (hfit : s.hasSpar q = true)
    (hoff : (s.spar q).state = .off ∨ (s.spar q).state = .shed ∨ (s.spar q).state = .retryOff ∨
      (s.spar q).state = .latched) :
    s.portPassFault q = (((s.upSpar q fun x => { x with passFault := true, commanded := false }).sparTo q
      .passFault).raise .spar 4 q 0).queueHealth := by
  have hunfit : ¬ (!s.hasSpar q) = true := by simp [hfit]
  rcases hoff with h | h | h | h <;> (rw [State.portPassFault, h]; exact if_neg hunfit)

theorem State.limitShed_of_choice {q : Nat} {s : State} (hsw : s.power.sw = .limit) (hq : s.shedChoice = some q) :
    s.limitShed =
      (((s.upSpar q fun x => { x with commanded := false }).sparTo q .off).countSpar q 2).raise .spar 5 q 2 := by
  refine (if_neg (by simp [hsw])).trans ?_
  rw [hq]

theorem State.limitShed_of_ne {s : State} (hsw : s.power.sw ≠ .limit) : s.limitShed = s := if_pos (by simpa using hsw)

end Sys2Proof.Machine

section
open Sys2Proof Sys2Proof.Machine

/-- Settles O12: every trip is `sparTrip` of its cause, which retries or latches by retry_max. What follows the step
that leaves the output unpowered touches no output, and no event clears the bit of another. -/
theorem outputTripsAndShedding : Obligations.OutputTripsAndShedding := by
  unfold Obligations.OutputTripsAndShedding
  refine ⟨fun s q mA c hrow => ?trip, fun s q => ⟨fun hfit hoff => ?passFault, fun hsw hq => ?shed, fun hsw => ?idle⟩⟩
  case trip =>
    obtain ⟨cause, hexec⟩ := exec_trip hrow
    refine ⟨fun hleft => ⟨_, hexec, ?retry⟩, fun hspent => ⟨_, hexec, ?latch⟩⟩
    case retry =>
      rw [State.sparTrip_retries cause mA hleft]
      exact ⟨State.sparSet_unpowered (State.spar_sparTripped q cause mA s),
        State.rb_sparTo_of_rb _ _ (State.rb_sparTripped q cause mA s)⟩
    case latch =>
      rw [State.sparTrip_latches cause mA hspent]
      refine ⟨?_, State.rb_raise_of_rb _ _ _ _ ?_, State.rb_raise_self _ _ _ _ (by decide)⟩
      · rw [sparSet_raise, sparSet_countSpar]
        exact State.sparSet_unpowered (State.spar_sparTripped q cause mA s)
      · rw [State.rb_evt_countSpar _ _ _ _ (by decide)]
        exact State.rb_sparTo_of_rb _ _ (State.rb_sparTripped q cause mA s)
  case passFault =>
    refine ⟨_, congrArg Host.Outcome.next (State.portPassFault_of_off hfit hoff), ?_, ?_,
      State.health_mem_queueHealth _⟩
    · rw [sparSet_queueHealth, sparSet_raise]
      exact State.sparSet_unpowered fun _ => rfl
    · rw [State.rb_queueHealth]
      exact State.rb_raise_self _ _ _ _ (by decide)
  case shed =>
    refine ⟨_, congrArg Host.Outcome.next (State.limitShed_of_choice hsw hq), ?_,
      State.rb_raise_self _ _ _ _ (by decide)⟩
    rw [sparSet_raise, sparSet_countSpar]
    exact State.sparSet_unpowered fun _ => rfl
  case idle => exact congrArg Host.Outcome.next (State.limitShed_of_ne hsw)

end

namespace Sys2Proof.Machine
open Sys2Proof

/-! ### Register writes, whole and partial (R730, R732) -/

theorem State.window_of_open {off : Nat} {r : Reg} {s : State} (hr : Reg.ofOff off = some r)
    (ho : s.open_ off = true) : s.window r = .full := by
  simpa [State.open_, hr] using ho

/-- A closed window, and an offset that names no register, take no write (R7, R48, R730). -/
theorem State.writeWord_of_closed {off : Nat} {s : State} (env : WriteEnv) (be : Nat) (w : Word)
    (hc : s.open_ off = false) : s.writeWord env off be w = s := by
  unfold State.writeWord
  cases hr : Reg.ofOff off with
  | none => rfl
  | some r =>
    have hshut : (s.window r != .full) = true := by simpa [State.open_, hr] using hc
    exact if_pos hshut

/-- A partial word is a rejected write of its offset, but for KPR_INBUF (R732). -/
theorem State.writeWord_partial {off be : Nat} {s : State} (env : WriteEnv) (w : Word) (ho : s.open_ off = true)
    (hbe : be % 16 ≠ 15) (hno : ∀ k, Reg.ofOff off ≠ some (.kprInbuf k)) :
    s.writeWord env off be w = s.encReject off := by
  cases hr : Reg.ofOff off with
  | none => simp [State.open_, hr] at ho
  | some r =>
    simp only [State.writeWord, hr, State.window_of_open hr ho, hbe, bne_self_eq_false, Bool.false_eq_true, if_false]
    split
    next k => exact absurd hr (hno k)
    next => rfl

/-! ### KPR_INBUF (R732) -/

theorem Reg.ofOff_kprInbuf {k : Nat} (hk : k < 1024) : Reg.ofOff (0x1D000 + 4 * k) = some (.kprInbuf k) := by
  have hrun : run (0x1D000 + 4 * k) 0x1D000 1024 = some k :=
    (if_pos (by omega)).trans (congrArg some (by omega))
  rw [Reg.ofOff, if_neg (by omega), if_neg (by omega), if_pos (by omega), Reg.ofMid, if_neg (by omega),
    if_neg (by omega), if_neg (by omega), if_neg (by omega), if_neg (by omega), if_pos (by omega), if_neg (by omega),
    if_neg (by omega), if_neg (by omega), if_neg (by omega), if_neg (by omega), if_neg (by omega), hrun,
    Option.map_some]
  all_goals omega

/-- A merge looks at four byte enables. -/
theorem mergeBytes_congr {be be' : Nat} (old w : Word) (h : be % 16 = be' % 16) :
    mergeBytes old w be = mergeBytes old w be' := by
  have hbit : ∀ i < 4, nbit be i = nbit be' i := fun i hi => by
    have := congrArg (Nat.testBit · i) h
    simpa [nbit, Nat.testBit_mod_two_pow be 4, Nat.testBit_mod_two_pow be' 4, hi] using this
  simp [mergeBytes, List.range_succ, hbit]

theorem State.writeWord_kprInbuf {k : Nat} {s : State} (env : WriteEnv) (be : Nat) (w : Word) (hk : k < 1024)
    (ho : s.open_ (0x1D000 + 4 * k) = true) :
    s.writeWord env (0x1D000 + 4 * k) be w = s.inbufWrite k w be := by
  have hr := Reg.ofOff_kprInbuf hk
  simp only [State.writeWord, hr, State.window_of_open hr ho, bne_self_eq_false, Bool.false_eq_true, if_false]
  split
  next hbe => rw [State.regWrite, State.inbufWrite, State.inbufWrite, mergeBytes_congr (be' := 15) _ w hbe]
  next => rfl

/-- One byte of a merge: byte `j` under its enable, every other as it was. -/
theorem fld_mergeByte (v w : Word) (be : Nat) {i j : Nat} (hi : i < 4) (hj : j < 4) :
    fld (if nbit be j then setFld v (8 * j) 8 (fld w (8 * j) 8) else v) (8 * i) 8 =
      if i = j ∧ nbit be i = true then fld w (8 * i) 8 else fld v (8 * i) 8 := by
  by_cases hij : i = j
  · subst hij
    by_cases hb : nbit be i = true
    · simp [hb, fld_setFld v (show 8 * i + 8 ≤ 32 by omega) (fld_lt w _ _)]
    · simp [hb]
  · have hother := fld_setFld_of_disjoint v (lo := 8 * j) (len := 8) (v := fld w (8 * j) 8)
      (show 8 * i + 8 ≤ 32 by omega) (by omega)
    split <;> simp [hij, hother]

/-- The bytes of a merge: those enabled are of the write, the others of the word before (R732). -/
theorem fld_mergeBytes (old w : Word) (be : Nat) {i : Nat} (hi : i < 4) :
    fld (mergeBytes old w be) (8 * i) 8 = fld (if be.testBit i then w else old) (8 * i) 8 := by
  have hrange : List.range 4 = [0, 1, 2, 3] := rfl
  rw [apply_ite (fld · (8 * i) 8)]
  simp only [mergeBytes, hrange, List.foldl, fld_mergeByte _ w be hi, Nat.reduceLT]
  interval_cases i <;> simp [nbit]

/-! ### Staging registers of the filters (R331, Table 8-10) -/

theorem Reg.ofOff_fltStage {c k : Nat} (hc : c < 4) (hk : k < 16) :
    Reg.ofOff (fltBase c + 0x40 + 4 * k) = some (.flt c (.stage k)) := by
  have hoff : fltBase c + 0x40 + 4 * k = 0x1300040 + c * 0x400000 + 4 * k := by unfold fltBase clusterBase; omega
  have hdiv : (0x1300040 + c * 0x400000 + 4 * k - 0x1000000) / 0x400000 = c := by omega
  have hmod : (0x1300040 + c * 0x400000 + 4 * k - 0x1000000) % 0x400000 = 0x300040 + 4 * k := by omega
  rw [hoff, Reg.ofOff, if_neg (by omega), if_neg (by omega), if_neg (by omega), if_neg (by omega),
    if_neg (by omega), if_pos (by omega), hdiv, hmod]
  interval_cases k <;> rfl

/-- The bits a staging word uses: all of words 0 to 11, 18 of word 12, none of the rest (R15, R331). -/
theorem State.fltWrite_stage (c k : Nat) (w : Word) (s : State) :
    s.fltWrite c (.stage k) w =
      s.wr (fltBase c + 0x40 + 4 * k) (if k < 12 then w else if k = 12 then w &&& 0x3FFFF else 0) := by
  have hall : w &&& 0xFFFFFFFF = w := BitVec.and_allOnes
  rw [State.fltWrite]
  congr 1
  split
  · exact hall
  · split
    · rfl
    · exact BitVec.and_zero

/-! ### Aliases of the sticky registers (R18, R735) -/

theorem isAlias_of_evt {off a : Nat} {b : Blk} (hr : Reg.ofOff off = some (.evt b a)) : isAlias a off = true := by
  simp [isAlias, hr]

theorem State.aliasBy_of_isAlias {a off : Nat} (yw : Bool) (w : Word) (s : State) (h : isAlias a off = true) :
    s.aliasBy a yw off w = s.put yw off w := if_pos h

/-- Beside the aliases, or in a closed window, nothing happens. -/
theorem State.aliasBy_of_idle {a off : Nat} {s : State} (yw : Bool) (w : Word)
    (h : isAlias a off = false ∨ s.open_ off = false) : s.aliasBy a yw off w = s := by
  rcases h with hno | hshut
  · simp [State.aliasBy, hno]
  · rw [State.aliasBy, State.put, State.writeWord_of_closed _ _ w hshut, ite_self]

/-- The aliases of an event register set and clear the bits that the word written names. -/
theorem State.aliasBy_evt {off a : Nat} {b : Blk} {s : State} (yw : Bool) (w : Word)
    (hr : Reg.ofOff off = some (.evt b a)) (ho : s.open_ off = true) : s.aliasBy a yw off w = s.evtAlias b a w := by
  rw [State.aliasBy_of_isAlias yw w s (isAlias_of_evt hr)]
  exact State.writeWord_of_open (r := .evt b a) _ w hr ho

theorem State.evtAlias_clear (b : Blk) (w : Word) (s : State) :
    s.evtAlias b 2 w = s.wr b.evtOff (s.rd b.evtOff &&& ~~~(w &&& wd b.evtenReset)) := rfl

theorem State.noteEngine_frame (g : Nat) (s : State) :
    s.noteEngine g = { s with engines := (s.noteEngine g).engines } := by
  simp only [State.noteEngine]
  split <;> rfl

/-- A source noted pending sets an event flag of an engine at most (R546). -/
theorem State.noteSrc_frame (i : Nat) (before : Bool) (s : State) :
    s.noteSrc i before = { s with engines := (s.noteSrc i before).engines } := by
  unfold State.noteSrc
  split
  · exact State.noteEngine_frame _ s
  · rfl

theorem State.rd_noteSrc (i : Nat) (before : Bool) (s : State) (o : Nat) : (s.noteSrc i before).rd o = s.rd o := by
  rw [State.noteSrc_frame]
  rfl

/-- Setting bits of an event register sets those it defines, and the event flag of the engine that the source is now
pending for (R18, R546). -/
theorem State.evtAlias_set (b : Blk) (w : Word) (s : State) :
    (s.evtAlias b 1 w).rd b.evtOff = s.rd b.evtOff ||| (w &&& wd b.evtenReset) ∧
      (∀ o, o ≠ b.evtOff → (s.evtAlias b 1 w).rd o = s.rd o) ∧
      s.evtAlias b 1 w = { s with regs := (s.evtAlias b 1 w).regs, engines := (s.evtAlias b 1 w).engines } := by
  have hset : s.evtAlias b 1 w =
      (s.wr b.evtOff (s.rd b.evtOff ||| (w &&& wd b.evtenReset))).noteSrc b.src (s.srcPending b.src) := rfl
  rw [hset]
  refine ⟨by simp [State.rd_noteSrc], fun o ho => by simp [State.rd_noteSrc, ho], ?_⟩
  rw [State.noteSrc_frame]
  rfl

/-- IRQ_SPEND and its aliases lie where Table 16-4 puts them. -/
theorem Reg.ofOff_irqSpend {k a : Nat} (hk : k < 32) (ha : a < 3) :
    Reg.ofOff (0xE000 + 0x10 * k + 4 * a) = some (.irqSpend k a) := by
  interval_cases k <;> interval_cases a <;> rfl

theorem State.aliasBy_irqSpend {k a : Nat} (yw : Bool) (w : Word) (s : State) (hk : k < 32) (ha : a < 3) :
    s.aliasBy a yw (0xE000 + 0x10 * k + 4 * a) w = s.put yw (0xE000 + 0x10 * k + 4 * a) w :=
  State.aliasBy_of_isAlias yw w s (by simp [isAlias, Reg.ofOff_irqSpend hk ha])

end Sys2Proof.Machine

section
open Sys2Proof Sys2Proof.Machine

/-- Settles O4: an open offset takes the write of the register it names, and the rows of the aliases are such writes. -/
theorem registersAndAliases : Obligations.RegistersAndAliases := by
  unfold Obligations.RegistersAndAliases
  refine ⟨fun yw off be w f e s => ⟨?closed, ?partialWord, ?inbuf, ?stage⟩,
    fun yw w s => ⟨?set, ?clear, ?setReject, ?clearReject, ?spend, ?setIdle, ?clearIdle⟩⟩
  case closed => exact fun hc => congrArg Host.Outcome.next (State.writeWord_of_closed _ be w hc)
  case partialWord =>
    exact fun ho hbe hno => congrArg Host.Outcome.next (State.writeWord_partial _ w ho hbe hno)
  case inbuf =>
    rintro k hk rfl ho
    refine ⟨_, congrArg Host.Outcome.next (State.writeWord_kprInbuf _ be w hk ho), fun i hi => ?_,
      fun o h => by simp [State.inbufWrite, h], rfl⟩
    simpa [State.inbufWrite] using fld_mergeBytes _ w be hi
  case stage =>
    rintro c k hc hk rfl ho rfl
    refine ⟨_, congrArg Host.Outcome.next ((State.writeWord_of_open _ w (Reg.ofOff_fltStage hc hk) ho).trans
      (State.fltWrite_stage c k w s)), by simp, fun o h => by simp [h], rfl⟩
  case set =>
    exact fun b hr ho => ⟨_, congrArg Host.Outcome.next (State.aliasBy_evt yw w hr ho), State.evtAlias_set b w s⟩
  case clear =>
    intro b hr ho
    refine ⟨_, congrArg Host.Outcome.next (State.aliasBy_evt yw w hr ho), ?_⟩
    rw [State.evtAlias_clear]
    exact ⟨by simp, fun o h => by simp [h], rfl⟩
  case setReject =>
    intro ho
    rw [exec_stickySet_modReject yw w ho]
    cases hw : bit w 0 <;> simp [State.rejectAlias, hw]
  case clearReject =>
    intro ho
    rw [exec_stickyClear_modReject yw w ho]
    cases hw : bit w 0 <;> simp [State.rejectAlias, hw]
  case spend =>
    intro k hk
    have hset : 0xE004 + 0x10 * k = 0xE000 + 0x10 * k + 4 * 1 := by omega
    have hclear : 0xE008 + 0x10 * k = 0xE000 + 0x10 * k + 4 * 2 := by omega
    exact ⟨congrArg Host.Outcome.next ((State.aliasBy_irqSpend yw w s hk (by decide)).trans (by rw [hset])),
      congrArg Host.Outcome.next ((State.aliasBy_irqSpend yw w s hk (by decide)).trans (by rw [hclear]))⟩
  case setIdle => exact fun off h => congrArg Host.Outcome.next (State.aliasBy_of_idle yw w h)
  case clearIdle => exact fun off h => congrArg Host.Outcome.next (State.aliasBy_of_idle yw w h)

end

namespace Sys2Proof.Machine
open Sys2Proof

/-! ### The frame of every command -/

/-! The masks that many rows share lie within the fields that `Instr.touches` names for them. -/

theorem mask_instruction : 0x3A7B177E00FFCC &&& (3 ||| maskOf (Field.allBut [.stage, .latch, .nextId, .psnap,
    .retiredRows, .spareRows, .slices, .routes, .routeOwners, .tunSeq, .gwLate, .yw, .nodes, .cycle, .gridK, .scheds,
    .quar, .loads, .structure_, .power, .free])) = 0x3A7B177E00FFCC := by decide

theorem mask_registerWrite : 0x7A7F1F7F91FFDC &&& (3 ||| maskOf (Field.allBut [.latch, .psnap, .retiredRows, .spareRows,
    .routes, .routeOwners, .yw, .cycle, .gridK, .scheds, .loads, .structure_, .power])) = 0x7A7F1F7F91FFDC := by decide

theorem mask_all : 0x7FFFFFFFFFFFFF &&& (3 ||| maskOf Field.all) = 0x7FFFFFFFFFFFFF := by decide

theorem mask_unit : 0x3A7F177E01FFCC &&& (3 ||| maskOf (Field.allBut [.stage, .latch, .psnap, .retiredRows, .spareRows,
    .slices, .routes, .routeOwners, .tunSeq, .gwLate, .yw, .nodes, .cycle, .gridK, .scheds, .loads, .structure_, .power,
    .free])) = 0x3A7F177E01FFCC := by decide

/-- A command that completes keeps everything but the fields of its row: the fuses and the queue never change. -/
theorem exec_kept {c : Instr} {s t : State} (h : exec c s = .next t) : Kept (3 ||| maskOf c.touches) s t := by
  cases c with
  | registerWrite => exact (execRegisterWrite_k (h := h)).mono mask_registerWrite
  | latchedRead => exact (execLatchedRead_k (h := h)).mono (by dsimp only [Instr.touches]; rfl)
  | counterReadClear => exact (execCounterReadClear_k (h := h)).mono (by dsimp only [Instr.touches]; rfl)
  | stickySet => exact (execStickySet_k (h := h)).mono mask_registerWrite
  | stickyClear => exact (execStickyClear_k (h := h)).mono mask_registerWrite
  | bar2Write => exact (execBar2Write_k (h := h)).mono (by dsimp only [Instr.touches]; rfl)
  | bar2Read => exact (execBar2Read_k (h := h)).mono (by dsimp only [Instr.touches]; rfl)
  | cmdqTail => exact (execCmdqTail_k (h := h)).mono mask_registerWrite
  | cmdqCfg => exact (execCmdqCfg_k (h := h)).mono mask_registerWrite
  | commandFetch => exact (execCommandFetch_k (h := h)).mono (by dsimp only [Instr.touches]; rfl)
  | nop => exact (execNop_k (h := h)).mono rfl
  | loadStream => exact (execLoadStream_k (h := h)).mono mask_all
  | streamValidation => exact (execStreamValidation_k (h := h)).mono mask_all
  | autoloadCopy => exact (execAutoloadCopy_k (h := h)).mono rfl
  | loaderHoldRelease => exact (execLoaderHoldRelease_k (h := h)).mono mask_all
  | reloadCluster => exact (execReloadCluster_k (h := h)).mono mask_all
  | clusterStage6 => exact (execClusterStage6_k (h := h)).mono mask_all
  | holdMaxExpiry => exact (execHoldMaxExpiry_k (h := h)).mono (by dsimp only [Instr.touches]; rfl)
  | unload => exact (execUnload_k (h := h)).mono mask_all
  | enterStandby => exact (execEnterStandby_k (h := h)).mono mask_all
  | resume => exact (execResume_k (h := h)).mono mask_all
  | enterSleep => exact (execEnterSleep_k (h := h)).mono mask_all
  | enterService => exact (execEnterService_k (h := h)).mono mask_all
  | leaveService => exact (execLeaveService_k (h := h)).mono mask_all
  | enterTest => exact (execEnterTest_k (h := h)).mono mask_all
  | leaveTest => exact (execLeaveTest_k (h := h)).mono mask_all
  | moduleReset => exact (execModuleReset_k (h := h)).mono mask_all
  | restep => exact (execRestep_k (h := h)).mono rfl
  | busRetry => exact (execBusRetry_k (h := h)).mono rfl
  | bufUnpark => exact (execBufUnpark_k (h := h)).mono rfl
  | sparOn => exact (execSparOn_k (h := h)).mono rfl
  | sparOff => exact (execSparOff_k (h := h)).mono rfl
  | sparClear => exact (execSparClear_k (h := h)).mono (by dsimp only [Instr.touches]; rfl)
  | spareApprove => exact (execSpareApprove_k (h := h)).mono rfl
  | auditSnapshot => exact (execAuditSnapshot_k (h := h)).mono rfl
  | calCommit => exact (execCalCommit_k (h := h)).mono rfl
  | feedInRange => exact (execFeedInRange_k (h := h)).mono mask_all
  | feedOutOfRange => exact (execFeedOutOfRange_k (h := h)).mono mask_all
  | pwrRestore => exact (execPwrRestore_k (h := h)).mono mask_all
  | reverseTurnOff => exact (execReverseTurnOff_k (h := h)).mono (by dsimp only [Instr.touches]; rfl)
  | seatMade => exact (execSeatMade_k (h := h)).mono (by dsimp only [Instr.touches]; rfl)
  | seatDebounceDone => exact (execSeatDebounceDone_k (h := h)).mono mask_all
  | seatOpen => exact (execSeatOpen_k (h := h)).mono mask_all
  | inrushComplete => exact (execInrushComplete_k (h := h)).mono mask_all
  | inrushTimeout => exact (execInrushTimeout_k (h := h)).mono mask_all
  | inputLimit => exact (execInputLimit_k (h := h)).mono (by dsimp only [Instr.touches]; rfl)
  | inputFaultTimer => exact (execInputFaultTimer_k (h := h)).mono mask_all
  | inputShort => exact (execInputShort_k (h := h)).mono mask_all
  | inputRetryEnd => exact (execInputRetryEnd_k (h := h)).mono mask_all
  | inputRetriesReset => exact (execInputRetriesReset_k (h := h)).mono rfl
  | inputPassFault => exact (execInputPassFault_k (h := h)).mono rfl
  | modPgAssert => exact (execModPgAssert_k (h := h)).mono rfl
  | holdupExhausted => exact (execHoldupExhausted_k (h := h)).mono mask_all
  | bringupComplete => exact (execBringupComplete_k (h := h)).mono mask_all
  | bringupTimeout => exact (execBringupTimeout_k (h := h)).mono (by dsimp only [Instr.touches]; rfl)
  | tempUpdate => exact (execTempUpdate_k (h := h)).mono (by dsimp only [Instr.touches]; rfl)
  | rateWindow => exact (execRateWindow_k (h := h)).mono (by dsimp only [Instr.touches]; rfl)
  | perstDeassert => exact (execPerstDeassert_k (h := h)).mono rfl
  | hostLinkReset => exact (execHostLinkReset_k (h := h)).mono (by dsimp only [Instr.touches]; rfl)
  | hostWake => exact (execHostWake_k (h := h)).mono mask_all
  | wakeRelease => exact (execWakeRelease_k (h := h)).mono rfl
  | txdTimeout => exact (execTxdTimeout_k (h := h)).mono (by dsimp only [Instr.touches]; rfl)
  | busDom => exact (execBusDom_k (h := h)).mono (by dsimp only [Instr.touches]; rfl)
  | wakeUpPattern => exact (execWakeUpPattern_k (h := h)).mono mask_all
  | wakeFrame => exact (execWakeFrame_k (h := h)).mono mask_all
  | wufErrcnt => exact (execWufErrcnt_k (h := h)).mono mask_all
  | nodeTableStage => exact (execNodeTableStage_k (h := h)).mono mask_registerWrite
  | nodeTableCommit => exact (execNodeTableCommit_k (h := h)).mono mask_registerWrite
  | integrationComplete => exact (execIntegrationComplete_k (h := h)).mono (by dsimp only [Instr.touches]; rfl)
  | slotArbitration => exact (execSlotArbitration_k (h := h)).mono (by dsimp only [Instr.touches]; rfl)
  | arbitrationLost => exact (execArbitrationLost_k (h := h)).mono (by dsimp only [Instr.touches]; rfl)
  | busFrameReceived => exact (execBusFrameReceived_k (h := h)).mono (by dsimp only [Instr.touches]; rfl)
  | busFrameSent => exact (execBusFrameSent_k (h := h)).mono (by dsimp only [Instr.touches]; rfl)
  | busError => exact (execBusError_k (h := h)).mono (by dsimp only [Instr.touches]; rfl)
  | protocolException => exact (execProtocolException_k (h := h)).mono (by dsimp only [Instr.touches]; rfl)
  | delayedRecoveryStart => exact (execDelayedRecoveryStart_k (h := h)).mono (by dsimp only [Instr.touches]; rfl)
  | busCtrlRecover => exact (execBusCtrlRecover_k (h := h)).mono mask_registerWrite
  | busOn => exact (execBusOn_k (h := h)).mono (by dsimp only [Instr.touches]; rfl)
  | slotLoad => exact (execSlotLoad_k (h := h)).mono (by dsimp only [Instr.touches]; rfl)
  | lock => exact (execLock_k (h := h)).mono mask_registerWrite
  | release => exact (execRelease_k (h := h)).mono mask_registerWrite
  | ack => exact (execAck_k (h := h)).mono mask_registerWrite
  | pop => exact (execPop_k (h := h)).mono mask_registerWrite
  | commit => exact (execCommit_k (h := h)).mono mask_registerWrite
  | trigger => exact (execTrigger_k (h := h)).mono mask_registerWrite
  | clearOverrun => exact (execClearOverrun_k (h := h)).mono mask_registerWrite
  | rowSubstitution => exact (execRowSubstitution_k (h := h)).mono (by dsimp only [Instr.touches]; rfl)
  | waitingGrant => exact (execWaitingGrant_k (h := h)).mono (by dsimp only [Instr.touches]; rfl)
  | headEscalation => exact (execHeadEscalation_k (h := h)).mono (by dsimp only [Instr.touches]; rfl)
  | heldFrameCredit => exact (execHeldFrameCredit_k _ _ h).mono (by dsimp only [Instr.touches]; rfl)
  | transitLate => exact (execTransitLate_k (h := h)).mono (by dsimp only [Instr.touches]; rfl)
  | readExact => exact (execReadExact_k (h := h)).mono mask_registerWrite
  | readMasked => exact (execReadMasked_k (h := h)).mono mask_registerWrite
  | addExact => exact (execAddExact_k (h := h)).mono mask_registerWrite
  | setExact => exact (execSetExact_k (h := h)).mono mask_registerWrite
  | delExact => exact (execDelExact_k (h := h)).mono mask_registerWrite
  | moveExact => exact (execMoveExact_k (h := h)).mono mask_registerWrite
  | writeShadow => exact (execWriteShadow_k (h := h)).mono mask_registerWrite
  | copyToShadow => exact (execCopyToShadow_k (h := h)).mono mask_registerWrite
  | copyToShadowDone => exact (execCopyToShadowDone_k (h := h)).mono (by dsimp only [Instr.touches]; rfl)
  | filterCommit => exact (execFilterCommit_k (h := h)).mono mask_registerWrite
  | abandon => exact (execAbandon_k (h := h)).mono mask_registerWrite
  | deliveryPoint => exact (execDeliveryPoint_k (h := h)).mono (by dsimp only [Instr.touches]; rfl)
  | ethFrameReceived => exact (execEthFrameReceived_k (h := h)).mono (by dsimp only [Instr.touches]; rfl)
  | pauseReceived => exact (execPauseReceived_k (h := h)).mono (by dsimp only [Instr.touches]; rfl)
  | pfcReceived => exact (execPfcReceived_k (h := h)).mono (by dsimp only [Instr.touches]; rfl)
  | pauseEffect => exact (execPauseEffect_k (h := h)).mono (by dsimp only [Instr.touches]; rfl)
  | pauseExpiry => exact (execPauseExpiry_k (h := h)).mono (by dsimp only [Instr.touches]; rfl)
  | ethFrameStart => exact (execEthFrameStart_k (h := h)).mono (by dsimp only [Instr.touches]; rfl)
  | ethFrameSent => exact (execEthFrameSent_k (h := h)).mono (by dsimp only [Instr.touches]; rfl)
  | pauseTxRepeat => exact (execPauseTxRepeat_k (h := h)).mono (by dsimp only [Instr.touches]; rfl)
  | linkUp => exact (execLinkUp_k (h := h)).mono (by dsimp only [Instr.touches]; rfl)
  | linkDown => exact (execLinkDown_k (h := h)).mono (by dsimp only [Instr.touches]; rfl)
  | verifyAttempt => exact (execVerifyAttempt_k (h := h)).mono (by dsimp only [Instr.touches]; rfl)
  | lpiEnter => exact (execLpiEnter_k (h := h)).mono (by dsimp only [Instr.touches]; rfl)
  | lpiExit => exact (execLpiExit_k (h := h)).mono (by dsimp only [Instr.touches]; rfl)
  | gateBoundary => exact (execGateBoundary_k (h := h)).mono (by dsimp only [Instr.touches]; rfl)
  | gateCommit => exact (execGateCommit_k (h := h)).mono mask_registerWrite
  | gateSwitch => exact (execGateSwitch_k (h := h)).mono (by dsimp only [Instr.touches]; rfl)
  | launchDue => exact (execLaunchDue_k (h := h)).mono (by dsimp only [Instr.touches]; rfl)
  | ptpSyncReceived => exact (execPtpSyncReceived_k (h := h)).mono (by dsimp only [Instr.touches]; rfl)
  | ptpFollowUpReceived => exact (execPtpFollowUpReceived_k (h := h)).mono (by dsimp only [Instr.touches]; rfl)
  | pdelayReqReceived => exact (execPdelayReqReceived_k (h := h)).mono (by dsimp only [Instr.touches]; rfl)
  | pdelayRespReceived => exact (execPdelayRespReceived_k (h := h)).mono (by dsimp only [Instr.touches]; rfl)
  | delayReqReceived => exact (execDelayReqReceived_k (h := h)).mono (by dsimp only [Instr.touches]; rfl)
  | delayRespReceived => exact (execDelayRespReceived_k (h := h)).mono (by dsimp only [Instr.touches]; rfl)
  | syncTx => exact (execSyncTx_k (h := h)).mono (by dsimp only [Instr.touches]; rfl)
  | delayRequestTx => exact (execDelayRequestTx_k (h := h)).mono (by dsimp only [Instr.touches]; rfl)
  | ppsInEdge => exact (execPpsInEdge_k (h := h)).mono (by dsimp only [Instr.touches]; rfl)
  | holdoffEnd => exact (execHoldoffEnd_k (h := h)).mono (by dsimp only [Instr.touches]; rfl)
  | sourceLost => exact (execSourceLost_k (h := h)).mono rfl
  | bcnRate => exact (execBcnRate_k (h := h)).mono mask_registerWrite
  | bcnAdj => exact (execBcnAdj_k (h := h)).mono mask_registerWrite
  | bcnCfg => exact (execBcnCfg_k (h := h)).mono mask_registerWrite
  | bcnSave => exact (execBcnSave_k (h := h)).mono mask_registerWrite
  | ppsOut => exact (execPpsOut_k (h := h)).mono rfl
  | tsqRead => exact (execTsqRead_k (h := h)).mono (by dsimp only [Instr.touches]; rfl)
  | cycleStart => exact (execCycleStart_k (h := h)).mono (by dsimp only [Instr.touches]; rfl)
  | windowStart => exact (execWindowStart_k (h := h)).mono (by dsimp only [Instr.touches]; rfl)
  | windowEnd => exact (execWindowEnd_k (h := h)).mono (by dsimp only [Instr.touches]; rfl)
  | exclusiveTrigger => exact (execExclusiveTrigger_k (h := h)).mono (by dsimp only [Instr.touches]; rfl)
  | referenceReceived => exact (execReferenceReceived_k (h := h)).mono (by dsimp only [Instr.touches]; rfl)
  | backupTakeover => exact (execBackupTakeover_k (h := h)).mono (by dsimp only [Instr.touches]; rfl)
  | quarantinePop => exact (execQuarantinePop_k (h := h)).mono mask_registerWrite
  | resync => exact (execResync_k (h := h)).mono mask_registerWrite
  | clear => exact (execClear_k (h := h)).mono mask_registerWrite
  | engineRestart => exact (execEngineRestart_k (h := h)).mono mask_registerWrite
  | engineSubstitution => exact (execEngineSubstitution_k (h := h)).mono mask_instruction
  | interruptEntry => exact (execInterruptEntry_k (h := h)).mono (by dsimp only [Instr.touches]; rfl)
  | illegalInstruction => exact (execIllegalInstruction_k (h := h)).mono mask_instruction
  | add => exact (execAdd_k (h := h)).mono mask_instruction
  | sub => exact (execSub_k (h := h)).mono mask_instruction
  | adc => exact (execAdc_k (h := h)).mono mask_instruction
  | sbc => exact (execSbc_k (h := h)).mono mask_instruction
  | and => exact (execAnd_k (h := h)).mono mask_instruction
  | or => exact (execOr_k (h := h)).mono mask_instruction
  | xor => exact (execXor_k (h := h)).mono mask_instruction
  | andn => exact (execAndn_k (h := h)).mono mask_instruction
  | sll => exact (execSll_k (h := h)).mono mask_instruction
  | srl => exact (execSrl_k (h := h)).mono mask_instruction
  | sra => exact (execSra_k (h := h)).mono mask_instruction
  | rot => exact (execRot_k (h := h)).mono mask_instruction
  | mul => exact (execMul_k (h := h)).mono mask_instruction
  | mulhs => exact (execMulhs_k (h := h)).mono mask_instruction
  | mulhu => exact (execMulhu_k (h := h)).mono mask_instruction
  | div => exact (execDiv_k (h := h)).mono mask_instruction
  | divu => exact (execDivu_k (h := h)).mono mask_instruction
  | rem => exact (execRem_k (h := h)).mono mask_instruction
  | remu => exact (execRemu_k (h := h)).mono mask_instruction
  | neg => exact (execNeg_k (h := h)).mono mask_instruction
  | abs => exact (execAbs_k (h := h)).mono mask_instruction
  | abss => exact (execAbss_k (h := h)).mono mask_instruction
  | adds => exact (execAdds_k (h := h)).mono mask_instruction
  | subs => exact (execSubs_k (h := h)).mono mask_instruction
  | clz => exact (execClz_k (h := h)).mono mask_instruction
  | brev => exact (execBrev_k (h := h)).mono mask_instruction
  | bswap => exact (execBswap_k (h := h)).mono mask_instruction
  | ext => exact (execExt_k (h := h)).mono mask_instruction
  | ins => exact (execIns_k (h := h)).mono mask_instruction
  | addi => exact (execAddi_k (h := h)).mono mask_instruction
  | andi => exact (execAndi_k (h := h)).mono mask_instruction
  | ori => exact (execOri_k (h := h)).mono mask_instruction
  | xori => exact (execXori_k (h := h)).mono mask_instruction
  | shi => exact (execShi_k (h := h)).mono mask_instruction
  | lui => exact (execLui_k (h := h)).mono mask_instruction
  | cmp => exact (execCmp_k (h := h)).mono mask_instruction
  | cmpi => exact (execCmpi_k (h := h)).mono mask_instruction
  | tst => exact (execTst_k (h := h)).mono mask_instruction
  | ldw => exact (execLdw_k (h := h)).mono mask_instruction
  | ldh => exact (execLdh_k (h := h)).mono mask_instruction
  | ldhu => exact (execLdhu_k (h := h)).mono mask_instruction
  | ldb => exact (execLdb_k (h := h)).mono mask_instruction
  | ldbu => exact (execLdbu_k (h := h)).mono mask_instruction
  | stw => exact (execStw_k (h := h)).mono mask_instruction
  | sth => exact (execSth_k (h := h)).mono mask_instruction
  | stb => exact (execStb_k (h := h)).mono mask_instruction
  | ldd => exact (execLdd_k (h := h)).mono mask_instruction
  | std => exact (execStd_k (h := h)).mono mask_instruction
  | swap => exact (execSwap_k (h := h)).mono mask_instruction
  | fadd => exact (execFadd_k (h := h)).mono mask_instruction
  | fand => exact (execFand_k (h := h)).mono mask_instruction
  | for_ => exact (execFor_k (h := h)).mono mask_instruction
  | fxor => exact (execFxor_k (h := h)).mono mask_instruction
  | cas => exact (execCas_k (h := h)).mono mask_instruction
  | bc => exact (execBc_k (h := h)).mono mask_instruction
  | cbz => exact (execCbz_k (h := h)).mono mask_instruction
  | cbnz => exact (execCbnz_k (h := h)).mono mask_instruction
  | jmp => exact (execJmp_k (h := h)).mono mask_instruction
  | call => exact (execCall_k (h := h)).mono mask_instruction
  | jr => exact (execJr_k (h := h)).mono mask_instruction
  | callr => exact (execCallr_k (h := h)).mono mask_instruction
  | loop => exact (execLoop_k (h := h)).mono mask_instruction
  | loopi => exact (execLoopi_k (h := h)).mono mask_instruction
  | lexit => exact (execLexit_k (h := h)).mono mask_instruction
  | sysNop => exact (execSysNop_k (h := h)).mono mask_instruction
  | wfe => exact (execWfe_k (h := h)).mono mask_instruction
  | wfeWake => exact (execWfeWake_k (h := h)).mono (by dsimp only [Instr.touches]; rfl)
  | sev => exact (execSev_k (h := h)).mono mask_instruction
  | reti => exact (execReti_k (h := h)).mono (by dsimp only [Instr.touches]; rfl)
  | trap => exact (execTrap_k (h := h)).mono mask_instruction
  | break_ => exact (execBreak_k (h := h)).mono mask_instruction
  | csrr => exact (execCsrr_k (h := h)).mono mask_instruction
  | csrw => exact (execCsrw_k (h := h)).mono mask_instruction
  | csrs => exact (execCsrs_k (h := h)).mono mask_instruction
  | csrc => exact (execCsrc_k (h := h)).mono mask_instruction
  | ei => exact (execEi_k (h := h)).mono mask_instruction
  | di => exact (execDi_k (h := h)).mono mask_instruction
  | icRaise => exact (execIcRaise_k (h := h)).mono mask_instruction
  | icPclr => exact (execIcPclr_k (h := h)).mono mask_instruction
  | ident => exact (execIdent_k (h := h)).mono mask_unit
  | image => exact (execImage_k (h := h)).mono mask_unit
  | checkpoint => exact (execCheckpoint_k (h := h)).mono mask_unit
  | rate => exact (execRate_k (h := h)).mono mask_unit
  | take => exact (execTake_k (h := h)).mono mask_unit
  | frameRelease => exact (execFrameRelease_k (h := h)).mono mask_unit
  | hdr => exact (execHdr_k (h := h)).mono mask_unit
  | data => exact (execData_k (h := h)).mono mask_unit
  | copy => exact (execCopy_k (h := h)).mono mask_unit
  | submit => exact (execSubmit_k (h := h)).mono mask_unit
  | done => exact (execDone_k (h := h)).mono mask_unit
  | now => exact (execNow_k (h := h)).mono mask_unit
  | sechi => exact (execSechi_k (h := h)).mono mask_unit
  | frac => exact (execFrac_k (h := h)).mono mask_unit
  | waitUntil => exact (execWaitUntil_k (h := h)).mono mask_unit
  | waitUntilWake => exact (execWaitUntilWake_k (h := h)).mono (by dsimp only [Instr.touches]; rfl)
  | taskDone => exact (execTaskDone_k (h := h)).mono mask_unit
  | tsqPop => exact (execTsqPop_k (h := h)).mono mask_unit
  | tsqStamp => exact (execTsqStamp_k (h := h)).mono mask_unit
  | crc => exact (execCrc_k (h := h)).mono mask_instruction
  | cust => exact (execCust_k (h := h)).mono (by dsimp only [Instr.touches]; rfl)
  | tileFrameSubmit => exact (execTileFrameSubmit_k (h := h)).mono (by dsimp only [Instr.touches]; rfl)
  | tileSignal => exact (execTileSignal_k (h := h)).mono (by dsimp only [Instr.touches]; rfl)
  | irqSpendSet => exact (execIrqSpendSet_k (h := h)).mono mask_registerWrite
  | irqSpendClear => exact (execIrqSpendClear_k (h := h)).mono mask_registerWrite
  | irqSrcWrite => exact (execIrqSrcWrite_k (h := h)).mono mask_registerWrite
  | irqEqEnable => exact (execIrqEqEnable_k (h := h)).mono mask_registerWrite
  | irqEqHead => exact (execIrqEqHead_k (h := h)).mono mask_registerWrite
  | moderationTimer => exact (execModerationTimer_k (h := h)).mono (by dsimp only [Instr.touches]; rfl)
  | hostSleepReq => exact (execHostSleepReq_k (h := h)).mono mask_registerWrite
  | wakeHoldExpiry => exact (execWakeHoldExpiry_k (h := h)).mono rfl
  | heldRecordsFlush => exact (execHeldRecordsFlush_k (h := h)).mono rfl
  | l1Exit => exact (execL1Exit_k (h := h)).mono rfl
  | hostQTail => exact (execHostQTail_k (h := h)).mono mask_registerWrite
  | hostQCfg => exact (execHostQCfg_k (h := h)).mono mask_registerWrite
  | txDescriptor => exact (execTxDescriptor_k (h := h)).mono (by dsimp only [Instr.touches]; rfl)
  | rxSlotFetch => exact (execRxSlotFetch_k (h := h)).mono (by dsimp only [Instr.touches]; rfl)
  | queueStopped => exact (execQueueStopped_k (h := h)).mono (by dsimp only [Instr.touches]; rfl)
  | ywLinkUp => exact (execYwLinkUp_k (h := h)).mono rfl
  | ywLinkDown => exact (execYwLinkDown_k (h := h)).mono rfl
  | ywFrameError => exact (execYwFrameError_k (h := h)).mono rfl
  | ywIdentity => exact (execYwIdentity_k (h := h)).mono mask_all
  | ywStatus => exact (execYwStatus_k (h := h)).mono mask_all
  | ywRead => exact (execYwRead_k (h := h)).mono mask_all
  | ywWrite => exact (execYwWrite_k (h := h)).mono mask_all
  | ywCommand => exact (execYwCommand_k (h := h)).mono mask_all
  | ywTime => exact (execYwTime_k (h := h)).mono mask_all
  | ywWake => exact (execYwWake_k (h := h)).mono mask_all
  | firmware => exact (execFirmware_k (h := h)).mono mask_registerWrite
  | storeImage => exact (execStoreImage_k (h := h)).mono mask_registerWrite
  | eraseImage => exact (execEraseImage_k (h := h)).mono mask_registerWrite
  | testedSet => exact (execTestedSet_k (h := h)).mono mask_registerWrite
  | policy => exact (execPolicy_k (h := h)).mono mask_registerWrite
  | keyCert => exact (execKeyCert_k (h := h)).mono mask_registerWrite
  | lifecycle => exact (execLifecycle_k (h := h)).mono mask_registerWrite
  | debug => exact (execDebug_k (h := h)).mono mask_registerWrite
  | keeperStoreDone => exact (execKeeperStoreDone_k (h := h)).mono mask_all
  | sessionExpiry => exact (execSessionExpiry_k (h := h)).mono rfl
  | sessionClose => exact (execSessionClose_k (h := h)).mono mask_registerWrite
  | debugHalt => exact (execDebugHalt_k (h := h)).mono mask_registerWrite
  | debugStep => exact (execDebugStep_k (h := h)).mono mask_registerWrite
  | debugData => exact (execDebugData_k (h := h)).mono (by dsimp only [Instr.touches]; rfl)
  | tapShift => exact (execTapShift_k (h := h)).mono mask_registerWrite
  | outputSequenceStart => exact (execOutputSequenceStart_k (h := h)).mono rfl
  | pdDetected => exact (execPdDetected_k (h := h)).mono (by dsimp only [Instr.touches]; rfl)
  | detectRepeat => exact (execDetectRepeat_k (h := h)).mono (by dsimp only [Instr.touches]; rfl)
  | classRetry => exact (execClassRetry_k (h := h)).mono (by dsimp only [Instr.touches]; rfl)
  | portInrushComplete => exact (execPortInrushComplete_k (h := h)).mono (by dsimp only [Instr.touches]; rfl)
  | portInrushTimeout => exact (execPortInrushTimeout_k (h := h)).mono (by dsimp only [Instr.touches]; rfl)
  | portLimit => exact (execPortLimit_k (h := h)).mono (by dsimp only [Instr.touches]; rfl)
  | portFaultTimer => exact (execPortFaultTimer_k (h := h)).mono (by dsimp only [Instr.touches]; rfl)
  | portShort => exact (execPortShort_k (h := h)).mono (by dsimp only [Instr.touches]; rfl)
  | portRetryEnd => exact (execPortRetryEnd_k (h := h)).mono (by dsimp only [Instr.touches]; rfl)
  | portPg => exact (execPortPg_k (h := h)).mono (by dsimp only [Instr.touches]; rfl)
  | portRetriesReset => exact (execPortRetriesReset_k (h := h)).mono (by dsimp only [Instr.touches]; rfl)
  | portPassFault => exact (execPortPassFault_k (h := h)).mono (by dsimp only [Instr.touches]; rfl)
  | limitShed => exact (execLimitShed_k (h := h)).mono rfl
  | marginEvaluation => exact (execMarginEvaluation_k (h := h)).mono mask_instruction
  | unitFault => exact (execUnitFault_k (h := h)).mono mask_instruction
  | sliceSubstitution => exact (execSliceSubstitution_k (h := h)).mono mask_instruction
  | segmentSubstitution => exact (execSegmentSubstitution_k (h := h)).mono mask_instruction
  | hltRetest => exact (execHltRetest_k (h := h)).mono mask_registerWrite
  | retestDone => exact (execRetestDone_k (h := h)).mono (by dsimp only [Instr.touches]; rfl)
  | calUserWrite => exact (execCalUserWrite_k (h := h)).mono mask_registerWrite
  | beaconMillisecond => exact (execBeaconMillisecond_k (h := h)).mono rfl
  | inputLimitEnd => exact (execInputLimitEnd_k (h := h)).mono (by dsimp only [Instr.touches]; rfl)
  | portLimitEnd => exact (execPortLimitEnd_k (h := h)).mono (by dsimp only [Instr.touches]; rfl)
  | railOutOfWindow => exact (execRailOutOfWindow_k (h := h)).mono rfl
  | feedsRemoved => exact (execFeedsRemoved_k (h := h)).mono rfl
  | pcieLinkUp => exact (execPcieLinkUp_k (h := h)).mono rfl
  | d3hotEntry => exact (execD3hotEntry_k (h := h)).mono (by dsimp only [Instr.touches]; rfl)
  | linkL1Entry => exact (execLinkL1Entry_k (h := h)).mono rfl
  | msixTableWrite => exact (execMsixTableWrite_k (h := h)).mono (by dsimp only [Instr.touches]; rfl)
  | ywBadRequest => exact (execYwBadRequest_k (h := h)).mono mask_all
  | wufFrameDecoded => exact (execWufFrameDecoded_k (h := h)).mono mask_all

/-- The clock's tick with an empty queue is such a step too. -/
theorem State.tick_kept (s : State) : Kept 0x20035703000008 s s.tick := State.tick_k s rfl (Kept.refl _ s)

end Sys2Proof.Machine

section
open Sys2Proof Sys2Proof.Machine

/-- Settles O7: each row's meaning keeps the fields outside the mask that its own frame gives. -/
theorem commandFrames : Obligations.CommandFrames := by
  unfold Obligations.CommandFrames
  exact fun c s t h => (exec_kept h).frame (Nat.and_self _)

/-- Settles O8: a step is the clock's tick or a command on the queue's rest, and both keep the canonical form, the fuses,
the queue they are given and what was sent. -/
theorem stepInvariant : Obligations.StepInvariant := by
  unfold Obligations.StepInvariant
  intro s t h
  cases hq : s.pending with
  | nil =>
    have ht : s.tick = t := by simpa [step, hq] using h
    obtain ⟨-, hcanon, hfuse, hpending, hout⟩ := ht ▸ s.tick_kept
    exact ⟨hcanon, hfuse, hpending.trans hq, hout⟩
  | cons c rest =>
    have hc : exec c { s with pending := rest } = .next t := by simpa [step, hq] using h
    obtain ⟨-, hcanon, hfuse, hpending, hout⟩ := exec_kept hc
    exact ⟨hcanon, hfuse, hpending, hout⟩

end

namespace Sys2Proof.Machine
open Sys2Proof

/-! ### Fields of an instruction word (Table 15-6)

The word is a name of its own in these facts: the kernel would otherwise compute with the sum of its fields. -/

theorem put_of_lt {v len : Nat} (lo : Nat) (h : v < 2 ^ len) : put v len lo = v * 2 ^ lo := by
  rw [put, Nat.mod_eq_of_lt h]

section
variable {op rd ra rb sub v : Nat}

theorem fmtA_fields (hop : op < 64) (hrd : rd < 16) (hra : ra < 16) (hrb : rb < 16) (hsub : sub < 16) :
    ∃ w, fmtA op rd ra rb sub = w ∧ fld w 26 6 = op ∧ fld w 22 4 = rd ∧ fld w 18 4 = ra ∧ fld w 14 4 = rb ∧
      fld w 10 4 = sub ∧ fld w 0 10 = 0 := by
  have hw : (fmtA op rd ra rb sub).toNat = op * 2 ^ 26 + rd * 2 ^ 22 + ra * 2 ^ 18 + rb * 2 ^ 14 + sub * 2 ^ 10 := by
    simp only [fmtA, put, wd, BitVec.toNat_ofNat]
    omega
  refine ⟨_, rfl, ?_⟩
  simp only [fld, hw, Nat.shiftRight_eq_div_pow]
  omega

theorem toNat_fmtI (hop : op < 64) (hrd : rd < 16) (hra : ra < 16) (hv : v < 2 ^ 18) :
    (fmtI op rd ra v).toNat = op * 2 ^ 26 + rd * 2 ^ 22 + ra * 2 ^ 18 + v := by
  simp only [fmtI, put, wd, BitVec.toNat_ofNat]
  omega

theorem fmtI_fields (hop : op < 64) (hrd : rd < 16) (hra : ra < 16) (hv : v < 2 ^ 18) :
    ∃ w, fmtI op rd ra v = w ∧ fld w 26 6 = op ∧ fld w 22 4 = rd ∧ fld w 18 4 = ra ∧ fld w 0 18 = v := by
  refine ⟨_, rfl, ?_⟩
  simp only [fld, toNat_fmtI hop hrd hra hv, Nat.shiftRight_eq_div_pow]
  omega

/-- The low part of EXT and INS: the field's position and length (R531). -/
theorem fmtI_field_fields {s pos len : Nat} (hop : op < 64) (hrd : rd < 16) (hra : ra < 16) (hs : s < 2)
    (hlen : 1 ≤ len) (hfit : pos + len ≤ 32) :
    ∃ w, fmtI op rd ra (put s 1 10 + put pos 5 5 + put (len + 31) 5 0) = w ∧ fld w 26 6 = op ∧ fld w 22 4 = rd ∧
      fld w 18 4 = ra ∧ fld w 11 7 = 0 ∧ fld w 10 1 = s ∧ fld w 10 8 = s ∧
      fld w 5 5 = pos ∧ fld w 0 5 + 1 = len := by
  have hlow : put s 1 10 + put pos 5 5 + put (len + 31) 5 0 = s * 2 ^ 10 + pos * 2 ^ 5 + (len - 1) := by
    simp only [put]
    omega
  have hv : s * 2 ^ 10 + pos * 2 ^ 5 + (len - 1) < 2 ^ 18 := by omega
  refine ⟨_, rfl, ?_⟩
  simp only [hlow, fld, toNat_fmtI hop hrd hra hv, Nat.shiftRight_eq_div_pow]
  omega

theorem fmtI_shift_fields {kind n : Nat} (hop : op < 64) (hrd : rd < 16) (hra : ra < 16) (hk : kind < 4) (hn : n < 64) :
    ∃ w, fmtI op rd ra (put kind 2 16 + put n 6 0) = w ∧ fld w 26 6 = op ∧ fld w 22 4 = rd ∧ fld w 18 4 = ra ∧
      fld w 16 2 = kind ∧ fld w 6 10 = 0 ∧ fld w 0 6 = n := by
  have hv : kind * 2 ^ 16 + n * 2 ^ 0 < 2 ^ 18 := by omega
  rw [put_of_lt 16 hk, put_of_lt 0 hn]
  refine ⟨_, rfl, ?_⟩
  simp only [fld, toNat_fmtI hop hrd hra hv, Nat.shiftRight_eq_div_pow]
  omega

theorem fmtI_loopi_fields {count len : Nat} (hop : op < 64) (hrd : rd < 16) (hra : ra < 16) (hc : count < 2 ^ 9)
    (hl : len < 2 ^ 9) :
    ∃ w, fmtI op rd ra (put count 9 9 + put len 9 0) = w ∧ fld w 26 6 = op ∧ fld w 22 4 = rd ∧ fld w 18 4 = ra ∧
      fld w 9 9 = count ∧ fld w 0 9 = len := by
  have hv : count * 2 ^ 9 + len * 2 ^ 0 < 2 ^ 18 := by omega
  rw [put_of_lt 9 hc, put_of_lt 0 hl]
  refine ⟨_, rfl, ?_⟩
  simp only [fld, toNat_fmtI hop hrd hra hv, Nat.shiftRight_eq_div_pow]
  omega

theorem fmtB_fields (hop : op < 64) (hrd : rd < 16) (hv : v < 2 ^ 22) :
    ∃ w, fmtB op rd v = w ∧ fld w 26 6 = op ∧ fld w 22 4 = rd ∧ fld w 0 22 = v := by
  have hw : (fmtB op rd v).toNat = op * 2 ^ 26 + rd * 2 ^ 22 + v := by
    simp only [fmtB, put, wd, BitVec.toNat_ofNat]
    omega
  refine ⟨_, rfl, ?_⟩
  simp only [fld, hw, Nat.shiftRight_eq_div_pow]
  omega

theorem fmtJ_fields (hop : op < 64) (hv : v < 2 ^ 26) :
    ∃ w, fmtJ op v = w ∧ fld w 26 6 = op ∧ fld w 0 26 = v := by
  have hw : (fmtJ op v).toNat = op * 2 ^ 26 + v := by
    simp only [fmtJ, put, wd, BitVec.toNat_ofNat]
    omega
  refine ⟨_, rfl, ?_⟩
  simp only [fld, hw, Nat.shiftRight_eq_div_pow]
  omega

theorem fmtS_fields (hop : op < 64) (hrd : rd < 16) (hra : ra < 16) (hrb : rb < 16) (hsub : sub < 64) (hv : v < 256) :
    ∃ w, fmtS op rd ra rb sub v = w ∧ fld w 26 6 = op ∧ fld w 22 4 = rd ∧ fld w 18 4 = ra ∧ fld w 14 4 = rb ∧
      fld w 8 6 = sub ∧ fld w 0 8 = v := by
  have hw : (fmtS op rd ra rb sub v).toNat = op * 2 ^ 26 + rd * 2 ^ 22 + ra * 2 ^ 18 + rb * 2 ^ 14 + sub * 2 ^ 8 + v := by
    simp only [fmtS, put, wd, BitVec.toNat_ofNat]
    omega
  refine ⟨_, rfl, ?_⟩
  simp only [fld, hw, Nat.shiftRight_eq_div_pow]
  omega

theorem fmtX_fields {unit fn : Nat} (hrd : rd < 16) (hra : ra < 16) (hrb : rb < 16) (hu : unit < 16) (hfn : fn < 64) :
    ∃ w, fmtX rd ra rb unit fn = w ∧ fld w 26 6 = 0x3D ∧ fld w 22 4 = rd ∧ fld w 18 4 = ra ∧ fld w 14 4 = rb ∧
      fld w 10 4 = unit ∧ fld w 4 6 = fn ∧
      fld w 0 4 = 0 := by
  have hw : (fmtX rd ra rb unit fn).toNat =
      0x3D * 2 ^ 26 + rd * 2 ^ 22 + ra * 2 ^ 18 + rb * 2 ^ 14 + unit * 2 ^ 10 + fn * 2 ^ 4 := by
    simp only [fmtX, put, wd, BitVec.toNat_ofNat]
    omega
  refine ⟨_, rfl, ?_⟩
  simp only [fld, hw, Nat.shiftRight_eq_div_pow]
  omega

end

/-! ### Opcodes and function numbers (Tables 15-7 to 15-9 and 15-13) -/

theorem Reg3.code_lt (f : Reg3) : f.code < 64 := by cases f <;> decide
theorem Reg2.code_lt (f : Reg2) : f.code < 64 := by cases f <;> decide
theorem ImmOp.code_lt (f : ImmOp) : f.code < 64 := by cases f <;> decide
theorem LoadOp.code_lt (f : LoadOp) : f.code < 64 := by cases f <;> decide
theorem StoreOp.code_lt (f : StoreOp) : f.code < 64 := by cases f <;> decide
theorem AtomOp.code_lt (f : AtomOp) : f.code < 16 := by cases f <;> decide

theorem UnitFn.code_lt (f : UnitFn) : f.code.1 < 16 ∧ f.code.2 < 64 := by cases f <;> decide

theorem reg3Of_code (f : Reg3) : reg3Of f.code = some f := by cases f <;> rfl

theorem reg2Of_code (f : Reg2) : reg3Of f.code = none ∧ reg2Of f.code = some f := by cases f <;> decide

theorem immOf_code (f : ImmOp) : reg3Of f.code = none ∧ reg2Of f.code = none ∧ immOf f.code = some f := by
  cases f <;> decide

theorem loadOf_code (f : LoadOp) :
    reg3Of f.code = none ∧ reg2Of f.code = none ∧ immOf f.code = none ∧ loadOf f.code = some f := by
  cases f <;> decide

theorem storeOf_code (f : StoreOp) : reg3Of f.code = none ∧ reg2Of f.code = none ∧ immOf f.code = none ∧
    loadOf f.code = none ∧ storeOf f.code = some f := by
  cases f <;> decide

theorem atomOf_code (f : AtomOp) : atomOf f.code = some f := by cases f <;> rfl

theorem unitOf_code (f : UnitFn) : unitOf f.code.1 f.code.2 = some f := by cases f <;> rfl

/-- Opcodes that name one instruction each, or a class that decodes its own fields. -/
theorem opcode_single {op : Nat} (h : op ∈ [0x1C, 0x1D, 0x22, 0x23, 0x24, 0x25, 0x26, 0x31, 0x32, 0x33, 0x34, 0x35, 0x36,
    0x37, 0x38, 0x39, 0x3A, 0x3B, 0x3C, 0x3D, 0x3E]) :
    reg3Of op = none ∧ reg2Of op = none ∧ immOf op = none ∧ loadOf op = none ∧ storeOf op = none := by
  revert op
  decide

theorem bit_eq_fld (w : Word) (i : Nat) : bit w i = decide (fld w i 1 = 1) := by
  rw [bit, BitVec.getLsbD, Nat.testBit_eq_decide_div_mod_eq, fld, Nat.shiftRight_eq_div_pow]
  simp

/-! ### Every operand that an encoding admits comes back (R529 to R532) -/

/-- The operands an instruction's encoding admits. A call that a unit or the tile offers is another instruction's. -/
def Op.encodable : Op → Prop
  | .reg3 _ rd ra rb | .atom _ rd ra rb | .unit _ rd ra rb => rd < 16 ∧ ra < 16 ∧ rb < 16
  | .reg2 _ rd ra => rd < 16 ∧ ra < 16
  | .ext rd ra pos len _ | .ins rd ra pos len => rd < 16 ∧ ra < 16 ∧ 1 ≤ len ∧ pos + len ≤ 32
  | .immed _ rd ra v => rd < 16 ∧ ra < 16 ∧ v < 2 ^ 18
  | .load f rd ra v => rd < 16 ∧ ra < 16 ∧ v < 2 ^ 18 ∧ (f = .ldd → rd % 2 = 0)
  | .store f rd ra v => rd < 16 ∧ ra < 16 ∧ v < 2 ^ 18 ∧ (f = .std → rd % 2 = 0)
  | .shi rd ra kind n => rd < 16 ∧ ra < 16 ∧ kind < 4 ∧ n < 64
  | .lui rd v => rd < 16 ∧ v < 2 ^ 22
  | .cmp ra rb | .tst ra rb => ra < 16 ∧ rb < 16
  | .cmpi ra v | .cb _ ra v => ra < 16 ∧ v < 2 ^ 18
  | .bc cond off => cond < 15 ∧ off < 2 ^ 22
  | .jmp off | .call off => off < 2 ^ 26
  | .jr ra | .callr ra => ra < 16
  | .loop ra len => ra < 16 ∧ 1 ≤ len ∧ len < 2 ^ 18
  | .loopi count len => count < 2 ^ 9 ∧ 1 ≤ len ∧ len < 2 ^ 9
  | .lexit k => 1 ≤ k ∧ k ≤ 4
  | .nop | .wfe | .sev | .reti | .ei | .di => True
  | .trap v | .break_ v => v < 256
  | .csr _ r num => r < 16 ∧ num < 256
  | .crc j rd ra rb => j < 4 ∧ rd < 16 ∧ ra < 16 ∧ rb < 16
  | .tile fn rd ra rb imm => fn < 64 ∧ rd < 16 ∧ ra < 16 ∧ rb < 16 ∧ imm < 256
  | .absent u fn rd ra rb => u < 16 ∧ fn < 64 ∧ rd < 16 ∧ ra < 16 ∧ rb < 16 ∧ u ≠ 7 ∧ unitOf u fn = none ∧
      (fn = 0 → u < 3 ∨ 7 < u)

/-- A SYS word decodes by its own function number (Table 15-8). -/
theorem decodeWord_sys {rd ra rb sub imm : Nat} (hrd : rd < 16) (hra : ra < 16) (hrb : rb < 16) (hsub : sub < 64)
    (hv : imm < 256) : decodeWord (fmtS 0x3C rd ra rb sub imm) = decodeSys rd ra rb sub imm := by
  obtain ⟨w, hw, h⟩ := fmtS_fields (op := 0x3C) (by decide) hrd hra hrb hsub hv
  rw [hw]
  simp [decodeWord, h, opcode_single (op := 0x3C) (by decide)]

/-- A word of a unit call decodes by its unit and function (Table 15-13). -/
theorem decodeWord_fmtX {rd ra rb unit fn : Nat} (hrd : rd < 16) (hra : ra < 16) (hrb : rb < 16) (hu : unit < 16)
    (hfn : fn < 64) : decodeWord (fmtX rd ra rb unit fn) = some (decodeUnit rd ra rb unit fn) := by
  obtain ⟨w, hw, h⟩ := fmtX_fields hrd hra hrb hu hfn
  rw [hw]
  simp [decodeWord, h, opcode_single (op := 0x3D) (by decide)]

theorem decodeUnit_crc (rd ra rb : Nat) {j : Nat} (hj : j < 4) : decodeUnit rd ra rb (3 + j) 0 = .crc j rd ra rb := by
  have hnone : ∀ j < 4, unitOf (3 + j) 0 = none := by decide
  simp [decodeUnit, hnone j hj]
  omega

theorem decodeUnit_absent {rd ra rb u fn : Nat} (hu : u ≠ 7) (hnone : unitOf u fn = none) (hfn : fn = 0 → u < 3 ∨ 7 < u) :
    decodeUnit rd ra rb u fn = .absent u fn rd ra rb := by
  have hcrc : ¬(3 ≤ u ∧ u < 7 ∧ fn = 0) := by omega
  simp [decodeUnit, hnone, hcrc, hu]

/-- The word of an instruction decodes to it, class by class of opcodes. -/
theorem decodeWord_word {o : Op} (h : o.encodable) : decodeWord o.word = some o := by
  have h0 : 0 < 16 := by decide
  cases o with
  | reg3 f rd ra rb =>
    obtain ⟨hrd, hra, hrb⟩ := h
    obtain ⟨w, hw, h⟩ := fmtA_fields f.code_lt hrd hra hrb h0
    rw [Op.word, hw]
    simp [decodeWord, h, reg3Of_code, only]
  | reg2 f rd ra =>
    obtain ⟨hrd, hra⟩ := h
    obtain ⟨w, hw, h⟩ := fmtA_fields f.code_lt hrd hra h0 h0
    rw [Op.word, hw]
    simp [decodeWord, h, reg2Of_code, only]
  | ext rd ra pos len sign =>
    obtain ⟨hrd, hra, hlen, hfit⟩ := h
    have hs : b2n sign < 2 := by cases sign <;> decide
    have hb : decide (b2n sign = 1) = sign := by cases sign <;> rfl
    obtain ⟨w, hw, h⟩ := fmtI_field_fields (op := 0x1C) (by decide) hrd hra hs hlen hfit
    rw [Op.word, hw]
    simp [decodeWord, h, opcode_single (op := 0x1C) (by decide), bit_eq_fld, hb, hfit, only]
  | ins rd ra pos len =>
    obtain ⟨hrd, hra, hlen, hfit⟩ := h
    obtain ⟨w, hw, h⟩ := fmtI_field_fields (op := 0x1D) (s := 0) (by decide) hrd hra (by decide) hlen hfit
    rw [put, Nat.zero_mod, Nat.zero_mul, Nat.zero_add] at hw
    rw [Op.word, hw]
    simp [decodeWord, h, opcode_single (op := 0x1D) (by decide), hfit, only]
  | immed f rd ra v =>
    obtain ⟨hrd, hra, hv⟩ := h
    obtain ⟨w, hw, h⟩ := fmtI_fields f.code_lt hrd hra hv
    rw [Op.word, hw]
    simp [decodeWord, h, immOf_code]
  | shi rd ra kind n =>
    obtain ⟨hrd, hra, hk, hn⟩ := h
    obtain ⟨w, hw, h⟩ := fmtI_shift_fields (op := 0x22) (by decide) hrd hra hk hn
    rw [Op.word, hw]
    simp [decodeWord, h, opcode_single (op := 0x22) (by decide), only]
  | lui rd v =>
    obtain ⟨hrd, hv⟩ := h
    obtain ⟨w, hw, h⟩ := fmtB_fields (op := 0x23) (by decide) hrd hv
    rw [Op.word, hw]
    simp [decodeWord, h, opcode_single (op := 0x23) (by decide)]
  | cmp ra rb =>
    obtain ⟨hra, hrb⟩ := h
    obtain ⟨w, hw, h⟩ := fmtA_fields (op := 0x24) (by decide) h0 hra hrb h0
    rw [Op.word, hw]
    simp [decodeWord, h, opcode_single (op := 0x24) (by decide), only]
  | tst ra rb =>
    obtain ⟨hra, hrb⟩ := h
    obtain ⟨w, hw, h⟩ := fmtA_fields (op := 0x26) (by decide) h0 hra hrb h0
    rw [Op.word, hw]
    simp [decodeWord, h, opcode_single (op := 0x26) (by decide), only]
  | cmpi ra v =>
    obtain ⟨hra, hv⟩ := h
    obtain ⟨w, hw, h⟩ := fmtI_fields (op := 0x25) (by decide) h0 hra hv
    rw [Op.word, hw]
    simp [decodeWord, h, opcode_single (op := 0x25) (by decide), only]
  | load f rd ra v =>
    obtain ⟨hrd, hra, hv, hpair⟩ := h
    obtain ⟨w, hw, h⟩ := fmtI_fields f.code_lt hrd hra hv
    rw [Op.word, hw]
    simpa [decodeWord, h, loadOf_code, only, imp_iff_not_or] using hpair
  | store f rd ra v =>
    obtain ⟨hrd, hra, hv, hpair⟩ := h
    obtain ⟨w, hw, h⟩ := fmtI_fields f.code_lt hrd hra hv
    rw [Op.word, hw]
    simpa [decodeWord, h, storeOf_code, only, imp_iff_not_or] using hpair
  | atom f rd ra rb =>
    obtain ⟨hrd, hra, hrb⟩ := h
    obtain ⟨w, hw, h⟩ := fmtA_fields (op := 0x31) (by decide) hrd hra hrb f.code_lt
    rw [Op.word, hw]
    simp [decodeWord, h, opcode_single (op := 0x31) (by decide), atomOf_code, only]
  | bc cond off =>
    obtain ⟨hcond, hoff⟩ := h
    have hc : cond ≠ 15 := by omega
    obtain ⟨w, hw, h⟩ := fmtB_fields (op := 0x32) (by decide) (by omega : cond < 16) hoff
    rw [Op.word, hw]
    simp [decodeWord, h, opcode_single (op := 0x32) (by decide), hc, only]
  | cb nz ra off =>
    obtain ⟨hra, hoff⟩ := h
    cases nz
    · change decodeWord (fmtI 0x33 0 ra off) = _
      obtain ⟨w, hw, h⟩ := fmtI_fields (op := 0x33) (by decide) h0 hra hoff
      rw [hw]
      simp [decodeWord, h, opcode_single (op := 0x33) (by decide), only]
    · change decodeWord (fmtI 0x34 0 ra off) = _
      obtain ⟨w, hw, h⟩ := fmtI_fields (op := 0x34) (by decide) h0 hra hoff
      rw [hw]
      simp [decodeWord, h, opcode_single (op := 0x34) (by decide), only]
  | jmp off =>
    obtain ⟨w, hw, h⟩ := fmtJ_fields (op := 0x35) (by decide) h
    rw [Op.word, hw]
    simp [decodeWord, h, opcode_single (op := 0x35) (by decide)]
  | call off =>
    obtain ⟨w, hw, h⟩ := fmtJ_fields (op := 0x36) (by decide) h
    rw [Op.word, hw]
    simp [decodeWord, h, opcode_single (op := 0x36) (by decide)]
  | jr ra =>
    obtain ⟨w, hw, h⟩ := fmtA_fields (op := 0x37) (by decide) h0 h h0 h0
    rw [Op.word, hw]
    simp [decodeWord, h, opcode_single (op := 0x37) (by decide), only]
  | callr ra =>
    obtain ⟨w, hw, h⟩ := fmtA_fields (op := 0x38) (by decide) h0 h h0 h0
    rw [Op.word, hw]
    simp [decodeWord, h, opcode_single (op := 0x38) (by decide), only]
  | loop ra len =>
    obtain ⟨hra, hpos, hlen⟩ := h
    obtain ⟨w, hw, h⟩ := fmtI_fields (op := 0x39) (by decide) h0 hra hlen
    rw [Op.word, hw]
    simp [decodeWord, h, opcode_single (op := 0x39) (by decide), only]
    omega
  | loopi count len =>
    obtain ⟨hc, hpos, hlen⟩ := h
    obtain ⟨w, hw, h⟩ := fmtI_loopi_fields (op := 0x3A) (by decide) h0 h0 hc hlen
    rw [Op.word, hw]
    simp [decodeWord, h, opcode_single (op := 0x3A) (by decide), only]
    omega
  | lexit k =>
    obtain ⟨hlo, hhi⟩ := h
    obtain ⟨w, hw, h⟩ := fmtI_fields (op := 0x3B) (by decide) h0 h0 (by omega : k < 2 ^ 18)
    rw [Op.word, hw]
    simp [decodeWord, h, opcode_single (op := 0x3B) (by decide), only, hlo, hhi]
  | nop | wfe | sev | reti | ei | di => exact decodeWord_sys h0 h0 h0 (by decide) (by decide)
  | trap v | break_ v => exact decodeWord_sys h0 h0 h0 (by decide) h
  | csr f r num =>
    obtain ⟨hr, hnum⟩ := h
    cases f with
    | csrr => exact decodeWord_sys hr h0 h0 (by decide) hnum
    | csrw | csrs | csrc => exact decodeWord_sys h0 hr h0 (by decide) hnum
  | unit f rd ra rb =>
    obtain ⟨hrd, hra, hrb⟩ := h
    obtain ⟨hu, hfn⟩ := f.code_lt
    rw [Op.word, decodeWord_fmtX hrd hra hrb hu hfn, decodeUnit, unitOf_code]
  | crc j rd ra rb =>
    obtain ⟨hj, hrd, hra, hrb⟩ := h
    rw [Op.word, decodeWord_fmtX hrd hra hrb (by omega) (by decide), decodeUnit_crc rd ra rb hj]
  | tile fn rd ra rb imm =>
    obtain ⟨hfn, hrd, hra, hrb, himm⟩ := h
    obtain ⟨w, hw, h⟩ := fmtS_fields (op := 0x3E) (by decide) hrd hra hrb hfn himm
    rw [Op.word, hw]
    simp [decodeWord, h, opcode_single (op := 0x3E) (by decide)]
  | absent u fn rd ra rb =>
    obtain ⟨hu, hfn, hrd, hra, hrb, h7, hnone, hzero⟩ := h
    rw [Op.word, decodeWord_fmtX hrd hra hrb hu hfn, decodeUnit_absent h7 hnone hzero]

/-- The ranges of a row are those its encoding admits; a CUST call that no unit offers is the one its words exempt. -/
theorem Instr.encodable_of_wf {c : Instr} {i : Issue} {o : Op} (hwf : c.wf = true) (hop : c.op = some (i, o))
    (habsent : ∀ unit fn rd ra rb, o = .absent unit fn rd ra rb →
      unitOf unit fn = none ∧ (fn = 0 → unit < 3 ∨ 7 < unit)) : o.encodable := by
  cases c
  case cust g unit fn rd ra rb imm =>
    simp only [Instr.wf, okBits, okReg, Bool.and_eq_true, decide_eq_true_eq] at hwf
    obtain ⟨⟨⟨⟨⟨⟨-, hu⟩, hfn⟩, hrd⟩, hra⟩, hrb⟩, himm⟩ := hwf
    by_cases h7 : unit = 7
    · obtain ⟨-, rfl⟩ : g = i ∧ Op.tile fn rd ra rb imm = o := by simpa [Instr.op, h7] using hop
      exact ⟨hfn, hrd, hra, hrb, himm⟩
    · obtain ⟨-, rfl⟩ : g = i ∧ Op.absent unit fn rd ra rb = o := by simpa [Instr.op, h7] using hop
      obtain ⟨hnone, hzero⟩ := habsent _ _ _ _ _ rfl
      exact ⟨hu, hfn, hrd, hra, hrb, h7, hnone, hzero⟩
  all_goals simp only [Instr.op, reduceCtorEq, Option.some.injEq, Prod.mk.injEq] at hop
  all_goals obtain ⟨-, rfl⟩ := hop
  case sysNop | wfe | sev | reti | ei | di => exact trivial
  all_goals
    simp only [Instr.wf, okReg, okEvenReg, okBits, okLen, okField, okCond, okLev, okLoopLen, okLoopiLen,
      Bool.and_eq_true, decide_eq_true_eq, beq_iff_eq] at hwf
    simp only [Op.encodable, reduceCtorEq, false_implies, true_implies, and_true]
    omega

end Sys2Proof.Machine

section
open Sys2Proof Sys2Proof.Machine

/-- Settles O15: the operands of a well-formed row are those its encoding admits, and every such word decodes to its
instruction. -/
theorem genatWordsDecode : Obligations.GenatWordsDecode := by
  unfold Obligations.GenatWordsDecode
  exact fun c i o hwf hop habsent => decodeWord_word (Instr.encodable_of_wf hwf hop habsent)

end

namespace Sys2Proof.Machine
open Sys2Proof

/-! ### Sums, carries and overflows (R533) -/

theorem b2n_le_one (b : Bool) : b2n b ≤ 1 := by cases b <;> decide

/-- A word is the exact result it is the residue of, unless that lies outside the signed range. -/
theorem ne_toInt_ofInt (e : Int) : (e != (BitVec.ofInt 32 e).toInt) = beyond e := by
  rw [BitVec.toInt_ofInt, Int.bmod_def, beyond, Bool.eq_iff_iff]
  simp only [bne_iff_ne, ne_eq, Bool.or_eq_true, decide_eq_true_eq]
  split <;> omega

theorem wd_add_eq_ofInt (a b : Word) (c : Bool) :
    wd (a.toNat + b.toNat + b2n c) = BitVec.ofInt 32 (a.toInt + b.toInt + (b2n c : Nat)) := by
  rw [BitVec.ofInt_add, BitVec.ofInt_add, BitVec.ofInt_toInt, BitVec.ofInt_toInt, wd, BitVec.ofNat_add, BitVec.ofNat_add]
  simp

theorem wd_add_eq (a b : Word) (c : Bool) : wd (a.toNat + b.toNat + b2n c) = a + b + wd (b2n c) := by
  simp [wd, BitVec.ofNat_add]

/-- C and V of a sum or difference: the carry `c`, and V of the exact result `e`. -/
def carryFlags (e : Int) (c : Bool) (p : Word) : Word := withV (beyond e) (withC c p)

theorem keepsDepths_carryFlags (e : Int) (c : Bool) : KeepsDepths (carryFlags e c) :=
  (keepsDepths_withV _).comp (keepsDepths_withC c)

theorem aluAdd_eq (a b : Word) (c : Bool) (p : Word) : aluAdd a b c p =
    ⟨a + b + wd (b2n c), carryFlags (a.toInt + b.toInt + (b2n c : Nat)) (2 ^ 32 ≤ a.toNat + b.toNat + b2n c)
      (withNZ (a + b + wd (b2n c)) p)⟩ := by
  have hv : (a.toInt + b.toInt + (b2n c : Nat) != (a + b + wd (b2n c)).toInt) =
      beyond (a.toInt + b.toInt + (b2n c : Nat)) := by
    rw [← wd_add_eq, wd_add_eq_ofInt, ne_toInt_ofInt]
  simp only [aluAdd, carryFlags, setFlag_V, setFlag_C, setNZ_eq_withNZ, wd_add_eq, hv]

/-- A difference as x + NOT y + c: the value, the exact result, and the carry as no borrow. -/
theorem aluAdd_not_eq (a b : Word) (c : Bool) (p : Word) : aluAdd a (~~~b) c p =
    ⟨a - b - 1 + wd (b2n c), carryFlags (a.toInt - b.toInt - 1 + (b2n c : Nat)) (b.toNat + 1 ≤ a.toNat + b2n c)
      (withNZ (a - b - 1 + wd (b2n c)) p)⟩ := by
  have hval : a + ~~~b = a - b - 1 := by bv_omega
  have hnot : (~~~b).toInt = -b.toInt - 1 := by
    simp only [BitVec.toInt_eq_toNat_cond, BitVec.toNat_not]
    split <;> split <;> omega
  have hexact : a.toInt + (~~~b).toInt = a.toInt - b.toInt - 1 := by omega
  have hcarry : 2 ^ 32 ≤ a.toNat + (~~~b).toNat + b2n c ↔ b.toNat + 1 ≤ a.toNat + b2n c := by
    rw [BitVec.toNat_not]
    omega
  simp only [aluAdd_eq, hval, hexact, hcarry]

theorem aluAdd_no_carry (a b p : Word) : aluAdd a b false p =
    ⟨a + b, carryFlags (a.toInt + b.toInt) (2 ^ 32 ≤ a.toNat + b.toNat) (withNZ (a + b) p)⟩ := by
  simp [aluAdd_eq, b2n, wd]

theorem aluSub_eq (a b p : Word) : aluSub a b p =
    ⟨a - b, carryFlags (a.toInt - b.toInt) (b.toNat ≤ a.toNat) (withNZ (a - b) p)⟩ := by
  simp [aluSub, aluAdd_not_eq, b2n, wd]

section
variable {s : State} {g rd ra rb v : Nat}

theorem State.runImm_clean {f : ImmOp} (hi : s.issues g (.immed f rd ra v) = true) :
    s.runImm (.clean g) f rd ra v = s.putAlu g rd (f.alu (s.x g ra) v (s.psr g)) :=
  State.issue_clean _ hi

theorem State.runCmp_clean (hi : s.issues g (.cmp ra rb) = true) :
    s.runCmp (.clean g) ra rb = s.putPsr g (aluSub (s.x g ra) (s.x g rb) (s.psr g)).psr :=
  State.issue_clean _ hi

theorem State.runCmpi_clean (hi : s.issues g (.cmpi ra v) = true) :
    s.runCmpi (.clean g) ra v = s.putPsr g (aluSub (s.x g ra) (simm 18 v) (s.psr g)).psr :=
  State.issue_clean _ hi

/-- Flags only, as `f` leaves them. -/
theorem State.putPsr_goesOn {f : Word → Word} (hn : fetchable (s.nextPc g) = true) (hf : KeepsDepths f) :
    s.putPsr g (f (s.psr g)) = s.goesOn g fun c => { c with psr := f c.psr } := by
  rw [State.putPsr, State.advance_upCpu hn (hf.loopsAs (s.cpu g) (s.cpu g).x)]
  exact State.upCpu_congr rfl

theorem State.putPsr_aluSub (hn : fetchable (s.nextPc g) = true) (a b : Word) :
    s.putPsr g (aluSub a b (s.psr g)).psr = s.goesOn g fun c =>
      { c with psr := carryFlags (a.toInt - b.toInt) (b.toNat ≤ a.toNat) (withNZ (a - b) c.psr) } := by
  rw [aluSub_eq]
  exact State.putPsr_goesOn (f := fun p => carryFlags _ _ (withNZ (a - b) p)) hn ((keepsDepths_carryFlags _ _).comp (keepsDepths_withNZ (a - b)))

end

end Sys2Proof.Machine

section
open Sys2Proof Sys2Proof.Machine

/-- Settles O16: each row is an addition, with the complement and a carry for a subtraction. -/
theorem addAndSubtract : Obligations.AddAndSubtract := by
  unfold Obligations.AddAndSubtract
  intro s g rd ra rb v hn a b i k flags
  have hgives (r : Word) (e : Int) (c : Bool) :
      s.putAlu g rd ⟨r, carryFlags e c (withNZ r (s.psr g))⟩ = s.gives g rd r (flags e c) :=
    State.putAlu_gives hn (keepsDepths_carryFlags e c) r
  have himm : simm 18 v = i := simm_eq_signExtend (by decide) v
  refine ⟨fun hi => ?add, fun hi => ?sub, fun hi => ?adc, fun hi => ?sbc, fun hi => ?neg, fun hi => ?addi,
    fun hi => ?cmp, fun hi => ?cmpi⟩
  case add =>
    rw [← hgives, ← aluAdd_no_carry]
    exact congrArg Host.Outcome.next (State.runReg3_clean hi nofun)
  case sub =>
    rw [← hgives, ← aluSub_eq]
    exact congrArg Host.Outcome.next (State.runReg3_clean hi nofun)
  case adc =>
    rw [← hgives, ← aluAdd_eq]
    exact congrArg Host.Outcome.next (State.runReg3_clean hi nofun)
  case sbc =>
    rw [← hgives, ← aluAdd_not_eq]
    exact congrArg Host.Outcome.next (State.runReg3_clean hi nofun)
  case neg =>
    have hexact : -a.toInt = (0 : Word).toInt - a.toInt := by simp
    have hcarry : (a == 0) = decide (a.toNat ≤ (0 : Word).toNat) := by
      rw [Bool.eq_iff_iff, beq_iff_eq, decide_eq_true_eq, ← BitVec.toNat_inj]
      exact Nat.le_zero.symm
    rw [hexact, hcarry, ← hgives, ← aluSub_eq]
    exact congrArg Host.Outcome.next (State.runReg2_clean hi)
  case addi =>
    rw [← hgives, ← aluAdd_no_carry, ← himm]
    exact congrArg Host.Outcome.next (State.runImm_clean hi)
  case cmp =>
    exact congrArg Host.Outcome.next ((State.runCmp_clean hi).trans (State.putPsr_aluSub hn a b))
  case cmpi =>
    have hrun := (State.runCmpi_clean hi).trans (State.putPsr_aluSub hn a (simm 18 v))
    rw [himm] at hrun
    exact congrArg Host.Outcome.next hrun

end

namespace Sys2Proof.Machine
open Sys2Proof

/-! ### Products, bit counts, orders and fields (Table 15-7) -/

/-- The product of two words in 64 bits is exact. -/
theorem toInt_mul_signExtend (a b : Word) :
    (a.signExtend 64 * b.signExtend 64).toInt = a.toInt * b.toInt := by
  have hbounds (x : Word) : -2147483648 ≤ x.toInt ∧ x.toInt < 2147483648 := ⟨BitVec.le_toInt x, BitVec.toInt_lt⟩
  have ha := hbounds a
  have hb := hbounds b
  have habs : |a.toInt * b.toInt| ≤ 2147483648 * 2147483648 := by
    rw [abs_mul]
    exact mul_le_mul (abs_le.2 (by omega)) (abs_le.2 (by omega)) (abs_nonneg _) (by decide)
  rw [abs_le] at habs
  rw [BitVec.toInt_mul, BitVec.toInt_signExtend_of_le (by decide), BitVec.toInt_signExtend_of_le (by decide),
    Int.bmod_eq_of_le] <;> omega

theorem mulhs_eq (a b : Word) :
    BitVec.ofInt 32 (a.toInt * b.toInt / 2 ^ 32) = (a.signExtend 64 * b.signExtend 64).extractLsb' 32 32 := by
  rw [← toInt_mul_signExtend]
  generalize a.signExtend 64 * b.signExtend 64 = x
  apply BitVec.eq_of_toNat_eq
  rw [BitVec.toNat_ofInt, BitVec.extractLsb'_toNat, Nat.shiftRight_eq_div_pow, BitVec.toInt_eq_toNat_cond]
  split <;> omega

theorem mulhu_eq (a b : Word) :
    wd (a.toNat * b.toNat / 2 ^ 32) = (a.setWidth 64 * b.setWidth 64).extractLsb' 32 32 := by
  have hprod : a.toNat * b.toNat < 2 ^ 64 :=
    calc a.toNat * b.toNat < 2 ^ 32 * 2 ^ 32 := Nat.mul_lt_mul'' a.isLt b.isLt
      _ = 2 ^ 64 := by decide
  apply BitVec.eq_of_toNat_eq
  rw [wd, BitVec.toNat_ofNat, BitVec.extractLsb'_toNat, Nat.shiftRight_eq_div_pow, BitVec.toNat_mul,
    BitVec.toNat_setWidth_of_le (by decide), BitVec.toNat_setWidth_of_le (by decide), Nat.mod_eq_of_lt hprod]

theorem leadZeros_succ (a : Word) (n : Nat) :
    leadZeros a (n + 1) = if a.getLsbD n then 0 else leadZeros a n + 1 := rfl

theorem clzAuxRec_eq (a : Word) {n : Nat} (hn : n < 32) : a.clzAuxRec n = wd (31 - n + leadZeros a (n + 1)) := by
  induction n with
  | zero =>
    rw [BitVec.clzAuxRec_zero, leadZeros_succ, leadZeros]
    split <;> rfl
  | succ n ih =>
    rw [BitVec.clzAuxRec_succ, ih (by omega), leadZeros_succ a (n + 1)]
    split
    · rfl
    · rw [show 31 - n = 31 - (n + 1) + 1 by omega, Nat.add_assoc, Nat.add_comm 1]

theorem clz_eq (a : Word) : wd (leadZeros a 32) = a.clz := by
  rw [BitVec.clz, clzAuxRec_eq a (by decide)]
  simp

theorem testBit_reverseBits (a : Word) (n i : Nat) :
    (reverseBits a n).testBit i = (decide (i < n) && bit a (n - 1 - i)) := by
  induction n generalizing i with
  | zero => simp [reverseBits]
  | succ n ih =>
    cases i with
    | zero => cases h : bit a n <;> simp [reverseBits, b2n, h, Nat.testBit_zero]
    | succ i =>
      have hhalf : (2 * reverseBits a n + b2n (bit a n)) / 2 = reverseBits a n := by
        have := b2n_le_one (bit a n)
        omega
      have hbit : n + 1 - 1 - (i + 1) = n - 1 - i := by omega
      rw [reverseBits, Nat.testBit_add_one, hhalf, ih, hbit]
      simp

theorem brev_eq (a : Word) : wd (reverseBits a 32) = a.reverse := by
  apply BitVec.eq_of_getLsbD_eq
  intro i hi
  rw [wd, BitVec.getLsbD_ofNat, testBit_reverseBits, BitVec.getLsbD_reverse, BitVec.getMsbD, bit]
  simp [hi]

theorem toNat_append_eq_add {m n : Nat} (x : BitVec m) (y : BitVec n) : (x ++ y).toNat = x.toNat * 2 ^ n + y.toNat := by
  rw [BitVec.toNat_append, ← Nat.shiftLeft_add_eq_or_of_lt y.isLt, Nat.shiftLeft_eq]

theorem bswap_eq (a : Word) : wd (ofBe (leBytes 4 a.toNat)) =
    a.extractLsb' 0 8 ++ a.extractLsb' 8 8 ++ a.extractLsb' 16 8 ++ a.extractLsb' 24 8 := by
  apply BitVec.eq_of_toNat_eq
  simp only [toNat_append_eq_add, BitVec.extractLsb'_toNat, Nat.shiftRight_eq_div_pow, wd, ofBe, leBytes,
    List.foldl_cons, List.foldl_nil, BitVec.toNat_ofNat, Nat.div_div_eq_div_mul, Nat.div_one, Nat.reducePow,
    Nat.reduceMul]
  omega

theorem ofNat_fld (a : Word) (pos len : Nat) : BitVec.ofNat len (fld a pos len) = a.extractLsb' pos len := by
  apply BitVec.eq_of_toNat_eq
  rw [BitVec.toNat_ofNat, BitVec.extractLsb'_toNat, fld, Nat.mod_mod]

theorem wd_fld (a : Word) (pos len : Nat) : wd (fld a pos len) = (a.extractLsb' pos len).setWidth 32 := by
  apply BitVec.eq_of_toNat_eq
  rw [wd, BitVec.toNat_ofNat, BitVec.toNat_setWidth, BitVec.extractLsb'_toNat, fld]

theorem simm_fld (a : Word) (pos : Nat) {len : Nat} (hlen : 0 < len) :
    simm len (fld a pos len) = (a.extractLsb' pos len).signExtend 32 := by
  rw [simm_eq_signExtend hlen, ofNat_fld]

section
variable {s : State} {g rd ra rb : Nat}

theorem State.runExt_clean {pos len : Nat} {sign : Bool} (hi : s.issues g (.ext rd ra pos len sign) = true) :
    s.runExt (.clean g) rd ra pos len sign = s.putAlu g rd (aluExt pos len sign (s.x g ra) (s.psr g)) :=
  State.issue_clean _ hi

theorem State.runIns_clean {pos len : Nat} (hi : s.issues g (.ins rd ra pos len) = true) :
    s.runIns (.clean g) rd ra pos len = s.putAlu g rd (aluIns pos len (s.x g rd) (s.x g ra) (s.psr g)) :=
  State.issue_clean _ hi

theorem State.runTst_clean (hi : s.issues g (.tst ra rb) = true) :
    s.runTst (.clean g) ra rb = s.putPsr g (setNZ (s.x g ra &&& s.x g rb) (s.psr g)) :=
  State.issue_clean _ hi

/-- LUI writes no flag. -/
theorem State.runLui_clean {v : Nat} (hn : fetchable (s.nextPc g) = true) (hi : s.issues g (.lui rd v) = true) :
    s.runLui (.clean g) rd v = s.goesOn g fun c => { c with x := c.x.set rd (wd (v * 1024)) } :=
  (State.issue_clean _ hi).trans (State.advance_upCpu hn (keepsDepths_id.loopsAs (s.cpu g) _))

/-- A result with N and Z of it, and C and V as before. -/
theorem State.putAlu_aluNZ (hn : fetchable (s.nextPc g) = true) (r : Word) :
    s.putAlu g rd (aluNZ r (s.psr g)) = s.gives g rd r id := by
  rw [aluNZ, setNZ_eq_withNZ]
  exact State.putAlu_gives hn keepsDepths_id r

end

end Sys2Proof.Machine

section
open Sys2Proof Sys2Proof.Machine

/-- Settles O17: each row gives N and Z of its result and no other flag; what is left is each result's value. -/
theorem logicAndFields : Obligations.LogicAndFields := by
  unfold Obligations.LogicAndFields
  intro s g rd ra rb v pos len hn a b i
  have hgives (r r' : Word) (h : r = r') : s.putAlu g rd (aluNZ r (s.psr g)) = s.gives g rd r' id :=
    h ▸ State.putAlu_aluNZ hn r
  refine ⟨?reg3, ?imm, ?reg2, fun hlen hfit hi => ?zext, fun hlen hfit hi => ?sext, fun hlen hfit hi => ?ins,
    fun hi => ?tst, fun hi => ?lui⟩
  case reg3 =>
    intro f c r hrow hi
    simp only [List.mem_cons, Prod.mk.injEq, List.not_mem_nil, or_false] at hrow
    rcases hrow with ⟨rfl, rfl, rfl⟩ | ⟨rfl, rfl, rfl⟩ | ⟨rfl, rfl, rfl⟩ | ⟨rfl, rfl, rfl⟩ | ⟨rfl, rfl, rfl⟩ |
      ⟨rfl, rfl, rfl⟩ | ⟨rfl, rfl, rfl⟩
    iterate 5 exact congrArg Host.Outcome.next ((State.runReg3_clean hi nofun).trans (hgives _ _ rfl))
    · exact congrArg Host.Outcome.next ((State.runReg3_clean hi nofun).trans (hgives _ _ (mulhs_eq a b)))
    · exact congrArg Host.Outcome.next ((State.runReg3_clean hi nofun).trans (hgives _ _ (mulhu_eq a b)))
  case imm =>
    intro f c r hrow hi
    simp only [List.mem_cons, Prod.mk.injEq, List.not_mem_nil, or_false] at hrow
    rcases hrow with ⟨rfl, rfl, rfl⟩ | ⟨rfl, rfl, rfl⟩ | ⟨rfl, rfl, rfl⟩
    iterate 3 exact congrArg Host.Outcome.next ((State.runImm_clean hi).trans (hgives _ _ rfl))
  case reg2 =>
    intro f c r hrow hi
    simp only [List.mem_cons, Prod.mk.injEq, List.not_mem_nil, or_false] at hrow
    rcases hrow with ⟨rfl, rfl, rfl⟩ | ⟨rfl, rfl, rfl⟩ | ⟨rfl, rfl, rfl⟩
    · exact congrArg Host.Outcome.next ((State.runReg2_clean hi).trans (hgives _ _ (clz_eq a)))
    · exact congrArg Host.Outcome.next ((State.runReg2_clean hi).trans (hgives _ _ (brev_eq a)))
    · exact congrArg Host.Outcome.next ((State.runReg2_clean hi).trans (hgives _ _ (bswap_eq a)))
  case zext => exact congrArg Host.Outcome.next ((State.runExt_clean hi).trans (hgives _ _ (wd_fld a pos len)))
  case sext => exact congrArg Host.Outcome.next ((State.runExt_clean hi).trans (hgives _ _ (simm_fld a pos hlen)))
  case ins =>
    refine ⟨_, congrArg Host.Outcome.next (State.runIns_clean hi), _, hgives _ _ rfl, fun j hj => ?_⟩
    exact bit_setFld (s.x g rd) pos len a.toNat hj
  case tst =>
    have hput : s.putPsr g (setNZ (a &&& b) (s.psr g)) =
        s.goesOn g fun c => { c with psr := withNZ (a &&& b) c.psr } := by
      rw [setNZ_eq_withNZ]
      exact State.putPsr_goesOn hn (keepsDepths_withNZ _)
    exact congrArg Host.Outcome.next ((State.runTst_clean hi).trans hput)
  case lui =>
    have hval : i <<< 10 = wd (v * 1024) := by
      apply BitVec.eq_of_toNat_eq
      simp only [i, wd, BitVec.toNat_shiftLeft, BitVec.toNat_ofNat, Nat.shiftLeft_eq]
      omega
    rw [hval]
    exact congrArg Host.Outcome.next (State.runLui_clean hn hi)

end

namespace Sys2Proof.Machine
open Sys2Proof

/-! ### What the reads of an instruction find (R504) -/

/-- Two findings that agree in what an instruction itself reads: its data and cells, and for RETI its vector word. -/
def Finds.SameFor (o : Op) (f f' : Finds) : Prop :=
  f.data = f'.data ∧ f.cells = f'.cells ∧ (o = .reti → f.vector = f'.vector)

/-- A row of Genat that issues `o` on engine `g` does `body` of what its own reads find. -/
structure IssuesAs (c : Instr) (g : Nat) (o : Op) (body : Finds → State → State) : Prop where
  exec_reads : ∀ f c' s, c.Reads f c' → exec c' s = .next (s.issue ⟨g, f⟩ o (body f))
  body_congr : ∀ f f', f.SameFor o f' → body f = body f'

theorem Instr.reads_self {c : Instr} {i : Issue} {o : Op} (h : c.op = some (i, o)) : c.Reads i.finds c := by
  cases c
  all_goals simp only [Instr.op, reduceCtorEq, Option.some.injEq, Prod.mk.injEq] at h
  all_goals obtain ⟨rfl, -⟩ := h; rfl

theorem exists_issuesAs {c : Instr} {i : Issue} {o : Op} (h : c.op = some (i, o)) : ∃ body, IssuesAs c i.eng o body := by
  cases c
  all_goals simp only [Instr.op, reduceCtorEq, Option.some.injEq, Prod.mk.injEq] at h
  all_goals obtain ⟨rfl, rfl⟩ := h
  case reti =>
    refine ⟨_, ⟨fun f c' s hc => (congrArg (exec · s) hc).trans rfl, ?_⟩⟩
    rintro ⟨ft, d, v, cs⟩ ⟨ft', d', v', cs'⟩ ⟨hd, hc, hv⟩
    cases hd; cases hc; cases hv rfl
    rfl
  case cust g unit fn rd ra rb imm =>
    by_cases h7 : unit = 7
    · rw [if_pos h7]
      exact ⟨_, ⟨fun f c' s hc => (congrArg (exec · s) hc).trans (congrArg Host.Outcome.next (if_pos h7)),
        fun _ _ _ => rfl⟩⟩
    · rw [if_neg h7]
      exact ⟨_, ⟨fun f c' s hc => (congrArg (exec · s) hc).trans (congrArg Host.Outcome.next (if_neg h7)),
        fun _ _ _ => rfl⟩⟩
  all_goals
    refine ⟨_, ⟨fun f c' s hc => (congrArg (exec · s) hc).trans rfl, ?_⟩⟩
    rintro ⟨ft, d, v, cs⟩ ⟨ft', d', v', cs'⟩ ⟨hd, hc, -⟩
    cases hd; cases hc
    rfl

section
variable {s t : State} (heng : t.engines = s.engines) (hshared : t.shared = s.shared)
include heng

theorem State.eng_congr (g : Nat) : t.eng g = s.eng g := by rw [State.eng, heng]; rfl

theorem State.cpu_congr (g : Nat) : t.cpu g = s.cpu g := congrArg Engine.cpu (State.eng_congr heng g)

include hshared

theorem State.engByte_congr (g a : Nat) : t.engByte g a = s.engByte g a := by
  simp only [State.engByte, State.eng_congr heng, hshared]

theorem State.engBytes_congr (g a n : Nat) : t.engBytes g a n = s.engBytes g a n := by
  induction n generalizing a with
  | zero => rfl
  | succ n ih => rw [State.engBytes, State.engBytes, ih, State.engByte_congr heng hshared]

theorem State.fetched_congr (g : Nat) : t.fetched g = s.fetched g := by
  rw [State.fetched, State.fetched, State.engVal, State.engVal, State.cpu_congr heng, State.engBytes_congr heng hshared]

/-- What an engine issues depends on the engines, the shared memories and the mode only. -/
theorem State.issues_congr (hctl : t.ctl = s.ctl) (g : Nat) (o : Op) : t.issues g o = s.issues g o := by
  have hmay : t.engineMayRun g = s.engineMayRun g := by
    simp only [State.engineMayRun, State.reconf, State.mode, hctl]
  simp only [State.issues, State.engineRuns, State.eng_congr heng, hmay, State.fetched_congr heng hshared]

end

theorem State.issues_countEng (s : State) (g h i : Nat) (o : Op) : (s.countEng g i).issues h o = s.issues h o :=
  State.issues_congr (by simp [State.countEng]) (by simp [State.countEng]) (by simp [State.countEng]) h o

section
variable {s : State} {g : Nat} {f : Finds} {o : Op} (body : State → State)

theorem State.issue_of_idle (h : s.issues g o = false) : s.issue ⟨g, f⟩ o body = s := if_neg (by simp [h])

theorem State.issue_of_issues (h : s.issues g o = true) :
    s.issue ⟨g, f⟩ o body = s.readMem g f.fetch fun u => (body u).vectorRead g f.vector u := if_pos h

end

/-- An instruction that enters no trap handler reads no vector word. -/
theorem State.vectorRead_of_not_took {t s : State} {g : Nat} (e : Ecc) (h : t.tookVector s g = false) :
    t.vectorRead g e s = t := if_pos (by simp [h])

end Sys2Proof.Machine

section
open Sys2Proof Sys2Proof.Machine

/-- Settles O14: every row is the issue of its instruction, whose word and vector word are read around what the
instruction itself does. -/
theorem enginesIdle : Obligations.EnginesIdle := by
  unfold Obligations.EnginesIdle
  rintro c c' ⟨g, finds⟩ o s hop g' lost
  obtain ⟨body, hbody⟩ := exists_issuesAs hop
  have hc (u : State) : exec c u = .next (u.issue ⟨g, finds⟩ o (body finds)) :=
    hbody.exec_reads finds c u (Instr.reads_self hop)
  refine ⟨fun hidle => by rw [hc, State.issue_of_idle _ hidle],
    fun hi => ⟨fun (hue : finds.fetch = _) => ?lost, fun (hce : finds.fetch = _) hreads => ?corrected, ?vector⟩⟩
  case lost =>
    rw [hc, State.issue_of_issues _ hi, hue]
    rfl
  case corrected =>
    have hsame : body finds = body { finds with fetch := .good } := hbody.body_congr _ _ ⟨rfl, rfl, fun _ => rfl⟩
    have hi' : (s.countEng g 6).issues g o = true := (s.issues_countEng g g 6 o).trans hi
    rw [hc, State.issue_of_issues _ hi, hbody.exec_reads _ _ _ hreads, State.issue_of_issues _ hi', hsame, hce]
    simp only [State.readMem, g']
  case vector =>
    intro t (hgood : finds.fetch = _) hreti hreads ht
    have hsame : body finds = body { finds with vector := .good } :=
      hbody.body_congr _ _ ⟨rfl, rfl, fun h => absurd h hreti⟩
    have hrun : exec c s = .next ((body finds s).vectorRead g finds.vector s) := by
      rw [hc, State.issue_of_issues _ hi, hgood]
      rfl
    have hbt : body finds s = t := by
      have hclean : s.issue ⟨g, { finds with vector := .good }⟩ o (body finds) = body finds s := by
        rw [State.issue_of_issues _ hi]
        simp [hgood, State.readMem, State.vectorRead]
      rw [hbody.exec_reads _ _ _ hreads, ← hsame] at ht
      exact hclean.symm.trans (Host.Outcome.next.inj ht)
    rw [hrun, hbt]
    refine ⟨fun htook => by rw [State.vectorRead_of_not_took _ htook],
      fun htook => ⟨fun (hv : finds.vector = _) => ?_, fun (hv : finds.vector = _) => ?_⟩⟩
    · simp [g', State.vectorRead, hv, htook]
    · simp [g', lost, State.vectorRead, State.engineUe, hv, htook]

end

namespace Sys2Proof.Machine
open Sys2Proof

/-! ### O2: the island edge of an idle step -/

/-- Folding updates that change nothing changes nothing. -/
theorem State.each_of_idle {α : Type} (l : List α) (f : α → State → State) (s : State) (h : ∀ a ∈ l, f a s = s) :
    s.each l f = s := by
  unfold State.each
  induction l with
  | nil => rfl
  | cons a l ih =>
    rw [List.foldl_cons, h a (by simp)]
    exact ih fun b hb => h b (by simp [hb])

theorem State.holdTicks_of_no_hold {s : State} (h : ∀ p, (s.bport p).hold = false) : s.holdTicks = s :=
  State.each_of_idle _ _ _ fun p _ => by simp [State.holdTick, h p]

theorem State.recessiveCount_of_none_recovering {s : State} (h : ∀ n, (s.lane n).recovering = false) :
    s.recessiveCount = s :=
  State.each_of_idle _ _ _ fun n _ => by simp [h n]

theorem State.ppsMissing_raw (s : State) : s.ppsMissing.beacon.raw = s.beacon.raw := by
  unfold State.ppsMissing
  split
  · rfl
  · split
    · rfl
    · simp only [State.countBcn, State.cnt_fields]; rfl

theorem State.ppsFall_raw (s : State) : s.ppsFall.beacon.raw = s.beacon.raw := by
  unfold State.ppsFall
  split
  · rfl
  · split <;> rfl

theorem State.syncOut_raw (s : State) : s.syncOut.beacon.raw = s.beacon.raw := by
  unfold State.syncOut
  extract_lets level
  split <;> rfl

/-- An island edge adds 6.25 ns to the raw counter, whatever else it brings. -/
theorem State.tick_raw {s : State} (h : s.beacon.running = true) : s.tick.beacon.raw = s.beacon.raw + 409600 := by
  have hgrid (u : State) : u.gridCheck.beacon = u.beacon :=
    (State.gridCheck_k (m := 3659362467840) u rfl (Kept.refl _ _)).same .beacon rfl
  have hhold (u : State) : u.holdTicks.beacon = u.beacon :=
    (State.holdTicks_k (m := 8589934592) u rfl (Kept.refl _ _)).same .beacon rfl
  have hline (u : State) : u.recessiveCount.beacon = u.beacon :=
    (State.recessiveCount_k (m := 17179869184) u rfl (Kept.refl _ _)).same .beacon rfl
  rw [State.tick, if_pos h]
  dsimp only
  rw [hline, State.syncOut_raw, State.ppsFall_raw, hhold, State.ppsMissing_raw, hgrid]
  rfl

/-- Nothing is stored after reset. -/
theorem State.rd_reset (off : Nat) : State.reset.rd off = resetWord Fuse.reset off := rfl

end Sys2Proof.Machine
section
open Sys2Proof Sys2Proof.Machine

/-- Settles O1: a step is defined so. -/
theorem stepRunsFront : Obligations.StepRunsFront := by
  unfold Obligations.StepRunsFront
  intro c rest s
  rfl

/-- Settles O2: with nothing loaded, awaited or enabled, each part of an island edge but the counter's leaves the state
as it is. -/
theorem idleStepTicks : Obligations.IdleStepTicks := by
  unfold Obligations.IdleStepTicks
  intro s hempty
  have hstep : step s = .next s.tick := by rw [step, hempty]
  rw [hstep]
  refine ⟨fun hstop => by simp [State.tick, hstop], fun hrun hcycle hlast huntil hlow hoff hhold hline => ?_,
    fun hrun => ⟨_, rfl, State.tick_raw hrun⟩⟩
  set s' := s.upBcn fun b => { b with raw := b.raw + rawEdge, ppsNext := max b.ppsNext (b.second + 1) } with hs'
  have hgrid : s'.gridCheck = s' := by
    have hc : s'.cycle = none := hcycle
    simp [State.gridCheck, hc]
  have hmiss : s'.ppsMissing = s' := by
    have hl : s'.beacon.ppsLast = none := hlast
    simp [State.ppsMissing, hl]
  have hfall : s'.ppsFall = s' := by
    have hu : s'.beacon.ppsUntil = none := huntil
    simp [State.ppsFall, hu]
  have hsync : s'.syncOut = s' := by
    have hb : s'.rb 0x8020 21 = false := hoff
    have hh : s'.beacon.syncHigh = false := hlow
    simp [State.syncOut, hb, hh]
  have htick : s.tick = s' := by
    rw [State.tick, if_pos hrun]
    dsimp only
    rw [← hs', hgrid, hmiss, State.holdTicks_of_no_hold (s := s') hhold, hfall, hsync,
      State.recessiveCount_of_none_recovering (s := s') hline]
  rw [htick]
  rfl


/-- Settles O3: nothing is stored after reset, so that each register reads as its reset word and each entry as the value
of an unlisted one. -/
theorem resetValues : Obligations.ResetValues := by
  unfold Obligations.ResetValues
  have hbus : ∀ n < 40, resetWord Fuse.reset (busBase n + 0x100) = 0x00CF878F ∧
      resetWord Fuse.reset (busBase n + 0x104) = 0x0000EA73 ∧
      resetWord Fuse.reset (busBase n + 0x108) = 0x00003484 := by decide
  have hmac : ∀ p < 24, fld (resetWord Fuse.reset (macBase p)) 29 3 = if p % 6 = 5 then 4 else 1 := by decide
  refine ⟨rfl, fun n hn => ?_, fun p hp => ?_, ?_, ?_, ?_, ?_, ?_, fun _ => rfl, fun _ => rfl, fun _ => rfl⟩
  · rw [State.rd_reset, State.rd_reset, State.rd_reset]
    exact hbus n hn
  · rw [State.rd_reset]
    exact hmac p hp
  all_goals
    rw [State.rd_reset]
    decide

end

namespace Sys2Proof.Machine
open Sys2Proof

/-! ### O20: loads (R537) -/

/-- What a load of value `v` writes to registers, a pair for LDD. -/
def LoadOp.results (f : LoadOp) (rd v : Nat) : List (Nat × Word) :=
  if f = .ldd then [(rd, wd v), (rd + 1, wd (v / 2 ^ 32))] else [(rd, f.extend v)]

/-- The registers after writes `ws`. -/
def Cpu.writes (ws : List (Nat × Word)) (c : Cpu) : Cpu := { c with x := ws.foldl (fun l p => l.set p.1 p.2) c.x }

theorem Cpu.writes_loopsAs (ws : List (Nat × Word)) (c : Cpu) : (c.writes ws).LoopsAs c := ⟨rfl, rfl, rfl, rfl⟩

theorem State.ea_eq (s : State) (g ra v : Nat) :
    s.ea g ra v = (s.x g ra + (BitVec.ofNat 18 v).signExtend 32).toNat := by
  rw [State.ea, simm_eq_signExtend (by decide)]

section
variable {s : State} {g rd ra v : Nat}

/-- A load of either kind writes its results and goes on. -/
theorem State.load_goesOn (f : LoadOp) (val : Nat) (hn : fetchable (s.nextPc g) = true) :
    (if f = .ldd then (s.setPair g rd val).advance g else (s.setX g rd (f.extend val)).advance g) =
      s.goesOn g (Cpu.writes (f.results rd val)) := by
  rw [← State.advance_upCpu hn (Cpu.writes_loopsAs ..)]
  unfold LoadOp.results
  split
  · rw [State.setPair, State.setX, State.setX, State.upCpu_upCpu]
    rfl
  · rfl

theorem State.nextPc_countEng (h i : Nat) : (s.countEng h i).nextPc g = s.nextPc g := by
  rw [State.nextPc, State.nextPc, State.cpu_congr (s := s) (by simp [State.countEng])]

theorem State.engVal_countEng (h i a n : Nat) : (s.countEng h i).engVal g a n = s.engVal g a n := by
  rw [State.engVal, State.engVal, State.engBytes_congr (s := s) (by simp [State.countEng]) (by simp [State.countEng])]

variable {f : LoadOp} (e : Ecc) (hi : s.issues g (.load f rd ra v) = true)
include hi

theorem State.runLoad_misaligned (ha : s.ea g ra v % f.size ≠ 0) :
    s.runLoad (.clean g) f rd ra v e = s.trap g trMisaligned (s.ea g ra v) := by
  rw [State.runLoad, State.issue_clean _ hi]
  exact if_pos ha

theorem State.runLoad_access (ha : s.ea g ra v % f.size = 0) (hr : regionOf (s.ea g ra v) f.size = none) :
    s.runLoad (.clean g) f rd ra v e = s.trap g trAccess (s.ea g ra v) := by
  rw [State.runLoad, State.issue_clean _ hi]
  exact (if_neg (by simp [ha])).trans (if_pos (by simp [hr]))

/-- What an aligned load of a memory does is its read. -/
theorem State.runLoad_reads (ha : s.ea g ra v % f.size = 0) (hr : (regionOf (s.ea g ra v) f.size).isSome = true) :
    s.runLoad (.clean g) f rd ra v e = s.readMem g e fun s' =>
      if f = .ldd then (s'.setPair g rd (s'.engVal g (s.ea g ra v) 8)).advance g
      else (s'.setX g rd (f.extend (s'.engVal g (s.ea g ra v) f.size))).advance g := by
  rw [State.runLoad, State.issue_clean _ hi]
  exact (if_neg (by simp [ha])).trans (if_neg (by simp [Option.isSome_iff_ne_none.1 hr]))

end

/-- The size of LDD is that of a pair. -/
theorem State.load_of_size {s : State} {g rd a : Nat} (f : LoadOp) :
    (if f = .ldd then (s.setPair g rd (s.engVal g a 8)).advance g
      else (s.setX g rd (f.extend (s.engVal g a f.size))).advance g) =
    if f = .ldd then (s.setPair g rd (s.engVal g a f.size)).advance g
      else (s.setX g rd (f.extend (s.engVal g a f.size))).advance g := by
  by_cases h : f = .ldd
  · subst h
    rfl
  · rw [if_neg h, if_neg h]

end Sys2Proof.Machine

section
open Sys2Proof Sys2Proof.Machine

/-- Settles O20: every row is the load of its function, whose results are those of the row. -/
theorem loads : Obligations.Loads := by
  unfold Obligations.Loads
  intro s g rd ra v e hn a m f c n ws hrow hi load
  have hea : a = s.ea g ra v := (State.ea_eq ..).symm
  have hexec : exec c s = .next (s.runLoad (.clean g) f rd ra v e) ∧ n = f.size ∧
      ws = f.results rd (s.engVal g a f.size) := by
    simp only [List.mem_cons, Prod.mk.injEq, List.not_mem_nil, or_false] at hrow
    rcases hrow with ⟨rfl, rfl, rfl, rfl⟩ | ⟨rfl, rfl, rfl, rfl⟩ | ⟨rfl, rfl, rfl, rfl⟩ | ⟨rfl, rfl, rfl, rfl⟩ |
      ⟨rfl, rfl, rfl, rfl⟩ | ⟨rfl, rfl, rfl, rfl⟩
    case inr.inl =>
      exact ⟨rfl, rfl, by rw [LoadOp.results, if_neg (by decide), LoadOp.extend, simm_eq_signExtend (by decide)]; rfl⟩
    case inr.inr.inr.inl =>
      exact ⟨rfl, rfl, by rw [LoadOp.results, if_neg (by decide), LoadOp.extend, simm_eq_signExtend (by decide)]; rfl⟩
    iterate 4 exact ⟨rfl, rfl, rfl⟩
  obtain ⟨hc, rfl, rfl⟩ := hexec
  rw [hc, hea]
  refine ⟨fun ha hr he => ?_, fun ha hr he => ?_, fun ha hr he => ?_, fun ha => ?_, fun ha hr => ?_⟩
  · subst he
    rw [State.runLoad_reads _ hi ha hr, State.readMem, State.load_of_size, State.load_goesOn f _ hn, ← hea]
    rfl
  · subst he
    rw [State.runLoad_reads _ hi ha hr, State.readMem, State.load_of_size, State.load_goesOn f _
      (by rwa [State.nextPc_countEng]), State.engVal_countEng, ← hea]
    rfl
  · subst he
    rw [State.runLoad_reads _ hi ha hr]
    rfl
  · rw [State.runLoad_misaligned e hi ha]
    rfl
  · rw [State.runLoad_access e hi ha hr]
    rfl

end

namespace Sys2Proof.Machine
open Sys2Proof

/-! ### O21: stores (R537) -/

section
variable {s : State} {g rd ra v : Nat} {f : StoreOp} (hi : s.issues g (.store f rd ra v) = true)
include hi

theorem State.runStore_misaligned (ha : s.ea g ra v % f.size ≠ 0) :
    s.runStore (.clean g) f rd ra v = s.trap g trMisaligned (s.ea g ra v) := by
  rw [State.runStore, State.issue_clean _ hi]
  exact if_pos ha

theorem State.runStore_access (ha : s.ea g ra v % f.size = 0) (hb : bufferOk (s.ea g ra v) f.size = false) :
    s.runStore (.clean g) f rd ra v = s.trap g trAccess (s.ea g ra v) := by
  rw [State.runStore, State.issue_clean _ hi]
  exact (if_neg (by simp [ha])).trans (if_pos (by simp [hb]))

theorem State.runStore_stores (hn : fetchable (s.nextPc g) = true) (ha : s.ea g ra v % f.size = 0)
    (hb : bufferOk (s.ea g ra v) f.size = true) :
    s.runStore (.clean g) f rd ra v =
      (s.putEngBytes g (s.ea g ra v) (leBytes f.size (s.storeVal g f rd))).goesOn g id := by
  have hn' (bs : List Byte) : fetchable ((s.putEngBytes g (s.ea g ra v) bs).nextPc g) = true := by
    rwa [State.nextPc_putEngBytes]
  rw [State.runStore, State.issue_clean _ hi]
  exact (if_neg (by simp [ha])).trans ((if_neg (by simp [hb])).trans (State.advance_of_fetchable (hn' _)))

end

end Sys2Proof.Machine

section
open Sys2Proof Sys2Proof.Machine

/-- Settles O21: every row is the store of its function, and its bytes are those of the value the row gives. -/
theorem stores : Obligations.Stores := by
  unfold Obligations.Stores
  intro s g rd ra v hn a w f c n w' hrow hi
  have hea : a = s.ea g ra v := (State.ea_eq ..).symm
  have hexec : exec c s = .next (s.runStore (.clean g) f rd ra v) ∧ n = f.size ∧ w' = s.storeVal g f rd := by
    simp only [List.mem_cons, Prod.mk.injEq, List.not_mem_nil, or_false] at hrow
    rcases hrow with ⟨rfl, rfl, rfl, rfl⟩ | ⟨rfl, rfl, rfl, rfl⟩ | ⟨rfl, rfl, rfl, rfl⟩ | ⟨rfl, rfl, rfl, rfl⟩
    iterate 4 exact ⟨rfl, rfl, rfl⟩
  obtain ⟨hc, rfl, rfl⟩ := hexec
  rw [hea]
  refine ⟨fun ha hb => ⟨_, hc, ?_⟩, fun ha => ?_, fun ha hb => ?_⟩
  · rw [State.runStore_stores hi hn ha hb]
    exact State.stored_goesOn _ _ hb
  · rw [hc, State.runStore_misaligned hi ha]
    rfl
  · rw [hc, State.runStore_access hi ha hb]
    rfl

end

namespace Sys2Proof.Machine
open Sys2Proof

/-! ### What an event leaves of the engines (R546, R572) -/

/-- Between `s` and `t` an engine is as before but for its event flag, which may have been set. -/
def Noted (s t : State) : Prop :=
  ∀ h, t.eng h = s.eng h ∨ t.eng h = { s.eng h with cpu := { (s.eng h).cpu with event := true } }

theorem Noted.of_engines_eq {s t : State} (h : t.engines = s.engines) : Noted s t := fun _ => Or.inl (State.eng_congr h _)

theorem Noted.trans {s t u : State} (h : Noted s t) (k : Noted t u) : Noted s u := by
  intro j
  rcases h j with hj | hj <;> rcases k j with kj | kj <;> simp [hj, kj]

theorem State.noteEngine_noted (g : Nat) (s : State) : Noted s (s.noteEngine g) := by
  intro h
  unfold State.noteEngine
  extract_lets e
  split
  · rw [State.eng_setEng]
    split
    case isTrue hg =>
      subst hg
      exact Or.inr rfl
    case isFalse => exact Or.inl rfl
  · exact Or.inl rfl

theorem State.noteSrc_noted (i : Nat) (before : Bool) (s : State) : Noted s (s.noteSrc i before) := by
  unfold State.noteSrc
  split
  · exact State.noteEngine_noted _ s
  · exact .of_engines_eq rfl

theorem State.arrive_noted (i : Nat) (s : State) : Noted s (s.arrive i) := by
  unfold State.arrive
  extract_lets x
  split
  · refine Noted.trans ?_ (State.noteSrc_noted _ _ _)
    exact .of_engines_eq (by simp)
  · exact .of_engines_eq rfl

theorem State.raiseBit_noted (b : Blk) (i : Nat) (s : State) : Noted s (s.raiseBit b i) := by
  unfold State.raiseBit
  extract_lets before s'
  have hs' : Noted s s' := .of_engines_eq (by simp [s'])
  split
  · exact hs'
  · split
    · exact hs'.trans (State.arrive_noted _ _)
    · exact hs'.trans (State.noteSrc_noted _ _ _)

theorem State.raise_noted (b : Blk) (i unit info : Nat) (s : State) : Noted s (s.raise b i unit info) := by
  unfold State.raise
  extract_lets s'
  have hs' : Noted s s' := State.raiseBit_noted _ _ _
  split
  · exact hs'.trans (.of_engines_eq (by simp))
  · exact hs'

/-- An engine's memories hold nothing of its registers. -/
theorem State.engBytes_upCpu (g h a n : Nat) (f : Cpu → Cpu) (s : State) :
    (s.upCpu g f).engBytes h a n = s.engBytes h a n := by
  induction n generalizing a with
  | zero => rfl
  | succ n ih => rw [State.engBytes, State.engBytes, State.engByte_upCpu, ih]

theorem State.eng_setEngByte_of_ne {g h : Nat} (hg : h ≠ g) (a : Nat) (b : Byte) (s : State) :
    (s.setEngByte g a b).eng h = s.eng h := by
  unfold State.setEngByte
  split
  · rw [State.eng_upEng, if_neg hg]
  · rfl
  · rfl

theorem State.eng_putEngBytes_of_ne {g h : Nat} (hg : h ≠ g) (a : Nat) (bs : List Byte) (s : State) :
    (s.putEngBytes g a bs).eng h = s.eng h := by
  induction bs generalizing a s with
  | nil => rfl
  | cons b bs ih => rw [State.putEngBytes, ih, State.eng_setEngByte_of_ne hg]

/-! ### O25: trap entry (R557, R558) -/

theorem length_wordsBytes (ws : List Word) : (wordsBytes ws).length = 4 * ws.length := by
  induction ws with
  | nil => rfl
  | cons w ws ih =>
    have hcons : wordsBytes (w :: ws) = leBytes 4 w.toNat ++ wordsBytes ws := rfl
    rw [hcons, List.length_append, length_leBytes, ih, List.length_cons]
    omega

theorem wordsBytes_getD (ws : List Word) {i j : Nat} (hi : i < ws.length) (hj : j < 4) :
    (wordsBytes ws).getD (4 * i + j) 0 = (leBytes 4 (ws.getD i 0).toNat).getD j 0 := by
  induction ws generalizing i with
  | nil => simp at hi
  | cons w ws ih =>
    have hcons : wordsBytes (w :: ws) = leBytes 4 w.toNat ++ wordsBytes ws := rfl
    rw [hcons]
    cases i with
    | zero =>
      rw [List.getD_append _ _ _ _ (by rw [length_leBytes]; omega)]
      simp
    | succ i =>
      rw [List.getD_append_right _ _ _ _ (by rw [length_leBytes]; omega), length_leBytes, List.getD_cons_succ,
        ← ih (by simpa using hi)]
      congr 1
      omega

/-- Words written to a buffer read back one by one. -/
theorem State.ofLe_engBytes_wordsBytes {t : State} {g a i : Nat} {ws : List Word} (hi : i < ws.length)
    (h : ∀ b, a ≤ b → b < a + 4 * ws.length → t.engByte g b = (wordsBytes ws).getD (b - a) 0) :
    ofLe (t.engBytes g (a + 4 * i) 4) = (ws.getD i 0).toNat := by
  have hbyte (j : Nat) (hj : j < 4) : t.engByte g (a + 4 * i + j) = (leBytes 4 (ws.getD i 0).toNat).getD j 0 := by
    rw [h _ (by omega) (by omega), ← wordsBytes_getD ws hi hj]
    congr 1
    omega
  have hall : t.engBytes g (a + 4 * i) 4 = leBytes 4 (ws.getD i 0).toNat := by
    have h0 : t.engByte g (a + 4 * i) = _ := hbyte 0 (by decide)
    have h1 : t.engByte g (a + 4 * i + 1) = _ := hbyte 1 (by decide)
    have h2 : t.engByte g (a + 4 * i + 1 + 1) = _ := hbyte 2 (by decide)
    have h3 : t.engByte g (a + 4 * i + 1 + 1 + 1) = _ := hbyte 3 (by decide)
    simp only [State.engBytes, h0, h1, h2, h3]
    rfl
  rw [hall, ofLe_leBytes (by have := (ws.getD i 0).isLt; omega)]

section
variable (g cause addr val ret : Nat) (s : State)

/-- A trap can be taken: outside a handler, with a vector table in use and a frame that can be written. -/
def State.canTrap : Bool := !(s.cpu g).psr.getLsbD 9 && (s.cpu g).vbase.getLsbD 0 && s.frameOk g

/-- What the frame of an entry holds (Table 15-16). -/
def State.frameWords : List Word :=
  [wd ret, (s.cpu g).psr, s.x g 14, s.x g 0, s.x g 1, s.x g 2, s.x g 3, s.x g 4]

/-- Registers as the handler at `h` finds them, with their frame at `a`. -/
def Cpu.trapped (a h : Nat) (c : Cpu) : Cpu :=
  { c with tcause := wd cause, taddr := wd addr, tval := wd val, x := c.x.set 15 (wd a),
           psr := setFld (setFld c.psr 20 3 (fld c.psr 24 3)) 8 2 2, pc := h }

theorem State.vector_setTrap (i : Nat) : (s.setTrap g cause addr val).vector g i = s.vector g i := by
  rw [State.vector, State.vector, State.setTrap, State.engVal, State.engVal, State.engBytes_upCpu,
    State.cpu_upCpu_self]

theorem State.canTrap_setTrap : (s.setTrap g cause addr val).canTrap g = s.canTrap g := by
  simp [State.canTrap, State.frameOk, State.frameAddr, State.x, State.setTrap]

theorem State.frameWords_setTrap : (s.setTrap g cause addr val).frameWords g ret = s.frameWords g ret := by
  simp [State.frameWords, State.x, State.setTrap]

theorem State.frameAddr_setTrap : (s.setTrap g cause addr val).frameAddr g = s.frameAddr g := by
  simp [State.frameAddr, State.x, State.setTrap]

theorem State.trapAt_of_not_canTrap (h : s.canTrap g = false) :
    s.trapAt g cause addr val ret = (s.setTrap g cause addr val).haltFault g := by
  rw [← State.canTrap_setTrap g cause addr val] at h
  refine if_pos ?_
  simp only [State.canTrap, State.setTrap, State.cpu_upCpu_self] at h
  simp only [psrTrap, bit, State.setTrap]
  revert h
  cases (s.cpu g).psr.getLsbD 9 <;> cases (s.cpu g).vbase.getLsbD 0 <;> simp

theorem State.trapAt_of_canTrap (h : s.canTrap g = true) (hf : fetchable (s.vector g 0) = true) :
    s.trapAt g cause addr val ret =
      ((s.setTrap g cause addr val).putEngBytes g (s.frameAddr g) (wordsBytes (s.frameWords g ret))).upCpu g
        (Cpu.trapped cause addr val (s.frameAddr g) (s.vector g 0)) := by
  have hgo : ¬ ((psrTrap (s.cpu g).psr || !bit (s.cpu g).vbase 0 || !(s.setTrap g cause addr val).frameOk g) = true) := by
    rw [← State.canTrap_setTrap g cause addr val] at h
    simp only [State.canTrap, State.setTrap, State.cpu_upCpu_self, Bool.and_eq_true, Bool.not_eq_true'] at h
    obtain ⟨⟨htrap, hbase⟩, hframe⟩ := h
    simp only [psrTrap, bit, State.setTrap, htrap, hbase, hframe]
    decide
  rw [State.trapAt]
  refine (if_neg hgo).trans ?_
  dsimp only
  rw [State.vector_setTrap, if_pos hf, ← State.frameWords_setTrap g cause addr val,
    ← State.frameAddr_setTrap g cause addr val, State.pushFrame]
  dsimp only
  rw [State.upCpu_upCpu]
  refine State.upCpu_congr ?_
  rw [State.cpu_putEngBytes, State.setTrap, State.cpu_upCpu_self]
  rfl

end

/-- What a halt leaves of its engine's registers and of its events. -/
theorem State.eng_haltFault (g : Nat) (s : State) :
    ∃ ev, (s.haltFault g).eng g =
      { s.eng g with state := .haltedFault, cpu := { s.cpu g with wait := .none, event := ev } } := by
  unfold State.haltFault
  rcases State.raise_noted (.eng g) 0 g (fld (s.cpu g).tcause 0 8)
    (s.upEng g fun e => { e with state := .haltedFault, cpu := { e.cpu with wait := .none } }) g with h | h
  · exact ⟨(s.cpu g).event, by rw [h, State.eng_upEng_self]; rfl⟩
  · exact ⟨true, by rw [h, State.eng_upEng_self]; rfl⟩

theorem State.rd_haltFault (g : Nat) (s : State) :
    (s.haltFault g).rd (Blk.eng g).evtOff = s.rd (Blk.eng g).evtOff ||| 1 := by
  rw [State.haltFault, State.rd_raise, if_pos rfl]
  rfl

end Sys2Proof.Machine

section
open Sys2Proof Sys2Proof.Machine

/-- Settles O25: a trap that can be taken writes its frame and goes to its handler, another halts its engine. -/
theorem trapEntry : Obligations.TrapEntry := by
  unfold Obligations.TrapEntry
  intro s g cause addr val ret k a ok words t
  have hok : ok = s.canTrap g := (Bool.and_assoc ..)
  refine ⟨fun h hf => ?taken, fun h => ?halted⟩
  case taken =>
    have ht : t = _ := State.trapAt_of_canTrap g cause addr val ret s (hok ▸ h) hf
    have hframe : bufferOk a (wordsBytes words).length = true := by
      have hcan : s.canTrap g = true := hok ▸ h
      simp only [State.canTrap, State.frameOk, Bool.and_eq_true] at hcan
      exact length_wordsBytes words ▸ hcan.2.2
    have hlen : (wordsBytes words).length = 32 := length_wordsBytes words
    have hbyte (b : Nat) : t.engByte g b =
        if a ≤ b ∧ b < a + 32 then (wordsBytes words).getD (b - a) 0 else s.engByte g b := by
      rw [ht, State.engByte_upCpu]
      refine (State.engByte_putEngBytes hframe g g b _).trans ?_
      rw [State.setTrap, State.engByte_upCpu, hlen]
      have hself : Sees g g a := Or.inl rfl
      simp only [hself, and_true]
    refine ⟨?cpu, fun i hi => ?frame, fun b hb => ?rest, fun h hh => ?others, ?state⟩
    case cpu =>
      rw [ht, State.cpu_upCpu_self, State.cpu_putEngBytes, State.setTrap, State.cpu_upCpu_self]
      rfl
    case frame => exact State.ofLe_engBytes_wordsBytes hi fun b hlo hhi => (hbyte b).trans (if_pos ⟨hlo, hhi⟩)
    case rest => exact (hbyte b).trans (if_neg (by omega))
    case others =>
      rw [ht, State.upCpu, State.eng_upEng, if_neg hh, State.eng_putEngBytes_of_ne hh, State.setTrap, State.upCpu,
        State.eng_upEng, if_neg hh]
    case state =>
      rw [ht]
      exact State.upCpu_of_memory_frame ((State.putEngBytes_frame g _ _ (s.setTrap g cause addr val)).trans rfl) _
  case halted =>
    have ht : t = _ := State.trapAt_of_not_canTrap g cause addr val ret s (hok ▸ h)
    obtain ⟨ev, heng⟩ := State.eng_haltFault g (s.setTrap g cause addr val)
    rw [← ht, State.setTrap, State.cpu_upCpu_self] at heng
    have hcpu : t.cpu g = _ := congrArg Engine.cpu heng
    refine ⟨by rw [heng], by rw [hcpu], by rw [hcpu], by rw [hcpu], by rw [hcpu], by rw [hcpu], ?_, ?_⟩
    · rw [ht, State.haltFault]
      simp [State.setTrap, State.upCpu, State.upEng]
    · rw [ht, State.rd_haltFault]
      rfl

end

namespace Sys2Proof.Machine
open Sys2Proof

/-! ### O26: system instructions and control registers (R528, R531, R560, R561) -/

/-- Fields of two words that agree bit by bit. -/
theorem fld_congr {w w' : Word} {lo len : Nat} (h : ∀ i, lo ≤ i → i < lo + len → bit w i = bit w' i) :
    fld w lo len = fld w' lo len := by
  refine Nat.eq_of_testBit_eq fun i => ?_
  rw [testBit_fld, testBit_fld]
  by_cases hi : i < len
  · rw [h _ (by omega) (by omega)]
  · simp [hi]

theorem setFlag_ie_true (p : Word) : setFlag 8 true p = p ||| 0x100 := by
  have hset (m : Word) : (p &&& ~~~m) ||| m = p ||| m := by
    ext i hi
    simp only [BitVec.getElem_or, BitVec.getElem_and, BitVec.getElem_not]
    cases p[i] <;> cases m[i] <;> rfl
  exact hset 0x100

theorem setFlag_ie_false (p : Word) : setFlag 8 false p = p &&& ~~~0x100 := BitVec.or_zero

theorem psrWritten_eq (old w : Word) :
    psrWritten old w = (old &&& 0xFFFFFEE0) ||| (old &&& w &&& 0x10) ||| (w &&& 0x10F) := by
  have hdist : old &&& (~~~0x11F ||| (w &&& 0x10)) = (old &&& ~~~0x11F) ||| (old &&& (w &&& 0x10)) := by
    ext i hi
    simp only [BitVec.getElem_and, BitVec.getElem_or, Bool.and_or_distrib_left]
  rw [psrWritten, hdist, ← BitVec.and_assoc]
  rfl

/-- A CSR write reaches no bit of a PSR above ie. -/
theorem bit_psrWritten (old w : Word) {i : Nat} (hlo : 9 ≤ i) (hhi : i < 32) : bit (psrWritten old w) i = bit old i := by
  have hclear {n : Nat} (hn : n < 512) : Nat.testBit n i = false :=
    Nat.testBit_lt_two_pow (lt_of_lt_of_le hn (Nat.pow_le_pow_right (n := 2) (by decide) hlo))
  have hm : (0x11F : Word).getLsbD i = false := hclear (n := 0x11F) (by decide)
  have hd : (0x10F : Word).getLsbD i = false := hclear (n := 0x10F) (by decide)
  simp only [psrWritten, bit, BitVec.getLsbD_or, BitVec.getLsbD_and, BitVec.getLsbD_not, hm, hd, hhi]
  simp

theorem keepsDepths_psrWritten (f : Word → Word) : KeepsDepths fun p => psrWritten p (f p) := fun p =>
  ⟨fld_congr fun _ _ _ => bit_psrWritten p (f p) (by omega) (by omega),
    fld_congr fun _ _ _ => bit_psrWritten p (f p) (by omega) (by omega)⟩

section
variable {s : State} {g r n : Nat} {f : CsrOp}

/-- The priorities of an engine's own sources, eight to a register. -/
theorem State.csrRead_ppri {i : Nat} (hi : i < 8) : s.csrRead g (0x24 + i) = some ((s.cpu g).ppri.getD i 0) := by
  interval_cases i <;> rfl

theorem State.csrWrite_ppri {i : Nat} (hi : i < 8) (w : Word) :
    s.csrWrite g (0x24 + i) w = some (s.upCpu g fun c => { c with ppri := c.ppri.set i w }) := by
  interval_cases i <;> rfl

theorem State.doCsr_read {x : Word} (hn : fetchable (s.nextPc g) = true) (hr : s.csrRead g n = some x) :
    s.doCsr g .csrr r n = s.goesOn g fun c => { c with x := c.x.set r x } := by
  rw [State.doCsr, hr]
  exact State.advance_upCpu hn ⟨rfl, rfl, rfl, rfl⟩

/-- A control register that is written takes what `f` makes of it, and the engine goes on. -/
theorem State.doCsr_write {old : Word} {u : Cpu → Cpu} (hn : fetchable (s.nextPc g) = true) (hf : f ≠ .csrr)
    (hr : s.csrRead g n = some old) (hw : s.csrWrite g n (f.new old (s.x g r)) = some (s.upCpu g u))
    (hu : (u (s.cpu g)).LoopsAs (s.cpu g)) : s.doCsr g f r n = s.goesOn g u := by
  rw [State.doCsr, hr]
  refine (if_neg hf).trans ?_
  rw [hw]
  exact State.advance_upCpu hn hu

theorem State.doCsr_of_unlisted (hr : s.csrRead g n = none) : s.doCsr g f r n = s.illegal g := by
  rw [State.doCsr, hr]

theorem State.doCsr_of_unwritten (hf : f ≠ .csrr) (hw : ∀ w, s.csrWrite g n w = none) :
    s.doCsr g f r n = s.illegal g := by
  rw [State.doCsr]
  split
  · rfl
  · rw [if_neg hf, hw]

end

end Sys2Proof.Machine

section
open Sys2Proof Sys2Proof.Machine

/-- Settles O26: the system instructions branch by branch, and the control registers number by number. -/
theorem systemInstructions : Obligations.SystemInstructions := by
  unfold Obligations.SystemInstructions
  refine ⟨fun s g v hn => ⟨fun hi => ?nop, fun hi => ?ei, fun hi => ?di, fun hi => ?trap, fun hi hd => ?trapped,
    fun hi hd => ?held, fun hr hw => ?illegal, fun hw => ?legal⟩, fun s g r n hn => ?_⟩
  on_goal 9 =>
    intro k w
    refine ⟨fun x hrow hi => ?reads, fun c f hrow hi => ?writes, fun hrow hi => ?unlisted⟩
  case nop => exact congrArg Host.Outcome.next ((State.issue_clean _ hi).trans (State.advance_of_fetchable hn))
  case ei =>
    refine congrArg Host.Outcome.next ((State.issue_clean _ hi).trans ?_)
    refine (State.advance_upCpu hn ((keepsDepths_setFlag (i := 8) (by decide) true).loopsAs _ (s.cpu g).x)).trans ?_
    exact congrArg (State.goesOn g · s) (funext fun c => by rw [← setFlag_ie_true]; rfl)
  case di =>
    refine congrArg Host.Outcome.next ((State.issue_clean _ hi).trans ?_)
    refine (State.advance_upCpu hn ((keepsDepths_setFlag (i := 8) (by decide) false).loopsAs _ (s.cpu g).x)).trans ?_
    exact congrArg (State.goesOn g · s) (funext fun c => by rw [← setFlag_ie_false]; rfl)
  case trap => exact congrArg Host.Outcome.next (State.issue_clean _ hi)
  case trapped => exact congrArg Host.Outcome.next ((State.issue_clean _ hi).trans (if_neg (by simp [hd])))
  case held =>
    refine congrArg Host.Outcome.next ((State.issue_clean _ hi).trans ((if_pos hd).trans ?_))
    rw [State.advance_of_fetchable hn]
  case illegal =>
    have hgo : (s.engineRuns g && (decodeWord (s.fetched g)).isNone) = true := by simp [hr, hw]
    refine congrArg Host.Outcome.next ((if_pos hgo).trans ?_)
    simp only [State.readMem, Finds.clean, State.vectorRead]
    exact if_pos (by simp)
  case legal =>
    refine congrArg Host.Outcome.next (if_neg ?_)
    simp [hw]
  case reads =>
    have hr : s.csrRead g n = some x := by
      simp only [List.mem_cons, Prod.mk.injEq, List.not_mem_nil, or_false] at hrow
      rcases hrow with ⟨rfl, rfl⟩ | ⟨rfl, rfl⟩ | ⟨rfl, rfl⟩ | ⟨rfl, rfl⟩ | ⟨rfl, rfl⟩ | ⟨rfl, rfl⟩ | ⟨rfl, rfl⟩ |
        ⟨rfl, rfl⟩ | ⟨rfl, rfl⟩ | ⟨rfl, rfl⟩ | ⟨rfl, rfl⟩ | ⟨rfl, rfl⟩ | ⟨rfl, rfl⟩ | ⟨rfl, rfl⟩ | ⟨rfl, rfl⟩
      iterate 15 exact rfl
    exact congrArg Host.Outcome.next ((State.issue_clean _ hi).trans (State.doCsr_read hn hr))
  case writes =>
    intro new
    have hrun : exec f s = .next (s.doCsr g c r n) ∧ c ≠ .csrr ∧ ∀ x, c.new x w = new x := by
      simp only [List.mem_cons, Prod.mk.injEq, List.not_mem_nil, or_false] at hrow
      rcases hrow with ⟨rfl, rfl⟩ | ⟨rfl, rfl⟩ | ⟨rfl, rfl⟩
      iterate 3 exact ⟨congrArg Host.Outcome.next (State.issue_clean _ hi), by decide, fun _ => rfl⟩
    obtain ⟨hexec, hc, hnew⟩ := hrun
    rw [hexec]
    refine ⟨?psr, ?ecfg, ?vbase, ?pen0, ?pen1, ?ppri, ?readOnly⟩
    case psr =>
      rintro rfl
      rw [State.doCsr_write (u := fun c => { c with psr := psrWritten c.psr (new c.psr) }) hn hc rfl
        (by rw [hnew]; exact congrArg some (State.upCpu_congr rfl))
        ((keepsDepths_psrWritten new).loopsAs (s.cpu g) (s.cpu g).x)]
      simp only [psrWritten_eq]
    case ecfg =>
      rintro rfl
      rw [State.doCsr_write hn hc rfl (u := fun c => { c with ecfg := new c.ecfg &&& 3 })
        (by rw [hnew]; exact congrArg some (State.upCpu_congr rfl)) ⟨rfl, rfl, rfl, rfl⟩]
    case vbase =>
      rintro rfl
      rw [State.doCsr_write hn hc rfl (u := fun c => { c with vbase := new c.vbase &&& 0x1FFC1 })
        (by rw [hnew]; exact congrArg some (State.upCpu_congr rfl)) ⟨rfl, rfl, rfl, rfl⟩]
    case pen0 =>
      rintro rfl
      rw [State.doCsr_write hn hc rfl (u := fun c => { c with pen0 := new c.pen0 &&& 0x000FFF1F })
        (by rw [hnew]; exact congrArg some (State.upCpu_congr rfl)) ⟨rfl, rfl, rfl, rfl⟩]
    case pen1 =>
      rintro rfl
      rw [State.doCsr_write hn hc rfl (u := fun c => { c with pen1 := new c.pen1 &&& 0xFFFF })
        (by rw [hnew]; exact congrArg some (State.upCpu_congr rfl)) ⟨rfl, rfl, rfl, rfl⟩]
    case ppri =>
      intro hlo hhi
      obtain ⟨i, rfl⟩ := Nat.exists_eq_add_of_le hlo
      rw [Nat.add_sub_cancel_left]
      rw [State.doCsr_write hn hc (State.csrRead_ppri (by omega))
        (u := fun c => { c with ppri := c.ppri.set i (new (c.ppri.getD i 0)) })
        (by rw [hnew, State.csrWrite_ppri (by omega)]; exact congrArg some (State.upCpu_congr rfl))
        ⟨rfl, rfl, rfl, rfl⟩]
    case readOnly =>
      intro hrow
      have hw (w : Word) : s.csrWrite g n w = none := by
        simp only [List.mem_cons, List.not_mem_nil, or_false] at hrow
        rcases hrow with rfl | rfl | rfl | rfl | rfl | rfl | rfl | rfl | rfl | rfl | rfl | rfl | rfl | rfl | rfl
        iterate 15 exact rfl
      rw [State.doCsr_of_unwritten hc hw]
      rfl
  case unlisted =>
    have hr : s.csrRead g n = none := by
      simp only [List.mem_cons, List.not_mem_nil, or_false] at hrow
      rcases hrow with rfl | rfl | rfl | rfl
      iterate 4 exact rfl
    exact congrArg Host.Outcome.next ((State.issue_clean _ hi).trans (State.doCsr_of_unlisted hr))

end

namespace Sys2Proof.Machine
open Sys2Proof

/-! ### O28: raising and clearing interrupt sources (R572, R578, R579) -/

theorem Cpu.LoopsAs.trans {a b c : Cpu} (h : a.LoopsAs b) (k : b.LoopsAs c) : a.LoopsAs c :=
  ⟨h.pc.trans k.pc, h.loops.trans k.loops, h.depth.trans k.depth, h.base.trans k.base⟩

/-- An event flag is no part of the loops, nor of the engine's own sources. -/
theorem Noted.loopsAs {s t : State} (h : Noted s t) (g : Nat) : (t.cpu g).LoopsAs (s.cpu g) := by
  rcases h g with hg | hg <;> rw [State.cpu, hg] <;> exact ⟨rfl, rfl, rfl, rfl⟩

theorem Noted.src {s t : State} (h : Noted s t) (g : Nat) : (t.cpu g).src = (s.cpu g).src := by
  rcases h g with hg | hg <;> rw [State.cpu, hg] <;> rfl

theorem Noted.icnt {s t : State} (h : Noted s t) (g : Nat) : (t.cpu g).icnt = (s.cpu g).icnt := by
  rcases h g with hg | hg <;> rw [State.cpu, hg] <;> rfl

/-- The loop test changes neither the engine's own sources nor ICNT. -/
theorem loopNext_src (a n : Nat) (c : Cpu) : (loopNext a n c).2.src = c.src := by
  induction n generalizing c with
  | zero => rfl
  | succ n ih =>
    rw [loopNext]
    split
    · split
      · rfl
      · exact ih (c.setDepth (c.depth - 1))
    · rfl

theorem loopNext_icnt (a n : Nat) (c : Cpu) : (loopNext a n c).2.icnt = c.icnt := by
  induction n generalizing c with
  | zero => rfl
  | succ n ih =>
    rw [loopNext]
    split
    · split
      · rfl
      · exact ih (c.setDepth (c.depth - 1))
    · rfl

section
variable {s u : State} {g : Nat}

theorem State.priv_goesOn (h i : Nat) : ((s.goesOn g id).cpu h).priv i = (s.cpu h).priv i := by
  rw [State.goesOn, State.cpu_upCpu]
  split
  case isTrue hh =>
    subst hh
    exact congrArg (fun t => Tbl.get (fun _ => PrivSrc.idle) t i) (loopNext_src (s.cpu h).pc 8 (s.cpu h))
  case isFalse => rfl

theorem State.icnt_goesOn : ((s.goesOn g id).cpu g).icnt = (s.cpu g).icnt + 1 := by
  rw [State.goesOn, State.cpu_upCpu_self]
  exact congrArg (· + 1) (loopNext_icnt (s.cpu g).pc 8 (s.cpu g))

/-- An update outside the loops, and the engine then goes on where it would have gone. -/
theorem State.advance_of_loopsAs (hu : (u.cpu g).LoopsAs (s.cpu g)) (hn : fetchable (s.nextPc g) = true) :
    u.advance g = u.goesOn g id ∧ ((u.goesOn g id).cpu g).pc = s.nextPc g := by
  have hpc : u.nextPc g = s.nextPc g := State.nextPc_of_loopsAs hu
  refine ⟨State.advance_of_fetchable (hpc ▸ hn), ?_⟩
  rw [State.goesOn, State.cpu_upCpu_self, ← hpc]
  rfl

end

/-! A source of an engine's own. -/

theorem Cpu.setPriv_setPriv (c : Cpu) (i : Nat) (p q : PrivSrc) : (c.setPriv i p).setPriv i q = c.setPriv i q :=
  congrArg (fun t => { c with src := t }) (Tbl.set_set _ _ _ _ _)

theorem Cpu.priv_setPriv (c : Cpu) (i : Nat) (p : PrivSrc) : (c.setPriv i p).priv i = p :=
  (Tbl.get_set _ _ _ _ _).trans (if_pos rfl)

theorem Cpu.setPriv_loopsAs (c : Cpu) (i : Nat) (p : PrivSrc) : (c.setPriv i p).LoopsAs c := ⟨rfl, rfl, rfl, rfl⟩

/-- An engine's own source that counts an arrival. -/
def Cpu.arrived (i : Nat) (c : Cpu) : Cpu :=
  c.setPriv i { c.priv i with pending := true, count := satAdd 255 (c.priv i).count 1 }

/-- An arrival at an engine's own source is on its count; an event flag may follow. -/
theorem State.privArrive_noted (k i : Nat) (s : State) : Noted (s.upCpu k (Cpu.arrived i)) (s.privArrive k i) := by
  rw [State.privArrive]
  dsimp only
  split
  · exact .of_engines_eq rfl
  · exact State.noteEngine_noted k _

theorem State.priv_privArrive (k i : Nat) (s : State) :
    ((s.privArrive k i).cpu k).priv i =
      { (s.cpu k).priv i with pending := true, count := satAdd 255 ((s.cpu k).priv i).count 1 } := by
  rw [Cpu.priv, (State.privArrive_noted k i s).src, State.cpu_upCpu_self]
  exact Cpu.priv_setPriv _ _ _

theorem State.privArrive_loopsAs (k i g : Nat) (s : State) :
    ((s.privArrive k i).cpu g).LoopsAs (s.cpu g) ∧ ((s.privArrive k i).cpu g).icnt = (s.cpu g).icnt := by
  have hnoted := State.privArrive_noted k i s
  have hup : ((s.upCpu k (Cpu.arrived i)).cpu g).LoopsAs (s.cpu g) ∧
      ((s.upCpu k (Cpu.arrived i)).cpu g).icnt = (s.cpu g).icnt := by
    rw [State.cpu_upCpu]
    split
    case isTrue hg =>
      subst hg
      exact ⟨⟨rfl, rfl, rfl, rfl⟩, rfl⟩
    case isFalse => exact ⟨⟨rfl, rfl, rfl, rfl⟩, rfl⟩
  exact ⟨(hnoted.loopsAs g).trans hup.1, (hnoted.icnt g).trans hup.2⟩

theorem satAdd_eq_min (cap n : Nat) : satAdd cap n 1 = min cap (n + 1) := by
  unfold satAdd
  split <;> omega

theorem State.src_congr {s t : State} (h : t.irq = s.irq) (i : Nat) : t.src i = s.src i := by rw [State.src, State.src, h]

/-! A value written to IC_RAISE. -/

theorem fld_wd_private {e i : Nat} (he : e < 8) (hi : i < 1024) :
    fld (wd (e * 1024 + i)) 13 18 = 0 ∧ fld (wd (e * 1024 + i)) 10 3 = e ∧ fld (wd (e * 1024 + i)) 0 10 = i ∧
      bit (wd (e * 1024 + i)) 31 = false := by
  have hw : (wd (e * 1024 + i)).toNat = e * 1024 + i := by
    rw [wd, BitVec.toNat_ofNat]
    omega
  rw [bit_eq_fld]
  simp only [fld, hw, Nat.shiftRight_eq_div_pow, decide_eq_false_iff_not]
  omega

theorem fld_wd_shared {i : Nat} (hi : i < 1024) :
    fld (wd (0x80000000 + i)) 13 18 = 0 ∧ fld (wd (0x80000000 + i)) 10 3 = 0 ∧ fld (wd (0x80000000 + i)) 0 10 = i ∧
      bit (wd (0x80000000 + i)) 31 = true := by
  have hw : (wd (0x80000000 + i)).toNat = 0x80000000 + i := by
    rw [wd, BitVec.toNat_ofNat]
    omega
  rw [bit_eq_fld]
  simp only [fld, hw, Nat.shiftRight_eq_div_pow, decide_eq_true_eq]
  omega

section
variable {s : State} {g ra : Nat}

/-- A CSRW of a register that reads does what its write does, or is illegal. -/
theorem State.doCsr_csrw {n : Nat} {old : Word} (hr : s.csrRead g n = some old) :
    s.doCsr g .csrw ra n =
      match s.csrWrite g n (s.x g ra) with
      | some u => u.advance g
      | none => s.illegal g := by
  rw [State.doCsr, hr]
  rfl

theorem exec_icRaise_of_ok (hi : s.issues g (.csr .csrw ra 0x2D) = true) (hok : raiseOk (s.x g ra) = true) :
    exec (.icRaise (.clean g) ra) s = .next ((s.icRaise g (s.x g ra)).advance g) := by
  have hw : s.csrWrite g 0x2D (s.x g ra) = some (s.icRaise g (s.x g ra)) := if_pos hok
  refine congrArg Host.Outcome.next ((State.issue_clean _ hi).trans ?_)
  rw [State.doCsr_csrw rfl, hw]

theorem exec_icRaise_of_bad (hi : s.issues g (.csr .csrw ra 0x2D) = true) (hbad : raiseOk (s.x g ra) = false) :
    exec (.icRaise (.clean g) ra) s = .next (s.illegal g) := by
  have hw : s.csrWrite g 0x2D (s.x g ra) = none := if_neg (by simp [hbad])
  refine congrArg Host.Outcome.next ((State.issue_clean _ hi).trans ?_)
  rw [State.doCsr_csrw rfl, hw]

theorem exec_icPclr (hi : s.issues g (.csr .csrw ra 0x2E) = true) :
    exec (.icPclr (.clean g) ra) s = .next ((s.icClear g (fld (s.x g ra) 0 6)).advance g) := by
  have hw : s.csrWrite g 0x2E (s.x g ra) = some (s.icClear g (fld (s.x g ra) 0 6)) := rfl
  refine congrArg Host.Outcome.next ((State.issue_clean _ hi).trans ?_)
  rw [State.doCsr_csrw rfl, hw]

/-- An engine's own source that is no inbox is not sampled again. -/
theorem State.icClear_of_event {i : Nat} (h : 4 ≤ i) :
    s.icClear g i = s.upCpu g fun c => c.setPriv i { pending := false, count := 0, masked := false } := by
  rw [State.icClear, State.samplePriv, State.upCpu_upCpu]
  refine (if_neg (by simp; omega)).trans (State.upCpu_congr ?_)
  rw [Cpu.priv_setPriv, Cpu.setPriv_setPriv]

end

end Sys2Proof.Machine

section
open Sys2Proof Sys2Proof.Machine

/-- Settles O28: the value written names its source by its fields. -/
theorem raiseAndClear : Obligations.RaiseAndClear := by
  unfold Obligations.RaiseAndClear
  intro s g ra e i hn he hi w pc
  obtain ⟨hzero, heng, hnum, hpriv⟩ := fld_wd_private he hi
  refine ⟨fun hiss => ⟨fun hw hlo hhi himage => ?own, fun hw hlo hedge => ?shared, fun hw hout => ?illegal⟩,
    fun hiss hlo hhi hw => ?clear⟩
  case own =>
    have hw' : s.x g ra = wd (e * 1024 + i) := hw
    have hok : raiseOk (s.x g ra) = true := by simp [raiseOk, hw', hzero, hnum, hpriv, hlo, hhi]
    have hraise : s.icRaise g (s.x g ra) = s.privArrive (8 * (g / 8) + e) i := by
      rw [State.icRaise, hw', hpriv, heng, hnum]
      exact (if_neg (by decide)).trans (if_pos himage)
    obtain ⟨hloops, hicnt⟩ := State.privArrive_loopsAs (8 * (g / 8) + e) i g s
    obtain ⟨hgo, hpc⟩ := State.advance_of_loopsAs hloops hn
    refine ⟨_, exec_icRaise_of_ok hiss hok, ?_⟩
    rw [hraise, hgo]
    dsimp only
    rw [State.priv_goesOn, State.priv_privArrive, State.icnt_goesOn, hicnt]
    exact ⟨rfl, satAdd_eq_min _ _, hpc, rfl⟩
  case shared =>
    have hw' : s.x g ra = wd (0x80000000 + i) := hw
    obtain ⟨hzero, heng, hnum, hshared⟩ := fld_wd_shared hi
    have hok : raiseOk (s.x g ra) = true := by simp [raiseOk, hw', hzero, heng, hnum, hshared, hlo]
    have hlive : isLiveSrc i = true := by simp [isLiveSrc, hlo, hi]
    have hraise : s.icRaise g (s.x g ra) = s.arrive i := by
      rw [State.icRaise, hw', hshared, hnum]
      exact if_pos rfl
    have harrive : (s.arrive i).irq =
        (s.setSrc i { s.src i with pending := true, count := satAdd 255 (s.src i).count 1 }).irq := by
      rw [State.arrive]
      dsimp only
      rw [if_pos (by simp [hedge, hlive]), State.noteSrc_frame]
    have hirq : ((s.arrive i).goesOn g id).irq = (s.arrive i).irq := rfl
    obtain ⟨hgo, hpc⟩ := State.advance_of_loopsAs ((State.arrive_noted i s).loopsAs g) hn
    have hsrc (j : Nat) : ((s.arrive i).goesOn g id).src j =
        if j = i then { s.src i with pending := true, count := satAdd 255 (s.src i).count 1 } else s.src j := by
      rw [State.src_congr (hirq.trans harrive), State.src_setSrc]
    refine ⟨_, exec_icRaise_of_ok hiss hok, ?_⟩
    rw [hraise, hgo]
    exact ⟨(hsrc i).trans (if_pos rfl), fun j hj => (hsrc j).trans (if_neg hj), hpc⟩
  case illegal =>
    have hw' : s.x g ra = wd (e * 1024 + i) := hw
    have hbad : raiseOk (s.x g ra) = false := by
      simp only [raiseOk, hw', hzero, hnum, hpriv]
      simp
      omega
    rw [exec_icRaise_of_bad hiss hbad]
    rfl
  case clear =>
    have hw' : s.x g ra = wd i := hw
    have hnum : fld (s.x g ra) 0 6 = i := by
      have htoNat : (wd i).toNat = i := by
        rw [wd, BitVec.toNat_ofNat]
        omega
      rw [hw', fld, htoNat]
      simp only [Nat.shiftRight_zero]
      omega
    rw [exec_icPclr hiss, hnum, State.icClear_of_event hlo, State.advance_upCpu hn (Cpu.setPriv_loopsAs ..)]

end

namespace Sys2Proof.Machine
open Sys2Proof

/-! ### Calls of attached units (R550, R552) -/

/-- A register pair written with a value, rd low. -/
def Cpu.setPair (r n : Nat) (c : Cpu) : Cpu := { c with x := (c.x.set r (wd n)).set (r + 1) (wd (n / 2 ^ 32)) }

theorem Cpu.setX_loopsAs (r : Nat) (w : Word) (c : Cpu) : (c.setX r w).LoopsAs c := ⟨rfl, rfl, rfl, rfl⟩

theorem Cpu.setPair_loopsAs (r n : Nat) (c : Cpu) : (c.setPair r n).LoopsAs c := ⟨rfl, rfl, rfl, rfl⟩

theorem State.setPair_eq (g r n : Nat) (s : State) : s.setPair g r n = s.upCpu g (Cpu.setPair r n) :=
  State.upCpu_upCpu g _ _ s

section
variable {s u : State} {g : Nat}

theorem State.nextPc_of_cpu_eq (h : u.cpu g = s.cpu g) : u.nextPc g = s.nextPc g := by
  rw [State.nextPc, State.nextPc, h]

theorem State.cpu_goesOn_of_cpu_eq (f : Cpu → Cpu) (h : u.cpu g = s.cpu g) :
    (u.goesOn g f).cpu g = (s.goesOn g f).cpu g := by
  rw [State.goesOn, State.goesOn, State.cpu_upCpu_self, State.cpu_upCpu_self, h]

theorem State.advance_setX {r : Nat} {w : Word} (hn : fetchable (s.nextPc g) = true) :
    (s.setX g r w).advance g = s.goesOn g (Cpu.setX r w) :=
  State.advance_upCpu hn (Cpu.setX_loopsAs ..)

theorem State.advance_setPair {r n : Nat} (hn : fetchable (s.nextPc g) = true) :
    (s.setPair g r n).advance g = s.goesOn g (Cpu.setPair r n) := by
  rw [State.setPair_eq, State.advance_upCpu hn (Cpu.setPair_loopsAs ..)]

theorem State.eng_goesOn_of_ne {h : Nat} (f : Cpu → Cpu) (hg : h ≠ g) : (s.goesOn g f).eng h = s.eng h := by
  rw [State.goesOn, State.upCpu, State.eng_upEng, if_neg hg]

theorem State.eng_goesOn (f : Cpu → Cpu) : (s.goesOn g f).eng g = { s.eng g with cpu := (s.goesOn g f).cpu g } := by
  rw [State.goesOn, State.cpu_upCpu_self, State.upCpu, State.eng_upEng_self]
  rfl

variable {f : UnitFn} {rd ra rb : Nat} (hi : s.issues g (.unit f rd ra rb) = true)
include hi

theorem State.runUnit_clean (hb : badField f.uses rd ra rb = none) :
    s.runUnit (.clean g) f rd ra rb = s.endCall g (s.unitAnswer (.clean g) f rd ra rb) := by
  rw [State.runUnit, State.issue_clean _ hi, hb]

theorem State.runUnit_badField {v : Nat} (hb : badField f.uses rd ra rb = some v) :
    s.runUnit (.clean g) f rd ra rb = s.trap g trUnitArg v := by
  rw [State.runUnit, State.issue_clean _ hi, hb]

/-- A call that its unit answers goes on from the state the answer leaves. -/
theorem State.runUnit_ok {t : State} (hb : badField f.uses rd ra rb = none)
    (ha : s.unitAnswer (.clean g) f rd ra rb = .ok t) : s.runUnit (.clean g) f rd ra rb = t.advance g := by
  rw [State.runUnit_clean hi hb, ha, State.endCall]

theorem State.runUnit_arg {v : Nat} (hb : badField f.uses rd ra rb = none)
    (ha : s.unitAnswer (.clean g) f rd ra rb = .arg v) : s.runUnit (.clean g) f rd ra rb = s.trap g trUnitArg v := by
  rw [State.runUnit_clean hi hb, ha, State.endCall]

theorem State.runUnit_wait {t : State} (hb : badField f.uses rd ra rb = none)
    (ha : s.unitAnswer (.clean g) f rd ra rb = .wait t) : s.runUnit (.clean g) f rd ra rb = t := by
  rw [State.runUnit_clean hi hb, ha, State.endCall]

/-- A call that answers with a word. -/
theorem State.runUnit_setX {w : Word} (hn : fetchable (s.nextPc g) = true) (hb : badField f.uses rd ra rb = none)
    (ha : s.unitAnswer (.clean g) f rd ra rb = .ok (s.setX g rd w)) :
    s.runUnit (.clean g) f rd ra rb = s.goesOn g (Cpu.setX rd w) := by
  rw [State.runUnit_ok hi hb ha, State.advance_setX hn]

/-- A call that answers with a pair. -/
theorem State.runUnit_setPair {n : Nat} (hn : fetchable (s.nextPc g) = true) (hb : badField f.uses rd ra rb = none)
    (ha : s.unitAnswer (.clean g) f rd ra rb = .ok (s.setPair g rd n)) :
    s.runUnit (.clean g) f rd ra rb = s.goesOn g (Cpu.setPair rd n) := by
  rw [State.runUnit_ok hi hb ha, State.advance_setPair hn]

end

/-- A function of a pair takes an even rd. -/
theorem badField_pair {rd : Nat} (h : rd % 2 = 0) (ra : Nat) :
    badField ((true, true, false), true) rd ra 0 = none := by simp [badField, h]

theorem badField_pair_only {rd : Nat} (h : rd % 2 = 0) : badField ((true, false, false), true) rd 0 0 = none := by
  simp [badField, h]

/-! ### O30: units of messages, frames, identity and checkpoints (Table 15-13) -/

theorem State.readCells_clean (s : State) : s.readCells .clean = s := rfl

theorem Engine.inbox_setInbox (e : Engine) (i : Nat) (l : List InboxEnt) : (e.setInbox i l).inbox i = l :=
  (Tbl.get_set _ _ _ _ _).trans (if_pos rfl)

/-- TAKE and FRAME_RELEASE change an inbox of the engine, not its registers. -/
theorem State.cpu_setInbox (s : State) (g i : Nat) (l : List InboxEnt) :
    (s.setEng g ((s.eng g).setInbox i l)).cpu g = s.cpu g := by
  rw [State.cpu, State.eng_setEng, if_pos rfl]
  rfl

/-- An operand of FRAME_RELEASE: inbox and slot. -/
theorem fld_of_lt_256 {a : Word} (h : a.toNat < 256) : fld a 6 2 = a.toNat / 64 ∧ fld a 0 6 = a.toNat % 64 := by
  simp only [fld, Nat.shiftRight_eq_div_pow]
  omega

theorem State.dropRef_of_none {s : State} {c : Nat} (h : s.record c = none) : s.dropRef c = s := by
  rw [State.dropRef, h]

section
variable {s : State} {g rd ra : Nat} {y : InboxEnt}

theorem State.unitTake_empty (ha : (s.x g ra).toNat < 4) (hd : (s.eng g).depth (s.x g ra).toNat ≠ 0)
    (hf : ((s.eng g).inbox (s.x g ra).toNat).find? (fun y => !y.taken) = none) :
    s.unitTake g rd (s.x g ra) = .ok (s.setPair g rd 0) := by
  rw [State.unitTake]
  dsimp only
  rw [if_neg (by simp [hd]; omega), hf]

theorem State.unitTake_taken (ha : (s.x g ra).toNat < 4) (hd : (s.eng g).depth (s.x g ra).toNat ≠ 0)
    (hf : ((s.eng g).inbox (s.x g ra).toNat).find? (fun y => !y.taken) = some y) :
    s.unitTake g rd (s.x g ra) = .ok ((s.setEng g ((s.eng g).setInbox (s.x g ra).toNat
      (((s.eng g).inbox (s.x g ra).toNat).map fun z => if z.slot = y.slot then { z with taken := true } else z))).setPair
        g rd (s.inboxValue (s.x g ra).toNat y)) := by
  rw [State.unitTake]
  dsimp only
  rw [if_neg (by simp [hd]; omega), hf]

theorem State.unitRelease_none (ha : (s.x g ra).toNat < 256)
    (hf : ((s.eng g).inbox ((s.x g ra).toNat / 64)).find? (fun z => z.taken && z.slot == (s.x g ra).toNat % 64) = none) :
    s.unitRelease g (s.x g ra) = .ok (s.countEng g 5) := by
  obtain ⟨hbox, hslot⟩ := fld_of_lt_256 ha
  rw [State.unitRelease]
  rw [if_neg (by omega), hbox, hslot, hf]

theorem State.unitRelease_some (ha : (s.x g ra).toNat < 256)
    (hf : ((s.eng g).inbox ((s.x g ra).toNat / 64)).find? (fun z => z.taken && z.slot == (s.x g ra).toNat % 64) = some y) :
    s.unitRelease g (s.x g ra) = .ok ((s.setEng g ((s.eng g).setInbox ((s.x g ra).toNat / 64)
      (((s.eng g).inbox ((s.x g ra).toNat / 64)).filter fun z => z.slot != y.slot))).dropRef y.record) := by
  obtain ⟨hbox, hslot⟩ := fld_of_lt_256 ha
  rw [State.unitRelease]
  rw [if_neg (by omega), hbox, hslot, hf]

theorem State.unitHdr_of_taken {a b : Word} (ht : s.takenCell g a.toNat = true) (hb : b.toNat < 8) :
    s.unitHdr g .clean rd a b = .ok (s.setX g rd (wd (leAt (s.recBytes a.toNat) (4 * b.toNat) 4))) := by
  rw [State.unitHdr, if_neg (by simp [ht]), if_neg (by omega), State.readCells_clean]

theorem State.unitData_of_taken {a b : Word} (ht : s.takenCell g a.toNat = true) (hb : b.toNat < 2048) :
    s.unitData g .clean rd a b = .ok (s.setX g rd (wd (leAt (s.frameOf a.toNat).data b.toNat 4))) := by
  rw [State.unitData, if_neg (by simp [ht]), if_neg (by omega), State.readCells_clean]

theorem State.unitCopy_of_taken {a b : Word} (ht : s.takenCell g a.toNat = true) (hb : b.toNat % 8 = 0)
    (hbuf : bufferOk b.toNat (s.x g rd).toNat = true) :
    s.unitCopy g .clean rd a b = .ok ((s.putEngBytes g b.toNat ((s.frameOf a.toNat).data.take (s.x g rd).toNat)).setX g rd
      (wd ((s.frameOf a.toNat).data.take (s.x g rd).toNat).length)) := by
  rw [State.unitCopy]
  dsimp only
  rw [if_neg (by simp [ht]), if_neg (by simp [hb, hbuf]), State.readCells_clean]

/-- SUBMIT of a descriptor whose data lie in memory. -/
theorem State.unitSubmit_of_buffer (ha : (s.x g ra).toNat % 8 = 0) (hb : bufferOk (s.x g ra).toNat 32 = true)
    (hd : bufferOk (s.x g ra).toNat (32 + leAt (s.engBytes g (s.x g ra).toNat 32) 16 2) = true) :
    s.unitSubmit g .good rd (s.x g ra) =
      if 8 ≤ (s.eng g).subs.length then .ok (s.setX g rd 1)
      else .ok ((s.setX g rd 0).engineSubmit g (s.x g ra).toNat
        (s.engBytes g (s.x g ra).toNat (32 + leAt (s.engBytes g (s.x g ra).toNat 32) 16 2))) := by
  rw [State.unitSubmit]
  rw [if_neg (by simp [ha, hb]), State.unitReads]
  rw [if_neg (by simp [hd])]

end

/-- A checkpoint with slot 1 current goes to slot 0. -/
theorem State.unitCheckpoint_slot0 {s : State} {g rd : Nat} {m : Image} (hm : (s.eng g).image = some m)
    (hlen : 0 < m.ckptLen) (hvalid : (s.eng g).ckptValid = true) (hcur : (s.eng g).ckptCur = true) :
    ∃ u : State, s.unitCheckpoint g .good rd = .ok (u.setX g rd (wd (((s.eng g).ckptSeq + 1) % 2 ^ 16))) ∧
      u.eng g = { s.eng g with ckptValid := true, ckptCur := false, ckptSeq := ((s.eng g).ckptSeq + 1) % 2 ^ 16,
                               ckpt0 := s.engBytes g m.ckptAddr (64 * m.ckptLen) } := by
  have hset {e : Engine} {t : State} (ht : t.engines = ((s.setEng g e).countEng g 1).engines) : t.eng g = e := by
    rw [State.eng_congr (s := s.setEng g e) (by simp [ht, State.countEng]), State.eng_setEng, if_pos rfl]
  unfold State.unitCheckpoint
  dsimp only
  split
  case h_1 hnone => simp [hm] at hnone
  case h_2 m' hm' =>
    obtain rfl : m = m' := Option.some.inj (hm.symm.trans hm')
    rw [if_neg (by omega), State.unitReads]
    simp only [hvalid, hcur, Bool.not_true, Bool.and_false, Bool.false_eq_true, if_false]
    refine ⟨_, rfl, hset ?_⟩
    split <;> rfl

/-- A submission without a context that passes stage 4 with a destination set becomes a waiting request. -/
theorem State.engineSubmit_waits {s u v : State} {g rd a : Nat} {d : List Byte} {f : Frame} {m : Gather}
    {xs : List (Delivery × List Frame)} (hok : submitOk d = true) (hctx : nbit (byteAt d 3) 2 = false)
    (h4 : (s.submitted g rd d).stage4 (g / 8) (submitFrame d srcEngine g s.stamp) false = (.pass f m, u))
    (hset : u.waitingSet m.routes f (launchOf (nbit (byteAt d 3) 0) (leAt d 8 8)) (nbit (byteAt d 3) 1) (leAt d 28 4)
      u.time = ((subOk, xs), v)) :
    (s.setX g rd 0).engineSubmit g a d =
      { v with waits := v.waits ++ [
        { id := s.nextId, partner := m.partner.getD (64 + g), port := (v.partner (m.partner.getD (64 + g))).owner,
          cells := cellsFor f xs, frame := f, dests := xs, hostQ := none, engine := some g, addr := a + 32, kept := [],
          ctx := none, launch := launchOf (nbit (byteAt d 3) 0) (leAt d 8 8), stampReq := nbit (byteAt d 3) 1,
          tag := leAt d 28 4, entered := v.time, escalated := false }] } := by
  have hentered : ({ s.setX g rd 0 with nextId := (s.setX g rd 0).nextId + 1 } : State).setEng g
      { (s.setX g rd 0).eng g with
        subs := ((s.setX g rd 0).eng g).subs ++ [{ tag := leAt d 28 4, request := some (s.setX g rd 0).nextId, status := none }] } =
      s.submitted g rd d := by
    rw [State.setX, State.upCpu, State.eng_upEng_self]
    exact congrArg (fun t => { s with engines := t, nextId := s.nextId + 1 }) (Tbl.set_set _ _ _ _ _)
  have hstamp : (s.submitted g rd d).stamp = s.stamp := rfl
  rw [State.engineSubmit]
  dsimp only
  rw [hentered, if_neg (by simp [hok])]
  simp only [hctx, hstamp, Bool.false_and, Bool.false_eq_true, if_false, h4, hset, ne_eq, not_true_eq_false]
  rfl

end Sys2Proof.Machine

section
open Sys2Proof Sys2Proof.Machine

/-- Settles O30: each call is its unit's answer, and the engine then goes on. -/
theorem messageUnits : Obligations.MessageUnits := by
  unfold Obligations.MessageUnits
  intro s g rd ra rb hn a b e x pair
  refine ⟨fun hi => ?ident, fun hi => ?image, fun hi => ?rate, fun hi hrd => ⟨fun ha hd hf => ?takeEmpty,
    fun y ha hd hf => ?take, fun ha => ?takeArg⟩, fun hi ha => ⟨fun y hf => ?release, fun y hf hr => ?released,
    fun hf => ?releaseNone⟩, fun htaken => ⟨fun hi hb => ?hdr, fun hi hb => ?data, fun hi hb hbuf => ?copy⟩,
    fun hi ha hb hd hfull => ?submitFull, fun f m u xs v hi ha hb hd hfree => ?submit, fun hi hrd => ⟨fun hdone => ?doneNone,
    fun d ds hdone => ?done⟩, fun m hi himage => ⟨fun hlen => ?noRegion, fun hlen hvalid hcur => ?checkpoint⟩,
    fun hi hra => ?refused⟩
  case ident => exact congrArg Host.Outcome.next (State.runUnit_setX hi hn rfl rfl)
  case image => exact congrArg Host.Outcome.next (State.runUnit_setX hi hn rfl rfl)
  case rate => exact congrArg Host.Outcome.next (State.runUnit_setX hi hn rfl rfl)
  case takeEmpty =>
    exact congrArg Host.Outcome.next (State.runUnit_setPair hi hn (badField_pair hrd ra) (State.unitTake_empty ha hd hf))
  case take =>
    have hcpu := State.cpu_setInbox s g a.toNat
      ((e.inbox a.toNat).map fun z => if z.slot = y.slot then { z with taken := true } else z)
    have hexec := State.runUnit_ok hi (badField_pair hrd ra) (State.unitTake_taken ha hd hf)
    rw [State.advance_setPair (by rwa [State.nextPc_of_cpu_eq hcpu])] at hexec
    refine ⟨_, congrArg Host.Outcome.next hexec, ?_, State.cpu_goesOn_of_cpu_eq _ hcpu, fun h hh => ?_, rfl⟩
    · rw [State.eng_goesOn, State.eng_setEng, if_pos rfl]
      exact Engine.inbox_setInbox _ _ _
    · rw [State.eng_goesOn_of_ne _ hh, State.eng_setEng, if_neg hh]
  case takeArg =>
    refine congrArg Host.Outcome.next (State.runUnit_arg hi (badField_pair hrd ra) (if_pos ?_))
    simp only [Bool.or_eq_true, decide_eq_true_eq]
    exact Or.inl ha
  case release =>
    intro u hu
    refine congrArg Host.Outcome.next ((State.runUnit_ok hi rfl (State.unitRelease_some ha hf)).trans ?_)
    exact State.advance_of_fetchable hu
  case released =>
    have hcpu := State.cpu_setInbox s g (a.toNat / 64) ((e.inbox (a.toNat / 64)).filter fun z => z.slot != y.slot)
    have hexec : s.runUnit (.clean g) .release 0 ra 0 = State.advance g ((s.setEng g _).dropRef y.record) :=
      State.runUnit_ok hi rfl (State.unitRelease_some ha hf)
    have hr' (e : Engine) : (s.setEng g e).record y.record = none := hr
    rw [State.dropRef_of_none (hr' _), State.advance_of_fetchable (by rwa [State.nextPc_of_cpu_eq hcpu])] at hexec
    refine ⟨_, congrArg Host.Outcome.next hexec, ?_, State.cpu_goesOn_of_cpu_eq _ hcpu⟩
    rw [State.eng_goesOn, State.eng_setEng, if_pos rfl]
    exact Engine.inbox_setInbox _ _ _
  case releaseNone =>
    refine congrArg Host.Outcome.next ((State.runUnit_ok hi rfl (State.unitRelease_none ha hf)).trans ?_)
    exact State.advance_of_fetchable (by rwa [State.nextPc_countEng])
  case hdr =>
    exact congrArg Host.Outcome.next (State.runUnit_setX hi hn rfl (State.unitHdr_of_taken htaken hb))
  case data =>
    exact congrArg Host.Outcome.next (State.runUnit_setX hi hn rfl (State.unitData_of_taken htaken hb))
  case copy =>
    intro bytes
    have hexec := State.runUnit_ok hi rfl (State.unitCopy_of_taken htaken hb hbuf)
    rw [State.advance_setX (by rwa [State.nextPc_putEngBytes])] at hexec
    exact ⟨_, congrArg Host.Outcome.next hexec, rfl⟩
  case submitFull =>
    refine congrArg Host.Outcome.next (State.runUnit_setX hi hn rfl ?_)
    exact (State.unitSubmit_of_buffer ha hb hd).trans (if_pos hfull)
  case submit =>
    intro d hok hctx h4 hset
    have hanswer : s.unitAnswer (.clean g) .submit rd ra 0 = .ok ((s.setX g rd 0).engineSubmit g a.toNat d) :=
      (State.unitSubmit_of_buffer ha hb hd).trans (if_neg (Nat.not_le.2 hfree))
    rw [State.engineSubmit_waits hok hctx h4 hset] at hanswer
    have hu : u.pending = s.pending := by
      have hk := State.stage4_k (m := 0x2016003C000008) (g / 8) (submitFrame d srcEngine g s.stamp) false
        (s.submitted g rd d) rfl (Kept.refl _ _)
      rw [h4] at hk
      exact hk.2.2.2.1
    have hv : v.pending = u.pending := by
      have hk := State.waitingSet_k (m := 0x2010003E000008) m.routes f (launchOf (nbit (byteAt d 3) 0) (leAt d 8 8))
        (nbit (byteAt d 3) 1) (leAt d 28 4) u.time u rfl (Kept.refl _ _)
      rw [hset] at hk
      exact hk.2.2.2.1
    have hk (w : State) : Kept 0x2030003C000008 w (w.advance g) := State.advance_k g w rfl (Kept.refl _ _)
    exact ⟨_, congrArg Host.Outcome.next (State.runUnit_ok hi rfl hanswer), (hk _).same .waits rfl, (hk _).same .nextId rfl,
      ((hk _).same .pending rfl).trans (hv.trans hu)⟩
  case doneNone =>
    refine congrArg Host.Outcome.next (State.runUnit_setPair hi hn (badField_pair_only hrd) ?_)
    change s.unitDone g rd = _
    rw [State.unitDone, hdone]
  case done =>
    have hanswer : s.unitAnswer (.clean g) .done rd 0 0 = .ok ((s.upEng g fun e => { e with done := ds }).setPair g rd
        (d.tag % 2 ^ 32 + 2 ^ 32 * (2 ^ 31 + d.status % 256))) := by
      change s.unitDone g rd = _
      rw [State.unitDone, hdone]
    have hcpu : (s.upEng g fun e => { e with done := ds }).cpu g = s.cpu g := by
      rw [State.cpu, State.eng_upEng_self]
      rfl
    refine congrArg Host.Outcome.next ((State.runUnit_ok hi (badField_pair_only hrd) hanswer).trans ?_)
    exact State.advance_setPair (by rwa [State.nextPc_of_cpu_eq hcpu])
  case noRegion =>
    refine congrArg Host.Outcome.next (State.runUnit_setX hi hn rfl ?_)
    change s.unitCheckpoint g .good rd = _
    rw [State.unitCheckpoint, himage]
    exact if_pos hlen
  case checkpoint =>
    obtain ⟨u, hanswer, hu⟩ := State.unitCheckpoint_slot0 (rd := rd) himage hlen hvalid hcur
    have hcpu : u.cpu g = s.cpu g := by rw [State.cpu, hu, State.cpu]
    have hexec := State.runUnit_ok hi rfl hanswer
    rw [State.advance_setX (by rwa [State.nextPc_of_cpu_eq hcpu])] at hexec
    refine ⟨_, congrArg Host.Outcome.next hexec, ?_, ?_, ?_, ?_, State.cpu_goesOn_of_cpu_eq _ hcpu⟩
    all_goals rw [State.eng_goesOn, hu]
  case refused =>
    refine congrArg Host.Outcome.next (State.runUnit_badField hi ?_)
    simp [badField, UnitFn.uses, hra]

end

namespace Sys2Proof.Machine
open Sys2Proof

/-! ### O31: units of time, tasks, stamps, CRC and the tile (Table 15-13) -/

theorem State.tl_congr {s t : State} (h : t.timelines = s.timelines) (n : Nat) : t.tl n = s.tl n := by
  rw [State.tl, State.tl, h]

/-- Between `s` and `t` only timeline `n` has changed, and of the engines only event flags. -/
structure OnTimeline (n : Nat) (s t : State) : Prop where
  others : ∀ j, j ≠ n → t.tl j = s.tl j
  noted : Noted s t

theorem OnTimeline.trans {n : Nat} {s t u : State} (h : OnTimeline n s t) (k : OnTimeline n t u) : OnTimeline n s u :=
  ⟨fun j hj => (k.others j hj).trans (h.others j hj), h.noted.trans k.noted⟩

theorem State.onTimeline_of_eq {n : Nat} {s t : State} (ht : t.timelines = s.timelines) (he : t.engines = s.engines) :
    OnTimeline n s t :=
  ⟨fun j _ => State.tl_congr ht j, .of_engines_eq he⟩

theorem State.setTl_onTimeline (n : Nat) (x : Timeline) (s : State) : OnTimeline n s (s.setTl n x) :=
  ⟨fun j hj => by rw [State.tl_setTl, if_neg hj], .of_engines_eq rfl⟩

theorem State.countTl_onTimeline (n t i : Nat) (s : State) : OnTimeline n s (s.countTl t i) :=
  State.onTimeline_of_eq (by simp [State.countTl]) (by simp [State.countTl])

theorem State.raise_onTimeline (n : Nat) (b : Blk) (i unit info : Nat) (s : State) :
    OnTimeline n s (s.raise b i unit info) :=
  ⟨fun j _ => State.tl_congr (by simp) j, State.raise_noted b i unit info s⟩

theorem State.countLate_onTimeline (n : Nat) (w : Placed) (s : State) : OnTimeline n s (s.countLate n w) := by
  unfold State.countLate
  extract_lets x s' cc
  have hs' : OnTimeline n s s' := State.countTl_onTimeline ..
  split
  · exact hs'
  · exact (hs'.trans (State.setTl_onTimeline ..)).trans (State.raise_onTimeline ..)

theorem State.judgeLate_onTimeline (n : Nat) (atEnd : Bool) (moment : Nat) (s : State) :
    OnTimeline n s (s.judgeLate n atEnd moment) := by
  unfold State.judgeLate
  extract_lets x
  split
  · extract_lets nominal
    split
    · exact State.onTimeline_of_eq rfl rfl
    · exact (State.setTl_onTimeline ..).trans (State.countLate_onTimeline ..)
  · exact State.onTimeline_of_eq rfl rfl

/-- The end of a window that is no reference: lateness apart, the timeline has none in progress. -/
theorem State.endWindow_of_ne_reference (n moment : Nat) {w : Placed} (s : State) (hw : w.win.type ≠ .reference) :
    s.endWindow n moment w = (s.judgeLate n true moment).upTl n fun x =>
      { x with current := none, rest := x.rest.map (Placed.move (moment - w.stop)), notBefore := moment,
               taskOpen := false } :=
  if_pos (by simp [hw])

section
variable {s : State} {g n : Nat} {w : Placed}

theorem State.taskDone_of_none (h : (s.tl (40 + g)).current = none) : s.taskDone g n = s := by
  rw [State.taskDone, h]

/-- TASK_DONE closes the task of the window in progress, and ends the window if its placed end has come. -/
theorem State.taskDone_closes (h : (s.tl (40 + g)).current = some w) (htype : w.win.type = .task) (href : w.win.ref = n)
    (hopen : (s.tl (40 + g)).taskOpen = true) :
    OnTimeline (40 + g) s (s.taskDone g n) ∧
      ((s.taskDone g n).tl (40 + g)).current = (if s.ns < w.stop then some w else none) ∧
      ((s.taskDone g n).tl (40 + g)).taskOpen = false := by
  have htake : (w.win.type == .task && w.win.ref == n && (s.tl (40 + g)).taskOpen) = true := by simp [htype, href, hopen]
  have hns (x : Timeline) : (s.setTl (40 + g) x).ns = s.ns := rfl
  rw [State.taskDone, h]
  dsimp only
  rw [if_pos htake, hns]
  split
  case isTrue =>
    refine ⟨State.setTl_onTimeline .., ?_, ?_⟩
    · rw [State.tl_setTl, if_pos rfl]
    · rw [State.tl_setTl, if_pos rfl]
  case isFalse =>
    rw [State.endWindow_of_ne_reference _ _ _ (by simp [htype])]
    refine ⟨((State.setTl_onTimeline ..).trans (State.judgeLate_onTimeline ..)).trans (State.setTl_onTimeline ..), ?_, ?_⟩
    all_goals rw [State.upTl, State.tl_setTl, if_pos rfl]

theorem State.unitTsqPop_nil {rd : Nat} {a : Word} (ha : a.toNat < 24) (hc : a.toNat / 6 = g / 8)
    (hq : (s.bport a.toNat).tsq = []) :
    s.unitTsqPop g rd a = .ok ((s.upCpu g fun c => { c with tsqStamp := 0 }).setPair g rd 0) := by
  rw [State.unitTsqPop]
  dsimp only
  rw [if_neg (by simp [hc]; omega), hq]

theorem State.unitTsqPop_cons {rd : Nat} {a : Word} {r : TsRec} {rs : List TsRec} (ha : a.toNat < 24)
    (hc : a.toNat / 6 = g / 8) (hq : (s.bport a.toNat).tsq = r :: rs) :
    s.unitTsqPop g rd a =
      .ok (((s.setBport a.toNat { s.bport a.toNat with tsq := rs }).upCpu g fun c => { c with tsqStamp := r.stamp }).setPair
        g rd (r.tag % 2 ^ 32 + 2 ^ 32 * (2 ^ 31 + r.outcome % 16 * 2 ^ 8 + min 127 rs.length))) := by
  rw [State.unitTsqPop]
  dsimp only
  rw [if_neg (by simp [hc]; omega), hq]
  rfl

theorem State.runCrc_clean {j rd ra rb : Nat} (hi : s.issues g (.crc j rd ra rb) = true)
    (hdown : s.unitDown (4 * (g / 8) + j) = false) (hrd : rd % 2 = 0) (hlen : (s.x g rb).toNat ≤ 65536)
    (hbuf : bufferOk (s.x g ra).toNat (s.x g rb).toNat = true) (hn : fetchable (s.nextPc g) = true) :
    s.runCrc (.clean g) j rd ra rb = s.goesOn g (Cpu.setPair rd
      ((s.crcSet (4 * (g / 8) + j)).crc (s.engBytes g (s.x g ra).toNat (s.x g rb).toNat))) := by
  rw [State.runCrc, State.issue_clean _ hi]
  dsimp only
  rw [if_neg (by simp [hdown]), if_neg (by omega), if_neg (Nat.not_lt.2 hlen), if_neg (by simp [hbuf])]
  exact State.advance_setPair hn

end

end Sys2Proof.Machine

section
open Sys2Proof Sys2Proof.Machine

/-- Settles O31: each call is its unit's answer, and a wake's value says what came first. -/
theorem timeAndOtherUnits : Obligations.TimeAndOtherUnits := by
  unfold Obligations.TimeAndOtherUnits
  intro s g rd ra rb imm fn hn a b k x pair wakes
  refine ⟨fun hi hrd hmode => ?now, fun hi => ?sechi, fun hi => ?frac, fun hi ha => ?waitUntil, fun hi ha => ?waitArg,
    fun t hwait hstate hfree hmay => ?wake, fun hi => ⟨fun ha hcur => ?taskNone, fun w hcur htype href ha hopen => ?task,
    fun ha => ?taskArg⟩, fun hi hrd ha hc => ⟨fun hq => ?popEmpty, fun r rs hq => ?pop⟩, fun hi hrd => ?stamp,
    fun j hi hdown hrd hlen hbuf => ?crc, fun hi => ⟨fun hoffers => ?tile, fun hoffers => ?tileAbsent⟩,
    fun u hu hi => ?absent⟩
  case now =>
    intro t
    have hread : s.reading = (t, { s with beacon := { s.beacon with floor := t + 1 } }) := by
      rw [State.reading, if_neg (by simp [hmode])]
      rfl
    have hanswer : s.unitAnswer (.clean g) .now rd 0 0 = .ok
        (({ s with beacon := { s.beacon with floor := t + 1 } }.upCpu g fun c => { c with reading := t }).setPair g rd
          (stampOfNs (t / 2 ^ 16))) := by
      change s.unitNow g rd = _
      rw [State.unitNow, hread]
    refine congrArg Host.Outcome.next ((State.runUnit_ok hi (badField_pair_only hrd) hanswer).trans ?_)
    rw [State.setPair_eq, State.upCpu_upCpu]
    exact State.advance_upCpu hn ⟨rfl, rfl, rfl, rfl⟩
  case sechi => exact congrArg Host.Outcome.next (State.runUnit_setX hi hn rfl rfl)
  case frac => exact congrArg Host.Outcome.next (State.runUnit_setX hi hn rfl rfl)
  case waitUntil =>
    intro t
    have hok : ¬ 999999999 < fld a 0 30 := by omega
    have hanswer : s.unitAnswer (.clean g) .waitUntil rd ra rb =
        if t ≤ s.time then .ok (s.setX g rd 0)
        else if k.event then .ok ((s.setEvent g false).setX g rd 1) else .wait (s.await g (.untilTime t rd)) := if_neg hok
    refine ⟨fun ht => ?_, fun ht he => ?_, fun ht he => ?_⟩
    · exact congrArg Host.Outcome.next (State.runUnit_setX hi hn rfl (hanswer.trans (if_pos ht)))
    · rw [if_neg (Nat.not_le.2 ht), if_pos he] at hanswer
      refine congrArg Host.Outcome.next ((State.runUnit_ok hi rfl hanswer).trans ?_)
      rw [State.setX, State.setEvent, State.upCpu_upCpu]
      exact State.advance_upCpu hn ⟨rfl, rfl, rfl, rfl⟩
    · rw [if_neg (Nat.not_le.2 ht), if_neg (by simp [he])] at hanswer
      exact congrArg Host.Outcome.next (State.runUnit_wait hi rfl hanswer)
  case waitArg => exact congrArg Host.Outcome.next (State.runUnit_arg hi rfl (if_pos (by change _ < fld a 0 30; omega)))
  case wake =>
    have hwaits : s.waits_ g = true := by simp [State.waits_, hstate, hfree, hmay]
    have hwakes : fetchable ((s.awake g).nextPc g) = true := by rwa [State.nextPc_awake]
    have hwake : s.waitUntilWake g =
        if t ≤ s.time then ((s.awake g).setX g rd 0).advance g
        else if k.event then (((s.awake g).setEvent g false).setX g rd 1).advance g
        else if (s.takeable g).isSome then ((s.awake g).setX g rd 2).advance g else s := by
      have hwait' : (s.cpu g).wait = .untilTime t rd := hwait
      rw [State.waitUntilWake, hwait']
      exact if_neg (by simp [hwaits])
    refine ⟨fun ht => ?_, fun ht he => ?_, fun ht he htake => ?_⟩
    · exact congrArg Host.Outcome.next ((hwake.trans (if_pos ht)).trans (State.advance_setX hwakes))
    · rw [if_neg (Nat.not_le.2 ht), if_pos he, State.setX, State.setEvent, State.upCpu_upCpu] at hwake
      exact congrArg Host.Outcome.next (hwake.trans (State.advance_upCpu hwakes ⟨rfl, rfl, rfl, rfl⟩))
    · rw [if_neg (Nat.not_le.2 ht), if_neg (by simp [he]), if_pos htake] at hwake
      exact congrArg Host.Outcome.next (hwake.trans (State.advance_setX hwakes))
  case taskNone =>
    have hanswer : s.unitAnswer (.clean g) .taskDone 0 ra 0 = .ok s := by
      refine (if_neg (by change ¬ 15 < a.toNat; omega)).trans ?_
      exact congrArg UnitAns.ok (State.taskDone_of_none hcur)
    exact congrArg Host.Outcome.next ((State.runUnit_ok hi rfl hanswer).trans (State.advance_of_fetchable hn))
  case task =>
    have hanswer : s.unitAnswer (.clean g) .taskDone 0 ra 0 = .ok (s.taskDone g a.toNat) :=
      if_neg (by change ¬ 15 < a.toNat; omega)
    obtain ⟨htl, hcurrent, hclosed⟩ := State.taskDone_closes hcur htype href hopen
    obtain ⟨hgo, hpc⟩ := State.advance_of_loopsAs (htl.noted.loopsAs g) hn
    have hexec := State.runUnit_ok hi rfl hanswer
    rw [hgo] at hexec
    exact ⟨_, congrArg Host.Outcome.next hexec, hcurrent, hclosed, htl.others, hpc⟩
  case taskArg => exact congrArg Host.Outcome.next (State.runUnit_arg hi rfl (if_pos (by change 15 < a.toNat; omega)))
  case popEmpty =>
    refine congrArg Host.Outcome.next ((State.runUnit_ok hi (badField_pair hrd ra) (State.unitTsqPop_nil ha hc hq)).trans ?_)
    rw [State.setPair_eq, State.upCpu_upCpu]
    exact State.advance_upCpu hn ⟨rfl, rfl, rfl, rfl⟩
  case pop =>
    have hpc (y : BcnPort) : (s.setBport a.toNat y).nextPc g = s.nextPc g := State.nextPc_of_cpu_eq rfl
    refine congrArg Host.Outcome.next
      ((State.runUnit_ok hi (badField_pair hrd ra) (State.unitTsqPop_cons ha hc hq)).trans ?_)
    rw [State.setPair_eq, State.upCpu_upCpu]
    exact State.advance_upCpu (by rwa [hpc]) ⟨rfl, rfl, rfl, rfl⟩
  case stamp => exact congrArg Host.Outcome.next (State.runUnit_setPair hi hn (badField_pair_only hrd) rfl)
  case crc => exact congrArg Host.Outcome.next (State.runCrc_clean hi hdown hrd hlen hbuf hn)
  case tile =>
    refine congrArg Host.Outcome.next ((State.issue_clean _ hi).trans ?_)
    refine (if_neg (by simpa using hoffers)).trans ?_
    refine (State.advance_setX (s := s.draw) hn).trans ?_
    refine congrArg (fun w => State.goesOn g (Cpu.setX rd w) s.draw) ?_
    rw [wd, BitVec.ofNat_toNat, BitVec.setWidth_eq]
  case tileAbsent =>
    refine congrArg Host.Outcome.next ((State.issue_clean _ hi).trans ?_)
    exact if_pos (by simpa using hoffers)
  case absent =>
    exact congrArg Host.Outcome.next ((if_neg hu).trans (State.issue_clean _ hi))

end

namespace Sys2Proof.Machine
open Sys2Proof

/-! ### O5: clearing reads, latched reads and BAR2 (R227, R236, R733, R735) -/

theorem wd_toNat (w : Word) : wd w.toNat = w := by rw [wd, BitVec.ofNat_toNat, BitVec.setWidth_eq]

/-- A cluster's hit counters lie from 0x1000 of its filter window on. -/
theorem Reg.ofOff_fltHit {c i : Nat} (hc : c < 4) (hi : i < 4096) :
    Reg.ofOff (fltBase c + 0x1000 + 4 * i) = some (.flt c (.hit i)) := by
  have hoff : fltBase c + 0x1000 + 4 * i = 0x1301000 + c * 0x400000 + 4 * i := by unfold fltBase clusterBase; omega
  have hdiv : (0x1301000 + c * 0x400000 + 4 * i - 0x1000000) / 0x400000 = c := by omega
  have hmod : (0x1301000 + c * 0x400000 + 4 * i - 0x1000000) % 0x400000 = 0x301000 + 4 * i := by omega
  have hsub : 0x301000 + 4 * i - 0x300000 = 0x1000 + 4 * i := by omega
  have hevt : evtAt (.flt c) (0x1000 + 4 * i) 0x90 = none := by
    rw [evtAt, if_neg (by omega), if_neg (by omega), if_neg (by omega), if_neg (by omega)]
  have hreg : FltReg.ofOff (0x1000 + 4 * i) = some (.hit i) := by
    have hrun : run (0x1000 + 4 * i) 0x1000 4096 = some i := by
      simp [run]
      omega
    unfold FltReg.ofOff
    split
    case h_5 => rw [if_neg (by omega), if_neg (by omega), hrun, Option.map_some]
    all_goals omega
  rw [hoff, Reg.ofOff, if_neg (by omega), if_neg (by omega), if_neg (by omega), if_neg (by omega),
    if_neg (by omega), if_pos (by omega), hdiv, hmod, Reg.ofCluster, if_neg (by omega), if_neg (by omega),
    if_neg (by omega), if_neg (by omega), if_neg (by omega), if_neg (by omega), if_pos (by omega)]
  dsimp only
  rw [hsub, hevt, hreg, Option.map_some]

/-- A read of a hit counter answers it and clears it. -/
theorem State.regRead_fltHit (link c i : Nat) (s : State) :
    s.regRead link (.flt c (.hit i)) =
      (s.rd (fltBase c + 0x1000 + 4 * i), s.wr (fltBase c + 0x1000 + 4 * i) 0) := by
  have hoff : Reg.off (.flt c (.hit i)) = fltBase c + 0x1000 + 4 * i := (Nat.add_assoc ..).symm
  have hclear (w : Word) : w &&& ~~~wd 0xFFFFFFFF = 0 := BitVec.and_zero
  have hread : s.regRead link (.flt c (.hit i)) =
      (s.rd (Reg.off (.flt c (.hit i))),
        s.wr (Reg.off (.flt c (.hit i))) (s.rd (Reg.off (.flt c (.hit i))) &&& ~~~wd 0xFFFFFFFF)) := rfl
  rw [hread, hclear, hoff]

/-- The words of a node table entry as they stand. -/
def State.nodeWords (s : State) (i : Nat) : List Nat :=
  (List.range 8).map fun k => (wordAt (s.node i).bytes k).toNat

/-- A read of word 0 of a node table entry latches the entry. -/
theorem State.latchGroup_node (link i : Nat) (s : State) :
    s.latchGroup link (words 8 (.node i)) = s.latchWords link (0x400000 + 0x20 * i) (s.nodeWords i) := by
  simp only [State.latchGroup, words, State.nodeWords, State.each, List.range, List.range.loop, List.map_cons,
    List.map_nil, List.foldl_cons, List.foldl_nil, State.latchWords, wd_toNat]
  rfl

theorem State.regRead_node (link i : Nat) (s : State) :
    s.regRead link (.node i 0) =
      ((s.latchGroup link (words 8 (.node i))).latched link (.node i 0), s.latchGroup link (words 8 (.node i))) := rfl

theorem State.rd_emit (o : Out) (s : State) (off : Nat) : (s.emit o).rd off = s.rd off := rfl

/-- A register write whose old word is answered. -/
theorem State.wr_emit_frame (off : Nat) (w : Word) (o : Out) (s : State) :
    ((s.wr off w).emit o).out = o :: s.out ∧
      (s.wr off w).emit o = { s with regs := ((s.wr off w).emit o).regs, out := ((s.wr off w).emit o).out } := by
  unfold State.emit State.wr
  exact ⟨rfl, rfl⟩

/-- The host's read is answered; one over the Yewirak link answers in its response. -/
theorem exec_counterReadClear_host (off : Nat) (s : State) :
    exec (.counterReadClear false off) s =
      .next ((s.readWord 0 off).2.emit (.hostRead 0 off (s.readWord 0 off).1)) := rfl

/-- A read leaves what its register's read does, and the answer. -/
theorem State.readBy_frame {s u : State} (yw : Bool) {off : Nat} (h : (s.readWord (b2n yw) off).2 = u) :
    (s.readBy yw off).latch = u.latch ∧ s.readBy yw off = { u with out := (s.readBy yw off).out } := by
  subst h
  unfold State.readBy
  cases yw <;> exact ⟨rfl, rfl⟩

/-! Cell memory through BAR2. -/

/-- Bytes written one after another. -/
theorem State.cellByte_putBytes (a b : Nat) (bs : List Byte) (s : State) :
    (s.putBytes a bs).cellByte b = if a ≤ b ∧ b < a + bs.length then bs.getD (b - a) 0 else s.cellByte b := by
  induction bs generalizing a s with
  | nil => exact (if_neg (by simp only [List.length_nil]; omega)).symm
  | cons x bs ih =>
    rw [State.putBytes, ih, State.cellByte_setCellByte]
    by_cases hb : b = a
    · subst hb
      simp
    · by_cases hin : a + 1 ≤ b ∧ b < a + 1 + bs.length
      · have hsub : b - a = b - (a + 1) + 1 := by omega
        rw [if_pos hin, if_pos (by simp only [List.length_cons]; omega), hsub, List.getD_cons_succ]
      · rw [if_neg hin, if_neg hb, if_neg (by simp only [List.length_cons]; omega)]

theorem State.putBytes_frame (a : Nat) (bs : List Byte) (s : State) :
    s.putBytes a bs = { s with mem := (s.putBytes a bs).mem } := by
  induction bs generalizing a s with
  | nil => rfl
  | cons b bs ih => rw [State.putBytes, ih]; rfl

/-- The bytes of a word, byte 0 first. -/
def fieldBytes (w : Word) : List Byte := (List.range 4).map fun k => BitVec.ofNat 8 (fld w (8 * k) 8)

/-- A whole word written to a cell that belongs to the host. -/
theorem State.bar2Write_word {a : Nat} {s : State} (w : Word) (ha : a < 2 ^ 24) (h4 : a % 4 = 0)
    (hm : s.mode.bar2 = true) (hw : (s.link (a / 64)).hw = true) : s.bar2Write a 15 w = s.putBytes a (fieldBytes w) := by
  rw [State.bar2Write, h4, Nat.sub_zero]
  exact (if_neg (by simp [hm]; omega)).trans (if_neg (by simp [hw]))

theorem State.bar2Write_dropped {a : Nat} {s : State} (w : Word) (ha : a < 2 ^ 24) (h4 : a % 4 = 0)
    (hm : s.mode.bar2 = true) (hw : (s.link (a / 64)).hw = false) : s.bar2Write a 15 w = s.cnt 0x401C := by
  rw [State.bar2Write, h4, Nat.sub_zero]
  exact (if_neg (by simp [hm]; omega)).trans (if_pos (by simp [hw]))

theorem State.bar2Read_good {a : Nat} {s : State} (ha : a < 2 ^ 24) (h4 : a % 4 = 0) (hm : s.mode.bar2 = true) :
    s.bar2Read a .good = s.emit (.hostRead 2 a (wordAt (s.getBytes a 4) 0)) := by
  rw [State.bar2Read, h4, Nat.sub_zero]
  exact if_neg (by simp [hm]; omega)

end Sys2Proof.Machine

section
open Sys2Proof Sys2Proof.Machine

/-- Settles O5: each read answers what stood there, and each write of BAR2 reaches the four bytes of its word. -/
theorem countersLatchesAndBar2 : Obligations.CountersLatchesAndBar2 := by
  unfold Obligations.CountersLatchesAndBar2
  refine ⟨fun s => ⟨fun c i hc hi ho => ?clears, fun yw i hi ho => ?latches⟩,
    fun a w s ha h4 hm => ⟨fun hw _ => ?writes, fun hw => ?drops, ?reads⟩⟩
  case clears =>
    have hread : s.readWord 0 (fltBase c + 0x1000 + 4 * i) = _ :=
      (State.readWord_of_open 0 (Reg.ofOff_fltHit hc hi) ho).trans (State.regRead_fltHit 0 c i s)
    have hexec : exec (.counterReadClear false (fltBase c + 0x1000 + 4 * i)) s = .next
        ((s.wr (fltBase c + 0x1000 + 4 * i) 0).emit
          (.hostRead 0 (fltBase c + 0x1000 + 4 * i) (s.rd (fltBase c + 0x1000 + 4 * i)))) := by
      rw [exec_counterReadClear_host, hread]
    obtain ⟨hout, hframe⟩ := State.wr_emit_frame (fltBase c + 0x1000 + 4 * i) 0
      (.hostRead 0 (fltBase c + 0x1000 + 4 * i) (s.rd (fltBase c + 0x1000 + 4 * i))) s
    refine ⟨_, hexec, hout, ?_, fun o ho => ?_, hframe⟩
    · rw [State.rd_emit, State.rd_wr, if_pos rfl]
    · rw [State.rd_emit, State.rd_wr, if_neg ho]
  case latches =>
    have hnode : Reg.ofOff (0x400000 + 0x20 * i) = some (.node i 0) := by
      have h := Reg.ofOff_node (k := 0) hi (by decide)
      rwa [Nat.mul_zero, Nat.add_zero] at h
    have hread (link : Nat) : s.readWord link (0x400000 + 0x20 * i) = _ :=
      (State.readWord_of_open link hnode ho).trans (State.regRead_node link i s)
    have hafter : (s.readWord (b2n yw) (0x400000 + 0x20 * i)).2 =
        s.latchWords (b2n yw) (0x400000 + 0x20 * i) (s.nodeWords i) := by
      rw [hread]
      exact State.latchGroup_node (b2n yw) i s
    obtain ⟨hlatch, hframe⟩ := State.readBy_frame yw hafter
    refine ⟨s.readBy yw (0x400000 + 0x20 * i), rfl, fun k hk => ?_, ?_⟩
    · have hword : (s.nodeWords i)[k]? = some (wordAt (s.node i).bytes k).toNat := by simp [State.nodeWords, hk]
      have hlatched : (s.readBy yw (0x400000 + 0x20 * i)).latch.get (fun _ => none)
          (latchKey (b2n yw) (Reg.off (.node i k))) = some (wordAt (s.node i).bytes k) := by
        rw [hlatch]
        exact (State.latch_latchWords hword rfl).trans (congrArg some (wd_toNat _))
      rw [State.latched, hlatched, Option.getD_some]
    · rw [State.latchWords_frame] at hframe
      rw [hframe]
  case writes =>
    refine ⟨_, congrArg Host.Outcome.next (State.bar2Write_word w ha h4 hm hw), fun k hk => ?_, fun b hb => ?_,
      State.putBytes_frame a _ s⟩
    · rw [State.cellByte_putBytes, if_pos ⟨by omega, by simp only [fieldBytes, List.length_map, List.length_range]; omega⟩,
        Nat.add_sub_cancel_left]
      simp [fieldBytes, hk]
    · exact (State.cellByte_putBytes ..).trans
        (if_neg (by simp only [fieldBytes, List.length_map, List.length_range]; omega))
  case drops => exact congrArg Host.Outcome.next (State.bar2Write_dropped w ha h4 hm hw)
  case reads => exact ⟨_, congrArg Host.Outcome.next (State.bar2Read_good ha h4 hm), rfl⟩

end

namespace Sys2Proof.Machine
open Sys2Proof

/-! ### An output that takes one change, and PD detection (R680, R685 to R691) -/

/-- Changes of output `q` leave every other output. -/
theorem State.sparSet_upSpar (q : Nat) (f : Spar → Spar) (s : State) : SparSet q (f (s.spar q)) s (s.upSpar q f) :=
  ⟨by simp, fun r hr => by simp [hr]⟩

theorem State.sparSet_upSpar_trans {q : Nat} {x : Spar} {s t : State} (f : Spar → Spar) (h : SparSet q x s t) :
    SparSet q (f x) s (t.upSpar q f) := by
  obtain ⟨hq, hothers⟩ := h
  exact ⟨by simp [hq], fun r hr => by simp [hr, hothers r hr]⟩

theorem State.sparSet_setPg_trans {q : Nat} {x : Spar} {s t : State} (on : Bool) (h : SparSet q x s t) :
    SparSet q { x with pg := on } s (t.setPg q on) := by
  obtain ⟨hq, hothers⟩ := h
  exact ⟨by simp [State.spar_setPg, hq], fun r hr => by simp [State.spar_setPg, hr, hothers r hr]⟩

/-- Power-good raises an event of its own at most. -/
theorem State.rb_setPg_of_rb (q : Nat) (on : Bool) {s : State} {o j : Nat} (h : s.rb o j = true) :
    (s.setPg q on).rb o j = true := by
  rw [State.setPg]
  split
  · exact h
  · exact State.rb_raise_of_rb _ _ _ _ h

theorem State.portLimit_of_on {q : Nat} {s : State} (mV mA : Nat) (h : (s.spar q).state = .on) :
    s.portLimit q mV mA = (((s.sparMeas q mV mA).upSpar q fun x => { x with state := .limit }).raise .spar 1 q
      0).setPg q false := if_pos (by simp [h])

theorem State.portPg_removed (q mV mA : Nat) (s : State) :
    s.portPg q false mV mA = (s.sparMeas q mV mA).setPg q false := rfl

theorem State.portPg_asserted {q : Nat} {s : State} (mV mA : Nat) (h : (s.spar q).state = .on) :
    s.portPg q true mV mA = (s.sparMeas q mV mA).setPg q true := if_neg (by simp [h])

theorem exec_pdFound {s : State} {q cls : Nat} {c : Instr} (h : c = .pdDetected q cls ∨ c = .detectRepeat q (some cls)) :
    exec c s = .next (s.pdFound q cls) := by
  rcases h with rfl | rfl <;> rfl

theorem State.nbit_rf (s : State) (o : Nat) {i : Nat} (hi : i < 8) : nbit (s.rf o 0 8) i = s.rb o i := by
  rw [nbit, State.rf, testBit_fld, Nat.zero_add, State.rb]
  simp [hi]

theorem State.pdFound_unclassified {q : Nat} {s : State} (cls : Nat) (h : (s.spar q).state = .detect)
    (hcls : s.rb (sparBase q) 28 = false) : s.pdFound q cls = s.upSpar q fun x => { x with state := .inrush } :=
  (if_neg (by simp [h])).trans (if_pos (by simp [hcls]))

/-- The class is kept before the class mask is asked. -/
theorem State.pdFound_classified {q cls : Nat} {s : State} (h : (s.spar q).state = .detect)
    (hcls : s.rb (sparBase q) 28 = true) (hlt : cls < 8) :
    s.pdFound q cls =
      if s.rb (sparBase q + 4) cls then
        (s.upSpar q fun x => { x with classValid := true, cls := cls }).upSpar q fun x => { x with state := .inrush }
      else (((s.upSpar q fun x => { x with classValid := true, cls := cls }).upSpar q fun x =>
        { x with state := .classify }).countSpar q 3).raise .spar 6 q cls := by
  have hmask : nbit ((s.upSpar q fun x => { x with classValid := true, cls := cls }).rf (sparBase q + 4) 0 8) cls =
      s.rb (sparBase q + 4) cls := State.nbit_rf s _ hlt
  rw [State.pdFound, if_neg (by simp [h]), if_neg (by simp [hcls]), Nat.mod_eq_of_lt (by omega)]
  dsimp only
  rw [hmask]

end Sys2Proof.Machine

section
open Sys2Proof Sys2Proof.Machine

/-- Settles O11: each row is one or two changes of its output; events and counters touch no output. -/
theorem outputStatesAndDetection : Obligations.OutputStatesAndDetection := by
  unfold Obligations.OutputStatesAndDetection
  refine ⟨fun s q mV mA => ⟨fun h => ?inrush, fun h => ?idle, fun h => ?limit, fun h => ?limitEnd, fun h => ?pgOn,
    ?pgOff, fun h => ?retries⟩, fun s q cls c hst _ hc => ⟨fun hcls => ?unclassified, fun hcls hin hlt => ?taken,
    fun hcls hout hlt => ?refused⟩⟩
  case inrush =>
    exact ⟨_, congrArg Host.Outcome.next (if_pos (by simp [h])),
      State.sparSet_upSpar_trans _ (State.sparSet_upSpar q _ s)⟩
  case idle => exact congrArg Host.Outcome.next (if_neg (by simpa using h))
  case limit =>
    refine ⟨_, congrArg Host.Outcome.next (State.portLimit_of_on mV mA h),
      State.sparSet_setPg_trans (x := { s.spar q with state := .limit, vOut := mV, iOut := mA }) false ?_,
      State.rb_setPg_of_rb _ _ (State.rb_raise_self _ _ _ _ (by decide))⟩
    rw [sparSet_raise]
    exact State.sparSet_upSpar_trans _ (State.sparSet_upSpar q _ s)
  case limitEnd =>
    exact ⟨_, congrArg Host.Outcome.next (if_pos (by simp [h])),
      State.sparSet_upSpar_trans _ (State.sparSet_upSpar q _ s)⟩
  case pgOn =>
    exact ⟨_, congrArg Host.Outcome.next (State.portPg_asserted mV mA h),
      State.sparSet_setPg_trans true (State.sparSet_upSpar q _ s)⟩
  case pgOff =>
    exact ⟨_, congrArg Host.Outcome.next (State.portPg_removed q mV mA s),
      State.sparSet_setPg_trans false (State.sparSet_upSpar q _ s)⟩
  case retries => exact ⟨_, congrArg Host.Outcome.next (if_pos h), State.sparSet_upSpar q _ s⟩
  case unclassified =>
    exact ⟨_, (exec_pdFound hc).trans (congrArg Host.Outcome.next (State.pdFound_unclassified cls hst hcls)),
      State.sparSet_upSpar q _ s⟩
  case taken =>
    refine ⟨_, (exec_pdFound hc).trans (congrArg Host.Outcome.next
      ((State.pdFound_classified hst hcls hlt).trans (if_pos hin))), ?_⟩
    exact State.sparSet_upSpar_trans _ (State.sparSet_upSpar q _ s)
  case refused =>
    refine ⟨_, (exec_pdFound hc).trans (congrArg Host.Outcome.next
      ((State.pdFound_classified hst hcls hlt).trans (if_neg (by simp [hout])))), ?_,
      State.rb_raise_self _ _ _ _ (by decide)⟩
    rw [sparSet_raise, sparSet_countSpar]
    exact State.sparSet_upSpar_trans _ (State.sparSet_upSpar q _ s)

end

namespace Sys2Proof.Machine
open Sys2Proof

/-! ### Outputs that start (R680, R683, R690) -/

/-- The state an output starts in: a PoDL output detects, a segment output powers up (R683). -/
def Spar.started (q : Nat) (x : Spar) : Spar :=
  if 40 ≤ q then { x with state := .detect, queued := false, classValid := false }
  else { x with state := .inrush, queued := false }

theorem State.sparEnter_eq (q : Nat) (s : State) : s.sparEnter q = s.upSpar q (Spar.started q) := by
  unfold State.sparEnter
  congr 1
  funext x
  simp [Spar.started, sparPodl]

theorem State.sparStart_of_powered {s : State} (q : Nat) (h : s.power.warn = false) :
    s.sparStart q = s.upSpar q (Spar.started q) :=
  (if_neg (by simp [h])).trans (State.sparEnter_eq q s)

/-- An output that leaves its state for one in which it is not powered. -/
theorem State.sparSet_sparTo (q : Nat) (st : SparState) (s : State) :
    SparSet q ((s.spar q).unpowered st) s (s.sparTo q st) := ⟨by simp, fun r hr => by simp [hr]⟩

theorem State.sparSet_sparTo_trans {q : Nat} {x : Spar} {s t : State} (st : SparState) (h : SparSet q x s t) :
    SparSet q (x.unpowered st) s (t.sparTo q st) := by
  obtain ⟨hq, hothers⟩ := h
  exact ⟨by simp [hq], fun r hr => by simp [hr, hothers r hr]⟩

/-! ### SPAR_ON, SPAR_OFF and SPAR_CLEAR (Table 20-2) -/

/-- A command that only finishes after `u`, which left the executor as it was: the outputs and Keeper are those of `u`. -/
theorem after_finish_spars {i : Instr} {s u : State} {c : Cmd} {status detail : Nat} {P : State → Prop}
    (hi : exec i s = .next (u.finish status detail)) (hx : s.ctl.exec = some c) (hw : s.ctl.waiting = [])
    (hctl : u.ctl = s.ctl) (hP : ∀ t, t.spars = u.spars → t.keeper = u.keeper → P t) :
    After i s fun t => P t ∧ t.ctl = { s.ctl with exec := none } := by
  refine ⟨_, hi, hP _ (by simp) (by simp), ?_⟩
  rw [State.finish_of_none_waiting (hctl ▸ hx) (hctl ▸ hw)]
  simp [hctl]

theorem sparSet_of_spars_eq {q : Nat} {x : Spar} {s t u : State} (h : SparSet q x s u) (ht : t.spars = u.spars) :
    SparSet q x s t := by
  obtain ⟨hq, hothers⟩ := h
  exact ⟨(State.spar_of_spars_eq ht q).trans hq, fun r hr => (State.spar_of_spars_eq ht r).trans (hothers r hr)⟩

theorem State.ctl_sparTo (q : Nat) (st : SparState) (s : State) : (s.sparTo q st).ctl = s.ctl :=
  (by simp : (s.setPg q false).ctl = s.ctl)

theorem State.ctl_queueHealth (s : State) : s.queueHealth.ctl = s.ctl := by simp

section
variable {s : State} {q : Nat}

theorem State.noOutput_of_fitted (hfit : s.hasSpar q = true) (hst : (s.spar q).state ≠ .retired) :
    s.noOutput q = false := by simp [State.noOutput, hfit, hst]

/-- SPAR_ON of an output that is off and fits the budget starts it. -/
theorem State.sparOn_starts (hoff : (s.spar q).state = .off) (hplan : s.plan q = none)
    (hfit : s.hasSpar q = true) (hperm : s.sparPermitted q = true) (hwarn : s.power.warn = false)
    (hbudget : s.heldMa + s.sparLimit q ≤ s.budgetMa) :
    s.sparOn q = (0, (s.upSpar q fun x => { x with commanded := true }).upSpar q (Spar.started q)) := by
  have hdue : (s.upSpar q fun x => { x with commanded := true }).sparDue q = true := by
    have hfit' : (s.upSpar q fun x => { x with commanded := true }).hasSpar q = true := hfit
    have hperm' : (s.upSpar q fun x => { x with commanded := true }).sparPermitted q = true := hperm
    simp [State.sparDue, hfit', hperm']
  rw [State.sparOn]
  dsimp only
  rw [if_pos (by simp [hoff]), if_neg (by simp [hplan]; omega), if_pos (by simp [hdue, hoff]),
    State.sparStart_of_powered (s := s.upSpar q fun x => { x with commanded := true }) q hwarn]

/-- SPAR_ON beyond the budget answers the shortfall and switches nothing (R291). -/
theorem State.sparOn_refused (hoff : (s.spar q).state = .off) (hplan : s.plan q = none)
    (hbudget : s.budgetMa < s.heldMa + s.sparLimit q) (hlimit : 0 < s.sparLimit q) :
    s.sparOn q = (s.heldMa + s.sparLimit q - s.budgetMa, s) := by
  rw [State.sparOn]
  dsimp only
  rw [if_pos (by simp [hoff]), if_pos (by simp [hplan]; omega)]
  simp [hplan]

theorem State.sparOff_of_live (hst : (s.spar q).state ≠ .retired) (hlatch : (s.spar q).state ≠ .latched)
    (hpass : (s.spar q).state ≠ .passFault) :
    s.sparOff q = ((s.upSpar q fun x => { x with retries := 0 }).upSpar q fun x =>
      { x with commanded := false }).sparTo q .off := by
  have hkept : ((s.upSpar q fun x => { x with retries := 0 }).spar q).state = (s.spar q).state := by simp
  rw [State.sparOff]
  rw [hkept]
  split
  next h => exact absurd h hlatch
  next h => exact absurd h hpass
  next h => exact absurd h hst
  next => rfl

theorem State.sparClear_of_waiting (damaged : Nat)
    (hst : (s.spar q).state = .retryOff ∨ (s.spar q).state = .latched) :
    s.sparClear q damaged = ((s.upSpar q fun x => { x with retries := 0 }).upSpar q fun x =>
      { x with commanded := false }).sparTo q .off := by
  have hkept : ((s.upSpar q fun x => { x with retries := 0 }).spar q).state = (s.spar q).state := by simp
  rw [State.sparClear]
  rw [hkept]
  rcases hst with h | h <;> rw [h]

/-- With nothing reported, nothing is judged again. -/
theorem State.rejudge_of_none (hdue : s.health.due = []) (hunrec : s.health.unrecorded = [])
    (hpend : s.health.pends = []) : s.rejudge = s := by
  simp [State.rejudge, hdue, hunrec, hpend, State.each, State.fillPend]

/-- The test that finds nothing damaged closes the guard (R694). -/
theorem State.passTest_of_sound (hdue : s.health.due = []) (hunrec : s.health.unrecorded = [])
    (hpend : s.health.pends = []) :
    s.passTest q 0 = ((s.upSpar q fun x => { x with passFault := false }).sparTo q .off).queueHealth := by
  have hfound : ((List.range 10).filter fun k => nbit 0 k && !nbit (s.segBad (passUnit q 0)) k) = [] := by
    simp [nbit]
  rw [State.passTest]
  dsimp only
  rw [hfound]
  simp only [List.filter_nil, State.each, List.foldl_nil, State.rejudge_of_none hdue hunrec hpend, List.length_nil]
  exact if_pos (Nat.zero_le _)

theorem State.sparClear_of_sound (hm : s.mode = .service) (hst : (s.spar q).state = .passFault)
    (hdue : s.health.due = []) (hunrec : s.health.unrecorded = []) (hpend : s.health.pends = []) :
    s.sparClear q 0 = ((((s.upSpar q fun x => { x with retries := 0 }).upSpar q fun x =>
      { x with commanded := false }).upSpar q fun x => { x with passFault := false }).sparTo q .off).queueHealth := by
  have hkept : ((s.upSpar q fun x => { x with retries := 0 }).spar q).state = (s.spar q).state := by simp
  have hm' : (s.upSpar q fun x => { x with retries := 0 }).mode = .service := hm
  rw [State.sparClear]
  rw [hkept, hst]
  exact (if_pos (by simp [hm'])).trans (State.passTest_of_sound hdue hunrec hpend)

end

end Sys2Proof.Machine

section
open Sys2Proof Sys2Proof.Machine

/-- Settles O13: every start is `Spar.started` of the output that is due; the commands finish after one or two changes
of their output. -/
theorem outputStartsAndCommands : Obligations.OutputStartsAndCommands := by
  unfold Obligations.OutputStartsAndCommands
  refine ⟨fun s q hwarn => ⟨fun hst hdue => ?retryDue, fun hst hdue => ?retryOff, fun hnext => ?sequence,
    fun hst => ?classRetry⟩, fun s c hx hw hfit hlive hcl => ?commands⟩
  case retryDue =>
    refine ⟨_, congrArg Host.Outcome.next ((if_neg (by simp [hst])).trans ((if_pos hdue).trans
      (State.sparStart_of_powered q hwarn))), State.sparSet_upSpar q _ s⟩
  case retryOff =>
    exact ⟨_, congrArg Host.Outcome.next ((if_neg (by simp [hst])).trans (if_neg (by simp [hdue]))),
      State.sparSet_sparTo q .off s⟩
  case sequence =>
    have hstart : s.sequenceStart = s.upSpar q (Spar.started q) := by
      rw [State.sequenceStart, hnext]
      exact State.sparStart_of_powered q hwarn
    exact ⟨_, congrArg Host.Outcome.next hstart, State.sparSet_upSpar q _ s⟩
  case classRetry =>
    exact ⟨_, congrArg Host.Outcome.next (if_neg (by simp [hst])), State.sparSet_upSpar q _ s⟩
  case commands =>
    have hhas := State.noOutput_of_fitted hfit hlive
    refine ⟨fun hop hoff _ hplan hperm hwarn hbudget => ?on, fun hop hoff _ hplan hbudget hlimit => ?budget,
      fun hop hlatch hpass => ?off, fun d hop hst => ?clear, fun hop hm hst hdue hunrec hpend => ?test⟩
    case on =>
      have hexec : exec .sparOn s = .next (((s.upSpar c.target fun x => { x with commanded := true }).upSpar c.target
          (Spar.started c.target)).finish cOk 0) := by
        refine congrArg Host.Outcome.next ((State.running_of_executing (State.executing_of_exec hx hop) _).trans ?_)
        rw [if_neg (by simp [hhas]), if_neg (by simp [hcl]), State.sparOn_starts hoff hplan hfit hperm hwarn hbudget]
        rfl
      refine after_finish_spars hexec hx hw rfl fun t ht _ => sparSet_of_spars_eq ?_ ht
      have hset := State.sparSet_upSpar_trans (Spar.started c.target)
        (State.sparSet_upSpar c.target (fun x => { x with commanded := true }) s)
      exact hset
    case budget =>
      have hexec : exec .sparOn s = .next (s.finish cBudget (s.heldMa + s.sparLimit c.target - s.budgetMa)) := by
        refine congrArg Host.Outcome.next ((State.running_of_executing (State.executing_of_exec hx hop) _).trans ?_)
        rw [if_neg (by simp [hhas]), if_neg (by simp [hcl]), State.sparOn_refused hoff hplan hbudget hlimit]
        exact if_neg (by omega)
      exact after_finish_spars hexec hx hw rfl fun t ht _ => ht
    case off =>
      have hexec : exec .sparOff s = .next ((s.sparOff c.target).finish cOk 0) :=
        congrArg Host.Outcome.next ((State.running_of_executing (State.executing_of_exec hx hop) _).trans
          (if_neg (by simp [hhas])))
      rw [State.sparOff_of_live hlive hlatch hpass] at hexec
      refine after_finish_spars hexec hx hw (State.ctl_sparTo ..) fun t ht _ => sparSet_of_spars_eq ?_ ht
      exact State.sparSet_sparTo_trans .off (State.sparSet_upSpar_trans _ (State.sparSet_upSpar c.target _ s))
    case clear =>
      have hexec : exec (.sparClear d) s = .next ((s.sparClear c.target d).finish cOk 0) :=
        congrArg Host.Outcome.next ((State.running_of_executing (State.executing_of_exec hx hop) _).trans
          ((if_neg (by simp [hhas])).trans (if_neg (by simp [hcl]))))
      rw [State.sparClear_of_waiting d hst] at hexec
      refine after_finish_spars hexec hx hw (State.ctl_sparTo ..) fun t ht _ => sparSet_of_spars_eq ?_ ht
      exact State.sparSet_sparTo_trans .off (State.sparSet_upSpar_trans _ (State.sparSet_upSpar c.target _ s))
    case test =>
      have hexec : exec (.sparClear 0) s = .next ((s.sparClear c.target 0).finish cOk 0) :=
        congrArg Host.Outcome.next ((State.running_of_executing (State.executing_of_exec hx hop) _).trans
          ((if_neg (by simp [hhas])).trans (if_neg (by simp [hcl]))))
      rw [State.sparClear_of_sound hm hst hdue hunrec hpend] at hexec
      obtain ⟨t, ht, ⟨hspars, hstore⟩, hctl⟩ := after_finish_spars hexec hx hw
        (by rw [State.ctl_queueHealth, State.ctl_sparTo]; rfl) fun t ht hk => And.intro ht hk
      have hset := (sparSet_queueHealth (q := c.target)).2 (State.sparSet_sparTo_trans .off
        (State.sparSet_upSpar_trans (fun x => { x with passFault := false })
          (State.sparSet_upSpar_trans (fun x => { x with commanded := false })
            (State.sparSet_upSpar c.target (fun x => { x with retries := 0 }) s))))
      refine ⟨t, ht, sparSet_of_spars_eq hset hspars, ?_, hctl⟩
      rw [hstore]
      exact State.health_mem_queueHealth _

end

namespace Sys2Proof.Machine
open Sys2Proof

/-! ### What a change of mode leaves of the executor and of Beacon's clock (R52) -/

/-- What each round of a loop leaves as it was, the loop leaves. -/
theorem State.each_same {α β : Type} (π : State → β) (l : List α) {f : α → State → State}
    (h : ∀ a u, π (f a u) = π u) (s : State) : π (s.each l f) = π s := by
  unfold State.each
  induction l generalizing s with
  | nil => rfl
  | cons a l ih => exact (ih (f a s)).trans (h a s)

theorem State.ite_same {β : Type} (π : State → β) {p : Prop} [Decidable p] {t s : State} (h : π t = π s) :
    π (if p then t else s) = π s := by
  split
  · exact h
  · rfl

/-- The mode and the executor, and the raw counter of Beacon. -/
def State.core (s : State) : ModeCtl × Nat := (s.ctl, s.beacon.raw)

theorem State.core_eq_of_fields {s t : State} (hctl : t.ctl = s.ctl) (hbeacon : t.beacon = s.beacon) :
    t.core = s.core := by
  rw [State.core, State.core, hctl, hbeacon]

/-- An operation whose frame names neither the executor nor Beacon keeps both. -/
theorem State.core_of_kept {m : Nat} {s t : State} (h : Kept m s t) (hctl : m.testBit Field.ctl.ctorIdx = false)
    (hbeacon : m.testBit Field.beacon.ctorIdx = false) : t.core = s.core :=
  State.core_eq_of_fields (h.same .ctl hctl) (h.same .beacon hbeacon)

theorem State.core_raise (b : Blk) (i unit info : Nat) (s : State) : (s.raise b i unit info).core = s.core :=
  State.core_eq_of_fields (by simp) (by simp)

theorem State.core_modRecord (code unit info : Nat) (s : State) : (s.modRecord code unit info).core = s.core :=
  State.core_eq_of_fields (by simp) (by simp)

theorem State.core_closeSession (s : State) : s.closeSession.core = s.core :=
  State.core_of_kept (State.closeSession_k (m := 0x2210003C000008) s rfl (Kept.refl _ s)) rfl rfl

theorem Beacon.raw_servoCorr (c i : Int) (b : Beacon) : (b.servoCorr c i).raw = b.raw := by
  unfold Beacon.servoCorr
  split <;> rfl

/-- The loss of the source takes the servo to HOLDOVER; the clock runs on. -/
theorem State.core_sourceLost (s : State) : s.sourceLost.core = s.core := by
  unfold State.sourceLost
  split
  · rfl
  · exact (State.core_raise ..).trans (congrArg (Prod.mk s.ctl) (Beacon.raw_servoCorr ..))

theorem State.core_linkDown (p : Nat) (s : State) : (s.linkDown p).core = s.core := by
  unfold State.linkDown
  split
  · rfl
  · extract_lets s1 s2 s3
    have h1 : s1.core = s.core :=
      State.core_of_kept (State.upPort_k (m := 0x2010123C001988) p _ _ rfl (State.portDiscard_k p _ rfl
        (State.advanceCredit_k p s rfl (Kept.refl _ s)))) rfl rfl
    have h2 : s2.core = s1.core :=
      State.core_of_kept (State.countMac_k (m := 0x200000008) p 22 _ 1 rfl (State.upBport_k p _ s1 rfl (Kept.refl _ s1)))
        rfl rfl
    have h3 : s3.core = s.core := (State.core_raise (.mac p) 0 p 0 s2).trans (h2.trans h1)
    exact (State.ite_same State.core (State.core_sourceLost s3)).trans h3

theorem State.core_lanesFollow (s : State) : s.lanesFollow.core = s.core := by
  refine (State.each_same State.core _ (fun p u => ?port) _).trans (State.each_same State.core _ (fun n u => ?lane) s)
  case port =>
    unfold State.portFollow
    split
    · rfl
    · exact State.core_linkDown p u
  case lane => exact State.core_of_kept (State.laneFollow_k (m := 0x10400000000) n u rfl (Kept.refl _ u)) rfl rfl

theorem State.core_enginesFollow (s : State) : s.enginesFollow.core = s.core :=
  State.core_of_kept (State.enginesFollow_k (m := 0x100000000000) s rfl (Kept.refl _ s)) rfl rfl

theorem State.core_stopTimelines (p : Nat → Bool) (s : State) : (s.stopTimelines p).core = s.core :=
  State.core_of_kept (State.stopTimelines_k (m := 0x10000000000) p s rfl (Kept.refl _ s)) rfl rfl

theorem State.core_wakeEngines (s : State) : s.wakeEngines.core = s.core :=
  State.core_of_kept (State.wakeEngines_k (m := 0x2031003C008808) s rfl (Kept.refl _ s)) rfl rfl

theorem State.core_intoSleep (s : State) : s.intoSleep.core = s.core :=
  State.core_of_kept (State.intoSleep_k (m := 0x2270167C007FC8) s rfl (Kept.refl _ s)) rfl rfl

theorem State.core_wakeHost (s : State) : s.wakeHost.core = s.core :=
  State.core_of_kept (State.wakeHost_k (m := 0x20000020000000) s rfl (Kept.refl _ s)) rfl rfl

theorem State.core_sparRefresh (s : State) : s.sparRefresh.core = s.core :=
  State.core_of_kept (State.sparRefresh_k (m := 0x2810003C000008) s rfl (Kept.refl _ s)) rfl rfl

theorem State.core_clearCommanded (p : Nat → Bool) (s : State) : (s.clearCommanded p).core = s.core :=
  State.core_of_kept (State.clearCommanded_k (m := 0x2810003C000008) p s rfl (Kept.refl _ s)) rfl rfl

/-- The mode that a change of mode names. -/
def State.modeSet (m : Mode) (s : State) : State := { s with ctl := { s.ctl with mode := m, prev := s.mode } }

/-- The first part of a change of mode: all but what SLEEP discards and what leaving SLEEP or STANDBY starts. -/
def State.modeFollowed (m : Mode) (s : State) : State :=
  let old := s.mode
  let s := (s.modeSet m).modRecord 5 m.code old.code
  let s := (if m == .faultHold then s.closeSession else s).lanesFollow
  let s := match m with
    | .operational | .degraded | .reconfiguring => s
    | _ => s.stopTimelines fun _ => true
  let s := s.enginesFollow
  let s := match m with
    | .standby | .sleep | .service | .test => s.unseeAll
    | _ => s
  if old == .test then
    s.each (List.range 40) fun n s => if s.opMode n = 3 then s.setf (busBase n) 30 2 0 else s
  else s

/-- The second part of a change of mode from `old`; `woke` where a wake led to the STANDBY that is left. -/
def State.modeStarted (m old : Mode) (woke : Bool) (s : State) : State :=
  let s := if m == .sleep then s.intoSleep else s
  let s := if old == .sleep then { s with mem := [] }.wakeHost else s
  let s := if woke && m != .sleep && m != .faultHold then s.wakeEngines else s
  let s := if old == .standby && (m == .operational || m == .degraded) then s.resumeTiles else s
  if m.clearsOutputs then s.clearCommanded fun _ => true else s.sparRefresh

theorem State.changeMode_eq (m : Mode) (s : State) :
    s.changeMode m = (s.modeFollowed m).modeStarted m s.mode (s.mode == .standby && s.ctl.prev == .sleep) := rfl

theorem State.core_modeFollowed (m : Mode) (s : State) : (s.modeFollowed m).core = (s.modeSet m).core := by
  unfold State.modeFollowed
  extract_lets old s1 s2 s3 s4 s5
  have h1 : s1.core = (s.modeSet m).core := State.core_modRecord ..
  have h2 : s2.core = s1.core :=
    (State.core_lanesFollow (if m == .faultHold then s1.closeSession else s1)).trans
      (State.ite_same State.core (State.core_closeSession s1))
  have h3 : s3.core = s2.core := by
    unfold s3
    split
    · rfl
    · rfl
    · rfl
    · exact State.core_stopTimelines ..
  have h4 : s4.core = s3.core := State.core_enginesFollow s3
  have h5 : s5.core = s4.core := by
    unfold s5
    split <;> rfl
  refine (State.ite_same State.core (State.each_same State.core _ (fun n u => ?_) s5)).trans
    (h5.trans (h4.trans (h3.trans (h2.trans h1))))
  exact State.ite_same State.core
    (State.core_of_kept (State.setf_k (m := 0x8) (busBase n) 30 2 0 u rfl (Kept.refl _ u)) rfl rfl)

theorem State.core_modeStarted (m old : Mode) (woke : Bool) (s : State) :
    (s.modeStarted m old woke).core = s.core := by
  unfold State.modeStarted
  extract_lets s1 s2 s3 s4
  have h1 : s1.core = s.core := State.ite_same State.core (State.core_intoSleep s)
  have h2 : s2.core = s1.core := State.ite_same State.core (State.core_wakeHost _)
  have h3 : s3.core = s2.core := State.ite_same State.core (State.core_wakeEngines s2)
  have h4 : s4.core = s3.core := State.ite_same State.core rfl
  have hlast : (if m.clearsOutputs then s4.clearCommanded fun _ => true else s4.sparRefresh).core = s4.core := by
    split
    · exact State.core_clearCommanded ..
    · exact State.core_sparRefresh s4
  exact hlast.trans (h4.trans (h3.trans (h2.trans h1)))

theorem State.core_changeMode (m : Mode) (s : State) : (s.changeMode m).core = (s.modeSet m).core := by
  rw [State.changeMode_eq, State.core_modeStarted, State.core_modeFollowed]

theorem State.ctl_changeMode (m : Mode) (s : State) :
    (s.changeMode m).ctl = { s.ctl with mode := m, prev := s.mode } := congrArg Prod.fst (State.core_changeMode m s)

theorem State.raw_changeMode (m : Mode) (s : State) : (s.changeMode m).beacon.raw = s.beacon.raw :=
  congrArg Prod.snd (State.core_changeMode m s)

theorem State.enterMode_of_run {m : Mode} {s : State} (hne : s.mode ≠ m) (hm : m ≠ .off) (hm' : m ≠ .seating)
    (hb : m ≠ .bringUp) : s.enterMode m = s.changeMode m := by
  unfold State.enterMode
  rw [if_neg (by simpa using hne)]
  split
  · exact absurd rfl hm
  · exact absurd rfl hm'
  · exact absurd rfl hb
  · rfl

theorem State.runMode_cases (s : State) : s.runMode = .degraded ∨ s.runMode = .operational := by
  unfold State.runMode
  split
  · exact .inl rfl
  · exact .inr rfl

/-! ### What SLEEP discards (R49, R520) -/

theorem State.transit_sleepDiscard (s : State) : s.sleepDiscard.transit = [] := by
  unfold State.sleepDiscard
  extract_lets drop s1 s2 s3 s4 s5
  have h2 : s2.transit = [] :=
    (State.dropStamps_k (m := 0x2010163E001BC8) _ rfl
      (State.dropQueued_k true s1.dropTransit rfl (Kept.refl _ _))).same .transit rfl
  have h3 : s3.transit = s2.transit := State.each_same State.transit _ (fun g u => by simp [State.upEng]) s2
  have h4 : s4.transit = s3.transit := State.each_same State.transit _ (fun i u => by
    dsimp only
    split
    · exact (State.setHw_k (m := 0x80) true _ _ rfl (Kept.refl _ _)).same .transit rfl
    · rfl) s3
  have h5 : s5.transit = s4.transit := State.each_same State.transit _ (fun f u => by simp) s4
  have hfree : (s5.each (drop.map (·.1)) State.freeRecord).transit = s5.transit :=
    State.each_same State.transit _ (fun r u =>
      (State.freeRecord_k (m := 0x2010103C001988) r u rfl (Kept.refl _ u)).same .transit rfl) s5
  rw [hfree, h5, h4, h3, h2]

theorem State.transit_intoSleep (s : State) : s.intoSleep.transit = [] := by
  unfold State.intoSleep
  extract_lets s1 s2 s3 s4
  have h2 : s2.transit = s1.transit := State.each_same State.transit _ (fun n u => by simp [State.upLane]) s1
  have h3 : s3.transit = s2.transit := State.each_same State.transit _ (fun c u => by simp) s2
  have h4 : s4.transit = s3.transit := State.each_same State.transit _ (fun g u => by simp [State.engineSleeps, State.upEng]) s3
  exact h4.trans (h3.trans (h2.trans (State.transit_sleepDiscard _)))

/-- SLEEP is entered from STANDBY: its memories are lost and nothing is in transit. -/
theorem State.changeMode_sleep {s : State} (hm : s.mode = .standby) :
    (s.changeMode .sleep).shared = [] ∧ (s.changeMode .sleep).transit = [] := by
  have heq : s.changeMode .sleep = (s.modeFollowed .sleep).intoSleep.sparRefresh := by
    rw [State.changeMode_eq, hm]
    simp [State.modeStarted, Mode.clearsOutputs]
  rw [heq]
  exact ⟨(by simp : _ = (s.modeFollowed .sleep).intoSleep.shared), (by simp :
    _ = (s.modeFollowed .sleep).intoSleep.transit).trans (State.transit_intoSleep _)⟩

end Sys2Proof.Machine

namespace Sys2Proof.Machine
open Sys2Proof

/-! ### The mode commands at the executor (Table 2-7) -/

/-- With nothing waiting the executor is free once its command has finished. -/
theorem State.ctl_finish {s : State} {c : Cmd} (hx : s.ctl.exec = some c) (hw : s.ctl.waiting = [])
    (status detail : Nat) : (s.finish status detail).ctl = { s.ctl with exec := none } := by
  rw [State.finish_of_none_waiting hx hw]
  simp

/-- A change of mode before the command finishes: the mode is entered and the executor is free. -/
theorem State.ctl_changeMode_finish {s u : State} {c : Cmd} (m : Mode) (hctl : u.ctl = s.ctl)
    (hx : s.ctl.exec = some c) (hw : s.ctl.waiting = []) :
    ((u.changeMode m).finish cOk 0).ctl = { s.ctl with exec := none, mode := m, prev := s.mode } := by
  have hc : (u.changeMode m).ctl = { s.ctl with mode := m, prev := s.mode } := by
    rw [State.ctl_changeMode, hctl, State.mode, hctl]
    rfl
  rw [State.ctl_finish (c := c) (by rw [hc]; exact hx) (by rw [hc]; exact hw), hc]

/-- Beside what it leaves, a finish touches neither the structure nor Beacon. -/
theorem State.beacon_finish (status detail : Nat) (s : State) : (s.finish status detail).beacon = s.beacon := by simp

theorem State.settle_of_free {s : State} (hx : s.ctl.exec = none) (hw : s.ctl.waiting = []) : s.settle = s := by
  rw [State.settle, hx, hw]
  exact State.beginNext_nil hw

section
variable {s : State} {c : Cmd}

theorem exec_enterStandby_of_ne (hx : s.ctl.exec = some c) (hop : c.opcode = 4) (hm : s.mode ≠ .standby) :
    exec .enterStandby s = .next ((s.changeMode .standby).finish cOk 0) := by
  refine congrArg Host.Outcome.next ((State.running_of_executing (State.executing_of_exec hx hop) _).trans ?_)
  rw [State.enterMode_of_run hm (by decide) (by decide) (by decide)]

theorem exec_resume_of_standby (hx : s.ctl.exec = some c) (hop : c.opcode = 5) (hm : s.mode = .standby) :
    exec .resume s = .next ((s.changeMode s.runMode).finish cOk 0) := by
  refine congrArg Host.Outcome.next ((State.running_of_executing (State.executing_of_exec hx hop) _).trans ?_)
  rw [State.enterMode_of_run] <;> rcases s.runMode_cases with h | h <;> simp [h, hm]

theorem exec_enterService_of_cell (hx : s.ctl.exec = some c) (hop : c.opcode = 7) (hm : s.mode ≠ .service)
    (hcell : s.serviceCell = true) : exec .enterService s = .next ((s.changeMode .service).finish cOk 0) := by
  refine congrArg Host.Outcome.next ((State.running_of_executing (State.executing_of_exec hx hop) _).trans
    ((if_pos hcell).trans ?_))
  rw [State.enterMode_of_run hm (by decide) (by decide) (by decide)]

theorem exec_enterTest_of_cell (hx : s.ctl.exec = some c) (hop : c.opcode = 9) (hm : s.mode ≠ .test)
    (hcell : s.testCell = true) : exec .enterTest s = .next ((s.changeMode .test).finish cOk 0) := by
  refine congrArg Host.Outcome.next ((State.running_of_executing (State.executing_of_exec hx hop) _).trans
    ((if_pos hcell).trans ?_))
  rw [State.enterMode_of_run hm (by decide) (by decide) (by decide)]

/-! LEAVE_SERVICE (R55). -/

theorem State.ctl_returnedEngines (s : State) : s.returnedEngines.ctl = s.ctl :=
  (State.returnedEngines_k (m := 0x2031003C008808) s rfl (Kept.refl _ s)).same .ctl rfl

theorem exec_leaveService_of_service (hx : s.ctl.exec = some c) (hop : c.opcode = 8) (hm : s.mode = .service) :
    exec .leaveService s = .next ((s.changeMode (if s.struct.isSome then s.runMode else
      .unconfigured)).returnedEngines.finish cOk 0) := by
  refine congrArg Host.Outcome.next ((State.running_of_executing (State.executing_of_exec hx hop) _).trans ?_)
  dsimp only
  rw [State.enterMode_of_run] <;> split <;> rcases s.runMode_cases with h | h <;> simp [h, hm]

/-! LEAVE_TEST (R51, R419). -/

theorem State.dropStructure_struct (count : Bool) (s : State) : (s.dropStructure count).struct = none := by
  have hgates (u : State) : (u.refreshAllGates.clearCommanded fun _ => true).struct = u.struct :=
    (State.clearCommanded_k (m := 0x2810103C000008) (fun _ => true) _ rfl
      (State.refreshAllGates_k u rfl (Kept.refl _ u))).same .structure_ rfl
  rw [State.dropStructure, hgates]
  rfl

theorem State.ctl_dropStructure (count : Bool) (s : State) : (s.dropStructure count).ctl = s.ctl :=
  (State.dropStructure_k (m := 0x2953F67FF0FFC8) count s rfl (Kept.refl _ s)).same .ctl rfl

theorem State.beaconAnew_kept (s : State) : s.beaconAnew.ctl = s.ctl ∧ s.beaconAnew.struct = s.struct := by
  have h := State.beaconAnew_k (m := 0x22001100000000) s rfl (Kept.refl _ s)
  exact ⟨h.same .ctl rfl, h.same .structure_ rfl⟩

theorem State.beaconRestart_clock (s : State) :
    s.beaconRestart.beacon.running = true ∧ s.beaconRestart.beacon.raw = 0 := ⟨rfl, rfl⟩

theorem State.raw_beaconAnew (s : State) : s.beaconAnew.beacon.raw = 0 := (State.beaconRestart_clock _).2

/-- The module as LEAVE_TEST leaves TEST: no structure, and Beacon anew. -/
def State.testLeft (s : State) : State := (s.dropStructure false).beaconAnew

theorem State.ctl_testLeft (s : State) : s.testLeft.ctl = s.ctl :=
  (State.beaconAnew_kept _).1.trans (State.ctl_dropStructure false s)

theorem exec_leaveTest_of_test (hx : s.ctl.exec = some c) (hop : c.opcode = 10) (hm : s.mode = .test) :
    exec .leaveTest s = .next ((s.testLeft.changeMode .unconfigured).finish cOk 0) := by
  have hmode : s.testLeft.mode = .test := (congrArg ModeCtl.mode s.ctl_testLeft).trans hm
  refine congrArg Host.Outcome.next ((State.running_of_executing (State.executing_of_exec hx hop) _).trans ?_)
  rw [← State.enterMode_of_run (by rw [hmode]; decide) (by decide) (by decide) (by decide), State.testLeft]

/-! ENTER_SLEEP (R58, R594). -/

/-- The command that a module tells of before `f` runs. -/
theorem State.finishBefore_of_exec (hx : s.ctl.exec = some c) (f : State → State) :
    s.finishBefore f = (f ({ s with ctl := { s.ctl with exec := none } }.respond c cOk 0)).settle := by
  rw [State.finishBefore, hx]

/-- SLEEP is entered: wakes that fired meanwhile are taken note of, and leave their causes with the channels. -/
def State.fallAsleep (s : State) : State :=
  (({ s with ctl := { s.ctl with wakePending := false, wakeFired := [] } }.changeMode .sleep).each s.ctl.wakeFired)
    fun e s => s.upLane e.1 fun l => { l with wakeCause := e.2 }

/-- The state that the mode changes in: the link is out of L1, the handshake made and the host told. -/
def State.sleepTold (c : Cmd) (s : State) : State :=
  let s := s.l1Leave.sleepShake
  { s with ctl := { s.ctl with exec := none } }.respond c cOk 0

theorem State.ctl_sleepTold (c : Cmd) (s : State) : (s.sleepTold c).ctl = { s.ctl with exec := none } := by
  have hctl : s.l1Leave.sleepShake.ctl = s.ctl :=
    (State.sleepShake_k (m := 0x20000038000008) _ rfl (State.l1Leave_k s rfl (Kept.refl _ s))).same .ctl rfl
  simp [State.sleepTold, hctl]

theorem exec_enterSleep_of_standby (hx : s.ctl.exec = some c) (hop : c.opcode = 6) (hm : s.mode = .standby) :
    exec .enterSleep s = .next (if s.ctl.wakePending then (s.sleepTold c).fallAsleep.wake
      else (s.sleepTold c).fallAsleep).settle := by
  have hctl : s.l1Leave.sleepShake.ctl = s.ctl :=
    (State.sleepShake_k (m := 0x20000038000008) _ rfl (State.l1Leave_k s rfl (Kept.refl _ s))).same .ctl rfl
  have hx' : s.l1Leave.sleepShake.ctl.exec = some c := by rw [hctl]; exact hx
  have htold := s.ctl_sleepTold c
  have hmode : ({ s.sleepTold c with ctl := { (s.sleepTold c).ctl with wakePending := false, wakeFired := [] } } :
      State).mode = .standby := (congrArg ModeCtl.mode htold).trans hm
  have hfired : (s.sleepTold c).ctl.wakePending = s.ctl.wakePending := by rw [htold]
  refine congrArg Host.Outcome.next ((State.running_of_executing (State.executing_of_exec hx hop) _).trans ?_)
  rw [State.finishBefore_of_exec hx', State.fallAsleep,
    ← State.enterMode_of_run (by rw [hmode]; decide) (by decide) (by decide) (by decide), ← hfired]
  rfl

theorem State.fallAsleep_kept (s : State) :
    s.fallAsleep.ctl = { s.ctl with mode := .sleep, prev := s.mode, wakePending := false, wakeFired := [] } := by
  rw [State.fallAsleep, State.each_same State.ctl _ fun e u => by simp [State.upLane]]
  rw [State.ctl_changeMode]
  rfl

theorem State.fallAsleep_discards (hm : s.mode = .standby) : s.fallAsleep.shared = [] ∧ s.fallAsleep.transit = [] := by
  have h := State.changeMode_sleep
    (s := { s with ctl := { s.ctl with wakePending := false, wakeFired := [] } }) hm
  rw [State.fallAsleep, State.each_same State.shared _ fun e u => by simp [State.upLane],
    State.each_same State.transit _ fun e u => by simp [State.upLane]]
  exact h

theorem State.ctl_wake (hm : s.mode = .sleep) :
    s.wake.ctl = { s.ctl with wokeAt := some s.beacon.raw, mode := .standby, prev := .sleep } := by
  have hmode : ({ s with ctl := { s.ctl with wokeAt := some s.beacon.raw } } : State).mode = .sleep := hm
  rw [State.wake, if_pos (by simp [hm]), State.enterMode_of_run (by rw [hmode]; decide) (by decide) (by decide)
    (by decide), State.ctl_changeMode, hmode]

/-! MODULE_RESET (R62, R70, R419). -/

theorem State.ctl_abortWork (hx : s.ctl.exec = none) :
    s.abortWork.ctl = { s.ctl with reconfig := 0, holdEnded := 0 } := by
  unfold State.abortWork
  extract_lets s1 keep kept s2
  have h1 : s1.ctl = s.ctl := by
    unfold s1
    split
    · exact (State.resetWindows_k (m := 0x2953F67FF0FFD8) 4 _ rfl
        (State.dropStructure_k false s rfl (Kept.refl _ s))).same .ctl rfl
    · refine State.each_same State.ctl _ (fun c u => ?_) s
      exact State.ite_same State.ctl
        ((State.dropCluster_k (m := 0x1539400708818) c u rfl (Kept.refl _ u)).same .ctl rfl)
  have h2 : s2.ctl = s.ctl := h1
  split
  next c hc => rw [h2, hx] at hc; cases hc
  next =>
    change ({ s2.ctl with reconfig := 0, holdEnded := 0 } : ModeCtl) = _
    rw [h2]

/-- A cold reset takes the executor to its reset state in the new mode, with the commands that wait. -/
theorem State.coldReset_kept (m : Mode) (s : State) :
    (s.coldReset m).ctl = { ModeCtl.reset with mode := m, prev := s.mode, waiting := s.ctl.waiting } ∧
      (s.coldReset m).struct = none ∧ (s.coldReset m).mem = [] := by
  have hkept : Kept 0x1C1814000C0008 (s.blank m) (s.coldReset m) := by
    refine State.applyHealth_k _ _ rfl (Kept.each _ _ (fun e u => ?_) (Kept.each _ _ (fun e u => ?_)
      (Kept.each _ _ (fun o u => ?_) (Kept.refl _ _))))
    all_goals exact State.wr_k _ _ u rfl (Kept.refl _ u)
  exact ⟨hkept.same .ctl rfl, hkept.same .structure_ rfl, hkept.same .mem rfl⟩

/-- The module as MODULE_RESET leaves it before what waited is judged. -/
def State.broughtUp (s : State) : State :=
  ((((s.abortWork).modRecord 5 3 s.abortWork.mode.code).closeSession.coldReset .bringUp).beaconRestart).newChallenge

theorem State.enterMode_bringUp (hm : s.mode ≠ .bringUp) : s.enterMode .bringUp = s.broughtUp.settle := by
  unfold State.enterMode
  exact if_neg (by simpa using hm)

theorem State.broughtUp_kept (hx : s.ctl.exec = none) (hw : s.ctl.waiting = []) :
    s.broughtUp.ctl = { ModeCtl.reset with mode := .bringUp, prev := s.mode } ∧ s.broughtUp.struct = none ∧
      s.broughtUp.mem = [] ∧ s.broughtUp.beacon.running = true ∧ s.broughtUp.beacon.raw = 0 := by
  let u := (s.abortWork.modRecord 5 3 s.abortWork.mode.code).closeSession
  have hu : u.ctl = { s.ctl with reconfig := 0, holdEnded := 0 } := by
    rw [← State.ctl_abortWork hx]
    exact (State.closeSession_k (m := 0x2210003C000008) _ rfl
      (State.modRecord_k 5 3 _ _ rfl (Kept.refl _ _))).same .ctl rfl
  obtain ⟨hctl, hstruct, hmem⟩ := State.coldReset_kept .bringUp u
  have hkept : Kept 0x62001100000000 (u.coldReset .bringUp) s.broughtUp :=
    State.newChallenge_k _ rfl (State.beaconRestart_k _ rfl (Kept.refl _ _))
  refine ⟨(hkept.same .ctl rfl).trans ?_, (hkept.same .structure_ rfl).trans hstruct,
    (hkept.same .mem rfl).trans hmem, ?_⟩
  · rw [hctl, State.mode, hu]
    simp [hw, State.mode, ModeCtl.reset]
  · have hbeacon : s.broughtUp.beacon = (u.coldReset .bringUp).beaconRestart.beacon :=
      (State.newChallenge_k (m := 0x42000000000000) _ rfl (Kept.refl _ _)).same .beacon rfl
    rw [hbeacon]
    exact State.beaconRestart_clock _

theorem exec_moduleReset_of_granted (hx : s.ctl.exec = some c) (hop : c.opcode = 11)
    (hm : s.mode ≠ .bringUp) (hcause : s.mode = .faultHold → s.ctl.causePresent = false) :
    exec .moduleReset s =
      .next ({ s with ctl := { s.ctl with exec := none } }.respond c cOk 0).broughtUp.settle.settle := by
  have hctl : ({ s with ctl := { s.ctl with exec := none } }.respond c cOk 0).ctl = { s.ctl with exec := none } := by
    simp
  have hgrant : (s.mode == .faultHold && s.ctl.causePresent) = false := by
    by_cases h : s.mode = .faultHold <;> simp [h, hcause]
  refine congrArg Host.Outcome.next ((State.running_of_executing (State.executing_of_exec hx hop) _).trans
    ((if_neg (by simp [hgrant])).trans ?_))
  rw [State.finishBefore_of_exec hx, State.enterMode_bringUp]
  rw [State.mode, hctl]
  exact hm

end

end Sys2Proof.Machine

section
open Sys2Proof Sys2Proof.Machine

/-- Settles O9: a change of mode sets the mode and leaves the executor's other fields, so that only the completion
frees it; a cold reset sets all of them. -/
theorem modeCommands : Obligations.ModeCommands := by
  unfold Obligations.ModeCommands
  refine fun s c hx hw => ⟨fun hop hm => ?standby, fun hop hm => ?resume, fun hop hm hwake => ?sleep,
    fun hop hm hwake => ?woken, fun hop hm hcell => ?service, fun hop hm => ?leaveService,
    fun hop hm hcell => ?test, fun hop hm => ?leaveTest, fun hop hm hcause => ?reset⟩
  case standby => exact ⟨_, exec_enterStandby_of_ne hx hop hm, State.ctl_changeMode_finish _ rfl hx hw⟩
  case resume =>
    refine ⟨_, exec_resume_of_standby hx hop hm, ?_⟩
    beta_reduce
    rw [State.ctl_changeMode_finish _ rfl hx hw, hm]
  case sleep =>
    have htold := s.ctl_sleepTold c
    have hmode : (s.sleepTold c).mode = .standby := (congrArg ModeCtl.mode htold).trans hm
    have hslept := State.fallAsleep_kept (s := s.sleepTold c)
    rw [htold, hmode] at hslept
    obtain ⟨hshared, htransit⟩ := State.fallAsleep_discards (s := s.sleepTold c) hmode
    refine ⟨_, exec_enterSleep_of_standby hx hop hm, ?_⟩
    beta_reduce
    rw [if_neg (by simp [hwake]), State.settle_of_free (by rw [hslept]) (by rw [hslept]; exact hw), hslept]
    exact ⟨by rw [← hwake], hshared, htransit⟩
  case woken =>
    have htold := s.ctl_sleepTold c
    have hslept := State.fallAsleep_kept (s := s.sleepTold c)
    rw [htold] at hslept
    have hwoke := State.ctl_wake (s := (s.sleepTold c).fallAsleep) (by rw [State.mode, hslept])
    rw [hslept] at hwoke
    refine ⟨_, exec_enterSleep_of_standby hx hop hm, ?_⟩
    beta_reduce
    rw [if_pos hwake, State.settle_of_free (by rw [hwoke]) (by rw [hwoke]; exact hw), State.mode, hwoke]
    exact ⟨rfl, rfl, rfl, rfl⟩
  case service => exact ⟨_, exec_enterService_of_cell hx hop hm hcell, State.ctl_changeMode_finish _ rfl hx hw⟩
  case leaveService =>
    refine ⟨_, exec_leaveService_of_service hx hop hm, ?_⟩
    have hctl := (State.ctl_returnedEngines _).trans
      (State.ctl_changeMode (if s.struct.isSome then s.runMode else .unconfigured) s)
    beta_reduce
    rw [State.ctl_finish (c := c) (by rw [hctl]; exact hx) (by rw [hctl]; exact hw), hctl, hm]
  case test => exact ⟨_, exec_enterTest_of_cell hx hop hm hcell, State.ctl_changeMode_finish _ rfl hx hw⟩
  case leaveTest =>
    refine ⟨_, exec_leaveTest_of_test hx hop hm, ?_, ?_, ?_⟩
    · rw [State.ctl_changeMode_finish _ s.ctl_testLeft hx hw, hm]
    · have hstruct : ∀ u : State, ((u.changeMode .unconfigured).finish cOk 0).struct = u.struct := fun u => by simp
      rw [hstruct]
      exact (State.beaconAnew_kept _).2.trans (State.dropStructure_struct false s)
    · rw [State.beacon_finish, State.raw_changeMode]
      exact State.raw_beaconAnew _
  case reset =>
    have htold : ({ s with ctl := { s.ctl with exec := none } }.respond c cOk 0).ctl = { s.ctl with exec := none } := by
      simp
    obtain ⟨hctl, hleft⟩ := State.broughtUp_kept (s := { s with ctl := { s.ctl with exec := none } }.respond c cOk 0)
      (by rw [htold]) (by rw [htold]; exact hw)
    refine ⟨_, exec_moduleReset_of_granted hx hop hm hcause, ?_⟩
    have hsettle := State.settle_of_free (s := ({ s with ctl := { s.ctl with exec := none } }.respond c cOk 0).broughtUp)
      (by rw [hctl]; rfl) (by rw [hctl]; rfl)
    rw [hsettle, hsettle]
    refine ⟨hctl.trans ?_, hleft⟩
    rw [State.mode, htold]
    rfl

end

namespace Sys2Proof.Machine
open Sys2Proof

/-! ### One channel of the line -/

@[simp] theorem State.lane_upLane (n m : Nat) (f : BusLane → BusLane) (s : State) :
    (s.upLane n f).lane m = if m = n then f (s.lane n) else s.lane m := State.lane_setLane ..

@[simp] theorem State.setLane_setLane (n : Nat) (a b : BusLane) (s : State) :
    (s.setLane n a).setLane n b = s.setLane n b :=
  congrArg (fun t => { s with bus := t }) (Tbl.set_set _ _ _ _ _)

theorem State.lane_of_bus_eq {s t : State} (h : t.bus = s.bus) (m : Nat) : t.lane m = s.lane m :=
  congrArg (Tbl.get (fun _ => BusLane.reset) · m) h

@[simp] theorem State.lane_raise (b : Blk) (i unit info : Nat) (s : State) (m : Nat) :
    (s.raise b i unit info).lane m = s.lane m := State.lane_of_bus_eq (by simp) m

theorem State.laneSet_setLane (n : Nat) (l : BusLane) (s : State) : LaneSet n l s (s.setLane n l) :=
  ⟨by simp, fun m hm => by simp [hm]⟩

theorem laneSet_of_bus_eq {n : Nat} {l : BusLane} {s t u : State} (h : LaneSet n l s u) (ht : t.bus = u.bus) :
    LaneSet n l s t := by
  obtain ⟨hn, hothers⟩ := h
  exact ⟨(State.lane_of_bus_eq ht n).trans hn, fun m hm => (State.lane_of_bus_eq ht m).trans (hothers m hm)⟩

theorem laneSet_raise {n : Nat} {l : BusLane} {s t : State} (h : LaneSet n l s t) (b : Blk) (i unit info : Nat) :
    LaneSet n l s (t.raise b i unit info) := laneSet_of_bus_eq h (by simp)

theorem raised_raise (b : Blk) (i unit info : Nat) {s t : State} (h : t.rd b.evtOff = s.rd b.evtOff) :
    Raised b i s (t.raise b i unit info) := by
  rw [Raised, State.rd_raise, if_pos rfl, h]

/-! ### BUS[n]_CTRL (R192, R194) -/

/-- A word of a channel's window lies where Table 5-11 puts it, the event registers apart. -/
theorem Reg.ofOff_busWindow {n d : Nat} {r : BusReg} (hn : n < 40) (hd : d < 0x10000) (ha : d % 4 = 0)
    (hevt : evtAt (.bus n) d 0x30 = none) (hr : BusReg.ofOff d = some r) :
    Reg.ofOff (busBase n + d) = some (.bus n r) := by
  have hoff : busBase n + d = 0x1000000 + n / 10 * 0x400000 + n % 10 * 0x10000 + d := by
    unfold busBase clusterBase; omega
  have hdiv : (busBase n + d - 0x1000000) / 0x400000 = n / 10 := by omega
  have hmod : (busBase n + d - 0x1000000) % 0x400000 = n % 10 * 0x10000 + d := by omega
  have hlane : 10 * (n / 10) + (n % 10 * 0x10000 + d) / 0x10000 = n := by omega
  have hword : (n % 10 * 0x10000 + d) % 0x10000 = d := by omega
  rw [Reg.ofOff, if_neg (by omega), if_neg (by omega), if_neg (by omega), if_neg (by omega), if_neg (by omega),
    if_pos (by omega), hdiv, hmod, Reg.ofCluster, if_pos (by omega)]
  simp only [hlane, hword, hevt, hr, Option.map_some]

theorem Reg.ofOff_busCtrl {n : Nat} (hn : n < 40) : Reg.ofOff (busBase n + 4) = some (.bus n .ctrl) :=
  Reg.ofOff_busWindow hn (by decide) (by decide) rfl rfl

section
variable {s : State} {n : Nat}

theorem exec_busCtrlRecover (yw : Bool) (hn : n < 40) (ho : s.open_ (busBase n + 4) = true) :
    exec (.busCtrlRecover yw n) s =
      .next (if s.mode.run then s.hostRecover n else s.mgReject (busBase n + 4)) := by
  refine congrArg Host.Outcome.next ((State.writeWord_of_open _ 1 (Reg.ofOff_busCtrl hn) ho).trans ?_)
  change s.gate Mode.run (busBase n + 4) (fun s => if bit 1 0 then s.hostRecover n else s) = _
  rfl

theorem State.maySend_idle (h : s.maySend n = true) : (s.lane n).ctl = .idle := by
  simp only [State.maySend, Bool.and_eq_true, beq_iff_eq] at h
  exact h.1.1.1

/-- A record whose read finds nothing is loaded into a free slot (R246). -/
theorem State.slotLoad_clean {k i : Nat} {rest : List Nat} (hready : (s.lane n).ready = i :: rest) (hk : k < 32)
    (hfree : (s.lane n).slot k = none) :
    s.slotLoad n k .clean = (s.setLane n { s.lane n with
        ready := rest, order := (s.lane n).order + 1,
        slots := { index := k, desc := i, order := (s.lane n).order, parked := false, clashRun := 0, fails := 0,
                   launch := (s.desc i).job.launch, window := (s.desc i).job.window } :: (s.lane n).slots }).setDesc i
      { s.desc i with state := .loaded, slot := some k } := by
  have hroom : ¬(32 ≤ k || ((s.lane n).slot k).isSome) = true := by simp [hfree, hk]
  unfold State.slotLoad
  dsimp only
  rw [hready]
  dsimp only
  rw [if_neg hroom]
  change ((s.setLane n _).setLane n _).setDesc i _ = _
  rw [State.setLane_setLane]

end

end Sys2Proof.Machine

section
open Sys2Proof Sys2Proof.Machine

/-- Settles O32: each row is one change of its channel, behind the guard on the channel's state. -/
theorem channelStates : Obligations.ChannelStates := by
  unfold Obligations.ChannelStates
  intro s n k yw l
  refine ⟨fun h => ?integrated, fun h => ?notIntegrating, fun h hmode => ?delayed, fun h hmode ho hrun hn => ?recover,
    fun ho hrun hn => ?shut, fun h hrec => ?busOn, fun h => ?notRecovering, fun x hsend href hslot => ?chosen,
    fun hsend => ?silent, fun i rest hready hk hfree => ?load, fun ecc hready => ?nothing⟩
  case integrated => exact congrArg Host.Outcome.next (if_pos (beq_iff_eq.2 h))
  case notIntegrating => exact congrArg Host.Outcome.next (if_neg (mt beq_iff_eq.1 h))
  case delayed =>
    have hgo : ((s.lane n).ctl == .recovering && s.rf (busBase n) 22 2 == 1) = true := by
      rw [show (s.lane n).ctl = .recovering from h, hmode]; rfl
    exact congrArg Host.Outcome.next (if_pos hgo)
  case recover =>
    have hgo : ((s.lane n).ctl == .recovering && s.rf (busBase n) 22 2 == 2) = true := by
      rw [show (s.lane n).ctl = .recovering from h, hmode]; rfl
    rw [exec_busCtrlRecover yw hn ho, if_pos hrun]
    exact congrArg Host.Outcome.next (if_pos hgo)
  case shut => rw [exec_busCtrlRecover yw hn ho, if_neg (by simp [hrun])]
  case busOn =>
    have hgo : ((s.lane n).ctl == .recovering && (s.lane n).recovering) = true := by
      rw [show (s.lane n).ctl = .recovering from h, show (s.lane n).recovering = true from hrec]; rfl
    refine ⟨_, congrArg Host.Outcome.next (if_pos hgo), laneSet_raise (State.laneSet_setLane n _ s) _ _ _ _,
      raised_raise _ _ _ _ rfl⟩
  case notRecovering =>
    have hstay : ¬((s.lane n).ctl == .recovering && (s.lane n).recovering) = true := by
      rcases h with h | h
      · simp [show (s.lane n).ctl ≠ .recovering from h]
      · simp [show (s.lane n).recovering = false from h]
    exact congrArg Host.Outcome.next (if_neg hstay)
  case chosen =>
    refine congrArg Host.Outcome.next ((if_neg (by simp [hsend])).trans ?_)
    rw [href]
    dsimp only
    rw [hslot]
    rfl
  case silent => exact congrArg Host.Outcome.next (if_pos (by simp [hsend]))
  case load => exact congrArg Host.Outcome.next (State.slotLoad_clean hready hk hfree)
  case nothing =>
    refine congrArg Host.Outcome.next (?_ : s.slotLoad n k ecc = s)
    unfold State.slotLoad
    dsimp only
    rw [show (s.lane n).ready = [] from hready]

end

namespace Sys2Proof.Machine
open Sys2Proof

/-! ### Frames that end on a channel: SIGCFG, LIMITS and the early warning (R158, R189, R216) -/

/-- Channel `l` as a frame's end takes it, no write having come since the start-of-frame: the words are those of now. -/
def BusLane.framed (l : BusLane) (sigcfg limits : Word) : BusLane :=
  { l with sigcfg := sigcfg, limits := limits, hist := [],
           ew := l.ew && (fld limits 16 8 ≤ l.tec || fld limits 16 8 ≤ l.recv) }

theorem State.frameEnds_of_no_write {s : State} {n : Nat} (age : Nat) (h : (s.lane n).hist = []) :
    s.frameEnds n age =
      s.setLane n ((s.lane n).framed (s.rd (busBase n + 0x114)) (s.rd (busBase n + 0x10))) := by
  unfold State.frameEnds State.upLane
  simp only [h, wordAtSof, List.foldl_nil]
  rfl

@[simp] theorem State.upLane_setLane (n : Nat) (f : BusLane → BusLane) (l : BusLane) (s : State) :
    (s.setLane n l).upLane n f = s.setLane n (f l) := by
  rw [State.upLane, State.lane_setLane, if_pos rfl, State.setLane_setLane]

@[simp] theorem State.rd_setLane (n : Nat) (l : BusLane) (s : State) (o : Nat) : (s.setLane n l).rd o = s.rd o := rfl

@[simp] theorem State.rb_setLane (n : Nat) (l : BusLane) (s : State) (o j : Nat) :
    (s.setLane n l).rb o j = s.rb o j := rfl

@[simp] theorem State.rf_setLane (n : Nat) (l : BusLane) (s : State) (o lo len : Nat) :
    (s.setLane n l).rf o lo len = s.rf o lo len := rfl

theorem State.countBus_setLane (n m i : Nat) (l : BusLane) (s : State) :
    (s.setLane n l).countBus m i = (s.countBus m i).setLane n l := by
  have hwr (o : Nat) (w : Word) : (s.setLane n l).wr o w = (s.wr o w).setLane n l := rfl
  unfold State.countBus State.cnt
  rw [State.rd_setLane, hwr]

@[simp] theorem State.lane_countBus (n m i : Nat) (s : State) : (s.countBus n i).lane m = s.lane m :=
  State.lane_of_bus_eq (by simp [State.countBus]) m

theorem State.rd_countBus (n i o : Nat) (s : State) :
    (s.countBus n i).rd o = if o = busBase n + 0x40 + 4 * i then
      wd (satAdd (2 ^ 32 - 1) (s.rd (busBase n + 0x40 + 4 * i)).toNat 1) else s.rd o := State.rd_wr ..

theorem State.countBus_frame (n i : Nat) (s : State) : s.countBus n i = { s with regs := (s.countBus n i).regs } := by
  have hwr (o : Nat) (w : Word) : s.wr o w = { s with regs := (s.wr o w).regs } := rfl
  unfold State.countBus State.cnt
  exact hwr _ _

theorem State.countBus_setLane_frame (n i : Nat) (l : BusLane) (s : State) :
    (s.countBus n i).setLane n l =
      { s with bus := ((s.countBus n i).setLane n l).bus, regs := ((s.countBus n i).setLane n l).regs } := by
  rw [State.countBus_frame]
  rfl

theorem State.laneSet_setLane_of_bus_eq {n : Nat} {s u : State} (h : u.bus = s.bus) (l : BusLane) :
    LaneSet n l s (u.setLane n l) :=
  ⟨by simp, fun m hm => by rw [State.lane_setLane, if_neg hm, State.lane_of_bus_eq h]⟩

theorem State.bus_countBus (n i : Nat) (s : State) : (s.countBus n i).bus = s.bus := by simp [State.countBus]

theorem State.laneSet_countBus (n i : Nat) (l : BusLane) (s : State) :
    LaneSet n l s ((s.countBus n i).setLane n l) :=
  State.laneSet_setLane_of_bus_eq (State.bus_countBus n i s) l

theorem State.regSet_countBus (n i : Nat) (l : BusLane) (s : State) :
    RegSet (busBase n + 0x40 + 4 * i) (wd (satAdd (2 ^ 32 - 1) (s.rd (busBase n + 0x40 + 4 * i)).toNat 1)) s
      ((s.countBus n i).setLane n l) :=
  ⟨by rw [State.rd_setLane, State.rd_countBus, if_pos rfl],
    fun o ho => by rw [State.rd_setLane, State.rd_countBus, if_neg ho]⟩

/-- A timeline's change stands beside the channel's and the registers'. -/
theorem laneSet_setTl {n : Nat} {l : BusLane} {s u : State} (tl : Timeline) (h : LaneSet n l s (u.setLane n l)) :
    LaneSet n l s ((u.setTl n tl).setLane n l) := h

theorem regSet_setTl {off n : Nat} {w : Word} {l : BusLane} {s u : State} (tl : Timeline)
    (h : RegSet off w s (u.setLane n l)) : RegSet off w s ((u.setTl n tl).setLane n l) := h

theorem State.rd_countBus_of_lt {n i o : Nat} (s : State) (h : o < busBase n + 0x40) : (s.countBus n i).rd o = s.rd o := by
  rw [State.rd_countBus, if_neg (by omega)]

theorem State.rb_countBus_mode (n i j : Nat) (s : State) : (s.countBus n i).rb (busBase n) j = s.rb (busBase n) j :=
  congrArg (bit · j) (State.rd_countBus_of_lt s (by omega))

theorem State.countsErrors_countBus (n i : Nat) (s : State) : (s.countBus n i).countsErrors n = s.countsErrors n := by
  have h := State.rd_countBus_of_lt (n := n) (i := i) (o := busBase n) s (by omega)
  simp only [State.countsErrors, State.opMode, State.esOff, State.rf, State.rb, h]

theorem State.countsErrors_iff {s : State} {n : Nat} :
    s.countsErrors n = true ↔ s.opMode n = 0 ∧ s.esOff n = false := by
  simp [State.countsErrors]

/-! ### Error counts below every limit (R187 to R190) -/

section
variable {l : BusLane} {n : Nat} {u : State}

/-- Below ew_limit a change of the counts leaves no warning. -/
theorem State.warn_below (htec : l.tec < fld l.limits 16 8) (hrec : l.recv < fld l.limits 16 8) :
    (u.setLane n l).warn n = u.setLane n { l with ew := false } := by
  have hlim : (u.setLane n l).ewLimit n = fld l.limits 16 8 := by simp [State.ewLimit]
  unfold State.warn
  simp only [hlim, State.lane_setLane, if_true, State.setLane_setLane]
  exact if_neg (by simp [htec, hrec])

/-- In ERROR ACTIVE below every limit the state of confinement stays. -/
theorem State.confine_active (hconf : l.conf = .active) (htec : l.tec < fld l.limits 16 8)
    (hrec : l.recv < fld l.limits 16 8) (htec' : l.tec < 128) (hrec' : l.recv < 128) :
    (u.setLane n l).confine n = u.setLane n { l with ew := false } := by
  unfold State.confine
  rw [State.warn_below htec hrec]
  simp only [State.lane_setLane, if_true]
  rw [if_neg (by omega), if_neg (by simp [htec', hrec']), if_neg (by simp [hconf])]

theorem State.bumpRec_active {d : Nat} (hconf : l.conf = .active) (htec : l.tec < fld l.limits 16 8)
    (hrec : l.recv + d < fld l.limits 16 8) (htec' : l.tec < 128) (hrec' : l.recv + d < 128) :
    (u.setLane n l).bumpRec n d = u.setLane n { l with recv := l.recv + d, ew := false } := by
  have hsat : satAdd 255 l.recv d = l.recv + d := if_pos (by omega)
  unfold State.bumpRec
  simp only [State.lane_setLane, if_true, State.setLane_setLane, hsat]
  rw [if_neg (by simp [hconf])]
  exact State.confine_active (l := { l with recv := l.recv + d }) hconf htec hrec htec' hrec'

theorem State.bumpTec_active {d : Nat} (hconf : l.conf = .active) (htec : l.tec + d < fld l.limits 16 8)
    (hrec : l.recv < fld l.limits 16 8) (htec' : l.tec + d < 128) (hrec' : l.recv < 128) :
    (u.setLane n l).bumpTec n d = u.setLane n { l with tec := l.tec + d, ew := false } := by
  unfold State.bumpTec
  simp only [State.lane_setLane, if_true, State.setLane_setLane]
  rw [if_neg (by simp [hconf])]
  exact State.confine_active (l := { l with tec := l.tec + d }) hconf htec hrec htec' hrec'

end

/-! ### An error of a channel that counts errors, up to its end (R173, R186, R196) -/

/-- The counter of Table 5-17 that an error of kind `k` counts in. -/
def faultCounter (k : Nat) : Nat := if k = 1 then 3 else if k = 2 then 4 else if k = 3 then 6 else if k = 6 then 5 else 2

section
variable {s u : State} {l : BusLane} {n k : Nat}

/-- With no measurement there is no signature, whatever the sampler's mode (R137). -/
theorem State.sampled_none (s : State) (n : Nat) : s.sampled n ⟨none, none, none⟩ = ⟨none, none, none⟩ := by
  unfold State.sampled
  split
  · rfl
  · simp [State.measured]

theorem State.countBus_esOff (n i : Nat) (s : State) : (s.countBus n i).esOff n = s.esOff n :=
  State.rb_countBus_mode n i 27 s

@[simp] theorem State.countsErrors_setLane (n : Nat) (l : BusLane) (s : State) :
    (s.setLane n l).countsErrors n = s.countsErrors n := rfl

@[simp] theorem State.esOff_setLane (n : Nat) (l : BusLane) (s : State) : (s.setLane n l).esOff n = s.esOff n := rfl

/-- What follows the count of an error by its kind. -/
def State.faultNoted (n : Nat) (tx : Bool) (e : BusFault) (s : State) : State :=
  let s := if s.esOff n then s.countBus n 10 else s
  let s := s.upLane n fun l => { l with lec := e.kind, sentLast := tx }
  let s := if tx then s else s.failedSig n e
  if s.countsErrors n then s.errorRules n tx e else s

theorem State.noteError_counts (tx : Bool) (e : BusFault) (s : State) :
    s.noteError n tx e = (s.countBus n (faultCounter e.kind)).faultNoted n tx e := rfl

theorem State.faultNoted_eq (tx : Bool) (hc : u.countsErrors n = true) :
    (u.setLane n l).faultNoted n tx (BusFault.plain k []) =
      (let t := u.setLane n { l with lec := k, sentLast := tx }
       if tx then t else t.failedSig n (BusFault.plain k [])).errorRules n tx (BusFault.plain k []) := by
  have hes : (u.setLane n l).esOff n = false := (State.countsErrors_iff.1 hc).2
  unfold State.faultNoted
  cases tx <;> simp [hes, State.failedSig, hc, BusFault.plain]

/-- What an error leaves before its rules: it is counted, and its code kept. -/
theorem State.noteError_eq (tx : Bool) (hc : u.countsErrors n = true) :
    (u.setLane n l).noteError n tx (BusFault.plain k []) =
      (let t := (u.countBus n (faultCounter k)).setLane n { l with lec := k, sentLast := tx }
       if tx then t else t.failedSig n (BusFault.plain k [])).errorRules n tx (BusFault.plain k []) := by
  rw [State.noteError_counts, State.countBus_setLane]
  exact State.faultNoted_eq tx ((State.countsErrors_countBus ..).trans hc)

/-- A receiver adds 1 to its receive count (rule 1 of Table 5-5). -/
theorem State.noteError_receiver (hk : k ≠ 0) (hc : u.countsErrors n = true) (hconf : l.conf = .active)
    (htec : l.tec < fld l.limits 16 8) (hrec : l.recv + 1 < fld l.limits 16 8) (htec' : l.tec < 128)
    (hrec' : l.recv + 1 < 128) :
    (u.setLane n l).noteError n false (BusFault.plain k []) = (u.countBus n (faultCounter k)).setLane n
      { l with lec := k, sentLast := false, sig := ⟨none, none, none⟩, recv := l.recv + 1, ew := false } := by
  have hsig : (if k = 2 then (BusFault.plain k []).sig else { (BusFault.plain k []).sig with d := none }) =
      ⟨none, none, none⟩ := by split <;> rfl
  rw [State.noteError_eq false hc]
  simp only [Bool.false_eq_true, if_false, State.failedSig]
  rw [show (BusFault.plain k []).kind = k from rfl, hsig, State.sampled_none, State.upLane_setLane]
  unfold State.errorRules
  simp only [BusFault.plain, hk, if_false, Bool.false_eq_true, State.each, List.foldl_nil]
  exact State.bumpRec_active (l := { l with lec := k, sentLast := false, sig := ⟨none, none, none⟩ }) hconf htec hrec
    htec' hrec'

/-- A transmitter adds 8 to its transmit count (rule 3 of Table 5-5). -/
theorem State.noteError_transmitter (hk : k ≠ 0) (hack : k ≠ 3) (hc : u.countsErrors n = true) :
    (u.setLane n l).noteError n true (BusFault.plain k []) =
      ((u.countBus n (faultCounter k)).setLane n { l with lec := k, sentLast := true }).bumpTec n 8 := by
  rw [State.noteError_eq true hc]
  generalize u.countBus n (faultCounter k) = v
  unfold State.errorRules
  simp [BusFault.plain, hk, hack, State.each]

theorem State.afterError_active (hconf : l.conf ≠ .busOff) (hc : u.countsErrors n = true) :
    (u.setLane n l).afterError n = u.setLane n { l with current := none, ctl := .idle } := by
  obtain ⟨hop, hes⟩ := State.countsErrors_iff.1 hc
  have hop' : (u.setLane n l).opMode n = 0 := hop
  unfold State.afterError
  simp only [State.lane_setLane, if_true, State.esOff_setLane, hes, hop']
  rw [if_neg (by simpa using hconf), State.setLane_setLane]
  rfl

theorem State.busError_of_onLine (hon : s.onLine n = true) (hk : 1 ≤ k) (hk' : k ≤ 6) :
    s.busError n (BusFault.plain k []) = s.frameError n (BusFault.plain k []) := by
  unfold State.busError
  rw [if_neg (by simp [hon, BusFault.plain, Nat.not_lt.2 hk']), if_neg (show (BusFault.plain k []).kind ≠ 0 by
    show k ≠ 0
    omega)]

theorem State.busError_of_offLine (hon : s.onLine n = false) (e : BusFault) : s.busError n e = s :=
  if_pos (by simp [hon])

/-- The frame of an error without a measured transmitter delay is none for R134. -/
theorem State.failedTdc_plain (f : Option Frame) : s.failedTdc n f (BusFault.plain k []) = (false, s) := by
  unfold State.failedTdc
  cases f <;> simp [BusFault.plain]

theorem State.frameError_plain (s : State) (n k : Nat) :
    s.frameError n (BusFault.plain k []) =
      (let tx := (s.lane n).ctl == .transmitting
       let u := (s.frameEnds n 0).noteError n tx (BusFault.plain k [])
       (if tx then u.txFailed n (if (s.tl n).refBusy then none else (s.lane n).current) (k == 3) else u).afterError n) := by
  have hclash (f : Option Frame) (slot : Option Nat) (u : State) :
      u.errorClash n f slot (BusFault.plain k []) = u := by
    unfold State.errorClash
    cases f <;> simp [BusFault.plain]
  unfold State.frameError
  dsimp only
  rw [show (BusFault.plain k []).age = 0 from rfl, State.failedTdc_plain]
  exact congrArg (fun u : State => (if (s.lane n).ctl == .transmitting then u.txFailed n _ (k == 3) else u).afterError n)
    (hclash _ _ _)

theorem State.onLine_of_ctl {s : State} {n : Nat} {c : CtlState} (h : (s.lane n).ctl = c)
    (hc : c = .idle ∨ c = .receiving ∨ c = .transmitting) : s.onLine n = true := by
  rcases hc with rfl | rfl | rfl <;> simp [State.onLine, h]

/-! ### The slot of a failed transmission (R184, R196, R197) -/

/-- A slot's index is what names it: changes of the slot that keep it are seen through it. -/
theorem BusLane.slot_upSlot {f : BusSlot → BusSlot} (hf : ∀ y, (f y).index = y.index) (k : Nat) (l : BusLane) :
    (l.upSlot k f).slot k = (l.slot k).map f := by
  unfold BusLane.slot BusLane.upSlot
  induction l.slots with
  | nil => rfl
  | cons y ys ih =>
    by_cases hy : y.index = k
    · simp [hy, hf]
    · simp [hy, ih]

theorem BusLane.index_of_slot {x : BusSlot} (h : l.slot k = some x) : x.index = k := by
  have := List.find?_some h
  simpa using this

/-- The channel after a failed attempt of slot `k` that stays loaded. -/
def BusLane.retrying (k : Nat) (l : BusLane) : BusLane :=
  l.ackOther.upSlot k fun x => { x with fails := x.fails + 1 }

theorem BusLane.slot_retrying (k : Nat) (l : BusLane) :
    (l.retrying k).slot k = (l.slot k).map fun x => { x with fails := x.fails + 1 } :=
  BusLane.slot_upSlot (l := l.ackOther) (f := fun x => { x with fails := x.fails + 1 }) (fun _ => rfl) k

theorem State.frameEnds_kept (n age : Nat) (s : State) :
    ∃ l, s.frameEnds n age = s.setLane n l ∧ l.conf = (s.lane n).conf ∧ l.tec = (s.lane n).tec ∧
      l.slots = (s.lane n).slots := ⟨_, rfl, rfl, rfl, rfl⟩

theorem State.upLane_upLane (n : Nat) (f g : BusLane → BusLane) (s : State) :
    (s.upLane n f).upLane n g = s.upLane n fun l => g (f l) := State.upLane_setLane ..

/-- A failed attempt that is no ACK error and not the slot's only one leaves it for another. -/
theorem State.txFailed_retries {x : BusSlot} (hx : (u.lane n).slot k = some x) (hes : u.esOff n = false)
    (hsingle : u.singleShot n x = false) :
    u.txFailed n (some k) false = (u.setTl n { u.tl n with refBusy := false }).upLane n (BusLane.retrying k) := by
  let v := u.setTl n { u.tl n with refBusy := false }
  have hslot : ((v.upLane n (BusLane.retrying k)).lane n).slot k = some { x with fails := x.fails + 1 } := by
    rw [State.lane_upLane, if_pos rfl, BusLane.slot_retrying, show (v.lane n).slot k = some x from hx]
    rfl
  have hsingle' : (v.upLane n (BusLane.retrying k)).singleShot n { x with fails := x.fails + 1 } = false := hsingle
  have hes' : (v.upLane n (BusLane.retrying k)).esOff n = false := hes
  have hlane : (((u.upLane n BusLane.ackOther).setTl n { (u.upLane n BusLane.ackOther).tl n with refBusy := false }).upLane
      n (BusLane.upSlot k fun x => { x with fails := x.fails + 1 })) = v.upLane n (BusLane.retrying k) :=
    State.upLane_upLane n BusLane.ackOther _ v
  unfold State.txFailed
  simp only [Bool.not_false, if_true]
  rw [hlane]
  rw [hslot]
  dsimp only
  rw [hsingle', hes']
  rfl

theorem State.txFailed_setLane {x : BusSlot} (hx : l.slot k = some x) (hes : u.esOff n = false)
    (hsingle : u.singleShot n x = false) :
    (u.setLane n l).txFailed n (some k) false =
      (u.setTl n { u.tl n with refBusy := false }).setLane n (l.retrying k) := by
  rw [State.txFailed_retries (u := u.setLane n l) (k := k) (x := x) (by simpa using hx) hes hsingle]
  exact State.upLane_setLane n (BusLane.retrying k) l (u.setTl n { u.tl n with refBusy := false })

/-! ### An error below every limit, whole -/

/-- The error of a receiver: its receive count, its code, and the channel idle. -/
theorem State.busError_receiver (hframed : s.frameEnds n 0 = s.setLane n l) (hctl : (s.lane n).ctl = .receiving)
    (hk : 1 ≤ k) (hk' : k ≤ 6) (hc : s.countsErrors n = true) (hconf : l.conf = .active)
    (htec : l.tec < fld l.limits 16 8) (hrec : l.recv + 1 < fld l.limits 16 8) (htec' : l.tec < 128)
    (hrec' : l.recv + 1 < 128) :
    s.busError n (BusFault.plain k []) = (s.countBus n (faultCounter k)).setLane n
      { l with recv := l.recv + 1, lec := k, ew := false, ctl := .idle, current := none, sig := ⟨none, none, none⟩,
               sentLast := false } := by
  have hrx : ((s.lane n).ctl == .transmitting) = false := by rw [hctl]; rfl
  rw [State.busError_of_onLine (State.onLine_of_ctl hctl (.inr (.inl rfl))) hk hk', State.frameError_plain, hrx,
    hframed]
  simp only [Bool.false_eq_true, if_false]
  rw [State.noteError_receiver (by omega) hc hconf htec hrec htec' hrec']
  exact State.afterError_active (l := { l with
      lec := k, sentLast := false, sig := ⟨none, none, none⟩, recv := l.recv + 1, ew := false })
    (by rw [show ({ l with lec := k, sentLast := false, sig := ⟨none, none, none⟩, recv := l.recv + 1,
                           ew := false } : BusLane).conf = .active from hconf]; decide)
    ((State.countsErrors_countBus ..).trans hc)

theorem State.singleShot_countBus (n i : Nat) (x : BusSlot) (s : State) :
    (s.countBus n i).singleShot n x = s.singleShot n x := by
  rw [State.singleShot, State.singleShot, State.rb_countBus_mode]

/-- What a transmission leaves that adds to its count below every limit: the slot kept for another attempt. -/
theorem State.txError_below {j : Nat} {x : BusSlot} (hc : u.countsErrors n = true) (hslot : l.slot j = some x)
    (hsingle : u.singleShot n x = false) (hconf : l.conf = .active) (htec : l.tec + 8 < fld l.limits 16 8)
    (hrec : l.recv < fld l.limits 16 8) (htec' : l.tec + 8 < 128) (hrec' : l.recv < 128) :
    (((u.setLane n l).bumpTec n 8).txFailed n (some j) false).afterError n =
      (u.setTl n { u.tl n with refBusy := false }).setLane n
        { ({ l with tec := l.tec + 8, ew := false } : BusLane).retrying j with current := none, ctl := .idle } := by
  have hconf' : (({ l with tec := l.tec + 8, ew := false } : BusLane).retrying j).conf ≠ .busOff := by
    rw [show (({ l with tec := l.tec + 8, ew := false } : BusLane).retrying j).conf = .active from hconf]
    decide
  rw [State.bumpTec_active hconf htec hrec htec' hrec',
    State.txFailed_setLane (l := { l with tec := l.tec + 8, ew := false }) hslot (State.countsErrors_iff.1 hc).2 hsingle]
  exact State.afterError_active (u := u.setTl n { u.tl n with refBusy := false }) hconf' hc

theorem State.frameError_transmitter {j : Nat} (hframed : s.frameEnds n 0 = s.setLane n l)
    (hctl : (s.lane n).ctl = .transmitting) (hk : k ≠ 0) (hack : k ≠ 3) (hc : s.countsErrors n = true)
    (href : (s.tl n).refBusy = false) (hcur : (s.lane n).current = some j) :
    s.frameError n (BusFault.plain k []) =
      ((((s.countBus n (faultCounter k)).setLane n { l with lec := k, sentLast := true }).bumpTec n 8).txFailed n (some j)
        false).afterError n := by
  have htx : ((s.lane n).ctl == .transmitting) = true := by rw [hctl]; rfl
  have hack' : (k == 3) = false := by simpa using hack
  rw [State.frameError_plain, htx, hframed, href, hcur]
  simp only [if_true, Bool.false_eq_true, if_false]
  rw [State.noteError_transmitter hk hack hc, hack']

/-! ### Bus-off (R191, R192) -/

/-- Between `s` and `t` channel `n` has gone bus-off, with its slots as they were; no other channel has changed. -/
structure WentOff (n : Nat) (s t : State) : Prop where
  conf : (t.lane n).conf = .busOff
  ctl : (t.lane n).ctl = .recovering
  tec : (t.lane n).tec = 256
  current : (t.lane n).current = none
  recovering : (t.lane n).recovering = (s.rf (busBase n) 22 2 == 0)
  slots : (t.lane n).slots = (s.lane n).slots
  event : t.rb (Blk.bus n).evtOff 2 = true
  mode : t.rd (busBase n) = s.rd (busBase n)
  others : ∀ m, m ≠ n → t.lane m = s.lane m

theorem State.rd_busBase_raise (n i unit info : Nat) (s : State) :
    (s.raise (.bus n) i unit info).rd (busBase n) = s.rd (busBase n) := by
  rw [State.rd_raise, if_neg (by show busBase n ≠ busBase n + 0x30; omega)]

theorem State.busOff_wentOff (n : Nat) (s : State) : WentOff n s (s.busOff n) := by
  unfold State.busOff
  refine ⟨?_, ?_, ?_, ?_, ?_, ?_, ?_, ?_, fun m hm => ?_⟩
  case refine_7 =>
    have hoff : (Blk.bus n).evtOff < busBase n + 0x40 := by show busBase n + 0x30 < _; omega
    rw [State.rb, State.rd_countBus_of_lt _ hoff]
    exact State.rb_raise_self _ _ _ _ (by decide)
  case refine_8 => rw [State.rd_countBus_of_lt _ (by omega), State.rd_busBase_raise]; rfl
  case refine_9 => rw [State.lane_countBus, State.lane_raise, State.lane_upLane, if_neg hm]
  all_goals rw [State.lane_countBus, State.lane_raise, State.lane_upLane, if_pos rfl]

/-- A change of the counts may set or clear the early warning, and nothing else of the channel. -/
theorem State.warn_kept (n : Nat) (s : State) :
    (∃ b, (s.warn n).lane n = { s.lane n with ew := b }) ∧ (∀ m, m ≠ n → (s.warn n).lane m = s.lane m) ∧
      (s.warn n).rd (busBase n) = s.rd (busBase n) := by
  unfold State.warn
  dsimp only
  split
  · split
    · exact ⟨⟨_, rfl⟩, fun m _ => rfl, rfl⟩
    · refine ⟨⟨true, by simp⟩, fun m hm => by simp [hm], ?_⟩
      rw [State.rd_busBase_raise]
      rfl
  · exact ⟨⟨false, by simp⟩, fun m hm => by simp [hm], rfl⟩

theorem State.confine_wentOff (htec : 255 < (s.lane n).tec) : WentOff n s (s.confine n) := by
  obtain ⟨⟨b, hlane⟩, hothers, hmode⟩ := s.warn_kept n
  have hoff := State.busOff_wentOff n (s.warn n)
  unfold State.confine
  rw [if_pos (by rw [hlane]; exact htec)]
  refine { hoff with recovering := ?_, slots := ?_, mode := hoff.mode.trans hmode, others := ?_ }
  · rw [hoff.recovering, State.rf, hmode, State.rf]
  · rw [hoff.slots, hlane]
  · exact fun m hm => (hoff.others m hm).trans (hothers m hm)

theorem State.bumpTec_wentOff {d : Nat} (hconf : l.conf ≠ .busOff) (htec : 255 < l.tec + d) :
    WentOff n (s.setLane n l) ((s.setLane n l).bumpTec n d) := by
  have hoff := State.confine_wentOff (s := s.setLane n { l with tec := l.tec + d }) (n := n) (by simpa using htec)
  unfold State.bumpTec
  simp only [State.lane_setLane, if_true, State.setLane_setLane]
  rw [if_neg (by simpa using hconf)]
  exact { hoff with
    slots := by rw [hoff.slots]; simp
    others := fun m hm => by rw [hoff.others m hm]; simp [hm] }

/-- What a failed attempt leaves of its slot does not change that the channel is bus-off. -/
theorem WentOff.txFailed {t : State} {x : BusSlot} (h : WentOff n s t) (hx : (s.lane n).slot k = some x)
    (hes : s.esOff n = false) (hsingle : s.singleShot n x = false) :
    let r := (t.txFailed n (some k) false).afterError n
    (r.lane n).conf = .busOff ∧ (r.lane n).ctl = .recovering ∧ (r.lane n).tec = 256 ∧ (r.lane n).current = none ∧
      (r.lane n).recovering = (s.rf (busBase n) 22 2 == 0) ∧ r.rb (Blk.bus n).evtOff 2 = true ∧
      ∀ m, m ≠ n → r.lane m = s.lane m := by
  have hslot : (t.lane n).slot k = some x := by rw [BusLane.slot, h.slots]; exact hx
  have hes' : t.esOff n = false := by rw [State.esOff, State.rb, h.mode]; exact hes
  have hsingle' : t.singleShot n x = false := by rw [State.singleShot, State.rb, h.mode]; exact hsingle
  let v := t.setTl n { t.tl n with refBusy := false }
  have hlane : (v.upLane n (BusLane.retrying k)).lane n = (t.lane n).retrying k := by
    rw [State.lane_upLane, if_pos rfl]
    rfl
  have hr : (t.txFailed n (some k) false).afterError n = v.upLane n (BusLane.retrying k) := by
    rw [State.txFailed_retries hslot hes' hsingle']
    refine if_pos ?_
    rw [hlane]
    exact beq_iff_eq.2 h.conf
  intro r
  rw [show r = _ from hr, hlane]
  refine ⟨h.conf, h.ctl, h.tec, h.current, h.recovering, h.event, fun m hm => ?_⟩
  rw [State.lane_upLane, if_neg hm]
  exact h.others m hm

/-- What a transmission leaves whose count goes beyond 255. -/
theorem State.txError_busOff {x : BusSlot} (hc : u.countsErrors n = true) (hslot : l.slot k = some x)
    (hsingle : u.singleShot n x = false) (hconf : l.conf ≠ .busOff) (htec : 255 < l.tec + 8) :
    let r := (((u.setLane n l).bumpTec n 8).txFailed n (some k) false).afterError n
    (r.lane n).conf = .busOff ∧ (r.lane n).ctl = .recovering ∧ (r.lane n).tec = 256 ∧ (r.lane n).current = none ∧
      (r.lane n).recovering = (u.rf (busBase n) 22 2 == 0) ∧ r.rb (Blk.bus n).evtOff 2 = true ∧
      ∀ m, m ≠ n → r.lane m = u.lane m := by
  have hslot' : ((u.setLane n l).lane n).slot k = some x := by rw [State.lane_setLane, if_pos rfl, hslot]
  obtain ⟨h1, h2, h3, h4, hrec, hevt, hothers⟩ := (State.bumpTec_wentOff (s := u) (n := n) hconf htec).txFailed hslot'
    (State.countsErrors_iff.1 hc).2 hsingle
  refine ⟨h1, h2, h3, h4, hrec, hevt, fun m hm => ?_⟩
  rw [hothers m hm, State.lane_setLane, if_neg hm]

end

end Sys2Proof.Machine

section
open Sys2Proof Sys2Proof.Machine

/-- Settles O33: an error is counted and noted, its rule moves one count, and the frame's end leaves the channel idle.
Below every limit each of these is a change of the one channel; beyond 255 the change is bus-off, which what is left of
the slot does not undo. -/
theorem errorsAndBusOff : Obligations.ErrorsAndBusOff := by
  unfold Obligations.ErrorsAndBusOff
  refine ⟨fun s n e he hk hk' hc href hhist => ?counting, fun s n k x e he hc href => ?busOff⟩
  case counting =>
    obtain ⟨k, hkind⟩ : ∃ k, k = e.kind := ⟨_, rfl⟩
    rw [← hkind] at he hk hk'
    rw [← hkind]
    subst he
    intro l lim counter hconf
    have hframed := State.frameEnds_of_no_write (s := s) (n := n) 0 hhist
    have hl : (s.lane n).framed (s.rd (busBase n + 0x114)) (s.rd (busBase n + 0x10)) =
        { l with ew := l.ew && (lim ≤ l.tec || lim ≤ l.recv) } := by
      unfold BusLane.framed
      rw [← hhist]
      rfl
    rw [hl] at hframed
    refine ⟨fun hctl hrec127 hrec htec htec' => ?receiver,
      fun j x hctl hcur hslot hsingle hack htec' htec hrec hrec' => ?transmitter, fun hi hr ht => ?idle⟩
    case receiver =>
      exact ⟨_, congrArg Host.Outcome.next (State.busError_receiver hframed hctl hk hk' hc hconf htec hrec
          htec' (Nat.succ_lt_succ hrec127)), State.laneSet_countBus n (faultCounter k) _ s, State.regSet_countBus n (faultCounter k) _ s,
        State.countBus_setLane_frame ..⟩
    case transmitter =>
      have hc' := (State.countsErrors_countBus n (faultCounter k) s).trans hc
      have herr := (State.frameError_transmitter hframed hctl (by omega) hack hc href hcur).trans
        (State.txError_below hc' hslot ((State.singleShot_countBus ..).trans hsingle) hconf htec hrec htec' hrec')
      have hon := State.onLine_of_ctl (s := s) (n := n) hctl (.inr (.inr rfl))
      refine ⟨_, congrArg Host.Outcome.next ((State.busError_of_onLine hon hk hk').trans herr), ?_, ?_⟩
      · exact laneSet_setTl _ (State.laneSet_countBus n (faultCounter k) _ s)
      · exact regSet_setTl _ (State.regSet_countBus n (faultCounter k) _ s)
    case idle =>
      have hoff : s.onLine n = false := by simp [State.onLine, show (s.lane n).ctl ≠ _ from hi,
        show (s.lane n).ctl ≠ _ from hr, show (s.lane n).ctl ≠ _ from ht]
      exact congrArg Host.Outcome.next (State.busError_of_offLine hoff _)
  case busOff =>
    subst he
    intro l hconf hctl hcur hslot hsingle htec htec'
    obtain ⟨l', hframed, hconf', htec'', hslots⟩ := State.frameEnds_kept n 0 s
    have hc' := (State.countsErrors_countBus n (faultCounter 5) s).trans hc
    have hslot' : (({ l' with lec := 5, sentLast := true } : BusLane).slot k) = some x := by
      rw [BusLane.slot, hslots]
      exact hslot
    have hsingle' := (State.singleShot_countBus n (faultCounter 5) x s).trans hsingle
    have hconf'' : ({ l' with lec := 5, sentLast := true } : BusLane).conf ≠ .busOff := by
      rw [show ({ l' with lec := 5, sentLast := true } : BusLane).conf = .passive from hconf'.trans hconf]
      decide
    have hbeyond : 255 < ({ l' with lec := 5, sentLast := true } : BusLane).tec + 8 := by
      rw [show ({ l' with lec := 5, sentLast := true } : BusLane).tec = (s.lane n).tec from htec'']
      exact Nat.add_le_add_right htec 8
    obtain ⟨h1, h2, h3, h4, hrec, hevt, hothers⟩ := State.txError_busOff hc' hslot' hsingle' hconf'' hbeyond
    have hmode : (s.countBus n (faultCounter 5)).rf (busBase n) 22 2 = s.rf (busBase n) 22 2 :=
      congrArg (fld · 22 2) (State.rd_countBus_of_lt s (by omega))
    refine ⟨_, congrArg Host.Outcome.next ((State.busError_of_onLine (State.onLine_of_ctl hctl (.inr (.inr rfl)))
      (by decide) (by decide)).trans (State.frameError_transmitter hframed hctl (by decide) (by decide) hc href hcur)),
      h1, h2, h3, h4, hrec.trans (by rw [hmode]), hevt, fun m hm => ?_⟩
    rw [hothers m hm, State.lane_countBus]

end

namespace Sys2Proof.Machine
open Sys2Proof

/-! ### A frame sent whose record's release takes S to 0 (R247, R253, R270) -/

/-- Slot 2, loaded from descriptor 7. -/
def slotSending : BusSlot := ⟨2, 7, 0, false, 0, 0, none, none⟩

/-- Channel 39 sends slot 2, whose frame lies in a cell of a row that has retired since; the reserves have grown beyond
the usable cells, QUOTA_SHORT is enabled, and its records go to event queue 0, which the host has enabled. -/
def sendingLastReserve : State :=
  let t : State := { State.reset with
    ctl := { ModeCtl.reset with mode := .operational },
    regs := [(0x413C, 8), (0x16008, 0x88000000), (busBase 39 + 0x10, 0x00FF0000)],
    host := { HostLink.reset with up := true, busMaster := true, perst := false },
    retiredRows := [rowOf 0],
    books := { Books.reset with rt := 2 ^ 19 } }
  let t := t.setLane 39 { BusLane.reset with
    ctl := .transmitting, conf := .active, tec := 5, recv := 5, slots := [slotSending], current := some 2, order := 1 }
  let t := t.setDesc 7 { Desc.unused with
    kind := .txQueue, bindIndex := 39, state := .loaded, slot := some 2, current := some 0 }
  (t.setRecord 0 (some ⟨0, [0], 1, false, none⟩)).setSrc 104 { IrqSrc.reset 104 with queue := 0 }

/-- The number of outputs that a command leaves. -/
def sentBy (a : Answer) : Nat :=
  match a with
  | .next t => t.out.length
  | _ => 0

/-- Beside the frame, the record of QUOTA_SHORT goes to the host. -/
theorem sentBy_sendingLastReserve : sentBy (exec (.busFrameSent [] 39 0 256) sendingLastReserve) = 2 := by
  decide +kernel

end Sys2Proof.Machine

section
open Sys2Proof Sys2Proof.Machine

/-- Refutes O34: a frame that is sent is not all that the module sends. Its record's release can find S at 0 (a cell of
it in a retired row, R253), which raises QUOTA_SHORT (R270), and the record of that event goes to the host as well. -/
theorem not_channelFrames : ¬ Obligations.ChannelFrames := by
  unfold Obligations.ChannelFrames
  intro h
  obtain ⟨-, -, hsent, -⟩ := h sendingLastReserve [] 39 0 256 ⟨none, none, none⟩ (Frame.ofBytes []) (by decide +kernel)
  obtain ⟨t, ht, -, -, -, -, -, hout, -⟩ := hsent 2 slotSending (by decide +kernel) (by decide +kernel)
    (by decide +kernel) (by decide +kernel) (by decide +kernel) (by decide +kernel) (by decide +kernel)
    (by decide +kernel) (by decide +kernel) (by decide +kernel) (by decide +kernel) (by decide +kernel)
  have htwo := sentBy_sendingLastReserve
  rw [ht] at htwo
  have hone : t.out.length = 1 := by rw [hout]; decide +kernel
  exact absurd (hone.symm.trans htwo) (by decide)

end

namespace Sys2Proof.Machine
open Sys2Proof

/-! ### Line supervision (R122, R123, R171) -/

theorem satAdd_255 {v : Nat} (h : v < 2 ^ 8) : satAdd (2 ^ 8 - 1) v 1 = min 255 (v + 1) := by
  unfold satAdd
  split <;> omega

section
variable {n lo : Nat} {s : State}

/-- A counter field of BUS[n]_LINE with its event. -/
def State.lineEvent (n lo i : Nat) (s : State) : State := (s.cntF (busBase n + 0x110) lo 8).raise (.bus n) i n 0

theorem State.rd_evt_cntF (n lo : Nat) (s : State) :
    (s.cntF (busBase n + 0x110) lo 8).rd (Blk.bus n).evtOff = s.rd (Blk.bus n).evtOff :=
  (State.rd_wr ..).trans (if_neg (by show busBase n + 0x30 ≠ _; omega))

theorem State.lineEvent_effect (i : Nat) (hlo : lo + 8 ≤ 32) :
    fld ((s.lineEvent n lo i).rd (busBase n + 0x110)) lo 8 = min 255 (fld (s.rd (busBase n + 0x110)) lo 8 + 1) ∧
      Raised (.bus n) i s (s.lineEvent n lo i) ∧ (s.lineEvent n lo i).bus = s.bus := by
  refine ⟨?_, raised_raise _ _ _ _ (State.rd_evt_cntF n lo s), by simp [State.lineEvent]⟩
  have hcount : (s.cntF (busBase n + 0x110) lo 8).rd (busBase n + 0x110) =
      setFld (s.rd (busBase n + 0x110)) lo 8 (satAdd (2 ^ 8 - 1) (s.rf (busBase n + 0x110) lo 8) 1) :=
    (State.rd_wr ..).trans (if_pos rfl)
  have hlt : s.rf (busBase n + 0x110) lo 8 < 2 ^ 8 := fld_lt _ _ _
  rw [State.lineEvent, State.rd_raise, if_neg (by show _ ≠ busBase n + 0x30; omega), hcount, satAdd_255 hlt,
    fld_setFld _ hlo (by omega)]
  rfl

theorem State.txdTimeout_of_idle (extra : List Nat) (h : (s.lane n).ctl ≠ .transmitting) :
    s.txdTimeout n extra = s.lineEvent n 8 8 := by
  have hlane : (s.lineEvent n 8 8).lane n = s.lane n := State.lane_of_bus_eq (by simp [State.lineEvent]) n
  refine if_neg ?_
  change ¬((s.lineEvent n 8 8).lane n).ctl == _
  rw [hlane]
  simpa using h

end

/-! ### Wakes (R159 to R164) -/

/-- The cause that channel `i` has recorded. -/
def State.wakeCause (i : Nat) (s : State) : Nat := (s.lane i).wakeCause

theorem State.wakeCause_of_bus_eq {s t : State} (h : t.bus = s.bus) (i : Nat) : t.wakeCause i = s.wakeCause i :=
  congrArg BusLane.wakeCause (State.lane_of_bus_eq h i)

theorem State.wakeCause_upLane {f : BusLane → BusLane} (hf : ∀ l, (f l).wakeCause = l.wakeCause) (n i : Nat)
    (s : State) : (s.upLane n f).wakeCause i = s.wakeCause i := by
  rw [State.wakeCause, State.lane_upLane]
  split
  next h => subst h; exact hf _
  next => rfl

theorem State.wakeCause_laneFollow (n i : Nat) (s : State) : (s.laneFollow n).wakeCause i = s.wakeCause i := by
  have hstart : (s.laneStart n).wakeCause i = s.wakeCause i :=
    State.wakeCause_upLane (f := fun l => { l with
      ctl := .integrating, conf := .active, tec := 0, recv := 0, boSeq := 0, recovering := false, ew := false,
      ackRun := 0, noPartner := l.noPartner && l.held, hist := [], sentLast := false }) (fun _ => rfl) n i s
  have hquiet : (s.laneQuiet n).wakeCause i = s.wakeCause i :=
    State.wakeCause_upLane (f := fun l => { l with ctl := .quiet, current := none }) (fun _ => rfl) n i s
  unfold State.laneFollow
  split
  · exact State.ite_same (State.wakeCause i) hstart
  · split
    · rfl
    · exact hquiet

theorem State.wakeCause_lanesFollow (i : Nat) (s : State) : s.lanesFollow.wakeCause i = s.wakeCause i := by
  refine (State.each_same (State.wakeCause i) _ (fun p u => ?_) _).trans
    (State.each_same (State.wakeCause i) _ (fun n u => State.wakeCause_laneFollow n i u) s)
  exact State.wakeCause_of_bus_eq ((State.portFollow_k (m := 0x2010133C001988) p u rfl (Kept.refl _ u)).same .bus rfl) i

/-- Of the first part of a change of mode only the following of the lanes touches the channels. -/
theorem State.wakeCause_modeFollowed (m : Mode) (i : Nat) (s : State) :
    (s.modeFollowed m).wakeCause i = s.wakeCause i := by
  unfold State.modeFollowed
  extract_lets old s1 s2 s3 s4 s5
  have h1 : s1.wakeCause i = s.wakeCause i := State.wakeCause_of_bus_eq
    ((State.modRecord_k (m := 0x2010003C000000) 5 m.code old.code (s.modeSet m) rfl (Kept.refl _ _)).same .bus rfl) i
  have hclose : s1.closeSession.wakeCause i = s1.wakeCause i := State.wakeCause_of_bus_eq
    ((State.closeSession_k (m := 0x2210003C000008) s1 rfl (Kept.refl _ s1)).same .bus rfl) i
  have h2 : s2.wakeCause i = s1.wakeCause i :=
    (State.wakeCause_lanesFollow i (if m == .faultHold then s1.closeSession else s1)).trans
      (State.ite_same (State.wakeCause i) hclose)
  have h3 : s3.bus = s2.bus := by
    unfold s3
    split
    · rfl
    · rfl
    · rfl
    · exact (State.stopTimelines_k (m := 0x10000000000) _ s2 rfl (Kept.refl _ s2)).same .bus rfl
  have h4 : s4.bus = s3.bus := (State.enginesFollow_k (m := 0x100000000000) s3 rfl (Kept.refl _ s3)).same .bus rfl
  have h5 : s5.bus = s4.bus := by
    unfold s5
    split <;> rfl
  have hlast : (if old == .test then
      s5.each (List.range 40) fun n s => if s.opMode n = 3 then s.setf (busBase n) 30 2 0 else s
      else s5).bus = s5.bus :=
    State.ite_same State.bus (State.each_same State.bus _ (fun n u => State.ite_same State.bus (by simp)) s5)
  exact (State.wakeCause_of_bus_eq (hlast.trans (h5.trans (h4.trans h3))) i).trans (h2.trans h1)

/-- The second part touches the channels where SLEEP is entered only. -/
theorem State.bus_modeStarted {m : Mode} (hm : m ≠ .sleep) (old : Mode) (woke : Bool) (s : State) :
    (s.modeStarted m old woke).bus = s.bus := by
  unfold State.modeStarted
  extract_lets s1 s2 s3 s4
  have h1 : s1 = s := if_neg (by simpa using hm)
  have hwake : ({ s1 with mem := [] } : State).wakeHost.bus = s1.bus :=
    (State.wakeHost_k (m := 0x20000020000000) { s1 with mem := [] } rfl (Kept.refl _ _)).same .bus rfl
  have h2 : s2.bus = s1.bus := State.ite_same State.bus hwake
  have h3 : s3.bus = s2.bus := State.ite_same State.bus
    ((State.wakeEngines_k (m := 0x2031003C008808) s2 rfl (Kept.refl _ s2)).same .bus rfl)
  have h4 : s4.bus = s3.bus := State.ite_same State.bus rfl
  have hlast : (if m.clearsOutputs then s4.clearCommanded fun _ => true else s4.sparRefresh).bus = s4.bus := by
    split
    · exact (State.clearCommanded_k (m := 0x2810003C000008) _ s4 rfl (Kept.refl _ s4)).same .bus rfl
    · exact (State.sparRefresh_k (m := 0x2810003C000008) s4 rfl (Kept.refl _ s4)).same .bus rfl
  exact hlast.trans (h4.trans (h3.trans (h2.trans (congrArg State.bus h1))))

/-- A change of mode, but for SLEEP's, leaves the cause a channel has recorded. -/
theorem State.wakeCause_changeMode {m : Mode} (hm : m ≠ .sleep) (i : Nat) (s : State) :
    (s.changeMode m).wakeCause i = s.wakeCause i := by
  rw [State.changeMode_eq]
  exact (State.wakeCause_of_bus_eq (State.bus_modeStarted hm _ _ _) i).trans (State.wakeCause_modeFollowed m i s)

section
variable {n cause : Nat} {s : State}

theorem State.wakeCause_wake (hm : s.mode = .sleep) (i : Nat) : s.wake.wakeCause i = s.wakeCause i := by
  have hmode : ({ s with ctl := { s.ctl with wokeAt := some s.beacon.raw } } : State).mode = .sleep := hm
  rw [State.wake, if_pos (by simp [hm]), State.enterMode_of_run (by rw [hmode]; decide) (by decide) (by decide)
    (by decide), State.wakeCause_changeMode (by decide)]
  rfl

/-- An error that the wake decoder hears raises err_count, and at 32 the channel fires (R162). -/
theorem State.wufFrame_error (hl : s.listens 2 n = true) :
    s.wufFrame n false true =
      (let u := s.setLane n { s.lane n with wakeErr := min 32 ((s.lane n).wakeErr + 1) }
       if 31 ≤ (s.lane n).wakeErr then u.fireWake 3 [n] else u) := by
  unfold State.wufFrame
  rw [if_neg (by simp [hl])]
  simp only [if_true, State.upLane, State.lane_setLane]
  by_cases h : 31 ≤ (s.lane n).wakeErr
  · rw [if_pos h, if_pos (by omega)]
  · rw [if_neg h, if_neg (by omega)]

/-- Channels that fire together in SLEEP wake the module, and each records the cause (R163). -/
theorem State.fireWake_sleep {ns : List Nat} (hm : s.mode = .sleep) (hx : s.executing 6 = none) (hns : ns ≠ []) :
    (s.fireWake cause ns).mode = .standby ∧ (s.fireWake cause ns).ctl.prev = .sleep ∧
      ∀ m ∈ ns, (s.fireWake cause ns).wakeCause m = cause := by
  let u := s.each ns fun n s => s.upLane n fun l => { l with wakeCause := cause }
  have hctl : u.ctl = s.ctl := State.each_same State.ctl ns (fun n v => by simp [State.upLane]) s
  have hmode : u.mode = .sleep := (congrArg ModeCtl.mode hctl).trans hm
  have hfire : s.fireWake cause ns = u.wake := by
    unfold State.fireWake
    rw [if_neg (by simpa using hns), if_neg (by simp [hx])]
  have hwake := State.ctl_wake hmode
  refine ⟨by rw [hfire, State.mode, hwake], by rw [hfire, hwake], fun m hmem => ?_⟩
  rw [hfire, State.wakeCause_wake hmode]
  have hset : ∀ (l : List Nat) (v : State), m ∈ l ∨ v.wakeCause m = cause →
      (v.each l fun n s => s.upLane n fun l => { l with wakeCause := cause }).wakeCause m = cause := by
    intro l
    induction l with
    | nil => exact fun v h => h.resolve_left (List.not_mem_nil)
    | cons a l ih =>
      intro v h
      refine ih (v.upLane a fun l => { l with wakeCause := cause }) ?_
      by_cases ha : m = a
      · exact .inr (by rw [State.wakeCause, State.lane_upLane, if_pos ha])
      · refine (h.imp_left fun h => (List.mem_cons.1 h).resolve_left ha).imp_right fun h => ?_
        rw [State.wakeCause, State.lane_upLane, if_neg ha]
        exact h
  exact hset ns s (.inl hmem)

end

end Sys2Proof.Machine

section
open Sys2Proof Sys2Proof.Machine

/-- Settles O35: what a channel's line raises it counts beside; what a channel hears in SLEEP moves its error count, and
where it fires the module wakes with its cause, which the change to STANDBY leaves. -/
theorem lineSupervisionAndWake : Obligations.LineSupervisionAndWake := by
  unfold Obligations.LineSupervisionAndWake
  refine ⟨fun s n => ⟨?dom, fun extra hctl => ?txd, fun age extra sig hon hpex => ?exception,
    fun age extra sig hon hpex => ?formError⟩, fun s n ident dlc data hm hx => ⟨fun ns hns => ?pattern, fun ns hns => ?deaf,
    fun hl => ⟨fun hmatch => ?frame, fun hmatch => ?other, fun herr => ?errors, fun herr => ?error, ?valid⟩,
    fun hl => ?unheard⟩⟩
  case dom => exact ⟨_, rfl, State.lineEvent_effect (n := n) (lo := 0) (s := s) 9 (by decide)⟩
  case txd =>
    exact ⟨_, congrArg Host.Outcome.next (State.txdTimeout_of_idle extra hctl),
      State.lineEvent_effect (n := n) (lo := 8) (s := s) 8 (by decide)⟩
  case exception =>
    refine ⟨_, congrArg Host.Outcome.next ((if_neg (by simp [hon])).trans (if_pos hpex)), ?_, ?_⟩
    · exact laneSet_of_bus_eq (laneSet_raise (State.laneSet_setLane n _ s) _ _ _ _) (State.bus_countBus ..)
    · have hcount (u : State) : (u.countBus n 9).rd (Blk.bus n).evtOff = u.rd (Blk.bus n).evtOff :=
        State.rd_countBus_of_lt u (by show busBase n + 0x30 < _; omega)
      rw [Raised, hcount]
      exact raised_raise (s := s) _ _ _ _ rfl
  case formError =>
    exact congrArg Host.Outcome.next ((if_neg (by simp [hon])).trans (if_neg (by simp [hpex])))
  case pattern =>
    obtain ⟨m, hmem, hlisten⟩ := hns
    obtain ⟨hmode, hprev, hcause⟩ := State.fireWake_sleep (cause := 1) hm hx
      (List.ne_nil_of_mem (List.mem_filter.2 ⟨hmem, hlisten⟩))
    exact ⟨_, rfl, hmode, hprev, fun m hmem hlisten => hcause m (List.mem_filter.2 ⟨hmem, hlisten⟩)⟩
  case deaf =>
    have hnone : ns.filter (s.listens 1) = [] := List.filter_eq_nil_iff.2 fun m hmem => by simp [hns m hmem]
    refine congrArg Host.Outcome.next (?_ : s.fireWake 1 (ns.filter (s.listens 1)) = s)
    rw [hnone]
    rfl
  case frame =>
    let u := s.upLane n fun l => { l with wakeErr := l.wakeErr - 1 }
    obtain ⟨hmode, -, hcause⟩ := State.fireWake_sleep (s := u) (cause := 2) hm hx (List.cons_ne_nil n [])
    exact ⟨_, congrArg Host.Outcome.next ((if_neg (by simp [hl])).trans (if_pos hmatch)), hmode,
      hcause n (List.mem_singleton_self n)⟩
  case other =>
    exact congrArg Host.Outcome.next ((if_neg (by simp [hl])).trans (if_neg (by
      change ¬s.wakeMatch n ident dlc data = true
      simp [hmatch])))
  case errors =>
    have herr' : 31 ≤ (s.lane n).wakeErr := Nat.le_of_eq (Eq.symm herr)
    let u := s.setLane n { s.lane n with wakeErr := min 32 ((s.lane n).wakeErr + 1) }
    obtain ⟨hmode, -, hcause⟩ := State.fireWake_sleep (s := u) (cause := 3) hm hx (List.cons_ne_nil n [])
    exact ⟨_, congrArg Host.Outcome.next ((if_pos herr').trans ((State.wufFrame_error hl).trans (if_pos herr'))), hmode,
      hcause n (List.mem_singleton_self n)⟩
  case error =>
    have hlt : (s.lane n).wakeErr < 31 := herr
    have hmin : min 32 ((s.lane n).wakeErr + 1) = (s.lane n).wakeErr + 1 := by omega
    refine congrArg Host.Outcome.next ((State.wufFrame_error hl).trans ?_)
    rw [hmin]
    exact if_neg (Nat.not_le.2 hlt)
  case valid => exact congrArg Host.Outcome.next ((if_neg (by simp [hl])).trans rfl)
  case unheard => exact congrArg Host.Outcome.next (if_pos (by simp [hl]))

end

namespace Sys2Proof.Machine
open Sys2Proof

/-! ### What the release of a record leaves of the registers (R253, R267, R270) -/

theorem State.rd_of_regs_eq {s t : State} (h : t.regs = s.regs) (hf : t.fuse = s.fuse) (o : Nat) : t.rd o = s.rd o := by
  rw [State.rd, State.rd, h, hf]

/-- An operation whose frame does not name the registers leaves every word. -/
theorem State.rd_of_kept {m : Nat} {s t : State} (h : Kept m s t) (hm : m.testBit Field.regs.ctorIdx = false) (o : Nat) :
    t.rd o = s.rd o := by
  obtain ⟨hsame, -, hfuse, -⟩ := id h
  exact State.rd_of_regs_eq (h.same .regs hm) hfuse o

section
variable {o : Nat} (ho : o ≠ Blk.pool.evtOff)
include ho

/-- What S lacks raises QUOTA_SHORT at most. -/
theorem State.rd_absorb (s : State) : s.absorb.rd o = s.rd o := by
  unfold State.absorb
  extract_lets short dE dR books s1
  have h1 : s1.rd o = s.rd o := State.ite_same (State.rd · o) rfl
  refine Eq.trans ?_ h1
  split
  · rw [State.rd_raise, if_neg ho]
    rfl
  · rfl

theorem State.rd_freeRecord (c : Nat) (s : State) : (s.freeRecord c).rd o = s.rd o := by
  unfold State.freeRecord
  split
  · rfl
  next r hr =>
    extract_lets retired s1 q s2 s3
    have h1 : Kept 0x1000001980 s s3 :=
      State.chargeMoved_k _ _ rfl (State.setPartner_k _ _ _ rfl (State.setRecord_k _ _ _ rfl
        (State.handBack_k _ _ rfl (Kept.each _ _ (fun d u => State.setLink_k d _ u rfl (Kept.refl _ u)) (Kept.refl _ s)))))
    refine Eq.trans ?_ (State.rd_of_kept h1 rfl o)
    split
    · exact State.rd_absorb ho s3
    · rfl

theorem State.rd_dropRef (c : Nat) (s : State) : (s.dropRef c).rd o = s.rd o := by
  unfold State.dropRef
  split
  · rfl
  · split
    · rfl
    · split
      · exact State.rd_freeRecord ho c s
      · rfl

theorem State.rd_dropOpt (r : Option Nat) (s : State) : (s.dropOpt r).rd o = s.rd o := by
  cases r with
  | none => rfl
  | some c => exact State.rd_dropRef ho c s

end

/-! ### A record reaches a mailbox or a FIFO (R240, R243) -/

/-- A descriptor that takes record `r`. -/
def Desc.taking (r : Nat) (d : Desc) : Desc := { d with current := some r, state := .new, damaged := false }

section
variable {s : State} {i r : Nat}

theorem State.descs_publish (i r : Nat) (d : Desc) (s : State) :
    (s.publish i r d).descs = (s.setDesc i (d.taking r)).descs := by
  have hkept : Kept 0x2010103C001988 (s.setDesc i (d.taking r)) (s.publish i r d) :=
    State.bufRecord_k _ _ _ _ _ rfl (State.dropOpt_k _ _ rfl (Kept.refl _ _))
  exact hkept.same .descs rfl

theorem State.publish_kept (i r : Nat) (d : Desc) (s : State) :
    (s.publish i r d).transit = s.transit ∧ (s.publish i r d).held = s.held := by
  have hkept := State.publish_k (m := 0x2010103C001B88) i r d s rfl (Kept.refl _ s)
  exact ⟨hkept.same .transit rfl, hkept.same .held rfl⟩

theorem State.rd_publish {o : Nat} (ho : o ≠ Blk.pool.evtOff) (i r : Nat) (d : Desc) (s : State) :
    (s.publish i r d).rd o = s.rd o := by
  have hbuf (u : State) : (u.bufRecord d.queue 0 i r).rd o = u.rd o :=
    State.rd_of_kept (State.bufRecord_k (m := 0x20000038000000) _ _ _ _ u rfl (Kept.refl _ u)) rfl o
  unfold State.publish
  rw [hbuf, State.rd_dropOpt ho]
  rfl

theorem State.mailboxArrival_unlocked (hlock : (s.desc i).locked = false) (hnew : (s.desc i).state ≠ .new) :
    s.mailboxArrival i r = (true, s.publish i r (s.desc i)) := by
  unfold State.mailboxArrival
  simp only [hlock, Bool.false_eq_true, if_false]
  simp [hnew]

theorem State.fifoAppend_kept (f r : Nat) (s : State) :
    (s.fifoAppend f r).descs =
        (s.setDesc ((s.fifo f).at (s.fifo f).count) ((s.desc ((s.fifo f).at (s.fifo f).count)).taking r)).descs ∧
      ((s.fifoAppend f r).fifo f).count = (s.fifo f).count + 1 ∧ (s.fifoAppend f r).transit = s.transit := by
  let u := (s.setDesc ((s.fifo f).at (s.fifo f).count) ((s.desc ((s.fifo f).at (s.fifo f).count)).taking r)).setFifo f
    { s.fifo f with count := (s.fifo f).count + 1 }
  have hkept : Kept 0x20000038000000 u (s.fifoAppend f r) := State.bufRecord_k _ _ _ _ _ rfl (Kept.refl _ _)
  refine ⟨hkept.same .descs rfl, ?_, hkept.same .transit rfl⟩
  have hfifo : (s.fifoAppend f r).fifo f = u.fifo f :=
    congrArg (Tbl.get (fun _ => Fifo.none) · f) (hkept.same .fifos rfl)
  rw [hfifo, State.fifo_setFifo, if_pos rfl]

end

/-! ### Delivery points (R283, R358) -/

section
variable {s : State} {d : Delivery} {ecc : RecEcc}

/-- A mailbox or a FIFO without a deadline takes its delivery: no lane or link stands in between. -/
theorem State.deliveryPoint_of_memory (hkind : d.kind = dMailbox ∨ d.kind = dFifo) (hdl : d.deadline = 0) :
    s.deliveryPoint d ecc = s.deliver d := by
  have hread : ∀ u : State, u.readOut d ecc = u.deliver d := fun u => if_pos hkind
  have hbars : ∀ k, s.testBars k d = false := fun k => by
    rcases hkind with h | h <;> simp [State.testBars, h]
  have hret : s.destRetired d = false := by
    rcases hkind with h | h <;> simp [State.destRetired, h, dBus, dUnpack, dEthNative, dEthAcf, dEngine, dMailbox, dFifo]
  have hcluster : destCluster d = none := by
    rcases hkind with h | h <;> simp [destCluster, h, dBus, dUnpack, dEthNative, dEthAcf, dEngine, dMailbox, dFifo]
  have hreconf : s.destReconf d = false := by rw [State.destReconf, hcluster]
  have hhost : d.kind ≠ dHostQ := by rcases hkind with h | h <;> rw [h] <;> decide
  have hdown : s.destLinkDown d = false := by
    rcases hkind with h | h <;> simp [State.destLinkDown, h, dEthNative, dEthAcf, dHostQ, dMailbox, dFifo]
  unfold State.deliveryPoint
  rw [hbars, hret, hreconf, hdown]
  simp only [Bool.false_eq_true, if_false, hhost, false_and, hdl, ne_eq, not_true_eq_false]
  exact hread s

theorem State.deliver_mailbox (hkind : d.kind = dMailbox) (hlock : (s.desc d.index).locked = false)
    (hnew : (s.desc d.index).state ≠ .new) :
    s.deliver d = (s.publish d.index d.record (s.desc d.index)).countRoute d.route 0 := by
  unfold State.deliver
  rw [if_pos hkind, State.mailboxArrival_unlocked hlock hnew]
  rfl

theorem State.deliver_fifo (hkind : d.kind = dFifo) (hroom : (s.fifo d.index).count ≠ (s.fifo d.index).depth) :
    s.deliver d = (s.fifoAppend d.index d.record).countRoute d.route 0 := by
  unfold State.deliver
  rw [if_neg (by rw [hkind]; decide), if_pos hkind]
  unfold State.fifoArrival
  simp only [hroom, if_false]
  rfl

theorem State.deliver_mailbox_effect (hkind : d.kind = dMailbox) (hlock : (s.desc d.index).locked = false)
    (hnew : (s.desc d.index).state ≠ .new) :
    (s.deliver d).descs = (s.setDesc d.index ((s.desc d.index).taking d.record)).descs ∧
      (s.deliver d).transit = s.transit ∧ (s.deliver d).held = s.held ∧
      (s.deliver d).rd (0xC00000 + 0x20 * d.route) =
        wd (satAdd (2 ^ 32 - 1) (s.rd (0xC00000 + 0x20 * d.route)).toNat 1) := by
  obtain ⟨htransit, hheld⟩ := State.publish_kept d.index d.record (s.desc d.index) s
  have hdescs := State.descs_publish d.index d.record (s.desc d.index) s
  have hrd := State.rd_publish (o := 0xC00000 + 0x20 * d.route) (by show _ ≠ 0x4130; omega) d.index d.record
    (s.desc d.index) s
  rw [State.deliver_mailbox hkind hlock hnew]
  generalize s.publish d.index d.record (s.desc d.index) = u at htransit hheld hdescs hrd
  have hkept := State.countRoute_k (m := 0x8) d.route 0 u rfl (Kept.refl _ u)
  refine ⟨(hkept.same .descs rfl).trans hdescs, (hkept.same .transit rfl).trans htransit,
    (hkept.same .held rfl).trans hheld, ?_⟩
  rw [← hrd, State.countRoute, State.cnt, Nat.mul_zero, Nat.add_zero, State.rd_wr, if_pos rfl]
  rfl

theorem State.deliver_fifo_effect (hkind : d.kind = dFifo)
    (hroom : (s.fifo d.index).count ≠ (s.fifo d.index).depth) :
    (s.deliver d).descs = (s.setDesc ((s.fifo d.index).at (s.fifo d.index).count)
        ((s.desc ((s.fifo d.index).at (s.fifo d.index).count)).taking d.record)).descs ∧
      ((s.deliver d).fifo d.index).count = (s.fifo d.index).count + 1 ∧ (s.deliver d).transit = s.transit := by
  obtain ⟨hdescs, hcount, htransit⟩ := State.fifoAppend_kept d.index d.record s
  rw [State.deliver_fifo hkind hroom]
  generalize s.fifoAppend d.index d.record = u at hdescs hcount htransit
  have hkept := State.countRoute_k (m := 0x8) d.route 0 u rfl (Kept.refl _ u)
  have hfifo : (u.countRoute d.route 0).fifo d.index = u.fifo d.index :=
    congrArg (Tbl.get (fun _ => Fifo.none) · d.index) (hkept.same .fifos rfl)
  exact ⟨(hkept.same .descs rfl).trans hdescs, hfifo.symm ▸ hcount, (hkept.same .transit rfl).trans htransit⟩

/-! The end of a frame's transit. -/

variable {id : Nat} {x : Transit}

/-- The transits after a delivery of frame `id` has left. -/
def Transit.without (id k : Nat) (l : List Transit) : List Transit :=
  l.map fun u => if u.id = id then { u with pending := u.pending.eraseIdx k } else u

theorem Transit.find_without {l : List Transit} (hx : l.find? (fun t => t.id == id) = some x) (k : Nat) :
    (Transit.without id k l).find? (fun t => t.id == id) = some { x with pending := x.pending.eraseIdx k } := by
  induction l with
  | nil => cases hx
  | cons u l ih =>
    by_cases hu : u.id = id
    · have hux : u = x := by simpa [hu] using hx
      subst hux
      simp [Transit.without, hu]
    · have hx' : l.find? (fun t => t.id == id) = some x := by simpa [hu] using hx
      have hrest : ((u :: l).map fun u => if u.id = id then { u with pending := u.pending.eraseIdx k } else u) =
          u :: Transit.without id k l := by simp [Transit.without, hu]
      rw [Transit.without, hrest, List.find?_cons_of_neg (by simpa using hu)]
      exact ih hx'

theorem Transit.filter_without (id k : Nat) (l : List Transit) :
    (Transit.without id k l).filter (fun u => u.id != id) = l.filter fun u => u.id != id := by
  induction l with
  | nil => rfl
  | cons u l ih =>
    have hcons : Transit.without id k (u :: l) =
        (if u.id = id then { u with pending := u.pending.eraseIdx k } else u) :: Transit.without id k l := rfl
    rw [hcons]
    by_cases hu : u.id = id
    · simp [hu, ih]
    · simp [hu, ih]

/-- The state in which the `k`th pending delivery of frame `id` is made. -/
def State.delivering (id k : Nat) (s : State) : State := { s with transit := Transit.without id k s.transit }

/-- The frame's one delivery ends its transit (R283). -/
theorem State.pointOf_last {t : State} (hx : s.transit.find? (fun t => t.id == id) = some x) (hone : x.pending = [d])
    (hfirst : s.mustFollow x 0 d = false) (hhost : d.kind ≠ dHostQ)
    (ht : (s.delivering id 0).deliveryPoint d ecc = t) (hkept : t.transit = (s.delivering id 0).transit) :
    s.pointOf id 0 ecc = { t with transit := s.transit.filter fun u => u.id != id } := by
  have hfetched : s.slotUnfetched d = false := by simp [State.slotUnfetched, hhost]
  have hleft : t.transit.find? (fun t => t.id == id) = some { x with pending := [] } := by
    rw [hkept, State.delivering, Transit.find_without hx, hone]
    rfl
  unfold State.pointOf
  rw [hx]
  dsimp only
  rw [hone]
  dsimp only [List.getElem?_cons_zero]
  rw [if_neg (by simp [hfirst, hfetched])]
  change (((s.delivering id 0).deliveryPoint d ecc).endTransit id) = _
  rw [ht]
  unfold State.endTransit
  rw [hleft]
  dsimp only
  rw [if_neg (by simp), hkept, State.delivering, Transit.filter_without]

/-! Frames in transit too long (R284), and held deliveries (R275). -/

theorem State.transitLate_again (hx : s.transit.find? (fun t => t.id == id) = some x) (hl : x.late = true) :
    s.transitLate id = s := by
  unfold State.transitLate
  rw [hx]
  exact if_pos hl

/-- The transits with frame `id` marked late. -/
def Transit.lated (id : Nat) (l : List Transit) : List Transit :=
  l.map fun u => if u.id = id then { u with late := true } else u

theorem State.transitLate_first (hx : s.transit.find? (fun t => t.id == id) = some x) (hl : x.late = false) :
    s.transitLate id = (({ s with transit := Transit.lated id s.transit }.cntF 0x4120 16 16).cnt 0x22030).raise .pool 2
      x.source x.seq := by
  unfold State.transitLate
  rw [hx]
  exact if_neg (by simp [hl])

theorem satAdd_65535 {v : Nat} (h : v < 2 ^ 16) : satAdd (2 ^ 16 - 1) v 1 = min 65535 (v + 1) := by
  unfold satAdd
  split <;> omega

/-- The watchdog's count, beside that of the health block (R284). -/
theorem State.rd_lateCounts {o : Nat} (ho : o ≠ 0x22030) (s : State) :
    ((s.cntF 0x4120 16 16).cnt 0x22030).rd o =
      if o = 0x4120 then setFld (s.rd 0x4120) 16 16 (satAdd (2 ^ 16 - 1) (s.rf 0x4120 16 16) 1) else s.rd o := by
  rw [State.cnt, State.rd_wr, if_neg ho]
  exact State.rd_wr ..

theorem State.heldCredit_mailbox {h : HeldFrame} (hheld : s.held = [h]) (hready : h.ready = true)
    (hfirst : s.heldWaits 0 h.delivery = false) (hkind : h.delivery.kind = dMailbox) (hdl : h.delivery.deadline = 0) :
    s.heldCredit 0 ecc = { s with held := [] }.deliver { h.delivery with held := false } := by
  have hmem : ({ h.delivery with held := false } : Delivery).kind = dMailbox := hkind
  have hkinds : dMailbox ≠ dBus ∧ dMailbox ≠ dUnpack ∧ dMailbox ≠ dEthNative ∧ dMailbox ≠ dEthAcf ∧ dMailbox ≠ dEngine ∧
      dMailbox ≠ dHostQ := by decide
  obtain ⟨h1, h2, h3, h4, h5, h6⟩ := hkinds
  have htake (f : Frame) (u : State) : u.takeCredit 0 ({ h.delivery with held := false }, [f]) =
      some ({ h.delivery with held := false }, u) := by
    simp [State.takeCredit, Delivery.onPort, hkind, h1, h2, h3, h4, h5, h6]
  have hstays (u : State) : (u.destRetired { h.delivery with held := false } || u.destReconf { h.delivery with held := false }
      || u.destLinkDown { h.delivery with held := false }) = false := by
    simp [State.destRetired, State.destReconf, destCluster, State.destLinkDown, hkind, h1, h2, h3, h4, h5, h6]
  unfold State.heldCredit
  rw [hheld]
  dsimp only [List.getElem?_cons_zero, List.eraseIdx_cons_zero]
  rw [if_neg (by simp [hready, hfirst]), hstays]
  simp only [Bool.false_eq_true, if_false, htake]
  exact State.deliveryPoint_of_memory (.inl hmem) hdl

end

end Sys2Proof.Machine

section
open Sys2Proof Sys2Proof.Machine

/-- Settles O38: a delivery to a mailbox or a FIFO only publishes its record and counts; what the release of the record
before does to S touches neither descriptors nor transits, nor a route's counter. -/
theorem deliveries : Obligations.Deliveries := by
  unfold Obligations.Deliveries
  refine fun s id d x ecc hx => ⟨fun hone hheld hdl hfirst => ⟨fun hkind hlock hnew => ?mailbox, fun hkind hroom => ?fifo⟩,
    fun hl => ?late, fun hl => congrArg Host.Outcome.next (State.transitLate_again hx hl),
    fun h hheld hready hfirst hkind hdl hlock hnew => ?held⟩
  case mailbox =>
    have hpoint := State.deliveryPoint_of_memory (s := s.delivering id 0) (d := d) (ecc := ecc) (.inl hkind) hdl
    obtain ⟨hdescs, htransit, -, hcount⟩ := State.deliver_mailbox_effect (s := s.delivering id 0) hkind hlock hnew
    exact ⟨_, congrArg Host.Outcome.next (State.pointOf_last hx hone hfirst (by rw [hkind]; decide) hpoint htransit),
      descSet_of_descs hdescs, hcount, rfl⟩
  case fifo =>
    have hpoint := State.deliveryPoint_of_memory (s := s.delivering id 0) (d := d) (ecc := ecc) (.inr hkind) hdl
    obtain ⟨hdescs, hcount, htransit⟩ := State.deliver_fifo_effect (s := s.delivering id 0) hkind hroom
    exact ⟨_, congrArg Host.Outcome.next (State.pointOf_last hx hone hfirst (by rw [hkind]; decide) hpoint htransit),
      descSet_of_descs hdescs, hcount, rfl⟩
  case late =>
    refine ⟨_, congrArg Host.Outcome.next (State.transitLate_first hx hl), by simp [Transit.lated], ?_, ?_⟩
    · refine raised_raise (s := s) _ _ _ _ ((State.rd_lateCounts (by decide) _).trans ?_)
      rw [if_neg (by decide)]
      rfl
    · have hlt : s.rf 0x4120 16 16 < 2 ^ 16 := fld_lt _ _ _
      have hcount : ∀ u : State, u.rd 0x4120 = s.rd 0x4120 → (((u.cntF 0x4120 16 16).cnt 0x22030).raise .pool 2 x.source
          x.seq).rd 0x4120 = setFld (s.rd 0x4120) 16 16 (satAdd (2 ^ 16 - 1) (s.rf 0x4120 16 16) 1) := fun u hu => by
        rw [State.rd_raise, if_neg (by decide), State.rd_lateCounts (by decide), if_pos rfl, State.rf, hu]
        rfl
      rw [hcount { s with transit := Transit.lated id s.transit } rfl, satAdd_65535 hlt, fld_setFld _ (by decide) (by omega)]
      rfl
  case held =>
    obtain ⟨hdescs, -, hleft, -⟩ := State.deliver_mailbox_effect (s := { s with held := [] })
      (d := { h.delivery with held := false }) hkind hlock hnew
    exact ⟨_, congrArg Host.Outcome.next (State.heldCredit_mailbox hheld hready hfirst hkind hdl), hleft,
      descSet_of_descs hdescs⟩

end

namespace Sys2Proof.Machine
open Sys2Proof

/-! ### Failing rows and waiting requests (R232, R253, R276 to R278) -/

/-- A count changes the registers only. -/
theorem State.cnt_frame (o : Nat) (s : State) (n : Nat) : s.cnt o n = { s with regs := (s.cnt o n).regs } := by
  have hwr (o : Nat) (w : Word) : s.wr o w = { s with regs := (s.wr o w).regs } := rfl
  exact hwr _ _

/-- A count is its own register's, and no other's. -/
theorem State.regSet_cnt (o : Nat) (s : State) :
    RegSet o (wd (satAdd (2 ^ 32 - 1) (s.rd o).toNat 1)) s (s.cnt o) := by
  have hmax : (2 ^ 32 - 1 : Nat) = 0xFFFF_FFFF := rfl
  rw [hmax]
  generalize hw : wd (satAdd 0xFFFF_FFFF (s.rd o).toNat 1) = w
  have hcnt : s.cnt o = s.wr o w := by rw [← hw]; rfl
  rw [hcnt]
  exact ⟨by rw [State.rd_wr, if_pos rfl], fun k hk => by rw [State.rd_wr, if_neg hk]⟩

theorem State.waitingGrant_of_no_head {picks : List Nat} {port : Nat} {s : State} (h : s.heads port = []) :
    s.waitingGrant picks port = s := by
  have hround (start : Nat) (k : Nat) (all : Bool) :
      State.grantRounds picks port start [] k [] all s = none := by
    cases k <;> rfl
  unfold State.waitingGrant
  extract_lets hs turn order going cyc first
  have horder : order = [] := by
    simp only [order, hs, h, turnOrder, List.filter_nil, List.mergeSort_nil, List.append_nil]
  have hcyc : cyc = [] := by simp [cyc, horder]
  have hfirst : first = [] := by simp [first, hcyc, horder]
  have hesc : s.grantEscalated picks hs = none := by rw [show hs = [] from h]; rfl
  rw [hesc, hcyc, hfirst]
  dsimp only
  rw [hround]
  rfl

/-- A line's head that finds its credit is charged and goes on its way, and waits no more (R275, R276). -/
theorem State.tryGrant_of_credit {picks : List Nat} {w : WaitReq} {s s1 s2 : State}
    {xs took : List (Delivery × List Frame)} {tr : Nat × Nat × Nat}
    (hctx : w.ctx = none) (heng : w.engine = none) (hq : w.hostQ = none)
    (hav : s.available (s.testFilter w.frame (w.dests.map (State.recapture w s))) = (xs, s1)) (hxs : xs ≠ [])
    (hfull : s1.launchFull (xs.map (·.1)) = none) (htake : s1.takeCredits xs = (took, [], s2))
    (htiers : s2.tiers w.partner (cellsFor w.frame took) = some tr) (hroom : s2.transit.length < 4096)
    (hcells : cellsFor w.frame took ≤ s2.freeCells) :
    s.tryGrant picks w = some (cellsFor w.frame took,
      (((s2.noteAdmitted w.partner).chargeTiers w.partner tr).launchFrame picks w.partner w.frame took).endWait w
        subOk) := by
  have hframe : s.grantFrame w = w.frame := by rw [State.grantFrame, heng]
  have hne : xs.isEmpty = false := by cases xs <;> simp_all
  unfold State.tryGrant
  simp only [hctx, hq, Option.isSome_none, Bool.false_and, Bool.or_false, Bool.false_eq_true, if_false, hframe, hav,
    hne, hfull, htake, htiers]
  rw [if_neg (by simp; omega)]

end Sys2Proof.Machine

section
open Sys2Proof Sys2Proof.Machine

/-- Settles O39: the row's two outcomes and the head's grant, each an equation of the operation and its frame. -/
theorem rowsAndWaitingRequests : Obligations.RowsAndWaitingRequests := by
  unfold Obligations.RowsAndWaitingRequests
  refine ⟨fun s b r hb hr hpow hret =>
      ⟨fun hused => ?spare, fun hused => ?retire, fun u hu => ?off, fun u hu => ?retired⟩,
    fun s picks port p w => ⟨fun h => ?noHead, fun s1 s2 xs took tr hh hesc hctx heng hq hav hxs hfull htake htiers
      hroom hcells => ?granted, fun hf hw => ?escalated, fun hf => ?noRequest⟩⟩
  case spare =>
    let u : State := { s with spareRows := s.spareRows.set (fun _ => 0) b (s.spareRows.get (fun _ => 0) b + 1) }
    have hrow : s.rowFail b r = ((u.countHlt 2).raise .hlt 5 b r).queueHealth := by
      unfold State.rowFail
      extract_lets used
      rw [hpow, hret, if_neg (by simp; omega), if_pos hused]
    refine ⟨_, congrArg Host.Outcome.next hrow, ?_⟩
    have hkept : Kept 0x2210003c000008 u (((u.countHlt 2).raise .hlt 5 b r).queueHealth) :=
      State.queueHealth_k _ rfl (State.raise_k _ _ _ _ _ rfl (State.countHlt_k _ _ _ rfl (Kept.refl _ u)))
    refine ⟨?_, hkept.same .retiredRows rfl, ?_, hkept.same .books rfl⟩
    · rw [hkept.same .spareRows rfl]
      exact (Tbl.get_set (fun _ => 0) s.spareRows b b (s.spareRows.get (fun _ => 0) b + 1)).trans (if_pos rfl)
    · rw [State.rb_queueHealth]
      exact State.rb_raise_self _ _ _ _ (by decide)
  case retire =>
    let u : State := { s with retiredRows := s.retiredRows ++ [b * 512 + r] }
    have hrow : s.rowFail b r = ((u.modRecord 8 b r).absorb).queueHealth := by
      unfold State.rowFail
      extract_lets used
      rw [hpow, hret, if_neg (by simp; omega), if_neg (Nat.not_lt.2 hused)]
    have hkept : Kept 0x2210003c001008 u ((u.modRecord 8 b r).absorb).queueHealth :=
      State.queueHealth_k _ rfl (State.absorb_k _ rfl (State.modRecord_k _ _ _ _ rfl (Kept.refl _ u)))
    exact ⟨_, congrArg Host.Outcome.next hrow, hkept.same .retiredRows rfl, hkept.same .spareRows rfl⟩
  case off =>
    have : u.rowFail b r = u := by
      unfold State.rowFail
      extract_lets used
      rw [hu, Bool.true_or, Bool.true_or, Bool.true_or, if_pos rfl]
    exact congrArg Host.Outcome.next this
  case retired =>
    have : u.rowFail b r = u := by
      unfold State.rowFail
      extract_lets used
      rw [hu, Bool.or_true, if_pos rfl]
    exact congrArg Host.Outcome.next this
  case noHead => exact congrArg Host.Outcome.next (State.waitingGrant_of_no_head h)
  case granted =>
    have hgrant := State.tryGrant_of_credit (picks := picks) hctx heng hq hav hxs hfull htake htiers hroom hcells
    have hnext : s.waitingGrant picks port = ((((((s2.noteAdmitted w.partner).chargeTiers w.partner tr).launchFrame
        picks w.partner w.frame took).endWait w subOk).payDeficit w.partner (cellsFor w.frame took)).restDeficit
        w.partner) := by
      simp only [State.waitingGrant, hh, State.grantEscalated, hesc, Bool.not_true, Bool.false_eq_true, if_false,
        hgrant]
    generalize ((s2.noteAdmitted w.partner).chargeTiers w.partner tr).launchFrame picks w.partner w.frame took = u
      at hnext ⊢
    have hkept : Kept 0x800 (u.endWait w subOk) (((u.endWait w subOk).payDeficit w.partner
        (cellsFor w.frame took)).restDeficit w.partner) :=
      State.restDeficit_k _ _ rfl (State.payDeficit_k _ _ _ rfl (Kept.refl _ _))
    have hend : u.endWait w subOk = { u with waits := u.waits.filter fun x => x.id != w.id } := by
      rw [State.endWait, heng, hq]
    refine ⟨_, congrArg Host.Outcome.next hnext, fun x hx => ?_, ?_⟩
    · rw [hkept.same .waits rfl, hend] at hx
      simpa using (List.mem_filter.1 hx).2
    · rw [hkept.same .transit rfl, hend]
  case escalated =>
    have hoff : 0x94000C + 0x10 * p = 0x940000 + 0x10 * p + 4 * 3 := by omega
    let u : State := { s with waits := s.waits.map fun (x : WaitReq) =>
      if x.id = w.id then { x with escalated := true } else x }
    have hnext : s.escalateHead p = u.cnt (0x940000 + 0x10 * p + 4 * 3) := by
      simp only [State.escalateHead, hf, hw, Bool.false_eq_true, if_false]
      rfl
    refine ⟨_, congrArg Host.Outcome.next hnext, (State.cnt_fields _ _ _).2.2.2.2.2.2.2.2.2.2.2.2.2.2.1, ?_, ?_⟩
    · rw [hoff]
      exact State.regSet_cnt _ u
    · rw [State.cnt_frame]
  case noRequest =>
    have : s.escalateHead p = s := by rw [State.escalateHead, hf]
    exact congrArg Host.Outcome.next this

end

namespace Sys2Proof.Machine
open Sys2Proof

/-! ### The partner snapshot of AUDIT_SNAPSHOT (R286 to R289) -/

/-- A read of a table is one of its entries, or the entry is not listed. -/
theorem Tbl.get_mem_or_default {α : Type} (d : Nat → α) (t : Tbl α) (k : Nat) :
    (k, t.get d k) ∈ t ∨ t.get d k = d k := by
  induction t with
  | nil => exact .inr rfl
  | cons e t ih =>
    obtain ⟨j, v⟩ := e
    by_cases hj : j = k
    · exact .inl (by simp [Tbl.get, hj])
    · rcases ih with ih | ih
      · exact .inl (by simp [Tbl.get, hj, ih])
      · exact .inr (by simp [Tbl.get, hj, ih])

/-- The snapshot lists no entry that equals what an unlisted partner reads. -/
theorem State.psnap_snapshot_ne_default (s : State) {e : Nat × Word} (he : e ∈ s.snapshot.psnap) :
    e.2 ≠ psnapDefault e.1 := by
  have hpsnap (u : State) (p : Tbl Word) (o : Nat) (w : Word) : ({ u with psnap := p }.wr o w).psnap = p := rfl
  unfold State.snapshot at he
  extract_lets pools cells parts u at he
  rw [hpsnap] at he
  simpa using (List.mem_filter.1 he).2

/-- A Yewirak AUDIT_SNAPSHOT. -/
def auditCmd : Cmd := { origin := .yewirak, opcode := 19, target := 0, tag := 0, args := [] }

/-- AUDIT_SNAPSHOT executes in OPERATIONAL; no partner has been loaded. -/
def auditing : State :=
  { State.reset with ctl := { ModeCtl.reset with mode := .operational, exec := some auditCmd } }

/-- A partner that is not loaded has the 33-cell request of Table 7-12 in its word 2. -/
theorem partWord_auditing : auditing.partWord 0 2 = psnapDefault 2 ∧ psnapDefault 2 ≠ 0 := by
  constructor <;> decide +kernel

end Sys2Proof.Machine

section
open Sys2Proof Sys2Proof.Machine

/-- Refutes O40: the snapshot lists only partner words that differ from those of an unloaded partner, whose word 2 is not
0 (`psnapWord` reads it through `psnapDefault`), so that read with the default 0 the table does not give word 2. -/
theorem not_fetchAndUnitCommands : ¬ Obligations.FetchAndUnitCommands := by
  unfold Obligations.FetchAndUnitCommands
  rintro ⟨-, h⟩
  obtain ⟨-, -, -, -, -, -, haudit, -⟩ := h auditing auditCmd rfl rfl
  obtain ⟨t, ht, -, hword, -⟩ := haudit rfl
  obtain ⟨hpart, hdefault⟩ := partWord_auditing
  have hread : t.psnap.get (fun _ => 0) 2 = psnapDefault 2 := (hword 0 2 (by decide) (by decide)).trans hpart
  have hnext : t = auditing.snapshot.finish cOk 0 := by
    have hexec : auditing.executing 19 = some auditCmd := State.executing_of_exec (c := auditCmd) rfl rfl
    have hrun : auditing.cmdAudit = auditing.snapshot.finish cOk 0 :=
      State.running_of_executing hexec fun _ s => s.snapshot.finish cOk 0
    rw [← hrun]
    exact (Host.Outcome.next.inj ht).symm
  have hfinish (u : State) : (u.finish cOk 0).psnap = u.psnap := by simp
  have hpsnap : t.psnap = auditing.snapshot.psnap := by rw [hnext, hfinish]
  rcases Tbl.get_mem_or_default (fun _ => 0) t.psnap 2 with hmem | hzero
  · rw [hread, hpsnap] at hmem
    exact State.psnap_snapshot_ne_default _ hmem rfl
  · exact hdefault (hread.symm.trans hzero)

end

namespace Sys2Proof.Machine
open Sys2Proof

/-! ### A load that is listed for another target than its own (R110) -/

/-- A Yewirak RELOAD_CLUSTER of cluster 0. -/
def reloadCmd : Cmd := { origin := .yewirak, opcode := 2, target := 0, tag := 0, args := [] }

/-- A load of cluster 1 that waits for stage 6, its stream without records. -/
def strayLoad : LoadJob := ⟨1, false, .stage6, [], .none⟩

/-- Cluster 0 reconfigures, and the load listed for it names cluster 1. -/
def strayLoading : State :=
  { State.reset with
    ctl := { ModeCtl.reset with mode := .reconfiguring, reconfig := 1, exec := some reloadCmd },
    loads := [(0, some strayLoad)] }

/-- Stage 6 finds nothing, apply runs for cluster 1, and the load listed for cluster 0 stays in stage 6. -/
theorem clusterStage6_strayLoading :
    strayLoading.stage6 0 [] = none ∧
    ((strayLoading.clusterStage6 0).load 0).map (fun j => j.phase == .apply) = some false := by
  constructor <;> decide +kernel

end Sys2Proof.Machine

section
open Sys2Proof Sys2Proof.Machine

/-- Refutes O41: of a load listed for cluster `k` the statement does not ask that it is `k`'s own; apply advances the
load of the target that the job names, and the one listed for `k` stays in stage 6. -/
theorem not_loaderCommands : ¬ Obligations.LoaderCommands := by
  unfold Obligations.LoaderCommands
  intro h
  obtain ⟨-, -, -, -, hstage6, -⟩ := h strayLoading [] [] [] reloadCmd 0
  obtain ⟨hnone, hstays⟩ := clusterStage6_strayLoading
  obtain ⟨t, ht, ⟨y, hload⟩, -⟩ := (hstage6 strayLoad (by decide) rfl rfl rfl rfl rfl rfl).1 hnone
  have hnext : t = strayLoading.clusterStage6 0 := (Host.Outcome.next.inj ht).symm
  rw [← hnext, hload] at hstays
  simp at hstays

end

namespace Sys2Proof.Machine
open Sys2Proof

/-! ### FAULT-HOLD, and what BRING-UP keeps of Keeper (R61, R633, R634) -/

/-- The executor's queue apart, the executor is as it was. -/
def State.standing (s : State) : ModeCtl := { s.ctl with exec := none, waiting := [] }

theorem State.standing_fields (s : State) :
    s.standing.mode = s.mode ∧ s.standing.hold = s.ctl.hold ∧ s.standing.causePresent = s.ctl.causePresent :=
  ⟨rfl, rfl, rfl⟩

theorem State.standing_of_ctl {s t : State} (h : t.ctl = s.ctl) : t.standing = s.standing := by
  rw [State.standing, State.standing, h]

theorem State.standing_begin_ (c : Cmd) (s : State) : (s.begin_ c).2.standing = s.standing := by
  unfold State.begin_
  split
  · exact State.standing_of_ctl (by simp)
  · split
    · exact State.standing_of_ctl (by simp)
    · split
      · exact State.standing_of_ctl (by simp)
      · rfl

theorem State.standing_beginNext (cs : List Cmd) (s : State) : (State.beginNext cs s).standing = s.standing := by
  induction cs generalizing s with
  | nil => rfl
  | cons c cs ih =>
    unfold State.beginNext
    generalize hb : s.begin_ c = b
    have hs : b.2.standing = s.standing := hb ▸ State.standing_begin_ c s
    obtain ⟨go, u⟩ := b
    dsimp only
    split
    · exact hs
    · exact (ih u).trans hs

/-- Commands that waited are judged: nothing else of the executor changes. -/
theorem State.standing_settle (s : State) : s.settle.standing = s.standing := by
  unfold State.settle
  split
  · rfl
  · exact State.standing_beginNext _ s

/-- FAULT-HOLD is entered with the cause (R61, R745). -/
theorem State.faultHold_holds {s : State} (hm : s.mode ≠ .faultHold) (cause : HoldCause) (detail : Nat) :
    (s.faultHold cause detail).mode = .faultHold ∧ (s.faultHold cause detail).ctl.hold = cause ∧
    (s.faultHold cause detail).ctl.causePresent = (cause matches .overtemp | .inputPassFault) := by
  unfold State.faultHold
  rw [if_neg (by simpa using hm)]
  extract_lets s1 books s2 t s3
  generalize hu : (s3.wr 0x78 (wd (t / 2 ^ 32))) = u
  have hctl : u.ctl = s2.ctl := by rw [← hu]; rfl
  have hst : (u.changeMode .faultHold).settle.standing = { s2.standing with mode := .faultHold, prev := u.mode } := by
    rw [State.standing_settle, State.standing, State.standing, State.ctl_changeMode, hctl]
  obtain ⟨hmode, hhold, hpresent⟩ := State.standing_fields (u.changeMode .faultHold).settle
  rw [← hmode, ← hhold, ← hpresent, hst]
  exact ⟨rfl, rfl, rfl⟩

/-- A change of mode that is no sleep and no FAULT-HOLD leaves Keeper as it was. -/
theorem State.keeper_changeMode {m : Mode} (hf : m ≠ .faultHold) (hs : m ≠ .sleep) (s : State) :
    (s.changeMode m).keeper = s.keeper := by
  have hfollowed : (s.modeFollowed m).keeper = s.keeper := by
    unfold State.modeFollowed
    extract_lets old s1 s2 s3 s4 s5
    have h1 : s1.keeper = s.keeper :=
      (State.modRecord_k (m := 0x2010003C000000) 5 m.code old.code (s.modeSet m) rfl (Kept.refl _ _)).same .keeper rfl
    have h2 : s2.keeper = s1.keeper := by
      unfold s2
      rw [if_neg (by simpa using hf)]
      exact (State.lanesFollow_k (m := 0x2011173C001988) s1 rfl (Kept.refl _ s1)).same .keeper rfl
    have h3 : s3.keeper = s2.keeper := by
      unfold s3
      split
      · rfl
      · rfl
      · rfl
      · exact (State.stopTimelines_k (m := 0x10000000000) _ s2 rfl (Kept.refl _ s2)).same .keeper rfl
    have h4 : s4.keeper = s3.keeper :=
      (State.enginesFollow_k (m := 0x100000000000) s3 rfl (Kept.refl _ s3)).same .keeper rfl
    have h5 : s5.keeper = s4.keeper := by
      unfold s5
      have hunsee : s4.unseeAll.keeper = s4.keeper :=
        (State.unseeAll_k (m := 0x20000000000) s4 rfl (Kept.refl _ s4)).same .keeper rfl
      split
      · exact hunsee
      · exact hunsee
      · exact hunsee
      · exact hunsee
      · rfl
    refine (State.ite_same State.keeper (State.each_same State.keeper _ (fun n u => ?_) s5)).trans
      (h5.trans (h4.trans (h3.trans (h2.trans h1))))
    exact State.ite_same State.keeper
      ((State.setf_k (m := 0x8) (busBase n) 30 2 0 u rfl (Kept.refl _ u)).same .keeper rfl)
  rw [State.changeMode_eq, ← hfollowed]
  unfold State.modeStarted
  extract_lets s1 s2 s3 s4
  have h1 : s1 = s.modeFollowed m := if_neg (by simpa using hs)
  have h2 : s2.keeper = s1.keeper := State.ite_same State.keeper
    ((State.wakeHost_k (m := 0x20000020000000) { s1 with mem := [] } rfl (Kept.refl _ _)).same .keeper rfl)
  have h3 : s3.keeper = s2.keeper := State.ite_same State.keeper
    ((State.wakeEngines_k (m := 0x2031003C008808) s2 rfl (Kept.refl _ _)).same .keeper rfl)
  have h4 : s4.keeper = s3.keeper := State.ite_same State.keeper rfl
  rw [← h1, ← h2, ← h3, ← h4]
  split
  · exact (State.clearCommanded_k (m := 0x2810003C000008) _ s4 rfl (Kept.refl _ _)).same .keeper rfl
  · exact (State.sparRefresh_k (m := 0x2810003C000008) s4 rfl (Kept.refl _ _)).same .keeper rfl

/-- A health record that waits to be stored changes nothing of the firmware. -/
theorem State.firmware_queueHealth (s : State) :
    s.queueHealth.keeper.runsB = s.keeper.runsB ∧ s.queueHealth.keeper.epoch = s.keeper.epoch ∧
    s.queueHealth.keeper.autoload = s.keeper.autoload := by
  unfold State.queueHealth
  extract_lets waiting
  split
  · exact ⟨rfl, rfl, rfl⟩
  · exact ⟨rfl, rfl, rfl⟩

/-- Without units and rows found faulty the checks leave memory zero and no more (R762). -/
theorem State.moduleChecks_nil (s : State) : s.moduleChecks [] [] = { s with mem := [] } := by
  simp [State.moduleChecks, State.reports, State.each]

/-- What the measurement of the store leaves (R676, R721). -/
theorem State.noteHoldup_effect {uf : Nat} (huf : uf < 65536) (mw : Nat) (s : State) :
    (s.noteHoldup uf mw).power = { s.power with capUf := uf, holdUs := holdUp uf mw } ∧
    (s.noteHoldup uf mw).ctl = s.ctl ∧
    (s.noteHoldup uf mw).keeper.runsB = s.keeper.runsB ∧ (s.noteHoldup uf mw).keeper.epoch = s.keeper.epoch ∧
    (s.noteHoldup uf mw).keeper.autoload = s.keeper.autoload := by
  have hmin : min uf 65535 = uf := by omega
  unfold State.noteHoldup
  extract_lets u s1 old s2 s3
  have hu : u = uf := hmin
  obtain ⟨hruns, hepoch, hauto⟩ := State.firmware_queueHealth s2
  have hpower : s3.power = s2.power := by simp [s3]
  have hctl : s3.ctl = s2.ctl := by simp [s3]
  have hend : ∀ t : State, t = (if u < 160 then s3.raise .hlt 6 0 1 else s3) →
      t.power = s3.power ∧ t.ctl = s3.ctl ∧ t.keeper = s3.keeper := by
    rintro t rfl
    split
    · exact ⟨by simp, by simp, by simp⟩
    · exact ⟨rfl, rfl, rfl⟩
  obtain ⟨hp, hc, hk⟩ := hend _ rfl
  refine ⟨hp.trans (hpower.trans ?_), hc.trans hctl, by rw [hk]; exact hruns, by rw [hk]; exact hepoch,
    by rw [hk]; exact hauto⟩
  rw [← hu]
  rfl

/-- A reading's word (Table 22-12): the highest reading above the present one. -/
theorem fld_tempWord (hi lo : Int) :
    fld (wd (f2 (ofSigned 16 hi) 16 + ofSigned 16 lo)) 0 16 = ofSigned 16 lo ∧
    fld (wd (f2 (ofSigned 16 hi) 16 + ofSigned 16 lo)) 16 16 = ofSigned 16 hi := by
  have hlt (i : Int) : ofSigned 16 i < 65536 := by rw [ofSigned]; omega
  have hh := hlt hi
  have hl := hlt lo
  generalize ofSigned 16 hi = h at hh ⊢
  generalize ofSigned 16 lo = l at hl ⊢
  have hw : (wd (f2 h 16 + l)).toNat = h * 65536 + l := by
    rw [wd, BitVec.toNat_ofNat, f2]
    omega
  rw [fld, fld, hw, Nat.shiftRight_eq_div_pow, Nat.shiftRight_eq_div_pow]
  omega

theorem toSigned_ofSigned {i : Int} (hlo : -32768 ≤ i) (hhi : i ≤ 32767) : toSigned 16 (ofSigned 16 i) = i := by
  have hlt : ofSigned 16 i < 65536 := by rw [ofSigned]; omega
  simp only [toSigned]
  split <;> simp only [ofSigned] at * <;> omega

theorem toSigned_range (n : Nat) : -32768 ≤ toSigned 16 n ∧ toSigned 16 n ≤ 32767 := by
  simp only [toSigned]
  split <;> omega

/-- The reading with the highest one before it (R744). -/
def State.tempNoted (x : Int) (s : State) : State :=
  let old := toSigned 16 (s.rf 0x60 16 16)
  { s with health := { s.health with tempSeen := true } }.wr 0x60
    (wd (f2 (ofSigned 16 (if s.health.tempSeen && x ≤ old then old else x)) 16 + ofSigned 16 x))

theorem State.tempUpdate_powered {s : State} (hp : s.mode.unpowered = false) (x : Int) :
    s.tempUpdate x =
      if s.mode == .faultHold then
        if s.ctl.hold == .overtemp && x < 2080 then
          { s.tempNoted x with ctl := { s.ctl with causePresent := false } } else s.tempNoted x
      else if 2240 ≤ x then (s.tempNoted x).faultHold .overtemp (ofSigned 16 x) else s.tempNoted x := by
  unfold State.tempUpdate
  rw [hp, if_neg Bool.false_ne_true]
  rfl

/-- The rate of a cluster falls below its low mark, which has not been told yet (R39). -/
def State.rateFalls (c r : Nat) (s : State) : Prop :=
  r < s.rf (0x480 + 4 * c) 16 12 ∧ s.rf (0x480 + 4 * c) 16 12 ≤ s.rf (0x480 + 4 * c) 0 12 ∧
    s.health.rateTold.contains c = false

/-- A rate window writes its cluster's word `v`; a rate that falls below the low mark is counted and told. -/
theorem State.rateWindow_effect {s : State} {c r : Nat} (hc : s.hasCluster c = true) (hp : s.mode.unpowered = false)
    (hm : s.mode ≠ .sleep) (hb : s.beacon.running = true) (hr : r < 4096) :
    ∃ v : State, (¬ s.rateFalls c r ∧ s.rateWindow c r = v ∨
        s.rateFalls c r ∧ s.rateWindow c r = (v.countHlt 3).modRecord 6 c r ∧ c ∈ v.health.rateTold) ∧
      v.rd (0x480 + 4 * c) = wd (2 ^ 31 + s.rf (0x480 + 4 * c) 16 12 * 2 ^ 16 + r) ∧
      ∀ o, o ≠ 0x480 + 4 * c → v.rd o = s.rd o := by
  have hguard : (!s.hasCluster c || s.mode.unpowered || s.mode == .sleep || !s.beacon.running) = false := by
    simp [hc, hp, hm, hb]
  have hmin : min r 4095 = r := by omega
  unfold State.rateWindow
  rw [hguard, if_neg Bool.false_ne_true, hmin]
  extract_lets off rate low before told raise s1 rest old v
  have hraise : raise = true ↔ s.rateFalls c r := by
    simp only [raise, told, State.rateFalls, Bool.and_eq_true, decide_eq_true_eq, Bool.not_eq_true', and_assoc]
    refine and_congr_right fun hlow => and_congr_right fun _ => ?_
    rw [show decide (rate < low + 16) = true from decide_eq_true (Nat.lt_add_right 16 hlow), Bool.and_true]
  refine ⟨v, ?_, (State.rd_wr off off _ s).trans (if_pos rfl), fun o ho =>
    (State.rd_wr off o _ s).trans (if_neg ho)⟩
  by_cases hr : raise = true
  · refine .inr ⟨hraise.1 hr, if_pos hr, ?_⟩
    have htold : v.health.rateTold = c :: rest := if_pos (by rw [hr, Bool.or_true])
    rw [htold]
    exact List.mem_cons_self
  · exact .inl ⟨mt hraise.2 hr, if_neg hr⟩

end Sys2Proof.Machine

section
open Sys2Proof Sys2Proof.Machine

/-- Settles O42: the boot and the checks set the stage for a change of mode, or for FAULT-HOLD with its cause; the
monitors write their own words. -/
theorem bringUpAndMonitors : Obligations.BringUpAndMonitors := by
  unfold Obligations.BringUpAndMonitors
  intro s a b uf mw st picks x c r
  refine ⟨fun hm hboot hact hx hw => ⟨fun hauto hlo hhi hmw => ?up, fun hst => ?selfTest⟩,
    fun hm ha hb => ?noBoot, fun hm => ?timeout, fun hm => ?noTimeout,
    fun hp hm hlo hhi => ?temp, fun hp hm hlo hhi => ?hot,
    fun hm hh hlo hhi => ?cool, fun hc hp hm hb hr => ?rate⟩
  case up =>
    let u : State := (s.upKeeper fun k => { k with runsB := k.activeB, fallback := false }).raiseEpoch
    let v : State := { u with mem := [] }.noteHoldup uf mw
    have hboots : s.keeperBoot a b = some (s.upKeeper fun k => { k with runsB := k.activeB, fallback := false }) := by
      simp only [State.keeperBoot, hact, Bool.false_eq_true, if_false, hboot, if_true]
    obtain ⟨hpower, hctl, hruns, hepoch, hautoV⟩ := State.noteHoldup_effect hhi mw { u with mem := [] }
    have hmode : v.mode = .bringUp := (congrArg ModeCtl.mode hctl).trans hm
    have hnext : s.bringUpComplete a b 0 [] [] uf mw picks = v.changeMode .unconfigured := by
      have henter : v.enterMode .unconfigured = v.changeMode .unconfigured :=
        State.enterMode_of_run (by rw [hmode]; decide) (by decide) (by decide) (by decide)
      have hcap : ¬ v.power.capUf < 140 := by rw [hpower]; exact Nat.not_lt.2 hlo
      have hstored : v.keeper.autoload = none := hautoV.trans hauto
      have hsettle : (v.changeMode .unconfigured).settle = v.changeMode .unconfigured :=
        State.settle_of_free (by rw [State.ctl_changeMode, hctl]; exact hx)
          (by rw [State.ctl_changeMode, hctl]; exact hw)
      unfold State.bringUpComplete
      rw [if_neg (by simp [hm]), hboots]
      change State.bringUpRest 0 [] [] uf mw picks u = _
      unfold State.bringUpRest
      rw [if_neg (by simp), State.moduleChecks_nil]
      change (if v.power.capUf < 140 then _ else _) = _
      rw [if_neg hcap, hstored]
      exact (congrArg State.settle henter).trans hsettle
    have hkeeper := State.keeper_changeMode (m := .unconfigured) (by decide) (by decide) v
    have hpowerC : (v.changeMode .unconfigured).power = v.power := by simp
    refine ⟨_, congrArg Host.Outcome.next hnext, ?_, ?_, ?_, ?_, ?_, ?_⟩
    · rw [State.mode, State.ctl_changeMode]
    · rw [State.ctl_changeMode]
      exact hmode
    · rw [hpowerC, hpower]
    · rw [hpowerC, hpower]
      change min 65535 (655200 * uf / max 1 mw) = _
      rw [max_eq_right (by omega)]
    · rw [hkeeper, hruns]
      exact hact
    · rw [hkeeper, hepoch]
      have hfw : u.keeper.epoch = max s.keeper.epoch
          ((if s.keeper.activeB then s.keeper.fwB else s.keeper.fwA).getD Firmware.none).epoch := rfl
      refine hfw.trans ?_
      rw [hact]
      rfl
  case selfTest =>
    have hboots : s.keeperBoot a b = some (s.upKeeper fun k => { k with runsB := k.activeB, fallback := false }) := by
      simp only [State.keeperBoot, hact, Bool.false_eq_true, if_false, hboot, if_true]
    have hnext : s.bringUpComplete a b st [] [] uf mw picks =
        ((s.upKeeper fun k => { k with runsB := k.activeB, fallback := false }).raiseEpoch).faultHold
          .selftestFail st := by
      unfold State.bringUpComplete
      rw [if_neg (by simp [hm]), hboots]
      exact if_pos (by omega)
    obtain ⟨hmode, hhold, -⟩ := State.faultHold_holds
      (s := (s.upKeeper fun k => { k with runsB := k.activeB, fallback := false }).raiseEpoch)
      (fun h => absurd (hm.symm.trans h) (by decide)) .selftestFail st
    exact ⟨_, congrArg Host.Outcome.next hnext, hmode, hhold⟩
  case noBoot =>
    have hboots : s.keeperBoot a b = none := by
      simp only [State.keeperBoot, ha, hb, ite_self, Bool.false_eq_true, if_false]
    have hnext : s.bringUpComplete a b st [] [] uf mw picks = s.faultHold .keeperBootFail
        (s.bootCode s.keeper.fwA a * 256 + s.bootCode s.keeper.fwB b) := by
      unfold State.bringUpComplete
      rw [if_neg (by simp [hm]), hboots]
    obtain ⟨hmode, hhold, -⟩ := State.faultHold_holds (s := s) (by rw [hm]; decide) .keeperBootFail
      (s.bootCode s.keeper.fwA a * 256 + s.bootCode s.keeper.fwB b)
    exact ⟨_, congrArg Host.Outcome.next hnext, hmode, hhold⟩
  case timeout =>
    exact ⟨_, congrArg Host.Outcome.next (if_pos (by simp [hm])),
      State.faultHold_holds (by rw [hm]; decide) .bringupTimeout st⟩
  case noTimeout => exact congrArg Host.Outcome.next (if_neg (by simpa using hm))
  case temp =>
    have hnext : s.tempUpdate x = s.tempNoted x := by
      rw [State.tempUpdate_powered hp, if_neg (by simpa using hm), if_neg (by omega)]
    let old := toSigned 16 (s.rf 0x60 16 16)
    have hword : (s.tempNoted x).rd 0x60 =
        wd (f2 (ofSigned 16 (if s.health.tempSeen && x ≤ old then old else x)) 16 + ofSigned 16 x) := by
      unfold State.tempNoted
      rw [State.rd_wr, if_pos rfl]
    refine ⟨_, congrArg Host.Outcome.next hnext, ?_, rfl, ?_⟩
    · rw [hword]
      exact (fld_tempWord _ x).1
    · rw [hword, (fld_tempWord _ x).2]
      have hold : -32768 ≤ old ∧ old ≤ 32767 := toSigned_range _
      change toSigned 16 (ofSigned 16 _) = if s.health.tempSeen = true then max x old else x
      cases s.health.tempSeen with
      | false => exact toSigned_ofSigned hlo (by omega)
      | true =>
        rw [if_pos rfl, Bool.true_and]
        by_cases hle : x ≤ old
        · rw [if_pos (by simpa using hle), toSigned_ofSigned hold.1 hold.2, max_eq_right hle]
        · rw [if_neg (by simpa using hle), toSigned_ofSigned hlo (by omega), max_eq_left (by omega)]
  case hot =>
    have hnext : s.tempUpdate x = (s.tempNoted x).faultHold .overtemp (ofSigned 16 x) := by
      rw [State.tempUpdate_powered hp, if_neg (by simpa using hm), if_pos hlo]
    exact ⟨_, congrArg Host.Outcome.next hnext, State.faultHold_holds (s := s.tempNoted x) hm .overtemp _⟩
  case cool =>
    have hnext : s.tempUpdate x = { s.tempNoted x with ctl := { s.ctl with causePresent := false } } := by
      rw [State.tempUpdate_powered (by rw [hm]; rfl), if_pos (by simp [hm]), if_pos (by simp [hh, hhi])]
    exact ⟨_, congrArg Host.Outcome.next hnext, rfl⟩
  case rate =>
    have hlt : c < 4 := by
      simp only [State.hasCluster, Bool.and_eq_true, decide_eq_true_eq] at hc
      exact hc.1
    obtain ⟨v, hnext, hword, hother⟩ := State.rateWindow_effect hc hp hm hb hr
    rcases hnext with ⟨hfalls, hnext⟩ | ⟨-, hnext, htold⟩
    · exact ⟨_, congrArg Host.Outcome.next hnext, hword, fun hlow hbefore hnew =>
        absurd ⟨hlow, hbefore, hnew⟩ hfalls⟩
    · have hkept : Kept 0x2010003C000008 v ((v.countHlt 3).modRecord 6 c r) :=
        State.modRecord_k _ _ _ _ rfl (State.countHlt_k _ _ _ rfl (Kept.refl _ v))
      have hrd (o : Nat) : ((v.countHlt 3).modRecord 6 c r).rd o = (v.countHlt 3).rd o :=
        State.rd_of_kept (State.modRecord_k (m := 0x2010003C000000) 6 c r _ rfl (Kept.refl _ _)) rfl o
      have hcount : RegSet 0x2202C (wd (satAdd (2 ^ 32 - 1) (v.rd 0x2202C).toNat 1)) v (v.countHlt 3) :=
        State.regSet_cnt _ v
      refine ⟨_, congrArg Host.Outcome.next hnext, ?_, fun _ _ _ => ⟨?_, ?_⟩⟩
      · rw [hrd, hcount.2 _ (by omega), hword]
      · rw [hrd, hcount.1, hother _ (by omega)]
      · rw [hkept.same .health rfl]
        exact htold

end

namespace Sys2Proof.Machine
open Sys2Proof

/-! ### The store's measurement is lost as BRING-UP begins (R52, R676) -/

/-- INRUSH with the switch in its inrush, and a store of 1 µF measured before. -/
def measuredInrush : State :=
  { State.reset with
    ctl := { ModeCtl.reset with mode := .inrush },
    power := { Power.reset with sw := .inrush, capUf := 1 } }

theorem capUf_measuredInrush : (measuredInrush.inrushDone 0 0).power.capUf = 0 := by decide +kernel

end Sys2Proof.Machine

section
open Sys2Proof Sys2Proof.Machine

/-- Refutes O43: the entry to BRING-UP returns the measured capacitance and hold-up time to their reset values (R52), so
the power die is not as it was beside the switch where a store had been measured before. -/
theorem not_feedsSeatingAndInputSwitch : ¬ Obligations.FeedsSeatingAndInputSwitch := by
  unfold Obligations.FeedsSeatingAndInputSwitch
  intro h
  obtain ⟨-, hinrush, -⟩ := h.1 measuredInrush 0 0
  obtain ⟨t, ht, -, -, -, hpower⟩ := hinrush rfl rfl rfl rfl
  have hnext : t = measuredInrush.inrushDone 0 0 := (Host.Outcome.next.inj ht).symm
  have hone : t.power.capUf = 1 := by rw [hpower]; rfl
  have hzero : t.power.capUf = 0 := by rw [hnext]; exact capUf_measuredInrush
  exact absurd (hone.symm.trans hzero) (by decide)

end

namespace Sys2Proof.Machine
open Sys2Proof

/-! ### The return from D3hot to D0 clears the sleep request (R589) -/

/-- The function is in D3hot, and the sleep request of HOST_SLEEP_REQ is set. -/
def sleepRequested : State :=
  { State.reset with host := { HostLink.reset with d3hot := true }, regs := [(0xE400, 1)] }

theorem sleepRequest_cleared :
    sleepRequested.rd 0xE400 = 1 ∧ (sleepRequested.d3Entry false false false).rd 0xE400 = 0 := by
  constructor <;> decide +kernel

end Sys2Proof.Machine

section
open Sys2Proof Sys2Proof.Machine

/-- Refutes O44: a return from D3hot to D0 changes more than the function's power state: it clears req of
HOST_SLEEP_REQ (R589). -/
theorem not_hostFunction : ¬ Obligations.HostFunction := by
  unfold Obligations.HostFunction
  intro h
  obtain ⟨-, hd3, -⟩ := h sleepRequested 0 false false false
  obtain ⟨hset, hcleared⟩ := sleepRequest_cleared
  have hnext := Host.Outcome.next.inj hd3
  have hone : (sleepRequested.d3Entry false false false).rd 0xE400 = 1 := by rw [hnext]; exact hset
  exact absurd (hcleared.symm.trans hone) (by decide)

end

namespace Sys2Proof.Machine
open Sys2Proof

/-! ### Messages of event queues (R586, R592, R601) -/

@[simp] theorem State.msix_setMsix (i k : Nat) (m : Msix) (s : State) :
    (s.setMsix i m).msix k = if k = i then m else s.msix k := Tbl.get_set _ _ _ _ _

/-- A queue's message disarms it and leaves its pointers. -/
theorem State.eq_eqMessage (q k : Nat) (s : State) :
    (s.eqMessage q).eq k = if k = q then { s.eq q with armed := false, timer := false } else s.eq k := by
  have heqs : (s.eqMessage q).eqs = (s.setEq q { s.eq q with armed := false, timer := false }).eqs :=
    (State.msixSend_k (m := 0x20000020000000) q _ rfl (Kept.refl _ _)).same .eqs rfl
  rw [State.eq, heqs]
  exact State.eq_setEq ..

theorem State.regs_eqMessage (q : Nat) (s : State) : (s.eqMessage q).regs = s.regs :=
  (State.eqMessage_k (m := 0x20000028000000) q s rfl (Kept.refl _ s)).same .regs rfl

/-- What a queue has unread, zero unless it is enabled. -/
def State.eqReported (s : State) (q : Nat) : Nat := if s.eqEnabled q then s.eqUnread q else 0

/-- The report follows from the queue's pointers, its CFG word and its enable. -/
theorem State.eqReported_congr {s t : State} {q : Nat} (hhead : (t.eq q).head = (s.eq q).head)
    (htail : (t.eq q).tail = (s.eq q).tail) (hcfg : t.rd (eqOff q 2) = s.rd (eqOff q 2)) :
    t.eqReported q = s.eqReported q := by
  have hsize : t.eqSize q = s.eqSize q := by rw [State.eqSize, State.rf, hcfg, State.eqSize, State.rf]
  have hunread : t.eqUnread q = s.eqUnread q := by
    simp only [State.eqUnread, hhead, htail, hsize]
  have hon : t.eqEnabled q = s.eqEnabled q := by rw [State.eqEnabled, State.rb, hcfg, State.eqEnabled, State.rb]
  rw [State.eqReported, State.eqReported, hon, hunread]

theorem State.eqReported_eqMessage (q k : Nat) (s : State) : (s.eqMessage q).eqReported k = s.eqReported k := by
  refine State.eqReported_congr ?_ ?_ (State.rd_of_kept
    (State.eqMessage_k (m := 0x20000028000000) q s rfl (Kept.refl _ s)) rfl _)
  all_goals
    rw [State.eq_eqMessage]
    split
    · next h => rw [h]
    · rfl

theorem State.msixSend_clear {s : State} {v : Nat} (hv : (s.msix v).masked = false) (hf : s.host.fnMask = false) :
    s.msixSend v = s.emit (.msix v) := by
  simp [State.msixSend, hv, hf]

theorem State.msixSend_masked {s : State} {v : Nat} (hv : (s.msix v).masked = true) :
    s.msixSend v = s.setMsix v { s.msix v with pending := true } := by
  simp [State.msixSend, hv]

theorem State.moderationTimer_runs {s : State} {q : Nat} (ha : (s.eq q).armed = true) (ht : (s.eq q).timer = true)
    (hl : s.host.l1 = false) : s.moderationTimer q = s.eqMessage q := by
  simp [State.moderationTimer, ha, ht, hl]

/-- A message puts one more output before those there were, or none. -/
theorem State.mem_out_eqMessage {o : Out} {s : State} (q : Nat) (h : o ∈ s.out) : o ∈ (s.eqMessage q).out := by
  unfold State.eqMessage State.msixSend
  extract_lets m
  split
  · exact h
  · exact List.mem_cons_of_mem _ h

/-- A write of HOST_SLEEP_REQ (R588). -/
theorem exec_hostSleepReq {s : State} (yw : Bool) (w : Word) (ho : s.open_ 0xE400 = true) :
    exec (.hostSleepReq yw w) s = .next (s.sleepReq (bit w 0)) :=
  congrArg Host.Outcome.next (State.writeWord_of_open (r := .sleepReq) _ w rfl ho)

/-- The report of the sleep handshake (R588): the messages leave what is unread. -/
theorem State.sleepShake_effect (s : State) :
    (∀ o, o ≠ 0xE404 → s.sleepShake.rd o = s.rd o) ∧
    s.sleepShake.rd 0xE404 = wd (2 ^ 31 + ((List.range 64).map s.eqReported).sum % 2 ^ 19) := by
  unfold State.sleepShake
  extract_lets u n
  have hrd (o : Nat) : u.rd o = s.rd o := State.each_same (State.rd · o) _ (fun q t => by
    split
    · exact State.rd_of_kept (State.eqMessage_k (m := 0x20000028000000) q t rfl (Kept.refl _ t)) rfl o
    · rfl) s
  have hunread : u.eqReported = s.eqReported := State.each_same State.eqReported _ (fun q t => by
    split
    · exact funext fun k => State.eqReported_eqMessage q k t
    · rfl) s
  refine ⟨fun o ho => ?_, ?_⟩
  · rw [State.rd_wr, if_neg ho, hrd]
  · have hn : n = ((List.range 64).map u.eqReported).sum := rfl
    rw [State.rd_wr, if_pos rfl, hn, hunread]

/-- What a write of HOST_SLEEP_REQ leaves before the handshake: its own word, and the report no longer valid. -/
def State.sleepAsked (req : Bool) (s : State) : State := (s.wr 0xE400 (wd (b2n req))).setf 0xE404 31 1 0

theorem State.rd_sleepAsked (req : Bool) (s : State) :
    (s.sleepAsked req).rd 0xE400 = wd (b2n req) ∧ (s.sleepAsked req).rb 0xE404 31 = false ∧
    ∀ o, o ≠ 0xE400 → o ≠ 0xE404 → (s.sleepAsked req).rd o = s.rd o := by
  refine ⟨?_, ?_, fun o h h' => ?_⟩
  · rw [State.sleepAsked, State.setf, State.rd_wr, if_neg (by decide), State.rd_wr, if_pos rfl]
  · rw [State.sleepAsked, State.setf, State.rb, State.rd_wr, if_pos rfl, bit_setFld _ _ _ _ (by decide)]
    rfl
  · rw [State.sleepAsked, State.setf, State.rd_wr, if_neg h', State.rd_wr, if_neg h]

/-- The first held record is written at its queue's tail, and its place is no longer reserved (R583, R592). -/
def State.heldWritten (q : Nat) (r : EvRec) (s : State) : State :=
  let a := { s with hold := [] }.eqWrite q r
  a.setEq q { a.eq q with reserved := (a.eq q).reserved - 1 }

theorem State.eq_heldWritten (q : Nat) (r : EvRec) (s : State) :
    ((s.heldWritten q r).eq q).tail = ((s.eq q).tail + 1) % s.eqSize q ∧
    ((s.heldWritten q r).eq q).reserved = (s.eq q).reserved - 1 := by
  have hw : (({ s with hold := [] } : State).eqWrite q r).eq q = { s.eq q with
      tail := ((s.eq q).tail + 1) % s.eqSize q,
      phase := if ((s.eq q).tail + 1) % s.eqSize q = 0 then !(s.eq q).phase else (s.eq q).phase } :=
    (State.eq_setEq ..).trans (if_pos rfl)
  have hb : (s.heldWritten q r).eq q = { (({ s with hold := [] } : State).eqWrite q r).eq q with
      reserved := ((({ s with hold := [] } : State).eqWrite q r).eq q).reserved - 1 } :=
    (State.eq_setEq ..).trans (if_pos rfl)
  rw [hb, hw]
  exact ⟨rfl, rfl⟩

theorem State.out_heldWritten (q : Nat) (r : EvRec) (s : State) :
    (s.heldWritten q r).out = .hostWrite (s.eqBase q + 16 * (s.eq q).tail) (r.bytes (s.eq q).phase) :: s.out := rfl

theorem State.writeHeld_one {q : Nat} {r : EvRec} {s : State} (h : s.hold = [(q, r)]) :
    s.writeHeld = s.heldWritten q r := by
  rw [State.writeHeld, h]
  rfl

end Sys2Proof.Machine

section
open Sys2Proof Sys2Proof.Machine

/-- Settles O45: a message changes its queue's flags and what is sent; the held record's write is the queue's next. -/
theorem messagesAndRecords : Obligations.MessagesAndRecords := by
  unfold Obligations.MessagesAndRecords
  intro s q v addr data r yw w
  refine ⟨fun ha ht hl hv hf => ?sent, fun ha ht hl hv => ?masked, fun h => ?idle, fun hm hv hp hf => ?unmask,
    fun hm hv => ?mask, rfl, fun hh hq hd => ?noneHeld, fun hh hq hd hu hl hm => ?held, fun ho hl hw => ?noReq,
    fun ho hl hd hw => ?req⟩
  case sent =>
    have hnext : s.moderationTimer q = (s.setEq q { s.eq q with armed := false, timer := false }).emit (.msix q) :=
      (State.moderationTimer_runs ha ht hl).trans (State.msixSend_clear hv hf)
    exact congrArg Host.Outcome.next hnext
  case masked =>
    have hnext : s.moderationTimer q = (s.setEq q { s.eq q with armed := false, timer := false }).setMsix q
        { s.msix q with pending := true } :=
      (State.moderationTimer_runs ha ht hl).trans (State.msixSend_masked hv)
    exact congrArg Host.Outcome.next hnext
  case idle =>
    have hrun : ((s.eq q).armed && (s.eq q).timer) = false := by
      rcases h with h | h <;> simp [h]
    have hnext : s.moderationTimer q = s := by simp [State.moderationTimer, hrun]
    exact congrArg Host.Outcome.next hnext
  case unmask =>
    let u : State := s.setMsix v { s.msix v with addr := addr, data := data, masked := false }
    have hu : u.msix v = { s.msix v with addr := addr, data := data, masked := false } := by simp [u]
    have hnext : s.msixWrite v addr data false = (u.setMsix v { u.msix v with pending := false }).emit (.msix v) := by
      unfold State.msixWrite
      rw [if_neg (by simp [hm, hv])]
      have hsend : ((s.msix v).pending && !false && !u.host.fnMask) = true := by
        rw [hp, show u.host.fnMask = false from hf]
        rfl
      exact if_pos hsend
    refine ⟨_, congrArg Host.Outcome.next hnext, ?_, rfl, fun k hk => ?_⟩
    · rw [hu]
      exact (State.msix_setMsix v v _ u).trans (if_pos rfl)
    · exact (State.msix_setMsix v k _ u).trans ((if_neg hk).trans ((State.msix_setMsix v k _ s).trans (if_neg hk)))
  case mask =>
    have hnext : s.msixWrite v addr data true =
        s.setMsix v { s.msix v with addr := addr, data := data, masked := true } := by
      unfold State.msixWrite
      rw [if_neg (by simp [hm, hv])]
      exact if_neg (by simp)
    refine ⟨_, congrArg Host.Outcome.next hnext, by simp, rfl, fun k hk => by simp [hk]⟩
  case noneHeld =>
    let u : State := { s with host := { s.host with d3hot := false, busMaster := true } }
    have hkeys : u.hostQs.keys = [] := by rw [show u.hostQs = [] from hq]; rfl
    have hwrite : u.writeHeld = u := by
      have hnil : u.writeHeld = { u with hold := [] } := by
        rw [State.writeHeld, show u.hold = [] from hh]
        rfl
      have hsame : ({ s with host := { s.host with d3hot := false, busMaster := true }, hold := [] } : State) = u := by
        rw [← hh]
      exact hnil.trans hsame
    have hqueues : u.heldQueues = [] := by rw [State.heldQueues, show u.hold = [] from hh]; rfl
    have hflush : u.flushHeld = u := by
      unfold State.flushHeld
      split
      · rfl
      · rw [hqueues, hkeys]
        exact hwrite
    have hnext : s.masterBack = u := by
      unfold State.masterBack
      rw [hd, if_neg Bool.false_ne_true]
      exact hflush
    exact congrArg Host.Outcome.next hnext
  case held =>
    let u : State := { s with host := { s.host with d3hot := false, busMaster := true } }
    have hnext : s.masterBack = (u.heldWritten q r).eqMessage q := by
      have hopen : (!u.hostOpen || u.host.l1 || u.mode == .sleep) = false := by
        have hup : u.hostOpen = true := by
          change (true && s.host.up) = true
          rw [hu, Bool.true_and]
        rw [hup, show u.host.l1 = false from hl, show (u.mode == .sleep) = false from beq_eq_false_iff_ne.2 hm]
        rfl
      have hkeys : u.hostQs.keys = [] := by rw [show u.hostQs = [] from hq]; rfl
      have hqueues : u.heldQueues = [q] := by
        rw [State.heldQueues, show u.hold = [(q, r)] from hh]
        rfl
      unfold State.masterBack
      rw [hd, if_neg Bool.false_ne_true]
      change u.flushHeld = _
      unfold State.flushHeld
      rw [hopen, if_neg Bool.false_ne_true, hqueues, hkeys, State.writeHeld_one (s := u) hh]
      rfl
    obtain ⟨htail, hreserved⟩ := State.eq_heldWritten q r u
    have heq : ((u.heldWritten q r).eqMessage q).eq q =
        { (u.heldWritten q r).eq q with armed := false, timer := false } :=
      (State.eq_eqMessage q q _).trans (if_pos rfl)
    refine ⟨_, congrArg Host.Outcome.next hnext, ?_, State.mem_out_eqMessage q ?_, ?_, ?_, ?_⟩
    · exact (State.eqMessage_k (m := 0x20000028000000) q (u.heldWritten q r) rfl (Kept.refl _ _)).same .hold rfl
    · rw [State.out_heldWritten]
      exact List.mem_cons_self
    · rw [heq]
      exact htail
    · rw [heq]
      exact hreserved
    · rw [heq]
  case noReq =>
    have hnext : s.sleepReq (bit w 0) = s.sleepAsked false := by
      unfold State.sleepReq
      rw [hl, hw, if_neg Bool.false_ne_true]
      rfl
    obtain ⟨hreq, hvalid, -⟩ := State.rd_sleepAsked false s
    exact ⟨_, (exec_hostSleepReq yw w ho).trans (congrArg Host.Outcome.next hnext), hreq, hvalid, rfl⟩
  case req =>
    have hnext : s.sleepReq (bit w 0) = (s.sleepAsked true).sleepShake := by
      unfold State.sleepReq
      rw [hl, hw, if_neg Bool.false_ne_true]
      exact if_pos (by simp [hd])
    obtain ⟨hreq, -, hrest⟩ := State.rd_sleepAsked true s
    obtain ⟨hother, hword⟩ := (s.sleepAsked true).sleepShake_effect
    refine ⟨_, (exec_hostSleepReq yw w ho).trans (congrArg Host.Outcome.next hnext), ?_, ?_⟩
    · rw [hother _ (by decide), hreq]
      rfl
    · have hreport : (s.sleepAsked true).eqReported = s.eqReported := funext fun q =>
        State.eqReported_congr rfl rfl (hrest _ (by rw [eqOff]; omega) (by rw [eqOff]; omega))
      rw [hword, hreport]
      rfl

end

namespace Sys2Proof.Machine
open Sys2Proof

/-! ### The clearing word of IRQ_SPEND (R572) -/

/-- Source 0 has been claimed and not sampled since. -/
def claimedSource : State :=
  { State.reset with ctl := { ModeCtl.reset with mode := .operational } }.setSrc 0 { IrqSrc.reset 0 with masked := true }

/-- The masked flag of source 0 that a command leaves. -/
def maskedAfter (a : Answer) : Option Bool :=
  match a with
  | .next t => some (t.src 0).masked
  | _ => none

theorem maskedAfter_spendClear : maskedAfter (exec (.irqSpendClear false 0 1) claimedSource) = some false := by
  decide +kernel

end Sys2Proof.Machine

section
open Sys2Proof Sys2Proof.Machine

/-- Refutes O46: a 1 written to the clearing word of a level source that has been claimed makes it sampled again (R572), so
that not only its pending state and its count change. -/
theorem not_interruptAndHostQueues : ¬ Obligations.InterruptAndHostQueues := by
  unfold Obligations.InterruptAndHostQueues
  rintro ⟨h, -⟩
  obtain ⟨-, hclear, -⟩ := h claimedSource false 0 0 0 1
  obtain ⟨t, ht, hsrc⟩ := hclear (by decide) (by decide +kernel)
  have hmasked := maskedAfter_spendClear
  rw [ht] at hmasked
  have hkept : t.src 0 = { claimedSource.src 0 with pending := false, count := 0 } :=
    (hsrc 0).trans (if_pos (by decide))
  have hfalse : (t.src 0).masked = false := Option.some.inj hmasked
  rw [hkept] at hfalse
  exact absurd hfalse (by decide +kernel)

end

namespace Sys2Proof.Machine
open Sys2Proof

/-! ### A link that goes down with a record of another port's partner (R267, R369, R393) -/

/-- An entry of timing_tc with the record in cell 0. -/
def recordEntry : EthEntry := ⟨some 0, 0, none, 0, none, false, false, 0, []⟩

/-- Port 0 is up and holds that entry; the record is the last of port 1's default partner, and port 1 has sent a
pause. -/
def pausedByRecord : State :=
  let t : State := { State.reset with ctl := { ModeCtl.reset with mode := .operational } }
  let t := (t.setPort 0 { Port.reset with link := true, ptp := some recordEntry }).setPort 1
    { Port.reset with link := true, xoffSent := true }
  t.setRecord 0 (some ⟨41, [0], 1, false, none⟩)

/-- Port 1 has a pause under way before, and none once the record's release has lowered its partner's charge. -/
theorem xoffSent_pausedByRecord :
    (pausedByRecord.port 1).xoffSent = true ∧ ((pausedByRecord.linkDown 0).port 1).xoffSent = false := by
  constructor <;> decide +kernel

end Sys2Proof.Machine

section
open Sys2Proof Sys2Proof.Machine

/-- Refutes O47: a link that goes down discards the entry of timing_tc as well, and where that has a record, its release
lowers the charge of the record's partner, which the pause watch of that partner's port follows (R393): another port
changes too. -/
theorem not_linksAndPauses : ¬ Obligations.LinksAndPauses := by
  unfold Obligations.LinksAndPauses
  rintro ⟨h, -⟩
  obtain ⟨-, -, hdown, -⟩ := h pausedByRecord 0 false
  obtain ⟨t, ht, -, -, -, -, -, -, -, -, -, hothers⟩ := hdown (by decide +kernel) (by decide +kernel) (by decide +kernel)
    (by decide +kernel) (by decide +kernel) (by decide +kernel)
  obtain ⟨hbefore, hafter⟩ := xoffSent_pausedByRecord
  have hnext : t = pausedByRecord.linkDown 0 := (Host.Outcome.next.inj ht).symm
  rw [← hnext, hothers 1 (by decide), hbefore] at hafter
  exact absurd hafter (by decide)

end

namespace Sys2Proof.Machine
open Sys2Proof

/-! ### Gates of a port (R398, R400, R401) -/

/-- What every round of a loop keeps, the loop keeps. -/
theorem State.each_induct {α : Type} {P : State → Prop} {f : α → State → State} (h : ∀ a u, P u → P (f a u))
    (l : List α) {s : State} (hs : P s) : P (s.each l f) := by
  unfold State.each
  induction l generalizing s with
  | nil => exact hs
  | cons a l ih => exact ih (h a s hs)

theorem State.port_upPort (p k : Nat) (f : Port → Port) (s : State) :
    (s.upPort p f).port k = if k = p then f (s.port p) else s.port k := State.port_setPort ..

/-- The shaper's credit is brought up to the present; nothing else of the port, and no other port, changes. -/
theorem State.port_advanceCredit (p : Nat) (s : State) :
    ∃ credit, (s.advanceCredit p).port p = { s.port p with creditAt := s.beacon.raw, credit := credit } := by
  unfold State.advanceCredit
  exact ⟨_, (State.port_setPort ..).trans (if_pos rfl)⟩

theorem State.port_advanceCredit_of_ne {p r : Nat} (h : r ≠ p) (s : State) :
    (s.advanceCredit p).port r = s.port r := by
  unfold State.advanceCredit
  exact (State.port_setPort ..).trans (if_neg h)

theorem State.port_wr (o : Nat) (w : Word) (s : State) (p : Nat) : (s.wr o w).port p = s.port p := rfl

theorem State.beacon_wr (o : Nat) (w : Word) (s : State) : (s.wr o w).beacon = s.beacon := rfl

theorem State.rd_advanceCredit (p o : Nat) (s : State) : (s.advanceCredit p).rd o = s.rd o := rfl

/-- The gates follow from the gate register, the port's two lists and the cell cycle. -/
theorem State.gatesAt_congr {s t : State} {p : Nat} (hreg : t.rd (macBase p + 0x40) = s.rd (macBase p + 0x40))
    (hoper : (t.port p).oper = (s.port p).oper) (hadmin : (t.port p).admin = (s.port p).admin)
    (hcycle : t.cycle = s.cycle) (ns : Nat) : t.gatesAt p ns = s.gatesAt p ns := by
  have hlist : t.gateList p = s.gateList p := by
    simp only [State.gateList, hreg, hoper, hcycle]
  simp only [State.gatesAt, State.gateRun, hlist, hadmin]

/-- The gates in force are those of the present moment, and the credit is brought up to it. -/
theorem State.port_refreshGates (p : Nat) (s : State) :
    ∃ credit, (s.refreshGates p).port p =
      { s.port p with creditAt := s.beacon.raw, credit := credit, gates := s.gatesAt p s.ns } := by
  obtain ⟨credit, hport⟩ := State.port_advanceCredit p s
  refine ⟨credit, ?_⟩
  unfold State.refreshGates
  extract_lets u
  have hoper : (u.port p).oper = (s.port p).oper := by rw [hport]
  have hadmin : (u.port p).admin = (s.port p).admin := by rw [hport]
  have hgates : u.gatesAt p u.ns = s.gatesAt p s.ns := State.gatesAt_congr (s := s) (t := u) rfl hoper hadmin rfl s.ns
  rw [State.port_upPort, if_pos rfl, hgates, hport]

theorem State.port_refreshGates_of_ne {p r : Nat} (h : r ≠ p) (s : State) : (s.refreshGates p).port r = s.port r := by
  unfold State.refreshGates
  extract_lets u
  rw [State.port_upPort, if_neg h]
  exact State.port_advanceCredit_of_ne h s

theorem State.rd_refreshGates (p o : Nat) (s : State) : (s.refreshGates p).rd o = s.rd o := rfl

/-- Register words of a port's window (Table 10-12). -/
theorem Reg.ofOff_macWindow {p d : Nat} {r : MacReg} (hp : p < 24) (hd : d < 0x10000) (ha : d % 4 = 0)
    (hevt : evtAt (.mac p) d 0x90 = none) (hr : MacReg.ofOff d = some r) :
    Reg.ofOff (macBase p + d) = some (.mac p r) := by
  have hoff : macBase p + d = 0x1000000 + p / 6 * 0x400000 + 0x100000 + p % 6 * 0x10000 + d := by
    unfold macBase clusterBase; omega
  have hdiv : (macBase p + d - 0x1000000) / 0x400000 = p / 6 := by omega
  have hmod : (macBase p + d - 0x1000000) % 0x400000 = 0x100000 + p % 6 * 0x10000 + d := by omega
  have hlane : 6 * (p / 6) + (0x100000 + p % 6 * 0x10000 + d - 0x100000) / 0x10000 = p := by omega
  have hword : (0x100000 + p % 6 * 0x10000 + d) % 0x10000 = d := by omega
  rw [Reg.ofOff, if_neg (by omega), if_neg (by omega), if_neg (by omega), if_neg (by omega), if_neg (by omega),
    if_pos (by omega), hdiv, hmod, Reg.ofCluster, if_neg (by omega), if_neg (by omega), if_pos (by omega)]
  simp only [hlane, hword, hevt, hr, Option.map_some]

/-- What a commit's word leaves in the gate register, bit 30 of it clear (R400). -/
def gateWord (old w : Word) : Word := setFld (setFld old 0 8 (fld w 0 8)) 30 2 (fld w 30 2)

theorem gateWord_fields {w : Word} (old : Word) (hfree : bit w 30 = false) :
    bit (gateWord old w) 30 = false ∧ fld (gateWord old w) 0 8 = fld w 0 8 := by
  refine ⟨?_, ?_⟩
  · rw [gateWord, bit_setFld _ _ _ _ (by decide), if_pos (by decide), testBit_fld]
    exact hfree
  · rw [gateWord, fld_setFld_of_disjoint _ (by decide) (by decide), fld_setFld _ (by decide)]
    exact fld_lt ..

section
variable {s : State} {p : Nat}

/-- A commit write stores the gate register, copies the admin list and judges the gates (R400). -/
theorem exec_gateCommit (yw : Bool) {w : Word} (hp : p < 24) (ho : s.open_ (macBase p + 0x40) = true)
    (hcommit : bit w 29 = true) (hlo : 1 ≤ fld w 0 8) (hhi : fld w 0 8 ≤ 128) :
    exec (.gateCommit yw p w) s = .next
      ((((s.advanceCredit p).wr (macBase p + 0x40) (gateWord (s.rd (macBase p + 0x40)) w)).gateCommit
        p).refreshGates p) := by
  refine congrArg Host.Outcome.next ((State.writeWord_of_open _ w
    (Reg.ofOff_macWindow hp (d := 0x40) (r := .gateCtrl) (by decide) (by decide) rfl rfl) ho).trans ?_)
  have hfields : writeFields ((s.advanceCredit p).rd (macBase p + 0x40)) w
      [plainField 30 2, (0, 8, fun v => 1 ≤ v && v ≤ 128)] =
      (gateWord (s.rd (macBase p + 0x40)) w, false) := by
    have hok : (decide (1 ≤ fld w 0 8) && decide (fld w 0 8 ≤ 128)) = true := by simp [hlo, hhi]
    simp only [writeFields, plainField, anyVal, hok, if_true, State.rd_advanceCredit, gateWord]
  have hstore : (s.advanceCredit p).storeWhole (macBase p + 0x40)
      [plainField 30 2, (0, 8, fun v => 1 ≤ v && v ≤ 128)] (macWordOk .gateCtrl) w =
      (s.advanceCredit p).wr (macBase p + 0x40)
        (gateWord (s.rd (macBase p + 0x40)) w) := by
    unfold State.storeWhole
    exact (if_pos rfl).trans (State.storeFields_accepted hfields)
  change (if bit w 29 then ((s.advanceCredit p).storeWhole (macBase p + 0x40)
      [plainField 30 2, (0, 8, fun v => 1 ≤ v && v ≤ 128)] (macWordOk .gateCtrl) w).gateCommit p
    else _).refreshGates p = _
  rw [hcommit, if_pos rfl, hstore]

end

/-- The admin list that a commit copies without cyc_lock, for the next change time of its cycle (R400). -/
def State.gateCommitted (s : State) (p n : Nat) : GateList :=
  let b := macBase p
  let base := nsOfStamp ((s.rd (b + 0x44)).toNat + 2 ^ 32 * (s.rd (b + 0x48)).toNat)
  let cycle := s.rf (b + 0x4C) 0 30
  ⟨(List.range n).map fun i => (s.rf (b + 0x800 + 4 * i) 24 8, s.rf (b + 0x800 + 4 * i) 0 24),
    base + (s.ns - base + (cycle - 1)) / cycle * cycle, cycle, s.rf (b + 0x50) 0 30⟩

theorem State.gateCommit_free {s : State} {p : Nat} (h : s.rb (macBase p + 0x40) 30 = false) :
    s.gateCommit p = s.upPort p fun x =>
      { x with admin := some (s.gateCommitted p (s.rf (macBase p + 0x40) 0 8)) } := by
  unfold State.gateCommit
  simp only [h, Bool.false_eq_true, if_false, Bool.false_and]
  rfl

/-- The copied list follows from the other registers of the gate list and the present moment. -/
theorem State.gateCommitted_congr {s t : State} {p : Nat} (hrd : ∀ o, o ≠ macBase p + 0x40 → t.rd o = s.rd o)
    (hns : t.ns = s.ns) (n : Nat) : t.gateCommitted p n = s.gateCommitted p n := by
  have hentry (i : Nat) : t.rd (macBase p + 0x800 + 4 * i) = s.rd (macBase p + 0x800 + 4 * i) := hrd _ (by omega)
  simp only [State.gateCommitted, State.rf, hentry, hrd (macBase p + 0x44) (by omega),
    hrd (macBase p + 0x48) (by omega), hrd (macBase p + 0x4C) (by omega), hrd (macBase p + 0x50) (by omega), hns]

/-- The commit of a gate register without cyc_lock: the admin list stands, the operational one stays. -/
theorem State.gateCommit_lists {s u : State} {p n : Nat} (hlock : u.rb (macBase p + 0x40) 30 = false)
    (hcount : u.rf (macBase p + 0x40) 0 8 = n) (hrd : ∀ o, o ≠ macBase p + 0x40 → u.rd o = s.rd o)
    (hns : u.ns = s.ns) :
    (((u.gateCommit p).refreshGates p).port p).admin = some (s.gateCommitted p n) ∧
    (((u.gateCommit p).refreshGates p).port p).oper = (u.port p).oper := by
  obtain ⟨credit, hport⟩ := State.port_refreshGates p (u.gateCommit p)
  rw [hport, State.gateCommit_free hlock, State.port_upPort, if_pos rfl, hcount, State.gateCommitted_congr hrd hns]
  exact ⟨rfl, rfl⟩

/-- Nothing waits in the classes of port `p`. -/
def State.idleClasses (p : Nat) (s : State) : Prop := (s.port p).ptp = none ∧ ∀ t, (s.port p).queue t = []

theorem State.checkHead_idle {p : Nat} {s : State} (h : s.idleClasses p) (t : Nat) :
    s.checkHead p t = s.upPort p (·.setQueue t []) := by
  obtain ⟨hptp, hq⟩ := h
  have hcheck : s.checkPtp p t = s := by rw [State.checkPtp, hptp]
  rw [State.checkHead, hcheck, hq]
  rfl

/-- After the heads of idle classes are checked nothing has changed but the form of the queues. -/
theorem State.checkHeads_idle {p : Nat} {s : State} (h : s.idleClasses p) (l : List Nat) :
    ((s.each l (State.checkHead p)).port p).oper = (s.port p).oper ∧
    ((s.each l (State.checkHead p)).port p).admin = (s.port p).admin ∧
    ∀ o, (s.each l (State.checkHead p)).rd o = s.rd o := by
  have hP := State.each_induct (P := fun u => u.idleClasses p ∧ (u.port p).oper = (s.port p).oper ∧
      (u.port p).admin = (s.port p).admin ∧ ∀ o, u.rd o = s.rd o) (f := State.checkHead p) (fun t u hu => by
    obtain ⟨hidle, hoper, hadmin, hrd⟩ := hu
    have hport : (u.upPort p (·.setQueue t [])).port p = (u.port p).setQueue t [] :=
      (State.port_upPort ..).trans (if_pos rfl)
    rw [State.checkHead_idle hidle]
    refine ⟨⟨?_, fun k => ?_⟩, ?_, ?_, hrd⟩
    · rw [hport]
      exact hidle.1
    · rw [hport]
      refine (Tbl.get_set (fun _ => []) (u.port p).queues t k []).trans ?_
      split
      · rfl
      · exact hidle.2 k
    · rw [hport]
      exact hoper
    · rw [hport]
      exact hadmin) l (s := s) ⟨h, rfl, rfl, fun _ => rfl⟩
  exact hP.2

end Sys2Proof.Machine

section
open Sys2Proof Sys2Proof.Machine

/-- Settles O48: the three rows write the gates in force, the admin list and the operational list of their port. -/
theorem gates : Obligations.Gates := by
  unfold Obligations.Gates
  intro s p yw w hp b x
  refine ⟨?boundary, fun ho hcommit hfree hlo hhi => ?commit, fun g hg hle hq hptp => ?switch, fun g hg hlt => ?early,
    fun hg => ?none⟩
  case boundary =>
    obtain ⟨credit, hport⟩ := State.port_refreshGates p s
    exact ⟨_, rfl, by rw [hport], by rw [hport], fun r hr => State.port_refreshGates_of_ne hr s⟩
  case commit =>
    let u : State := (s.advanceCredit p).wr (macBase p + 0x40) (gateWord (s.rd (macBase p + 0x40)) w)
    obtain ⟨hbit, hn⟩ := gateWord_fields (s.rd (macBase p + 0x40)) hfree
    have hrd (o : Nat) : u.rd o = if o = macBase p + 0x40 then gateWord (s.rd (macBase p + 0x40)) w else s.rd o :=
      State.rd_wr ..
    have hlock : u.rb (macBase p + 0x40) 30 = false := by rw [State.rb, hrd, if_pos rfl, hbit]
    have hcount : u.rf (macBase p + 0x40) 0 8 = fld w 0 8 := by rw [State.rf, hrd, if_pos rfl, hn]
    obtain ⟨credit, hport⟩ := State.port_advanceCredit p s
    have hold : (u.port p).oper = x.oper := by
      have hu : u.port p = (s.advanceCredit p).port p := State.port_wr ..
      rw [hu, hport]
    have hbeacon : u.beacon = s.beacon := (State.beacon_wr ..).trans
      ((State.advanceCredit_k (m := 0x1000000000) p s rfl (Kept.refl _ s)).same .beacon rfl)
    have hns : u.ns = s.ns := by rw [State.ns, State.ns, State.time, State.time, hbeacon]
    obtain ⟨hadmin, hoper⟩ := State.gateCommit_lists (s := s) hlock hcount
      (fun o ho => (hrd o).trans (if_neg ho)) hns
    exact ⟨_, exec_gateCommit yw hp ho hcommit hlo hhi, hadmin, hoper.trans hold⟩
  case switch =>
    let u : State := s.upPort p fun x => { x with oper := some g, admin := none }
    let v : State := (u.raise (.mac p) 3 p 0).refreshGates p
    have hnext : s.gateSwitch p = v.each (List.range 8) (State.checkHead p) := by
      rw [State.gateSwitch, show (s.port p).admin = some g from hg]
      exact if_neg (Nat.not_lt.2 hle)
    have hu : u.port p = { s.port p with oper := some g, admin := none } := (State.port_upPort ..).trans (if_pos rfl)
    have hraise : (u.raise (.mac p) 3 p 0).port p = u.port p := by
      rw [State.port, State.port, (by simp : (u.raise (.mac p) 3 p 0).ports = u.ports)]
    obtain ⟨credit, hv⟩ := State.port_refreshGates p (u.raise (.mac p) 3 p 0)
    rw [hraise, hu] at hv
    have hidle : v.idleClasses p := by
      refine ⟨?_, fun t => ?_⟩
      · rw [hv]
        exact hptp
      · rw [hv]
        change (s.port p).queues.get (fun _ => []) t = []
        rw [show (s.port p).queues = [] from hq]
        rfl
    obtain ⟨hoper, hadmin, hrd⟩ := State.checkHeads_idle hidle (List.range 8)
    refine ⟨_, congrArg Host.Outcome.next hnext, ?_, ?_, ?_⟩
    · rw [hoper, hv]
    · rw [hadmin, hv]
    · rw [Raised, hrd, State.rd_refreshGates, State.rd_raise, if_pos rfl]
      rfl
  case early =>
    have hnext : s.gateSwitch p = s := by
      rw [State.gateSwitch, show (s.port p).admin = some g from hg]
      exact if_pos hlt
    exact congrArg Host.Outcome.next hnext
  case none =>
    have hnext : s.gateSwitch p = s := by rw [State.gateSwitch, show (s.port p).admin = none from hg]
    exact congrArg Host.Outcome.next hnext

end

namespace Sys2Proof.Machine
open Sys2Proof

/-! ### Frames of a port (R372, R380, R384, R404) -/

theorem State.port_of_ports_eq {s t : State} (h : t.ports = s.ports) (p : Nat) : t.port p = s.port p := by
  rw [State.port, State.port, h]

theorem State.rd_cnt_of_ne {off o : Nat} (h : o ≠ off) (s : State) (n : Nat) : (s.cnt off n).rd o = s.rd o :=
  (State.rd_wr ..).trans (if_neg h)

theorem State.port_cnt (off : Nat) (s : State) (n p : Nat) : (s.cnt off n).port p = s.port p :=
  State.port_of_ports_eq (by simp) p

theorem State.ethOffLine_cnt (off : Nat) (s : State) (n : Nat) : (s.cnt off n).ethOffLine = s.ethOffLine := by
  have hctl : (s.cnt off n).ctl = s.ctl := by simp
  simp only [State.ethOffLine, State.mode, hctl]

section
variable {s u : State} {picks : List Nat} {p n age : Nat} {b : List Byte}

/-- The fragments of a received frame are counted, and what decides about the frame is as it was. -/
theorem State.fragments_counted (s : State) (p n : Nat) (b : List Byte) :
    s.cnt (macBase p + 0x154) n = s.countMac p 21 n ∧
    (s.cnt (macBase p + 0x154) n).ethOffLine = s.ethOffLine ∧
    (s.cnt (macBase p + 0x154) n).rf (macBase p) 12 12 = s.rf (macBase p) 12 12 ∧
    (s.cnt (macBase p + 0x154) n).ptpConsumes p b = s.ptpConsumes p b := by
  have hbase : (s.cnt (macBase p + 0x154) n).rd (macBase p) = s.rd (macBase p) :=
    State.rd_cnt_of_ne (by omega) s n
  have hbcn : (s.cnt (macBase p + 0x154) n).rd (0x8400 + 0x40 * p) = s.rd (0x8400 + 0x40 * p) :=
    State.rd_cnt_of_ne (by unfold macBase clusterBase; omega) s n
  refine ⟨?_, State.ethOffLine_cnt .., ?_, ?_⟩
  · rw [State.countMac, (by omega : macBase p + 0x154 = macBase p + 0x100 + 4 * 21)]
  · rw [State.rf, hbase, State.rf]
  · simp only [State.ptpConsumes, State.bcnRole, State.bcnDomain, State.rf, hbcn]

/-- The first check of Table 10-5 that a frame on a line with link fails counts it (R372). -/
theorem State.ethReceived_checks (hl : (s.port p).link = true) (hoff : s.ethOffLine = false) (phy smd fcs : Bool)
    (hu : s.cnt (macBase p + 0x154) n = u) :
    (phy = true → s.ethReceived picks p phy smd fcs n age b = u.countMac p 1) ∧
    (phy = false → smd = true → s.ethReceived picks p phy smd fcs n age b = u.countMac p 2) ∧
    (phy = false → smd = false → s.rf (macBase p) 12 12 < b.length + 4 →
      s.ethReceived picks p phy smd fcs n age b = u.countMac p 3) ∧
    (phy = false → smd = false → ¬ s.rf (macBase p) 12 12 < b.length + 4 → b.length + 4 < 64 →
      s.ethReceived picks p phy smd fcs n age b = u.countMac p 4) ∧
    (phy = false → smd = false → ¬ s.rf (macBase p) 12 12 < b.length + 4 → ¬ b.length + 4 < 64 →
      (fcs = true → s.ethReceived picks p phy smd fcs n age b = u.countMac p 5) ∧
      (fcs = false → beAt b 12 2 = 0x8808 → s.ethReceived picks p phy smd fcs n age b = u.macControl p b) ∧
      (fcs = false → beAt b 12 2 ≠ 0x8808 → s.ptpConsumes p b = true →
        s.ethReceived picks p phy smd fcs n age b = u.countMac p 0)) := by
  obtain ⟨hcount, huoff, hrf, hptp⟩ := State.fragments_counted s p n b
  rw [hu] at hcount huoff hrf hptp
  have hconsumes : (u.countMac p 0).ptpConsumes p b = s.ptpConsumes p b := by
    have hbcn : (u.countMac p 0).rd (0x8400 + 0x40 * p) = u.rd (0x8400 + 0x40 * p) :=
      State.rd_cnt_of_ne (by unfold macBase clusterBase; omega) u 1
    rw [← hptp]
    simp only [State.ptpConsumes, State.bcnRole, State.bcnDomain, State.rf, hbcn]
  rw [hoff] at huoff
  unfold State.ethReceived
  rw [hl, Bool.not_true, if_neg Bool.false_ne_true, ← hcount]
  extract_lets len bad v f
  rw [huoff, Bool.false_and, if_neg Bool.false_ne_true, hrf]
  have hno {t t' : State} : (if false = true then t else t') = t' := if_neg Bool.false_ne_true
  refine ⟨?_, ?_, ?_, ?_, ?_⟩
  · rintro rfl
    exact if_pos rfl
  · rintro rfl rfl
    rw [hno, if_pos rfl]
  · rintro rfl rfl hlong
    rw [hno, hno, if_pos hlong]
  · rintro rfl rfl hlong hshort
    rw [hno, hno, if_neg hlong, if_pos hshort]
  · rintro rfl rfl hlong hshort
    refine ⟨?_, ?_, ?_⟩
    · rintro rfl
      rw [hno, hno, if_neg hlong, if_neg hshort, if_pos rfl]
    · rintro rfl hctl
      rw [hno, hno, hno, if_neg hlong, if_neg hshort, if_pos hctl]
    · rintro rfl hctl hc
      rw [hno, hno, hno, if_neg hlong, if_neg hshort, if_neg hctl, if_pos (hconsumes.trans hc)]

end

/-- Off the line a frame in error is dropped there (R374). -/
theorem State.ethReceived_offLine {s : State} {picks : List Nat} {p n age : Nat} {b : List Byte} (smd fcs : Bool)
    (hl : (s.port p).link = true) (hoff : s.ethOffLine = true) :
    s.ethReceived picks p true smd fcs n age b = (s.cnt (macBase p + 0x154) n).countMac p 8 := by
  obtain ⟨hcount, huoff, -, -⟩ := State.fragments_counted (n := n) s p b
  rw [hoff] at huoff
  unfold State.ethReceived
  rw [hl, Bool.not_true, if_neg Bool.false_ne_true, ← hcount]
  extract_lets v len bad w f
  have hbad : bad = true := by simp only [bad, Bool.true_or]
  rw [huoff, hbad, Bool.true_or, Bool.true_and, if_pos rfl]

/-- With the launch queue empty nothing of it is dropped, and no launch is due or still to come. -/
theorem State.launches_idle {s : State} {p : Nat} (h : (s.port p).launches = []) :
    s.dueLaunch p = none ∧ ∀ n, s.lineFree p n = true := by
  refine ⟨?_, fun n => ?_⟩
  · rw [State.dueLaunch, h]
    rfl
  · rw [State.lineFree, State.nextLaunch, h]
    rfl

/-- No launch is past its bound: late ones are dropped without a change to the port (R406). -/
theorem State.dropLate_none {s : State} {p : Nat} (h : ∀ e ∈ (s.port p).launches, s.launchPast p e = false) :
    (∀ r, (s.dropLate p).port r = s.port r) ∧ (s.dropLate p).beacon = s.beacon ∧ (s.dropLate p).ctl = s.ctl ∧
    (∀ o, (s.dropLate p).rd o = s.rd o) := by
  unfold State.dropLate
  split
  · exact ⟨fun _ => rfl, rfl, rfl, fun _ => rfl⟩
  · extract_lets late u
    have hlate : late = [] := List.filter_eq_nil_iff.2 fun e he => by simp [h e he]
    have hport (r : Nat) : u.port r = s.port r := by
      rw [State.port_upPort]
      split
      · next hr =>
        rw [hr, List.filter_eq_self.2 fun e he => by simp [h e he]]
      · rfl
    rw [hlate]
    exact ⟨hport, rfl, rfl, fun _ => rfl⟩

/-- Whether a launch is late depends on the time and the port's speed. -/
theorem State.launchPast_of_time {s t : State} {p : Nat} (e : EthEntry) (hb : t.beacon = s.beacon)
    (hrd : t.rd (macBase p) = s.rd (macBase p)) : t.launchPast p e = s.launchPast p e := by
  have hspeed : t.portSpeed p = s.portSpeed p := by rw [State.portSpeed, State.rf, hrd, State.portSpeed, State.rf]
  rw [State.launchPast, State.launchPast, State.launchBound, State.launchBound, hspeed, State.time, State.time, hb]

/-- The state from which a port's selection is made: credit up to the present, late launches dropped. -/
def State.selecting (p : Nat) (s : State) : State := (s.advanceCredit p).dropLate p

/-- Where no launch is past its bound, a selection starts from the port as it is, its credit apart. -/
theorem State.selecting_effect {s : State} {p : Nat} (h : ∀ e ∈ (s.port p).launches, s.launchPast p e = false) :
    (∃ credit, (s.selecting p).port p = { s.port p with creditAt := s.beacon.raw, credit := credit }) ∧
    (∀ r, r ≠ p → (s.selecting p).port r = s.port r) ∧ (s.selecting p).beacon = s.beacon ∧
    (s.selecting p).ctl = s.ctl ∧ ∀ o, (s.selecting p).rd o = s.rd o := by
  obtain ⟨credit, hport⟩ := State.port_advanceCredit p s
  have hkept := State.advanceCredit_k (m := 0x1000000000) p s rfl (Kept.refl _ s)
  have hbeacon : (s.advanceCredit p).beacon = s.beacon := hkept.same .beacon rfl
  have hpast (e : EthEntry) : (s.advanceCredit p).launchPast p e = s.launchPast p e :=
    State.launchPast_of_time e hbeacon (State.rd_advanceCredit p _ s)
  obtain ⟨hports, hb, hc, hrd⟩ := State.dropLate_none (s := s.advanceCredit p) (p := p) fun e he => by
    rw [hport] at he
    rw [hpast]
    exact h e he
  exact ⟨⟨credit, (hports p).trans hport⟩, fun r hr => (hports r).trans (State.port_advanceCredit_of_ne hr s),
    hb.trans hbeacon, hc.trans (hkept.same .ctl rfl), fun o => (hrd o).trans (State.rd_advanceCredit p o s)⟩

theorem State.ethOffLine_of_ctl {s t : State} (h : t.ctl = s.ctl) : t.ethOffLine = s.ethOffLine := by
  simp only [State.ethOffLine, State.mode, h]

/-- A control frame is the transmitter's first choice (R380): it starts where nothing is being sent or launched. -/
theorem State.frameStart_control {s : State} {p : Nat} {q : Bool} {rest : List Bool} {ecc : RecEcc}
    (hready : s.txReady p = true) (hoff : s.ethOffLine = false) (hlaunch : (s.port p).launches = [])
    (htx : (s.port p).tx = none) (hctrl : (s.port p).ctrl = q :: rest) :
    s.frameStart p ecc = (s.selecting p).startPick p ecc (.control q rest) := by
  obtain ⟨⟨credit, hport⟩, -, -, hctl, -⟩ := State.selecting_effect (s := s) (p := p) (by simp [hlaunch])
  have hoff' : (s.advanceCredit p).ethOffLine = false :=
    (State.ethOffLine_of_ctl ((State.advanceCredit_k (m := 0x1000000000) p s rfl (Kept.refl _ s)).same .ctl rfl)).trans
      hoff
  have hoffS : (s.selecting p).ethOffLine = false := (State.ethOffLine_of_ctl hctl).trans hoff
  have hfree := (State.launches_idle (s := s.selecting p) (p := p) (by rw [hport]; exact hlaunch)).2 60
  have hpick : (s.selecting p).pickExpress p = some (.control q rest) := by
    have hc : ((s.selecting p).port p).ctrl = q :: rest := by rw [hport]; exact hctrl
    simp only [State.pickExpress, hc, hoffS, hfree, Bool.not_false, Bool.true_and, if_true]
    rfl
  have htxS : ((s.selecting p).port p).tx.isNone = true := by rw [hport]; simp [htx]
  unfold State.frameStart
  rw [hready, Bool.not_true, if_neg Bool.false_ne_true]
  extract_lets a c x
  have hc : c = s.selecting p := if_neg (by rw [hoff']; exact Bool.false_ne_true)
  have hx : x.tx.isNone = true := by
    unfold x
    rw [hc]
    exact htxS
  rw [hx, if_pos rfl, hc, hpick]
  rfl

/-- The shaper registers as a frame start finds them (R409). -/
def State.shaperTaken (p : Nat) (s : State) : State :=
  s.upPort p fun x => { x with
    cbs := (List.range 8).foldl (fun t i => Tbl.set (fun _ => (0 : Word)) t i (s.rd (macBase p + 0x60 + 4 * i))) x.cbs }

theorem State.startPick_control (p : Nat) (ecc : RecEcc) (full : Bool) (rest : List Bool) (s : State) :
    s.startPick p ecc (.control full rest) = (s.shaperTaken p).upPort p fun x =>
      { x with ctrl := rest, tx := some (mkTx ((s.shaperTaken p).ctrlKind p full) ctrlEntry false) } := rfl

/-- A launch in time starts with its place reserved (R404). -/
theorem State.startPick_launch {s : State} {p : Nat} {e : EthEntry} (hacf : e.acf = none)
    (hpast : (s.shaperTaken p).launchPast p e = false) :
    s.startPick p .clean (.launch e) = ((s.shaperTaken p).upPort p fun x =>
      { x with launches := x.launches.erase e }).upPort p fun x =>
        { x with launchReserved := x.launchReserved + 1, tx := some (mkTx (.launch false) e false) } := by
  have hcount (u : State) : u.countAcf e = u := by rw [State.countAcf, hacf]; rfl
  unfold State.startPick
  extract_lets u
  dsimp -zeta only
  extract_lets late v
  have hlate : late = false := hpast
  change (if late then State.noteLaunchLate p 15 _ else (v.countAcf e).upPort p fun x =>
    { x with launchReserved := x.launchReserved + 1, tx := some (mkTx (.launch late) e false) }) = _
  rw [hlate]
  exact (if_neg Bool.false_ne_true).trans (congrArg (State.upPort p _) (hcount v))

/-- A single launch whose time is now starts (R404). -/
theorem State.launchDue_now {s : State} {p : Nat} {e : EthEntry} (hready : s.txReady p = true)
    (hoff : s.ethOffLine = false) (hlaunch : (s.port p).launches = [e]) (htx : (s.port p).tx = none)
    (htime : e.launch = some s.time) (hlate : e.late = false) (hpause : ((s.port p).pause e.cls).inForce = false)
    (hacf : e.acf = none) :
    s.launchDue p .clean = (((s.selecting p).shaperTaken p).upPort p fun x =>
      { x with launches := x.launches.erase e }).upPort p fun x =>
        { x with launchReserved := x.launchReserved + 1, tx := some (mkTx (.launch false) e false) } := by
  have hpast : s.launchPast p e = false := by
    simp only [State.launchPast, hlate, htime, Option.getD_some, Bool.false_or, decide_eq_false_iff_not]
    omega
  obtain ⟨⟨credit, hport⟩, -, hbeacon, hctl, hrd⟩ :=
    State.selecting_effect (s := s) (p := p) (by simp [hlaunch, hpast])
  have hoffS : (s.selecting p).ethOffLine = false := (State.ethOffLine_of_ctl hctl).trans hoff
  have htimeS : (s.selecting p).time = s.time := congrArg Beacon.time hbeacon
  have hlaunchS : ((s.selecting p).port p).launches = [e] := by rw [hport]; exact hlaunch
  have htxS : ((s.selecting p).port p).tx = none := by rw [hport]; exact htx
  have hpauseS : (((s.selecting p).port p).pause e.cls).inForce = false := by rw [hport]; exact hpause
  have hreadyS : (s.selecting p).txReady p = true := by
    simp only [State.txReady] at hready ⊢
    rw [hport, hbeacon]
    exact hready
  have hfree (n : Nat) : (s.selecting p).lineFree p n = true := by
    simp only [State.lineFree, State.nextLaunch, hlaunchS, htimeS, List.filterMap_cons, htime, List.filterMap_nil,
      List.find?_cons, Nat.lt_irrefl, decide_false, List.find?_nil]
  have hdue : (s.selecting p).dueLaunch p = some e := by
    simp only [State.dueLaunch, hlaunchS, List.find?_cons, htime, Option.getD_some, htimeS, Nat.le_refl, decide_true,
      hpauseS, hfree, Bool.not_false, Bool.and_self]
  have hsuspend : (s.selecting p).suspendTx p = s.selecting p := by
    simp only [State.suspendTx, htxS]
  have hpastS : ((s.selecting p).shaperTaken p).launchPast p e = false :=
    (State.launchPast_of_time (s := s) e hbeacon (hrd _)).trans hpast
  unfold State.launchDue
  change (if !(s.selecting p).txReady p || (s.selecting p).ethOffLine ||
    !(((s.selecting p).port p).tx.isNone || (s.selecting p).cuttable p) || ((s.selecting p).dueLaunch p).isNone then _
    else match ((s.selecting p).suspendTx p).dueLaunch p with
      | some e => ((s.selecting p).suspendTx p).startPick p .clean (.launch e)
      | none => (s.selecting p).suspendTx p) = _
  rw [if_neg (by simp [hreadyS, hoffS, htxS, hdue]), hsuspend, hdue]
  exact State.startPick_launch hacf hpastS

/-- A frame's end frees the transmitter, and the pauses that waited take effect (R384, R390). -/
def State.txEnded (p : Nat) (y : EthTx) (s : State) : State :=
  (s.advanceCredit p).upPort p fun x => (y.giveBack { x with tx := none }).pausesBegin

theorem Port.tx_pausesBegin (x : Port) : x.pausesBegin.tx = x.tx := by
  have hfold (l : List Nat) (x : Port) :
      (l.foldl (fun x t => if (x.pause t).waiting.isSome then x.setPause t ⟨none, true⟩ else x) x).tx = x.tx := by
    induction l generalizing x with
    | nil => rfl
    | cons t l ih =>
      rw [List.foldl_cons, ih]
      split <;> rfl
  exact hfold _ x

theorem EthTx.tx_giveBack (y : EthTx) (x : Port) : (y.giveBack x).tx = x.tx := by
  unfold EthTx.giveBack
  split <;> rfl

/-- Beside its port nothing changes. -/
theorem State.txEnded_effect (p : Nat) (y : EthTx) (s : State) :
    ((s.txEnded p y).port p).tx = none ∧ Kept 0x1000000000 s (s.txEnded p y) := by
  refine ⟨?_, State.upPort_k _ _ _ rfl (State.advanceCredit_k _ _ rfl (Kept.refl _ s))⟩
  rw [State.txEnded, State.port_upPort, if_pos rfl, Port.tx_pausesBegin, EthTx.tx_giveBack]

theorem State.frameSent_control {s : State} {p age : Nat} {y : EthTx} {pfc : Bool} {classes quanta : Nat}
    (hy : (s.port p).tx = some y) (hk : y.kind = .control pfc classes quanta) :
    s.frameSent p age false = ((s.txEnded p y).countMac p 11).emit
      (.pauseFrame p (ofLe ((s.txEnded p y).macAddr p)) pfc classes quanta) := by
  unfold State.frameSent
  rw [hy]
  dsimp only
  rw [hk]
  rfl

/-- A frame of a class that leaves whole, without a record: it is counted, sent and its stamp recorded (R441). -/
theorem State.frameSent_queued {s : State} {p age : Nat} {y : EthTx} (hy : (s.port p).tx = some y)
    (hk : y.kind = .queued) (hcuts : y.cuts = 0) (hrec : y.entry.record = none) :
    s.frameSent p age false =
      (((s.txEnded p y).countMac p 9).emit (.ethFrame p (s.entryOctets p y.entry))).tsRecord p y.entry 0
        (((s.txEnded p y).countMac p 9).stampAgo age (-((s.txEnded p y).countMac p 9).calEff
          (0x400 + 8 * p + ((s.txEnded p y).countMac p 9).portSpeed p))) := by
  have hsent : (s.txEnded p y).countSent p y false = (s.txEnded p y).countMac p 9 := by
    rw [State.countSent, hk]
    rfl
  have hafter (u : State) (octets : List Byte) : u.afterSent p age y false octets =
      (u.emit (.ethFrame p octets)).tsRecord p y.entry 0
        (u.stampAgo age (-u.calEff (0x400 + 8 * p + u.portSpeed p))) := by
    have hout : y.outcome false = 0 := by rw [EthTx.outcome, hk]; rfl
    unfold State.afterSent
    rw [hk, hrec, hout]
    rfl
  unfold State.frameSent
  rw [hy]
  dsimp only
  rw [hk]
  dsimp only
  rw [hcuts, ← hafter, ← hsent]
  rfl

theorem State.frameSent_control_effect (s : State) (p : Nat) (y : EthTx) (pfc : Bool) (classes quanta : Nat) :
    let t := ((s.txEnded p y).countMac p 11).emit
      (.pauseFrame p (ofLe ((s.txEnded p y).macAddr p)) pfc classes quanta)
    let off := macBase p + 0x100 + 4 * 11
    (t.port p).tx = none ∧ t.rd off = wd (satAdd (2 ^ 32 - 1) (s.rd off).toNat 1) ∧
    t.out = .pauseFrame p (ofLe (s.macAddr p)) pfc classes quanta :: s.out := by
  obtain ⟨htx, hkept⟩ := State.txEnded_effect p y s
  generalize s.txEnded p y = u at htx hkept
  have haddr : u.macAddr p = s.macAddr p := by
    rw [State.macAddr, State.macAddr, State.rd_of_kept hkept rfl, State.rd_of_kept hkept rfl]
  have hport : (u.countMac p 11).port p = u.port p := State.port_cnt ..
  have hout : (u.countMac p 11).out = s.out := by
    rw [(by simp [State.countMac] : (u.countMac p 11).out = u.out), hkept.same .out rfl]
  have hcount := (State.regSet_cnt (macBase p + 0x100 + 4 * 11) u).1
  rw [State.rd_of_kept hkept rfl] at hcount
  intro t off
  refine ⟨?_, hcount, ?_⟩
  · exact (congrArg Port.tx hport).trans htx
  · rw [← haddr, ← hout]
    rfl

/-- The latencies follow from the registers of calibration and the port's speed. -/
theorem State.stampAgo_congr {s t : State} {p age : Nat} (hb : t.beacon = s.beacon) (hf : t.fuse = s.fuse)
    (hspeed : t.rd (macBase p) = s.rd (macBase p))
    (hcal : t.rd (0x30000 + 16 * (0x400 + 8 * p + s.portSpeed p) + 4) =
      s.rd (0x30000 + 16 * (0x400 + 8 * p + s.portSpeed p) + 4)) :
    t.stampAgo age (-t.calEff (0x400 + 8 * p + t.portSpeed p)) =
      s.stampAgo age (-s.calEff (0x400 + 8 * p + s.portSpeed p)) := by
  have hp : t.portSpeed p = s.portSpeed p := by rw [State.portSpeed, State.rf, hspeed, State.portSpeed, State.rf]
  have hc : t.calEff (0x400 + 8 * p + s.portSpeed p) = s.calEff (0x400 + 8 * p + s.portSpeed p) := by
    simp only [State.calEff, State.calFactory, State.calUser, hf, hcal]
  rw [hp, hc, State.stampAgo, State.stampAgo, State.timeAgo, State.timeAgo, hb]

theorem State.frameSent_queued_effect {s : State} {p age : Nat} {y : EthTx} (hstamp : y.entry.stampReq = true)
    (hroom : (s.bport p).tsq.length < 64) :
    let u := (s.txEnded p y).countMac p 9
    let t := (u.emit (.ethFrame p (s.entryOctets p y.entry))).tsRecord p y.entry 0
      (u.stampAgo age (-u.calEff (0x400 + 8 * p + u.portSpeed p)))
    let off := macBase p + 0x100 + 4 * 9
    (t.port p).tx = none ∧ t.rd off = wd (satAdd (2 ^ 32 - 1) (s.rd off).toNat 1) ∧
    t.out = .ethFrame p (s.entryOctets p y.entry) :: s.out ∧
    (t.bport p).tsq = (s.bport p).tsq ++
      [⟨s.stampAgo age (-s.calEff (0x400 + 8 * p + s.portSpeed p)), y.entry.tag, 0⟩] := by
  obtain ⟨htx, hkept⟩ := State.txEnded_effect p y s
  generalize s.txEnded p y = v at htx hkept
  have hrd (o : Nat) (ho : o ≠ macBase p + 0x100 + 4 * 9) : (v.countMac p 9).rd o = s.rd o :=
    (State.rd_cnt_of_ne ho v 1).trans (State.rd_of_kept hkept rfl o)
  have hcount := (State.regSet_cnt (macBase p + 0x100 + 4 * 9) v).1
  rw [State.rd_of_kept hkept rfl] at hcount
  change (v.countMac p 9).rd _ = _ at hcount
  have hkept9 : Kept 0x1000000008 s (v.countMac p 9) :=
    State.countMac_k p 9 v 1 rfl (Kept.mono rfl hkept)
  have hport : (v.countMac p 9).port p = v.port p := State.port_cnt ..
  generalize v.countMac p 9 = u at hrd hcount hkept9 hport
  have hbport : u.bport p = s.bport p := by rw [State.bport, State.bport, hkept9.same .bports rfl]
  have hst : u.stampAgo age (-u.calEff (0x400 + 8 * p + u.portSpeed p)) =
      s.stampAgo age (-s.calEff (0x400 + 8 * p + s.portSpeed p)) := by
    have hspeed : s.portSpeed p < 8 := fld_lt ..
    obtain ⟨-, -, hfuse, -⟩ := id hkept9
    exact State.stampAgo_congr (hkept9.same .beacon rfl) hfuse (hrd _ (by omega))
      (hrd _ (by unfold macBase clusterBase; omega))
  have hrecord : (u.emit (.ethFrame p (s.entryOctets p y.entry))).tsRecord p y.entry 0
      (u.stampAgo age (-u.calEff (0x400 + 8 * p + u.portSpeed p))) =
      (u.emit (.ethFrame p (s.entryOctets p y.entry))).setBport p { s.bport p with tsq := (s.bport p).tsq ++
        [⟨s.stampAgo age (-s.calEff (0x400 + 8 * p + s.portSpeed p)), y.entry.tag, 0⟩] } := by
    have hb : (u.emit (.ethFrame p (s.entryOctets p y.entry))).bport p = s.bport p := hbport
    rw [State.tsRecord, if_pos hstamp, State.stampRecord, hb, if_pos hroom, hst]
  intro w t off
  have ht : t = _ := hrecord
  rw [ht]
  refine ⟨?_, hcount, ?_, ?_⟩
  · exact (congrArg Port.tx hport).trans htx
  · exact congrArg _ (hkept9.same .out rfl)
  · rw [State.bport_setBport, if_pos rfl]

end Sys2Proof.Machine

section
open Sys2Proof Sys2Proof.Machine

/-- Settles O49: the checks of a received frame in their order, and the selection, start and end of a frame as changes of
its port, its counter and what is sent. -/
theorem portFrames : Obligations.PortFrames := by
  unfold Obligations.PortFrames
  intro s picks p n age phy smd fcs b x u cnt
  refine ⟨fun hl => ?noLink, fun hl hoff => ?received, fun hl hoff => ?offLine,
    fun q rest ecc hready hoff hlaunch htx hctrl => ?control, fun ecc h => ?notReady,
    fun e hready hoff hlaunch htx htime hlate hpause hacf => ?launch, fun y pfc classes quanta hy hk => ?sentControl,
    fun y hy hk hcuts hrec hstamp hroom => ?sentQueued, fun htx => ?noFrame⟩
  case noLink =>
    have hnext : s.ethReceived picks p phy smd fcs n age b = s := if_pos (by rw [hl]; rfl)
    exact congrArg Host.Outcome.next hnext
  case received =>
    have hcheck (phy smd fcs : Bool) :=
      State.ethReceived_checks (picks := picks) (age := age) (b := b) hl hoff phy smd fcs (rfl : _ = u)
    refine ⟨?_, ?_, fun hlong => ?_, fun hlen hshort => ?_, fun hlen hmin => ⟨?_, fun htype hop => ?_,
      fun hptp htype => ?_⟩⟩
    · exact congrArg Host.Outcome.next ((hcheck true smd fcs).1 rfl)
    · exact congrArg Host.Outcome.next ((hcheck false true fcs).2.1 rfl rfl)
    · exact congrArg Host.Outcome.next ((hcheck false false fcs).2.2.1 rfl rfl hlong)
    · exact congrArg Host.Outcome.next
        ((hcheck false false fcs).2.2.2.1 rfl rfl (Nat.not_lt.2 hlen) (by omega))
    · exact congrArg Host.Outcome.next
        (((hcheck false false true).2.2.2.2 rfl rfl (Nat.not_lt.2 hlen) (by omega)).1 rfl)
    · have hpause : u.macControl p b = u.pauseReceived p (beAt b 16 2) := by
        simp only [State.macControl, hop]
      exact congrArg Host.Outcome.next
        ((((hcheck false false false).2.2.2.2 rfl rfl (Nat.not_lt.2 hlen) (by omega)).2.1 rfl htype).trans hpause)
    · exact congrArg Host.Outcome.next
        (((hcheck false false false).2.2.2.2 rfl rfl (Nat.not_lt.2 hlen) (by omega)).2.2 rfl htype hptp)
  case offLine => exact congrArg Host.Outcome.next (State.ethReceived_offLine smd fcs hl hoff)
  case control =>
    obtain ⟨⟨credit, hport⟩, hothers, -, -, hrd⟩ :=
      State.selecting_effect (s := s) (p := p) (by rw [show (s.port p).launches = [] from hlaunch]; simp)
    have hkind : ((s.selecting p).shaperTaken p).ctrlKind p q = s.ctrlKind p q := by
      have hrdT (o : Nat) : ((s.selecting p).shaperTaken p).rd o = s.rd o := hrd o
      unfold State.ctrlKind State.rb State.rf
      rw [hrdT, hrdT]
    refine ⟨_, congrArg Host.Outcome.next (State.frameStart_control hready hoff hlaunch htx hctrl), ?_, ?_,
      fun r hr => ?_⟩
    · rw [State.startPick_control, State.port_upPort, if_pos rfl]
    · rw [State.startPick_control, State.port_upPort, if_pos rfl, hkind]
      rfl
    · rw [State.startPick_control, State.port_upPort, if_neg hr, State.shaperTaken, State.port_upPort, if_neg hr,
        hothers r hr]
  case notReady =>
    have hready : s.txReady p = false := by
      rw [State.txReady]
      change (x.link && !x.retired && !x.lpiTx && decide (x.wakeUntil ≤ s.beacon.raw)) = false
      rcases h with h | h | h | h
      · simp [h]
      · simp [h]
      · simp [h]
      · simp [Nat.not_le.2 h]
    have hnext : s.frameStart p ecc = s := if_pos (by rw [hready]; rfl)
    exact congrArg Host.Outcome.next hnext
  case launch =>
    have hpast : s.launchPast p e = false := by
      simp only [State.launchPast, hlate, htime, Option.getD_some, Bool.false_or, decide_eq_false_iff_not]
      omega
    obtain ⟨⟨credit, hport⟩, hothers, -, -, -⟩ :=
      State.selecting_effect (s := s) (p := p) (by rw [show (s.port p).launches = [e] from hlaunch]; simp [hpast])
    have htaken : ((s.selecting p).shaperTaken p).port p = _ := (State.port_upPort ..).trans (if_pos rfl)
    refine ⟨_, congrArg Host.Outcome.next (State.launchDue_now hready hoff hlaunch htx htime hlate hpause hacf),
      ?_, ?_, ?_, fun r hr => ?_⟩
    · rw [State.port_upPort, if_pos rfl, State.port_upPort, if_pos rfl, htaken, hport]
      change (s.port p).launches.erase e = []
      rw [show (s.port p).launches = [e] from hlaunch]
      simp
    · rw [State.port_upPort, if_pos rfl, State.port_upPort, if_pos rfl, htaken, hport]
    · rw [State.port_upPort, if_pos rfl]
      rfl
    · rw [State.port_upPort, if_neg hr, State.port_upPort, if_neg hr, State.shaperTaken, State.port_upPort, if_neg hr,
        hothers r hr]
  case sentControl =>
    exact ⟨_, congrArg Host.Outcome.next (State.frameSent_control hy hk), State.frameSent_control_effect ..⟩
  case sentQueued =>
    exact ⟨_, congrArg Host.Outcome.next (State.frameSent_queued hy hk hcuts hrec),
      State.frameSent_queued_effect hstamp hroom⟩
  case noFrame =>
    have hnext : s.frameSent p age false = s := by rw [State.frameSent, show (s.port p).tx = none from htx]
    exact congrArg Host.Outcome.next hnext

end

namespace Sys2Proof.Machine
open Sys2Proof

/-! ### Measurements of the servo (R427 to R433) -/

theorem State.beacon_raise (b : Blk) (i unit info : Nat) (s : State) : (s.raise b i unit info).beacon = s.beacon := by
  simp

theorem State.bport_raise (b : Blk) (i unit info p : Nat) (s : State) :
    (s.raise b i unit info).bport p = s.bport p := by
  rw [State.bport, State.bport, (by simp : (s.raise b i unit info).bports = s.bports)]

theorem State.beacon_countBcn (i : Nat) (s : State) : (s.countBcn i).beacon = s.beacon := by
  simp [State.countBcn]

theorem State.bport_countBcn (i p : Nat) (s : State) : (s.countBcn i).bport p = s.bport p := by
  rw [State.bport, State.bport, (by simp [State.countBcn] : (s.countBcn i).bports = s.bports)]

theorem State.rd_countBcn (i o : Nat) (s : State) : (s.countBcn i).rd o =
    if o = 0x8060 + 4 * i then wd (satAdd (2 ^ 32 - 1) (s.rd (0x8060 + 4 * i)).toNat 1) else s.rd o := State.rd_wr ..

/-- The present edge's offset from ingress `t2`, origin `t1` and corrections `c` of a Sync on port `p` (R427). -/
def State.syncOffset (s : State) (p t2 origin : Nat) (c : Int) : Int :=
  (t2 * 2 ^ 16 : Nat) - (origin * 2 ^ 16 : Nat) - ((s.bport p).delay * 2 ^ 8 : Nat) - c - s.calEff (0x500 + p) * 2 ^ 8

/-- A completed Sync of a port with a valid delay outside a hold-off is a measurement. -/
theorem State.syncMeasure_valid {s : State} {p t2 origin : Nat} {c log : Int} (hd : (s.bport p).dValid = true)
    (hh : (s.bport p).hold = false) :
    s.syncMeasure p t2 (origin * 2 ^ 16 : Nat) c log = s.measure (s.syncOffset p t2 origin c) log none none := by
  unfold State.syncMeasure
  extract_lets x o
  rw [show x.dValid = true from hd, show x.hold = false from hh, Bool.not_true, if_neg Bool.false_ne_true,
    if_neg Bool.false_ne_true]
  rfl

/-- The lock: BCN_OFFSET has the offset, no further step is available (R428). -/
def State.lockedBy (s : State) : State :=
  (s.upBcn fun b => { b with stepAvail := false, state := .locked }).raise .bcn 0 0 0

theorem State.measure_acquire {s : State} {o log : Int} {pps : Option Nat} {freq : Option Int}
    (hs : s.beacon.state = .acquire) (ha : s.beacon.stepAvail = true) :
    s.measure o log pps freq = (s.wr 0x8044 (wd (offsetWord o))).firstLock o pps := by
  unfold State.measure
  extract_lets u locked
  have hu : u.beacon.state = .acquire := hs
  have hua : u.beacon.stepAvail = true := ha
  rw [hu]
  exact if_pos hua

/-- A Beacon that is not ahead locks without a step. -/
theorem State.firstLock_noStep {s : State} {o : Int} (ho : 0 ≤ o) : s.firstLock o none = s.lockedBy := by
  unfold State.firstLock
  dsimp only
  rw [if_neg (by omega)]
  rfl

theorem State.lockedBy_effect (s : State) :
    s.lockedBy.beacon = { s.beacon with stepAvail := false, state := .locked } ∧ Raised .bcn 0 s s.lockedBy ∧
    (∀ o, o ≠ 0x8050 → s.lockedBy.rd o = s.rd o) ∧ ∀ p, s.lockedBy.bport p = s.bport p := by
  refine ⟨State.beacon_raise .., ?_, fun o ho => ?_, fun p => State.bport_raise ..⟩
  · exact (State.rd_raise ..).trans (if_pos rfl)
  · exact (State.rd_raise ..).trans (if_neg ho)

/-- A first lock forward: the Beacon locks with the offset noted. -/
theorem State.measure_locks {s : State} {o log : Int} (hs : s.beacon.state = .acquire)
    (ha : s.beacon.stepAvail = true) (ho : 0 ≤ o) :
    (s.measure o log none none).beacon = { s.beacon with stepAvail := false, state := .locked } ∧
    Raised .bcn 0 s (s.measure o log none none) ∧ (s.measure o log none none).rd 0x8044 = wd (offsetWord o) ∧
    ∀ p, (s.measure o log none none).bport p = s.bport p := by
  rw [State.measure_acquire hs ha, State.firstLock_noStep ho]
  obtain ⟨hbeacon, hraised, hrd, hport⟩ := State.lockedBy_effect (s.wr 0x8044 (wd (offsetWord o)))
  refine ⟨hbeacon, ?_, ?_, hport⟩
  · rw [Raised] at hraised ⊢
    rw [hraised, State.rd_wr, if_neg (by decide)]
  · rw [hrd _ (by decide), State.rd_wr, if_pos rfl]

/-- Both output pins are off and low. -/
def State.pinsOff (s : State) : Prop := s.rb 0x8020 22 = false ∧ s.rb 0x8020 21 = false ∧ s.beacon.syncHigh = false

theorem State.beacon_stepUnits {s : State} (h : s.pinsOff) (u : Int) :
    (s.stepUnits u).beacon = { s.beacon.keepAnchor with aT := s.beacon.aT + u } := by
  obtain ⟨hpps, hsync, hlow⟩ := h
  rw [State.stepUnits_pins_off hpps hsync hlow]
  generalize hv : (s.upBcn fun b => { b.keepAnchor with aT := b.aT + u }).countBcn 0 = v
  have hkept := State.resyncAll_k (m := 0x2011003C000008) (u / 2 ^ 16) v rfl (Kept.refl _ v)
  rw [hkept.same .beacon rfl, ← hv, State.beacon_countBcn]
  rfl

/-- A lock after a step of `u` units: T has moved by the step, and both events stand. -/
theorem State.stepLocked_effect {s : State} (h : s.pinsOff) (u : Int) (n : Nat) :
    let t := ((s.stepUnits u).raise .bcn 1 0 n).lockedBy
    t.beacon = { s.beacon with aT := s.beacon.aT + u, stepAvail := false, state := .locked, past := t.beacon.past } ∧
    t.rb Blk.bcn.evtOff 0 = true ∧ t.rb Blk.bcn.evtOff 1 = true := by
  intro t
  have hbeacon : t.beacon = { s.beacon.keepAnchor with
      aT := s.beacon.aT + u, stepAvail := false, state := .locked } := by
    rw [(State.lockedBy_effect _).1, State.beacon_raise, State.beacon_stepUnits h]
  refine ⟨?_, State.rb_raise_self _ _ _ _ (by decide), State.rb_raise_of_rb _ _ _ _ ?_⟩
  · rw [hbeacon]
    rfl
  · exact State.rb_raise_self _ _ _ _ (by decide)

/-- A first lock of a Beacon that is ahead steps it back and locks. -/
theorem State.firstLock_back {s : State} (h : s.pinsOff) {o : Int} (ho : o < 0) :
    let t := s.firstLock o none
    t.beacon = { s.beacon with aT := s.beacon.aT - o, stepAvail := false, state := .locked, past := t.beacon.past } ∧
    t.rb Blk.bcn.evtOff 0 = true ∧ t.rb Blk.bcn.evtOff 1 = true := by
  have heq : s.firstLock o none =
      ((s.stepUnits (-o)).raise .bcn 1 0 (min ((-o) / 2 ^ 16).toNat (2 ^ 32 - 1))).lockedBy := by
    unfold State.firstLock
    dsimp only
    rw [if_pos ho]
    rfl
  rw [heq, Int.sub_eq_add_neg]
  exact State.stepLocked_effect h (-o) _

theorem State.pinsOff_wr {s : State} (h : s.pinsOff) {o : Nat} (ho : o ≠ 0x8020) (w : Word) : (s.wr o w).pinsOff := by
  obtain ⟨hpps, hsync, hlow⟩ := h
  have hrd : (s.wr o w).rd 0x8020 = s.rd 0x8020 := (State.rd_wr ..).trans (if_neg (Ne.symm ho))
  exact ⟨(congrArg (fun w => bit w 22) hrd).trans hpps, (congrArg (fun w => bit w 21) hrd).trans hsync, hlow⟩

/-- A first lock of a Beacon that is ahead, from a measurement. -/
theorem State.measure_locksBack {s : State} {o log : Int} (hs : s.beacon.state = .acquire)
    (ha : s.beacon.stepAvail = true) (h : s.pinsOff) (ho : o < 0) :
    let t := s.measure o log none none
    t.beacon = { s.beacon with aT := s.beacon.aT - o, stepAvail := false, state := .locked, past := t.beacon.past } ∧
    t.rb Blk.bcn.evtOff 0 = true ∧ t.rb Blk.bcn.evtOff 1 = true := by
  rw [State.measure_acquire hs ha]
  exact State.firstLock_back (State.pinsOff_wr h (by decide) _) ho

/-- A first lock from an edge of CELL_PPS_IN steps forward by `n` ns and locks. -/
theorem State.measure_locksPps {s : State} {o log : Int} {n : Nat} {freq : Option Int}
    (hs : s.beacon.state = .acquire) (ha : s.beacon.stepAvail = true) (h : s.pinsOff) :
    let t := s.measure o log (some n) freq
    t.beacon = { s.beacon with aT := s.beacon.aT + (n * 2 ^ 16 : Nat), stepAvail := false, state := .locked,
                               past := t.beacon.past } ∧
    t.rb Blk.bcn.evtOff 0 = true ∧ t.rb Blk.bcn.evtOff 1 = true := by
  rw [State.measure_acquire hs ha]
  exact State.stepLocked_effect (State.pinsOff_wr h (by decide) _) _ _

theorem State.measure_locked {s : State} {o log : Int} {pps : Option Nat} {freq : Option Int}
    (hs : s.beacon.state = .locked) :
    s.measure o log pps freq = (s.wr 0x8044 (wd (offsetWord o))).servoJudge o log freq := by
  unfold State.measure
  extract_lets u locked
  have hu : u.beacon.state = .locked := hs
  rw [hu]

/-- A measurement beyond the threshold is refused (R429). -/
theorem State.servoJudge_refused {s : State} {o log : Int} {freq : Option Int} (hr : s.beacon.refusing = false)
    (h0 : s.rf 0x8024 0 30 ≠ 0) (hfar : s.rf 0x8024 0 30 * 2 ^ 16 < o.natAbs) :
    let t := s.servoJudge o log freq
    t.beacon = { s.beacon with refusing := true } ∧ Raised .bcn 2 s t ∧ ∀ p, t.bport p = s.bport p := by
  generalize hv : (s.wr 0x8048 (wd (offsetWord o))).countBcn 1 = v
  have hbeacon : v.beacon = s.beacon := by
    rw [← hv]
    exact State.beacon_countBcn ..
  have hevents : v.rd 0x8050 = s.rd 0x8050 := by
    rw [← hv, State.rd_countBcn, if_neg (by decide), State.rd_wr, if_neg (by decide)]
  have hport (p : Nat) : v.bport p = s.bport p := by
    rw [← hv]
    exact State.bport_countBcn ..
  have heq : s.servoJudge o log freq =
      (v.upBcn fun b => { b with refusing := true }).raise .bcn 2 0 (offsetWord o) := by
    unfold State.servoJudge
    extract_lets thr u
    rw [if_pos ⟨h0, hfar⟩, show u = v from hv, hbeacon, hr, if_neg Bool.false_ne_true]
  rw [heq]
  refine ⟨?_, ?_, fun p => ?_⟩
  · rw [State.beacon_raise, ← hbeacon]
    rfl
  · exact ((State.rd_raise ..).trans (if_pos rfl)).trans (congrArg (· ||| wd (2 ^ 2)) hevents)
  · rw [State.bport_raise]
    exact hport p

theorem State.measure_refused {s : State} {o log : Int} (hs : s.beacon.state = .locked)
    (hr : s.beacon.refusing = false) (h0 : s.rf 0x8024 0 30 ≠ 0) (hfar : s.rf 0x8024 0 30 * 2 ^ 16 < o.natAbs) :
    let t := s.measure o log none none
    t.beacon = { s.beacon with refusing := true } ∧ Raised .bcn 2 s t ∧ ∀ p, t.bport p = s.bport p := by
  rw [State.measure_locked hs]
  generalize hv : s.wr 0x8044 (wd (offsetWord o)) = v
  have hrd {a : Nat} (ha : a ≠ 0x8044) : v.rd a = s.rd a := by
    rw [← hv, State.rd_wr, if_neg ha]
  have hbeacon : v.beacon = s.beacon := by rw [← hv]; rfl
  have hrf : v.rf 0x8024 0 30 = s.rf 0x8024 0 30 := congrArg (fun w => fld w 0 30) (hrd (by decide))
  have hport (p : Nat) : v.bport p = s.bport p := by rw [← hv]; rfl
  obtain ⟨hb, hraised, hp⟩ := State.servoJudge_refused (s := v) (o := o) (log := log) (freq := none)
    (by rw [hbeacon, hr]) (by rw [hrf]; exact h0) (by rw [hrf]; exact hfar)
  refine ⟨by rw [hb, hbeacon], ?_, fun p => (hp p).trans (hport p)⟩
  rw [Raised] at hraised ⊢
  rw [hraised, hrd (by decide)]

/-! ### The servo's update (R430) -/

theorem Beacon.onEdge_of_unwritten {b : Beacon} (h : b.written = none) : b.onEdge.rate = none := by
  rw [Beacon.onEdge, h]

theorem Beacon.integral_of_unwritten {b : Beacon} (h : b.written = none) : b.integral = b.integ := by
  rw [Beacon.integral, Beacon.onEdge_of_unwritten h]
  rfl

theorem Beacon.servoCorr_of_unwritten {b : Beacon} (h : b.written = none) (c i : Int) :
    b.servoCorr c i = b.setRate c i := by
  rw [Beacon.servoCorr, Beacon.onEdge_of_unwritten h]

/-- The integral after a measurement of offset `o` over 2^`log` s (R430). -/
def State.nextIntegral (s : State) (o log : Int) : Int :=
  satInt (2 ^ 37) (s.beacon.integral - servoError o log / (2 ^ s.rf 0x8028 0 4 : Nat))

/-- corr after a measurement of offset `o` over 2^`log` s (R430). -/
def State.nextCorr (s : State) (o log : Int) : Int :=
  satInt (2 ^ 37) (s.nextIntegral o log - servoError o log / (2 ^ s.rf 0x8028 4 4 : Nat))

theorem State.servoApply_effect {s : State} (hw : s.beacon.written = none) (o log : Int) :
    let t := s.servoApply o log none
    t.beacon.integ = s.nextIntegral o log ∧ t.beacon.corr = s.nextCorr o log ∧ t.beacon.state = s.beacon.state ∧
    t.beacon.refusing = s.beacon.refusing ∧ t.rd 0x8044 = s.rd 0x8044 ∧ ∀ p, t.bport p = s.bport p := by
  unfold State.servoApply
  extract_lets e b i0 i c0 c hit u t
  have hu : u.beacon = { s.beacon.setRate c i with clamped := hit } := by
    rw [← Beacon.servoCorr_of_unwritten hw]
    exact State.beacon_countBcn ..
  have hword : u.rd 0x8044 = s.rd 0x8044 := (State.rd_countBcn ..).trans (if_neg (by decide))
  have hport (p : Nat) : u.bport p = s.bport p := State.bport_countBcn ..
  have main : ∀ v : State, v.beacon = u.beacon → v.rd 0x8044 = u.rd 0x8044 → (∀ p, v.bport p = u.bport p) →
      v.beacon.integ = s.nextIntegral o log ∧ v.beacon.corr = s.nextCorr o log ∧ v.beacon.state = s.beacon.state ∧
      v.beacon.refusing = s.beacon.refusing ∧ v.rd 0x8044 = s.rd 0x8044 ∧ ∀ p, v.bport p = s.bport p := by
    intro v hvb hvw hvp
    refine ⟨?_, ?_, ?_, ?_, hvw.trans hword, fun p => (hvp p).trans (hport p)⟩ <;> rw [hvb, hu] <;> rfl
  by_cases hclamp : (hit && !b.clamped) = true
  · rw [show t = (u.countBcn 4).raise .bcn 5 0 0 from if_pos hclamp]
    refine main _ ?_ ?_ fun p => ?_
    · rw [State.beacon_raise, State.beacon_countBcn]
    · rw [State.rd_raise, if_neg (by decide), State.rd_countBcn, if_neg (by decide)]
    · rw [State.bport_raise, State.bport_countBcn]
  · rw [show t = u from if_neg hclamp]
    exact main u rfl rfl fun _ => rfl

/-- A measurement within the threshold is applied (R429, R430). -/
theorem State.measure_applied {s : State} {o log : Int} (hs : s.beacon.state = .locked)
    (hw : s.beacon.written = none) (hnear : s.rf 0x8024 0 30 = 0 ∨ o.natAbs ≤ s.rf 0x8024 0 30 * 2 ^ 16) :
    let t := s.measure o log none none
    t.beacon.integ = s.nextIntegral o log ∧ t.beacon.corr = s.nextCorr o log ∧ t.beacon.state = .locked ∧
    t.beacon.refusing = false ∧ t.rd 0x8044 = wd (offsetWord o) ∧ ∀ p, t.bport p = s.bport p := by
  rw [State.measure_locked hs]
  generalize hv : s.wr 0x8044 (wd (offsetWord o)) = v
  have hrd {a : Nat} (ha : a ≠ 0x8044) : v.rd a = s.rd a := by
    rw [← hv, State.rd_wr, if_neg ha]
  have hbeacon : v.beacon = s.beacon := by rw [← hv]; rfl
  have hrf (a i n : Nat) (ha : a ≠ 0x8044) : v.rf a i n = s.rf a i n := congrArg (fun w => fld w i n) (hrd ha)
  have hword : v.rd 0x8044 = wd (offsetWord o) := by rw [← hv, State.rd_wr, if_pos rfl]
  have hport (p : Nat) : v.bport p = s.bport p := by rw [← hv]; rfl
  have heq : v.servoJudge o log none = (v.upBcn fun b => { b with refusing := false }).servoApply o log none := by
    unfold State.servoJudge
    extract_lets thr u
    refine if_neg fun hfar => ?_
    have hthr : thr = s.rf 0x8024 0 30 := hrf _ _ _ (by decide)
    rw [hthr] at hfar
    obtain ⟨h0, hfar⟩ := hfar
    rcases hnear with hz | hle
    · exact h0 hz
    · omega
  rw [heq]
  generalize hu : (v.upBcn fun b => { b with refusing := false }) = u
  have hub : u.beacon = { s.beacon with refusing := false } := by rw [← hu, ← hbeacon]; rfl
  have huw : u.beacon.written = none := by rw [hub]; exact hw
  have hui : u.nextIntegral o log = s.nextIntegral o log := by
    rw [State.nextIntegral, State.nextIntegral, Beacon.integral_of_unwritten huw, Beacon.integral_of_unwritten hw, hub,
      ← hrf 0x8028 0 4 (by decide), ← hu]
    rfl
  have huc : u.nextCorr o log = s.nextCorr o log := by
    rw [State.nextCorr, State.nextCorr, hui, ← hrf 0x8028 4 4 (by decide), ← hu]
    rfl
  obtain ⟨hinteg, hcorr, hstate, hrefusing, hoff, hp⟩ := State.servoApply_effect huw o log
  refine ⟨hinteg.trans hui, hcorr.trans huc, ?_, ?_, ?_, fun p => ?_⟩
  · rw [hstate, hub]
    exact hs
  · rw [hrefusing, hub]
  · rw [hoff, ← hword, ← hu]
    rfl
  · rw [hp, ← hport, ← hu]
    rfl

/-! ### Loss of the source, path delays and edges (R433, R444 to R446, R451) -/

/-- The loss of the source holds the integral, T continuous. -/
theorem State.sourceLost_effect {s : State} (hs : s.beacon.state = .locked) (hw : s.beacon.written = none) :
    let t := s.sourceLost
    let b := s.beacon
    t.beacon = { b with aT := b.timeAt b.raw, aRaw := b.raw, corr := b.integ, state := .holdover,
                        past := t.beacon.past } ∧
    t.time = s.time ∧ Raised .bcn 3 s t ∧ t.rd 0x8068 = wd (satAdd (2 ^ 32 - 1) (s.rd 0x8068).toNat 1) := by
  have heq : s.sourceLost = ((s.upBcn fun b => { b.servoCorr b.integral b.integral with
      state := .holdover }).countBcn 2).raise .bcn 3 0 0 := by
    rw [State.sourceLost, if_neg (by rw [hs]; decide)]
  have hbeacon : s.sourceLost.beacon =
      { s.beacon.setRate s.beacon.integ s.beacon.integ with state := .holdover } := by
    rw [heq, State.beacon_raise, State.beacon_countBcn]
    show { s.beacon.servoCorr s.beacon.integral s.beacon.integral with state := Servo.holdover } = _
    rw [Beacon.integral_of_unwritten hw, Beacon.servoCorr_of_unwritten hw]
  refine ⟨?_, ?_, ?_, ?_⟩
  · rw [hbeacon]
    rfl
  · rw [State.time, State.time, hbeacon]
    exact congrArg Int.toNat (anchorTime_anchor ..)
  · rw [Raised, heq, State.rd_raise, if_pos rfl, State.rd_countBcn, if_neg (by decide)]
    rfl
  · rw [heq, State.rd_raise, if_neg (by decide), State.rd_countBcn, if_pos rfl]
    rfl

theorem State.holdStep_of_other {s : State} {p : Nat} (h : s.isSource p = false) : s.holdStep p = 10 ^ 9 * 2 ^ 16 := by
  unfold State.holdStep
  extract_lets second log
  rw [h, if_neg Bool.false_ne_true]

/-- The first path delay is taken, one of a hold-off waits for its end (R445, R446). -/
theorem State.pathDelay_first {s : State} {p m : Nat} (h : (s.bport p).dValid = false) :
    s.pathDelay p m = s.setBport p { s.bport p with
      delay := m, dValid := true, latest := m, corrAt := s.beacon.corr, integAt := s.beacon.integ } := by
  unfold State.pathDelay
  extract_lets x b keep
  rw [show x.dValid = false from h]
  rfl

theorem State.pathDelay_hold {s : State} {p m : Nat} (h : (s.bport p).dValid = true) (hh : (s.bport p).hold = true) :
    s.pathDelay p m = s.setBport p { s.bport p with latest := m } := by
  unfold State.pathDelay
  extract_lets x b keep d u v
  rw [show x.dValid = true from h, show x.hold = true from hh]
  rfl

/-- A jump of the path delay holds off (R446). -/
theorem State.pathDelay_jump {s : State} {p m : Nat} (h : (s.bport p).dValid = true) (hh : (s.bport p).hold = false)
    (hsrc : s.isSource p = false)
    (hj : s.rf (0x8404 + 0x40 * p) 0 16 * 256 < ((m : Int) - (s.bport p).delay).natAbs) :
    BportSet p { s.bport p with hold := true, holdLeft := s.rf (0x8404 + 0x40 * p) 16 8, latest := m,
                                holdNext := s.beacon.raw + 10 ^ 9 * 2 ^ 16 } s (s.pathDelay p m) ∧
    Raised .bcn 4 s (s.pathDelay p m) ∧ (s.pathDelay p m).beacon = s.beacon := by
  have heq : s.pathDelay p m = ((s.setBport p { s.bport p with
      hold := true, holdLeft := s.rf (0x8404 + 0x40 * p) 16 8, latest := m,
      holdNext := s.beacon.raw + s.holdStep p }).countBcn 3).raise .bcn 4 p 0 := by
    unfold State.pathDelay
    extract_lets x b keep d u v
    have hvalid : x.dValid = true := h
    refine (if_neg (by simp [hvalid])).trans ?_
    rw [show x.hold = false from hh, if_neg Bool.false_ne_true, if_neg (Nat.not_le.2 hj)]
    have hv : v.isSource p = false := by
      have hrd (o : Nat) (h1 : o ≠ Blk.bcn.evtOff) (h2 : o ≠ 0x8060 + 4 * 3) : v.rd o = s.rd o := by
        rw [show v = u.raise .bcn 4 p 0 from rfl, State.rd_raise, if_neg h1, State.rd_countBcn, if_neg h2]
        rfl
      rw [← hsrc, State.isSource, State.isSource, State.bcnSource, State.bcnSource, State.srcPort, State.srcPort,
        State.bcnRole, State.bcnRole, State.rf, State.rf, State.rf, State.rf, State.rf, State.rf,
        hrd 0x8020 (by decide) (by decide), hrd (0x8400 + 0x40 * p) (by show _ ≠ 0x8050; omega) (by omega)]
    rw [hv, if_neg Bool.false_ne_true]
  rw [heq, State.holdStep_of_other hsrc]
  refine ⟨⟨?_, fun r hr => ?_⟩, ?_, ?_⟩
  · rw [State.bport_raise, State.bport_countBcn, State.bport_setBport, if_pos rfl]
  · rw [State.bport_raise, State.bport_countBcn, State.bport_setBport, if_neg hr]
  · rw [Raised, State.rd_raise, if_pos rfl, State.rd_countBcn, if_neg (by decide)]
    rfl
  · rw [State.beacon_raise, State.beacon_countBcn]
    rfl

/-! ### The commands -/

theorem State.ptpSync_other {s : State} {p domain seq age origin : Nat} {two : Bool} {corr log : Int}
    (h : s.isSource p = false) : s.ptpSync p domain seq two origin corr log age = s := by
  rw [State.ptpSync, h]
  rfl

theorem State.bport_setBport_self (p : Nat) (x : BcnPort) (s : State) : (s.setBport p x).bport p = x :=
  (State.bport_setBport ..).trans (if_pos rfl)

theorem State.syncOffset_setBport {s : State} {p t2 origin : Nat} {c : Int} {x : BcnPort}
    (h : x.delay = (s.bport p).delay) : (s.setBport p x).syncOffset p t2 origin c = s.syncOffset p t2 origin c := by
  rw [State.syncOffset, State.syncOffset, State.bport_setBport_self, h]
  rfl

/-- A one-step Sync of the source is a measurement at its ingress. -/
theorem State.ptpSync_oneStep {s : State} {p seq age origin : Nat} {corr log : Int} (h : s.isSource p = true)
    (hd : (s.bport p).dValid = true) (hh : (s.bport p).hold = false) :
    s.ptpSync p (s.bcnDomain p) seq false origin corr log age =
      (s.setBport p { s.bport p with sync := none, syncLog := log }).measure
        (s.syncOffset p (s.ingressNs p age) origin corr) log none none := by
  generalize hx : { s.bport p with sync := none, syncLog := log } = x
  have hport : (s.setBport p x).bport p = x := State.bport_setBport_self ..
  have heq : s.ptpSync p (s.bcnDomain p) seq false origin corr log age =
      (s.setBport p x).syncMeasure p (s.ingressNs p age) (origin * 2 ^ 16 : Nat) corr log := by
    rw [State.ptpSync, if_neg (by simp [h]), ← hx]
    rfl
  rw [heq, State.syncMeasure_valid (by rw [hport, ← hx]; exact hd) (by rw [hport, ← hx]; exact hh)]
  rw [State.syncOffset_setBport (by rw [← hx])]

/-- A Follow_Up of the source's waiting Sync completes it to a measurement. -/
theorem State.ptpFollowUp_completes {s : State} {p seq origin : Nat} {corr : Int} {w : PtpWait}
    (h : s.isSource p = true) (hw : (s.bport p).sync = some w) (hseq : w.seq = seq)
    (hd : (s.bport p).dValid = true) (hh : (s.bport p).hold = false) :
    s.ptpFollowUp p (s.bcnDomain p) seq origin corr [] =
      (s.setBport p { s.bport p with sync := none }).measure
        (s.syncOffset p w.t2 origin (w.corrField + corr)) w.logInterval none none := by
  generalize hx : { s.bport p with sync := none } = x
  have hport : (s.setBport p x).bport p = x := State.bport_setBport_self ..
  have heq : s.ptpFollowUp p (s.bcnDomain p) seq origin corr [] =
      (s.setBport p x).syncMeasure p w.t2 (origin * 2 ^ 16 : Nat) (w.corrField + corr) w.logInterval := by
    rw [State.ptpFollowUp, if_neg (by simp [h]), hw, ← hx]
    exact if_neg (by simp [hseq])
  rw [heq, State.syncMeasure_valid (by rw [hport, ← hx]; exact hd) (by rw [hport, ← hx]; exact hh)]
  rw [State.syncOffset_setBport (by rw [← hx])]

theorem State.ptpFollowUp_stale {s : State} {p seq origin : Nat} {corr : Int} {tlv : List Byte} {w : PtpWait}
    (h : s.isSource p = true) (hw : (s.bport p).sync = some w) (hseq : w.seq ≠ seq) :
    s.ptpFollowUp p (s.bcnDomain p) seq origin corr tlv = s := by
  rw [State.ptpFollowUp, if_neg (by simp [h]), hw]
  exact if_pos hseq

/-- An edge of the selected polarity, the first since the source was selected, locks forward to the next second. -/
theorem State.ppsEdge_first {s : State} {rising : Bool} {age : Nat} {f : Int}
    (hsrc : s.bcnSource = 2 ∨ s.bcnSource = 3) (hpol : rising ≠ s.rb 0x8020 23) (hlast : s.beacon.ppsLast = none)
    (hs : s.beacon.state = .acquire) (ha : s.beacon.stepAvail = true) (hq : s.pinsOff) :
    let t := s.ppsEdge rising age f
    let n := s.ppsStamp age % 10 ^ 9
    t.beacon = { s.beacon with
      aT := s.beacon.aT + ((10 ^ 9 - n) % 10 ^ 9 * 2 ^ 16 : Nat), stepAvail := false, state := .locked,
      ppsLast := some (s.beacon.raw / 2 ^ 16 - age), ppsMissed := 0, past := t.beacon.past } ∧
    t.rb Blk.bcn.evtOff 0 = true ∧ t.rb Blk.bcn.evtOff 1 = true := by
  unfold State.ppsEdge
  extract_lets src raw early u n o t
  have hearly : early = false := by
    show (match s.beacon.ppsLast with
      | some l => decide (raw < l + 500000000)
      | none => false) = false
    rw [hlast]
  have hgo : ((src != 2 && src != 3) || rising == s.rb 0x8020 23 || early) = false := by
    have hs23 : src = 2 ∨ src = 3 := hsrc
    rcases hs23 with h2 | h2 <;> simp [h2, hearly, hpol]
  have ht : t = u.measure (o * 2 ^ 16) 0 (some ((10 ^ 9 - n) % 10 ^ 9)) (if src = 3 then some f else none) :=
    if_neg (by rw [hgo]; exact Bool.false_ne_true)
  rw [ht]
  exact State.measure_locksPps (s := u) hs ha hq

theorem State.ppsEdge_ignored {s : State} {rising : Bool} {age : Nat} {f : Int}
    (h : (s.bcnSource ≠ 2 ∧ s.bcnSource ≠ 3) ∨ rising = s.rb 0x8020 23 ∨
      ∃ l, s.beacon.ppsLast = some l ∧ s.beacon.raw / 2 ^ 16 - age < l + 500000000) :
    s.ppsEdge rising age f = s := by
  unfold State.ppsEdge
  extract_lets src raw early u n o
  refine if_pos ?_
  rcases h with ⟨h2, h3⟩ | hpol | ⟨l, hl, hlt⟩
  · have hs2 : src ≠ 2 := h2
    have hs3 : src ≠ 3 := h3
    simp [hs2, hs3]
  · simp [hpol]
  · have hearly : early = true := by
      show (match s.beacon.ppsLast with
        | some l => decide (raw < l + 500000000)
        | none => false) = true
      rw [hl]
      exact decide_eq_true hlt
    simp [hearly]

end Sys2Proof.Machine

section
open Sys2Proof Sys2Proof.Machine

/-- Settles O51: each message and edge comes down to one measurement, which the servo's state judges. -/
theorem servoAndDelays : Obligations.ServoAndDelays := by
  unfold Obligations.ServoAndDelays
  intro s p seq origin m age corr log f tlv rising x b t2 quiet off
  have run {c : Instr} {t : State} {P : State → Prop} (h : exec c s = .next t) (hP : P t) : After c s P :=
    ⟨t, h, hP⟩
  have hquiet (h : quiet) : s.pinsOff := h.2
  refine ⟨?_, ?_, ?_, ?_, ?_, ?_, ?_, ?_, ?_, ?_, ?_, ?_, ?_, ?_, ?_, ?_⟩
  case _ =>
    intro hsrc hhold
    refine congrArg Host.Outcome.next ?_
    show s.ptpSync p (s.bcnDomain p) seq true origin corr log age = _
    rw [State.ptpSync, if_neg (by simp [hsrc])]
    rfl
  case _ => exact fun hsrc => congrArg Host.Outcome.next (State.ptpSync_other hsrc)
  case _ =>
    intro hsrc hhold hvalid hstate hstep hoff
    refine run (congrArg Host.Outcome.next (State.ptpSync_oneStep hsrc hvalid hhold)) ?_
    obtain ⟨hbeacon, hraised, hword, hport⟩ := State.measure_locks
      (s := s.setBport p { s.bport p with sync := none, syncLog := log }) (log := log) hstate hstep hoff
    exact ⟨hbeacon, hraised, hword, (hport p).trans (State.bport_setBport_self ..)⟩
  case _ =>
    intro hsrc hhold hvalid hstate hstep hoff hq
    refine run (congrArg Host.Outcome.next (State.ptpSync_oneStep hsrc hvalid hhold)) ?_
    exact State.measure_locksBack (s := s.setBport p { s.bport p with sync := none, syncLog := log }) (log := log)
      hstate hstep (hquiet hq) hoff
  case _ =>
    intro w hsrc hw hseq hvalid hhold hstate hrefusing h0 hfar htlv
    subst htlv
    refine run (congrArg Host.Outcome.next (State.ptpFollowUp_completes hsrc hw hseq hvalid hhold)) ?_
    obtain ⟨hbeacon, hraised, hport⟩ := State.measure_refused
      (s := s.setBport p { s.bport p with sync := none }) (log := w.logInterval) hstate hrefusing h0 hfar
    exact ⟨hbeacon, hraised, (hport p).trans (State.bport_setBport_self ..)⟩
  case _ =>
    intro w hsrc hw hseq hvalid hhold htlv o
    subst htlv
    have hrun := State.ptpFollowUp_completes (origin := origin) (corr := corr) hsrc hw hseq hvalid hhold
    refine ⟨fun hstate hstep hoff => run (congrArg Host.Outcome.next hrun) ?_,
      fun hstate hwritten hnear => run (congrArg Host.Outcome.next hrun) ?_⟩
    · obtain ⟨hbeacon, hraised, hword, hport⟩ := State.measure_locks
        (s := s.setBport p { s.bport p with sync := none }) (log := w.logInterval) hstate hstep hoff
      exact ⟨hbeacon, hraised, hword, (hport p).trans (State.bport_setBport_self ..)⟩
    · obtain ⟨hinteg, hcorr, hlocked, hrefusing, hword, hport⟩ := State.measure_applied
        (s := s.setBport p { s.bport p with sync := none }) (log := w.logInterval) hstate hwritten hnear
      exact ⟨hinteg, hcorr, hlocked, hrefusing, hword, (hport p).trans (State.bport_setBport_self ..)⟩
  case _ => exact fun w hsrc hw hseq => congrArg Host.Outcome.next (State.ptpFollowUp_stale hsrc hw hseq)
  case _ => exact fun hstate hwritten => run rfl (State.sourceLost_effect hstate hwritten)
  case _ =>
    intro hstate
    refine congrArg Host.Outcome.next ?_
    rw [State.sourceLost, if_pos (by simpa using hstate)]
  case _ =>
    intro c hc
    have hrun : exec c s = .next (s.pathDelay p m) := by
      rcases hc with ⟨rfl, hpeer⟩ | ⟨rfl, hrole, hprofile⟩
      · refine congrArg Host.Outcome.next ?_
        rw [State.pdelayResp, if_pos (by simp [hpeer])]
      · refine congrArg Host.Outcome.next ?_
        rw [State.delayResp, if_pos (by simp [hrole, hprofile, roleSlave])]
    refine ⟨fun hinvalid => ?_, fun hvalid hhold => ?_, fun hvalid hhold hsrc hjump => run hrun ?_⟩
    · exact hrun.trans (congrArg Host.Outcome.next (State.pathDelay_first hinvalid))
    · exact hrun.trans (congrArg Host.Outcome.next (State.pathDelay_hold hvalid hhold))
    · exact State.pathDelay_jump hvalid hhold hsrc hjump
  case _ =>
    intro hhold
    refine congrArg Host.Outcome.next (congrArg (fun x => s.setBport p x) ?_)
    exact if_pos hhold
  case _ =>
    intro hhold
    refine congrArg Host.Outcome.next (congrArg (fun x => s.setBport p x) ?_)
    exact if_neg (by rw [hhold]; exact Bool.false_ne_true)
  case _ =>
    exact fun hsrc hpol hlast hstate hstep hq =>
      run rfl (State.ppsEdge_first hsrc hpol hlast hstate hstep (hquiet hq))
  case _ => exact fun h2 h3 => congrArg Host.Outcome.next (State.ppsEdge_ignored (.inl ⟨h2, h3⟩))
  case _ => exact fun hpol => congrArg Host.Outcome.next (State.ppsEdge_ignored (.inr (.inl hpol)))
  case _ => exact fun l hl hlt => congrArg Host.Outcome.next (State.ppsEdge_ignored (.inr (.inr ⟨l, hl, hlt⟩)))

end

namespace Sys2Proof.Machine
open Sys2Proof

/-! ### Messages that Beacon sends (R434, R437) -/

/-- The first 19 bytes of a message: the addresses, the EtherType, the type, version, length and domain. -/
theorem State.ptpFrame_head (s : State) (p ty : Nat) (two : Bool) (c : Int) (seq log : Nat) (body : List Byte) :
    ∃ a0 a1 a2 a3 a4 a5 n0 n1 : Byte, ∃ rest : List Byte, s.ptpFrame p ty two c seq log body =
      [0x01, 0x80, 0xC2, 0x00, 0x00, 0x0E, a0, a1, a2, a3, a4, a5, 0x88, 0xF7,
       BitVec.ofNat 8 ((if s.bcnProfile p = 0 then 16 else 0) + ty), 0x12, n0, n1,
       BitVec.ofNat 8 (s.bcnDomain p)] ++ rest := by
  have hgroup : beBytes 6 0x0180C200000E = [0x01, 0x80, 0xC2, 0x00, 0x00, 0x0E] := by decide
  have htype : beBytes 2 0x88F7 = [0x88, 0xF7] := by decide
  have hversion : beBytes 1 0x12 = [0x12] := by decide
  have hbyte (n : Nat) : beBytes 1 n = [BitVec.ofNat 8 n] := rfl
  unfold State.ptpFrame
  extract_lets sdo ctl
  generalize hlen : 34 + body.length = n
  have hlength : beBytes 2 n = [BitVec.ofNat 8 (n / 256), BitVec.ofNat 8 n] := rfl
  simp only [hgroup, htype, hversion, hbyte, hlength, State.macAddr, leBytes, List.append_assoc, List.cons_append,
    List.nil_append]
  exact ⟨_, _, _, _, _, _, _, _, _, rfl⟩

theorem State.bcnDomain_lt (s : State) (p : Nat) : s.bcnDomain p < 256 := fld_lt ..

/-- A whole frame of Beacon's of type `ty` on port `p`. -/
def State.isPtpFrame (s : State) (p ty : Nat) (l : List Byte) : Prop :=
  byteAt l 14 % 16 = ty ∧ beAt l 12 2 = 0x88F7 ∧ byteAt l 18 = s.bcnDomain p ∧
  l.take 6 = [0x01, 0x80, 0xC2, 0x00, 0x00, 0x0E]

theorem State.ptpFrame_isPtpFrame (s : State) (p ty : Nat) (hty : ty < 16) (two : Bool) (c : Int) (seq log : Nat)
    (body : List Byte) : s.isPtpFrame p ty (s.ptpFrame p ty two c seq log body) := by
  obtain ⟨a0, a1, a2, a3, a4, a5, n0, n1, rest, hframe⟩ := s.ptpFrame_head p ty two c seq log body
  rw [hframe]
  have hdomain := s.bcnDomain_lt p
  refine ⟨?_, rfl, Nat.mod_eq_of_lt hdomain, rfl⟩
  show ((if s.bcnProfile p = 0 then 16 else 0) + ty) % 256 % 16 = ty
  split <;> omega

/-! ### The port's entry for them (R437) -/

/-- Beacon's entry of a message. -/
def State.ptpEntry (s : State) (p : Nat) (octets : List Byte) : EthEntry :=
  { record := none, route := 0xFFFF, acf := none, cls := s.rf (0x8400 + 0x40 * p) 24 3, launch := none, late := false,
    stampReq := false, tag := 0, octets := octets }

/-- A port's gate list follows from its registers, its operational list and the cell cycle. -/
theorem State.longest_congr {s t : State} {p : Nat} (hregs : t.regs = s.regs) (hfuse : t.fuse = s.fuse)
    (hoper : (t.port p).oper = (s.port p).oper) (hcycle : t.cycle = s.cycle) (c : Nat) :
    t.longest p c = s.longest p c := by
  have hword : t.rd (macBase p + 0x40) = s.rd (macBase p + 0x40) := State.rd_of_regs_eq hregs hfuse _
  have hlist : t.gateList p = s.gateList p := by
    simp only [State.gateList, hword, hoper, hcycle]
  simp only [State.longest, hlist]

theorem State.checkPtp_stays {s : State} {p c : Nat} (h : s.longest p c = none) : s.checkPtp p c = s := by
  rw [State.checkPtp]
  cases (s.port p).ptp with
  | none => rfl
  | some e => exact if_neg (by simp [State.tooLong, h])

theorem State.ptpQueue_shut {s : State} {p : Nat} {octets : List Byte} (h : (s.port p).link = false) :
    s.ptpQueue p octets = s := by
  unfold State.ptpQueue
  extract_lets x cls e
  exact if_pos (by simp [show x.link = false from h])

/-- Port `p` takes a message of Beacon's: link up, its entry free, the gate of its class never closed. -/
def State.ptpFree (s : State) (p : Nat) : Prop :=
  (s.port p).link = true ∧ (s.port p).retired = false ∧ (s.port p).ptp = none ∧
  s.longest p (s.rf (0x8400 + 0x40 * p) 24 3) = none

/-- A message enters a free entry: only the port changes. -/
theorem State.ptpQueue_free {s : State} {p : Nat} {octets : List Byte} (h : s.ptpFree p) :
    ∃ credit, s.ptpQueue p octets = s.setPort p { s.port p with
      creditAt := s.beacon.raw, credit := credit, ptp := some (s.ptpEntry p octets) } := by
  obtain ⟨hlink, hretired, hfree, hopen⟩ := h
  obtain ⟨credit, hport⟩ := State.port_advanceCredit p s
  refine ⟨credit, ?_⟩
  have hentered : (s.advanceCredit p).upPort p (fun x => { x with ptp := some (s.ptpEntry p octets) }) =
      s.setPort p { s.port p with
        creditAt := s.beacon.raw, credit := credit, ptp := some (s.ptpEntry p octets) } := by
    rw [State.upPort, hport]
    exact congrArg (fun t => { s with ports := t }) (Tbl.set_set ..)
  unfold State.ptpQueue
  extract_lets x cls e
  rw [if_neg (by simp [show x.link = true from hlink, show x.retired = false from hretired,
    show x.ptp = none from hfree])]
  refine (State.checkPtp_stays ?_).trans hentered
  generalize hu : (s.advanceCredit p).upPort p (fun x => { x with ptp := some e }) = u
  have hregs : u.regs = s.regs := by rw [← hu]; rfl
  have hfuse : u.fuse = s.fuse := by rw [← hu]; rfl
  have hcycle : u.cycle = s.cycle := by rw [← hu]; rfl
  have hoper : (u.port p).oper = (s.port p).oper := by
    rw [← hu, State.port_upPort, if_pos rfl, hport]
  exact (State.longest_congr hregs hfuse hoper hcycle cls).trans hopen

/-- A sequence number is none of what the port's entry depends on. -/
theorem State.ptpFree_upPort {s : State} {p : Nat} (h : s.ptpFree p) (f : Port → Port)
    (hlink : (f (s.port p)).link = (s.port p).link) (hretired : (f (s.port p)).retired = (s.port p).retired)
    (hptp : (f (s.port p)).ptp = (s.port p).ptp) (hoper : (f (s.port p)).oper = (s.port p).oper) :
    (s.upPort p f).ptpFree p := by
  obtain ⟨hl, hr, hp, ho⟩ := h
  have hport : (s.upPort p f).port p = f (s.port p) := (State.port_upPort ..).trans (if_pos rfl)
  refine ⟨by rw [hport, hlink, hl], by rw [hport, hretired, hr], by rw [hport, hptp, hp], ?_⟩
  exact (State.longest_congr (s := s) (t := s.upPort p f) rfl rfl (by rw [hport, hoper]) rfl _).trans ho

theorem State.port_ptpQueue {s : State} {p : Nat} (h : s.ptpFree p) (octets : List Byte) :
    ((s.ptpQueue p octets).port p).ptp = some (s.ptpEntry p octets) ∧
    ((s.ptpQueue p octets).port p).syncSeq = (s.port p).syncSeq ∧
    ((s.ptpQueue p octets).port p).delaySeq = (s.port p).delaySeq := by
  obtain ⟨credit, heq⟩ := State.ptpQueue_free (octets := octets) h
  have hport := (congrArg (fun t => t.port p) heq).trans ((State.port_setPort ..).trans (if_pos rfl))
  exact ⟨by rw [hport], by rw [hport], by rw [hport]⟩

theorem State.ptpQueue_only {s : State} {p : Nat} (h : s.ptpFree p) (octets : List Byte) :
    s.ptpQueue p octets = s.setPort p ((s.ptpQueue p octets).port p) := by
  obtain ⟨credit, heq⟩ := State.ptpQueue_free (octets := octets) h
  have hport := (congrArg (fun t => t.port p) heq).trans ((State.port_setPort ..).trans (if_pos rfl))
  exact heq.trans (congrArg (fun x => s.setPort p x) hport.symm)

/-! ### The commands (R434, R437) -/

/-- `t`'s port `p` holds Beacon's message of type `ty`. -/
def State.ptpQueued (s : State) (p ty : Nat) (t : State) : Prop := ∃ e, (t.port p).ptp = some e ∧
  byteAt e.octets 14 % 16 = ty ∧ beAt e.octets 12 2 = 0x88F7 ∧ byteAt e.octets 18 = s.bcnDomain p ∧
  e.octets.take 6 = [0x01, 0x80, 0xC2, 0x00, 0x00, 0x0E] ∧ e.cls = s.rf (0x8400 + 0x40 * p) 24 3

/-- A frame of state `s` queued on one with the same registers is its message. -/
theorem State.ptpQueued_of_frame {s u : State} {p ty : Nat} {l : List Byte} (hu : u.ptpFree p)
    (hcls : u.rf (0x8400 + 0x40 * p) 24 3 = s.rf (0x8400 + 0x40 * p) 24 3) (h : s.isPtpFrame p ty l) :
    s.ptpQueued p ty (u.ptpQueue p l) := by
  obtain ⟨htype, hether, hdomain, hgroup⟩ := h
  exact ⟨_, (State.port_ptpQueue hu l).1, htype, hether, hdomain, hgroup, hcls⟩

/-- SYNC_TX of a MASTER sends Sync (R437). -/
theorem State.syncTx_master {s : State} {p : Nat} (hrole : s.bcnRole p = 2) (h : s.ptpFree p) :
    s.ptpQueued p 0 (s.syncTx p) ∧ ((s.syncTx p).port p).syncSeq = ((s.port p).syncSeq + 1) % 65536 := by
  unfold State.syncTx
  rw [if_neg (by simp [hrole, roleMaster])]
  extract_lets x body f
  generalize hu : (s.upPort p fun x => { x with syncSeq := (x.syncSeq + 1) % 65536 }) = u
  have hfree : u.ptpFree p := by rw [← hu]; exact State.ptpFree_upPort h _ rfl rfl rfl rfl
  have hseq : (u.port p).syncSeq = ((s.port p).syncSeq + 1) % 65536 := by
    rw [← hu, State.port_upPort, if_pos rfl]
  refine ⟨State.ptpQueued_of_frame hfree (by rw [← hu]; rfl) (s.ptpFrame_isPtpFrame p msgSync (by decide) ..), ?_⟩
  rw [(State.port_ptpQueue hfree f).2.1, hseq]

/-- DELAY_REQUEST_TX sends the request of the port's delay mechanism (Table 11-4). -/
theorem State.delayReqTx_sends {s : State} {p ty : Nat}
    (hty : ty = if s.bcnProfile p = 1 then msgDelayReq else msgPdelayReq)
    (hrole : ¬(s.bcnRole p = 0 ∨ (s.bcnProfile p = 1 ∧ s.bcnRole p ≠ roleSlave))) (h : s.ptpFree p) :
    s.ptpQueued p ty (s.delayReqTx p) ∧ ((s.delayReqTx p).port p).delaySeq = ((s.port p).delaySeq + 1) % 65536 := by
  have hsmall : ty < 16 := by
    rw [hty]
    split <;> decide
  unfold State.delayReqTx
  rw [← hty]
  extract_lets ty' x body f
  rw [if_neg hrole]
  generalize hu : (s.upPort p fun x => { x with delaySeq := (x.delaySeq + 1) % 65536 }) = u
  have hfree : u.ptpFree p := by rw [← hu]; exact State.ptpFree_upPort h _ rfl rfl rfl rfl
  have hseq : (u.port p).delaySeq = ((s.port p).delaySeq + 1) % 65536 := by
    rw [← hu, State.port_upPort, if_pos rfl]
  refine ⟨State.ptpQueued_of_frame hfree (by rw [← hu]; rfl) (s.ptpFrame_isPtpFrame p ty hsmall ..), ?_⟩
  rw [(State.port_ptpQueue hfree f).2.2, hseq]

end Sys2Proof.Machine

section
open Sys2Proof Sys2Proof.Machine

/-- Settles O52: a port whose entry is free takes the message, and its frame carries the type and the domain. -/
theorem ptpMessages : Obligations.PtpMessages := by
  unfold Obligations.PtpMessages
  intro s p seq age corr who x queued free
  have hfree (hl : x.link = true) (hr : x.retired = false) (h : free) : s.ptpFree p := ⟨hl, hr, h.1, h.2⟩
  refine ⟨?_, ?_, ?_, ?_, ?_, ?_, ?_, ?_, ?_⟩
  case _ => exact fun hrole hl hr h => ⟨_, rfl, State.syncTx_master hrole (hfree hl hr h)⟩
  case _ =>
    intro hrole
    exact congrArg Host.Outcome.next (if_pos hrole)
  case _ =>
    intro hrole hprofile hl hr h
    exact ⟨_, rfl, State.delayReqTx_sends (if_neg hprofile).symm (by simp [hrole, hprofile]) (hfree hl hr h)⟩
  case _ =>
    intro hrole hprofile hl hr h
    exact ⟨_, rfl, State.delayReqTx_sends (if_pos hprofile).symm (by simp [hrole, roleSlave]) (hfree hl hr h)⟩
  case _ =>
    intro hrole
    exact congrArg Host.Outcome.next (if_pos (.inl hrole))
  case _ =>
    intro hpeer hl hr h
    refine ⟨_, congrArg Host.Outcome.next (if_neg (by simp [hpeer])), ?_, State.ptpQueue_only (hfree hl hr h) _⟩
    exact State.ptpQueued_of_frame (hfree hl hr h) rfl (s.ptpFrame_isPtpFrame p msgPdelayResp (by decide) ..)
  case _ =>
    intro hrole hprofile hl hr h
    refine ⟨_, congrArg Host.Outcome.next (if_neg (by simp [hrole, hprofile, roleMaster])), ?_,
      State.ptpQueue_only (hfree hl hr h) _⟩
    exact State.ptpQueued_of_frame (hfree hl hr h) rfl (s.ptpFrame_isPtpFrame p msgDelayResp (by decide) ..)
  case _ =>
    intro d hd
    exact ⟨congrArg Host.Outcome.next (if_pos (by simp [hd])), congrArg Host.Outcome.next (if_pos (.inr (.inr hd)))⟩
  case _ =>
    intro hlink
    refine congrArg Host.Outcome.next ?_
    show s.pdelayReq p (s.bcnDomain p) seq corr age who = s
    unfold State.pdelayReq
    split
    · rfl
    · exact State.ptpQueue_shut hlink

end

namespace Sys2Proof.Machine
open Sys2Proof

/-! ### A timeline's place in the cell cycle (R455, R475) -/

/-- Between `s` and `t` timeline `n` keeps its cycle and its place in it, every other timeline all it has, the schedules
stay, and no event of the cycle block is lost. -/
structure KeepsPlace (n : Nat) (s t : State) : Prop where
  others : ∀ m, m ≠ n → t.tl m = s.tl m
  active : (t.tl n).active = (s.tl n).active
  acting : (t.tl n).acting = (s.tl n).acting
  k : (t.tl n).k = (s.tl n).k
  start : (t.tl n).start = (s.tl n).start
  phase : (t.tl n).phase = (s.tl n).phase
  scheds : t.scheds = s.scheds
  events : ∀ i, s.rb Blk.cyc.evtOff i = true → t.rb Blk.cyc.evtOff i = true

theorem KeepsPlace.refl (n : Nat) (s : State) : KeepsPlace n s s :=
  ⟨fun _ _ => rfl, rfl, rfl, rfl, rfl, rfl, rfl, fun _ h => h⟩

theorem KeepsPlace.trans {n : Nat} {s t u : State} (h : KeepsPlace n s t) (g : KeepsPlace n t u) : KeepsPlace n s u where
  others m hm := (g.others m hm).trans (h.others m hm)
  active := g.active.trans h.active
  acting := g.acting.trans h.acting
  k := g.k.trans h.k
  start := g.start.trans h.start
  phase := g.phase.trans h.phase
  scheds := g.scheds.trans h.scheds
  events i hi := g.events i (h.events i hi)

theorem KeepsPlace.of_timelines {n : Nat} {s t : State} (ht : t.timelines = s.timelines) (hs : t.scheds = s.scheds)
    (he : ∀ i, s.rb Blk.cyc.evtOff i = true → t.rb Blk.cyc.evtOff i = true) : KeepsPlace n s t := by
  have htl := State.tl_congr ht
  exact ⟨fun m _ => htl m, by rw [htl], by rw [htl], by rw [htl], by rw [htl], by rw [htl], hs, he⟩

section
variable (n : Nat) (s : State)

theorem State.tl_setTl_self (x : Timeline) : (s.setTl n x).tl n = x := (State.tl_setTl ..).trans (if_pos rfl)

theorem State.setTl_keepsPlace {x : Timeline} (ha : x.active = (s.tl n).active) (hb : x.acting = (s.tl n).acting)
    (hk : x.k = (s.tl n).k) (hs : x.start = (s.tl n).start) (hp : x.phase = (s.tl n).phase) :
    KeepsPlace n s (s.setTl n x) := by
  have htl := State.tl_setTl_self n s x
  exact ⟨fun m hm => (State.tl_setTl ..).trans (if_neg hm), by rw [htl, ha], by rw [htl, hb], by rw [htl, hk],
    by rw [htl, hs], by rw [htl, hp], rfl, fun _ h => h⟩

theorem State.rd_countTl (t i o : Nat) : (s.countTl t i).rd o = if o = 0xA408 + 0x20 * t + 4 * i then
    wd (satAdd (2 ^ 32 - 1) (s.rd (0xA408 + 0x20 * t + 4 * i)).toNat 1) else s.rd o := State.rd_wr ..

theorem State.tl_countTl (t i m : Nat) : (s.countTl t i).tl m = s.tl m :=
  State.tl_congr (by simp [State.countTl]) m

theorem State.tl_raise (b : Blk) (i unit info m : Nat) : (s.raise b i unit info).tl m = s.tl m :=
  State.tl_congr (by simp) m

theorem State.countTl_keepsPlace (t i : Nat) : KeepsPlace n s (s.countTl t i) := by
  refine .of_timelines (by simp [State.countTl]) (by simp [State.countTl]) fun j h => ?_
  rw [State.rb, State.rd_countTl, if_neg (by show (0xA020 : Nat) ≠ _; omega)]
  exact h

theorem State.raise_keepsPlace (i unit info : Nat) : KeepsPlace n s (s.raise .cyc i unit info) :=
  .of_timelines (by simp) (by simp) fun _ h => State.rb_raise_of_rb _ _ _ _ h

theorem State.countLate_keepsPlace (w : Placed) : KeepsPlace n s (s.countLate n w) := by
  unfold State.countLate
  extract_lets x u cc
  have hu : KeepsPlace n s u := State.countTl_keepsPlace ..
  have hx : u.tl n = x := State.tl_countTl ..
  split
  · exact hu
  · refine (hu.trans (State.setTl_keepsPlace n u ?_ ?_ ?_ ?_ ?_)).trans (State.raise_keepsPlace ..) <;> rw [hx]

theorem State.judgeLate_keepsPlace (atEnd : Bool) (moment : Nat) : KeepsPlace n s (s.judgeLate n atEnd moment) := by
  unfold State.judgeLate
  extract_lets x
  split
  · extract_lets nominal
    split
    · exact .refl n s
    · refine KeepsPlace.trans ?_ (State.countLate_keepsPlace ..)
      exact State.setTl_keepsPlace n s rfl rfl rfl rfl rfl
  · exact .refl n s

theorem State.skipWindow_keepsPlace (w : Placed) : KeepsPlace n s (s.skipWindow n w) := by
  unfold State.skipWindow
  split
  · exact State.countTl_keepsPlace ..
  · exact .refl n s

theorem State.taskRelease_keepsPlace (g t : Nat) : KeepsPlace n s (s.taskRelease g t) := by
  have hkept := State.taskRelease_k (m := 0x100000000000) g t s rfl (Kept.refl _ s)
  refine .of_timelines (hkept.same .timelines rfl) (hkept.same .scheds rfl) fun i h => ?_
  rw [State.rb, State.rd_of_kept hkept rfl]
  exact h

/-- What a window does as it starts leaves the cycle's place. -/
theorem State.windowEffect_keepsPlace (w : Placed) : KeepsPlace n s (s.windowEffect n w) := by
  unfold State.windowEffect
  extract_lets u v cc
  have hu : KeepsPlace n s u := State.skipWindow_keepsPlace ..
  refine hu.trans ?_
  split
  case h_1 =>
    have hv : KeepsPlace n u v := State.setTl_keepsPlace n u rfl rfl rfl rfl rfl
    refine hv.trans ?_
    split
    · exact .refl n v
    · split
      · exact State.countTl_keepsPlace ..
      · exact State.setTl_keepsPlace n v rfl rfl rfl rfl rfl
  case h_2 =>
    split
    · exact .refl n u
    · refine KeepsPlace.trans ?_ (State.taskRelease_keepsPlace ..)
      exact State.setTl_keepsPlace n u rfl rfl rfl rfl rfl
  case h_3 => exact .refl n u

theorem State.beginWindow_keepsPlace (a : Nat) (w : Placed) (rest : List Placed) :
    KeepsPlace n s (s.beginWindow n a w rest) := by
  unfold State.beginWindow
  extract_lets d u
  have hu : KeepsPlace n s u := State.setTl_keepsPlace n s rfl rfl rfl rfl rfl
  exact (hu.trans (State.judgeLate_keepsPlace ..)).trans (State.windowEffect_keepsPlace ..)

/-- A cycle starts at its place. -/
theorem State.startCycle_effect (k a : Nat) (phi : Int) (catchUp ref : Bool) :
    let t := s.startCycle n k a phi catchUp ref
    (t.tl n).active = true ∧ (t.tl n).k = k ∧ (t.tl n).start = a ∧ (t.tl n).phase = phi ∧
    (t.tl n).acting = (s.tl n).acting ∧ (∀ m, m ≠ n → t.tl m = s.tl m) ∧ t.scheds = s.scheds ∧
    ∀ i, s.rb Blk.cyc.evtOff i = true → t.rb Blk.cyc.evtOff i = true := by
  unfold State.startCycle
  extract_lets ws u t
  have ht : KeepsPlace n u t := by
    show KeepsPlace n u (match ws with
      | [] => u
      | w :: rest => if !ref && w.fixed && u.busBusy n then u else u.beginWindow n w.start w rest)
    cases ws with
    | nil => exact .refl n u
    | cons w rest =>
      dsimp only
      split
      · exact .refl n u
      · exact State.beginWindow_keepsPlace ..
  have hu : u.tl n = { (s.tl n).sameCycle k with
      active := true, k := k, start := a, phase := phi, current := none, rest := ws, notBefore := 0, exempt := false } :=
    State.tl_setTl_self ..
  have hacting : ((s.tl n).sameCycle k).acting = (s.tl n).acting := by
    unfold Timeline.sameCycle
    split <;> rfl
  refine ⟨by rw [ht.active, hu], by rw [ht.k, hu], by rw [ht.start, hu], by rw [ht.phase, hu],
    by rw [ht.acting, hu, ← hacting], fun m hm => ?_, ht.scheds, ht.events⟩
  rw [ht.others m hm]
  exact (State.tl_setTl ..).trans (if_neg hm)

end

/-! ### Cycle starts, references and backups (R456, R471, R473, R475) -/

section
variable {s : State} {n : Nat} {c : CycleCfg} {x : Schedule}

/-- A nominal start that has taken effect does not take effect again. -/
theorem State.gridCheck_done (hc : s.cycle = some c) (hg : s.gridK = some (c.index s.ns)) : s.gridCheck = s := by
  rw [State.gridCheck, hc]
  exact if_pos (by simp [hg])

theorem State.cycleStart_stopped (hc : s.cycle = some c) (hg : s.gridK = some (c.index s.ns))
    (hrun : s.tlMayRun n = true) (hstop : (s.tl n).active = false) :
    s.cycleStart n = match s.nominalNow c with
      | some k => s.startCycle n k (c.nominal k) 0 false false
      | none => s := by
  unfold State.cycleStart
  rw [State.gridCheck_done hc hg]
  extract_lets u x k
  have hx : x.active = false := hstop
  rw [show u.cycle = some c from hc]
  dsimp only
  rw [show u.tlMayRun n = true from hrun, hx]
  rfl

theorem State.cycleStart_barred (hc : s.cycle = some c) (hg : s.gridK = some (c.index s.ns))
    (hrun : s.tlMayRun n = false) : s.cycleStart n = s := by
  unfold State.cycleStart
  rw [State.gridCheck_done hc hg]
  extract_lets u x k
  rw [show u.cycle = some c from hc]
  dsimp only
  rw [show u.tlMayRun n = false from hrun]
  rfl

theorem State.followPhase_within (hx : s.sched n = some x) {phi : Int} (h : phi.natAbs ≤ x.followTol) :
    s.followPhase n phi = s.setTl n { s.tl n with synced := true } := by
  unfold State.followPhase
  extract_lets y tol
  have htol : tol = x.followTol := by
    show ((s.sched n).map (·.followTol)).getD 0 = _
    rw [hx]
    rfl
  rw [htol, if_pos h]

/-- A reference within the tolerance gives a running follower its cycle and its phase (R471). -/
theorem State.referenceReceived_follows (hc : s.cycle = some c) (hx : s.sched n = some x) {age : Nat}
    (hrun : s.tlMayRun n = true) (hactive : (s.tl n).active = true) (hrole : x.role = .follower)
    (hacting : (s.tl n).acting = false)
    (htol : ((s.sofNs n age : Int) - c.nominal ((s.sofNs n age + c.period / 2 - c.phase) / c.period)).natAbs ≤
      x.followTol) :
    let sof := s.sofNs n age
    let k := (sof + c.period / 2 - c.phase) / c.period
    let y := (s.referenceReceived n x.refId age).tl n
    y.active = true ∧ y.k = k ∧ y.start = sof ∧ y.phase = (sof : Int) - c.nominal k ∧ y.synced = true ∧
    y.refSeen = true := by
  intro sof k
  generalize hphi : (sof : Int) - c.nominal k = phi
  generalize hv : s.startCycle n k sof phi false true = v
  have hfollower : s.isFollower n = true := by
    simp [State.isFollower, hx, hrole, hacting]
  have heq : s.referenceReceived n x.refId age =
      (v.upTl n fun t => { t with refSeen := true, refMissed := false }).followPhase n phi := by
    unfold State.referenceReceived
    rw [hc, hx]
    dsimp -zeta only
    extract_lets t u phi' v'
    have hu : u = s := if_neg (by simp [show t.acting = false from hacting])
    have hphi' : phi' = phi := hphi
    have hv' : v' = v := by
      show u.startCycle n k sof phi' false true = v
      rw [hu, hphi', hv]
    rw [if_neg (by simp [hrun, show t.active = true from hactive, hrole]), if_pos (by rw [hu]; exact hfollower), hphi',
      hv']
  obtain ⟨hact, hk, hstart, hphase, -, -, hscheds, -⟩ := s.startCycle_effect n k sof phi false true
  rw [hv] at hact hk hstart hphase hscheds
  generalize hw : (v.upTl n fun t => { t with refSeen := true, refMissed := false }) = w at heq
  have hwtl : w.tl n = { v.tl n with refSeen := true, refMissed := false } := by
    rw [← hw]
    exact State.tl_setTl_self ..
  have hwsched : w.sched n = some x := by
    rw [State.sched, ← hw]
    show v.scheds.get (fun _ => none) n = some x
    rw [hscheds]
    exact hx
  rw [heq, State.followPhase_within hwsched (by rw [← hphi]; exact htol), State.tl_setTl_self, hwtl]
  exact ⟨hact, hk, hstart, hphase, rfl, rfl⟩

theorem State.referenceReceived_foreign (hx : s.sched n = some x) {i age : Nat} (hi : i / 8 ≠ x.refId / 8) :
    s.referenceReceived n i age = s := by
  rw [State.referenceReceived, hx]
  cases s.cycle with
  | none => rfl
  | some c => exact if_pos (by simp [hi])

/-- A backup whose delay is over sends in place of the master (R473). -/
theorem State.backupTakeover_acts (hc : s.cycle = some c) (hx : s.sched n = some x)
    (hactive : (s.tl n).active = true) (hrole : x.role = .backup) (hacting : (s.tl n).acting = false)
    (hseen : (s.tl n).refSeen = false) (hdue : c.nominal (s.tl n).k + x.backupDelay ≤ s.ns) :
    let t := s.backupTakeover n
    (t.tl n).acting = true ∧ (t.tl n).start = c.nominal (s.tl n).k + x.backupDelay ∧
    (t.tl n).phase = x.backupDelay ∧ t.rb Blk.cyc.evtOff 4 = true := by
  generalize hv : (s.upTl n fun t => { t with acting := true }).raise .cyc 4 n 0 = v
  have hvtl : v.tl n = { s.tl n with acting := true } := by
    rw [← hv, State.tl_raise]
    exact State.tl_setTl_self ..
  have hvevent : v.rb Blk.cyc.evtOff 4 = true := by
    rw [← hv]
    exact State.rb_raise_self _ _ _ _ (by decide)
  have heq : s.backupTakeover n =
      v.startCycle n (s.tl n).k (c.nominal (s.tl n).k + x.backupDelay) x.backupDelay true false := by
    rw [State.backupTakeover, hc, hx, ← hv]
    exact if_neg (by simp [hactive, hrole, hacting, hseen, hdue])
  obtain ⟨-, -, hstart, hphase, hact, -, -, hevents⟩ :=
    v.startCycle_effect n (s.tl n).k (c.nominal (s.tl n).k + x.backupDelay) x.backupDelay true false
  rw [heq]
  exact ⟨by rw [hact, hvtl], hstart, hphase, hevents 4 hvevent⟩

theorem State.backupTakeover_idle (hx : s.sched n = some x) (h : (s.tl n).active = false ∨ x.role ≠ .backup) :
    s.backupTakeover n = s := by
  rw [State.backupTakeover, hx]
  cases s.cycle with
  | none => rfl
  | some c =>
    refine if_pos ?_
    rcases h with h | h <;> simp [h]

end

/-! ### Windows (R475 to R477) -/

theorem Placed.move_zero (w : Placed) : w.move 0 = w := rfl

theorem Placed.map_move_self (a : Nat) (ws : List Placed) : ws.map (Placed.move (a - a)) = ws := by
  rw [Nat.sub_self]
  exact List.map_id' ws

section
variable {s : State} {n : Nat} {c : CycleCfg} {w : Placed} {rest : List Placed}

theorem State.windowStart_none (h : (s.tl n).active = false) : s.windowStart n = s := by
  rw [State.windowStart]
  rw [h]

theorem State.windowEnd_none (h : (s.tl n).active = false) : s.windowEnd n = s := by
  rw [State.windowEnd]
  rw [h]

theorem State.windowStart_early (hr : (s.tl n).rest = w :: rest) (h : s.ns < w.start) : s.windowStart n = s := by
  rw [State.windowStart]
  rw [hr]
  cases (s.tl n).active <;> cases (s.tl n).current
  case true.none => exact if_pos (by simp [h])
  all_goals rfl

theorem State.windowEnd_early (hw : (s.tl n).current = some w) (h : s.ns < w.stop) : s.windowEnd n = s := by
  rw [State.windowEnd]
  rw [hw]
  cases (s.tl n).active with
  | false => rfl
  | true => exact if_pos (by simp [h])

/-- An arbitration window starts at its placed start: lateness is judged, and what falls in an outage is skipped. -/
theorem State.windowStart_arbitration (ha : (s.tl n).active = true) (hc : (s.tl n).current = none)
    (hr : (s.tl n).rest = w :: rest) (htype : w.win.type = .arbitration) (hs : w.start ≤ s.ns) :
    s.windowStart n = ((s.setTl n { s.tl n with current := some w, rest := rest, taskOpen := false }).judgeLate n false
      w.start).skipWindow n w := by
  have hloose : w.fixed = false := by simp [Placed.fixed, htype]
  have hstart : s.windowStart n = s.beginWindow n w.start w rest := by
    rw [State.windowStart]
    rw [ha, hc, hr]
    dsimp only
    rw [if_neg (by simp [hloose, hs]), hloose, if_neg Bool.false_ne_true]
  rw [hstart, State.beginWindow]
  dsimp only
  rw [State.windowEffect, htype, Placed.map_move_self, Nat.sub_self, Placed.move_zero]
  rfl

theorem State.skipWindow_gap (hi : w.index = 0xFF) : s.skipWindow n w = s := if_neg (by simp [hi])

theorem State.judgeLate_gap (hw : (s.tl n).current = some w) (hi : w.index = 0xFF) (atEnd : Bool) (moment : Nat) :
    s.judgeLate n atEnd moment = s := by
  rw [State.judgeLate]
  dsimp only
  rw [hw]
  cases s.cycle with
  | none => rfl
  | some c => exact if_pos (by simp [hi])

/-- A window seen late for the first time, the first of its cycle. -/
theorem State.judgeLate_first (hcycle : s.cycle = some c) (hw : (s.tl n).current = some w) (hi : w.index ≠ 0xFF)
    (hseen : w.index ∉ (s.tl n).lateSeen) (hex : (s.tl n).exempt = false)
    (hlate : c.nominal (s.tl n).k + w.win.offset < w.start) :
    s.judgeLate n false w.start =
      (s.setTl n { s.tl n with lateSeen := w.index :: (s.tl n).lateSeen }).countLate n w := by
  rw [State.judgeLate]
  dsimp only
  rw [hcycle, hw]
  exact if_neg (by simp [hi, hseen, hex, hlate])

/-- The first late window of a cycle counts and raises its event. -/
theorem State.countLate_first (h : (s.tl n).lateRaised = false) :
    (s.countLate n w).tl n = { s.tl n with lateRaised := true } ∧ Raised .cyc 0 s (s.countLate n w) ∧
    (s.countLate n w).rd (0xA408 + 0x20 * n) =
      wd (satAdd (2 ^ 32 - 1) (s.rd (0xA408 + 0x20 * n)).toNat 1) := by
  have hevt : 0xA408 + 0x20 * n ≠ Blk.cyc.evtOff := by
    show _ ≠ 0xA020
    omega
  unfold State.countLate
  extract_lets x u cc
  have hux : u.tl n = x := State.tl_countTl ..
  have hcounted : u.rd (0xA408 + 0x20 * n) = wd (satAdd (2 ^ 32 - 1) (s.rd (0xA408 + 0x20 * n)).toNat 1) :=
    (State.rd_countTl ..).trans (if_pos rfl)
  have hrd (o : Nat) (ho : o ≠ 0xA408 + 0x20 * n) : u.rd o = s.rd o := (State.rd_countTl ..).trans (if_neg ho)
  clear_value u
  have hraised : x.lateRaised = false := h
  rw [hraised, if_neg Bool.false_ne_true]
  refine ⟨?_, ?_, ?_⟩
  · rw [State.tl_raise, State.tl_setTl_self]
  · rw [Raised, State.rd_raise, if_pos rfl]
    exact congrArg (· ||| wd (2 ^ 0)) (hrd _ (Ne.symm hevt))
  · rw [State.rd_raise, if_neg hevt]
    exact hcounted

theorem State.skipWindow_effect (s : State) (n : Nat) (w : Placed) : (s.skipWindow n w).timelines = s.timelines ∧
    ∀ o, o ≠ 0xA408 + 0x20 * n + 4 * 3 → (s.skipWindow n w).rd o = s.rd o := by
  unfold State.skipWindow
  split
  · exact ⟨by simp [State.countTl], fun o ho => (State.rd_countTl ..).trans (if_neg ho)⟩
  · exact ⟨rfl, fun _ _ => rfl⟩

/-- An arbitration window that starts late, the first of its cycle (R477). -/
theorem State.windowStart_late (hcycle : s.cycle = some c) (ha : (s.tl n).active = true)
    (hc : (s.tl n).current = none) (hr : (s.tl n).rest = w :: rest) (htype : w.win.type = .arbitration)
    (hi : w.index ≠ 0xFF) (hseen : w.index ∉ (s.tl n).lateSeen) (hex : (s.tl n).exempt = false) (hs : w.start ≤ s.ns)
    (hlate : c.nominal (s.tl n).k + w.win.offset < w.start) (hraised : (s.tl n).lateRaised = false) :
    let u := s.windowStart n
    (u.tl n).current = some w ∧ (u.tl n).lateSeen = w.index :: (s.tl n).lateSeen ∧ (u.tl n).rest = rest ∧
    (u.tl n).lateRaised = true ∧ Raised .cyc 0 s u ∧
    u.rd (0xA408 + 0x20 * n) = wd (satAdd (2 ^ 32 - 1) (s.rd (0xA408 + 0x20 * n)).toNat 1) := by
  intro u
  generalize hy : { s.tl n with current := some w, rest := rest, taskOpen := false } = y
  have hself : (s.setTl n y).tl n = y := State.tl_setTl_self ..
  have hu : u = (((s.setTl n y).setTl n { y with lateSeen := w.index :: y.lateSeen }).countLate n w).skipWindow n w := by
    rw [show u = s.windowStart n from rfl, State.windowStart_arbitration ha hc hr htype hs, hy,
      State.judgeLate_first (s := s.setTl n y) hcycle (by rw [hself, ← hy]) hi (by rw [hself, ← hy]; exact hseen)
        (by rw [hself, ← hy]; exact hex) (by rw [hself, ← hy]; exact hlate), hself]
  generalize hv : (s.setTl n y).setTl n { y with lateSeen := w.index :: y.lateSeen } = v at hu
  have hvtl : v.tl n = { y with lateSeen := w.index :: y.lateSeen } := by
    rw [← hv]
    exact State.tl_setTl_self ..
  have hvrd (o : Nat) : v.rd o = s.rd o := by
    rw [← hv]
    rfl
  obtain ⟨htl, hevent, hcount⟩ := State.countLate_first (s := v) (n := n) (w := w) (by rw [hvtl, ← hy]; exact hraised)
  obtain ⟨htls, hrd⟩ := State.skipWindow_effect (v.countLate n w) n w
  have hutl : u.tl n = { v.tl n with lateRaised := true } := by
    rw [hu, State.tl_congr htls, htl]
  refine ⟨?_, ?_, ?_, ?_, ?_, ?_⟩
  · rw [hutl, hvtl, ← hy]
  · rw [hutl, hvtl, ← hy]
  · rw [hutl, hvtl, ← hy]
  · rw [hutl]
  · rw [Raised] at hevent ⊢
    rw [hu, hrd _ (by show (0xA020 : Nat) ≠ _; omega), hevent, hvrd]
  · rw [hu, hrd _ (by omega), hcount, hvrd]

/-- An implicit gap is never late. -/
theorem State.windowStart_gap (ha : (s.tl n).active = true) (hc : (s.tl n).current = none)
    (hr : (s.tl n).rest = w :: rest) (htype : w.win.type = .arbitration) (hi : w.index = 0xFF) (hs : w.start ≤ s.ns) :
    s.windowStart n = s.setTl n { s.tl n with current := some w, rest := rest, taskOpen := false } := by
  rw [State.windowStart_arbitration ha hc hr htype hs, State.skipWindow_gap hi,
    State.judgeLate_gap (w := w) (by rw [State.tl_setTl_self]) hi]

/-- An implicit gap that ends on its edge, the line idle. -/
theorem State.windowEnd_gap (hn : n < 40) (ha : (s.tl n).active = true) (hc : (s.tl n).current = some w)
    (htype : w.win.type = .arbitration) (hi : w.index = 0xFF) (hidle : (s.lane n).ctl = .idle) (hs : w.stop ≤ s.ns)
    (hedge : s.ns < w.stop + 7) :
    s.windowEnd n = s.setTl n { s.tl n with current := none, notBefore := w.stop, taskOpen := false } := by
  have hopen : s.windowHeld n = false := by
    rw [State.windowHeld, if_pos hn, hidle]
  have hend : s.windowEnd n = s.endWindow n w.stop w := by
    rw [State.windowEnd]
    rw [ha, hc]
    dsimp only
    rw [if_neg (by simp [hopen, hs]), State.dueAt, if_pos hedge]
  rw [hend, State.endWindow_of_ne_reference _ _ _ (by rw [htype]; decide), State.judgeLate_gap hc hi, State.upTl,
    Placed.map_move_self]

theorem State.windowEnd_held (hn : n < 40) (ha : (s.tl n).active = true) (hc : (s.tl n).current = some w)
    (hrx : (s.lane n).ctl = .receiving) : s.windowEnd n = s := by
  have hheld : s.windowHeld n = true := by
    rw [State.windowHeld, if_pos hn, hrx]
  rw [State.windowEnd]
  rw [ha, hc]
  exact if_pos (by simp [hheld])

end

/-! ### Triggers (R464) -/

section
variable {s : State} {n : Nat} {w : Placed}

theorem State.exclusiveTrigger_none (h : (s.tl n).rest = []) (i : Nat) : s.exclusiveTrigger n i = s := by
  rw [State.exclusiveTrigger]
  dsimp only
  rw [h]
  rfl

theorem State.triggerStatic_ready {i : Nat} {s : State} (hst : (s.desc i).state = .idle)
    (hctl : (s.lane (s.desc i).bindIndex).ctl ≠ .quiet) (hre : s.reconf ((s.desc i).bindIndex / 10) = false) :
    s.triggerStatic i = (true, (s.triggerStatic i).2) := by
  simp [State.triggerStatic, hst, hctl, hre]

/-- The trigger of a channel in service makes its idle descriptor READY for its window. -/
theorem State.exclusiveTrigger_ready (hn : n < 40) (ha : (s.tl n).active = true) (hr : (s.tl n).rest = [w])
    (htype : w.win.type = .exclusive) (href : w.win.ref ≠ 0xFFFF) (htr : (s.tl n).triggered = [])
    (hdue : w.start ≤ s.ns + 2000) (hout : s.outage n = false) (hblocked : s.blocked n = false)
    (hfollow : s.isFollower n = false) (hidle : (s.desc w.win.ref).state = .idle)
    (hbind : (s.desc w.win.ref).bindIndex = n) (hre : s.reconf (n / 10) = false) (htaken : s.takenOver n = false) :
    let u := s.exclusiveTrigger n w.index
    (u.tl n).triggered = [w.index] ∧ (u.desc w.win.ref).state = .ready ∧
    (u.desc w.win.ref).job.launch = some (w.start * 2 ^ 16) ∧ (u.desc w.win.ref).job.window = some w.win ∧
    (u.lane n).ready = (s.lane n).ready ++ [w.win.ref] := by
  intro u
  generalize hv : s.setTl n { s.tl n with triggered := [w.index] } = v
  have hvtl : v.tl n = { s.tl n with triggered := [w.index] } := by
    rw [← hv]
    exact State.tl_setTl_self ..
  have hvdesc : v.desc w.win.ref = s.desc w.win.ref := by rw [← hv]; rfl
  have hvlane (m : Nat) : v.lane m = s.lane m := by rw [← hv]; rfl
  have hvout : v.outage n = false := by rw [← hout, ← hv]; rfl
  have hvblocked : v.blocked n = false := by rw [← hblocked, ← hv]; rfl
  have hvtaken : v.takenOver n = false := by rw [← htaken, ← hv]; rfl
  have hvreconf : v.reconf (n / 10) = false := by rw [← hre, ← hv]; rfl
  have hvfollow : v.isFollower n = false := by
    rw [← hfollow, State.isFollower, State.isFollower, hvtl, show v.sched n = s.sched n by rw [← hv]; rfl]
  have hctl : (v.lane n).ctl ≠ .quiet := by
    rw [State.outage, if_pos hn] at hvout
    simpa using hvout
  have hready := State.triggerStatic_ready (s := v) (i := w.win.ref) (by rw [hvdesc, hidle])
    (by rw [hvdesc, hbind]; exact hctl) (by rw [hvdesc, hbind]; exact hvreconf)
  have hstate := State.triggerStatic_idle (s := v) (i := w.win.ref) (by rw [hvdesc, hidle])
    (by rw [hvdesc, hbind]; exact hctl) (by rw [hvdesc, hbind]; exact hvreconf)
  rw [hvdesc, hbind, hvlane] at hstate
  generalize (v.triggerStatic w.win.ref).2 = z at hready hstate
  have hu : u = z.setDesc w.win.ref { z.desc w.win.ref with
      job := { TxJob.none with launch := some (w.start * 2 ^ 16), window := some w.win } } := by
    have hfind : [w].find? (fun v => v.index == w.index && v.win.type == .exclusive) = some w := by
      simp [htype]
    show s.exclusiveTrigger n w.index = _
    unfold State.exclusiveTrigger
    extract_lets x v'
    rw [show x.rest = [w] from hr, hfind]
    dsimp -zeta only
    have hx : x.triggered = [] := htr
    rw [hx, if_neg (by simp [show x.active = true from ha, href, hdue])]
    have hv' : v' = v := by
      show s.setTl n { x with triggered := w.index :: x.triggered } = v
      rw [hx, ← hv]
    rw [hv', hvdesc, hidle, hvtaken, hvout, hvblocked, hvfollow, hready]
    rfl
  have hz : (z.desc w.win.ref).state = .ready := by
    rw [hstate]
    exact congrArg Desc.state ((State.desc_setDesc ..).trans (if_pos rfl))
  have hself (y : Desc) : (z.setDesc w.win.ref y).desc w.win.ref = y := (State.desc_setDesc ..).trans (if_pos rfl)
  refine ⟨?_, ?_, ?_, ?_, ?_⟩
  · rw [hu, hstate]
    exact congrArg Timeline.triggered hvtl
  · rw [hu, hself, ← hz]
  · rw [hu, hself]
  · rw [hu, hself]
  · rw [hu, hstate]
    exact congrArg BusLane.ready ((State.lane_setLane ..).trans (if_pos rfl))

end

/-! ### Periods (R208) -/

/-- What every value after a function and every default has, every value of the mapped table has. -/
theorem Tbl.get_mapv_of {α : Type} [DecidableEq α] {P : α → Prop} {d : Nat → α} {f : α → α} (hd : ∀ k, P (d k))
    (hf : ∀ v, P (f v)) (t : Tbl α) (k : Nat) : P ((t.mapv d f).get d k) := by
  induction t with
  | nil => exact hd k
  | cons e t ih =>
    obtain ⟨j, v⟩ := e
    rw [Tbl.mapv]
    split
    · exact ih
    · rw [Tbl.get]
      split
      · exact hf v
      · exact ih

/-- What one turn of a loop gives and every other keeps, the loop gives. -/
theorem State.each_of_mem {α : Type} {P : State → Prop} {f : α → State → State} {a : α} {l : List α} (ha : a ∈ l)
    (hself : ∀ u, P (f a u)) (hkeep : ∀ b u, P u → P (f b u)) (s : State) : P (s.each l f) := by
  obtain ⟨l₁, l₂, rfl⟩ := List.append_of_mem ha
  have hsplit : s.each (l₁ ++ a :: l₂) f = (f a (s.each l₁ f)).each l₂ f := by
    rw [State.each, List.foldl_append]
    rfl
  rw [hsplit]
  exact State.each_induct hkeep l₂ (hself _)

/-- Channel `m`'s slots have no clash run. -/
def State.clashFree (m : Nat) (s : State) : Prop := ∀ y ∈ (s.lane m).slots, y.clashRun = 0

theorem State.clashFree_clearClash (m : Nat) (s : State) : (s.clearClash m).clashFree m := by
  intro y hy
  rw [State.clearClash, State.lane_upLane, if_pos rfl] at hy
  obtain ⟨x, -, rfl⟩ := List.mem_map.1 hy
  rfl

theorem State.clashFree_clearClash_of (m b : Nat) (s : State) (h : s.clashFree m) : (s.clearClash b).clashFree m := by
  by_cases hb : m = b
  · rw [hb]
    exact State.clashFree_clearClash b s
  · intro y hy
    rw [State.clearClash, State.lane_upLane, if_neg hb] at hy
    exact h y hy

theorem State.newPeriod_clashFree {m : Nat} (hm : m < 40) (s : State) : s.newPeriod.clashFree m := by
  have hu := State.each_of_mem (P := State.clashFree m) (f := State.clearClash) (List.mem_range.2 hm)
    (State.clashFree_clearClash m) (State.clashFree_clearClash_of m) s
  have hbus : s.newPeriod.bus = (s.each (List.range 40) State.clearClash).bus := by
    unfold State.newPeriod
    generalize s.each (List.range 40) State.clearClash = u
    rfl
  rw [State.clashFree, State.lane_of_bus_eq hbus]
  exact hu

theorem State.newPeriod_ports (p : Nat) (s : State) : (s.newPeriod.port p).lateRaised = false :=
  Tbl.get_mapv_of (P := fun x : Port => x.lateRaised = false) (fun _ => rfl) (fun _ => rfl) _ p

theorem State.newPeriod_timelines (m : Nat) (s : State) : (s.newPeriod.tl m).lateRaised = false :=
  Tbl.get_mapv_of (P := fun x : Timeline => x.lateRaised = false) (fun _ => rfl) (fun _ => rfl) _ m

theorem State.beaconMs_cycle {s : State} {c : CycleCfg} (h : s.cycle = some c) : s.beaconMs = s := by
  rw [State.beaconMs, h]
  rfl

theorem State.beaconMs_period {s : State} (h : s.cycle = none) : s.beaconMs = s.newPeriod := by
  rw [State.beaconMs, h]
  rfl

end Sys2Proof.Machine

section
open Sys2Proof Sys2Proof.Machine

/-- Settles O53: what a cycle start, a reference and a takeover set stays through the first window's start, which moves
only what windows have. -/
theorem cycleAndWindows : Obligations.CycleAndWindows := by
  unfold Obligations.CycleAndWindows
  intro s n age c x hcycle hsched hn t k
  refine ⟨?_, ?_, ?_, ?_, ?_, ?_, ?_, ?_, ?_, ?_, ?_, ?_, ?_, ?_, ?_, ?_, ?_, ?_⟩
  case _ =>
    intro hrun hstop hphase hgrid hedge
    refine ⟨_, congrArg Host.Outcome.next (State.cycleStart_stopped hcycle hgrid hrun hstop), ?_⟩
    have hnow : s.nominalNow c = some k := if_pos (by simpa using ⟨hphase, hedge⟩)
    rw [hnow]
    obtain ⟨hactive, hk, hstart, hphi, -, hothers, -, -⟩ := s.startCycle_effect n k (c.nominal k) 0 false false
    exact ⟨hactive, hk, hstart, hphi, hothers⟩
  case _ =>
    intro hrun hstop hgrid hlate
    refine congrArg Host.Outcome.next ((State.cycleStart_stopped hcycle hgrid hrun hstop).trans ?_)
    have hnow : s.nominalNow c = none := if_neg (by simpa using fun _ => hlate)
    rw [hnow]
  case _ => exact fun hrun hgrid => congrArg Host.Outcome.next (State.cycleStart_barred hcycle hgrid hrun)
  case _ =>
    intro w rest ha hc hr htype hi hseen hex hs hlate hraised
    exact ⟨_, rfl, State.windowStart_late hcycle ha hc hr htype hi hseen hex hs hlate hraised⟩
  case _ =>
    intro w rest ha hc hr htype hi hs
    exact congrArg Host.Outcome.next (State.windowStart_gap ha hc hr htype hi hs)
  case _ => exact fun w rest hr hs => congrArg Host.Outcome.next (State.windowStart_early hr hs)
  case _ => exact fun w hw hs => congrArg Host.Outcome.next (State.windowEnd_early hw hs)
  case _ =>
    intro ha
    exact ⟨congrArg Host.Outcome.next (State.windowStart_none ha), congrArg Host.Outcome.next (State.windowEnd_none ha)⟩
  case _ =>
    intro w ha hc htype hi hidle hs hedge
    exact congrArg Host.Outcome.next (State.windowEnd_gap hn ha hc htype hi hidle hs hedge)
  case _ => exact fun w ha hc hrx => congrArg Host.Outcome.next (State.windowEnd_held hn ha hc hrx)
  case _ =>
    intro w ha hr htype href htr hdue hout hblocked hfollow hkind hidle hbind hre htaken
    refine ⟨_, rfl, ?_⟩
    exact State.exclusiveTrigger_ready hn ha hr htype href htr hdue hout hblocked hfollow hidle hbind hre htaken
  case _ => exact fun i hr => congrArg Host.Outcome.next (State.exclusiveTrigger_none hr i)
  case _ =>
    intro hrun hactive hrole hacting sof kk phi htol
    exact ⟨_, rfl, State.referenceReceived_follows hcycle hsched hrun hactive hrole hacting htol⟩
  case _ => exact fun i hi => congrArg Host.Outcome.next (State.referenceReceived_foreign hsched hi)
  case _ =>
    intro hactive hrole hacting hseen hdue
    exact ⟨_, rfl, State.backupTakeover_acts hcycle hsched hactive hrole hacting hseen hdue⟩
  case _ => exact fun h => congrArg Host.Outcome.next (State.backupTakeover_idle hsched h)
  case _ => exact congrArg Host.Outcome.next (State.beaconMs_cycle hcycle)
  case _ =>
    intro v hv
    refine ⟨_, congrArg Host.Outcome.next (State.beaconMs_period hv), rfl, rfl, ?_, ?_, ?_⟩
    · exact fun p => State.newPeriod_ports p v
    · exact fun m => State.newPeriod_timelines m v
    · exact fun m hm => State.newPeriod_clashFree hm v

end

namespace Sys2Proof.Machine
open Sys2Proof

/-! ### Keeper's stores (R651) -/

/-- The state in which the running store `o`, the only one, has left its object. -/
def State.stored (o : KOp) (s : State) : State :=
  s.upKeeper fun k => o.apply s.healthRec { k with ops := [], running := false }

theorem State.keeper_stored_firmware (fw : Firmware) (u : Bool) (s : State) : (s.stored (.firmware fw u)).keeper =
    if s.keeper.runsB then { s.keeper with ops := [], running := false, fwA := some fw, activeB := false }
    else { s.keeper with ops := [], running := false, fwB := some fw, activeB := true } := rfl

section
variable {s : State}

theorem State.keeperStart_idle (h : s.keeper.ops = []) : s.keeperStart = s := if_pos (by simp [h])

/-- The only store ends, and none starts. -/
theorem State.storeDone_start {o : KOp} (h : (s.stored o).keeper.ops = []) : (s.stored o).keeperStart = s.stored o :=
  State.keeperStart_idle h

theorem State.storeDone_policy {a : Bool} {q : Nat} (ho : s.keeper.ops = [.policy a q])
    (hr : s.keeper.running = true) : s.storeDone = (s.stored (.policy a q)).endUpdate uPolicy kOk := by
  rw [State.storeDone, ho]
  dsimp only
  rw [hr, Bool.not_true, if_neg Bool.false_ne_true]
  exact congrArg (State.endUpdate uPolicy kOk) (State.storeDone_start (o := .policy a q) rfl)

theorem State.storeDone_erase {c v : Nat} (ho : s.keeper.ops = [.erase c v]) (hr : s.keeper.running = true) :
    s.storeDone = (s.stored (.erase c v)).endUpdate uErase kOk := by
  rw [State.storeDone, ho]
  dsimp only
  rw [hr, Bool.not_true, if_neg Bool.false_ne_true]
  exact congrArg (State.endUpdate uErase kOk) (State.storeDone_start (o := .erase c v) rfl)

theorem State.storeDone_firmware {fw : Firmware} {u : Bool} (ho : s.keeper.ops = [.firmware fw u])
    (hr : s.keeper.running = true) :
    s.storeDone = ((s.stored (.firmware fw u)).setUntested u).endUpdate uFirmware kOk := by
  have hidle : (s.stored (.firmware fw u)).keeper.ops = [] := by
    rw [State.keeper_stored_firmware]
    split <;> rfl
  rw [State.storeDone, ho]
  dsimp only
  rw [hr, Bool.not_true, if_neg Bool.false_ne_true]
  exact congrArg (fun v : State => (v.setUntested u).endUpdate uFirmware kOk) (State.storeDone_start hidle)

theorem State.storeDone_lifecycle {tg : Lifecycle} (ho : s.keeper.ops = [.lifecycle tg])
    (hr : s.keeper.running = true) (hidle : (s.stored (.lifecycle tg)).keeper.ops = []) :
    s.storeDone = (((s.stored (.lifecycle tg)).endUpdate uLifecycle kOk).closeSession).enterMode .bringUp := by
  rw [State.storeDone, ho]
  dsimp only
  rw [hr, Bool.not_true, if_neg Bool.false_ne_true]
  exact congrArg (fun v : State => ((v.endUpdate uLifecycle kOk).closeSession).enterMode .bringUp)
    (State.storeDone_start hidle)

theorem State.storeDone_waiting (hr : s.keeper.running = false) : s.storeDone = s := by
  rw [State.storeDone]
  cases s.keeper.ops with
  | nil => rfl
  | cons o rest => exact if_pos (by simp [hr])

theorem State.keeper_raise (b : Blk) (i unit info : Nat) (s : State) : (s.raise b i unit info).keeper = s.keeper := by
  simp

/-- An update that ends OK tells so (R649). -/
theorem State.endUpdate_ok (kind : Nat) (s : State) :
    (s.endUpdate kind kOk).keeper = { s.keeper with done := true, code := 0 } ∧
    Raised .kpr 0 s (s.endUpdate kind kOk) := by
  have heq : s.endUpdate kind kOk = (s.upKeeper fun k => { k with done := true, code := kOk }).kprEvent 0 kOk := by
    unfold State.endUpdate
    extract_lets u v
    exact congrArg (State.kprEvent 0 kOk) (if_neg fun h => h.1 rfl)
  rw [heq]
  exact ⟨State.keeper_raise .., (State.rd_raise ..).trans (if_pos rfl)⟩

theorem State.keeper_setUntested (b : Bool) (s : State) :
    (s.setUntested b).keeper = { s.keeper with untested := b } := by
  cases b with
  | false => rfl
  | true => exact State.keeper_raise ..

/-! ### A session ends (R640) -/

/-- Every engine that `keys` lists is released; one not listed stays as it is. -/
theorem State.closeSession_effect {x : Session} (h : s.keeper.session = some x) :
    s.closeSession.keeper = { s.keeper with session := none } ∧ (∀ g, (s.closeSession.eng g).dbgHalt = false) ∧
    Raised .kpr 2 s s.closeSession := by
  generalize hu : { s with keeper := { s.keeper with session := none } } = u
  generalize hv : u.each u.engines.keys (fun g s => s.upEng g fun e => { e with dbgHalt := false }) = v
  have heq : s.closeSession = v.raise .kpr 2 0 0 := by
    rw [State.closeSession, h, ← hv, ← hu]
    rfl
  have hkept : Kept 0x100000000000 u v := by
    rw [← hv]
    exact Kept.each _ _ (fun g w => State.upEng_k g _ w rfl (Kept.refl _ w)) (Kept.refl _ u)
  have hrelease (g : Nat) (w : State) : ((w.upEng g fun e => { e with dbgHalt := false }).eng g).dbgHalt = false := by
    rw [State.eng_upEng_self]
  have hkeep (g k : Nat) (w : State) (hw : (w.eng g).dbgHalt = false) :
      ((w.upEng k fun e => { e with dbgHalt := false }).eng g).dbgHalt = false := by
    rw [State.eng_upEng]
    split
    · rfl
    · exact hw
  have hfree (g : Nat) : (v.eng g).dbgHalt = false := by
    rw [← hv]
    by_cases hg : g ∈ u.engines.keys
    · exact State.each_of_mem (P := fun w => (w.eng g).dbgHalt = false) hg (hrelease g) (hkeep g) u
    · refine State.each_induct (P := fun w => (w.eng g).dbgHalt = false) (hkeep g) _ ?_
      rcases Tbl.get_mem_or_default (fun _ => Engine.unused) u.engines g with hmem | hdefault
      · exact absurd (List.mem_map.2 ⟨_, hmem, rfl⟩) hg
      · exact congrArg Engine.dbgHalt hdefault
  refine ⟨?_, fun g => ?_, ?_⟩
  · rw [heq, State.keeper_raise, hkept.same .keeper rfl, ← hu]
  · rw [heq]
    rcases State.raise_noted .kpr 2 0 0 v g with hg | hg <;> rw [hg] <;> exact hfree g
  · rw [Raised, heq, State.rd_raise, if_pos rfl, State.rd_of_kept hkept rfl, ← hu]
    rfl

theorem State.closeSession_session (s : State) : s.closeSession.keeper.session = none := by
  cases h : s.keeper.session with
  | none => rw [State.closeSession, h]; exact h
  | some x => rw [(State.closeSession_effect h).1]

/-! ### A change of lifecycle enters BRING-UP (R635) -/

theorem State.mode_begin_ (c : Cmd) (s : State) : (s.begin_ c).2.mode = s.mode := by
  have hrespond (st d : Nat) (u : State) : (u.respond c st d).mode = u.mode :=
    congrArg ModeCtl.mode ((State.respond_k (m := 0x201000bc000000) c st d u rfl (Kept.refl _ u)).same .ctl rfl)
  unfold State.begin_
  split
  · exact hrespond ..
  · split
    · rw [hrespond]
      exact congrArg ModeCtl.mode
        ((State.modRecord_k (m := 0x2010003c000000) 1 c.opcode _ s rfl (Kept.refl _ s)).same .ctl rfl)
    · split
      · exact hrespond ..
      · rfl

theorem State.mode_settle (s : State) : s.settle.mode = s.mode := by
  have hnext (cs : List Cmd) (u : State) : (State.beginNext cs u).mode = u.mode := by
    induction cs generalizing u with
    | nil => rfl
    | cons c cs ih =>
      rw [State.beginNext]
      have hbegin := State.mode_begin_ c u
      generalize u.begin_ c = r at hbegin
      obtain ⟨go, v⟩ := r
      cases go with
      | false => exact (ih v).trans hbegin
      | true => exact hbegin
  unfold State.settle
  split
  · rfl
  · exact hnext ..

/-- The end of the module's work leaves Keeper's lifecycle. -/
theorem State.lifecycle_abortWork (s : State) : s.abortWork.keeper.lifecycle = s.keeper.lifecycle ∧
    s.abortWork.keeper.lifeCount = s.keeper.lifeCount := by
  have hrespond (c : Cmd) (u : State) : (u.respond c cAborted 0).keeper = u.keeper :=
    (State.respond_k (m := 0x201000bc000000) c cAborted 0 u rfl (Kept.refl _ u)).same .keeper rfl
  unfold State.abortWork
  extract_lets s1 keep kept s2
  have h1 : s1.keeper = s.keeper := by
    unfold s1
    split
    · exact (State.resetWindows_k (m := 0x2953F67FF0FFD8) 4 _ rfl
        (State.dropStructure_k false s rfl (Kept.refl _ s))).same .keeper rfl
    · refine State.each_same State.keeper _ (fun c u => ?_) s
      exact State.ite_same State.keeper
        ((State.dropCluster_k (m := 0x1539400708818) c u rfl (Kept.refl _ u)).same .keeper rfl)
  have h2 : s2.keeper.lifecycle = s.keeper.lifecycle ∧ s2.keeper.lifeCount = s.keeper.lifeCount := by
    refine ⟨?_, ?_⟩
    · show s1.keeper.lifecycle = s.keeper.lifecycle
      rw [h1]
    · show s1.keeper.lifeCount = s.keeper.lifeCount
      rw [h1]
  clear_value s2
  split
  · rw [hrespond]
    exact h2
  · exact h2

theorem State.keeper_coldReset (m : Mode) (s : State) : (s.coldReset m).keeper =
    { s.keeper with session := none, ops := [], running := false, copied := none } := by
  have hkept : Kept 0x1C1814000C0008 (s.blank m) (s.coldReset m) := by
    refine State.applyHealth_k _ _ rfl (Kept.each _ _ (fun e u => ?_) (Kept.each _ _ (fun e u => ?_)
      (Kept.each _ _ (fun o u => ?_) (Kept.refl _ _))))
    all_goals exact State.wr_k _ _ u rfl (Kept.refl _ u)
  exact hkept.same .keeper rfl

theorem State.lifecycle_closeSession (s : State) : s.closeSession.keeper.lifecycle = s.keeper.lifecycle ∧
    s.closeSession.keeper.lifeCount = s.keeper.lifeCount := by
  cases h : s.keeper.session with
  | none => rw [State.closeSession, h]; exact ⟨rfl, rfl⟩
  | some x => rw [(State.closeSession_effect h).1]; exact ⟨rfl, rfl⟩

/-- BRING-UP keeps Keeper's storage, and no session (R56, R640). -/
theorem State.enterMode_bringUp_keeper (h : s.mode ≠ .bringUp) :
    (s.enterMode .bringUp).mode = .bringUp ∧ (s.enterMode .bringUp).keeper.lifecycle = s.keeper.lifecycle ∧
    (s.enterMode .bringUp).keeper.lifeCount = s.keeper.lifeCount ∧
    (s.enterMode .bringUp).keeper.session = none := by
  generalize hz : (s.abortWork.modRecord 5 3 s.abortWork.mode.code).closeSession = z
  have hstorage : z.keeper.lifecycle = s.keeper.lifecycle ∧ z.keeper.lifeCount = s.keeper.lifeCount := by
    obtain ⟨hlife, hcount⟩ := s.lifecycle_abortWork
    have hrecord := (State.modRecord_k (m := 0x2010003c000000) 5 3 s.abortWork.mode.code s.abortWork rfl
      (Kept.refl _ _)).same .keeper rfl
    obtain ⟨hzl, hzc⟩ := (s.abortWork.modRecord 5 3 s.abortWork.mode.code).lifecycle_closeSession
    rw [hz] at hzl hzc
    exact ⟨(hzl.trans (congrArg Keeper.lifecycle hrecord)).trans hlife,
      (hzc.trans (congrArg Keeper.lifeCount hrecord)).trans hcount⟩
  have hbrought : s.broughtUp = (z.coldReset .bringUp).beaconRestart.newChallenge := by
    rw [← hz]
    rfl
  have hcold := State.keeper_coldReset .bringUp z
  obtain ⟨hctl, -, -⟩ := State.coldReset_kept .bringUp z
  generalize z.coldReset .bringUp = y at hbrought hcold hctl
  have hrestart := State.beaconRestart_k (m := 0x20001100000000) y rfl (Kept.refl _ y)
  have hkeeper : s.broughtUp.keeper = { y.keeper with challenge := s.broughtUp.keeper.challenge } := by
    rw [hbrought, ← hrestart.same .keeper rfl]
    rfl
  have hmode : s.broughtUp.mode = .bringUp := by
    have hkept := State.newChallenge_k (m := 0x62001100000000) _ rfl
      (State.beaconRestart_k (m := 0x62001100000000) y rfl (Kept.refl _ y))
    rw [hbrought, State.mode, hkept.same .ctl rfl, hctl]
  have hsettle : s.broughtUp.settle.keeper = s.broughtUp.keeper :=
    (State.settle_k (m := 0x201000bc000004) _ rfl (Kept.refl _ _)).same .keeper rfl
  rw [State.enterMode_bringUp h]
  refine ⟨(State.mode_settle _).trans hmode, ?_, ?_, ?_⟩ <;> rw [hsettle, hkeeper, hcold]
  · exact hstorage.1
  · exact hstorage.2

/-- FACTORY to PROVISIONED ends in BRING-UP, with the counter advanced (R635). -/
theorem State.storeDone_provisioned (ho : s.keeper.ops = [.lifecycle .provisioned]) (hr : s.keeper.running = true)
    (hl : s.keeper.lifecycle = .factory) (hm : s.mode = .service) :
    s.storeDone.mode = .bringUp ∧ s.storeDone.keeper.lifecycle = .provisioned ∧
    s.storeDone.keeper.lifeCount = s.keeper.lifeCount + 1 ∧ s.storeDone.keeper.session = none := by
  have happly : (s.stored (.lifecycle .provisioned)).keeper =
      { s.keeper with
        lifecycle := .provisioned, lifeCount := s.keeper.lifeCount + 1, ops := [], running := false } := by
    show Keeper.change .provisioned { s.keeper with ops := [], running := false } = _
    unfold Keeper.change
    extract_lets k
    rw [hl]
  rw [State.storeDone_lifecycle ho hr (by rw [happly])]
  generalize hv : (s.stored (.lifecycle .provisioned)).endUpdate uLifecycle kOk = v
  have hvk : v.keeper = { s.keeper with
      lifecycle := .provisioned, lifeCount := s.keeper.lifeCount + 1, ops := [], running := false, done := true,
      code := 0 } := by
    rw [← hv, (State.endUpdate_ok ..).1, happly]
  have hvm : v.mode = .service := by
    rw [← hv, ← hm]
    exact congrArg ModeCtl.mode ((State.endUpdate_k (m := 0x2210003c000008) uLifecycle kOk
      (s.stored (.lifecycle .provisioned)) rfl (Kept.refl _ _)).same .ctl rfl)
  obtain ⟨hlife, hcount⟩ := v.lifecycle_closeSession
  have hclosed : v.closeSession.mode = .service := by
    rw [← hvm]
    exact congrArg ModeCtl.mode ((State.closeSession_k (m := 0x2210003c000008) v rfl (Kept.refl _ _)).same .ctl rfl)
  obtain ⟨hmode, hl', hc', hsession⟩ := State.enterMode_bringUp_keeper (s := v.closeSession) (by rw [hclosed]; decide)
  exact ⟨hmode, by rw [hl', hlife, hvk], by rw [hc', hcount, hvk], hsession⟩

end

/-! ### Engine debug (R641) -/

theorem State.portO_of_portF {s : State} (h : s.portF = true) : s.portO = true := by
  rw [State.portF, Bool.and_eq_true, beq_iff_eq] at h
  obtain ⟨hport, hlevel⟩ := h
  rw [State.portO, hport, hlevel]
  simp

/-- The fields of a write of KPR_DBG_SEL. -/
theorem dbgSelWord_fields : ∀ g < 32, ∀ halt step : Bool, fld (dbgSelWord g halt step) 0 5 = g ∧
    bit (dbgSelWord g halt step) 31 = halt ∧ bit (dbgSelWord g halt step) 30 = step := by
  decide

section
variable {s : State} {g : Nat}

theorem State.regWrite_dbgSel (env : WriteEnv) (hg : g < 32) (halt step : Bool) :
    s.regWrite env (.kprDbg 2) (dbgSelWord g halt step) = s.dbgSelect g halt step env.meets := by
  obtain ⟨hfld, hhalt, hstep⟩ := dbgSelWord_fields g hg halt step
  show s.dbgSelect _ _ _ _ = _
  rw [hfld, hhalt, hstep]

/-- A write of KPR_DBG_SEL at FULL that covers the engine. -/
theorem State.dbgSelect_full (halt step : Bool) (e : Meets) (hp : s.portF = true) (hm : nbit s.debugMask g = true) :
    s.dbgSelect g halt step e =
      (if step then (s.wr 0x1C068 (wd g)).stepOne g e else s.wr 0x1C068 (wd g)).setHalt g halt := by
  rw [State.dbgSelect, State.portO_of_portF hp, hp, hm]
  dsimp only
  rw [show (s.wr 0x1C068 (wd g)).portF = true from hp]
  rfl

/-- Halt or release: the engine's flag, and nothing else of any engine. -/
theorem State.setHalt_effect (s : State) (g : Nat) (halt : Bool) :
    EngSet g { s.eng g with dbgHalt := halt } s (s.setHalt g halt) :=
  ⟨State.eng_upEng_self .., fun _ hh => (State.eng_upEng ..).trans (if_neg hh)⟩

/-- An engine's memories hold nothing of its halt. -/
theorem State.engBytes_setHalt (g h a n : Nat) (b : Bool) (s : State) :
    (s.setHalt g b).engBytes h a n = s.engBytes h a n := by
  have hbyte (a : Nat) : (s.setHalt g b).engByte h a = s.engByte h a := by
    by_cases hg : h = g <;> simp [State.engByte, State.setHalt, State.eng_upEng, hg] <;> rfl
  induction n generalizing a with
  | zero => rfl
  | succ n ih => rw [State.engBytes, State.engBytes, hbyte, ih]

/-- A halted engine steps over a NOP and halts again. -/
theorem State.stepOne_nop {v : State} (hhalt : (v.eng g).dbgHalt = true) (hrun : (v.eng g).state = .running)
    (hmay : v.engineMayRun g = true) (hnop : decodeWord (v.fetched g) = some .nop)
    (hnext : fetchable (v.nextPc g) = true) :
    v.stepOne g .none = ((v.setHalt g false).goesOn g id).setHalt g true := by
  have hcpu : (v.setHalt g false).cpu g = v.cpu g := by
    rw [State.cpu, State.setHalt, State.eng_upEng_self]
    rfl
  have hfetched : (v.setHalt g false).fetched g = v.fetched g := by
    rw [State.fetched, State.fetched, hcpu, State.engVal, State.engVal, State.engBytes_setHalt]
  have hissues : (v.setHalt g false).issues g .nop = true := by
    have heng : (v.setHalt g false).eng g = { v.eng g with dbgHalt := false } := State.eng_upEng_self ..
    rw [State.issues, State.engineRuns, hfetched, hnop, heng, hrun,
      show (v.setHalt g false).engineMayRun g = true from hmay]
    rfl
  have hstep : (v.setHalt g false).runNop ⟨g, .clean⟩ = (v.setHalt g false).goesOn g id := by
    rw [State.runNop, ← State.advance_of_fetchable (by rw [State.nextPc_of_cpu_eq hcpu]; exact hnext)]
    exact State.issue_clean _ hissues
  rw [State.stepOne, hhalt]
  dsimp only
  rw [hfetched, hnop]
  exact congrArg (State.setHalt g true) hstep

/-- One step of a halted engine whose instruction is a NOP (R641). -/
theorem State.dbgStep_effect (hp : s.portF = true) (hm : nbit s.debugMask g = true)
    (hhalt : (s.eng g).dbgHalt = true) (hrun : (s.eng g).state = .running) (hmay : s.engineMayRun g = true)
    (hnop : decodeWord (s.fetched g) = some .nop) (hnext : fetchable (s.nextPc g) = true) :
    let t := s.dbgSelect g true true .none
    t.cpu g = (s.goesOn g id).cpu g ∧ (t.eng g).dbgHalt = true ∧ ∀ h, h ≠ g → t.eng h = s.eng h := by
  intro t
  generalize hv : s.wr 0x1C068 (wd g) = v
  have hve : v.engines = s.engines := by rw [← hv]; rfl
  have hveng (h : Nat) : v.eng h = s.eng h := State.eng_congr hve h
  have hvcpu : v.cpu g = s.cpu g := congrArg Engine.cpu (hveng g)
  have hvfetched : v.fetched g = s.fetched g := by rw [← hv]; rfl
  have hstep : v.stepOne g .none = ((v.setHalt g false).goesOn g id).setHalt g true := by
    refine State.stepOne_nop (by rw [hveng, hhalt]) (by rw [hveng, hrun]) ?_ (by rw [hvfetched, hnop]) ?_
    · rw [← hmay, ← hv]
      rfl
    · rw [State.nextPc_of_cpu_eq hvcpu]
      exact hnext
  have ht : t = (((v.setHalt g false).goesOn g id).setHalt g true).setHalt g true := by
    rw [← hstep, ← hv]
    exact State.dbgSelect_full true true .none hp hm
  have hcpu (b : Bool) (u : State) : (u.setHalt g b).cpu g = u.cpu g := by
    rw [State.cpu, State.setHalt, State.eng_upEng_self]
    rfl
  have hother (b : Bool) (u : State) {h : Nat} (hh : h ≠ g) : (u.setHalt g b).eng h = u.eng h :=
    (State.eng_upEng ..).trans (if_neg hh)
  refine ⟨?_, ?_, fun h hh => ?_⟩
  · rw [ht, hcpu, hcpu]
    exact State.cpu_goesOn_of_cpu_eq id ((hcpu false v).trans hvcpu)
  · rw [ht, State.setHalt, State.eng_upEng_self]
  · rw [ht, hother _ _ hh, hother _ _ hh, State.eng_goesOn_of_ne id hh, hother _ _ hh, hveng]

end

/-! ### Engine memory through the debug window (R641) -/

section
variable {s : State} {g a : Nat}

/-- A word written above instruction memory is four bytes stored. -/
theorem State.putAnyWord_eq (ha : 0x20000 ≤ a) (w : Word) :
    s.putAnyWord g a w = s.putEngBytes g a (leBytes 4 w.toNat) := by
  have hbyte (i : Nat) (b : Byte) (u : State) : u.setAnyByte g (a + i) b = u.setEngByte g (a + i) b :=
    if_neg (by omega)
  show ((((s.setAnyByte g (a + 0) _).setAnyByte g (a + 1) _).setAnyByte g (a + 2) _).setAnyByte g (a + 3) _) =
    ((((s.setEngByte g a _).setEngByte g (a + 1) _).setEngByte g (a + 1 + 1) _).setEngByte g (a + 1 + 1 + 1) _)
  rw [hbyte, hbyte, hbyte, hbyte, Nat.pow_zero, Nat.div_one, Nat.pow_one, Nat.div_div_eq_div_mul w.toNat 256 256,
    Nat.div_div_eq_div_mul w.toNat (256 * 256) 256]
  rfl

/-- A word read where it was written. -/
theorem State.engVal_putEngBytes (hb : bufferOk a 4 = true) (w : Word) :
    (s.putEngBytes g a (leBytes 4 w.toNat)).engVal g a 4 = w.toNat := by
  have hbyte (i : Nat) (hi : i < 4) : (s.putEngBytes g a (leBytes 4 w.toNat)).engByte g (a + i) =
      (leBytes 4 w.toNat).getD i 0 := by
    rw [State.engByte_putEngBytes (by rw [length_leBytes]; exact hb),
      if_pos ⟨by rw [length_leBytes]; omega, Or.inl rfl⟩, Nat.add_sub_cancel_left]
  have hbytes : (s.putEngBytes g a (leBytes 4 w.toNat)).engBytes g a 4 = leBytes 4 w.toNat := by
    generalize s.putEngBytes g a (leBytes 4 w.toNat) = u at hbyte
    show [u.engByte g (a + 0), u.engByte g (a + 1), u.engByte g (a + 2), u.engByte g (a + 3)] = _
    rw [hbyte 0 (by omega), hbyte 1 (by omega), hbyte 2 (by omega), hbyte 3 (by omega)]
    rfl
  rw [State.engVal, hbytes]
  exact ofLe_leBytes w.isLt

theorem State.dbgNext_rd (h : s.rd 0x1C06C = wd (0x10000000 + 4 * g)) :
    s.dbgNext.rd 0x1C06C = wd (0x10000004 + 4 * g) := by
  rw [State.dbgNext, State.rd_wr, if_pos rfl, h, show (4 : Word) = wd 4 from rfl]
  apply BitVec.eq_of_toNat_eq
  simp only [wd, BitVec.toNat_add, BitVec.toNat_ofNat]
  omega

theorem State.engVal_dbgNext (u : State) (k b n : Nat) : u.dbgNext.engVal k b n = u.engVal k b n := by
  rw [State.engVal, State.engVal, State.engBytes_congr (s := u) (t := u.dbgNext) rfl rfl]

/-- A write through the window stores a word of data memory, and the address moves on. -/
theorem State.dbgWrite_effect (hp : s.portF = true) (hc : s.dbgCovered = true)
    (h : s.rd 0x1C06C = wd (0x10000000 + 4 * g)) (hg : g < 16384) (w : Word) :
    (s.dbgWrite w).engVal s.dbgSel (0x10000000 + 4 * g) 4 = w.toNat ∧
    (s.dbgWrite w).rd 0x1C06C = wd (0x10000004 + 4 * g) ∧
    ∀ k, k ≠ s.dbgSel → (s.dbgWrite w).eng k = s.eng k := by
  have haddr : (s.rd 0x1C06C).toNat = 0x10000000 + 4 * g := by
    rw [h, wd, BitVec.toNat_ofNat]
    omega
  have heq : s.dbgWrite w =
      (s.putEngBytes s.dbgSel (0x10000000 + 4 * g) (leBytes 4 w.toNat)).dbgNext := by
    rw [State.dbgWrite, hp, hc, haddr, State.putAnyWord_eq (by omega)]
    rfl
  have hkept : Kept 0x300000000000 s (s.putEngBytes s.dbgSel (0x10000000 + 4 * g) (leBytes 4 w.toNat)) :=
    State.putEngBytes_k _ _ _ _ rfl (Kept.refl _ s)
  rw [heq]
  refine ⟨?_, ?_, fun k hk => ?_⟩
  · rw [State.engVal_dbgNext]
    exact State.engVal_putEngBytes ((bufferOk_iff (0x10000000 + 4 * g) 4).2 (.inl (by omega))) w
  · exact State.dbgNext_rd ((State.rd_of_kept hkept rfl _).trans h)
  · exact State.eng_putEngBytes_of_ne hk ..

/-- A read through the window answers the word, and the address moves on. -/
theorem State.readBy_dbgData (hw : s.window (.kprDbg 4) = .full) (hp : s.portF = true) (hc : s.dbgCovered = true)
    (h : s.rd 0x1C06C = wd (0x10000000 + 4 * g)) (hg : g < 16384) :
    s.readBy false 0x1C070 =
      s.dbgNext.emit (.hostRead 0 0x1C070 (wd (s.engVal s.dbgSel (0x10000000 + 4 * g) 4))) := by
  have haddr : (s.rd 0x1C06C).toNat = 0x10000000 + 4 * g := by
    rw [h, wd, BitVec.toNat_ofNat]
    omega
  have hread : s.dbgRead = (wd (s.engVal s.dbgSel (0x10000000 + 4 * g) 4), s.dbgNext) := by
    rw [State.dbgRead, State.portO_of_portF hp, hc, haddr]
    rfl
  have hword : s.readWord (b2n false) 0x1C070 = s.dbgRead := by
    have hreg : Reg.ofOff 0x1C070 = some (.kprDbg 4) := rfl
    rw [State.readWord, hreg]
    dsimp only
    rw [hw]
    rfl
  rw [State.readBy, hword, hread]
  rfl

end

/-! ### Boundary scan (R643) -/

/-- A shift of `fld w 0 6` bits returns free ones. -/
theorem State.tapWrite_shift {s : State} {w : Word} (hp : s.portFT = true) (h0 : 0 < fld w 0 6) (hn : fld w 0 6 ≤ 32)
    (hgo : bit w 31 = true) :
    let t := s.tapWrite 0 w
    t.rd 0x1C080 = wd (fld w 0 6) ∧
    fld (t.rd 0x1C08C) 0 (fld w 0 6) = fld (Config.tdo s.free) 0 (fld w 0 6) ∧ t.free = s.free + 1 := by
  intro t
  have ht : t = (s.wr 0x1C080 (wd (fld w 0 6))).draw.setf 0x1C08C 0 (fld w 0 6)
      (fld (Config.tdo s.free) 0 (fld w 0 6)) := by
    show s.tapWrite 0 w = _
    unfold State.tapWrite
    extract_lets off n u bits
    rw [hp, Bool.not_true, if_neg Bool.false_ne_true, if_neg (by simp), if_neg (by omega)]
    rw [hgo]
    rfl
  rw [ht, State.setf]
  refine ⟨?_, ?_, rfl⟩
  · rw [State.rd_wr, if_neg (by decide)]
    show (s.wr 0x1C080 (wd (fld w 0 6))).rd 0x1C080 = _
    rw [State.rd_wr, if_pos rfl]
  · rw [State.rd_wr, if_pos rfl]
    exact fld_setFld _ (by omega) (fld_lt ..)

end Sys2Proof.Machine

section
open Sys2Proof Sys2Proof.Machine

/-- Settles O59: the only store ends without another to start; a session's end releases each engine listed; the debug
window's registers act on the one engine selected. -/
theorem storesAndDebug : Obligations.StoresAndDebug := by
  unfold Obligations.StoresAndDebug
  intro s yw halt u g w k
  have put {off : Nat} {r : Reg} (hr : Reg.ofOff off = some r) (ho : s.open_ off = true) (v : Word) (e : WriteEnv) :
      s.writeWord e off 15 v = s.regWrite e r v := State.writeWord_of_open e v hr ho
  refine ⟨?_, ?_, ?_, ?_, ?_, ?_, ?_, ?_, ?_, ?_, ?_, ?_, ?_, ?_⟩
  case _ =>
    intro a q ho hr
    refine ⟨_, congrArg Host.Outcome.next (State.storeDone_policy ho hr), ?_⟩
    obtain ⟨hkeeper, hraised⟩ := State.endUpdate_ok uPolicy (s.stored (.policy a q))
    exact ⟨hkeeper, hraised⟩
  case _ =>
    intro fw ho hr
    refine ⟨_, congrArg Host.Outcome.next (State.storeDone_firmware ho hr), ?_⟩
    refine (State.endUpdate_ok ..).1.trans ?_
    rw [State.keeper_setUntested, State.keeper_stored_firmware]
    by_cases hb : s.keeper.runsB = true
    · rw [if_pos hb, if_pos (show k.runsB = true from hb)]
    · rw [if_neg hb, if_neg (show ¬k.runsB = true from hb)]
  case _ =>
    intro c v ho hr
    exact ⟨_, congrArg Host.Outcome.next (State.storeDone_erase ho hr), (State.endUpdate_ok ..).1⟩
  case _ =>
    intro tg ho hr hl htg hm
    subst htg
    exact ⟨_, rfl, State.storeDone_provisioned ho hr hl hm⟩
  case _ => exact fun hr => congrArg Host.Outcome.next (State.storeDone_waiting hr)
  case _ =>
    intro x hx hleft
    exact ⟨_, congrArg Host.Outcome.next (if_pos hleft), State.closeSession_effect hx⟩
  case _ => exact fun hleft => congrArg Host.Outcome.next (if_neg hleft)
  case _ =>
    intro x hx ho hp
    refine ⟨_, congrArg Host.Outcome.next ((put (r := .kprDbg 0) rfl ho _ _).trans ?_), State.closeSession_effect hx⟩
    show s.dbgCtrl _ = _
    rw [State.dbgCtrl, hp]
    rfl
  case _ =>
    intro ho hp
    refine congrArg Host.Outcome.next ((put (r := .kprDbg 0) rfl ho _ _).trans ?_)
    show s.dbgCtrl _ = _
    rw [State.dbgCtrl, hp]
    rfl
  case _ =>
    intro ho hp hg hm
    refine ⟨?_, fun hhalt hrun hmay hnop hnext => ?_⟩
    · refine ⟨_, congrArg Host.Outcome.next ((put (r := .kprDbg 2) rfl ho _ _).trans
        ((State.regWrite_dbgSel _ hg halt false).trans (State.dbgSelect_full halt false _ hp hm))), ?_, ?_⟩
      · exact State.setHalt_effect (s.wr 0x1C068 (wd g)) g halt
      · show (s.wr 0x1C068 (wd g)).rd 0x1C068 = wd g
        rw [State.rd_wr, if_pos rfl]
    · exact ⟨_, congrArg Host.Outcome.next ((put (r := .kprDbg 2) rfl ho _ _).trans
          (State.regWrite_dbgSel _ hg true true)), State.dbgStep_effect hp hm hhalt hrun hmay hnop hnext⟩
  case _ =>
    intro ho hp hc haddr hg
    refine ⟨?_, ?_⟩
    · exact ⟨_, congrArg Host.Outcome.next (put (r := .kprDbg 4) rfl ho w _), State.dbgWrite_effect hp hc haddr hg w⟩
    · have hfull : s.window (.kprDbg 4) = .full := by
        have hreg : Reg.ofOff 0x1C070 = some (.kprDbg 4) := rfl
        simpa [State.open_, hreg] using ho
      exact ⟨_, congrArg Host.Outcome.next (State.readBy_dbgData hfull hp hc haddr hg), rfl,
        State.dbgNext_rd haddr, rfl⟩
  case _ =>
    intro ho hp
    refine congrArg Host.Outcome.next ((put (r := .kprDbg 4) rfl ho w _).trans ?_)
    show s.dbgWrite w = _
    rw [State.dbgWrite, hp]
    rfl
  case _ =>
    intro ho hp h0 hn hgo
    exact ⟨_, congrArg Host.Outcome.next (put (r := .kprTap 0) rfl ho w _), State.tapWrite_shift hp h0 hn hgo⟩
  case _ =>
    intro ho hp
    refine congrArg Host.Outcome.next ((put (r := .kprTap 0) rfl ho w _).trans ?_)
    show s.tapWrite 0 w = _
    rw [State.tapWrite, hp]
    rfl

end

namespace Sys2Proof.Machine
open Sys2Proof

/-! ### An update is judged (R649, R650) -/

theorem State.judgeUpdate_wr (o : Nat) (w : Word) (kind : Nat) (obj : Option (List Byte)) (s : State) :
    (s.wr o w).judgeUpdate kind obj = s.judgeUpdate kind obj := rfl

/-- The fields of a write of KPR_UPD_CTRL. -/
theorem updWord_fields {kind len : Nat} (hk : kind < 16) (ib : Bool) (hl : len < 2 ^ 21) :
    bit (updWord kind ib len) 31 = true ∧ bit (updWord kind ib len) 30 = ib ∧ fld (updWord kind ib len) 26 4 = kind ∧
    fld (updWord kind ib len) 0 21 = len := by
  have hb : b2n ib = 0 ∨ b2n ib = 1 := by cases ib <;> simp [b2n]
  have hib : (b2n ib = 1) ↔ ib = true := by cases ib <;> simp [b2n]
  have hw : (updWord kind ib len).toNat = 2 ^ 31 + b2n ib * 2 ^ 30 + kind * 2 ^ 26 + len := by
    rw [updWord, wd, BitVec.toNat_ofNat, Nat.mod_eq_of_lt hk, Nat.mod_eq_of_lt hl]
    omega
  rw [bit_eq_fld, bit_eq_fld]
  refine ⟨?_, ?_, ?_, ?_⟩
  · simp only [fld, hw, Nat.shiftRight_eq_div_pow, decide_eq_true_eq]
    omega
  · rw [Bool.eq_iff_iff, ← hib]
    simp only [fld, hw, Nat.shiftRight_eq_div_pow, decide_eq_true_eq]
    omega
  · simp only [fld, hw, Nat.shiftRight_eq_div_pow]
    omega
  · simp only [fld, hw, Nat.shiftRight_eq_div_pow]
    omega

/-- The fields of KPR_UPD_CTRL (Table 18-12). -/
def updFields (w : Word) : List FieldSpec :=
  [plainField 30 1, (26, 4, fun k => 1 ≤ k && k ≤ 8),
    (0, 21, fun n => n < 2 ^ 20 && !(bit w 30 && (n == 0 || 4096 < n)))]

/-- A word whose every field is of a value it takes writes no reserved encoding. -/
theorem writeFields_sound (old w : Word) (fs : List FieldSpec) (h : ∀ f ∈ fs, f.2.2 (fld w f.1 f.2.1) = true) :
    (writeFields old w fs).2 = false := by
  induction fs with
  | nil => rfl
  | cons f fs ih =>
    obtain ⟨lo, n, ok⟩ := f
    have hok : ok (fld w lo n) = true := h (lo, n, ok) List.mem_cons_self
    rw [writeFields]
    dsimp only
    rw [if_pos hok]
    exact ih fun f hf => h f (List.mem_cons_of_mem _ hf)

/-- A sound word of KPR_UPD_CTRL. -/
theorem updFields_sound (old : Word) {kind len : Nat} {ib : Bool} (h1 : 1 ≤ kind) (h8 : kind ≤ 8) (hpos : 0 < len)
    (hlt : len < 2 ^ 20) (hbuf : ib = true → len ≤ 4096) :
    (writeFields old (updWord kind ib len) (updFields (updWord kind ib len))).2 = false := by
  obtain ⟨-, hib, hkind, hlen⟩ := updWord_fields (kind := kind) (by omega) ib (len := len) (by omega)
  have hlength : (decide (len < 2 ^ 20) && !(ib && (len == 0 || decide (4096 < len)))) = true := by
    rw [Bool.and_eq_true]
    refine ⟨decide_eq_true hlt, ?_⟩
    cases ib with
    | false => rfl
    | true =>
      have hle := hbuf rfl
      have hzero : (len == 0) = false := beq_false_of_ne (by omega)
      have hlong : decide (4096 < len) = false := decide_eq_false (by omega)
      rw [hzero, hlong]
      rfl
  refine writeFields_sound _ _ _ fun f hf => ?_
  rw [updFields, List.mem_cons, List.mem_cons, List.mem_singleton] at hf
  rcases hf with rfl | rfl | rfl
  · rfl
  · simp [hkind, h1, h8]
  · rw [hlen, hib]
    exact hlength

/-- A write of go with sound fields, Keeper idle, is an update. -/
theorem State.updCtrlWrite_go {s : State} {fetched : Option (List Byte)} {w x : Word} (hm : s.mode.update = true)
    (hidle : s.keeperBusy = false) (hgo : bit w 31 = true)
    (hx : writeFields (s.rd 0x1C058) w (updFields w) = (x, false)) :
    s.updCtrlWrite fetched w = (s.wr 0x1C058 x).updateGo (fld w 26 4) (bit w 30)
      (if fld w 0 21 = 0 then 2 ^ 20 else fld w 0 21) fetched := by
  rw [State.updCtrlWrite, State.gate, if_pos hm]
  rw [hidle, Bool.and_false, if_neg Bool.false_ne_true]
  rw [updFields] at hx
  rw [hx]
  dsimp only
  rw [if_neg Bool.false_ne_true]
  refine (if_pos hgo).trans ?_
  generalize s.wr 0x1C058 x = u
  generalize fld w 26 4 = kind
  generalize bit w 30 = ib
  generalize (if fld w 0 21 = 0 then 2 ^ 20 else fld w 0 21) = n
  rfl

/-- The state with the update's flag down, and a new challenge where the kind draws one (R649, R632). -/
def State.updating (kind : Nat) (s : State) : State :=
  let s := s.upKeeper fun k => { k with done := false }
  if kind = uLifecycle ∨ kind = uDebug then s.newChallenge else s

/-- What a verdict on an update of `kind` leaves. -/
def State.judged (kind : Nat) (v : Verdict) (s : State) : State :=
  match v with
  | .refuse code => (s.updating kind).endUpdate kind code
  | .open_ x => ((s.updating kind).openSession x).endUpdate kind kOk
  | .store o => (s.updating kind).queueOp o

/-- Keeper is idle and takes an update whose object is `bs`. -/
def State.takesUpdate (s : State) (ib : Bool) (len : Nat) (fetched : Option (List Byte)) (bs : List Byte) : Prop :=
  s.open_ 0x1C058 = true ∧ s.keeper.ops = [] ∧ 0 < len ∧ len < 2 ^ 20 ∧ (ib = true → len ≤ 4096) ∧
  s.updateObject ib len fetched = some bs

theorem State.updateObject_congr {s t : State} (hrd : ∀ i, t.rd (0x1D000 + 4 * i) = s.rd (0x1D000 + 4 * i))
    (hopen : t.hostOpen = s.hostOpen) (ib : Bool) (n : Nat) (fetched : Option (List Byte)) :
    t.updateObject ib n fetched = s.updateObject ib n fetched := by
  have hwords : (fun i => leBytes 4 (t.rd (0x1D000 + 4 * i)).toNat) =
      fun i => leBytes 4 (s.rd (0x1D000 + 4 * i)).toNat := funext fun i => by rw [hrd]
  unfold State.updateObject
  rw [hwords, hopen]

section
variable {s : State} {yw ib : Bool} {len kind : Nat} {fetched : Option (List Byte)} {bs : List Byte}

theorem State.updateGo_judged {n : Nat} {v : Verdict} (h : s.judgeUpdate kind (s.updateObject ib n fetched) = v) :
    s.updateGo kind ib n fetched = s.judged kind v := by
  rw [State.updateGo, h]
  rfl

/-- An update that Keeper takes is judged on its object. -/
theorem State.updateBy_judged (h : s.takesUpdate ib len fetched bs) (hm : s.mode.update = true) (h1 : 1 ≤ kind)
    (h8 : kind ≤ 8) : ∃ x, s.updateBy yw kind ib len fetched =
      (s.wr 0x1C058 x).judged kind (s.judgeUpdate kind (some bs)) := by
  obtain ⟨ho, hops, hpos, hlt, hbuf, hobj⟩ := h
  obtain ⟨hgo, hib, hkind, hlen⟩ := updWord_fields (kind := kind) (by omega) ib (len := len) (by omega)
  have hsound := updFields_sound (s.rd 0x1C058) h1 h8 hpos hlt hbuf
  generalize hx : writeFields (s.rd 0x1C058) (updWord kind ib len) (updFields (updWord kind ib len)) = r at hsound
  obtain ⟨x, bad⟩ := r
  have hbad : bad = false := hsound
  rw [hbad] at hx
  have hidle : s.keeperBusy = false := by simp [State.keeperBusy, hops]
  have hwrite : s.updateBy yw kind ib len fetched = s.updCtrlWrite fetched (updWord kind ib len) :=
    State.writeWord_of_open (r := .kprUpdCtrl) _ _ rfl ho
  have hobject : (s.wr 0x1C058 x).updateObject ib len fetched = some bs := by
    rw [← hobj]
    have hword (i : Nat) : (s.wr 0x1C058 x).rd (0x1D000 + 4 * i) = s.rd (0x1D000 + 4 * i) := by
      rw [State.rd_wr, if_neg (by omega)]
    have hopen : (s.wr 0x1C058 x).hostOpen = s.hostOpen := rfl
    generalize s.wr 0x1C058 x = u at hword hopen ⊢
    exact State.updateObject_congr hword hopen ib len fetched
  refine ⟨x, ?_⟩
  rw [hwrite, State.updCtrlWrite_go hm hidle hgo hx, hib, hkind, hlen, if_neg (by omega)]
  exact State.updateGo_judged (by rw [hobject, State.judgeUpdate_wr])

/-- A kind that the mode takes is one that KPR_UPD_CTRL takes (Table 18-6, Table 22-3). -/
theorem updateMode_update {m : Mode} (h : updateMode kind m = true) : m.update = true := by
  cases m with
  | off | seating | inrush | bringUp | sleep | faultHold => cases h
  | unconfigured | configuring | operational | degraded | reconfiguring | standby | service | test => rfl

/-- An update in R650's order up to its signature: a sound object that verifies is judged by its body. -/
theorem State.judgeUpdate_sound {body : List Byte} {cl : Closing} (hmode : updateMode kind s.mode = true)
    (hcell : s.updateCell kind = 0) (hmax : bs.length ≤ updateMax kind) (hclosing : closing bs = some (body, cl))
    (hfits : closingFits kind cl.kind = true) (hform : bodyForm cl.kind body = true)
    (hsigns : s.keeper.signs cl.slot (kindPurpose cl.kind) = true) (hid : s.identityOk cl.kind body = true) :
    s.judgeUpdate kind (some bs) =
      if s.keeper.verifies body cl = true then s.judgeBody bs body cl else .refuse kBadSignature := by
  have herase : kind ≠ uErase := by
    rintro rfl
    cases hfits
  rw [State.judgeUpdate, hmode, Bool.not_true, if_neg Bool.false_ne_true, if_neg (fun h => h hcell)]
  rw [if_neg (Nat.not_lt.2 hmax), if_neg herase, hclosing]
  dsimp only
  rw [hfits, hform, hsigns, hid]
  cases s.keeper.verifies body cl <;> rfl

theorem State.judgeUpdate_erase (hmode : updateMode uErase s.mode = true) (hcell : s.updateCell uErase = 0)
    (hmax : bs.length ≤ updateMax uErase) : s.judgeUpdate uErase (some bs) = s.judgeErase bs := by
  rw [State.judgeUpdate, hmode, Bool.not_true, if_neg Bool.false_ne_true, if_neg (fun h => h hcell)]
  rw [if_neg (Nat.not_lt.2 hmax), if_pos rfl]

theorem State.judgeUpdate_wrongMode (hmode : updateMode kind s.mode = false) (obj : Option (List Byte)) :
    s.judgeUpdate kind obj = .refuse kWrongMode := by
  unfold State.judgeUpdate
  rw [hmode]
  rfl

end

/-! ### What a verdict leaves -/

section
variable {s : State} {kind : Nat}

/-- Keeper's fields as an update is judged. -/
theorem State.keeper_updating (kind : Nat) (s : State) : (s.updating kind).keeper = { s.keeper with
    done := false
    challenge := if kind = uLifecycle ∨ kind = uDebug then (Config.random s.free).toNat else s.keeper.challenge } := by
  unfold State.updating
  extract_lets u
  split
  · rfl
  · rfl

/-- An update ended with `code`. -/
def State.updateEnds (code : Nat) (t : State) : Prop :=
  t.keeper.done = true ∧ t.keeper.code = code ∧ t.keeper.ops = [] ∧ t.rb Blk.kpr.evtOff 0 = true

theorem State.endUpdate_effect (kind code : Nat) (s : State) :
    (s.endUpdate kind code).keeper = { s.keeper with done := true, code := code } ∧
    (s.endUpdate kind code).rb Blk.kpr.evtOff 0 = true ∧
    ∀ i, s.rb Blk.kpr.evtOff i = true → (s.endUpdate kind code).rb Blk.kpr.evtOff i = true := by
  unfold State.endUpdate
  extract_lets u v
  have hv : v.keeper = { s.keeper with done := true, code := code } ∧
      ∀ i, s.rb Blk.kpr.evtOff i = true → v.rb Blk.kpr.evtOff i = true := by
    unfold v
    split
    · exact ⟨State.keeper_raise .., fun i h => State.rb_raise_of_rb _ _ _ _ h⟩
    · exact ⟨rfl, fun _ h => h⟩
  obtain ⟨hkeeper, hevents⟩ := hv
  exact ⟨(State.keeper_raise ..).trans hkeeper, State.rb_raise_self _ _ _ _ (by decide),
    fun i h => State.rb_raise_of_rb _ _ _ _ (hevents i h)⟩

theorem State.judged_refuse (hops : s.keeper.ops = []) (code : Nat) :
    (s.judged kind (.refuse code)).updateEnds code := by
  obtain ⟨hkeeper, hdone, -⟩ := State.endUpdate_effect kind code (s.updating kind)
  refine ⟨?_, ?_, ?_, hdone⟩ <;> rw [show s.judged kind (.refuse code) = (s.updating kind).endUpdate kind code from rfl,
    hkeeper]
  rw [State.keeper_updating]
  exact hops

/-- A store waits alone in the queue. -/
theorem State.judged_store (hops : s.keeper.ops = []) (o : KOp) : (s.judged kind (.store o)).keeper = { s.keeper with
    done := false
    challenge := if kind = uLifecycle ∨ kind = uDebug then (Config.random s.free).toNat else s.keeper.challenge
    ops := [o]
    running := s.keeper.running || !s.power.warn } := by
  have hpower : (s.updating kind).power = s.power := by
    unfold State.updating
    extract_lets u
    split <;> rfl
  show { (s.updating kind).keeper with
    ops := (s.updating kind).keeper.ops ++ [o],
    running := (s.updating kind).keeper.running || !(s.updating kind).power.warn } = _
  rw [State.keeper_updating, hpower, hops]
  rfl

/-- A token opens its session (R639). -/
theorem State.judged_open (hops : s.keeper.ops = []) (x : Session) :
    (s.judged kind (.open_ x)).keeper.session = some x ∧ (s.judged kind (.open_ x)).updateEnds 0 ∧
    (s.judged kind (.open_ x)).rb Blk.kpr.evtOff 1 = true := by
  generalize hu : s.updating kind = u
  have huops : u.keeper.ops = [] := by
    rw [← hu, State.keeper_updating]
    exact hops
  generalize hv : u.openSession x = v
  have hvkeeper : v.keeper = { u.keeper with session := some x } := by
    rw [← hv]
    unfold State.openSession
    extract_lets w y
    have hy : Kept 0x100000000000 w y := by
      refine Kept.each _ _ (fun g z => ?_) (Kept.refl _ w)
      split
      · exact Kept.refl _ z
      · exact State.upEng_k g _ z rfl (Kept.refl _ z)
    exact (State.keeper_raise ..).trans (hy.same .keeper rfl)
  have hvevent : v.rb Blk.kpr.evtOff 1 = true := by
    rw [← hv]
    exact State.rb_raise_self _ _ _ _ (by decide)
  obtain ⟨hkeeper, hdone, hevents⟩ := State.endUpdate_effect kind kOk v
  have heq : s.judged kind (.open_ x) = v.endUpdate kind kOk := by
    rw [← hv, ← hu]
    rfl
  rw [heq]
  refine ⟨by rw [hkeeper, hvkeeper], ⟨by rw [hkeeper], by rw [hkeeper]; rfl, ?_, hdone⟩, hevents 1 hvevent⟩
  rw [hkeeper, hvkeeper]
  exact huops

end

/-! ### Each kind's own conditions (R646 to R648) -/

section
variable {s : State} {cl : Closing} {body bs : List Byte} {b : Bool}

/-- The firmware that an object brings. -/
def State.firmwareOf (s : State) (cl : Closing) : Firmware :=
  ⟨cl.slot, (s.keeper.slot cl.slot).key, cl.component, cl.version, cl.hwIf, cl.loaderIf, cl.personalityIf, cl.tileIf,
    cl.epoch⟩

theorem State.judgeBody_firmware (hk : cl.kind = 1) (he : s.keeper.epoch ≤ cl.epoch)
    (hj : s.judge646 (s.firmwareSet (s.firmwareOf cl)) = .accept b) :
    s.judgeBody bs body cl = .store (.firmware (s.firmwareOf cl) b) := by
  rw [State.judgeBody, hk]
  show s.judgeFirmware cl = _
  rw [State.judgeFirmware, if_neg (Nat.not_lt.2 he)]
  exact congrArg (Compat.verdict · (.firmware (s.firmwareOf cl))) hj

/-- The image that an object adds to the set. -/
def Closing.imageId (cl : Closing) : ImageId :=
  ⟨if cl.kind = 3 then 32 else 0, cl.component, cl.version, if cl.kind = 3 then cl.tileIf else cl.personalityIf⟩

theorem State.judgeBody_image (hk : cl.kind = 2 ∨ cl.kind = 3)
    (hj : s.judge646 { s.setInForce with images := cl.imageId :: s.setInForce.images } = .accept b)
    (hroom : imageBytes (s.keeper.without cl.component cl.version) + bs.length ≤ 6 * 2 ^ 20) :
    s.judgeBody bs body cl =
      .store (.image ⟨cl.kind == 3, cl.component, cl.version, cl.slot, bs⟩ b) := by
  have hjudge : s.judgeBody bs body cl = s.judgeImage bs cl := by
    rw [State.judgeBody]
    rcases hk with hk | hk <;> rw [hk] <;> rfl
  rw [hjudge]
  unfold State.judgeImage
  extract_lets tile x i
  have hi : i = cl.imageId := by
    rcases hk with hk | hk <;> simp [i, tile, Closing.imageId, hk]
  rw [hi, show x = s.setInForce from rfl, hj]
  exact if_neg (Nat.not_lt.2 hroom)

theorem State.judgeErase_unused (hl : bs.length = 8)
    (hfree : ∀ i ∈ s.setInForce.images, ¬(i.component = leAt bs 0 4 ∧ i.version = leAt bs 4 4)) :
    s.judgeErase bs = .store (.erase (leAt bs 0 4) (leAt bs 4 4)) := by
  unfold State.judgeErase
  extract_lets used
  have hused : used = false := by
    unfold used
    unfold State.setInForce at hfree
    cases hx : s.struct with
    | none => rfl
    | some x =>
      rw [hx] at hfree
      simpa [List.any_eq_false] using hfree
  rw [if_neg (fun h => h hl), hused, if_neg Bool.false_ne_true]

theorem State.judgeBody_tested {tb : TestedTable} (hk : cl.kind = 4) (ht : testedTable body = some tb)
    (hseq : (if cl.slot < 2 then s.keeper.thrumsyn.seq else s.keeper.owner.seq) ≤ tb.seq) :
    s.judgeBody bs body cl = .store (.tested (2 ≤ cl.slot) tb) := by
  unfold State.judgeBody
  extract_lets table
  have htable : table.seq = if cl.slot < 2 then s.keeper.thrumsyn.seq else s.keeper.owner.seq := by
    unfold table
    split <;> rfl
  rw [hk, ht]
  exact if_neg (Nat.not_lt.2 (htable ▸ hseq))

theorem State.judgeBody_policy (hk : cl.kind = 5) (hseq : s.keeper.policySeq ≤ leAt body 4 4) :
    s.judgeBody bs body cl = .store (.policy (nbit (byteAt body 0) 0) (leAt body 4 4)) := by
  rw [State.judgeBody, hk]
  exact if_neg (Nat.not_lt.2 hseq)

theorem State.judgeBody_keyCert (hk : cl.kind = 8) (hself : cl.slot ≠ byteAt body 0) (hactive : byteAt body 1 = 1)
    (hslot : (s.keeper.slot (byteAt body 0)).state ≠ .revoked) :
    s.judgeBody bs body cl =
      .store (.keyCert (byteAt body 0) ⟨.active, byteAt body 2, (body.drop 16).take 97⟩) := by
  rw [State.judgeBody, hk]
  show s.judgeKeyCert body cl.slot = _
  unfold State.judgeKeyCert
  extract_lets i old
  rw [if_neg hself, if_neg (by rw [hactive]; decide), if_neg hslot]

theorem State.judgeBody_lifecycle {tg : Lifecycle} (hk : cl.kind = 6) (ht : lifecycleOf (byteAt body 0) = some tg)
    (hmay : lifecycleMay s.keeper.lifecycle tg cl.slot = true) : s.judgeBody bs body cl = .store (.lifecycle tg) := by
  rw [State.judgeBody, hk, ht]
  exact if_pos hmay

theorem State.judgeBody_debug (hk : cl.kind = 7) (h : ¬(byteAt body 0 = 2 ∧ s.keeper.lifecycle = .deployed)) :
    s.judgeBody bs body cl = .open_ ⟨byteAt body 0, leAt body 4 4, leAt body 2 2, s.beacon.raw⟩ := by
  rw [State.judgeBody, hk]
  exact if_neg h

/-- A sound object of an update kind (R650). -/
structure State.SoundUpdate (s : State) (n : Nat) (bs body : List Byte) (cl : Closing) : Prop where
  mode : updateMode n s.mode = true
  cell : s.updateCell n = 0
  max : bs.length ≤ updateMax n
  closing : Machine.closing bs = some (body, cl)
  fits : closingFits n cl.kind = true
  form : bodyForm cl.kind body = true
  signs : s.keeper.signs cl.slot (kindPurpose cl.kind) = true
  identity : s.identityOk cl.kind body = true

/-- An update whose object is sound ends as its body is judged, or with BAD_SIGNATURE. -/
theorem State.after_soundUpdate {c : Instr} {yw ib : Bool} {n len : Nat} {fetched : Option (List Byte)} {v : Verdict}
    {P : State → Prop} (hc : exec c s = .next (s.updateBy yw n ib len fetched)) (h : s.takesUpdate ib len fetched bs)
    (hn : 1 ≤ n ∧ n ≤ 8) (hs : s.SoundUpdate n bs body cl) (hv : s.judgeBody bs body cl = v)
    (hP : ∀ x, P ((s.wr 0x1C058 x).judged n v)) :
    After c s fun t => if s.keeper.verifies body cl = true then P t else t.updateEnds 7 := by
  obtain ⟨x, hx⟩ := State.updateBy_judged (yw := yw) h (updateMode_update hs.mode) hn.1 hn.2
  rw [State.judgeUpdate_sound hs.mode hs.cell hs.max hs.closing hs.fits hs.form hs.signs hs.identity, hv] at hx
  refine ⟨_, hc.trans (congrArg Host.Outcome.next hx), ?_⟩
  have hops : (s.wr 0x1C058 x).keeper.ops = [] := h.2.1
  by_cases hver : s.keeper.verifies body cl = true
  · rw [if_pos hver]
    exact (if_pos hver).mpr (hP x)
  · rw [if_neg hver]
    exact (if_neg hver).mpr (State.judged_refuse hops kBadSignature)

end

end Sys2Proof.Machine

section
open Sys2Proof Sys2Proof.Machine

/-- Settles O58: each update kind's word is a write of go, whose object is judged in R650's order and then by its
kind. -/
theorem keeperUpdates : Obligations.KeeperUpdates := by
  unfold Obligations.KeeperUpdates
  intro s yw ib u len fetched bs body cl ho hops hpos hlt hbuf hobj k may sound ends verified fw iid set
  have htakes : s.takesUpdate ib len fetched bs := ⟨ho, hops, hpos, hlt, hbuf, hobj⟩
  have hsound {n : Nat} (h : sound n) : s.SoundUpdate n bs body cl :=
    let ⟨⟨hm, hc, hl⟩, hcl, hf, hb, hk, hi⟩ := h
    ⟨hm, hc, hl, hcl, hf, hb, hk, hi⟩
  have hops' (x : Word) : (s.wr 0x1C058 x).keeper.ops = [] := hops
  refine ⟨?_, ?_, ?_, ?_, ?_, ?_, ?_, ?_, ?_⟩
  case _ =>
    intro h he hj
    have hk : cl.kind = 1 := by simpa [closingFits] using (hsound h).fits
    refine State.after_soundUpdate rfl htakes (by decide) (hsound h) (State.judgeBody_firmware hk he hj) fun x => ?_
    rw [State.judged_store (hops' x)]
    exact ⟨rfl, rfl⟩
  case _ =>
    intro h hj hroom
    have hk : cl.kind = 2 ∨ cl.kind = 3 := by simpa [closingFits] using (hsound h).fits
    refine State.after_soundUpdate rfl htakes (by decide) (hsound h) (State.judgeBody_image hk hj hroom) fun x => ?_
    rw [State.judged_store (hops' x)]
    exact ⟨rfl, rfl⟩
  case _ =>
    rintro ⟨hm, hcell, hmax⟩ hlen hfree
    obtain ⟨x, hx⟩ := State.updateBy_judged (yw := yw) (kind := uErase) htakes (updateMode_update hm) (by decide)
      (by decide)
    rw [State.judgeUpdate_erase hm hcell hmax, State.judgeErase_unused hlen hfree] at hx
    exact ⟨_, congrArg Host.Outcome.next hx, State.judged_store (hops' x) _⟩
  case _ =>
    intro tb h ht hseq
    have hk : cl.kind = 4 := by simpa [closingFits] using (hsound h).fits
    refine State.after_soundUpdate rfl htakes (by decide) (hsound h) (State.judgeBody_tested hk ht hseq) fun x => ?_
    rw [State.judged_store (hops' x)]
  case _ =>
    intro h hseq
    have hk : cl.kind = 5 := by simpa [closingFits] using (hsound h).fits
    refine State.after_soundUpdate rfl htakes (by decide) (hsound h) (State.judgeBody_policy hk hseq) fun x => ?_
    rw [State.judged_store (hops' x)]
  case _ =>
    intro h hself hactive hslot
    have hk : cl.kind = 8 := by simpa [closingFits] using (hsound h).fits
    refine State.after_soundUpdate rfl htakes (by decide) (hsound h) (State.judgeBody_keyCert hk hself hactive hslot)
      fun x => ?_
    rw [State.judged_store (hops' x)]
  case _ =>
    intro tg h ht hmay
    have hk : cl.kind = 6 := by simpa [closingFits] using (hsound h).fits
    refine State.after_soundUpdate rfl htakes (by decide) (hsound h) (State.judgeBody_lifecycle hk ht hmay) fun x => ?_
    rw [State.judged_store (hops' x)]
    exact ⟨rfl, rfl⟩
  case _ =>
    intro h hnot
    have hk : cl.kind = 7 := by simpa [closingFits] using (hsound h).fits
    refine State.after_soundUpdate rfl htakes (by decide) (hsound h) (State.judgeBody_debug hk hnot) fun x => ?_
    exact State.judged_open (hops' x) _
  case _ =>
    intro n c hc hm hmode
    have hrun : 1 ≤ n ∧ n ≤ 8 ∧ exec c s = .next (s.updateBy yw n ib len fetched) := by
      simp only [List.mem_cons, Prod.mk.injEq, List.not_mem_nil, or_false] at hc
      rcases hc with ⟨rfl, rfl⟩ | ⟨rfl, rfl⟩ | ⟨rfl, rfl⟩ | ⟨rfl, rfl⟩ | ⟨rfl, rfl⟩ | ⟨rfl, rfl⟩ | ⟨rfl, rfl⟩ |
        ⟨rfl, rfl⟩ <;> exact ⟨by decide, by decide, rfl⟩
    obtain ⟨h1, h8, hexec⟩ := hrun
    obtain ⟨x, hx⟩ := State.updateBy_judged (yw := yw) htakes hm h1 h8
    rw [State.judgeUpdate_wrongMode hmode] at hx
    exact ⟨_, hexec.trans (congrArg Host.Outcome.next hx), State.judged_refuse (hops' x) kWrongMode⟩

end

namespace Sys2Proof.Machine
open Sys2Proof

/-! ### A substitution that has been made (R710, R711) -/

/-- The spare slice of a cluster readies itself for unit `u`, a slice. -/
def State.readiesFor (s : State) (u : Nat) : Bool :=
  unitKind u == kSlice &&
    (s.spareSlice (unitCluster u)).state == .readying && (s.spareSlice (unitCluster u)).lane == some (unitIndex u % 10)

/-- Nothing is judged again while every unit that is reported has its spare. -/
theorem State.rejudge_of_served {s : State} (hpends : s.health.pends = []) (hunrec : s.health.unrecorded = [])
    (hdue : ∀ r ∈ s.health.due, s.readiesFor r.unit = true) : s.rejudge = s := by
  have hagain : (s.health.due ++ s.health.pends.filterMap (·.2) ++ s.health.unrecorded).filter
      (fun r : Report => !s.spareFree r.unit && !s.readiesFor r.unit) = [] := by
    refine List.filter_eq_nil_iff.2 fun r hr => ?_
    simp [hdue r (by simpa [hpends, hunrec] using hr)]
  rw [State.rejudge]
  change ((s.each (List.filter (fun (r : Report) => !s.spareFree r.unit && !s.readiesFor r.unit) _) _).each
    (List.filter (fun (r : Report) => !s.spareFree r.unit && !s.readiesFor r.unit) _) State.judge).fillPend = s
  rw [hagain]
  change s.each s.health.unrecorded _ = s
  rw [hunrec]
  rfl

/-- No report of any unit waits. -/
def State.noReports (s : State) : Prop := s.health.due = [] ∧ s.health.unrecorded = [] ∧ s.health.pends = []

theorem State.rejudge_of_noReports {s : State} (h : s.noReports) : s.rejudge = s :=
  State.rejudge_of_served h.2.2 h.2.1 (by simp [h.1])

/-- The only reports that wait are of unit `u`. -/
def State.reportsOnly (u : Nat) (s : State) : Prop :=
  (∀ x ∈ s.health.due, x.unit = u) ∧ s.health.unrecorded = [] ∧ s.health.pends = []

theorem State.noReports_dropReports {u : Nat} {s : State} (h : s.reportsOnly u) : (s.dropReports u).noReports := by
  obtain ⟨hdue, hunrec, hpends⟩ := h
  refine ⟨List.filter_eq_nil_iff.2 fun x hx => ?_, ?_, ?_⟩
  · simp [hdue x hx]
  · simp [State.dropReports, hunrec]
  · simp [State.dropReports, hpends, Tbl.mapv]

theorem State.noReports_freshMargin {u : Nat} {s : State} (h : s.noReports) : (s.freshMargin u).noReports := by
  rw [State.freshMargin]
  split <;> exact h

theorem State.noReports_of_health_eq {s t : State} (h : t.health = s.health) (hs : s.noReports) : t.noReports := by
  rwa [State.noReports, h]

/-- The fields of the state that a substitution's record changes. -/
theorem State.substituted_effect {r : Report} {s : State} (info : Nat) (h : s.reportsOnly r.unit) :
    (s.substituted r info).health = ((s.dropReports r.unit).freshMargin r.unit).health ∧
    (s.substituted r info).health.due = [] ∧ KOp.health ∈ (s.substituted r info).keeper.ops ∧
    (s.substituted r info).rb Blk.hlt.evtOff 1 = true ∧
    (s.substituted r info).rd 0x22020 = wd (satAdd (2 ^ 32 - 1) (s.rd 0x22020).toNat 1) ∧
    Noted s (s.substituted r info) ∧ (s.substituted r info).bus = s.bus := by
  have hnone := State.noReports_freshMargin (u := r.unit) (State.noReports_dropReports h)
  have hkept : Kept 0x10000000000000 s ((s.dropReports r.unit).freshMargin r.unit) :=
    State.freshMargin_k (m := 0x10000000000000) _ _ rfl
      (State.dropReports_k (m := 0x10000000000000) _ _ rfl (Kept.refl _ _))
  have heq : s.substituted r info =
      ((((s.dropReports r.unit).freshMargin r.unit).raise .hlt 1 r.unit info).countHlt 0).queueHealth :=
    State.rejudge_of_noReports (State.noReports_of_health_eq (by simp [State.countHlt]) hnone)
  generalize (s.dropReports r.unit).freshMargin r.unit = u at hkept hnone heq ⊢
  have hhealth : (((u.raise .hlt 1 r.unit info).countHlt 0).queueHealth).health = u.health := by simp [State.countHlt]
  have hrd : u.rd 0x22020 = s.rd 0x22020 := State.rd_of_kept hkept rfl _
  rw [heq]
  refine ⟨hhealth, hhealth ▸ hnone.1, State.health_mem_queueHealth _, ?_, ?_, ?_, ?_⟩
  · rw [State.rb_queueHealth, State.rb, State.countHlt, State.rd_cnt_of_ne (by decide)]
    exact State.rb_raise_self .hlt r.unit info u (by decide)
  · rw [State.rd_of_regs_eq (s := (u.raise .hlt 1 r.unit info).countHlt 0) (by simp) (by simp), State.countHlt]
    refine (State.rd_wr ..).trans ((if_pos rfl).trans ?_)
    rw [State.rd_raise, if_neg (by decide), hrd]
    rfl
  · exact (Noted.of_engines_eq (hkept.same .engines rfl)).trans
      (Noted.trans (State.raise_noted .hlt 1 r.unit info u) (.of_engines_eq (by simp [State.countHlt])))
  · rw [show (((u.raise .hlt 1 r.unit info).countHlt 0).queueHealth).bus = u.bus by simp [State.countHlt]]
    exact hkept.same .bus rfl

/-! ### The substitution that is due (R711) -/

theorem State.dueNow_of_none {s : State} (h : s.health.due = []) (u : Nat) : s.dueNow u = none := by
  rw [State.dueNow, h]
  rfl

theorem State.dueNow_of_sole {s : State} {r : Report} (hdue : s.health.due = [r]) (hmode : s.mode ≠ .sleep)
    (hreconf : s.reconf (unitCluster r.unit) = false) (hfree : s.spareFree r.unit = true) :
    s.dueNow r.unit = some r := by
  have hfind : s.health.due.find? (fun (x : Report) => groupOf x.unit == groupOf r.unit) = some r := by simp [hdue]
  rw [State.dueNow, hfind]
  simp [hmode, hreconf, hfree]

/-- A report that alone is due is of the only unit reported. -/
theorem State.reportsOnly_of_sole {s : State} {r : Report} (hdue : s.health.due = [r])
    (hunrec : s.health.unrecorded = []) (hpends : s.health.pends = []) : s.reportsOnly r.unit :=
  ⟨by simp [hdue], hunrec, hpends⟩

theorem State.reportsOnly_of_noReports {s : State} (h : s.noReports) (u : Nat) : s.reportsOnly u :=
  ⟨by simp [h.1], h.2⟩

section
variable {s : State} {r : Report} {g : Nat}


theorem engineUnit_kind (hg : g < 32) : unitKind (0x1000 + g) = 1 := by unfold unitKind; omega

theorem engineUnit_index (hg : g < 32) : unitIndex (0x1000 + g) = g := by unfold unitIndex; omega

theorem engineUnit_cluster (hg : g < 32) : unitCluster (0x1000 + g) = g / 8 := by
  simp only [unitCluster, engineUnit_index hg, engineUnit_kind hg, if_pos hg]

theorem State.spareFree_engineUnit (hg : g < 32) : s.spareFree (0x1000 + g) = s.engSpareFree (g / 8) := by
  simp only [State.spareFree, engineUnit_kind hg, engineUnit_cluster hg]

theorem State.dueNow_engine (hg : g < 32) (hu : r.unit = 0x1000 + g) (hdue : s.health.due = [r])
    (hreconf : s.reconf (g / 8) = false) (hmode : s.mode ≠ .sleep) (hfree : s.engSpareFree (g / 8) = true) :
    s.dueNow (mkUnit kEngine g) = some r := by
  have hname : mkUnit kEngine g = r.unit := by rw [hu]; simp [mkUnit, kEngine]
  rw [hname]
  refine State.dueNow_of_sole hdue hmode ?_ ?_
  · rwa [hu, engineUnit_cluster hg]
  · rwa [hu, State.spareFree_engineUnit hg]

/-- The spare engine of `g`'s cluster serves lane `g`, and no report of unit `u` or checkpoint of `g` waits. -/
def State.spareServes (u g : Nat) (s : State) : State :=
  let s := (s.dropReports u).upEng (32 + g / 8) fun e => { e with serving := some g }
  { s with health := { s.health with checkpointed := s.health.checkpointed.filter (· != g) } }

theorem State.eng_spareServes (u h : Nat) :
    (s.spareServes u g).eng h = if h = 32 + g / 8 then { s.eng h with serving := some g } else s.eng h := by
  have heng : (s.spareServes u g).eng h =
      ((s.dropReports u).upEng (32 + g / 8) fun e => { e with serving := some g }).eng h := State.eng_congr rfl h
  rw [heng, State.eng_upEng]
  split
  case isTrue hh => subst hh; rfl
  case isFalse => rfl

theorem State.noReports_spareServes {u : Nat} (h : s.reportsOnly u) : (s.spareServes u g).noReports := by
  obtain ⟨hdue, hunrec, hpends⟩ := State.noReports_dropReports h
  exact ⟨hdue, hunrec, hpends⟩

theorem State.rd_upEng (f : Engine → Engine) (o : Nat) : (s.upEng g f).rd o = s.rd o := rfl

theorem State.rd_spareServes (u o : Nat) : (s.spareServes u g).rd o = s.rd o := rfl

/-- The lane of an engine that holds no image is unused. -/
def Engine.asUnused (e : Engine) : Engine := { e with state := .unused }

theorem State.noReports_upEng (f : Engine → Engine) (h : s.noReports) : (s.upEng g f).noReports := h

/-- An engine without an image is unused once it is served (R711). -/
theorem State.engineSubstitution_of_no_image {timeout : Bool} (hg : g < 32)
    (hnow : s.dueNow (mkUnit kEngine g) = some r) (himage : (s.eng g).image = none)
    (hquiet : (r.cause = 1 && !timeout && !s.atOnce && !s.health.checkpointed.contains g) = false) :
    s.engineSubstitution g timeout =
      ((s.spareServes r.unit g).upEng g Engine.asUnused).substituted r r.cause := by
  have hnone : ¬ ((s.spareServes r.unit g).eng g).image.isSome = true := by
    rw [State.eng_spareServes, if_neg (by omega), himage]
    decide
  rw [State.engineSubstitution, hnow]
  refine (if_neg (by rw [hquiet]; decide)).trans ?_
  change State.substituted r r.cause (if ((s.spareServes r.unit g).eng g).image.isSome then _ else _) = _
  rw [if_neg hnone]
  rfl

/-- The spare serves the lane of an engine without an image, which is unused (R711, R712). -/
theorem State.engineSubstitution_made {timeout : Bool} (hg : g < 32) (hnow : s.dueNow (mkUnit kEngine g) = some r)
    (hsole : s.reportsOnly r.unit) (himage : (s.eng g).image = none)
    (hquiet : (r.cause = 1 && !timeout && !s.atOnce && !s.health.checkpointed.contains g) = false) :
    let t := s.engineSubstitution g timeout
    (t.eng (32 + g / 8)).serving = some g ∧ (t.eng g).state = .unused ∧ t.health.due = [] ∧
    KOp.health ∈ t.keeper.ops ∧ t.rb Blk.hlt.evtOff 1 = true ∧
    t.rd 0x22020 = wd (satAdd (2 ^ 32 - 1) (s.rd 0x22020).toNat 1) := by
  have hne : 32 + g / 8 ≠ g := by omega
  rw [State.engineSubstitution_of_no_image hg hnow himage hquiet]
  have honly := State.reportsOnly_of_noReports
    (State.noReports_upEng (g := g) Engine.asUnused (State.noReports_spareServes (g := g) hsole)) r.unit
  have hrd : ((s.spareServes r.unit g).upEng g Engine.asUnused).rd 0x22020 = s.rd 0x22020 := by
    rw [State.rd_upEng, State.rd_spareServes]
  have hspare := State.eng_upEng g (32 + g / 8) Engine.asUnused (s.spareServes r.unit g)
  have hold := State.eng_upEng_self g Engine.asUnused (s.spareServes r.unit g)
  rw [if_neg hne, State.eng_spareServes, if_pos rfl] at hspare
  generalize (s.spareServes r.unit g).upEng g Engine.asUnused = v at honly hrd hspare hold ⊢
  obtain ⟨-, hdue, hop, hevt, hcount, hnoted, -⟩ := State.substituted_effect r.cause honly
  rw [hrd] at hcount
  refine ⟨?_, ?_, hdue, hop, hevt, hcount⟩
  · rcases hnoted (32 + g / 8) with h | h <;> rw [h, hspare]
  · rcases hnoted g with h | h <;> rw [h, hold, Engine.asUnused]

/-- A substitution for wear waits for a checkpoint, where neither the time limit nor the mode ends the wait (R711). -/
theorem State.engineSubstitution_waits (hcause : r.cause = 1) (hnow : s.dueNow (mkUnit kEngine g) = some r)
    (hck : s.health.checkpointed = []) (h1 : s.mode ≠ .standby) (h2 : s.mode ≠ .service) :
    s.engineSubstitution g false = s := by
  rw [State.engineSubstitution, hnow]
  exact if_pos (by simp [hcause, State.atOnce, hck, h1, h2])

end

/-! ### Signals and frames of a tile (R522, R523) -/

theorem State.eng_noteEngine_of_ne {g h : Nat} (hg : h ≠ g) (s : State) : (s.noteEngine g).eng h = s.eng h := by
  rw [State.noteEngine]
  split
  · exact (State.eng_setEng ..).trans (if_neg hg)
  · rfl

theorem State.eng_privArrive_of_ne {g h : Nat} (hg : h ≠ g) (i : Nat) (s : State) :
    (s.privArrive g i).eng h = s.eng h := by
  rw [State.privArrive]
  dsimp only
  split
  · exact (State.eng_setEng ..).trans (if_neg hg)
  · rw [State.eng_noteEngine_of_ne hg]
    exact (State.eng_setEng ..).trans (if_neg hg)

/-- A loop whose turns each change one engine of their own leaves every other engine. -/
theorem State.eng_each_of_ne {f : Nat → State → State} {place : Nat → Nat} {h : Nat}
    (hother : ∀ j u, h ≠ place j → (f j u).eng h = u.eng h) {l : List Nat} (hl : ∀ j ∈ l, h ≠ place j) (s : State) :
    (s.each l f).eng h = s.eng h := by
  unfold State.each
  induction l generalizing s with
  | nil => rfl
  | cons a l ih =>
    exact (ih (fun j hj => hl j (List.mem_cons_of_mem _ hj)) (f a s)).trans (hother a s (hl a List.mem_cons_self))

/-- A loop whose turns each change one engine of their own does to it what its turn does. -/
theorem State.eng_each_own {f : Nat → State → State} {place : Nat → Nat} (hinj : Function.Injective place)
    (hother : ∀ j h u, h ≠ place j → (f j u).eng h = u.eng h) {l : List Nat} (hl : l.Nodup) {j : Nat} (hj : j ∈ l)
    (s : State) : ∃ u, u.eng (place j) = s.eng (place j) ∧ (s.each l f).eng (place j) = (f j u).eng (place j) := by
  obtain ⟨l₁, l₂, rfl⟩ := List.append_of_mem hj
  have hsplit : s.each (l₁ ++ j :: l₂) f = (f j (s.each l₁ f)).each l₂ f := by
    rw [State.each, List.foldl_append]
    rfl
  obtain ⟨-, hl₂, hdisj⟩ := List.nodup_append.1 hl
  refine ⟨s.each l₁ f, State.eng_each_of_ne (fun k u => hother k _ u) (fun k hk h => ?_) s, ?_⟩
  · exact hdisj k hk j List.mem_cons_self (hinj h).symm
  · rw [hsplit]
    refine State.eng_each_of_ne (fun k u => hother k _ u) (fun k hk h => ?_) _
    exact (List.nodup_cons.1 hl₂).1 (hinj h ▸ hk)

section
variable {s : State} {c k : Nat}

/-- What TILE_SIGNAL does for one engine of the cluster. -/
def State.signalled (c k j : Nat) (s : State) : State :=
  if (s.eng (8 * c + j)).live then s.privArrive (8 * c + j) (8 + k) else s

theorem State.tileSignal_eq (hrun : (s.tile c).running = true) (hk : k < 4) :
    s.tileSignal c k = s.each (List.range 8) (State.signalled c k) :=
  if_neg (by simp [hrun, Nat.not_le.2 hk])

theorem State.eng_signalled_of_ne (j h : Nat) (u : State) (hh : h ≠ 8 * c + j) :
    (u.signalled c k j).eng h = u.eng h := by
  rw [State.signalled]
  split
  · exact State.eng_privArrive_of_ne hh _ u
  · rfl

/-- Each live engine of the cluster counts an arrival at its tile's source (R522). -/
theorem State.tileSignal_live (hrun : (s.tile c).running = true) (hk : k < 4) {j : Nat} (hj : j < 8)
    (hlive : (s.eng (8 * c + j)).live = true) :
    ((s.tileSignal c k).cpu (8 * c + j)).priv (8 + k) =
      { (s.cpu (8 * c + j)).priv (8 + k) with
        pending := true, count := satAdd 255 ((s.cpu (8 * c + j)).priv (8 + k)).count 1 } := by
  obtain ⟨u, hu, ht⟩ := State.eng_each_own (f := State.signalled c k) (place := fun j => 8 * c + j)
    (fun a b h => Nat.add_left_cancel h) State.eng_signalled_of_ne List.nodup_range (List.mem_range.2 hj) s
  have hturn : u.signalled c k j = u.privArrive (8 * c + j) (8 + k) := if_pos (hu ▸ hlive)
  rw [← State.tileSignal_eq hrun hk, hturn] at ht
  rw [State.cpu, ht, State.cpu, ← hu]
  exact State.priv_privArrive _ _ _

theorem State.tileSignal_other (hrun : (s.tile c).running = true) (hk : k < 4) {h : Nat}
    (hh : h / 8 ≠ c ∨ (s.eng h).live = false) : (s.tileSignal c k).eng h = s.eng h := by
  rw [State.tileSignal_eq hrun hk]
  by_cases hplace : ∃ j < 8, h = 8 * c + j
  · obtain ⟨j, hj, rfl⟩ := hplace
    have hdead : (s.eng (8 * c + j)).live = false := hh.resolve_left fun h => h (by omega)
    obtain ⟨u, hu, ht⟩ := State.eng_each_own (f := State.signalled c k) (place := fun j => 8 * c + j)
      (fun a b h => Nat.add_left_cancel h) State.eng_signalled_of_ne List.nodup_range (List.mem_range.2 hj) s
    have hturn : u.signalled c k j = u := if_neg (by simp [hu, hdead])
    rw [ht, hturn, hu]
  · exact State.eng_each_of_ne (place := fun j => 8 * c + j) (fun j u => State.eng_signalled_of_ne j h u)
      (fun j hj hne => hplace ⟨j, List.mem_range.1 hj, hne⟩) s

theorem State.tileFrame_eq (picks : List Nat) (d : List Byte) (hrun : (s.tile c).running = true) (hc : c < 4) :
    s.tileFrame picks c d =
      if (s.tileSubmit picks c d).1 = subOk then (s.tileSubmit picks c d).2
      else ((s.tileSubmit picks c d).2.cntF (clusterBase c + 0x200040) 0 16).emit
        (.tileReport c (s.tileSubmit picks c d).1) := by
  have hgo : ¬ (!(s.tile c).running || decide (4 ≤ c)) = true := by simp [hrun, Nat.not_le.2 hc]
  exact if_neg hgo

/-- A sound submission without a TX context goes a line frame's way (R523). -/
theorem State.tileSubmit_line {d : List Byte} (picks : List Nat) (hok : submitOk d = true)
    (hctx : nbit (byteAt d 3) 2 = false) :
    s.tileSubmit picks c d = s.lineFrame picks c (submitFrame d srcTile c s.stamp) (96 + c) false
      (launchOf (nbit (byteAt d 3) 0) (leAt d 8 8)) (nbit (byteAt d 3) 1) (leAt d 28 4) (fun _ u => (true, u)) := by
  rw [State.tileSubmit, if_neg (by simp [hok])]
  simp only [hctx, Bool.false_and, Bool.false_eq_true, if_false]

theorem State.tileSubmit_bad {d : List Byte} (picks : List Nat) (hok : submitOk d = false) :
    s.tileSubmit picks c d = (subBad, s) := by
  rw [State.tileSubmit, if_pos (by simp [hok])]

end

/-! ### A restart (R518, R527) -/

/-- Between `s` and `t` engine `g` is as before but for its registers. -/
def OnlyCpu (g : Nat) (s t : State) : Prop := ∃ c, t.eng g = { s.eng g with cpu := c }

theorem OnlyCpu.of_eng_eq {g : Nat} {s t : State} (h : t.eng g = s.eng g) : OnlyCpu g s t := ⟨_, h⟩

theorem Noted.onlyCpu {s t : State} (h : Noted s t) (g : Nat) : OnlyCpu g s t := by
  rcases h g with h | h
  · exact ⟨_, h⟩
  · exact ⟨_, h⟩

theorem Noted.event {s t : State} (h : Noted s t) (g : Nat) :
    ∃ b, t.eng g = { s.eng g with cpu := { (s.eng g).cpu with event := b } } := by
  rcases h g with h | h
  · exact ⟨(s.eng g).cpu.event, h⟩
  · exact ⟨true, h⟩

theorem OnlyCpu.trans {g : Nat} {s t u : State} (h : OnlyCpu g s t) (k : OnlyCpu g t u) : OnlyCpu g s u := by
  obtain ⟨c, hc⟩ := h
  obtain ⟨d, hd⟩ := k
  exact ⟨d, by rw [hd, hc]⟩

theorem State.upCpu_onlyCpu (g : Nat) (f : Cpu → Cpu) (s : State) : OnlyCpu g s (s.upCpu g f) :=
  ⟨_, State.eng_upEng_self g _ s⟩

theorem State.samplePriv_onlyCpu (g i : Nat) (s : State) : OnlyCpu g s (s.samplePriv g i) := by
  rw [State.samplePriv]
  dsimp only
  split
  · exact (State.upCpu_onlyCpu g _ s).trans ((State.noteEngine_noted g _).onlyCpu g)
  · exact State.upCpu_onlyCpu g _ s

theorem State.complete1_onlyCpu (g : Nat) (k : Bool × Nat) (s : State) : OnlyCpu g s (s.complete1 g k) := by
  rw [State.complete1]
  split
  · exact ((Noted.of_engines_eq (by simp)).trans (State.noteSrc_noted _ _ _)).onlyCpu g
  · exact State.samplePriv_onlyCpu g _ s

theorem State.completeAll_onlyCpu (g : Nat) (s : State) : OnlyCpu g s (s.completeAll g) :=
  (State.each_induct (P := OnlyCpu g s) (fun k u hu => hu.trans (State.complete1_onlyCpu g k u)) _
    (.of_eng_eq rfl)).trans (State.upCpu_onlyCpu g _ _)

/-- An engine that begins at its entry and runs. -/
def Engine.begun (cause : RestartCause) (restored : Bool) (e : Engine) : Engine :=
  { e with cpu := e.firstCpu cause restored, cause := cause, dbgHalt := false, state := .running }

section
variable {s : State} {g : Nat}

theorem State.engineMayRun_of_ctl_eq {s t : State} (h : t.ctl = s.ctl) (g : Nat) :
    t.engineMayRun g = s.engineMayRun g := by
  simp only [State.engineMayRun, State.reconf, State.mode, h]

/-- An engine that its mode lets run begins at an entry that can be fetched from. -/
theorem State.eng_beginEngine {cause : RestartCause} {restored : Bool} (hrun : s.engineMayRun g = true)
    (hentry : fetchable ((s.eng g).firstCpu cause restored).pc = true) :
    (s.beginEngine g cause restored).eng g = (s.eng g).begun cause restored := by
  obtain ⟨c, hc⟩ := State.completeAll_onlyCpu g s
  have hmay : (s.completeAll g).engineMayRun g = true := by
    rw [State.engineMayRun_of_ctl_eq
      ((State.completeAll_k (m := 0x100004000000) g s rfl (Kept.refl _ _)).same .ctl rfl), hrun]
  have hbegun : ((s.completeAll g).upEng g fun e =>
      { e with cpu := e.firstCpu cause restored, cause := cause, dbgHalt := false,
               state := if (s.completeAll g).engineMayRun g then .running else .stopped }).eng g =
      (s.eng g).begun cause restored := by
    rw [State.eng_upEng_self, hmay, hc]
    rfl
  rw [State.beginEngine]
  generalize (s.completeAll g).upEng g _ = u at hbegun ⊢
  have hpc : (u.cpu g).pc = ((s.eng g).firstCpu cause restored).pc := by rw [State.cpu, hbegun]; rfl
  rw [State.goto_of_fetchable (hpc ▸ hentry), State.upCpu, State.eng_upEng_self]
  exact hbegun

theorem State.waits_withdraw (g : Nat) (s : State) :
    (s.withdraw g).waits = s.waits.filter fun w => !(w.engine == some g) := by
  have hkept : ∀ (l : List Nat) (u : State), (u.each l State.restDeficit).waits = u.waits := fun l u =>
    State.each_same (·.waits) l
      (fun p v => (State.restDeficit_k (m := 0x800) p v rfl (Kept.refl _ _)).same .waits rfl) u
  have hcount : ∀ (u : State) (n : Nat) (f : Engine → Engine),
      ((u.cnt (engBase g + 0x30) n).upEng g f).waits = u.waits :=
    fun u n f => (State.upEng_k (m := 0x100000000008) g f _ rfl
      (State.cnt_k (m := 0x100000000008) _ u n rfl (Kept.refl _ _))).same .waits rfl
  rw [State.withdraw, hcount, State.dropWaits, hkept]

/-- A restart leaves no submission of the engine outstanding (R518). -/
theorem State.eng_withdraw (g : Nat) (s : State) :
    (s.withdraw g).eng g = { s.eng g with subs := [], done := [] } := by
  rw [State.withdraw]
  dsimp only
  rw [State.eng_upEng_self]
  refine congrArg (fun e : Engine => { e with subs := [], done := [] }) (State.eng_congr ?_ g)
  simp only [State.cnt_fields]
  exact (State.dropWaits_k (m := 0x8800) _ s rfl (Kept.refl _ _)).same .engines rfl

/-- Memories, inboxes and submissions of an engine that restarts (R518). -/
def Engine.renewed (e : Engine) : Engine :=
  let e := ({ e with subs := [], done := [] } : Engine).setup.restore
  { e with inboxes := e.inboxes.mapv (fun _ => []) fun (l : List InboxEnt) =>
      l.map fun x => if x.taken then { x with taken := false, redelivered := true } else x }

theorem Engine.renewed_fields {e : Engine} {m : Image} (h : e.image = some m) :
    e.renewed.image = some m ∧ e.renewed.subs = [] ∧ e.renewed.imem = bytesTbl 0 m.code := by
  have hsetup : (({ e with subs := [], done := [] } : Engine).setup) =
      { e with subs := [], done := [], imem := bytesTbl 0 m.code,
               dmem := overlay (m.paramAddr - 0x10000000) m.params (bytesTbl 0 m.data) } := by
    simp only [Engine.setup, h]
  rw [Engine.renewed, hsetup, Engine.restore]
  dsimp only
  simp only [h]
  split <;> exact ⟨rfl, rfl, rfl⟩

/-- The engine at its entry, before the restart is reported. -/
def State.renewedAt (g : Nat) (s : State) : State :=
  let s := s.withdraw g
  let s := s.upEng g fun e =>
    let e := e.setup.restore
    { e with inboxes := e.inboxes.mapv (fun _ => []) fun (l : List InboxEnt) =>
        l.map fun x => if x.taken then { x with taken := false, redelivered := true } else x }
  s.setTl (40 + g) { s.tl (40 + g) with taskOpen := false }

theorem State.eng_renewedAt (g : Nat) (s : State) : (s.renewedAt g).eng g = (s.eng g).renewed := by
  have hset : ∀ (u : State) (x : Timeline), (u.setTl (40 + g) x).eng g = u.eng g := fun u x => rfl
  rw [State.renewedAt, hset, State.eng_upEng_self, State.eng_withdraw]
  rfl

/-- The address an engine restarts at (R527). -/
def Image.restartAt (m : Image) : Nat := if m.restartEntry = 0 then m.entry else m.restartEntry

/-- Registers of an engine that the host restarts (R527). -/
theorem Engine.firstCpu_host {e : Engine} {m : Image} (h : e.image = some m) (restored : Bool) :
    let c := e.firstCpu .host restored
    c.pc = m.restartAt ∧ c.x.getD 0 0 = wd m.paramAddr ∧ c.x.getD 1 0 = wd m.params.length ∧ c.x.getD 2 0 = 3 ∧
    c.x.getD 15 0 = 0x10010000 := by
  have hcpu : e.firstCpu .host restored =
      { (((((Cpu.start.setX 0 (wd m.paramAddr)).setX 1 (wd m.params.length)).setX 2 3).setX 15 0x10010000).setX 3
          (if restored then wd e.ckptSeq else 0xFFFFFFFF)) with pc := m.restartAt } := by
    simp only [Engine.firstCpu, h, Image.restartAt, reduceCtorEq, false_or]
    rfl
  rw [hcpu]
  exact ⟨rfl, rfl, rfl, rfl, rfl⟩

theorem State.restartEngine_eq {cause : RestartCause} {m : Image} (himage : (s.eng g).image = some m)
    (hretired : (s.eng g).retired = false) (hwaits : s.faultWaits (0x1000 + g) = false) :
    s.restartEngine g cause =
      (((s.renewedAt g).beginEngine g cause ((s.renewedAt g).eng g).ckptValid).raise (.eng g) 1 g cause.code).countEng
        g 0 := by
  have hgo : ¬ ((s.eng g).image.isNone || (s.eng g).retired || s.faultWaits (0x1000 + g)) = true := by
    simp [himage, hretired, hwaits]
  rw [State.restartEngine]
  exact if_neg hgo

theorem State.renewedAt_k (g : Nat) (s : State) : Kept 0x110000000000 (s.withdraw g) (s.renewedAt g) := by
  rw [State.renewedAt]
  exact State.setTl_k (m := 0x110000000000) _ _ _ rfl
    (State.upEng_k (m := 0x110000000000) g _ _ rfl (Kept.refl _ _))

theorem State.engineMayRun_renewedAt (h : s.engineMayRun g = true) : (s.renewedAt g).engineMayRun g = true := by
  have hctl : (s.renewedAt g).ctl = s.ctl := ((State.renewedAt_k g s).same .ctl rfl).trans
    ((State.withdraw_k (m := 0x100000008808) g s rfl (Kept.refl _ _)).same .ctl rfl)
  rw [State.engineMayRun_of_ctl_eq hctl, h]

/-- What reads find of an engine that the host has restarted. -/
theorem State.reads_of_begun {t : State} {e : Engine} {m : Image} {restored b : Bool} (himage : e.image = some m)
    (hsubs : e.subs = []) (himem : e.imem = bytesTbl 0 m.code)
    (ht : t.eng g = { e.begun .host restored with cpu := { (e.begun .host restored).cpu with event := b } }) :
    (t.eng g).state = .running ∧ (t.eng g).cause = .host ∧ (t.eng g).dbgHalt = false ∧ (t.eng g).subs = [] ∧
    (t.cpu g).pc = m.restartAt ∧ t.x g 0 = wd m.paramAddr ∧ t.x g 1 = wd m.params.length ∧ t.x g 2 = 3 ∧
    t.x g 15 = 0x10010000 ∧ (t.eng g).imem = bytesTbl 0 m.code := by
  obtain ⟨hpc, hx0, hx1, hx2, hx15⟩ := Engine.firstCpu_host himage restored
  rw [State.x, State.x, State.x, State.x, State.cpu, ht]
  exact ⟨rfl, rfl, rfl, hsubs, hpc, hx0, hx1, hx2, hx15, himem⟩

/-- The host's restart of an engine that holds an image (R518, R527). -/
theorem State.restartEngine_host {m : Image} (hrun : s.engineMayRun g = true) (himage : (s.eng g).image = some m)
    (hretired : (s.eng g).retired = false) (hwaits : s.faultWaits (0x1000 + g) = false)
    (hentry : fetchable m.restartAt = true) :
    let t := s.restartEngine g .host
    (t.eng g).state = .running ∧ (t.eng g).cause = .host ∧ (t.eng g).dbgHalt = false ∧ (t.eng g).subs = [] ∧
    (t.cpu g).pc = m.restartAt ∧ t.x g 0 = wd m.paramAddr ∧ t.x g 1 = wd m.params.length ∧ t.x g 2 = 3 ∧
    t.x g 15 = 0x10010000 ∧ (t.eng g).imem = bytesTbl 0 m.code ∧
    (∀ w ∈ t.waits, w.engine ≠ some g) ∧ t.rb (Blk.eng g).evtOff 1 = true := by
  obtain ⟨himage', hsubs, himem⟩ := Engine.renewed_fields himage
  have hrenewed := State.eng_renewedAt g s
  have hmay := State.engineMayRun_renewedAt hrun
  have hwaiting : (s.renewedAt g).waits = s.waits.filter fun w => !(w.engine == some g) :=
    ((State.renewedAt_k g s).same .waits rfl).trans (State.waits_withdraw g s)
  rw [State.restartEngine_eq himage hretired hwaits]
  generalize s.renewedAt g = u at hrenewed hmay hwaiting ⊢
  generalize (s.eng g).renewed = e at hrenewed himage' hsubs himem
  have hpc := (Engine.firstCpu_host himage' e.ckptValid).1
  have hbegin := State.eng_beginEngine (s := u) (g := g) (cause := .host) (restored := e.ckptValid) hmay
    (by rw [hrenewed, hpc, hentry])
  have hkept := State.beginEngine_k (m := 0x2030003c000008) g .host e.ckptValid u rfl (Kept.refl _ _)
  rw [hrenewed] at hbegin ⊢
  generalize u.beginEngine g .host e.ckptValid = v at hbegin hkept ⊢
  have heng : (((v.raise (.eng g) 1 g RestartCause.host.code).countEng g 0).eng g) =
      (v.raise (.eng g) 1 g RestartCause.host.code).eng g := State.eng_congr (by simp [State.countEng]) g
  have hwaits' : ((v.raise (.eng g) 1 g RestartCause.host.code).countEng g 0).waits = u.waits := by
    rw [State.countEng, (State.cnt_k (m := 8) _ _ 1 rfl (Kept.refl _ _)).same .waits rfl]
    exact (State.raise_k (m := 0x2030003c000008) _ _ _ _ _ rfl hkept).same .waits rfl
  have hshape : ∃ b, ((v.raise (.eng g) 1 g RestartCause.host.code).countEng g 0).eng g =
      { e.begun .host e.ckptValid with cpu := { (e.begun .host e.ckptValid).cpu with event := b } } := by
    rw [heng, ← hbegin]
    exact (State.raise_noted (.eng g) 1 g RestartCause.host.code v).event g
  have hevt : ((v.raise (.eng g) 1 g RestartCause.host.code).countEng g 0).rb (Blk.eng g).evtOff 1 = true := by
    rw [State.rb, State.countEng, State.rd_cnt_of_ne (by show engBase g + 0x10 ≠ engBase g + 0x20 + 4 * 0; omega)]
    exact State.rb_raise_self (.eng g) _ _ _ (by decide)
  obtain ⟨b, hb⟩ := hshape
  obtain ⟨hstate, hcause, hhalt, hsub, hpc, hx0, hx1, hx2, hx15, hcode⟩ := State.reads_of_begun himage' hsubs himem hb
  refine ⟨hstate, hcause, hhalt, hsub, hpc, hx0, hx1, hx2, hx15, hcode, fun w hw => ?_, hevt⟩
  rw [hwaits', hwaiting] at hw
  simpa using (List.mem_filter.1 hw).2

/-- ENG[g]_CTRL lies in the engine's window. -/
theorem Reg.ofOff_engCtrl (hg : g < 32) : Reg.ofOff (engBase g) = some (.eng g 0) := by
  have hoff : engBase g = 0x1000000 + g / 8 * 0x400000 + 0x200000 + g % 8 * 0x10000 := by
    unfold engBase clusterBase; omega
  have hdiv : (engBase g - 0x1000000) / 0x400000 = g / 8 := by omega
  have hmod : (engBase g - 0x1000000) % 0x400000 = 0x200000 + g % 8 * 0x10000 := by omega
  have hlane : 8 * (g / 8) + (0x200000 + g % 8 * 0x10000 - 0x200000) / 0x10000 = g := by omega
  have hword : (0x200000 + g % 8 * 0x10000) % 0x10000 = 0 := by omega
  rw [Reg.ofOff, if_neg (by omega), if_neg (by omega), if_neg (by omega), if_neg (by omega), if_neg (by omega),
    if_pos (by omega), hdiv, hmod, Reg.ofCluster, if_neg (by omega), if_neg (by omega), if_neg (by omega),
    if_neg (by omega), if_pos (by omega)]
  simp only [hlane, hword]
  rfl

theorem exec_engineRestart (yw : Bool) (hg : g < 32) (ho : s.open_ (engBase g) = true) (hm : s.mode.live = true) :
    exec (.engineRestart yw g) s =
      .next (if (s.eng g).state == .unused || (s.eng g).state == .reset || (s.eng g).retired then s
        else s.restartEngine g .host) := by
  refine congrArg Host.Outcome.next ((State.writeWord_of_open _ _ (Reg.ofOff_engCtrl hg) ho).trans ?_)
  change s.engCtrlWrite g 0x80000000 = _
  rw [State.engCtrlWrite, State.gate, if_pos hm]
  rfl

end

end Sys2Proof.Machine

section
open Sys2Proof Sys2Proof.Machine

/-- Settles O55: a restart begins the engine at its entry with memories, inboxes and submissions renewed; a substitution
that is due is made at once, or waits; a tile's frame goes a line frame's way, and its signal reaches live engines. -/
theorem enginesAndTiles : Obligations.EnginesAndTiles := by
  unfold Obligations.EnginesAndTiles
  intro s yw g c k m r d picks e entry
  refine ⟨?restart, ?unused, ?substitution, fun hdue => ?_, ?frame, ?bad, ?still, ?signal⟩
  case restart =>
    intro hg ho hm hrun himage hunused hreset hretired hwaits hentry
    refine ⟨_, (exec_engineRestart yw hg ho hm).trans (congrArg Host.Outcome.next (if_neg ?_)),
      State.restartEngine_host hrun himage hretired hwaits hentry⟩
    simp only [Bool.or_eq_true, beq_iff_eq, not_or]
    exact ⟨⟨hunused, hreset⟩, ne_true_of_eq_false hretired⟩
  case unused =>
    intro hg ho hm hunused
    refine (exec_engineRestart yw hg ho hm).trans (congrArg Host.Outcome.next (if_pos ?_))
    rw [show (s.eng g).state = .unused from hunused]
    rfl
  case substitution =>
    intro hg hu hdue hunrec hpends hreconf hmode hfree himage
    have hnow := State.dueNow_engine hg hu hdue hreconf hmode hfree
    have hsole := State.reportsOnly_of_sole hdue hunrec hpends
    refine ⟨fun hcause => ?_, fun hcause hck h1 h2 => ?_, fun hcause => ?_⟩
    · exact ⟨_, rfl, State.engineSubstitution_made hg hnow hsole himage (by simp [hcause])⟩
    · exact congrArg Host.Outcome.next (State.engineSubstitution_waits hcause hnow hck h1 h2)
    · obtain ⟨hserving, -, hdone, -⟩ := State.engineSubstitution_made (timeout := true) hg hnow hsole himage (by simp)
      exact ⟨_, rfl, hserving, hdone⟩
  · have hnone := State.dueNow_of_none hdue (mkUnit kEngine g)
    refine congrArg Host.Outcome.next ?_
    rw [State.engineSubstitution, hnone]
  case frame =>
    intro hrun hc hok hctx way
    have htile := State.tileFrame_eq picks d hrun hc
    rw [State.tileSubmit_line picks hok hctx] at htile
    exact ⟨fun h => congrArg Host.Outcome.next (htile.trans (if_pos h)),
      fun h => congrArg Host.Outcome.next (htile.trans (if_neg h))⟩
  case bad =>
    intro hrun hc hok
    have htile := State.tileFrame_eq picks d hrun hc
    rw [State.tileSubmit_bad picks hok] at htile
    exact congrArg Host.Outcome.next htile
  case still =>
    intro hstill
    exact ⟨congrArg Host.Outcome.next (if_pos (by simp [hstill])),
      congrArg Host.Outcome.next (if_pos (by simp [hstill]))⟩
  case signal =>
    intro hrun hk
    exact ⟨_, rfl, fun j hj hlive => State.tileSignal_live hrun hk hj hlive,
      fun h hh => State.tileSignal_other hrun hk hh⟩

end

namespace Sys2Proof.Machine
open Sys2Proof

/-! ### Links that are down, and units that have retired, stay so (R368, R718) -/

/-- No port's retirement changes, and no link comes up. -/
def PortsDown (s t : State) : Prop :=
  ∀ p, (t.port p).retired = (s.port p).retired ∧ ((s.port p).link = false → (t.port p).link = false)

theorem PortsDown.of_ports_eq {s t : State} (h : t.ports = s.ports) : PortsDown s t := fun p => by
  rw [State.port_of_ports_eq h p]
  exact ⟨rfl, id⟩

theorem PortsDown.of_kept {m : Nat} {s t : State} (h : Kept m s t) (hm : m.testBit Field.ports.ctorIdx = false) :
    PortsDown s t := .of_ports_eq (h.same .ports hm)

theorem PortsDown.trans {s t u : State} (h : PortsDown s t) (k : PortsDown t u) : PortsDown s u := fun p =>
  ⟨(k p).1.trans (h p).1, fun hp => (k p).2 ((h p).2 hp)⟩

theorem PortsDown.each {α : Type} {f : α → State → State} (h : ∀ a u, PortsDown u (f a u)) (l : List α) (s : State) :
    PortsDown s (s.each l f) :=
  State.each_induct (fun a u hu => hu.trans (h a u)) l (.of_ports_eq rfl)

theorem PortsDown.ite {c : Prop} [Decidable c] {s t : State} (h : PortsDown s t) :
    PortsDown s (if c then t else s) := by
  split
  · exact h
  · exact .of_ports_eq rfl

/-- A port is written with a state that has not come up. -/
theorem State.setPort_portsDown {p : Nat} {x : Port} {s : State} (hr : x.retired = (s.port p).retired)
    (hl : (s.port p).link = false → x.link = false) : PortsDown s (s.setPort p x) := by
  intro k
  rw [State.port_setPort]
  split
  case isTrue hk => subst hk; exact ⟨hr, hl⟩
  case isFalse => exact ⟨rfl, id⟩

/-- A port whose link is taken down. -/
theorem State.upPort_portsDown {f : Port → Port} (hr : ∀ x, (f x).retired = x.retired) (hl : ∀ x, (f x).link = false)
    (p : Nat) (s : State) : PortsDown s (s.upPort p f) ∧ ((s.upPort p f).port p).link = false := by
  refine ⟨State.setPort_portsDown (hr _) fun _ => hl _, ?_⟩
  rw [State.port_upPort, if_pos rfl, hl]

theorem State.pauseWatch_portsDown (p : Nat) (s : State) : PortsDown s (s.pauseWatch p) := by
  have hset : ∀ b c, PortsDown s (s.setPort p { s.port p with xoffSent := b, ctrl := c }) :=
    fun b c => State.setPort_portsDown rfl id
  rw [State.pauseWatch]
  split
  · exact .ite (hset _ _)
  · split
    · exact .ite (hset _ _)
    · exact .ite (hset _ _)

theorem State.chargeMoved_portsDown (p : Nat) (s : State) : PortsDown s (s.chargeMoved p) :=
  .ite (State.pauseWatch_portsDown _ s)

theorem State.freeRecord_portsDown (c : Nat) (s : State) : PortsDown s (s.freeRecord c) := by
  unfold State.freeRecord
  split
  · exact .of_ports_eq rfl
  · next r _ =>
    extract_lets retired s1 q s2 s3
    have h1 : PortsDown s s1 := .of_kept (m := 0x1080) (State.handBack_k _ _ rfl
      (Kept.each r.cells _ (fun d u => State.setLink_k d Link1.free u rfl (Kept.refl _ u)) (Kept.refl _ s))) rfl
    have h2 : PortsDown s1 s2 := .of_ports_eq rfl
    have h3 : PortsDown s s3 := (h1.trans h2).trans (State.chargeMoved_portsDown _ s2)
    split
    · exact h3.trans (.of_kept (State.absorb_k (m := 0x2010003c001008) s3 rfl (Kept.refl _ _)) rfl)
    · exact h3

theorem State.dropRef_portsDown (c : Nat) (s : State) : PortsDown s (s.dropRef c) := by
  unfold State.dropRef
  split
  · exact .of_ports_eq rfl
  · split
    · exact .of_ports_eq rfl
    · split
      · exact State.freeRecord_portsDown c s
      · exact .of_ports_eq rfl

theorem State.entryGone_portsDown (p outcome : Nat) (e : EthEntry) (s : State) :
    PortsDown s (s.entryGone p outcome e) := by
  have hrecord : PortsDown s (s.tsRecord p e outcome 0) :=
    .of_kept (State.tsRecord_k (m := 0x2010023c000008) p e outcome 0 s rfl (Kept.refl _ s)) rfl
  rw [State.entryGone]
  split
  · exact hrecord.trans (State.dropRef_portsDown _ _)
  · exact hrecord

theorem EthTx.link_giveBack (y : EthTx) (x : Port) :
    (y.giveBack x).link = x.link ∧ (y.giveBack x).retired = x.retired := by
  unfold EthTx.giveBack
  split <;> exact ⟨rfl, rfl⟩

theorem Port.link_foldl_giveBack (l : List EthTx) (x : Port) :
    (l.foldl (fun x y => y.giveBack x) x).link = x.link ∧
    (l.foldl (fun x y => y.giveBack x) x).retired = x.retired := by
  induction l generalizing x with
  | nil => exact ⟨rfl, rfl⟩
  | cons y l ih =>
    obtain ⟨hlink, hretired⟩ := EthTx.link_giveBack y x
    rw [List.foldl_cons, (ih _).1, (ih _).2]
    exact ⟨hlink, hretired⟩

theorem State.portDiscard_portsDown (p : Nat) (s : State) : PortsDown s (s.portDiscard p) := by
  unfold State.portDiscard
  extract_lets x under queued back s1 s2
  obtain ⟨hlink, hretired⟩ := Port.link_foldl_giveBack under x
  have h1 : PortsDown s s1 := State.setPort_portsDown hretired fun h => hlink.trans h
  have h2 : PortsDown s1 s2 := .of_kept (State.countMac_k (m := 8) p 12 s1 _ rfl (Kept.refl _ s1)) rfl
  exact (h1.trans h2).trans (.each (fun e u => State.entryGone_portsDown p txDiscarded e u) _ s2)

theorem State.advanceCredit_portsDown (p : Nat) (s : State) : PortsDown s (s.advanceCredit p) :=
  State.setPort_portsDown rfl id

theorem State.linkDown_portsDown (p : Nat) (s : State) :
    PortsDown s (s.linkDown p) ∧ ((s.linkDown p).port p).link = false := by
  unfold State.linkDown
  split
  case isTrue h => exact ⟨.of_ports_eq rfl, by simpa using h⟩
  case isFalse =>
    extract_lets s1 s2 s3
    have hdiscard := (State.advanceCredit_portsDown p s).trans (State.portDiscard_portsDown p _)
    obtain ⟨hport, hdown⟩ := State.upPort_portsDown (f := fun x =>
      { x with link := false, preempt := false, lpiTx := false, lpiRx := false, xoffSent := false })
      (fun _ => rfl) (fun _ => rfl) p ((s.advanceCredit p).portDiscard p)
    have h1 : PortsDown s s1 := hdiscard.trans hport
    have h3 : PortsDown s1 s3 := .of_kept (State.raise_k (m := 0x2010023c000008) (.mac p) 0 p 0 s2 rfl
      (State.countMac_k p 22 _ 1 rfl (State.upBport_k p _ s1 rfl (Kept.refl _ s1)))) rfl
    have h4 : PortsDown s1 (if s3.isSource p then s3.sourceLost else s3) :=
      h3.trans (.ite (.of_kept (State.sourceLost_k (m := 0x2010013c000008) s3 rfl (Kept.refl _ s3)) rfl))
    exact ⟨h1.trans h4, (h4 p).2 hdown⟩

theorem State.lanesFollow_portsDown (s : State) : PortsDown s s.lanesFollow := by
  refine PortsDown.trans (.each (fun n u => ?_) _ s) (.each (fun p u => ?_) _ _)
  · exact .of_kept (State.laneFollow_k (m := 0x10400000000) n u rfl (Kept.refl _ u)) rfl
  · rw [State.portFollow]
    split
    · exact .of_ports_eq rfl
    · exact (State.linkDown_portsDown p u).1

/-- The change to DEGRADED while the module runs brings no link up (R718). -/
theorem State.degrade_portsDown {s : State} (hm : s.mode = .operational) : PortsDown s (s.changeMode .degraded) := by
  have hfollowed : PortsDown s (s.modeFollowed .degraded) := by
    unfold State.modeFollowed
    extract_lets old s1 s2 s3 s4 s5
    have h1 : PortsDown s s1 := (PortsDown.of_ports_eq (t := s.modeSet .degraded) rfl).trans
      (.of_kept (State.modRecord_k (m := 0x2010003C000000) 5 Mode.degraded.code old.code (s.modeSet .degraded) rfl
        (Kept.refl _ _)) rfl)
    have h2 : PortsDown s1 s2 := State.lanesFollow_portsDown s1
    have h4 : PortsDown s3 s4 := .of_kept (State.enginesFollow_k (m := 0x100000000000) s3 rfl (Kept.refl _ s3)) rfl
    have hold : ¬ (old == .test) = true := by
      change ¬ (s.mode == .test) = true
      rw [hm]
      decide
    rw [if_neg hold]
    exact h1.trans (h2.trans h4)
  rw [State.changeMode_eq, hm]
  unfold State.modeStarted
  exact hfollowed.trans (.of_kept (State.sparRefresh_k (m := 0x2810003C000008) _ rfl (Kept.refl _ _)) rfl)

end Sys2Proof.Machine

namespace Sys2Proof.Machine
open Sys2Proof

/-! ### Margins and reports (R702, R704, R707, R718) -/

section
variable {s : State} {i : Nat}

theorem portUnit_kind (hi : i < 24) : unitKind (0x5000 + i) = 5 := by unfold unitKind; omega

theorem portUnit_index (hi : i < 24) : unitIndex (0x5000 + i) = i := by unfold unitIndex; omega

theorem portUnit_cluster (hi : i < 24) : unitCluster (0x5000 + i) = i / 6 := by
  simp only [unitCluster, portUnit_index hi, portUnit_kind hi]

/-- Where no report waits, a live unit that is neither a spare nor a segment is judged at its first report. -/
theorem State.report_first {r : Report} (hnone : s.noReports) (hlive : s.unitLive r.unit = true)
    (hspare : ¬ (unitKind r.unit = kEngine ∧ 32 ≤ unitIndex r.unit ∧ unitIndex r.unit < 36) ∧
      ¬ (unitKind r.unit = kSlice ∧ 40 ≤ unitIndex r.unit ∧ unitIndex r.unit < 44))
    (hseg : unitKind r.unit ≠ kDriver ∧ unitKind r.unit ≠ kPass) (hdeclined : r.cause = 2 ∨ s.health.declined = []) :
    s.report r = if r.cause = 2 then (s.judge r).outOfService r.unit else s.judge r := by
  obtain ⟨hdue, hunrec, hpends⟩ := hnone
  have hof : s.reportOf r.unit = none := by simp [State.reportOf, hdue, hunrec, hpends]
  have hidle : s.idleSegment r.unit = false := by simp [State.idleSegment, hseg.1, hseg.2]
  have hgo : ¬ (!s.unitLive r.unit || (decide (unitKind r.unit = kPass) && decide (r.cause = 2))) = true := by
    simp [hlive, hseg.2]
  have htold : ¬ (r.cause = 1 ∧ s.health.declined.contains r.unit = true ∧ s.spareFree r.unit = true) := by
    rintro ⟨h1, h2, -⟩
    rcases hdeclined with h | h
    · omega
    · simp [h] at h2
  rw [State.report]
  dsimp only
  rw [if_neg hspare.1, if_neg hspare.2]
  refine (if_neg (by simpa using hgo)).trans ?_
  rw [hidle, hof]
  exact if_neg htold

/-- A substitution that needs no approval is due. -/
theorem State.judge_due {r : Report} (hfree : s.spareFree r.unit = true) (hauto : s.autoPolicy r.unit r.cause = true) :
    s.judge r = { s with health := { s.health with due := s.health.due ++ [r] } } := by
  rw [State.judge, if_pos hfree, if_pos hauto]

/-- A faulty unit without a spare retires. -/
theorem State.judge_retire {r : Report} (hfree : s.spareFree r.unit = false) (hcause : r.cause = 2) :
    s.judge r = s.retire r.unit := by
  rw [State.judge, if_neg (by simp [hfree]), if_pos hcause]

theorem State.retire_live {u : Nat} (hkind : unitKind u ≠ kDriver ∧ unitKind u ≠ kPass)
    (hlive : (s.dropReports u).unitLive u = true) :
    s.retire u =
      let t := ((((s.dropReports u).markRetired u).raise .hlt 2 u 2).countHlt 1)
      let t := (match unitKind u with
        | 1 => t.releaseEngine (unitIndex u)
        | 2 => t.releaseLane (unitIndex u)
        | 5 => t.releasePort (unitIndex u)
        | _ => t).queueHealth
      if t.mode == .operational && t.laneLost then t.changeMode .degraded else t := by
  have hu : retiringUnit u = u := if_neg hkind.1
  rw [State.retire, hu]
  exact if_neg (by simp [hkind.2, hlive])

theorem State.releasePort_portsDown (p : Nat) (s : State) :
    PortsDown s (s.releasePort p) ∧ ((s.releasePort p).port p).link = false := by
  obtain ⟨n, hn⟩ : ∃ n, s.releasePort p = ((s.retireDiscard n).linkDown p).portDiscard p := ⟨_, rfl⟩
  rw [hn]
  have hcount : PortsDown s (s.retireDiscard n) := .of_kept (State.retireDiscard_k (m := 8) n s rfl (Kept.refl _ s)) rfl
  obtain ⟨hlink, hdown⟩ := State.linkDown_portsDown p (s.retireDiscard n)
  have hdiscard := State.portDiscard_portsDown p ((s.retireDiscard n).linkDown p)
  exact ⟨hcount.trans (hlink.trans hdiscard), (hdiscard p).2 hdown⟩

/-- A port that retires has its link down (R718). -/
theorem State.retire_port (hi : i < 24) (hlive : s.unitLive (0x5000 + i) = true) :
    ((s.retire (0x5000 + i)).port i).retired = true ∧ ((s.retire (0x5000 + i)).port i).link = false := by
  have hkind := portUnit_kind hi
  have hindex := portUnit_index hi
  rw [State.retire_live (by simp [hkind, kDriver, kPass]) hlive]
  simp only [hkind, hindex]
  have hmarked : (((s.dropReports (0x5000 + i)).markRetired (0x5000 + i)).port i).retired = true := by
    have hmark : (s.dropReports (0x5000 + i)).markRetired (0x5000 + i) =
        (s.dropReports (0x5000 + i)).upPort i fun p => { p with retired := true } := by
      unfold unitKind at hkind
      unfold unitIndex at hindex
      simp only [State.markRetired, hkind, hindex]
    rw [hmark, State.port_upPort, if_pos rfl]
  generalize (s.dropReports (0x5000 + i)).markRetired (0x5000 + i) = u at hmarked ⊢
  have hraised : PortsDown u ((u.raise .hlt 2 (0x5000 + i) 2).countHlt 1) := .of_kept (m := 0x2010003c000008)
    (State.countHlt_k 1 _ 1 rfl (State.raise_k .hlt 2 _ 2 u rfl (Kept.refl _ u))) rfl
  obtain ⟨hreleased, hdown⟩ := State.releasePort_portsDown i ((u.raise .hlt 2 (0x5000 + i) 2).countHlt 1)
  have hretired := ((hraised.trans hreleased) i).1.trans hmarked
  generalize ((u.raise .hlt 2 (0x5000 + i) 2).countHlt 1).releasePort i = v at hdown hretired ⊢
  have hqueued : PortsDown v v.queueHealth :=
    .of_kept (State.queueHealth_k (m := 0x2000000000000) v rfl (Kept.refl _ v)) rfl
  have hend : PortsDown v (if v.queueHealth.mode == .operational && v.queueHealth.laneLost then
      v.queueHealth.changeMode .degraded else v.queueHealth) := by
    refine hqueued.trans ?_
    split
    case isTrue h => exact State.degrade_portsDown (by simpa using (Bool.and_eq_true_iff.1 h).1)
    case isFalse => exact .of_ports_eq rfl
  exact ⟨(hend i).1.trans hretired, (hend i).2 hdown⟩

/-- A faulty port, which has no spare, retires (R707, R718). -/
theorem State.monitorReport_port (hi : i < 24) (hm : s.mode.monitors = true) (hnone : s.noReports)
    (hcl : s.hasCluster (i / 6) = true) (hlive : (s.port i).retired = false) :
    ((s.monitorReport ⟨0x5000 + i, 2⟩).port i).retired = true ∧
    ((s.monitorReport ⟨0x5000 + i, 2⟩).port i).link = false := by
  have hkind := portUnit_kind hi
  have hindex := portUnit_index hi
  have hunit : s.unitLive (0x5000 + i) = true := by
    simp [State.unitLive, portUnit_cluster hi, hkind, hindex, hcl, hi, hlive]
  have hfree : s.spareFree (0x5000 + i) = false := by simp only [State.spareFree, hkind]
  have hreport : s.monitorReport ⟨0x5000 + i, 2⟩ = s.retire (0x5000 + i) := by
    rw [State.monitorReport, if_pos hm, State.report_first hnone hunit (by simp [hkind, kEngine, kSlice])
      (by simp [hkind, kDriver, kPass]) (Or.inl rfl), if_pos rfl, State.judge_retire hfree rfl, State.outOfService]
    simp only [hkind]
  rw [hreport]
  exact State.retire_port hi hunit

/-- The halted engine of a fault (R504). -/
theorem State.haltFault_halted (g : Nat) (s : State) :
    ((s.haltFault g).eng g).state = .haltedFault ∧ (s.haltFault g).health = s.health := by
  refine ⟨?_, (State.haltFault_k (m := 0x2010103c000008) g s rfl (Kept.refl _ s)).same .health rfl⟩
  have hhalted :
      ((s.upEng g fun e => { e with state := .haltedFault, cpu := { e.cpu with wait := .none } }).eng g).state =
        .haltedFault := by rw [State.eng_upEng_self]
  rw [State.haltFault]
  generalize (s.upEng g fun e => { e with state := .haltedFault, cpu := { e.cpu with wait := .none } }) = u at hhalted ⊢
  rcases State.raise_noted (.eng g) 0 g (fld (s.cpu g).tcause 0 8) u g with h | h <;> rw [h] <;> exact hhalted

/-- An engine's report that needs no approval is due while its cluster's spare is free. -/
theorem State.report_engine {r : Report} (hi : i < 32) (hr : r.unit = 0x1000 + i) (hnone : s.noReports)
    (hlive : s.unitLive (0x1000 + i) = true) (hfree : s.engSpareFree (i / 8) = true) (hpolicy : s.rf 0x22000 0 2 = 0)
    (hdeclined : r.cause = 2 ∨ s.health.declined = []) :
    s.report r =
      if r.cause = 2 then { s with health := { s.health with due := [r] } }.outOfService (0x1000 + i)
      else { s with health := { s.health with due := [r] } } := by
  have hkind := engineUnit_kind hi
  have hindex := engineUnit_index hi
  have hauto : s.autoPolicy r.unit r.cause = true := by simp [State.autoPolicy, hr, hkind, hpolicy]
  have hdue : s.judge r = { s with health := { s.health with due := [r] } } := by
    rw [State.judge_due (by rw [hr, State.spareFree_engineUnit hi, hfree]) hauto, hnone.1]
    rfl
  rw [State.report_first hnone (hr ▸ hlive) (by rw [hr, hkind, hindex]; simp [kEngine, kSlice, Nat.not_le.2 hi])
    (by simp [hr, hkind, kDriver, kPass]) hdeclined, hdue, hr]

/-- A faulty engine halts, and its spare is due (R504, R707). -/
theorem State.monitorReport_engine (hi : i < 32) (hm : s.mode.monitors = true) (hnone : s.noReports)
    (hlive : s.unitLive (0x1000 + i) = true) (hfree : s.engSpareFree (i / 8) = true) (hpolicy : s.rf 0x22000 0 2 = 0)
    (heng : (s.eng i).live = true) :
    (s.monitorReport ⟨0x1000 + i, 2⟩).health.due = [⟨0x1000 + i, 2⟩] ∧
    ((s.monitorReport ⟨0x1000 + i, 2⟩).eng i).state = .haltedFault := by
  rw [State.monitorReport, if_pos hm, State.report_engine hi rfl hnone hlive hfree hpolicy (Or.inl rfl), if_pos rfl]
  have hstate : (({ s with health := { s.health with due := [⟨0x1000 + i, 2⟩] } } : State).eng i).live = true := heng
  have hdue : ({ s with health := { s.health with due := [⟨0x1000 + i, 2⟩] } } : State).health.due =
    [⟨0x1000 + i, 2⟩] := rfl
  generalize ({ s with health := { s.health with due := [⟨0x1000 + i, 2⟩] } } : State) = u at hstate hdue ⊢
  have hout : u.outOfService (0x1000 + i) = u.haltFault i := by
    simp only [State.outOfService, engineUnit_kind hi, engineUnit_index hi]
    revert hstate
    cases hs : (u.eng i).state <;> simp [Engine.live, hs]
  obtain ⟨hhalted, hhealth⟩ := State.haltFault_halted i u
  rw [hout]
  exact ⟨hhealth ▸ hdue, hhalted⟩

/-- Consecutive low readings of margin `i` after a reading of `m` (R702). -/
def State.lowAfter (s : State) (i m : Nat) : Nat :=
  if m < 10 then min 16 (s.health.low.get (fun _ => 0) i + 1) else 0

/-- A margin is read. -/
def State.noteMargin (i m : Nat) (s : State) : State :=
  let n := s.lowAfter i m
  let s := s.wr (0x22200 + 4 * i) (wd (min 255 m))
  { s with health := { s.health with low := s.health.low.set (fun _ => 0) i n } }

theorem State.noteMargin_effect (i m : Nat) (s : State) :
    (s.noteMargin i m).rd (0x22200 + 4 * i) = wd (min 255 m) ∧
    (s.noteMargin i m).health.low.get (fun _ => 0) i = s.lowAfter i m ∧
    (s.noteMargin i m).health = { s.health with low := (s.noteMargin i m).health.low } :=
  ⟨(State.rd_of_regs_eq (s := s.wr (0x22200 + 4 * i) (wd (min 255 m))) rfl rfl _).trans
    ((State.rd_wr ..).trans (if_pos rfl)), (Tbl.get_set _ _ _ _ _).trans (if_pos rfl), rfl⟩

theorem State.rd_noteMargin {o : Nat} (ho : o ≠ 0x22200 + 4 * i) (m : Nat) (s : State) :
    (s.noteMargin i m).rd o = s.rd o :=
  (State.rd_of_regs_eq (s := s.wr (0x22200 + 4 * i) (wd (min 255 m))) rfl rfl _).trans
    ((State.rd_wr ..).trans (if_neg ho))

theorem State.reports_none (s : State) : s.reports [] = s := by
  rw [State.reports, List.mergeSort_nil, State.each, List.foldl_nil]

theorem State.reports_one (r : Report) (s : State) : s.reports [r] = s.report r := by
  rw [State.reports, List.mergeSort_singleton, State.each, List.foldl_cons, List.foldl_nil]

/-- One margin is read: a unit wears at its 16th low reading (R702). -/
theorem State.marginEvaluation_one (hi : i < 80) (hm : s.mode.monitors = true) (m : Nat) :
    s.marginEvaluation [(i, m)] [] =
      if s.lowAfter i m = 16 then
        (s.noteMargin i m).report ⟨if i < 36 then mkUnit kEngine i else mkUnit kSlice (i - 36), 1⟩
      else s.noteMargin i m := by
  have hms : [(i, m)].filter (fun x : Nat × Nat => decide (x.1 < 80)) = [(i, m)] := by simp [hi]
  rw [State.marginEvaluation, if_neg (by simp [hm])]
  dsimp only
  rw [hms]
  change State.reports (((List.filter (fun (x : Nat × Nat) => (s.noteMargin i m).health.low.get (fun _ => 0) x.1 == 16)
    [(i, m)]).map fun x : Nat × Nat =>
      (⟨if x.1 < 36 then mkUnit kEngine x.1 else mkUnit kSlice (x.1 - 36), 1⟩ : Report))
      ++ []) (s.noteMargin i m) = _
  have hlow := (State.noteMargin_effect i m s).2.1
  split
  case isTrue h =>
    rw [List.filter_cons_of_pos (by simp [hlow, h])]
    exact State.reports_one _ _
  case isFalse h =>
    rw [List.filter_cons_of_neg (by simp [hlow, h])]
    exact State.reports_none _

/-- An engine wears at its 16th low reading, and its spare is due (R702, R704). -/
theorem State.marginEvaluation_worn {m : Nat} (hi : i < 32) (hm : s.mode.monitors = true) (hlow : s.lowAfter i m = 16)
    (hnone : s.noReports) (hlive : s.unitLive (0x1000 + i) = true) (hfree : s.engSpareFree (i / 8) = true)
    (hpolicy : s.rf 0x22000 0 2 = 0) (hdeclined : s.health.declined = []) :
    (s.marginEvaluation [(i, m)] []).health.due = [⟨0x1000 + i, 1⟩] := by
  have hname : (if i < 36 then mkUnit kEngine i else mkUnit kSlice (i - 36)) = 0x1000 + i := by
    rw [if_pos (by omega), mkUnit, kEngine]
  have hpolicy' : (s.noteMargin i m).rf 0x22000 0 2 = 0 := by
    rw [State.rf, State.rd_noteMargin (by omega)]
    exact hpolicy
  rw [State.marginEvaluation_one (by omega) hm, if_pos hlow, hname,
    State.report_engine (s := s.noteMargin i m) hi rfl hnone hlive hfree hpolicy' (Or.inr hdeclined), if_neg (by simp)]

end

/-! ### Slices and segments (R711, R713, R714) -/

section
variable {s : State} {n k : Nat} {r : Report}

theorem sliceUnit_kind (hn : n < 40) : unitKind (0x2000 + n) = 2 := by unfold unitKind; omega

theorem sliceUnit_index (hn : n < 40) : unitIndex (0x2000 + n) = n := by unfold unitIndex; omega

theorem sliceUnit_cluster (hn : n < 40) : unitCluster (0x2000 + n) = n / 10 := by
  simp only [unitCluster, sliceUnit_index hn, sliceUnit_kind hn, if_pos hn]

theorem sliceUnit_name (n : Nat) : mkUnit kSlice n = 0x2000 + n := by rw [mkUnit, kSlice]

theorem State.spareSlice_setSpareSlice (c : Nat) (x : SpareSlice) (s : State) :
    (s.setSpareSlice c x).spareSlice c = x :=
  (Tbl.get_set _ _ _ _ _).trans (if_pos rfl)

theorem State.reportsOnly_of_health {u : Nat} {s t : State} (h : s.reportsOnly u) (hdue : t.health.due = s.health.due)
    (hunrec : t.health.unrecorded = s.health.unrecorded) (hpends : t.health.pends = s.health.pends) :
    t.reportsOnly u := by
  rwa [State.reportsOnly, hdue, hunrec, hpends]

theorem State.spareSlice_congr {s t : State} (h : t.health.slices = s.health.slices) (c : Nat) :
    t.spareSlice c = s.spareSlice c := by
  rw [State.spareSlice, State.spareSlice, h]

/-- A substitution's record drops reports and starts a margin anew: spares and segments stay as they were. -/
theorem State.health_freshMargin_dropReports (u : Nat) (s : State) :
    ((s.dropReports u).freshMargin u).health.slices = s.health.slices ∧
    ((s.dropReports u).freshMargin u).health.segs = s.health.segs ∧
    ((s.dropReports u).freshMargin u).health.badSegs = s.health.badSegs := by
  rw [State.freshMargin]
  split <;> exact ⟨rfl, rfl, rfl⟩

/-- The old slice stops while the spare readies itself; the report stays due (R711, R713). -/
theorem State.sliceStart_made (hn : n < 40) (hr : r = ⟨0x2000 + n, 2⟩) (hdue : s.health.due = [r])
    (hunrec : s.health.unrecorded = []) (hpends : s.health.pends = []) (hreconf : s.reconf (n / 10) = false)
    (hmode : s.mode ≠ .sleep) (hfree : s.sliceSpareFree (n / 10) = true) :
    s.sliceStart n = (s.laneQuiet n).setSpareSlice (n / 10) ⟨.readying, some (n % 10)⟩ := by
  have hunit : r.unit = 0x2000 + n := by rw [hr]
  have hnow : s.dueNow (mkUnit kSlice n) = some r := by
    rw [sliceUnit_name, ← hunit]
    refine State.dueNow_of_sole hdue hmode ?_ ?_
    · rwa [hunit, sliceUnit_cluster hn]
    · simpa only [State.spareFree, hunit, sliceUnit_kind hn, sliceUnit_cluster hn] using hfree
  have hgo : ¬ (decide (r.cause = 1) && !s.atOnce && !s.idleOutside n) = true := by simp [hr]
  rw [State.sliceStart, hnow]
  refine (if_neg hgo).trans ?_
  have hslice := State.spareSlice_setSpareSlice (n / 10) ⟨.readying, some (n % 10)⟩ (s.laneQuiet n)
  refine State.rejudge_of_served hpends hunrec fun x hx => ?_
  obtain rfl : x = r := List.mem_singleton.1 (hdue ▸ hx)
  rw [State.readiesFor, hunit, sliceUnit_cluster hn, sliceUnit_index hn, sliceUnit_kind hn, hslice]
  simp [kSlice]

theorem State.lane_laneQuiet (n : Nat) (s : State) : ((s.laneQuiet n).lane n).ctl = .quiet := by
  have hquiet : ((s.upLane n fun l => { l with ctl := .quiet, current := none }).lane n).ctl = .quiet := by
    rw [State.lane_upLane, if_pos rfl]
  exact hquiet

/-- What a channel starts from when its spare serves it (R713). -/
def State.served (n : Nat) (parityOk : Bool) (s : State) : State :=
  s.upLane n fun l =>
    let l := if parityOk then l else { l with tec := 0, recv := 0, conf := .active, recovering := false, ew := false }
    { l with ctl := if !s.busOnLine n then .quiet else if l.conf == .busOff then .recovering else .integrating }

theorem State.lane_served (n : Nat) (parityOk : Bool) (s : State) :
    (parityOk = true → ((s.served n parityOk).lane n).tec = (s.lane n).tec ∧
      ((s.served n parityOk).lane n).recv = (s.lane n).recv) ∧
    (parityOk = false → ((s.served n parityOk).lane n).tec = 0 ∧ ((s.served n parityOk).lane n).recv = 0 ∧
      ((s.served n parityOk).lane n).conf = .active) := by
  rw [State.served, State.lane_upLane, if_pos rfl]
  cases parityOk <;> simp

/-- The spare serves the channel, with its old counters where their parity is good (R713). -/
theorem State.sliceDone_made (pass : Bool) (hr : r = ⟨0x2000 + n, 2⟩) (hdue : s.health.due = [r])
    (hunrec : s.health.unrecorded = []) (hpends : s.health.pends = [])
    (hslice : s.spareSlice (n / 10) = ⟨.readying, some (n % 10)⟩) :
    let t := s.sliceDone n pass
    t.spareSlice (n / 10) = ⟨.serving, some (n % 10)⟩ ∧ t.health.due = [] ∧
    (pass = true → (t.lane n).tec = (s.lane n).tec ∧ (t.lane n).recv = (s.lane n).recv) ∧
    (pass = false → (t.lane n).tec = 0 ∧ (t.lane n).recv = 0 ∧ (t.lane n).conf = .active) ∧
    t.rb Blk.hlt.evtOff 1 = true := by
  have hunit : r.unit = 0x2000 + n := by rw [hr]
  have hgo :
      ¬ ((s.spareSlice (n / 10)).state != .readying || (s.spareSlice (n / 10)).lane != some (n % 10)) = true := by
    simp [hslice]
  have hof : (s.reportOf (mkUnit kSlice n)).getD ⟨mkUnit kSlice n, 2⟩ = r := by
    simp [State.reportOf, hdue, hunrec, hpends, sliceUnit_name, hunit]
  have hdone : s.sliceDone n pass =
      (((s.setSpareSlice (n / 10) ⟨.serving, some (n % 10)⟩).dropReports r.unit).served n pass).substituted r
        (r.cause + (if pass then 0 else 256)) := by
    rw [State.sliceDone]
    refine (if_neg hgo).trans ?_
    rw [hof]
    rfl
  have hnone : ((s.setSpareSlice (n / 10) ⟨.serving, some (n % 10)⟩).dropReports r.unit).noReports :=
    State.noReports_dropReports (State.reportsOnly_of_health (State.reportsOnly_of_sole hdue hunrec hpends) rfl rfl rfl)
  have hserving : ((s.setSpareSlice (n / 10) ⟨.serving, some (n % 10)⟩).dropReports r.unit).spareSlice (n / 10) =
      ⟨.serving, some (n % 10)⟩ :=
    (State.spareSlice_congr rfl _).trans (State.spareSlice_setSpareSlice (n / 10) ⟨.serving, some (n % 10)⟩ s)
  have hlane : ((s.setSpareSlice (n / 10) ⟨.serving, some (n % 10)⟩).dropReports r.unit).lane n = s.lane n := rfl
  rw [hdone]
  generalize (s.setSpareSlice (n / 10) ⟨.serving, some (n % 10)⟩).dropReports r.unit = u at hnone hserving hlane ⊢
  have hnone' : (u.served n pass).noReports := State.noReports_of_health_eq rfl hnone
  obtain ⟨hhealth, hend, -, hevt, -, -, hbus⟩ := State.substituted_effect (s := u.served n pass) (r := r)
    (r.cause + (if pass then 0 else 256)) (State.reportsOnly_of_noReports hnone' _)
  have hlanes := State.lane_served n pass u
  rw [hlane] at hlanes
  generalize (u.served n pass).substituted r (r.cause + (if pass then 0 else 256)) = t at hhealth hend hevt hbus ⊢
  have ht : t.lane n = (u.served n pass).lane n := State.lane_of_bus_eq hbus n
  rw [← ht] at hlanes
  refine ⟨?_, hend, hlanes.1, hlanes.2, hevt⟩
  have hslices : t.health.slices = u.health.slices := by
    rw [hhealth, (State.health_freshMargin_dropReports r.unit (u.served n pass)).1]
    rfl
  rw [State.spareSlice_congr hslices, hserving]

theorem segmentUnit_kind (hn : n < 40) (hk : k < 8) : unitKind (0x3000 + 16 * n + k) = 3 := by unfold unitKind; omega

theorem segmentUnit_index (hn : n < 40) (hk : k < 8) : unitIndex (0x3000 + 16 * n + k) = 16 * n + k := by
  unfold unitIndex; omega

/-- The masks of a driver's segments after segment `k` has left service for spare 8 (R714). -/
theorem segmentMasks_swapped (hk : k < 8) :
    setBit (setBit 0xFF 8 true) k false = 0x1FF - 2 ^ k ∧ setBit 0 k true = 2 ^ k := by
  interval_cases k <;> decide

theorem State.segMask_setMasks (u : Nat) (use bad : Nat → Nat) (s : State) :
    (s.setMasks u use bad).segMask u = use (s.segMask u) ∧ (s.setMasks u use bad).segBad u = bad (s.segBad u) :=
  ⟨(Tbl.get_set _ _ _ _ _).trans (if_pos rfl), (Tbl.get_set _ _ _ _ _).trans (if_pos rfl)⟩

/-- A failed segment of a driver leaves service for the first spare (R714). -/
theorem State.swapSegment_driver (hn : n < 40) (hk : k < 8) (hspare : (s.lane n).segSpare = 2)
    (hmask : s.segMask (0x3000 + 16 * n + k) = 0xFF) (hbad : s.segBad (0x3000 + 16 * n + k) = 0) :
    let t := s.swapSegment (0x3000 + 16 * n + k)
    t.segMask (0x3000 + 16 * n + k) = 0x1FF - 2 ^ k ∧ t.segBad (0x3000 + 16 * n + k) = 2 ^ k ∧
    (t.lane n).segSpare = 1 ∧ t.health.due = s.health.due ∧ t.health.unrecorded = s.health.unrecorded ∧
    t.health.pends = s.health.pends := by
  have hkind := segmentUnit_kind hn hk
  have hindex := segmentUnit_index hn hk
  have hseg : (16 * n + k) % 16 = k := by omega
  have hlane : (16 * n + k) / 16 = n := by omega
  have hfree : ([8, 9].find? fun j => !nbit (s.segMask (0x3000 + 16 * n + k)) j &&
      !nbit (s.segBad (0x3000 + 16 * n + k)) j) = some 8 := by
    rw [hmask, hbad]
    decide
  have hswap : s.swapSegment (0x3000 + 16 * n + k) =
      (s.upLane n fun x => { x with segActive := x.segActive, segSpare := x.segSpare - 1 }).setMasks
        (0x3000 + 16 * n + k) (fun m => setBit (setBit m 8 true) k false) fun b => setBit b k true := by
    rw [State.swapSegment, hfree, State.setSegs, hindex, hseg, hlane, if_neg (by rw [hkind]; decide)]
  obtain ⟨hgone, hfailed⟩ := segmentMasks_swapped hk
  rw [hswap]
  obtain ⟨huse, hbads⟩ := State.segMask_setMasks (0x3000 + 16 * n + k) (fun m => setBit (setBit m 8 true) k false)
    (fun b => setBit b k true) (s.upLane n fun x => { x with segActive := x.segActive, segSpare := x.segSpare - 1 })
  refine ⟨huse.trans ?_, hbads.trans ?_, ?_, rfl, rfl, rfl⟩
  · exact (congrArg (fun m => setBit (setBit m 8 true) k false) hmask).trans hgone
  · exact (congrArg (fun b => setBit b k true) hbad).trans hfailed
  · have hspares :
        ((s.upLane n fun x => { x with segActive := x.segActive, segSpare := x.segSpare - 1 }).lane n).segSpare = 1 := by
      rw [State.lane_upLane, if_pos rfl, hspare]
    exact hspares

/-- A failed segment of a driver is switched out for a spare (R714). -/
theorem State.segmentSubstitution_made (hn : n < 40) (hk : k < 8) (hr : r = ⟨0x3000 + 16 * n + k, 2⟩)
    (hdue : s.health.due = [r]) (hunrec : s.health.unrecorded = []) (hpends : s.health.pends = [])
    (hreconf : s.reconf (n / 10) = false) (hmode : s.mode ≠ .sleep) (hspare : (s.lane n).segSpare = 2)
    (hmask : s.segMask (0x3000 + 16 * n + k) = 0xFF) (hbad : s.segBad (0x3000 + 16 * n + k) = 0) :
    let t := s.segmentSubstitution (0x3000 + 16 * n + k)
    t.segMask (0x3000 + 16 * n + k) = 0x1FF - 2 ^ k ∧ t.segBad (0x3000 + 16 * n + k) = 2 ^ k ∧
    (t.lane n).segSpare = 1 ∧ t.health.due = [] ∧ t.rb Blk.hlt.evtOff 1 = true := by
  have hunit : r.unit = 0x3000 + 16 * n + k := by rw [hr]
  have hkind := segmentUnit_kind hn hk
  have hindex := segmentUnit_index hn hk
  have hlane : (16 * n + k) / 16 = n := by omega
  have hnow : s.dueNow (0x3000 + 16 * n + k) = some r := by
    rw [← hunit]
    refine State.dueNow_of_sole hdue hmode ?_ ?_
    · rwa [hunit, unitCluster, hkind, hindex, hlane]
    · simp [State.spareFree, State.segSpares, hunit, hkind, hindex, hlane, kPass, hspare]
  have hswap : s.segmentSubstitution (0x3000 + 16 * n + k) =
      (s.swapSegment (0x3000 + 16 * n + k)).substituted r r.cause := by
    rw [State.segmentSubstitution, hnow]
    refine (if_neg (by rw [hkind]; decide)).trans (if_neg ?_)
    rintro ⟨-, h, -⟩
    simp [hr] at h
  obtain ⟨huse, hfailed, hspares, hdue', hunrec', hpends'⟩ := State.swapSegment_driver hn hk hspare hmask hbad
  rw [hswap]
  have honly := State.reportsOnly_of_health (State.reportsOnly_of_sole hdue hunrec hpends) hdue' hunrec' hpends'
  generalize s.swapSegment (0x3000 + 16 * n + k) = u at huse hfailed hspares honly ⊢
  obtain ⟨hhealth, hend, -, hevt, -, -, hbus⟩ := State.substituted_effect r.cause honly
  obtain ⟨-, hsegs, hbads⟩ := State.health_freshMargin_dropReports r.unit u
  rw [← hhealth] at hsegs hbads
  generalize u.substituted r r.cause = t at hsegs hbads hend hevt hbus ⊢
  refine ⟨?_, ?_, ?_, hend, hevt⟩
  · rw [State.segMask, hsegs]
    exact huse
  · rw [State.segBad, hbads]
    exact hfailed
  · rw [State.lane_of_bus_eq hbus n]
    exact hspares

end

/-! ### The retest of a retired unit (R720) -/

section
variable {s : State} {i : Nat}

theorem exec_hltRetest (yw : Bool) (w : Word) (ho : s.open_ 0x22008 = true) :
    exec (.hltRetest yw w) s = .next (s.retestWrite w) :=
  congrArg Host.Outcome.next (State.writeWord_of_open (r := .hltRetest) _ w rfl ho)

/-- HLT_RETEST in SERVICE names a retired unit; elsewhere it is shut by the mode (R720, R60). -/
theorem State.retestWrite_retired {w : Word} (hm : s.mode = .service) (hu : s.unitRetired (fld w 0 16) = true) :
    s.retestWrite w =
      { s with health := { s.health with retest := some (fld w 0 16) } }.setf 0x22008 0 16 (fld w 0 16) := by
  rw [State.retestWrite, State.gate, if_pos (by rw [hm]; decide), if_pos hu]

theorem State.retestWrite_shut {w : Word} (hm : s.mode ≠ .service) : s.retestWrite w = s.mgReject 0x22008 := by
  rw [State.retestWrite, State.gate, if_neg (by simpa using hm)]

theorem State.retestDone_of_none (h : s.health.retest = none) (pass : Bool) : s.retestDone pass = s := by
  rw [State.retestDone, h]

/-- The register of a retest that has ended. -/
def State.retested (pass : Bool) (s : State) : State :=
  { s with health := { s.health with retest := none } }.setf 0x22008 30 1 (b2n pass)

/-- A port whose self-test passes is of use again (R720). -/
def State.portTested (pass : Bool) (i : Nat) (s : State) : State :=
  if pass then ((s.retested pass).upPort i fun p => { p with retired := false }).queueHealth else s.retested pass

theorem State.retestDone_port (hi : i < 24) (h : s.health.retest = some (0x5000 + i)) (pass : Bool) :
    s.retestDone pass = (s.portTested pass i).raise .hlt 7 (0x5000 + i) (b2n pass) := by
  have hkind := portUnit_kind hi
  have hindex := portUnit_index hi
  have hself : retiringUnit (0x5000 + i) = 0x5000 + i := if_neg (by rw [hkind]; decide)
  have hfresh : s.freshMargin (0x5000 + i) = s := if_pos (by rw [hkind]; decide)
  rw [State.retestDone, h]
  dsimp only
  rw [hself, hfresh, hkind, hindex, ite_self]
  rfl

theorem State.rb_retested (pass : Bool) (s : State) : (s.retested pass).rb 0x22008 30 = pass := by
  have hrd : (s.retested pass).rd 0x22008 = setFld (s.rd 0x22008) 30 1 (b2n pass) := (State.rd_wr ..).trans (if_pos rfl)
  rw [State.rb, hrd, bit_setFld _ _ _ _ (by decide), if_pos (by decide)]
  cases pass <;> rfl

theorem State.rd_retested {o : Nat} (ho : o ≠ 0x22008) (pass : Bool) (s : State) : (s.retested pass).rd o = s.rd o :=
  (State.rd_wr ..).trans (if_neg ho)

theorem State.portTested_effect (pass : Bool) (i : Nat) (s : State) :
    (s.portTested pass i).health.retest = none ∧ (∀ o, (s.portTested pass i).rd o = (s.retested pass).rd o) ∧
    ((s.portTested pass i).port i).retired = (!pass && (s.port i).retired) := by
  have hport : (s.retested pass).port i = s.port i := rfl
  cases pass with
  | false => exact ⟨rfl, fun _ => rfl, congrArg Port.retired hport⟩
  | true =>
    rw [State.portTested, if_pos rfl]
    generalize hu : (s.retested true).upPort i (fun p => { p with retired := false }) = u
    have hkept := State.queueHealth_k (m := 0x2000000000000) u rfl (Kept.refl _ u)
    refine ⟨?_, fun o => ?_, ?_⟩
    · rw [hkept.same .health rfl, ← hu]
      rfl
    · rw [State.rd_of_kept hkept rfl, ← hu]
      rfl
    · rw [State.port_of_ports_eq (hkept.same .ports rfl), ← hu, State.port_upPort, if_pos rfl]
      rfl

/-- The end of a port's self-test (R720). -/
theorem State.retestDone_effect (hi : i < 24) (h : s.health.retest = some (0x5000 + i)) (pass : Bool) :
    (s.retestDone pass).health.retest = none ∧ (s.retestDone pass).rb 0x22008 30 = pass ∧
    ((s.retestDone pass).port i).retired = (!pass && (s.port i).retired) ∧ Raised .hlt 7 s (s.retestDone pass) := by
  obtain ⟨hretest, hrd, hport⟩ := State.portTested_effect pass i s
  rw [State.retestDone_port hi h]
  generalize s.portTested pass i = u at hretest hrd hport ⊢
  have hkept := State.raise_k (m := 0x2010003c000008) .hlt 7 (0x5000 + i) (b2n pass) u rfl (Kept.refl _ u)
  refine ⟨?_, ?_, ?_, raised_raise .hlt 7 _ _ ((hrd _).trans (State.rd_retested (by decide) pass s))⟩
  · rw [hkept.same .health rfl, hretest]
  · rw [State.rb, State.rd_raise, if_neg (by decide), hrd]
    exact State.rb_retested pass s
  · rw [State.port_of_ports_eq (hkept.same .ports rfl), hport]

/-! ### User calibration values (R723 to R725) -/

/-- The user word of a calibration item. -/
theorem Reg.ofOff_calUser (hi : i < 2048) : Reg.ofOff (0x30004 + 0x10 * i) = some (.cal i 1) := by
  have hmod : (0x30004 + 0x10 * i - 0x30000) % 0x10 = 4 := by omega
  have hdiv : (0x30004 + 0x10 * i - 0x30000) / 0x10 = i := by omega
  have hin : 0x30004 + 0x10 * i - 0x30000 < 0x10 * 2048 := by omega
  have hgrid : grid (0x30004 + 0x10 * i) 0x30000 0x10 4 2048 .cal = some (.cal i 1) := by
    simp [grid, hmod, hdiv, hin]; omega
  rw [Reg.ofOff, if_neg (by omega), if_neg (by omega), if_pos (by omega)]
  unfold Reg.ofMid
  rw [if_neg (by omega), if_neg (by omega), if_neg (by omega), if_neg (by omega), if_neg (by omega), if_neg (by omega),
    if_neg (by omega), if_neg (by omega), if_neg (by omega), hgrid]

theorem State.mode_of_calCell (h : s.calCell = true) : s.mode = .service := by
  rw [State.calCell, Bool.and_eq_true] at h
  simpa using h.1

theorem exec_calUserWrite (yw : Bool) (w : Word) (hi : i < 2048) (hm : s.mode = .service ∨ s.mode = .operational) :
    exec (.calUserWrite yw i w) s = .next (s.calWrite i w) := by
  have hfull : s.window (.cal i 1) = .full := by rcases hm with h | h <;> simp [State.window, Reg.cluster, h]
  exact congrArg Host.Outcome.next
    (State.writeWord_of_open (r := .cal i 1) _ w (Reg.ofOff_calUser hi)
      (State.open_of_window (Reg.ofOff_calUser hi) hfull))

theorem State.calWrite_eq {tr : Bool} {range : Nat} (hitem : calItem s.fuse i = some (tr, range)) (w : Word) :
    s.calWrite i w =
      if !s.calCell then s.mgReject (0x30004 + 16 * i)
      else if w.toInt.natAbs ≤ range then s.wr (0x30004 + 16 * i) w
      else s.encReject (0x30004 + 16 * i) := by
  have hoff : 0x30000 + 16 * i + 4 = 0x30004 + 16 * i := by omega
  rw [State.calWrite, hoff, hitem]

end

end Sys2Proof.Machine

section
open Sys2Proof Sys2Proof.Machine

/-- Settles O60: margins and reports, substitutions of slices and segments, retests and user calibration values. -/
theorem healthAndSpares : Obligations.HealthAndSpares := by
  unfold Obligations.HealthAndSpares
  intro s yw pass i m n k r w h bare
  refine ⟨?margin, ?shut, ?port, ?engine, ?start, ?done, ?idle, ?segment, ?retest, ?noRetest, ?tested, ?untested,
    ?user, ?reject⟩
  case margin =>
    intro hi hm low
    have hone := State.marginEvaluation_one hi hm m
    refine ⟨fun hlow => ?_, fun hlow hi' hbare hlive hfree hpolicy hdeclined => ?_⟩
    · have hread : s.marginEvaluation [(i, m)] [] = s.noteMargin i m := hone.trans (if_neg (Nat.ne_of_lt hlow))
      exact ⟨_, congrArg Host.Outcome.next hread, State.noteMargin_effect i m s⟩
    · exact ⟨_, rfl, State.marginEvaluation_worn hi' hm hlow hbare hlive hfree hpolicy hdeclined⟩
  case shut =>
    intro hm
    exact ⟨congrArg Host.Outcome.next (if_pos (by simp [hm])), congrArg Host.Outcome.next (if_neg (by simp [hm]))⟩
  case port =>
    rintro hi hm hbare rfl hcl hlive
    exact ⟨_, rfl, State.monitorReport_port hi hm hbare hcl hlive⟩
  case engine =>
    rintro hi hm hbare rfl hlive hfree hpolicy heng
    exact ⟨_, rfl, State.monitorReport_engine hi hm hbare hlive hfree hpolicy heng⟩
  case start =>
    intro hn hdue hunrec hpends hr hreconf hmode hfree
    refine ⟨_, congrArg Host.Outcome.next (State.sliceStart_made hn hr hdue hunrec hpends hreconf hmode hfree), ?_⟩
    exact ⟨State.spareSlice_setSpareSlice _ _ _, State.lane_laneQuiet n s, hdue⟩
  case done =>
    intro _ hdue hunrec hpends hr hslice
    exact ⟨_, rfl, State.sliceDone_made pass hr hdue hunrec hpends hslice⟩
  case idle =>
    intro hdue
    have hslice : s.sliceStart n = s := by rw [State.sliceStart, State.dueNow_of_none hdue]
    have hsegment : s.segmentSubstitution (0x3000 + 16 * n + k) = s := by
      rw [State.segmentSubstitution, State.dueNow_of_none hdue]
    exact ⟨congrArg Host.Outcome.next hslice, congrArg Host.Outcome.next hsegment⟩
  case segment =>
    rintro hn hk hdue hunrec hpends rfl hreconf hmode hspare hmask hbad
    exact ⟨_, rfl, State.segmentSubstitution_made hn hk rfl hdue hunrec hpends hreconf hmode hspare hmask hbad⟩
  case retest =>
    intro ho hm hu
    rw [exec_hltRetest yw w ho, State.retestWrite_retired hm hu]
  case noRetest =>
    intro ho hm
    rw [exec_hltRetest yw w ho, State.retestWrite_shut hm]
  case tested =>
    intro hretest hi
    exact ⟨_, rfl, State.retestDone_effect hi hretest pass⟩
  case untested =>
    intro hretest
    exact congrArg Host.Outcome.next (State.retestDone_of_none hretest pass)
  case user =>
    intro tr range hi hitem hcell
    rw [exec_calUserWrite yw w hi (Or.inl (State.mode_of_calCell hcell)), State.calWrite_eq hitem,
      if_neg (by simp [hcell])]
    exact ⟨fun hw => congrArg Host.Outcome.next (if_pos hw),
      fun hw => congrArg Host.Outcome.next (if_neg (Nat.not_le.2 hw))⟩
  case reject =>
    intro tr range hi hitem hm
    have hcell : s.calCell = false := by rw [State.calCell, hm]; rfl
    rw [exec_calUserWrite yw w hi (Or.inr hm), State.calWrite_eq hitem, if_pos (by simp [hcell])]

end
